-- ==== Sys2Proof/Word.lean ====
section
/-! DEFINITION. The word types of the DX512 register bus and memories, and their plainest arithmetic. -/

namespace Sys2Proof

/-- A register-bus word: every register is 32 bits wide (R475). -/
abbrev Word := BitVec 32

/-- A byte of memory. -/
abbrev Byte := BitVec 8

/-- Bits `hi` down to `lo` of a number. -/
def bitsOf (v hi lo : Nat) : Nat := (v >>> lo) % 2 ^ (hi - lo + 1)

/-- One bit of a number, as a Bool. -/
def bitOf (v i : Nat) : Bool := Nat.testBit v i

/-- A Bool as the number of a one-bit field. -/
def ofBit (b : Bool) : Nat := if b then 1 else 0

/-- The two's-complement value of the low `w` bits of a number. -/
def signed (w v : Nat) : Int :=
  let m := v % 2 ^ w
  if m < 2 ^ (w - 1) then (m : Int) else (m : Int) - (2 ^ w : Nat)

/-- The `w`-bit two's-complement encoding of an integer. -/
def unsigned (w : Nat) (v : Int) : Nat := (v % ((2 ^ w : Nat) : Int)).toNat

/-- The magnitude of an integer. -/
def absI (v : Int) : Int := if v < 0 then -v else v

/-- An integer limited to the closed range `lo` to `hi`. -/
def clampInt (lo hi v : Int) : Int := if v < lo then lo else if hi < v then hi else v

/-- The quotient of integers rounded to the nearest integer, ties to even; the divisor is positive. -/
def divRoundEven (n : Int) (d : Nat) : Int :=
  let q := n / (d : Int)
  let r := n % (d : Int)
  if 2 * r < d then q
  else if 2 * r = d then (if q % 2 = 0 then q else q + 1)
  else q + 1

/-- The least integer at or above `n / d`; the divisor is positive. -/
def divCeil (n : Int) (d : Nat) : Int := -((-n) / (d : Int))

/-- The octets of a number, most significant first. -/
def octetsBE : Nat → Nat → List Nat
  | 0, _ => []
  | k + 1, v => (v / 256 ^ k) % 256 :: octetsBE k v

/-- The number that octets spell, most significant first. -/
def ofOctetsBE (l : List Nat) : Nat := l.foldl (fun a b => a * 256 + b % 256) 0

/-- The octets of a number, least significant first. -/
def octetsLE (k v : Nat) : List Nat := (octetsBE k v).reverse

/-- The number that octets spell, least significant first. -/
def ofOctetsLE (l : List Nat) : Nat := ofOctetsBE l.reverse

end Sys2Proof
end

