-- ==== Sys2Proof/Machine/Frame.lean ====
section
/-! DEFINITION. What travels on the network and between the twins, as data: time-stamps, frames and their payloads.
The fields are those that the rules of the spec read; a payload that no engine of the DX512 interprets is its octets. -/

namespace Sys2Proof.Machine

/-- A time-stamp (R44, R65): device time in units of 2^-16 ns, the count of TBC edges in units of 2^-16 edges, and the
EPOCH and TQ current at the capture. -/
structure Stamp where
  t : Nat
  tbc : Nat
  epoch : Nat
  tq : Nat
  deriving DecidableEq, Repr

/-- A PTP message (R55): its type, domain, flags, correctionField, source port identity, sequence, the timestamp it
carries (seconds and nanoseconds), the requesting port identity of a response, and the octets after these: the body of an Announce, Signaling or Management
message, and the TLVs of any, which are forwarded unchanged (R57). -/
structure PtpMsg where
  msgType : Nat
  domain : Nat
  twoStep : Bool
  corr : Int
  srcId : Nat
  seq : Nat
  tsSec : Nat
  tsNs : Nat
  reqId : Nat
  rest : List Nat
  deriving DecidableEq, Repr

/-- The authentication extension of IEC 62351-6 as the rules read it (R126, R127): the key identifier, the initialisation vector of a GMAC, and
the tag. -/
structure AuthExt where
  keyId : Nat
  iv : List Nat
  tag : List Nat
  deriving DecidableEq, Repr

/-- One ASDU of a sampled-value frame (R118). -/
structure SvAsdu where
  svId : List Nat
  smpCnt : Nat
  confRev : Nat
  smpSynch : Nat
  smpRate : Option Nat
  smpMod : Option Nat
  seqData : List Nat
  deriving DecidableEq, Repr

/-- A sampled-value frame's content (R118); `parses` says that the ASN.1 encoding can be parsed (R119). -/
structure SvPdu where
  appId : Nat
  sim : Bool
  noAsdu : Nat
  asdus : List SvAsdu
  parses : Bool
  ext : Option AuthExt
  deriving DecidableEq, Repr

/-- One dataset entry of a GOOSE message, by its type in the encoding: bit i of a bit-string's number is bit i of the string, bit 0
the first; a FLOAT32 is its binary32 pattern; what R222 extracts nothing from is its octets. -/
inductive GEntry where
  | bool (b : Bool)
  | bits (len : Nat) (v : Nat)
  | int (v : Int)
  | uint (v : Nat)
  | float (v : Nat)
  | other (v : List Nat)
  deriving DecidableEq, Repr

/-- A GOOSE message's content (chapter 7); `parses` says that the ASN.1 encoding can be parsed. -/
structure GoosePdu where
  appId : Nat
  simHdr : Bool
  gocbRef : List Nat
  tal : Nat
  datSet : List Nat
  goId : List Nat
  tSec : Nat
  tFrac : Nat
  tQual : Nat
  stNum : Nat
  sqNum : Nat
  simPdu : Bool
  test : Bool
  confRev : Nat
  ndsCom : Bool
  numEntries : Nat
  entries : List GEntry
  parses : Bool
  ext : Option AuthExt
  deriving DecidableEq, Repr

/-- What a copy of a Rally frame brings beside its payload: the lane it came by, the sender's SIDE (true for side B) and SEQ (R290). -/
structure RallyHdr where
  lane : Nat
  side : Bool
  seq : Nat
  deriving DecidableEq, Repr

/-- A recovery request or reply of R523: its operation, token, arguments and data. -/
structure RecMsg where
  op : Nat
  token : Nat
  arg0 : Nat
  arg1 : Nat
  data : List Nat
  deriving DecidableEq, Repr

/-- What a frame carries. -/
inductive Payload where
  | sv (p : SvPdu)
  | goose (p : GoosePdu)
  | ptp (m : PtpMsg)
  | recovery (m : RecMsg)
  | raw (octets : List Nat)
  deriving DecidableEq, Repr

/-- An 802.1Q tag. -/
structure VTag where
  pcp : Nat
  dei : Bool
  vid : Nat
  deriving DecidableEq, Repr

/-- A write of a core's CUR register: the core that writes, and the core whose register it is. -/
structure CurSel where
  writer : Nat
  core : Nat
  deriving DecidableEq, Repr

/-- An HSR tag: path, LSDU size and sequence number. -/
structure HsrTag where
  path : Nat
  size : Nat
  seq : Nat
  deriving DecidableEq, Repr

/-- A PRP trailer: sequence number, LAN identity and LSDU size. -/
structure PrpTrailer where
  seq : Nat
  lan : Nat
  size : Nat
  deriving DecidableEq, Repr

/-- An Ethernet frame: addresses, 802.1Q tag, HSR tag, EtherType (or length), payload, PRP trailer, and its length in
octets from the destination address to the FCS. The six octets of a PRP trailer stand after the payload; a frame may carry one that no port has
recognised under one that a pair has appended, the outermost last. -/
structure Frame where
  dst : Nat
  src : Nat
  tag : Option VTag
  hsr : Option HsrTag
  etype : Nat
  payload : Payload
  prp : List PrpTrailer
  len : Nat
  deriving DecidableEq, Repr

/-- A JTAG instruction or scan operation (R441, R218): the boundary-scan instructions with the levels they shift in by ball, the design-for-test scan, the debug of
an application core (registers x0 to x31 as 0 to 31, f0 to f31 as 32 to 63, the PC as 64, CSR c as 0x1000 + c) and the memory it sees, fabric access, and
the debug of a lane pair (registers likewise, fcsr as 65; its hardware triggers, each on a data address where the first is true). -/
inductive JtagOp where
  | idcode
  | bypass
  | preload (levels : List (Nat × Bool))
  | extest (levels : List (Nat × Bool))
  | intest (levels : List (Nat × Bool))
  | testScan
  | coreHalt (k : Nat)
  | coreResume (k : Nat)
  | coreRead (k r : Nat)
  | coreWrite (k r v : Nat)
  | coreLoad (k addr n : Nat)
  | coreStore (k addr : Nat) (data : List Nat)
  | fabRead (addr n : Nat)
  | fabWrite (addr : Nat) (data : List Nat)
  | laneRead (addr n : Nat)
  | laneWrite (addr : Nat) (data : List Nat)
  | laneTriggers (pair : Nat) (trigs : List (Bool × Nat))
  | laneReg (pair r : Nat)
  | laneView (pair off : Nat)
  | laneStaging (pair : Nat)
  deriving DecidableEq, Repr

end Sys2Proof.Machine
end

