-- ==== Sys2Proof/Syntax.lean ====
section
/-! DEFINITION. The commands of the DX512: one constructor for each row of the command table, with the row's operands.
The block has no program: whatever reaches it or falls due in it is a command. -/

namespace Sys2Proof

open Sys2Proof.Machine

/-- A command of the DX512. -/
inductive Instr where
  /-- UTCOFS_APPLY (R43). A pending write of TIME_UTCOFS takes effect at the next increment of SEC by the running count. -/
  | utcofsApply
  /-- TIME_CTRL_WRITE (R49). A write of TIME_CTRL that changes the effective discipline source moves the discipline to FREERUN and sets FADJ; other writes leave the discipline state alone. -/
  | timeCtrlWrite (v : Nat)
  /-- SYNC_RX (R51). A usable PTP Sync (with its Follow_Up when two-step) is handed to the servo, which computes the offset and applies the discipline state transitions. -/
  | syncRx (port : Nat) (m : PtpMsg) (rx : Stamp) (fu : Option (PtpMsg × Stamp))
  /-- PPS_EDGE (R50). A rising edge on TIN_0 with SRC 0b10 is taken as a pulse per second and fed to the servo. -/
  | ppsEdge (st : Stamp)
  /-- SYNC_LOSS_TIMER (R51). The loss timer of SYNC_LOSS sync intervals expires and the discipline moves to FREERUN or HOLDOVER. -/
  | syncLossTimer
  /-- HOLD_LIMIT_REACHED (R51). Time in HOLDOVER reaches HOLD_LIMIT; TQ becomes 0b10 and HOLD_EXCEEDED is set. -/
  | holdLimitReached
  /-- STEP_NOTICE (R54). At the first SYS edge after a step, the step notice with amount and new EPOCH reaches every consumer, which shifts its pending instants. -/
  | stepNotice
  /-- PDELAY_REQ_RX (R60). A received Pdelay_Req is answered in hardware with a one-step or two-step Pdelay_Resp. -/
  | pdelayReqRx (port : Nat) (m : PtpMsg) (rx : Stamp)
  /-- PDELAY_REQ_TX (R61). Every 2^LOG_PDELAY s the port sends a Pdelay_Req; after three without a valid measurement the peer delay becomes invalid. -/
  | pdelayReqTx (port : Nat)
  /-- PDELAY_RESP_RX (R61). A Pdelay_Resp (and Follow_Up) completes a peer-delay measurement, which is validated and averaged into meanLinkDelay. -/
  | pdelayRespRx (port : Nat) (m : PtpMsg) (rx : Stamp) (fu : Option PtpMsg)
  /-- SYNC_EGRESS_CORRECT (R64). The egress MAC adds residence time and link delay to the correctionField of a one-step Sync and recomputes the FCS. -/
  | syncEgressCorrect (port : Nat)
  /-- TWO_STEP_SYNC_RECORD (R68). A two-step Sync is forwarded unchanged and its correction recorded against the egress port, evicting the oldest record when full. -/
  | twoStepSyncRecord (port : Nat)
  /-- FOLLOW_UP_EGRESS (R69). A Follow_Up matching a record receives the recorded correction, otherwise it is forwarded unchanged and counted unmatched. -/
  | followUpEgress (port : Nat)
  /-- TOUT_ARM (R78). Writing ARM of a TOUT channel arms it, or refuses with ARM_ERR, or disarms it. -/
  | toutArm (n : Nat) (arm : Bool)
  /-- TOUT_PULSE_START (R76). A TOUT pulse starts at its ONCE or PERIODIC instant, or is suppressed by MIN_TQ, or counted skipped after a step. -/
  | toutPulseStart (n : Nat)
  /-- TOUT_PULSE_END (R77). A TOUT pulse ends after WIDTH TBC edges. -/
  | toutPulseEnd (n : Nat)
  /-- TIN_CAPTURE (R80). An edge on a TIN input is captured with time, EPOCH and TQ into its FIFO, or dropped as too close or overflow. -/
  | tinCapture (n : Nat) (rising : Bool) (sub : Nat)
  /-- READ_NOW (R556). TIME mailbox command returning device time at the TBC edge at which it is sampled. -/
  | readNow
  /-- SET_ABS (R556). TIME mailbox command stepping device time to an absolute target while SRC is 0b00. -/
  | setAbs
  /-- STEP_REL (R556). TIME mailbox command stepping device time by a signed amount while SRC is 0b00. -/
  | stepRel
  /-- LOAD_TOUT (R85). TIME mailbox command loading the start time of the selected TOUT. -/
  | loadTout
  /-- POP_TIN (R85). TIME mailbox command popping the oldest capture of the selected TIN FIFO. -/
  | popTin
  /-- MAILBOX_COMPLETE (R488). A mailbox command that took time completes or is refused, writing results and clearing BUSY at one SYS edge. -/
  | mailboxComplete (blk : Nat)
  /-- GROUP_ENABLE (R109). Setting a GEN bit runs the configuration, region and approval checks and either enables the group in FREERUN with X = 0 or refuses it. -/
  | groupEnable (g : Nat)
  /-- GROUP_DISABLE (R103). Clearing a GEN bit lets the lane window in progress run to its commit and then takes the group OFF. -/
  | groupDisable (g : Nat)
  /-- TIDE_EVALUATION (R103). Once the reference samples up to b_N are released, Tide computes the phasor, REF_OK, e, f_avg and ROCOF, applies the state transitions and fixes INC for the next window. -/
  | tideEvaluation (g : Nat)
  /-- RESYNC (R103). TIDE command moving the group to ACQUIRE at the next evaluation. -/
  | resync (g : Nat)
  /-- FORCE_FREERUN (R103). TIDE command forcing the group into FREERUN at the next evaluation. -/
  | forceFreerun (g : Nat)
  /-- LANE_WINDOW_START (R92). At b_N + D + DRO the lane window starts and the sample plane and GOOSE inputs are snapshot. -/
  | laneWindowStart (g : Nat)
  /-- SLOT_START (R108). A scheduled slot opens at its START and runs its 512-cycle preamble before the partition executes. -/
  | slotStart (t j : Nat)
  /-- PARTITION_LATE (R111). BUDGET or the working part runs out before PX.DONE; the partition is stopped and its outputs dropped. -/
  | partitionLate (n : Nat)
  /-- WINDOW_COMMIT (R203). At the window-end SYS edge pending vectors and state banks commit and the records go to GOOSE, gate, recorder and Rally. -/
  | windowCommit (g : Nat)
  /-- LOCKSTEP_MISMATCH (R112). A lockstep divergence stops the pair, marks it FAILED and assigns the lowest idle spare, dropping affected slots. -/
  | lockstepMismatch (n : Nat)
  /-- SPARE_ATTACH_DONE (R211). The spare pair finishes attaching to the failed table's memories and regions. -/
  | spareAttachDone (n : Nat)
  /-- SPARE_SELFTEST_FAIL (R212). An idle spare's self-test shows a mismatch and the spare becomes FAILED. -/
  | spareSelftestFail (n : Nat)
  /-- READ_LIVE (R116). TIDE mailbox command returning device time and the converted angle now. -/
  | readLive
  /-- TIME_TO_ANG (R116). TIDE mailbox command converting a device time to an extended angle. -/
  | timeToAng
  /-- ANG_TO_TIME (R116). TIDE mailbox command converting an extended angle to a device time. -/
  | angToTime
  /-- SV_FRAME_RX (R119). A sampled-value frame from the SVI port is matched, parsed, authenticated and its samples placed, judged early, late or duplicate. -/
  | svFrameRx
  /-- STREAM_ENABLE (R124). Writing EN 1 of a stream runs the stream checks and enters WAIT or refuses. -/
  | streamEnable (n : Nat)
  /-- STREAM_DISABLE (R148). Writing EN 0 of a stream discards held samples and enters DISABLED. -/
  | streamDisable (n : Nat)
  /-- SAMPLE_RELEASE (R143). At g + D every value of the stream at grid instant g is released, filled if missing, with its quality word, to the FDC and Tide. -/
  | sampleRelease (n : Nat)
  /-- FINGERPRINT_COMPLETE (R153). The input fingerprint of window N is complete and handed to Rally and the partition registers. -/
  | fingerprintComplete (p : Nat)
  /-- STEP_GUARD_EXPIRY (R137). STEP_WAIT ends without a fitting frame when STEP_GUARD expires. -/
  | stepGuardExpiry (n : Nat)
  /-- CLR_TMAX (R154). SVI command clearing the largest transit of the selected stream. -/
  | clrTmax
  /-- EST_RESTART (R148). SVI command making an ESTIMATED stream take its base afresh. -/
  | estRestart
  /-- ADEPTH_WRITE (R138). A write of SVI_ADEPTH_g is accepted, ignored when out of range, or refused while the group or its streams are enabled. -/
  | adepthWrite (g v : Nat)
  /-- FDC_SWEEP (R179). A sweep of a sweep set falls due and gives each channel a slot in which it binds, resets, filters, resamples and writes its entries. -/
  | fdcSweep (depth : Nat)
  /-- FDC_CHANNEL_ENABLE (R157). Writing EN 1 of an FDC channel runs its checks and enters UNBOUND or refuses. -/
  | fdcChannelEnable (c : Nat)
  /-- FDC_CHANNEL_DISABLE (R178). Writing EN 0 of an FDC channel takes it OFF when the sweep in progress ends. -/
  | fdcChannelDisable (c : Nat)
  /-- FDC_DISABLE (R178). Writing FDC_CTRL.EN 0 unbinds every channel at the end of the sweep in progress. -/
  | fdcDisable
  /-- SYNC_RESET_CHANNEL (R174). FDC command giving the selected channel a synchronising reset at its next slot. -/
  | syncResetChannel
  /-- SYNC_RESET_GROUP (R174). FDC command giving every channel bound to a group a synchronising reset. -/
  | syncResetGroup (g : Nat)
  /-- LANE_INSTRUCTION (R193). A lane pair executes one RV32IMFC instruction, raising a fault when illegal, misaligned, out of region or hitting uncorrectable ECC. -/
  | laneInstruction (n : Nat)
  /-- PX_CMUL (R214). Phasor multiply. -/
  | pxCmul (n rd rs1 rs2 : Nat)
  /-- PX_CMULC (R214). Phasor multiply by the conjugate. -/
  | pxCmulc (n rd rs1 rs2 : Nat)
  /-- PX_CMAC (R214). Phasor multiply-accumulate. -/
  | pxCmac (n rd rs1 rs2 : Nat)
  /-- PX_CADD (R214). Phasor add. -/
  | pxCadd (n rd rs1 rs2 : Nat)
  /-- PX_CSUB (R214). Phasor subtract. -/
  | pxCsub (n rd rs1 rs2 : Nat)
  /-- PX_CSCL (R214). Phasor scale by a scalar. -/
  | pxCscl (n rd rs1 rs2 : Nat)
  /-- PX_CABS2 (R214). Squared magnitude of a phasor. -/
  | pxCabs2 (n rd rs1 : Nat)
  /-- PX_CABS (R214). Magnitude of a phasor. -/
  | pxCabs (n rd rs1 : Nat)
  /-- PX_CARG (R214). Argument of a phasor in angle units. -/
  | pxCarg (n rd rs1 : Nat)
  /-- PX_CIS (R214). Unit phasor of an angle. -/
  | pxCis (n rd rs1 : Nat)
  /-- PX_ROT (R214). Rotate a phasor by an angle. -/
  | pxRot (n rd rs1 rs2 : Nat)
  /-- PX_DFTA (R214). Accumulate one DFT term. -/
  | pxDfta (n rd rs1 rs2 : Nat)
  /-- PX_QCHK (R216). Test a quality word against a mask. -/
  | pxQchk (n rd rs1 rs2 : Nat)
  /-- PX_DONE (R202). Complete the window, making the staging vector and state bank pending or holding them. -/
  | pxDone (n rs1 : Nat)
  /-- VECTOR_LATCH_READ (R205). A read of LANE_T_VEC_0 latches the selected partition's whole committed vector. -/
  | vectorLatchRead
  /-- CLR_USED (R192). LANE command clearing USED_MAX of every slot of the selected pair. -/
  | clrUsed
  /-- LANE_DEBUG_HALT (R219). A JTAG halt stops both cores of a pair at an instruction boundary. -/
  | laneDebugHalt (n : Nat)
  /-- LANE_DEBUG_RESUME (R219). A JTAG resume continues the halted pair or takes effect at the next preamble. -/
  | laneDebugResume (n : Nat)
  /-- LANE_DEBUG_STEP (R218). A JTAG single-step executes one instruction of a halted pair. -/
  | laneDebugStep (n : Nat)
  /-- GOOSE_RETRANSMIT (R230). Retransmission k of a block's state falls due and its frame is built and handed to the switch core. -/
  | gooseRetransmit (b : Nat)
  /-- GOOSE_BLOCK_ENABLE (R223). Writing EN 1 of a publish block runs its checks and enables or refuses it. -/
  | gooseBlockEnable (b : Nat)
  /-- GOOSE_BLOCK_DISABLE (R254). Writing EN 0 of a publish block stops its publishing. -/
  | gooseBlockDisable (b : Nat)
  /-- GOOSE_SUB_ENABLE (R242). Writing EN 1 of a subscription runs its checks and enters WAIT or refuses. -/
  | gooseSubEnable (sub : Nat)
  /-- GOOSE_SUB_DISABLE (R249). Writing EN 0 of a subscription zeroes its record and enters DISABLED. -/
  | gooseSubDisable (sub : Nat)
  /-- GOOSE_FRAME_RX (R246). A received GOOSE frame is matched, checked for mismatch, simulation and authentication and judged new, retransmission or duplicate. -/
  | gooseFrameRx
  /-- GOOSE_SUB_UPDATE (R247). At the update edge an accepted frame's values become visible in the subscription record. -/
  | gooseSubUpdate (sub : Nat)
  /-- GOOSE_SUB_EXPIRY (R248). A VALID subscription reaches its expiry and becomes STALE. -/
  | gooseSubExpiry (sub : Nat)
  /-- REPUBLISH (R554). GOOSE command making the selected block enter a new state with its current dataset. -/
  | republish
  /-- CLR_SIM (R244). GOOSE command clearing the simulated-frame latch of the selected subscription. -/
  | clrSim
  /-- GATE_TRIGGER (R263). At trigger instant T a gate channel acts on its owner's commit record: command, trip force, duty and angle words. -/
  | gateTrigger (n : Nat)
  /-- GATE_CHANNEL_ENABLE (R276). Writing EN 1 of a gate channel runs its checks and enters IDLE or SAFE, driving the balls from then on. -/
  | gateChannelEnable (n : Nat)
  /-- GATE_CHANNEL_DISABLE (R275). Writing EN 0 of a gate channel turns both outputs inactive, clears pending values and releases SAFE. -/
  | gateChannelDisable (n : Nat)
  /-- GATE_COMMIT (R265). Writing GATE_C_COMMIT makes the staged period and duty pending, or refuses them. -/
  | gateCommit (n : Nat)
  /-- GATE_RELOAD (R264). At a reload instant a new period starts and pending values become active. -/
  | gateReload (n : Nat)
  /-- GATE_DUTY_END (R264). Within a CONTINUOUS period, s falls at r_k + DUTY. -/
  | gateDutyEnd (n : Nat)
  /-- GATE_REFRESH_START (R269). After s has been 1 for REFRESH_INTERVAL the bootstrap refresh forces s to 0. -/
  | gateRefreshStart (n : Nat)
  /-- GATE_REFRESH_END (R269). The bootstrap refresh ends after REFRESH_WIDTH. -/
  | gateRefreshEnd (n : Nat)
  /-- GATE_INSTANT_FIXED (R273). Ten microseconds before a scheduled rise the instant becomes fixed. -/
  | gateInstantFixed (n : Nat)
  /-- GATE_SCHEDULED_RISE (R275). The scheduled instant is reached and the ANGLE channel enters PULSE. -/
  | gateScheduledRise (n : Nat)
  /-- GATE_PULSE_END (R270). A pulse ends after DUTY (or at a falling command when latched) and the channel returns to IDLE. -/
  | gatePulseEnd (n : Nat)
  /-- SAFE_N_ASSERT (R279). A SAFE_N ball low forces every masked channel into SAFE asynchronously. -/
  | safeNAssert (k widthNs : Nat)
  /-- GATE_FREEZE (R282). A JTAG halt of the generator freezes every channel and cancels every WAIT_EDGE. -/
  | gateFreeze
  /-- GATE_UNFREEZE (R282). A JTAG resume lets every channel continue from where it stopped. -/
  | gateUnfreeze
  /-- PWM_CLOCK_RETURN (R283). The PWM clock returns after a stop and every channel not OFF enters SAFE. -/
  | pwmClockReturn
  /-- GATE_CALIBRATION (R258). A background delay-line calibration completes, setting CAL_DONE, or fails and keeps the previous one. -/
  | gateCalibration (ok : Bool)
  /-- READ_SCHED (R273). GATE mailbox command returning the scheduled rise of the selected channel. -/
  | readSched
  /-- TWIN_LANE_DOWN (R287). A twin lane loses block lock or hits hi_ber and goes down. -/
  | twinLaneDown (lane : Nat)
  /-- TWIN_LANE_UP (R287). A twin lane comes up and a HELLO is sent at once. -/
  | twinLaneUp (lane : Nat)
  /-- TWIN_ENABLE (R294). Writing TWIN_CTRL.EN 1 enters ALONE and sends a HELLO, or is refused with TWIN_SOLO. -/
  | twinEnable
  /-- TWIN_DISABLE (R294). Writing TWIN_CTRL.EN 0 enters OFF, unaligns every group and makes pending resolutions. -/
  | twinDisable
  /-- HELLO_TX (R292). Every 50 µs a HELLO frame falls due and is sent on every up lane. -/
  | helloTx
  /-- HELLO_RX (R294). An accepted HELLO moves the pair towards PAIRED, decides the leader and may align groups. -/
  | helloRx (h : RallyHdr) (w : List Nat)
  /-- FPRINT_RX (R301). A partner FPRINT frame is accepted and its fingerprints stored for comparison. -/
  | fprintRx (h : RallyHdr) (w : List Nat)
  /-- COMMIT_RX (R298). A partner COMMIT record is accepted and checked, completing the resolution of the matched window when it is in time. -/
  | commitRx (h : RallyHdr) (w : List Nat)
  /-- GSEQ_RX (R305). A GSEQ frame updates the follower's stNum and sqNum of LEADER blocks. -/
  | gseqRx (h : RallyHdr) (w : List Nat)
  /-- XFER_RX (R308). An XFER frame delivers part of a partition image to the receiver. -/
  | xferRx (h : RallyHdr) (w : List Nat)
  /-- YIELD_RX (R296). A CTRL YIELD makes the receiving twin leader. -/
  | yieldRx (h : RallyHdr)
  /-- RESET_REQ_RX (R311). A CTRL RESET_REQ is acted on when ACCEPT_RST allows, or answered with RESET_NAK. -/
  | resetReqRx (h : RallyHdr)
  /-- RESET_NAK_RX (R311). A CTRL RESET_NAK sets RESET_REFUSED. -/
  | resetNakRx (h : RallyHdr)
  /-- XFER_ACK_RX (R307). A CTRL XFER_ACK lets the sender move to the next partition. -/
  | xferAckRx (h : RallyHdr) (p : Nat)
  /-- XFER_NAK_RX (R309). A CTRL XFER_NAK makes the sender take a new image or move on after three refusals. -/
  | xferNakRx (h : RallyHdr) (p : Nat)
  /-- XFER_FRAME_TX (R307). The next XFER frame of a partition image is sent. -/
  | xferFrameTx
  /-- PAIR_LINK_TIMEOUT (R294). No lane up or no copy accepted for HELLO_LOSS × 50 µs takes the pair to ALONE. -/
  | pairLinkTimeout
  /-- RALLY_RESOLVE (R298). At resolution edge E (record arrival or RALLY_WAIT deadline) every AGREE and EITHER bit is resolved and delivered. -/
  | rallyResolve (g : Nat)
  /-- XFER_TIMEOUT (R306). XFER_TIMEOUT expires and every partition not yet installed is released with zeroed banks. -/
  | xferTimeout
  /-- WAKE (R310). TWIN command starting wake frames to a cold-standby partner. -/
  | wake
  /-- YIELD (R296). TWIN command giving up the leader role and sending CTRL YIELD. -/
  | yield
  /-- RESET_PARTNER (R311). TWIN command sending CTRL RESET_REQ to the partner. -/
  | resetPartner
  /-- REALIGN (R297). TWIN command returning a group to UNALIGNED. -/
  | realign (g : Nat)
  /-- CLR_RMAX (R297). TWIN command clearing RMAX of a group. -/
  | clrRmax (g : Nat)
  /-- WAKE_FRAME_TX (R310). Every 1 ms a wake frame is sent from WAKE_PORT until the pair forms. -/
  | wakeFrameTx
  /-- WAKE_TIMEOUT (R310). WAKE_TIMEOUT expires before pairing and wake frames stop. -/
  | wakeTimeout
  /-- PARTNER_RESET_FIRE (R311). Ten microseconds after an accepted RESET_REQ the device reset is asserted. -/
  | partnerResetFire
  /-- DREC_BINARY_SAMPLE (R315). At the first SYS edge at or after tick g the binary channels are sampled. -/
  | drecBinarySample
  /-- DREC_TICK_ASSEMBLE (R313). At g + L_T a tick is assembled, its triggers evaluated and its records stored. -/
  | drecTickAssemble (drained : Nat)
  /-- DREC_ENABLE (R331). Writing DREC_CTRL.EN 1 runs the recorder checks, writes the configuration record and arms or blocks. -/
  | drecEnable
  /-- DREC_DISABLE (R324). Writing DREC_CTRL.EN 0 truncates a recording segment and frees an armed slot. -/
  | drecDisable
  /-- DREC_UNIT_ENABLE (R329). Writing EN 1 of a trigger unit runs its checks and enables or refuses it. -/
  | drecUnitEnable (u : Nat)
  /-- TRIGGER (R320). DREC command firing a MANUAL unit at the next tick. -/
  | trigger (u tag : Nat)
  /-- FREE (R324). DREC command freeing the selected DONE slot. -/
  | free
  /-- FREE_ALL (R324). DREC command freeing every DONE slot. -/
  | freeAll
  /-- DREC_NEXT_SLOT_ARMED (R325). The next slot becomes ARMED after a segment ends, or when a slot frees while BLOCKED. -/
  | drecNextSlotArmed
  /-- DREC_SLOT_DONE (R335). A FLUSHING slot's records reach LPDDR5X and its header is written; the slot becomes DONE. -/
  | drecSlotDone
  /-- ELOG_RECORD_WRITE (R344). The next queued event is written as a 32-byte record into its slot, one word per cycle. -/
  | elogRecordWrite
  /-- ELOG_SW_CODE_WRITE (R348). A write of ELOG_SW_CODE queues a software record from the writer's staging set, or is refused. -/
  | elogSwCodeWrite (tag code : Nat)
  /-- ELOG_RD_IDX_WRITE (R351). Writing ELOG_RD_IDX selects a slot and clears ELOG_RD_ERR. -/
  | elogRdIdxWrite (v : Nat)
  /-- CLEAR (R353). ELOG command draining the queue, wiping the log and writing the CLEARED record. -/
  | clear
  /-- ELOG_CLEAR_DONE (R353). The clear completes and the CLEARED record is written into slot 0. -/
  | elogClearDone
  /-- EXPORT (R352). ELOG command copying slots to LPDDR5X. -/
  | exportLog
  /-- ELOG_EXPORT_DONE (R352). The export completes or is ended by a Breakwater refusal. -/
  | elogExportDone
  /-- PORT_ENABLE (R372). Writing EN 1 of a port runs its checks and enters DOWN or refuses. -/
  | portEnable (p : Nat)
  /-- PORT_DISABLE (R371). Writing EN 0 of a port enters DISABLED, passing through the entry to DOWN. -/
  | portDisable (p : Nat)
  /-- PORT_UP_CONDITION_CHANGE (R371). A port's up condition starts or stops holding, moving the link state and starting hold timers. -/
  | portUpConditionChange (p : Nat) (los pcs hiBer fec : Bool)
  /-- UP_HOLD_EXPIRY (R371). UP_HOLD expires in UP_WAIT and the port enters UP when its flush is complete. -/
  | upHoldExpiry (p : Nat)
  /-- DOWN_HOLD_EXPIRY (R371). DOWN_HOLD expires and the port enters DOWN, discarding its transmit FIFO and telling the switch core. -/
  | downHoldExpiry (p : Nat)
  /-- AN_COMPLETE (R357). Clause 37 or SGMII auto-negotiation completes or fails. -/
  | anComplete (p lp : Nat)
  /-- MODABS_CHANGE (R363). A debounced change of MODABS sets MOD_CHANGE and writes an event record. -/
  | modabsChange (p : Nat) (absent : Bool)
  /-- I2C_CMD (R364). Writing PORT_I2C_k_CMD with GO starts an I2C transaction to a module. -/
  | i2cCmd (k v : Nat)
  /-- I2C_DONE (R364). An I2C transaction ends, done or with ERR. -/
  | i2cDone (k : Nat) (ok : Bool) (data : List Nat)
  /-- EQ_TX_WRITE (R359). A write of the transmit FFE weights takes effect within 1 µs or is refused. -/
  | eqTxWrite (p v : Nat)
  /-- PORT_TXTHR_WRITE (R368). A write of PORT_P_TXTHR resets TX_THR_CUR. -/
  | portTxthrWrite (p v : Nat)
  /-- PORT_TEST_WRITE (R371). A write of PORT_P_TEST starts or stops PRBS or loopback, taking the link out of UP. -/
  | portTestWrite (p v : Nat)
  /-- MAC_RX_FRAME (R365). The MAC judges a received frame, counts it and hands it to the switch core or discards it. -/
  | macRxFrame (p : Nat) (f : Frame) (st : Stamp) (fcs code lenMis shortPre : Bool)
  /-- MAC_TX_START (R368). The MAC starts a frame once its FIFO holds the threshold or the whole frame. -/
  | macTxStart (p fill : Nat)
  /-- TX_UNDERRUN (R369). The transmit FIFO empties mid-frame; the frame is ended with a bad FCS and the threshold raised. -/
  | txUnderrun (p : Nat)
  /-- WAKE_FRAME_DETECT (R373). In low power the PORT_7 detector matches a wake frame and raises the wake request. -/
  | wakeFrameDetect (f : Frame) (fcsOk : Bool)
  /-- SWC_FRAME_ADMIT (R389). A received frame is classified, its destinations formed and its copies admitted or dropped. -/
  | swcFrameAdmit (sp : Nat)
  /-- SWC_TX_COPY (R386). An egress port's scheduler selects the next queued copy and sends it. -/
  | swcTxCopy (e ecc : Nat)
  /-- SWC_FLUSH_COMPLETE (R394). A down port's queues are empty and the flush is reported complete. -/
  | swcFlushComplete (p : Nat)
  /-- FDB_AGE_OUT (R385). A learned FDB entry not refreshed for AGE_TIME is removed. -/
  | fdbAgeOut (idx : Nat)
  /-- DD_ENTRY_EXPIRE (R399). A duplicate discard entry reaches FORGET ms since its last use. -/
  | ddEntryExpire (k : Nat)
  /-- CPU_RX_DELIVER (R406). A copy for the CPU port is written into its partition's receive ring, or discarded when the ring is full. -/
  | cpuRxDeliver
  /-- CPU_TX_TAIL_WRITE (R407). Advancing TX_TAIL gives transmit descriptors to the CPU port. -/
  | cpuTxTailWrite (p v : Nat)
  /-- CPU_TX_FRAME (R407). The CPU port takes one transmit descriptor, checks the frame and admits or refuses it. -/
  | cpuTxFrame
  /-- FLUSH_FDB_ALL (R385). SWC command removing every learned FDB entry. -/
  | flushFdbAll
  /-- FLUSH_FDB_PORT (R385). SWC command removing the learned FDB entries of the selected port. -/
  | flushFdbPort
  /-- VLAN_RD (R410). SWC mailbox command reading a VLAN entry. -/
  | vlanRd
  /-- VLAN_WR (R410). SWC mailbox command writing a VLAN entry. -/
  | vlanWr
  /-- FDB_RD (R410). SWC mailbox command reading an FDB entry by key. -/
  | fdbRd
  /-- FDB_WR (R410). SWC mailbox command writing a static FDB entry. -/
  | fdbWr
  /-- FDB_DEL (R410). SWC mailbox command deleting an FDB entry. -/
  | fdbDel
  /-- MC_RD (R410). SWC mailbox command reading a multicast entry. -/
  | mcRd
  /-- MC_WR (R410). SWC mailbox command writing a multicast entry. -/
  | mcWr
  /-- FDB_RD_INDEX (R410). SWC mailbox command reading an FDB entry by index. -/
  | fdbRdIndex
  /-- SWC_ENABLE (R409). Writing SWC_CTRL.EN 1 checks the queue limits and enables the switch core, or refuses. -/
  | swcEnable
  /-- PAIR_ENABLE (R397). Writing EN 1 of a redundancy pair enables PRP or HSR, or refuses. -/
  | pairEnable (k : Nat)
  /-- RING_ENABLE (R405). Writing RX_EN or TX_EN of a partition's ring enables it, or refuses a bad SIZE_LOG. -/
  | ringEnable (p : Nat) (rx tx : Bool)
  /-- FABRIC_ACCESS (R414). A fabric transaction is checked by Breakwater and reaches its target or is refused as a violation. -/
  | fabricAccess (init src kind addr : Nat) (data : List Nat) (ue : Option Nat)
  /-- CORE_INSTRUCTION (R419). An application core executes one RV64GCH instruction. -/
  | coreInstruction (k ue : Nat) (evict : List (Nat × Nat))
  /-- CUR_WRITE (R422). A write of PART_CPU_k_CUR sets the guest tag used after the core's next trap return. -/
  | curWrite (k : CurSel) (v : Nat)
  /-- IRQ_ROUTE_ENABLE (R424). Writing EN 1 of a partition's interrupt route delivers every pending identity. -/
  | irqRouteEnable (p v : Nat)
  /-- IOMMU_COMMAND (R425). The IOMMU executes a command from its command queue. -/
  | iommuCommand
  /-- PULSE (R427). PART command starting a reset pulse of a partition. -/
  | pulse (p : Nat)
  /-- HOLD_WRITE (R427). A write of HOLD starts or ends a held partition reset. -/
  | holdWrite (p : Nat) (v : Bool)
  /-- RESET_PULSE_END (R427). PULSE_US elapses and, when no source remains, the partition reset is released. -/
  | resetPulseEnd (p : Nat)
  /-- WD_KICK (R434). A write of PART_DB_KICK restarts the partition watchdog. -/
  | wdKick (p : Nat)
  /-- WD_WARN (R434). The partition watchdog count reaches WARN. -/
  | wdWarn (p : Nat)
  /-- WD_EXPIRY (R434). The partition watchdog count reaches TIMEOUT and acts by ACT. -/
  | wdExpiry (p : Nat)
  /-- WD_CONFIG_WRITE (R434). A write of PART_T_WD or PART_T_LWD restarts the count and ends a watchdog hold. -/
  | wdConfigWrite (p : Nat) (lane : Bool) (v : Nat)
  /-- LWD_EXPIRY (R435). The lane watchdog count reaches LIMIT and acts by ACT. -/
  | lwdExpiry (p : Nat) (win : Nat)
  /-- DWD_KICK (R436). A write of PART_DWD_KICK advances or completes the 0x5A, 0xA5 kick sequence. -/
  | dwdKick (v : Nat)
  /-- DWD_WARN (R436). Half of TIMEOUT passes since the last device watchdog kick. -/
  | dwdWarn
  /-- DWD_EXPIRY (R436). The device watchdog reaches TIMEOUT and asserts device reset. -/
  | dwdExpiry
  /-- QOS_PERIOD_START (R431). Each 1 µs period the memory arbiter renews every partition's credit. -/
  | qosPeriodStart
  /-- APPLY (R455). KEYS command judging one signed message. -/
  | apply
  /-- APPROVE (R459). KEYS command judging a pair of approval messages. -/
  | approve
  /-- ATTEST (R466). KEYS command writing a signed attestation report. -/
  | attest
  /-- MEASURE (R461). KEYS command hashing a partition's image and settings and setting IMAGE_OK and SETTINGS_OK. -/
  | measure
  /-- KEYS_EXPORT (R467). KEYS command writing the sealed key store image. -/
  | keysExport
  /-- CONFIRM (R469). KEYS command writing KEY_COUNTER into KEYS_COUNTER_CONF. -/
  | confirm
  /-- IMPORT (R468). KEYS command loading a key store image. -/
  | import
  /-- COMMIT (R469). KEYS command burning the next commit-floor word. -/
  | commit
  /-- ROOT_INSTALL (R451). KEYS command installing the root key in slot 0. -/
  | rootInstall
  /-- BURN_ROOT (R451). KEYS command burning the root hash. -/
  | burnRoot
  /-- LC_DEVELOP (R439). KEYS command burning the DEVELOP lifecycle transition. -/
  | lcDevelop
  /-- LC_SEAL (R439). KEYS command burning the SEALED lifecycle transition. -/
  | lcSeal
  /-- LC_DECOMMISSION (R439). KEYS command burning the DECOMMISSIONED lifecycle transition. -/
  | lcDecommission
  /-- EXPORT_KTK (R464). KEYS command writing KTK out once and burning KTK_EXPORTED. -/
  | exportKtk
  /-- KEYS_APPLY_EDGE (R456). At the apply edge an accepted message's effects and the counter increment take place together. -/
  | keysApplyEdge
  /-- KEYS_SCRUB (R449). Every slot's integrity tag is checked, a failing slot becoming BAD. -/
  | keysScrub (ecc : List Nat)
  /-- ID_READY (R444). The identity key pairs are ready after reset release. -/
  | idReady
  /-- TAMPER_DETECT (R471). An enabled TAMPER_N input low at two AON edges erases the AON salt and latches the cause. -/
  | tamperDetect (levels : Nat)
  /-- ZEROISATION (R472). Within 100 µs every secret slot becomes EMPTY at one apply edge and TAMPER is set. -/
  | zeroisation
  /-- SNAPSHOT (R490). Writing SYS_SNAP_CTL.REQ copies every counter into its bank at one edge. -/
  | snapshot
  /-- SNAPSHOT_CLEAR (R491). Writing REQ with CLR also clears the live counters of the masked blocks after the copy. -/
  | snapshotClear
  /-- READ_SNAP_TIME (R494). SYS mailbox command returning the device time of the last snapshot. -/
  | readSnapTime
  /-- AON_WRITE_APPLY (R496). A queued AON write takes effect at an AON edge and its shadow updates. -/
  | aonWriteApply
  /-- REGISTER_WRITE (R482). A write to a register with no row of its own takes effect or is refused by width, alignment or lock. -/
  | registerWrite (init src addr size v : Nat)
  /-- MEM_RETRAIN (R30). The periodic WCK-to-DQ retraining of an LPDDR5X channel runs; two failures fail the channel. -/
  | memRetrain (mcb ok : Bool)
  /-- PLL_LOCK_LOST (R502). A PLL loses lock, causing device reset, clock gating or a clock stop by its kind. -/
  | pllLockLost (pll unit : Nat)
  /-- PLL_RELOCK (R502). A PLL relocks, ungating its clock and stepping device time for TBC. -/
  | pllRelock (pll unit refs before : Nat)
  /-- REF_LOST (R502). The AON domain finds REF out of range for two periods and holds device reset. -/
  | refLost
  /-- REF_RETURN (R502). REF returns and device reset is released 20 µs later. -/
  | refReturn
  /-- RESET_PIN (R505). A low on RESET_N of at least 1 µs causes device reset. -/
  | resetPin (level : Bool) (ns : Nat)
  /-- SOFTWARE_RESET (R504). Writing CLK_RST with KEY 0xD512 asserts device reset with cause SW. -/
  | softwareReset (v : Nat)
  /-- RESET_RELEASE (R505). Device reset ends 20 µs after its last cause and BOOT enters INIT. -/
  | resetRelease (sideB solo : Bool)
  /-- POWER_ON_RESET (R539). A monitored rail falls below its threshold and power-on reset is asserted. -/
  | powerOnReset (low : Bool)
  /-- VBAT_LOSS (R540). VBAT falls below its threshold and the AON domain is reset. -/
  | vbatLoss
  /-- TEST_RESET (R504). TRST_N low resets the JTAG TAP only. -/
  | testReset
  /-- BOOT_INIT_DONE (R515). PLLs, SRAMs, flash, directory and LPDDR5X are ready and BOOT enters LOAD, or FAILED. -/
  | bootInitDone (dens : Option Nat) (ranksA : List Nat) (trainedA : Bool) (ranksB : List Nat) (trainedB : Bool)
  /-- BOOT_SLOT_LOADED (R515). A slot has been read and hashed, or rejected, and BOOT moves to VERIFY, the next slot or RECOVERY. -/
  | bootSlotLoaded (readErr : Bool)
  /-- BOOT_APPLY_DONE (R517). Every section is applied and BOOT enters READY, or a failure resets the device with BOOT_FAIL. -/
  | bootApplyDone
  /-- FLASH_READ (R519). BOOT command copying flash to LPDDR5X. -/
  | flashRead
  /-- FLASH_ERASE (R519). BOOT command erasing flash sectors. -/
  | flashErase
  /-- FLASH_PROG (R520). BOOT command programming flash from LPDDR5X and reading it back. -/
  | flashProg
  /-- BOOT_CONFIRM (R519). BOOT command making the running slot preferred. -/
  | bootConfirm
  /-- SET_TRIAL (R519). BOOT command making the next boot try the other slot first. -/
  | setTrial
  /-- FORCE_RECOVERY (R519). BOOT command making the next boot enter recovery. -/
  | forceRecovery
  /-- FLASH_OP_TIMEOUT (R519). A flash operation not done within 4 s ends with ERR and FLASH_ERR. -/
  | flashOpTimeout
  /-- INFO (R523). Recovery operation returning identity, counters and slot causes. -/
  | info (f : Frame) (fcsOk : Bool)
  /-- STAGE (R523). Recovery operation writing data into staging. -/
  | stage (f : Frame) (fcsOk : Bool)
  /-- KEYMSG (R523). Recovery operation applying a staged key message. -/
  | keymsg (f : Frame) (fcsOk : Bool)
  /-- RECOVERY_APPROVE (R523). Recovery operation applying a staged approval pair. -/
  | recoveryApprove (f : Frame) (fcsOk : Bool)
  /-- ROOT (R523). Recovery operation installing the root key. -/
  | root (f : Frame) (fcsOk : Bool)
  /-- SAVE_STORE (R523). Recovery operation exporting, programming and confirming the key store. -/
  | saveStore (f : Frame) (fcsOk : Bool)
  /-- PROGRAM (R524). Recovery operation checking and programming a staged bundle into a slot. -/
  | program (f : Frame) (fcsOk : Bool)
  /-- REBOOT (R523). Recovery operation replying and then resetting the device. -/
  | reboot (f : Frame) (fcsOk : Bool)
  /-- LOW_POWER_ENTER (R525). Writing AON_PWR with the key and ENTER enters the low-power mode at the AON edge. -/
  | lowPowerEnter
  /-- LOW_POWER_WAKE (R526). A wake request, RESET_N low or power-on leaves low power with reset release within 3 ms. -/
  | lowPowerWake
  /-- READ_SEC (R46). AON mailbox command returning the AON seconds counter. -/
  | readSec
  /-- SEC_INCREMENT (R46). At each increment of SEC by the running count while the discipline is LOCKED, SEC is written into the AON seconds counter. -/
  | secIncrement
  /-- JTAG_INSTRUCTION (R441). A JTAG instruction or scan operation (boundary scan EXTEST/INTEST, design-for-test scan, application core debug, JTAG lane memory access) acts as the lifecycle state permits. -/
  | jtagInstruction (op : JtagOp)
  /-- RALLY_COPY_DISCARD (R291). A received Rally copy with a failing CRC, wrong LEN or VER, unknown TYPE or CTRL KIND, or the receiver's own SIDE is discarded, counted in CRC_ERR of its lane and may set PEER_ERR. -/
  | rallyCopyDiscard (lane : Nat) (ownSide : Bool)
  /-- SAFE_N_RELEASE (R279). A SAFE_N_k ball returns high; its filtered level in GATE_STAT.SAFE_N changes, and the force is no longer present for a later channel enable or for a recorder GATE binary channel. -/
  | safeNRelease (k : Nat)
  deriving DecidableEq, Repr

end Sys2Proof
end

