-- ==== Sys2Proof/Decode.lean ====
section
/-! DEFINITION. The commands that words spell. The command table gives no row any bits: a command reaches the DX512 as an access, a frame, an event on a ball or
a due time, and none of them as an encoded word. So no word spells a command. -/

namespace Sys2Proof

/-- The command that a word of the command table's bits spells: none, for no row has bits. -/
def decodeTableWord (_nbits _w : Nat) : Option Instr := none

end Sys2Proof
end

