-- ==== Sys2Proof/Machine/Crypto.lean ====
section
/-! DEFINITION. The cryptographic functions that the spec names by their standards: SHA-256 (FIPS 180-4), HMAC (FIPS 198-1), AES
(FIPS 197) and GCM (SP 800-38D), over lists of octets. -/

namespace Sys2Proof.Machine

/-! ## SHA-256 -/

/-- The integer cube or square root's first 32 fraction bits of a number: floor(frac(p^(1/k)) × 2^32), by the largest r with
r^k ≤ p × 2^(32 k). The search is by bits. -/
def rootBits (k p : Nat) : Nat :=
  ((List.range 40).foldl (fun r i => let t := r + 2 ^ (39 - i); if t ^ k ≤ p * 2 ^ (32 * k) then t else r) 0) % 2 ^ 32

/-- The first 64 primes. -/
def primes64 : List Nat :=
  [2, 3, 5, 7, 11, 13, 17, 19, 23, 29, 31, 37, 41, 43, 47, 53, 59, 61, 67, 71, 73, 79, 83, 89, 97, 101, 103, 107, 109, 113, 127,
   131] ++
  [137, 139, 149, 151, 157, 163, 167, 173, 179, 181, 191, 193, 197, 199, 211, 223, 227, 229, 233, 239, 241, 251, 257, 263, 269,
   271, 277, 281, 283, 293, 307, 311]

def shaK : List Nat := primes64.map (rootBits 3)
def shaH0 : List Nat := (primes64.take 8).map (rootBits 2)

def m32 (v : Nat) : Nat := v % 2 ^ 32
def rotr (v n : Nat) : Nat := m32 (v >>> n ||| v <<< (32 - n))

/-- The message schedule, newest first. -/
def shaSchedule (blk : List Nat) : List Nat :=
  (List.range 48).foldl (fun w _ =>
    let a := w.getD 14 0
    let b := w.getD 1 0
    let s0 := rotr a 7 ^^^ rotr a 18 ^^^ (a >>> 3)
    let s1 := rotr b 17 ^^^ rotr b 19 ^^^ (b >>> 10)
    m32 (w.getD 15 0 + s0 + w.getD 6 0 + s1) :: w) blk.reverse

/-- One round over the eight working variables. -/
def shaRound (v : List Nat) (kw : Nat × Nat) : List Nat :=
  match v with
  | [a, b, c, d, e, f, g, h] =>
    let s1 := rotr e 6 ^^^ rotr e 11 ^^^ rotr e 25
    let ch := (e &&& f) ^^^ ((2 ^ 32 - 1 - e) &&& g)
    let t1 := h + s1 + ch + kw.1 + kw.2
    let s0 := rotr a 2 ^^^ rotr a 13 ^^^ rotr a 22
    let maj := (a &&& b) ^^^ (a &&& c) ^^^ (b &&& c)
    [m32 (t1 + s0 + maj), a, b, c, m32 (d + t1), e, f, g]
  | _ => v

def shaBlock (h : List Nat) (blk : List Nat) : List Nat :=
  let v := (shaK.zip (shaSchedule blk).reverse).foldl shaRound h
  (h.zip v).map fun (a, b) => m32 (a + b)

/-- Groups of `n` elements; `fuel` bounds their number. -/
def chunks (n : Nat) : Nat → List Nat → List (List Nat)
  | 0, _ => []
  | fuel + 1, l => if l.isEmpty then [] else l.take n :: chunks n fuel (l.drop n)

def chunksOf (n : Nat) (l : List Nat) : List (List Nat) := chunks n (l.length / n + 1) l

/-- SHA-256 of octets: 32 octets. -/
def sha256 (m : List Nat) : List Nat :=
  let pad := m ++ [0x80] ++ List.replicate ((119 - m.length % 64) % 64) 0 ++ octetsBE 8 (m.length * 8)
  let words := (chunksOf 4 pad).map ofOctetsBE
  ((chunksOf 16 words).foldl shaBlock shaH0).flatMap (octetsBE 4)

/-- HMAC-SHA-256. -/
def hmacSha256 (key m : List Nat) : List Nat :=
  let k := if 64 < key.length then sha256 key else key
  let k := k ++ List.replicate (64 - k.length) 0
  sha256 (k.map (· ^^^ 0x5C) ++ sha256 (k.map (· ^^^ 0x36) ++ m))

/-! ## AES -/

def xtime (v : Nat) : Nat := if v < 128 then v * 2 else (v * 2) % 256 ^^^ 0x1B

/-- Multiplication in the field of AES. -/
def gmul (a b : Nat) : Nat :=
  ((List.range 8).foldl (fun (acc : Nat × Nat) i => (if bitOf b i then acc.1 ^^^ acc.2 else acc.1, xtime acc.2)) (0, a)).1

/-- The inverse in the field: a^254. -/
def ginv (a : Nat) : Nat := (List.range 253).foldl (fun r _ => gmul r a) a

def rotl8 (v n : Nat) : Nat := (v * 2 ^ n ||| v / 2 ^ (8 - n)) % 256

def aesSub (v : Nat) : Nat :=
  let b := ginv v
  b ^^^ rotl8 b 1 ^^^ rotl8 b 2 ^^^ rotl8 b 3 ^^^ rotl8 b 4 ^^^ 0x63

def xorL (a b : List Nat) : List Nat := (a.zip b).map fun (x, y) => x ^^^ y

/-- The key schedule as 4-octet words, oldest first. -/
def aesWords (key : List Nat) : List (List Nat) :=
  let nk := key.length / 4
  let rounds := nk + 6
  let init := (chunksOf 4 key).reverse
  let step (acc : List (List Nat) × Nat) (i : Nat) : List (List Nat) × Nat :=
    let (w, rc) := acc
    let i := i + nk
    let t := w.headD []
    let old := w.getD (nk - 1) []
    if i % nk = 0 then
      let r := (t.drop 1 ++ t.take 1).map aesSub
      let r := xorL r [rc, 0, 0, 0]
      (xorL old r :: w, xtime rc)
    else if 6 < nk && i % nk = 4 then (xorL old (t.map aesSub) :: w, rc)
    else (xorL old t :: w, rc)
  ((List.range (4 * (rounds + 1) - nk)).foldl step (init, 1)).1.reverse

def shiftRows (st : List Nat) : List Nat :=
  (List.range 16).map fun i => st.getD ((i + 4 * (i % 4)) % 16) 0

def mixColumn (c : List Nat) : List Nat :=
  match c with
  | [a, b, x, d] =>
    [xtime a ^^^ (xtime b ^^^ b) ^^^ x ^^^ d, a ^^^ xtime b ^^^ (xtime x ^^^ x) ^^^ d,
     a ^^^ b ^^^ xtime x ^^^ (xtime d ^^^ d), (xtime a ^^^ a) ^^^ b ^^^ x ^^^ xtime d]
  | _ => c

/-- AES encryption of one block of 16 octets. -/
def aesEncrypt (key blk : List Nat) : List Nat :=
  let ks := (chunksOf 16 ((aesWords key).flatMap id))
  let last := ks.length - 1
  (ks.zip (List.range ks.length)).foldl (fun st (k, r) =>
    if r = 0 then xorL st k
    else
      let st := shiftRows (st.map aesSub)
      let st := if r = last then st else (chunksOf 4 st).flatMap mixColumn
      xorL st k) blk

/-! ## GCM -/

/-- Multiplication in GF(2^128) as GCM orders its bits. -/
def ghashMul (x y : Nat) : Nat :=
  ((List.range 128).foldl (fun (acc : Nat × Nat) i =>
    let (z, v) := acc
    let z := if bitOf x (127 - i) then z ^^^ v else z
    (z, if v % 2 = 1 then v / 2 ^^^ (0xE1 * 2 ^ 120) else v / 2)) (0, y)).1

def pad16 (l : List Nat) : List Nat := l ++ List.replicate ((16 - l.length % 16) % 16) 0

def ghash (h : Nat) (l : List Nat) : Nat := (chunksOf 16 l).foldl (fun y b => ghashMul (y ^^^ ofOctetsBE b) h) 0

/-- The first counter block for an IV. -/
def gcmJ0 (h : Nat) (iv : List Nat) : Nat :=
  if iv.length = 12 then ofOctetsBE iv * 2 ^ 32 + 1
  else ghash h (pad16 iv ++ octetsBE 8 0 ++ octetsBE 8 (iv.length * 8))

/-- The key stream applied to text, from a counter block. -/
def gcmCtr (key : List Nat) (j0 : Nat) (text : List Nat) : List Nat :=
  let hi := j0 / 2 ^ 32 * 2 ^ 32
  let lo := j0 % 2 ^ 32
  ((chunksOf 16 text).zip (List.range (text.length / 16 + 1))).flatMap fun (b, i) =>
    xorL b (aesEncrypt key (octetsBE 16 (hi + (lo + 1 + i) % 2 ^ 32)))

/-- The 16-octet tag over associated data and ciphertext. -/
def gcmTag (key iv aad ct : List Nat) : List Nat :=
  let h := ofOctetsBE (aesEncrypt key (List.replicate 16 0))
  let y := ghash h (pad16 aad ++ pad16 ct ++ octetsBE 8 (aad.length * 8) ++ octetsBE 8 (ct.length * 8))
  octetsBE 16 (y ^^^ ofOctetsBE (aesEncrypt key (octetsBE 16 (gcmJ0 h iv))))

/-- AES-GCM encryption: ciphertext and tag. -/
def gcmEncrypt (key iv aad pt : List Nat) : List Nat × List Nat :=
  let h := ofOctetsBE (aesEncrypt key (List.replicate 16 0))
  let ct := gcmCtr key (gcmJ0 h iv) pt
  (ct, gcmTag key iv aad ct)

/-- AES-GCM decryption: none where the tag fails. -/
def gcmDecrypt (key iv aad ct tag : List Nat) : Option (List Nat) :=
  if gcmTag key iv aad ct = tag then
    let h := ofOctetsBE (aesEncrypt key (List.replicate 16 0))
    some (gcmCtr key (gcmJ0 h iv) ct)
  else none

/-! ## CRC-32C and CRC-32 -/

/-- One octet into a reflected CRC of 32 bits. -/
def crcStep (poly c b : Nat) : Nat :=
  (List.range 8).foldl (fun c _ => if c % 2 = 1 then c / 2 ^^^ poly else c / 2) (c ^^^ b % 256)

/-- CRC-32C with initial value and final XOR of all ones (R151). -/
def crc32c (l : List Nat) : Nat := l.foldl (crcStep 0x82F63B78) 0xFFFFFFFF ^^^ 0xFFFFFFFF

/-- The CRC-32 of IEEE 802.3, the FCS of a frame (R66, R369). -/
def crc32 (l : List Nat) : Nat := l.foldl (crcStep 0xEDB88320) 0xFFFFFFFF ^^^ 0xFFFFFFFF

end Sys2Proof.Machine
end

