-- ==== Sys2Proof/Machine/Rational.lean ====
section
/-! DEFINITION. Exact rational numbers as plain data, for the rules that state a value exactly and round it once. -/

namespace Sys2Proof.Machine

/-- A rational number; a denominator of 0 is taken as 1. -/
structure Q where
  n : Int
  d : Nat
  deriving DecidableEq, Repr, Inhabited

namespace Q

/-- The denominator in use. -/
def den (q : Q) : Nat := if q.d = 0 then 1 else q.d

def ofInt (v : Int) : Q := ⟨v, 1⟩
def zero : Q := ⟨0, 1⟩

/-- The same number in lowest terms. -/
def red (q : Q) : Q :=
  let g := Nat.gcd q.n.natAbs q.den
  ⟨q.n / (g : Int), q.den / g⟩

def add (a b : Q) : Q := red ⟨a.n * b.den + b.n * a.den, a.den * b.den⟩
def neg (a : Q) : Q := ⟨-a.n, a.den⟩
def sub (a b : Q) : Q := add a (neg b)
def mul (a b : Q) : Q := red ⟨a.n * b.n, a.den * b.den⟩
def inv (a : Q) : Q := if a.n = 0 then zero else if 0 < a.n then ⟨a.den, a.n.natAbs⟩ else ⟨-(a.den : Int), a.n.natAbs⟩
def div (a b : Q) : Q := mul a (inv b)
def lt (a b : Q) : Bool := a.n * b.den < b.n * a.den
def le (a b : Q) : Bool := a.n * b.den ≤ b.n * a.den
def isZero (a : Q) : Bool := a.n = 0
def abs (a : Q) : Q := ⟨(a.n.natAbs : Int), a.den⟩
def floor (a : Q) : Int := a.n / (a.den : Int)
def ceil (a : Q) : Int := divCeil a.n a.den
/-- The nearest integer, ties to even. -/
def round (a : Q) : Int := divRoundEven a.n a.den
def min (a b : Q) : Q := if le a b then a else b
def max (a b : Q) : Q := if le a b then b else a
def scale (a : Q) (k : Int) : Q := mul a (ofInt k)

end Q

end Sys2Proof.Machine
end

