-- ==== Sys2Proof/Config.lean ====
section
/-! DEFINITION. What an implementation of the DX512 fixes and the spec does not state: free values, each a constant with
no value that a proof could see. -/

namespace Sys2Proof

/-- The free values: the n-th number that the machine produces where the spec states no value. -/
opaque Config.freeValue : Nat → Nat

/-- The octets of the boot ROM by offset, which the spec does not print. -/
opaque Config.bootRom : Nat → Nat

/-- The octets that the authentication of a sampled-value or GOOSE frame covers: IEC 62351-6 states them, the spec does not. -/
opaque Config.authOctets : Machine.Frame → List Nat

/-- The number that stands for a binary32 input that is not finite: the spec states no result for one. -/
opaque Config.notFinite : Nat → Int

/-- The binary32 pattern of an interpolation between two values that are not both finite (R551): the spec states no result for one. -/
opaque Config.interpOpen : Nat → Nat → Nat

/-- The coefficient h_k of a preset, rate and tap (R161), as a binary32 pattern: fixed in the DX512, not printed. -/
opaque Config.firCoef : Nat → Nat → Nat → Nat

/-- sin and cos of an angle in cycles, and the constants π, √2 and √3, as the numbers that Tide's binary64 arithmetic uses
(R552): the spec states no rounding of them. -/
opaque Config.sinCycle : Machine.Q → Machine.Q
opaque Config.cosCycle : Machine.Q → Machine.Q
opaque Config.pi : Machine.Q
opaque Config.sqrt2 : Machine.Q
opaque Config.sqrt3 : Machine.Q

/-- The argument in cycles and the magnitude of a phasor in Tide's binary64 arithmetic. -/
opaque Config.argCycles : Machine.Q → Machine.Q → Machine.Q
opaque Config.magnitude : Machine.Q → Machine.Q → Machine.Q

/-- The octets of a frame's payload, from after its EtherType to before its trailer or FCS: the standards of the payload state them,
the spec does not. -/
opaque Config.payloadOctets : Machine.Payload → List Nat

/-- The payload that octets spell under an EtherType, where a standard that an engine reads makes one of them. -/
opaque Config.parsePayload : Nat → List Nat → Option Machine.Payload

/-- The bucket of an address and a VID in the FDB: R385 hashes them and does not say how. -/
opaque Config.fdbHash : Nat → Nat → Nat

/-- The device unique secret (R442), which no register, bus or mailbox returns. -/
opaque Config.dus : List Nat

/-- Pure SLH-DSA of FIPS 205 (R444, R445) by parameter set (1 SHA2-128s, 2 SHA2-128f): the public key and the deterministic signature of the key pair of a
48-octet seed, and the verification of a signature under a public key. FIPS 205 states them, the spec does not. -/
opaque Config.slhPublic : Nat → List Nat → List Nat
opaque Config.slhSign : Nat → List Nat → List Nat → List Nat
opaque Config.slhVerify : Nat → List Nat → List Nat → List Nat → Bool

/-- The octets that an unfinished flash operation leaves, by the operation's mark and the offset: the spec states none. -/
opaque Config.tornByte : Nat → Nat → Nat

/-- The identity registers of an application core by number (mvendorid, marchid and mimpid): the spec gives none. -/
opaque Config.coreIdentity : Nat → Nat

/-- The IDCODE of the TAP: the spec gives none. -/
opaque Config.idcode : Nat

/-- The CTLE peaking that a port's receiver has adapted (R360), by port and time in ns. -/
opaque Config.ctleAdapted : Nat → Nat → Nat

/-- A value after its rounding in Tide's binary64 arithmetic. -/
opaque Config.tideRound : Machine.Q → Machine.Q

end Sys2Proof
end

