-- ==== Sys2Proof/Machine/Sparse.lean ====
section
/-! DEFINITION. Sparse tables: plain lists of key and value in one canonical form, keys strictly rising. -/

namespace Sys2Proof.Machine

/-- A sparse table from numbers to values; an unlisted key reads as the table's default. -/
abbrev Sparse (α : Type) := List (Nat × α)

/-- The value listed at a key, if any. -/
def sparseFind {α : Type} (k : Nat) : Sparse α → Option α
  | [] => none
  | (k', v) :: t => if k = k' then some v else sparseFind k t

/-- The value at a key; `d` is what an unlisted key reads as. -/
def sparseGet {α : Type} (d : α) (m : Sparse α) (k : Nat) : α :=
  match sparseFind k m with
  | some v => v
  | none => d

/-- Remove a key. -/
def sparseDel {α : Type} (k : Nat) : Sparse α → Sparse α
  | [] => []
  | (k', v) :: t => if k = k' then sparseDel k t else (k', v) :: sparseDel k t

/-- List a value at a key, in key order. -/
def sparsePut {α : Type} (k : Nat) (v : α) : Sparse α → Sparse α
  | [] => [(k, v)]
  | (k', v') :: t =>
    if k = k' then (k, v) :: t
    else if k < k' then (k, v) :: (k', v') :: t
    else (k', v') :: sparsePut k v t

/-- Write a value at a key; a value equal to the default is not listed, so that equal tables are equal lists. -/
def sparseSet {α : Type} [DecidableEq α] (d : α) (m : Sparse α) (k : Nat) (v : α) : Sparse α :=
  if v = d then sparseDel k m else sparsePut k v m

/-- The canonical form: keys strictly rising, above a lower bound, and no value equal to the default. -/
def sparseWfFrom {α : Type} [DecidableEq α] (d : α) : Nat → Sparse α → Bool
  | _, [] => true
  | b, (k, v) :: t => decide (b ≤ k) && decide (v ≠ d) && sparseWfFrom d (k + 1) t

/-- The canonical form of a whole table. -/
def sparseWf {α : Type} [DecidableEq α] (d : α) (m : Sparse α) : Bool := sparseWfFrom d 0 m

end Sys2Proof.Machine
end

