-- ==== Sys2Proof/Machine/Field.lean ====
section
/-! DEFINITION. How the register map is written down: fields, registers and counters, as the register tables of the
spec give them. -/

namespace Sys2Proof.Machine

/-- The access kinds of chapter 16: read-write, read-only, write-only, write one to clear, write-lock (R483), and
the fields that follow the AON domain (R495, R496). -/
inductive Access where
  | rw | ro | wo | w1c | wl | sh
  deriving DecidableEq, Repr

/-- One field of a register: its block, the window kind it lies in (0 for the fixed registers, 1 + KIND for a
selected-instance window), the register's offset, the stride from one register of an array to the next, the field's
lowest bit, its width, its access and its reset value. -/
structure Fld where
  blk : Nat
  kind : Nat
  off : Nat
  stride : Nat
  lo : Nat
  width : Nat
  acc : Access
  rst : Nat
  deriving DecidableEq, Repr

/-- The same field of element `j` of an array of registers. -/
def Fld.el (f : Fld) (j : Nat) : Fld := { f with off := f.off + j * f.stride }

/-- A key of the machine's maps of registers and counters: what stands in block `blk`, window kind `kind`, at a place of its own. -/
def blkKey (blk kind place : Nat) : Nat := (place * 32 + blk % 32) * 8 + kind % 8

/-- The block that a key belongs to. -/
def keyBlk (k : Nat) : Nat := k / 8 % 32

/-- The key under which instance `i`'s copy of a field is held. -/
def Fld.key (f : Fld) (i : Nat) : Nat := blkKey f.blk f.kind ((i * 65536 + f.off) * 32 + f.lo)

/-- One register or one array of registers: where it lies and its fields. -/
structure RegDesc where
  blk : Nat
  kind : Nat
  off : Nat
  stride : Nat
  cnt : Nat
  flds : List Fld
  deriving DecidableEq, Repr

/-- Does a register or array of registers cover an offset of a window kind? -/
def RegDesc.covers (r : RegDesc) (kind off : Nat) : Bool :=
  decide (r.kind = kind) && decide (r.off ≤ off) && decide ((off - r.off) % r.stride = 0)
    && decide ((off - r.off) / r.stride < r.cnt)

/-- The fields of the register at an offset that a register description covers. -/
def RegDesc.fieldsAt (r : RegDesc) (off : Nat) : List Fld := r.flds.map (fun f => f.el ((off - r.off) / r.stride))

/-- How a statistics counter names the overflow flag of its group (R493): a flag of the fixed registers, a bit of such
a field chosen by the instance, or a flag of the instance's own FLT register. -/
inductive OvfKind where
  | device | byIndex | instance_
  deriving DecidableEq, Repr

/-- One statistics counter (R489): its block, the window kind its bank lies in, the bank offset of its first instance,
the stride to the next instance's bank, its group's overflow flag, and the flag of the instance's own FLT register where the
instance has one beside a group flag in CNTOVF. -/
structure Ctr where
  blk : Nat
  kind : Nat
  off : Nat
  stride : Nat
  ovf : Fld
  how : OvfKind
  inst : Option Fld
  deriving DecidableEq, Repr

/-- The key under which instance `i`'s copy of a counter is held: window banks are held per instance, fixed banks by
their own offset. -/
def Ctr.key (c : Ctr) (i : Nat) : Nat :=
  blkKey c.blk c.kind (if c.kind = 0 then c.off + i * c.stride else i * 65536 + c.off)

end Sys2Proof.Machine
end

