-- ==== Sys2Proof/Machine/RegsBoot.lean ====
section
/-! DEFINITION. The BOOT register block (block 17) as the register tables of spec/17_clocks_reset_startup.md give it: every field with its
bits, access and reset value (F), every register (R), and the statistics counters of its banks (C). -/

namespace Sys2Proof.Machine

/-! BOOT_STAT: offset 0x0004, reset by device reset. -/
def F.BOOT_STAT_READY : Fld := ⟨17, 0, 0x0004, 4, 31, 1, .ro, 0x0⟩
def F.BOOT_STAT_UNAPPROVED : Fld := ⟨17, 0, 0x0004, 4, 30, 1, .ro, 0x0⟩
def F.BOOT_STAT_FALLBACK : Fld := ⟨17, 0, 0x0004, 4, 29, 1, .ro, 0x0⟩
def F.BOOT_STAT_SLOT : Fld := ⟨17, 0, 0x0004, 4, 24, 1, .ro, 0x0⟩
def F.BOOT_STAT_STATE : Fld := ⟨17, 0, 0x0004, 4, 0, 3, .ro, 0x0⟩
def R.BOOT_STAT : RegDesc := ⟨17, 0, 0x0004, 4, 1, [F.BOOT_STAT_READY, F.BOOT_STAT_UNAPPROVED, F.BOOT_STAT_FALLBACK, F.BOOT_STAT_SLOT, F.BOOT_STAT_STATE]⟩

/-! BOOT_FLT: offset 0x0008, reset by device reset. -/
def F.BOOT_FLT_TRIAL_FAILED : Fld := ⟨17, 0, 0x0008, 4, 3, 1, .w1c, 0x0⟩
def F.BOOT_FLT_SLOT_REJECTED : Fld := ⟨17, 0, 0x0008, 4, 2, 1, .w1c, 0x0⟩
def F.BOOT_FLT_FLASH_ERR : Fld := ⟨17, 0, 0x0008, 4, 1, 1, .w1c, 0x0⟩
def F.BOOT_FLT_CMD_REFUSED : Fld := ⟨17, 0, 0x0008, 4, 0, 1, .w1c, 0x0⟩
def R.BOOT_FLT : RegDesc := ⟨17, 0, 0x0008, 4, 1, [F.BOOT_FLT_TRIAL_FAILED, F.BOOT_FLT_SLOT_REJECTED, F.BOOT_FLT_FLASH_ERR, F.BOOT_FLT_CMD_REFUSED]⟩

/-! BOOT_IEN: offset 0x000C, reset by device reset. -/
def F.BOOT_IEN_IEN : Fld := ⟨17, 0, 0x000C, 4, 0, 4, .rw, 0x0⟩
def R.BOOT_IEN : RegDesc := ⟨17, 0, 0x000C, 4, 1, [F.BOOT_IEN_IEN]⟩

/-! BOOT_CAUSE: offset 0x0014, reset by device reset. -/
def F.BOOT_CAUSE_SLOT1 : Fld := ⟨17, 0, 0x0014, 4, 8, 8, .ro, 0x0⟩
def F.BOOT_CAUSE_SLOT0 : Fld := ⟨17, 0, 0x0014, 4, 0, 8, .ro, 0x0⟩
def R.BOOT_CAUSE : RegDesc := ⟨17, 0, 0x0014, 4, 1, [F.BOOT_CAUSE_SLOT1, F.BOOT_CAUSE_SLOT0]⟩

/-! BOOT_GEN: offset 0x0018, reset by device reset. -/
def F.BOOT_GEN_GEN : Fld := ⟨17, 0, 0x0018, 4, 0, 32, .ro, 0x0⟩
def R.BOOT_GEN : RegDesc := ⟨17, 0, 0x0018, 4, 1, [F.BOOT_GEN_GEN]⟩

/-! BOOT_READY_US: offset 0x001C, reset by device reset. -/
def F.BOOT_READY_US_US : Fld := ⟨17, 0, 0x001C, 4, 0, 32, .ro, 0x0⟩
def R.BOOT_READY_US : RegDesc := ⟨17, 0, 0x001C, 4, 1, [F.BOOT_READY_US_US]⟩

/-! BOOT_MBX_CTL: offset 0x0030, reset by device reset. -/
def F.BOOT_MBX_CTL_VALID : Fld := ⟨17, 0, 0x0030, 4, 31, 1, .ro, 0x0⟩
def F.BOOT_MBX_CTL_BUSY : Fld := ⟨17, 0, 0x0030, 4, 30, 1, .ro, 0x0⟩
def F.BOOT_MBX_CTL_ERR : Fld := ⟨17, 0, 0x0030, 4, 29, 1, .ro, 0x0⟩
def F.BOOT_MBX_CTL_CMD : Fld := ⟨17, 0, 0x0030, 4, 0, 4, .wo, 0x0⟩
def R.BOOT_MBX_CTL : RegDesc := ⟨17, 0, 0x0030, 4, 1, [F.BOOT_MBX_CTL_VALID, F.BOOT_MBX_CTL_BUSY, F.BOOT_MBX_CTL_ERR, F.BOOT_MBX_CTL_CMD]⟩

/-! BOOT_MBX_D: offset 0x0034, 4 registers 0x4 apart, reset by device reset. -/
def F.BOOT_MBX_D_VAL : Fld := ⟨17, 0, 0x0034, 4, 0, 32, .rw, 0x0⟩
def R.BOOT_MBX_D : RegDesc := ⟨17, 0, 0x0034, 4, 4, [F.BOOT_MBX_D_VAL]⟩

/-! BOOT_DIGEST: offset 0x0060, 8 registers 0x4 apart, reset by device reset. -/
def F.BOOT_DIGEST_D : Fld := ⟨17, 0, 0x0060, 4, 0, 32, .ro, 0x0⟩
def R.BOOT_DIGEST : RegDesc := ⟨17, 0, 0x0060, 4, 8, [F.BOOT_DIGEST_D]⟩

/-- Every register of the BOOT block. -/
def regsBOOT : List RegDesc := [
  R.BOOT_STAT, R.BOOT_FLT, R.BOOT_IEN, R.BOOT_CAUSE, R.BOOT_GEN, R.BOOT_READY_US,
  R.BOOT_MBX_CTL, R.BOOT_MBX_D, R.BOOT_DIGEST]


end Sys2Proof.Machine
end

