-- ==== Sys2Proof/Machine/RegsElog.lean ====
section
/-! DEFINITION. The ELOG register block (block 11) as the register tables of spec/11_event_log.md give it: every field with its
bits, access and reset value (F), every register (R), and the statistics counters of its banks (C). -/

namespace Sys2Proof.Machine

/-! ELOG_CTRL: offset 0x0000, reset by device reset. -/
def F.ELOG_CTRL_LOCK : Fld := ⟨11, 0, 0x0000, 4, 31, 1, .wl, 0x0⟩
def F.ELOG_CTRL_SW_EN : Fld := ⟨11, 0, 0x0000, 4, 1, 1, .rw, 0x1⟩
def F.ELOG_CTRL_EN : Fld := ⟨11, 0, 0x0000, 4, 0, 1, .rw, 0x1⟩
def R.ELOG_CTRL : RegDesc := ⟨11, 0, 0x0000, 4, 1, [F.ELOG_CTRL_LOCK, F.ELOG_CTRL_SW_EN, F.ELOG_CTRL_EN]⟩

/-! ELOG_STAT: offset 0x0004, reset by device reset. -/
def F.ELOG_STAT_FULL : Fld := ⟨11, 0, 0x0004, 4, 31, 1, .ro, 0x0⟩
def F.ELOG_STAT_CLEARING : Fld := ⟨11, 0, 0x0004, 4, 30, 1, .ro, 0x0⟩
def F.ELOG_STAT_EXPORTING : Fld := ⟨11, 0, 0x0004, 4, 29, 1, .ro, 0x0⟩
def F.ELOG_STAT_QUEUE : Fld := ⟨11, 0, 0x0004, 4, 16, 11, .ro, 0x0⟩
def F.ELOG_STAT_NEXT_SEQ : Fld := ⟨11, 0, 0x0004, 4, 0, 16, .ro, 0x0⟩
def R.ELOG_STAT : RegDesc := ⟨11, 0, 0x0004, 4, 1, [F.ELOG_STAT_FULL, F.ELOG_STAT_CLEARING, F.ELOG_STAT_EXPORTING, F.ELOG_STAT_QUEUE, F.ELOG_STAT_NEXT_SEQ]⟩

/-! ELOG_FLT: offset 0x0008, reset by device reset. -/
def F.ELOG_FLT_EXP_ERR : Fld := ⟨11, 0, 0x0008, 4, 6, 1, .w1c, 0x0⟩
def F.ELOG_FLT_CMD_REFUSED : Fld := ⟨11, 0, 0x0008, 4, 5, 1, .w1c, 0x0⟩
def F.ELOG_FLT_SW_REFUSED : Fld := ⟨11, 0, 0x0008, 4, 4, 1, .w1c, 0x0⟩
def F.ELOG_FLT_ECC_UE : Fld := ⟨11, 0, 0x0008, 4, 3, 1, .w1c, 0x0⟩
def F.ELOG_FLT_QUEUE_DROP : Fld := ⟨11, 0, 0x0008, 4, 2, 1, .w1c, 0x0⟩
def F.ELOG_FLT_FULL : Fld := ⟨11, 0, 0x0008, 4, 1, 1, .w1c, 0x0⟩
def R.ELOG_FLT : RegDesc := ⟨11, 0, 0x0008, 4, 1, [F.ELOG_FLT_EXP_ERR, F.ELOG_FLT_CMD_REFUSED, F.ELOG_FLT_SW_REFUSED, F.ELOG_FLT_ECC_UE, F.ELOG_FLT_QUEUE_DROP, F.ELOG_FLT_FULL]⟩

/-! ELOG_IEN: offset 0x000C, reset by device reset. -/
def F.ELOG_IEN_IEN : Fld := ⟨11, 0, 0x000C, 4, 0, 7, .rw, 0x0⟩
def R.ELOG_IEN : RegDesc := ⟨11, 0, 0x000C, 4, 1, [F.ELOG_IEN_IEN]⟩

/-! ELOG_CMD: offset 0x0010, reset by device reset. -/
def F.ELOG_CMD_CMD : Fld := ⟨11, 0, 0x0010, 4, 0, 4, .wo, 0x0⟩
def R.ELOG_CMD : RegDesc := ⟨11, 0, 0x0010, 4, 1, [F.ELOG_CMD_CMD]⟩

/-! ELOG_WRPTR: offset 0x0014, reset by device reset. -/
def F.ELOG_WRPTR_WRPTR : Fld := ⟨11, 0, 0x0014, 4, 0, 18, .ro, 0x0⟩
def R.ELOG_WRPTR : RegDesc := ⟨11, 0, 0x0014, 4, 1, [F.ELOG_WRPTR_WRPTR]⟩

/-! ELOG_RD_IDX: offset 0x0020, reset by device reset. -/
def F.ELOG_RD_IDX_IDX : Fld := ⟨11, 0, 0x0020, 4, 0, 17, .rw, 0x0⟩
def R.ELOG_RD_IDX : RegDesc := ⟨11, 0, 0x0020, 4, 1, [F.ELOG_RD_IDX_IDX]⟩

/-! ELOG_RD_ERR: offset 0x0024, reset by device reset. -/
def F.ELOG_RD_ERR_UE : Fld := ⟨11, 0, 0x0024, 4, 0, 1, .ro, 0x0⟩
def R.ELOG_RD_ERR : RegDesc := ⟨11, 0, 0x0024, 4, 1, [F.ELOG_RD_ERR_UE]⟩

/-! ELOG_CNTOVF: offset 0x0048, reset by device reset. -/
def F.ELOG_CNTOVF_DEV_OVF : Fld := ⟨11, 0, 0x0048, 4, 0, 1, .w1c, 0x0⟩
def R.ELOG_CNTOVF : RegDesc := ⟨11, 0, 0x0048, 4, 1, [F.ELOG_CNTOVF_DEV_OVF]⟩

/-! ELOG_RD_D: offset 0x0060, 8 registers 0x4 apart, reset by device reset. -/
def F.ELOG_RD_D_W : Fld := ⟨11, 0, 0x0060, 4, 0, 32, .ro, 0x0⟩
def R.ELOG_RD_D : RegDesc := ⟨11, 0, 0x0060, 4, 8, [F.ELOG_RD_D_W]⟩

/-! ELOG_SW_P: offset 0x0080, 3 registers 0x4 apart, reset by device reset. -/
def F.ELOG_SW_P_PARAM : Fld := ⟨11, 0, 0x0080, 4, 0, 32, .rw, 0x0⟩
def R.ELOG_SW_P : RegDesc := ⟨11, 0, 0x0080, 4, 3, [F.ELOG_SW_P_PARAM]⟩

/-! ELOG_SW_CODE: offset 0x008C, reset by device reset. -/
def F.ELOG_SW_CODE_CODE : Fld := ⟨11, 0, 0x008C, 4, 0, 16, .wo, 0x0⟩
def R.ELOG_SW_CODE : RegDesc := ⟨11, 0, 0x008C, 4, 1, [F.ELOG_SW_CODE_CODE]⟩

/-! ELOG_EXP_FIRST: offset 0x0090, reset by device reset. -/
def F.ELOG_EXP_FIRST_FIRST : Fld := ⟨11, 0, 0x0090, 4, 0, 17, .rw, 0x0⟩
def R.ELOG_EXP_FIRST : RegDesc := ⟨11, 0, 0x0090, 4, 1, [F.ELOG_EXP_FIRST_FIRST]⟩

/-! ELOG_EXP_CNT: offset 0x0094, reset by device reset. -/
def F.ELOG_EXP_CNT_CNT : Fld := ⟨11, 0, 0x0094, 4, 0, 18, .rw, 0x0⟩
def R.ELOG_EXP_CNT : RegDesc := ⟨11, 0, 0x0094, 4, 1, [F.ELOG_EXP_CNT_CNT]⟩

/-! ELOG_EXP_ADDR_HI: offset 0x0098, reset by device reset. -/
def F.ELOG_EXP_ADDR_HI_ADDR : Fld := ⟨11, 0, 0x0098, 4, 0, 4, .rw, 0x8⟩
def R.ELOG_EXP_ADDR_HI : RegDesc := ⟨11, 0, 0x0098, 4, 1, [F.ELOG_EXP_ADDR_HI_ADDR]⟩

/-! ELOG_EXP_ADDR_LO: offset 0x009C, reset by device reset. -/
def F.ELOG_EXP_ADDR_LO_ADDR : Fld := ⟨11, 0, 0x009C, 4, 0, 32, .rw, 0x0⟩
def R.ELOG_EXP_ADDR_LO : RegDesc := ⟨11, 0, 0x009C, 4, 1, [F.ELOG_EXP_ADDR_LO_ADDR]⟩

/-- Every register of the ELOG block. -/
def regsELOG : List RegDesc := [
  R.ELOG_CTRL, R.ELOG_STAT, R.ELOG_FLT, R.ELOG_IEN, R.ELOG_CMD, R.ELOG_WRPTR,
  R.ELOG_RD_IDX, R.ELOG_RD_ERR, R.ELOG_CNTOVF, R.ELOG_RD_D, R.ELOG_SW_P, R.ELOG_SW_CODE,
  R.ELOG_EXP_FIRST, R.ELOG_EXP_CNT, R.ELOG_EXP_ADDR_HI, R.ELOG_EXP_ADDR_LO]

def C.ELOG_RECORDS : Ctr := ⟨11, 0, 0x0400, 0x0, F.ELOG_CNTOVF_DEV_OVF, .device, none⟩
def C.ELOG_REFUSED : Ctr := ⟨11, 0, 0x0408, 0x0, F.ELOG_CNTOVF_DEV_OVF, .device, none⟩
def C.ELOG_QUEUE_DROP : Ctr := ⟨11, 0, 0x0410, 0x0, F.ELOG_CNTOVF_DEV_OVF, .device, none⟩
def C.ELOG_SW_RECORDS : Ctr := ⟨11, 0, 0x0418, 0x0, F.ELOG_CNTOVF_DEV_OVF, .device, none⟩
def C.ELOG_SW_REFUSED : Ctr := ⟨11, 0, 0x0420, 0x0, F.ELOG_CNTOVF_DEV_OVF, .device, none⟩
def C.ELOG_CLEARS : Ctr := ⟨11, 0, 0x0428, 0x0, F.ELOG_CNTOVF_DEV_OVF, .device, none⟩
def C.ELOG_EXPORTS : Ctr := ⟨11, 0, 0x0430, 0x0, F.ELOG_CNTOVF_DEV_OVF, .device, none⟩
def C.ELOG_ECC_CE : Ctr := ⟨11, 0, 0x0438, 0x0, F.ELOG_CNTOVF_DEV_OVF, .device, none⟩
def C.ELOG_ECC_UE : Ctr := ⟨11, 0, 0x0440, 0x0, F.ELOG_CNTOVF_DEV_OVF, .device, none⟩

end Sys2Proof.Machine
end

