-- ==== Sys2Proof/Machine/RegsPart.lean ====
section
/-! DEFINITION. The PART register block (block 14) as the register tables of spec/14_partitions_and_cores.md give it: every field with its
bits, access and reset value (F), every register (R), and the statistics counters of its banks (C). -/

namespace Sys2Proof.Machine

/-! PART_CTRL: offset 0x0000, reset by device reset. -/
def F.PART_CTRL_LOCK : Fld := ⟨14, 0, 0x0000, 4, 31, 1, .wl, 0x0⟩
def R.PART_CTRL : RegDesc := ⟨14, 0, 0x0000, 4, 1, [F.PART_CTRL_LOCK]⟩

/-! PART_STAT: offset 0x0004, reset by device reset. -/
def F.PART_STAT_DWD_EN : Fld := ⟨14, 0, 0x0004, 4, 31, 1, .ro, 0x0⟩
def F.PART_STAT_HELD : Fld := ⟨14, 0, 0x0004, 4, 0, 7, .ro, 0x0⟩
def R.PART_STAT : RegDesc := ⟨14, 0, 0x0004, 4, 1, [F.PART_STAT_DWD_EN, F.PART_STAT_HELD]⟩

/-! PART_FLT: offset 0x0008, reset by device reset. -/
def F.PART_FLT_IRQ_UNROUTED : Fld := ⟨14, 0, 0x0008, 4, 7, 1, .w1c, 0x0⟩
def F.PART_FLT_DWD_WARN : Fld := ⟨14, 0, 0x0008, 4, 6, 1, .w1c, 0x0⟩
def F.PART_FLT_LWD_EXP : Fld := ⟨14, 0, 0x0008, 4, 5, 1, .w1c, 0x0⟩
def F.PART_FLT_WD_EXP : Fld := ⟨14, 0, 0x0008, 4, 4, 1, .w1c, 0x0⟩
def F.PART_FLT_WD_WARN : Fld := ⟨14, 0, 0x0008, 4, 3, 1, .w1c, 0x0⟩
def F.PART_FLT_RST_REFUSED : Fld := ⟨14, 0, 0x0008, 4, 2, 1, .w1c, 0x0⟩
def F.PART_FLT_BWV : Fld := ⟨14, 0, 0x0008, 4, 1, 1, .w1c, 0x0⟩
def F.PART_FLT_CFG_ERR : Fld := ⟨14, 0, 0x0008, 4, 0, 1, .w1c, 0x0⟩
def R.PART_FLT : RegDesc := ⟨14, 0, 0x0008, 4, 1, [F.PART_FLT_IRQ_UNROUTED, F.PART_FLT_DWD_WARN, F.PART_FLT_LWD_EXP, F.PART_FLT_WD_EXP, F.PART_FLT_WD_WARN, F.PART_FLT_RST_REFUSED, F.PART_FLT_BWV, F.PART_FLT_CFG_ERR]⟩

/-! PART_IEN: offset 0x000C, reset by device reset. -/
def F.PART_IEN_IEN : Fld := ⟨14, 0, 0x000C, 4, 0, 8, .rw, 0x0⟩
def R.PART_IEN : RegDesc := ⟨14, 0, 0x000C, 4, 1, [F.PART_IEN_IEN]⟩

/-! PART_CMD: offset 0x0010, reset by device reset. -/
def F.PART_CMD_PART : Fld := ⟨14, 0, 0x0010, 4, 16, 7, .wo, 0x0⟩
def F.PART_CMD_CMD : Fld := ⟨14, 0, 0x0010, 4, 0, 4, .wo, 0x0⟩
def R.PART_CMD : RegDesc := ⟨14, 0, 0x0010, 4, 1, [F.PART_CMD_PART, F.PART_CMD_CMD]⟩

/-! PART_DWD_CTL: offset 0x0014, reset by device reset. -/
def F.PART_DWD_CTL_EN : Fld := ⟨14, 0, 0x0014, 4, 31, 1, .wl, 0x0⟩
def F.PART_DWD_CTL_TIMEOUT : Fld := ⟨14, 0, 0x0014, 4, 0, 16, .rw, 0x64⟩
def R.PART_DWD_CTL : RegDesc := ⟨14, 0, 0x0014, 4, 1, [F.PART_DWD_CTL_EN, F.PART_DWD_CTL_TIMEOUT]⟩

/-! PART_DWD_KICK: offset 0x0018, reset by device reset. -/
def F.PART_DWD_KICK_KEY : Fld := ⟨14, 0, 0x0018, 4, 0, 8, .wo, 0x0⟩
def R.PART_DWD_KICK : RegDesc := ⟨14, 0, 0x0018, 4, 1, [F.PART_DWD_KICK_KEY]⟩

/-! PART_RST: offset 0x0020, 4 registers 0x4 apart, reset by device reset. -/
def F.PART_RST_HELD : Fld := ⟨14, 0, 0x0020, 4, 0, 32, .ro, 0x0⟩
def R.PART_RST : RegDesc := ⟨14, 0, 0x0020, 4, 4, [F.PART_RST_HELD]⟩

/-! PART_CNTOVF: offset 0x0048, reset by device reset. -/
def F.PART_CNTOVF_PART_OVF : Fld := ⟨14, 0, 0x0048, 4, 1, 1, .ro, 0x0⟩
def F.PART_CNTOVF_DEV_OVF : Fld := ⟨14, 0, 0x0048, 4, 0, 1, .w1c, 0x0⟩
def R.PART_CNTOVF : RegDesc := ⟨14, 0, 0x0048, 4, 1, [F.PART_CNTOVF_PART_OVF, F.PART_CNTOVF_DEV_OVF]⟩

/-! PART_BWV: offset 0x0050, 4 registers 0x4 apart, reset by device reset. -/
def F.PART_BWV_BWV : Fld := ⟨14, 0, 0x0050, 4, 0, 32, .w1c, 0x0⟩
def R.PART_BWV : RegDesc := ⟨14, 0, 0x0050, 4, 4, [F.PART_BWV_BWV]⟩

/-! PART_CPU_CUR: offset 0x0060, 8 registers 0x4 apart, reset by device reset. -/
def F.PART_CPU_CUR_GUEST : Fld := ⟨14, 0, 0x0060, 4, 0, 7, .rw, 0x0⟩
def R.PART_CPU_CUR : RegDesc := ⟨14, 0, 0x0060, 4, 8, [F.PART_CPU_CUR_GUEST]⟩

/-! PART_SEL: offset 0x0100, reset by device reset. -/
def F.PART_SEL_INDEX : Fld := ⟨14, 0, 0x0100, 4, 0, 7, .rw, 0x0⟩
def R.PART_SEL : RegDesc := ⟨14, 0, 0x0100, 4, 1, [F.PART_SEL_INDEX]⟩

/-! PART_T_CTL: offset 0x0200, reset by device reset. -/
def F.PART_T_CTL_HOLD : Fld := ⟨14, 1, 0x0200, 4, 31, 1, .rw, 0x0⟩
def F.PART_T_CTL_VIOL_RST : Fld := ⟨14, 1, 0x0200, 4, 30, 1, .rw, 0x0⟩
def F.PART_T_CTL_PULSE_US : Fld := ⟨14, 1, 0x0200, 4, 0, 10, .rw, 0xA⟩
def R.PART_T_CTL : RegDesc := ⟨14, 1, 0x0200, 4, 1, [F.PART_T_CTL_HOLD, F.PART_T_CTL_VIOL_RST, F.PART_T_CTL_PULSE_US]⟩

/-! PART_T_STAT: offset 0x0204, reset by device reset. -/
def F.PART_T_STAT_HELD : Fld := ⟨14, 1, 0x0204, 4, 31, 1, .ro, 0x0⟩
def F.PART_T_STAT_SOURCES : Fld := ⟨14, 1, 0x0204, 4, 16, 5, .ro, 0x0⟩
def F.PART_T_STAT_LWD_COUNT : Fld := ⟨14, 1, 0x0204, 4, 0, 8, .ro, 0x0⟩
def R.PART_T_STAT : RegDesc := ⟨14, 1, 0x0204, 4, 1, [F.PART_T_STAT_HELD, F.PART_T_STAT_SOURCES, F.PART_T_STAT_LWD_COUNT]⟩

/-! PART_T_FLT: offset 0x0208, reset by device reset. -/
def F.PART_T_FLT_CNT_OVF : Fld := ⟨14, 1, 0x0208, 4, 5, 1, .w1c, 0x0⟩
def F.PART_T_FLT_LWD_EXP : Fld := ⟨14, 1, 0x0208, 4, 4, 1, .w1c, 0x0⟩
def F.PART_T_FLT_WD_EXP : Fld := ⟨14, 1, 0x0208, 4, 3, 1, .w1c, 0x0⟩
def F.PART_T_FLT_WD_WARN : Fld := ⟨14, 1, 0x0208, 4, 2, 1, .w1c, 0x0⟩
def F.PART_T_FLT_RST_REFUSED : Fld := ⟨14, 1, 0x0208, 4, 1, 1, .w1c, 0x0⟩
def F.PART_T_FLT_BWV : Fld := ⟨14, 1, 0x0208, 4, 0, 1, .w1c, 0x0⟩
def R.PART_T_FLT : RegDesc := ⟨14, 1, 0x0208, 4, 1, [F.PART_T_FLT_CNT_OVF, F.PART_T_FLT_LWD_EXP, F.PART_T_FLT_WD_EXP, F.PART_T_FLT_WD_WARN, F.PART_T_FLT_RST_REFUSED, F.PART_T_FLT_BWV]⟩

/-! PART_T_WD: offset 0x020C, reset by device reset. -/
def F.PART_T_WD_ACT : Fld := ⟨14, 1, 0x020C, 4, 30, 2, .rw, 0x0⟩
def F.PART_T_WD_WARN : Fld := ⟨14, 1, 0x020C, 4, 16, 14, .rw, 0x0⟩
def F.PART_T_WD_TIMEOUT : Fld := ⟨14, 1, 0x020C, 4, 0, 16, .rw, 0x0⟩
def R.PART_T_WD : RegDesc := ⟨14, 1, 0x020C, 4, 1, [F.PART_T_WD_ACT, F.PART_T_WD_WARN, F.PART_T_WD_TIMEOUT]⟩

/-! PART_T_LWD: offset 0x0210, reset by device reset. -/
def F.PART_T_LWD_ACT : Fld := ⟨14, 1, 0x0210, 4, 30, 2, .rw, 0x0⟩
def F.PART_T_LWD_LIMIT : Fld := ⟨14, 1, 0x0210, 4, 0, 8, .rw, 0x0⟩
def R.PART_T_LWD : RegDesc := ⟨14, 1, 0x0210, 4, 1, [F.PART_T_LWD_ACT, F.PART_T_LWD_LIMIT]⟩

/-! PART_T_BW: offset 0x0214, reset by device reset. -/
def F.PART_T_BW_PRIO : Fld := ⟨14, 1, 0x0214, 4, 28, 2, .rw, 0x1⟩
def F.PART_T_BW_CAP : Fld := ⟨14, 1, 0x0214, 4, 16, 10, .rw, 0x0⟩
def F.PART_T_BW_RES : Fld := ⟨14, 1, 0x0214, 4, 0, 10, .rw, 0x0⟩
def R.PART_T_BW : RegDesc := ⟨14, 1, 0x0214, 4, 1, [F.PART_T_BW_PRIO, F.PART_T_BW_CAP, F.PART_T_BW_RES]⟩

/-! PART_T_SLOTS: offset 0x0218, reset by device reset. -/
def F.PART_T_SLOTS_SLOT_MAX : Fld := ⟨14, 1, 0x0218, 4, 16, 8, .rw, 0xE0⟩
def F.PART_T_SLOTS_SLOT_MIN : Fld := ⟨14, 1, 0x0218, 4, 0, 6, .rw, 0x0⟩
def R.PART_T_SLOTS : RegDesc := ⟨14, 1, 0x0218, 4, 1, [F.PART_T_SLOTS_SLOT_MAX, F.PART_T_SLOTS_SLOT_MIN]⟩

/-! PART_T_IRQ: offset 0x021C, reset by device reset. -/
def F.PART_T_IRQ_EN : Fld := ⟨14, 1, 0x021C, 4, 31, 1, .rw, 0x0⟩
def F.PART_T_IRQ_CORE : Fld := ⟨14, 1, 0x021C, 4, 8, 3, .rw, 0x0⟩
def F.PART_T_IRQ_FILE : Fld := ⟨14, 1, 0x021C, 4, 0, 4, .rw, 0x0⟩
def R.PART_T_IRQ : RegDesc := ⟨14, 1, 0x021C, 4, 1, [F.PART_T_IRQ_EN, F.PART_T_IRQ_CORE, F.PART_T_IRQ_FILE]⟩

/-! PART_T_IPEND: offset 0x0220, reset by device reset. -/
def F.PART_T_IPEND_PEND_BLK : Fld := ⟨14, 1, 0x0220, 4, 14, 18, .ro, 0x0⟩
def F.PART_T_IPEND_PEND : Fld := ⟨14, 1, 0x0220, 4, 0, 5, .ro, 0x0⟩
def R.PART_T_IPEND : RegDesc := ⟨14, 1, 0x0220, 4, 1, [F.PART_T_IPEND_PEND_BLK, F.PART_T_IPEND_PEND]⟩

/-! PART_T_BWV_HI: offset 0x0224, reset by device reset. -/
def F.PART_T_BWV_HI_KIND : Fld := ⟨14, 1, 0x0224, 4, 30, 2, .ro, 0x0⟩
def F.PART_T_BWV_HI_INIT : Fld := ⟨14, 1, 0x0224, 4, 24, 4, .ro, 0x0⟩
def F.PART_T_BWV_HI_ADDR : Fld := ⟨14, 1, 0x0224, 4, 0, 4, .ro, 0x0⟩
def R.PART_T_BWV_HI : RegDesc := ⟨14, 1, 0x0224, 4, 1, [F.PART_T_BWV_HI_KIND, F.PART_T_BWV_HI_INIT, F.PART_T_BWV_HI_ADDR]⟩

/-! PART_T_BWV_LO: offset 0x0228, reset by device reset. -/
def F.PART_T_BWV_LO_ADDR : Fld := ⟨14, 1, 0x0228, 4, 0, 32, .ro, 0x0⟩
def R.PART_T_BWV_LO : RegDesc := ⟨14, 1, 0x0228, 4, 1, [F.PART_T_BWV_LO_ADDR]⟩

/-! PART_T_RG_BASE: offset 0x0280, 16 registers 0x8 apart, reset by device reset. -/
def F.PART_T_RG_BASE_EN : Fld := ⟨14, 1, 0x0280, 8, 31, 1, .rw, 0x0⟩
def F.PART_T_RG_BASE_R : Fld := ⟨14, 1, 0x0280, 8, 30, 1, .rw, 0x0⟩
def F.PART_T_RG_BASE_W : Fld := ⟨14, 1, 0x0280, 8, 29, 1, .rw, 0x0⟩
def F.PART_T_RG_BASE_X : Fld := ⟨14, 1, 0x0280, 8, 28, 1, .rw, 0x0⟩
def F.PART_T_RG_BASE_BASE : Fld := ⟨14, 1, 0x0280, 8, 0, 24, .rw, 0x0⟩
def R.PART_T_RG_BASE : RegDesc := ⟨14, 1, 0x0280, 8, 16, [F.PART_T_RG_BASE_EN, F.PART_T_RG_BASE_R, F.PART_T_RG_BASE_W, F.PART_T_RG_BASE_X, F.PART_T_RG_BASE_BASE]⟩

/-! PART_T_RG_LIM: offset 0x0284, 16 registers 0x8 apart, reset by device reset. -/
def F.PART_T_RG_LIM_LIMIT : Fld := ⟨14, 1, 0x0284, 8, 0, 24, .rw, 0x0⟩
def R.PART_T_RG_LIM : RegDesc := ⟨14, 1, 0x0284, 8, 16, [F.PART_T_RG_LIM_LIMIT]⟩

/-- Every register of the PART block. -/
def regsPART : List RegDesc := [
  R.PART_CTRL, R.PART_STAT, R.PART_FLT, R.PART_IEN, R.PART_CMD, R.PART_DWD_CTL,
  R.PART_DWD_KICK, R.PART_RST, R.PART_CNTOVF, R.PART_BWV, R.PART_CPU_CUR, R.PART_SEL,
  R.PART_T_CTL, R.PART_T_STAT, R.PART_T_FLT, R.PART_T_WD, R.PART_T_LWD, R.PART_T_BW,
  R.PART_T_SLOTS, R.PART_T_IRQ, R.PART_T_IPEND, R.PART_T_BWV_HI, R.PART_T_BWV_LO, R.PART_T_RG_BASE,
  R.PART_T_RG_LIM]

def C.PART_BWV_TOTAL : Ctr := ⟨14, 0, 0x0400, 0x0, F.PART_CNTOVF_DEV_OVF, .device, none⟩
def C.PART_RESETS_TOTAL : Ctr := ⟨14, 0, 0x0408, 0x0, F.PART_CNTOVF_DEV_OVF, .device, none⟩
def C.PART_DWD_WARNINGS : Ctr := ⟨14, 0, 0x0410, 0x0, F.PART_CNTOVF_DEV_OVF, .device, none⟩
def C.PART_IRQ_UNROUTED : Ctr := ⟨14, 0, 0x0418, 0x0, F.PART_CNTOVF_DEV_OVF, .device, none⟩
def C.PART_T_BWV : Ctr := ⟨14, 0, 0x0800, 0x40, F.PART_T_FLT_CNT_OVF, .instance_, none⟩
def C.PART_T_RST_REFUSED : Ctr := ⟨14, 0, 0x0808, 0x40, F.PART_T_FLT_CNT_OVF, .instance_, none⟩
def C.PART_T_RESETS : Ctr := ⟨14, 0, 0x0810, 0x40, F.PART_T_FLT_CNT_OVF, .instance_, none⟩
def C.PART_T_WD_WARNS : Ctr := ⟨14, 0, 0x0818, 0x40, F.PART_T_FLT_CNT_OVF, .instance_, none⟩
def C.PART_T_WD_EXPIRIES : Ctr := ⟨14, 0, 0x0820, 0x40, F.PART_T_FLT_CNT_OVF, .instance_, none⟩
def C.PART_T_LWD_EXPIRIES : Ctr := ⟨14, 0, 0x0828, 0x40, F.PART_T_FLT_CNT_OVF, .instance_, none⟩
def C.PART_T_RD_BYTES : Ctr := ⟨14, 0, 0x0830, 0x40, F.PART_T_FLT_CNT_OVF, .instance_, none⟩
def C.PART_T_WR_BYTES : Ctr := ⟨14, 0, 0x0838, 0x40, F.PART_T_FLT_CNT_OVF, .instance_, none⟩

end Sys2Proof.Machine
end

