-- ==== Sys2Proof/Machine/RegsSys.lean ====
section
/-! DEFINITION. The SYS register block (block 0) as the register tables of spec/16_register_interface.md give it: every field with its
bits, access and reset value (F), every register (R), and the statistics counters of its banks (C). -/

namespace Sys2Proof.Machine

/-! SYS_PARTID: offset 0x0000, reset by device reset. -/
def F.SYS_PARTID_PARTID : Fld := ⟨0, 0, 0x0000, 4, 0, 32, .ro, 0x44580512⟩
def R.SYS_PARTID : RegDesc := ⟨0, 0, 0x0000, 4, 1, [F.SYS_PARTID_PARTID]⟩

/-! SYS_STEPPING: offset 0x0004, reset by device reset. -/
def F.SYS_STEPPING_LETTER : Fld := ⟨0, 0, 0x0004, 4, 8, 8, .ro, 0x41⟩
def F.SYS_STEPPING_NUMBER : Fld := ⟨0, 0, 0x0004, 4, 0, 8, .ro, 0x1⟩
def R.SYS_STEPPING : RegDesc := ⟨0, 0, 0x0004, 4, 1, [F.SYS_STEPPING_LETTER, F.SYS_STEPPING_NUMBER]⟩

/-! SYS_FLT: offset 0x0008, reset by device reset. -/
def F.SYS_FLT_MEM_FAIL : Fld := ⟨0, 0, 0x0008, 4, 3, 1, .w1c, 0x0⟩
def F.SYS_FLT_MEM_ECC_UE : Fld := ⟨0, 0, 0x0008, 4, 2, 1, .w1c, 0x0⟩
def F.SYS_FLT_LOCKVIOL : Fld := ⟨0, 0, 0x0008, 4, 1, 1, .w1c, 0x0⟩
def F.SYS_FLT_BUSERR : Fld := ⟨0, 0, 0x0008, 4, 0, 1, .w1c, 0x0⟩
def R.SYS_FLT : RegDesc := ⟨0, 0, 0x0008, 4, 1, [F.SYS_FLT_MEM_FAIL, F.SYS_FLT_MEM_ECC_UE, F.SYS_FLT_LOCKVIOL, F.SYS_FLT_BUSERR]⟩

/-! SYS_IEN: offset 0x000C, reset by device reset. -/
def F.SYS_IEN_IEN : Fld := ⟨0, 0, 0x000C, 4, 0, 4, .rw, 0x0⟩
def R.SYS_IEN : RegDesc := ⟨0, 0, 0x000C, 4, 1, [F.SYS_IEN_IEN]⟩

/-! SYS_SNAP_CTL: offset 0x0010, reset by device reset. -/
def F.SYS_SNAP_CTL_CLR : Fld := ⟨0, 0, 0x0010, 4, 1, 1, .wo, 0x0⟩
def F.SYS_SNAP_CTL_REQ : Fld := ⟨0, 0, 0x0010, 4, 0, 1, .wo, 0x0⟩
def R.SYS_SNAP_CTL : RegDesc := ⟨0, 0, 0x0010, 4, 1, [F.SYS_SNAP_CTL_CLR, F.SYS_SNAP_CTL_REQ]⟩

/-! SYS_SNAP_SEQ: offset 0x0014, reset by device reset. -/
def F.SYS_SNAP_SEQ_SEQ : Fld := ⟨0, 0, 0x0014, 4, 0, 32, .ro, 0x0⟩
def R.SYS_SNAP_SEQ : RegDesc := ⟨0, 0, 0x0014, 4, 1, [F.SYS_SNAP_SEQ_SEQ]⟩

/-! SYS_SNAP_CLR: offset 0x0018, reset by device reset. -/
def F.SYS_SNAP_CLR_MASK : Fld := ⟨0, 0, 0x0018, 4, 0, 18, .rw, 0x0⟩
def R.SYS_SNAP_CLR : RegDesc := ⟨0, 0, 0x0018, 4, 1, [F.SYS_SNAP_CLR_MASK]⟩

/-! SYS_LOCKVIOL_ADDR: offset 0x001C, reset by device reset. -/
def F.SYS_LOCKVIOL_ADDR_ADDR : Fld := ⟨0, 0, 0x001C, 4, 0, 32, .ro, 0x0⟩
def R.SYS_LOCKVIOL_ADDR : RegDesc := ⟨0, 0, 0x001C, 4, 1, [F.SYS_LOCKVIOL_ADDR_ADDR]⟩

/-! SYS_BUSERR: offset 0x0020, reset by device reset. -/
def F.SYS_BUSERR_VALID : Fld := ⟨0, 0, 0x0020, 4, 31, 1, .w1c, 0x0⟩
def F.SYS_BUSERR_KIND : Fld := ⟨0, 0, 0x0020, 4, 28, 3, .ro, 0x0⟩
def F.SYS_BUSERR_INIT : Fld := ⟨0, 0, 0x0020, 4, 24, 4, .ro, 0x0⟩
def F.SYS_BUSERR_TAG : Fld := ⟨0, 0, 0x0020, 4, 17, 7, .ro, 0x0⟩
def F.SYS_BUSERR_WRITE : Fld := ⟨0, 0, 0x0020, 4, 16, 1, .ro, 0x0⟩
def F.SYS_BUSERR_COUNT : Fld := ⟨0, 0, 0x0020, 4, 0, 16, .ro, 0x0⟩
def R.SYS_BUSERR : RegDesc := ⟨0, 0, 0x0020, 4, 1, [F.SYS_BUSERR_VALID, F.SYS_BUSERR_KIND, F.SYS_BUSERR_INIT, F.SYS_BUSERR_TAG, F.SYS_BUSERR_WRITE, F.SYS_BUSERR_COUNT]⟩

/-! SYS_BUSERR_ADDR_HI: offset 0x0024, reset by device reset. -/
def F.SYS_BUSERR_ADDR_HI_ADDR : Fld := ⟨0, 0, 0x0024, 4, 0, 4, .ro, 0x0⟩
def R.SYS_BUSERR_ADDR_HI : RegDesc := ⟨0, 0, 0x0024, 4, 1, [F.SYS_BUSERR_ADDR_HI_ADDR]⟩

/-! SYS_BUSERR_ADDR_LO: offset 0x0028, reset by device reset. -/
def F.SYS_BUSERR_ADDR_LO_ADDR : Fld := ⟨0, 0, 0x0028, 4, 0, 32, .ro, 0x0⟩
def R.SYS_BUSERR_ADDR_LO : RegDesc := ⟨0, 0, 0x0028, 4, 1, [F.SYS_BUSERR_ADDR_LO_ADDR]⟩

/-! SYS_LOCKVIOL: offset 0x002C, reset by device reset. -/
def F.SYS_LOCKVIOL_VALID : Fld := ⟨0, 0, 0x002C, 4, 31, 1, .w1c, 0x0⟩
def F.SYS_LOCKVIOL_TAG : Fld := ⟨0, 0, 0x002C, 4, 17, 7, .ro, 0x0⟩
def F.SYS_LOCKVIOL_COUNT : Fld := ⟨0, 0, 0x002C, 4, 0, 16, .ro, 0x0⟩
def R.SYS_LOCKVIOL : RegDesc := ⟨0, 0, 0x002C, 4, 1, [F.SYS_LOCKVIOL_VALID, F.SYS_LOCKVIOL_TAG, F.SYS_LOCKVIOL_COUNT]⟩

/-! SYS_MBX_CTL: offset 0x0030, reset by device reset. -/
def F.SYS_MBX_CTL_VALID : Fld := ⟨0, 0, 0x0030, 4, 31, 1, .ro, 0x0⟩
def F.SYS_MBX_CTL_BUSY : Fld := ⟨0, 0, 0x0030, 4, 30, 1, .ro, 0x0⟩
def F.SYS_MBX_CTL_ERR : Fld := ⟨0, 0, 0x0030, 4, 29, 1, .ro, 0x0⟩
def F.SYS_MBX_CTL_CMD : Fld := ⟨0, 0, 0x0030, 4, 0, 4, .wo, 0x0⟩
def R.SYS_MBX_CTL : RegDesc := ⟨0, 0, 0x0030, 4, 1, [F.SYS_MBX_CTL_VALID, F.SYS_MBX_CTL_BUSY, F.SYS_MBX_CTL_ERR, F.SYS_MBX_CTL_CMD]⟩

/-! SYS_MBX_D: offset 0x0034, 4 registers 0x4 apart, reset by device reset. -/
def F.SYS_MBX_D_VAL : Fld := ⟨0, 0, 0x0034, 4, 0, 32, .rw, 0x0⟩
def R.SYS_MBX_D : RegDesc := ⟨0, 0, 0x0034, 4, 4, [F.SYS_MBX_D_VAL]⟩

/-! SYS_CNTOVF: offset 0x0048, reset by device reset. -/
def F.SYS_CNTOVF_DEV_OVF : Fld := ⟨0, 0, 0x0048, 4, 0, 1, .w1c, 0x0⟩
def R.SYS_CNTOVF : RegDesc := ⟨0, 0, 0x0048, 4, 1, [F.SYS_CNTOVF_DEV_OVF]⟩

/-! SYS_MEM_MCA: offset 0x0050, reset by device reset. -/
def F.SYS_MEM_MCA_TRAINED : Fld := ⟨0, 0, 0x0050, 4, 31, 1, .ro, 0x0⟩
def F.SYS_MEM_MCA_FAILED : Fld := ⟨0, 0, 0x0050, 4, 30, 1, .ro, 0x0⟩
def F.SYS_MEM_MCA_RANKS : Fld := ⟨0, 0, 0x0050, 4, 8, 2, .ro, 0x0⟩
def F.SYS_MEM_MCA_SIZE : Fld := ⟨0, 0, 0x0050, 4, 0, 5, .ro, 0x0⟩
def R.SYS_MEM_MCA : RegDesc := ⟨0, 0, 0x0050, 4, 1, [F.SYS_MEM_MCA_TRAINED, F.SYS_MEM_MCA_FAILED, F.SYS_MEM_MCA_RANKS, F.SYS_MEM_MCA_SIZE]⟩

/-! SYS_MEM_MCB: offset 0x0054, reset by device reset. -/
def F.SYS_MEM_MCB_TRAINED : Fld := ⟨0, 0, 0x0054, 4, 31, 1, .ro, 0x0⟩
def F.SYS_MEM_MCB_FAILED : Fld := ⟨0, 0, 0x0054, 4, 30, 1, .ro, 0x0⟩
def F.SYS_MEM_MCB_RANKS : Fld := ⟨0, 0, 0x0054, 4, 8, 2, .ro, 0x0⟩
def F.SYS_MEM_MCB_SIZE : Fld := ⟨0, 0, 0x0054, 4, 0, 5, .ro, 0x0⟩
def R.SYS_MEM_MCB : RegDesc := ⟨0, 0, 0x0054, 4, 1, [F.SYS_MEM_MCB_TRAINED, F.SYS_MEM_MCB_FAILED, F.SYS_MEM_MCB_RANKS, F.SYS_MEM_MCB_SIZE]⟩

/-- Every register of the SYS block. -/
def regsSYS : List RegDesc := [
  R.SYS_PARTID, R.SYS_STEPPING, R.SYS_FLT, R.SYS_IEN, R.SYS_SNAP_CTL, R.SYS_SNAP_SEQ,
  R.SYS_SNAP_CLR, R.SYS_LOCKVIOL_ADDR, R.SYS_BUSERR, R.SYS_BUSERR_ADDR_HI, R.SYS_BUSERR_ADDR_LO, R.SYS_LOCKVIOL,
  R.SYS_MBX_CTL, R.SYS_MBX_D, R.SYS_CNTOVF, R.SYS_MEM_MCA, R.SYS_MEM_MCB]

def C.SYS_BUS_ERRORS : Ctr := ⟨0, 0, 0x0400, 0x0, F.SYS_CNTOVF_DEV_OVF, .device, none⟩
def C.SYS_LOCK_VIOLATIONS : Ctr := ⟨0, 0, 0x0408, 0x0, F.SYS_CNTOVF_DEV_OVF, .device, none⟩
def C.SYS_SNAPSHOTS : Ctr := ⟨0, 0, 0x0410, 0x0, F.SYS_CNTOVF_DEV_OVF, .device, none⟩
def C.SYS_INTERRUPTS_SENT : Ctr := ⟨0, 0, 0x0418, 0x0, F.SYS_CNTOVF_DEV_OVF, .device, none⟩
def C.SYS_MCA_ECC_CE : Ctr := ⟨0, 0, 0x0420, 0x0, F.SYS_CNTOVF_DEV_OVF, .device, none⟩
def C.SYS_MCA_ECC_UE : Ctr := ⟨0, 0, 0x0428, 0x0, F.SYS_CNTOVF_DEV_OVF, .device, none⟩
def C.SYS_MCB_ECC_CE : Ctr := ⟨0, 0, 0x0430, 0x0, F.SYS_CNTOVF_DEV_OVF, .device, none⟩
def C.SYS_MCB_ECC_UE : Ctr := ⟨0, 0, 0x0438, 0x0, F.SYS_CNTOVF_DEV_OVF, .device, none⟩

end Sys2Proof.Machine
end

