-- ==== Sys2Proof/Machine/RegsTime.lean ====
section
/-! DEFINITION. The TIME register block (block 2) as the register tables of spec/02_time_base.md give it: every field with its
bits, access and reset value (F), every register (R), and the statistics counters of its banks (C). -/

namespace Sys2Proof.Machine

/-! TIME_CTRL: offset 0x0000, reset by device reset. -/
def F.TIME_CTRL_DOMAIN : Fld := ⟨2, 0, 0x0000, 4, 24, 8, .rw, 0x0⟩
def F.TIME_CTRL_SLAVE_PORT : Fld := ⟨2, 0, 0x0000, 4, 20, 4, .rw, 0xF⟩
def F.TIME_CTRL_LOG_SYNC : Fld := ⟨2, 0, 0x0000, 4, 16, 4, .rw, 0x0⟩
def F.TIME_CTRL_SRC : Fld := ⟨2, 0, 0x0000, 4, 8, 2, .rw, 0x0⟩
def F.TIME_CTRL_STEP_EN : Fld := ⟨2, 0, 0x0000, 4, 0, 1, .rw, 0x1⟩
def R.TIME_CTRL : RegDesc := ⟨2, 0, 0x0000, 4, 1, [F.TIME_CTRL_DOMAIN, F.TIME_CTRL_SLAVE_PORT, F.TIME_CTRL_LOG_SYNC, F.TIME_CTRL_SRC, F.TIME_CTRL_STEP_EN]⟩

/-! TIME_STAT: offset 0x0004, reset by device reset. -/
def F.TIME_STAT_EPOCH : Fld := ⟨2, 0, 0x0004, 4, 16, 16, .ro, 0x0⟩
def F.TIME_STAT_TQ : Fld := ⟨2, 0, 0x0004, 4, 6, 2, .ro, 0x3⟩
def F.TIME_STAT_STATE : Fld := ⟨2, 0, 0x0004, 4, 0, 3, .ro, 0x0⟩
def R.TIME_STAT : RegDesc := ⟨2, 0, 0x0004, 4, 1, [F.TIME_STAT_EPOCH, F.TIME_STAT_TQ, F.TIME_STAT_STATE]⟩

/-! TIME_OFFSET: offset 0x0008, reset by device reset. -/
def F.TIME_OFFSET_OFFSET : Fld := ⟨2, 0, 0x0008, 4, 0, 32, .ro, 0x0⟩
def R.TIME_OFFSET : RegDesc := ⟨2, 0, 0x0008, 4, 1, [F.TIME_OFFSET_OFFSET]⟩

/-! TIME_FADJ: offset 0x000C, reset by device reset. -/
def F.TIME_FADJ_FADJ : Fld := ⟨2, 0, 0x000C, 4, 0, 32, .ro, 0x0⟩
def R.TIME_FADJ : RegDesc := ⟨2, 0, 0x000C, 4, 1, [F.TIME_FADJ_FADJ]⟩

/-! TIME_FADJ_SET: offset 0x0010, reset by device reset. -/
def F.TIME_FADJ_SET_FADJ_SET : Fld := ⟨2, 0, 0x0010, 4, 0, 32, .rw, 0x0⟩
def R.TIME_FADJ_SET : RegDesc := ⟨2, 0, 0x0010, 4, 1, [F.TIME_FADJ_SET_FADJ_SET]⟩

/-! TIME_GAIN: offset 0x0014, reset by device reset. -/
def F.TIME_GAIN_KP : Fld := ⟨2, 0, 0x0014, 4, 16, 16, .rw, 0xC000⟩
def F.TIME_GAIN_KI : Fld := ⟨2, 0, 0x0014, 4, 0, 16, .rw, 0x1000⟩
def R.TIME_GAIN : RegDesc := ⟨2, 0, 0x0014, 4, 1, [F.TIME_GAIN_KP, F.TIME_GAIN_KI]⟩

/-! TIME_LOCK: offset 0x0018, reset by device reset. -/
def F.TIME_LOCK_STEP_CONFIRM : Fld := ⟨2, 0, 0x0018, 4, 28, 4, .rw, 0x3⟩
def F.TIME_LOCK_LOCK_CNT : Fld := ⟨2, 0, 0x0018, 4, 20, 8, .rw, 0x10⟩
def F.TIME_LOCK_LOCK_THR : Fld := ⟨2, 0, 0x0018, 4, 0, 20, .rw, 0x64⟩
def R.TIME_LOCK : RegDesc := ⟨2, 0, 0x0018, 4, 1, [F.TIME_LOCK_STEP_CONFIRM, F.TIME_LOCK_LOCK_CNT, F.TIME_LOCK_LOCK_THR]⟩

/-! TIME_STEPTHR: offset 0x001C, reset by device reset. -/
def F.TIME_STEPTHR_STEP_THR : Fld := ⟨2, 0, 0x001C, 4, 0, 32, .rw, 0x2710⟩
def R.TIME_STEPTHR : RegDesc := ⟨2, 0, 0x001C, 4, 1, [F.TIME_STEPTHR_STEP_THR]⟩

/-! TIME_HOLD: offset 0x0020, reset by device reset. -/
def F.TIME_HOLD_HOLD_LIMIT : Fld := ⟨2, 0, 0x0020, 4, 16, 16, .rw, 0x5⟩
def F.TIME_HOLD_HOLD_AVG : Fld := ⟨2, 0, 0x0020, 4, 8, 8, .rw, 0x40⟩
def F.TIME_HOLD_SYNC_LOSS : Fld := ⟨2, 0, 0x0020, 4, 0, 8, .rw, 0x3⟩
def R.TIME_HOLD : RegDesc := ⟨2, 0, 0x0020, 4, 1, [F.TIME_HOLD_HOLD_LIMIT, F.TIME_HOLD_HOLD_AVG, F.TIME_HOLD_SYNC_LOSS]⟩

/-! TIME_UTCOFS: offset 0x0024, reset by device reset. -/
def F.TIME_UTCOFS_VALID : Fld := ⟨2, 0, 0x0024, 4, 31, 1, .rw, 0x0⟩
def F.TIME_UTCOFS_OFS : Fld := ⟨2, 0, 0x0024, 4, 0, 16, .rw, 0x0⟩
def R.TIME_UTCOFS : RegDesc := ⟨2, 0, 0x0024, 4, 1, [F.TIME_UTCOFS_VALID, F.TIME_UTCOFS_OFS]⟩

/-! TIME_FLT: offset 0x0028, reset by device reset. -/
def F.TIME_FLT_TIN_OVF : Fld := ⟨2, 0, 0x0028, 4, 7, 1, .w1c, 0x0⟩
def F.TIME_FLT_TOUT_LATE : Fld := ⟨2, 0, 0x0028, 4, 6, 1, .w1c, 0x0⟩
def F.TIME_FLT_PDELAY_LOST : Fld := ⟨2, 0, 0x0028, 4, 5, 1, .w1c, 0x0⟩
def F.TIME_FLT_FADJ_LIMIT : Fld := ⟨2, 0, 0x0028, 4, 4, 1, .w1c, 0x0⟩
def F.TIME_FLT_HOLD_EXCEEDED : Fld := ⟨2, 0, 0x0028, 4, 3, 1, .w1c, 0x0⟩
def F.TIME_FLT_SYNC_LOSS : Fld := ⟨2, 0, 0x0028, 4, 2, 1, .w1c, 0x0⟩
def F.TIME_FLT_STEP_OUTLIER : Fld := ⟨2, 0, 0x0028, 4, 1, 1, .w1c, 0x0⟩
def F.TIME_FLT_STEPPED : Fld := ⟨2, 0, 0x0028, 4, 0, 1, .w1c, 0x0⟩
def R.TIME_FLT : RegDesc := ⟨2, 0, 0x0028, 4, 1, [F.TIME_FLT_TIN_OVF, F.TIME_FLT_TOUT_LATE, F.TIME_FLT_PDELAY_LOST, F.TIME_FLT_FADJ_LIMIT, F.TIME_FLT_HOLD_EXCEEDED, F.TIME_FLT_SYNC_LOSS, F.TIME_FLT_STEP_OUTLIER, F.TIME_FLT_STEPPED]⟩

/-! TIME_IEN: offset 0x002C, reset by device reset. -/
def F.TIME_IEN_IEN : Fld := ⟨2, 0, 0x002C, 4, 0, 8, .rw, 0x0⟩
def R.TIME_IEN : RegDesc := ⟨2, 0, 0x002C, 4, 1, [F.TIME_IEN_IEN]⟩

/-! TIME_MBX_CTL: offset 0x0030, reset by device reset. -/
def F.TIME_MBX_CTL_VALID : Fld := ⟨2, 0, 0x0030, 4, 31, 1, .ro, 0x0⟩
def F.TIME_MBX_CTL_BUSY : Fld := ⟨2, 0, 0x0030, 4, 30, 1, .ro, 0x0⟩
def F.TIME_MBX_CTL_ERR : Fld := ⟨2, 0, 0x0030, 4, 29, 1, .ro, 0x0⟩
def F.TIME_MBX_CTL_CMD : Fld := ⟨2, 0, 0x0030, 4, 0, 4, .wo, 0x0⟩
def R.TIME_MBX_CTL : RegDesc := ⟨2, 0, 0x0030, 4, 1, [F.TIME_MBX_CTL_VALID, F.TIME_MBX_CTL_BUSY, F.TIME_MBX_CTL_ERR, F.TIME_MBX_CTL_CMD]⟩

/-! TIME_MBX_D: offset 0x0034, 4 registers 0x4 apart, reset by device reset. -/
def F.TIME_MBX_D_VAL : Fld := ⟨2, 0, 0x0034, 4, 0, 32, .rw, 0x0⟩
def R.TIME_MBX_D : RegDesc := ⟨2, 0, 0x0034, 4, 4, [F.TIME_MBX_D_VAL]⟩

/-! TIME_CNTOVF: offset 0x0048, reset by device reset. -/
def F.TIME_CNTOVF_TOUT_OVF : Fld := ⟨2, 0, 0x0048, 4, 17, 8, .w1c, 0x0⟩
def F.TIME_CNTOVF_TIN_OVF : Fld := ⟨2, 0, 0x0048, 4, 9, 8, .w1c, 0x0⟩
def F.TIME_CNTOVF_PORT_OVF : Fld := ⟨2, 0, 0x0048, 4, 1, 8, .w1c, 0x0⟩
def F.TIME_CNTOVF_DEV_OVF : Fld := ⟨2, 0, 0x0048, 4, 0, 1, .w1c, 0x0⟩
def R.TIME_CNTOVF : RegDesc := ⟨2, 0, 0x0048, 4, 1, [F.TIME_CNTOVF_TOUT_OVF, F.TIME_CNTOVF_TIN_OVF, F.TIME_CNTOVF_PORT_OVF, F.TIME_CNTOVF_DEV_OVF]⟩

/-! TIME_SEL: offset 0x0100, reset by device reset. -/
def F.TIME_SEL_KIND : Fld := ⟨2, 0, 0x0100, 4, 4, 2, .rw, 0x0⟩
def F.TIME_SEL_INDEX : Fld := ⟨2, 0, 0x0100, 4, 0, 3, .rw, 0x0⟩
def R.TIME_SEL : RegDesc := ⟨2, 0, 0x0100, 4, 1, [F.TIME_SEL_KIND, F.TIME_SEL_INDEX]⟩

/-! TIME_P_CTRL: offset 0x0200, reset by device reset. -/
def F.TIME_P_CTRL_PDELAY_MAX : Fld := ⟨2, 1, 0x0200, 4, 16, 16, .rw, 0xC350⟩
def F.TIME_P_CTRL_LOG_PDELAY : Fld := ⟨2, 1, 0x0200, 4, 8, 4, .rw, 0x0⟩
def F.TIME_P_CTRL_PD_DA : Fld := ⟨2, 1, 0x0200, 4, 4, 1, .rw, 0x0⟩
def F.TIME_P_CTRL_RESP_TWO_STEP : Fld := ⟨2, 1, 0x0200, 4, 3, 1, .rw, 0x0⟩
def F.TIME_P_CTRL_PDELAY_EN : Fld := ⟨2, 1, 0x0200, 4, 2, 1, .rw, 0x0⟩
def F.TIME_P_CTRL_TC_EN : Fld := ⟨2, 1, 0x0200, 4, 1, 1, .rw, 0x0⟩
def R.TIME_P_CTRL : RegDesc := ⟨2, 1, 0x0200, 4, 1, [F.TIME_P_CTRL_PDELAY_MAX, F.TIME_P_CTRL_LOG_PDELAY, F.TIME_P_CTRL_PD_DA, F.TIME_P_CTRL_RESP_TWO_STEP, F.TIME_P_CTRL_PDELAY_EN, F.TIME_P_CTRL_TC_EN]⟩

/-! TIME_P_ASYM: offset 0x0204, reset by device reset. -/
def F.TIME_P_ASYM_ASYM : Fld := ⟨2, 1, 0x0204, 4, 0, 32, .rw, 0x0⟩
def R.TIME_P_ASYM : RegDesc := ⟨2, 1, 0x0204, 4, 1, [F.TIME_P_ASYM_ASYM]⟩

/-! TIME_P_RXTRIM: offset 0x0208, reset by device reset. -/
def F.TIME_P_RXTRIM_TRIM : Fld := ⟨2, 1, 0x0208, 4, 0, 16, .rw, 0x0⟩
def R.TIME_P_RXTRIM : RegDesc := ⟨2, 1, 0x0208, 4, 1, [F.TIME_P_RXTRIM_TRIM]⟩

/-! TIME_P_TXTRIM: offset 0x020C, reset by device reset. -/
def F.TIME_P_TXTRIM_TRIM : Fld := ⟨2, 1, 0x020C, 4, 0, 16, .rw, 0x0⟩
def R.TIME_P_TXTRIM : RegDesc := ⟨2, 1, 0x020C, 4, 1, [F.TIME_P_TXTRIM_TRIM]⟩

/-! TIME_P_MLD: offset 0x0210, reset by device reset. -/
def F.TIME_P_MLD_MLD : Fld := ⟨2, 1, 0x0210, 4, 0, 32, .ro, 0x0⟩
def R.TIME_P_MLD : RegDesc := ⟨2, 1, 0x0210, 4, 1, [F.TIME_P_MLD_MLD]⟩

/-! TIME_P_STAT: offset 0x0214, reset by device reset. -/
def F.TIME_P_STAT_PD_VALID : Fld := ⟨2, 1, 0x0214, 4, 1, 1, .ro, 0x0⟩
def F.TIME_P_STAT_PD_LOST : Fld := ⟨2, 1, 0x0214, 4, 0, 1, .w1c, 0x0⟩
def R.TIME_P_STAT : RegDesc := ⟨2, 1, 0x0214, 4, 1, [F.TIME_P_STAT_PD_VALID, F.TIME_P_STAT_PD_LOST]⟩

/-! TIME_TOUT_CTRL: offset 0x0200, reset by device reset. -/
def F.TIME_TOUT_CTRL_MIN_TQ : Fld := ⟨2, 2, 0x0200, 4, 6, 2, .rw, 0x3⟩
def F.TIME_TOUT_CTRL_POL : Fld := ⟨2, 2, 0x0200, 4, 5, 1, .rw, 0x0⟩
def F.TIME_TOUT_CTRL_ARM : Fld := ⟨2, 2, 0x0200, 4, 4, 1, .rw, 0x0⟩
def F.TIME_TOUT_CTRL_MODE : Fld := ⟨2, 2, 0x0200, 4, 0, 2, .rw, 0x0⟩
def R.TIME_TOUT_CTRL : RegDesc := ⟨2, 2, 0x0200, 4, 1, [F.TIME_TOUT_CTRL_MIN_TQ, F.TIME_TOUT_CTRL_POL, F.TIME_TOUT_CTRL_ARM, F.TIME_TOUT_CTRL_MODE]⟩

/-! TIME_TOUT_PERIOD: offset 0x0204, reset by device reset. -/
def F.TIME_TOUT_PERIOD_VAL : Fld := ⟨2, 2, 0x0204, 4, 0, 32, .rw, 0x3B9ACA00⟩
def R.TIME_TOUT_PERIOD : RegDesc := ⟨2, 2, 0x0204, 4, 1, [F.TIME_TOUT_PERIOD_VAL]⟩

/-! TIME_TOUT_WIDTH: offset 0x0208, reset by device reset. -/
def F.TIME_TOUT_WIDTH_VAL : Fld := ⟨2, 2, 0x0208, 4, 0, 32, .rw, 0xF4240⟩
def R.TIME_TOUT_WIDTH : RegDesc := ⟨2, 2, 0x0208, 4, 1, [F.TIME_TOUT_WIDTH_VAL]⟩

/-! TIME_TOUT_STAT: offset 0x020C, reset by device reset. -/
def F.TIME_TOUT_STAT_ARM_ERR : Fld := ⟨2, 2, 0x020C, 4, 3, 1, .w1c, 0x0⟩
def F.TIME_TOUT_STAT_SUPP : Fld := ⟨2, 2, 0x020C, 4, 2, 1, .w1c, 0x0⟩
def F.TIME_TOUT_STAT_SKIP : Fld := ⟨2, 2, 0x020C, 4, 1, 1, .w1c, 0x0⟩
def F.TIME_TOUT_STAT_LATE : Fld := ⟨2, 2, 0x020C, 4, 0, 1, .w1c, 0x0⟩
def R.TIME_TOUT_STAT : RegDesc := ⟨2, 2, 0x020C, 4, 1, [F.TIME_TOUT_STAT_ARM_ERR, F.TIME_TOUT_STAT_SUPP, F.TIME_TOUT_STAT_SKIP, F.TIME_TOUT_STAT_LATE]⟩

/-! TIME_TIN_CTRL: offset 0x0200, reset by device reset. -/
def F.TIME_TIN_CTRL_EDGE : Fld := ⟨2, 3, 0x0200, 4, 0, 2, .rw, 0x0⟩
def R.TIME_TIN_CTRL : RegDesc := ⟨2, 3, 0x0200, 4, 1, [F.TIME_TIN_CTRL_EDGE]⟩

/-! TIME_TIN_STAT: offset 0x0204, reset by device reset. -/
def F.TIME_TIN_STAT_LEVEL : Fld := ⟨2, 3, 0x0204, 4, 8, 5, .ro, 0x0⟩
def F.TIME_TIN_STAT_CLOSE : Fld := ⟨2, 3, 0x0204, 4, 1, 1, .w1c, 0x0⟩
def F.TIME_TIN_STAT_OVF : Fld := ⟨2, 3, 0x0204, 4, 0, 1, .w1c, 0x0⟩
def R.TIME_TIN_STAT : RegDesc := ⟨2, 3, 0x0204, 4, 1, [F.TIME_TIN_STAT_LEVEL, F.TIME_TIN_STAT_CLOSE, F.TIME_TIN_STAT_OVF]⟩

/-- Every register of the TIME block. -/
def regsTIME : List RegDesc := [
  R.TIME_CTRL, R.TIME_STAT, R.TIME_OFFSET, R.TIME_FADJ, R.TIME_FADJ_SET, R.TIME_GAIN,
  R.TIME_LOCK, R.TIME_STEPTHR, R.TIME_HOLD, R.TIME_UTCOFS, R.TIME_FLT, R.TIME_IEN,
  R.TIME_MBX_CTL, R.TIME_MBX_D, R.TIME_CNTOVF, R.TIME_SEL, R.TIME_P_CTRL, R.TIME_P_ASYM,
  R.TIME_P_RXTRIM, R.TIME_P_TXTRIM, R.TIME_P_MLD, R.TIME_P_STAT, R.TIME_TOUT_CTRL, R.TIME_TOUT_PERIOD,
  R.TIME_TOUT_WIDTH, R.TIME_TOUT_STAT, R.TIME_TIN_CTRL, R.TIME_TIN_STAT]

def C.TIME_SYNC_USED : Ctr := ⟨2, 0, 0x0400, 0x0, F.TIME_CNTOVF_DEV_OVF, .device, none⟩
def C.TIME_SYNC_OUTLIER : Ctr := ⟨2, 0, 0x0408, 0x0, F.TIME_CNTOVF_DEV_OVF, .device, none⟩
def C.TIME_STEPS : Ctr := ⟨2, 0, 0x0410, 0x0, F.TIME_CNTOVF_DEV_OVF, .device, none⟩
def C.TIME_HOLDOVER_ENTRIES : Ctr := ⟨2, 0, 0x0418, 0x0, F.TIME_CNTOVF_DEV_OVF, .device, none⟩
def C.TIME_P_SYNC_CORR : Ctr := ⟨2, 0, 0x0800, 0x40, F.TIME_CNTOVF_PORT_OVF, .byIndex, none⟩
def C.TIME_P_FU_CORR : Ctr := ⟨2, 0, 0x0808, 0x40, F.TIME_CNTOVF_PORT_OVF, .byIndex, none⟩
def C.TIME_P_FU_UNMATCHED : Ctr := ⟨2, 0, 0x0810, 0x40, F.TIME_CNTOVF_PORT_OVF, .byIndex, none⟩
def C.TIME_P_FU_EVICT : Ctr := ⟨2, 0, 0x0818, 0x40, F.TIME_CNTOVF_PORT_OVF, .byIndex, none⟩
def C.TIME_P_CORR_SAT : Ctr := ⟨2, 0, 0x0820, 0x40, F.TIME_CNTOVF_PORT_OVF, .byIndex, none⟩
def C.TIME_P_CORR_NOLD : Ctr := ⟨2, 0, 0x0828, 0x40, F.TIME_CNTOVF_PORT_OVF, .byIndex, none⟩
def C.TIME_P_PDREQ_TX : Ctr := ⟨2, 0, 0x0830, 0x40, F.TIME_CNTOVF_PORT_OVF, .byIndex, none⟩
def C.TIME_P_PDRESP_RX : Ctr := ⟨2, 0, 0x0838, 0x40, F.TIME_CNTOVF_PORT_OVF, .byIndex, none⟩
def C.TIME_TIN_CAPTURED : Ctr := ⟨2, 0, 0x0A00, 0x10, F.TIME_CNTOVF_TIN_OVF, .byIndex, none⟩
def C.TIME_TIN_DROPPED : Ctr := ⟨2, 0, 0x0A08, 0x10, F.TIME_CNTOVF_TIN_OVF, .byIndex, none⟩
def C.TIME_TOUT_PULSES : Ctr := ⟨2, 0, 0x0A80, 0x10, F.TIME_CNTOVF_TOUT_OVF, .byIndex, none⟩
def C.TIME_TOUT_SKIPPED : Ctr := ⟨2, 0, 0x0A88, 0x10, F.TIME_CNTOVF_TOUT_OVF, .byIndex, none⟩

end Sys2Proof.Machine
end

