-- ==== Sys2Proof/Machine/RegsAon.lean ====
section
/-! DEFINITION. The AON register block (block 16) as the register tables of spec/17_clocks_reset_startup.md give it: every field with its
bits, access and reset value (F), every register (R), and the statistics counters of its banks (C). -/

namespace Sys2Proof.Machine

/-! AON_STAT: offset 0x0004, reset by loss of VBAT. -/
def F.AON_STAT_VALID : Fld := ⟨16, 0, 0x0004, 4, 1, 1, .sh, 0x0⟩
def F.AON_STAT_OSC_OK : Fld := ⟨16, 0, 0x0004, 4, 0, 1, .sh, 0x0⟩
def R.AON_STAT : RegDesc := ⟨16, 0, 0x0004, 4, 1, [F.AON_STAT_VALID, F.AON_STAT_OSC_OK]⟩

/-! AON_FLT: offset 0x0008, reset by device reset. -/
def F.AON_FLT_VBAT_LOST : Fld := ⟨16, 0, 0x0008, 4, 1, 1, .w1c, 0x0⟩
def F.AON_FLT_WQ_FULL : Fld := ⟨16, 0, 0x0008, 4, 0, 1, .w1c, 0x0⟩
def R.AON_FLT : RegDesc := ⟨16, 0, 0x0008, 4, 1, [F.AON_FLT_VBAT_LOST, F.AON_FLT_WQ_FULL]⟩

/-! AON_IEN: offset 0x000C, reset by device reset. -/
def F.AON_IEN_IEN : Fld := ⟨16, 0, 0x000C, 4, 0, 2, .rw, 0x0⟩
def R.AON_IEN : RegDesc := ⟨16, 0, 0x000C, 4, 1, [F.AON_IEN_IEN]⟩

/-! AON_WPEND: offset 0x0010, reset by device reset. -/
def F.AON_WPEND_WPEND : Fld := ⟨16, 0, 0x0010, 4, 0, 1, .ro, 0x0⟩
def R.AON_WPEND : RegDesc := ⟨16, 0, 0x0010, 4, 1, [F.AON_WPEND_WPEND]⟩

/-! AON_RST_CAUSE: offset 0x0018, reset by loss of VBAT. -/
def F.AON_RST_CAUSE_CAUSE : Fld := ⟨16, 0, 0x0018, 4, 0, 9, .sh, 0x2⟩
def R.AON_RST_CAUSE : RegDesc := ⟨16, 0, 0x0018, 4, 1, [F.AON_RST_CAUSE_CAUSE]⟩

/-! AON_BOOT: offset 0x001C, reset by loss of VBAT. -/
def F.AON_BOOT_FORCE_RECOV : Fld := ⟨16, 0, 0x001C, 4, 6, 1, .sh, 0x0⟩
def F.AON_BOOT_BAD : Fld := ⟨16, 0, 0x001C, 4, 4, 2, .sh, 0x0⟩
def F.AON_BOOT_TRIED : Fld := ⟨16, 0, 0x001C, 4, 2, 1, .sh, 0x0⟩
def F.AON_BOOT_TRIAL : Fld := ⟨16, 0, 0x001C, 4, 1, 1, .sh, 0x0⟩
def F.AON_BOOT_PREF : Fld := ⟨16, 0, 0x001C, 4, 0, 1, .sh, 0x0⟩
def R.AON_BOOT : RegDesc := ⟨16, 0, 0x001C, 4, 1, [F.AON_BOOT_FORCE_RECOV, F.AON_BOOT_BAD, F.AON_BOOT_TRIED, F.AON_BOOT_TRIAL, F.AON_BOOT_PREF]⟩

/-! AON_PWR: offset 0x0020, reset by loss of VBAT. -/
def F.AON_PWR_KEY : Fld := ⟨16, 0, 0x0020, 4, 16, 16, .wo, 0x0⟩
def F.AON_PWR_ENTER : Fld := ⟨16, 0, 0x0020, 4, 0, 1, .wo, 0x0⟩
def R.AON_PWR : RegDesc := ⟨16, 0, 0x0020, 4, 1, [F.AON_PWR_KEY, F.AON_PWR_ENTER]⟩

/-! AON_MBX_CTL: offset 0x0030, reset by device reset. -/
def F.AON_MBX_CTL_VALID : Fld := ⟨16, 0, 0x0030, 4, 31, 1, .ro, 0x0⟩
def F.AON_MBX_CTL_BUSY : Fld := ⟨16, 0, 0x0030, 4, 30, 1, .ro, 0x0⟩
def F.AON_MBX_CTL_ERR : Fld := ⟨16, 0, 0x0030, 4, 29, 1, .ro, 0x0⟩
def F.AON_MBX_CTL_CMD : Fld := ⟨16, 0, 0x0030, 4, 0, 4, .wo, 0x0⟩
def R.AON_MBX_CTL : RegDesc := ⟨16, 0, 0x0030, 4, 1, [F.AON_MBX_CTL_VALID, F.AON_MBX_CTL_BUSY, F.AON_MBX_CTL_ERR, F.AON_MBX_CTL_CMD]⟩

/-! AON_SCRATCH: offset 0x0050, 4 registers 0x4 apart, reset by loss of VBAT. -/
def F.AON_SCRATCH_VALUE : Fld := ⟨16, 0, 0x0050, 4, 0, 32, .sh, 0x0⟩
def R.AON_SCRATCH : RegDesc := ⟨16, 0, 0x0050, 4, 4, [F.AON_SCRATCH_VALUE]⟩

/-- Every register of the AON block. -/
def regsAON : List RegDesc := [
  R.AON_STAT, R.AON_FLT, R.AON_IEN, R.AON_WPEND, R.AON_RST_CAUSE, R.AON_BOOT,
  R.AON_PWR, R.AON_MBX_CTL, R.AON_SCRATCH]


end Sys2Proof.Machine
end

