-- ==== Sys2Proof/Machine/RegsKeys.lean ====
section
/-! DEFINITION. The KEYS register block (block 15) as the register tables of spec/15_keys_and_trust.md give it: every field with its
bits, access and reset value (F), every register (R), and the statistics counters of its banks (C). -/

namespace Sys2Proof.Machine

/-! KEYS_CTRL: offset 0x0000, reset by device reset. -/
def F.KEYS_CTRL_LOCK : Fld := ⟨15, 0, 0x0000, 4, 31, 1, .wl, 0x0⟩
def F.KEYS_CTRL_ENFORCE : Fld := ⟨15, 0, 0x0000, 4, 0, 1, .rw, 0x0⟩
def R.KEYS_CTRL : RegDesc := ⟨15, 0, 0x0000, 4, 1, [F.KEYS_CTRL_LOCK, F.KEYS_CTRL_ENFORCE]⟩

/-! KEYS_STAT: offset 0x0004, reset by device reset. -/
def F.KEYS_STAT_READY : Fld := ⟨15, 0, 0x0004, 4, 31, 1, .ro, 0x0⟩
def F.KEYS_STAT_ID_READY : Fld := ⟨15, 0, 0x0004, 4, 30, 1, .ro, 0x0⟩
def F.KEYS_STAT_ROOT_BURNED : Fld := ⟨15, 0, 0x0004, 4, 29, 1, .ro, 0x0⟩
def F.KEYS_STAT_KTK_EXPORTED : Fld := ⟨15, 0, 0x0004, 4, 28, 1, .ro, 0x0⟩
def F.KEYS_STAT_VBAT_LOST : Fld := ⟨15, 0, 0x0004, 4, 27, 1, .ro, 0x0⟩
def F.KEYS_STAT_SECRET_LOST : Fld := ⟨15, 0, 0x0004, 4, 26, 1, .ro, 0x0⟩
def F.KEYS_STAT_EXPORTED : Fld := ⟨15, 0, 0x0004, 4, 25, 1, .ro, 0x0⟩
def F.KEYS_STAT_IMPORTED : Fld := ⟨15, 0, 0x0004, 4, 24, 1, .ro, 0x0⟩
def F.KEYS_STAT_FLOOR_USED : Fld := ⟨15, 0, 0x0004, 4, 16, 7, .ro, 0x0⟩
def F.KEYS_STAT_LC_PEND : Fld := ⟨15, 0, 0x0004, 4, 8, 3, .ro, 0x7⟩
def F.KEYS_STAT_LC : Fld := ⟨15, 0, 0x0004, 4, 0, 3, .ro, 0x0⟩
def R.KEYS_STAT : RegDesc := ⟨15, 0, 0x0004, 4, 1, [F.KEYS_STAT_READY, F.KEYS_STAT_ID_READY, F.KEYS_STAT_ROOT_BURNED, F.KEYS_STAT_KTK_EXPORTED, F.KEYS_STAT_VBAT_LOST, F.KEYS_STAT_SECRET_LOST, F.KEYS_STAT_EXPORTED, F.KEYS_STAT_IMPORTED, F.KEYS_STAT_FLOOR_USED, F.KEYS_STAT_LC_PEND, F.KEYS_STAT_LC]⟩

/-! KEYS_FLT: offset 0x0008, reset by device reset. -/
def F.KEYS_FLT_STORE_REFUSED : Fld := ⟨15, 0, 0x0008, 4, 6, 1, .w1c, 0x0⟩
def F.KEYS_FLT_TAMPER : Fld := ⟨15, 0, 0x0008, 4, 5, 1, .w1c, 0x0⟩
def F.KEYS_FLT_UNAPPROVED : Fld := ⟨15, 0, 0x0008, 4, 4, 1, .w1c, 0x0⟩
def F.KEYS_FLT_ORPHANED : Fld := ⟨15, 0, 0x0008, 4, 3, 1, .w1c, 0x0⟩
def F.KEYS_FLT_SLOT_BAD : Fld := ⟨15, 0, 0x0008, 4, 2, 1, .w1c, 0x0⟩
def F.KEYS_FLT_MSG_REFUSED : Fld := ⟨15, 0, 0x0008, 4, 1, 1, .w1c, 0x0⟩
def F.KEYS_FLT_CMD_REFUSED : Fld := ⟨15, 0, 0x0008, 4, 0, 1, .w1c, 0x0⟩
def R.KEYS_FLT : RegDesc := ⟨15, 0, 0x0008, 4, 1, [F.KEYS_FLT_STORE_REFUSED, F.KEYS_FLT_TAMPER, F.KEYS_FLT_UNAPPROVED, F.KEYS_FLT_ORPHANED, F.KEYS_FLT_SLOT_BAD, F.KEYS_FLT_MSG_REFUSED, F.KEYS_FLT_CMD_REFUSED]⟩

/-! KEYS_IEN: offset 0x000C, reset by device reset. -/
def F.KEYS_IEN_IEN : Fld := ⟨15, 0, 0x000C, 4, 0, 7, .rw, 0x0⟩
def R.KEYS_IEN : RegDesc := ⟨15, 0, 0x000C, 4, 1, [F.KEYS_IEN_IEN]⟩

/-! KEYS_TAMP: offset 0x0010, reset by loss of VBAT. -/
def F.KEYS_TAMP_LEVEL : Fld := ⟨15, 0, 0x0010, 4, 8, 2, .sh, 0x3⟩
def F.KEYS_TAMP_LATCH : Fld := ⟨15, 0, 0x0010, 4, 4, 2, .sh, 0x0⟩
def F.KEYS_TAMP_EN : Fld := ⟨15, 0, 0x0010, 4, 0, 2, .sh, 0x0⟩
def R.KEYS_TAMP : RegDesc := ⟨15, 0, 0x0010, 4, 1, [F.KEYS_TAMP_LEVEL, F.KEYS_TAMP_LATCH, F.KEYS_TAMP_EN]⟩

/-! KEYS_COUNTER: offset 0x0014, reset by device reset and loss of VBAT. -/
def F.KEYS_COUNTER_VAL : Fld := ⟨15, 0, 0x0014, 4, 0, 32, .ro, 0x0⟩
def R.KEYS_COUNTER : RegDesc := ⟨15, 0, 0x0014, 4, 1, [F.KEYS_COUNTER_VAL]⟩

/-! KEYS_COUNTER_CONF: offset 0x0018, reset by device reset and loss of VBAT. -/
def F.KEYS_COUNTER_CONF_VAL : Fld := ⟨15, 0, 0x0018, 4, 0, 32, .sh, 0x0⟩
def R.KEYS_COUNTER_CONF : RegDesc := ⟨15, 0, 0x0018, 4, 1, [F.KEYS_COUNTER_CONF_VAL]⟩

/-! KEYS_ARG: offset 0x001C, reset by device reset. -/
def F.KEYS_ARG_ARG : Fld := ⟨15, 0, 0x001C, 4, 0, 8, .rw, 0x0⟩
def R.KEYS_ARG : RegDesc := ⟨15, 0, 0x001C, 4, 1, [F.KEYS_ARG_ARG]⟩

/-! KEYS_DEVID: offset 0x0020, 4 registers 0x4 apart, reset by device reset. -/
def F.KEYS_DEVID_ID : Fld := ⟨15, 0, 0x0020, 4, 0, 32, .ro, 0x0⟩
def R.KEYS_DEVID : RegDesc := ⟨15, 0, 0x0020, 4, 4, [F.KEYS_DEVID_ID]⟩

/-! KEYS_MBX_CTL: offset 0x0030, reset by device reset. -/
def F.KEYS_MBX_CTL_VALID : Fld := ⟨15, 0, 0x0030, 4, 31, 1, .ro, 0x0⟩
def F.KEYS_MBX_CTL_BUSY : Fld := ⟨15, 0, 0x0030, 4, 30, 1, .ro, 0x0⟩
def F.KEYS_MBX_CTL_ERR : Fld := ⟨15, 0, 0x0030, 4, 29, 1, .ro, 0x0⟩
def F.KEYS_MBX_CTL_CMD : Fld := ⟨15, 0, 0x0030, 4, 0, 4, .wo, 0x0⟩
def R.KEYS_MBX_CTL : RegDesc := ⟨15, 0, 0x0030, 4, 1, [F.KEYS_MBX_CTL_VALID, F.KEYS_MBX_CTL_BUSY, F.KEYS_MBX_CTL_ERR, F.KEYS_MBX_CTL_CMD]⟩

/-! KEYS_MBX_D: offset 0x0034, 4 registers 0x4 apart, reset by device reset. -/
def F.KEYS_MBX_D_VAL : Fld := ⟨15, 0, 0x0034, 4, 0, 32, .ro, 0x0⟩
def R.KEYS_MBX_D : RegDesc := ⟨15, 0, 0x0034, 4, 4, [F.KEYS_MBX_D_VAL]⟩

/-! KEYS_CNTOVF: offset 0x0048, reset by device reset. -/
def F.KEYS_CNTOVF_DEV_OVF : Fld := ⟨15, 0, 0x0048, 4, 0, 1, .w1c, 0x0⟩
def R.KEYS_CNTOVF : RegDesc := ⟨15, 0, 0x0048, 4, 1, [F.KEYS_CNTOVF_DEV_OVF]⟩

/-! KEYS_ADDR_HI: offset 0x0050, reset by device reset. -/
def F.KEYS_ADDR_HI_ADDR : Fld := ⟨15, 0, 0x0050, 4, 0, 4, .rw, 0x8⟩
def R.KEYS_ADDR_HI : RegDesc := ⟨15, 0, 0x0050, 4, 1, [F.KEYS_ADDR_HI_ADDR]⟩

/-! KEYS_ADDR_LO: offset 0x0054, reset by device reset. -/
def F.KEYS_ADDR_LO_ADDR : Fld := ⟨15, 0, 0x0054, 4, 6, 26, .rw, 0x0⟩
def R.KEYS_ADDR_LO : RegDesc := ⟨15, 0, 0x0054, 4, 1, [F.KEYS_ADDR_LO_ADDR]⟩

/-! KEYS_LEN: offset 0x0058, reset by device reset. -/
def F.KEYS_LEN_LEN : Fld := ⟨15, 0, 0x0058, 4, 0, 16, .rw, 0x0⟩
def R.KEYS_LEN : RegDesc := ⟨15, 0, 0x0058, 4, 1, [F.KEYS_LEN_LEN]⟩

/-! KEYS_IDPK_S: offset 0x0060, 8 registers 0x4 apart, reset by device reset. -/
def F.KEYS_IDPK_S_VAL : Fld := ⟨15, 0, 0x0060, 4, 0, 32, .ro, 0x0⟩
def R.KEYS_IDPK_S : RegDesc := ⟨15, 0, 0x0060, 4, 8, [F.KEYS_IDPK_S_VAL]⟩

/-! KEYS_IDPK_F: offset 0x0080, 8 registers 0x4 apart, reset by device reset. -/
def F.KEYS_IDPK_F_VAL : Fld := ⟨15, 0, 0x0080, 4, 0, 32, .ro, 0x0⟩
def R.KEYS_IDPK_F : RegDesc := ⟨15, 0, 0x0080, 4, 8, [F.KEYS_IDPK_F_VAL]⟩

/-! KEYS_ROOT_HASH: offset 0x00A0, 8 registers 0x4 apart, reset by device reset. -/
def F.KEYS_ROOT_HASH_VAL : Fld := ⟨15, 0, 0x00A0, 4, 0, 32, .ro, 0x0⟩
def R.KEYS_ROOT_HASH : RegDesc := ⟨15, 0, 0x00A0, 4, 8, [F.KEYS_ROOT_HASH_VAL]⟩

/-! KEYS_FLOOR: offset 0x00C0, reset by device reset. -/
def F.KEYS_FLOOR_FLOOR : Fld := ⟨15, 0, 0x00C0, 4, 0, 32, .ro, 0x0⟩
def R.KEYS_FLOOR : RegDesc := ⟨15, 0, 0x00C0, 4, 1, [F.KEYS_FLOOR_FLOOR]⟩

/-! KEYS_SEL: offset 0x0100, reset by device reset. -/
def F.KEYS_SEL_KIND : Fld := ⟨15, 0, 0x0100, 4, 8, 2, .rw, 0x0⟩
def F.KEYS_SEL_INDEX : Fld := ⟨15, 0, 0x0100, 4, 0, 8, .rw, 0x0⟩
def R.KEYS_SEL : RegDesc := ⟨15, 0, 0x0100, 4, 1, [F.KEYS_SEL_KIND, F.KEYS_SEL_INDEX]⟩

/-! KEYS_K_STAT: offset 0x0200, reset by device reset. -/
def F.KEYS_K_STAT_PARENT : Fld := ⟨15, 1, 0x0200, 4, 24, 8, .ro, 0x0⟩
def F.KEYS_K_STAT_DEPTH : Fld := ⟨15, 1, 0x0200, 4, 16, 4, .ro, 0x0⟩
def F.KEYS_K_STAT_TYPE : Fld := ⟨15, 1, 0x0200, 4, 8, 3, .ro, 0x0⟩
def F.KEYS_K_STAT_STATE : Fld := ⟨15, 1, 0x0200, 4, 0, 3, .ro, 0x0⟩
def R.KEYS_K_STAT : RegDesc := ⟨15, 1, 0x0200, 4, 1, [F.KEYS_K_STAT_PARENT, F.KEYS_K_STAT_DEPTH, F.KEYS_K_STAT_TYPE, F.KEYS_K_STAT_STATE]⟩

/-! KEYS_K_USE: offset 0x0204, reset by device reset. -/
def F.KEYS_K_USE_KEY_LEN : Fld := ⟨15, 1, 0x0204, 4, 16, 6, .ro, 0x0⟩
def F.KEYS_K_USE_USE : Fld := ⟨15, 1, 0x0204, 4, 0, 16, .ro, 0x0⟩
def R.KEYS_K_USE : RegDesc := ⟨15, 1, 0x0204, 4, 1, [F.KEYS_K_USE_KEY_LEN, F.KEYS_K_USE_USE]⟩

/-! KEYS_K_ID: offset 0x0208, reset by device reset. -/
def F.KEYS_K_ID_KEY_ID : Fld := ⟨15, 1, 0x0208, 4, 0, 32, .ro, 0x0⟩
def R.KEYS_K_ID : RegDesc := ⟨15, 1, 0x0208, 4, 1, [F.KEYS_K_ID_KEY_ID]⟩

/-! KEYS_K_GEN: offset 0x020C, reset by device reset. -/
def F.KEYS_K_GEN_GEN : Fld := ⟨15, 1, 0x020C, 4, 0, 32, .ro, 0x0⟩
def R.KEYS_K_GEN : RegDesc := ⟨15, 1, 0x020C, 4, 1, [F.KEYS_K_GEN_GEN]⟩

/-! KEYS_K_PK: offset 0x0220, 8 registers 0x4 apart, reset by device reset. -/
def F.KEYS_K_PK_PK : Fld := ⟨15, 1, 0x0220, 4, 0, 32, .ro, 0x0⟩
def R.KEYS_K_PK : RegDesc := ⟨15, 1, 0x0220, 4, 8, [F.KEYS_K_PK_PK]⟩

/-! KEYS_T_STAT: offset 0x0200, reset by device reset. -/
def F.KEYS_T_STAT_SET_OK : Fld := ⟨15, 2, 0x0200, 4, 5, 1, .ro, 0x0⟩
def F.KEYS_T_STAT_IMAGE_OK : Fld := ⟨15, 2, 0x0200, 4, 4, 1, .ro, 0x0⟩
def F.KEYS_T_STAT_SET_REC : Fld := ⟨15, 2, 0x0200, 4, 1, 1, .ro, 0x0⟩
def F.KEYS_T_STAT_IMAGE_REC : Fld := ⟨15, 2, 0x0200, 4, 0, 1, .ro, 0x0⟩
def R.KEYS_T_STAT : RegDesc := ⟨15, 2, 0x0200, 4, 1, [F.KEYS_T_STAT_SET_OK, F.KEYS_T_STAT_IMAGE_OK, F.KEYS_T_STAT_SET_REC, F.KEYS_T_STAT_IMAGE_REC]⟩

/-! KEYS_T_IMG_SIZE: offset 0x0204, reset by device reset. -/
def F.KEYS_T_IMG_SIZE_VAL : Fld := ⟨15, 2, 0x0204, 4, 0, 32, .ro, 0x0⟩
def R.KEYS_T_IMG_SIZE : RegDesc := ⟨15, 2, 0x0204, 4, 1, [F.KEYS_T_IMG_SIZE_VAL]⟩

/-! KEYS_T_SET_SIZE: offset 0x0208, reset by device reset. -/
def F.KEYS_T_SET_SIZE_VAL : Fld := ⟨15, 2, 0x0208, 4, 0, 32, .ro, 0x0⟩
def R.KEYS_T_SET_SIZE : RegDesc := ⟨15, 2, 0x0208, 4, 1, [F.KEYS_T_SET_SIZE_VAL]⟩

/-! KEYS_T_IMG_CNT: offset 0x020C, reset by device reset. -/
def F.KEYS_T_IMG_CNT_VAL : Fld := ⟨15, 2, 0x020C, 4, 0, 32, .ro, 0x0⟩
def R.KEYS_T_IMG_CNT : RegDesc := ⟨15, 2, 0x020C, 4, 1, [F.KEYS_T_IMG_CNT_VAL]⟩

/-! KEYS_T_SET_CNT: offset 0x0210, reset by device reset. -/
def F.KEYS_T_SET_CNT_VAL : Fld := ⟨15, 2, 0x0210, 4, 0, 32, .ro, 0x0⟩
def R.KEYS_T_SET_CNT : RegDesc := ⟨15, 2, 0x0210, 4, 1, [F.KEYS_T_SET_CNT_VAL]⟩

/-! KEYS_T_IMG_D: offset 0x0220, 8 registers 0x4 apart, reset by device reset. -/
def F.KEYS_T_IMG_D_VAL : Fld := ⟨15, 2, 0x0220, 4, 0, 32, .ro, 0x0⟩
def R.KEYS_T_IMG_D : RegDesc := ⟨15, 2, 0x0220, 4, 8, [F.KEYS_T_IMG_D_VAL]⟩

/-! KEYS_T_SET_D: offset 0x0240, 8 registers 0x4 apart, reset by device reset. -/
def F.KEYS_T_SET_D_VAL : Fld := ⟨15, 2, 0x0240, 4, 0, 32, .ro, 0x0⟩
def R.KEYS_T_SET_D : RegDesc := ⟨15, 2, 0x0240, 4, 8, [F.KEYS_T_SET_D_VAL]⟩

/-! KEYS_BN_STAT: offset 0x0200, reset by device reset. -/
def F.KEYS_BN_STAT_SET_OK : Fld := ⟨15, 3, 0x0200, 4, 5, 1, .ro, 0x0⟩
def F.KEYS_BN_STAT_IMAGE_OK : Fld := ⟨15, 3, 0x0200, 4, 4, 1, .ro, 0x0⟩
def F.KEYS_BN_STAT_SET_REC : Fld := ⟨15, 3, 0x0200, 4, 1, 1, .ro, 0x0⟩
def F.KEYS_BN_STAT_IMAGE_REC : Fld := ⟨15, 3, 0x0200, 4, 0, 1, .ro, 0x0⟩
def R.KEYS_BN_STAT : RegDesc := ⟨15, 3, 0x0200, 4, 1, [F.KEYS_BN_STAT_SET_OK, F.KEYS_BN_STAT_IMAGE_OK, F.KEYS_BN_STAT_SET_REC, F.KEYS_BN_STAT_IMAGE_REC]⟩

/-! KEYS_BN_IMG_SIZE: offset 0x0204, reset by device reset. -/
def F.KEYS_BN_IMG_SIZE_VAL : Fld := ⟨15, 3, 0x0204, 4, 0, 32, .ro, 0x0⟩
def R.KEYS_BN_IMG_SIZE : RegDesc := ⟨15, 3, 0x0204, 4, 1, [F.KEYS_BN_IMG_SIZE_VAL]⟩

/-! KEYS_BN_SET_SIZE: offset 0x0208, reset by device reset. -/
def F.KEYS_BN_SET_SIZE_VAL : Fld := ⟨15, 3, 0x0208, 4, 0, 32, .ro, 0x0⟩
def R.KEYS_BN_SET_SIZE : RegDesc := ⟨15, 3, 0x0208, 4, 1, [F.KEYS_BN_SET_SIZE_VAL]⟩

/-! KEYS_BN_IMG_CNT: offset 0x020C, reset by device reset. -/
def F.KEYS_BN_IMG_CNT_VAL : Fld := ⟨15, 3, 0x020C, 4, 0, 32, .ro, 0x0⟩
def R.KEYS_BN_IMG_CNT : RegDesc := ⟨15, 3, 0x020C, 4, 1, [F.KEYS_BN_IMG_CNT_VAL]⟩

/-! KEYS_BN_SET_CNT: offset 0x0210, reset by device reset. -/
def F.KEYS_BN_SET_CNT_VAL : Fld := ⟨15, 3, 0x0210, 4, 0, 32, .ro, 0x0⟩
def R.KEYS_BN_SET_CNT : RegDesc := ⟨15, 3, 0x0210, 4, 1, [F.KEYS_BN_SET_CNT_VAL]⟩

/-! KEYS_BN_IMG_D: offset 0x0220, 8 registers 0x4 apart, reset by device reset. -/
def F.KEYS_BN_IMG_D_VAL : Fld := ⟨15, 3, 0x0220, 4, 0, 32, .ro, 0x0⟩
def R.KEYS_BN_IMG_D : RegDesc := ⟨15, 3, 0x0220, 4, 8, [F.KEYS_BN_IMG_D_VAL]⟩

/-! KEYS_BN_SET_D: offset 0x0240, 8 registers 0x4 apart, reset by device reset. -/
def F.KEYS_BN_SET_D_VAL : Fld := ⟨15, 3, 0x0240, 4, 0, 32, .ro, 0x0⟩
def R.KEYS_BN_SET_D : RegDesc := ⟨15, 3, 0x0240, 4, 8, [F.KEYS_BN_SET_D_VAL]⟩

/-- Every register of the KEYS block. -/
def regsKEYS : List RegDesc := [
  R.KEYS_CTRL, R.KEYS_STAT, R.KEYS_FLT, R.KEYS_IEN, R.KEYS_TAMP, R.KEYS_COUNTER,
  R.KEYS_COUNTER_CONF, R.KEYS_ARG, R.KEYS_DEVID, R.KEYS_MBX_CTL, R.KEYS_MBX_D, R.KEYS_CNTOVF,
  R.KEYS_ADDR_HI, R.KEYS_ADDR_LO, R.KEYS_LEN, R.KEYS_IDPK_S, R.KEYS_IDPK_F, R.KEYS_ROOT_HASH,
  R.KEYS_FLOOR, R.KEYS_SEL, R.KEYS_K_STAT, R.KEYS_K_USE, R.KEYS_K_ID, R.KEYS_K_GEN,
  R.KEYS_K_PK, R.KEYS_T_STAT, R.KEYS_T_IMG_SIZE, R.KEYS_T_SET_SIZE, R.KEYS_T_IMG_CNT, R.KEYS_T_SET_CNT,
  R.KEYS_T_IMG_D, R.KEYS_T_SET_D, R.KEYS_BN_STAT, R.KEYS_BN_IMG_SIZE, R.KEYS_BN_SET_SIZE, R.KEYS_BN_IMG_CNT,
  R.KEYS_BN_SET_CNT, R.KEYS_BN_IMG_D, R.KEYS_BN_SET_D]

def C.KEYS_MSG_APPLIED : Ctr := ⟨15, 0, 0x0400, 0x0, F.KEYS_CNTOVF_DEV_OVF, .device, none⟩
def C.KEYS_MSG_REFUSED : Ctr := ⟨15, 0, 0x0408, 0x0, F.KEYS_CNTOVF_DEV_OVF, .device, none⟩
def C.KEYS_APPROVALS : Ctr := ⟨15, 0, 0x0410, 0x0, F.KEYS_CNTOVF_DEV_OVF, .device, none⟩
def C.KEYS_ATTESTS : Ctr := ⟨15, 0, 0x0418, 0x0, F.KEYS_CNTOVF_DEV_OVF, .device, none⟩
def C.KEYS_MEASURES : Ctr := ⟨15, 0, 0x0420, 0x0, F.KEYS_CNTOVF_DEV_OVF, .device, none⟩
def C.KEYS_MEASURE_FAILS : Ctr := ⟨15, 0, 0x0428, 0x0, F.KEYS_CNTOVF_DEV_OVF, .device, none⟩
def C.KEYS_SLOT_BAD : Ctr := ⟨15, 0, 0x0430, 0x0, F.KEYS_CNTOVF_DEV_OVF, .device, none⟩
def C.KEYS_ORPHANINGS : Ctr := ⟨15, 0, 0x0438, 0x0, F.KEYS_CNTOVF_DEV_OVF, .device, none⟩
def C.KEYS_ZEROISATIONS : Ctr := ⟨15, 0, 0x0440, 0x0, F.KEYS_CNTOVF_DEV_OVF, .device, none⟩
def C.KEYS_IMPORTS : Ctr := ⟨15, 0, 0x0448, 0x0, F.KEYS_CNTOVF_DEV_OVF, .device, none⟩
def C.KEYS_EXPORTS : Ctr := ⟨15, 0, 0x0450, 0x0, F.KEYS_CNTOVF_DEV_OVF, .device, none⟩
def C.KEYS_CONFIRMS : Ctr := ⟨15, 0, 0x0458, 0x0, F.KEYS_CNTOVF_DEV_OVF, .device, none⟩

end Sys2Proof.Machine
end

