-- ==== Sys2Proof/Machine/State.lean ====
section
/-! DEFINITION. The state of the DX512 as plain data: every register, buffer, queue, counter, mode and pin the spec
gives the chip, the commands that wait, and the state after reset. -/

namespace Sys2Proof.Machine

/-- Why the machine would stop with a fault. The DX512 is a block: every error of its spec is a flag, a bus error, an
event record or a reset, all of which are state. No command raises a fault, so the type has no constructor. -/
inductive Fault where
  deriving DecidableEq, Repr

/-- Why a command is not given a meaning. -/
inductive Refusal where
  /-- The model has not reached the command; raised only by an arm of `exec`. Safe: nothing is claimed of it. -/
  | notModelled (mnemonic : String)
  /-- A design-for-test scan or memory test (R441) in a lifecycle state that permits it: the spec states nothing of what it does to the chip. Raised by the meaning
  of JTAG_INSTRUCTION for that operand only. Safe: nothing is claimed of the state after it. -/
  | testScan
  deriving DecidableEq, Repr

/-- A mailbox command in progress (R488): its number, whether it completes or is refused, and the four result words. -/
structure MbxRun where
  cmd : Nat
  ok : Bool
  d0 : Nat
  d1 : Nat
  d2 : Nat
  d3 : Nat
  deriving DecidableEq, Repr

/-! ## Time base (chapter 2) -/

/-- A two-step correction record of an egress port (R68): its key, the correction in 2^-16 ns, and its Sync's ingress
count of TBC edges. -/
structure CorrRec where
  ingress : Nat
  domain : Nat
  srcId : Nat
  seq : Nat
  corr : Int
  syncTbc : Nat
  deriving DecidableEq, Repr

/-- The PTP state of a port: the last valid peer-delay measurements (newest first, in 2^-17 ns), the requests since the
last valid measurement, the sequence number and the request outstanding, when the next request is due (TBC edges), and
the two-step correction records, oldest first. -/
structure PtpPort where
  meas : List Int
  noMeas : Nat
  seq : Nat
  outstanding : Option (Nat × Stamp)
  nextReq : Option Nat
  recs : List CorrRec
  deriving DecidableEq, Repr

/-- A TOUT channel: the start time loaded (ns of device time), the anchor, the period in force and the next instant of its pulses, whether its
ONCE instant was already past and whether its ONCE pulse has started, the count of TBC edges at which the pulse in progress ends, and whether the
output is active. -/
structure ToutSt where
  start : Option Nat
  anchor : Nat
  per : Nat
  next : Nat
  late : Bool
  fired : Bool
  pulseEnd : Option Nat
  active : Bool
  deriving DecidableEq, Repr

/-- A capture of a TIN input (R80). -/
structure TinCap where
  stamp : Stamp
  rising : Bool
  deriving DecidableEq, Repr

/-- A TIN input: its FIFO, oldest first, and the count of TBC edges of the last captured edge. -/
structure TinSt where
  fifo : List TinCap
  last : Option Nat
  deriving DecidableEq, Repr

/-- The time base: device time (R39), the counts of TBC and SYS edges, the servo's integrator and runs (R50, R51), the
values of FADJ applied while LOCKED, newest first (R53), whether the discipline was ever LOCKED, the FADJ in force at
the last write of the effective source, the deadlines of the loss timer and of HOLD_LIMIT in TBC edges, the UTC offset in
force, the write pending (R43), and whether SEC has been incremented by the running count since, the part of a TBC cycle passed since the last TBC edge, in 2^-38 cycles (R48), the step that a command of the mailbox makes at the
next TBC edge (R556), the step notices not yet delivered, with amount, EPOCH and the SYS edge before them (R54), the last writes of TQ, newest first, as SYS edge and the
TQ before, and the ports, TOUT and TIN channels. -/
structure TimeSt where
  sec : Nat
  ns : Nat
  tbc : Nat
  sys : Nat
  integ : Int
  lockRun : Nat
  outRun : Nat
  outlierRun : Nat
  outlierPos : Bool
  lockedFadj : List Int
  everLocked : Bool
  srcFadj : Option Int
  lossAt : Option Nat
  holdAt : Option Nat
  utcEff : Nat
  utcPend : Option Nat
  utcDue : Bool
  secDue : Bool
  phase : Nat
  stepPend : Option Int
  notices : List (Int × Nat × Nat)
  tqLog : List (Nat × Nat)
  ports : Sparse PtpPort
  touts : Sparse ToutSt
  tins : Sparse TinSt
  deriving DecidableEq, Repr

/-! ## Event log (chapter 11) -/

/-- An event in the queue of R344: the SYS edge and the words of its record. -/
structure Event where
  edge : Nat
  src : Nat
  code : Nat
  part : Nat
  sec : Nat
  ns : Nat
  tq : Nat
  epoch : Nat
  p0 : Nat
  p1 : Nat
  p2 : Nat
  sw : Bool
  gap : Bool
  deriving DecidableEq, Repr

/-- A clear in progress (R353): the events that precede it still to drain, and the CLEARED record it ends with. -/
structure ClearRun where
  before : Nat
  refused : Nat
  event : Event
  deriving DecidableEq, Repr

/-- An export in progress (R352): first slot, count, destination. -/
structure ExportRun where
  first : Nat
  cnt : Nat
  addr : Nat
  deriving DecidableEq, Repr

/-- A record being written (R344): its slot, the next word and the words still to write. -/
structure RecordRun where
  slot : Nat
  next : Nat
  words : List Nat
  deriving DecidableEq, Repr

/-- The event log: the events of the present SYS edge in the order of R340, the queue, oldest first, the FULL record that waits (R346), the slots taken by
accepted events (R346), whether a refused event waits to mark GAP (R345), the events refused because the log was full since the last clear, the log SRAM's slots (eight words; an
unlisted slot is unwritten, R349), the words with a double-bit error and those with a single-bit error (slot × 8 + word, R351), the record being written, and the clear and
the export in progress. -/
structure ElogSt where
  offered : List Event
  queue : List Event
  full : Option Event
  taken : Nat
  gapNext : Bool
  refusedFull : Nat
  sram : Sparse (List Nat)
  faulty : List Nat
  single : List Nat
  writing : Option RecordRun
  clearing : Option ClearRun
  exporting : Option ExportRun
  deriving DecidableEq, Repr

/-- The time base after reset: SEC from the AON seconds counter (R45), which is 0 when VBAT has been lost. -/
def TimeSt.reset : TimeSt :=
  { sec := 0, ns := 0, tbc := 0, sys := 0, integ := 0, lockRun := 0, outRun := 0, outlierRun := 0, outlierPos := false,
    lockedFadj := [], everLocked := false, srcFadj := none, lossAt := none, holdAt := none, utcEff := 0, utcPend := none,
    utcDue := false, secDue := false, phase := 0, stepPend := none, notices := [], tqLog := [], ports := [], touts := [], tins := [] }


/-- The event log after reset: every slot unwritten. -/
def ElogSt.reset : ElogSt :=
  { offered := [], queue := [], full := none, taken := 0, gapNext := false, refusedFull := 0, sram := [], faulty := [], single := [], writing := none,
    clearing := none, exporting := none }


/-! ## Partitions and cores (chapter 14) -/

/-- One IMSIC interrupt file (R423): the pending and enabled identities as bits, delivery and threshold. -/
structure ImsicFile where
  pend : Nat
  ena : Nat
  delivery : Nat
  threshold : Nat
  deriving DecidableEq, Repr

/-- The live state of a partition's reset and watchdogs (R427, R434): the SYS edge at which its pulse ends and the causes the
pulse carries, the holds of its two watchdogs, the SYS edge from which the application watchdog counts while it runs, and
whether it has warned. -/
structure PartRes where
  pulseEnd : Option Nat
  causes : Nat
  wdHold : Bool
  lwdHold : Bool
  wdFrom : Option Nat
  warned : Bool
  deriving DecidableEq, Repr

/-- Partitions: the interrupt files (core × 8 + file), reset and watchdogs by partition, and the device watchdog: whether
0x5A has been written, the SYS edge of the last kick, and whether it has warned; and the SYS edge at which each block last sent its interrupt (R498);
and the partitions whose last source of reset has ended at the present SYS edge (R427). -/
structure PartSt where
  imsic : Sparse ImsicFile
  res : Sparse PartRes
  kickStep : Bool
  dwdAt : Nat
  dwdWarned : Bool
  irqAt : Sparse Nat
  leaving : List Nat
  deriving DecidableEq, Repr


/-! ## Angle tracking and window scheduling (chapter 3) -/

/-- A fixed window of a group (R90, R91): its number, the extended angle of its start, the boundary instant in 2^-16 ns of
device time, its INC and its frequency in hertz. -/
structure TideWin where
  n : Nat
  x : Nat
  b : Nat
  inc : Nat
  f : Q
  deriving DecidableEq, Repr

/-- What one evaluation leaves for the evaluations W later (R100): ψ in cycles, f_avg in hertz where defined, REF_OK. -/
structure TideEval where
  psi : Option Q
  favg : Option Q
  refOk : Bool
  deriving DecidableEq, Repr

/-- A reference sample as released: its instant in 2^-16 ns, its value (binary32) and its quality word. -/
structure RefSample where
  t : Nat
  v : Nat
  q : Nat
  deriving DecidableEq, Repr

/-- The regions of a slot in KiB, its code, data and state banks (R187, R201). -/
structure SlotRegions where
  codeBase : Nat
  codeSize : Nat
  dataBase : Nat
  dataSize : Nat
  stateBase : Nat
  stateSize : Nat
  deriving DecidableEq, Repr

/-- An enabled slot of a lane window's tables: table, slot, partition, START and BUDGET in LANE cycles, and whether it runs in the window (R107). -/
structure LaneSlot where
  tab : Nat
  idx : Nat
  part : Nat
  start : Nat
  budget : Nat
  runs : Bool
  deriving DecidableEq, Repr

/-- The lane window in progress of a group: its number, the map of its window (R103), start and end in 2^-16 ns of device time, the SYS edge of its start and
the TQ then, what each partition of the group is to be told of evaluation N (words of R106), the GOOSE input view taken at its start (R199), the channels
bound to the group then with their entries per window and the value A of R167, and their entries of the sample plane (R92, R197), the slots of its
tables, the end of its working part in LANE cycles (R111), and the partitions whose slots have opened. -/
structure LaneWin where
  n : Nat
  map : TideWin
  start : Nat
  stop : Nat
  edge : Nat
  tq : Nat
  d1 : Nat
  d2 : Nat
  d3 : Nat
  d4 : Nat
  d5 : Nat
  d6 : Nat
  goose : Sparse (List Nat)
  chans : Sparse (Nat × Nat)
  plane : Sparse (Nat × Nat)
  slots : List LaneSlot
  workEnd : Nat
  opened : List Nat
  deriving DecidableEq, Repr

/-- The live state of an angle group: the number of the next evaluation, the boundary that it evaluates (extended angle,
instant, and the fraction of 2^-16 ns carried forward, R89), the fixed windows, newest first, the evaluations, newest first,
the consecutive REF_OK and quiet evaluations and those within LOCK_PH, the integrator, f_hold, the evaluation at which the
state was entered, the commands waiting with their SYS edges (R103), the reference samples of A, B and C, newest first, the descriptor words of the
last fixed windows, the next lane window and the one in progress, and whether GEN was cleared
with a lane window in progress. -/
structure TideGrp where
  k : Nat
  x : Nat
  b : Nat
  frac : Q
  wins : List TideWin
  evals : List TideEval
  okRun : Nat
  quietRun : Nat
  lockRun : Nat
  integ : Q
  fHold : Q
  entry : Nat
  cmds : List (Nat × Nat)
  refA : List RefSample
  refB : List RefSample
  refC : List RefSample
  desc : Sparse (List Nat)
  nextWin : Nat
  cur : Option LaneWin
  stopping : Bool
  deriving DecidableEq, Repr

/-- A lockstep mismatch of the present SYS edge: the failed pair, its table, the partition of the slot that it stopped (0 for none), and the spare
assigned (R112). -/
structure PairFail where
  pair : Nat
  tab : Nat
  part : Nat
  spare : Option Nat
  deriving DecidableEq, Repr

/-- Tide: the groups, the lane pairs whose mismatch has dropped the slots of a table, by table: the SYS edge of the
detection; and the SYS edge of the last mismatch with the mismatches of that edge. -/
structure TideSt where
  grps : Sparse TideGrp
  failAt : Sparse Nat
  failEdge : Nat
  fails : List PairFail
  deriving DecidableEq, Repr


/-! ## Protection lanes (chapter 6) -/

/-- A hardware trigger of a pair (R218): on a data address or on the PC. -/
structure LaneTrig where
  onData : Bool
  addr : Nat
  deriving DecidableEq, Repr

/-- A lane pair: its architectural registers (x0 to x31, f0 to f31 as bit patterns, PC, fcsr), the LANE cycles and
instructions since the execution start, when each register's result and the unit of PX.CABS and PX.CARG are ready (R193), the slot and
partition it executes, with whether the partition is executing, its group, its START, the cycle count at which it is late and its regions, all as
loaded by the preamble (R194), its window descriptor, slot status block and staging vector, the SYS edge at which a spare's attachment completes (R211), whether
it is halted, a debugger is attached, a resume waits for the next preamble, its hardware triggers, and what its last preamble replaced: the octets of
both banks with the places of their faulty and single-bit words, and `first` of the partition. -/
structure LanePair where
  pc : Word
  x : List Word
  f : List Word
  fcsr : Nat
  cycle : Nat
  instret : Nat
  ready : Sparse Nat
  pxFree : Nat
  slot : Nat
  part : Nat
  run : Bool
  group : Nat
  start : Nat
  limit : Nat
  regs : SlotRegions
  desc : List Nat
  stat : List Nat
  staging : List Nat
  attachAt : Option Nat
  halted : Bool
  debugger : Bool
  resume : Bool
  trigs : List LaneTrig
  undo : List Nat
  undoFaulty : List Nat
  undoSingle : List Nat
  undoFirst : Nat
  deriving DecidableEq, Repr

/-- What the lanes hold of a partition: its committed vector (64 words), the vector pending and whether its working state
bank is pending, the outcome of the window in progress (a status code of R204, 0 while none), and what the next slot status
block and descriptor report of the previous scheduled window: its status, the cause of its fault, whether a halt made it late, the cycles used;
the commits, and the last fault, since reset. `first` says that the next run is the first after an enable (1) or after a partition reset (2), and
so zeroes the banks (R196, R209); the regions as its last preamble loaded them. -/
structure LanePart where
  vec : List Nat
  pendVec : Option (List Nat)
  pendState : Bool
  outcome : Nat
  lastStatus : Nat
  lastCause : Nat
  debugLast : Bool
  first : Nat
  used : Nat
  commits : Nat
  fpc : Nat
  ftval : Nat
  regs : SlotRegions
  deriving DecidableEq, Repr

/-- The lanes: pairs, partitions, the vector latched by a read of LANE_T_VEC_0 (R205), and the lane memory words with a
double-bit error and those with a single-bit error, by address (R207). -/
structure LaneSt where
  pairs : Sparse LanePair
  parts : Sparse LanePart
  latch : List Nat
  faulty : List Nat
  single : List Nat
  deriving DecidableEq, Repr


/-! ## Gate pulses (chapter 8) -/

/-- A commit record on its way to a gate channel (R263): the PWM count of its trigger instant T, the SYS edge of T, its
resolved command and trip bits, its duty and target-angle words, and whether its status is COMMITTED. -/
structure GateRec where
  at_ : Nat
  edge : Nat
  cmd : Bool
  trip : Bool
  duty : Nat
  ang : Nat
  committed : Bool
  deriving DecidableEq, Repr

/-- A gate channel, in PWM counts of 31.25 ps: whether the period's own 1 interval runs, the forced 0 of a refresh in
progress and its end, since when s has its value, the last reload instant, the end of the pulse, the pending period and duty
with the SYS edge of their commit, the resolved command of the owner's previous record, the scheduled rise (device time in
1/32 ns) and its extended angle, whether the instant is fixed, the count at the entry into SAFE and that at which LOW_ON turns the low side
on, and the commit records not yet acted on, oldest first. -/
structure GateCh where
  raw : Bool
  refreshEnd : Option Nat
  since : Nat
  rk : Nat
  pulseEnd : Option Nat
  pendP : Option (Nat × Nat)
  pendD : Option (Nat × Nat)
  prevCmd : Bool
  sched : Nat
  schedX : Nat
  fixed : Bool
  safeAt : Option Nat
  lowOn : Option Nat
  recs : List GateRec
  deriving DecidableEq, Repr

/-- The generator: the count of PWM edges × 32, the count that stops while frozen, whether the PWM clock is stopped, and the
channels. -/
structure GateSt where
  pwm : Nat
  cnt : Nat
  stopped : Bool
  chans : Sparse GateCh
  deriving DecidableEq, Repr


/-! ## Fabric and memories (chapters 1 and 14) -/

/-- A fabric transaction (R33): initiator class and number, tag, kind (0 read, 1 write, 2 fetch), address, and the octets of a
write or, for a read, as many octets as it reads; for a read by a device engine, the core (0xFF for the L3) whose cache line with an uncorrectable error
serves it (R420). -/
structure FabReq where
  init : Nat
  tag : Nat
  kind : Nat
  addr : Nat
  data : List Nat
  ue : Option Nat
  deriving DecidableEq, Repr

/-- The fabric and the memories: the 32-octet blocks of LPDDR5X marked uncorrectable and those with a single-bit error (R31), the sample plane (channel × 256 +
slot: value and quality word, R26) and its slots with a double-bit error and with a single-bit error (R183), the transactions in flight that wait
for the next period (R431), each in a slot of the fabric (R37), the requests that wait at their initiators for a slot (R38), what the last transaction read and whether it ended in a bus error, the octets each partition has used
in the present period, the partition served last of those that waited (R431), and the consecutive failed retrainings of MCA and MCB (bit 0 and bit 1). -/
structure FabSt where
  poison : List Nat
  single : List Nat
  plane : Sparse (Nat × Nat)
  planeBad : List Nat
  planeSingle : List Nat
  waiting : List FabReq
  stalled : List FabReq
  lastRead : List Nat
  lastError : Bool
  used : Sparse Nat
  turn : Nat
  retrain : Nat
  deriving DecidableEq, Repr


/-! ## Sampled-value ingest (chapter 4) -/

/-- A frame delivered to an internal port: the frame, its ingress time-stamp, the ingress port and its rate in kb/s, its octets as it came from the wire, and the
partition tag that classification gave it. -/
structure RxFrame where
  frame : Frame
  stamp : Stamp
  port : Nat
  kbps : Nat
  wire : Nat
  tag : Nat
  deriving DecidableEq, Repr

/-- A received sample held for release (R129 to R142): its instant in 2^-16 ns, its grid number (or its index in ESTIMATED), its
smpCnt, its values (binary32) and received quality words, its seqData octets, and the marks AUTH_UNCHECKED, TIME_EST and
re-gridded. -/
structure SviSample where
  inst : Nat
  idx : Int
  cnt : Nat
  vals : List Nat
  quals : List Nat
  data : List Nat
  unchk : Bool
  est : Bool
  regrid : Bool
  deriving DecidableEq, Repr

/-- What the fingerprint needs of an instant (R151): its instant, smpCnt, status bits and data. -/
structure FpRec where
  inst : Nat
  cnt : Nat
  st : Nat
  data : List Nat
  deriving DecidableEq, Repr

/-- A stream: the held samples in instant order, the latest received sample since it left WAIT or DOWN, the instant of the
latest received sample since it was enabled, the next grid instant to release, the fill run and the run of missing instants, the
estimator's base (2^-16 ns), index, last smpCnt and whether the next frame starts it afresh, the run of global frames in
ESTIMATED, the amount and the end (SYS edge) of STEP_WAIT, the records for fingerprints, newest first, and whether TMAX holds a
transit. -/
structure SviStream where
  held : List SviSample
  prev : Option SviSample
  lastInst : Option Nat
  next : Option Nat
  run : Nat
  missRun : Nat
  base : Int
  j : Int
  prevCnt : Nat
  fresh : Bool
  globalRun : Nat
  stepAmt : Int
  stepEnd : Option Nat
  hist : List FpRec
  tmaxSet : Bool
  deriving DecidableEq, Repr

/-- A value as Estuary releases it to an FDC channel (R143, R155): instant, value (binary32), quality word, state of its
stream, angle group and rate (0 for 4,800, 1 for 14,400). -/
structure RelVal where
  t : Nat
  v : Nat
  q : Nat
  st : Nat
  grp : Nat
  rate : Nat
  deriving DecidableEq, Repr

/-- Estuary: the streams, the frames at the SVI port, the EN writes that wait for their grid instant (stream, instant, value),
the replaced values of the two custom scales with the device time of their replacement (newest first), the values last released
to each channel (newest first), the step notices with their device times, EPOCH and amounts in 2^-16 ns (newest first), and the fingerprints of each partition
(FP0 to FP3), newest first. -/
structure SviSt where
  streams : Sparse SviStream
  inbox : List RxFrame
  enWait : List (Nat × Nat × Bool)
  scales : List (Nat × Nat × Nat)
  rel : Sparse (List RelVal)
  steps : List (Nat × Nat × Int)
  fps : Sparse (List (List Nat))
  deriving DecidableEq, Repr


/-! ## Filter and decimation chain (chapter 5) -/

/-- An FDC channel: the values delivered and not yet taken, oldest first, the inputs since the first valid one (R175), newest
first, the first valid input, the stream state of the previous value, the next entry, the envelope, the entries since the last
reset, the inputs since the first valid one, the instant of the newest input, and whether a SYNC_RESET waits for its slot. -/
structure FdcCh where
  inq : List RelVal
  hist : List RelVal
  first : Option RelVal
  prevSt : Option Nat
  nextM : Nat
  env : Nat
  since : Nat
  nIn : Nat
  lastT : Nat
  resetReq : Bool
  deriving DecidableEq, Repr

/-- The FDC: the channels, the number of the last 14,400/s instant swept for each alignment depth, and the device time
(2^-16 ns) at which the sweep in progress ends. -/
structure FdcSt where
  chans : Sparse FdcCh
  swept : Sparse Nat
  busy : Nat
  deriving DecidableEq, Repr


/-! ## GOOSE engine (chapter 7) -/

/-- A publish block since its enable: the dataset last evaluated (a UTCTIME entry without its time), none before the first, the time of
its state (seconds, fraction and TimeQuality octet of R229), the retransmissions of the state so far, and the SYS edge at which the next
falls due. -/
structure GBlk where
  data : Option (List GEntry)
  tSec : Nat
  tFrac : Nat
  tQual : Nat
  k : Nat
  due : Option Nat
  repub : Bool
  deriving DecidableEq, Repr

/-- A frame that waits for its subscription's update edge (R247): its update instant in 2^-16 ns of device time, whether it is a mismatch,
its PDU, whether it is a new state and unchecked, and its expiry in the same unit. -/
structure GUpd where
  due : Int
  mism : Bool
  pdu : GoosePdu
  isNew : Bool
  unchk : Bool
  expiry : Int
  deriving DecidableEq, Repr

/-- A subscription since its enable: the last accepted frame, the frames that wait, oldest first, the expiry, the contents of its record
(R250), and the record's words before its changes at the SYS edge of the last one, with that edge (R199). -/
structure GSub where
  last : Option GoosePdu
  upd : List GUpd
  expiry : Option Int
  chg : Nat
  unchk : Bool
  sim : Bool
  test : Bool
  stNum : Nat
  sqNum : Nat
  qgood : Nat
  bits : Nat
  words : List Nat
  oldEdge : Nat
  old : List Nat
  deriving DecidableEq, Repr

/-- The GOOSE engine: the enabled blocks and subscriptions, the frames at the GOOSE port, and the blocks whose frames are due at the present SYS edge, each
with the group whose commit made its new state, if one did (R233). -/
structure GooseSt where
  blocks : Sparse GBlk
  subs : Sparse GSub
  inbox : List RxFrame
  out : List (Nat × Option Nat)
  deriving DecidableEq, Repr

/-! ## Twin cross-check (chapter 9) -/

/-- A Rally frame as handed to the lanes (R290): TYPE, SIDE, SEQ, words H2 and H3, and the words of the payload. -/
structure RallyFrame where
  typ : Nat
  sideB : Bool
  seq : Nat
  h2 : Nat
  h3 : Nat
  words : List Nat
  deriving DecidableEq, Repr

/-- What a commit delivered for one partition: its status and vector (R204), the fingerprint FP1 to FP3 of its window, if any, and the partition's resolved
bits after the OWN bits have been resolved at the commit edge (R298). -/
structure OwnRec where
  part : Nat
  status : Nat
  vec : List Nat
  fp : Option (List Nat)
  ob : Nat
  deriving DecidableEq, Repr

/-- One entry of a partner's COMMIT frame (R292): status, word digest and output bits. -/
structure PeerRec where
  part : Nat
  status : Nat
  digest : Nat
  ob : Nat
  deriving DecidableEq, Repr

/-- A commit of a group (R298): its window number, the SYS edge, device time (ns) and TQ of the commit edge, the boundary instant b_N (ns),
the records, the matched window number and whether the group was ALIGNED, the alignment that it belongs to, whether its AGREE and EITHER
bits are resolved and its deadline has passed, the matched record once accepted, and the partner's fingerprints accepted by the commit
edge. -/
structure RallyPend where
  n : Nat
  edge : Nat
  ns : Nat
  tq : Nat
  bn : Nat
  recs : List OwnRec
  pn : Nat
  aligned : Bool
  epoch : Nat
  resolved : Bool
  closed : Bool
  got : Option (List PeerRec)
  pfp : Option (List (Nat × List Nat))
  deriving DecidableEq, Repr

/-- Rally's state of a group: how often its alignment has changed, the commits not yet closed and the last closed ones, oldest first, and
the partner's records and fingerprints by its window number, newest first. -/
structure RallyGrp where
  epoch : Nat
  pend : List RallyPend
  peers : List (Nat × List PeerRec)
  prints : List (Nat × List (Nat × List Nat))
  deriving DecidableEq, Repr

/-- The joining of a module with XFER_REQ (R306): the SYS edge of XFER_TIMEOUT, whether it has passed, the partitions installed or released, and the images
refused of each partition (R309). -/
structure JoinSt where
  until_ : Nat
  ended : Bool
  done : List Nat
  naks : Sparse Nat
  deriving DecidableEq, Repr

/-- An image (R307): partition, window number of the snapshot, octets, and how many have been sent or received. -/
structure XferImg where
  part : Nat
  n : Nat
  data : List Nat
  pos : Nat
  deriving DecidableEq, Repr

/-- Rally: the resolved output bits of each partition as one number of 256 bits, the straps TWIN_SIDE and TWIN_SOLO, the lanes whose receivers
have block lock, the next SEQ, the receiver's SEQ reference, the SYS edge of the last accepted copy, the due edge of the next HELLO, the frames
due at the present SYS edge as TYPE and payload, those handed to the lanes at the last edge that handed any over, in order (R292), whether this entry to PROBE has its event record, what the partner's last HELLO showed, the groups, the last GSEQ entry of each
block as stNum and sqNum, the due edge of the next wake frame with the edge of WAKE_TIMEOUT, the edge of a commanded reset, the joining state,
the image being received and the complete ones, and the image being sent with the partition whose turn it is and its refusals. -/
structure TwinSt where
  resolved : Sparse Nat
  sideB : Bool
  solo : Bool
  locks : Nat
  txSeq : Nat
  rxRef : Option Nat
  lastRx : Nat
  helloAt : Nat
  out : List (Nat × List Nat)
  sent : List RallyFrame
  probeLogged : Bool
  peerTag : Nat
  peerYielded : Bool
  peerPri : Nat
  peerXfer : Bool
  peerGen : Nat
  grps : Sparse RallyGrp
  gseq : Sparse (Nat × Nat)
  wakeAt : Option Nat
  wakeEnd : Nat
  resetAt : Option Nat
  join : Option JoinSt
  rxImg : Option XferImg
  images : Sparse XferImg
  sendPart : Nat
  sendImg : Option XferImg
  refusals : Nat
  deriving DecidableEq, Repr

/-! ## Switch core (chapter 13) and ports (chapter 12) -/

/-- A frame that has been received at a switch port and waits for admission: the frame, its ingress time-stamp, its octets on the wire, the flags of its
conditions as the receive descriptor gives them, and whether one of them is bad (R366). -/
structure InFrame where
  frame : Frame
  stamp : Stamp
  wire : Nat
  flags : Nat
  bad : Bool
  deriving DecidableEq, Repr

/-- An admitted copy (R389): the frame as it leaves, the switch port it entered at with its ingress time-stamp, its octets on the wire there, its cells and
whether they are charged to the shared pool, its partition, class, VLAN and PCP, and its flags. -/
structure SwCopy where
  frame : Frame
  inPort : Nat
  stamp : Stamp
  wire : Nat
  cells : Nat
  pool : Bool
  part : Nat
  cls : Nat
  vid : Nat
  pcp : Nat
  flags : Nat
  deriving DecidableEq, Repr

/-- A VLAN entry (R380). -/
structure VlanEnt where
  valid : Bool
  member : Nat
  untag : Nat
  floodUc : Bool
  floodMc : Bool
  sv : Bool
  go : Bool
  loop : Bool
  owner : Nat
  deriving DecidableEq, Repr

/-- An FDB entry (R385): its kind, key, port, and the SYS edge of its last refresh. -/
structure FdbEnt where
  static : Bool
  addr : Nat
  vid : Nat
  port : Nat
  last : Nat
  deriving DecidableEq, Repr

/-- A multicast entry (R410). -/
structure McEnt where
  vid : Nat
  addr : Nat
  mask : Nat
  deriving DecidableEq, Repr

/-- An entry of a pair's duplicate discard table (R399): its key, the mark SENT, the ring directions in which the frame has been sent
(bit 0 out of A, bit 1 out of B), and the SYS edge of its last use. -/
structure DdEnt where
  src : Nat
  seq : Nat
  sent : Bool
  dirs : Nat
  last : Nat
  deriving DecidableEq, Repr

/-- The switch core: the frames waiting for admission by switch port, the class queues by port × 8 + class (oldest first), the
class whose deficit turn it is by port and whether its quantum has been given (class × 2 + given), the deficits by queue, the VLAN table by VID, the FDB by index, the multicast table by
index, the duplicate discard tables by pair (least recently used first), the copies handed to the CPU port, and the partition after
which the CPU port takes the next transmit frame. -/
structure SwcSt where
  inq : Sparse (List InFrame)
  queues : Sparse (List SwCopy)
  turn : Sparse Nat
  deficit : Sparse Nat
  vlans : Sparse VlanEnt
  fdb : Sparse FdbEnt
  mc : Sparse McEnt
  dd : Sparse (List DdEnt)
  cpuIn : List SwCopy
  txTurn : Nat
  deriving DecidableEq, Repr

/-- What a port sends beside its queues (R370): a wake frame, a Pdelay_Req, the answer to a Pdelay_Req that came at `rx`, and the Follow_Up of a two-step
answer. Times that a message carries are those of its launch. -/
inductive OobMsg where
  | wake (f : Frame)
  | pdReq (m : PtpMsg)
  | pdResp (m : PtpMsg) (rx : Stamp)
  | pdFollow (m : PtpMsg)
  deriving DecidableEq, Repr

/-- A port's channel: when the hold of its link state ends; the copy in the MAC's transmit FIFO, the one in transmission and the SYS edge from which the next
frame may start; the last frame launched; an underrun whose complemented FCS leaves by an edge, with whether TX_THR_CUR then rises (R369, R396), and the octets
of the frame it ended; what waits to be sent beside the queues; and whether the PHY's SGMII control word has been acknowledged (R357). -/
structure PortCh where
  holdAt : Option Nat
  fifo : Option SwCopy
  txing : Option SwCopy
  txEnd : Nat
  sent : Option Frame
  under : Option (Nat × Bool)
  broken : List Nat
  oob : List OobMsg
  anAck : Bool
  deriving DecidableEq, Repr

/-- The ports, the octets that each I2C master's last transaction has sent to the module (R364), and the rate, address and tag that the wake detector keeps in the
low-power mode (R374). -/
structure PortSt where
  ports : Sparse PortCh
  i2cOut : Sparse (List Nat)
  wakeRate : Nat
  wakeDa : Nat
  wakeTag : Nat
  deriving DecidableEq, Repr


/-! ## Disturbance recorder (chapter 10) -/

/-- A tick whose binary channels have been sampled (R315): its instant in 2^-16 ns, TQ and the UTC offset in force then, and bit b of
`bits` for binary channel b. -/
structure DrecPend where
  inst : Nat
  tq : Nat
  utc : Nat
  bits : Nat
  deriving DecidableEq, Repr

/-- An assembled tick: its instant, the value and quality word of each analogue channel, and its binary channels. -/
structure DrecTick where
  inst : Nat
  vals : List (Nat × Nat)
  bits : Nat
  deriving DecidableEq, Repr

/-- A tick as its slot holds it: the offset of its T-record in the data area, its SEC and the word of TQ and NS, whether its records were
lost or refused, the amounts (ns) of the steps it carries, oldest first, and the W-records that follow it. -/
structure SegTick where
  off : Nat
  sec : Nat
  tqns : Nat
  lost : Bool
  steps : List Int
  wrecs : Nat
  tw0 : Nat
  deriving DecidableEq, Repr

/-- A segment once triggered (R323 to R326): SEG_SEQ, CAUSE, LATER and LATER_COUNT, PART, PRIMARY, PRE_ACTUAL, DEAD_TICKS, CHAINED, the trigger
tick's SEC, EPOCH, TQ with NS, and UTC word, and the ticks still to assemble. -/
structure SegTrig where
  seq : Nat
  cause : Nat
  later : Nat
  laterCnt : Nat
  part : Nat
  primary : Nat
  pre : Nat
  dead : Nat
  chained : Bool
  sec : Nat
  epoch : Nat
  tqns : Nat
  utc : Nat
  left : Nat
  deriving DecidableEq, Repr

/-- A slot that is ARMED, RECORDING or FLUSHING: its number, the ticks it holds, newest first, the offset after the last record, REARM_NS,
whether a write of it was refused, whether it was truncated, and its segment once triggered. -/
structure DrecSeg where
  slot : Nat
  ticks : List SegTick
  next : Nat
  rearm : Nat
  refused : Bool
  trunc : Bool
  trig : Option SegTrig
  deriving DecidableEq, Repr

/-- The recorder: L_T in ns, the next tick to sample, the ticks sampled and not assembled, oldest first, the last assembled ticks, newest first, the
conditions of the units at the last tick, the TRIGGER commands waiting (unit and tag), the instants last assembled and whether a value came late for
them, the ticks assembled since EN was accepted, the SYS edge at which the previous segment's last tick was assembled and its number, whether a next
slot has been chosen and not yet armed, the slot in use, the slots flushing, oldest first, the last SEG_SEQ, the SYS edge at which a slot was
freed, the amounts of the steps that the next T-record carries, whether it carries GAP,
and the octets in staging (R327). -/
structure DrecSt where
  lt : Nat
  next : Option Nat
  pend : List DrecPend
  hist : List DrecTick
  cond : Nat
  manual : List (Nat × Nat)
  seen : List (Nat × Bool)
  count : Nat
  lastAsm : Nat
  prevLast : Option Nat
  arming : Bool
  seg : Option DrecSeg
  flush : List DrecSeg
  seq : Option Nat
  freed : Sparse Nat
  steps : List Int
  gap : Bool
  staged : Nat
  deriving DecidableEq, Repr


/-! ## Keys and trust (chapter 15) -/

/-- A key slot (R446): state, type, USE, parent, depth, KEY_ID, GEN, the key material and the 16-octet integrity tag. -/
structure KeySlot where
  st : Nat
  typ : Nat
  use : Nat
  parent : Nat
  depth : Nat
  id : Nat
  gen : Nat
  mat : List Nat
  tag : List Nat
  deriving DecidableEq, Repr

/-- An approval record that is VALID (R458): SIZE, digest and the KEY_COUNTER of its approval. -/
structure Approval where
  size : Nat
  digest : List Nat
  cnt : Nat
  deriving DecidableEq, Repr

/-- The fuses (R438): the lifecycle state (0 MANUFACTURE, 1 DEVELOP, 2 SEALED, 3 DECOMMISSIONED), the root hash once burned, KTK_EXPORTED, and
the commit-floor words burned, newest first. The device unique secret is a constant of Config. -/
structure Fuses where
  lifecycle : Nat
  rootHash : Option (List Nat)
  ktk : Bool
  floors : List Nat
  deriving DecidableEq, Repr

/-- A KEYS command in progress (R464): its number, ADDR and ARG, whether an apply edge is still to come, the cause with which it ends, the octets it
read and, for ATTEST, the report body. -/
structure KeysRun where
  cmd : Nat
  addr : Nat
  arg : Nat
  wait : Bool
  cause : Nat
  data : List Nat
  deriving DecidableEq, Repr

/-- The key store: the slots, the VALID approval records (kind × 256 + index), the lifecycle state in force, the fuses, the command in progress,
whether an APPLY or APPROVE has been started since reset (R464), and whether a zeroisation waits for its SYS edge (R472). -/
structure KeysSt where
  slots : Sparse KeySlot
  recs : Sparse Approval
  lifecycle : Nat
  fuses : Fuses
  run : Option KeysRun
  used : Bool
  zeroDue : Bool
  deriving DecidableEq, Repr


/-! ## Clocks, resets and the AON domain (chapter 17) -/

/-- Clocks and resets: the ns since power was applied, whether device reset is asserted, its persisting causes (RESET_N low, REF lost, a monitored
rail low), when it may be released, the time of the last release, whether the low-power mode is in force and what ends it (0 nothing yet, 1 a wake request, 2 RESET_N low, 3 power-on),
the PLLs (index and unit) that have lost lock, whether TBC and PWM are stopped, the ns at which they stopped (R503), the register fields as the present
SYS edge found them (R497), and, while a snapshot has been taken at the present SYS edge, the mask of the blocks that it clears (R490, R491). -/
structure ClkSt where
  ns : Nat
  held : Bool
  pinLow : Bool
  refLost : Bool
  por : Bool
  releaseAt : Option Nat
  released : Nat
  lowPower : Bool
  wakeBy : Nat
  lost : List (Nat × Nat)
  tbcStop : Bool
  stopNs : Nat
  edgeRegs : Sparse Nat
  snapMask : Option Nat
  deriving DecidableEq, Repr

/-- The AON domain beside its registers: the seconds counter and the ns of its present second (R46), the write queue as register and value, oldest
first (R496), the salt and whether it is valid (R473), and whether the confirmed count is. -/
structure AonSt where
  sec : Nat
  frac : Nat
  queue : List (Nat × Nat)
  salt : List Nat
  saltOk : Bool
  confOk : Bool
  deriving DecidableEq, Repr


/-! ## Boot (chapter 17) -/

/-- The flash directory in use (R508): the bases of the slots and the store copies, PREF, ROOT_PSET, the root public key, RECOV_VID and RECOV_RATE. -/
structure FlashDir where
  slot0 : Nat
  slot1 : Nat
  store0 : Nat
  store1 : Nat
  pref : Nat
  pset : Nat
  key : List Nat
  vid : Nat
  rate : Nat
  deriving DecidableEq, Repr

/-- The directory's defaults (R508). -/
def FlashDir.defaults : FlashDir :=
  { slot0 := 0x0400000, slot1 := 0x4400000, store0 := 0x0020000, store1 := 0x0040000, pref := 0, pset := 0, key := List.replicate 32 0, vid := 4094,
    rate := 0 }

/-- A flash operation of the BOOT mailbox in progress (R519): its number, flash offset, length, LPDDR5X address, and the ns of its start. -/
structure FlashOp where
  cmd : Nat
  off : Nat
  len : Nat
  addr : Nat
  start : Nat
  deriving DecidableEq, Repr

/-- BOOT: the flash's octets (an unlisted octet is erased and reads 0xFF), its pages of 256 octets that an unfinished operation has left open, its density in
octets, the directory in use, the slot tried first, the slot in hand, the slots left to try, whether this boot began with TRIAL (R514), the
flash operation in progress, the SIZE of the running bundle, the recovery request in progress, the last reply of recovery, and the cores that READY has
yet to release as number, DEST and SW1 (R517). -/
structure BootSt where
  flash : Sparse Nat
  torn : Sparse Nat
  size : Nat
  dir : FlashDir
  first : Nat
  slot : Nat
  left : List Nat
  wasTrial : Bool
  op : Option FlashOp
  bundle : Nat
  req : Option Frame
  reply : Option Frame
  release : List (Nat × Nat × Nat)
  deriving DecidableEq, Repr


/-! ## Application cores and the IOMMU (chapter 14) -/

/-- An application core (R419): its registers as 64-bit values, privilege (0 U, 1 S, 3 M) and V, the CSRs that it holds by number, the reservation
of LR (address and octets), whether it waits in WFI, whether it has been released (R517), and the tag in force for V = 1 (R422). -/
structure CoreSt where
  pc : BitVec 64
  x : List (BitVec 64)
  f : List (BitVec 64)
  priv : Nat
  virt : Bool
  csrs : Sparse Nat
  resv : Option (Nat × Nat)
  wfi : Bool
  run : Bool
  tag : Nat
  deriving DecidableEq, Repr

/-- The cores, the registers of the IOMMU by offset (R425), and the JTAG TAP: its instruction register, the levels by ball that EXTEST and INTEST
drive, the cores halted by debug, and what the last operation shifts out (R441). -/
structure CoreSys where
  cores : Sparse CoreSt
  iommu : Sparse Nat
  jtagIr : Nat
  jtagBsr : List (Nat × Bool)
  jtagHalt : Nat
  jtagOut : List Nat
  deriving DecidableEq, Repr


/-- The register fields whose reset value differs between instances: RG_0 of partition 0 is enabled with R, W and X over
the whole address space (R415). -/
def regsAtReset : Sparse Nat :=
  [F.PART_T_RG_BASE_EN, F.PART_T_RG_BASE_R, F.PART_T_RG_BASE_W, F.PART_T_RG_BASE_X].foldl (fun m f => sparseSet f.rst m (f.key 0) 1)
    (sparseSet F.PART_T_RG_LIM_LIMIT.rst [] (F.PART_T_RG_LIM_LIMIT.key 0) 0xFFFFFF)

/-- The registers at the reset release of a chip whose AON domain is at its reset values: AON_STAT.VALID is 0, so VBAT_LOST is set in AON_FLT and, the
salt and the count being invalid, in KEYS_STAT (R473). -/
def regsAtPowerUp : Sparse Nat :=
  [F.AON_FLT_VBAT_LOST, F.KEYS_STAT_VBAT_LOST].foldl (fun m f => sparseSet f.rst m (f.key 0) 1) regsAtReset


/-! ## The machine -/

/-- The state of the DX512. `regs` holds every field of every register under `Fld.key` (an unlisted field reads as its
reset value), `aonRegs` the AON domain's own values of the fields marked SH, of which `regs` holds the shadows (R495),
`cnts` the live statistics counters and `bank` the last snapshot of them (R489, R490), `mbx` the mailbox commands in
progress by block, `mem` the bytes of LPDDR5X and of the lane memories by address, and `freeCtr` the model's own count of
the free values taken. `pending` holds the commands that wait, first in, first out. -/
structure State where
  regs : Sparse Nat
  aonRegs : Sparse Nat
  cnts : Sparse Nat
  bank : Sparse Nat
  mbx : Sparse MbxRun
  mem : List Host.Cell
  time : TimeSt
  elog : ElogSt
  part : PartSt
  tide : TideSt
  lane : LaneSt
  gate : GateSt
  fab : FabSt
  svi : SviSt
  fdc : FdcSt
  goose : GooseSt
  twin : TwinSt
  swc : SwcSt
  port : PortSt
  drec : DrecSt
  keys : KeysSt
  clk : ClkSt
  aon : AonSt
  boot : BootSt
  core : CoreSys
  snap : Option Stamp
  freeCtr : Nat
  pending : List Instr
  deriving DecidableEq, Repr

/-- The state after reset: reset release of a chip whose AON domain, fuses and flash are as delivered (R504, R505), BOOT being in INIT. -/
def State.reset : State :=
  { regs := regsAtPowerUp
    aonRegs := []
    cnts := []
    bank := []
    mbx := []
    mem := []
    time := TimeSt.reset
    elog := ElogSt.reset
    part := { imsic := [], res := [], kickStep := false, dwdAt := 0, dwdWarned := false, irqAt := [], leaving := [] }
    tide := { grps := [], failAt := [], failEdge := 0, fails := [] }
    lane := { pairs := [], parts := [], latch := [], faulty := [], single := [] }
    gate := { pwm := 0, cnt := 0, stopped := false, chans := [] }
    fab := { poison := [], single := [], plane := [], planeBad := [], planeSingle := [], waiting := [], stalled := [], lastRead := [], lastError := false, used := [], turn := 0, retrain := 0 }
    svi := { streams := [], inbox := [], enWait := [], scales := [], rel := [], steps := [], fps := [] }
    fdc := { chans := [], swept := [], busy := 0 }
    goose := { blocks := [], subs := [], inbox := [], out := [] }
    twin := { resolved := [], sideB := false, solo := false, locks := 0, txSeq := 0, rxRef := none, lastRx := 0, helloAt := 0, out := [], sent := [], probeLogged := false, peerTag := 0, peerYielded := false, peerPri := 0, peerXfer := false, peerGen := 0, grps := [], gseq := [], wakeAt := none, wakeEnd := 0, resetAt := none, join := none, rxImg := none, images := [], sendPart := 0, sendImg := none, refusals := 0 }
    swc := { inq := [], queues := [], turn := [], deficit := [], vlans := [], fdb := [], mc := [], dd := [], cpuIn := [], txTurn := 0 }
    port := { ports := [], i2cOut := [], wakeRate := 0, wakeDa := 0, wakeTag := 0 }
    drec := { lt := 0, next := none, pend := [], hist := [], cond := 0, manual := [], seen := [], count := 0, lastAsm := 0, prevLast := none, arming := false, seg := none, flush := [], seq := none, freed := [], steps := [], gap := false, staged := 0 }
    keys := { slots := [], recs := [], lifecycle := 0, fuses := { lifecycle := 0, rootHash := none, ktk := false, floors := [] }, run := none, used := false, zeroDue := false }
    clk := { ns := 0, held := false, pinLow := false, refLost := false, por := false, releaseAt := none, released := 0, lowPower := false, wakeBy := 0, lost := [], tbcStop := false, stopNs := 0, edgeRegs := regsAtPowerUp, snapMask := none }
    aon := { sec := 0, frac := 0, queue := [], salt := (List.range 32).map (fun i => Config.freeValue i % 256), saltOk := true, confOk := false }
    boot := { flash := [], torn := [], size := 0, dir := FlashDir.defaults, first := 0, slot := 0, left := [], wasTrial := false, op := none, bundle := 0, req := none, reply := none, release := [] }
    core := { cores := [], iommu := [], jtagIr := 1, jtagBsr := [], jtagHalt := 0, jtagOut := [] }
    snap := none
    freeCtr := 32
    pending := [] }

end Sys2Proof.Machine
end

