-- ==== Sys2Proof/Machine/Ops.lean ====
section
/-! DEFINITION. The named operations that the meanings of the commands share: register fields, counters, interrupts,
event records, bus errors, mailboxes, memory bytes and free values. -/

namespace Sys2Proof.Machine

/-! ## Device reset -/

/-- What a command does while device reset is not asserted; while it is, every block is in reset and the command finds nothing to act on
(R504, R505). -/
def State.live (s : State) (f : State → State) : State := if s.clk.held then s else f s

/-- Does BOOT stand in RECOVERY, in which every port but PORT_7, both twin lanes, the switch core, the lanes, Tide and the gate channels stay disabled
(R521)? -/
def State.recovering (s : State) : Bool := decide (sparseGet F.BOOT_STAT_STATE.rst s.regs (F.BOOT_STAT_STATE.key 0) = 5)

/-! ## Register fields -/

/-- The value of a register field of instance `i`. -/
def State.fld (s : State) (f : Fld) (i : Nat := 0) : Nat := sparseGet f.rst s.regs (f.key i)

/-- A one-bit field as a Bool. -/
def State.flag (s : State) (f : Fld) (i : Nat := 0) : Bool := s.fld f i ≠ 0

/-- The value of a field as a two's-complement number. -/
def State.sfld (s : State) (f : Fld) (i : Nat := 0) : Int := signed f.width (s.fld f i)

/-- Give a register field of instance `i` a value, cut to the field's width. -/
def State.setFld (s : State) (f : Fld) (v : Nat) (i : Nat := 0) : State :=
  { s with regs := sparseSet f.rst s.regs (f.key i) (v % 2 ^ f.width) }

/-- Set or clear a one-bit field. -/
def State.setFlag (s : State) (f : Fld) (b : Bool) (i : Nat := 0) : State := s.setFld f (ofBit b) i

/-- Give a field a two's-complement value. -/
def State.setSfld (s : State) (f : Fld) (v : Int) (i : Nat := 0) : State := s.setFld f (unsigned f.width v) i

/-- One bit of a field. -/
def State.fbit (s : State) (f : Fld) (k : Nat) (i : Nat := 0) : Bool := bitOf (s.fld f i) k

/-- Set or clear one bit of a field. -/
def State.setFbit (s : State) (f : Fld) (k : Nat) (b : Bool) (i : Nat := 0) : State :=
  let v := s.fld f i
  s.setFld f (if b then v ||| 2 ^ k else v - (v &&& 2 ^ k)) i

/-! ## Counters -/

/-- The largest value of a statistics counter (R489, R493). -/
def ctrMax : Nat := 2 ^ 48 - 1

/-- The live value of a counter. -/
def State.ctr (s : State) (c : Ctr) (i : Nat := 0) : Nat := sparseGet 0 s.cnts (c.key i)

/-- Set the overflow flag of a counter's group (R493). -/
def State.setOvf (s : State) (c : Ctr) (i : Nat) : State :=
  let s := match c.inst with | some f => s.setFld f 1 i | none => s
  match c.how with
  | .device => s.setFld c.ovf 1
  | .byIndex => s.setFbit c.ovf i true
  | .instance_ => s.setFld c.ovf 1 i

/-- Count `n` events: a counter that would pass 2^48 − 1 stays there and sets its group's overflow flag (R493). -/
def State.countBy (s : State) (c : Ctr) (n : Nat) (i : Nat := 0) : State :=
  let v := s.ctr c i + n
  if v ≤ ctrMax then { s with cnts := sparseSet 0 s.cnts (c.key i) v }
  else ({ s with cnts := sparseSet 0 s.cnts (c.key i) ctrMax }).setOvf c i

/-- Count one event. -/
def State.count (s : State) (c : Ctr) (i : Nat := 0) : State := s.countBy c 1 i

/-! ## Free values -/

/-- Take the next free value: a number of which nothing is known, and the state that has used it. -/
def State.takeFree (s : State) : Nat × State := (Config.freeValue s.freeCtr, { s with freeCtr := s.freeCtr + 1 })

/-- New octets from the entropy source: their values are free. -/
def State.takeOctets (s : State) : Nat → List Nat × State
  | 0 => ([], s)
  | n + 1 =>
    let (v, s) := s.takeFree
    let (l, s) := s.takeOctets n
    (v % 256 :: l, s)

/-- The quotient `n / d` in a unit too coarse for it, where the spec states no rounding: exact where it divides, else one
of the two neighbours, free. -/
def State.openRound (s : State) (n : Int) (d : Nat) : Int × State :=
  if n % (d : Int) = 0 then (n / (d : Int), s)
  else
    let (v, s') := s.takeFree
    (n / (d : Int) + (if v % 2 = 0 then 0 else 1), s')

/-! ## Device time -/

/-- Device time in ns (R39). -/
def State.devNs (s : State) : Nat := s.time.sec * 1000000000 + s.time.ns

/-- The time-stamp of the present edge: device time, the count of TBC edges, EPOCH and TQ (R44, R550). -/
def State.stamp (s : State) : Stamp :=
  { t := s.devNs * 65536, tbc := s.time.tbc * 65536, epoch := s.fld F.TIME_STAT_EPOCH, tq := s.fld F.TIME_STAT_TQ }

/-! ## Interrupts (R423, R424, R498) -/

/-- An interrupt file with nothing pending or enabled. -/
def ImsicFile.reset : ImsicFile := { pend := 0, ena := 0, delivery := 0, threshold := 0 }

/-- The file of a core that a FILE value names: above 7 is treated as 0. -/
def imsicKey (core file : Nat) : Nat := core % 8 * 8 + (if file ≤ 7 then file else 0)

/-- Set an identity pending in a core's interrupt file. -/
def State.imsicPend (s : State) (core file ident : Nat) : State :=
  let k := imsicKey core file
  let f := sparseGet ImsicFile.reset s.part.imsic k
  { s with part := { s.part with imsic := sparseSet ImsicFile.reset s.part.imsic k { f with pend := f.pend ||| 2 ^ ident } } }

/-- Hold an identity of a partition in PART_T_IPEND while its route has EN 0 (R424). -/
def State.holdIdent (s : State) (p ident : Nat) : State :=
  if ident ≤ 18 then s.setFbit F.PART_T_IPEND_PEND_BLK (ident - 1) true p
  else s.setFbit F.PART_T_IPEND_PEND (ident - 32) true p

/-- Deliver an identity by the route of a partition, without the flag of an unrouted interrupt. -/
def State.routeIdent (s : State) (p ident : Nat) : State :=
  if s.flag F.PART_T_IRQ_EN p then s.imsicPend (s.fld F.PART_T_IRQ_CORE p) (s.fld F.PART_T_IRQ_FILE p) ident
  else s.holdIdent p ident

/-- The block of PART in the identities: 1 + 14. -/
def partIdent : Nat := 15

/-- Raise an identity for a partition: deliver it by the partition's route, or hold it and set
PART_FLT.IRQ_UNROUTED, which may in turn raise the PART interrupt (R423, R424, R498). -/
def State.raiseIdent (s : State) (p ident : Nat) : State :=
  if s.flag F.PART_T_IRQ_EN p then s.routeIdent p ident
  else
    let was := s.flag F.PART_FLT_IRQ_UNROUTED
    let s := ((s.holdIdent p ident).count C.PART_IRQ_UNROUTED).setFlag F.PART_FLT_IRQ_UNROUTED true
    if !was && s.fbit F.PART_IEN_IEN F.PART_FLT_IRQ_UNROUTED.lo then
      let s := (s.count C.SYS_INTERRUPTS_SENT).routeIdent 0 partIdent
      if s.flag F.PART_T_IRQ_EN 0 then s else s.count C.PART_IRQ_UNROUTED
    else s

/-- Send a block's interrupt, once at one SYS edge (R498). -/
def State.blockIrq (s : State) (blk : Nat) : State :=
  if sparseFind blk s.part.irqAt = some s.time.sys then s
  else (({ s with part := { s.part with irqAt := sparsePut blk s.time.sys s.part.irqAt } }).count C.SYS_INTERRUPTS_SENT).raiseIdent 0 (1 + blk)

/-- The enable field of the block FLT register a flag lies in: the IEN register is the next word. -/
def Fld.ien (f : Fld) : Fld := { f with off := f.off + 4, lo := 0, width := 32, acc := .rw, rst := 0 }

/-- Set a flag of a block's FLT register; the block's interrupt is sent when the flag changes from 0 to 1 while its enable
is 1 (R498). -/
def State.setFlt (s : State) (f : Fld) : State :=
  if s.flag f then s
  else
    let s := s.setFlag f true
    if s.fbit f.ien f.lo then s.blockIrq f.blk else s

/-- As `setFlt` for bit `k` of a field of flags. -/
def State.setFltBit (s : State) (f : Fld) (k : Nat) : State :=
  if s.fbit f k then s
  else
    let s := s.setFbit f k true
    if s.fbit f.ien (f.lo + k) then s.blockIrq f.blk else s

/-- The bit of a partition in an array of four words. -/
def State.partBit (s : State) (f : Fld) (p : Nat) : Bool := s.fbit (f.el (p / 32)) (p % 32)

/-- Set or clear the bit of a partition. -/
def State.setPartBit (s : State) (f : Fld) (p : Nat) (b : Bool) : State := s.setFbit (f.el (p / 32)) (p % 32) b

/-! ## Event records (R338 to R347) -/

/-- The instance that an event concerns, by its code: the number in PARAM_0 or the partition; 0 for an event of the block as a whole. -/
def Event.inst (e : Event) : Nat :=
  if [0x0004, 0x0301, 0x0302, 0x0303, 0x0401, 0x0402, 0x0602, 0x0702, 0x0801, 0x0802, 0x0803, 0x0904, 0x0C01, 0x0C02, 0x0C03, 0x0C04, 0x0D01, 0x0D02,
      0x0F03].contains e.code then e.p0
  else if [0x0304, 0x0601, 0x0905, 0x0E01, 0x0E02, 0x0E03, 0x0E04, 0x0E05, 0x0E06].contains e.code then e.part
  else 0

/-- Put an event among those of its edge in the order of R340: by SRC, then by instance; events of one instance keep their order (DESIGN CHOICE, log 63). -/
def eventInsert (e : Event) : List Event → List Event
  | [] => [e]
  | h :: t => if e.src < h.src || (e.src = h.src && e.inst < h.inst) then e :: h :: t else h :: eventInsert e t

/-- The size of the event queue (R344). -/
def elogQueueSize : Nat := 1024

/-- The number of slots (R32), the last of which only the FULL record takes (R346). -/
def elogSlots : Nat := 131072

/-- The event of the present edge. -/
def State.mkEvent (s : State) (src code part p0 p1 p2 : Nat) (sw : Bool) : Event :=
  { edge := s.time.sys, src := src, code := code, part := part % 128, sec := s.time.sec, ns := s.time.ns,
    tq := s.fld F.TIME_STAT_TQ, epoch := s.fld F.TIME_STAT_EPOCH % 256, p0 := p0 % 2 ^ 32, p1 := p1 % 2 ^ 32,
    p2 := p2 % 2 ^ 32, sw := sw, gap := false }

/-- The FULL record's code (R346). -/
def elogFullCode : Nat := 0x0B02

/-- Offer an event to the log: refused while EN is 0 (R347), else judged with the other events of its SYS edge when that edge ends (`elogEdge`). -/
def State.offerEvent (s : State) (e : Event) : State :=
  if !s.flag F.ELOG_CTRL_EN then s.count C.ELOG_REFUSED
  else { s with elog := { s.elog with offered := eventInsert e s.elog.offered } }

/-- Write an event record of a hardware source (R342): its block, code, partition and parameters. -/
def State.event (s : State) (blk code part : Nat) (p0 : Nat := 0) (p1 : Nat := 0) (p2 : Nat := 0) : State :=
  s.offerEvent (s.mkEvent blk code part p0 p1 p2 false)

/-! ## Bus errors and lock violations (R484, R485) -/

/-- Record a bus error of a kind, by an initiator class and tag, on an address (R485). -/
def State.busError (s : State) (kind init tag addr : Nat) (write : Bool) : State :=
  let s := s.count C.SYS_BUS_ERRORS
  let s :=
    if s.flag F.SYS_BUSERR_VALID then s
    else
      let s := ((((s.setFlag F.SYS_BUSERR_VALID true).setFld F.SYS_BUSERR_KIND kind).setFld F.SYS_BUSERR_INIT init).setFld
        F.SYS_BUSERR_TAG tag).setFlag F.SYS_BUSERR_WRITE write
      let s := (s.setFld F.SYS_BUSERR_ADDR_HI_ADDR (addr / 2 ^ 32)).setFld F.SYS_BUSERR_ADDR_LO_ADDR (addr % 2 ^ 32)
      let s := s.setFlt F.SYS_FLT_BUSERR
      s.event 0 0x0001 tag (addr % 2 ^ 32) (kind * 2 ^ 29 + init * 2 ^ 24 + ofBit write * 2 ^ 16 + addr / 2 ^ 32 % 16)
  s.setFld F.SYS_BUSERR_COUNT (min 0xFFFF (s.fld F.SYS_BUSERR_COUNT + 1))

/-- Record a lock violation: a write by a tag of a value to a register address (R482, R485). -/
def State.lockViolation (s : State) (tag addr value : Nat) : State :=
  let s := s.count C.SYS_LOCK_VIOLATIONS
  let s :=
    if s.flag F.SYS_LOCKVIOL_VALID then s
    else
      let s := ((s.setFlag F.SYS_LOCKVIOL_VALID true).setFld F.SYS_LOCKVIOL_TAG tag).setFld F.SYS_LOCKVIOL_ADDR_ADDR addr
      (s.setFlt F.SYS_FLT_LOCKVIOL).event 0 0x0002 tag addr value
  s.setFld F.SYS_LOCKVIOL_COUNT (min 0xFFFF (s.fld F.SYS_LOCKVIOL_COUNT + 1))

/-- A command that is a write of a locked register is ignored: a lock violation of tag 0 at an offset of a block's window (R482). DESIGN CHOICE (log 56): the value
captured is the field that the command names. -/
def State.rowLocked (s : State) (blk off v : Nat) : State := s.lockViolation 0 (0x40000000 + blk * 0x10000 + off) v

/-- Would a written word change a field of a list? -/
def State.fldsDiffer (s : State) (l : List Fld) (i v : Nat) : Bool := l.any fun f => decide (v / 2 ^ f.lo % 2 ^ f.width ≠ s.fld f i)

/-! ## Steps of device time -/

/-- Move a time by a signed amount. -/
def shiftT (t : Nat) (d : Int) : Nat := ((t : Int) + d).toNat

/-- Does EPOCH `e` come after `f`? -/
def epochAfter (e f : Nat) : Bool := decide (e ≠ f) && decide ((e + 65536 - f) % 65536 < 32768)

/-- A time-stamp of a frame still being processed moves with a step of EPOCH `ep` that came after it (R135). -/
def Stamp.step (st : Stamp) (d : Int) (ep : Nat) : Stamp := if epochAfter ep st.epoch then { st with t := shiftT st.t d, epoch := ep } else st

/-- A frame's time-stamp as it reaches an internal port: moved by the notices that have been delivered since the capture. -/
def State.stepped (s : State) (st : Stamp) : Stamp := s.svi.steps.reverse.foldl (fun st (_, ep, d) => st.step d ep) st

/-! ## Mailboxes (R488) -/

/-- The fields of a block's mailbox, all at the same places in every block that has one. -/
def mbxValid (blk : Nat) : Fld := ⟨blk, 0, 0x0030, 4, 31, 1, .ro, 0⟩
def mbxBusy (blk : Nat) : Fld := ⟨blk, 0, 0x0030, 4, 30, 1, .ro, 0⟩
def mbxErr (blk : Nat) : Fld := ⟨blk, 0, 0x0030, 4, 29, 1, .ro, 0⟩
def mbxData (blk j : Nat) : Fld := ⟨blk, 0, 0x0034 + 4 * j, 4, 0, 32, .rw, 0⟩

/-- The operand words of a mailbox. -/
def State.mbxD (s : State) (blk j : Nat) : Nat := s.fld (mbxData blk j)

/-- A mailbox command refused because one is in progress: ERR is set and nothing else changes. -/
def State.mbxRefuseBusy (s : State) (blk : Nat) : State := s.setFlag (mbxErr blk) true

/-- A mailbox command refused: VALID and BUSY are 0 and ERR is 1. -/
def State.mbxRefuse (s : State) (blk : Nat) : State :=
  ((s.setFlag (mbxValid blk) false).setFlag (mbxBusy blk) false).setFlag (mbxErr blk) true

/-- A mailbox command starts: BUSY is set, VALID and ERR are cleared, and the run holds what it will end with. -/
def State.mbxStart (s : State) (blk : Nat) (r : MbxRun) : State :=
  let s := ((s.setFlag (mbxValid blk) false).setFlag (mbxErr blk) false).setFlag (mbxBusy blk) true
  { s with mbx := sparsePut blk r s.mbx }

/-- A mailbox command ends (R488): its results and VALID, or ERR, at one SYS edge; without one in progress nothing
changes. -/
def State.mbxEnd (s : State) (blk : Nat) : State :=
  match sparseFind blk s.mbx with
  | none => s
  | some r =>
    let s := ({ s with mbx := sparseDel blk s.mbx }).setFlag (mbxBusy blk) false
    if r.ok then
      ((((s.setFld (mbxData blk 0) r.d0).setFld (mbxData blk 1) r.d1).setFld (mbxData blk 2) r.d2).setFld
        (mbxData blk 3) r.d3).setFlag (mbxValid blk) true
    else s.setFlag (mbxErr blk) true

/-- The time layout of a mailbox (TIME_MBX_D0 to D3): a time in 2^-16 ns, TQ, FLAGS and EPOCH. -/
def timeLayout (cmd t tq flags epoch : Nat) : MbxRun :=
  let ns := t / 65536
  let sec := ns / 1000000000
  { cmd := cmd, ok := true, d0 := t % 65536 * 65536 + sec / 2 ^ 32 % 65536, d1 := sec % 2 ^ 32,
    d2 := tq * 2 ^ 30 + ns % 1000000000, d3 := flags * 65536 + epoch }

end Sys2Proof.Machine
end

