-- ==== Sys2Proof/Machine/Auth.lean ====
section
/-! DEFINITION. The authentication of sampled-value and GOOSE frames with the keys of the key store (R126, R127, R236, R447). -/

namespace Sys2Proof.Machine

def ksEmpty : Nat := 0
def ksValid : Nat := 1
def ksInvalid : Nat := 2
def ksOrphaned : Nat := 3
def ksBad : Nat := 4

def KeySlot.reset : KeySlot :=
  { st := 0, typ := 0, use := 0, parent := 0, depth := 0, id := 0, gen := 0, mat := [], tag := [] }

def State.keySlot (s : State) (k : Nat) : KeySlot := sparseGet KeySlot.reset s.keys.slots k

/-- Does a key of a slot type suit a MAC_ALG (R447)? -/
def keySuits (typ alg : Nat) : Bool :=
  if alg ≤ 2 then decide (typ = 5) else decide (alg ≤ 4) && (decide (typ = 3) || decide (typ = 4))

/-- The tag of a MAC_ALG over octets (R118). -/
def macTag (alg : Nat) (key iv octets : List Nat) : List Nat :=
  if alg = 0 then (hmacSha256 key octets).take 10
  else if alg = 1 then (hmacSha256 key octets).take 16
  else if alg = 2 then hmacSha256 key octets
  else if alg = 3 then (gcmTag key iv octets []).take 8
  else gcmTag key iv octets []

/-- Does a frame's extension verify under one of the named slots (R127)? -/
def authOk (s : State) (alg cur : Nat) (next : Option Nat) (f : Frame) (ext : Option AuthExt) : Bool :=
  match ext with
  | none => false
  | some x =>
    match (cur :: next.toList).find? fun k => (s.keySlot k).id = x.keyId with
    | none => false
    | some k =>
      let ks := s.keySlot k
      decide (ks.st = ksValid) && keySuits ks.typ alg
        && decide (macTag alg ks.mat x.iv (Config.authOctets f) = x.tag)

end Sys2Proof.Machine
end

