-- ==== Sys2Proof/Machine/RegsLane.lean ====
section
/-! DEFINITION. The LANE register block (block 6) as the register tables of spec/06_protection_lanes.md give it: every field with its
bits, access and reset value (F), every register (R), and the statistics counters of its banks (C). -/

namespace Sys2Proof.Machine

/-! LANE_CTRL: offset 0x0000, reset by device reset. -/
def F.LANE_CTRL_LOCK : Fld := ⟨6, 0, 0x0000, 4, 31, 1, .wl, 0x0⟩
def F.LANE_CTRL_SPARE_TEST : Fld := ⟨6, 0, 0x0000, 4, 0, 1, .rw, 0x1⟩
def R.LANE_CTRL : RegDesc := ⟨6, 0, 0x0000, 4, 1, [F.LANE_CTRL_LOCK, F.LANE_CTRL_SPARE_TEST]⟩

/-! LANE_STAT: offset 0x0004, reset by device reset. -/
def F.LANE_STAT_FAILED : Fld := ⟨6, 0, 0x0004, 4, 0, 24, .ro, 0x0⟩
def R.LANE_STAT : RegDesc := ⟨6, 0, 0x0004, 4, 1, [F.LANE_STAT_FAILED]⟩

/-! LANE_FLT: offset 0x0008, reset by device reset. -/
def F.LANE_FLT_REGION_ERR : Fld := ⟨6, 0, 0x0008, 4, 7, 1, .w1c, 0x0⟩
def F.LANE_FLT_LOAD_REFUSED : Fld := ⟨6, 0, 0x0008, 4, 6, 1, .w1c, 0x0⟩
def F.LANE_FLT_DBG_LATE : Fld := ⟨6, 0, 0x0008, 4, 5, 1, .w1c, 0x0⟩
def F.LANE_FLT_RESET_DROP : Fld := ⟨6, 0, 0x0008, 4, 4, 1, .w1c, 0x0⟩
def F.LANE_FLT_SPARE_TEST : Fld := ⟨6, 0, 0x0008, 4, 3, 1, .w1c, 0x0⟩
def F.LANE_FLT_ECC_UE : Fld := ⟨6, 0, 0x0008, 4, 2, 1, .w1c, 0x0⟩
def F.LANE_FLT_ECC_CE : Fld := ⟨6, 0, 0x0008, 4, 1, 1, .w1c, 0x0⟩
def F.LANE_FLT_FAULT : Fld := ⟨6, 0, 0x0008, 4, 0, 1, .w1c, 0x0⟩
def R.LANE_FLT : RegDesc := ⟨6, 0, 0x0008, 4, 1, [F.LANE_FLT_REGION_ERR, F.LANE_FLT_LOAD_REFUSED, F.LANE_FLT_DBG_LATE, F.LANE_FLT_RESET_DROP, F.LANE_FLT_SPARE_TEST, F.LANE_FLT_ECC_UE, F.LANE_FLT_ECC_CE, F.LANE_FLT_FAULT]⟩

/-! LANE_IEN: offset 0x000C, reset by device reset. -/
def F.LANE_IEN_IEN : Fld := ⟨6, 0, 0x000C, 4, 0, 8, .rw, 0x0⟩
def R.LANE_IEN : RegDesc := ⟨6, 0, 0x000C, 4, 1, [F.LANE_IEN_IEN]⟩

/-! LANE_CMD: offset 0x0010, reset by device reset. -/
def F.LANE_CMD_CMD : Fld := ⟨6, 0, 0x0010, 4, 0, 4, .wo, 0x0⟩
def R.LANE_CMD : RegDesc := ⟨6, 0, 0x0010, 4, 1, [F.LANE_CMD_CMD]⟩

/-! LANE_HALT: offset 0x0014, reset by device reset. -/
def F.LANE_HALT_HALTED : Fld := ⟨6, 0, 0x0014, 4, 0, 24, .ro, 0x0⟩
def R.LANE_HALT : RegDesc := ⟨6, 0, 0x0014, 4, 1, [F.LANE_HALT_HALTED]⟩

/-! LANE_FAULT: offset 0x0020, 4 registers 0x4 apart, reset by device reset. -/
def F.LANE_FAULT_FAULT : Fld := ⟨6, 0, 0x0020, 4, 0, 32, .w1c, 0x0⟩
def R.LANE_FAULT : RegDesc := ⟨6, 0, 0x0020, 4, 4, [F.LANE_FAULT_FAULT]⟩

/-! LANE_CNTOVF: offset 0x0048, reset by device reset. -/
def F.LANE_CNTOVF_PAIR_OVF : Fld := ⟨6, 0, 0x0048, 4, 2, 1, .w1c, 0x0⟩
def F.LANE_CNTOVF_PART_OVF : Fld := ⟨6, 0, 0x0048, 4, 1, 1, .w1c, 0x0⟩
def F.LANE_CNTOVF_DEV_OVF : Fld := ⟨6, 0, 0x0048, 4, 0, 1, .w1c, 0x0⟩
def R.LANE_CNTOVF : RegDesc := ⟨6, 0, 0x0048, 4, 1, [F.LANE_CNTOVF_PAIR_OVF, F.LANE_CNTOVF_PART_OVF, F.LANE_CNTOVF_DEV_OVF]⟩

/-! LANE_SEL: offset 0x0100, reset by device reset. -/
def F.LANE_SEL_KIND : Fld := ⟨6, 0, 0x0100, 4, 8, 2, .rw, 0x0⟩
def F.LANE_SEL_INDEX : Fld := ⟨6, 0, 0x0100, 4, 0, 7, .rw, 0x0⟩
def R.LANE_SEL : RegDesc := ⟨6, 0, 0x0100, 4, 1, [F.LANE_SEL_KIND, F.LANE_SEL_INDEX]⟩

/-! LANE_P_STAT: offset 0x0200, reset by device reset. -/
def F.LANE_P_STAT_HALTED : Fld := ⟨6, 1, 0x0200, 4, 8, 1, .ro, 0x0⟩
def F.LANE_P_STAT_RUN : Fld := ⟨6, 1, 0x0200, 4, 4, 1, .ro, 0x0⟩
def F.LANE_P_STAT_SLOT : Fld := ⟨6, 1, 0x0200, 4, 0, 4, .ro, 0x0⟩
def R.LANE_P_STAT : RegDesc := ⟨6, 1, 0x0200, 4, 1, [F.LANE_P_STAT_HALTED, F.LANE_P_STAT_RUN, F.LANE_P_STAT_SLOT]⟩

/-! LANE_P_SLOT_CODE: offset 0x0220, 16 registers 0x18 apart, reset by device reset. -/
def F.LANE_P_SLOT_CODE_CODE_SIZE : Fld := ⟨6, 1, 0x0220, 24, 16, 8, .rw, 0x0⟩
def F.LANE_P_SLOT_CODE_CODE_BASE : Fld := ⟨6, 1, 0x0220, 24, 0, 7, .rw, 0x0⟩
def R.LANE_P_SLOT_CODE : RegDesc := ⟨6, 1, 0x0220, 24, 16, [F.LANE_P_SLOT_CODE_CODE_SIZE, F.LANE_P_SLOT_CODE_CODE_BASE]⟩

/-! LANE_P_SLOT_ENTRY: offset 0x0224, 16 registers 0x18 apart, reset by device reset. -/
def F.LANE_P_SLOT_ENTRY_ENTRY : Fld := ⟨6, 1, 0x0224, 24, 0, 17, .rw, 0x0⟩
def R.LANE_P_SLOT_ENTRY : RegDesc := ⟨6, 1, 0x0224, 24, 16, [F.LANE_P_SLOT_ENTRY_ENTRY]⟩

/-! LANE_P_SLOT_DATA: offset 0x0228, 16 registers 0x18 apart, reset by device reset. -/
def F.LANE_P_SLOT_DATA_DATA_SIZE : Fld := ⟨6, 1, 0x0228, 24, 16, 9, .rw, 0x0⟩
def F.LANE_P_SLOT_DATA_DATA_BASE : Fld := ⟨6, 1, 0x0228, 24, 0, 8, .rw, 0x0⟩
def R.LANE_P_SLOT_DATA : RegDesc := ⟨6, 1, 0x0228, 24, 16, [F.LANE_P_SLOT_DATA_DATA_SIZE, F.LANE_P_SLOT_DATA_DATA_BASE]⟩

/-! LANE_P_SLOT_STATE: offset 0x022C, 16 registers 0x18 apart, reset by device reset. -/
def F.LANE_P_SLOT_STATE_STATE_SIZE : Fld := ⟨6, 1, 0x022C, 24, 16, 5, .rw, 0x0⟩
def F.LANE_P_SLOT_STATE_STATE_BASE : Fld := ⟨6, 1, 0x022C, 24, 0, 8, .rw, 0x0⟩
def R.LANE_P_SLOT_STATE : RegDesc := ⟨6, 1, 0x022C, 24, 16, [F.LANE_P_SLOT_STATE_STATE_SIZE, F.LANE_P_SLOT_STATE_STATE_BASE]⟩

/-! LANE_P_SLOT_USED_LAST: offset 0x0230, 16 registers 0x18 apart, reset by device reset. -/
def F.LANE_P_SLOT_USED_LAST_USED : Fld := ⟨6, 1, 0x0230, 24, 0, 22, .ro, 0x0⟩
def R.LANE_P_SLOT_USED_LAST : RegDesc := ⟨6, 1, 0x0230, 24, 16, [F.LANE_P_SLOT_USED_LAST_USED]⟩

/-! LANE_P_SLOT_USED_MAX: offset 0x0234, 16 registers 0x18 apart, reset by device reset. -/
def F.LANE_P_SLOT_USED_MAX_USED_MAX : Fld := ⟨6, 1, 0x0234, 24, 0, 22, .ro, 0x0⟩
def R.LANE_P_SLOT_USED_MAX : RegDesc := ⟨6, 1, 0x0234, 24, 16, [F.LANE_P_SLOT_USED_MAX_USED_MAX]⟩

/-! LANE_T_STAT: offset 0x0200, reset by device reset. -/
def F.LANE_T_STAT_STATUS_LAST : Fld := ⟨6, 2, 0x0200, 4, 16, 3, .ro, 0x0⟩
def F.LANE_T_STAT_CAUSE_LAST : Fld := ⟨6, 2, 0x0200, 4, 8, 8, .ro, 0x0⟩
def F.LANE_T_STAT_RESET_HELD : Fld := ⟨6, 2, 0x0200, 4, 0, 1, .ro, 0x0⟩
def R.LANE_T_STAT : RegDesc := ⟨6, 2, 0x0200, 4, 1, [F.LANE_T_STAT_STATUS_LAST, F.LANE_T_STAT_CAUSE_LAST, F.LANE_T_STAT_RESET_HELD]⟩

/-! LANE_T_FPC: offset 0x0204, reset by device reset. -/
def F.LANE_T_FPC_VAL : Fld := ⟨6, 2, 0x0204, 4, 0, 32, .ro, 0x0⟩
def R.LANE_T_FPC : RegDesc := ⟨6, 2, 0x0204, 4, 1, [F.LANE_T_FPC_VAL]⟩

/-! LANE_T_FTVAL: offset 0x0208, reset by device reset. -/
def F.LANE_T_FTVAL_VAL : Fld := ⟨6, 2, 0x0208, 4, 0, 32, .ro, 0x0⟩
def R.LANE_T_FTVAL : RegDesc := ⟨6, 2, 0x0208, 4, 1, [F.LANE_T_FTVAL_VAL]⟩

/-! LANE_T_WIN: offset 0x020C, reset by device reset. -/
def F.LANE_T_WIN_VAL : Fld := ⟨6, 2, 0x020C, 4, 0, 32, .ro, 0x0⟩
def R.LANE_T_WIN : RegDesc := ⟨6, 2, 0x020C, 4, 1, [F.LANE_T_WIN_VAL]⟩

/-! LANE_T_VEC: offset 0x0240, 64 registers 0x4 apart, reset by device reset. -/
def F.LANE_T_VEC_VEC : Fld := ⟨6, 2, 0x0240, 4, 0, 32, .ro, 0x0⟩
def R.LANE_T_VEC : RegDesc := ⟨6, 2, 0x0240, 4, 64, [F.LANE_T_VEC_VEC]⟩

/-- Every register of the LANE block. -/
def regsLANE : List RegDesc := [
  R.LANE_CTRL, R.LANE_STAT, R.LANE_FLT, R.LANE_IEN, R.LANE_CMD, R.LANE_HALT,
  R.LANE_FAULT, R.LANE_CNTOVF, R.LANE_SEL, R.LANE_P_STAT, R.LANE_P_SLOT_CODE, R.LANE_P_SLOT_ENTRY,
  R.LANE_P_SLOT_DATA, R.LANE_P_SLOT_STATE, R.LANE_P_SLOT_USED_LAST, R.LANE_P_SLOT_USED_MAX, R.LANE_T_STAT, R.LANE_T_FPC,
  R.LANE_T_FTVAL, R.LANE_T_WIN, R.LANE_T_VEC]

def C.LANE_COMMITS : Ctr := ⟨6, 0, 0x0400, 0x0, F.LANE_CNTOVF_DEV_OVF, .device, none⟩
def C.LANE_ECC_CE : Ctr := ⟨6, 0, 0x0408, 0x0, F.LANE_CNTOVF_DEV_OVF, .device, none⟩
def C.LANE_ECC_UE : Ctr := ⟨6, 0, 0x0410, 0x0, F.LANE_CNTOVF_DEV_OVF, .device, none⟩
def C.LANE_LOAD_REFUSED : Ctr := ⟨6, 0, 0x0418, 0x0, F.LANE_CNTOVF_DEV_OVF, .device, none⟩
def C.LANE_SPARE_TEST_FAILS : Ctr := ⟨6, 0, 0x0420, 0x0, F.LANE_CNTOVF_DEV_OVF, .device, none⟩
def C.LANE_T_COMMITS : Ctr := ⟨6, 0, 0x0800, 0x20, F.LANE_CNTOVF_PART_OVF, .device, none⟩
def C.LANE_T_HELDS : Ctr := ⟨6, 0, 0x0808, 0x20, F.LANE_CNTOVF_PART_OVF, .device, none⟩
def C.LANE_T_FAULTS : Ctr := ⟨6, 0, 0x0810, 0x20, F.LANE_CNTOVF_PART_OVF, .device, none⟩
def C.LANE_T_RESET_DROPS : Ctr := ⟨6, 0, 0x0818, 0x20, F.LANE_CNTOVF_PART_OVF, .device, none⟩
def C.LANE_P_ECC_CE : Ctr := ⟨6, 0, 0x1800, 0x10, F.LANE_CNTOVF_PAIR_OVF, .device, none⟩
def C.LANE_P_ECC_UE : Ctr := ⟨6, 0, 0x1808, 0x10, F.LANE_CNTOVF_PAIR_OVF, .device, none⟩

end Sys2Proof.Machine
end

