-- ==== Sys2Proof/Machine/RegsTide.lean ====
section
/-! DEFINITION. The TIDE register block (block 3) as the register tables of spec/03_angle_scheduler.md give it: every field with its
bits, access and reset value (F), every register (R), and the statistics counters of its banks (C). -/

namespace Sys2Proof.Machine

/-! TIDE_CTRL: offset 0x0000, reset by device reset. -/
def F.TIDE_CTRL_LOCK : Fld := ⟨3, 0, 0x0000, 4, 31, 1, .wl, 0x0⟩
def F.TIDE_CTRL_GEN : Fld := ⟨3, 0, 0x0000, 4, 0, 8, .rw, 0x0⟩
def R.TIDE_CTRL : RegDesc := ⟨3, 0, 0x0000, 4, 1, [F.TIDE_CTRL_LOCK, F.TIDE_CTRL_GEN]⟩

/-! TIDE_STAT: offset 0x0004, reset by device reset. -/
def F.TIDE_STAT_SPARES : Fld := ⟨3, 0, 0x0004, 4, 24, 5, .ro, 0x0⟩
def F.TIDE_STAT_STATES : Fld := ⟨3, 0, 0x0004, 4, 0, 24, .ro, 0x0⟩
def R.TIDE_STAT : RegDesc := ⟨3, 0, 0x0004, 4, 1, [F.TIDE_STAT_SPARES, F.TIDE_STAT_STATES]⟩

/-! TIDE_FLT: offset 0x0008, reset by device reset. -/
def F.TIDE_FLT_GRP : Fld := ⟨3, 0, 0x0008, 4, 8, 8, .ro, 0x0⟩
def F.TIDE_FLT_CFG_ERR : Fld := ⟨3, 0, 0x0008, 4, 4, 1, .w1c, 0x0⟩
def F.TIDE_FLT_NO_SPARE : Fld := ⟨3, 0, 0x0008, 4, 3, 1, .w1c, 0x0⟩
def F.TIDE_FLT_FAILOVER : Fld := ⟨3, 0, 0x0008, 4, 2, 1, .w1c, 0x0⟩
def F.TIDE_FLT_MISMATCH : Fld := ⟨3, 0, 0x0008, 4, 1, 1, .w1c, 0x0⟩
def F.TIDE_FLT_LATE : Fld := ⟨3, 0, 0x0008, 4, 0, 1, .w1c, 0x0⟩
def R.TIDE_FLT : RegDesc := ⟨3, 0, 0x0008, 4, 1, [F.TIDE_FLT_GRP, F.TIDE_FLT_CFG_ERR, F.TIDE_FLT_NO_SPARE, F.TIDE_FLT_FAILOVER, F.TIDE_FLT_MISMATCH, F.TIDE_FLT_LATE]⟩

/-! TIDE_IEN: offset 0x000C, reset by device reset. -/
def F.TIDE_IEN_IEN : Fld := ⟨3, 0, 0x000C, 4, 0, 16, .rw, 0x0⟩
def R.TIDE_IEN : RegDesc := ⟨3, 0, 0x000C, 4, 1, [F.TIDE_IEN_IEN]⟩

/-! TIDE_CMD: offset 0x0010, reset by device reset. -/
def F.TIDE_CMD_GROUP : Fld := ⟨3, 0, 0x0010, 4, 4, 3, .wo, 0x0⟩
def F.TIDE_CMD_CMD : Fld := ⟨3, 0, 0x0010, 4, 0, 3, .wo, 0x0⟩
def R.TIDE_CMD : RegDesc := ⟨3, 0, 0x0010, 4, 1, [F.TIDE_CMD_GROUP, F.TIDE_CMD_CMD]⟩

/-! TIDE_LATE: offset 0x0020, 4 registers 0x4 apart, reset by device reset. -/
def F.TIDE_LATE_LATE : Fld := ⟨3, 0, 0x0020, 4, 0, 32, .w1c, 0x0⟩
def R.TIDE_LATE : RegDesc := ⟨3, 0, 0x0020, 4, 4, [F.TIDE_LATE_LATE]⟩

/-! TIDE_MBX_CTL: offset 0x0030, reset by device reset. -/
def F.TIDE_MBX_CTL_VALID : Fld := ⟨3, 0, 0x0030, 4, 31, 1, .ro, 0x0⟩
def F.TIDE_MBX_CTL_BUSY : Fld := ⟨3, 0, 0x0030, 4, 30, 1, .ro, 0x0⟩
def F.TIDE_MBX_CTL_ERR : Fld := ⟨3, 0, 0x0030, 4, 29, 1, .ro, 0x0⟩
def F.TIDE_MBX_CTL_CMD : Fld := ⟨3, 0, 0x0030, 4, 0, 4, .wo, 0x0⟩
def R.TIDE_MBX_CTL : RegDesc := ⟨3, 0, 0x0030, 4, 1, [F.TIDE_MBX_CTL_VALID, F.TIDE_MBX_CTL_BUSY, F.TIDE_MBX_CTL_ERR, F.TIDE_MBX_CTL_CMD]⟩

/-! TIDE_MBX_D: offset 0x0034, 4 registers 0x4 apart, reset by device reset. -/
def F.TIDE_MBX_D_VAL : Fld := ⟨3, 0, 0x0034, 4, 0, 32, .rw, 0x0⟩
def R.TIDE_MBX_D : RegDesc := ⟨3, 0, 0x0034, 4, 4, [F.TIDE_MBX_D_VAL]⟩

/-! TIDE_CNTOVF: offset 0x0048, reset by device reset. -/
def F.TIDE_CNTOVF_GRP_OVF : Fld := ⟨3, 0, 0x0048, 4, 2, 8, .w1c, 0x0⟩
def F.TIDE_CNTOVF_PART_OVF : Fld := ⟨3, 0, 0x0048, 4, 1, 1, .w1c, 0x0⟩
def F.TIDE_CNTOVF_PAIR_OVF : Fld := ⟨3, 0, 0x0048, 4, 0, 1, .w1c, 0x0⟩
def R.TIDE_CNTOVF : RegDesc := ⟨3, 0, 0x0048, 4, 1, [F.TIDE_CNTOVF_GRP_OVF, F.TIDE_CNTOVF_PART_OVF, F.TIDE_CNTOVF_PAIR_OVF]⟩

/-! TIDE_SEL: offset 0x0100, reset by device reset. -/
def F.TIDE_SEL_KIND : Fld := ⟨3, 0, 0x0100, 4, 8, 2, .rw, 0x0⟩
def F.TIDE_SEL_INDEX : Fld := ⟨3, 0, 0x0100, 4, 0, 5, .rw, 0x0⟩
def R.TIDE_SEL : RegDesc := ⟨3, 0, 0x0100, 4, 1, [F.TIDE_SEL_KIND, F.TIDE_SEL_INDEX]⟩

/-! TIDE_G_CFG: offset 0x0200, reset by device reset. -/
def F.TIDE_G_CFG_BW : Fld := ⟨3, 1, 0x0200, 4, 24, 2, .rw, 0x2⟩
def F.TIDE_G_CFG_ACQ_OFS : Fld := ⟨3, 1, 0x0200, 4, 20, 2, .rw, 0x2⟩
def F.TIDE_G_CFG_QOK : Fld := ⟨3, 1, 0x0200, 4, 18, 1, .rw, 0x0⟩
def F.TIDE_G_CFG_IOK : Fld := ⟨3, 1, 0x0200, 4, 17, 1, .rw, 0x0⟩
def F.TIDE_G_CFG_TOK : Fld := ⟨3, 1, 0x0200, 4, 16, 1, .rw, 0x0⟩
def F.TIDE_G_CFG_REF_MODE : Fld := ⟨3, 1, 0x0200, 4, 8, 2, .rw, 0x2⟩
def F.TIDE_G_CFG_WPC : Fld := ⟨3, 1, 0x0200, 4, 0, 2, .rw, 0x2⟩
def R.TIDE_G_CFG : RegDesc := ⟨3, 1, 0x0200, 4, 1, [F.TIDE_G_CFG_BW, F.TIDE_G_CFG_ACQ_OFS, F.TIDE_G_CFG_QOK, F.TIDE_G_CFG_IOK, F.TIDE_G_CFG_TOK, F.TIDE_G_CFG_REF_MODE, F.TIDE_G_CFG_WPC]⟩

/-! TIDE_G_FNOM: offset 0x0204, reset by device reset. -/
def F.TIDE_G_FNOM_FNOM : Fld := ⟨3, 1, 0x0204, 4, 0, 20, .rw, 0xC350⟩
def R.TIDE_G_FNOM : RegDesc := ⟨3, 1, 0x0204, 4, 1, [F.TIDE_G_FNOM_FNOM]⟩

/-! TIDE_G_FLIM: offset 0x0208, reset by device reset. -/
def F.TIDE_G_FLIM_FMAX : Fld := ⟨3, 1, 0x0208, 4, 16, 16, .rw, 0x157C⟩
def F.TIDE_G_FLIM_FMIN : Fld := ⟨3, 1, 0x0208, 4, 0, 16, .rw, 0x1194⟩
def R.TIDE_G_FLIM : RegDesc := ⟨3, 1, 0x0208, 4, 1, [F.TIDE_G_FLIM_FMAX, F.TIDE_G_FLIM_FMIN]⟩

/-! TIDE_G_REF_A: offset 0x020C, reset by device reset. -/
def F.TIDE_G_REF_A_STREAM : Fld := ⟨3, 1, 0x020C, 4, 16, 9, .rw, 0x0⟩
def F.TIDE_G_REF_A_VALUE : Fld := ⟨3, 1, 0x020C, 4, 0, 5, .rw, 0x0⟩
def R.TIDE_G_REF_A : RegDesc := ⟨3, 1, 0x020C, 4, 1, [F.TIDE_G_REF_A_STREAM, F.TIDE_G_REF_A_VALUE]⟩

/-! TIDE_G_REF_B: offset 0x0210, reset by device reset. -/
def F.TIDE_G_REF_B_STREAM : Fld := ⟨3, 1, 0x0210, 4, 16, 9, .rw, 0x0⟩
def F.TIDE_G_REF_B_VALUE : Fld := ⟨3, 1, 0x0210, 4, 0, 5, .rw, 0x0⟩
def R.TIDE_G_REF_B : RegDesc := ⟨3, 1, 0x0210, 4, 1, [F.TIDE_G_REF_B_STREAM, F.TIDE_G_REF_B_VALUE]⟩

/-! TIDE_G_REF_C: offset 0x0214, reset by device reset. -/
def F.TIDE_G_REF_C_STREAM : Fld := ⟨3, 1, 0x0214, 4, 16, 9, .rw, 0x0⟩
def F.TIDE_G_REF_C_VALUE : Fld := ⟨3, 1, 0x0214, 4, 0, 5, .rw, 0x0⟩
def R.TIDE_G_REF_C : RegDesc := ⟨3, 1, 0x0214, 4, 1, [F.TIDE_G_REF_C_STREAM, F.TIDE_G_REF_C_VALUE]⟩

/-! TIDE_G_AMP: offset 0x0218, reset by device reset. -/
def F.TIDE_G_AMP_AMP_MIN : Fld := ⟨3, 1, 0x0218, 4, 0, 32, .rw, 0x0⟩
def R.TIDE_G_AMP : RegDesc := ⟨3, 1, 0x0218, 4, 1, [F.TIDE_G_AMP_AMP_MIN]⟩

/-! TIDE_G_PH: offset 0x021C, reset by device reset. -/
def F.TIDE_G_PH_UNLOCK_PH : Fld := ⟨3, 1, 0x021C, 4, 16, 16, .rw, 0x38E⟩
def F.TIDE_G_PH_LOCK_PH : Fld := ⟨3, 1, 0x021C, 4, 0, 16, .rw, 0xB6⟩
def R.TIDE_G_PH : RegDesc := ⟨3, 1, 0x021C, 4, 1, [F.TIDE_G_PH_UNLOCK_PH, F.TIDE_G_PH_LOCK_PH]⟩

/-! TIDE_G_HOLD: offset 0x0220, reset by device reset. -/
def F.TIDE_G_HOLD_ROCOF_LIM : Fld := ⟨3, 1, 0x0220, 4, 16, 16, .rw, 0x1388⟩
def F.TIDE_G_HOLD_HOLD_EXIT : Fld := ⟨3, 1, 0x0220, 4, 8, 8, .rw, 0x30⟩
def F.TIDE_G_HOLD_HOLD_BACK : Fld := ⟨3, 1, 0x0220, 4, 0, 8, .rw, 0x18⟩
def R.TIDE_G_HOLD : RegDesc := ⟨3, 1, 0x0220, 4, 1, [F.TIDE_G_HOLD_ROCOF_LIM, F.TIDE_G_HOLD_HOLD_EXIT, F.TIDE_G_HOLD_HOLD_BACK]⟩

/-! TIDE_G_LOSS: offset 0x0224, reset by device reset. -/
def F.TIDE_G_LOSS_LOCK_WIN : Fld := ⟨3, 1, 0x0224, 4, 24, 8, .rw, 0x8⟩
def F.TIDE_G_LOSS_HOLD_MAX : Fld := ⟨3, 1, 0x0224, 4, 10, 10, .rw, 0x1E⟩
def F.TIDE_G_LOSS_LOSS_CYC : Fld := ⟨3, 1, 0x0224, 4, 0, 10, .rw, 0x3C⟩
def R.TIDE_G_LOSS : RegDesc := ⟨3, 1, 0x0224, 4, 1, [F.TIDE_G_LOSS_LOCK_WIN, F.TIDE_G_LOSS_HOLD_MAX, F.TIDE_G_LOSS_LOSS_CYC]⟩

/-! TIDE_G_DRO: offset 0x0228, reset by device reset. -/
def F.TIDE_G_DRO_RET_CYC : Fld := ⟨3, 1, 0x0228, 4, 26, 6, .rw, 0x3⟩
def F.TIDE_G_DRO_DRO : Fld := ⟨3, 1, 0x0228, 4, 0, 20, .rw, 0xABE0⟩
def R.TIDE_G_DRO : RegDesc := ⟨3, 1, 0x0228, 4, 1, [F.TIDE_G_DRO_RET_CYC, F.TIDE_G_DRO_DRO]⟩

/-! TIDE_G_OFS: offset 0x022C, reset by device reset. -/
def F.TIDE_G_OFS_ANG_OFS : Fld := ⟨3, 1, 0x022C, 4, 0, 32, .rw, 0x0⟩
def R.TIDE_G_OFS : RegDesc := ⟨3, 1, 0x022C, 4, 1, [F.TIDE_G_OFS_ANG_OFS]⟩

/-! TIDE_G_STAT: offset 0x0230, reset by device reset. -/
def F.TIDE_G_STAT_FCLAMP : Fld := ⟨3, 1, 0x0230, 4, 10, 1, .ro, 0x0⟩
def F.TIDE_G_STAT_LOSS_CAUSE : Fld := ⟨3, 1, 0x0230, 4, 8, 2, .ro, 0x0⟩
def F.TIDE_G_STAT_FORCED : Fld := ⟨3, 1, 0x0230, 4, 6, 1, .ro, 0x0⟩
def F.TIDE_G_STAT_ARMED : Fld := ⟨3, 1, 0x0230, 4, 5, 1, .ro, 0x0⟩
def F.TIDE_G_STAT_REF_OK : Fld := ⟨3, 1, 0x0230, 4, 4, 1, .ro, 0x0⟩
def F.TIDE_G_STAT_STATE : Fld := ⟨3, 1, 0x0230, 4, 0, 3, .ro, 0x0⟩
def R.TIDE_G_STAT : RegDesc := ⟨3, 1, 0x0230, 4, 1, [F.TIDE_G_STAT_FCLAMP, F.TIDE_G_STAT_LOSS_CAUSE, F.TIDE_G_STAT_FORCED, F.TIDE_G_STAT_ARMED, F.TIDE_G_STAT_REF_OK, F.TIDE_G_STAT_STATE]⟩

/-! TIDE_G_INC: offset 0x0234, reset by device reset. -/
def F.TIDE_G_INC_VAL : Fld := ⟨3, 1, 0x0234, 4, 0, 32, .ro, 0x0⟩
def R.TIDE_G_INC : RegDesc := ⟨3, 1, 0x0234, 4, 1, [F.TIDE_G_INC_VAL]⟩

/-! TIDE_G_WIN: offset 0x0238, reset by device reset. -/
def F.TIDE_G_WIN_VAL : Fld := ⟨3, 1, 0x0238, 4, 0, 32, .ro, 0x0⟩
def R.TIDE_G_WIN : RegDesc := ⟨3, 1, 0x0238, 4, 1, [F.TIDE_G_WIN_VAL]⟩

/-! TIDE_G_PHERR: offset 0x023C, reset by device reset. -/
def F.TIDE_G_PHERR_VAL : Fld := ⟨3, 1, 0x023C, 4, 0, 32, .ro, 0x80000000⟩
def R.TIDE_G_PHERR : RegDesc := ⟨3, 1, 0x023C, 4, 1, [F.TIDE_G_PHERR_VAL]⟩

/-! TIDE_G_ROCOF: offset 0x0240, reset by device reset. -/
def F.TIDE_G_ROCOF_VAL : Fld := ⟨3, 1, 0x0240, 4, 0, 32, .ro, 0x80000000⟩
def R.TIDE_G_ROCOF : RegDesc := ⟨3, 1, 0x0240, 4, 1, [F.TIDE_G_ROCOF_VAL]⟩

/-! TIDE_G_FAVG: offset 0x0244, reset by device reset. -/
def F.TIDE_G_FAVG_VAL : Fld := ⟨3, 1, 0x0244, 4, 0, 32, .ro, 0x80000000⟩
def R.TIDE_G_FAVG : RegDesc := ⟨3, 1, 0x0244, 4, 1, [F.TIDE_G_FAVG_VAL]⟩

/-! TIDE_G_FLT: offset 0x0248, reset by device reset. -/
def F.TIDE_G_FLT_FCLAMP : Fld := ⟨3, 1, 0x0248, 4, 5, 1, .w1c, 0x0⟩
def F.TIDE_G_FLT_HOLD_EXPIRED : Fld := ⟨3, 1, 0x0248, 4, 4, 1, .w1c, 0x0⟩
def F.TIDE_G_FLT_FREERUN : Fld := ⟨3, 1, 0x0248, 4, 3, 1, .w1c, 0x0⟩
def F.TIDE_G_FLT_LOST : Fld := ⟨3, 1, 0x0248, 4, 2, 1, .w1c, 0x0⟩
def F.TIDE_G_FLT_HOLD : Fld := ⟨3, 1, 0x0248, 4, 1, 1, .w1c, 0x0⟩
def F.TIDE_G_FLT_TRACK : Fld := ⟨3, 1, 0x0248, 4, 0, 1, .w1c, 0x0⟩
def R.TIDE_G_FLT : RegDesc := ⟨3, 1, 0x0248, 4, 1, [F.TIDE_G_FLT_FCLAMP, F.TIDE_G_FLT_HOLD_EXPIRED, F.TIDE_G_FLT_FREERUN, F.TIDE_G_FLT_LOST, F.TIDE_G_FLT_HOLD, F.TIDE_G_FLT_TRACK]⟩

/-! TIDE_P_CFG: offset 0x0200, reset by device reset. -/
def F.TIDE_P_CFG_ROLE : Fld := ⟨3, 2, 0x0200, 4, 8, 2, .rw, 0x0⟩
def F.TIDE_P_CFG_GROUP : Fld := ⟨3, 2, 0x0200, 4, 0, 3, .rw, 0x0⟩
def R.TIDE_P_CFG : RegDesc := ⟨3, 2, 0x0200, 4, 1, [F.TIDE_P_CFG_ROLE, F.TIDE_P_CFG_GROUP]⟩

/-! TIDE_P_STAT: offset 0x0204, reset by device reset. -/
def F.TIDE_P_STAT_TABLE : Fld := ⟨3, 2, 0x0204, 4, 16, 5, .ro, 0x1F⟩
def F.TIDE_P_STAT_MISMATCH : Fld := ⟨3, 2, 0x0204, 4, 8, 1, .w1c, 0x0⟩
def F.TIDE_P_STAT_RUN : Fld := ⟨3, 2, 0x0204, 4, 0, 2, .ro, 0x0⟩
def R.TIDE_P_STAT : RegDesc := ⟨3, 2, 0x0204, 4, 1, [F.TIDE_P_STAT_TABLE, F.TIDE_P_STAT_MISMATCH, F.TIDE_P_STAT_RUN]⟩

/-! TIDE_P_SLOT_CTL: offset 0x0240, 16 registers 0x10 apart, reset by device reset. -/
def F.TIDE_P_SLOT_CTL_EN : Fld := ⟨3, 2, 0x0240, 16, 31, 1, .rw, 0x0⟩
def F.TIDE_P_SLOT_CTL_PART : Fld := ⟨3, 2, 0x0240, 16, 16, 7, .rw, 0x0⟩
def F.TIDE_P_SLOT_CTL_DIV : Fld := ⟨3, 2, 0x0240, 16, 8, 2, .rw, 0x0⟩
def F.TIDE_P_SLOT_CTL_PHASE : Fld := ⟨3, 2, 0x0240, 16, 0, 3, .rw, 0x0⟩
def R.TIDE_P_SLOT_CTL : RegDesc := ⟨3, 2, 0x0240, 16, 16, [F.TIDE_P_SLOT_CTL_EN, F.TIDE_P_SLOT_CTL_PART, F.TIDE_P_SLOT_CTL_DIV, F.TIDE_P_SLOT_CTL_PHASE]⟩

/-! TIDE_P_SLOT_START: offset 0x0244, 16 registers 0x10 apart, reset by device reset. -/
def F.TIDE_P_SLOT_START_START : Fld := ⟨3, 2, 0x0244, 16, 0, 22, .rw, 0x0⟩
def R.TIDE_P_SLOT_START : RegDesc := ⟨3, 2, 0x0244, 16, 16, [F.TIDE_P_SLOT_START_START]⟩

/-! TIDE_P_SLOT_BUDGET: offset 0x0248, 16 registers 0x10 apart, reset by device reset. -/
def F.TIDE_P_SLOT_BUDGET_BUDGET : Fld := ⟨3, 2, 0x0248, 16, 0, 22, .rw, 0x0⟩
def R.TIDE_P_SLOT_BUDGET : RegDesc := ⟨3, 2, 0x0248, 16, 16, [F.TIDE_P_SLOT_BUDGET_BUDGET]⟩

/-- Every register of the TIDE block. -/
def regsTIDE : List RegDesc := [
  R.TIDE_CTRL, R.TIDE_STAT, R.TIDE_FLT, R.TIDE_IEN, R.TIDE_CMD, R.TIDE_LATE,
  R.TIDE_MBX_CTL, R.TIDE_MBX_D, R.TIDE_CNTOVF, R.TIDE_SEL, R.TIDE_G_CFG, R.TIDE_G_FNOM,
  R.TIDE_G_FLIM, R.TIDE_G_REF_A, R.TIDE_G_REF_B, R.TIDE_G_REF_C, R.TIDE_G_AMP, R.TIDE_G_PH,
  R.TIDE_G_HOLD, R.TIDE_G_LOSS, R.TIDE_G_DRO, R.TIDE_G_OFS, R.TIDE_G_STAT, R.TIDE_G_INC,
  R.TIDE_G_WIN, R.TIDE_G_PHERR, R.TIDE_G_ROCOF, R.TIDE_G_FAVG, R.TIDE_G_FLT, R.TIDE_P_CFG,
  R.TIDE_P_STAT, R.TIDE_P_SLOT_CTL, R.TIDE_P_SLOT_START, R.TIDE_P_SLOT_BUDGET]

def C.TIDE_G_WINDOWS : Ctr := ⟨3, 0, 0x0400, 0x40, F.TIDE_CNTOVF_GRP_OVF, .byIndex, none⟩
def C.TIDE_G_HOLDS : Ctr := ⟨3, 0, 0x0408, 0x40, F.TIDE_CNTOVF_GRP_OVF, .byIndex, none⟩
def C.TIDE_G_LOSSES : Ctr := ⟨3, 0, 0x0410, 0x40, F.TIDE_CNTOVF_GRP_OVF, .byIndex, none⟩
def C.TIDE_G_FREERUNS : Ctr := ⟨3, 0, 0x0418, 0x40, F.TIDE_CNTOVF_GRP_OVF, .byIndex, none⟩
def C.TIDE_G_FCLAMPS : Ctr := ⟨3, 0, 0x0420, 0x40, F.TIDE_CNTOVF_GRP_OVF, .byIndex, none⟩
def C.TIDE_G_HOLD_EXPIRIES : Ctr := ⟨3, 0, 0x0428, 0x40, F.TIDE_CNTOVF_GRP_OVF, .byIndex, none⟩
def C.TIDE_T_RUN : Ctr := ⟨3, 0, 0x0800, 0x20, F.TIDE_CNTOVF_PART_OVF, .device, none⟩
def C.TIDE_T_LATE_BUDGET : Ctr := ⟨3, 0, 0x0808, 0x20, F.TIDE_CNTOVF_PART_OVF, .device, none⟩
def C.TIDE_T_LATE_FAIL : Ctr := ⟨3, 0, 0x0810, 0x20, F.TIDE_CNTOVF_PART_OVF, .device, none⟩
def C.TIDE_P_MISMATCHES : Ctr := ⟨3, 0, 0x1800, 0x10, F.TIDE_CNTOVF_PAIR_OVF, .device, none⟩
def C.TIDE_P_WINDOWS_RUN : Ctr := ⟨3, 0, 0x1808, 0x10, F.TIDE_CNTOVF_PAIR_OVF, .device, none⟩

end Sys2Proof.Machine
end

