-- ==== Sys2Proof/Machine/RegsTwin.lean ====
section
/-! DEFINITION. The TWIN register block (block 9) as the register tables of spec/09_twin_crosscheck.md give it: every field with its
bits, access and reset value (F), every register (R), and the statistics counters of its banks (C). -/

namespace Sys2Proof.Machine

/-! TWIN_CTRL: offset 0x0000, reset by device reset. -/
def F.TWIN_CTRL_LOCK : Fld := ⟨9, 0, 0x0000, 4, 31, 1, .wl, 0x0⟩
def F.TWIN_CTRL_LEAD_PRI : Fld := ⟨9, 0, 0x0000, 4, 20, 4, .rw, 0x8⟩
def F.TWIN_CTRL_LANE_EN : Fld := ⟨9, 0, 0x0000, 4, 16, 2, .rw, 0x3⟩
def F.TWIN_CTRL_AUTO_LAST : Fld := ⟨9, 0, 0x0000, 4, 5, 1, .rw, 0x0⟩
def F.TWIN_CTRL_AUTO_NOSPARE : Fld := ⟨9, 0, 0x0000, 4, 4, 1, .rw, 0x0⟩
def F.TWIN_CTRL_ACCEPT_RST : Fld := ⟨9, 0, 0x0000, 4, 3, 1, .rw, 0x0⟩
def F.TWIN_CTRL_XFER_REQ : Fld := ⟨9, 0, 0x0000, 4, 2, 1, .rw, 0x0⟩
def F.TWIN_CTRL_XFER_EN : Fld := ⟨9, 0, 0x0000, 4, 1, 1, .rw, 0x1⟩
def F.TWIN_CTRL_EN : Fld := ⟨9, 0, 0x0000, 4, 0, 1, .rw, 0x0⟩
def R.TWIN_CTRL : RegDesc := ⟨9, 0, 0x0000, 4, 1, [F.TWIN_CTRL_LOCK, F.TWIN_CTRL_LEAD_PRI, F.TWIN_CTRL_LANE_EN, F.TWIN_CTRL_AUTO_LAST, F.TWIN_CTRL_AUTO_NOSPARE, F.TWIN_CTRL_ACCEPT_RST, F.TWIN_CTRL_XFER_REQ, F.TWIN_CTRL_XFER_EN, F.TWIN_CTRL_EN]⟩

/-! TWIN_STAT: offset 0x0004, reset by device reset. -/
def F.TWIN_STAT_SIDE : Fld := ⟨9, 0, 0x0004, 4, 31, 1, .ro, 0x0⟩
def F.TWIN_STAT_SOLO : Fld := ⟨9, 0, 0x0004, 4, 30, 1, .ro, 0x0⟩
def F.TWIN_STAT_LEADER : Fld := ⟨9, 0, 0x0004, 4, 29, 1, .ro, 0x1⟩
def F.TWIN_STAT_YIELDED : Fld := ⟨9, 0, 0x0004, 4, 28, 1, .ro, 0x0⟩
def F.TWIN_STAT_LANE_UP : Fld := ⟨9, 0, 0x0004, 4, 24, 2, .ro, 0x0⟩
def F.TWIN_STAT_XFER : Fld := ⟨9, 0, 0x0004, 4, 16, 2, .ro, 0x0⟩
def F.TWIN_STAT_PAIR : Fld := ⟨9, 0, 0x0004, 4, 0, 3, .ro, 0x0⟩
def R.TWIN_STAT : RegDesc := ⟨9, 0, 0x0004, 4, 1, [F.TWIN_STAT_SIDE, F.TWIN_STAT_SOLO, F.TWIN_STAT_LEADER, F.TWIN_STAT_YIELDED, F.TWIN_STAT_LANE_UP, F.TWIN_STAT_XFER, F.TWIN_STAT_PAIR]⟩

/-! TWIN_FLT: offset 0x0008, reset by device reset. -/
def F.TWIN_FLT_CMD_REFUSED : Fld := ⟨9, 0, 0x0008, 4, 14, 1, .w1c, 0x0⟩
def F.TWIN_FLT_WAKE_TIMEOUT : Fld := ⟨9, 0, 0x0008, 4, 13, 1, .w1c, 0x0⟩
def F.TWIN_FLT_RESET_REFUSED : Fld := ⟨9, 0, 0x0008, 4, 12, 1, .w1c, 0x0⟩
def F.TWIN_FLT_XFER_FAIL : Fld := ⟨9, 0, 0x0008, 4, 11, 1, .w1c, 0x0⟩
def F.TWIN_FLT_ROLE_CHANGE : Fld := ⟨9, 0, 0x0008, 4, 10, 1, .w1c, 0x0⟩
def F.TWIN_FLT_DECISION_DIFF : Fld := ⟨9, 0, 0x0008, 4, 9, 1, .w1c, 0x0⟩
def F.TWIN_FLT_INPUT_DIFF : Fld := ⟨9, 0, 0x0008, 4, 8, 1, .w1c, 0x0⟩
def F.TWIN_FLT_PARTNER_LATE : Fld := ⟨9, 0, 0x0008, 4, 7, 1, .w1c, 0x0⟩
def F.TWIN_FLT_ALIGN_ERR : Fld := ⟨9, 0, 0x0008, 4, 6, 1, .w1c, 0x0⟩
def F.TWIN_FLT_CRC_ERR : Fld := ⟨9, 0, 0x0008, 4, 5, 1, .w1c, 0x0⟩
def F.TWIN_FLT_LANE_LOST : Fld := ⟨9, 0, 0x0008, 4, 4, 1, .w1c, 0x0⟩
def F.TWIN_FLT_LINK_LOST : Fld := ⟨9, 0, 0x0008, 4, 3, 1, .w1c, 0x0⟩
def F.TWIN_FLT_PEER_ERR : Fld := ⟨9, 0, 0x0008, 4, 2, 1, .w1c, 0x0⟩
def F.TWIN_FLT_CFG_MISMATCH : Fld := ⟨9, 0, 0x0008, 4, 1, 1, .w1c, 0x0⟩
def F.TWIN_FLT_CFG_ERR : Fld := ⟨9, 0, 0x0008, 4, 0, 1, .w1c, 0x0⟩
def R.TWIN_FLT : RegDesc := ⟨9, 0, 0x0008, 4, 1, [F.TWIN_FLT_CMD_REFUSED, F.TWIN_FLT_WAKE_TIMEOUT, F.TWIN_FLT_RESET_REFUSED, F.TWIN_FLT_XFER_FAIL, F.TWIN_FLT_ROLE_CHANGE, F.TWIN_FLT_DECISION_DIFF, F.TWIN_FLT_INPUT_DIFF, F.TWIN_FLT_PARTNER_LATE, F.TWIN_FLT_ALIGN_ERR, F.TWIN_FLT_CRC_ERR, F.TWIN_FLT_LANE_LOST, F.TWIN_FLT_LINK_LOST, F.TWIN_FLT_PEER_ERR, F.TWIN_FLT_CFG_MISMATCH, F.TWIN_FLT_CFG_ERR]⟩

/-! TWIN_IEN: offset 0x000C, reset by device reset. -/
def F.TWIN_IEN_IEN : Fld := ⟨9, 0, 0x000C, 4, 0, 15, .rw, 0x0⟩
def R.TWIN_IEN : RegDesc := ⟨9, 0, 0x000C, 4, 1, [F.TWIN_IEN_IEN]⟩

/-! TWIN_CMD: offset 0x0010, reset by device reset. -/
def F.TWIN_CMD_GROUP : Fld := ⟨9, 0, 0x0010, 4, 4, 3, .wo, 0x0⟩
def F.TWIN_CMD_CMD : Fld := ⟨9, 0, 0x0010, 4, 0, 4, .wo, 0x0⟩
def R.TWIN_CMD : RegDesc := ⟨9, 0, 0x0010, 4, 1, [F.TWIN_CMD_GROUP, F.TWIN_CMD_CMD]⟩

/-! TWIN_WAIT: offset 0x0014, reset by device reset. -/
def F.TWIN_WAIT_RALLY_WAIT : Fld := ⟨9, 0, 0x0014, 4, 0, 18, .rw, 0x1F40⟩
def R.TWIN_WAIT : RegDesc := ⟨9, 0, 0x0014, 4, 1, [F.TWIN_WAIT_RALLY_WAIT]⟩

/-! TWIN_LINK: offset 0x0018, reset by device reset. -/
def F.TWIN_LINK_RETURN_N : Fld := ⟨9, 0, 0x0018, 4, 16, 8, .rw, 0x8⟩
def F.TWIN_LINK_LATE_MAX : Fld := ⟨9, 0, 0x0018, 4, 8, 8, .rw, 0x3⟩
def F.TWIN_LINK_HELLO_LOSS : Fld := ⟨9, 0, 0x0018, 4, 0, 8, .rw, 0x6⟩
def R.TWIN_LINK : RegDesc := ⟨9, 0, 0x0018, 4, 1, [F.TWIN_LINK_RETURN_N, F.TWIN_LINK_LATE_MAX, F.TWIN_LINK_HELLO_LOSS]⟩

/-! TWIN_PEER: offset 0x001C, reset by device reset. -/
def F.TWIN_PEER_VAL : Fld := ⟨9, 0, 0x001C, 4, 0, 32, .rw, 0x0⟩
def R.TWIN_PEER : RegDesc := ⟨9, 0, 0x001C, 4, 1, [F.TWIN_PEER_VAL]⟩

/-! TWIN_OWN_TAG: offset 0x0020, reset by device reset. -/
def F.TWIN_OWN_TAG_VAL : Fld := ⟨9, 0, 0x0020, 4, 0, 32, .ro, 0x0⟩
def R.TWIN_OWN_TAG : RegDesc := ⟨9, 0, 0x0020, 4, 1, [F.TWIN_OWN_TAG_VAL]⟩

/-! TWIN_BUNDLE_TAG: offset 0x0024, reset by device reset. -/
def F.TWIN_BUNDLE_TAG_VAL : Fld := ⟨9, 0, 0x0024, 4, 0, 32, .ro, 0x0⟩
def R.TWIN_BUNDLE_TAG : RegDesc := ⟨9, 0, 0x0024, 4, 1, [F.TWIN_BUNDLE_TAG_VAL]⟩

/-! TWIN_WAKE: offset 0x0028, reset by device reset. -/
def F.TWIN_WAKE_WAKE_TIMEOUT : Fld := ⟨9, 0, 0x0028, 4, 16, 16, .rw, 0x7D0⟩
def F.TWIN_WAKE_WAKE_PORT : Fld := ⟨9, 0, 0x0028, 4, 0, 3, .rw, 0x7⟩
def R.TWIN_WAKE : RegDesc := ⟨9, 0, 0x0028, 4, 1, [F.TWIN_WAKE_WAKE_TIMEOUT, F.TWIN_WAKE_WAKE_PORT]⟩

/-! TWIN_WAKE_DA_HI: offset 0x002C, reset by device reset. -/
def F.TWIN_WAKE_DA_HI_DA : Fld := ⟨9, 0, 0x002C, 4, 0, 16, .rw, 0xFFFF⟩
def R.TWIN_WAKE_DA_HI : RegDesc := ⟨9, 0, 0x002C, 4, 1, [F.TWIN_WAKE_DA_HI_DA]⟩

/-! TWIN_WAKE_DA_LO: offset 0x0030, reset by device reset. -/
def F.TWIN_WAKE_DA_LO_DA : Fld := ⟨9, 0, 0x0030, 4, 0, 32, .rw, 0xFFFFFFFF⟩
def R.TWIN_WAKE_DA_LO : RegDesc := ⟨9, 0, 0x0030, 4, 1, [F.TWIN_WAKE_DA_LO_DA]⟩

/-! TWIN_XFER: offset 0x0034, reset by device reset. -/
def F.TWIN_XFER_XFER_TIMEOUT : Fld := ⟨9, 0, 0x0034, 4, 16, 16, .rw, 0xBB8⟩
def R.TWIN_XFER : RegDesc := ⟨9, 0, 0x0034, 4, 1, [F.TWIN_XFER_XFER_TIMEOUT]⟩

/-! TWIN_CNTOVF: offset 0x0048, reset by device reset. -/
def F.TWIN_CNTOVF_PART_OVF : Fld := ⟨9, 0, 0x0048, 4, 2, 1, .w1c, 0x0⟩
def F.TWIN_CNTOVF_GRP_OVF : Fld := ⟨9, 0, 0x0048, 4, 1, 1, .w1c, 0x0⟩
def F.TWIN_CNTOVF_DEV_OVF : Fld := ⟨9, 0, 0x0048, 4, 0, 1, .w1c, 0x0⟩
def R.TWIN_CNTOVF : RegDesc := ⟨9, 0, 0x0048, 4, 1, [F.TWIN_CNTOVF_PART_OVF, F.TWIN_CNTOVF_GRP_OVF, F.TWIN_CNTOVF_DEV_OVF]⟩

/-! TWIN_INPUT: offset 0x0050, 4 registers 0x4 apart, reset by device reset. -/
def F.TWIN_INPUT_INPUT : Fld := ⟨9, 0, 0x0050, 4, 0, 32, .w1c, 0x0⟩
def R.TWIN_INPUT : RegDesc := ⟨9, 0, 0x0050, 4, 4, [F.TWIN_INPUT_INPUT]⟩

/-! TWIN_DECISION: offset 0x0060, 4 registers 0x4 apart, reset by device reset. -/
def F.TWIN_DECISION_DECISION : Fld := ⟨9, 0, 0x0060, 4, 0, 32, .w1c, 0x0⟩
def R.TWIN_DECISION : RegDesc := ⟨9, 0, 0x0060, 4, 4, [F.TWIN_DECISION_DECISION]⟩

/-! TWIN_SEL: offset 0x0100, reset by device reset. -/
def F.TWIN_SEL_KIND : Fld := ⟨9, 0, 0x0100, 4, 8, 2, .rw, 0x0⟩
def F.TWIN_SEL_INDEX : Fld := ⟨9, 0, 0x0100, 4, 0, 7, .rw, 0x0⟩
def R.TWIN_SEL : RegDesc := ⟨9, 0, 0x0100, 4, 1, [F.TWIN_SEL_KIND, F.TWIN_SEL_INDEX]⟩

/-! TWIN_G_STAT: offset 0x0200, reset by device reset. -/
def F.TWIN_G_STAT_ALIGN : Fld := ⟨9, 1, 0x0200, 4, 8, 2, .ro, 0x0⟩
def F.TWIN_G_STAT_COUNT : Fld := ⟨9, 1, 0x0200, 4, 0, 8, .ro, 0x0⟩
def R.TWIN_G_STAT : RegDesc := ⟨9, 1, 0x0200, 4, 1, [F.TWIN_G_STAT_ALIGN, F.TWIN_G_STAT_COUNT]⟩

/-! TWIN_G_DN: offset 0x0204, reset by device reset. -/
def F.TWIN_G_DN_DN : Fld := ⟨9, 1, 0x0204, 4, 0, 32, .ro, 0x0⟩
def R.TWIN_G_DN : RegDesc := ⟨9, 1, 0x0204, 4, 1, [F.TWIN_G_DN_DN]⟩

/-! TWIN_G_RLAST: offset 0x0208, reset by device reset. -/
def F.TWIN_G_RLAST_RLAST : Fld := ⟨9, 1, 0x0208, 4, 0, 32, .ro, 0x0⟩
def R.TWIN_G_RLAST : RegDesc := ⟨9, 1, 0x0208, 4, 1, [F.TWIN_G_RLAST_RLAST]⟩

/-! TWIN_G_RMAX: offset 0x020C, reset by device reset. -/
def F.TWIN_G_RMAX_RMAX : Fld := ⟨9, 1, 0x020C, 4, 0, 32, .ro, 0x0⟩
def R.TWIN_G_RMAX : RegDesc := ⟨9, 1, 0x020C, 4, 1, [F.TWIN_G_RMAX_RMAX]⟩

/-! TWIN_T_POL: offset 0x0200, 64 registers 0x4 apart, reset by device reset. -/
def F.TWIN_T_POL_FPM_B0 : Fld := ⟨9, 2, 0x0200, 4, 4, 1, .rw, 0x0⟩
def F.TWIN_T_POL_FB_B0 : Fld := ⟨9, 2, 0x0200, 4, 2, 2, .rw, 0x0⟩
def F.TWIN_T_POL_POL_B0 : Fld := ⟨9, 2, 0x0200, 4, 0, 2, .rw, 0x0⟩
def F.TWIN_T_POL_FPM_B1 : Fld := ⟨9, 2, 0x0200, 4, 12, 1, .rw, 0x0⟩
def F.TWIN_T_POL_FB_B1 : Fld := ⟨9, 2, 0x0200, 4, 10, 2, .rw, 0x0⟩
def F.TWIN_T_POL_POL_B1 : Fld := ⟨9, 2, 0x0200, 4, 8, 2, .rw, 0x0⟩
def F.TWIN_T_POL_FPM_B2 : Fld := ⟨9, 2, 0x0200, 4, 20, 1, .rw, 0x0⟩
def F.TWIN_T_POL_FB_B2 : Fld := ⟨9, 2, 0x0200, 4, 18, 2, .rw, 0x0⟩
def F.TWIN_T_POL_POL_B2 : Fld := ⟨9, 2, 0x0200, 4, 16, 2, .rw, 0x0⟩
def F.TWIN_T_POL_FPM_B3 : Fld := ⟨9, 2, 0x0200, 4, 28, 1, .rw, 0x0⟩
def F.TWIN_T_POL_FB_B3 : Fld := ⟨9, 2, 0x0200, 4, 26, 2, .rw, 0x0⟩
def F.TWIN_T_POL_POL_B3 : Fld := ⟨9, 2, 0x0200, 4, 24, 2, .rw, 0x0⟩
def R.TWIN_T_POL : RegDesc := ⟨9, 2, 0x0200, 4, 64, [F.TWIN_T_POL_FPM_B0, F.TWIN_T_POL_FB_B0, F.TWIN_T_POL_POL_B0, F.TWIN_T_POL_FPM_B1, F.TWIN_T_POL_FB_B1, F.TWIN_T_POL_POL_B1, F.TWIN_T_POL_FPM_B2, F.TWIN_T_POL_FB_B2, F.TWIN_T_POL_POL_B2, F.TWIN_T_POL_FPM_B3, F.TWIN_T_POL_FB_B3, F.TWIN_T_POL_POL_B3]⟩

/-! TWIN_T_RES: offset 0x0300, 8 registers 0x4 apart, reset by device reset. -/
def F.TWIN_T_RES_RES : Fld := ⟨9, 2, 0x0300, 4, 0, 32, .ro, 0x0⟩
def R.TWIN_T_RES : RegDesc := ⟨9, 2, 0x0300, 4, 8, [F.TWIN_T_RES_RES]⟩

/-! TWIN_T_PFP: offset 0x0320, 3 registers 0x4 apart, reset by device reset. -/
def F.TWIN_T_PFP_FP : Fld := ⟨9, 2, 0x0320, 4, 0, 32, .ro, 0x0⟩
def R.TWIN_T_PFP : RegDesc := ⟨9, 2, 0x0320, 4, 3, [F.TWIN_T_PFP_FP]⟩

/-! TWIN_T_STAT: offset 0x032C, reset by device reset. -/
def F.TWIN_T_STAT_PSTATUS : Fld := ⟨9, 2, 0x032C, 4, 16, 3, .ro, 0x0⟩
def F.TWIN_T_STAT_CLASS : Fld := ⟨9, 2, 0x032C, 4, 8, 2, .ro, 0x0⟩
def F.TWIN_T_STAT_FP_DIFF : Fld := ⟨9, 2, 0x032C, 4, 2, 1, .ro, 0x0⟩
def F.TWIN_T_STAT_FALLBACK : Fld := ⟨9, 2, 0x032C, 4, 1, 1, .ro, 0x0⟩
def F.TWIN_T_STAT_INSTALLED : Fld := ⟨9, 2, 0x032C, 4, 0, 1, .ro, 0x0⟩
def R.TWIN_T_STAT : RegDesc := ⟨9, 2, 0x032C, 4, 1, [F.TWIN_T_STAT_PSTATUS, F.TWIN_T_STAT_CLASS, F.TWIN_T_STAT_FP_DIFF, F.TWIN_T_STAT_FALLBACK, F.TWIN_T_STAT_INSTALLED]⟩

/-- Every register of the TWIN block. -/
def regsTWIN : List RegDesc := [
  R.TWIN_CTRL, R.TWIN_STAT, R.TWIN_FLT, R.TWIN_IEN, R.TWIN_CMD, R.TWIN_WAIT,
  R.TWIN_LINK, R.TWIN_PEER, R.TWIN_OWN_TAG, R.TWIN_BUNDLE_TAG, R.TWIN_WAKE, R.TWIN_WAKE_DA_HI,
  R.TWIN_WAKE_DA_LO, R.TWIN_XFER, R.TWIN_CNTOVF, R.TWIN_INPUT, R.TWIN_DECISION, R.TWIN_SEL,
  R.TWIN_G_STAT, R.TWIN_G_DN, R.TWIN_G_RLAST, R.TWIN_G_RMAX, R.TWIN_T_POL, R.TWIN_T_RES,
  R.TWIN_T_PFP, R.TWIN_T_STAT]

def C.TWIN_FRAMES_TX : Ctr := ⟨9, 0, 0x0400, 0x0, F.TWIN_CNTOVF_DEV_OVF, .device, none⟩
def C.TWIN_FRAMES_RX : Ctr := ⟨9, 0, 0x0408, 0x0, F.TWIN_CNTOVF_DEV_OVF, .device, none⟩
def C.TWIN_DUP_DISCARD : Ctr := ⟨9, 0, 0x0410, 0x0, F.TWIN_CNTOVF_DEV_OVF, .device, none⟩
def C.TWIN_CRC_ERR_0 : Ctr := ⟨9, 0, 0x0418, 0x0, F.TWIN_CNTOVF_DEV_OVF, .device, none⟩
def C.TWIN_CRC_ERR_1 : Ctr := ⟨9, 0, 0x0420, 0x0, F.TWIN_CNTOVF_DEV_OVF, .device, none⟩
def C.TWIN_LINK_LOSSES : Ctr := ⟨9, 0, 0x0428, 0x0, F.TWIN_CNTOVF_DEV_OVF, .device, none⟩
def C.TWIN_LANE_LOSSES : Ctr := ⟨9, 0, 0x0430, 0x0, F.TWIN_CNTOVF_DEV_OVF, .device, none⟩
def C.TWIN_ROLE_CHANGES : Ctr := ⟨9, 0, 0x0438, 0x0, F.TWIN_CNTOVF_DEV_OVF, .device, none⟩
def C.TWIN_WAKES : Ctr := ⟨9, 0, 0x0440, 0x0, F.TWIN_CNTOVF_DEV_OVF, .device, none⟩
def C.TWIN_XFER_IMAGES : Ctr := ⟨9, 0, 0x0448, 0x0, F.TWIN_CNTOVF_DEV_OVF, .device, none⟩
def C.TWIN_RESET_REQ_TX : Ctr := ⟨9, 0, 0x0450, 0x0, F.TWIN_CNTOVF_DEV_OVF, .device, none⟩
def C.TWIN_RESET_REQ_RX : Ctr := ⟨9, 0, 0x0458, 0x0, F.TWIN_CNTOVF_DEV_OVF, .device, none⟩
def C.TWIN_RESET_REFUSED : Ctr := ⟨9, 0, 0x0460, 0x0, F.TWIN_CNTOVF_DEV_OVF, .device, none⟩
def C.TWIN_G_RECORDS : Ctr := ⟨9, 0, 0x0800, 0x40, F.TWIN_CNTOVF_GRP_OVF, .device, none⟩
def C.TWIN_G_LATE_RECORDS : Ctr := ⟨9, 0, 0x0808, 0x40, F.TWIN_CNTOVF_GRP_OVF, .device, none⟩
def C.TWIN_G_MISSING_RECORDS : Ctr := ⟨9, 0, 0x0810, 0x40, F.TWIN_CNTOVF_GRP_OVF, .device, none⟩
def C.TWIN_G_FALLBACK_WINDOWS : Ctr := ⟨9, 0, 0x0818, 0x40, F.TWIN_CNTOVF_GRP_OVF, .device, none⟩
def C.TWIN_G_ALIGN_LOSSES : Ctr := ⟨9, 0, 0x0820, 0x40, F.TWIN_CNTOVF_GRP_OVF, .device, none⟩
def C.TWIN_T_INPUT_DIFF : Ctr := ⟨9, 0, 0x0A00, 0x20, F.TWIN_CNTOVF_PART_OVF, .device, none⟩
def C.TWIN_T_DECISION_DIFF : Ctr := ⟨9, 0, 0x0A08, 0x20, F.TWIN_CNTOVF_PART_OVF, .device, none⟩
def C.TWIN_T_FALLBACKS : Ctr := ⟨9, 0, 0x0A10, 0x20, F.TWIN_CNTOVF_PART_OVF, .device, none⟩
def C.TWIN_T_FP_DIFF : Ctr := ⟨9, 0, 0x0A18, 0x20, F.TWIN_CNTOVF_PART_OVF, .device, none⟩

end Sys2Proof.Machine
end

