-- ==== Sys2Proof/Machine/LaneBase.lean ====
section
/-! DEFINITION. What the lanes, Tide and the partition resets share: pairs, slots, partitions and window statuses. -/

namespace Sys2Proof.Machine

def lanePairs : Nat := 24
def laneSlots : Nat := 16

/-- Regions of no size. -/
def SlotRegions.reset : SlotRegions := { codeBase := 0, codeSize := 0, dataBase := 0, dataSize := 0, stateBase := 0, stateSize := 0 }

def LanePair.reset : LanePair :=
  { pc := 0, x := List.replicate 32 0, f := List.replicate 32 0, fcsr := 0, cycle := 0, instret := 0, ready := [],
    pxFree := 0, slot := 0, part := 0, run := false, group := 0, start := 0, limit := 0, regs := SlotRegions.reset, desc := List.replicate 8 0, stat := List.replicate 8 0,
    staging := List.replicate 64 0, attachAt := none, halted := false, debugger := false, resume := false, trigs := [], undo := [],
    undoFaulty := [], undoSingle := [], undoFirst := 0 }

def LanePart.reset : LanePart :=
  { vec := List.replicate 64 0, pendVec := none, pendState := false, outcome := 0, lastStatus := 0, lastCause := 0,
    debugLast := false, first := 0, used := 0, commits := 0, fpc := 0, ftval := 0, regs := SlotRegions.reset }

def State.pair (s : State) (n : Nat) : LanePair := sparseGet LanePair.reset s.lane.pairs n

def State.setPair (s : State) (n : Nat) (p : LanePair) : State :=
  { s with lane := { s.lane with pairs := sparseSet LanePair.reset s.lane.pairs n p } }

def State.lpart (s : State) (p : Nat) : LanePart := sparseGet LanePart.reset s.lane.parts p

def State.setLpart (s : State) (p : Nat) (v : LanePart) : State :=
  { s with lane := { s.lane with parts := sparseSet LanePart.reset s.lane.parts p v } }

/-! ## Window statuses (R204) -/

def wsNotRun : Nat := 0
def wsCommitted : Nat := 1
def wsHeld : Nat := 2
def wsLate : Nat := 3
def wsFault : Nat := 4
def wsFail : Nat := 5
def wsReset : Nat := 6

/-- The place of a status in the order of R210: the first that applies is delivered. -/
def wsRank (st : Nat) : Nat :=
  if st = wsFail then 6 else if st = wsReset then 5 else if st = wsFault then 4 else if st = wsLate then 3
  else if st = wsHeld then 2 else if st = wsCommitted then 1 else 0

/-- The status delivered when two events touch one partition in one window (R210). -/
def wsMerge (a b : Nat) : Nat := if wsRank a < wsRank b then b else a

/-- A further event of a partition's window. -/
def markOutcome (s : State) (p st : Nat) : State :=
  let l := s.lpart p
  s.setLpart p { l with outcome := wsMerge l.outcome st }

/-! ## Slots -/

def roleWorking : Nat := 1
def roleSpare : Nat := 2

/-- The role of a pair: 0b11 is treated as UNUSED. -/
def pairRole (s : State) (n : Nat) : Nat :=
  let r := s.fld F.TIDE_P_CFG_ROLE n
  if r = 3 then 0 else r

def slotEn (s : State) (n j : Nat) : Bool := s.flag (F.TIDE_P_SLOT_CTL_EN.el j) n
def slotPart (s : State) (n j : Nat) : Nat := s.fld (F.TIDE_P_SLOT_CTL_PART.el j) n
/-- DIV in windows: 1, 2, 4 or 8. -/
def slotDiv (s : State) (n j : Nat) : Nat := 2 ^ s.fld (F.TIDE_P_SLOT_CTL_DIV.el j) n
def slotPhase (s : State) (n j : Nat) : Nat := s.fld (F.TIDE_P_SLOT_CTL_PHASE.el j) n
def slotStart (s : State) (n j : Nat) : Nat := s.fld (F.TIDE_P_SLOT_START_START.el j) n
def slotBudget (s : State) (n j : Nat) : Nat := s.fld (F.TIDE_P_SLOT_BUDGET_BUDGET.el j) n

/-! The regions of a slot, in KiB and octets. -/

def slotCodeBase (s : State) (n j : Nat) : Nat := s.fld (F.LANE_P_SLOT_CODE_CODE_BASE.el j) n
def slotCodeSize (s : State) (n j : Nat) : Nat := s.fld (F.LANE_P_SLOT_CODE_CODE_SIZE.el j) n
def slotEntry (s : State) (n j : Nat) : Nat := s.fld (F.LANE_P_SLOT_ENTRY_ENTRY.el j) n
def slotDataBase (s : State) (n j : Nat) : Nat := s.fld (F.LANE_P_SLOT_DATA_DATA_BASE.el j) n
def slotDataSize (s : State) (n j : Nat) : Nat := s.fld (F.LANE_P_SLOT_DATA_DATA_SIZE.el j) n
def slotStateBase (s : State) (n j : Nat) : Nat := s.fld (F.LANE_P_SLOT_STATE_STATE_BASE.el j) n
def slotStateSize (s : State) (n j : Nat) : Nat := s.fld (F.LANE_P_SLOT_STATE_STATE_SIZE.el j) n

/-- The regions of a slot as its registers give them. -/
def slotRegions (s : State) (n j : Nat) : SlotRegions :=
  { codeBase := slotCodeBase s n j, codeSize := slotCodeSize s n j, dataBase := slotDataBase s n j, dataSize := slotDataSize s n j
    stateBase := slotStateBase s n j, stateSize := slotStateSize s n j }

/-! ## Measured ranges (R461, R462) -/

/-- The key of an approval record: its kind (1 IMAGE, 2 SETTINGS, 3 BUNDLE) and index. -/
def recKey (kind idx : Nat) : Nat := kind * 256 + idx

/-- The SIZE of the SETTINGS record of a partition, 0 while it is not VALID. -/
def settingsSize (s : State) (p : Nat) : Nat :=
  match sparseFind (recKey 2 p) s.keys.recs with
  | some r => r.size
  | none => 0

/-- Clear IMAGE_OK and SETTINGS_OK of a partition. -/
def clearMeasure (s : State) (p : Nat) : State := (s.setFlag F.KEYS_T_STAT_IMAGE_OK false p).setFlag F.KEYS_T_STAT_SET_OK false p

/-- A fabric or JTAG write of `n` octets at an offset of a table's window clears the measurements of the partitions whose measured ranges it
falls in (R462). -/
def clearMeasured (s : State) (t off n : Nat) : State :=
  ((List.range laneSlots).filter (slotEn s t)).foldl (fun s j =>
    let p := slotPart s t j
    let hit (base size : Nat) : Bool := decide (base < off + n) && decide (off < base + size)
    if hit (slotCodeBase s t j * 1024) (slotCodeSize s t j * 1024) || hit (0x40000 + slotDataBase s t j * 1024) (settingsSize s p)
    then clearMeasure s p else s) s

/-- A slot runs in lane window N when EN is set and N mod DIV = PHASE (R107). -/
def slotRuns (s : State) (n j w : Nat) : Bool := slotEn s n j && decide (w % slotDiv s n j = slotPhase s n j)

/-- The tables of a group: the WORKING pairs whose GROUP it is. -/
def groupTables (s : State) (g : Nat) : List Nat :=
  (List.range lanePairs).filter fun n => pairRole s n = roleWorking && s.fld F.TIDE_P_CFG_GROUP n = g

/-- The enabled slots of a group's tables: table and slot. -/
def groupSlots (s : State) (g : Nat) : List (Nat × Nat) :=
  (groupTables s g).flatMap fun n => ((List.range laneSlots).filter (slotEn s n)).map fun j => (n, j)

/-- The enabled slots of WORKING pairs that name a partition, as table and slot. -/
def slotsOf (s : State) (p : Nat) : List (Nat × Nat) :=
  (List.range lanePairs).flatMap fun n =>
    ((List.range laneSlots).filter fun j => pairRole s n = roleWorking && slotEn s n j && slotPart s n j = p).map fun j => (n, j)

/-- The enabled slot of a partition: table and slot, one in an enabled group before another (R109 admits one of a group when it is enabled). -/
def slotOf (s : State) (p : Nat) : Option (Nat × Nat) :=
  match (slotsOf s p).find? fun (n, _) => s.fbit F.TIDE_CTRL_GEN (s.fld F.TIDE_P_CFG_GROUP n) with
  | some e => some e
  | none => (slotsOf s p).head?

/-- The group a partition runs in. -/
def groupOf (s : State) (p : Nat) : Option Nat := (slotOf s p).map fun (n, _) => s.fld F.TIDE_P_CFG_GROUP n

/-- Is a group enabled? -/
def grpEn (s : State) (g : Nat) : Bool := s.fbit F.TIDE_CTRL_GEN g

/-- Is a partition in an enabled slot of an enabled group? -/
def partScheduled (s : State) (p : Nat) : Bool := (slotsOf s p).any fun (n, _) => grpEn s (s.fld F.TIDE_P_CFG_GROUP n)

/-- The slot table a pair runs, 0x1F for none. -/
def noTable : Nat := 0x1F

/-- The pair that runs a table, if any. -/
def pairOfTable (s : State) (t : Nat) : Option Nat :=
  (List.range lanePairs).find? fun n => s.fld F.TIDE_P_STAT_TABLE n = t && s.fld F.TIDE_P_STAT_RUN n = 1

/-! ## ECC of the lane memories (R207) -/

/-- The words that a range of octets touches. -/
def laneWords (a n : Nat) : List Nat := (List.range ((a + n - 1) / 4 + 1 - a / 4)).map fun j => (a / 4 + j) * 4

/-- Count corrected errors that an access met in the memories of a table. -/
def laneCeCount (s : State) (t n : Nat) : State :=
  if n = 0 then s else ((s.countBy C.LANE_ECC_CE n).countBy C.LANE_P_ECC_CE n t).setFlt F.LANE_FLT_ECC_CE

/-- The words of a range of octets just written are sound. -/
def laneSound (s : State) (a n : Nat) : State :=
  let keep (w : Nat) : Bool := !(decide (a / 4 ≤ w / 4) && decide (w / 4 ≤ (a + n - 1) / 4))
  { s with lane := { s.lane with faulty := s.lane.faulty.filter keep, single := s.lane.single.filter keep } }

/-! ## Groups -/

def TideGrp.reset : TideGrp :=
  { k := 0, x := 0, b := 0, frac := Q.zero, wins := [], evals := [], okRun := 0, quietRun := 0, lockRun := 0, integ := Q.zero,
    fHold := Q.zero, entry := 0, cmds := [], refA := [], refB := [], refC := [], desc := [], nextWin := 0,
    cur := none, stopping := false }

def State.grp (s : State) (g : Nat) : TideGrp := sparseGet TideGrp.reset s.tide.grps g

def State.setGrp (s : State) (g : Nat) (v : TideGrp) : State :=
  { s with tide := { s.tide with grps := sparseSet TideGrp.reset s.tide.grps g v } }

/-- Device time in units of 2^-16 ns. -/
def State.devT (s : State) : Nat := s.devNs * 65536

/-! ## A run on a pair -/

/-- The cycles of a slot's preamble (R108, R194). -/
def preamble : Nat := 512

/-- The table a pair runs. -/
def pairTable (s : State) (n : Nat) : Nat := s.fld F.TIDE_P_STAT_TABLE n

/-- The group whose window a pair's run belongs to. -/
def pairGroup (s : State) (n : Nat) : Nat := (s.pair n).group

/-- The LANE cycles since the start of a group's lane window: 1.2 to a SYS cycle. -/
def laneElapsed (s : State) (w : LaneWin) : Nat := (s.time.sys - w.edge) * 6 / 5

/-- The cycle count of a pair's run by the time that has passed in its window. -/
def laneClock (s : State) (n : Nat) : Nat :=
  match (s.grp (pairGroup s n)).cur with
  | none => 0
  | some w => laneElapsed s w - ((s.pair n).start + preamble)

/-- Does a pair execute a partition: the preamble of the slot has ended (R108, R194)? -/
def pairExecutes (s : State) (n : Nat) : Bool :=
  (s.pair n).run && match (s.grp (pairGroup s n)).cur with
    | none => false
    | some w => decide ((s.pair n).start + preamble ≤ laneElapsed s w)

/-- Record the cycles a run used (R196). -/
def laneUsed (s : State) (n used : Nat) : State :=
  let c := s.pair n
  let t := pairTable s n
  let u := min used (2 ^ 22 - 1)
  let s := s.setFld (F.LANE_P_SLOT_USED_LAST_USED.el c.slot) u t
  let m := F.LANE_P_SLOT_USED_MAX_USED_MAX.el c.slot
  let s := if s.fld m t < u then s.setFld m u t else s
  s.setLpart c.part { s.lpart c.part with used := used }

/-- The partition that a pair executes stops. -/
def laneStop (s : State) (n used : Nat) : State :=
  let s := laneUsed s n used
  s.setPair n { s.pair n with run := false }

/-- A run is stopped from outside: it has used the cycles that it has issued, or those that have passed. -/
def laneHaltRun (s : State) (n : Nat) : State := laneStop s n (max (s.pair n).cycle (min (laneClock s n) (s.pair n).limit))

/-- The slot of a partition that runs in a lane window in progress, before its commit edge (R14). -/
def runningSlot (s : State) (p : Nat) : Option LaneSlot :=
  (List.range 8).findSome? fun g =>
    match (s.grp g).cur with
    | some w => if s.devT < w.stop then w.slots.find? fun e => e.runs && decide (e.part = p) else none
    | none => none

/-! ## Partition reset on the lanes (R209) -/

/-- A reset of a partition is asserted: it stops where it runs; before the commit edge its pending vector and state are
discarded; a window in progress in which its slot runs has status RESET. Its next run is a first run. -/
def laneReset (s : State) (p : Nat) : State :=
  let s := (List.range lanePairs).foldl (fun s n =>
    let c := s.pair n
    if c.run && c.part = p then laneHaltRun s n else s) s
  let s := s.setFlag F.LANE_T_STAT_RESET_HELD true p
  let l := s.lpart p
  let s := s.setLpart p { l with first := 2, commits := 0, fpc := 0, ftval := 0 }
  if (runningSlot s p).isNone then s
  else
    let l := s.lpart p
    let s := s.setLpart p { l with pendVec := none, pendState := false, outcome := wsMerge l.outcome wsReset }
    if l.pendVec.isSome then (s.count C.LANE_T_RESET_DROPS p).setFlt F.LANE_FLT_RESET_DROP else s

/-! ## Joining (R306) -/

/-- Is a partition held by the joining of its module: it is of an enabled group and waits for its image (R306)? -/
def joinHeld (s : State) (p : Nat) : Bool :=
  s.flag F.TWIN_CTRL_XFER_REQ && partScheduled s p && match s.twin.join with
    | none => true
    | some j => !j.ended && !j.done.contains p

/-- A hold of a partition by the joining begins as a held partition reset does, or ends (R209, R306). -/
def joinSettleOne (s : State) (p : Nat) : State :=
  let held := s.flag F.LANE_T_STAT_RESET_HELD p
  if joinHeld s p then (if held then s else laneReset s p)
  else if held && !s.flag F.PART_T_STAT_HELD p then s.setFlag F.LANE_T_STAT_RESET_HELD false p
  else s

/-- After a change of XFER_REQ, of the joining or of the enabled groups. Partition 0 is never held. -/
def joinSettle (s : State) : State := ((List.range 128).drop 1).foldl joinSettleOne s

end Sys2Proof.Machine
end

