-- ==== Sys2Proof/Machine/RegsDrec.lean ====
section
/-! DEFINITION. The DREC register block (block 10) as the register tables of spec/10_disturbance_recorder.md give it: every field with its
bits, access and reset value (F), every register (R), and the statistics counters of its banks (C). -/

namespace Sys2Proof.Machine

/-! DREC_CTRL: offset 0x0000, reset by device reset. -/
def F.DREC_CTRL_LOCK : Fld := ⟨10, 0, 0x0000, 4, 31, 1, .wl, 0x0⟩
def F.DREC_CTRL_OVWR : Fld := ⟨10, 0, 0x0000, 4, 1, 1, .rw, 0x0⟩
def F.DREC_CTRL_EN : Fld := ⟨10, 0, 0x0000, 4, 0, 1, .rw, 0x0⟩
def R.DREC_CTRL : RegDesc := ⟨10, 0, 0x0000, 4, 1, [F.DREC_CTRL_LOCK, F.DREC_CTRL_OVWR, F.DREC_CTRL_EN]⟩

/-! DREC_STAT: offset 0x0004, reset by device reset. -/
def F.DREC_STAT_DONE : Fld := ⟨10, 0, 0x0004, 4, 16, 13, .ro, 0x0⟩
def F.DREC_STAT_CUR : Fld := ⟨10, 0, 0x0004, 4, 3, 12, .ro, 0x0⟩
def F.DREC_STAT_STATE : Fld := ⟨10, 0, 0x0004, 4, 0, 3, .ro, 0x0⟩
def R.DREC_STAT : RegDesc := ⟨10, 0, 0x0004, 4, 1, [F.DREC_STAT_DONE, F.DREC_STAT_CUR, F.DREC_STAT_STATE]⟩

/-! DREC_FLT: offset 0x0008, reset by device reset. -/
def F.DREC_FLT_LATE_VALUE : Fld := ⟨10, 0, 0x0008, 4, 9, 1, .w1c, 0x0⟩
def F.DREC_FLT_TRUNC : Fld := ⟨10, 0, 0x0008, 4, 8, 1, .w1c, 0x0⟩
def F.DREC_FLT_TICKS_LOST : Fld := ⟨10, 0, 0x0008, 4, 7, 1, .w1c, 0x0⟩
def F.DREC_FLT_OVERWRITE : Fld := ⟨10, 0, 0x0008, 4, 6, 1, .w1c, 0x0⟩
def F.DREC_FLT_BLOCKED : Fld := ⟨10, 0, 0x0008, 4, 5, 1, .w1c, 0x0⟩
def F.DREC_FLT_MISSED : Fld := ⟨10, 0, 0x0008, 4, 4, 1, .w1c, 0x0⟩
def F.DREC_FLT_SEGMENT : Fld := ⟨10, 0, 0x0008, 4, 3, 1, .w1c, 0x0⟩
def F.DREC_FLT_UNIT_REFUSED : Fld := ⟨10, 0, 0x0008, 4, 2, 1, .w1c, 0x0⟩
def F.DREC_FLT_CAP_REFUSED : Fld := ⟨10, 0, 0x0008, 4, 1, 1, .w1c, 0x0⟩
def F.DREC_FLT_CFG_ERR : Fld := ⟨10, 0, 0x0008, 4, 0, 1, .w1c, 0x0⟩
def R.DREC_FLT : RegDesc := ⟨10, 0, 0x0008, 4, 1, [F.DREC_FLT_LATE_VALUE, F.DREC_FLT_TRUNC, F.DREC_FLT_TICKS_LOST, F.DREC_FLT_OVERWRITE, F.DREC_FLT_BLOCKED, F.DREC_FLT_MISSED, F.DREC_FLT_SEGMENT, F.DREC_FLT_UNIT_REFUSED, F.DREC_FLT_CAP_REFUSED, F.DREC_FLT_CFG_ERR]⟩

/-! DREC_IEN: offset 0x000C, reset by device reset. -/
def F.DREC_IEN_IEN : Fld := ⟨10, 0, 0x000C, 4, 0, 10, .rw, 0x0⟩
def R.DREC_IEN : RegDesc := ⟨10, 0, 0x000C, 4, 1, [F.DREC_IEN_IEN]⟩

/-! DREC_CMD: offset 0x0010, reset by device reset. -/
def F.DREC_CMD_UNIT : Fld := ⟨10, 0, 0x0010, 4, 4, 5, .wo, 0x0⟩
def F.DREC_CMD_CMD : Fld := ⟨10, 0, 0x0010, 4, 0, 4, .wo, 0x0⟩
def R.DREC_CMD : RegDesc := ⟨10, 0, 0x0010, 4, 1, [F.DREC_CMD_UNIT, F.DREC_CMD_CMD]⟩

/-! DREC_CARVE_BASE: offset 0x0014, reset by device reset. -/
def F.DREC_CARVE_BASE_VAL : Fld := ⟨10, 0, 0x0014, 4, 0, 15, .rw, 0x0⟩
def R.DREC_CARVE_BASE : RegDesc := ⟨10, 0, 0x0014, 4, 1, [F.DREC_CARVE_BASE_VAL]⟩

/-! DREC_CARVE_SIZE: offset 0x0018, reset by device reset. -/
def F.DREC_CARVE_SIZE_VAL : Fld := ⟨10, 0, 0x0018, 4, 0, 15, .rw, 0x0⟩
def R.DREC_CARVE_SIZE : RegDesc := ⟨10, 0, 0x0018, 4, 1, [F.DREC_CARVE_SIZE_VAL]⟩

/-! DREC_NSEG: offset 0x001C, reset by device reset. -/
def F.DREC_NSEG_NSEG : Fld := ⟨10, 0, 0x001C, 4, 0, 13, .rw, 0x1⟩
def R.DREC_NSEG : RegDesc := ⟨10, 0, 0x001C, 4, 1, [F.DREC_NSEG_NSEG]⟩

/-! DREC_NCH: offset 0x0020, reset by device reset. -/
def F.DREC_NCH_NA : Fld := ⟨10, 0, 0x0020, 4, 16, 12, .rw, 0x0⟩
def F.DREC_NCH_NB : Fld := ⟨10, 0, 0x0020, 4, 0, 13, .rw, 0x0⟩
def R.DREC_NCH : RegDesc := ⟨10, 0, 0x0020, 4, 1, [F.DREC_NCH_NA, F.DREC_NCH_NB]⟩

/-! DREC_PRE: offset 0x0024, reset by device reset. -/
def F.DREC_PRE_VAL : Fld := ⟨10, 0, 0x0024, 4, 0, 24, .rw, 0xB40⟩
def R.DREC_PRE : RegDesc := ⟨10, 0, 0x0024, 4, 1, [F.DREC_PRE_VAL]⟩

/-! DREC_POST: offset 0x0028, reset by device reset. -/
def F.DREC_POST_VAL : Fld := ⟨10, 0, 0x0028, 4, 0, 24, .rw, 0x3840⟩
def R.DREC_POST : RegDesc := ⟨10, 0, 0x0028, 4, 1, [F.DREC_POST_VAL]⟩

/-! DREC_RED: offset 0x002C, reset by device reset. -/
def F.DREC_RED_RED_EN : Fld := ⟨10, 0, 0x002C, 4, 31, 1, .rw, 0x0⟩
def F.DREC_RED_RGROUP : Fld := ⟨10, 0, 0x002C, 4, 0, 3, .rw, 0x0⟩
def R.DREC_RED : RegDesc := ⟨10, 0, 0x002C, 4, 1, [F.DREC_RED_RED_EN, F.DREC_RED_RGROUP]⟩

/-! DREC_CONF_TAG: offset 0x0030, reset by device reset. -/
def F.DREC_CONF_TAG_CONF_TAG : Fld := ⟨10, 0, 0x0030, 4, 0, 32, .rw, 0x0⟩
def R.DREC_CONF_TAG : RegDesc := ⟨10, 0, 0x0030, 4, 1, [F.DREC_CONF_TAG_CONF_TAG]⟩

/-! DREC_CAP: offset 0x0034, reset by device reset. -/
def F.DREC_CAP_VAL : Fld := ⟨10, 0, 0x0034, 4, 0, 24, .ro, 0x0⟩
def R.DREC_CAP : RegDesc := ⟨10, 0, 0x0034, 4, 1, [F.DREC_CAP_VAL]⟩

/-! DREC_SLOT: offset 0x0038, reset by device reset. -/
def F.DREC_SLOT_VAL : Fld := ⟨10, 0, 0x0038, 4, 0, 24, .ro, 0x0⟩
def R.DREC_SLOT : RegDesc := ⟨10, 0, 0x0038, 4, 1, [F.DREC_SLOT_VAL]⟩

/-! DREC_CNTOVF: offset 0x0048, reset by device reset. -/
def F.DREC_CNTOVF_UNIT_OVF : Fld := ⟨10, 0, 0x0048, 4, 1, 1, .ro, 0x0⟩
def F.DREC_CNTOVF_DEV_OVF : Fld := ⟨10, 0, 0x0048, 4, 0, 1, .w1c, 0x0⟩
def R.DREC_CNTOVF : RegDesc := ⟨10, 0, 0x0048, 4, 1, [F.DREC_CNTOVF_UNIT_OVF, F.DREC_CNTOVF_DEV_OVF]⟩

/-! DREC_SEL: offset 0x0100, reset by device reset. -/
def F.DREC_SEL_KIND : Fld := ⟨10, 0, 0x0100, 4, 12, 2, .rw, 0x0⟩
def F.DREC_SEL_INDEX : Fld := ⟨10, 0, 0x0100, 4, 0, 12, .rw, 0x0⟩
def R.DREC_SEL : RegDesc := ⟨10, 0, 0x0100, 4, 1, [F.DREC_SEL_KIND, F.DREC_SEL_INDEX]⟩

/-! DREC_A_SRC: offset 0x0200, reset by device reset. -/
def F.DREC_A_SRC_UNIT : Fld := ⟨10, 1, 0x0200, 4, 16, 2, .rw, 0x0⟩
def F.DREC_A_SRC_CHAN : Fld := ⟨10, 1, 0x0200, 4, 0, 13, .rw, 0x0⟩
def R.DREC_A_SRC : RegDesc := ⟨10, 1, 0x0200, 4, 1, [F.DREC_A_SRC_UNIT, F.DREC_A_SRC_CHAN]⟩

/-! DREC_B_SRC: offset 0x0200, reset by device reset. -/
def F.DREC_B_SRC_KIND : Fld := ⟨10, 2, 0x0200, 4, 30, 2, .rw, 0x0⟩
def F.DREC_B_SRC_A : Fld := ⟨10, 2, 0x0200, 4, 16, 10, .rw, 0x0⟩
def F.DREC_B_SRC_B : Fld := ⟨10, 2, 0x0200, 4, 0, 8, .rw, 0x0⟩
def R.DREC_B_SRC : RegDesc := ⟨10, 2, 0x0200, 4, 1, [F.DREC_B_SRC_KIND, F.DREC_B_SRC_A, F.DREC_B_SRC_B]⟩

/-! DREC_U_CTL: offset 0x0200, reset by device reset. -/
def F.DREC_U_CTL_EN : Fld := ⟨10, 3, 0x0200, 4, 31, 1, .rw, 0x0⟩
def F.DREC_U_CTL_TYPE : Fld := ⟨10, 3, 0x0200, 4, 28, 3, .rw, 0x0⟩
def F.DREC_U_CTL_DIR : Fld := ⟨10, 3, 0x0200, 4, 26, 2, .rw, 0x0⟩
def F.DREC_U_CTL_ABS : Fld := ⟨10, 3, 0x0200, 4, 25, 1, .rw, 0x0⟩
def F.DREC_U_CTL_QREJ : Fld := ⟨10, 3, 0x0200, 4, 24, 1, .rw, 0x1⟩
def F.DREC_U_CTL_PSRC : Fld := ⟨10, 3, 0x0200, 4, 23, 1, .rw, 0x0⟩
def F.DREC_U_CTL_OWNER : Fld := ⟨10, 3, 0x0200, 4, 16, 7, .rw, 0x0⟩
def F.DREC_U_CTL_CHAN : Fld := ⟨10, 3, 0x0200, 4, 0, 12, .rw, 0x0⟩
def R.DREC_U_CTL : RegDesc := ⟨10, 3, 0x0200, 4, 1, [F.DREC_U_CTL_EN, F.DREC_U_CTL_TYPE, F.DREC_U_CTL_DIR, F.DREC_U_CTL_ABS, F.DREC_U_CTL_QREJ, F.DREC_U_CTL_PSRC, F.DREC_U_CTL_OWNER, F.DREC_U_CTL_CHAN]⟩

/-! DREC_U_THR: offset 0x0204, reset by device reset. -/
def F.DREC_U_THR_VAL : Fld := ⟨10, 3, 0x0204, 4, 0, 32, .rw, 0x0⟩
def R.DREC_U_THR : RegDesc := ⟨10, 3, 0x0204, 4, 1, [F.DREC_U_THR_VAL]⟩

/-! DREC_U_HYST: offset 0x0208, reset by device reset. -/
def F.DREC_U_HYST_VAL : Fld := ⟨10, 3, 0x0208, 4, 0, 32, .rw, 0x0⟩
def R.DREC_U_HYST : RegDesc := ⟨10, 3, 0x0208, 4, 1, [F.DREC_U_HYST_VAL]⟩

/-! DREC_U_PAT: offset 0x020C, reset by device reset. -/
def F.DREC_U_PAT_VAL : Fld := ⟨10, 3, 0x020C, 4, 0, 32, .rw, 0x0⟩
def R.DREC_U_PAT : RegDesc := ⟨10, 3, 0x020C, 4, 1, [F.DREC_U_PAT_VAL]⟩

/-! DREC_U_CARE: offset 0x0210, reset by device reset. -/
def F.DREC_U_CARE_VAL : Fld := ⟨10, 3, 0x0210, 4, 0, 32, .rw, 0x0⟩
def R.DREC_U_CARE : RegDesc := ⟨10, 3, 0x0210, 4, 1, [F.DREC_U_CARE_VAL]⟩

/-! DREC_U_RN: offset 0x0214, reset by device reset. -/
def F.DREC_U_RN_RN : Fld := ⟨10, 3, 0x0214, 4, 0, 7, .rw, 0x1⟩
def R.DREC_U_RN : RegDesc := ⟨10, 3, 0x0214, 4, 1, [F.DREC_U_RN_RN]⟩

/-! DREC_U_STAT: offset 0x0218, reset by device reset. -/
def F.DREC_U_STAT_CNT_OVF : Fld := ⟨10, 3, 0x0218, 4, 3, 1, .w1c, 0x0⟩
def F.DREC_U_STAT_COND : Fld := ⟨10, 3, 0x0218, 4, 2, 1, .ro, 0x0⟩
def F.DREC_U_STAT_INHIBIT : Fld := ⟨10, 3, 0x0218, 4, 1, 1, .ro, 0x0⟩
def F.DREC_U_STAT_REFUSED : Fld := ⟨10, 3, 0x0218, 4, 0, 1, .w1c, 0x0⟩
def R.DREC_U_STAT : RegDesc := ⟨10, 3, 0x0218, 4, 1, [F.DREC_U_STAT_CNT_OVF, F.DREC_U_STAT_COND, F.DREC_U_STAT_INHIBIT, F.DREC_U_STAT_REFUSED]⟩

/-! DREC_G_STAT: offset 0x0200, reset by device reset. -/
def F.DREC_G_STAT_STATE : Fld := ⟨10, 4, 0x0200, 4, 0, 3, .ro, 0x0⟩
def R.DREC_G_STAT : RegDesc := ⟨10, 4, 0x0200, 4, 1, [F.DREC_G_STAT_STATE]⟩

/-! DREC_G_SEQ: offset 0x0204, reset by device reset. -/
def F.DREC_G_SEQ_SEG_SEQ : Fld := ⟨10, 4, 0x0204, 4, 0, 32, .ro, 0x0⟩
def R.DREC_G_SEQ : RegDesc := ⟨10, 4, 0x0204, 4, 1, [F.DREC_G_SEQ_SEG_SEQ]⟩

/-! DREC_G_ADDR: offset 0x0208, reset by device reset. -/
def F.DREC_G_ADDR_ADDR : Fld := ⟨10, 4, 0x0208, 4, 0, 23, .ro, 0x0⟩
def R.DREC_G_ADDR : RegDesc := ⟨10, 4, 0x0208, 4, 1, [F.DREC_G_ADDR_ADDR]⟩

/-- Every register of the DREC block. -/
def regsDREC : List RegDesc := [
  R.DREC_CTRL, R.DREC_STAT, R.DREC_FLT, R.DREC_IEN, R.DREC_CMD, R.DREC_CARVE_BASE,
  R.DREC_CARVE_SIZE, R.DREC_NSEG, R.DREC_NCH, R.DREC_PRE, R.DREC_POST, R.DREC_RED,
  R.DREC_CONF_TAG, R.DREC_CAP, R.DREC_SLOT, R.DREC_CNTOVF, R.DREC_SEL, R.DREC_A_SRC,
  R.DREC_B_SRC, R.DREC_U_CTL, R.DREC_U_THR, R.DREC_U_HYST, R.DREC_U_PAT, R.DREC_U_CARE,
  R.DREC_U_RN, R.DREC_U_STAT, R.DREC_G_STAT, R.DREC_G_SEQ, R.DREC_G_ADDR]

def C.DREC_SEGMENTS : Ctr := ⟨10, 0, 0x0400, 0x0, F.DREC_CNTOVF_DEV_OVF, .device, none⟩
def C.DREC_TICKS : Ctr := ⟨10, 0, 0x0408, 0x0, F.DREC_CNTOVF_DEV_OVF, .device, none⟩
def C.DREC_WINDOWS : Ctr := ⟨10, 0, 0x0410, 0x0, F.DREC_CNTOVF_DEV_OVF, .device, none⟩
def C.DREC_TICKS_LOST : Ctr := ⟨10, 0, 0x0418, 0x0, F.DREC_CNTOVF_DEV_OVF, .device, none⟩
def C.DREC_MISSED : Ctr := ⟨10, 0, 0x0420, 0x0, F.DREC_CNTOVF_DEV_OVF, .device, none⟩
def C.DREC_OVERWRITES : Ctr := ⟨10, 0, 0x0428, 0x0, F.DREC_CNTOVF_DEV_OVF, .device, none⟩
def C.DREC_TRUNCATED : Ctr := ⟨10, 0, 0x0430, 0x0, F.DREC_CNTOVF_DEV_OVF, .device, none⟩
def C.DREC_LATE_TICKS : Ctr := ⟨10, 0, 0x0438, 0x0, F.DREC_CNTOVF_DEV_OVF, .device, none⟩
def C.DREC_U_FIRES : Ctr := ⟨10, 3, 0x0240, 0x0, F.DREC_U_STAT_CNT_OVF, .instance_, none⟩
def C.DREC_U_PRIMARIES : Ctr := ⟨10, 3, 0x0248, 0x0, F.DREC_U_STAT_CNT_OVF, .instance_, none⟩
def C.DREC_U_LATERS : Ctr := ⟨10, 3, 0x0250, 0x0, F.DREC_U_STAT_CNT_OVF, .instance_, none⟩
def C.DREC_U_MISSED : Ctr := ⟨10, 3, 0x0258, 0x0, F.DREC_U_STAT_CNT_OVF, .instance_, none⟩

end Sys2Proof.Machine
end

