-- ==== Sys2Proof/Machine/DrecBase.lean ====
section
/-! DEFINITION. What the recorder notes of a value released after the tick that uses it was assembled (R313). -/

namespace Sys2Proof.Machine

def drOff : Nat := 0
def drArmed : Nat := 1
def drRecording : Nat := 2
def drBlocked : Nat := 3

/-- The recorder's state (R324). -/
def drecState (s : State) : Nat := s.fld F.DREC_STAT_STATE

/-- The numbers of analogue and binary channels. -/
def drecNa (s : State) : Nat := s.fld F.DREC_NCH_NA
def drecNb (s : State) : Nat := s.fld F.DREC_NCH_NB

/-- The length of one instant of a rate (0 for 4,800/s, 1 for 14,400/s) in 2^-16 ns, rounded down. -/
def ratePeriod (rate : Nat) : Nat := 1000000000 * 65536 / (if rate = 0 then 4800 else 14400)

/-- Estuary releases the value of channel `c` for instant `t`: the assembled ticks that would have used it are each counted once. -/
def drecReleased (s : State) (c t rate : Nat) : State :=
  if drecState s = drOff then s
  else
    let hit (x : Nat × Bool) : Bool := !x.2 && decide (t ≤ x.1) && decide (x.1 < t + ratePeriod rate)
    if (s.drec.seen.any hit) && (List.range (drecNa s)).any fun a => decide (s.fld F.DREC_A_SRC_CHAN a = c) then
      let n := (s.drec.seen.filter hit).length
      let s := (s.countBy C.DREC_LATE_TICKS n).setFlt F.DREC_FLT_LATE_VALUE
      { s with drec := { s.drec with seen := s.drec.seen.map fun x => if hit x then (x.1, true) else x } }
    else s

end Sys2Proof.Machine
end

