-- ==== Sys2Proof/Machine/Float.lean ====
section
/-! DEFINITION. IEEE 754 binary numbers as bit patterns: decoding, exact values, and rounding once, with the exception flags
of the F extension. -/

namespace Sys2Proof.Machine

/-- A binary format: exponent and fraction widths. -/
structure FpFmt where
  eb : Nat
  mb : Nat
  deriving DecidableEq, Repr

def fp32 : FpFmt := ⟨8, 23⟩
def fp64 : FpFmt := ⟨11, 52⟩

namespace FpFmt

def bias (f : FpFmt) : Int := 2 ^ (f.eb - 1) - 1
def expAll (f : FpFmt) : Nat := 2 ^ f.eb - 1
def signBit (f : FpFmt) : Nat := 2 ^ (f.eb + f.mb)
def inf (f : FpFmt) (neg : Bool) : Nat := ofBit neg * f.signBit + f.expAll * 2 ^ f.mb
def qnan (f : FpFmt) : Nat := f.expAll * 2 ^ f.mb + 2 ^ (f.mb - 1)
def zero (f : FpFmt) (neg : Bool) : Nat := ofBit neg * f.signBit
def maxFin (f : FpFmt) (neg : Bool) : Nat := f.inf neg - 1

def neg (f : FpFmt) (v : Nat) : Bool := bitOf v (f.eb + f.mb)
def exp (f : FpFmt) (v : Nat) : Nat := v / 2 ^ f.mb % 2 ^ f.eb
def frac (f : FpFmt) (v : Nat) : Nat := v % 2 ^ f.mb

def isNan (f : FpFmt) (v : Nat) : Bool := decide (f.exp v = f.expAll) && decide (f.frac v ≠ 0)
def isSnan (f : FpFmt) (v : Nat) : Bool := f.isNan v && !bitOf v (f.mb - 1)
def isInf (f : FpFmt) (v : Nat) : Bool := decide (f.exp v = f.expAll) && decide (f.frac v = 0)
def isZero (f : FpFmt) (v : Nat) : Bool := decide (v % f.signBit = 0)
def isFin (f : FpFmt) (v : Nat) : Bool := decide (f.exp v ≠ f.expAll)
def isSub (f : FpFmt) (v : Nat) : Bool := decide (f.exp v = 0) && decide (f.frac v ≠ 0)

/-- The exact value of a finite number; NaN and infinity give 0. -/
def toQ (f : FpFmt) (v : Nat) : Q :=
  let e := f.exp v
  let m : Int := if e = 0 then f.frac v else f.frac v + 2 ^ f.mb
  let x : Int := (if e = 0 then 1 else (e : Int)) - f.bias - f.mb
  let m := if f.neg v then -m else m
  if !f.isFin v then Q.zero
  else if 0 ≤ x then ⟨m * 2 ^ x.toNat, 1⟩ else Q.red ⟨m, 2 ^ (-x).toNat⟩

end FpFmt

/-! ## Flags and rounding modes -/

def fNX : Nat := 1
def fUF : Nat := 2
def fOF : Nat := 4
def fDZ : Nat := 8
def fNV : Nat := 16

def rmRNE : Nat := 0
def rmRTZ : Nat := 1
def rmRDN : Nat := 2
def rmRUP : Nat := 3
def rmRMM : Nat := 4

/-- Does a magnitude `q + r / d` round away from zero in a rounding mode? -/
def roundsUp (rm : Nat) (neg : Bool) (q r d : Nat) : Bool :=
  if r = 0 then false
  else if rm = rmRTZ then false
  else if rm = rmRDN then neg
  else if rm = rmRUP then !neg
  else if rm = rmRMM then decide (d ≤ 2 * r)
  else decide (d < 2 * r) || (decide (2 * r = d) && decide (q % 2 = 1))

/-- The magnitude `n / d` as a multiple of `2 ^ x`, rounded: the integer and whether it is inexact. -/
def roundAt (rm : Nat) (neg : Bool) (n d : Nat) (x : Int) : Nat × Bool :=
  let n := if x < 0 then n * 2 ^ (-x).toNat else n
  let d := if 0 < x then d * 2 ^ x.toNat else d
  let q := n / d
  let r := n % d
  (if roundsUp rm neg q r d then q + 1 else q, decide (r ≠ 0))

/-- The exponent of a positive magnitude: 2^e ≤ n / d < 2^(e + 1). -/
def magExp (n d : Nat) : Int :=
  let l : Int := (Nat.log2 n : Int) - (Nat.log2 d : Int)
  let ge : Bool := if 0 ≤ l then decide (d * 2 ^ l.toNat ≤ n) else decide (d ≤ n * 2 ^ (-l).toNat)
  if ge then l else l - 1

/-- Round a magnitude once into a format: the bits and the flags (tininess is detected after rounding). -/
def FpFmt.roundMag (f : FpFmt) (rm : Nat) (neg : Bool) (n d : Nat) : Nat × Nat :=
  if n = 0 then (f.zero neg, 0)
  else
    let d := if d = 0 then 1 else d
    let e := magExp n d
    let emin : Int := 1 - f.bias
    let x : Int := (if e < emin then emin else e) - f.mb
    let (q, inexact) := roundAt rm neg n d x
    let (q, x) := if 2 ^ (f.mb + 1) ≤ q then (q / 2, x + 1) else (q, x)
    let tiny : Bool := decide (e < emin) &&
      !(decide (e + 1 = emin) && decide (2 ^ (f.mb + 1) ≤ (roundAt rm neg n d (e - f.mb)).1))
    let sign := ofBit neg * f.signBit
    if q < 2 ^ f.mb then (sign + q, if inexact then fNX + (if tiny then fUF else 0) else 0)
    else
      let be : Int := x + f.mb + f.bias
      if (f.expAll : Int) ≤ be then
        let toInf : Bool := if rm = rmRTZ then false else if rm = rmRDN then neg else if rm = rmRUP then !neg else true
        (if toInf then f.inf neg else f.maxFin neg, fOF + fNX)
      else (sign + be.toNat * 2 ^ f.mb + (q - 2 ^ f.mb), if inexact then fNX + (if tiny then fUF else 0) else 0)

/-- Round a rational once; `zneg` is the sign of an exact zero. -/
def FpFmt.round (f : FpFmt) (rm : Nat) (zneg : Bool) (v : Q) : Nat × Nat :=
  if v.n = 0 then (f.zero zneg, 0) else f.roundMag rm (decide (v.n < 0)) v.n.natAbs v.den

/-- A rational rounded once to binary32, to nearest even. -/
def b32 (v : Q) : Nat := (fp32.round rmRNE false v).1

end Sys2Proof.Machine

namespace Sys2Proof.Machine

/-- The integer square root, by bits. -/
def isqrt (n : Nat) : Nat :=
  let k := Nat.log2 n / 2 + 1
  (List.range (k + 1)).foldl (fun r i => let t := r + 2 ^ (k - i); if t * t ≤ n then t else r) 0

/-- The square root of a non-negative rational rounded once in a format and mode: enough bits are kept below the result for the
rounding to be exact, the last standing for all that follow. -/
def FpFmt.sqrtQ (f : FpFmt) (rm : Nat) (v : Q) : Nat × Nat :=
  let k := 2 * f.mb + 2 ^ (f.eb - 1) + 8
  let num := v.n.toNat * 4 ^ k
  let r := isqrt (num / v.den)
  let sticky := ofBit (decide (r * r * v.den ≠ num))
  f.roundMag rm false (2 * r + sticky) (2 ^ (k + 1))

end Sys2Proof.Machine
end

