-- ==== Sys2Proof/Machine/RegsFdc.lean ====
section
/-! DEFINITION. The FDC register block (block 5) as the register tables of spec/05_filter_chain.md give it: every field with its
bits, access and reset value (F), every register (R), and the statistics counters of its banks (C). -/

namespace Sys2Proof.Machine

/-! FDC_CTRL: offset 0x0000, reset by device reset. -/
def F.FDC_CTRL_LOCK : Fld := ⟨5, 0, 0x0000, 4, 31, 1, .wl, 0x0⟩
def F.FDC_CTRL_EN : Fld := ⟨5, 0, 0x0000, 4, 0, 1, .rw, 0x0⟩
def R.FDC_CTRL : RegDesc := ⟨5, 0, 0x0000, 4, 1, [F.FDC_CTRL_LOCK, F.FDC_CTRL_EN]⟩

/-! FDC_STAT: offset 0x0004, reset by device reset. -/
def F.FDC_STAT_BOUND : Fld := ⟨5, 0, 0x0004, 4, 16, 14, .ro, 0x0⟩
def F.FDC_STAT_ENABLED : Fld := ⟨5, 0, 0x0004, 4, 0, 14, .ro, 0x0⟩
def R.FDC_STAT : RegDesc := ⟨5, 0, 0x0004, 4, 1, [F.FDC_STAT_BOUND, F.FDC_STAT_ENABLED]⟩

/-! FDC_FLT: offset 0x0008, reset by device reset. -/
def F.FDC_FLT_ECC_UE : Fld := ⟨5, 0, 0x0008, 4, 6, 1, .w1c, 0x0⟩
def F.FDC_FLT_ECC_CE : Fld := ⟨5, 0, 0x0008, 4, 5, 1, .w1c, 0x0⟩
def F.FDC_FLT_SWEEP_WAIT : Fld := ⟨5, 0, 0x0008, 4, 4, 1, .w1c, 0x0⟩
def F.FDC_FLT_OVERRANGE : Fld := ⟨5, 0, 0x0008, 4, 3, 1, .w1c, 0x0⟩
def F.FDC_FLT_SRC_CONFLICT : Fld := ⟨5, 0, 0x0008, 4, 2, 1, .w1c, 0x0⟩
def F.FDC_FLT_UNBOUND_DROP : Fld := ⟨5, 0, 0x0008, 4, 1, 1, .w1c, 0x0⟩
def F.FDC_FLT_CFG_ERR : Fld := ⟨5, 0, 0x0008, 4, 0, 1, .w1c, 0x0⟩
def R.FDC_FLT : RegDesc := ⟨5, 0, 0x0008, 4, 1, [F.FDC_FLT_ECC_UE, F.FDC_FLT_ECC_CE, F.FDC_FLT_SWEEP_WAIT, F.FDC_FLT_OVERRANGE, F.FDC_FLT_SRC_CONFLICT, F.FDC_FLT_UNBOUND_DROP, F.FDC_FLT_CFG_ERR]⟩

/-! FDC_IEN: offset 0x000C, reset by device reset. -/
def F.FDC_IEN_IEN : Fld := ⟨5, 0, 0x000C, 4, 0, 7, .rw, 0x0⟩
def R.FDC_IEN : RegDesc := ⟨5, 0, 0x000C, 4, 1, [F.FDC_IEN_IEN]⟩

/-! FDC_CMD: offset 0x0010, reset by device reset. -/
def F.FDC_CMD_GROUP : Fld := ⟨5, 0, 0x0010, 4, 4, 3, .wo, 0x0⟩
def F.FDC_CMD_CMD : Fld := ⟨5, 0, 0x0010, 4, 0, 4, .wo, 0x0⟩
def R.FDC_CMD : RegDesc := ⟨5, 0, 0x0010, 4, 1, [F.FDC_CMD_GROUP, F.FDC_CMD_CMD]⟩

/-! FDC_COEF_IDX: offset 0x0014, reset by device reset. -/
def F.FDC_COEF_IDX_PRESET : Fld := ⟨5, 0, 0x0014, 4, 9, 2, .rw, 0x0⟩
def F.FDC_COEF_IDX_RATE : Fld := ⟨5, 0, 0x0014, 4, 8, 1, .rw, 0x0⟩
def F.FDC_COEF_IDX_TAP : Fld := ⟨5, 0, 0x0014, 4, 0, 7, .rw, 0x0⟩
def R.FDC_COEF_IDX : RegDesc := ⟨5, 0, 0x0014, 4, 1, [F.FDC_COEF_IDX_PRESET, F.FDC_COEF_IDX_RATE, F.FDC_COEF_IDX_TAP]⟩

/-! FDC_COEF_VAL: offset 0x0018, reset by device reset. -/
def F.FDC_COEF_VAL_H : Fld := ⟨5, 0, 0x0018, 4, 0, 32, .ro, 0x0⟩
def R.FDC_COEF_VAL : RegDesc := ⟨5, 0, 0x0018, 4, 1, [F.FDC_COEF_VAL_H]⟩

/-! FDC_CNTOVF: offset 0x0048, reset by device reset. -/
def F.FDC_CNTOVF_CHAN_OVF : Fld := ⟨5, 0, 0x0048, 4, 1, 1, .ro, 0x0⟩
def F.FDC_CNTOVF_DEV_OVF : Fld := ⟨5, 0, 0x0048, 4, 0, 1, .w1c, 0x0⟩
def R.FDC_CNTOVF : RegDesc := ⟨5, 0, 0x0048, 4, 1, [F.FDC_CNTOVF_CHAN_OVF, F.FDC_CNTOVF_DEV_OVF]⟩

/-! FDC_SEL: offset 0x0100, reset by device reset. -/
def F.FDC_SEL_INDEX : Fld := ⟨5, 0, 0x0100, 4, 0, 13, .rw, 0x0⟩
def R.FDC_SEL : RegDesc := ⟨5, 0, 0x0100, 4, 1, [F.FDC_SEL_INDEX]⟩

/-! FDC_C_CTL: offset 0x0200, reset by device reset. -/
def F.FDC_C_CTL_EN : Fld := ⟨5, 1, 0x0200, 4, 31, 1, .rw, 0x0⟩
def F.FDC_C_CTL_MODE : Fld := ⟨5, 1, 0x0200, 4, 26, 2, .rw, 0x0⟩
def F.FDC_C_CTL_PRESET : Fld := ⟨5, 1, 0x0200, 4, 24, 2, .rw, 0x1⟩
def F.FDC_C_CTL_OSPC : Fld := ⟨5, 1, 0x0200, 4, 20, 2, .rw, 0x2⟩
def F.FDC_C_CTL_SOURCE : Fld := ⟨5, 1, 0x0200, 4, 0, 13, .rw, 0x0⟩
def R.FDC_C_CTL : RegDesc := ⟨5, 1, 0x0200, 4, 1, [F.FDC_C_CTL_EN, F.FDC_C_CTL_MODE, F.FDC_C_CTL_PRESET, F.FDC_C_CTL_OSPC, F.FDC_C_CTL_SOURCE]⟩

/-! FDC_C_DECAY: offset 0x0204, reset by device reset. -/
def F.FDC_C_DECAY_DECAY : Fld := ⟨5, 1, 0x0204, 4, 0, 32, .rw, 0x3F7F0000⟩
def R.FDC_C_DECAY : RegDesc := ⟨5, 1, 0x0204, 4, 1, [F.FDC_C_DECAY_DECAY]⟩

/-! FDC_C_STAT: offset 0x0208, reset by device reset. -/
def F.FDC_C_STAT_CAUSE : Fld := ⟨5, 1, 0x0208, 4, 12, 2, .ro, 0x0⟩
def F.FDC_C_STAT_RATE : Fld := ⟨5, 1, 0x0208, 4, 8, 1, .ro, 0x0⟩
def F.FDC_C_STAT_GROUP : Fld := ⟨5, 1, 0x0208, 4, 4, 3, .ro, 0x0⟩
def F.FDC_C_STAT_STATE : Fld := ⟨5, 1, 0x0208, 4, 0, 3, .ro, 0x0⟩
def R.FDC_C_STAT : RegDesc := ⟨5, 1, 0x0208, 4, 1, [F.FDC_C_STAT_CAUSE, F.FDC_C_STAT_RATE, F.FDC_C_STAT_GROUP, F.FDC_C_STAT_STATE]⟩

/-! FDC_C_SKEW: offset 0x020C, reset by device reset. -/
def F.FDC_C_SKEW_SKEW : Fld := ⟨5, 1, 0x020C, 4, 0, 16, .ro, 0x0⟩
def R.FDC_C_SKEW : RegDesc := ⟨5, 1, 0x020C, 4, 1, [F.FDC_C_SKEW_SKEW]⟩

/-! FDC_C_LAST: offset 0x0210, reset by device reset. -/
def F.FDC_C_LAST_M : Fld := ⟨5, 1, 0x0210, 4, 0, 32, .ro, 0x0⟩
def R.FDC_C_LAST : RegDesc := ⟨5, 1, 0x0210, 4, 1, [F.FDC_C_LAST_M]⟩

/-! FDC_C_FLT: offset 0x0214, reset by device reset. -/
def F.FDC_C_FLT_CNT_OVF : Fld := ⟨5, 1, 0x0214, 4, 4, 1, .w1c, 0x0⟩
def F.FDC_C_FLT_OVERRANGE : Fld := ⟨5, 1, 0x0214, 4, 3, 1, .w1c, 0x0⟩
def F.FDC_C_FLT_SRC_CONFLICT : Fld := ⟨5, 1, 0x0214, 4, 2, 1, .w1c, 0x0⟩
def F.FDC_C_FLT_RESET : Fld := ⟨5, 1, 0x0214, 4, 1, 1, .w1c, 0x0⟩
def F.FDC_C_FLT_CFG_REFUSED : Fld := ⟨5, 1, 0x0214, 4, 0, 1, .w1c, 0x0⟩
def R.FDC_C_FLT : RegDesc := ⟨5, 1, 0x0214, 4, 1, [F.FDC_C_FLT_CNT_OVF, F.FDC_C_FLT_OVERRANGE, F.FDC_C_FLT_SRC_CONFLICT, F.FDC_C_FLT_RESET, F.FDC_C_FLT_CFG_REFUSED]⟩

/-- Every register of the FDC block. -/
def regsFDC : List RegDesc := [
  R.FDC_CTRL, R.FDC_STAT, R.FDC_FLT, R.FDC_IEN, R.FDC_CMD, R.FDC_COEF_IDX,
  R.FDC_COEF_VAL, R.FDC_CNTOVF, R.FDC_SEL, R.FDC_C_CTL, R.FDC_C_DECAY, R.FDC_C_STAT,
  R.FDC_C_SKEW, R.FDC_C_LAST, R.FDC_C_FLT]

def C.FDC_SWEEPS : Ctr := ⟨5, 0, 0x0400, 0x0, F.FDC_CNTOVF_DEV_OVF, .device, none⟩
def C.FDC_SWEEP_WAITS : Ctr := ⟨5, 0, 0x0408, 0x0, F.FDC_CNTOVF_DEV_OVF, .device, none⟩
def C.FDC_ENTRIES : Ctr := ⟨5, 0, 0x0410, 0x0, F.FDC_CNTOVF_DEV_OVF, .device, none⟩
def C.FDC_SYNC_RESETS : Ctr := ⟨5, 0, 0x0418, 0x0, F.FDC_CNTOVF_DEV_OVF, .device, none⟩
def C.FDC_UNBOUND_DROP : Ctr := ⟨5, 0, 0x0420, 0x0, F.FDC_CNTOVF_DEV_OVF, .device, none⟩
def C.FDC_SRC_CONFLICT : Ctr := ⟨5, 0, 0x0428, 0x0, F.FDC_CNTOVF_DEV_OVF, .device, none⟩
def C.FDC_OVERRANGE : Ctr := ⟨5, 0, 0x0430, 0x0, F.FDC_CNTOVF_DEV_OVF, .device, none⟩
def C.FDC_ECC_CE : Ctr := ⟨5, 0, 0x0438, 0x0, F.FDC_CNTOVF_DEV_OVF, .device, none⟩
def C.FDC_ECC_UE : Ctr := ⟨5, 0, 0x0440, 0x0, F.FDC_CNTOVF_DEV_OVF, .device, none⟩
def C.FDC_C_ENTRIES : Ctr := ⟨5, 1, 0x0240, 0x0, F.FDC_C_FLT_CNT_OVF, .instance_, none⟩
def C.FDC_C_SETTLING_ENTRIES : Ctr := ⟨5, 1, 0x0248, 0x0, F.FDC_C_FLT_CNT_OVF, .instance_, none⟩
def C.FDC_C_RESETS : Ctr := ⟨5, 1, 0x0250, 0x0, F.FDC_C_FLT_CNT_OVF, .instance_, none⟩
def C.FDC_C_OVERRANGE : Ctr := ⟨5, 1, 0x0258, 0x0, F.FDC_C_FLT_CNT_OVF, .instance_, none⟩

end Sys2Proof.Machine
end

