-- ==== Sys2Proof/Machine/RegsSvi.lean ====
section
/-! DEFINITION. The SVI register block (block 4) as the register tables of spec/04_stream_ingest.md give it: every field with its
bits, access and reset value (F), every register (R), and the statistics counters of its banks (C). -/

namespace Sys2Proof.Machine

/-! SVI_CTRL: offset 0x0000, reset by device reset. -/
def F.SVI_CTRL_LOCK : Fld := ⟨4, 0, 0x0000, 4, 31, 1, .wl, 0x0⟩
def F.SVI_CTRL_STEP_GUARD : Fld := ⟨4, 0, 0x0000, 4, 16, 8, .rw, 0xC8⟩
def F.SVI_CTRL_EN : Fld := ⟨4, 0, 0x0000, 4, 0, 1, .rw, 0x0⟩
def R.SVI_CTRL : RegDesc := ⟨4, 0, 0x0000, 4, 1, [F.SVI_CTRL_LOCK, F.SVI_CTRL_STEP_GUARD, F.SVI_CTRL_EN]⟩

/-! SVI_STAT: offset 0x0004, reset by device reset. -/
def F.SVI_STAT_ENABLED : Fld := ⟨4, 0, 0x0004, 4, 16, 10, .ro, 0x0⟩
def F.SVI_STAT_DOWN : Fld := ⟨4, 0, 0x0004, 4, 0, 10, .ro, 0x0⟩
def R.SVI_STAT : RegDesc := ⟨4, 0, 0x0004, 4, 1, [F.SVI_STAT_ENABLED, F.SVI_STAT_DOWN]⟩

/-! SVI_FLT: offset 0x0008, reset by device reset. -/
def F.SVI_FLT_FILL_LIMIT : Fld := ⟨4, 0, 0x0008, 4, 8, 1, .w1c, 0x0⟩
def F.SVI_FLT_STEP_TIMEOUT : Fld := ⟨4, 0, 0x0008, 4, 7, 1, .w1c, 0x0⟩
def F.SVI_FLT_UNMATCHED : Fld := ⟨4, 0, 0x0008, 4, 6, 1, .w1c, 0x0⟩
def F.SVI_FLT_FMT_ERR : Fld := ⟨4, 0, 0x0008, 4, 5, 1, .w1c, 0x0⟩
def F.SVI_FLT_DUP_DIFF : Fld := ⟨4, 0, 0x0008, 4, 4, 1, .w1c, 0x0⟩
def F.SVI_FLT_AUTH_FAIL : Fld := ⟨4, 0, 0x0008, 4, 3, 1, .w1c, 0x0⟩
def F.SVI_FLT_LATE : Fld := ⟨4, 0, 0x0008, 4, 2, 1, .w1c, 0x0⟩
def F.SVI_FLT_STREAM_DOWN : Fld := ⟨4, 0, 0x0008, 4, 1, 1, .w1c, 0x0⟩
def F.SVI_FLT_CFG_ERR : Fld := ⟨4, 0, 0x0008, 4, 0, 1, .w1c, 0x0⟩
def R.SVI_FLT : RegDesc := ⟨4, 0, 0x0008, 4, 1, [F.SVI_FLT_FILL_LIMIT, F.SVI_FLT_STEP_TIMEOUT, F.SVI_FLT_UNMATCHED, F.SVI_FLT_FMT_ERR, F.SVI_FLT_DUP_DIFF, F.SVI_FLT_AUTH_FAIL, F.SVI_FLT_LATE, F.SVI_FLT_STREAM_DOWN, F.SVI_FLT_CFG_ERR]⟩

/-! SVI_IEN: offset 0x000C, reset by device reset. -/
def F.SVI_IEN_IEN : Fld := ⟨4, 0, 0x000C, 4, 0, 9, .rw, 0x0⟩
def R.SVI_IEN : RegDesc := ⟨4, 0, 0x000C, 4, 1, [F.SVI_IEN_IEN]⟩

/-! SVI_CMD: offset 0x0010, reset by device reset. -/
def F.SVI_CMD_CMD : Fld := ⟨4, 0, 0x0010, 4, 0, 4, .wo, 0x0⟩
def R.SVI_CMD : RegDesc := ⟨4, 0, 0x0010, 4, 1, [F.SVI_CMD_CMD]⟩

/-! SVI_ADEPTH: offset 0x0020, 8 registers 0x4 apart, reset by device reset. -/
def F.SVI_ADEPTH_D : Fld := ⟨4, 0, 0x0020, 4, 0, 22, .rw, 0x7A120⟩
def R.SVI_ADEPTH : RegDesc := ⟨4, 0, 0x0020, 4, 8, [F.SVI_ADEPTH_D]⟩

/-! SVI_SCALE_0: offset 0x0040, reset by device reset. -/
def F.SVI_SCALE_0_SCALE : Fld := ⟨4, 0, 0x0040, 4, 0, 32, .rw, 0x3F800000⟩
def R.SVI_SCALE_0 : RegDesc := ⟨4, 0, 0x0040, 4, 1, [F.SVI_SCALE_0_SCALE]⟩

/-! SVI_SCALE_1: offset 0x0044, reset by device reset. -/
def F.SVI_SCALE_1_SCALE : Fld := ⟨4, 0, 0x0044, 4, 0, 32, .rw, 0x3F800000⟩
def R.SVI_SCALE_1 : RegDesc := ⟨4, 0, 0x0044, 4, 1, [F.SVI_SCALE_1_SCALE]⟩

/-! SVI_CNTOVF: offset 0x0048, reset by device reset. -/
def F.SVI_CNTOVF_STREAM_OVF : Fld := ⟨4, 0, 0x0048, 4, 1, 1, .ro, 0x0⟩
def F.SVI_CNTOVF_DEV_OVF : Fld := ⟨4, 0, 0x0048, 4, 0, 1, .w1c, 0x0⟩
def R.SVI_CNTOVF : RegDesc := ⟨4, 0, 0x0048, 4, 1, [F.SVI_CNTOVF_STREAM_OVF, F.SVI_CNTOVF_DEV_OVF]⟩

/-! SVI_DOWN: offset 0x0060, 16 registers 0x4 apart, reset by device reset. -/
def F.SVI_DOWN_DOWN : Fld := ⟨4, 0, 0x0060, 4, 0, 32, .ro, 0x0⟩
def R.SVI_DOWN : RegDesc := ⟨4, 0, 0x0060, 4, 16, [F.SVI_DOWN_DOWN]⟩

/-! SVI_SEL: offset 0x0100, reset by device reset. -/
def F.SVI_SEL_KIND : Fld := ⟨4, 0, 0x0100, 4, 12, 2, .rw, 0x0⟩
def F.SVI_SEL_INDEX : Fld := ⟨4, 0, 0x0100, 4, 0, 9, .rw, 0x0⟩
def R.SVI_SEL : RegDesc := ⟨4, 0, 0x0100, 4, 1, [F.SVI_SEL_KIND, F.SVI_SEL_INDEX]⟩

/-! SVI_S_CTL: offset 0x0200, reset by device reset. -/
def F.SVI_S_CTL_EN : Fld := ⟨4, 1, 0x0200, 4, 31, 1, .rw, 0x0⟩
def F.SVI_S_CTL_GROUP : Fld := ⟨4, 1, 0x0200, 4, 28, 3, .rw, 0x0⟩
def F.SVI_S_CTL_RATE : Fld := ⟨4, 1, 0x0200, 4, 25, 1, .rw, 0x0⟩
def F.SVI_S_CTL_NASDU : Fld := ⟨4, 1, 0x0200, 4, 20, 4, .rw, 0x1⟩
def F.SVI_S_CTL_NVAL : Fld := ⟨4, 1, 0x0200, 4, 15, 5, .rw, 0x8⟩
def F.SVI_S_CTL_AUTH : Fld := ⟨4, 1, 0x0200, 4, 13, 2, .rw, 0x0⟩
def F.SVI_S_CTL_SYNC : Fld := ⟨4, 1, 0x0200, 4, 11, 2, .rw, 0x0⟩
def F.SVI_S_CTL_FILL : Fld := ⟨4, 1, 0x0200, 4, 9, 2, .rw, 0x0⟩
def F.SVI_S_CTL_SIM : Fld := ⟨4, 1, 0x0200, 4, 8, 1, .rw, 0x0⟩
def F.SVI_S_CTL_VID_EN : Fld := ⟨4, 1, 0x0200, 4, 7, 1, .rw, 0x0⟩
def R.SVI_S_CTL : RegDesc := ⟨4, 1, 0x0200, 4, 1, [F.SVI_S_CTL_EN, F.SVI_S_CTL_GROUP, F.SVI_S_CTL_RATE, F.SVI_S_CTL_NASDU, F.SVI_S_CTL_NVAL, F.SVI_S_CTL_AUTH, F.SVI_S_CTL_SYNC, F.SVI_S_CTL_FILL, F.SVI_S_CTL_SIM, F.SVI_S_CTL_VID_EN]⟩

/-! SVI_S_DA_HI: offset 0x0204, reset by device reset. -/
def F.SVI_S_DA_HI_DA : Fld := ⟨4, 1, 0x0204, 4, 0, 16, .rw, 0x10C⟩
def R.SVI_S_DA_HI : RegDesc := ⟨4, 1, 0x0204, 4, 1, [F.SVI_S_DA_HI_DA]⟩

/-! SVI_S_DA_LO: offset 0x0208, reset by device reset. -/
def F.SVI_S_DA_LO_DA : Fld := ⟨4, 1, 0x0208, 4, 0, 32, .rw, 0xCD040000⟩
def R.SVI_S_DA_LO : RegDesc := ⟨4, 1, 0x0208, 4, 1, [F.SVI_S_DA_LO_DA]⟩

/-! SVI_S_ID: offset 0x020C, reset by device reset. -/
def F.SVI_S_ID_APPID : Fld := ⟨4, 1, 0x020C, 4, 16, 16, .rw, 0x4000⟩
def F.SVI_S_ID_VID : Fld := ⟨4, 1, 0x020C, 4, 0, 12, .rw, 0x0⟩
def R.SVI_S_ID : RegDesc := ⟨4, 1, 0x020C, 4, 1, [F.SVI_S_ID_APPID, F.SVI_S_ID_VID]⟩

/-! SVI_S_CONFREV: offset 0x0210, reset by device reset. -/
def F.SVI_S_CONFREV_CONFREV : Fld := ⟨4, 1, 0x0210, 4, 0, 32, .rw, 0x1⟩
def R.SVI_S_CONFREV : RegDesc := ⟨4, 1, 0x0210, 4, 1, [F.SVI_S_CONFREV_CONFREV]⟩

/-! SVI_S_LIMIT: offset 0x0214, reset by device reset. -/
def F.SVI_S_LIMIT_MAX_FILL : Fld := ⟨4, 1, 0x0214, 4, 24, 8, .rw, 0x8⟩
def F.SVI_S_LIMIT_LOSS_N : Fld := ⟨4, 1, 0x0214, 4, 16, 8, .rw, 0x30⟩
def F.SVI_S_LIMIT_EARLY_TOL : Fld := ⟨4, 1, 0x0214, 4, 0, 16, .rw, 0x14⟩
def R.SVI_S_LIMIT : RegDesc := ⟨4, 1, 0x0214, 4, 1, [F.SVI_S_LIMIT_MAX_FILL, F.SVI_S_LIMIT_LOSS_N, F.SVI_S_LIMIT_EARLY_TOL]⟩

/-! SVI_S_TRANSIT: offset 0x0218, reset by device reset. -/
def F.SVI_S_TRANSIT_TRANSIT_EST : Fld := ⟨4, 1, 0x0218, 4, 0, 20, .rw, 0x0⟩
def R.SVI_S_TRANSIT : RegDesc := ⟨4, 1, 0x0218, 4, 1, [F.SVI_S_TRANSIT_TRANSIT_EST]⟩

/-! SVI_S_KEY: offset 0x021C, reset by device reset. -/
def F.SVI_S_KEY_NEXT_EN : Fld := ⟨4, 1, 0x021C, 4, 19, 1, .rw, 0x0⟩
def F.SVI_S_KEY_MAC_ALG : Fld := ⟨4, 1, 0x021C, 4, 16, 3, .rw, 0x0⟩
def F.SVI_S_KEY_KEY_NEXT : Fld := ⟨4, 1, 0x021C, 4, 8, 8, .rw, 0x0⟩
def F.SVI_S_KEY_KEY_CUR : Fld := ⟨4, 1, 0x021C, 4, 0, 8, .rw, 0x0⟩
def R.SVI_S_KEY : RegDesc := ⟨4, 1, 0x021C, 4, 1, [F.SVI_S_KEY_NEXT_EN, F.SVI_S_KEY_MAC_ALG, F.SVI_S_KEY_KEY_NEXT, F.SVI_S_KEY_KEY_CUR]⟩

/-! SVI_S_SVID_LEN: offset 0x0220, reset by device reset. -/
def F.SVI_S_SVID_LEN_LEN : Fld := ⟨4, 1, 0x0220, 4, 0, 7, .rw, 0x0⟩
def R.SVI_S_SVID_LEN : RegDesc := ⟨4, 1, 0x0220, 4, 1, [F.SVI_S_SVID_LEN_LEN]⟩

/-! SVI_S_SVID: offset 0x0240, 16 registers 0x4 apart, reset by device reset. -/
def F.SVI_S_SVID_SVID : Fld := ⟨4, 1, 0x0240, 4, 0, 32, .rw, 0x0⟩
def R.SVI_S_SVID : RegDesc := ⟨4, 1, 0x0240, 4, 16, [F.SVI_S_SVID_SVID]⟩

/-! SVI_S_MAP: offset 0x0280, 24 registers 0x4 apart, reset by device reset. -/
def F.SVI_S_MAP_MAP_EN : Fld := ⟨4, 1, 0x0280, 4, 31, 1, .rw, 0x0⟩
def F.SVI_S_MAP_SCALE_SEL : Fld := ⟨4, 1, 0x0280, 4, 28, 2, .rw, 0x0⟩
def F.SVI_S_MAP_CHAN : Fld := ⟨4, 1, 0x0280, 4, 0, 13, .rw, 0x0⟩
def R.SVI_S_MAP : RegDesc := ⟨4, 1, 0x0280, 4, 24, [F.SVI_S_MAP_MAP_EN, F.SVI_S_MAP_SCALE_SEL, F.SVI_S_MAP_CHAN]⟩

/-! SVI_S_STAT: offset 0x02E0, reset by device reset. -/
def F.SVI_S_STAT_SMPSYNCH : Fld := ⟨4, 1, 0x02E0, 4, 8, 8, .ro, 0x0⟩
def F.SVI_S_STAT_STEP_WAIT : Fld := ⟨4, 1, 0x02E0, 4, 4, 1, .ro, 0x0⟩
def F.SVI_S_STAT_STATE : Fld := ⟨4, 1, 0x02E0, 4, 0, 3, .ro, 0x0⟩
def R.SVI_S_STAT : RegDesc := ⟨4, 1, 0x02E0, 4, 1, [F.SVI_S_STAT_SMPSYNCH, F.SVI_S_STAT_STEP_WAIT, F.SVI_S_STAT_STATE]⟩

/-! SVI_S_FLT: offset 0x02E4, reset by device reset. -/
def F.SVI_S_FLT_CNT_OVF : Fld := ⟨4, 1, 0x02E4, 4, 9, 1, .w1c, 0x0⟩
def F.SVI_S_FLT_CFG_REFUSED : Fld := ⟨4, 1, 0x02E4, 4, 8, 1, .w1c, 0x0⟩
def F.SVI_S_FLT_STEP_TIMEOUT : Fld := ⟨4, 1, 0x02E4, 4, 7, 1, .w1c, 0x0⟩
def F.SVI_S_FLT_FILL_LIMIT : Fld := ⟨4, 1, 0x02E4, 4, 6, 1, .w1c, 0x0⟩
def F.SVI_S_FLT_DUP_DIFF : Fld := ⟨4, 1, 0x02E4, 4, 5, 1, .w1c, 0x0⟩
def F.SVI_S_FLT_AUTH_FAIL : Fld := ⟨4, 1, 0x02E4, 4, 4, 1, .w1c, 0x0⟩
def F.SVI_S_FLT_FMT_ERR : Fld := ⟨4, 1, 0x02E4, 4, 3, 1, .w1c, 0x0⟩
def F.SVI_S_FLT_LATE : Fld := ⟨4, 1, 0x02E4, 4, 2, 1, .w1c, 0x0⟩
def F.SVI_S_FLT_DOWN : Fld := ⟨4, 1, 0x02E4, 4, 1, 1, .w1c, 0x0⟩
def F.SVI_S_FLT_EARLY : Fld := ⟨4, 1, 0x02E4, 4, 0, 1, .w1c, 0x0⟩
def R.SVI_S_FLT : RegDesc := ⟨4, 1, 0x02E4, 4, 1, [F.SVI_S_FLT_CNT_OVF, F.SVI_S_FLT_CFG_REFUSED, F.SVI_S_FLT_STEP_TIMEOUT, F.SVI_S_FLT_FILL_LIMIT, F.SVI_S_FLT_DUP_DIFF, F.SVI_S_FLT_AUTH_FAIL, F.SVI_S_FLT_FMT_ERR, F.SVI_S_FLT_LATE, F.SVI_S_FLT_DOWN, F.SVI_S_FLT_EARLY]⟩

/-! SVI_S_TLAST: offset 0x02E8, reset by device reset. -/
def F.SVI_S_TLAST_VAL : Fld := ⟨4, 1, 0x02E8, 4, 0, 32, .ro, 0x0⟩
def R.SVI_S_TLAST : RegDesc := ⟨4, 1, 0x02E8, 4, 1, [F.SVI_S_TLAST_VAL]⟩

/-! SVI_S_TMAX: offset 0x02EC, reset by device reset. -/
def F.SVI_S_TMAX_VAL : Fld := ⟨4, 1, 0x02EC, 4, 0, 32, .ro, 0x0⟩
def R.SVI_S_TMAX : RegDesc := ⟨4, 1, 0x02EC, 4, 1, [F.SVI_S_TMAX_VAL]⟩

/-! SVI_P_MASK: offset 0x0200, 16 registers 0x4 apart, reset by device reset. -/
def F.SVI_P_MASK_MASK : Fld := ⟨4, 2, 0x0200, 4, 0, 32, .rw, 0x0⟩
def R.SVI_P_MASK : RegDesc := ⟨4, 2, 0x0200, 4, 16, [F.SVI_P_MASK_MASK]⟩

/-! SVI_P_FP: offset 0x0240, 4 registers 0x4 apart, reset by device reset. -/
def F.SVI_P_FP_FP : Fld := ⟨4, 2, 0x0240, 4, 0, 32, .ro, 0x0⟩
def R.SVI_P_FP : RegDesc := ⟨4, 2, 0x0240, 4, 4, [F.SVI_P_FP_FP]⟩

/-- Every register of the SVI block. -/
def regsSVI : List RegDesc := [
  R.SVI_CTRL, R.SVI_STAT, R.SVI_FLT, R.SVI_IEN, R.SVI_CMD, R.SVI_ADEPTH,
  R.SVI_SCALE_0, R.SVI_SCALE_1, R.SVI_CNTOVF, R.SVI_DOWN, R.SVI_SEL, R.SVI_S_CTL,
  R.SVI_S_DA_HI, R.SVI_S_DA_LO, R.SVI_S_ID, R.SVI_S_CONFREV, R.SVI_S_LIMIT, R.SVI_S_TRANSIT,
  R.SVI_S_KEY, R.SVI_S_SVID_LEN, R.SVI_S_SVID, R.SVI_S_MAP, R.SVI_S_STAT, R.SVI_S_FLT,
  R.SVI_S_TLAST, R.SVI_S_TMAX, R.SVI_P_MASK, R.SVI_P_FP]

def C.SVI_FRAMES_IN : Ctr := ⟨4, 0, 0x0400, 0x0, F.SVI_CNTOVF_DEV_OVF, .device, none⟩
def C.SVI_UNMATCHED : Ctr := ⟨4, 0, 0x0408, 0x0, F.SVI_CNTOVF_DEV_OVF, .device, none⟩
def C.SVI_DISABLED_DROP : Ctr := ⟨4, 0, 0x0410, 0x0, F.SVI_CNTOVF_DEV_OVF, .device, none⟩
def C.SVI_FINGERPRINTS : Ctr := ⟨4, 0, 0x0418, 0x0, F.SVI_CNTOVF_DEV_OVF, .device, none⟩
def C.SVI_S_FRAMES : Ctr := ⟨4, 0, 0x2000, 0x70, F.SVI_S_FLT_CNT_OVF, .instance_, none⟩
def C.SVI_S_SAMPLES : Ctr := ⟨4, 0, 0x2008, 0x70, F.SVI_S_FLT_CNT_OVF, .instance_, none⟩
def C.SVI_S_MISSING : Ctr := ⟨4, 0, 0x2010, 0x70, F.SVI_S_FLT_CNT_OVF, .instance_, none⟩
def C.SVI_S_LATE : Ctr := ⟨4, 0, 0x2018, 0x70, F.SVI_S_FLT_CNT_OVF, .instance_, none⟩
def C.SVI_S_EARLY : Ctr := ⟨4, 0, 0x2020, 0x70, F.SVI_S_FLT_CNT_OVF, .instance_, none⟩
def C.SVI_S_DUP : Ctr := ⟨4, 0, 0x2028, 0x70, F.SVI_S_FLT_CNT_OVF, .instance_, none⟩
def C.SVI_S_DUP_DIFF : Ctr := ⟨4, 0, 0x2030, 0x70, F.SVI_S_FLT_CNT_OVF, .instance_, none⟩
def C.SVI_S_REORDER : Ctr := ⟨4, 0, 0x2038, 0x70, F.SVI_S_FLT_CNT_OVF, .instance_, none⟩
def C.SVI_S_AUTH_FAIL : Ctr := ⟨4, 0, 0x2040, 0x70, F.SVI_S_FLT_CNT_OVF, .instance_, none⟩
def C.SVI_S_AUTH_MONITOR : Ctr := ⟨4, 0, 0x2048, 0x70, F.SVI_S_FLT_CNT_OVF, .instance_, none⟩
def C.SVI_S_FMT_ERR : Ctr := ⟨4, 0, 0x2050, 0x70, F.SVI_S_FLT_CNT_OVF, .instance_, none⟩
def C.SVI_S_CONFREV : Ctr := ⟨4, 0, 0x2058, 0x70, F.SVI_S_FLT_CNT_OVF, .instance_, none⟩
def C.SVI_S_SIM_NOSYNC : Ctr := ⟨4, 0, 0x2060, 0x70, F.SVI_S_FLT_CNT_OVF, .instance_, none⟩
def C.SVI_S_STEP_REBASED : Ctr := ⟨4, 0, 0x2068, 0x70, F.SVI_S_FLT_CNT_OVF, .instance_, none⟩

end Sys2Proof.Machine
end

