-- ==== Sys2Proof/Machine/Svi.lean ====
section
/-! DEFINITION. Estuary (chapter 4): matching, authentication, placement, release, filling and fingerprints of sampled values. -/

namespace Sys2Proof.Machine

/-! ## Streams -/

def SviStream.reset : SviStream :=
  { held := [], prev := none, lastInst := none, next := none, run := 0, missRun := 0, base := 0, j := 0, prevCnt := 0,
    fresh := true, globalRun := 0, stepAmt := 0, stepEnd := none, hist := [], tmaxSet := false }

def State.stream (s : State) (n : Nat) : SviStream := sparseGet SviStream.reset s.svi.streams n

def State.setStream (s : State) (n : Nat) (v : SviStream) : State :=
  { s with svi := { s.svi with streams := sparseSet SviStream.reset s.svi.streams n v } }

def sviStreams : Nat := 512

def ssDisabled : Nat := 0
def ssWait : Nat := 1
def ssSynced : Nat := 2
def ssEstimated : Nat := 3
def ssDown : Nat := 4

def streamState (s : State) (n : Nat) : Nat := s.fld F.SVI_S_STAT_STATE n

/-- The samples per second of a stream. -/
def streamRate (s : State) (n : Nat) : Nat := if s.flag F.SVI_S_CTL_RATE n then 14400 else 4800

def streamGroup (s : State) (n : Nat) : Nat := s.fld F.SVI_S_CTL_GROUP n

/-- The alignment depth of a group, ns (R138). -/
def adepth (s : State) (g : Nat) : Nat := s.fld (F.SVI_ADEPTH_D.el g)

/-- A second in units of 2^-16 ns. -/
def secT : Nat := 1000000000 * 65536

/-- The instant of grid number `G` = second × rate + k, truncated to 2^-16 ns (R129). -/
def gridInst (rate g : Nat) : Nat := g / rate * secT + g % rate * secT / rate

/-- The number of the latest grid instant at or before a time. -/
def gridAt (rate t : Nat) : Nat := t / secT * rate + ((t % secT + 1) * rate - 1) / secT

/-- The latest grid instant at or before a time. -/
def gridFloor (rate t : Nat) : Nat := gridInst rate (gridAt rate t)

/-- A change of state of a stream (R148, R149): `byEn` marks one caused by writing EN, which leaves no record. -/
def setStreamState (s : State) (n st : Nat) (byEn : Bool := false) : State :=
  let old := streamState s n
  if old = st then s
  else
    let s := s.setFld F.SVI_S_STAT_STATE st n
    let s := if byEn then s else s.event 4 0x0401 0 n old st
    if st = ssDown then (s.setFlag F.SVI_S_FLT_DOWN true n).setFlt F.SVI_FLT_STREAM_DOWN else s

/-- A flag of a stream's FLT register with its device flag. -/
def streamFlt (s : State) (n : Nat) (f dev : Fld) : State := (s.setFlag f true n).setFlt dev

/-! ## Enables (R124, R148) -/

def sviVid (s : State) (n : Nat) : List Nat :=
  (List.range (s.fld F.SVI_S_SVID_LEN_LEN n)).map fun i =>
    s.fld (F.SVI_S_SVID_SVID.el (i / 4)) n / 256 ^ (3 - i % 4) % 256

def streamDa (s : State) (n : Nat) : Nat := s.fld F.SVI_S_DA_HI_DA n * 2 ^ 32 + s.fld F.SVI_S_DA_LO_DA n

/-- The FDC channel that a value of a stream is mapped to. -/
def valueMap (s : State) (n v : Nat) : Option Nat :=
  if s.flag (F.SVI_S_MAP_MAP_EN.el v) n then some (s.fld (F.SVI_S_MAP_CHAN.el v) n) else none

def mappedChans (s : State) (n : Nat) : List Nat := (List.range 24).filterMap (valueMap s n)

def streamEn (s : State) (n : Nat) : Bool := s.flag F.SVI_S_CTL_EN n

/-- Do two entries clash under the uniqueness check of R124? -/
def sameStream (s : State) (a b : Nat) : Bool :=
  decide (streamDa s a = streamDa s b) && decide (s.fld F.SVI_S_ID_APPID a = s.fld F.SVI_S_ID_APPID b)
    && decide (sviVid s a = sviVid s b)
    && (!s.flag F.SVI_S_CTL_VID_EN a || !s.flag F.SVI_S_CTL_VID_EN b || decide (s.fld F.SVI_S_ID_VID a = s.fld F.SVI_S_ID_VID b))

/-- Does a list hold a value twice? -/
def hasDup : List Nat → Bool
  | [] => false
  | a :: t => t.contains a || hasDup t

/-- Does an entry fail a check of R124? -/
def streamRefused (s : State) (n : Nat) : Bool :=
  let nasdu := s.fld F.SVI_S_CTL_NASDU n
  let nval := s.fld F.SVI_S_CTL_NVAL n
  let len := s.fld F.SVI_S_SVID_LEN_LEN n
  let auth := s.fld F.SVI_S_CTL_AUTH n
  let sync := s.fld F.SVI_S_CTL_SYNC n
  let rate := streamRate s n
  let others := (List.range sviStreams).filter fun m => decide (m ≠ n) && streamEn s m
  let chans := mappedChans s n
  decide (nasdu = 0) || decide (8 < nasdu) || decide (nval = 0) || decide (24 < nval)
    || decide (auth = 3) || decide (sync = 3) || decide (s.fld F.SVI_S_CTL_FILL n = 3)
    || (decide (auth ≠ 0) && decide (4 < s.fld F.SVI_S_KEY_MAC_ALG n))
    || decide (len = 0) || decide (64 < len)
    || ((List.range 24).any fun v => decide (nval ≤ v) && (valueMap s n v).isSome)
    || hasDup chans || (others.any fun m => (mappedChans s m).any chans.contains)
    || (others.any fun m => sameStream s n m)
    || (decide (sync ≠ 0) && decide (adepth s (streamGroup s n) * rate
          < (s.fld F.SVI_S_TRANSIT_TRANSIT_EST n + 10000) * rate + nasdu * 1000000000))

/-- An EN write of a stream waits for the stream's next grid instant (R148). -/
def enLater (s : State) (n : Nat) (v : Bool) : State :=
  let rate := streamRate s n
  { s with svi := { s.svi with enWait := s.svi.enWait ++ [(n, gridInst rate (gridAt rate s.devT + 1), v)] } }

/-- STREAM_ENABLE: EN written 1; the entry is checked, and refused with CFG_REFUSED and CFG_ERR (R124). With SVI_CTRL.LOCK set it is a lock violation (R154). -/
def streamEnable (s : State) (n : Nat) : State :=
  if sviStreams ≤ n || streamEn s n then s
  else if s.flag F.SVI_CTRL_LOCK then s.rowLocked 4 0x200 0x80000000
  else if streamRefused s n then streamFlt s n F.SVI_S_FLT_CFG_REFUSED F.SVI_FLT_CFG_ERR
  else enLater (s.setFlag F.SVI_S_CTL_EN true n) n true

def execStreamEnable (n : Nat) (s : State) : Host.Outcome State Fault Refusal := .next (s.live fun s => streamEnable s n)

/-- STREAM_DISABLE: EN written 0. With SVI_CTRL.LOCK set it is a lock violation (R154). -/
def streamDisable (s : State) (n : Nat) : State :=
  if sviStreams ≤ n || !streamEn s n then s
  else if s.flag F.SVI_CTRL_LOCK then s.rowLocked 4 0x200 0
  else enLater (s.setFlag F.SVI_S_CTL_EN false n) n false

def execStreamDisable (n : Nat) (s : State) : Host.Outcome State Fault Refusal := .next (s.live fun s => streamDisable s n)

/-- An EN write takes effect (R148). -/
def enApply (s : State) (n : Nat) (v : Bool) : State :=
  let st := s.stream n
  if v then
    if streamState s n = ssDisabled then
      setStreamState (s.setStream n { SviStream.reset with next := st.next, hist := st.hist, tmaxSet := st.tmaxSet }) n ssWait true
    else s
  else
    let s := s.setStream n { st with held := [], prev := none, stepEnd := none, stepAmt := 0 }
    setStreamState (s.setFlag F.SVI_S_STAT_STEP_WAIT false n) n ssDisabled true

/-- Apply the EN writes whose grid instant has come. -/
def sviSettle (s : State) : State :=
  let now := s.devT
  let due := s.svi.enWait.filter fun (_, t, _) => decide (t ≤ now)
  if due.isEmpty then s
  else
    let s := { s with svi := { s.svi with enWait := s.svi.enWait.filter fun (_, t, _) => decide (now < t) } }
    due.foldl (fun s (n, _, v) => enApply s n v) s

/-! ## Values and quality words -/

/-- The scale in force for a frame by its ingress time-stamp (R120). -/
def scaleBits (s : State) (k a : Nat) : Nat :=
  match (s.svi.scales.filter fun (j, t, _) => decide (j = k) && decide (a < t)).getLast? with
  | some (_, _, old) => old
  | none => s.fld (F.SVI_SCALE_0_SCALE.el k)

/-- A write of SVI_SCALE_0 or SVI_SCALE_1 replaces the scale from the present edge on (R120). -/
def scaleWrite (s : State) (k v : Nat) : State :=
  let old := s.fld (F.SVI_SCALE_0_SCALE.el k)
  ({ s with svi := { s.svi with scales := (k, s.devT, old) :: s.svi.scales } }).setFld (F.SVI_SCALE_0_SCALE.el k) v

/-- A received INT32 value in binary32 (R120). A product with a scale that is not finite has no stated value. -/
def convertValue (s : State) (n v a : Nat) (raw : Nat) : Nat × State :=
  let x := signed 32 raw
  let sel := s.fld (F.SVI_S_MAP_SCALE_SEL.el v) n
  if sel = 0 then (b32 ⟨x, 1000⟩, s)
  else if sel = 1 then (b32 ⟨x, 100⟩, s)
  else
    let sc := scaleBits s (sel - 2) a
    if fp32.isFin sc then (b32 (Q.mul (Q.ofInt x) (fp32.toQ sc)), s)
    else let (f, s) := s.takeFree; (f % 2 ^ 32, s)

/-- The octets of one value or quality of an ASDU. -/
def wordAt (data : List Nat) (i : Nat) : Nat := ofOctetsBE ((data.drop (4 * i)).take 4)

/-- The values of an ASDU in binary32. -/
def convertAll (s : State) (n a nval : Nat) (data : List Nat) : List Nat × State :=
  (List.range nval).foldl (fun (acc : List Nat × State) v =>
    let (x, s) := convertValue acc.2 n v a (wordAt data (2 * v))
    (acc.1 ++ [x], s)) ([], s)

def qMissing : Nat := 2 ^ 18
def qInterp : Nat := 2 ^ 17
def qSettling : Nat := 2 ^ 16
def qTimeEst : Nat := 2 ^ 19
def qUnchecked : Nat := 2 ^ 20

/-- The order of validity: 0b00 best, then 0b11, then 0b01 (R147). -/
def validRank (v : Nat) : Nat := if v % 4 = 0 then 0 else if v % 4 = 3 then 1 else 2
def worstValid (a b : Nat) : Nat := if validRank a < validRank b then b % 4 else a % 4

/-- The quality word of a received sample's value (R147); `est` says that the stream is ESTIMATED. A sample placed by estimation keeps TIME_EST when the
stream has become SYNCED before its release (DESIGN CHOICE, log 57). -/
def recvQ (est : Bool) (x : SviSample) (v : Nat) : Nat :=
  let q := x.quals.getD v 0
  (if q % 4 = 2 then 1 else q % 4) + bitsOf q 12 2 * 4 + (if est || x.est then qTimeEst else 0) + (if x.unchk then qUnchecked else 0)

/-- The OR of the bits that two sources share. -/
def orBits (a b : Nat) : Nat := (a ||| b) - (a ||| b) % 4

/-- The quality of a value computed from two sources. -/
def mergeQ (a b : Nat) : Nat := orBits a b + worstValid a b

/-- The age of a value: whole windows since an instant, at most 255 (R147). -/
def ageOf (s : State) (g gap : Nat) : Nat :=
  min 255 (gap * s.fld F.TIDE_G_FNOM_FNOM g * (24 * 2 ^ s.fld F.TIDE_G_CFG_WPC g) / (1000000000000 * 65536))

/-- Linear interpolation, exact and rounded once (R551). Between values that are not both finite the spec states no result: a free value (log 58). -/
def interp (xa ta xb tb g : Nat) : Nat :=
  if tb = ta then xa
  else if !fp32.isFin xa || !fp32.isFin xb then Config.interpOpen xa xb % 2 ^ 32
  else b32 (Q.div (Q.add (Q.scale (fp32.toQ xa) ((tb : Int) - g)) (Q.scale (fp32.toQ xb) ((g : Int) - ta))) (Q.ofInt ((tb : Int) - ta)))

/-! ## Placement (R129 to R142) -/

/-- Put a sample into instant order. -/
def insertSample (x : SviSample) : List SviSample → List SviSample
  | [] => [x]
  | h :: t => if x.inst < h.inst then x :: h :: t else h :: insertSample x t

/-- Is a sample late (R139)? `wire` is (octets + 20) × 8 and `kbps` the port's rate. -/
def sampleLate (s : State) (n a wire kbps inst : Nat) : Bool :=
  let lead : Int := (inst + adepth s (streamGroup s n) * 65536 : Int) - a - 3000 * 65536
  decide (lead * kbps < (wire * 65536 * 1000000 : Nat))

/-- Is a sample early (R140)? -/
def sampleEarly (s : State) (n a inst : Nat) : Bool :=
  decide ((a : Int) - inst < -((min 100 (s.fld F.SVI_S_LIMIT_EARLY_TOL n) * 1000 * 65536 : Nat) : Int))

/-- Place one sample, or discard it as late, early or duplicate (R139 to R142). -/
def placeSample (s : State) (n a wire kbps : Nat) (x : SviSample) : Bool × State :=
  let st := s.stream n
  if sampleLate s n a wire kbps x.inst then (false, streamFlt (s.count C.SVI_S_LATE n) n F.SVI_S_FLT_LATE F.SVI_FLT_LATE)
  else if sampleEarly s n a x.inst then (false, (s.count C.SVI_S_EARLY n).setFlag F.SVI_S_FLT_EARLY true n)
  else
    match st.held.find? fun h => decide (h.inst = x.inst) || (decide (h.idx = x.idx) && x.est && !x.regrid) with
    | some h =>
      let s := s.count C.SVI_S_DUP n
      (false, if h.data = x.data then s
        else streamFlt (s.count C.SVI_S_DUP_DIFF n) n F.SVI_S_FLT_DUP_DIFF F.SVI_FLT_DUP_DIFF)
    | none =>
      let s := if st.held.any fun h => decide (x.inst < h.inst) then s.count C.SVI_S_REORDER n else s
      (true, (s.count C.SVI_S_SAMPLES n).setStream n { st with held := insertSample x st.held })

/-- Place every sample of a frame; how many were placed. -/
def placeAll (s : State) (n a wire kbps : Nat) (xs : List SviSample) : Nat × State :=
  xs.foldl (fun (acc : Nat × State) x =>
    let (ok, s) := placeSample acc.2 n a wire kbps x
    (acc.1 + ofBit ok, s)) (0, s)

/-- The grid number of smpCnt `k` in a frame of ingress `a`: the nearest second (R130). -/
def nearestGrid (rate k a : Nat) : Int :=
  let off := k * secT / rate
  let d : Int := (a % secT : Nat) - (off : Int)
  let sec : Int := (a / secT : Nat)
  let sec := if (secT / 2 : Nat) < d then sec + 1 else if d ≤ -((secT / 2 : Nat) : Int) then sec - 1 else sec
  sec * rate + k

/-- The samples of a frame placed on the grid (R130), with their instants moved by an amount (R136). -/
def gridSamples (xs : List SviSample) (rate a : Nat) (shift : Int) : List SviSample :=
  xs.map fun x =>
    let g := nearestGrid rate x.cnt ((a : Int) - shift).toNat
    let inst : Int := (gridInst rate g.toNat : Nat) + shift
    { x with inst := inst.toNat, idx := g, regrid := decide (shift ≠ 0), est := x.est || decide (shift ≠ 0) }

/-- The index from which an estimator that starts afresh counts: a whole number of seconds beyond those of the samples held, so that no two instants share one. -/
def freshIndex (st : SviStream) (rate : Nat) : Int := if st.held.isEmpty then 0 else (st.j / rate + 2) * rate

/-- The start of index `i` after the base of an estimated stream, 2^-16 ns. -/
def estOffset (rate : Nat) (i : Int) : Int := i * secT / (rate : Int)

/-- The samples of a frame placed by estimation (R133), with the estimator after the frame. -/
def estSamples (s : State) (n a : Nat) (st : SviStream) (xs : List SviSample) : (List SviSample × SviStream) × State :=
  let rate := streamRate s n
  let (ys, j, cnt, _) := xs.foldl
    (fun (acc : List SviSample × Int × Nat × Bool) x =>
      let (ys, j, prev, first) := acc
      let j := if first then j else j + ((x.cnt + rate - prev % rate) % rate : Nat)
      (ys ++ [{ x with idx := j, est := true }], j, x.cnt, false))
    ([], if st.fresh then freshIndex st rate else st.j, st.prevCnt, st.fresh)
  let phi : Int := (a : Int) - estOffset rate j - (s.fld F.SVI_S_TRANSIT_TRANSIT_EST n * 65536 : Nat)
  let (step, s) := if st.fresh then (0, s) else s.openRound (phi - st.base) 64
  let base := if st.fresh then phi else st.base + step
  ((ys.map fun y => { y with inst := (base + estOffset rate y.idx).toNat },
    { st with base := base, j := j, prevCnt := cnt, fresh := false }), s)

/-- The estimator as it starts from the instants already placed (R133): it goes on from the number of the newest. -/
def estFromPlaced (st : SviStream) (rate : Nat) : SviStream :=
  match st.held.getLast?.orElse fun _ => st.prev with
  | some x => { st with base := (x.inst : Int) - estOffset rate x.idx, j := x.idx, prevCnt := x.cnt, fresh := false }
  | none => { st with fresh := true }

/-- STEP_WAIT ends. -/
def endStepWait (s : State) (n : Nat) : State :=
  let st := s.stream n
  (s.setStream n { st with stepEnd := none, stepAmt := 0 }).setFlag F.SVI_S_STAT_STEP_WAIT false n

/-- Does a placement fit: its newest sample is neither late nor early (R136)? -/
def placementFits (s : State) (n a wire kbps : Nat) (xs : List SviSample) : Bool :=
  match xs.getLast? with
  | some x => !sampleLate s n a wire kbps x.inst && !sampleEarly s n a x.inst
  | none => false

/-- The first grid instant of a stream whose release is at the present SYS edge or later (R143). -/
def firstRelease (s : State) (n : Nat) : Nat :=
  let d := (adepth s (streamGroup s n) + 1) * 65536
  if s.devT < d then 0 else gridAt (streamRate s n) (s.devT - d) + 1

/-- Enter SYNCED or ESTIMATED from WAIT or DOWN: the fill run restarts (R146); where nothing was being released, the releases begin. -/
def enterStream (s : State) (n st : Nat) : State :=
  let old := streamState s n
  let s := if old = ssWait || old = ssDown then
      let x := s.stream n
      let next := if grpEn s (streamGroup s n) then x.next else some (firstRelease s n)
      s.setStream n { x with run := 0, missRun := 0, prev := none, next := next }
    else s
  setStreamState s n st

/-- What an accepted frame leaves: smpSynch and transits (R133, R148). -/
def acceptFrame (s : State) (n a : Nat) (synch : Nat) (xs : List SviSample) : State :=
  let s := s.setFld F.SVI_S_STAT_SMPSYNCH synch n
  match xs.head? with
  | none => s
  | some x =>
    let (t, s) := s.openRound ((a : Int) - x.inst) 65536
    let lim : Int := 2 ^ 31
    let t := clampInt (-lim) (lim - 1) t
    let s := s.setSfld F.SVI_S_TLAST_VAL t n
    let st := s.stream n
    if st.tmaxSet && decide (t ≤ s.sfld F.SVI_S_TMAX_VAL n) then s
    else (s.setStream n { st with tmaxSet := true }).setSfld F.SVI_S_TMAX_VAL t n

/-- Place a frame of a stream in time (R130 to R136) and move the stream's state (R148). -/
def placeFrame (s : State) (n a wire kbps : Nat) (glob : Bool) (synch : Nat) (xs : List SviSample) : State :=
  let rate := streamRate s n
  let sync := s.fld F.SVI_S_CTL_SYNC n
  let state := streamState s n
  let st := s.stream n
  let waiting : Bool := decide (state = ssWait) || decide (state = ssDown)
  let byGrid (s : State) (ys : List SviSample) (dest : Nat) : State :=
    let (k, s') := placeAll s n a wire kbps ys
    if k = 0 then s' else acceptFrame (enterStream s' n dest) n a synch ys
  let byEst (s : State) (st : SviStream) (glb : Bool) : State :=
    let e := estSamples s n a st xs
    let ys := e.1.1
    let st' := e.1.2
    let (k, s') := placeAll e.2 n a wire kbps ys
    if k = 0 then s'
    else
      let cur := s'.stream n
      let s' := s'.setStream n { cur with base := st'.base, j := st'.j, prevCnt := st'.prevCnt, fresh := false,
                                          globalRun := if glb then cur.globalRun + 1 else 0 }
      let s' := if state = ssSynced then endStepWait s' n else s'
      acceptFrame (enterStream s' n ssEstimated) n a synch ys
  let stepping (s : State) : State :=
    if st.stepEnd.isNone then byGrid s (gridSamples xs rate a 0) ssSynced
    else
      let ys := gridSamples xs rate a 0
      let zs := gridSamples xs rate a st.stepAmt
      if placementFits s n a wire kbps ys then byGrid (endStepWait s n) ys ssSynced
      else if placementFits s n a wire kbps zs then
        let (k, s') := placeAll s n a wire kbps zs
        if k = 0 then s' else acceptFrame (enterStream (s'.countBy C.SVI_S_STEP_REBASED k n) n ssSynced) n a synch zs
      else byGrid s ys ssSynced
  if sync = 0 && !glob then s.count C.SVI_S_SIM_NOSYNC n
  else if waiting then
    if glob && decide (sync ≠ 2) then stepping s
    else byEst s { st with fresh := true, globalRun := 0 } (glob && decide (sync = 1))
  else if state = ssSynced then
    if glob then stepping s
    else byEst s { estFromPlaced st rate with globalRun := 0 } false
  else if glob && decide (sync = 1) && decide (8 ≤ st.globalRun + 1) then byGrid s (gridSamples xs rate a 0) ssSynced
  else byEst s st (glob && decide (sync = 1))

/-! ## Frames (R117 to R123) -/

/-- Does a frame match an entry (R121)? -/
def frameMatches (s : State) (f : Frame) (p : SvPdu) (n : Nat) : Bool :=
  decide (streamState s n ≠ ssDisabled) && decide (f.dst = streamDa s n) && decide (p.appId = s.fld F.SVI_S_ID_APPID n)
    && decide ((p.asdus.head?.map SvAsdu.svId) = some (sviVid s n))
    && (!s.flag F.SVI_S_CTL_VID_EN n || decide ((f.tag.map VTag.vid) = some (s.fld F.SVI_S_ID_VID n)))

/-- Has a frame a format error for an entry (R119)? -/
def frameBad (s : State) (p : SvPdu) (n : Nat) : Bool :=
  let rate := streamRate s n
  let nval := s.fld F.SVI_S_CTL_NVAL n
  !p.parses || decide (p.noAsdu ≠ s.fld F.SVI_S_CTL_NASDU n) || decide (p.asdus.length ≠ p.noAsdu)
    || p.asdus.any fun x =>
      decide (x.seqData.length ≠ nval * 8) || decide (some x.svId ≠ p.asdus.head?.map SvAsdu.svId) || decide (rate ≤ x.smpCnt)
        || decide (x.smpRate.getD rate ≠ rate) || decide (x.smpMod.getD 1 ≠ 1)

/-- The samples of a frame's ASDUs, with their values converted. -/
def frameSamples (s : State) (n t nval : Nat) (unchk : Bool) (asdus : List SvAsdu) : List SviSample × State :=
  asdus.foldl (fun (acc : List SviSample × State) x =>
    let c := convertAll acc.2 n t nval x.seqData
    (acc.1 ++ [{ inst := 0, idx := 0, cnt := x.smpCnt, vals := c.1,
                 quals := (List.range nval).map fun v => wordAt x.seqData (2 * v + 1), data := x.seqData, unchk := unchk,
                 est := false, regrid := false }], c.2)) ([], s)

/-- Handle a frame of a matched stream. -/
def streamFrame (s : State) (n : Nat) (r : RxFrame) (p : SvPdu) : State :=
  let s := s.count C.SVI_S_FRAMES n
  if frameBad s p n then streamFlt (s.count C.SVI_S_FMT_ERR n) n F.SVI_S_FLT_FMT_ERR F.SVI_FLT_FMT_ERR
  else if p.asdus.any fun x => decide (x.confRev ≠ s.fld F.SVI_S_CONFREV_CONFREV n) then
    (s.count C.SVI_S_CONFREV n).setFlag F.SVI_S_FLT_FMT_ERR true n
  else if p.sim != s.flag F.SVI_S_CTL_SIM n then s.count C.SVI_S_SIM_NOSYNC n
  else
    let auth := s.fld F.SVI_S_CTL_AUTH n
    let next := if s.flag F.SVI_S_KEY_NEXT_EN n then some (s.fld F.SVI_S_KEY_KEY_NEXT n) else none
    let ok := decide (auth = 0) || authOk s (s.fld F.SVI_S_KEY_MAC_ALG n) (s.fld F.SVI_S_KEY_KEY_CUR n) next r.frame p.ext
    if !ok && decide (auth = 1) then streamFlt (s.count C.SVI_S_AUTH_FAIL n) n F.SVI_S_FLT_AUTH_FAIL F.SVI_FLT_AUTH_FAIL
    else
      let s := if ok then s else (s.count C.SVI_S_AUTH_MONITOR n).setFlag F.SVI_S_FLT_AUTH_FAIL true n
      let nval := s.fld F.SVI_S_CTL_NVAL n
      let unchk := !ok || decide (auth = 0)
      let q := frameSamples s n r.stamp.t nval unchk p.asdus
      let glob := p.asdus.all fun x => decide (x.smpSynch = 2)
      placeFrame q.2 n r.stamp.t ((r.wire + 20) * 8) r.kbps glob ((p.asdus.getLast?.map SvAsdu.smpSynch).getD 0) q.1

/-- Handle a frame from the SVI port (R117, R122). -/
def svFrame (s : State) (r : RxFrame) : State :=
  let s := sviSettle (s.count C.SVI_FRAMES_IN)
  if !s.flag F.SVI_CTRL_EN then s.count C.SVI_DISABLED_DROP
  else
    match r.frame.payload with
    | .sv p =>
      match (if r.frame.etype = 0x88BA then (List.range sviStreams).find? (frameMatches s r.frame p) else none) with
      | some n => streamFrame s n r p
      | none => (s.count C.SVI_UNMATCHED).setFlt F.SVI_FLT_UNMATCHED
    | _ => (s.count C.SVI_UNMATCHED).setFlt F.SVI_FLT_UNMATCHED

/-- SV_FRAME_RX: the next frame that the switch core has delivered to the SVI port. -/
def svFrameRx (s : State) : State :=
  match s.svi.inbox with
  | [] => s
  | r :: t => svFrame { s with svi := { s.svi with inbox := t } } r

def execSvFrameRx (s : State) : Host.Outcome State Fault Refusal := .next (s.live fun s => svFrameRx s)

/-! ## Release (R143 to R147) -/

/-- How a released instant was obtained. -/
inductive RelKind where
  | received (x : SviSample)
  | regrid (a b : SviSample)
  | hold (x : SviSample)
  | linear (a b : SviSample)
  | zero
  deriving DecidableEq, Repr

/-- How grid instant `g` of a stream is released (R134, R143, R145). -/
def relKind (s : State) (n g : Nat) : RelKind :=
  let st := s.stream n
  let state := streamState s n
  if state ≠ ssSynced && state ≠ ssEstimated then .zero
  else
    let before := ((st.held.filter fun x => decide (x.inst ≤ g)).getLast?).orElse fun _ => st.prev
    let after := st.held.find? fun x => decide (g < x.inst)
    let fill (a : SviSample) : RelKind :=
      let f := s.fld F.SVI_S_CTL_FILL n
      if f = 0 then .hold a
      else if f = 1 then (match after with | some b => .linear a b | none => .hold a)
      else .zero
    match before with
    | none => .zero
    | some a =>
      if a.inst = g && !a.est && !a.regrid then .received a
      else
        match after with
        | none => if a.inst = g then .regrid a a else fill a
        | some b =>
          if state = ssEstimated || a.regrid || b.regrid then .regrid a b else fill a

/-- Is a released instant missing (R145)? -/
def RelKind.missing : RelKind → Bool
  | .received _ => false
  | .regrid _ _ => false
  | _ => true

/-- The value and quality of value `v` at grid instant `g` (R147). -/
def relValue (s : State) (n v g : Nat) (k : RelKind) (run age : Nat) : Nat × Nat :=
  let past : Bool := s.fld F.SVI_S_LIMIT_MAX_FILL n < run
  let recvQ := recvQ (decide (streamState s n = ssEstimated))
  let fillQ (q : Nat) : Nat := orBits q 0 + (if past then 1 else worstValid q 3) + qMissing + age * 2 ^ 24
  match k with
  | .received x => (x.vals.getD v 0, recvQ x v)
  | .regrid a b => (interp (a.vals.getD v 0) a.inst (b.vals.getD v 0) b.inst g, (mergeQ (recvQ a v) (recvQ b v)) + qInterp)
  | .hold x => (x.vals.getD v 0, fillQ (recvQ x v))
  | .linear a b => (interp (a.vals.getD v 0) a.inst (b.vals.getD v 0) b.inst g, fillQ (mergeQ (recvQ a v) (recvQ b v)) + qInterp)
  | .zero => (0, 1 + qMissing + age * 2 ^ 24)

def FdcCh.reset : FdcCh :=
  { inq := [], hist := [], first := none, prevSt := none, nextM := 0, env := 0, since := 0, nIn := 0,
    lastT := 0, resetReq := false }

def State.fch (s : State) (c : Nat) : FdcCh := sparseGet FdcCh.reset s.fdc.chans c

def State.setFch (s : State) (c : Nat) (v : FdcCh) : State :=
  { s with fdc := { s.fdc with chans := sparseSet FdcCh.reset s.fdc.chans c v } }

/-- A released value reaches the FDC input: discarded while the FDC or the channel is off, or when the channel is a detector
(R155, R156). -/
def fdcInput (s : State) (c : Nat) (x : RelVal) : State :=
  let s := { s with svi := { s.svi with rel := sparsePut c ((x :: sparseGet [] s.svi.rel c).take 256) s.svi.rel } }
  let s := drecReleased s c x.t x.rate
  if !s.flag F.FDC_CTRL_EN || !s.flag F.FDC_C_CTL_EN c then (s.count C.FDC_UNBOUND_DROP).setFlt F.FDC_FLT_UNBOUND_DROP
  else if s.fld F.FDC_C_CTL_MODE c ≠ 0 then
    ((s.count C.FDC_SRC_CONFLICT).setFlag F.FDC_C_FLT_SRC_CONFLICT true c).setFlt F.FDC_FLT_SRC_CONFLICT
  else
    let ch := s.fch c
    s.setFch c { ch with inq := ch.inq ++ [x] }

/-- The references of a group as (stream, value). -/
def tideRefs (s : State) (g : Nat) : List (Nat × Nat) :=
  [(s.fld F.TIDE_G_REF_A_STREAM g, s.fld F.TIDE_G_REF_A_VALUE g), (s.fld F.TIDE_G_REF_B_STREAM g, s.fld F.TIDE_G_REF_B_VALUE g),
   (s.fld F.TIDE_G_REF_C_STREAM g, s.fld F.TIDE_G_REF_C_VALUE g)]

/-- The reference samples Tide keeps of each value: more than a cycle at the lowest frequency. -/
def refKeep : Nat := 4096

/-- Give Tide a released instant of a stream for each reference that names it (R144). -/
def giveTide (s : State) (n g : Nat) (val : Nat → Nat × Nat) : State :=
  (List.range 8).foldl (fun s k =>
    let names (i : Nat) : Option Nat := match (tideRefs s k)[i]? with
      | some (m, v) => if m = n then some v else none
      | none => none
    let give (i : Nat) (l : List RefSample) : List RefSample := match names i with
      | some v =>
        let (x, q) := if streamGroup s n = k then val v else (0, 1 + qMissing)
        ({ t := g, v := x, q := q } :: l).take refKeep
      | none => l
    if (List.range 3).any fun i => (names i).isSome then
      let grp := s.grp k
      s.setGrp k { grp with refA := give 0 grp.refA, refB := give 1 grp.refB, refC := give 2 grp.refC }
    else s) s

/-- Is a stream releasing (R143)? -/
def streamReleases (s : State) (n : Nat) : Bool :=
  let st := streamState s n
  decide (st = ssSynced) || decide (st = ssEstimated) || grpEn s (streamGroup s n)

/-- What the fingerprint takes of a received sample of an ESTIMATED stream (R151). -/
def fpSample (x : SviSample) : FpRec := { inst := x.inst, cnt := x.cnt, st := 5 + ofBit x.unchk * 2, data := x.data }

/-- The records that an instant's release adds for fingerprints (R150, R151). -/
def fpRecords (st : SviStream) (rate k g state : Nat) (kind : RelKind) : List FpRec :=
  if state = ssEstimated then ((st.held.filter fun x => decide (x.inst ≤ g)).map fpSample).reverse
  else
    match kind with
    | .received x => [{ inst := g, cnt := k % rate, st := 1 + ofBit x.unchk * 2 + ofBit x.est * 4, data := x.data }]
    | _ => [{ inst := g, cnt := k % rate, st := 0, data := [] }]

/-- Release grid number `k` of a stream (R143 to R147). -/
def releaseAt (s : State) (n k : Nat) : State :=
  let rate := streamRate s n
  let g := gridInst rate k
  let state := streamState s n
  let live : Bool := decide (state = ssSynced) || decide (state = ssEstimated)
  let st := s.stream n
  let kind := relKind s n g
  let miss := kind.missing && live
  let run := if miss then st.run + 1 else 0
  let lastBefore := ((st.held.filter fun x => decide (x.inst < g)).getLast?.map SviSample.inst).orElse fun _ => st.lastInst
  let age := if state = ssDisabled then 255
    else match lastBefore with | some t => ageOf s (streamGroup s n) (g - t) | none => 255
  let val (v : Nat) : Nat × Nat := relValue s n v g kind run age
  let s := (List.range (s.fld F.SVI_S_CTL_NVAL n)).foldl (fun s v =>
    match valueMap s n v with
    | some c =>
      let (x, q) := val v
      fdcInput s c { t := g, v := x, q := q, st := state, grp := streamGroup s n, rate := s.fld F.SVI_S_CTL_RATE n }
    | none => s) s
  let s := giveTide s n g val
  let passed := st.held.filter fun x => decide (x.inst ≤ g)
  let lastIn := (passed.getLast?.map SviSample.inst).orElse fun _ => st.lastInst
  let missRun := if miss then st.missRun + 1 else 0
  let s := s.setStream n { st with
    held := st.held.filter fun x => decide (g < x.inst)
    prev := if live then passed.getLast?.orElse fun _ => st.prev else none
    lastInst := lastIn, next := some (k + 1), run := run, missRun := missRun
    hist := (fpRecords st rate k g state kind ++ st.hist).take 1024 }
  if !miss then s
  else
    let s := s.count C.SVI_S_MISSING n
    let s := if s.fld F.SVI_S_LIMIT_MAX_FILL n < run then streamFlt s n F.SVI_S_FLT_FILL_LIMIT F.SVI_FLT_FILL_LIMIT else s
    if max 1 (s.fld F.SVI_S_LIMIT_LOSS_N n) ≤ missRun then setStreamState s n ssDown else s

/-- SAMPLE_RELEASE: the next grid instant of a stream whose release instant g + D has come (R143). -/
def sampleRelease (s : State) (n : Nat) : State :=
  let s := sviSettle s
  if sviStreams ≤ n then s
  else if !streamReleases s n then
    let st := s.stream n
    s.setStream n { st with next := none }
  else
    let rate := streamRate s n
    let d := adepth s (streamGroup s n) * 65536
    if s.devT < d then s
    else
      let latest := gridAt rate (s.devT - d)
      let k := (s.stream n).next.getD (firstRelease s n)
      if k ≤ latest then releaseAt s n k else s

def execSampleRelease (n : Nat) (s : State) : Host.Outcome State Fault Refusal := .next (s.live fun s => sampleRelease s n)

/-! ## Step notices (R135 to R137) -/

/-- A step notice reaches a stream: its held samples, its pending releases and its base move, and a SYNCED stream enters
STEP_WAIT (R135, R136). The next release is that of the first grid instant after the shifted instant released last, so that none is skipped. `d` is in 2^-16 ns. -/
def streamStep (s : State) (d : Int) (n : Nat) : State :=
  let st := s.stream n
  let rate := streamRate s n
  let state := streamState s n
  let mv (x : SviSample) : SviSample := { x with inst := shiftT x.inst d, regrid := x.regrid || !x.est }
  let next := st.next.map fun k =>
    if k = 0 || decide ((gridInst rate (k - 1) : Int) + d < 0) then 0 else gridAt rate (shiftT (gridInst rate (k - 1)) d) + 1
  let guard := max 1 (s.fld F.SVI_CTRL_STEP_GUARD) * 10000000
  let st' := { st with held := st.held.map mv, prev := st.prev.map mv, lastInst := st.lastInst.map fun t => shiftT t d,
                       next := next, base := st.base + d, hist := st.hist.map fun r => { r with inst := shiftT r.inst d } }
  if state = ssSynced then
    (s.setStream n { st' with stepAmt := st.stepAmt + d, stepEnd := some (s.time.sys + guard) }).setFlag
      F.SVI_S_STAT_STEP_WAIT true n
  else s.setStream n st'

/-- A step notice of EPOCH `ep` reaches Estuary. -/
def sviStep (s : State) (d : Int) (ep : Nat) : State :=
  let v := s.svi
  let inbox : List RxFrame := v.inbox.map fun r => { r with stamp := r.stamp.step d ep }
  let enWait : List (Nat × Nat × Bool) := v.enWait.map fun (n, t, b) => (n, shiftT t d, b)
  let scales : List (Nat × Nat × Nat) := v.scales.map fun (k, t, o) => (k, shiftT t d, o)
  let onGrid (x : RelVal) : RelVal := { x with t := gridFloor (if x.rate = 0 then 4800 else 14400) (shiftT x.t d) }
  let rel : Sparse (List RelVal) := v.rel.map fun (c, l) => (c, l.map onGrid)
  let steps : List (Nat × Nat × Int) := ((s.devT, ep, d) :: v.steps.map fun (t, e, a) => (shiftT t d, e, a)).take 16
  let s : State := { s with svi := { v with inbox := inbox, enWait := enWait, scales := scales, rel := rel, steps := steps } }
  (s.svi.streams.map Prod.fst).foldl (fun s n => streamStep s d n) s

/-- STEP_GUARD_EXPIRY: STEP_WAIT ends without a fitting frame (R137). -/
def stepGuardExpiry (s : State) (n : Nat) : State :=
  match (s.stream n).stepEnd with
  | none => s
  | some e =>
    if s.time.sys < e then s
    else (streamFlt (endStepWait s n) n F.SVI_S_FLT_STEP_TIMEOUT F.SVI_FLT_STEP_TIMEOUT).event 4 0x0402 0 n

def execStepGuardExpiry (n : Nat) (s : State) : Host.Outcome State Fault Refusal := .next (s.live fun s => stepGuardExpiry s n)

/-! ## Commands and depth -/

/-- The stream that SVI_SEL selects. -/
def selStream (s : State) : Option Nat := if s.fld F.SVI_SEL_KIND = 0 then some (s.fld F.SVI_SEL_INDEX) else none

/-- CLR_TMAX: the largest transit starts afresh. -/
def clrTmax (s : State) : State :=
  match selStream s with
  | some n => (s.setStream n { s.stream n with tmaxSet := false }).setFld F.SVI_S_TMAX_VAL 0 n
  | none => s

def execClrTmax (s : State) : Host.Outcome State Fault Refusal := .next (s.live fun s => clrTmax s)

/-- EST_RESTART: acted on only in ESTIMATED; the base is taken afresh from the next accepted frame (R148). -/
def estRestart (s : State) : State :=
  match selStream s with
  | some n => if streamState s n = ssEstimated then s.setStream n { s.stream n with fresh := true } else s
  | none => s

def execEstRestart (s : State) : Host.Outcome State Fault Refusal := .next (s.live fun s => estRestart s)

/-- A write of SVI_ADEPTH_g by a tag: a lock violation while the group or a stream of it is enabled, ignored with CFG_ERR outside
100,000 to 4,000,000 ns (R138). -/
def adepthWrite (s : State) (tag g v : Nat) : State :=
  if 8 ≤ g then s
  else
    let v := v % 2 ^ 22
    let busy := grpEn s g || s.flag F.SVI_CTRL_LOCK || (List.range sviStreams).any fun n => streamEn s n && decide (streamGroup s n = g)
    if busy then (if v = adepth s g then s else s.lockViolation tag (0x40040020 + 4 * g) v)
    else if v < 100000 || 4000000 < v then s.setFlt F.SVI_FLT_CFG_ERR
    else s.setFld (F.SVI_ADEPTH_D.el g) v

def execAdepthWrite (g v : Nat) (s : State) : Host.Outcome State Fault Refusal := .next (s.live fun s => adepthWrite s 0 g v)

/-! ## Fingerprints (R150 to R153) -/

/-- Is a stream in a partition's mask? -/
def fpMask (s : State) (p n : Nat) : Bool := s.fbit (F.SVI_P_MASK_MASK.el (n / 32)) (n % 32) p

/-- The grid instants of a stream in an interval that it released nothing at, for want of a release (R150): no record lies within a sample interval of one. -/
def fpUnreleased (s : State) (n lo hi : Nat) : List FpRec :=
  let rate := streamRate s n
  let first := if lo = 0 then 0 else gridAt rate (lo - 1) + 1
  ((List.range (gridAt rate hi + 1 - first)).map fun i => first + i).filterMap fun k =>
    let g := gridInst rate k
    if (s.stream n).hist.any fun r => decide (absI ((r.inst : Int) - g) * rate < secT) then none
    else some { inst := g, cnt := k % rate, st := 0, data := [] }

/-- The instants of a stream in an interval [lo, hi], ascending (R150): for an ESTIMATED stream the received samples, released or still held; else the grid instants. -/
def fpInstants (s : State) (n lo hi : Nat) : List FpRec :=
  let inIt (r : FpRec) : Bool := decide (lo ≤ r.inst) && decide (r.inst ≤ hi)
  let past := ((s.stream n).hist.filter inIt).reverse
  if streamState s n = ssEstimated then past ++ ((s.stream n).held.map fpSample).filter inIt
  else
    let more := fpUnreleased s n lo hi
    let at_ := (past.head?.map FpRec.inst).getD 0
    (more.filter fun r => decide (r.inst < at_)) ++ past ++ more.filter fun r => decide (at_ ≤ r.inst)

/-- The presence and data octets and the count of the instants of a stream in an interval (R151). -/
def fpStream (s : State) (n lo hi : Nat) : List Nat × List Nat × Nat :=
  (fpInstants s n lo hi).foldl
    (fun (acc : List Nat × List Nat × Nat) r =>
      let (pr, da, c) := acc
      (pr ++ octetsBE 2 n ++ octetsBE 2 r.cnt ++ [r.st], if r.st % 2 = 1 then da ++ r.data else da, c + r.st % 2)) ([], [], 0)

/-- The fingerprint of a partition's window over an interval [lo, hi] (R151, R152). -/
def fingerprint (s : State) (p g w lo hi : Nat) : List Nat :=
  let ns := (List.range sviStreams).filter (fpMask s p)
  let (pr, da, c) := ns.foldl (fun (acc : List Nat × List Nat × Nat) n =>
    let (a, b, k) := fpStream s n lo hi
    (acc.1 ++ a, acc.2.1 ++ b, acc.2.2 + k)) ([], [], 0)
  let est := ns.any fun n => decide (streamState s n = ssEstimated)
  let step := s.svi.steps.any fun (t, _, _) => decide (lo ≤ t) && decide (t ≤ hi)
  [w, p * 2 ^ 24 + g * 2 ^ 21 + ofBit est * 2 ^ 20 + ofBit step * 2 ^ 19 + ofBit (decide (65535 < c)) * 2 ^ 18 + min 65535 c,
   crc32c pr, crc32c da]

/-- The fingerprints a partition has had, newest first. -/
def State.fps (s : State) (p : Nat) : List (List Nat) := sparseGet [] s.svi.fps p

/-- The next window whose fingerprint a partition is due: the oldest fixed window after its last in which its slot runs. -/
def fpNext (s : State) (p : Nat) (wins : List TideWin) (runs : Nat → Bool) : Option TideWin :=
  match (s.fps p).head? with
  | none => wins.find? fun w => runs w.n
  | some l =>
    let last := l.getD 0 0
    ((wins.takeWhile fun w => decide (w.n ≠ last)).reverse).find? fun w => runs w.n

/-- The first instant of the interval of window `w` (R150), which ends at its boundary: the one after the boundary of the window before it in which the partition's
slot runs, or the oldest boundary the map still has. -/
def fpFrom (s : State) (t j g : Nat) (w : TideWin) : Nat :=
  let wins := (s.grp g).wins
  match wins.find? fun x => decide (x.n = (w.n + 2 ^ 32 - slotDiv s t j) % 2 ^ 32) with
  | some x => x.b + 1
  | none => (wins.getLast?.map TideWin.b).getD 0

/-- FINGERPRINT_COMPLETE: 3 µs after b_N + D a partition's fingerprint of window N is stored and handed to Rally (R153). -/
def fingerprintComplete (s : State) (p : Nat) : State :=
  match slotOf s p with
  | none => s
  | some (t, j) =>
    let g := s.fld F.TIDE_P_CFG_GROUP t
    if !grpEn s g then s
    else
      match fpNext s p (s.grp g).wins (fun n => slotRuns s t j n) with
      | none => s
      | some w =>
        if s.devT < w.b + (adepth s g + 3000) * 65536 then s
        else
          let fp := fingerprint s p g w.n (fpFrom s t j g w) w.b
          let s := (List.range 4).foldl (fun s i => s.setFld (F.SVI_P_FP_FP.el i) (fp.getD i 0) p) s
          ({ s with svi := { s.svi with fps := sparsePut p ((fp :: s.fps p).take 64) s.svi.fps } }).count C.SVI_FINGERPRINTS

end Sys2Proof.Machine
end

