-- ==== Sys2Proof/Machine/RallyBase.lean ====
section
/-! DEFINITION. What Rally shares with the GOOSE engine: the frames it sends, the roles, and the policies of the output bits. -/

namespace Sys2Proof.Machine

def blkTwin : Nat := 9

def prOff : Nat := 0
def prAlone : Nat := 1
def prProbe : Nat := 2
def prPaired : Nat := 3

def pairState (s : State) : Nat := s.fld F.TWIN_STAT_PAIR

/-- Is this twin leader? -/
def isLeader (s : State) : Bool := s.flag F.TWIN_STAT_LEADER

/-! ## Frames (R290, R292) -/

def rfHello : Nat := 1
def rfFprint : Nat := 2
def rfCommit : Nat := 3
def rfGseq : Nat := 4
def rfXfer : Nat := 5
def rfCtrl : Nat := 6

/-- The TQ and nanoseconds of a time as a header or payload word carries them. -/
def tqNs (tq ns : Nat) : Nat := tq * 2 ^ 30 + ns % 1000000000

/-- The octets of a frame on the lanes (R290): the header with TYPE, VER 0x1, SIDE and LEN, SEQ and the time of the handover, the payload, and the CRC-32C over
them. -/
def RallyFrame.octets (f : RallyFrame) : List Nat :=
  let h0 := f.typ * 2 ^ 24 + 2 ^ 20 + ofBit f.sideB * 2 ^ 19 + f.words.length * 4
  let body := ([h0, f.seq, f.h2, f.h3] ++ f.words).flatMap (octetsBE 4)
  body ++ octetsBE 4 (crc32c body)

/-- Do the lanes carry frames: the pair is not OFF and a lane is up? -/
def rallyOpen (s : State) : Bool := decide (pairState s ≠ prOff) && decide (s.fld F.TWIN_STAT_LANE_UP ≠ 0)

/-- A frame falls due at the present SYS edge; in OFF the lanes send idle. It is sent on every lane that is up when the edge ends (`rallyEdge`). -/
def sendRally (s : State) (typ : Nat) (words : List Nat) : State :=
  if rallyOpen s then { s with twin := { s.twin with out := s.twin.out ++ [(typ, words)] } } else s

/-- Hand a frame to the lanes: it takes the next SEQ. -/
def rallyHand (s : State) (f : Nat × List Nat) : State :=
  if !rallyOpen s then s
  else
    let f : RallyFrame := { typ := f.1, sideB := s.twin.sideB, seq := s.twin.txSeq, h2 := s.time.sec % 2 ^ 32,
                            h3 := tqNs (s.fld F.TIME_STAT_TQ) s.time.ns, words := f.2 }
    ({ s with twin := { s.twin with sent := s.twin.sent ++ [f], txSeq := (s.twin.txSeq + 1) % 2 ^ 32 } }).count C.TWIN_FRAMES_TX

/-- The frame types in the order in which frames that are due together are sent (R292). -/
def rallyOrder : List Nat := [rfCommit, rfFprint, rfGseq, rfCtrl, rfHello, rfXfer]

/-- A SYS edge ends: the frames that fell due at it are handed to the lanes in the order of R292. -/
def rallyEdge (s : State) : State :=
  if s.twin.out.isEmpty then s
  else
    let l := rallyOrder.flatMap fun t => s.twin.out.filter fun f => f.1 = t
    l.foldl rallyHand { s with twin := { s.twin with out := [], sent := [] } }

/-- Send a CTRL frame of a kind (R553). -/
def sendCtrl (s : State) (kind arg : Nat) : State := sendRally s rfCtrl [kind, arg]

/-! ## Policies (R302) -/

/-- The policy byte of an output bit. -/
def polByte (s : State) (p b : Nat) : Nat :=
  let at_ (f : Fld) : Nat := s.fld { f.el (b / 4) with lo := f.lo + 8 * (b % 4) } p
  at_ F.TWIN_T_POL_POL_B0 + 4 * at_ F.TWIN_T_POL_FB_B0 + 16 * at_ F.TWIN_T_POL_FPM_B0

/-- Is a bit resolved at E and not at the commit edge: AGREE or EITHER? -/
def polShared (s : State) (p b : Nat) : Bool :=
  let pol := polByte s p b % 4
  decide (pol = 1) || decide (pol = 2)

/-- A resolved output bit of a partition. -/
def resolvedOb (s : State) (p b : Nat) : Bool := bitOf (sparseGet 0 s.twin.resolved p) b

def State.setResolved (s : State) (p v : Nat) : State :=
  { s with twin := { s.twin with resolved := sparseSet 0 s.twin.resolved p v } }

/-- The output bits of a vector as one number (R200). -/
def vecBits (v : List Nat) : Nat := ((List.range 8).map fun i => v.getD i 0 % 2 ^ 32 * 2 ^ (32 * i)).foldl (· + ·) 0

/-- The word digest of a vector (R292). -/
def wordDigest (v : List Nat) : Nat := crc32c (((v.drop 8).take 56).flatMap (octetsBE 4))

/-! ## Alignment (R297) -/

def alUnaligned : Nat := 0
def alAligning : Nat := 1
def alAligned : Nat := 2

def grpAlign (s : State) (g : Nat) : Nat := s.fld F.TWIN_G_STAT_ALIGN g

def RallyGrp.reset : RallyGrp := { epoch := 0, pend := [], peers := [], prints := [] }

def State.rgrp (s : State) (g : Nat) : RallyGrp := sparseGet RallyGrp.reset s.twin.grps g
def State.setRgrp (s : State) (g : Nat) (v : RallyGrp) : State :=
  { s with twin := { s.twin with grps := sparseSet RallyGrp.reset s.twin.grps g v } }

/-- A group becomes UNALIGNED. -/
def rallyUnalign (s : State) (g : Nat) : State :=
  if grpAlign s g = alUnaligned then s
  else
    let v := s.rgrp g
    ((s.setRgrp g { v with epoch := v.epoch + 1 }).setFld F.TWIN_G_STAT_ALIGN alUnaligned g).setFld F.TWIN_G_STAT_COUNT 0 g

end Sys2Proof.Machine
end

