-- ==== Sys2Proof/Machine/RegsGoose.lean ====
section
/-! DEFINITION. The GOOSE register block (block 7) as the register tables of spec/07_trip_and_goose.md give it: every field with its
bits, access and reset value (F), every register (R), and the statistics counters of its banks (C). -/

namespace Sys2Proof.Machine

/-! GOOSE_CTRL: offset 0x0000, reset by device reset. -/
def F.GOOSE_CTRL_LOCK : Fld := ⟨7, 0, 0x0000, 4, 31, 1, .wl, 0x0⟩
def F.GOOSE_CTRL_EN : Fld := ⟨7, 0, 0x0000, 4, 0, 1, .rw, 0x0⟩
def R.GOOSE_CTRL : RegDesc := ⟨7, 0, 0x0000, 4, 1, [F.GOOSE_CTRL_LOCK, F.GOOSE_CTRL_EN]⟩

/-! GOOSE_STAT: offset 0x0004, reset by device reset. -/
def F.GOOSE_STAT_LEADER : Fld := ⟨7, 0, 0x0004, 4, 31, 1, .ro, 0x0⟩
def F.GOOSE_STAT_BLOCKS : Fld := ⟨7, 0, 0x0004, 4, 16, 10, .ro, 0x0⟩
def F.GOOSE_STAT_VALID : Fld := ⟨7, 0, 0x0004, 4, 0, 11, .ro, 0x0⟩
def R.GOOSE_STAT : RegDesc := ⟨7, 0, 0x0004, 4, 1, [F.GOOSE_STAT_LEADER, F.GOOSE_STAT_BLOCKS, F.GOOSE_STAT_VALID]⟩

/-! GOOSE_FLT: offset 0x0008, reset by device reset. -/
def F.GOOSE_FLT_NOKEY : Fld := ⟨7, 0, 0x0008, 4, 8, 1, .w1c, 0x0⟩
def F.GOOSE_FLT_INCONSISTENT : Fld := ⟨7, 0, 0x0008, 4, 7, 1, .w1c, 0x0⟩
def F.GOOSE_FLT_TAKEOVER : Fld := ⟨7, 0, 0x0008, 4, 6, 1, .w1c, 0x0⟩
def F.GOOSE_FLT_REPLAY : Fld := ⟨7, 0, 0x0008, 4, 5, 1, .w1c, 0x0⟩
def F.GOOSE_FLT_AUTH_FAIL : Fld := ⟨7, 0, 0x0008, 4, 4, 1, .w1c, 0x0⟩
def F.GOOSE_FLT_MISMATCH : Fld := ⟨7, 0, 0x0008, 4, 3, 1, .w1c, 0x0⟩
def F.GOOSE_FLT_STALE : Fld := ⟨7, 0, 0x0008, 4, 2, 1, .w1c, 0x0⟩
def F.GOOSE_FLT_TX_DROP : Fld := ⟨7, 0, 0x0008, 4, 1, 1, .w1c, 0x0⟩
def F.GOOSE_FLT_CFG_ERR : Fld := ⟨7, 0, 0x0008, 4, 0, 1, .w1c, 0x0⟩
def R.GOOSE_FLT : RegDesc := ⟨7, 0, 0x0008, 4, 1, [F.GOOSE_FLT_NOKEY, F.GOOSE_FLT_INCONSISTENT, F.GOOSE_FLT_TAKEOVER, F.GOOSE_FLT_REPLAY, F.GOOSE_FLT_AUTH_FAIL, F.GOOSE_FLT_MISMATCH, F.GOOSE_FLT_STALE, F.GOOSE_FLT_TX_DROP, F.GOOSE_FLT_CFG_ERR]⟩

/-! GOOSE_IEN: offset 0x000C, reset by device reset. -/
def F.GOOSE_IEN_IEN : Fld := ⟨7, 0, 0x000C, 4, 0, 9, .rw, 0x0⟩
def R.GOOSE_IEN : RegDesc := ⟨7, 0, 0x000C, 4, 1, [F.GOOSE_IEN_IEN]⟩

/-! GOOSE_CMD: offset 0x0010, reset by device reset. -/
def F.GOOSE_CMD_CMD : Fld := ⟨7, 0, 0x0010, 4, 0, 4, .wo, 0x0⟩
def R.GOOSE_CMD : RegDesc := ⟨7, 0, 0x0010, 4, 1, [F.GOOSE_CMD_CMD]⟩

/-! GOOSE_CNTOVF: offset 0x0048, reset by device reset. -/
def F.GOOSE_CNTOVF_SUB_OVF : Fld := ⟨7, 0, 0x0048, 4, 2, 1, .ro, 0x0⟩
def F.GOOSE_CNTOVF_BLOCK_OVF : Fld := ⟨7, 0, 0x0048, 4, 1, 1, .ro, 0x0⟩
def F.GOOSE_CNTOVF_DEV_OVF : Fld := ⟨7, 0, 0x0048, 4, 0, 1, .w1c, 0x0⟩
def R.GOOSE_CNTOVF : RegDesc := ⟨7, 0, 0x0048, 4, 1, [F.GOOSE_CNTOVF_SUB_OVF, F.GOOSE_CNTOVF_BLOCK_OVF, F.GOOSE_CNTOVF_DEV_OVF]⟩

/-! GOOSE_SEL: offset 0x0100, reset by device reset. -/
def F.GOOSE_SEL_KIND : Fld := ⟨7, 0, 0x0100, 4, 12, 2, .rw, 0x0⟩
def F.GOOSE_SEL_INDEX : Fld := ⟨7, 0, 0x0100, 4, 0, 10, .rw, 0x0⟩
def R.GOOSE_SEL : RegDesc := ⟨7, 0, 0x0100, 4, 1, [F.GOOSE_SEL_KIND, F.GOOSE_SEL_INDEX]⟩

/-! GOOSE_B_CTL: offset 0x0200, reset by device reset. -/
def F.GOOSE_B_CTL_EN : Fld := ⟨7, 1, 0x0200, 4, 31, 1, .rw, 0x0⟩
def F.GOOSE_B_CTL_MODE : Fld := ⟨7, 1, 0x0200, 4, 29, 2, .rw, 0x0⟩
def F.GOOSE_B_CTL_URGENT : Fld := ⟨7, 1, 0x0200, 4, 28, 1, .rw, 0x0⟩
def F.GOOSE_B_CTL_SIM : Fld := ⟨7, 1, 0x0200, 4, 27, 1, .rw, 0x0⟩
def F.GOOSE_B_CTL_TEST : Fld := ⟨7, 1, 0x0200, 4, 26, 1, .rw, 0x0⟩
def F.GOOSE_B_CTL_T_SRC : Fld := ⟨7, 1, 0x0200, 4, 25, 1, .rw, 0x0⟩
def F.GOOSE_B_CTL_VID_EN : Fld := ⟨7, 1, 0x0200, 4, 24, 1, .rw, 0x1⟩
def F.GOOSE_B_CTL_PCP : Fld := ⟨7, 1, 0x0200, 4, 21, 3, .rw, 0x4⟩
def F.GOOSE_B_CTL_CLASS : Fld := ⟨7, 1, 0x0200, 4, 18, 3, .rw, 0x7⟩
def F.GOOSE_B_CTL_AUTH : Fld := ⟨7, 1, 0x0200, 4, 17, 1, .rw, 0x0⟩
def F.GOOSE_B_CTL_OWNER : Fld := ⟨7, 1, 0x0200, 4, 7, 7, .rw, 0x0⟩
def F.GOOSE_B_CTL_NENT : Fld := ⟨7, 1, 0x0200, 4, 0, 6, .rw, 0x1⟩
def R.GOOSE_B_CTL : RegDesc := ⟨7, 1, 0x0200, 4, 1, [F.GOOSE_B_CTL_EN, F.GOOSE_B_CTL_MODE, F.GOOSE_B_CTL_URGENT, F.GOOSE_B_CTL_SIM, F.GOOSE_B_CTL_TEST, F.GOOSE_B_CTL_T_SRC, F.GOOSE_B_CTL_VID_EN, F.GOOSE_B_CTL_PCP, F.GOOSE_B_CTL_CLASS, F.GOOSE_B_CTL_AUTH, F.GOOSE_B_CTL_OWNER, F.GOOSE_B_CTL_NENT]⟩

/-! GOOSE_B_DA_HI: offset 0x0204, reset by device reset. -/
def F.GOOSE_B_DA_HI_DA : Fld := ⟨7, 1, 0x0204, 4, 0, 16, .rw, 0x10C⟩
def R.GOOSE_B_DA_HI : RegDesc := ⟨7, 1, 0x0204, 4, 1, [F.GOOSE_B_DA_HI_DA]⟩

/-! GOOSE_B_DA_LO: offset 0x0208, reset by device reset. -/
def F.GOOSE_B_DA_LO_DA : Fld := ⟨7, 1, 0x0208, 4, 0, 32, .rw, 0xCD010000⟩
def R.GOOSE_B_DA_LO : RegDesc := ⟨7, 1, 0x0208, 4, 1, [F.GOOSE_B_DA_LO_DA]⟩

/-! GOOSE_B_ID: offset 0x020C, reset by device reset. -/
def F.GOOSE_B_ID_APPID : Fld := ⟨7, 1, 0x020C, 4, 16, 16, .rw, 0x1⟩
def F.GOOSE_B_ID_VID : Fld := ⟨7, 1, 0x020C, 4, 0, 12, .rw, 0x0⟩
def R.GOOSE_B_ID : RegDesc := ⟨7, 1, 0x020C, 4, 1, [F.GOOSE_B_ID_APPID, F.GOOSE_B_ID_VID]⟩

/-! GOOSE_B_CONFREV: offset 0x0210, reset by device reset. -/
def F.GOOSE_B_CONFREV_CONFREV : Fld := ⟨7, 1, 0x0210, 4, 0, 32, .rw, 0x1⟩
def R.GOOSE_B_CONFREV : RegDesc := ⟨7, 1, 0x0210, 4, 1, [F.GOOSE_B_CONFREV_CONFREV]⟩

/-! GOOSE_B_SCHED: offset 0x0214, reset by device reset. -/
def F.GOOSE_B_SCHED_RT_MAX : Fld := ⟨7, 1, 0x0214, 4, 16, 16, .rw, 0x3E8⟩
def F.GOOSE_B_SCHED_RT_MIN : Fld := ⟨7, 1, 0x0214, 4, 0, 16, .rw, 0x3E8⟩
def R.GOOSE_B_SCHED : RegDesc := ⟨7, 1, 0x0214, 4, 1, [F.GOOSE_B_SCHED_RT_MAX, F.GOOSE_B_SCHED_RT_MIN]⟩

/-! GOOSE_B_TAL: offset 0x0218, reset by device reset. -/
def F.GOOSE_B_TAL_FAST : Fld := ⟨7, 1, 0x0218, 4, 8, 4, .rw, 0x2⟩
def F.GOOSE_B_TAL_TAL_MULT : Fld := ⟨7, 1, 0x0218, 4, 0, 2, .rw, 0x0⟩
def R.GOOSE_B_TAL : RegDesc := ⟨7, 1, 0x0218, 4, 1, [F.GOOSE_B_TAL_FAST, F.GOOSE_B_TAL_TAL_MULT]⟩

/-! GOOSE_B_TEST: offset 0x021C, reset by device reset. -/
def F.GOOSE_B_TEST_TEST_BIT_EN : Fld := ⟨7, 1, 0x021C, 4, 31, 1, .rw, 0x0⟩
def F.GOOSE_B_TEST_TEST_BIT : Fld := ⟨7, 1, 0x021C, 4, 0, 8, .rw, 0x0⟩
def R.GOOSE_B_TEST : RegDesc := ⟨7, 1, 0x021C, 4, 1, [F.GOOSE_B_TEST_TEST_BIT_EN, F.GOOSE_B_TEST_TEST_BIT]⟩

/-! GOOSE_B_KEY: offset 0x0220, reset by device reset. -/
def F.GOOSE_B_KEY_MAC_ALG : Fld := ⟨7, 1, 0x0220, 4, 16, 3, .rw, 0x0⟩
def F.GOOSE_B_KEY_KEY : Fld := ⟨7, 1, 0x0220, 4, 0, 8, .rw, 0x0⟩
def R.GOOSE_B_KEY : RegDesc := ⟨7, 1, 0x0220, 4, 1, [F.GOOSE_B_KEY_MAC_ALG, F.GOOSE_B_KEY_KEY]⟩

/-! GOOSE_B_LEN: offset 0x0224, reset by device reset. -/
def F.GOOSE_B_LEN_GOCB_LEN : Fld := ⟨7, 1, 0x0224, 4, 16, 7, .rw, 0x0⟩
def F.GOOSE_B_LEN_DATSET_LEN : Fld := ⟨7, 1, 0x0224, 4, 8, 7, .rw, 0x0⟩
def F.GOOSE_B_LEN_GOID_LEN : Fld := ⟨7, 1, 0x0224, 4, 0, 7, .rw, 0x0⟩
def R.GOOSE_B_LEN : RegDesc := ⟨7, 1, 0x0224, 4, 1, [F.GOOSE_B_LEN_GOCB_LEN, F.GOOSE_B_LEN_DATSET_LEN, F.GOOSE_B_LEN_GOID_LEN]⟩

/-! GOOSE_B_STNUM: offset 0x0228, reset by device reset. -/
def F.GOOSE_B_STNUM_VAL : Fld := ⟨7, 1, 0x0228, 4, 0, 32, .ro, 0x0⟩
def R.GOOSE_B_STNUM : RegDesc := ⟨7, 1, 0x0228, 4, 1, [F.GOOSE_B_STNUM_VAL]⟩

/-! GOOSE_B_SQNUM: offset 0x022C, reset by device reset. -/
def F.GOOSE_B_SQNUM_VAL : Fld := ⟨7, 1, 0x022C, 4, 0, 32, .ro, 0x0⟩
def R.GOOSE_B_SQNUM : RegDesc := ⟨7, 1, 0x022C, 4, 1, [F.GOOSE_B_SQNUM_VAL]⟩

/-! GOOSE_B_FLT: offset 0x0230, reset by device reset. -/
def F.GOOSE_B_FLT_CNT_OVF : Fld := ⟨7, 1, 0x0230, 4, 3, 1, .w1c, 0x0⟩
def F.GOOSE_B_FLT_NOKEY : Fld := ⟨7, 1, 0x0230, 4, 2, 1, .w1c, 0x0⟩
def F.GOOSE_B_FLT_TX_DROP : Fld := ⟨7, 1, 0x0230, 4, 1, 1, .w1c, 0x0⟩
def F.GOOSE_B_FLT_CFG_REFUSED : Fld := ⟨7, 1, 0x0230, 4, 0, 1, .w1c, 0x0⟩
def R.GOOSE_B_FLT : RegDesc := ⟨7, 1, 0x0230, 4, 1, [F.GOOSE_B_FLT_CNT_OVF, F.GOOSE_B_FLT_NOKEY, F.GOOSE_B_FLT_TX_DROP, F.GOOSE_B_FLT_CFG_REFUSED]⟩

/-! GOOSE_B_STR: offset 0x0240, 48 registers 0x4 apart, reset by device reset. -/
def F.GOOSE_B_STR_STR : Fld := ⟨7, 1, 0x0240, 4, 0, 32, .rw, 0x0⟩
def R.GOOSE_B_STR : RegDesc := ⟨7, 1, 0x0240, 4, 48, [F.GOOSE_B_STR_STR]⟩

/-! GOOSE_B_ENT: offset 0x0300, 32 registers 0x4 apart, reset by device reset. -/
def F.GOOSE_B_ENT_TYPE : Fld := ⟨7, 1, 0x0300, 4, 28, 4, .rw, 0x0⟩
def F.GOOSE_B_ENT_CONST : Fld := ⟨7, 1, 0x0300, 4, 8, 13, .rw, 0x0⟩
def F.GOOSE_B_ENT_INDEX : Fld := ⟨7, 1, 0x0300, 4, 0, 8, .rw, 0x0⟩
def R.GOOSE_B_ENT : RegDesc := ⟨7, 1, 0x0300, 4, 32, [F.GOOSE_B_ENT_TYPE, F.GOOSE_B_ENT_CONST, F.GOOSE_B_ENT_INDEX]⟩

/-! GOOSE_S_CTL: offset 0x0200, reset by device reset. -/
def F.GOOSE_S_CTL_EN : Fld := ⟨7, 2, 0x0200, 4, 31, 1, .rw, 0x0⟩
def F.GOOSE_S_CTL_SIM : Fld := ⟨7, 2, 0x0200, 4, 30, 1, .rw, 0x0⟩
def F.GOOSE_S_CTL_AUTH : Fld := ⟨7, 2, 0x0200, 4, 28, 2, .rw, 0x0⟩
def F.GOOSE_S_CTL_VID_EN : Fld := ⟨7, 2, 0x0200, 4, 27, 1, .rw, 0x0⟩
def F.GOOSE_S_CTL_SUBST_EN : Fld := ⟨7, 2, 0x0200, 4, 26, 1, .rw, 0x0⟩
def F.GOOSE_S_CTL_OWNER : Fld := ⟨7, 2, 0x0200, 4, 16, 7, .rw, 0x0⟩
def F.GOOSE_S_CTL_NENT : Fld := ⟨7, 2, 0x0200, 4, 8, 7, .rw, 0x1⟩
def F.GOOSE_S_CTL_LEN : Fld := ⟨7, 2, 0x0200, 4, 0, 7, .rw, 0x0⟩
def R.GOOSE_S_CTL : RegDesc := ⟨7, 2, 0x0200, 4, 1, [F.GOOSE_S_CTL_EN, F.GOOSE_S_CTL_SIM, F.GOOSE_S_CTL_AUTH, F.GOOSE_S_CTL_VID_EN, F.GOOSE_S_CTL_SUBST_EN, F.GOOSE_S_CTL_OWNER, F.GOOSE_S_CTL_NENT, F.GOOSE_S_CTL_LEN]⟩

/-! GOOSE_S_DA_HI: offset 0x0204, reset by device reset. -/
def F.GOOSE_S_DA_HI_DA : Fld := ⟨7, 2, 0x0204, 4, 0, 16, .rw, 0x10C⟩
def R.GOOSE_S_DA_HI : RegDesc := ⟨7, 2, 0x0204, 4, 1, [F.GOOSE_S_DA_HI_DA]⟩

/-! GOOSE_S_DA_LO: offset 0x0208, reset by device reset. -/
def F.GOOSE_S_DA_LO_DA : Fld := ⟨7, 2, 0x0208, 4, 0, 32, .rw, 0xCD010000⟩
def R.GOOSE_S_DA_LO : RegDesc := ⟨7, 2, 0x0208, 4, 1, [F.GOOSE_S_DA_LO_DA]⟩

/-! GOOSE_S_ID: offset 0x020C, reset by device reset. -/
def F.GOOSE_S_ID_APPID : Fld := ⟨7, 2, 0x020C, 4, 16, 16, .rw, 0x1⟩
def F.GOOSE_S_ID_VID : Fld := ⟨7, 2, 0x020C, 4, 0, 12, .rw, 0x0⟩
def R.GOOSE_S_ID : RegDesc := ⟨7, 2, 0x020C, 4, 1, [F.GOOSE_S_ID_APPID, F.GOOSE_S_ID_VID]⟩

/-! GOOSE_S_CONFREV: offset 0x0210, reset by device reset. -/
def F.GOOSE_S_CONFREV_CONFREV : Fld := ⟨7, 2, 0x0210, 4, 0, 32, .rw, 0x1⟩
def R.GOOSE_S_CONFREV : RegDesc := ⟨7, 2, 0x0210, 4, 1, [F.GOOSE_S_CONFREV_CONFREV]⟩

/-! GOOSE_S_HOLD: offset 0x0214, reset by device reset. -/
def F.GOOSE_S_HOLD_HOLD : Fld := ⟨7, 2, 0x0214, 4, 0, 10, .rw, 0x5⟩
def R.GOOSE_S_HOLD : RegDesc := ⟨7, 2, 0x0214, 4, 1, [F.GOOSE_S_HOLD_HOLD]⟩

/-! GOOSE_S_KEY: offset 0x0218, reset by device reset. -/
def F.GOOSE_S_KEY_NEXT_EN : Fld := ⟨7, 2, 0x0218, 4, 19, 1, .rw, 0x0⟩
def F.GOOSE_S_KEY_MAC_ALG : Fld := ⟨7, 2, 0x0218, 4, 16, 3, .rw, 0x0⟩
def F.GOOSE_S_KEY_KEY_NEXT : Fld := ⟨7, 2, 0x0218, 4, 8, 8, .rw, 0x0⟩
def F.GOOSE_S_KEY_KEY_CUR : Fld := ⟨7, 2, 0x0218, 4, 0, 8, .rw, 0x0⟩
def R.GOOSE_S_KEY : RegDesc := ⟨7, 2, 0x0218, 4, 1, [F.GOOSE_S_KEY_NEXT_EN, F.GOOSE_S_KEY_MAC_ALG, F.GOOSE_S_KEY_KEY_NEXT, F.GOOSE_S_KEY_KEY_CUR]⟩

/-! GOOSE_S_SUBST: offset 0x021C, reset by device reset. -/
def F.GOOSE_S_SUBST_SUBST : Fld := ⟨7, 2, 0x021C, 4, 0, 32, .rw, 0x0⟩
def R.GOOSE_S_SUBST : RegDesc := ⟨7, 2, 0x021C, 4, 1, [F.GOOSE_S_SUBST_SUBST]⟩

/-! GOOSE_S_STAT: offset 0x0220, reset by device reset. -/
def F.GOOSE_S_STAT_SIM_LATCH : Fld := ⟨7, 2, 0x0220, 4, 4, 1, .ro, 0x0⟩
def F.GOOSE_S_STAT_STATE : Fld := ⟨7, 2, 0x0220, 4, 0, 3, .ro, 0x0⟩
def R.GOOSE_S_STAT : RegDesc := ⟨7, 2, 0x0220, 4, 1, [F.GOOSE_S_STAT_SIM_LATCH, F.GOOSE_S_STAT_STATE]⟩

/-! GOOSE_S_FLT: offset 0x0224, reset by device reset. -/
def F.GOOSE_S_FLT_CNT_OVF : Fld := ⟨7, 2, 0x0224, 4, 5, 1, .w1c, 0x0⟩
def F.GOOSE_S_FLT_REPLAY : Fld := ⟨7, 2, 0x0224, 4, 4, 1, .w1c, 0x0⟩
def F.GOOSE_S_FLT_AUTH_FAIL : Fld := ⟨7, 2, 0x0224, 4, 3, 1, .w1c, 0x0⟩
def F.GOOSE_S_FLT_MISMATCH : Fld := ⟨7, 2, 0x0224, 4, 2, 1, .w1c, 0x0⟩
def F.GOOSE_S_FLT_STALE : Fld := ⟨7, 2, 0x0224, 4, 1, 1, .w1c, 0x0⟩
def F.GOOSE_S_FLT_CFG_REFUSED : Fld := ⟨7, 2, 0x0224, 4, 0, 1, .w1c, 0x0⟩
def R.GOOSE_S_FLT : RegDesc := ⟨7, 2, 0x0224, 4, 1, [F.GOOSE_S_FLT_CNT_OVF, F.GOOSE_S_FLT_REPLAY, F.GOOSE_S_FLT_AUTH_FAIL, F.GOOSE_S_FLT_MISMATCH, F.GOOSE_S_FLT_STALE, F.GOOSE_S_FLT_CFG_REFUSED]⟩

/-! GOOSE_S_GOCB: offset 0x0240, 16 registers 0x4 apart, reset by device reset. -/
def F.GOOSE_S_GOCB_GOCB : Fld := ⟨7, 2, 0x0240, 4, 0, 32, .rw, 0x0⟩
def R.GOOSE_S_GOCB : RegDesc := ⟨7, 2, 0x0240, 4, 16, [F.GOOSE_S_GOCB_GOCB]⟩

/-! GOOSE_S_XB: offset 0x0280, 32 registers 0x4 apart, reset by device reset. -/
def F.GOOSE_S_XB_EN : Fld := ⟨7, 2, 0x0280, 4, 31, 1, .rw, 0x0⟩
def F.GOOSE_S_XB_ENT : Fld := ⟨7, 2, 0x0280, 4, 24, 6, .rw, 0x0⟩
def F.GOOSE_S_XB_BIT : Fld := ⟨7, 2, 0x0280, 4, 16, 5, .rw, 0x0⟩
def F.GOOSE_S_XB_QENT_EN : Fld := ⟨7, 2, 0x0280, 4, 15, 1, .rw, 0x0⟩
def F.GOOSE_S_XB_QENT : Fld := ⟨7, 2, 0x0280, 4, 8, 6, .rw, 0x0⟩
def R.GOOSE_S_XB : RegDesc := ⟨7, 2, 0x0280, 4, 32, [F.GOOSE_S_XB_EN, F.GOOSE_S_XB_ENT, F.GOOSE_S_XB_BIT, F.GOOSE_S_XB_QENT_EN, F.GOOSE_S_XB_QENT]⟩

/-! GOOSE_S_XW: offset 0x0300, 3 registers 0x4 apart, reset by device reset. -/
def F.GOOSE_S_XW_EN : Fld := ⟨7, 2, 0x0300, 4, 31, 1, .rw, 0x0⟩
def F.GOOSE_S_XW_ENT : Fld := ⟨7, 2, 0x0300, 4, 24, 6, .rw, 0x0⟩
def R.GOOSE_S_XW : RegDesc := ⟨7, 2, 0x0300, 4, 3, [F.GOOSE_S_XW_EN, F.GOOSE_S_XW_ENT]⟩

/-! GOOSE_S_REC: offset 0x0310, 8 registers 0x4 apart, reset by device reset. -/
def F.GOOSE_S_REC_REC : Fld := ⟨7, 2, 0x0310, 4, 0, 32, .ro, 0x0⟩
def R.GOOSE_S_REC : RegDesc := ⟨7, 2, 0x0310, 4, 8, [F.GOOSE_S_REC_REC]⟩

/-- Every register of the GOOSE block. -/
def regsGOOSE : List RegDesc := [
  R.GOOSE_CTRL, R.GOOSE_STAT, R.GOOSE_FLT, R.GOOSE_IEN, R.GOOSE_CMD, R.GOOSE_CNTOVF,
  R.GOOSE_SEL, R.GOOSE_B_CTL, R.GOOSE_B_DA_HI, R.GOOSE_B_DA_LO, R.GOOSE_B_ID, R.GOOSE_B_CONFREV,
  R.GOOSE_B_SCHED, R.GOOSE_B_TAL, R.GOOSE_B_TEST, R.GOOSE_B_KEY, R.GOOSE_B_LEN, R.GOOSE_B_STNUM,
  R.GOOSE_B_SQNUM, R.GOOSE_B_FLT, R.GOOSE_B_STR, R.GOOSE_B_ENT, R.GOOSE_S_CTL, R.GOOSE_S_DA_HI,
  R.GOOSE_S_DA_LO, R.GOOSE_S_ID, R.GOOSE_S_CONFREV, R.GOOSE_S_HOLD, R.GOOSE_S_KEY, R.GOOSE_S_SUBST,
  R.GOOSE_S_STAT, R.GOOSE_S_FLT, R.GOOSE_S_GOCB, R.GOOSE_S_XB, R.GOOSE_S_XW, R.GOOSE_S_REC]

def C.GOOSE_B_STATES : Ctr := ⟨7, 1, 0x0380, 0x0, F.GOOSE_B_FLT_CNT_OVF, .instance_, none⟩
def C.GOOSE_B_FRAMES_TX : Ctr := ⟨7, 1, 0x0388, 0x0, F.GOOSE_B_FLT_CNT_OVF, .instance_, none⟩
def C.GOOSE_B_TX_DROP : Ctr := ⟨7, 1, 0x0390, 0x0, F.GOOSE_B_FLT_CNT_OVF, .instance_, none⟩
def C.GOOSE_B_TX_NOKEY : Ctr := ⟨7, 1, 0x0398, 0x0, F.GOOSE_B_FLT_CNT_OVF, .instance_, none⟩
def C.GOOSE_FRAMES_TX : Ctr := ⟨7, 0, 0x0400, 0x0, F.GOOSE_CNTOVF_DEV_OVF, .device, none⟩
def C.GOOSE_FRAMES_RX : Ctr := ⟨7, 0, 0x0408, 0x0, F.GOOSE_CNTOVF_DEV_OVF, .device, none⟩
def C.GOOSE_UNMATCHED : Ctr := ⟨7, 0, 0x0410, 0x0, F.GOOSE_CNTOVF_DEV_OVF, .device, none⟩
def C.GOOSE_DISABLED_DROP : Ctr := ⟨7, 0, 0x0418, 0x0, F.GOOSE_CNTOVF_DEV_OVF, .device, none⟩
def C.GOOSE_B_TAKEOVERS : Ctr := ⟨7, 0, 0x0800, 0x8, F.GOOSE_B_FLT_CNT_OVF, .instance_, none⟩
def C.GOOSE_S_FRAMES : Ctr := ⟨7, 2, 0x0340, 0x0, F.GOOSE_S_FLT_CNT_OVF, .instance_, none⟩
def C.GOOSE_S_NEW_STATES : Ctr := ⟨7, 2, 0x0348, 0x0, F.GOOSE_S_FLT_CNT_OVF, .instance_, none⟩
def C.GOOSE_S_RETRANS : Ctr := ⟨7, 2, 0x0350, 0x0, F.GOOSE_S_FLT_CNT_OVF, .instance_, none⟩
def C.GOOSE_S_DUP : Ctr := ⟨7, 2, 0x0358, 0x0, F.GOOSE_S_FLT_CNT_OVF, .instance_, none⟩
def C.GOOSE_S_STALES : Ctr := ⟨7, 2, 0x0360, 0x0, F.GOOSE_S_FLT_CNT_OVF, .instance_, none⟩
def C.GOOSE_S_CONFREV : Ctr := ⟨7, 2, 0x0368, 0x0, F.GOOSE_S_FLT_CNT_OVF, .instance_, none⟩
def C.GOOSE_S_FMT_ERR : Ctr := ⟨7, 2, 0x0370, 0x0, F.GOOSE_S_FLT_CNT_OVF, .instance_, none⟩
def C.GOOSE_S_AUTH_FAIL : Ctr := ⟨7, 2, 0x0378, 0x0, F.GOOSE_S_FLT_CNT_OVF, .instance_, none⟩
def C.GOOSE_S_AUTH_MONITOR : Ctr := ⟨7, 2, 0x0380, 0x0, F.GOOSE_S_FLT_CNT_OVF, .instance_, none⟩
def C.GOOSE_S_SIM_DISCARD : Ctr := ⟨7, 2, 0x0388, 0x0, F.GOOSE_S_FLT_CNT_OVF, .instance_, none⟩
def C.GOOSE_S_REPLAY : Ctr := ⟨7, 2, 0x0390, 0x0, F.GOOSE_S_FLT_CNT_OVF, .instance_, none⟩
def C.GOOSE_S_INCONSISTENT : Ctr := ⟨7, 2, 0x0398, 0x0, F.GOOSE_S_FLT_CNT_OVF, .instance_, none⟩

end Sys2Proof.Machine
end

