-- ==== Sys2Proof/Machine/Octets.lean ====
section
/-! DEFINITION. The octets of a frame as it stands on a line. -/

namespace Sys2Proof.Machine

/-- A list of octets cut or filled with zeros to a length. -/
def fitOctets (n : Nat) (l : List Nat) : List Nat := (l.map (· % 256) ++ List.replicate n 0).take n

/-- The octets of a frame's payload. -/
def payloadOf : Payload → List Nat
  | .raw l => l
  | p => Config.payloadOctets p

/-- The octets of a PRP trailer (R401). -/
def prpOctets (t : PrpTrailer) : List Nat := octetsBE 2 t.seq ++ octetsBE 2 (t.lan * 2 ^ 12 + t.size) ++ octetsBE 2 0x88FB

/-- The octets of a frame's header up to and with its EtherType. -/
def headOctets (f : Frame) : List Nat :=
  let tag := match f.tag with
    | some t => octetsBE 2 0x8100 ++ octetsBE 2 (t.pcp * 2 ^ 13 + ofBit t.dei * 2 ^ 12 + t.vid)
    | none => []
  let hsr := match f.hsr with
    | some t => octetsBE 2 0x892F ++ octetsBE 2 (t.path * 2 ^ 12 + t.size) ++ octetsBE 2 t.seq
    | none => []
  octetsBE 6 f.dst ++ octetsBE 6 f.src ++ tag ++ hsr ++ octetsBE 2 f.etype

/-- The octets of a frame without its FCS. -/
def frameOctets (f : Frame) : List Nat :=
  let head := headOctets f
  let tail := f.prp.flatMap prpOctets
  head ++ fitOctets (f.len - 4 - head.length - tail.length) (payloadOf f.payload) ++ tail

/-- The FCS of octets, as a line carries it: the CRC-32 of IEEE 802.3, its least significant octet first. -/
def fcsOctets (l : List Nat) : List Nat := octetsLE 4 (crc32 l)

/-- A frame whose HSR tag stands for payload: what a port that recognises no HSR tag makes of it (R379). -/
def hsrAsPayload (f : Frame) : Frame :=
  match f.hsr with
  | some t =>
    { f with hsr := none, etype := 0x892F
             payload := .raw (octetsBE 2 (t.path * 2 ^ 12 + t.size) ++ octetsBE 2 t.seq ++ octetsBE 2 f.etype ++ payloadOf f.payload) }
  | none => f

/-- The first `n` octets of a frame that is longer (R366): what is left of its payload, of its trailer and of its FCS `fcs` is payload. The length then counts no
FCS. -/
def cutFrame (f : Frame) (fcs : List Nat) (n : Nat) : Frame :=
  { f with payload := .raw (((frameOctets f ++ fcs).take n).drop (headOctets f).length), prp := [], len := n }

end Sys2Proof.Machine
end

