-- ==== Sys2Proof/Machine/RegsPort.lean ====
section
/-! DEFINITION. The PORT register block (block 12) as the register tables of spec/12_ports_and_mac.md give it: every field with its
bits, access and reset value (F), every register (R), and the statistics counters of its banks (C). -/

namespace Sys2Proof.Machine

/-! PORT_CTRL: offset 0x0000, reset by device reset. -/
def F.PORT_CTRL_LOCK : Fld := ⟨12, 0, 0x0000, 4, 31, 1, .wl, 0x0⟩
def R.PORT_CTRL : RegDesc := ⟨12, 0, 0x0000, 4, 1, [F.PORT_CTRL_LOCK]⟩

/-! PORT_STAT: offset 0x0004, reset by device reset. -/
def F.PORT_STAT_MODABS : Fld := ⟨12, 0, 0x0004, 4, 16, 8, .ro, 0xFF⟩
def F.PORT_STAT_LINK_UP : Fld := ⟨12, 0, 0x0004, 4, 0, 8, .ro, 0x0⟩
def R.PORT_STAT : RegDesc := ⟨12, 0, 0x0004, 4, 1, [F.PORT_STAT_MODABS, F.PORT_STAT_LINK_UP]⟩

/-! PORT_FLT: offset 0x0008, reset by device reset. -/
def F.PORT_FLT_I2C_ERR : Fld := ⟨12, 0, 0x0008, 4, 8, 1, .w1c, 0x0⟩
def F.PORT_FLT_BAD_RX : Fld := ⟨12, 0, 0x0008, 4, 7, 1, .w1c, 0x0⟩
def F.PORT_FLT_AN_FAIL : Fld := ⟨12, 0, 0x0008, 4, 6, 1, .w1c, 0x0⟩
def F.PORT_FLT_TX_UNDERRUN : Fld := ⟨12, 0, 0x0008, 4, 5, 1, .w1c, 0x0⟩
def F.PORT_FLT_MOD_CHANGE : Fld := ⟨12, 0, 0x0008, 4, 4, 1, .w1c, 0x0⟩
def F.PORT_FLT_FLAP : Fld := ⟨12, 0, 0x0008, 4, 3, 1, .w1c, 0x0⟩
def F.PORT_FLT_LINK_UP : Fld := ⟨12, 0, 0x0008, 4, 2, 1, .w1c, 0x0⟩
def F.PORT_FLT_LINK_DOWN : Fld := ⟨12, 0, 0x0008, 4, 1, 1, .w1c, 0x0⟩
def F.PORT_FLT_CFG_ERR : Fld := ⟨12, 0, 0x0008, 4, 0, 1, .w1c, 0x0⟩
def R.PORT_FLT : RegDesc := ⟨12, 0, 0x0008, 4, 1, [F.PORT_FLT_I2C_ERR, F.PORT_FLT_BAD_RX, F.PORT_FLT_AN_FAIL, F.PORT_FLT_TX_UNDERRUN, F.PORT_FLT_MOD_CHANGE, F.PORT_FLT_FLAP, F.PORT_FLT_LINK_UP, F.PORT_FLT_LINK_DOWN, F.PORT_FLT_CFG_ERR]⟩

/-! PORT_IEN: offset 0x000C, reset by device reset. -/
def F.PORT_IEN_IEN : Fld := ⟨12, 0, 0x000C, 4, 0, 9, .rw, 0x0⟩
def R.PORT_IEN : RegDesc := ⟨12, 0, 0x000C, 4, 1, [F.PORT_IEN_IEN]⟩

/-! PORT_I2C_CMD: offset 0x0020, 2 registers 0x10 apart, reset by device reset. -/
def F.PORT_I2C_CMD_GO : Fld := ⟨12, 0, 0x0020, 16, 31, 1, .wo, 0x0⟩
def F.PORT_I2C_CMD_WR : Fld := ⟨12, 0, 0x0020, 16, 30, 1, .rw, 0x0⟩
def F.PORT_I2C_CMD_FAST : Fld := ⟨12, 0, 0x0020, 16, 29, 1, .rw, 0x0⟩
def F.PORT_I2C_CMD_DEV : Fld := ⟨12, 0, 0x0020, 16, 28, 1, .rw, 0x0⟩
def F.PORT_I2C_CMD_PORT : Fld := ⟨12, 0, 0x0020, 16, 24, 2, .rw, 0x0⟩
def F.PORT_I2C_CMD_LEN : Fld := ⟨12, 0, 0x0020, 16, 16, 3, .rw, 0x0⟩
def F.PORT_I2C_CMD_OFFSET : Fld := ⟨12, 0, 0x0020, 16, 0, 8, .rw, 0x0⟩
def R.PORT_I2C_CMD : RegDesc := ⟨12, 0, 0x0020, 16, 2, [F.PORT_I2C_CMD_GO, F.PORT_I2C_CMD_WR, F.PORT_I2C_CMD_FAST, F.PORT_I2C_CMD_DEV, F.PORT_I2C_CMD_PORT, F.PORT_I2C_CMD_LEN, F.PORT_I2C_CMD_OFFSET]⟩

/-! PORT_I2C_STAT: offset 0x0024, 2 registers 0x10 apart, reset by device reset. -/
def F.PORT_I2C_STAT_BUSY : Fld := ⟨12, 0, 0x0024, 16, 2, 1, .ro, 0x0⟩
def F.PORT_I2C_STAT_DONE : Fld := ⟨12, 0, 0x0024, 16, 1, 1, .ro, 0x0⟩
def F.PORT_I2C_STAT_ERR : Fld := ⟨12, 0, 0x0024, 16, 0, 1, .ro, 0x0⟩
def R.PORT_I2C_STAT : RegDesc := ⟨12, 0, 0x0024, 16, 2, [F.PORT_I2C_STAT_BUSY, F.PORT_I2C_STAT_DONE, F.PORT_I2C_STAT_ERR]⟩

/-! PORT_I2C_D0: offset 0x0028, 2 registers 0x10 apart, reset by device reset. -/
def F.PORT_I2C_D0_VAL : Fld := ⟨12, 0, 0x0028, 16, 0, 32, .rw, 0x0⟩
def R.PORT_I2C_D0 : RegDesc := ⟨12, 0, 0x0028, 16, 2, [F.PORT_I2C_D0_VAL]⟩

/-! PORT_I2C_D1: offset 0x002C, 2 registers 0x10 apart, reset by device reset. -/
def F.PORT_I2C_D1_VAL : Fld := ⟨12, 0, 0x002C, 16, 0, 32, .rw, 0x0⟩
def R.PORT_I2C_D1 : RegDesc := ⟨12, 0, 0x002C, 16, 2, [F.PORT_I2C_D1_VAL]⟩

/-! PORT_WAKE_CFG: offset 0x0040, reset by device reset. -/
def F.PORT_WAKE_CFG_WAKE_EN : Fld := ⟨12, 0, 0x0040, 4, 31, 1, .rw, 0x1⟩
def F.PORT_WAKE_CFG_RATE : Fld := ⟨12, 0, 0x0040, 4, 0, 2, .rw, 0x1⟩
def R.PORT_WAKE_CFG : RegDesc := ⟨12, 0, 0x0040, 4, 1, [F.PORT_WAKE_CFG_WAKE_EN, F.PORT_WAKE_CFG_RATE]⟩

/-! PORT_CNTOVF: offset 0x0048, reset by device reset. -/
def F.PORT_CNTOVF_PORT_OVF : Fld := ⟨12, 0, 0x0048, 4, 1, 8, .w1c, 0x0⟩
def F.PORT_CNTOVF_DEV_OVF : Fld := ⟨12, 0, 0x0048, 4, 0, 1, .w1c, 0x0⟩
def R.PORT_CNTOVF : RegDesc := ⟨12, 0, 0x0048, 4, 1, [F.PORT_CNTOVF_PORT_OVF, F.PORT_CNTOVF_DEV_OVF]⟩

/-! PORT_WAKE_DA_HI: offset 0x0050, reset by device reset. -/
def F.PORT_WAKE_DA_HI_DA : Fld := ⟨12, 0, 0x0050, 4, 0, 16, .rw, 0xFFFF⟩
def R.PORT_WAKE_DA_HI : RegDesc := ⟨12, 0, 0x0050, 4, 1, [F.PORT_WAKE_DA_HI_DA]⟩

/-! PORT_WAKE_DA_LO: offset 0x0054, reset by device reset. -/
def F.PORT_WAKE_DA_LO_DA : Fld := ⟨12, 0, 0x0054, 4, 0, 32, .rw, 0xFFFFFFFF⟩
def R.PORT_WAKE_DA_LO : RegDesc := ⟨12, 0, 0x0054, 4, 1, [F.PORT_WAKE_DA_LO_DA]⟩

/-! PORT_SEL: offset 0x0100, reset by device reset. -/
def F.PORT_SEL_INDEX : Fld := ⟨12, 0, 0x0100, 4, 0, 3, .rw, 0x0⟩
def R.PORT_SEL : RegDesc := ⟨12, 0, 0x0100, 4, 1, [F.PORT_SEL_INDEX]⟩

/-! PORT_P_CTL: offset 0x0200, reset by device reset. -/
def F.PORT_P_CTL_EN : Fld := ⟨12, 1, 0x0200, 4, 31, 1, .rw, 0x0⟩
def F.PORT_P_CTL_MODE : Fld := ⟨12, 1, 0x0200, 4, 28, 3, .rw, 0x0⟩
def F.PORT_P_CTL_FEC : Fld := ⟨12, 1, 0x0200, 4, 26, 2, .rw, 0x0⟩
def F.PORT_P_CTL_AN_EN : Fld := ⟨12, 1, 0x0200, 4, 25, 1, .rw, 0x1⟩
def F.PORT_P_CTL_SPEED : Fld := ⟨12, 1, 0x0200, 4, 23, 2, .rw, 0x2⟩
def F.PORT_P_CTL_DELIVER_BAD : Fld := ⟨12, 1, 0x0200, 4, 22, 1, .rw, 0x0⟩
def F.PORT_P_CTL_LOS_EN : Fld := ⟨12, 1, 0x0200, 4, 21, 1, .rw, 0x1⟩
def F.PORT_P_CTL_TX_EN : Fld := ⟨12, 1, 0x0200, 4, 20, 1, .rw, 0x1⟩
def F.PORT_P_CTL_MAX_LEN : Fld := ⟨12, 1, 0x0200, 4, 0, 14, .rw, 0x600⟩
def R.PORT_P_CTL : RegDesc := ⟨12, 1, 0x0200, 4, 1, [F.PORT_P_CTL_EN, F.PORT_P_CTL_MODE, F.PORT_P_CTL_FEC, F.PORT_P_CTL_AN_EN, F.PORT_P_CTL_SPEED, F.PORT_P_CTL_DELIVER_BAD, F.PORT_P_CTL_LOS_EN, F.PORT_P_CTL_TX_EN, F.PORT_P_CTL_MAX_LEN]⟩

/-! PORT_P_SA_HI: offset 0x0204, reset by device reset. -/
def F.PORT_P_SA_HI_SA : Fld := ⟨12, 1, 0x0204, 4, 0, 16, .rw, 0x0⟩
def R.PORT_P_SA_HI : RegDesc := ⟨12, 1, 0x0204, 4, 1, [F.PORT_P_SA_HI_SA]⟩

/-! PORT_P_SA_LO: offset 0x0208, reset by device reset. -/
def F.PORT_P_SA_LO_SA : Fld := ⟨12, 1, 0x0208, 4, 0, 32, .rw, 0x0⟩
def R.PORT_P_SA_LO : RegDesc := ⟨12, 1, 0x0208, 4, 1, [F.PORT_P_SA_LO_SA]⟩

/-! PORT_P_LINK: offset 0x020C, reset by device reset. -/
def F.PORT_P_LINK_UP_HOLD : Fld := ⟨12, 1, 0x020C, 4, 16, 10, .rw, 0xA⟩
def F.PORT_P_LINK_DOWN_HOLD : Fld := ⟨12, 1, 0x020C, 4, 0, 10, .rw, 0xA⟩
def R.PORT_P_LINK : RegDesc := ⟨12, 1, 0x020C, 4, 1, [F.PORT_P_LINK_UP_HOLD, F.PORT_P_LINK_DOWN_HOLD]⟩

/-! PORT_P_TXTHR: offset 0x0210, reset by device reset. -/
def F.PORT_P_TXTHR_STEP : Fld := ⟨12, 1, 0x0210, 4, 8, 8, .rw, 0x4⟩
def F.PORT_P_TXTHR_TX_THR : Fld := ⟨12, 1, 0x0210, 4, 0, 8, .rw, 0x4⟩
def R.PORT_P_TXTHR : RegDesc := ⟨12, 1, 0x0210, 4, 1, [F.PORT_P_TXTHR_STEP, F.PORT_P_TXTHR_TX_THR]⟩

/-! PORT_P_EQ_TX: offset 0x0214, reset by device reset. -/
def F.PORT_P_EQ_TX_POST : Fld := ⟨12, 1, 0x0214, 4, 16, 5, .rw, 0x8⟩
def F.PORT_P_EQ_TX_MAIN : Fld := ⟨12, 1, 0x0214, 4, 8, 6, .rw, 0x34⟩
def F.PORT_P_EQ_TX_PRE : Fld := ⟨12, 1, 0x0214, 4, 0, 5, .rw, 0x4⟩
def R.PORT_P_EQ_TX : RegDesc := ⟨12, 1, 0x0214, 4, 1, [F.PORT_P_EQ_TX_POST, F.PORT_P_EQ_TX_MAIN, F.PORT_P_EQ_TX_PRE]⟩

/-! PORT_P_EQ_RX: offset 0x0218, reset by device reset. -/
def F.PORT_P_EQ_RX_ADAPT : Fld := ⟨12, 1, 0x0218, 4, 31, 1, .rw, 0x1⟩
def F.PORT_P_EQ_RX_CTLE_CUR : Fld := ⟨12, 1, 0x0218, 4, 24, 4, .ro, 0x0⟩
def F.PORT_P_EQ_RX_CTLE : Fld := ⟨12, 1, 0x0218, 4, 16, 4, .rw, 0x8⟩
def F.PORT_P_EQ_RX_DFE_EN : Fld := ⟨12, 1, 0x0218, 4, 8, 1, .rw, 0x1⟩
def R.PORT_P_EQ_RX : RegDesc := ⟨12, 1, 0x0218, 4, 1, [F.PORT_P_EQ_RX_ADAPT, F.PORT_P_EQ_RX_CTLE_CUR, F.PORT_P_EQ_RX_CTLE, F.PORT_P_EQ_RX_DFE_EN]⟩

/-! PORT_P_AN: offset 0x021C, reset by device reset. -/
def F.PORT_P_AN_LP_ABILITY : Fld := ⟨12, 1, 0x021C, 4, 16, 16, .ro, 0x0⟩
def F.PORT_P_AN_AN_DONE : Fld := ⟨12, 1, 0x021C, 4, 15, 1, .ro, 0x0⟩
def R.PORT_P_AN : RegDesc := ⟨12, 1, 0x021C, 4, 1, [F.PORT_P_AN_LP_ABILITY, F.PORT_P_AN_AN_DONE]⟩

/-! PORT_P_STAT: offset 0x0220, reset by device reset. -/
def F.PORT_P_STAT_TX_THR_CUR : Fld := ⟨12, 1, 0x0220, 4, 24, 8, .ro, 0x4⟩
def F.PORT_P_STAT_LINK : Fld := ⟨12, 1, 0x0220, 4, 20, 3, .ro, 0x0⟩
def F.PORT_P_STAT_SPEED_RES : Fld := ⟨12, 1, 0x0220, 4, 18, 2, .ro, 0x0⟩
def F.PORT_P_STAT_FLUSH_PEND : Fld := ⟨12, 1, 0x0220, 4, 17, 1, .ro, 0x0⟩
def F.PORT_P_STAT_MODABS : Fld := ⟨12, 1, 0x0220, 4, 7, 1, .ro, 0x1⟩
def F.PORT_P_STAT_LOS : Fld := ⟨12, 1, 0x0220, 4, 6, 1, .ro, 0x0⟩
def F.PORT_P_STAT_HI_BER : Fld := ⟨12, 1, 0x0220, 4, 5, 1, .ro, 0x0⟩
def F.PORT_P_STAT_FEC_LOCK : Fld := ⟨12, 1, 0x0220, 4, 4, 1, .ro, 0x0⟩
def F.PORT_P_STAT_PCS_LOCK : Fld := ⟨12, 1, 0x0220, 4, 3, 1, .ro, 0x0⟩
def R.PORT_P_STAT : RegDesc := ⟨12, 1, 0x0220, 4, 1, [F.PORT_P_STAT_TX_THR_CUR, F.PORT_P_STAT_LINK, F.PORT_P_STAT_SPEED_RES, F.PORT_P_STAT_FLUSH_PEND, F.PORT_P_STAT_MODABS, F.PORT_P_STAT_LOS, F.PORT_P_STAT_HI_BER, F.PORT_P_STAT_FEC_LOCK, F.PORT_P_STAT_PCS_LOCK]⟩

/-! PORT_P_FLT: offset 0x0224, reset by device reset. -/
def F.PORT_P_FLT_CNT_OVF : Fld := ⟨12, 1, 0x0224, 4, 8, 1, .w1c, 0x0⟩
def F.PORT_P_FLT_BAD_RX : Fld := ⟨12, 1, 0x0224, 4, 7, 1, .w1c, 0x0⟩
def F.PORT_P_FLT_AN_FAIL : Fld := ⟨12, 1, 0x0224, 4, 6, 1, .w1c, 0x0⟩
def F.PORT_P_FLT_TX_UNDERRUN : Fld := ⟨12, 1, 0x0224, 4, 5, 1, .w1c, 0x0⟩
def F.PORT_P_FLT_MOD_CHANGE : Fld := ⟨12, 1, 0x0224, 4, 4, 1, .w1c, 0x0⟩
def F.PORT_P_FLT_FLAP : Fld := ⟨12, 1, 0x0224, 4, 3, 1, .w1c, 0x0⟩
def F.PORT_P_FLT_LINK_UP : Fld := ⟨12, 1, 0x0224, 4, 2, 1, .w1c, 0x0⟩
def F.PORT_P_FLT_LINK_DOWN : Fld := ⟨12, 1, 0x0224, 4, 1, 1, .w1c, 0x0⟩
def F.PORT_P_FLT_CFG_REFUSED : Fld := ⟨12, 1, 0x0224, 4, 0, 1, .w1c, 0x0⟩
def R.PORT_P_FLT : RegDesc := ⟨12, 1, 0x0224, 4, 1, [F.PORT_P_FLT_CNT_OVF, F.PORT_P_FLT_BAD_RX, F.PORT_P_FLT_AN_FAIL, F.PORT_P_FLT_TX_UNDERRUN, F.PORT_P_FLT_MOD_CHANGE, F.PORT_P_FLT_FLAP, F.PORT_P_FLT_LINK_UP, F.PORT_P_FLT_LINK_DOWN, F.PORT_P_FLT_CFG_REFUSED]⟩

/-! PORT_P_TEST: offset 0x0228, reset by device reset. -/
def F.PORT_P_TEST_PRBS_CHK : Fld := ⟨12, 1, 0x0228, 4, 5, 1, .rw, 0x0⟩
def F.PORT_P_TEST_PRBS_GEN : Fld := ⟨12, 1, 0x0228, 4, 4, 1, .rw, 0x0⟩
def F.PORT_P_TEST_LOOP : Fld := ⟨12, 1, 0x0228, 4, 0, 2, .rw, 0x0⟩
def R.PORT_P_TEST : RegDesc := ⟨12, 1, 0x0228, 4, 1, [F.PORT_P_TEST_PRBS_CHK, F.PORT_P_TEST_PRBS_GEN, F.PORT_P_TEST_LOOP]⟩

/-! PORT_P_PRBS_ERR: offset 0x022C, reset by device reset. -/
def F.PORT_P_PRBS_ERR_ERRORS : Fld := ⟨12, 1, 0x022C, 4, 0, 32, .ro, 0x0⟩
def R.PORT_P_PRBS_ERR : RegDesc := ⟨12, 1, 0x022C, 4, 1, [F.PORT_P_PRBS_ERR_ERRORS]⟩

/-- Every register of the PORT block. -/
def regsPORT : List RegDesc := [
  R.PORT_CTRL, R.PORT_STAT, R.PORT_FLT, R.PORT_IEN, R.PORT_I2C_CMD, R.PORT_I2C_STAT,
  R.PORT_I2C_D0, R.PORT_I2C_D1, R.PORT_WAKE_CFG, R.PORT_CNTOVF, R.PORT_WAKE_DA_HI, R.PORT_WAKE_DA_LO,
  R.PORT_SEL, R.PORT_P_CTL, R.PORT_P_SA_HI, R.PORT_P_SA_LO, R.PORT_P_LINK, R.PORT_P_TXTHR,
  R.PORT_P_EQ_TX, R.PORT_P_EQ_RX, R.PORT_P_AN, R.PORT_P_STAT, R.PORT_P_FLT, R.PORT_P_TEST,
  R.PORT_P_PRBS_ERR]

def C.PORT_I2C_XFERS : Ctr := ⟨12, 0, 0x0400, 0x0, F.PORT_CNTOVF_DEV_OVF, .device, none⟩
def C.PORT_I2C_ERRS : Ctr := ⟨12, 0, 0x0408, 0x0, F.PORT_CNTOVF_DEV_OVF, .device, none⟩
def C.PORT_P_RX_FRAMES : Ctr := ⟨12, 0, 0x0800, 0x100, F.PORT_CNTOVF_PORT_OVF, .byIndex, some F.PORT_P_FLT_CNT_OVF⟩
def C.PORT_P_RX_OCTETS : Ctr := ⟨12, 0, 0x0808, 0x100, F.PORT_CNTOVF_PORT_OVF, .byIndex, some F.PORT_P_FLT_CNT_OVF⟩
def C.PORT_P_RX_FCS_ERR : Ctr := ⟨12, 0, 0x0810, 0x100, F.PORT_CNTOVF_PORT_OVF, .byIndex, some F.PORT_P_FLT_CNT_OVF⟩
def C.PORT_P_RX_CODE_ERR : Ctr := ⟨12, 0, 0x0818, 0x100, F.PORT_CNTOVF_PORT_OVF, .byIndex, some F.PORT_P_FLT_CNT_OVF⟩
def C.PORT_P_RX_RUNT : Ctr := ⟨12, 0, 0x0820, 0x100, F.PORT_CNTOVF_PORT_OVF, .byIndex, some F.PORT_P_FLT_CNT_OVF⟩
def C.PORT_P_RX_OVERSIZE : Ctr := ⟨12, 0, 0x0828, 0x100, F.PORT_CNTOVF_PORT_OVF, .byIndex, some F.PORT_P_FLT_CNT_OVF⟩
def C.PORT_P_RX_FRAGMENTS : Ctr := ⟨12, 0, 0x0830, 0x100, F.PORT_CNTOVF_PORT_OVF, .byIndex, some F.PORT_P_FLT_CNT_OVF⟩
def C.PORT_P_RX_LEN_MISMATCH : Ctr := ⟨12, 0, 0x0838, 0x100, F.PORT_CNTOVF_PORT_OVF, .byIndex, some F.PORT_P_FLT_CNT_OVF⟩
def C.PORT_P_RX_SHORT_PRE : Ctr := ⟨12, 0, 0x0840, 0x100, F.PORT_CNTOVF_PORT_OVF, .byIndex, some F.PORT_P_FLT_CNT_OVF⟩
def C.PORT_P_RX_PAUSE : Ctr := ⟨12, 0, 0x0848, 0x100, F.PORT_CNTOVF_PORT_OVF, .byIndex, some F.PORT_P_FLT_CNT_OVF⟩
def C.PORT_P_RX_BAD_DELIVERED : Ctr := ⟨12, 0, 0x0850, 0x100, F.PORT_CNTOVF_PORT_OVF, .byIndex, some F.PORT_P_FLT_CNT_OVF⟩
def C.PORT_P_RX_BAD_DROPPED : Ctr := ⟨12, 0, 0x0858, 0x100, F.PORT_CNTOVF_PORT_OVF, .byIndex, some F.PORT_P_FLT_CNT_OVF⟩
def C.PORT_P_WAKE_RX : Ctr := ⟨12, 0, 0x0860, 0x100, F.PORT_CNTOVF_PORT_OVF, .byIndex, some F.PORT_P_FLT_CNT_OVF⟩
def C.PORT_P_TX_FRAMES : Ctr := ⟨12, 0, 0x0868, 0x100, F.PORT_CNTOVF_PORT_OVF, .byIndex, some F.PORT_P_FLT_CNT_OVF⟩
def C.PORT_P_TX_OCTETS : Ctr := ⟨12, 0, 0x0870, 0x100, F.PORT_CNTOVF_PORT_OVF, .byIndex, some F.PORT_P_FLT_CNT_OVF⟩
def C.PORT_P_TX_UNDERRUN : Ctr := ⟨12, 0, 0x0878, 0x100, F.PORT_CNTOVF_PORT_OVF, .byIndex, some F.PORT_P_FLT_CNT_OVF⟩
def C.PORT_P_TX_FLUSHED : Ctr := ⟨12, 0, 0x0880, 0x100, F.PORT_CNTOVF_PORT_OVF, .byIndex, some F.PORT_P_FLT_CNT_OVF⟩
def C.PORT_P_TX_WAKE : Ctr := ⟨12, 0, 0x0888, 0x100, F.PORT_CNTOVF_PORT_OVF, .byIndex, some F.PORT_P_FLT_CNT_OVF⟩
def C.PORT_P_LINK_UPS : Ctr := ⟨12, 0, 0x0890, 0x100, F.PORT_CNTOVF_PORT_OVF, .byIndex, some F.PORT_P_FLT_CNT_OVF⟩
def C.PORT_P_LINK_DOWNS : Ctr := ⟨12, 0, 0x0898, 0x100, F.PORT_CNTOVF_PORT_OVF, .byIndex, some F.PORT_P_FLT_CNT_OVF⟩
def C.PORT_P_LINK_FLAPS : Ctr := ⟨12, 0, 0x08A0, 0x100, F.PORT_CNTOVF_PORT_OVF, .byIndex, some F.PORT_P_FLT_CNT_OVF⟩
def C.PORT_P_FEC_CORR_CW : Ctr := ⟨12, 0, 0x08A8, 0x100, F.PORT_CNTOVF_PORT_OVF, .byIndex, some F.PORT_P_FLT_CNT_OVF⟩
def C.PORT_P_FEC_UNCORR_CW : Ctr := ⟨12, 0, 0x08B0, 0x100, F.PORT_CNTOVF_PORT_OVF, .byIndex, some F.PORT_P_FLT_CNT_OVF⟩
def C.PORT_P_AN_FAILS : Ctr := ⟨12, 0, 0x08B8, 0x100, F.PORT_CNTOVF_PORT_OVF, .byIndex, some F.PORT_P_FLT_CNT_OVF⟩

end Sys2Proof.Machine
end

