-- ==== Sys2Proof/Machine/RegsSwc.lean ====
section
/-! DEFINITION. The SWC register block (block 13) as the register tables of spec/13_switch_and_redundancy.md give it: every field with its
bits, access and reset value (F), every register (R), and the statistics counters of its banks (C). -/

namespace Sys2Proof.Machine

/-! SWC_CTRL: offset 0x0000, reset by device reset. -/
def F.SWC_CTRL_LOCK : Fld := ⟨13, 0, 0x0000, 4, 31, 1, .wl, 0x0⟩
def F.SWC_CTRL_AGE_TIME : Fld := ⟨13, 0, 0x0000, 4, 4, 12, .rw, 0x12C⟩
def F.SWC_CTRL_EN : Fld := ⟨13, 0, 0x0000, 4, 0, 1, .rw, 0x0⟩
def R.SWC_CTRL : RegDesc := ⟨13, 0, 0x0000, 4, 1, [F.SWC_CTRL_LOCK, F.SWC_CTRL_AGE_TIME, F.SWC_CTRL_EN]⟩

/-! SWC_STAT: offset 0x0004, reset by device reset. -/
def F.SWC_STAT_FREE : Fld := ⟨13, 0, 0x0004, 4, 0, 17, .ro, 0xFD80⟩
def R.SWC_STAT : RegDesc := ⟨13, 0, 0x0004, 4, 1, [F.SWC_STAT_FREE]⟩

/-! SWC_FDB: offset 0x0014, reset by device reset. -/
def F.SWC_FDB_LEARNED : Fld := ⟨13, 0, 0x0014, 4, 16, 16, .ro, 0x0⟩
def F.SWC_FDB_STATIC : Fld := ⟨13, 0, 0x0014, 4, 0, 16, .ro, 0x0⟩
def R.SWC_FDB : RegDesc := ⟨13, 0, 0x0014, 4, 1, [F.SWC_FDB_LEARNED, F.SWC_FDB_STATIC]⟩

/-! SWC_FLT: offset 0x0008, reset by device reset. -/
def F.SWC_FLT_TX_REFUSED : Fld := ⟨13, 0, 0x0008, 4, 9, 1, .w1c, 0x0⟩
def F.SWC_FLT_RING_FULL : Fld := ⟨13, 0, 0x0008, 4, 8, 1, .w1c, 0x0⟩
def F.SWC_FLT_ECC_UE : Fld := ⟨13, 0, 0x0008, 4, 7, 1, .w1c, 0x0⟩
def F.SWC_FLT_ECC_CE : Fld := ⟨13, 0, 0x0008, 4, 6, 1, .w1c, 0x0⟩
def F.SWC_FLT_LEARN_FULL : Fld := ⟨13, 0, 0x0008, 4, 5, 1, .w1c, 0x0⟩
def F.SWC_FLT_DD_EVICT : Fld := ⟨13, 0, 0x0008, 4, 4, 1, .w1c, 0x0⟩
def F.SWC_FLT_FULL_DROP : Fld := ⟨13, 0, 0x0008, 4, 3, 1, .w1c, 0x0⟩
def F.SWC_FLT_DOWN_DROP : Fld := ⟨13, 0, 0x0008, 4, 2, 1, .w1c, 0x0⟩
def F.SWC_FLT_PARTIAL : Fld := ⟨13, 0, 0x0008, 4, 1, 1, .w1c, 0x0⟩
def F.SWC_FLT_CFG_ERR : Fld := ⟨13, 0, 0x0008, 4, 0, 1, .w1c, 0x0⟩
def R.SWC_FLT : RegDesc := ⟨13, 0, 0x0008, 4, 1, [F.SWC_FLT_TX_REFUSED, F.SWC_FLT_RING_FULL, F.SWC_FLT_ECC_UE, F.SWC_FLT_ECC_CE, F.SWC_FLT_LEARN_FULL, F.SWC_FLT_DD_EVICT, F.SWC_FLT_FULL_DROP, F.SWC_FLT_DOWN_DROP, F.SWC_FLT_PARTIAL, F.SWC_FLT_CFG_ERR]⟩

/-! SWC_IEN: offset 0x000C, reset by device reset. -/
def F.SWC_IEN_IEN : Fld := ⟨13, 0, 0x000C, 4, 0, 10, .rw, 0x0⟩
def R.SWC_IEN : RegDesc := ⟨13, 0, 0x000C, 4, 1, [F.SWC_IEN_IEN]⟩

/-! SWC_CMD: offset 0x0010, reset by device reset. -/
def F.SWC_CMD_CMD : Fld := ⟨13, 0, 0x0010, 4, 0, 4, .wo, 0x0⟩
def R.SWC_CMD : RegDesc := ⟨13, 0, 0x0010, 4, 1, [F.SWC_CMD_CMD]⟩

/-! SWC_MBX_CTL: offset 0x0030, reset by device reset. -/
def F.SWC_MBX_CTL_VALID : Fld := ⟨13, 0, 0x0030, 4, 31, 1, .ro, 0x0⟩
def F.SWC_MBX_CTL_BUSY : Fld := ⟨13, 0, 0x0030, 4, 30, 1, .ro, 0x0⟩
def F.SWC_MBX_CTL_ERR : Fld := ⟨13, 0, 0x0030, 4, 29, 1, .ro, 0x0⟩
def F.SWC_MBX_CTL_CMD : Fld := ⟨13, 0, 0x0030, 4, 0, 4, .wo, 0x0⟩
def R.SWC_MBX_CTL : RegDesc := ⟨13, 0, 0x0030, 4, 1, [F.SWC_MBX_CTL_VALID, F.SWC_MBX_CTL_BUSY, F.SWC_MBX_CTL_ERR, F.SWC_MBX_CTL_CMD]⟩

/-! SWC_MBX_D: offset 0x0034, 4 registers 0x4 apart, reset by device reset. -/
def F.SWC_MBX_D_VAL : Fld := ⟨13, 0, 0x0034, 4, 0, 32, .rw, 0x0⟩
def R.SWC_MBX_D : RegDesc := ⟨13, 0, 0x0034, 4, 4, [F.SWC_MBX_D_VAL]⟩

/-! SWC_CNTOVF: offset 0x0048, reset by device reset. -/
def F.SWC_CNTOVF_PART_OVF : Fld := ⟨13, 0, 0x0048, 4, 17, 1, .w1c, 0x0⟩
def F.SWC_CNTOVF_PAIR_OVF : Fld := ⟨13, 0, 0x0048, 4, 13, 4, .w1c, 0x0⟩
def F.SWC_CNTOVF_PORT_OVF : Fld := ⟨13, 0, 0x0048, 4, 1, 12, .w1c, 0x0⟩
def F.SWC_CNTOVF_DEV_OVF : Fld := ⟨13, 0, 0x0048, 4, 0, 1, .w1c, 0x0⟩
def R.SWC_CNTOVF : RegDesc := ⟨13, 0, 0x0048, 4, 1, [F.SWC_CNTOVF_PART_OVF, F.SWC_CNTOVF_PAIR_OVF, F.SWC_CNTOVF_PORT_OVF, F.SWC_CNTOVF_DEV_OVF]⟩

/-! SWC_SEL: offset 0x0100, reset by device reset. -/
def F.SWC_SEL_KIND : Fld := ⟨13, 0, 0x0100, 4, 8, 2, .rw, 0x0⟩
def F.SWC_SEL_INDEX : Fld := ⟨13, 0, 0x0100, 4, 0, 7, .rw, 0x0⟩
def R.SWC_SEL : RegDesc := ⟨13, 0, 0x0100, 4, 1, [F.SWC_SEL_KIND, F.SWC_SEL_INDEX]⟩

/-! SWC_P_CTL: offset 0x0200, reset by device reset. -/
def F.SWC_P_CTL_LEARN : Fld := ⟨13, 1, 0x0200, 4, 31, 1, .rw, 0x1⟩
def F.SWC_P_CTL_DEF_PCP : Fld := ⟨13, 1, 0x0200, 4, 24, 3, .rw, 0x0⟩
def F.SWC_P_CTL_PVID : Fld := ⟨13, 1, 0x0200, 4, 0, 12, .rw, 0x1⟩
def R.SWC_P_CTL : RegDesc := ⟨13, 1, 0x0200, 4, 1, [F.SWC_P_CTL_LEARN, F.SWC_P_CTL_DEF_PCP, F.SWC_P_CTL_PVID]⟩

/-! SWC_P_PCPMAP: offset 0x0204, reset by device reset. -/
def F.SWC_P_PCPMAP_MAP : Fld := ⟨13, 1, 0x0204, 4, 0, 24, .rw, 0xFAC688⟩
def R.SWC_P_PCPMAP : RegDesc := ⟨13, 1, 0x0204, 4, 1, [F.SWC_P_PCPMAP_MAP]⟩

/-! SWC_P_SCHED: offset 0x0208, reset by device reset. -/
def F.SWC_P_SCHED_STRICT_N : Fld := ⟨13, 1, 0x0208, 4, 0, 3, .rw, 0x2⟩
def R.SWC_P_SCHED : RegDesc := ⟨13, 1, 0x0208, 4, 1, [F.SWC_P_SCHED_STRICT_N]⟩

/-! SWC_P_WGT_0: offset 0x020C, reset by device reset. -/
def F.SWC_P_WGT_0_WEIGHT : Fld := ⟨13, 1, 0x020C, 4, 0, 32, .rw, 0x10101010⟩
def R.SWC_P_WGT_0 : RegDesc := ⟨13, 1, 0x020C, 4, 1, [F.SWC_P_WGT_0_WEIGHT]⟩

/-! SWC_P_WGT_1: offset 0x0210, reset by device reset. -/
def F.SWC_P_WGT_1_WEIGHT : Fld := ⟨13, 1, 0x0210, 4, 0, 24, .rw, 0x101010⟩
def R.SWC_P_WGT_1 : RegDesc := ⟨13, 1, 0x0210, 4, 1, [F.SWC_P_WGT_1_WEIGHT]⟩

/-! SWC_P_Q: offset 0x0220, 8 registers 0x4 apart, reset by device reset. -/
def F.SWC_P_Q_MAX : Fld := ⟨13, 1, 0x0220, 4, 16, 16, .rw, 0x2000⟩
def F.SWC_P_Q_MIN : Fld := ⟨13, 1, 0x0220, 4, 0, 16, .rw, 0x40⟩
def R.SWC_P_Q : RegDesc := ⟨13, 1, 0x0220, 4, 8, [F.SWC_P_Q_MAX, F.SWC_P_Q_MIN]⟩

/-! SWC_P_STAT: offset 0x0240, reset by device reset. -/
def F.SWC_P_STAT_ENQ_EN : Fld := ⟨13, 1, 0x0240, 4, 31, 1, .ro, 0x0⟩
def F.SWC_P_STAT_FLUSHING : Fld := ⟨13, 1, 0x0240, 4, 30, 1, .ro, 0x0⟩
def F.SWC_P_STAT_CELLS : Fld := ⟨13, 1, 0x0240, 4, 0, 17, .ro, 0x0⟩
def R.SWC_P_STAT : RegDesc := ⟨13, 1, 0x0240, 4, 1, [F.SWC_P_STAT_ENQ_EN, F.SWC_P_STAT_FLUSHING, F.SWC_P_STAT_CELLS]⟩

/-! SWC_P_FLT: offset 0x0244, reset by device reset. -/
def F.SWC_P_FLT_VLAN_DROP : Fld := ⟨13, 1, 0x0244, 4, 4, 1, .w1c, 0x0⟩
def F.SWC_P_FLT_FLUSH : Fld := ⟨13, 1, 0x0244, 4, 3, 1, .w1c, 0x0⟩
def F.SWC_P_FLT_FULL_DROP : Fld := ⟨13, 1, 0x0244, 4, 2, 1, .w1c, 0x0⟩
def F.SWC_P_FLT_DOWN_DROP : Fld := ⟨13, 1, 0x0244, 4, 1, 1, .w1c, 0x0⟩
def F.SWC_P_FLT_CNT_OVF : Fld := ⟨13, 1, 0x0244, 4, 0, 1, .w1c, 0x0⟩
def R.SWC_P_FLT : RegDesc := ⟨13, 1, 0x0244, 4, 1, [F.SWC_P_FLT_VLAN_DROP, F.SWC_P_FLT_FLUSH, F.SWC_P_FLT_FULL_DROP, F.SWC_P_FLT_DOWN_DROP, F.SWC_P_FLT_CNT_OVF]⟩

/-! SWC_R_CTL: offset 0x0200, reset by device reset. -/
def F.SWC_R_CTL_EN : Fld := ⟨13, 2, 0x0200, 4, 31, 1, .rw, 0x0⟩
def F.SWC_R_CTL_MODE : Fld := ⟨13, 2, 0x0200, 4, 26, 2, .rw, 0x0⟩
def F.SWC_R_CTL_FORGET : Fld := ⟨13, 2, 0x0200, 4, 0, 10, .rw, 0x190⟩
def R.SWC_R_CTL : RegDesc := ⟨13, 2, 0x0200, 4, 1, [F.SWC_R_CTL_EN, F.SWC_R_CTL_MODE, F.SWC_R_CTL_FORGET]⟩

/-! SWC_R_STAT: offset 0x0204, reset by device reset. -/
def F.SWC_R_STAT_SEQ : Fld := ⟨13, 2, 0x0204, 4, 16, 16, .ro, 0x0⟩
def F.SWC_R_STAT_DD_USED : Fld := ⟨13, 2, 0x0204, 4, 0, 14, .ro, 0x0⟩
def R.SWC_R_STAT : RegDesc := ⟨13, 2, 0x0204, 4, 1, [F.SWC_R_STAT_SEQ, F.SWC_R_STAT_DD_USED]⟩

/-! SWC_R_FLT: offset 0x0208, reset by device reset. -/
def F.SWC_R_FLT_CNT_OVF : Fld := ⟨13, 2, 0x0208, 4, 4, 1, .w1c, 0x0⟩
def F.SWC_R_FLT_NO_TAG : Fld := ⟨13, 2, 0x0208, 4, 3, 1, .w1c, 0x0⟩
def F.SWC_R_FLT_WRONG_LAN : Fld := ⟨13, 2, 0x0208, 4, 2, 1, .w1c, 0x0⟩
def F.SWC_R_FLT_DD_EVICT : Fld := ⟨13, 2, 0x0208, 4, 1, 1, .w1c, 0x0⟩
def F.SWC_R_FLT_CFG_REFUSED : Fld := ⟨13, 2, 0x0208, 4, 0, 1, .w1c, 0x0⟩
def R.SWC_R_FLT : RegDesc := ⟨13, 2, 0x0208, 4, 1, [F.SWC_R_FLT_CNT_OVF, F.SWC_R_FLT_NO_TAG, F.SWC_R_FLT_WRONG_LAN, F.SWC_R_FLT_DD_EVICT, F.SWC_R_FLT_CFG_REFUSED]⟩

/-! SWC_T_CTL: offset 0x0200, reset by device reset. -/
def F.SWC_T_CTL_RX_EN : Fld := ⟨13, 3, 0x0200, 4, 31, 1, .rw, 0x0⟩
def F.SWC_T_CTL_TX_EN : Fld := ⟨13, 3, 0x0200, 4, 30, 1, .rw, 0x0⟩
def F.SWC_T_CTL_RX_IEN : Fld := ⟨13, 3, 0x0200, 4, 29, 1, .rw, 0x0⟩
def F.SWC_T_CTL_TX_IEN : Fld := ⟨13, 3, 0x0200, 4, 28, 1, .rw, 0x0⟩
def F.SWC_T_CTL_MAX_CLASS : Fld := ⟨13, 3, 0x0200, 4, 24, 3, .rw, 0x5⟩
def F.SWC_T_CTL_QUOTA : Fld := ⟨13, 3, 0x0200, 4, 0, 17, .rw, 0x1000⟩
def R.SWC_T_CTL : RegDesc := ⟨13, 3, 0x0200, 4, 1, [F.SWC_T_CTL_RX_EN, F.SWC_T_CTL_TX_EN, F.SWC_T_CTL_RX_IEN, F.SWC_T_CTL_TX_IEN, F.SWC_T_CTL_MAX_CLASS, F.SWC_T_CTL_QUOTA]⟩

/-! SWC_T_RX_BASE_HI: offset 0x0204, reset by device reset. -/
def F.SWC_T_RX_BASE_HI_ADDR : Fld := ⟨13, 3, 0x0204, 4, 0, 4, .rw, 0x8⟩
def R.SWC_T_RX_BASE_HI : RegDesc := ⟨13, 3, 0x0204, 4, 1, [F.SWC_T_RX_BASE_HI_ADDR]⟩

/-! SWC_T_RX_BASE_LO: offset 0x0208, reset by device reset. -/
def F.SWC_T_RX_BASE_LO_ADDR : Fld := ⟨13, 3, 0x0208, 4, 5, 27, .rw, 0x0⟩
def R.SWC_T_RX_BASE_LO : RegDesc := ⟨13, 3, 0x0208, 4, 1, [F.SWC_T_RX_BASE_LO_ADDR]⟩

/-! SWC_T_TX_BASE_HI: offset 0x0210, reset by device reset. -/
def F.SWC_T_TX_BASE_HI_ADDR : Fld := ⟨13, 3, 0x0210, 4, 0, 4, .rw, 0x8⟩
def R.SWC_T_TX_BASE_HI : RegDesc := ⟨13, 3, 0x0210, 4, 1, [F.SWC_T_TX_BASE_HI_ADDR]⟩

/-! SWC_T_TX_BASE_LO: offset 0x0214, reset by device reset. -/
def F.SWC_T_TX_BASE_LO_ADDR : Fld := ⟨13, 3, 0x0214, 4, 5, 27, .rw, 0x0⟩
def R.SWC_T_TX_BASE_LO : RegDesc := ⟨13, 3, 0x0214, 4, 1, [F.SWC_T_TX_BASE_LO_ADDR]⟩

/-! SWC_T_RX_RING: offset 0x020C, reset by device reset. -/
def F.SWC_T_RX_RING_SIZE_LOG : Fld := ⟨13, 3, 0x020C, 4, 28, 4, .rw, 0x4⟩
def F.SWC_T_RX_RING_HEAD : Fld := ⟨13, 3, 0x020C, 4, 0, 12, .ro, 0x0⟩
def R.SWC_T_RX_RING : RegDesc := ⟨13, 3, 0x020C, 4, 1, [F.SWC_T_RX_RING_SIZE_LOG, F.SWC_T_RX_RING_HEAD]⟩

/-! SWC_T_TX_RING: offset 0x0218, reset by device reset. -/
def F.SWC_T_TX_RING_SIZE_LOG : Fld := ⟨13, 3, 0x0218, 4, 28, 4, .rw, 0x4⟩
def F.SWC_T_TX_RING_TAIL : Fld := ⟨13, 3, 0x0218, 4, 12, 12, .rw, 0x0⟩
def F.SWC_T_TX_RING_HEAD : Fld := ⟨13, 3, 0x0218, 4, 0, 12, .ro, 0x0⟩
def R.SWC_T_TX_RING : RegDesc := ⟨13, 3, 0x0218, 4, 1, [F.SWC_T_TX_RING_SIZE_LOG, F.SWC_T_TX_RING_TAIL, F.SWC_T_TX_RING_HEAD]⟩

/-! SWC_T_STAT: offset 0x021C, reset by device reset. -/
def F.SWC_T_STAT_CELLS : Fld := ⟨13, 3, 0x021C, 4, 0, 17, .ro, 0x0⟩
def R.SWC_T_STAT : RegDesc := ⟨13, 3, 0x021C, 4, 1, [F.SWC_T_STAT_CELLS]⟩

/-! SWC_T_FLT: offset 0x0220, reset by device reset. -/
def F.SWC_T_FLT_QUOTA : Fld := ⟨13, 3, 0x0220, 4, 3, 1, .w1c, 0x0⟩
def F.SWC_T_FLT_TX_REFUSED : Fld := ⟨13, 3, 0x0220, 4, 2, 1, .w1c, 0x0⟩
def F.SWC_T_FLT_RING_FULL : Fld := ⟨13, 3, 0x0220, 4, 1, 1, .w1c, 0x0⟩
def F.SWC_T_FLT_CNT_OVF : Fld := ⟨13, 3, 0x0220, 4, 0, 1, .w1c, 0x0⟩
def R.SWC_T_FLT : RegDesc := ⟨13, 3, 0x0220, 4, 1, [F.SWC_T_FLT_QUOTA, F.SWC_T_FLT_TX_REFUSED, F.SWC_T_FLT_RING_FULL, F.SWC_T_FLT_CNT_OVF]⟩

/-- Every register of the SWC block. -/
def regsSWC : List RegDesc := [
  R.SWC_CTRL, R.SWC_STAT, R.SWC_FDB, R.SWC_FLT, R.SWC_IEN, R.SWC_CMD,
  R.SWC_MBX_CTL, R.SWC_MBX_D, R.SWC_CNTOVF, R.SWC_SEL, R.SWC_P_CTL, R.SWC_P_PCPMAP,
  R.SWC_P_SCHED, R.SWC_P_WGT_0, R.SWC_P_WGT_1, R.SWC_P_Q, R.SWC_P_STAT, R.SWC_P_FLT,
  R.SWC_R_CTL, R.SWC_R_STAT, R.SWC_R_FLT, R.SWC_T_CTL, R.SWC_T_RX_BASE_HI, R.SWC_T_RX_BASE_LO,
  R.SWC_T_TX_BASE_HI, R.SWC_T_TX_BASE_LO, R.SWC_T_RX_RING, R.SWC_T_TX_RING, R.SWC_T_STAT, R.SWC_T_FLT]

def C.SWC_FRAMES_IN : Ctr := ⟨13, 0, 0x0400, 0x0, F.SWC_CNTOVF_DEV_OVF, .device, none⟩
def C.SWC_PARTIAL : Ctr := ⟨13, 0, 0x0408, 0x0, F.SWC_CNTOVF_DEV_OVF, .device, none⟩
def C.SWC_REFUSED_ALL : Ctr := ⟨13, 0, 0x0410, 0x0, F.SWC_CNTOVF_DEV_OVF, .device, none⟩
def C.SWC_DISABLED_DROP : Ctr := ⟨13, 0, 0x0418, 0x0, F.SWC_CNTOVF_DEV_OVF, .device, none⟩
def C.SWC_LEARNED : Ctr := ⟨13, 0, 0x0420, 0x0, F.SWC_CNTOVF_DEV_OVF, .device, none⟩
def C.SWC_LEARN_FULL : Ctr := ⟨13, 0, 0x0428, 0x0, F.SWC_CNTOVF_DEV_OVF, .device, none⟩
def C.SWC_MOVES : Ctr := ⟨13, 0, 0x0430, 0x0, F.SWC_CNTOVF_DEV_OVF, .device, none⟩
def C.SWC_AGED : Ctr := ⟨13, 0, 0x0438, 0x0, F.SWC_CNTOVF_DEV_OVF, .device, none⟩
def C.SWC_ECC_CE : Ctr := ⟨13, 0, 0x0440, 0x0, F.SWC_CNTOVF_DEV_OVF, .device, none⟩
def C.SWC_ECC_UE : Ctr := ⟨13, 0, 0x0448, 0x0, F.SWC_CNTOVF_DEV_OVF, .device, none⟩
def C.SWC_P_ADMITTED : Ctr := ⟨13, 0, 0x0800, 0x200, F.SWC_CNTOVF_PORT_OVF, .byIndex, some F.SWC_P_FLT_CNT_OVF⟩
def C.SWC_P_VLAN_DROP : Ctr := ⟨13, 0, 0x0808, 0x200, F.SWC_CNTOVF_PORT_OVF, .byIndex, some F.SWC_P_FLT_CNT_OVF⟩
def C.SWC_P_NO_ROUTE : Ctr := ⟨13, 0, 0x0810, 0x200, F.SWC_CNTOVF_PORT_OVF, .byIndex, some F.SWC_P_FLT_CNT_OVF⟩
def C.SWC_P_TAG_OVERSIZE : Ctr := ⟨13, 0, 0x0818, 0x200, F.SWC_CNTOVF_PORT_OVF, .byIndex, some F.SWC_P_FLT_CNT_OVF⟩
def C.SWC_Q_ENQ : Ctr := ⟨13, 0, 0x0840, 0x200, F.SWC_CNTOVF_PORT_OVF, .byIndex, some F.SWC_P_FLT_CNT_OVF⟩
def C.SWC_Q_TX : Ctr := ⟨13, 0, 0x0848, 0x200, F.SWC_CNTOVF_PORT_OVF, .byIndex, some F.SWC_P_FLT_CNT_OVF⟩
def C.SWC_Q_FULL_DROP : Ctr := ⟨13, 0, 0x0850, 0x200, F.SWC_CNTOVF_PORT_OVF, .byIndex, some F.SWC_P_FLT_CNT_OVF⟩
def C.SWC_Q_DOWN_DROP : Ctr := ⟨13, 0, 0x0858, 0x200, F.SWC_CNTOVF_PORT_OVF, .byIndex, some F.SWC_P_FLT_CNT_OVF⟩
def C.SWC_Q_FLUSHED : Ctr := ⟨13, 0, 0x0860, 0x200, F.SWC_CNTOVF_PORT_OVF, .byIndex, some F.SWC_P_FLT_CNT_OVF⟩
def C.SWC_R_SEQ_TX : Ctr := ⟨13, 0, 0x2000, 0x40, F.SWC_CNTOVF_PAIR_OVF, .byIndex, some F.SWC_R_FLT_CNT_OVF⟩
def C.SWC_R_DD_DISCARD_A : Ctr := ⟨13, 0, 0x2008, 0x40, F.SWC_CNTOVF_PAIR_OVF, .byIndex, some F.SWC_R_FLT_CNT_OVF⟩
def C.SWC_R_DD_DISCARD_B : Ctr := ⟨13, 0, 0x2010, 0x40, F.SWC_CNTOVF_PAIR_OVF, .byIndex, some F.SWC_R_FLT_CNT_OVF⟩
def C.SWC_R_DD_EVICT : Ctr := ⟨13, 0, 0x2018, 0x40, F.SWC_CNTOVF_PAIR_OVF, .byIndex, some F.SWC_R_FLT_CNT_OVF⟩
def C.SWC_R_OWN_DROP : Ctr := ⟨13, 0, 0x2020, 0x40, F.SWC_CNTOVF_PAIR_OVF, .byIndex, some F.SWC_R_FLT_CNT_OVF⟩
def C.SWC_R_NO_TAG : Ctr := ⟨13, 0, 0x2028, 0x40, F.SWC_CNTOVF_PAIR_OVF, .byIndex, some F.SWC_R_FLT_CNT_OVF⟩
def C.SWC_R_WRONG_LAN : Ctr := ⟨13, 0, 0x2030, 0x40, F.SWC_CNTOVF_PAIR_OVF, .byIndex, some F.SWC_R_FLT_CNT_OVF⟩
def C.SWC_R_RING_FWD : Ctr := ⟨13, 0, 0x2038, 0x40, F.SWC_CNTOVF_PAIR_OVF, .byIndex, some F.SWC_R_FLT_CNT_OVF⟩
def C.SWC_T_RX_FRAMES : Ctr := ⟨13, 0, 0x2100, 0x40, F.SWC_CNTOVF_PART_OVF, .device, some F.SWC_T_FLT_CNT_OVF⟩
def C.SWC_T_RX_RING_FULL : Ctr := ⟨13, 0, 0x2108, 0x40, F.SWC_CNTOVF_PART_OVF, .device, some F.SWC_T_FLT_CNT_OVF⟩
def C.SWC_T_TX_FRAMES : Ctr := ⟨13, 0, 0x2110, 0x40, F.SWC_CNTOVF_PART_OVF, .device, some F.SWC_T_FLT_CNT_OVF⟩
def C.SWC_T_TX_REFUSED : Ctr := ⟨13, 0, 0x2118, 0x40, F.SWC_CNTOVF_PART_OVF, .device, some F.SWC_T_FLT_CNT_OVF⟩
def C.SWC_T_TX_QUOTA : Ctr := ⟨13, 0, 0x2120, 0x40, F.SWC_CNTOVF_PART_OVF, .device, some F.SWC_T_FLT_CNT_OVF⟩

end Sys2Proof.Machine
end

