-- ==== Sys2Proof/Machine/SwcBase.lean ====
section
/-! DEFINITION. The cell buffer and the queues of the switch core (R386 to R395), which the ports and the switch core share. -/

namespace Sys2Proof.Machine

def blkSwc : Nat := 13
def blkPort : Nat := 12

def swCpu : Nat := 8
def swSvi : Nat := 9
def swGoose : Nat := 10
def swPtp : Nat := 11

/-- A counter of class `c` of a switch port. -/
def Ctr.cls (k : Ctr) (c : Nat) : Ctr := { k with off := k.off + c * 0x28 }

def PortCh.reset : PortCh :=
  { holdAt := none, fifo := none, txing := none, txEnd := 0, sent := none, under := none, broken := [], oob := [], anAck := false }

def State.portCh (s : State) (p : Nat) : PortCh := sparseGet PortCh.reset s.port.ports p

def State.setPortCh (s : State) (p : Nat) (v : PortCh) : State :=
  { s with port := { s.port with ports := sparseSet PortCh.reset s.port.ports p v } }

/-- The queue of a class at a switch port, oldest first. -/
def State.swq (s : State) (e c : Nat) : List SwCopy := sparseGet [] s.swc.queues (e * 8 + c)

def State.setSwq (s : State) (e c : Nat) (l : List SwCopy) : State :=
  { s with swc := { s.swc with queues := sparseSet [] s.swc.queues (e * 8 + c) l } }

/-- The cells of a list of copies. -/
def cellsOf (l : List SwCopy) : Nat := l.foldl (fun a c => a + c.cells) 0

/-- Every queued copy. -/
def allCopies (s : State) : List SwCopy := s.swc.queues.flatMap Prod.snd

/-- The cells of the buffer that are charged to queues (R388). -/
def queueCells : Nat := 64896

def qMin (s : State) (e c : Nat) : Nat := s.fld (F.SWC_P_Q_MIN.el c) e
def qMax (s : State) (e c : Nat) : Nat := s.fld (F.SWC_P_Q_MAX.el c) e

/-- The sum of every MIN. -/
def sumMin (s : State) : Nat := ((List.range 12).flatMap fun e => (List.range 8).map (qMin s e)).foldl (· + ·) 0

/-- The uncharged cells of the shared pool. -/
def poolFree (s : State) : Nat := (queueCells - sumMin s) - cellsOf ((allCopies s).filter SwCopy.pool)

/-- The cells charged to a partition (R389). -/
def partCells (s : State) (p : Nat) : Nat := cellsOf ((allCopies s).filter fun c => c.part = p)

/-- The cells of a frame of `len` octets. -/
def frameCells (len : Nat) : Nat := (len + 255) / 256

/-! ## Link states (R371) -/

def lkDisabled : Nat := 0
def lkDown : Nat := 1
def lkUpWait : Nat := 2
def lkUp : Nat := 3
def lkDownWait : Nat := 4

def linkState (s : State) (p : Nat) : Nat := s.fld F.PORT_P_STAT_LINK p

/-- Are copies for a switch port admitted: internal ports never go down, a physical port from its entry to UP to its entry to DOWN
(R376, R394, R395)? -/
def portTakes (s : State) (e : Nat) : Bool :=
  decide (8 ≤ e) || decide (linkState s e = lkUp) || decide (linkState s e = lkDownWait)

/-- A flag of a switch port with its device flag. -/
def swpFlt (s : State) (e : Nat) (f dev : Fld) : State := (s.setFlag f true e).setFlt dev

/-- Admit a copy to a queue (R389, R391, R394): whether it was admitted. -/
def queueCopy (s : State) (e : Nat) (x : SwCopy) : Bool × State :=
  let c := x.cls
  if !portTakes s e then
    (false, swpFlt (s.count (C.SWC_Q_DOWN_DROP.cls c) e) e F.SWC_P_FLT_DOWN_DROP F.SWC_FLT_DOWN_DROP)
  else
    let u := cellsOf (s.swq e c)
    let put (pool : Bool) : Bool × State :=
      (true, (s.setSwq e c (s.swq e c ++ [{ x with pool := pool }])).count (C.SWC_Q_ENQ.cls c) e)
    if u + x.cells ≤ qMin s e c then put false
    else if u + x.cells ≤ qMax s e c && x.cells ≤ poolFree s then put true
    else (false, swpFlt (s.count (C.SWC_Q_FULL_DROP.cls c) e) e F.SWC_P_FLT_FULL_DROP F.SWC_FLT_FULL_DROP)

/-- SWC_PORT_FLUSH: a physical port enters DOWN; every copy queued for it is discarded (R394). -/
def swcPortFlush (s : State) (p : Nat) : State :=
  let s := (List.range 8).foldl (fun s c =>
    let n := (s.swq p c).length
    if n = 0 then s
    else ((s.setSwq p c []).countBy (C.SWC_Q_FLUSHED.cls c) n p).setFlag F.SWC_P_FLT_FLUSH true p) s
  s.setFlag F.SWC_P_STAT_FLUSHING true p

/-! ## The scheduler (R386) -/

/-- The octets that a copy takes from its class's deficit. -/
def copyLen (x : SwCopy) : Nat := x.frame.len

def strictN (s : State) (e : Nat) : Nat := max 1 (s.fld F.SWC_P_SCHED_STRICT_N e)

/-- The quantum of a class, octets. -/
def quantum (s : State) (e c : Nat) : Nat :=
  let w := if c < 4 then s.fld F.SWC_P_WGT_0_WEIGHT e / 256 ^ c % 256 else s.fld F.SWC_P_WGT_1_WEIGHT e / 256 ^ (c - 4) % 256
  max 1 w * 256

def State.deficit (s : State) (e c : Nat) : Nat := sparseGet 0 s.swc.deficit (e * 8 + c)
def State.setDeficit (s : State) (e c v : Nat) : State :=
  { s with swc := { s.swc with deficit := sparseSet 0 s.swc.deficit (e * 8 + c) v } }
def State.setTurn (s : State) (e v : Nat) : State := { s with swc := { s.swc with turn := sparseSet 0 s.swc.turn e v } }

/-- Deficit round robin over the classes below the strict ones: the class that sends next. A class that is passed over keeps its
deficit, an empty one loses it. -/
def drrPick (s : State) (e n : Nat) : Nat → Option (Nat × State)
  | 0 => none
  | fuel + 1 =>
    let t := sparseGet 0 s.swc.turn e
    let c := t / 2 % n
    let given := t % 2 = 1
    let next := (c + 1) % n * 2
    match s.swq e c with
    | [] => drrPick ((s.setDeficit e c 0).setTurn e next) e n fuel
    | x :: _ =>
      let s := if given then s else (s.setDeficit e c (s.deficit e c + quantum s e c)).setTurn e (c * 2 + 1)
      if copyLen x ≤ s.deficit e c then some (c, s.setDeficit e c (s.deficit e c - copyLen x))
      else drrPick (s.setTurn e next) e n fuel

/-- The class whose head copy goes next at a switch port: the strict classes first, the higher before the lower. -/
def pickClass (s : State) (e : Nat) : Option (Nat × State) :=
  let n := 8 - min 8 (strictN s e)
  match ((List.range 8).reverse.filter fun c => decide (n ≤ c)).find? fun c => !(s.swq e c).isEmpty with
  | some c => some (c, s)
  | none =>
    if (List.range n).any fun c => !(s.swq e c).isEmpty then drrPick s e n 400 else none

/-- Take the next copy of a switch port from its queue. -/
def takeCopy (s : State) (e : Nat) : Option (SwCopy × State) :=
  match pickClass s e with
  | none => none
  | some (c, s) =>
    match s.swq e c with
    | [] => none
    | x :: t => some (x, (s.setSwq e c t).count (C.SWC_Q_TX.cls c) e)

end Sys2Proof.Machine
end

