-- ==== Sys2Proof/Machine/Time.lean ====
section
/-! DEFINITION. The time base (chapter 2): device time and its steps, the discipline and its servo, TOUT and TIN, and the
commands of the TIME mailbox. -/

namespace Sys2Proof.Machine

/-! ## Device time and its tick -/

/-- One TBC edge of the running count (R40): NS advances by 1 ns, SEC at the carry; whether SEC was incremented is kept for
what falls due at that increment (R43, R46). -/
def TimeSt.tick (t : TimeSt) : TimeSt :=
  if t.ns + 1 < 1000000000 then { t with ns := t.ns + 1, tbc := t.tbc + 1 }
  else { t with ns := 0, sec := (t.sec + 1) % 2 ^ 48, tbc := t.tbc + 1, secDue := true, utcDue := t.utcPend.isSome }

/-- UTCOFS_APPLY (R43): a pending write of TIME_UTCOFS takes effect once SEC has been incremented by the running count since
the write. -/
def utcofsApply (s : State) : State :=
  match s.time.utcPend with
  | some v => if s.time.utcDue then { s with time := { s.time with utcEff := v, utcPend := none, utcDue := false } } else s
  | none => s

def execUtcofsApply (s : State) : Host.Outcome State Fault Refusal := .next (s.live fun s => utcofsApply s)

/-! ## TOUT across a step (R75, R76) -/

/-- The least instant anchor + k × period at or after a time. -/
def nextInstant (anchor period t : Nat) : Nat :=
  if t ≤ anchor then anchor else anchor + (t - anchor + period - 1) / period * period

def ToutSt.reset : ToutSt :=
  { start := none, anchor := 0, per := 1, next := 0, late := false, fired := false, pulseEnd := none, active := false }

def State.tout (s : State) (n : Nat) : ToutSt := sparseGet ToutSt.reset s.time.touts n

def State.setTout (s : State) (n : Nat) (t : ToutSt) : State :=
  { s with time := { s.time with touts := sparseSet ToutSt.reset s.time.touts n t } }

/-- Is a TOUT channel in ONCE or PERIODIC mode? -/
def toutOnce : Nat := 1
def toutPeriodic : Nat := 2

/-- A step moves each armed TOUT: a start passed over by a forward step is late, one that the step lands on is met (R75); the instants of a
PERIODIC channel that a forward step passes over are counted as SKIPPED and set SKIP, and after any step the next pulse is at the first instant at or after
the new time, instants already emitted among them, by the period in force (R76, R77). -/
def toutStep (old new : Nat) (s : State) (n : Nat) : State :=
  if !s.flag F.TIME_TOUT_CTRL_ARM n then s
  else
    let t := s.tout n
    let mode := s.fld F.TIME_TOUT_CTRL_MODE n
    if mode = toutOnce then
      if !t.fired && old < t.next && t.next < new then s.setTout n { t with late := true } else s
    else if mode = toutPeriodic then
      let nx := nextInstant t.anchor t.per new
      let skipped := if t.next < nx then (nx - t.next) / t.per else 0
      let s := s.setTout n { t with next := nx }
      if skipped = 0 then s else (s.countBy C.TIME_TOUT_SKIPPED skipped n).setFlag F.TIME_TOUT_STAT_SKIP true n
    else s

/-! ## Steps of device time (R44, R54) -/

/-- A step of device time by a signed amount of ns at this TBC edge: EPOCH increments and the step notice waits for the
next SYS edge (R44, R54). DESIGN CHOICE: a step that would take device time below 0 leaves it at 0, with the whole amount in the notice; above 2^48 s it wraps. -/
def stepTime (s : State) (amount : Int) : State :=
  let old := s.devNs
  let new := ((old : Int) + amount).toNat
  let ep := (s.fld F.TIME_STAT_EPOCH + 1) % 65536
  let s := { s with time := { s.time with sec := new / 1000000000 % 2 ^ 48, ns := new % 1000000000,
                                          notices := s.time.notices ++ [(amount, ep, s.time.sys)] } }
  let s := s.setFld F.TIME_STAT_EPOCH ep
  (List.range 8).foldl (toutStep old new) s

/-! ## Discipline (R47 to R53) -/

def discFreerun : Nat := 0
def discAcquire : Nat := 1
def discLocked : Nat := 2
def discHoldover : Nat := 3

/-- The time quality of a discipline state; `long` says that HOLDOVER has passed HOLD_LIMIT (R47). -/
def tqOf (st : Nat) (long : Bool) : Nat :=
  if st = discLocked then 0 else if st = discHoldover then (if long then 2 else 1) else if st = discAcquire then 2 else 3

/-- The writes of TQ that are kept. -/
def tqKept : Nat := 64

/-- Write TQ, keeping what it was before (R47). -/
def setTq (s : State) (v : Nat) : State :=
  { s.setFld F.TIME_STAT_TQ v with time := { s.time with tqLog := ((s.time.sys, s.fld F.TIME_STAT_TQ) :: s.time.tqLog).take tqKept } }

/-- TQ as it stood so many SYS cycles ago. -/
def tqAgo (s : State) (age : Nat) : Nat :=
  match (s.time.tqLog.filter fun e => decide (s.time.sys < e.1 + age)).getLast? with
  | some e => e.2
  | none => s.fld F.TIME_STAT_TQ

/-- Enter a discipline state, with the time quality it implies (R47). -/
def setDisc (s : State) (st : Nat) : State := setTq (s.setFld F.TIME_STAT_STATE st) (tqOf st false)

def discState (s : State) : Nat := s.fld F.TIME_STAT_STATE

/-- The limits of FADJ (R48, R52). -/
def fadjMax : Int := 54975581
def fadjNoStep : Int := 27487791

/-- The effective discipline source: 0b11 is treated as 0b00 (R49). -/
def effSource (src : Nat) : Nat := if src = 3 then 0 else src

/-- The FADJ applied (R48). -/
def fadjOf (s : State) : Int := s.sfld F.TIME_FADJ_FADJ

def setFadj (s : State) (v : Int) : State := s.setSfld F.TIME_FADJ_FADJ v

/-- TIME_FADJ_SET limited per R48. -/
def fadjSet (s : State) : Int := clampInt (-fadjMax) fadjMax (s.sfld F.TIME_FADJ_SET_FADJ_SET)

/-- Apply TIME_FADJ_SET, limited per R48; FADJ_LIMIT is the servo's alone (R48, R49). -/
def applyFadjSet (s : State) : State := setFadj s (fadjSet s)

def intSum (l : List Int) : Int := l.foldl (· + ·) 0

/-- The holdover FADJ (R53): the mean of the last HOLD_AVG values applied while LOCKED, to the nearest unit, ties to even;
before any, the FADJ in force at the last write of the effective source, or TIME_FADJ_SET. -/
def holdoverFadj (s : State) : Int :=
  let l := s.time.lockedFadj.take (max 1 (s.fld F.TIME_HOLD_HOLD_AVG))
  match l with
  | [] => s.time.srcFadj.getD (fadjSet s)
  | _ => divRoundEven (intSum l) l.length

/-- A value of FADJ applied while LOCKED joins the values of R53. -/
def recordLocked (s : State) (v : Int) : State :=
  { s with time := { s.time with lockedFadj := (v :: s.time.lockedFadj).take 255 } }

/-- The range of FADJ: ±200 ppm, and with STEP_EN 0 also ±100 ppm about the holdover FADJ (R48, R52). -/
def fadjRange (s : State) : Int × Int :=
  if s.flag F.TIME_CTRL_STEP_EN then (-fadjMax, fadjMax)
  else
    let h := holdoverFadj s
    (max (-fadjMax) (h - fadjNoStep), min fadjMax (h + fadjNoStep))

/-- The servo of R50 on an offset in ns. -/
def servo (s : State) (offset : Int) : State :=
  let kp := (s.fld F.TIME_GAIN_KP : Int)
  let ki := (s.fld F.TIME_GAIN_KI : Int)
  let p := offset * kp
  let integ := clampInt (-(fadjMax * 256)) (fadjMax * 256) (s.time.integ + offset * ki)
  let want := (-(p + integ)) / 256
  let (lo, hi) := fadjRange s
  let f := clampInt lo hi want
  let s := setFadj { s with time := { s.time with integ := integ } } f
  if want < -fadjMax || fadjMax < want then s.setFlt F.TIME_FLT_FADJ_LIMIT else s

/-- The servo runs and its value counts as applied while LOCKED when the state is LOCKED (R53). -/
def servoRun (s : State) (offset : Int) : State :=
  let s := servo s offset
  if discState s = discLocked then recordLocked s (fadjOf s) else s

/-- Enter LOCKED: the FADJ in force counts as the first value of the period (R53). DEDUCED: the entry stands before the servo's value for the Sync or edge that
leads to it, which is applied in LOCKED and counts too. -/
def enterLocked (s : State) : State :=
  let s := setDisc s discLocked
  let s := recordLocked s (fadjOf s)
  { s with time := { s.time with everLocked := true, outRun := 0, outlierRun := 0, holdAt := none } }

/-- Enter ACQUIRE with the lock count at 0. -/
def enterAcquire (s : State) : State :=
  let s := setDisc s discAcquire
  { s with time := { s.time with lockRun := 0, outRun := 0, outlierRun := 0, holdAt := none } }

/-- Step by −offset and clear the integrator (R51). -/
def stepBack (s : State) (offset : Int) : State :=
  let s := stepTime s (-offset)
  { s with time := { s.time with integ := 0 } }

/-- Enter HOLDOVER: the holdover FADJ is applied and the time to HOLD_LIMIT starts (R51, R53). DESIGN CHOICE: HOLD_LIMIT is read at the entry. -/
def enterHoldover (s : State) : State :=
  let h := holdoverFadj s
  let s := setFadj (setDisc s discHoldover) h
  let lim := s.fld F.TIME_HOLD_HOLD_LIMIT * 1000000000
  let s := { s with time := { s.time with holdAt := some (s.time.tbc + lim) } }
  s.count C.TIME_HOLDOVER_ENTRIES

/-- The interval of 2^LOG × n seconds, in ns. -/
def logSeconds (n : Nat) (log : Int) : Nat := (n * 1000000000 * 2 ^ (log + 8).toNat) / 256

/-- Restart the loss timer of SYNC_LOSS × 2^LOG_SYNC s (R51). DESIGN CHOICE: both are read at the restart. -/
def restartLoss (s : State) : State :=
  let t := logSeconds (max 1 (s.fld F.TIME_HOLD_SYNC_LOSS)) (s.sfld F.TIME_CTRL_LOG_SYNC)
  { s with time := { s.time with lossAt := some (s.time.tbc + t) } }

/-- The step threshold in use: the larger of STEP_THR and LOCK_THR + 1. -/
def stepThr (s : State) : Int := max (s.fld F.TIME_STEPTHR_STEP_THR) (s.fld F.TIME_LOCK_LOCK_THR + 1)

def lockThr (s : State) : Int := s.fld F.TIME_LOCK_LOCK_THR

/-- An offset handled as from FREERUN (R51). -/
def fromFreerun (s : State) (offset : Int) : State :=
  if stepThr s < absI offset && s.flag F.TIME_CTRL_STEP_EN then stepBack (enterAcquire s) offset
  else servoRun (enterAcquire s) offset

/-- An offset in ACQUIRE (R51): a step, or a count towards LOCKED with the servo run. -/
def inAcquire (s : State) (offset : Int) : State :=
  if stepThr s < absI offset && s.flag F.TIME_CTRL_STEP_EN then
    stepBack { s with time := { s.time with lockRun := 0 } } offset
  else if absI offset ≤ lockThr s then
    let s := { s with time := { s.time with lockRun := s.time.lockRun + 1 } }
    if max 1 (s.fld F.TIME_LOCK_LOCK_CNT) ≤ s.time.lockRun then servoRun (enterLocked s) offset else servoRun s offset
  else servoRun { s with time := { s.time with lockRun := 0 } } offset

/-- An offset in LOCKED (R51): an outlier, discarded or confirming a step, or an offset for the servo, which counts towards
ACQUIRE when it is beyond ±LOCK_THR. -/
def inLocked (s : State) (offset : Int) : State :=
  if stepThr s < absI offset then
    let pos : Bool := 0 < offset
    let run := if s.time.outlierRun ≠ 0 && s.time.outlierPos = pos then s.time.outlierRun + 1 else 1
    let s := { s with time := { s.time with outlierRun := run, outlierPos := pos } }
    let s := s.count C.TIME_SYNC_OUTLIER
    if max 1 (s.fld F.TIME_LOCK_STEP_CONFIRM) ≤ run then
      if s.flag F.TIME_CTRL_STEP_EN then stepBack (enterAcquire s) offset else servoRun (enterAcquire s) offset
    else s.setFlt F.TIME_FLT_STEP_OUTLIER
  else
    let s := { s with time := { s.time with outlierRun := 0 } }
    if absI offset ≤ lockThr s then servoRun { s with time := { s.time with outRun := 0 } } offset
    else
      let s := { s with time := { s.time with outRun := s.time.outRun + 1 } }
      if max 1 (s.fld F.TIME_LOCK_LOCK_CNT) ≤ s.time.outRun then servoRun (enterAcquire s) offset else servoRun s offset

/-- An offset in HOLDOVER (R51): LOCKED with the integrator loaded, or handled as from FREERUN. -/
def inHoldover (s : State) (offset : Int) : State :=
  if absI offset ≤ lockThr s then
    let h := holdoverFadj s
    let s := enterLocked s
    servoRun { s with time := { s.time with integ := -(h * 256) } } offset
  else fromFreerun s offset

/-- A usable Sync or edge with its offset reaches the discipline (R51). -/
def disciplineOffset (s : State) (offset : Int) : State :=
  let lim : Int := 2 ^ 31 - 1
  let s := (s.count C.TIME_SYNC_USED).setSfld F.TIME_OFFSET_OFFSET (clampInt (-lim) lim offset)
  let s := restartLoss s
  if discState s = discFreerun then fromFreerun s offset
  else if discState s = discAcquire then inAcquire s offset
  else if discState s = discLocked then inLocked s offset
  else inHoldover s offset

/-- A write of TIME_CTRL: its fields take the written values; when it changes the effective source the discipline moves to
FREERUN, and FADJ is set to TIME_FADJ_SET when SRC is 0b00 and otherwise held (R49, R51). -/
def timeCtrlWrite (s : State) (v : Nat) : State :=
  let old := effSource (s.fld F.TIME_CTRL_SRC)
  let s := s.setFld F.TIME_CTRL_DOMAIN (bitsOf v 31 24)
  let s := s.setFld F.TIME_CTRL_SLAVE_PORT (bitsOf v 23 20)
  let s := s.setFld F.TIME_CTRL_LOG_SYNC (bitsOf v 19 16)
  let s := s.setFld F.TIME_CTRL_SRC (bitsOf v 9 8)
  let s := s.setFld F.TIME_CTRL_STEP_EN (v % 2)
  let new := effSource (s.fld F.TIME_CTRL_SRC)
  if new = old then s
  else
    let s := setDisc s discFreerun
    let s := if new = 0 then applyFadjSet s else s
    { s with time := { s.time with srcFadj := some (fadjOf s), lossAt := none, holdAt := none, lockRun := 0, outRun := 0,
                                   outlierRun := 0 } }

def execTimeCtrlWrite (v : Nat) (s : State) : Host.Outcome State Fault Refusal := .next (s.live fun s => timeCtrlWrite s v)

/-- The offset of R555: formed exactly, in units of 2^-16 ps, and rounded once to whole ns, ties to even. -/
def syncOffset (s : State) (port : Nat) (t1 t2 : Nat) (corr : Int) : Int :=
  let num : Int := (((t2 : Int) - (t1 : Int) * 65536) - corr - (s.fld F.TIME_P_MLD_MLD port : Int) * 4096) * 1000
    - s.sfld F.TIME_P_ASYM_ASYM port * 65536
  divRoundEven num 65536000

/-- Is a Sync usable (R50)? -/
def syncUsable (s : State) (port : Nat) (m : PtpMsg) (rx : Stamp) (fu : Option (PtpMsg × Stamp)) : Bool :=
  decide (port < 8) && decide (s.fld F.TIME_CTRL_SLAVE_PORT = port) && decide (m.domain = s.fld F.TIME_CTRL_DOMAIN)
    && s.flag F.TIME_P_STAT_PD_VALID port && decide (rx.epoch = s.fld F.TIME_STAT_EPOCH)
    && (if m.twoStep then
          match fu with
          | some (_, frx) => decide (frx.t ≤ rx.t + logSeconds 1 (s.sfld F.TIME_CTRL_LOG_SYNC) * 65536)
              && decide (frx.epoch = rx.epoch)
          | none => false
        else true)

/-- A length in ps in units of 2^-16 ns. -/
def psUnits (s : State) (ps : Int) : Int × State := s.openRound (ps * 65536) 1000

/-- A time-stamp moved by a signed amount of 2^-16 ns. -/
def Stamp.moved (st : Stamp) (d : Int) : Stamp := { st with t := ((st.t : Int) + d).toNat, tbc := ((st.tbc : Int) + d).toNat }

/-- An ingress time-stamp of a port with the board trim RXTRIM added (R71); `st` is what the port's own latency leaves. -/
def ingressStamp (s : State) (p : Nat) (st : Stamp) : Stamp × State :=
  let (trim, s) := psUnits s (s.sfld F.TIME_P_RXTRIM_TRIM p)
  (st.moved trim, s)

/-- SYNC_RX: a usable Sync while SRC is 0b01 reaches the servo with its offset; an unusable one changes nothing (R50, R51,
R555). -/
def syncRx (s : State) (port : Nat) (m : PtpMsg) (rx : Stamp) (fu : Option (PtpMsg × Stamp)) : State :=
  if effSource (s.fld F.TIME_CTRL_SRC) = 1 && syncUsable s port m rx fu then
    let (rx, s) := ingressStamp s port rx
    match m.twoStep, fu with
    | true, some (f, _) => disciplineOffset s (syncOffset s port (f.tsSec * 1000000000 + f.tsNs) rx.t (m.corr + f.corr))
    | _, _ => disciplineOffset s (syncOffset s port (m.tsSec * 1000000000 + m.tsNs) rx.t m.corr)
  else s

def execSyncRx (port : Nat) (m : PtpMsg) (rx : Stamp) (fu : Option (PtpMsg × Stamp)) (s : State) :
    Host.Outcome State Fault Refusal := .next (s.live fun s => syncRx s port m rx fu)

/-- PPS_EDGE: a rising edge on TIN_0 while SRC is 0b10, with no step since its capture; the offset is the NS of the capture
taken within half a second (R50, R83). -/
def ppsEdge (s : State) (st : Stamp) : State :=
  if effSource (s.fld F.TIME_CTRL_SRC) = 2 && decide (st.epoch = s.fld F.TIME_STAT_EPOCH) then
    let ns : Int := (st.t / 65536 % 1000000000 : Nat)
    disciplineOffset s (if ns < 500000000 then ns else ns - 1000000000)
  else s

def execPpsEdge (st : Stamp) (s : State) : Host.Outcome State Fault Refusal := .next (s.live fun s => ppsEdge s st)

/-- The discipline loses its source: LOCKED falls into HOLDOVER with SYNC_LOSS (R51). -/
def lockedLost (s : State) : State := (enterHoldover s).setFlt F.TIME_FLT_SYNC_LOSS

/-- SYNC_LOSS_TIMER: when the loss timer has expired, ACQUIRE goes to FREERUN or HOLDOVER and LOCKED to HOLDOVER (R51). -/
def syncLossTimer (s : State) : State :=
  match s.time.lossAt with
  | none => s
  | some d =>
    if s.time.tbc < d then s
    else
      let s := { s with time := { s.time with lossAt := none } }
      if discState s = discAcquire then
        if s.time.everLocked then enterHoldover s else setDisc s discFreerun
      else if discState s = discLocked then lockedLost s
      else s

def execSyncLossTimer (s : State) : Host.Outcome State Fault Refusal := .next (s.live fun s => syncLossTimer s)

/-- The slave port's link or peer delay becomes invalid: LOCKED falls into HOLDOVER (R51). -/
def slaveLost (s : State) (port : Nat) : State :=
  if effSource (s.fld F.TIME_CTRL_SRC) = 1 && decide (s.fld F.TIME_CTRL_SLAVE_PORT = port) && decide (discState s = discLocked)
  then lockedLost s else s

/-- HOLD_LIMIT_REACHED: TQ becomes 0b10 and HOLD_EXCEEDED is set (R47, R51). -/
def holdLimitReached (s : State) : State :=
  match s.time.holdAt with
  | none => s
  | some d =>
    if s.time.tbc < d || discState s ≠ discHoldover then s
    else
      let s := { s with time := { s.time with holdAt := none } }
      (setTq s (tqOf discHoldover true)).setFlt F.TIME_FLT_HOLD_EXCEEDED

def execHoldLimitReached (s : State) : Host.Outcome State Fault Refusal := .next (s.live fun s => holdLimitReached s)

/-! ## TOUT (R73 to R79) -/

/-- Is arming refused (R78)? -/
def toutArmRefused (s : State) (n : Nat) : Bool :=
  let w := s.fld F.TIME_TOUT_WIDTH_VAL n
  let p := s.fld F.TIME_TOUT_PERIOD_VAL n
  let periodic : Bool := s.fld F.TIME_TOUT_CTRL_MODE n = toutPeriodic
  decide (w < 10) || (periodic && decide (p ≤ w + 10)) || (periodic && (decide (p < 1000) || decide (4000000000 < p)))
    || (s.tout n).start.isNone

/-- TOUT_ARM: writing ARM 1 arms the channel or refuses it with ARM_ERR; writing 0 disarms an armed one, which discards the start time loaded, and a pulse in
progress completes (R75, R77, R78). -/
def toutArm (s : State) (n : Nat) (arm : Bool) : State :=
  let armed := s.flag F.TIME_TOUT_CTRL_ARM n
  if 8 ≤ n || arm = armed then s
  else
    let t := s.tout n
    if arm then
      if toutArmRefused s n then s.setFlag F.TIME_TOUT_STAT_ARM_ERR true n
      else
        let st := t.start.getD 0
        let now := s.devNs
        let p := max 1 (s.fld F.TIME_TOUT_PERIOD_VAL n)
        let nx := if s.fld F.TIME_TOUT_CTRL_MODE n = toutPeriodic then nextInstant st p now else st
        (s.setTout n { t with anchor := st, per := p, next := nx, late := decide (st < now), fired := false }).setFlag F.TIME_TOUT_CTRL_ARM true n
    else (s.setTout n { t with start := none, late := false, fired := false }).setFlag F.TIME_TOUT_CTRL_ARM false n

def execToutArm (n : Nat) (arm : Bool) (s : State) : Host.Outcome State Fault Refusal := .next (s.live fun s => toutArm s n arm)

/-- Is a TOUT pulse due? -/
def toutDue (s : State) (n : Nat) : Bool :=
  decide (n < 8) && s.flag F.TIME_TOUT_CTRL_ARM n && !(s.tout n).fired && decide ((s.tout n).next ≤ s.devNs)
    && (decide (s.fld F.TIME_TOUT_CTRL_MODE n = toutOnce) || decide (s.fld F.TIME_TOUT_CTRL_MODE n = toutPeriodic))

/-- A TOUT channel past its due instant. ONCE: the start time is used up (DESIGN CHOICE: as by a disarm). PERIODIC: on to the next instant, from a pulse start
on by the PERIOD then written, whose instants count from that start (R76, R77). -/
def ToutSt.past (t : ToutSt) (once suppressed : Bool) (period : Nat) : ToutSt :=
  if once then { t with start := none, late := false, fired := !suppressed }
  else if suppressed || period = t.per then { t with next := t.next + t.per, late := false }
  else { t with anchor := t.next, per := period, next := t.next + period, late := false }

/-- TOUT_PULSE_START: the pulse due starts, or is suppressed while TQ is worse than MIN_TQ (R74 to R79). ARM of a ONCE channel reads 0 after its pulse, and at once
when the pulse is suppressed. -/
def toutPulseStart (s : State) (n : Nat) : State :=
  if !toutDue s n then s
  else
    let t := s.tout n
    let suppressed : Bool := s.fld F.TIME_TOUT_CTRL_MIN_TQ n < s.fld F.TIME_STAT_TQ
    let once : Bool := s.fld F.TIME_TOUT_CTRL_MODE n = toutOnce
    let t' := t.past once suppressed (max 1 (s.fld F.TIME_TOUT_PERIOD_VAL n))
    if suppressed then
      let s := if once then s.setFlag F.TIME_TOUT_CTRL_ARM false n else s
      ((s.setTout n t').count C.TIME_TOUT_SKIPPED n).setFlag F.TIME_TOUT_STAT_SUPP true n
    else
      let s := s.setTout n { t' with active := true, pulseEnd := some (s.time.tbc + s.fld F.TIME_TOUT_WIDTH_VAL n) }
      let s := s.count C.TIME_TOUT_PULSES n
      if once && t.late then (s.setFlag F.TIME_TOUT_STAT_LATE true n).setFlt F.TIME_FLT_TOUT_LATE else s

def execToutPulseStart (n : Nat) (s : State) : Host.Outcome State Fault Refusal := .next (s.live fun s => toutPulseStart s n)

/-- TOUT_PULSE_END: the pulse ends WIDTH TBC edges after its start (R77); after a ONCE pulse ARM reads 0 (R74). -/
def toutPulseEnd (s : State) (n : Nat) : State :=
  let t := s.tout n
  match t.pulseEnd with
  | some e =>
    if e ≤ s.time.tbc then
      (s.setTout n { t with active := false, fired := false, pulseEnd := none }).setFlag F.TIME_TOUT_CTRL_ARM (s.flag F.TIME_TOUT_CTRL_ARM n && !t.fired) n
    else s
  | none => s

def execToutPulseEnd (n : Nat) (s : State) : Host.Outcome State Fault Refusal := .next (s.live fun s => toutPulseEnd s n)

/-- The level a TOUT ball drives: active high while POL is 0 (R73). -/
def toutBall (s : State) (n : Nat) : Bool := (s.tout n).active != s.flag F.TIME_TOUT_CTRL_POL n

/-! ## TIN (R80 to R83) -/

def TinSt.reset : TinSt := { fifo := [], last := none }

def State.tin (s : State) (n : Nat) : TinSt := sparseGet TinSt.reset s.time.tins n

def State.setTin (s : State) (n : Nat) (t : TinSt) : State :=
  ({ s with time := { s.time with tins := sparseSet TinSt.reset s.time.tins n t } }).setFld F.TIME_TIN_STAT_LEVEL
    t.fifo.length n

/-- TIN_CAPTURE: an edge that EDGE selects, `sub` of 2^-16 ns after the last TBC edge, is captured with device time, EPOCH and TQ; one within 50 ns of the previous
captured edge sets CLOSE, one that finds the FIFO full sets OVF, and either is dropped and counted (R80 to R82). -/
def tinCapture (s : State) (n : Nat) (rising : Bool) (sub : Nat) : State :=
  if 8 ≤ n || !bitOf (s.fld F.TIME_TIN_CTRL_EDGE n) (if rising then 0 else 1) then s
  else
    let t := s.tin n
    let st := s.stamp.moved (sub % 65536 : Nat)
    let close : Bool := match t.last with
      | some l => decide (st.tbc ≤ l + 50 * 65536)
      | none => false
    let full : Bool := decide (16 ≤ t.fifo.length)
    if close || full then
      let s := if close then s.setFlag F.TIME_TIN_STAT_CLOSE true n else s
      let s := if full then (s.setFlag F.TIME_TIN_STAT_OVF true n).setFlt F.TIME_FLT_TIN_OVF else s
      s.count C.TIME_TIN_DROPPED n
    else (s.setTin n { fifo := t.fifo ++ [⟨st, rising⟩], last := some st.tbc }).count C.TIME_TIN_CAPTURED n

def execTinCapture (n : Nat) (rising : Bool) (sub : Nat) (s : State) : Host.Outcome State Fault Refusal :=
  .next (s.live fun s => tinCapture s n rising sub)

/-! ## The TIME mailbox (R85, R556) -/

/-- The TIME block's number. -/
def blkTime : Nat := 2

/-- Start a TIME mailbox command: refused while BUSY, else as `f` says. -/
def timeMbx (s : State) (f : State → State) : State :=
  if s.flag (mbxBusy blkTime) then s.mbxRefuseBusy blkTime else f s

/-- The device time that the mailbox operands spell in the time layout, in ns. DESIGN CHOICE: an NS of 1,000,000,000 or more carries into SEC. -/
def mbxTimeNs (s : State) (blk : Nat) : Nat :=
  (s.mbxD blk 0 % 65536 * 2 ^ 32 + s.mbxD blk 1) * 1000000000 + s.mbxD blk 2 % 2 ^ 30

/-- A run that ends with the operands as they are. -/
def mbxEcho (s : State) (blk cmd : Nat) : MbxRun :=
  { cmd := cmd, ok := true, d0 := s.mbxD blk 0, d1 := s.mbxD blk 1, d2 := s.mbxD blk 2, d3 := s.mbxD blk 3 }

/-- The device time, in ns, of the TBC edge at which a command is sampled: the first at or after the present SYS edge (R556). -/
def sampleNs (s : State) : Nat := if s.time.phase = 0 then s.devNs else (s.devNs + 1) % (2 ^ 48 * 1000000000)

/-- A step by a command, at the TBC edge at which it is sampled. -/
def stepSampled (s : State) (amount : Int) : State :=
  if s.time.phase = 0 then stepTime s amount else { s with time := { s.time with stepPend := some amount } }

/-- A TBC edge at which a command's step waits makes it. -/
def stepDue (s : State) : State :=
  match s.time.stepPend with
  | some a => stepTime { s with time := { s.time with stepPend := none } } a
  | none => s

/-- READ_NOW: the device time of the TBC edge at which the command is sampled (R85, R550). -/
def readNow (s : State) : State :=
  timeMbx s fun s => s.mbxStart blkTime (timeLayout 1 (sampleNs s * 65536) s.stamp.tq 0 s.stamp.epoch)

def execReadNow (s : State) : Host.Outcome State Fault Refusal := .next (s.live fun s => readNow s)

/-- SET_ABS: while SRC is 0b00, a step to the target in D0 to D2 at the TBC edge of its sampling (R85, R556). -/
def setAbs (s : State) : State :=
  timeMbx s fun s =>
    if effSource (s.fld F.TIME_CTRL_SRC) ≠ 0 then s.mbxRefuse blkTime
    else stepSampled (s.mbxStart blkTime (mbxEcho s blkTime 2)) ((mbxTimeNs s blkTime : Int) - (sampleNs s : Int))

def execSetAbs (s : State) : Host.Outcome State Fault Refusal := .next (s.live fun s => setAbs s)

/-- STEP_REL: while SRC is 0b00, a step by the signed amount in D0 and D1 (R85, R556). -/
def stepRel (s : State) : State :=
  timeMbx s fun s =>
    if effSource (s.fld F.TIME_CTRL_SRC) ≠ 0 then s.mbxRefuse blkTime
    else stepSampled (s.mbxStart blkTime (mbxEcho s blkTime 3)) (signed 64 (s.mbxD blkTime 0 * 2 ^ 32 + s.mbxD blkTime 1))

def execStepRel (s : State) : Host.Outcome State Fault Refusal := .next (s.live fun s => stepRel s)

/-- LOAD_TOUT: the start time of the TOUT that TIME_SEL selects (R74, R85). -/
def loadTout (s : State) : State :=
  timeMbx s fun s =>
    if s.fld F.TIME_SEL_KIND ≠ 1 then s.mbxRefuse blkTime
    else
      let n := s.fld F.TIME_SEL_INDEX
      let s := s.mbxStart blkTime (mbxEcho s blkTime 4)
      s.setTout n { s.tout n with start := some (mbxTimeNs s blkTime) }

def execLoadTout (s : State) : Host.Outcome State Fault Refusal := .next (s.live fun s => loadTout s)

/-- POP_TIN: the oldest capture of the TIN that TIME_SEL selects; an empty FIFO completes with FLAGS bit 1 clear, the
other result bits being free (R85). -/
def popTin (s : State) : State :=
  timeMbx s fun s =>
    if s.fld F.TIME_SEL_KIND ≠ 2 then s.mbxRefuse blkTime
    else
      let n := s.fld F.TIME_SEL_INDEX
      let t := s.tin n
      match t.fifo with
      | [] =>
        let (a, s) := s.takeFree
        let (b, s) := s.takeFree
        let (c, s) := s.takeFree
        let (d, s) := s.takeFree
        s.mbxStart blkTime
          { cmd := 5, ok := true, d0 := a % 2 ^ 32, d1 := b % 2 ^ 32, d2 := c % 2 ^ 32, d3 := d % 2 ^ 32 - d % 2 ^ 32 / 2 ^ 17 % 2 * 2 ^ 17 }
      | c :: rest =>
        (s.setTin n { t with fifo := rest }).mbxStart blkTime
          (timeLayout 5 c.stamp.t c.stamp.tq (ofBit c.rising + 2) c.stamp.epoch)

def execPopTin (s : State) : Host.Outcome State Fault Refusal := .next (s.live fun s => popTin s)

end Sys2Proof.Machine
end

