-- ==== Sys2Proof/Machine/Ptp.lean ====
section
/-! DEFINITION. The transparent clock (R55 to R59, R64 to R72): what an egress MAC does to PTP messages as they pass. -/

namespace Sys2Proof.Machine

def ptpSync : Nat := 0
def ptpPdelayReq : Nat := 2
def ptpPdelayResp : Nat := 3
def ptpFollowUp : Nat := 8
def ptpPdelayFollowUp : Nat := 10
def ptpAnnounce : Nat := 11
def ptpSignaling : Nat := 12

/-- The two destination addresses of PTP (R55). -/
def ptpDa0 : Nat := 0x011B19000000
def ptpDa1 : Nat := 0x0180C200000E

/-- The PTP message that a frame carries in an encapsulation of R55. -/
def ptpOf (f : Frame) : Option PtpMsg :=
  match f.payload with
  | .ptp m => if f.etype = 0x88F7 && (f.dst = ptpDa0 || f.dst = ptpDa1) then some m else none
  | _ => none

/-- Does a frame carry a Pdelay message, which terminates at the port (R70)? -/
def isPdelay (f : Frame) : Bool :=
  match ptpOf f with
  | some m => decide (m.msgType = ptpPdelayReq) || decide (m.msgType = ptpPdelayResp) || decide (m.msgType = ptpPdelayFollowUp)
  | none => false

def PtpPort.reset : PtpPort := { meas := [], noMeas := 0, seq := 0, outstanding := none, nextReq := none, recs := [] }

def State.ptpPort (s : State) (p : Nat) : PtpPort := sparseGet PtpPort.reset s.time.ports p

def State.setPtpPort (s : State) (p : Nat) (v : PtpPort) : State :=
  { s with time := { s.time with ports := sparseSet PtpPort.reset s.time.ports p v } }

/-- The egress time-stamp of a frame launched at this SYS edge (R66, R71): its place between two TBC edges is free, and the
board trim TXTRIM is added. -/
def egressStamp (s : State) (p : Nat) : Stamp × State :=
  let (sub, s) := s.takeFree
  let (trim, s) := psUnits s (s.sfld F.TIME_P_TXTRIM_TRIM p)
  (s.stamp.moved ((sub % 65536 : Nat) + trim), s)

/-- The largest correctionField (R67). -/
def corrMax : Int := 2 ^ 63 - 1

/-- What the transparent clock adds to a Sync that entered at port `i` with time-stamp `rx` and leaves port `p` now (R64, R65): residence,
and the link delay and asymmetry of the ingress port while its peer delay is valid. -/
def syncCorrection (s : State) (p i : Nat) (rx : Stamp) : Int × State :=
  let (tx, s) := egressStamp s p
  let residence : Int := (tx.tbc : Int) - (rx.tbc : Int)
  if s.flag F.TIME_P_STAT_PD_VALID i then
    let (asym, s) := psUnits s (s.sfld F.TIME_P_ASYM_ASYM i)
    (residence + (s.fld F.TIME_P_MLD_MLD i : Int) * 4096 + asym, s)
  else (residence, s.count C.TIME_P_CORR_NOLD i)

/-- Add a correction to a message's correctionField, saturating upwards (R67). -/
def addCorr (s : State) (p : Nat) (m : PtpMsg) (c : Int) : PtpMsg × State :=
  if corrMax < m.corr + c then ({ m with corr := corrMax }, s.count C.TIME_P_CORR_SAT p) else ({ m with corr := m.corr + c }, s)

/-- Have two records one key (R68)? -/
def CorrRec.sameKey (a b : CorrRec) : Bool :=
  decide (a.ingress = b.ingress) && decide (a.domain = b.domain) && decide (a.srcId = b.srcId) && decide (a.seq = b.seq)

/-- Record a two-step correction against an egress port: it takes the place of an older record of its key, else evicts the oldest of 32 (R68). -/
def recordCorr (s : State) (p : Nat) (r : CorrRec) : State :=
  let q := s.ptpPort p
  let recs := q.recs.filter fun x => !x.sameKey r
  if recs.length < 32 then s.setPtpPort p { q with recs := recs ++ [r] }
  else (s.setPtpPort p { q with recs := recs.drop 1 ++ [r] }).count C.TIME_P_FU_EVICT p

/-- Is a record the one of a Follow_Up that entered at port `i`? -/
def corrMatches (i : Nat) (m : PtpMsg) (r : CorrRec) : Bool :=
  decide (r.ingress = i) && decide (r.domain = m.domain) && decide (r.srcId = m.srcId) && decide (r.seq = m.seq)

/-- 100 ms in TBC edges (R69). -/
def fuLimit : Nat := 100000000

/-- The PTP message of a copy as it leaves an egress port (R64 to R69). -/
def egressPtp (s : State) (p : Nat) (x : SwCopy) (m : PtpMsg) : PtpMsg × State :=
  if m.msgType = ptpSync && !m.twoStep then
    let (c, s) := syncCorrection s p x.inPort x.stamp
    let (m, s) := addCorr s p m c
    (m, s.count C.TIME_P_SYNC_CORR p)
  else if m.msgType = ptpSync then
    let (c, s) := syncCorrection s p x.inPort x.stamp
    (m, recordCorr s p { ingress := x.inPort, domain := m.domain, srcId := m.srcId, seq := m.seq, corr := c,
                         syncTbc := x.stamp.tbc / 65536 })
  else if m.msgType = ptpFollowUp then
    let q := s.ptpPort p
    match q.recs.find? (corrMatches x.inPort m) with
    | some r =>
      if r.syncTbc + fuLimit < x.stamp.tbc / 65536 then (m, s.count C.TIME_P_FU_UNMATCHED p)
      else
        let (m, s) := addCorr (s.setPtpPort p { q with recs := q.recs.erase r }) p m r.corr
        (m, s.count C.TIME_P_FU_CORR p)
    | none => (m, s.count C.TIME_P_FU_UNMATCHED p)
  else (m, s)

/-- A copy's frame as it leaves an egress port: with TC_EN the transparent clock acts on a PTP message that entered at a physical
port. -/
def egressFrame (s : State) (p : Nat) (x : SwCopy) : Frame × State :=
  match ptpOf x.frame with
  | some m =>
    if s.flag F.TIME_P_CTRL_TC_EN p && decide (x.inPort < 8) then
      let (m, s) := egressPtp s p x m
      ({ x.frame with payload := .ptp m }, s)
    else (x.frame, s)
  | none => (x.frame, s)

end Sys2Proof.Machine
end

