-- ==== Sys2Proof/Machine/Port.lean ====
section
/-! DEFINITION. The ports (chapter 12): link states, auto-negotiation, optics management, the receive and transmit paths. -/

namespace Sys2Proof.Machine

def portCount : Nat := 8

def pm25G : Nat := 0
def pm10G : Nat := 1
def pm1000X : Nat := 2
def pmSgmii : Nat := 3

def portMode (s : State) (p : Nat) : Nat := s.fld F.PORT_P_CTL_MODE p

/-- A flag of a port with its device flag. -/
def portFlt (s : State) (p : Nat) (f dev : Fld) : State := (s.setFlag f true p).setFlt dev

/-- The data rate of a port in kb/s. -/
def portKbps (s : State) (p : Nat) : Nat :=
  let m := portMode s p
  if m = pm25G then 25000000
  else if m = pm10G then 10000000
  else if m = pm1000X then 1000000
  else [10000, 100000, 1000000, 1000000].getD (s.fld F.PORT_P_STAT_SPEED_RES p) 1000000

/-- A port's source address. -/
def portSa (s : State) (p : Nat) : Nat := s.fld F.PORT_P_SA_HI_SA p * 2 ^ 32 + s.fld F.PORT_P_SA_LO_SA p

/-- Is a test mode of PORT_P_TEST on? -/
def portTesting (s : State) (p : Nat) : Bool :=
  s.flag F.PORT_P_TEST_PRBS_CHK p || s.flag F.PORT_P_TEST_PRBS_GEN p || decide (s.fld F.PORT_P_TEST_LOOP p = 1)
    || decide (s.fld F.PORT_P_TEST_LOOP p = 2)

/-- Does the up condition of a port hold (R371)? An SGMII control word that reports no link or half duplex is treated as link down (R357). -/
def upCondition (s : State) (p : Nat) : Bool :=
  let m := portMode s p
  let an := s.flag F.PORT_P_CTL_AN_EN p && decide (2 ≤ m)
  let word := s.fld F.PORT_P_AN_LP_ABILITY p
  !s.flag F.PORT_P_STAT_MODABS p && (!s.flag F.PORT_P_STAT_LOS p || !s.flag F.PORT_P_CTL_LOS_EN p)
    && s.flag F.PORT_P_STAT_PCS_LOCK p && (decide (2 ≤ m) || !s.flag F.PORT_P_STAT_HI_BER p)
    && (decide (s.fld F.PORT_P_CTL_FEC p ≠ 2) || s.flag F.PORT_P_STAT_FEC_LOCK p)
    && (!an || (s.flag F.PORT_P_AN_AN_DONE p && (decide (m ≠ pmSgmii) || (bitOf word 15 && bitOf word 12)))) && !portTesting s p

def setLink (s : State) (p st : Nat) : State := s.setFld F.PORT_P_STAT_LINK st p

/-- Set TX_THR_CUR from TX_THR, 0 treated as 1 (R368). -/
def loadThr (s : State) (p : Nat) : State := s.setFld F.PORT_P_STAT_TX_THR_CUR (max 1 (s.fld F.PORT_P_TXTHR_TX_THR p)) p

/-- The SYS cycles that octets take on a port's line. -/
def octetTime (s : State) (p n : Nat) : Nat := (n * 8 * 1000000 + portKbps s p - 1) / portKbps s p

/-- Is a frame on a port's line: has the last octet of the frame last launched not left yet? The gap of 12 octets after it is no part of it. -/
def lineBusy (s : State) (p : Nat) : Bool := decide (s.time.sys + octetTime s p 12 < (s.portCh p).txEnd)

/-- The entry to DOWN (R371, R394): the switch core is told, and what the MAC holds is discarded. The slave port's link is valid while UP (R51). -/
def enterDown (s : State) (p : Nat) : State :=
  let c := s.portCh p
  let n := ofBit c.fifo.isSome + ofBit (lineBusy s p)
  let (end_, sent) := if lineBusy s p then (s.time.sys, none) else (c.txEnd, c.sent)
  let s := if linkState s p = lkUp then slaveLost s p else s
  let s := s.setPortCh p { c with holdAt := none, fifo := none, txing := none, under := none, txEnd := end_, sent := sent }
  let s := (setLink s p lkDown).countBy C.PORT_P_TX_FLUSHED n p
  let s := (s.count C.PORT_P_LINK_DOWNS p).event blkPort 0x0C01 0 p 0 (portMode s p)
  swcPortFlush (portFlt s p F.PORT_P_FLT_LINK_DOWN F.PORT_FLT_LINK_DOWN) p

/-- The entry to UP from UP_WAIT. -/
def enterUp (s : State) (p : Nat) : State :=
  let s := s.setPortCh p { s.portCh p with holdAt := none }
  let s := (loadThr (setLink s p lkUp) p).setFlag F.PORT_P_STAT_FLUSH_PEND false p
  let s := (s.count C.PORT_P_LINK_UPS p).event blkPort 0x0C01 0 p 1 (portMode s p)
  portFlt s p F.PORT_P_FLT_LINK_UP F.PORT_FLT_LINK_UP

/-- A hold is interrupted. -/
def portFlap (s : State) (p : Nat) : State := portFlt (s.count C.PORT_P_LINK_FLAPS p) p F.PORT_P_FLT_FLAP F.PORT_FLT_FLAP

/-- Move the link state by the up condition as it stands; `atOnce` takes the link out of UP without DOWN_HOLD. -/
def linkSettle (s : State) (p : Nat) (atOnce : Bool := false) : State :=
  let up := upCondition s p
  let st := linkState s p
  let hold (v : Nat) : State := s.setPortCh p { s.portCh p with holdAt := some (s.time.sys + v) }
  if st = lkDown && up then setLink (hold (min 1000 (s.fld F.PORT_P_LINK_UP_HOLD p) * 1000000)) p lkUpWait
  else if st = lkUpWait && !up then
    portFlap (((setLink s p lkDown).setPortCh p { s.portCh p with holdAt := none }).setFlag F.PORT_P_STAT_FLUSH_PEND false p) p
  else if st = lkUp && !up then
    let h := min 1000 (s.fld F.PORT_P_LINK_DOWN_HOLD p)
    if h = 0 || atOnce then enterDown s p else slaveLost (setLink (hold (h * 1000)) p lkDownWait) p
  else if st = lkDownWait && up then portFlap (loadThr ((setLink s p lkUp).setPortCh p { s.portCh p with holdAt := none }) p) p
  else if st = lkDownWait && atOnce then enterDown s p
  else s

/-! ## Enables (R371, R372) -/

/-- Does an EN write of 1 fail a check of R372? -/
def portRefused (s : State) (p : Nat) : Bool :=
  let m := portMode s p
  let fec := s.fld F.PORT_P_CTL_FEC p
  let len := s.fld F.PORT_P_CTL_MAX_LEN p
  decide (3 < m) || decide (fec = 3) || (decide (fec = 2) && decide (m ≠ pm25G)) || (decide (fec = 1) && decide (2 ≤ m))
    || (decide (s.fld F.PORT_P_CTL_SPEED p = 3) && decide (m = pmSgmii) && !s.flag F.PORT_P_CTL_AN_EN p)
    || decide (len < 64) || decide (9216 < len) || bitOf (s.fld F.PORT_P_SA_HI_SA p) 8

/-- PORT_ENABLE: EN written 1. -/
def portEnable (s : State) (p : Nat) : State :=
  if portCount ≤ p || s.flag F.PORT_P_CTL_EN p || (s.recovering && decide (p ≠ 7)) then s
  else if portRefused s p then portFlt s p F.PORT_P_FLT_CFG_REFUSED F.PORT_FLT_CFG_ERR
  else
    let s := loadThr (setLink (s.setFlag F.PORT_P_CTL_EN true p) p lkDown) p
    let s := (s.setFlag F.PORT_P_AN_AN_DONE false p).setFld F.PORT_P_AN_LP_ABILITY 0 p
    let s := s.setPortCh p { s.portCh p with anAck := false }
    linkSettle (s.setFld F.PORT_P_STAT_SPEED_RES (s.fld F.PORT_P_CTL_SPEED p) p) p

def execPortEnable (p : Nat) (s : State) : Host.Outcome State Fault Refusal := .next (s.live fun s => portEnable s p)

/-- PORT_DISABLE: EN written 0; UP and DOWN_WAIT pass through the entry to DOWN. -/
def portDisable (s : State) (p : Nat) : State :=
  if portCount ≤ p || !s.flag F.PORT_P_CTL_EN p then s
  else
    let st := linkState s p
    let s := if st = lkUp || st = lkDownWait then enterDown s p else s.setPortCh p { s.portCh p with holdAt := none }
    let s := s.setPortCh p { s.portCh p with oob := [] }
    (setLink (s.setFlag F.PORT_P_CTL_EN false p) p lkDisabled).setFlag F.PORT_P_STAT_FLUSH_PEND false p

def execPortDisable (p : Nat) (s : State) : Host.Outcome State Fault Refusal := .next (s.live fun s => portDisable s p)

/-- PORT_UP_CONDITION_CHANGE: the line's signals change. -/
def portCondition (s : State) (p : Nat) (los pcs hiBer fec : Bool) : State :=
  if portCount ≤ p then s
  else
    let s := (s.setFlag F.PORT_P_STAT_LOS los p).setFlag F.PORT_P_STAT_PCS_LOCK pcs p
    linkSettle ((s.setFlag F.PORT_P_STAT_HI_BER hiBer p).setFlag F.PORT_P_STAT_FEC_LOCK fec p) p

def execPortUpConditionChange (p : Nat) (los pcs hiBer fec : Bool) (s : State) : Host.Outcome State Fault Refusal :=
  .next (s.live fun s => portCondition s p los pcs hiBer fec)

/-- Has a port's hold timer ended? -/
def holdOver (s : State) (p : Nat) : Bool :=
  match (s.portCh p).holdAt with
  | some e => decide (e ≤ s.time.sys)
  | none => false

/-- UP_HOLD_EXPIRY: the port enters UP once its flush is complete. -/
def upHoldExpiry (s : State) (p : Nat) : State :=
  if linkState s p ≠ lkUpWait || !holdOver s p then s
  else if s.flag F.SWC_P_STAT_FLUSHING p then s.setFlag F.PORT_P_STAT_FLUSH_PEND true p
  else enterUp s p

def execUpHoldExpiry (p : Nat) (s : State) : Host.Outcome State Fault Refusal := .next (s.live fun s => upHoldExpiry s p)

/-- DOWN_HOLD_EXPIRY: the up condition has failed throughout DOWN_HOLD. -/
def downHoldExpiry (s : State) (p : Nat) : State :=
  if linkState s p = lkDownWait && holdOver s p then enterDown s p else s

def execDownHoldExpiry (p : Nat) (s : State) : Host.Outcome State Fault Refusal := .next (s.live fun s => downHoldExpiry s p)

/-- SWC_FLUSH_COMPLETE: the queues of a port are empty; one that waits for it enters UP (R371, R394). -/
def swcFlushComplete (s : State) (p : Nat) : State :=
  if portCount ≤ p || !s.flag F.SWC_P_STAT_FLUSHING p then s
  else
    let s := s.setFlag F.SWC_P_STAT_FLUSHING false p
    if linkState s p = lkUpWait && holdOver s p then enterUp s p else s

def execSwcFlushComplete (p : Nat) (s : State) : Host.Outcome State Fault Refusal := .next (s.live fun s => swcFlushComplete s p)

/-! ## Auto-negotiation (R357) -/

/-- AN_COMPLETE: the partner's base page or the PHY's control word has been received. Clause 37 fails without full duplex; an SGMII control word gives the
speed and is acknowledged. -/
def anComplete (s : State) (p lp : Nat) : State :=
  if portCount ≤ p || linkState s p = lkDisabled || !s.flag F.PORT_P_CTL_AN_EN p || portMode s p < pm1000X then s
  else
    let s := s.setFld F.PORT_P_AN_LP_ABILITY lp p
    if portMode s p = pm1000X then
      if bitOf lp 5 then linkSettle (s.setFlag F.PORT_P_AN_AN_DONE true p) p
      else
        let s := (s.setFlag F.PORT_P_AN_AN_DONE false p).count C.PORT_P_AN_FAILS p
        linkSettle (portFlt (s.event blkPort 0x0C04 0 p (lp % 65536)) p F.PORT_P_FLT_AN_FAIL F.PORT_FLT_AN_FAIL) p
    else
      let s := s.setPortCh p { s.portCh p with anAck := true }
      linkSettle ((s.setFld F.PORT_P_STAT_SPEED_RES (bitsOf lp 11 10) p).setFlag F.PORT_P_AN_AN_DONE true p) p

/-- The word that a port sends in auto-negotiation (R357): under Clause 37 a base page with the full-duplex bit alone, so that PAUSE and the remote fault are 0b00;
in SGMII the MAC's word, whose acknowledge bit is set once the PHY's control word has been received. That bit 0 of the SGMII word is 1 and bit 14 the acknowledge
is the SGMII specification's (PRESUMED, log 37). -/
def portAdvert (s : State) (p : Nat) : Option Nat :=
  if linkState s p = lkDisabled || !s.flag F.PORT_P_CTL_AN_EN p then none
  else if portMode s p = pm1000X then some 0x0020
  else if portMode s p = pmSgmii then some (if (s.portCh p).anAck then 0x4001 else 0x0001)
  else none

def execAnComplete (p lp : Nat) (s : State) : Host.Outcome State Fault Refusal := .next (s.live fun s => anComplete s p lp)

/-! ## Optics (R361 to R364) -/

/-- MODABS_CHANGE: the debounced level of a port's MODABS changes. -/
def modabsChange (s : State) (p : Nat) (absent : Bool) : State :=
  if portCount ≤ p || s.flag F.PORT_P_STAT_MODABS p = absent then s
  else
    let s := (s.setFlag F.PORT_P_STAT_MODABS absent p).event blkPort 0x0C02 0 p (ofBit !absent)
    linkSettle (portFlt s p F.PORT_P_FLT_MOD_CHANGE F.PORT_FLT_MOD_CHANGE) p

def execModabsChange (p : Nat) (absent : Bool) (s : State) : Host.Outcome State Fault Refusal := .next (s.live fun s => modabsChange s p absent)

/-- The level that PORT_n_TXDIS is driven to, none while it is high-impedance: low only while EN and TX_EN are both 1 (R362). -/
def portTxdis (s : State) (p : Nat) : Option Bool :=
  if s.flag F.PORT_P_CTL_EN p && s.flag F.PORT_P_CTL_TX_EN p && !s.clk.held then some false else none

/-- The level of PORT_n_I2CSEL: low during a transaction with the module of that port (R361, R364). -/
def portI2csel (s : State) (p : Nat) : Bool :=
  !(s.flag (F.PORT_I2C_STAT_BUSY.el (p / 4)) && decide (s.fld (F.PORT_I2C_CMD_PORT.el (p / 4)) = p % 4))

/-- The octets that a master sends in a transaction, under SFF-8472: the module's address for writing and OFFSET, then D0 and D1's octets of a write, or the address
for reading. -/
def i2cOctets (s : State) (k : Nat) : List Nat :=
  let dev := if s.flag (F.PORT_I2C_CMD_DEV.el k) then 0xA2 else 0xA0
  let data := octetsLE 4 (s.fld (F.PORT_I2C_D0_VAL.el k)) ++ octetsLE 4 (s.fld (F.PORT_I2C_D1_VAL.el k))
  [dev, s.fld (F.PORT_I2C_CMD_OFFSET.el k)]
    ++ if s.flag (F.PORT_I2C_CMD_WR.el k) then data.take (s.fld (F.PORT_I2C_CMD_LEN.el k) + 1) else [dev + 1]

/-- What a master sends. -/
def State.setI2cOut (s : State) (k : Nat) (l : List Nat) : State :=
  { s with port := { s.port with i2cOut := sparseSet [] s.port.i2cOut k l } }

/-- An I2C transaction ends (R364). -/
def i2cEnd (s : State) (k : Nat) (ok : Bool) : State :=
  let s := ((s.setFlag (F.PORT_I2C_STAT_BUSY.el k) false).setFlag (F.PORT_I2C_STAT_DONE.el k) ok).setFlag (F.PORT_I2C_STAT_ERR.el k) !ok
  if ok then s else (s.count C.PORT_I2C_ERRS).setFlt F.PORT_FLT_I2C_ERR

/-- I2C_CMD: a write of PORT_I2C_k_CMD. With BUSY it is ignored and sets ERR; with GO it starts a transaction, which ends at once when
the port's MODABS is high. -/
def i2cCmd (s : State) (k v : Nat) : State :=
  if 2 ≤ k then s
  else if s.flag (F.PORT_I2C_STAT_BUSY.el k) then s.setFlag (F.PORT_I2C_STAT_ERR.el k) true
  else
    let put (s : State) (f : Fld) : State := s.setFld (f.el k) (v / 2 ^ f.lo)
    let s := [F.PORT_I2C_CMD_WR, F.PORT_I2C_CMD_FAST, F.PORT_I2C_CMD_DEV, F.PORT_I2C_CMD_PORT, F.PORT_I2C_CMD_LEN,
      F.PORT_I2C_CMD_OFFSET].foldl put s
    if !bitOf v 31 then s
    else
      let s := ((s.setFlag (F.PORT_I2C_STAT_DONE.el k) false).setFlag (F.PORT_I2C_STAT_ERR.el k) false).count C.PORT_I2C_XFERS
      if s.flag F.PORT_P_STAT_MODABS (4 * k + s.fld (F.PORT_I2C_CMD_PORT.el k)) then i2cEnd s k false
      else
        (s.setI2cOut k (i2cOctets s k)).setFlag (F.PORT_I2C_STAT_BUSY.el k) true

def execI2cCmd (k v : Nat) (s : State) : Host.Outcome State Fault Refusal := .next (s.live fun s => i2cCmd s k v)

/-- I2C_DONE: a transaction ends; one that read leaves its octets in D0 and D1. -/
def i2cDone (s : State) (k : Nat) (ok : Bool) (data : List Nat) : State :=
  if 2 ≤ k || !s.flag (F.PORT_I2C_STAT_BUSY.el k) then s
  else
    let n := s.fld (F.PORT_I2C_CMD_LEN.el k) + 1
    let word (j : Nat) : Nat :=
      let old := octetsLE 4 (s.fld ((if j = 0 then F.PORT_I2C_D0_VAL else F.PORT_I2C_D1_VAL).el k))
      ofOctetsLE ((List.range 4).map fun i => if 4 * j + i < n then data.getD (4 * j + i) 0 else old.getD i 0)
    let s := if ok && !s.flag (F.PORT_I2C_CMD_WR.el k) then
        (s.setFld (F.PORT_I2C_D0_VAL.el k) (word 0)).setFld (F.PORT_I2C_D1_VAL.el k) (word 1)
      else s
    i2cEnd s k ok

def execI2cDone (k : Nat) (ok : Bool) (data : List Nat) (s : State) : Host.Outcome State Fault Refusal := .next (s.live fun s => i2cDone s k ok data)

/-! ## Equaliser, threshold and test (R359, R368, R371) -/

/-- EQ_TX_WRITE: weights whose sum is above 64 are ignored. With PORT_CTRL.LOCK set a change is a lock violation (R375). -/
def eqTxWrite (s : State) (p v : Nat) : State :=
  if portCount ≤ p then s
  else if s.flag F.PORT_CTRL_LOCK && s.fldsDiffer [F.PORT_P_EQ_TX_POST, F.PORT_P_EQ_TX_MAIN, F.PORT_P_EQ_TX_PRE] p v then s.rowLocked 12 0x214 v
  else
    let post := bitsOf v 20 16
    let main := bitsOf v 13 8
    let pre := bitsOf v 4 0
    if 64 < post + main + pre then portFlt s p F.PORT_P_FLT_CFG_REFUSED F.PORT_FLT_CFG_ERR
    else ((s.setFld F.PORT_P_EQ_TX_POST post p).setFld F.PORT_P_EQ_TX_MAIN main p).setFld F.PORT_P_EQ_TX_PRE pre p

def execEqTxWrite (p v : Nat) (s : State) : Host.Outcome State Fault Refusal := .next (s.live fun s => eqTxWrite s p v)

/-- PORT_TXTHR_WRITE: the threshold in use is set to TX_THR. With PORT_CTRL.LOCK set a change is a lock violation (R375). -/
def portTxthrWrite (s : State) (p v : Nat) : State :=
  if portCount ≤ p then s
  else if s.flag F.PORT_CTRL_LOCK && s.fldsDiffer [F.PORT_P_TXTHR_STEP, F.PORT_P_TXTHR_TX_THR] p v then s.rowLocked 12 0x210 v
  else loadThr ((s.setFld F.PORT_P_TXTHR_STEP (bitsOf v 15 8) p).setFld F.PORT_P_TXTHR_TX_THR (v % 256) p) p

def execPortTxthrWrite (p v : Nat) (s : State) : Host.Outcome State Fault Refusal := .next (s.live fun s => portTxthrWrite s p v)

/-- PORT_TEST_WRITE: a test mode takes the link out of UP at once. -/
def portTestWrite (s : State) (p v : Nat) : State :=
  if portCount ≤ p then s
  else
    let s := ((s.setFld F.PORT_P_TEST_LOOP v p).setFlag F.PORT_P_TEST_PRBS_GEN (bitOf v 4) p).setFlag F.PORT_P_TEST_PRBS_CHK (bitOf v 5) p
    linkSettle (if bitOf v 5 then s.setFld F.PORT_P_PRBS_ERR_ERRORS 0 p else s) p (portTesting s p)

def execPortTestWrite (p v : Nat) (s : State) : Host.Outcome State Fault Refusal := .next (s.live fun s => portTestWrite s p v)

/-! ## Receive path (R365 to R367) -/

/-- The wake pattern (R373). -/
def wakeMatches (f : Frame) (da tag : Nat) : Bool :=
  f.tag.isNone && f.hsr.isNone && decide (f.dst = da) && decide (f.etype = 0x88B5) &&
    match f.payload with
    | .raw o => decide (o.take 4 = [0x52, 0x41, 0x4C, 0x59]) && (decide ((o.drop 4).take 4 = octetsBE 4 tag) || decide ((o.drop 4).take 4 = [0, 0, 0, 0]))
    | _ => false

def wakeDa (s : State) : Nat := s.fld F.PORT_WAKE_DA_HI_DA * 2 ^ 32 + s.fld F.PORT_WAKE_DA_LO_DA

/-- The cells of a receive reserve (R388). -/
def rxReserve : Nat := 64

/-- Hand a received frame to the switch core, or discard it when the receive reserve is exhausted (R390). -/
def swcReceive (s : State) (p : Nat) (x : InFrame) : State :=
  let l := sparseGet [] s.swc.inq p
  let held := l.foldl (fun a y => a + frameCells y.frame.len) 0
  if rxReserve < held + frameCells x.frame.len then
    swpFlt (s.count (C.SWC_Q_FULL_DROP.cls 0) p) p F.SWC_P_FLT_FULL_DROP F.SWC_FLT_FULL_DROP
  else { s with swc := { s.swc with inq := sparsePut p (l ++ [x]) s.swc.inq } }

/-- The conditions that the line and the frame show, in the order of the receive descriptor's flags. -/
structure RxConds where
  fcs : Bool
  code : Bool
  runt : Bool
  oversize : Bool
  lenMis : Bool
  shortPre : Bool

/-- Count what a received frame shows, each condition in its counter (R365). -/
def rxCount (s : State) (p : Nat) (c : RxConds) : State :=
  let add (s : State) (b : Bool) (k : Ctr) : State := if b then s.count k p else s
  let s := add (add (add s c.fcs C.PORT_P_RX_FCS_ERR) c.code C.PORT_P_RX_CODE_ERR) c.runt C.PORT_P_RX_RUNT
  add (add (add s c.oversize C.PORT_P_RX_OVERSIZE) c.lenMis C.PORT_P_RX_LEN_MISMATCH) c.shortPre C.PORT_P_RX_SHORT_PRE

/-- Has a received frame a bad condition? -/
def RxConds.bad (c : RxConds) : Bool := c.fcs || c.code || c.runt || c.oversize

/-- The flags of the receive descriptor. -/
def RxConds.flags (c : RxConds) : Nat :=
  ofBit c.fcs + 2 * ofBit c.code + 4 * ofBit c.runt + 8 * ofBit c.oversize + 16 * ofBit c.lenMis + 32 * ofBit c.shortPre

/-- The frames with a good FCS that the MAC takes for itself: PAUSE (R358), the wake pattern (R367), and Pdelay messages, which terminate at the port (R70). -/
inductive MacKind where
  | pause | wake | pdelay
  deriving DecidableEq, Repr

/-- Which of them a frame is, if any. -/
def macTakes (s : State) (f : Frame) : Option MacKind :=
  if f.hsr.isNone && decide (f.etype = 0x8808) then some .pause
  else if wakeMatches f (wakeDa s) (s.fld F.TWIN_OWN_TAG_VAL) then some .wake
  else if isPdelay f then some .pdelay
  else none

/-- A frame that the MAC has taken is counted; a Pdelay message has no counter here. -/
def countTaken (s : State) (p : Nat) : MacKind → State
  | .pause => s.count C.PORT_P_RX_PAUSE p
  | .wake => s.count C.PORT_P_WAKE_RX p
  | .pdelay => s

/-- A frame to hand over with bad conditions: one that is too long is cut to its first MAX_LEN octets (R366). The octets of a wrong FCS are free. -/
def rxCut (s : State) (f : Frame) (c : RxConds) (max : Nat) : Frame × State :=
  if !c.oversize then (f, s)
  else if c.fcs then
    let (fcs, s) := s.takeOctets 4
    (cutFrame f fcs max, s)
  else (cutFrame f (fcsOctets (frameOctets f)) max, s)

/-- MAC_RX_FRAME: the MAC judges a received frame, with what the line showed of it: a wrong FCS, a code error, a length field that
differs from the payload's length, a short preamble. The board trim is added to its time-stamp (R71). What is discarded in any case (a fragment, PAUSE, a wake frame, a Pdelay
message) is handed over under no DELIVER_BAD; with a bad condition it counts in RX_BAD_DROPPED while DELIVER_BAD is 0 (DESIGN CHOICE, log 65). -/
def macRx (s : State) (p : Nat) (f : Frame) (st : Stamp) (fcs code lenMis shortPre : Bool) : State :=
  if portCount ≤ p || linkState s p = lkDisabled then s
  else
    let max := s.fld F.PORT_P_CTL_MAX_LEN p
    let frag := decide (f.len < 14)
    let c : RxConds := ⟨fcs, code, decide (f.len < 64) && !frag, decide (max < f.len), lenMis && decide (f.etype < 0x600),
      shortPre && decide (pm1000X ≤ portMode s p)⟩
    let s := rxCount s p c
    let s := if c.bad then portFlt s p F.PORT_P_FLT_BAD_RX F.PORT_FLT_BAD_RX else s
    let dropped (s : State) : State := if c.bad && !s.flag F.PORT_P_CTL_DELIVER_BAD p then s.count C.PORT_P_RX_BAD_DROPPED p else s
    let good (s : State) : State := if c.bad then s else (s.count C.PORT_P_RX_FRAMES p).countBy C.PORT_P_RX_OCTETS f.len p
    if frag then dropped (s.count C.PORT_P_RX_FRAGMENTS p)
    else
      match if c.fcs then none else macTakes s f with
      | some k => countTaken (dropped (good s)) p k
      | none =>
        let (st, s) := ingressStamp s p st
        if !c.bad then swcReceive (good s) p { frame := f, stamp := st, flags := c.flags, bad := false, wire := f.len }
        else if s.flag F.PORT_P_CTL_DELIVER_BAD p then
          let (g, s) := rxCut (s.count C.PORT_P_RX_BAD_DELIVERED p) f c max
          swcReceive s p { frame := g, stamp := st, flags := c.flags, bad := true, wire := f.len }
        else dropped s

def execMacRxFrame (p : Nat) (f : Frame) (st : Stamp) (fcs code lenMis shortPre : Bool) (s : State) :
    Host.Outcome State Fault Refusal := .next (s.live fun s => macRx s p f st fcs code lenMis shortPre)

/-! ## Transmit path (R368 to R370) -/

/-- The SYS cycles that a frame takes on a port's line, with preamble and gap. -/
def lineTime (s : State) (p len : Nat) : Nat := octetTime s p (len + 20)

/-- Launch a frame on an idle line. -/
def launch (s : State) (p : Nat) (f : Frame) (x : Option SwCopy) : State :=
  let c := s.portCh p
  let s := s.setPortCh p { c with txing := x, txEnd := s.time.sys + lineTime s p f.len, sent := some f, under := none, broken := [] }
  (s.count C.PORT_P_TX_FRAMES p).countBy C.PORT_P_TX_OCTETS f.len p

/-- The octets that the FIFO must hold for the MAC to start a frame (R368). -/
def startLevel (s : State) (p len : Nat) : Nat :=
  let t := s.fld F.PORT_P_STAT_TX_THR_CUR p
  if t = 0xFF then len else min len (t * 64)

/-- MAC_TX_START: the MAC starts the frame in its FIFO, which holds `fill` octets of it, once the last one has left. -/
def macTxStart (s : State) (p fill : Nat) : State :=
  let c := s.portCh p
  match c.fifo with
  | none => s
  | some x =>
    if s.time.sys < c.txEnd || fill < startLevel s p x.frame.len then s
    else
      let (f, s) := egressFrame (s.setPortCh p { c with fifo := none }) p x
      launch s p f (some x)

def execMacTxStart (p fill : Nat) (s : State) : Host.Outcome State Fault Refusal := .next (s.live fun s => macTxStart s p fill)

/-- Start the frame in a port's FIFO, wholly received from the switch core, when it is a PTP message of the kind asked for. -/
def startPtp (s : State) (p : Nat) (kind : PtpMsg → Bool) : State :=
  match (s.portCh p).fifo with
  | some x =>
    match ptpOf x.frame with
    | some m => if kind m && s.flag F.TIME_P_CTRL_TC_EN p then macTxStart s p x.frame.len else s
    | none => s
  | none => s

/-- SYNC_EGRESS_CORRECT: a one-step Sync leaves a port and is corrected as it passes (R64 to R67). -/
def syncEgressCorrect (s : State) (p : Nat) : State := startPtp s p fun m => decide (m.msgType = ptpSync) && !m.twoStep

def execSyncEgressCorrect (p : Nat) (s : State) : Host.Outcome State Fault Refusal := .next (s.live fun s => syncEgressCorrect s p)

/-- TWO_STEP_SYNC_RECORD: a two-step Sync leaves a port unchanged and its correction is recorded (R68). -/
def twoStepSyncRecord (s : State) (p : Nat) : State := startPtp s p fun m => decide (m.msgType = ptpSync) && m.twoStep

def execTwoStepSyncRecord (p : Nat) (s : State) : Host.Outcome State Fault Refusal := .next (s.live fun s => twoStepSyncRecord s p)

/-- FOLLOW_UP_EGRESS: a Follow_Up leaves a port with the recorded correction added, or unchanged (R67, R69). -/
def followUpEgress (s : State) (p : Nat) : State := startPtp s p fun m => decide (m.msgType = ptpFollowUp)

def execFollowUpEgress (p : Nat) (s : State) : Host.Outcome State Fault Refusal := .next (s.live fun s => followUpEgress s p)

/-- The frame in transmission is ended at once: the octets sent so far, then the complement of their FCS. What the rule counts is counted when these four octets
have left (step 4 of the worked example), so that a frame that the entry to DOWN discards before counts only in TX_FLUSHED (R371). `raise` is
whether TX_THR_CUR then rises. -/
def txCut (s : State) (p : Nat) (raise : Bool) : State :=
  let c := s.portCh p
  match c.txing, c.sent with
  | some _, some f =>
    if !lineBusy s p || c.under.isSome then s
    else
      let gone := s.time.sys + lineTime s p f.len - c.txEnd
      let octs := (frameOctets f).take (gone * portKbps s p / 8000000 - 8)
      s.setPortCh p { c with txing := none, sent := none, under := some (s.time.sys + octetTime s p 4, raise)
                             broken := octs ++ (fcsOctets octs).map (255 - ·), txEnd := s.time.sys + octetTime s p 16 }
  | _, _ => s

/-- The frame that an underrun has ended has left. -/
def underEnd (s : State) (p : Nat) : State :=
  let c := s.portCh p
  match c.under with
  | none => s
  | some (e, raise) =>
    if s.time.sys < e then s
    else
      let cur := s.fld F.PORT_P_STAT_TX_THR_CUR p
      let thr := if raise then min 0xFF (cur + s.fld F.PORT_P_TXTHR_STEP p) else cur
      let s := ((s.setPortCh p { c with under := none }).setFld F.PORT_P_STAT_TX_THR_CUR thr p).count C.PORT_P_TX_UNDERRUN p
      let s := if s.flag F.PORT_P_FLT_TX_UNDERRUN p then s else s.event blkPort 0x0C03 0 p thr
      portFlt s p F.PORT_P_FLT_TX_UNDERRUN F.PORT_FLT_TX_UNDERRUN

/-- TX_UNDERRUN: the FIFO empties before the end of a frame in transmission (R369). -/
def txUnderrun (s : State) (p : Nat) : State := txCut s p true

def execTxUnderrun (p : Nat) (s : State) : Host.Outcome State Fault Refusal := .next (s.live fun s => txUnderrun s p)

/-- Can a port's PCS carry a frame that does not pass through its queues (R370)? No frame is sent in place of PRBS31. The rule states the condition for wake frames; it is taken
for Pdelay messages too (DESIGN CHOICE, log 65). -/
def oobReady (s : State) (p : Nat) : Bool :=
  let m := portMode s p
  let st := linkState s p
  !s.flag F.PORT_P_TEST_PRBS_GEN p
    && (decide (st = lkUp) || (decide (st ≠ lkDisabled) && (decide (m ≤ pm10G) || (decide (m = pm1000X) && !s.flag F.PORT_P_CTL_AN_EN p))))

end Sys2Proof.Machine
end

