-- ==== Sys2Proof/Machine/Swc.lean ====
section
/-! DEFINITION. The switch core (chapter 13): classification, forwarding, learning, redundancy, admission and its tables. -/

namespace Sys2Proof.Machine

/-! ## Pairs (R397) -/

def modePrp : Nat := 1
def modeHsr : Nat := 2

/-- The redundancy mode in which a physical port's pair is enabled, else 0. -/
def pairMode (s : State) (p : Nat) : Nat :=
  if p < 8 && s.flag F.SWC_R_CTL_EN (p / 2) then s.fld F.SWC_R_CTL_MODE (p / 2) else 0

/-- The switch port that stands for a port: port A for both ports of an enabled pair. -/
def canonPort (s : State) (p : Nat) : Nat := if pairMode s p = 0 then p else p / 2 * 2

/-- PAIR_ENABLE: EN written 1, refused for MODE NONE or 0b11 and when the source addresses differ. With SWC_CTRL.LOCK set it is a lock
violation (R409). -/
def pairEnable (s : State) (k : Nat) : State :=
  if 4 ≤ k || s.flag F.SWC_R_CTL_EN k then s
  else if s.flag F.SWC_CTRL_LOCK then s.rowLocked 13 0x200 0x80000000
  else
    let m := s.fld F.SWC_R_CTL_MODE k
    if (m = modePrp || m = modeHsr) && portSa s (2 * k) = portSa s (2 * k + 1) then s.setFlag F.SWC_R_CTL_EN true k
    else (s.setFlag F.SWC_R_FLT_CFG_REFUSED true k).setFlt F.SWC_FLT_CFG_ERR

def execPairEnable (k : Nat) (s : State) : Host.Outcome State Fault Refusal := .next (s.live fun s => pairEnable s k)

/-! ## The VLAN table, the FDB and the multicast table (R380, R382, R385) -/

def VlanEnt.reset : VlanEnt :=
  { valid := false, member := 0, untag := 0, floodUc := false, floodMc := false, sv := false, go := false, loop := false, owner := 0 }

def State.vlan (s : State) (v : Nat) : VlanEnt := sparseGet VlanEnt.reset s.swc.vlans v

/-- The VID that a frame belongs to at a switch port. -/
def frameVid (s : State) (sp : Nat) (f : Frame) : Nat :=
  match f.tag with
  | some t => if t.vid = 0 then s.fld F.SWC_P_CTL_PVID (canonPort s sp) else t.vid
  | none => s.fld F.SWC_P_CTL_PVID (canonPort s sp)

/-- The PCP of a frame at a switch port, and the class that its PCPMAP gives. -/
def framePcp (s : State) (sp : Nat) (f : Frame) : Nat :=
  match f.tag with
  | some t => t.pcp
  | none => s.fld F.SWC_P_CTL_DEF_PCP sp
def pcpClass (s : State) (sp pcp : Nat) : Nat := s.fld F.SWC_P_PCPMAP_MAP sp / 8 ^ pcp % 8

/-- Is an address multicast or broadcast? -/
def isMulticast (a : Nat) : Bool := bitOf a 40

/-- The bucket of a key. -/
def fdbBucket (addr vid : Nat) : Nat := Config.fdbHash addr vid % 4096

/-- The index and entry of a key in the FDB. -/
def fdbFind (s : State) (addr vid : Nat) : Option (Nat × FdbEnt) :=
  ((List.range 4).map fun w => fdbBucket addr vid * 4 + w).findSome? fun i =>
    match sparseFind i s.swc.fdb with
    | some e => if e.addr = addr && e.vid = vid then some (i, e) else none
    | none => none

def State.setFdb (s : State) (i : Nat) (e : FdbEnt) : State := { s with swc := { s.swc with fdb := sparsePut i e s.swc.fdb } }
def State.delFdb (s : State) (i : Nat) : State := { s with swc := { s.swc with fdb := sparseDel i s.swc.fdb } }

/-- The older of two learned entries by last refresh. -/
def olderWay (s : State) (best : Option (Nat × Nat)) (i : Nat) : Option (Nat × Nat) :=
  match sparseFind i s.swc.fdb with
  | some e =>
    if e.static then best
    else match best with
      | some (_, t) => if e.last < t then some (i, e.last) else best
      | none => some (i, e.last)
  | none => best

/-- Where a new entry of a key goes: a free way of its bucket, else the oldest learned one; none when all four are static. -/
def fdbPlace (s : State) (addr vid : Nat) : Option Nat :=
  let ways := (List.range 4).map fun w => fdbBucket addr vid * 4 + w
  match ways.find? fun i => (sparseFind i s.swc.fdb).isNone with
  | some i => some i
  | none => (ways.foldl (olderWay s) none).map Prod.fst

/-- Learn a good frame's source address at a physical port (R385, R397). -/
def swcLearn (s : State) (p vid src : Nat) : State :=
  if !s.flag F.SWC_P_CTL_LEARN p || isMulticast src then s
  else
    let e : FdbEnt := { static := false, addr := src, vid := vid, port := canonPort s p, last := s.time.sys }
    match fdbFind s src vid with
    | some (i, o) =>
      if o.static then s
      else
        let s := if canonPort s o.port = canonPort s p then s else s.count C.SWC_MOVES
        s.setFdb i e
    | none =>
      match fdbPlace s src vid with
      | some i => (s.setFdb i e).count C.SWC_LEARNED
      | none =>
        let s := s.count C.SWC_LEARN_FULL
        let s := if s.flag F.SWC_FLT_LEARN_FULL then s else s.event blkSwc 0x0D02 0 p
        s.setFlt F.SWC_FLT_LEARN_FULL

/-- FDB_AGE_OUT: a learned entry not refreshed for AGE_TIME is removed. -/
def fdbAgeOut (s : State) (i : Nat) : State :=
  let age := s.fld F.SWC_CTRL_AGE_TIME
  match sparseFind i s.swc.fdb with
  | some e =>
    if e.static || age = 0 || s.time.sys < e.last + age * 1000000000 then s else (s.delFdb i).count C.SWC_AGED
  | none => s

def execFdbAgeOut (i : Nat) (s : State) : Host.Outcome State Fault Refusal := .next (s.live fun s => fdbAgeOut s i)

/-- FLUSH_FDB_ALL: every learned entry is removed. -/
def flushFdbAll (s : State) : State := { s with swc := { s.swc with fdb := s.swc.fdb.filter fun e => e.2.static } }

def execFlushFdbAll (s : State) : Host.Outcome State Fault Refusal := .next (s.live fun s => flushFdbAll s)

/-- FLUSH_FDB_PORT: the learned entries of the selected switch port are removed. -/
def flushFdbPort (s : State) : State :=
  if s.fld F.SWC_SEL_KIND ≠ 0 then s
  else
    let p := canonPort s (s.fld F.SWC_SEL_INDEX)
    { s with swc := { s.swc with fdb := s.swc.fdb.filter fun e => e.2.static || decide (canonPort s e.2.port ≠ p) } }

def execFlushFdbPort (s : State) : Host.Outcome State Fault Refusal := .next (s.live fun s => flushFdbPort s)

/-- The MEMBER bits of a VLAN with the B ports of enabled pairs ignored. -/
def memberMask (s : State) (e : VlanEnt) : List Nat :=
  (List.range 9).filter fun d => bitOf e.member d && decide (canonPort s d = d)

/-- The forwarding destinations of R382, with `dst` as the address looked up and `sp` the port that stands for the ingress. -/
def forwardSet (s : State) (sp vid dst : Nat) (e : VlanEnt) : List Nat :=
  let members := (memberMask s e).filter fun d => decide (d ≠ sp)
  if isMulticast dst then
    match s.swc.mc.find? fun m => m.2.vid = vid && m.2.addr = dst with
    | some (_, m) => members.filter (bitOf m.mask)
    | none => if e.floodMc then members else []
  else
    match fdbFind s dst vid with
    | some (_, f) => [canonPort s f.port].filter fun d => decide (d ≠ sp) && decide (d < 9)
    | none => if e.floodUc then members else []

/-! ## Duplicate discard (R398, R399) -/

/-- The lifetime of a pair's entries in SYS cycles. -/
def ddLife (s : State) (k : Nat) : Nat := max 1 (s.fld F.SWC_R_CTL_FORGET k) * 1000000

def State.ddTab (s : State) (k : Nat) : List DdEnt := sparseGet [] s.swc.dd k
def State.setDd (s : State) (k : Nat) (l : List DdEnt) : State :=
  { s with swc := { s.swc with dd := sparseSet [] s.swc.dd k l } }

/-- The entries of a pair that still live. -/
def ddLive (s : State) (k : Nat) : List DdEnt := (s.ddTab k).filter fun e => decide (s.time.sys < e.last + ddLife s k)

/-- The live entry of a frame. -/
def ddFind (s : State) (k src seq : Nat) : Option DdEnt := (ddLive s k).find? fun e => e.src = src && e.seq = seq

/-- Enter or use an entry: it becomes the most recently used; a full table evicts its oldest. -/
def ddPut (s : State) (k : Nat) (e : DdEnt) : State :=
  let l := (ddLive s k).filter fun x => !(x.src = e.src && x.seq = e.seq)
  let e := { e with last := s.time.sys }
  if l.length < 8192 then s.setDd k (l ++ [e])
  else ((((s.setDd k (l.drop 1 ++ [e])).count C.SWC_R_DD_EVICT k).setFlag F.SWC_R_FLT_DD_EVICT true k)).setFlt F.SWC_FLT_DD_EVICT

/-- DD_ENTRY_EXPIRE: the entries of a pair that have reached FORGET leave its table. -/
def ddEntryExpire (s : State) (k : Nat) : State := if 4 ≤ k then s else s.setDd k (ddLive s k)

def execDdEntryExpire (k : Nat) (s : State) : Host.Outcome State Fault Refusal := .next (s.live fun s => ddEntryExpire s k)

/-! ## Tags (R384, R400 to R403) -/

/-- The octets of a frame's LSDU with 6 octets of redundancy tag or trailer, as LSDUsize carries them. -/
def lsduSize (f : Frame) : Nat := (f.len - 18 - (if f.tag.isSome then 4 else 0) + 6) % 4096

/-- A frame as a copy for a physical port carries it in its VLAN: untagged, or tagged with the VLAN's VID and the frame's PCP. -/
def tagFor (e : VlanEnt) (port vid pcp : Nat) (f : Frame) : Frame :=
  if bitOf e.untag port then
    match f.tag with
    | some _ => { f with tag := none, len := f.len - 4 }
    | none => f
  else
    match f.tag with
    | some t => { f with tag := some { t with pcp := pcp, vid := vid } }
    | none => { f with tag := some { pcp := pcp, dei := false, vid := vid }, len := f.len + 4 }

/-- A frame with the redundancy tag or trailer of a pair port: a trailer goes after whatever the payload ends with (R401), a tag before whatever follows the
802.1Q tag (R403). -/
def withRedundancy (mode port seq : Nat) (f : Frame) : Frame :=
  if mode = modePrp then
    { f with prp := f.prp ++ [{ seq := seq, lan := if port % 2 = 0 then 0xA else 0xB, size := lsduSize f }], len := f.len + 6 }
  else
    let f := hsrAsPayload f
    { f with hsr := some { path := 0, size := lsduSize f, seq := seq }, len := f.len + 6 }

/-! ## Admission (R389 to R391) -/

/-- A frame at admission: the port that stands for its ingress, the frame without its HSR tag or PRP trailer, its classification, its time-stamp and
flags, its octets on the wire, the cells it occupies, and the sequence number that another pair gave it. -/
structure AdmFrame where
  sp : Nat
  inPort : Nat
  frame : Frame
  stamp : Stamp
  vid : Nat
  pcp : Nat
  cls : Nat
  part : Nat
  flags : Nat
  wire : Nat
  cells : Nat
  seqIn : Option Nat
  deriving DecidableEq, Repr

/-- What became of a frame's copies. -/
structure AdmCount where
  admitted : Nat
  dropped : Nat
  deriving DecidableEq, Repr

/-- A copy of a frame. -/
def AdmFrame.copy (a : AdmFrame) (f : Frame) : SwCopy :=
  { frame := f, inPort := a.inPort, stamp := a.stamp, wire := a.wire, cells := a.cells, pool := false, part := a.part, cls := a.cls, vid := a.vid,
    pcp := a.pcp, flags := a.flags }

/-- Queue one copy and count what became of it. -/
def admitCopy (r : AdmCount × State) (e : Nat) (x : SwCopy) : AdmCount × State :=
  let (ok, s) := queueCopy r.2 e x
  (if ok then { r.1 with admitted := r.1.admitted + 1 } else { r.1 with dropped := r.1.dropped + 1 }, s)

/-- The frame as a physical port sends it; a frame of the GOOSE engine takes the source address of its port. -/
def outFrame (s : State) (a : AdmFrame) (v : VlanEnt) (port e : Nat) : Frame :=
  let f := tagFor v port a.vid a.pcp a.frame
  if a.sp = swGoose then { f with src := portSa s e } else f

/-- The copy of a frame for one port of an enabled pair, dropped when it is too long with its tag or trailer (R400). -/
def admitPair (a : AdmFrame) (v : VlanEnt) (mode seq : Nat) (r : AdmCount × State) (e : Nat) : AdmCount × State :=
  let f := withRedundancy mode e seq (outFrame r.2 a v (e / 2 * 2) e)
  if r.2.fld F.PORT_P_CTL_MAX_LEN e < f.len then
    ({ r.1 with dropped := r.1.dropped + 1 }, r.2.count C.SWC_P_TAG_OVERSIZE e)
  else admitCopy r e (a.copy f)

/-- The copies of a frame for a destination of R382: one for a plain port or the CPU port, one on each port of a pair with one sequence
number, entered as SENT (R398, R399, R401, R403). -/
def admitDest (a : AdmFrame) (v : VlanEnt) (r : AdmCount × State) (d : Nat) : AdmCount × State :=
  let mode := pairMode r.2 d
  if 8 ≤ d then admitCopy r d (a.copy a.frame)
  else if mode = 0 then admitCopy r d (a.copy (outFrame r.2 a v d d))
  else
    let k := d / 2
    let seq := a.seqIn.getD (r.2.fld F.SWC_R_STAT_SEQ k)
    let (c, s) := admitPair a v mode seq (admitPair a v mode seq r (2 * k)) (2 * k + 1)
    if c.admitted = r.1.admitted then (c, s)
    else
      let src := (outFrame s a v d d).src
      let s := ddPut s k { src := src, seq := seq, sent := true, dirs := 3, last := 0 }
      (c, if a.seqIn.isSome then s else (s.setFld F.SWC_R_STAT_SEQ (seq + 1) k).count C.SWC_R_SEQ_TX k)

/-- The internal ports that take a frame by its EtherType (R383). -/
def localSet (a : AdmFrame) (v : VlanEnt) (etype : Nat) (ptp : Bool) : List Nat :=
  let phys : Bool := a.inPort < 8
  (if etype = 0x88BA && v.sv && phys then [swSvi] else [])
    ++ (if etype = 0x88B8 && v.go && (phys || (a.inPort = swGoose && v.loop)) then [swGoose] else [])
    ++ (if ptp && phys then [swPtp] else [])

/-- The reserved addresses of R381. -/
def reservedDa (a : Nat) : Bool := decide (a / 16 = 0x0180C200000)

/-- The destinations of a frame (R381 to R383): the forwarding destinations, the internal ports, and whether it goes to partition 0
only. -/
def destsOf (s : State) (a : AdmFrame) (v : VlanEnt) (etype : Nat) : List Nat × Bool :=
  let f := a.frame
  let m := ptpOf f
  let loc := localSet a v etype m.isSome
  if reservedDa f.dst then
    match m with
    | some m =>
      if m.msgType = ptpSync || m.msgType = ptpFollowUp then
        ((forwardSet s a.sp a.vid ptpDa0 v).filter (fun d => decide (d < 8)) ++ loc, false)
      else (loc, false)
    | none => ([swCpu], true)
  else (forwardSet s a.sp a.vid f.dst v ++ loc, false)

/-- The outcome of an admission. -/
inductive AdmOut where
  | sent | noRoute | refused | discarded
  deriving DecidableEq, Repr

/-- The counters of a frame's admission at a switch port (R382, R391). -/
def admClose (sp : Nat) (r : AdmCount × State) : AdmOut × State :=
  let (c, s) := r
  if c.admitted = 0 && c.dropped = 0 then (.noRoute, s.count C.SWC_P_NO_ROUTE sp)
  else if c.admitted = 0 then (.refused, s.count C.SWC_REFUSED_ALL)
  else
    let s := s.count C.SWC_P_ADMITTED sp
    (.sent, if c.dropped = 0 then s else (s.count C.SWC_PARTIAL).setFlt F.SWC_FLT_PARTIAL)

/-- Send a frame to its destinations. -/
def admitAll (r : AdmCount × State) (a : AdmFrame) (v : VlanEnt) (etype : Nat) : AdmCount × State :=
  let (ds, cpu0) := destsOf r.2 a v etype
  ds.foldl (admitDest (if cpu0 then { a with part := 0 } else a) v) r

def admZero : AdmCount := { admitted := 0, dropped := 0 }

/-- Admit a frame of the GOOSE or the CPU port (R234, R380, R389, R407, R408). -/
def swcAdmit (s : State) (sp : Nat) (f : Frame) (part cls pcp : Nat) : AdmOut × State :=
  if !s.flag F.SWC_CTRL_EN then (.refused, s)
  else
    let s := s.count C.SWC_FRAMES_IN
    let vid := frameVid s sp f
    let v := s.vlan vid
    if !v.valid || !bitOf v.member sp then (.discarded, (s.count C.SWC_P_VLAN_DROP sp).setFlag F.SWC_P_FLT_VLAN_DROP true sp)
    else
      let a : AdmFrame := { sp := sp, inPort := sp, frame := f, stamp := s.stamp, vid := vid, pcp := pcp, cls := cls, part := part, flags := 0,
                            wire := f.len, cells := frameCells f.len, seqIn := none }
      admClose sp (admitAll (admZero, s) a v f.etype)

/-- Is a frame a PTP event message (R59)? -/
def isPtpEvent (f : Frame) : Bool :=
  match ptpOf f with
  | some m => decide (m.msgType < 4)
  | none => false

/-- A later copy goes no further than the PTP port, and there only a PTP event message (R59, R402, R404). -/
def admitLater (r : AdmCount × State) (a : AdmFrame) (v : VlanEnt) (p : Nat) : AdmCount × State :=
  let r := (r.1, r.2.count (if p % 2 = 0 then C.SWC_R_DD_DISCARD_A else C.SWC_R_DD_DISCARD_B) (p / 2))
  if isPtpEvent a.frame then admitDest a v r swPtp else r

/-- Close the admission of a later copy: only copies that there were are counted. -/
def closeLater (sp : Nat) (r : AdmCount × State) : State :=
  if r.1.admitted = 0 && r.1.dropped = 0 then r.2 else (admClose sp r).2

/-- Ring forwarding (R404): the copy goes unchanged to the opposite ring port unless the frame has been sent in that direction or is
unicast to the CPU port or to a port outside the pair. Longer than that port's MAX_LEN it is dropped (R400). -/
def ringForward (r : AdmCount × State) (a : AdmFrame) (f : Frame) (p : Nat) (e : DdEnt) : AdmCount × State :=
  let s := r.2
  let opp := if p % 2 = 0 then p + 1 else p - 1
  let away : Bool := !isMulticast f.dst && match fdbFind s f.dst a.vid with
    | some (_, x) => decide (canonPort s x.port ≠ canonPort s p)
    | none => false
  let keep : Bool := reservedDa f.dst && match ptpOf f with
    | some m => !(m.msgType = ptpSync || m.msgType = ptpFollowUp)
    | none => true
  if bitOf e.dirs (opp % 2) || away || keep then r
  else if s.fld F.PORT_P_CTL_MAX_LEN opp < f.len then
    ({ r.1 with dropped := r.1.dropped + 1 }, s.count C.SWC_P_TAG_OVERSIZE opp)
  else
    let (c, s) := admitCopy r opp (a.copy f)
    (c, if c.admitted = r.1.admitted then s else ddPut (s.count C.SWC_R_RING_FWD (p / 2)) (p / 2) { e with dirs := e.dirs ||| 2 ^ (opp % 2) })

/-- The EtherType that the switch core sees of a frame whose HSR tag is none that it recognises (R379). -/
def plainType (f : Frame) : Nat := if f.hsr.isSome then 0x892F else f.etype

/-- The frame without its HSR tag. -/
def bareHsr (f : Frame) : Frame := if f.hsr.isSome then { f with hsr := none, len := f.len - 6 } else f

/-- The frame without its outermost PRP trailer. -/
def barePrp (f : Frame) : Frame := if f.prp.isEmpty then f else { f with prp := f.prp.dropLast, len := f.len - 6 }

/-- The PRP trailer of a received frame: its suffix and a correct LSDUsize (R402). -/
def prpTrailerOf (f : Frame) : Option PrpTrailer :=
  match f.prp.getLast? with
  | some t => if t.size = lsduSize (barePrp f) then some t else none
  | none => none

/-- The LanId of a PRP port. -/
def lanId (p : Nat) : Nat := if p % 2 = 0 then 0xA else 0xB

/-- A frame received at a port, as an internal port receives it (R384): without the HSR tag or PRP trailer that the port recognises (R379). -/
def bareFrame (s : State) (p : Nat) (f : Frame) : Frame :=
  let mode := pairMode s p
  if mode = modeHsr then bareHsr f
  else if mode = modePrp && (prpTrailerOf f).any fun t => decide (t.lan = lanId p) then barePrp f
  else f

/-- A frame of a PRP port with a matching trailer (R402). -/
def prpFrame (s : State) (a : AdmFrame) (v : VlanEnt) (p : Nat) (t : PrpTrailer) : State :=
  let k := p / 2
  let a := { a with frame := barePrp a.frame, seqIn := some t.seq }
  match ddFind s k a.frame.src t.seq with
  | some e => closeLater p (admitLater (admZero, ddPut s k e) a v p)
  | none =>
    let s := ddPut s k { src := a.frame.src, seq := t.seq, sent := false, dirs := 0, last := 0 }
    (admClose p (admitAll (admZero, swcLearn s p a.vid a.frame.src) a v (plainType a.frame))).2

/-- A tagged frame of an HSR port (R404). -/
def hsrFrame (s : State) (a : AdmFrame) (v : VlanEnt) (p : Nat) (t : HsrTag) : State :=
  let k := p / 2
  let f := a.frame
  let b := { a with frame := bareHsr f, seqIn := some t.seq }
  match ddFind s k f.src t.seq with
  | some e =>
    if e.sent then (ddPut s k e).count C.SWC_R_OWN_DROP k
    else closeLater p (ringForward (admitLater (admZero, ddPut s k e) b v p) a f p e)
  | none =>
    let e : DdEnt := { src := f.src, seq := t.seq, sent := false, dirs := 0, last := 0 }
    let s := swcLearn (ddPut s k e) p a.vid f.src
    (admClose p (ringForward (admitAll (admZero, s) b v f.etype) a f p e)).2

/-- A good frame that has passed its VLAN check at a physical port (R379, R397 to R404). -/
def physFrame (s : State) (a : AdmFrame) (v : VlanEnt) (p : Nat) : State :=
  let mode := pairMode s p
  let plain (s : State) : State :=
    (admClose p (admitAll (admZero, swcLearn s p a.vid a.frame.src) a v (plainType a.frame))).2
  if mode = modePrp then
    match prpTrailerOf a.frame with
    | some t =>
      if t.lan = lanId p then prpFrame s a v p t
      else plain ((s.count C.SWC_R_WRONG_LAN (p / 2)).setFlag F.SWC_R_FLT_WRONG_LAN true (p / 2))
    | none => plain s
  else if mode = modeHsr then
    match a.frame.hsr with
    | some t => hsrFrame s a v p t
    | none => (s.count C.SWC_R_NO_TAG (p / 2)).setFlag F.SWC_R_FLT_NO_TAG true (p / 2)
  else plain s

/-- A frame received at a physical port is classified, its destinations formed and its copies admitted. A bad one goes only to partition 0
through the CPU port (R366, R380). -/
def physAdmit (s : State) (p : Nat) (x : InFrame) : State :=
  if !s.flag F.SWC_CTRL_EN then s.count C.SWC_DISABLED_DROP
  else
    let s := s.count C.SWC_FRAMES_IN
    let f := x.frame
    let vid := frameVid s p f
    let pcp := framePcp s p f
    let v := s.vlan vid
    let a : AdmFrame := { sp := canonPort s p, inPort := p, frame := f, stamp := x.stamp, vid := vid, pcp := pcp, cls := pcpClass s p pcp,
                          part := v.owner, flags := x.flags, wire := x.wire, cells := frameCells f.len, seqIn := none }
    if x.bad then (admClose p (admitDest { a with part := 0, frame := bareFrame s p f } v (admZero, s) swCpu)).2
    else if (!v.valid || !bitOf v.member (canonPort s p)) && (ptpOf f).isNone then
      (s.count C.SWC_P_VLAN_DROP p).setFlag F.SWC_P_FLT_VLAN_DROP true p
    else physFrame s a (if v.valid then v else VlanEnt.reset) p

/-- SWC_FRAME_ADMIT: the oldest frame that has been received at a switch port is decided. -/
def swcFrameAdmit (s : State) (sp : Nat) : State :=
  match sparseGet [] s.swc.inq sp with
  | [] => s
  | x :: t => physAdmit { s with swc := { s.swc with inq := sparseSet [] s.swc.inq sp t } } sp x

def execSwcFrameAdmit (sp : Nat) (s : State) : Host.Outcome State Fault Refusal := .next (s.live fun s => swcFrameAdmit s sp)

/-! ## Transmission (R384, R386, R396) -/

/-- A copy as an internal port receives it. -/
def rxFrame (s : State) (x : SwCopy) : RxFrame :=
  { frame := x.frame, stamp := s.stepped x.stamp, wire := x.wire, port := x.inPort, kbps := if x.inPort < 8 then portKbps s x.inPort else 25000000, tag := x.part }

/-- Does the time base pass a PTP message on to partition 0 (R383)? -/
def ptpPassed (f : Frame) : Bool :=
  match ptpOf f with
  | some m => decide (m.msgType = ptpAnnounce) || decide (m.msgType = ptpSignaling) || decide (m.msgType = ptpSync)
      || decide (m.msgType = ptpFollowUp)
  | none => false

/-- Hand a copy to its egress port: the MAC's FIFO, the CPU port, Estuary, the GOOSE engine or the time base. -/
def handCopy (s : State) (e : Nat) (x : SwCopy) : State :=
  if e < 8 then s.setPortCh e { s.portCh e with fifo := some x }
  else if e = swSvi then { s with svi := { s.svi with inbox := s.svi.inbox ++ [rxFrame s x] } }
  else if e = swGoose then { s with goose := { s.goose with inbox := s.goose.inbox ++ [rxFrame s x] } }
  else if e = swPtp && !ptpPassed x.frame then s
  else { s with swc := { s.swc with cpuIn := s.swc.cpuIn ++ [if e = swPtp then { x with part := 0 } else x] } }

/-- The flags, counter and record of a double-bit error in a cell read (R396). -/
def cellUe (s : State) (e cls : Nat) : State := ((s.count C.SWC_ECC_UE).setFlt F.SWC_FLT_ECC_UE).event blkSwc 0x0D01 0 e cls

/-- A double-bit error in the cells of the copy that the MAC holds (R396): in transmission it is ended as in an underrun, with TX_THR_CUR unchanged; not yet started
it is discarded. -/
def macCellUe (s : State) (e : Nat) : State :=
  let c := s.portCh e
  match c.txing, c.fifo with
  | some x, none => if lineBusy s e then cellUe (txCut s e false) e x.cls else s
  | _, some x => cellUe (s.setPortCh e { c with fifo := none }) e x.cls
  | none, none => s

/-- SWC_TX_COPY: a port's scheduler sends its next copy, to a physical port when its line is idle, so that a copy of class 7 never waits for more than the one in
transmission (R387). What the cell read meets is `ecc`: 1 a single-bit error, corrected; 2 a double-bit error in the copy not yet started, which is discarded;
3 one in the copy that the MAC holds. -/
def swcTxCopy (s : State) (e ecc : Nat) : State :=
  if 12 ≤ e then s
  else if ecc = 3 then macCellUe s e
  else if (s.portCh e).fifo.isSome || !portTakes s e || s.time.sys < (s.portCh e).txEnd then s
  else match takeCopy s e with
    | none => s
    | some (x, s) =>
      if ecc = 2 then cellUe s e x.cls
      else handCopy (if ecc = 1 then (s.count C.SWC_ECC_CE).setFlt F.SWC_FLT_ECC_CE else s) e x

def execSwcTxCopy (e ecc : Nat) (s : State) : Host.Outcome State Fault Refusal := .next (s.live fun s => swcTxCopy s e ecc)

/-! ## Enables (R405, R409) -/

/-- SWC_ENABLE: EN written 1 checks the queue limits. -/
def swcEnable (s : State) : State :=
  let bad (e c : Nat) : Bool := decide (qMax s e c < qMin s e c) || decide (queueCells < qMax s e c)
  if s.flag F.SWC_CTRL_EN || s.recovering then s
  else if ((List.range 12).any fun e => (List.range 8).any (bad e)) || decide (60800 < sumMin s) then s.setFlt F.SWC_FLT_CFG_ERR
  else s.setFlag F.SWC_CTRL_EN true

/-- SWC_ENABLE as a command of its own: with LOCK set it is a lock violation (R409). -/
def swcEnableRow (s : State) : State := if s.flag F.SWC_CTRL_LOCK && !s.flag F.SWC_CTRL_EN then s.rowLocked 13 0 1 else swcEnable s

def execSwcEnable (s : State) : Host.Outcome State Fault Refusal := .next (s.live fun s => swcEnableRow s)

/-- RING_ENABLE: a write of RX_EN and TX_EN; a 1 is refused for a SIZE_LOG outside 4 to 12. -/
def ringEnable (s : State) (p : Nat) (rx tx : Bool) : State :=
  let one (s : State) (f size : Fld) (v : Bool) : State :=
    let n := s.fld size p
    if v && !s.flag f p && (decide (n < 4) || decide (12 < n)) then s.setFlt F.SWC_FLT_CFG_ERR else s.setFlag f v p
  if 128 ≤ p then s
  else one (one s F.SWC_T_CTL_RX_EN F.SWC_T_RX_RING_SIZE_LOG rx) F.SWC_T_CTL_TX_EN F.SWC_T_TX_RING_SIZE_LOG tx

def execRingEnable (p : Nat) (rx tx : Bool) (s : State) : Host.Outcome State Fault Refusal := .next (s.live fun s => ringEnable s p rx tx)

/-- CPU_TX_TAIL_WRITE: TAIL gives descriptors to the port (R407). -/
def cpuTxTailWrite (s : State) (p v : Nat) : State := if 128 ≤ p then s else s.setFld F.SWC_T_TX_RING_TAIL v p

def execCpuTxTailWrite (p v : Nat) (s : State) : Host.Outcome State Fault Refusal := .next (s.live fun s => cpuTxTailWrite s p v)

/-! ## The SWC mailbox (R410) -/

/-- Start an SWC mailbox command: refused while BUSY, and a write command while LOCK is set. -/
def swcMbx (s : State) (write : Bool) (f : State → State) : State :=
  if s.flag (mbxBusy blkSwc) then s.mbxRefuseBusy blkSwc
  else if write && s.flag F.SWC_CTRL_LOCK then s.mbxRefuse blkSwc
  else f s

/-- A run of a command that completes with four words. -/
def swcRun (cmd d0 d1 d2 d3 : Nat) : MbxRun := { cmd := cmd, ok := true, d0 := d0, d1 := d1, d2 := d2, d3 := d3 }

/-- A run of a write command: the operand words stay. -/
def swcEcho (s : State) (cmd : Nat) : MbxRun := swcRun cmd (s.mbxD blkSwc 0) (s.mbxD blkSwc 1) (s.mbxD blkSwc 2) (s.mbxD blkSwc 3)

/-- VLAN_RD: the entry of a VID. -/
def vlanRd (s : State) : State :=
  swcMbx s false fun s =>
    let vid := s.mbxD blkSwc 0 % 4096
    let e := s.vlan vid
    s.mbxStart blkSwc (swcRun 1
      (ofBit e.valid * 2 ^ 31 + ofBit e.floodUc * 2 ^ 30 + ofBit e.floodMc * 2 ^ 29 + ofBit e.sv * 2 ^ 28 + ofBit e.go * 2 ^ 27
        + ofBit e.loop * 2 ^ 26 + e.owner * 2 ^ 16 + vid) e.member e.untag 0)

def execVlanRd (s : State) : Host.Outcome State Fault Refusal := .next (s.live fun s => vlanRd s)

/-- VLAN_WR: the entry of a VID takes the operands. -/
def vlanWr (s : State) : State :=
  swcMbx s true fun s =>
    let d := s.mbxD blkSwc 0
    let e : VlanEnt := { valid := bitOf d 31, floodUc := bitOf d 30, floodMc := bitOf d 29, sv := bitOf d 28, go := bitOf d 27,
                         loop := bitOf d 26, owner := bitsOf d 22 16, member := s.mbxD blkSwc 1 % 4096, untag := s.mbxD blkSwc 2 % 256 }
    ({ s with swc := { s.swc with vlans := sparseSet VlanEnt.reset s.swc.vlans (d % 4096) e } }).mbxStart blkSwc (swcEcho s 2)

def execVlanWr (s : State) : Host.Outcome State Fault Refusal := .next (s.live fun s => vlanWr s)

/-- The address that the operands spell. -/
def mbxAddr (s : State) : Nat := s.mbxD blkSwc 1 % 65536 * 2 ^ 32 + s.mbxD blkSwc 2

/-- The result words of an FDB entry; AGE stays at its largest value. -/
def fdbWords (s : State) (cmd index : Nat) (e : FdbEnt) : MbxRun :=
  swcRun cmd (2 ^ 31 + ofBit e.static * 2 ^ 30 + e.port * 2 ^ 16 + e.vid) (index * 2 ^ 16 + e.addr / 2 ^ 32) (e.addr % 2 ^ 32)
    (if e.static then 0 else min 4095 ((s.time.sys - e.last) / 1000000000))

/-- FDB_RD: the entry of a key; refused when there is none. -/
def fdbRd (s : State) : State :=
  swcMbx s false fun s =>
    match fdbFind s (mbxAddr s) (s.mbxD blkSwc 0 % 4096) with
    | some (_, e) => s.mbxStart blkSwc (fdbWords s 3 0 e)
    | none => s.mbxRefuse blkSwc

def execFdbRd (s : State) : Host.Outcome State Fault Refusal := .next (s.live fun s => fdbRd s)

/-- FDB_WR: a static entry; refused for a bucket whose entries are static with other keys. -/
def fdbWr (s : State) : State :=
  swcMbx s true fun s =>
    let d := s.mbxD blkSwc 0
    let e : FdbEnt := { static := true, addr := mbxAddr s, vid := d % 4096, port := bitsOf d 19 16, last := s.time.sys }
    match (match fdbFind s e.addr e.vid with
           | some (i, _) => some i
           | none => fdbPlace s e.addr e.vid) with
    | some i => (s.setFdb i e).mbxStart blkSwc (swcEcho s 4)
    | none => s.mbxRefuse blkSwc

def execFdbWr (s : State) : Host.Outcome State Fault Refusal := .next (s.live fun s => fdbWr s)

/-- FDB_DEL: the entry of a key is deleted; refused when there is none. -/
def fdbDel (s : State) : State :=
  swcMbx s true fun s =>
    match fdbFind s (mbxAddr s) (s.mbxD blkSwc 0 % 4096) with
    | some (i, _) => (s.delFdb i).mbxStart blkSwc (swcEcho s 5)
    | none => s.mbxRefuse blkSwc

def execFdbDel (s : State) : Host.Outcome State Fault Refusal := .next (s.live fun s => fdbDel s)

/-- MC_RD: the multicast entry of an index. -/
def mcRd (s : State) : State :=
  swcMbx s false fun s =>
    let i := bitsOf (s.mbxD blkSwc 0) 25 16
    match sparseFind i s.swc.mc with
    | some e => s.mbxStart blkSwc (swcRun 6 (2 ^ 31 + i * 2 ^ 16 + e.vid) (e.addr / 2 ^ 32) (e.addr % 2 ^ 32) e.mask)
    | none => s.mbxStart blkSwc (swcRun 6 (i * 2 ^ 16) 0 0 0)

def execMcRd (s : State) : Host.Outcome State Fault Refusal := .next (s.live fun s => mcRd s)

/-- MC_WR: the multicast entry of an index takes the operands; VALID 0 leaves it unused. -/
def mcWr (s : State) : State :=
  swcMbx s true fun s =>
    let d := s.mbxD blkSwc 0
    let i := bitsOf d 25 16
    let mc := if bitOf d 31 then sparsePut i { vid := d % 4096, addr := mbxAddr s, mask := s.mbxD blkSwc 3 % 512 } s.swc.mc
      else sparseDel i s.swc.mc
    ({ s with swc := { s.swc with mc := mc } }).mbxStart blkSwc (swcEcho s 7)

def execMcWr (s : State) : Host.Outcome State Fault Refusal := .next (s.live fun s => mcWr s)

/-- FDB_RD_INDEX: the entry at an index; an unused one reads VALID 0. -/
def fdbRdIndex (s : State) : State :=
  swcMbx s false fun s =>
    let i := bitsOf (s.mbxD blkSwc 1) 29 16
    match sparseFind i s.swc.fdb with
    | some e => s.mbxStart blkSwc (fdbWords s 8 i e)
    | none => s.mbxStart blkSwc (swcRun 8 0 (i * 2 ^ 16) 0 0)

def execFdbRdIndex (s : State) : Host.Outcome State Fault Refusal := .next (s.live fun s => fdbRdIndex s)

end Sys2Proof.Machine
end

