-- ==== Sys2Proof/Machine/Goose.lean ====
section
/-! DEFINITION. The GOOSE engine (chapter 7): publish blocks, their states and retransmissions, and subscriptions. -/

namespace Sys2Proof.Machine

def blkGoose : Nat := 7
def gooseBlocks : Nat := 512
def gooseSubs : Nat := 1024

def gooseEn (s : State) : Bool := s.flag F.GOOSE_CTRL_EN

/-! ## Publish blocks -/

def GBlk.reset : GBlk := { data := none, tSec := 0, tFrac := 0, tQual := 0, k := 0, due := none, repub := false }

def State.gblk (s : State) (b : Nat) : Option GBlk := sparseFind b s.goose.blocks
def State.setGblk (s : State) (b : Nat) (v : GBlk) : State :=
  { s with goose := { s.goose with blocks := sparsePut b v s.goose.blocks } }

def gbOwner (s : State) (b : Nat) : Nat := s.fld F.GOOSE_B_CTL_OWNER b
def gbEnt (s : State) (b e : Nat) : Nat × Nat :=
  (s.fld (F.GOOSE_B_ENT_TYPE.el e) b, s.fld (F.GOOSE_B_ENT_INDEX.el e) b)

/-- The entries of a block as type and index. -/
def gbEnts (s : State) (b : Nat) : List (Nat × Nat) := (List.range (s.fld F.GOOSE_B_CTL_NENT b)).map (gbEnt s b)

/-- A flag of a block with its device flag. -/
def gbFlt (s : State) (b : Nat) (f dev : Fld) : State := (s.setFlag f true b).setFlt dev

/-- Is a block in LEADER mode (R237)? -/
def gbLeader (s : State) (b : Nat) : Bool := decide (s.fld F.GOOSE_B_CTL_MODE b = 1)

/-- Does this twin keep a block off the network: a LEADER block of the follower? -/
def gbSilent (s : State) (b : Nat) : Bool := gbLeader s b && !isLeader s

/-- Does an entry descriptor fail R223: an unlisted type or an index out of its type's range? -/
def entBad (e : Nat × Nat) : Bool :=
  if e.1 = 1 then decide (254 < e.2) else if 2 ≤ e.1 && e.1 ≤ 5 then decide (55 < e.2) else decide (7 < e.1)

/-- Is a block's enable refused (R223)? -/
def gbRefused (s : State) (b : Nat) : Bool :=
  let n := s.fld F.GOOSE_B_CTL_NENT b
  let len (f : Fld) : Bool := decide (s.fld f b = 0) || decide (64 < s.fld f b)
  let rmin := s.fld F.GOOSE_B_SCHED_RT_MIN b
  let rmax := s.fld F.GOOSE_B_SCHED_RT_MAX b
  decide (gbOwner s b = 0) || decide (n = 0) || decide (32 < n) || (gbEnts s b).any entBad
    || len F.GOOSE_B_LEN_GOCB_LEN || len F.GOOSE_B_LEN_DATSET_LEN || len F.GOOSE_B_LEN_GOID_LEN
    || decide (rmin < 500) || decide (rmax * 1000 < rmin) || decide (60000 < rmax)
    || (s.flag F.GOOSE_B_CTL_AUTH b && decide (4 < s.fld F.GOOSE_B_KEY_MAC_ALG b))

/-- GOOSE_BLOCK_ENABLE: EN written 1 (R223, R227). -/
def gooseBlockEnable (s : State) (b : Nat) : State :=
  if gooseBlocks ≤ b || s.flag F.GOOSE_B_CTL_EN b then s
  else if gbRefused s b then gbFlt s b F.GOOSE_B_FLT_CFG_REFUSED F.GOOSE_FLT_CFG_ERR
  else
    let s := (s.setFlag F.GOOSE_B_CTL_EN true b).setGblk b GBlk.reset
    ({ s with twin := { s.twin with gseq := sparseDel b s.twin.gseq } }.setFld F.GOOSE_B_STNUM_VAL 0 b).setFld F.GOOSE_B_SQNUM_VAL 0 b

def execGooseBlockEnable (b : Nat) (s : State) : Host.Outcome State Fault Refusal := .next (s.live fun s => gooseBlockEnable s b)

/-- GOOSE_BLOCK_DISABLE: EN written 0 ends the block's publishing. -/
def gooseBlockDisable (s : State) (b : Nat) : State :=
  if gooseBlocks ≤ b || !s.flag F.GOOSE_B_CTL_EN b then s
  else ({ s with goose := { s.goose with blocks := sparseDel b s.goose.blocks } }).setFlag F.GOOSE_B_CTL_EN false b

def execGooseBlockDisable (b : Nat) (s : State) : Host.Outcome State Fault Refusal := .next (s.live fun s => gooseBlockDisable s b)

/-! ## Datasets (R224, R225) -/

/-- The value of an entry from the owner's resolved bits `ob` and a committed vector; a UTCTIME entry takes its time when a frame is
built. -/
def entValue (s : State) (b : Nat) (ob : Nat → Bool) (vec : List Nat) (e : Nat) : GEntry :=
  let (t, i) := gbEnt s b e
  let w := vec.getD (8 + i) 0 % 2 ^ 32
  if t = 0 then .bool (ob i)
  else if t = 1 then .bits 2 (ofBit (ob i) + 2 * ofBit (ob (i + 1)))
  else if t = 2 then .int (signed 32 w)
  else if t = 3 then .uint w
  else if t = 4 then .float w
  else if t = 5 then .bits 13 (w % 2 ^ 13)
  else if t = 6 then .other []
  else .bits 13 (s.fld (F.GOOSE_B_ENT_CONST.el e) b)

def gbDataset (s : State) (b : Nat) (ob : Nat → Bool) (vec : List Nat) : List GEntry :=
  (List.range (s.fld F.GOOSE_B_CTL_NENT b)).map (entValue s b ob vec)

/-- Does a block name an output bit that is resolved only at E (R226)? -/
def gbShared (s : State) (b : Nat) : Bool :=
  let p := gbOwner s b
  (gbEnts s b).any fun e => (e.1 = 0 && polShared s p e.2) || (e.1 = 1 && (polShared s p e.2 || polShared s p (e.2 + 1)))

/-! ## Times (R47, R229) -/

/-- The TimeQuality octet of a TQ (R47): LeapSecondsKnown, ClockNotSynchronized and TimeAccuracy. -/
def timeQuality (s : State) (tq : Nat) : Nat :=
  (if bitOf s.time.utcEff 31 then 128 else 0) + (if 2 ≤ tq then 32 else 0) + (if tq = 3 then 31 else if tq = 2 then 10 else 20)

/-- The seconds, fraction and quality of a UtcTime from device time in ns. -/
def utcOf (s : State) (ns tq : Nat) : Nat × Nat × Nat :=
  (unsigned 32 ((ns / 1000000000 : Nat) - signed 16 s.time.utcEff), ns % 1000000000 * 2 ^ 24 / 1000000000, timeQuality s tq)

/-- The octets of a UtcTime. -/
def utcOctets (t : Nat × Nat × Nat) : List Nat := octetsBE 4 t.1 ++ octetsBE 3 t.2.1 ++ [t.2.2]

/-! ## Frames (R221, R222, R230, R233 to R236) -/

/-- Interval I_k in µs (R230). -/
def gbInterval (s : State) (b k : Nat) : Nat :=
  min (s.fld F.GOOSE_B_SCHED_RT_MIN b * 2 ^ (k - s.fld F.GOOSE_B_TAL_FAST b)) (s.fld F.GOOSE_B_SCHED_RT_MAX b * 1000)

/-- timeAllowedtoLive in ms of a frame before interval I_k. -/
def gbTal (s : State) (b k : Nat) : Nat :=
  ([2, 3, 4, 4].getD (s.fld F.GOOSE_B_TAL_TAL_MULT b) 4 * gbInterval s b k + 999) / 1000

/-- A string of a block: the first octets of 64 from a word of GOOSE_B_STR. -/
def gbString (s : State) (b word len : Nat) : List Nat :=
  (((List.range 16).flatMap fun i => octetsBE 4 (s.fld (F.GOOSE_B_STR_STR.el (word + i)) b))).take len

/-- The PDU of a block's next frame. -/
def gbPdu (s : State) (b : Nat) (v : GBlk) : GoosePdu :=
  let sim := s.flag F.GOOSE_B_CTL_SIM b
  let t := (v.tSec, v.tFrac, v.tQual)
  let data := (v.data.getD []).map fun e => if e = .other [] then .other (utcOctets t) else e
  { appId := s.fld F.GOOSE_B_ID_APPID b, simHdr := sim, gocbRef := gbString s b 0 (s.fld F.GOOSE_B_LEN_GOCB_LEN b),
    tal := gbTal s b (v.k + 1), datSet := gbString s b 16 (s.fld F.GOOSE_B_LEN_DATSET_LEN b),
    goId := gbString s b 32 (s.fld F.GOOSE_B_LEN_GOID_LEN b), tSec := v.tSec, tFrac := v.tFrac, tQual := v.tQual,
    stNum := s.fld F.GOOSE_B_STNUM_VAL b, sqNum := s.fld F.GOOSE_B_SQNUM_VAL b, simPdu := sim,
    test := s.flag F.GOOSE_B_CTL_TEST b
      || (s.flag F.GOOSE_B_TEST_TEST_BIT_EN b && resolvedOb s (gbOwner s b) (s.fld F.GOOSE_B_TEST_TEST_BIT b)),
    confRev := s.fld F.GOOSE_B_CONFREV_CONFREV b, ndsCom := false, numEntries := data.length, entries := data, parses := true,
    ext := none }

/-- A frame that carries a GOOSE PDU. -/
def gbFrame (s : State) (b : Nat) (p : GoosePdu) : Frame :=
  let tag : Option VTag := if s.flag F.GOOSE_B_CTL_VID_EN b
    then some { pcp := s.fld F.GOOSE_B_CTL_PCP b, dei := false, vid := s.fld F.GOOSE_B_ID_VID b } else none
  { dst := s.fld F.GOOSE_B_DA_HI_DA b * 2 ^ 32 + s.fld F.GOOSE_B_DA_LO_DA b, src := 0, tag := tag, hsr := none, etype := 0x88B8,
    payload := .goose p, prp := [],
    len := 18 + (if tag.isSome then 4 else 0) + max (if tag.isSome then 42 else 46) (Config.payloadOctets (.goose p)).length }

/-- The authentication extension under a block's key (R236); a GMAC's initialisation vector is free. -/
def gbSign (s : State) (b : Nat) (p : GoosePdu) : GoosePdu × State :=
  let alg := s.fld F.GOOSE_B_KEY_MAC_ALG b
  let ks := s.keySlot (s.fld F.GOOSE_B_KEY_KEY b)
  let (v, s) := if 3 ≤ alg then s.takeFree else (0, s)
  let iv := if 3 ≤ alg then octetsBE 12 v else []
  let ext (tag : List Nat) : AuthExt := { keyId := ks.id, iv := iv, tag := tag }
  let f := gbFrame s b { p with ext := some (ext []) }
  ({ p with ext := some (ext (macTag alg ks.mat iv (Config.authOctets f))) }, s)

/-- Can a block's key sign (R236)? -/
def gbKeyOk (s : State) (b : Nat) : Bool :=
  let ks := s.keySlot (s.fld F.GOOSE_B_KEY_KEY b)
  decide (ks.st = ksValid) && keySuits ks.typ (s.fld F.GOOSE_B_KEY_MAC_ALG b)

/-- Build a block's frame and hand it to the switch core (R233 to R236): whether it was handed over. -/
def gbSend (s : State) (b : Nat) (v : GBlk) : Bool × State :=
  if !gooseEn s || gbSilent s b then (false, s)
  else if s.flag F.GOOSE_B_CTL_AUTH b && !gbKeyOk s b then
    (false, gbFlt (s.count C.GOOSE_B_TX_NOKEY b) b F.GOOSE_B_FLT_NOKEY F.GOOSE_FLT_NOKEY)
  else
    let (p, s) := if s.flag F.GOOSE_B_CTL_AUTH b then gbSign s b (gbPdu s b v) else (gbPdu s b v, s)
    let f := gbFrame s b p
    match swcAdmit s swGoose f (gbOwner s b) (s.fld F.GOOSE_B_CTL_CLASS b) (framePcp s swGoose f) with
    | (.refused, s) => (false, gbFlt (s.count C.GOOSE_B_TX_DROP b) b F.GOOSE_B_FLT_TX_DROP F.GOOSE_FLT_TX_DROP)
    | (_, s) => (true, (s.count C.GOOSE_B_FRAMES_TX b).count C.GOOSE_FRAMES_TX)

/-- Pass the numbers of the LEADER frames handed over at one edge to the partner (R238, R292). -/
def gooseGseq (s : State) (bs : List Nat) : State :=
  let l := bs.filter (gbLeader s)
  if l.isEmpty || !isLeader s then s
  else sendRally s rfGseq (l.length :: l.flatMap fun b => [b, s.fld F.GOOSE_B_STNUM_VAL b, s.fld F.GOOSE_B_SQNUM_VAL b])

/-- The frame of a block falls due at the present SYS edge, for a new state by the commit of group `g` where one is given. -/
def gbDue (s : State) (b : Nat) (g : Option Nat) : State :=
  { s with goose := { s.goose with out := s.goose.out.filter (fun e => e.1 ≠ b) ++ [(b, g)] } }

/-- Is a block's frame due at the present SYS edge? -/
def gbIsDue (s : State) (b : Nat) : Bool := s.goose.out.any fun e => e.1 = b

/-- The groups whose commits made frames due at the present SYS edge. -/
def dueGroups (s : State) : List Nat := (List.range 8).filter fun g => s.goose.out.any fun e => e.2 = some g

/-- The group with whose frames a block's is built when the commits of two groups fall at one edge: that of the commit, else its owner's (DESIGN CHOICE, log 64). -/
def gbRank (s : State) (e : Nat × Option Nat) : Nat := if (dueGroups s).length < 2 then 0 else e.2.getD ((groupOf s (gbOwner s e.1)).getD 8)

/-- The blocks whose frames are due, in the order of R233: a lower-numbered group first, urgent blocks first, then by number. -/
def gooseOrder (s : State) : List Nat :=
  (List.range 9).flatMap fun r =>
    let bs := (s.goose.out.filter fun e => gbRank s e = r).map Prod.fst
    let asc := (s.goose.blocks.map Prod.fst).filter bs.contains
    asc.filter (fun b => s.flag F.GOOSE_B_CTL_URGENT b) ++ asc.filter (fun b => !s.flag F.GOOSE_B_CTL_URGENT b)

/-- Build and hand over the frame of a block, and fix the due edge of its next frame: the blocks handed over. -/
def gbTurn (acc : List Nat × State) (b : Nat) : List Nat × State :=
  match acc.2.gblk b with
  | some v =>
    let (ok, s) := gbSend acc.2 b v
    let next := v.due.map fun e => e + gbInterval s b (v.k + 1) * 1000
    (if ok then acc.1 ++ [b] else acc.1, s.setGblk b { v with due := next })
  | none => acc

/-- A SYS edge ends: the frames that fell due at it are built and handed over in the order of R233. -/
def gooseEdge (s : State) : State :=
  if s.goose.out.isEmpty then s
  else
    let r := (gooseOrder s).foldl gbTurn ([], { s with goose := { s.goose with out := [] } })
    gooseGseq r.2 r.1

/-- stNum and sqNum wrap to 1 (R228). -/
def gnInc (v : Nat) : Nat := if 2 ^ 32 - 1 ≤ v then 1 else v + 1

/-- The follower's LEADER block takes the numbers of the last GSEQ entry accepted for it (R238, R305). -/
def gbFollow (s : State) (b : Nat) : State :=
  match sparseFind b s.twin.gseq with
  | some (st, sq) => if gbSilent s b then (s.setFld F.GOOSE_B_STNUM_VAL st b).setFld F.GOOSE_B_SQNUM_VAL sq b else s
  | none => s

/-- A block enters a new state with a dataset at this edge, with `st` as its stNum where one is given (R228, R229, R231, R239); the
follower keeps a LEADER block's numbers (R238). Its frame is due at this edge, `g` being the group of the commit that made the state. -/
def gbNewState (s : State) (b : Nat) (data : List GEntry) (t : Nat × Nat × Nat) (st g : Option Nat) : State :=
  let v : GBlk := { data := some data, tSec := t.1, tFrac := t.2.1, tQual := t.2.2, k := 0,
                    due := if gbSilent s b then none else some s.time.sys, repub := false }
  let s := (s.setGblk b v).count C.GOOSE_B_STATES b
  if gbSilent s b then s
  else ((gbDue s b g).setFld F.GOOSE_B_STNUM_VAL (st.getD (gnInc (s.fld F.GOOSE_B_STNUM_VAL b))) b).setFld F.GOOSE_B_SQNUM_VAL 0 b

/-- The enabled blocks, ascending. -/
def enabledBlocks (s : State) : List Nat := s.goose.blocks.map Prod.fst

/-- A retransmission of a block falls due at the present SYS edge (R228, R230). -/
def gbRetransmit (s : State) (b : Nat) : State :=
  match s.gblk b with
  | some v => gbDue ((s.setGblk b { v with k := v.k + 1 }).setFld F.GOOSE_B_SQNUM_VAL (gnInc (s.fld F.GOOSE_B_SQNUM_VAL b)) b) b none
  | none => s

/-- GOOSE_RETRANSMIT: a block's next frame is due, unless a frame of the block is due at this edge already, and with it every frame due at the same edge
(R230, R231, R233). -/
def gooseRetransmit (s : State) (b : Nat) : State :=
  match (s.gblk b).bind GBlk.due with
  | none => s
  | some e =>
    if s.time.sys < e || gbIsDue s b then s
    else ((enabledBlocks s).filter fun c => decide ((s.gblk c).bind GBlk.due = some e) && !gbIsDue s c).foldl gbRetransmit s

def execGooseRetransmit (b : Nat) (s : State) : Host.Outcome State Fault Refusal := .next (s.live fun s => gooseRetransmit s b)

/-! ## Evaluation (R226 to R229) -/

/-- The resolved bits of a partition for a commit: AGREE and EITHER bits as resolved last, OWN bits as resolved at the commit edge (R225, R298). -/
def commitOb (s : State) (r : OwnRec) (b : Nat) : Bool := if polShared s r.part b then resolvedOb s r.part b else bitOf r.ob b

/-- Evaluate a block for a commit of a group. -/
def gbEvaluate (s : State) (b g : Nat) (c : RallyPend) (r : OwnRec) : State :=
  let s := gbFollow s b
  match s.gblk b with
  | none => s
  | some v =>
    let d := gbDataset s b (commitOb s r) r.vec
    if v.data = some d then s
    else gbNewState s b d (utcOf s (if s.flag F.GOOSE_B_CTL_T_SRC b then c.bn else c.ns) c.tq) none (some g)

/-- The blocks of the partitions of a commit are evaluated once their bits are resolved: at the commit edge those with no AGREE or EITHER bit, at E the
others (R226). -/
def gooseEvaluate (s : State) (g : Nat) (c : RallyPend) (shared : Bool) : State :=
  ((enabledBlocks s).filter fun b => gbShared s b = shared).foldl (fun s b =>
    match c.recs.find? fun r => r.part = gbOwner s b with
    | some r => gbEvaluate s b g c r
    | none => s) s

/-! ## Roles (R239, R240) and REPUBLISH (R554) -/

/-- A block's dataset, evaluated now from the owner's resolved bits and committed vector when it has none. -/
def gbCurrent (s : State) (b : Nat) (v : GBlk) : List GEntry :=
  v.data.getD (gbDataset s b (resolvedOb s (gbOwner s b)) (s.lpart (gbOwner s b)).vec)

/-- The UtcTime of this edge. -/
def utcNow (s : State) : Nat × Nat × Nat := utcOf s s.devNs (s.fld F.TIME_STAT_TQ)

/-- The stNum with which a new leader publishes a block: one above the last number received, 1 when none was (R239). -/
def takeoverSt (s : State) (b : Nat) : Nat :=
  match sparseFind b s.twin.gseq with
  | some (n, _) => gnInc n
  | none => 1

/-- A new leader publishes a LEADER block at the first SYS edge of its role, this one. -/
def gbTakeover (s : State) (b : Nat) : State :=
  match s.gblk b with
  | some v => (gbNewState s b (gbCurrent s b v) (utcNow s) (some (takeoverSt s b)) none).count C.GOOSE_B_TAKEOVERS b
  | none => s

/-- This twin becomes leader and publishes each LEADER block (R239). -/
def gooseTakeover (s : State) : State :=
  let bs := (enabledBlocks s).filter (gbLeader s)
  match bs with
  | [] => s
  | b :: _ => (bs.foldl gbTakeover (s.setFlt F.GOOSE_FLT_TAKEOVER)).event blkGoose 0x0701 0 bs.length (takeoverSt s b)

/-- This twin stops being leader: no further LEADER frame is handed over (R240). -/
def gooseFollow (s : State) : State :=
  ((enabledBlocks s).filter (gbLeader s)).foldl (fun s b =>
    match s.gblk b with
    | some v => s.setGblk b { v with due := none }
    | none => s) s

/-- A GSEQ entry (R238, R305): numbers ahead of those held are kept, and the follower's block takes them. -/
def gooseGseqRx (s : State) (b st sq : Nat) : State :=
  let ahead (a c : Nat) : Bool := let d := (a + 2 ^ 32 - c) % 2 ^ 32; decide (0 < d) && decide (d < 2 ^ 31)
  let newer : Bool := match sparseFind b s.twin.gseq with
    | some (hs, hq) => ahead st hs || (decide (st = hs) && ahead sq hq)
    | none => true
  if gooseBlocks ≤ b || (s.gblk b).isNone || !newer then s
  else gbFollow { s with twin := { s.twin with gseq := sparsePut b (st, sq) s.twin.gseq } } b

/-- REPUBLISH: the selected enabled block enters a new state with its current dataset at the next SYS edge (R554). -/
def republish (s : State) : State :=
  let b := s.fld F.GOOSE_SEL_INDEX
  if s.fld F.GOOSE_SEL_KIND ≠ 0 then s
  else match s.gblk b with
    | some v => if gbSilent s b then s else s.setGblk b { v with repub := true }
    | none => s

def execRepublish (s : State) : Host.Outcome State Fault Refusal := .next (s.live fun s => republish s)

/-- A block that REPUBLISH has named at the edge before enters its new state at this edge. -/
def gbRepublish (s : State) (b : Nat) : State :=
  match s.gblk b with
  | some v =>
    if !v.repub then s
    else if gbSilent s b then s.setGblk b { v with repub := false }
    else gbNewState s b (gbCurrent s b v) (utcNow s) none none
  | none => s

/-- A SYS edge begins: the blocks that REPUBLISH has named. -/
def gooseBegin (s : State) : State := ((enabledBlocks s).filter fun b => (s.gblk b).any GBlk.repub).foldl gbRepublish s

/-! ## Subscriptions (R241 to R252) -/

def subDisabled : Nat := 0
def subWait : Nat := 1
def subValid : Nat := 2
def subStale : Nat := 3
def subMismatch : Nat := 4

def GSub.reset : GSub :=
  { last := none, upd := [], expiry := none, chg := 0, unchk := false, sim := false, test := false, stNum := 0, sqNum := 0, qgood := 0,
    bits := 0, words := [0, 0, 0], oldEdge := 0, old := List.replicate 8 0 }

def State.gsub (s : State) (i : Nat) : Option GSub := sparseFind i s.goose.subs
def State.setGsub (s : State) (i : Nat) (v : GSub) : State :=
  { s with goose := { s.goose with subs := sparsePut i v s.goose.subs } }

def gsState (s : State) (i : Nat) : Nat := s.fld F.GOOSE_S_STAT_STATE i

/-- A flag of a subscription with its device flag. -/
def gsFlt (s : State) (i : Nat) (f dev : Fld) : State := (s.setFlag f true i).setFlt dev

/-- The words of a subscription's record (R250, R252). A disabled subscription's are zero but for the substitution. -/
def gsRecord (s : State) (i : Nat) : List Nat :=
  let st := gsState s i
  let ok := decide (st = subValid)
  let subst := !ok && s.flag F.GOOSE_S_CTL_SUBST_EN i
  let v := (s.gsub i).getD GSub.reset
  [v.chg * 65536 + ofBit subst * 256 + ofBit v.unchk * 128 + ofBit v.sim * 64 + ofBit v.test * 32 + ofBit ok * 16 + st, v.stNum, v.sqNum,
   if ok then v.qgood else 0, if subst then s.fld F.GOOSE_S_SUBST_SUBST i else v.bits] ++ v.words

/-- Keep the record as it stands before a change at this edge: an update at the edge of a window start is seen in the next window
(R199). -/
def gsKeep (s : State) (i : Nat) : State :=
  match s.gsub i with
  | some v => if v.oldEdge = s.time.sys then s else s.setGsub i { v with oldEdge := s.time.sys, old := gsRecord s i }
  | none => s

/-- The record of a subscription that a lane window starting at this edge sees; none where it is all zeros. -/
def gsSeen (s : State) (i : Nat) : Option (List Nat) :=
  match s.gsub i with
  | some v => some (if v.oldEdge = s.time.sys then v.old else gsRecord s i)
  | none => if s.flag F.GOOSE_S_CTL_SUBST_EN i then some (gsRecord s i) else none

/-- The records that a lane window starting at this edge sees. -/
def gooseView (s : State) : Sparse (List Nat) := (List.range gooseSubs).filterMap fun i => (gsSeen s i).map fun r => (i, r)

/-- A subscription changes state, with the event record of R249. -/
def gsEnter (s : State) (i new : Nat) : State :=
  let old := gsState s i
  if old = new then s
  else
    let s := s.setFld F.GOOSE_S_STAT_STATE new i
    if [subStale, subMismatch].contains old || [subStale, subMismatch].contains new then
      s.event blkGoose 0x0702 (s.fld F.GOOSE_S_CTL_OWNER i) i old new
    else s

/-- An extraction: bits 0 to 31, then words 32 to 34: whether it is enabled and its entry. -/
def gsXb (s : State) (i b : Nat) : Bool × Nat := (s.flag (F.GOOSE_S_XB_EN.el b) i, s.fld (F.GOOSE_S_XB_ENT.el b) i)
def gsXw (s : State) (i w : Nat) : Bool × Nat := (s.flag (F.GOOSE_S_XW_EN.el w) i, s.fld (F.GOOSE_S_XW_ENT.el w) i)
/-- The quality entry that a bit extraction with QENT_EN names. -/
def gsQnamed (s : State) (i b : Nat) : Option Nat :=
  if s.flag (F.GOOSE_S_XB_QENT_EN.el b) i then some (s.fld (F.GOOSE_S_XB_QENT.el b) i) else none
/-- The quality entry that an enabled bit extraction names. -/
def gsQent (s : State) (i b : Nat) : Option Nat := if s.flag (F.GOOSE_S_XB_EN.el b) i then gsQnamed s i b else none

/-- Is a subscription's enable refused (R242)? -/
def gsRefused (s : State) (i : Nat) : Bool :=
  let len := s.fld F.GOOSE_S_CTL_LEN i
  let n := s.fld F.GOOSE_S_CTL_NENT i
  let auth := s.fld F.GOOSE_S_CTL_AUTH i
  let past (x : Bool × Nat) : Bool := x.1 && decide (n ≤ x.2)
  decide (len = 0) || decide (64 < len) || decide (n = 0) || decide (64 < n) || decide (auth = 3)
    || (decide (auth ≠ 0) && decide (4 < s.fld F.GOOSE_S_KEY_MAC_ALG i))
    || ((List.range 32).any fun b => past (gsXb s i b)) || ((List.range 3).any fun w => past (gsXw s i w))
    || ((List.range 32).any fun b => (gsQnamed s i b).any fun q => decide (n ≤ q))

/-- GOOSE_SUB_ENABLE: EN written 1. -/
def gooseSubEnable (s : State) (i : Nat) : State :=
  if gooseSubs ≤ i || s.flag F.GOOSE_S_CTL_EN i then s
  else if gsRefused s i then gsFlt s i F.GOOSE_S_FLT_CFG_REFUSED F.GOOSE_FLT_CFG_ERR
  else
    let v : GSub := { GSub.reset with oldEdge := s.time.sys, old := gsRecord s i }
    gsEnter ((s.setFlag F.GOOSE_S_CTL_EN true i).setGsub i v) i subWait

def execGooseSubEnable (i : Nat) (s : State) : Host.Outcome State Fault Refusal := .next (s.live fun s => gooseSubEnable s i)

/-- GOOSE_SUB_DISABLE: EN written 0; the record is zeroed. -/
def gooseSubDisable (s : State) (i : Nat) : State :=
  if gooseSubs ≤ i || !s.flag F.GOOSE_S_CTL_EN i then s
  else
    let s := gsEnter (s.setFlag F.GOOSE_S_CTL_EN false i) i subDisabled
    { s with goose := { s.goose with subs := sparseDel i s.goose.subs } }

def execGooseSubDisable (i : Nat) (s : State) : Host.Outcome State Fault Refusal := .next (s.live fun s => gooseSubDisable s i)

/-- Does a frame match a subscription (R241)? -/
def gsMatches (s : State) (i : Nat) (f : Frame) (p : GoosePdu) : Bool :=
  let gocb := (((List.range 16).flatMap fun w => octetsBE 4 (s.fld (F.GOOSE_S_GOCB_GOCB.el w) i))).take (s.fld F.GOOSE_S_CTL_LEN i)
  decide (f.dst = s.fld F.GOOSE_S_DA_HI_DA i * 2 ^ 32 + s.fld F.GOOSE_S_DA_LO_DA i) && decide (p.appId = s.fld F.GOOSE_S_ID_APPID i)
    && decide (p.gocbRef = gocb)
    && (!s.flag F.GOOSE_S_CTL_VID_EN i || (f.tag.any fun t => t.vid = s.fld F.GOOSE_S_ID_VID i))

/-- Can an entry be extracted (R222)? -/
def extractable : GEntry → Bool
  | .bool _ => true
  | .bits n _ => decide (n ≤ 32)
  | .int v => decide (-(2 ^ 31) ≤ v) && decide (v < 2 ^ 31)
  | .uint v => decide (v < 2 ^ 32)
  | .float _ => true
  | .other _ => false

/-- Does an entry fail a bit extraction of bit k (R243)? -/
def bitBad (e : GEntry) (k : Nat) : Bool :=
  !extractable e || match e with
    | .bits n _ => decide (n ≤ k)
    | _ => false

/-- Is an entry no Quality: not a bit-string of at least 2 bits? -/
def qualityBad : GEntry → Bool
  | .bits n _ => decide (n < 2)
  | _ => true

/-- Do a frame's contents mismatch a subscription, apart from confRev (R243)? -/
def gsFormBad (s : State) (i : Nat) (p : GoosePdu) : Bool :=
  let ent (j : Nat) : GEntry := p.entries.getD j (.other [])
  p.ndsCom || decide (p.numEntries ≠ s.fld F.GOOSE_S_CTL_NENT i)
    || ((List.range 32).any fun b => (gsXb s i b).1 && bitBad (ent (gsXb s i b).2) (s.fld (F.GOOSE_S_XB_BIT.el b) i))
    || ((List.range 3).any fun w => (gsXw s i w).1 && !extractable (ent (gsXw s i w).2))
    || ((List.range 32).any fun b => (gsQent s i b).any fun q => qualityBad (ent q))

/-- The hold of a subscription in 2^-16 ns (R247). -/
def gsHold (s : State) (i : Nat) : Int := (min 1000 (s.fld F.GOOSE_S_HOLD_HOLD i) * 1000 * 65536 : Nat)

/-- Is the t of a frame not later than that of another? -/
def notLater (p q : GoosePdu) : Bool := decide (p.tSec < q.tSec) || (decide (p.tSec = q.tSec) && decide (p.tFrac ≤ q.tFrac))

/-- A frame waits for its update edge. -/
def gsWaitFor (s : State) (i : Nat) (u : GUpd) : State :=
  match s.gsub i with
  | some v => s.setGsub i { v with upd := v.upd ++ [u] }
  | none => s

/-- An accepted frame (R246 to R248). -/
def gsAccept (s : State) (i : Nat) (stamp : Stamp) (p : GoosePdu) (isNew unchk : Bool) : State :=
  let s := if p.simPdu then s.setFlag F.GOOSE_S_STAT_SIM_LATCH true i else s
  let s := match s.gsub i with
    | some v => s.setGsub i { v with last := some p }
    | none => s
  let due := (stamp.t : Int) + gsHold s i
  gsWaitFor (s.count (if isNew then C.GOOSE_S_NEW_STATES else C.GOOSE_S_RETRANS) i) i
    { due := due, mism := false, pdu := p, isNew := isNew, unchk := unchk, expiry := due + (p.tal * 1000000 * 65536 : Nat) }

/-- Judge a frame against the last accepted one (R246). -/
def gsJudge (s : State) (i : Nat) (stamp : Stamp) (p : GoosePdu) (unchk : Bool) : State :=
  match (s.gsub i).bind GSub.last with
  | none => gsAccept s i stamp p true unchk
  | some l =>
    let d := (p.sqNum + 2 ^ 32 - l.sqNum) % 2 ^ 32
    if p.stNum ≠ l.stNum then
      if s.fld F.GOOSE_S_CTL_AUTH i = 1 && notLater p l then
        gsFlt (s.count C.GOOSE_S_REPLAY i) i F.GOOSE_S_FLT_REPLAY F.GOOSE_FLT_REPLAY
      else gsAccept s i stamp p true unchk
    else if 1 ≤ d && d < 2 ^ 31 then
      if p.entries ≠ l.entries then (s.count C.GOOSE_S_INCONSISTENT i).setFlt F.GOOSE_FLT_INCONSISTENT
      else gsAccept s i stamp p false unchk
    else s.count C.GOOSE_S_DUP i

/-- Authentication (R245), as R126 and R127 for a stream. -/
def gsAuth (s : State) (i : Nat) (f : Frame) (stamp : Stamp) (p : GoosePdu) : State :=
  let auth := s.fld F.GOOSE_S_CTL_AUTH i
  let next := if s.flag F.GOOSE_S_KEY_NEXT_EN i then some (s.fld F.GOOSE_S_KEY_KEY_NEXT i) else none
  if auth = 0 then gsJudge s i stamp p true
  else if authOk s (s.fld F.GOOSE_S_KEY_MAC_ALG i) (s.fld F.GOOSE_S_KEY_KEY_CUR i) next f p.ext then gsJudge s i stamp p false
  else if auth = 1 then gsFlt (s.count C.GOOSE_S_AUTH_FAIL i) i F.GOOSE_S_FLT_AUTH_FAIL F.GOOSE_FLT_AUTH_FAIL
  else gsJudge ((s.count C.GOOSE_S_AUTH_MONITOR i).setFlag F.GOOSE_S_FLT_AUTH_FAIL true i) i stamp p true

/-- Process a frame for a subscription that it matches (R243 to R246). -/
def gsFrame (s : State) (f : Frame) (stamp : Stamp) (p : GoosePdu) (i : Nat) : State :=
  let s := s.count C.GOOSE_S_FRAMES i
  let mism : GUpd := { due := (stamp.t : Int) + gsHold s i, mism := true, pdu := p, isNew := false, unchk := false, expiry := 0 }
  if !p.parses then s.count C.GOOSE_S_FMT_ERR i
  else if p.confRev ≠ s.fld F.GOOSE_S_CONFREV_CONFREV i then gsWaitFor (s.count C.GOOSE_S_CONFREV i) i mism
  else if gsFormBad s i p then gsWaitFor (s.count C.GOOSE_S_FMT_ERR i) i mism
  else if (p.simPdu && !s.flag F.GOOSE_S_CTL_SIM i)
      || (!p.simPdu && s.flag F.GOOSE_S_CTL_SIM i && s.flag F.GOOSE_S_STAT_SIM_LATCH i) then s.count C.GOOSE_S_SIM_DISCARD i
  else gsAuth s i f stamp p

/-- GOOSE_FRAME_RX: the oldest frame at the GOOSE port has been processed, for every enabled subscription it matches (R221, R241). -/
def gooseFrameRx (s : State) : State :=
  match s.goose.inbox with
  | [] => s
  | r :: t =>
    let s := ({ s with goose := { s.goose with inbox := t } }).count C.GOOSE_FRAMES_RX
    if !gooseEn s then s.count C.GOOSE_DISABLED_DROP
    else match r.frame.payload with
      | .goose p =>
        let is_ := (s.goose.subs.map Prod.fst).filter fun i => gsMatches s i r.frame p
        if is_.isEmpty then s.count C.GOOSE_UNMATCHED else is_.foldl (fun s i => gsFrame s r.frame r.stamp p i) s
      | _ => s.count C.GOOSE_UNMATCHED

def execGooseFrameRx (s : State) : Host.Outcome State Fault Refusal := .next (s.live fun s => gooseFrameRx s)

/-- The word that a word extraction of an entry writes (R251). -/
def entWord : GEntry → Nat
  | .bool b => ofBit b
  | .bits n v => v % 2 ^ n % 2 ^ 32
  | .int v => unsigned 32 v
  | .uint v => v % 2 ^ 32
  | .float v => v % 2 ^ 32
  | .other _ => 0

/-- The bit that a bit extraction of an entry writes (R251). -/
def entBit (e : GEntry) (k : Nat) : Bool :=
  match e with
  | .bool b => b
  | e => bitOf (entWord e) k

/-- Are the two validity bits of a Quality entry 00? -/
def entGood : GEntry → Bool
  | .bits _ v => decide (v % 4 = 0)
  | _ => false

/-- An accepted frame's values become visible (R250, R251). -/
def gsTake (s : State) (i : Nat) (u : GUpd) (v : GSub) : GSub :=
  let p := u.pdu
  let ent (j : Nat) : GEntry := p.entries.getD j (.other [])
  let mask (f : Nat → Bool) : Nat := ((List.range 32).map fun b => if f b then 2 ^ b else 0).foldl (· + ·) 0
  { v with
    expiry := some u.expiry, chg := if u.isNew then (v.chg + 1) % 65536 else v.chg, unchk := u.unchk, sim := p.simPdu, test := p.test,
    stNum := p.stNum, sqNum := p.sqNum,
    qgood := mask fun b => (gsXb s i b).1 && (match gsQent s i b with | some q => entGood (ent q) | none => true),
    bits := mask fun b => (gsXb s i b).1 && entBit (ent (gsXb s i b).2) (s.fld (F.GOOSE_S_XB_BIT.el b) i),
    words := (List.range 3).map fun w => if (gsXw s i w).1 then entWord (ent (gsXw s i w).2) else 0 }

/-- GOOSE_SUB_UPDATE: a frame that waits reaches its update edge (R247, R249). -/
def gooseSubUpdate (s : State) (i : Nat) : State :=
  match s.gsub i with
  | none => s
  | some v =>
    match v.upd.find? fun u => decide (u.due ≤ (s.devT : Int)) with
    | none => s
    | some u =>
      let s := gsKeep (s.setGsub i { v with upd := v.upd.erase u }) i
      match s.gsub i with
      | none => s
      | some v =>
        if u.mism then gsFlt (gsEnter (s.setGsub i { v with expiry := none }) i subMismatch) i F.GOOSE_S_FLT_MISMATCH F.GOOSE_FLT_MISMATCH
        else gsEnter (s.setGsub i (gsTake s i u v)) i subValid

def execGooseSubUpdate (i : Nat) (s : State) : Host.Outcome State Fault Refusal := .next (s.live fun s => gooseSubUpdate s i)

/-- GOOSE_SUB_EXPIRY: a VALID subscription reaches its expiry (R248, R249). -/
def gooseSubExpiry (s : State) (i : Nat) : State :=
  match s.gsub i with
  | none => s
  | some v =>
    match v.expiry with
    | none => s
    | some e =>
      if gsState s i ≠ subValid || (s.devT : Int) < e then s
      else
        let s := gsEnter (gsKeep s i) i subStale
        gsFlt (s.count C.GOOSE_S_STALES i) i F.GOOSE_S_FLT_STALE F.GOOSE_FLT_STALE

def execGooseSubExpiry (i : Nat) (s : State) : Host.Outcome State Fault Refusal := .next (s.live fun s => gooseSubExpiry s i)

/-- CLR_SIM: the simulated-frame latch of the selected subscription is cleared (R244). -/
def clrSim (s : State) : State :=
  if s.fld F.GOOSE_SEL_KIND = 1 then s.setFlag F.GOOSE_S_STAT_SIM_LATCH false (s.fld F.GOOSE_SEL_INDEX) else s

def execClrSim (s : State) : Host.Outcome State Fault Refusal := .next (s.live fun s => clrSim s)

/-- A step notice adds its amount to every expiry and every update instant still pending (R248). -/
def gooseStep (s : State) (d : Int) (ep : Nat) : State :=
  let d := d * 65536
  let sub (v : GSub) : GSub :=
    { v with expiry := v.expiry.map (· + d), upd := v.upd.map fun (u : GUpd) => { u with due := u.due + d, expiry := u.expiry + d } }
  let rx (r : RxFrame) : RxFrame := { r with stamp := r.stamp.step d ep }
  { s with goose := { s.goose with subs := s.goose.subs.map fun (i, v) => (i, sub v), inbox := s.goose.inbox.map rx } }

end Sys2Proof.Machine
end

