-- ==== Sys2Proof/Machine/Pdelay.lean ====
section
/-! DEFINITION. Peer delay (R60 to R63): the responder and the requester of each port. -/

namespace Sys2Proof.Machine

/-- The port identity of a port: its clock identity, the EUI-64 of its source address, and its number. -/
def portId (s : State) (p : Nat) : Nat :=
  let sa := portSa s p
  ((sa / 2 ^ 24 * 2 ^ 16 + 0xFFFE) * 2 ^ 24 + sa % 2 ^ 24) * 65536 + p + 1

/-- A peer-delay frame of a port, to the address that PD_DA chooses. -/
def pdelayFrame (s : State) (p : Nat) (m : PtpMsg) : Frame :=
  { dst := if s.flag F.TIME_P_CTRL_PD_DA p then ptpDa1 else ptpDa0, src := portSa s p, tag := none, hsr := none,
    etype := 0x88F7, payload := .ptp m, prp := [], len := 72 }

/-- The answer to a request that came at `rx` and is launched at `tx` (R60): one-step with the turnaround in correctionField, or two-step with the time of arrival. -/
def pdelayAnswer (s : State) (p : Nat) (m : PtpMsg) (rx tx : Stamp) : PtpMsg :=
  let ns := rx.t / 65536
  let resp : PtpMsg := { m with msgType := ptpPdelayResp, twoStep := false, corr := m.corr + ((tx.tbc : Int) - (rx.tbc : Int)),
                                srcId := portId s p, tsSec := 0, tsNs := 0, reqId := m.srcId, rest := [] }
  if s.flag F.TIME_P_CTRL_RESP_TWO_STEP p then
    { resp with twoStep := true, corr := -((rx.t % 65536 : Nat) : Int), tsSec := ns / 1000000000, tsNs := ns % 1000000000 }
  else resp

/-- The Follow_Up of a two-step answer, with the time of its launch. -/
def pdelayFollow (s : State) (p : Nat) (m : PtpMsg) (tx : Stamp) : PtpMsg :=
  let ns := tx.t / 65536
  { m with msgType := ptpPdelayFollowUp, twoStep := false, corr := m.corr + (tx.t % 65536 : Nat), srcId := portId s p,
           tsSec := ns / 1000000000, tsNs := ns % 1000000000, reqId := m.srcId, rest := [] }

/-! ## Frames beside the queues (R370) -/

/-- Launch what waits first beside a port's queues; the times that it carries are those of its launch, and the Follow_Up of a two-step answer is next. -/
def launchOob (s : State) (p : Nat) (x : OobMsg) : State :=
  match x with
  | .wake f => (launch s p f none).count C.PORT_P_TX_WAKE p
  | .pdReq m =>
    let (tx, s) := egressStamp s p
    launch ((s.setPtpPort p { s.ptpPort p with outstanding := some (m.seq, tx) }).count C.TIME_P_PDREQ_TX p) p (pdelayFrame s p m) none
  | .pdResp m rx =>
    let (tx, s) := egressStamp s p
    let two := s.flag F.TIME_P_CTRL_RESP_TWO_STEP p
    let s := if two then s.setPortCh p { s.portCh p with oob := .pdFollow (pdelayFollow s p m tx) :: (s.portCh p).oob } else s
    launch s p (pdelayFrame s p (pdelayAnswer s p m rx tx)) none
  | .pdFollow m => launch s p (pdelayFrame s p m) none

/-- When a port's line is idle, what waits first beside its queues goes before a queued frame (DESIGN CHOICE, log 65); what the PCS can no longer carry is
dropped. -/
def oobNext (s : State) (p : Nat) : State :=
  let c := s.portCh p
  match c.oob with
  | [] => s
  | x :: rest =>
    if !oobReady s p then s.setPortCh p { c with oob := [] }
    else if s.time.sys < c.txEnd then s
    else launchOob (s.setPortCh p { c with oob := rest }) p x

/-- Send a frame that does not pass through the queues: at once on an idle line, else when the frame in transmission has left. -/
def sendOob (s : State) (p : Nat) (x : OobMsg) : State :=
  oobNext (s.setPortCh p { s.portCh p with oob := (s.portCh p).oob ++ [x] }) p

/-- What a SYS edge brings at the ports' transmitters: frames that underruns have ended leave, and frames beside the queues are launched. -/
def portTick (s : State) : State := (s.port.ports.map Prod.fst).foldl (fun s p => oobNext (underEnd s p) p) s

/-- PDELAY_REQ_RX: a request on a port with PDELAY_EN is answered in hardware, whatever its domain (R60). -/
def pdelayReqRx (s : State) (p : Nat) (m : PtpMsg) (rx : Stamp) : State :=
  if portCount ≤ p || !s.flag F.TIME_P_CTRL_PDELAY_EN p || !oobReady s p || m.msgType ≠ ptpPdelayReq then s
  else
    let (rx, s) := ingressStamp s p rx
    sendOob s p (.pdResp m rx)

def execPdelayReqRx (port : Nat) (m : PtpMsg) (rx : Stamp) (s : State) : Host.Outcome State Fault Refusal :=
  .next (s.live fun s => pdelayReqRx s port m rx)

/-- The peer delay of a port becomes invalid (R51, R62). -/
def pdLost (s : State) (p : Nat) : State :=
  let s := ((s.setFlag F.TIME_P_STAT_PD_VALID false p).setFlag F.TIME_P_STAT_PD_LOST true p).setFlt F.TIME_FLT_PDELAY_LOST
  slaveLost s p

/-- PDELAY_REQ_TX: every 2^LOG_PDELAY s a port with PDELAY_EN sends a request (R61). When three in a row have brought no valid
measurement, the peer delay is lost (R62). -/
def pdelayReqTx (s : State) (p : Nat) : State :=
  let q := s.ptpPort p
  if portCount ≤ p || !s.flag F.TIME_P_CTRL_PDELAY_EN p || !oobReady s p || (q.nextReq.any fun t => decide (s.time.tbc < t)) then s
  else
    let s := if 3 ≤ q.noMeas && s.flag F.TIME_P_STAT_PD_VALID p then pdLost s p else s
    let seq := (q.seq + 1) % 65536
    let s := s.setPtpPort p
      { q with noMeas := min 3 (q.noMeas + 1), seq := seq, outstanding := none,
               nextReq := some (s.time.tbc + logSeconds 1 (s.sfld F.TIME_P_CTRL_LOG_PDELAY p)) }
    let m : PtpMsg := { msgType := ptpPdelayReq, domain := s.fld F.TIME_CTRL_DOMAIN, twoStep := false, corr := 0,
                        srcId := portId s p, seq := seq, tsSec := 0, tsNs := 0, reqId := 0, rest := [] }
    sendOob s p (.pdReq m)

def execPdelayReqTx (port : Nat) (s : State) : Host.Outcome State Fault Refusal := .next (s.live fun s => pdelayReqTx s port)

/-- Twice the measurement of a response, in 2^-16 ns (R61): (t4 − t1) − (t3 − t2), with the correctionFields; a two-step response
needs its Follow_Up. -/
def pdelayMeasure (t1 t4 : Stamp) (m : PtpMsg) (fu : Option PtpMsg) : Option Int :=
  let round : Int := (t4.t : Int) - (t1.t : Int) - m.corr
  let ns (x : PtpMsg) : Int := ((x.tsSec * 1000000000 + x.tsNs : Nat) : Int)
  if m.twoStep then fu.map fun f => round - f.corr - (ns f - ns m) * 65536 else some round

/-- PDELAY_RESP_RX: a response to the request outstanding, with the Follow_Up of a two-step one, completes a measurement. A valid
one joins the last eight, whose mean is meanLinkDelay; after a loss it restarts the mean (R61, R62). -/
def pdelayRespRx (s : State) (p : Nat) (m : PtpMsg) (rx : Stamp) (fu : Option PtpMsg) : State :=
  if portCount ≤ p || !s.flag F.TIME_P_CTRL_PDELAY_EN p || m.msgType ≠ ptpPdelayResp then s
  else
    let s := s.count C.TIME_P_PDRESP_RX p
    let q := s.ptpPort p
    match q.outstanding with
    | none => s
    | some (seq, t1) =>
      if seq ≠ m.seq || m.reqId ≠ portId s p then s
      else
        let (rx, s) := ingressStamp s p rx
        match pdelayMeasure t1 rx m fu with
        | none => s
        | some d =>
          if d < 0 || (s.fld F.TIME_P_CTRL_PDELAY_MAX p : Int) * 131072 < d || rx.epoch ≠ t1.epoch then
            s.setPtpPort p { q with outstanding := none }
          else
            let old := if s.flag F.TIME_P_STAT_PD_VALID p then q.meas else []
            let meas := (d :: old).take 8
            let (mean, s) := s.openRound (intSum meas) (meas.length * 8192)
            let s := s.setPtpPort p { q with meas := meas, noMeas := 0, outstanding := none }
            (s.setFld F.TIME_P_MLD_MLD mean.toNat p).setFlag F.TIME_P_STAT_PD_VALID true p

def execPdelayRespRx (port : Nat) (m : PtpMsg) (rx : Stamp) (fu : Option PtpMsg) (s : State) :
    Host.Outcome State Fault Refusal := .next (s.live fun s => pdelayRespRx s port m rx fu)

end Sys2Proof.Machine
end

