-- ==== Sys2Proof/Machine/RegsGate.lean ====
section
/-! DEFINITION. The GATE register block (block 8) as the register tables of spec/08_gate_pulses.md give it: every field with its
bits, access and reset value (F), every register (R), and the statistics counters of its banks (C). -/

namespace Sys2Proof.Machine

/-! GATE_CTRL: offset 0x0000, reset by device reset. -/
def F.GATE_CTRL_LOCK : Fld := ⟨8, 0, 0x0000, 4, 31, 1, .wl, 0x0⟩
def R.GATE_CTRL : RegDesc := ⟨8, 0, 0x0000, 4, 1, [F.GATE_CTRL_LOCK]⟩

/-! GATE_STAT: offset 0x0004, reset by device reset. -/
def F.GATE_STAT_CAL_DONE : Fld := ⟨8, 0, 0x0004, 4, 31, 1, .ro, 0x0⟩
def F.GATE_STAT_FROZEN : Fld := ⟨8, 0, 0x0004, 4, 30, 1, .ro, 0x0⟩
def F.GATE_STAT_SAFE_N : Fld := ⟨8, 0, 0x0004, 4, 24, 4, .ro, 0xF⟩
def F.GATE_STAT_SAFE : Fld := ⟨8, 0, 0x0004, 4, 0, 24, .ro, 0x0⟩
def R.GATE_STAT : RegDesc := ⟨8, 0, 0x0004, 4, 1, [F.GATE_STAT_CAL_DONE, F.GATE_STAT_FROZEN, F.GATE_STAT_SAFE_N, F.GATE_STAT_SAFE]⟩

/-! GATE_FLT: offset 0x0008, reset by device reset. -/
def F.GATE_FLT_CAL_ERR : Fld := ⟨8, 0, 0x0008, 4, 8, 1, .w1c, 0x0⟩
def F.GATE_FLT_CLK_STOP : Fld := ⟨8, 0, 0x0008, 4, 7, 1, .w1c, 0x0⟩
def F.GATE_FLT_FROZEN : Fld := ⟨8, 0, 0x0008, 4, 6, 1, .w1c, 0x0⟩
def F.GATE_FLT_DUTY_CLAMP : Fld := ⟨8, 0, 0x0008, 4, 5, 1, .w1c, 0x0⟩
def F.GATE_FLT_ANG_CANCEL : Fld := ⟨8, 0, 0x0008, 4, 4, 1, .w1c, 0x0⟩
def F.GATE_FLT_ANG_REFUSED : Fld := ⟨8, 0, 0x0008, 4, 3, 1, .w1c, 0x0⟩
def F.GATE_FLT_SAFE : Fld := ⟨8, 0, 0x0008, 4, 2, 1, .w1c, 0x0⟩
def F.GATE_FLT_COMMIT_REFUSED : Fld := ⟨8, 0, 0x0008, 4, 1, 1, .w1c, 0x0⟩
def F.GATE_FLT_CFG_ERR : Fld := ⟨8, 0, 0x0008, 4, 0, 1, .w1c, 0x0⟩
def R.GATE_FLT : RegDesc := ⟨8, 0, 0x0008, 4, 1, [F.GATE_FLT_CAL_ERR, F.GATE_FLT_CLK_STOP, F.GATE_FLT_FROZEN, F.GATE_FLT_DUTY_CLAMP, F.GATE_FLT_ANG_CANCEL, F.GATE_FLT_ANG_REFUSED, F.GATE_FLT_SAFE, F.GATE_FLT_COMMIT_REFUSED, F.GATE_FLT_CFG_ERR]⟩

/-! GATE_IEN: offset 0x000C, reset by device reset. -/
def F.GATE_IEN_IEN : Fld := ⟨8, 0, 0x000C, 4, 0, 9, .rw, 0x0⟩
def R.GATE_IEN : RegDesc := ⟨8, 0, 0x000C, 4, 1, [F.GATE_IEN_IEN]⟩

/-! GATE_MBX_CTL: offset 0x0030, reset by device reset. -/
def F.GATE_MBX_CTL_VALID : Fld := ⟨8, 0, 0x0030, 4, 31, 1, .ro, 0x0⟩
def F.GATE_MBX_CTL_BUSY : Fld := ⟨8, 0, 0x0030, 4, 30, 1, .ro, 0x0⟩
def F.GATE_MBX_CTL_ERR : Fld := ⟨8, 0, 0x0030, 4, 29, 1, .ro, 0x0⟩
def F.GATE_MBX_CTL_CMD : Fld := ⟨8, 0, 0x0030, 4, 0, 4, .wo, 0x0⟩
def R.GATE_MBX_CTL : RegDesc := ⟨8, 0, 0x0030, 4, 1, [F.GATE_MBX_CTL_VALID, F.GATE_MBX_CTL_BUSY, F.GATE_MBX_CTL_ERR, F.GATE_MBX_CTL_CMD]⟩

/-! GATE_MBX_D: offset 0x0034, 4 registers 0x4 apart, reset by device reset. -/
def F.GATE_MBX_D_VAL : Fld := ⟨8, 0, 0x0034, 4, 0, 32, .ro, 0x0⟩
def R.GATE_MBX_D : RegDesc := ⟨8, 0, 0x0034, 4, 4, [F.GATE_MBX_D_VAL]⟩

/-! GATE_CNTOVF: offset 0x0048, reset by device reset. -/
def F.GATE_CNTOVF_CHAN_OVF : Fld := ⟨8, 0, 0x0048, 4, 1, 1, .ro, 0x0⟩
def F.GATE_CNTOVF_DEV_OVF : Fld := ⟨8, 0, 0x0048, 4, 0, 1, .w1c, 0x0⟩
def R.GATE_CNTOVF : RegDesc := ⟨8, 0, 0x0048, 4, 1, [F.GATE_CNTOVF_CHAN_OVF, F.GATE_CNTOVF_DEV_OVF]⟩

/-! GATE_SEL: offset 0x0100, reset by device reset. -/
def F.GATE_SEL_INDEX : Fld := ⟨8, 0, 0x0100, 4, 0, 5, .rw, 0x0⟩
def R.GATE_SEL : RegDesc := ⟨8, 0, 0x0100, 4, 1, [F.GATE_SEL_INDEX]⟩

/-! GATE_C_CTL: offset 0x0200, reset by device reset. -/
def F.GATE_C_CTL_EN : Fld := ⟨8, 1, 0x0200, 4, 31, 1, .rw, 0x0⟩
def F.GATE_C_CTL_MODE : Fld := ⟨8, 1, 0x0200, 4, 29, 2, .rw, 0x0⟩
def F.GATE_C_CTL_PAIRED : Fld := ⟨8, 1, 0x0200, 4, 28, 1, .rw, 0x0⟩
def F.GATE_C_CTL_L_EN : Fld := ⟨8, 1, 0x0200, 4, 27, 1, .rw, 0x1⟩
def F.GATE_C_CTL_POL_H : Fld := ⟨8, 1, 0x0200, 4, 26, 1, .rw, 0x0⟩
def F.GATE_C_CTL_POL_L : Fld := ⟨8, 1, 0x0200, 4, 25, 1, .rw, 0x0⟩
def F.GATE_C_CTL_SAFE_STATE : Fld := ⟨8, 1, 0x0200, 4, 23, 2, .rw, 0x0⟩
def F.GATE_C_CTL_SAFE_MASK : Fld := ⟨8, 1, 0x0200, 4, 19, 4, .rw, 0xF⟩
def F.GATE_C_CTL_TRIP_EN : Fld := ⟨8, 1, 0x0200, 4, 18, 1, .rw, 0x0⟩
def F.GATE_C_CTL_RST_SAFE : Fld := ⟨8, 1, 0x0200, 4, 17, 1, .rw, 0x1⟩
def F.GATE_C_CTL_REFRESH_EN : Fld := ⟨8, 1, 0x0200, 4, 16, 1, .rw, 0x0⟩
def F.GATE_C_CTL_HOLD_OK : Fld := ⟨8, 1, 0x0200, 4, 15, 1, .rw, 0x0⟩
def F.GATE_C_CTL_LATCH : Fld := ⟨8, 1, 0x0200, 4, 14, 1, .rw, 0x0⟩
def F.GATE_C_CTL_GROUP : Fld := ⟨8, 1, 0x0200, 4, 11, 3, .rw, 0x0⟩
def F.GATE_C_CTL_OWNER : Fld := ⟨8, 1, 0x0200, 4, 0, 7, .rw, 0x0⟩
def R.GATE_C_CTL : RegDesc := ⟨8, 1, 0x0200, 4, 1, [F.GATE_C_CTL_EN, F.GATE_C_CTL_MODE, F.GATE_C_CTL_PAIRED, F.GATE_C_CTL_L_EN, F.GATE_C_CTL_POL_H, F.GATE_C_CTL_POL_L, F.GATE_C_CTL_SAFE_STATE, F.GATE_C_CTL_SAFE_MASK, F.GATE_C_CTL_TRIP_EN, F.GATE_C_CTL_RST_SAFE, F.GATE_C_CTL_REFRESH_EN, F.GATE_C_CTL_HOLD_OK, F.GATE_C_CTL_LATCH, F.GATE_C_CTL_GROUP, F.GATE_C_CTL_OWNER]⟩

/-! GATE_C_SRC: offset 0x0204, reset by device reset. -/
def F.GATE_C_SRC_DUTY_OW_EN : Fld := ⟨8, 1, 0x0204, 4, 31, 1, .rw, 0x0⟩
def F.GATE_C_SRC_ANG_OW_EN : Fld := ⟨8, 1, 0x0204, 4, 30, 1, .rw, 0x0⟩
def F.GATE_C_SRC_DUTY_OW : Fld := ⟨8, 1, 0x0204, 4, 24, 6, .rw, 0x0⟩
def F.GATE_C_SRC_ANG_OW : Fld := ⟨8, 1, 0x0204, 4, 16, 6, .rw, 0x0⟩
def F.GATE_C_SRC_TRIP_BIT : Fld := ⟨8, 1, 0x0204, 4, 8, 8, .rw, 0x0⟩
def F.GATE_C_SRC_CMD_BIT : Fld := ⟨8, 1, 0x0204, 4, 0, 8, .rw, 0x0⟩
def R.GATE_C_SRC : RegDesc := ⟨8, 1, 0x0204, 4, 1, [F.GATE_C_SRC_DUTY_OW_EN, F.GATE_C_SRC_ANG_OW_EN, F.GATE_C_SRC_DUTY_OW, F.GATE_C_SRC_ANG_OW, F.GATE_C_SRC_TRIP_BIT, F.GATE_C_SRC_CMD_BIT]⟩

/-! GATE_C_DT: offset 0x0208, reset by device reset. -/
def F.GATE_C_DT_DT : Fld := ⟨8, 1, 0x0208, 4, 0, 16, .rw, 0xC80⟩
def R.GATE_C_DT : RegDesc := ⟨8, 1, 0x0208, 4, 1, [F.GATE_C_DT_DT]⟩

/-! GATE_C_REFRESH: offset 0x020C, reset by device reset. -/
def F.GATE_C_REFRESH_INTERVAL : Fld := ⟨8, 1, 0x020C, 4, 16, 16, .rw, 0x3E8⟩
def F.GATE_C_REFRESH_WIDTH : Fld := ⟨8, 1, 0x020C, 4, 0, 16, .rw, 0x3E80⟩
def R.GATE_C_REFRESH : RegDesc := ⟨8, 1, 0x020C, 4, 1, [F.GATE_C_REFRESH_INTERVAL, F.GATE_C_REFRESH_WIDTH]⟩

/-! GATE_C_PERIOD_STG: offset 0x0210, reset by device reset. -/
def F.GATE_C_PERIOD_STG_VAL : Fld := ⟨8, 1, 0x0210, 4, 0, 32, .rw, 0x186A00⟩
def R.GATE_C_PERIOD_STG : RegDesc := ⟨8, 1, 0x0210, 4, 1, [F.GATE_C_PERIOD_STG_VAL]⟩

/-! GATE_C_DUTY_STG: offset 0x0214, reset by device reset. -/
def F.GATE_C_DUTY_STG_VAL : Fld := ⟨8, 1, 0x0214, 4, 0, 32, .rw, 0x0⟩
def R.GATE_C_DUTY_STG : RegDesc := ⟨8, 1, 0x0214, 4, 1, [F.GATE_C_DUTY_STG_VAL]⟩

/-! GATE_C_COMMIT: offset 0x0218, reset by device reset. -/
def F.GATE_C_COMMIT_COMMIT : Fld := ⟨8, 1, 0x0218, 4, 0, 1, .wo, 0x0⟩
def R.GATE_C_COMMIT : RegDesc := ⟨8, 1, 0x0218, 4, 1, [F.GATE_C_COMMIT_COMMIT]⟩

/-! GATE_C_PERIOD: offset 0x021C, reset by device reset. -/
def F.GATE_C_PERIOD_VAL : Fld := ⟨8, 1, 0x021C, 4, 0, 32, .ro, 0x0⟩
def R.GATE_C_PERIOD : RegDesc := ⟨8, 1, 0x021C, 4, 1, [F.GATE_C_PERIOD_VAL]⟩

/-! GATE_C_DUTY: offset 0x0220, reset by device reset. -/
def F.GATE_C_DUTY_VAL : Fld := ⟨8, 1, 0x0220, 4, 0, 32, .ro, 0x0⟩
def R.GATE_C_DUTY : RegDesc := ⟨8, 1, 0x0220, 4, 1, [F.GATE_C_DUTY_VAL]⟩

/-! GATE_C_ANG: offset 0x0224, reset by device reset. -/
def F.GATE_C_ANG_ANG : Fld := ⟨8, 1, 0x0224, 4, 0, 32, .rw, 0x0⟩
def R.GATE_C_ANG : RegDesc := ⟨8, 1, 0x0224, 4, 1, [F.GATE_C_ANG_ANG]⟩

/-! GATE_C_BRK: offset 0x0228, reset by device reset. -/
def F.GATE_C_BRK_BRK_DELAY : Fld := ⟨8, 1, 0x0228, 4, 0, 28, .rw, 0x0⟩
def R.GATE_C_BRK : RegDesc := ⟨8, 1, 0x0228, 4, 1, [F.GATE_C_BRK_BRK_DELAY]⟩

/-! GATE_C_STAT: offset 0x022C, reset by device reset. -/
def F.GATE_C_STAT_SAFE_CAUSE : Fld := ⟨8, 1, 0x022C, 4, 12, 3, .ro, 0x0⟩
def F.GATE_C_STAT_OUT_H : Fld := ⟨8, 1, 0x022C, 4, 9, 1, .ro, 0x0⟩
def F.GATE_C_STAT_OUT_L : Fld := ⟨8, 1, 0x022C, 4, 8, 1, .ro, 0x0⟩
def F.GATE_C_STAT_STG_P : Fld := ⟨8, 1, 0x022C, 4, 7, 1, .ro, 0x0⟩
def F.GATE_C_STAT_STG_D : Fld := ⟨8, 1, 0x022C, 4, 6, 1, .ro, 0x0⟩
def F.GATE_C_STAT_PEND : Fld := ⟨8, 1, 0x022C, 4, 5, 1, .ro, 0x0⟩
def F.GATE_C_STAT_HIZ : Fld := ⟨8, 1, 0x022C, 4, 3, 1, .ro, 0x1⟩
def F.GATE_C_STAT_STATE : Fld := ⟨8, 1, 0x022C, 4, 0, 3, .ro, 0x0⟩
def R.GATE_C_STAT : RegDesc := ⟨8, 1, 0x022C, 4, 1, [F.GATE_C_STAT_SAFE_CAUSE, F.GATE_C_STAT_OUT_H, F.GATE_C_STAT_OUT_L, F.GATE_C_STAT_STG_P, F.GATE_C_STAT_STG_D, F.GATE_C_STAT_PEND, F.GATE_C_STAT_HIZ, F.GATE_C_STAT_STATE]⟩

/-! GATE_C_FLT: offset 0x0230, reset by device reset. -/
def F.GATE_C_FLT_CNT_OVF : Fld := ⟨8, 1, 0x0230, 4, 6, 1, .w1c, 0x0⟩
def F.GATE_C_FLT_DUTY_CLAMP : Fld := ⟨8, 1, 0x0230, 4, 5, 1, .w1c, 0x0⟩
def F.GATE_C_FLT_ANG_CANCEL : Fld := ⟨8, 1, 0x0230, 4, 4, 1, .w1c, 0x0⟩
def F.GATE_C_FLT_ANG_REFUSED : Fld := ⟨8, 1, 0x0230, 4, 3, 1, .w1c, 0x0⟩
def F.GATE_C_FLT_SAFE : Fld := ⟨8, 1, 0x0230, 4, 2, 1, .w1c, 0x0⟩
def F.GATE_C_FLT_COMMIT_REFUSED : Fld := ⟨8, 1, 0x0230, 4, 1, 1, .w1c, 0x0⟩
def F.GATE_C_FLT_CFG_REFUSED : Fld := ⟨8, 1, 0x0230, 4, 0, 1, .w1c, 0x0⟩
def R.GATE_C_FLT : RegDesc := ⟨8, 1, 0x0230, 4, 1, [F.GATE_C_FLT_CNT_OVF, F.GATE_C_FLT_DUTY_CLAMP, F.GATE_C_FLT_ANG_CANCEL, F.GATE_C_FLT_ANG_REFUSED, F.GATE_C_FLT_SAFE, F.GATE_C_FLT_COMMIT_REFUSED, F.GATE_C_FLT_CFG_REFUSED]⟩

/-- Every register of the GATE block. -/
def regsGATE : List RegDesc := [
  R.GATE_CTRL, R.GATE_STAT, R.GATE_FLT, R.GATE_IEN, R.GATE_MBX_CTL, R.GATE_MBX_D,
  R.GATE_CNTOVF, R.GATE_SEL, R.GATE_C_CTL, R.GATE_C_SRC, R.GATE_C_DT, R.GATE_C_REFRESH,
  R.GATE_C_PERIOD_STG, R.GATE_C_DUTY_STG, R.GATE_C_COMMIT, R.GATE_C_PERIOD, R.GATE_C_DUTY, R.GATE_C_ANG,
  R.GATE_C_BRK, R.GATE_C_STAT, R.GATE_C_FLT]

def C.GATE_CAL_RUNS : Ctr := ⟨8, 0, 0x0400, 0x0, F.GATE_CNTOVF_DEV_OVF, .device, none⟩
def C.GATE_FREEZES : Ctr := ⟨8, 0, 0x0408, 0x0, F.GATE_CNTOVF_DEV_OVF, .device, none⟩
def C.GATE_CLK_STOPS : Ctr := ⟨8, 0, 0x0410, 0x0, F.GATE_CNTOVF_DEV_OVF, .device, none⟩
def C.GATE_C_PERIODS : Ctr := ⟨8, 1, 0x0240, 0x0, F.GATE_C_FLT_CNT_OVF, .instance_, none⟩
def C.GATE_C_PULSES : Ctr := ⟨8, 1, 0x0248, 0x0, F.GATE_C_FLT_CNT_OVF, .instance_, none⟩
def C.GATE_C_REFRESHES : Ctr := ⟨8, 1, 0x0250, 0x0, F.GATE_C_FLT_CNT_OVF, .instance_, none⟩
def C.GATE_C_COMMITS : Ctr := ⟨8, 1, 0x0258, 0x0, F.GATE_C_FLT_CNT_OVF, .instance_, none⟩
def C.GATE_C_COMMIT_REFUSED : Ctr := ⟨8, 1, 0x0260, 0x0, F.GATE_C_FLT_CNT_OVF, .instance_, none⟩
def C.GATE_C_ANG_ARMS : Ctr := ⟨8, 1, 0x0268, 0x0, F.GATE_C_FLT_CNT_OVF, .instance_, none⟩
def C.GATE_C_ANG_REFUSED : Ctr := ⟨8, 1, 0x0270, 0x0, F.GATE_C_FLT_CNT_OVF, .instance_, none⟩
def C.GATE_C_ANG_CANCEL : Ctr := ⟨8, 1, 0x0278, 0x0, F.GATE_C_FLT_CNT_OVF, .instance_, none⟩
def C.GATE_C_SAFE_ENTRIES : Ctr := ⟨8, 1, 0x0280, 0x0, F.GATE_C_FLT_CNT_OVF, .instance_, none⟩
def C.GATE_C_TRIG_IGNORED : Ctr := ⟨8, 1, 0x0288, 0x0, F.GATE_C_FLT_CNT_OVF, .instance_, none⟩

end Sys2Proof.Machine
end

