-- ==== Sys2Proof/Machine/GateSafe.lean ====
section
/-! DEFINITION. Gate channels: their outputs and the entry into SAFE, which every force shares (chapter 8). -/

namespace Sys2Proof.Machine

def GateCh.reset : GateCh :=
  { raw := false, refreshEnd := none, since := 0, rk := 0, pulseEnd := none, pendP := none, pendD := none, prevCmd := false,
    sched := 0, schedX := 0, fixed := false, safeAt := none, lowOn := none, recs := [] }

def State.gch (s : State) (n : Nat) : GateCh := sparseGet GateCh.reset s.gate.chans n

def State.setGch (s : State) (n : Nat) (c : GateCh) : State :=
  { s with gate := { s.gate with chans := sparseSet GateCh.reset s.gate.chans n c } }

/-- The number of gate channels. -/
def gateChans : Nat := 24

def gsOff : Nat := 0
def gsIdle : Nat := 1
def gsRun : Nat := 2
def gsWait : Nat := 3
def gsPulse : Nat := 4
def gsSafe : Nat := 5

/-- The state of a gate channel (R275). -/
def gateState (s : State) (n : Nat) : Nat := s.fld F.GATE_C_STAT_STATE n

/-- Put a gate channel into a state, keeping the bit map of SAFE channels. -/
def setGateState (s : State) (n st : Nat) : State :=
  (s.setFld F.GATE_C_STAT_STATE st n).setFbit F.GATE_STAT_SAFE n (st = gsSafe)

/-- The switching signal s of a channel in RUN (R264, R269). -/
def GateCh.sig (c : GateCh) : Bool := c.raw && c.refreshEnd.isNone

/-- Is the high side active (R260, R261, R277)? -/
def gateOutH (s : State) (n : Nat) : Bool :=
  let c := s.gch n
  let st := gateState s n
  if st = gsRun then c.sig && decide (c.since + s.fld F.GATE_C_DT_DT n ≤ s.gate.cnt) else decide (st = gsPulse)

/-- Is the low side active (R260, R261, R277)? -/
def gateOutL (s : State) (n : Nat) : Bool :=
  let c := s.gch n
  let st := gateState s n
  if st = gsRun then
    s.flag F.GATE_C_CTL_L_EN n && !c.sig && decide (c.since + s.fld F.GATE_C_DT_DT n ≤ s.gate.cnt)
  else if st = gsSafe then
    match c.lowOn with
    | some t => decide (t ≤ s.gate.pwm)
    | none => false
  else false

/-- The level that GATE_n_H is driven to, none while it is high-impedance: from reset until EN is first accepted (R255). A POL bit of 0 makes the output active
high. -/
def gateBallH (s : State) (n : Nat) : Option Bool :=
  if s.flag F.GATE_C_STAT_HIZ n || s.clk.held then none else some (gateOutH s n != s.flag F.GATE_C_CTL_POL_H n)

/-- The level that GATE_n_L is driven to. -/
def gateBallL (s : State) (n : Nat) : Option Bool :=
  if s.flag F.GATE_C_STAT_HIZ n || s.clk.held then none else some (gateOutL s n != s.flag F.GATE_C_CTL_POL_L n)

def safeCauseBall : Nat := 1
def safeCauseTrip : Nat := 2
def safeCauseReset : Nat := 3
def safeCauseClock : Nat := 4

/-- A further force at the instant of the entry: the lowest cause code is recorded (R278). -/
def lowerCause (s : State) (n cause : Nat) : State :=
  if (s.gch n).safeAt = some s.gate.pwm && decide (cause < s.fld F.GATE_C_STAT_SAFE_CAUSE n) then
    let one (e : Event) : Event := if e.src = 8 && e.code = 0x0803 && e.p0 = n then { e with p1 := cause } else e
    ({ s with elog := { s.elog with offered := s.elog.offered.map one } }).setFld F.GATE_C_STAT_SAFE_CAUSE cause n
  else s

/-- A force puts a channel that is neither OFF nor SAFE into SAFE (R277 to R279): the high side is off at once, and under
LOW_ON the low side turns on DT later. -/
def enterSafe (s : State) (n cause : Nat) : State :=
  let st := gateState s n
  if st = gsOff then s
  else if st = gsSafe then lowerCause s n cause
  else
    let lowOn := s.fld F.GATE_C_CTL_SAFE_STATE n = 1 && s.flag F.GATE_C_CTL_L_EN n
    let c := s.gch n
    let c : GateCh := { c with raw := false, refreshEnd := none, pulseEnd := none, sched := 0, schedX := 0, fixed := false, safeAt := some s.gate.pwm,
                               lowOn := if lowOn then some (s.gate.pwm + s.fld F.GATE_C_DT_DT n) else none }
    let s := (setGateState (s.setGch n c) n gsSafe).setFld F.GATE_C_STAT_SAFE_CAUSE cause n
    let s := (s.setFlag F.GATE_C_FLT_SAFE true n).count C.GATE_C_SAFE_ENTRIES n
    let s := s.event 8 0x0803 (s.fld F.GATE_C_CTL_OWNER n) n cause
    s.setFlt F.GATE_FLT_SAFE

/-- A reset of a partition is asserted: its channels with RST_SAFE set enter SAFE (R278, R430). While the PWM clock is
stopped only the SAFE_N path acts (R283). -/
def gateOwnerReset (s : State) (p : Nat) : State :=
  if s.gate.stopped then s else (List.range gateChans).foldl
    (fun s n => if s.fld F.GATE_C_CTL_OWNER n = p && s.flag F.GATE_C_CTL_RST_SAFE n then enterSafe s n safeCauseReset else s) s

end Sys2Proof.Machine
end

