-- ==== Sys2Proof/Machine/Partition.lean ====
section
/-! DEFINITION. Partition resets (R427 to R430) and the watchdogs that cause them (R434 to R436). -/

namespace Sys2Proof.Machine

def PartRes.reset : PartRes :=
  { pulseEnd := none, causes := 0, wdHold := false, lwdHold := false, wdFrom := none, warned := false }

def State.pres (s : State) (p : Nat) : PartRes := sparseGet PartRes.reset s.part.res p

def State.setPres (s : State) (p : Nat) (r : PartRes) : State :=
  { s with part := { s.part with res := sparseSet PartRes.reset s.part.res p r } }

/-- The number of partitions. -/
def partCount : Nat := 128

def srcHold : Nat := 0
def srcPulse : Nat := 1
def srcWd : Nat := 2
def srcLwd : Nat := 3
def srcViol : Nat := 4

/-- The active sources of a partition's reset, as PART_T_STAT.SOURCES shows them (R427). -/
def partSources (s : State) (p : Nat) : Nat :=
  let r := s.pres p
  ofBit (s.flag F.PART_T_CTL_HOLD p) ||| (if r.pulseEnd.isSome then r.causes else 0)
    ||| (if r.wdHold then 2 ^ srcWd else 0) ||| (if r.lwdHold then 2 ^ srcLwd else 0)

/-- Is a partition held in reset? -/
def partHeld (s : State) (p : Nat) : Bool := s.flag F.PART_T_STAT_HELD p

/-- After a change of a partition's sources: reset is asserted when one is active and none was, with what that reaches in the other blocks (R428, R430); when
none is left, the SYS edge's end finds whether one has come about at that edge (R427). Partition 0 is never reset on its own (R411). -/
def partSettle (s : State) (p : Nat) : State :=
  let src := partSources s p
  let s := s.setFld F.PART_T_STAT_SOURCES src p
  if p = 0 || partCount ≤ p then s
  else if src ≠ 0 && !partHeld s p then
    let s := (s.setFlag F.PART_T_STAT_HELD true p).setPartBit F.PART_RST_HELD p true
    let s := ((s.count C.PART_T_RESETS p).count C.PART_RESETS_TOTAL).event 14 0x0E01 p src
    let r := s.pres p
    let s := s.setPres p { r with wdFrom := none, warned := false }
    let s := s.setFld F.PART_T_STAT_LWD_COUNT 0 p
    gateOwnerReset (laneReset (s.setFlag F.TWIN_T_STAT_INSTALLED false p) p) p
  else if src = 0 && partHeld s p then { s with part := { s.part with leaving := p :: s.part.leaving } }
  else s

/-- The end of the SYS edge at which a partition's last source ended: reset is released where it has none at that edge (R427, R430). -/
def partLeave (s : State) (p : Nat) : State :=
  if partSources s p = 0 && partHeld s p then
    let s := (s.setFlag F.PART_T_STAT_HELD false p).setPartBit F.PART_RST_HELD p false
    let s := s.event 14 0x0E02 p
    let s := (s.setFld F.PART_T_STAT_LWD_COUNT 0 p).setFlag F.LANE_T_STAT_RESET_HELD (joinHeld s p) p
    let r := s.pres p
    let s := s.setPres p { r with wdFrom := some s.time.sys, warned := false }
    s.raiseIdent p 36
  else s

/-- A SYS edge ends: the resets of partitions that have no source any more are released. -/
def partEdge (s : State) : State := s.part.leaving.foldl partLeave { s with part := { s.part with leaving := [] } }

/-- Start or restart a reset pulse of a partition for a cause: it lasts PULSE_US µs, 0 counting as 1, and carries the causes
of the pulse it restarts (R427). -/
def partPulse (s : State) (p cause : Nat) : State :=
  if p = 0 || partCount ≤ p then s.setFlt F.PART_FLT_CFG_ERR
  else
    let r := s.pres p
    let us := max 1 (s.fld F.PART_T_CTL_PULSE_US p)
    let causes := (if r.pulseEnd.isSome then r.causes else 0) ||| 2 ^ cause
    partSettle (s.setPres p { r with pulseEnd := some (s.time.sys + us * 1000), causes := causes }) p

/-- A watchdog acts by its ACT: 0 flag, 1 pulse, 2 or 3 hold (R434, R435). -/
def watchdogAct (s : State) (p act cause : Nat) : State :=
  if act = 0 || p = 0 then s
  else if act = 1 then partPulse s p cause
  else
    let r := s.pres p
    partSettle (s.setPres p (if cause = srcWd then { r with wdHold := true } else { r with lwdHold := true })) p

/-- PULSE: a reset pulse by command; one of partition 0 is refused (R411, R427). -/
def execPulse (p : Nat) (s : State) : Host.Outcome State Fault Refusal := .next (s.live fun s => partPulse s p srcPulse)

/-- HOLD_WRITE: a write of HOLD. Writing 1 starts the hold and ends the holds of the watchdogs; writing 0 ends it, and ends
no watchdog hold while HOLD is 0 (R427). For partition 0 it is refused (R411, R437). -/
def holdWrite (s : State) (p : Nat) (v : Bool) : State :=
  if partCount ≤ p then s
  else if p = 0 then (if v then s.setFlt F.PART_FLT_CFG_ERR else s)
  else
    let r := s.pres p
    let s := if v then s.setPres p { r with wdHold := false, lwdHold := false } else s
    partSettle (s.setFlag F.PART_T_CTL_HOLD v p) p

def execHoldWrite (p : Nat) (v : Bool) (s : State) : Host.Outcome State Fault Refusal := .next (s.live fun s => holdWrite s p v)

/-- RESET_PULSE_END: PULSE_US has elapsed; the pulse ends and, when no source remains at that edge, reset is released (R427). -/
def resetPulseEnd (s : State) (p : Nat) : State :=
  let r := s.pres p
  match r.pulseEnd with
  | some e => if e ≤ s.time.sys then partSettle (s.setPres p { r with pulseEnd := none, causes := 0 }) p else s
  | none => s

def execResetPulseEnd (p : Nat) (s : State) : Host.Outcome State Fault Refusal := .next (s.live fun s => resetPulseEnd s p)

/-! ## Watchdogs -/

/-- A millisecond in SYS cycles. -/
def msCycles : Nat := 1000000

/-- The application watchdog counts again from zero; while the partition is held its watchdogs stay stopped (R430, R434). -/
def wdRestart (s : State) (p : Nat) : State :=
  if p = 0 || partCount ≤ p || partHeld s p then s
  else
    let r := s.pres p
    s.setPres p { r with wdFrom := some s.time.sys, warned := false }

/-- The count of a partition's application watchdog in ms, none while it does not count (R434). -/
def wdCount (s : State) (p : Nat) : Option Nat :=
  if s.fld F.PART_T_WD_TIMEOUT p = 0 then none else (s.pres p).wdFrom.map fun f => (s.time.sys - f) / msCycles

/-- WD_KICK: the application watchdog counts again from zero. A kick at the edge at which the count reaches TIMEOUT, or later before the expiry has been taken, is too
late and does nothing (R434). -/
def wdKick (s : State) (p : Nat) : State :=
  if (wdCount s p).any fun c => decide (s.fld F.PART_T_WD_TIMEOUT p ≤ c) then s else wdRestart s p

def execWdKick (p : Nat) (s : State) : Host.Outcome State Fault Refusal := .next (s.live fun s => wdKick s p)

/-- WD_WARN: the count has reached a nonzero WARN (R434). -/
def wdWarn (s : State) (p : Nat) : State :=
  match wdCount s p with
  | none => s
  | some c =>
    let w := s.fld F.PART_T_WD_WARN p
    let r := s.pres p
    if w = 0 || c < w || r.warned then s
    else
      let s := s.setPres p { r with warned := true }
      let s := ((s.setFlag F.PART_T_FLT_WD_WARN true p).count C.PART_T_WD_WARNS p).event 14 0x0E04 p w
      (s.setFlt F.PART_FLT_WD_WARN).raiseIdent p 34

def execWdWarn (p : Nat) (s : State) : Host.Outcome State Fault Refusal := .next (s.live fun s => wdWarn s p)

/-- WD_EXPIRY: the count has reached TIMEOUT; it stops until the next kick and the watchdog acts by ACT (R434). -/
def wdExpiry (s : State) (p : Nat) : State :=
  match wdCount s p with
  | none => s
  | some c =>
    if c < s.fld F.PART_T_WD_TIMEOUT p then s
    else
      let act := s.fld F.PART_T_WD_ACT p
      let r := s.pres p
      let s := s.setPres p { r with wdFrom := none }
      let s := ((s.setFlag F.PART_T_FLT_WD_EXP true p).count C.PART_T_WD_EXPIRIES p).event 14 0x0E05 p act
      watchdogAct (s.setFlt F.PART_FLT_WD_EXP) p act srcWd

def execWdExpiry (p : Nat) (s : State) : Host.Outcome State Fault Refusal := .next (s.live fun s => wdExpiry s p)

/-- ACT as a write of a watchdog's register gives it: that of partition 0 is ignored and sets CFG_ERR (R411, R437). -/
def writeAct (s : State) (f : Fld) (p v : Nat) : State :=
  if p = 0 then (if bitsOf v 31 30 = 0 then s else s.setFlt F.PART_FLT_CFG_ERR) else s.setFld f (bitsOf v 31 30) p

/-- WD_CONFIG_WRITE: a write of PART_T_WD (or, with `lane`, PART_T_LWD) restarts the count from zero and ends a hold of that
watchdog. One with a WARN at or above a nonzero TIMEOUT is ignored and sets CFG_ERR (R434). With PART_CTRL.LOCK set a
change is a lock violation (R437). -/
def wdConfigWrite (s : State) (p : Nat) (lane : Bool) (v : Nat) : State :=
  let locked := s.flag F.PART_CTRL_LOCK
  if partCount ≤ p then s
  else if lane then
    if locked && s.fldsDiffer [F.PART_T_LWD_ACT, F.PART_T_LWD_LIMIT] p v then s.rowLocked 14 0x210 v
    else
      let s := (writeAct s F.PART_T_LWD_ACT p v).setFld F.PART_T_LWD_LIMIT (v % 256) p
      let r := s.pres p
      partSettle ((s.setFld F.PART_T_STAT_LWD_COUNT 0 p).setPres p { r with lwdHold := false }) p
  else if locked && s.fldsDiffer [F.PART_T_WD_ACT, F.PART_T_WD_WARN, F.PART_T_WD_TIMEOUT] p v then s.rowLocked 14 0x20C v
  else if v % 65536 ≠ 0 && v % 65536 ≤ bitsOf v 29 16 then s.setFlt F.PART_FLT_CFG_ERR
  else
    let s := ((writeAct s F.PART_T_WD_ACT p v).setFld F.PART_T_WD_WARN (bitsOf v 29 16) p).setFld F.PART_T_WD_TIMEOUT (v % 65536) p
    let r := s.pres p
    wdRestart (partSettle (s.setPres p { r with wdHold := false }) p) p

def execWdConfigWrite (p : Nat) (lane : Bool) (v : Nat) (s : State) : Host.Outcome State Fault Refusal :=
  .next (s.live fun s => wdConfigWrite s p lane v)

/-- The lane watchdog reaches LIMIT: it raises identity 35, acts by ACT and counts from zero (R435). -/
def lwdFire (s : State) (p win : Nat) : State :=
  let act := s.fld F.PART_T_LWD_ACT p
  let s := s.setFld F.PART_T_STAT_LWD_COUNT 0 p
  let s := ((s.setFlag F.PART_T_FLT_LWD_EXP true p).count C.PART_T_LWD_EXPIRIES p).event 14 0x0E06 p act win
  watchdogAct ((s.setFlt F.PART_FLT_LWD_EXP).raiseIdent p 35) p act srcLwd

/-- LWD_EXPIRY: the lane watchdog's count has reached LIMIT, which is not 0 (R435). -/
def lwdExpiry (s : State) (p win : Nat) : State :=
  let lim := s.fld F.PART_T_LWD_LIMIT p
  if lim = 0 || partHeld s p || s.fld F.PART_T_STAT_LWD_COUNT p < lim then s else lwdFire s p win

def execLwdExpiry (p win : Nat) (s : State) : Host.Outcome State Fault Refusal := .next (s.live fun s => lwdExpiry s p win)

/-- The status of a scheduled window reaches the lane watchdog: LATE, FAULT and FAIL are counted, COMMITTED and HELD set the
count to zero, NOT_RUN and RESET leave it (R435). The expiry itself is the command LWD_EXPIRY. -/
def lwdStatus (s : State) (p st : Nat) : State :=
  if partHeld s p then s
  else if st = wsCommitted || st = wsHeld then s.setFld F.PART_T_STAT_LWD_COUNT 0 p
  else if st = wsLate || st = wsFault || st = wsFail then
    s.setFld F.PART_T_STAT_LWD_COUNT (min 255 (s.fld F.PART_T_STAT_LWD_COUNT p + 1)) p
  else s

/-! ## Device watchdog (R436) -/

/-- DWD_KICK: 0x5A and then 0xA5 kick; any other write restarts the sequence. -/
def dwdKick (s : State) (v : Nat) : State :=
  if v % 256 = 0x5A then { s with part := { s.part with kickStep := true } }
  else if v % 256 = 0xA5 && s.part.kickStep then
    { s with part := { s.part with kickStep := false, dwdAt := s.time.sys, dwdWarned := false } }
  else { s with part := { s.part with kickStep := false } }

def execDwdKick (v : Nat) (s : State) : Host.Outcome State Fault Refusal := .next (s.live fun s => dwdKick s v)

/-- The device watchdog's TIMEOUT in SYS cycles; 0 is treated as 1. -/
def dwdTimeout (s : State) : Nat := max 1 (s.fld F.PART_DWD_CTL_TIMEOUT) * 10 * msCycles

/-- DWD_WARN: half of TIMEOUT has passed since the last kick. -/
def dwdWarn (s : State) : State :=
  if !s.flag F.PART_DWD_CTL_EN || s.part.dwdWarned || s.time.sys < s.part.dwdAt + dwdTimeout s / 2 then s
  else
    let s := { s with part := { s.part with dwdWarned := true } }
    ((s.count C.PART_DWD_WARNINGS).event 14 0x0E07 0 (s.fld F.PART_DWD_CTL_TIMEOUT)).setFlt F.PART_FLT_DWD_WARN

def execDwdWarn (s : State) : Host.Outcome State Fault Refusal := .next (s.live fun s => dwdWarn s)

end Sys2Proof.Machine
end

