-- ==== Sys2Proof/Machine/Fabric.lean ====
section
/-! DEFINITION. The system fabric and the memories behind it: the address map (R22 to R32), Breakwater (R412 to R418), the
refusals of a held partition (R429) and the bandwidth periods (R431). -/

namespace Sys2Proof.Machine

/-! ## Memory bytes -/

/-- A byte of LPDDR5X or of a lane memory, by physical address; an unlisted byte reads 0. -/
def State.memByte (s : State) (a : Nat) : Nat := (sparseGet (0#8) s.mem a).toNat

/-- The canonical form of the memory: addresses strictly rising, and no entry equal to what an unlisted byte reads as. -/
def Memory.wf (m : List Host.Cell) : Bool := sparseWf (0#8) m

def State.setMemByte (s : State) (a v : Nat) : State := { s with mem := sparseSet (0#8) s.mem a (BitVec.ofNat 8 v) }

def State.memBytes (s : State) (a n : Nat) : List Nat := (List.range n).map fun i => s.memByte (a + i)

/-- Write octets from an address upward. -/
def State.setMemBytes (s : State) (a : Nat) : List Nat → State
  | [] => s
  | v :: t => (s.setMemByte a v).setMemBytes (a + 1) t

/-! ## The sample plane -/

/-- The void entry (R173): value and quality word. -/
def voidEntry : Nat × Nat := (0, 0xFF050001)

/-- What a read that meets a double-bit error returns (R183). -/
def badEntry : Nat × Nat := (0, 0xFF040001)

/-- A slot of a channel's ring as held. -/
def State.planeAt (s : State) (c slot : Nat) : Nat × Nat := sparseGet voidEntry s.fab.plane (c * 256 + slot % 256)

/-- The FDC writes an entry: a faulty entry is replaced (R183). -/
def State.setPlane (s : State) (c slot : Nat) (e : Nat × Nat) : State :=
  let k := c * 256 + slot % 256
  { s with fab := { s.fab with plane := sparseSet voidEntry s.fab.plane k e, planeBad := s.fab.planeBad.filter (· ≠ k)
                               planeSingle := s.fab.planeSingle.filter (· ≠ k) } }

/-- The ECC check of a read of a slot that holds entry `e` (R183). -/
def readPlaneAs (s : State) (c slot : Nat) (e : Nat × Nat) : (Nat × Nat) × State :=
  if s.fab.planeBad.contains (c * 256 + slot % 256) then (badEntry, (s.count C.FDC_ECC_UE).setFlt F.FDC_FLT_ECC_UE)
  else if s.fab.planeSingle.contains (c * 256 + slot % 256) then (e, (s.count C.FDC_ECC_CE).setFlt F.FDC_FLT_ECC_CE)
  else (e, s)

/-- Read a slot with its ECC check (R183). -/
def readPlane (s : State) (c slot : Nat) : (Nat × Nat) × State := readPlaneAs s c slot (s.planeAt c slot)

/-! ## The address map (R22) -/

/-- Where a physical address leads. -/
inductive Region where
  | rom
  | plane
  | lane (pair : Nat)
  | regs
  | lpddr
  | none
  deriving DecidableEq, Repr

def gib : Nat := 2 ^ 30
def lpddrBase : Nat := 0x800000000
def regBase : Nat := 0x40000000
def regEnd : Nat := 0x40120000
def laneBase : Nat := 0x20000000
def planeBase : Nat := 0x10000000

/-- The installed sizes of MCA and MCB in octets (R29). -/
def mcaSize (s : State) : Nat := s.fld F.SYS_MEM_MCA_SIZE * gib
def mcbSize (s : State) : Nat := s.fld F.SYS_MEM_MCB_SIZE * gib
def lpddrSize (s : State) : Nat := mcaSize s + mcbSize s

/-- Is an offset in a pair's window populated (R23, R27)? -/
def lanePopulated (off : Nat) : Bool := decide (off < 0x20000) || (decide (0x40000 ≤ off) && decide (off < 0x80000))

/-- The region of an address, `none` where nothing is populated (R23). -/
def regionOf (s : State) (a : Nat) : Region :=
  if a < 0x20000 then .rom
  else if planeBase ≤ a && a < planeBase + 0x1000000 then .plane
  else if laneBase ≤ a && a < laneBase + 24 * 0x100000 then
    if lanePopulated (a % 0x100000) then .lane ((a - laneBase) / 0x100000) else .none
  else if regBase ≤ a && a < regEnd then .regs
  else if lpddrBase ≤ a && a < lpddrBase + lpddrSize s then .lpddr
  else .none

/-- Is an LPDDR5X address held by MCB (R28)? -/
def inMcb (s : State) (a : Nat) : Bool :=
  let off := a - lpddrBase
  if mcaSize s = mcbSize s then decide (off / 4096 % 2 = 1) else decide (mcaSize s ≤ off)

/-- Has the channel that holds an address failed (R30)? -/
def channelFailed (s : State) (a : Nat) : Bool :=
  if inMcb s a then s.flag F.SYS_MEM_MCB_FAILED else s.flag F.SYS_MEM_MCA_FAILED

/-- Does a failed channel hold an octet of an access? -/
def accessFailed (s : State) (a n : Nat) : Bool := (List.range n).any fun i => channelFailed s (a + i)

/-- The 32-octet blocks of LPDDR5X that a range of octets touches. -/
def eccBlocks (a n : Nat) : List Nat :=
  let b := (a - lpddrBase) / 32
  (List.range ((a - lpddrBase + n - 1) / 32 + 1 - b)).map (b + ·)

/-! ## Memory accesses that Breakwater has admitted -/

/-- Count the octets of a partition's access. -/
def countBytes (s : State) (tag n : Nat) (write : Bool) : State :=
  s.countBy (if write then C.PART_T_WR_BYTES else C.PART_T_RD_BYTES) n tag

/-- Count the octets of a partition's access to LPDDR5X, which also use its bandwidth of the period (R431). -/
def useBytes (s : State) (tag n : Nat) (write : Bool) : State :=
  let s := countBytes s tag n write
  { s with fab := { s.fab with used := sparseSet 0 s.fab.used tag (sparseGet 0 s.fab.used tag + n) } }

/-- The first octet of an access that lies in an ECC block. -/
def blockFirst (a b : Nat) : Nat := max a (lpddrBase + b * 32)

/-- A block that an LPDDR5X read finds with a single-bit error is counted for its channel (R31). -/
def eccCe (s : State) (b : Nat) : State := s.count (if inMcb s (lpddrBase + b * 32) then C.SYS_MCB_ECC_CE else C.SYS_MCA_ECC_CE)

/-- A block that an LPDDR5X read of `a` on finds with a double-bit error is counted for its channel, flagged and recorded (R31). -/
def eccUe (s : State) (tag a b : Nat) : State :=
  let mcb := inMcb s (lpddrBase + b * 32)
  let at_ := blockFirst a b
  ((s.count (if mcb then C.SYS_MCB_ECC_UE else C.SYS_MCA_ECC_UE)).setFlt F.SYS_FLT_MEM_ECC_UE).event 0 0x0003 tag (at_ % 2 ^ 32)
    (at_ / 2 ^ 32 % 16 + ofBit mcb * 256)

/-- Count the corrected and report the uncorrectable blocks of an LPDDR5X read; one that meets an uncorrectable block ends in a bus error (R31). -/
def eccRead (s : State) (init tag a n : Nat) : Bool × State :=
  let blks := eccBlocks a n
  let s := (blks.filter fun b => s.fab.single.contains b).foldl eccCe s
  let bad := blks.filter fun b => s.fab.poison.contains b
  if bad.isEmpty then (true, s) else (false, (bad.foldl (fun s b => eccUe s tag a b) s).busError 7 init tag a false)

/-- After an LPDDR5X write: a block written whole is sound, a block written in part keeps the mark of a double-bit error and loses a single-bit error, which the
read of the read-modify-write corrects (R31). -/
def eccWrite (s : State) (a n : Nat) : State :=
  let whole (b : Nat) : Bool := decide (a ≤ lpddrBase + b * 32) && decide (lpddrBase + b * 32 + 32 ≤ a + n)
  { s with fab := { s.fab with poison := s.fab.poison.filter fun b => !whole b,
                               single := s.fab.single.filter fun b => !(eccBlocks a n).contains b } }

/-- An octet of the sample plane. -/
def planeByte (e : Nat × Nat) (i : Nat) : Nat := (if i < 4 then e.1 else e.2) / 256 ^ (i % 4) % 256

/-- Read octets of the sample plane, each slot once. -/
def planeBytes (s : State) (a n : Nat) : List Nat × State :=
  (List.range ((a + n - 1) / 8 + 1 - a / 8)).foldl
    (fun (acc : List Nat × State) j =>
      let o := (a / 8 + j) * 8
      let (e, s) := readPlane acc.2 ((o - planeBase) / 2048) ((o - planeBase) / 8 % 256)
      (acc.1 ++ ((List.range 8).filter fun i => decide (a ≤ o + i) && decide (o + i < a + n)).map (planeByte e), s))
    ([], s)

/-- Do all octets of an access lie in one populated region? -/
def oneRegion (s : State) (a n : Nat) : Region :=
  let r := regionOf s a
  if (List.range n).all fun i => decide (regionOf s (a + i) = r) then r else .none

/-- What an LPDDR5X read answers after its ECC check, which says whether the data is sound. -/
def lpddrRead (tag a n : Nat) (p : Bool × State) : Option (List Nat) × State :=
  if p.1 then (some (p.2.memBytes a n), useBytes p.2 tag n false) else (none, p.2)

/-- Read octets outside the register space; a refusal by the map is a bus error (R23, R30, R31). -/
def memRead (s : State) (init tag a n : Nat) : Option (List Nat) × State :=
  match oneRegion s a n with
  | .rom => (some ((List.range n).map fun i => Config.bootRom (a + i) % 256), s)
  | .plane => (some (planeBytes s a n).1, countBytes (planeBytes s a n).2 tag n false)
  | .lane _ =>
    let bad := (laneWords a n).countP s.lane.faulty.contains
    let s := laneCeCount s ((a - laneBase) / 0x100000) ((laneWords a n).countP s.lane.single.contains)
    if bad = 0 then (some (s.memBytes a n), countBytes s tag n false)
    else
      let s := (s.countBy C.LANE_ECC_UE bad).setFlt F.LANE_FLT_ECC_UE
      let s := s.countBy C.LANE_P_ECC_UE bad ((a - laneBase) / 0x100000)
      let (v, s) := s.takeFree
      (some (octetsLE n v), countBytes s tag n false)
  | .lpddr =>
    if accessFailed s a n then (none, s.busError 7 init tag a false)
    else lpddrRead tag a n (eccRead s init tag a n)
  | .regs => (none, s.busError 0 init tag a false)
  | .none => (none, s.busError 2 init tag a false)

/-- Is a table's memory closed to the fabric: a pair runs the table in an enabled group (R189)? -/
def tableClosed (s : State) (n : Nat) : Bool :=
  grpEn s (s.fld F.TIDE_P_CFG_GROUP n) && (pairOfTable s n).isSome

/-- A write of `n` octets to LPDDR5X ends every core's reservation of a line of 64 octets that it touches. -/
def dropResv (s : State) (a n : Nat) : State :=
  let hit (c : CoreSt) : Bool :=
    match c.resv with | some r => decide (a / 64 ≤ r.1 / 64) && decide (r.1 / 64 ≤ (a + n - 1) / 64) | none => false
  if s.core.cores.any fun e => hit e.2 then
    { s with core := { s.core with cores := s.core.cores.map fun e => (e.1, if hit e.2 then { e.2 with resv := none } else e.2) } }
  else s

/-- Write octets outside the register space (R23, R24, R30, R189). -/
def memWrite (s : State) (init tag a : Nat) (l : List Nat) : Bool × State :=
  match oneRegion s a l.length with
  | .rom => (false, s.busError 3 init tag a true)
  | .plane => (false, s.busError 3 init tag a true)
  | .lane n =>
    if tableClosed s n then (false, ((s.busError 4 init tag a true).count C.LANE_LOAD_REFUSED).setFlt F.LANE_FLT_LOAD_REFUSED)
    else
      let s := clearMeasured (s.setMemBytes a l) n (a % 0x100000) l.length
      (true, countBytes (laneSound s a l.length) tag l.length true)
  | .lpddr =>
    if accessFailed s a l.length then (false, s.busError 7 init tag a true)
    else (true, useBytes (eccWrite (dropResv (s.setMemBytes a l) a l.length) a l.length) tag l.length true)
  | .regs => (false, s.busError 0 init tag a true)
  | .none => (false, s.busError 2 init tag a true)

/-! ## Breakwater -/

def kindRead : Nat := 0
def kindWrite : Nat := 1
def kindFetch : Nat := 2
def kindRegs : Nat := 3

/-- Does a region grant an access (R414)? -/
def regionGrants (s : State) (p j kind a n : Nat) : Bool :=
  s.flag (F.PART_T_RG_BASE_EN.el j) p
    && decide (s.fld (F.PART_T_RG_BASE_BASE.el j) p * 4096 ≤ a)
    && decide (a + n ≤ (s.fld (F.PART_T_RG_LIM_LIMIT.el j) p + 1) * 4096)
    && s.flag ((if kind = kindRead then F.PART_T_RG_BASE_R else if kind = kindWrite then F.PART_T_RG_BASE_W
        else F.PART_T_RG_BASE_X).el j) p

/-- Is an address in the register space? -/
def inRegs (a : Nat) : Bool := decide (regBase ≤ a) && decide (a < regEnd)

/-- May a tag other than 0 reach a register address (R412)? -/
def guestReg (a : Nat) : Bool :=
  (decide (0x400B0080 ≤ a) && decide (a ≤ 0x400B008F)) || (decide (0x400EC000 ≤ a) && decide (a ≤ 0x400EC00F))

/-- Does Breakwater permit an access (R412, R414)? -/
def bwPermits (s : State) (p kind a n : Nat) : Bool :=
  if inRegs a then decide (p = 0) || (guestReg a && guestReg (a + n - 1))
  else (List.range 16).any fun j => regionGrants s p j kind a n

/-- A Breakwater violation of a tag (R418). -/
def bwViolation (s : State) (init p kind a : Nat) : State :=
  let kind := if inRegs a then kindRegs else kind
  let first := !s.partBit F.PART_BWV_BWV p
  let s := ((s.count C.PART_T_BWV p).count C.PART_BWV_TOTAL).setPartBit F.PART_BWV_BWV p true
  let s := if s.flag F.PART_T_FLT_BWV p then s
    else (((s.setFld F.PART_T_BWV_HI_KIND kind p).setFld F.PART_T_BWV_HI_INIT init p).setFld F.PART_T_BWV_HI_ADDR
      (a / 2 ^ 32 % 16) p).setFld F.PART_T_BWV_LO_ADDR (a % 2 ^ 32) p
  let s := (s.setFlag F.PART_T_FLT_BWV true p).setFlt F.PART_FLT_BWV
  let s := if first then s.event 14 0x0E03 p (a % 2 ^ 32) (kind * 2 ^ 30 + init * 2 ^ 24 + a / 2 ^ 32 % 16) else s
  if s.flag F.PART_T_CTL_VIOL_RST p then partPulse s p srcViol else s

/-- Admit an access: refused while its partition is held (R429), and where no region grants it (R418). -/
def bwAdmit (s : State) (init p kind a n : Nat) : Bool × State :=
  if partHeld s p then
    (false, ((s.count C.PART_T_RST_REFUSED p).setFlag F.PART_T_FLT_RST_REFUSED true p).setFlt F.PART_FLT_RST_REFUSED)
  else if bwPermits s p kind a n then (true, s)
  else (false, bwViolation s init p kind a)

/-! ## Transactions of the device's engines -/

def initCore : Nat := 0
def initCpuPort : Nat := 1
def initDrec : Nat := 2
def initElog : Nat := 3
def initJtag : Nat := 4
def initBoot : Nat := 5
def initKeys : Nat := 6
def initOther : Nat := 7

/-- A read by an engine through Breakwater. -/
def dmaRead (s : State) (init tag a n : Nat) : Option (List Nat) × State :=
  let (ok, s) := bwAdmit s init tag kindRead a n
  if ok then memRead s init tag a n else (none, s)

/-- A write by an engine through Breakwater. -/
def dmaWrite (s : State) (init tag a : Nat) (l : List Nat) : Bool × State :=
  let (ok, s) := bwAdmit s init tag kindWrite a l.length
  if ok then memWrite s init tag a l else (false, s)

/-! ## Transactions in flight (R37, R38, R433) -/

/-- What SLOT_MIN keeps for a partition: a value above 32 counts as 32. -/
def slotMin (v : Nat) : Nat := min 32 v

/-- The most slots of the 224 a partition may hold: 0 counts as 1, a value above 224 as 224. -/
def slotMax (s : State) (p : Nat) : Nat := min 224 (max 1 (s.fld F.PART_T_SLOTS_SLOT_MAX p))

/-- The shared slots that a partition holds. -/
def slotsHeld (s : State) (p : Nat) : Nat := s.fab.waiting.countP fun r => decide (r.init ≠ initDrec) && decide (r.tag = p)

/-- The shared slots in use. -/
def slotsShared (s : State) : Nat := s.fab.waiting.countP fun r => decide (r.init ≠ initDrec)

/-- The reserved slots that the recorder's segment writes hold. -/
def slotsDrec (s : State) : Nat := s.fab.waiting.countP fun r => decide (r.init = initDrec)

/-- The shared slots that are kept for other partitions than `p` and that they do not hold. -/
def slotsKept (s : State) (p : Nat) : Nat :=
  ((List.range partCount).filter (· ≠ p)).foldl (fun n q => n + (slotMin (s.fld F.PART_T_SLOTS_SLOT_MIN q) - slotsHeld s q)) 0

/-- Is a slot of the fabric free to a request of an initiator class and tag: one of the 32 reserved for the recorder, or one of the 224 others within its
partition's limits? -/
def fabSlotFree (s : State) (init tag : Nat) : Bool :=
  if init = initDrec then decide (slotsDrec s < 32)
  else decide (slotsHeld s tag < slotMax s tag)
    && (decide (slotsHeld s tag < slotMin (s.fld F.PART_T_SLOTS_SLOT_MIN tag)) || decide (slotsShared s + slotsKept s tag < 224))

/-! ## Bandwidth periods (R431) -/

/-- Has a partition used its CAP of the present period? -/
def capUsed (s : State) (p : Nat) : Bool :=
  let cap := s.fld F.PART_T_BW_CAP p
  decide (cap ≠ 0) && decide (cap * 100 ≤ sparseGet 0 s.fab.used p)

/-- Does a partition have credit left in the present period? -/
def hasCredit (s : State) (p : Nat) : Bool := decide (sparseGet 0 s.fab.used p < s.fld F.PART_T_BW_RES p * 100)

/-- How far a partition's turn is off after the partition served last. -/
def turnOf (s : State) (p : Nat) : Nat := (p + 127 - s.fab.turn % 128) % 128

/-- Does the request of `a` go before that of `b`: credit first, then PRIO, then the turn across partitions? -/
def goesBefore (s : State) (a b : Nat) : Bool :=
  let ca := hasCredit s a
  let cb := hasCredit s b
  let pa := s.fld F.PART_T_BW_PRIO a
  let pb := s.fld F.PART_T_BW_PRIO b
  if ca != cb then ca else if pa ≠ pb then decide (pb < pa) else decide (turnOf s a < turnOf s b)

/-- The request to serve next among those that may go, with the others in their order. -/
def pickReq (s : State) : List FabReq → Option (FabReq × List FabReq)
  | [] => none
  | r :: t =>
    match pickReq s t with
    | none => if capUsed s r.tag then none else some (r, t)
    | some (b, rest) => if capUsed s r.tag || goesBefore s b.tag r.tag then some (b, r :: rest) else some (r, t)

/-! ## Failed channels (R30) -/

/-- MEM_RETRAIN: a periodic retraining of MCA or MCB succeeds or fails; the second failure in a row fails the channel. -/
def memRetrain (s : State) (mcb ok : Bool) : State :=
  let b := ofBit mcb
  let was := bitOf s.fab.retrain b
  let set (v : Bool) : State :=
    { s with fab := { s.fab with retrain := s.fab.retrain - (if was then 2 ^ b else 0) + (if v then 2 ^ b else 0) } }
  let f := if mcb then F.SYS_MEM_MCB_FAILED else F.SYS_MEM_MCA_FAILED
  if ok then set false
  else if !was then set true
  else if s.flag f then s
  else (((s.setFlag f true).setFlt F.SYS_FLT_MEM_FAIL)).event 0 0x0004 0 b 2

def execMemRetrain (mcb ok : Bool) (s : State) : Host.Outcome State Fault Refusal := .next (s.live fun s => memRetrain s mcb ok)

end Sys2Proof.Machine
end

