-- ==== Sys2Proof/Machine/TideMap.lean ====
section
/-! DEFINITION. Tide's map between extended angle and device time (R86 to R96), and the TIDE mailbox (R116). -/

namespace Sys2Proof.Machine

/-- The windows per cycle of a group, W (R88). -/
def wpc (s : State) (g : Nat) : Nat := 24 * 2 ^ s.fld F.TIDE_G_CFG_WPC g

/-- The extended angle at which window `n` begins (R88). -/
def winAngle (w n : Nat) : Nat := (n * 2 ^ 32 + w - 1) / w

/-- The window number of an extended angle, before its reduction modulo 2^32 (R88). -/
def winOf (w x : Nat) : Nat := x * w / 2 ^ 32

/-- INC of a frequency in hertz (R89). -/
def incOf (f : Q) : Nat := (Q.round (Q.mul f ⟨2 ^ 54, 1000000000⟩)).toNat

/-- FNOM in hertz. -/
def fnom (s : State) (g : Nat) : Q := Q.red ⟨s.fld F.TIDE_G_FNOM_FNOM g, 1000⟩

def gtOff : Nat := 0
def gtFreerun : Nat := 1
def gtAcquire : Nat := 2
def gtTrack : Nat := 3
def gtHold : Nat := 4
def gtLost : Nat := 5

def grpState (s : State) (g : Nat) : Nat := s.fld F.TIDE_G_STAT_STATE g

/-- The INC that extrapolates beyond the last fixed boundary (R95). -/
def lastInc (s : State) (g : Nat) : Nat :=
  match (s.grp g).wins.head? with
  | some w => w.inc
  | none => incOf (fnom s g)

/-- The oldest instant at which the map is kept. -/
def oldestT (s : State) (g : Nat) : Nat :=
  match (s.grp g).wins.getLast? with
  | some w => w.b
  | none => (s.grp g).b

/-- Are two times (2^-16 ns) more than 4 s apart (R96)? -/
def farApart (a b : Nat) : Bool := decide (4 * 1000000000 * 65536 < absI ((a : Int) - b))

/-- The angle at a device time in 2^-16 ns by the map, with no check against R96: X and whether it is a prediction (R95). -/
def angleAt (s : State) (g t : Nat) : Option (Nat × Bool) :=
  let grp := s.grp g
  if grp.b ≤ t then
    some ((grp.x + (t - grp.b) * lastInc s g / 2 ^ 38) % 2 ^ 64, decide (grp.b < t))
  else
    (grp.wins.find? fun w => decide (w.b ≤ t)).map fun w => ((w.x + (t - w.b) * w.inc / 2 ^ 38) % 2 ^ 64, false)

/-- The device time of an angle by the map, rounded up to the next whole ns, and whether it is a prediction (R95). -/
def timeOf (s : State) (g x : Nat) : Option (Nat × Bool) :=
  let grp := s.grp g
  let at_ (b x0 inc : Nat) : Nat :=
    let d := (signed 64 ((x + 2 ^ 64 - x0) % 2 ^ 64)).toNat
    if inc = 0 then b / 65536 else (divCeil (b * inc + d * 2 ^ 38 : Nat) (inc * 65536)).toNat
  let after (x0 : Nat) : Bool := decide (0 ≤ signed 64 ((x + 2 ^ 64 - x0) % 2 ^ 64))
  if after grp.x then some (at_ grp.b grp.x (lastInc s g), decide (x ≠ grp.x))
  else (grp.wins.find? fun w => after w.x).map fun w => (at_ w.b w.x w.inc, false)

/-- Conversion from time (2^-16 ns) to angle, refused by R96. -/
def timeToAng (s : State) (g t : Nat) : Option (Nat × Bool) :=
  if grpState s g = gtOff || decide (t < oldestT s g) || farApart t s.devT then none else angleAt s g t

/-- Conversion from angle to time (ns), refused by R96. -/
def angToTime (s : State) (g x : Nat) : Option (Nat × Bool) :=
  if grpState s g = gtOff then none
  else
    match timeOf s g x with
    | some (t, p) => if farApart (t * 65536) s.devT then none else some (t, p)
    | none => none

/-! ## The TIDE mailbox (R116) -/

def blkTide : Nat := 3

/-- The layout of TIDE_MBX_D0 to D3. -/
def tideLayout (cmd x tns : Nat) (pred : Bool) : MbxRun :=
  let sec := tns / 1000000000
  { cmd := cmd, ok := true, d0 := x / 2 ^ 32 % 65536 * 65536 + sec / 2 ^ 32 % 65536, d1 := sec % 2 ^ 32,
    d2 := ofBit pred * 2 ^ 31 + tns % 1000000000, d3 := x % 2 ^ 32 }

/-- A TIDE mailbox command on the group that TIDE_SEL selects. -/
def tideMbx (s : State) (cmd : Nat) (f : State → Nat → Option (Nat × Nat × Bool)) : State :=
  if s.flag (mbxBusy blkTide) then s.mbxRefuseBusy blkTide
  else if s.fld F.TIDE_SEL_KIND ≠ 0 || 7 < s.fld F.TIDE_SEL_INDEX then s.mbxRefuse blkTide
  else
    match f s (s.fld F.TIDE_SEL_INDEX) with
    | some (x, t, p) => s.mbxStart blkTide (tideLayout cmd x t p)
    | none => s.mbxRefuse blkTide

/-- READ_LIVE: device time and the converted angle at this edge. -/
def readLive (s : State) : State :=
  tideMbx s 1 fun s g => (timeToAng s g s.devT).map fun (x, p) => (x, s.devNs, p)

def execReadLive (s : State) : Host.Outcome State Fault Refusal := .next (s.live fun s => readLive s)

/-- TIME_TO_ANG: the operand is a time in the layout of the mailbox. -/
def timeToAngCmd (s : State) : State :=
  tideMbx s 2 fun s g =>
    let t := (s.mbxD blkTide 0 % 65536 * 2 ^ 32 + s.mbxD blkTide 1) * 1000000000 + s.mbxD blkTide 2 % 2 ^ 30
    (timeToAng s g (t * 65536)).map fun (x, p) => (x, t, p)

def execTimeToAng (s : State) : Host.Outcome State Fault Refusal := .next (s.live fun s => timeToAngCmd s)

/-- An input cycle count: the instance nearest the current CYC with the same low 16 bits (R116). DESIGN CHOICE (log 54): of two instances 32,768 away, the higher. -/
def nearestCyc (cur low : Nat) : Nat :=
  let d := (low + 2 ^ 32 - cur) % 65536
  (if d ≤ 32768 then cur + d else cur + 2 ^ 32 + d - 65536) % 2 ^ 32

/-- ANG_TO_TIME: the operand is CYC[15:0] and ANG. -/
def angToTimeCmd (s : State) : State :=
  tideMbx s 3 fun s g =>
    match timeToAng s g s.devT with
    | none => none
    | some (now, _) =>
      let x := nearestCyc (now / 2 ^ 32) (s.mbxD blkTide 0 / 65536 % 65536) * 2 ^ 32 + s.mbxD blkTide 3
      (angToTime s g x).map fun (t, p) => (x, t, p)

def execAngToTime (s : State) : Host.Outcome State Fault Refusal := .next (s.live fun s => angToTimeCmd s)

end Sys2Proof.Machine
end

