-- ==== Sys2Proof/Machine/Fdc.lean ====
section
/-! DEFINITION. The filter and decimation chain (chapter 5): binding, filtering, resampling, detectors and sweeps. -/

namespace Sys2Proof.Machine

def fcOff : Nat := 0
def fcUnbound : Nat := 1
def fcWaitValid : Nat := 2
def fcSettling : Nat := 3
def fcRun : Nat := 4
def fcRefused : Nat := 5

def fmFilter : Nat := 0
def fmPeak : Nat := 1
def fmRms : Nat := 2
def fmEnv : Nat := 3

def fdcChans : Nat := 8192

def chState (s : State) (c : Nat) : Nat := s.fld F.FDC_C_STAT_STATE c
def setChState (s : State) (c st : Nat) : State := s.setFld F.FDC_C_STAT_STATE st c
def chEn (s : State) (c : Nat) : Bool := s.flag F.FDC_C_CTL_EN c
def chMode (s : State) (c : Nat) : Nat := s.fld F.FDC_C_CTL_MODE c

/-- The FILTER channel whose group, rate and output rate a channel works with (R156). -/
def chSource (s : State) (c : Nat) : Nat := if chMode s c = fmFilter then c else s.fld F.FDC_C_CTL_SOURCE c

/-- Output samples per cycle (R156, R162). -/
def chOspc (s : State) (c : Nat) : Nat := 24 * 2 ^ s.fld F.FDC_C_CTL_OSPC (chSource s c)

def chGroup (s : State) (c : Nat) : Nat := s.fld F.FDC_C_STAT_GROUP c
def chRate (s : State) (c : Nat) : Nat := if s.flag F.FDC_C_STAT_RATE c then 14400 else 4800

/-- Is a channel bound? -/
def chBound (s : State) (c : Nat) : Bool := decide (2 ≤ chState s c)

/-- The taps of a preset at a rate, 0 where it is not available (R160). -/
def presetTaps (preset rate : Nat) : Nat :=
  if rate = 14400 then [21, 47, 95, 19].getD preset 0 else [7, 17, 33, 0].getD preset 0

/-- The least output rate of a preset (R160). -/
def presetLeast (preset : Nat) : Nat := [2400, 2880, 1440, 6800].getD preset 0

/-- The coefficients of a linear-phase filter: tap k and its mirror image are one number (R160). -/
def firRaw (preset rate k : Nat) : Nat := Config.firCoef preset rate (min k (presetTaps preset rate - 1 - k)) % 2 ^ 32

/-- Are the coefficients finite, with a gain at 0 Hz of 1 within 2^-20 (R160)? -/
def firGood (preset rate : Nat) : Bool :=
  let hs := (List.range (presetTaps preset rate)).map (firRaw preset rate)
  hs.all fp32.isFin && Q.le (Q.abs (Q.sub (hs.foldl (fun a h => Q.add a (fp32.toQ h)) Q.zero) (Q.ofInt 1))) ⟨1, 2 ^ 20⟩

/-- A coefficient as FDC_COEF_VAL shows it; 0 beyond the taps. The spec prints none: the coefficients are free but for what R160 says of every filter, so numbers
that are no such filter stand for the one of a single tap (log 59). -/
def firCoef (preset rate k : Nat) : Nat :=
  if presetTaps preset rate ≤ k then 0
  else if firGood preset rate then firRaw preset rate k
  else if k = (presetTaps preset rate - 1) / 2 then 0x3F800000 else 0

/-- The channels with EN set. -/
def enabledChans (s : State) : List Nat := (List.range fdcChans).filter (chEn s)

/-- The enabled detectors of a source. -/
def detectorsOf (s : State) (c : Nat) : List Nat :=
  (enabledChans s).filter fun d => decide (chMode s d ≠ fmFilter) && decide (s.fld F.FDC_C_CTL_SOURCE d = c)

/-- The nominal skew of a channel: 640 + 4 r(c) ns over the bound channels of its set, 0 while not bound (R180). -/
def chSkew (s : State) (c : Nat) : Nat :=
  if !chBound s c then 0
  else
    let d := adepth s (chGroup s c)
    640 + 4 * ((List.range (c + 1)).filter fun k => chBound s k && decide (adepth s (chGroup s k) = d)).length

/-! ## Binding and resets (R158, R159, R174) -/

/-- A channel's history is discarded. -/
def dropHistory (s : State) (c : Nat) : State :=
  let h := s.fch c
  s.setFch c { h with hist := [], first := none, env := 0, since := 0, nIn := 0, resetReq := false }

/-- A channel and the detectors that depend on it leave their binding (R159, R177). -/
def unbindOne (s : State) (c : Nat) : State :=
  if chState s c = fcOff || chState s c = fcUnbound then s else setChState (dropHistory s c) c fcUnbound

def unbind (s : State) (c : Nat) : State := (detectorsOf s c).foldl unbindOne (unbindOne s c)

/-- A synchronising reset of one channel (R174). -/
def resetOne (s : State) (c : Nat) : State :=
  let s := setChState (dropHistory s c) c fcWaitValid
  ((s.count C.FDC_SYNC_RESETS).count C.FDC_C_RESETS c).setFlag F.FDC_C_FLT_RESET true c

/-- Every slot of a channel's ring is void (R173). -/
def voidRing (s : State) (c : Nat) : State :=
  { s with fab := { s.fab with plane := s.fab.plane.filter fun (k, _) => decide (k / 256 ≠ c)
                               planeBad := s.fab.planeBad.filter fun k => decide (k / 256 ≠ c)
                               planeSingle := s.fab.planeSingle.filter fun k => decide (k / 256 ≠ c) } }

/-- The first entry at or after an instant (2^-16 ns); that of a group still OFF is the one of its enable. -/
def entryAt (s : State) (c g t : Nat) : Nat :=
  if grpState s g = gtOff then 0
  else match angleAt s g t with
  | some (x, _) => (x * chOspc s c + 2 ^ 32 - 1) / 2 ^ 32
  | none => 0

/-- Why a FILTER channel's binding is refused, 0 where it passes (R158). -/
def bindCause (s : State) (c g rate : Nat) : Nat :=
  let preset := s.fld F.FDC_C_CTL_PRESET c
  if preset = 3 && rate = 4800 then 1
  else if chOspc s c < wpc s g then 2
  else if chOspc s c * s.fld F.TIDE_G_FLIM_FMIN g < presetLeast preset * 100 then 3
  else 0

/-- Set what a bound channel takes from its value's stream. -/
def bindOne (s : State) (c t : Nat) (x : RelVal) : State :=
  let s := voidRing ((s.setFld F.FDC_C_STAT_GROUP x.grp c).setFld F.FDC_C_STAT_RATE x.rate c) c
  let h := s.fch c
  s.setFch c { h with nextM := entryAt s c x.grp t, lastT := t }

/-- A channel binds at its first value, with its detectors, or is refused (R158, R159). -/
def bind (s : State) (c : Nat) (x : RelVal) : State :=
  let cause := bindCause s c x.grp (if x.rate = 1 then 14400 else 4800)
  let s := (bindOne s c x.t x).setFld F.FDC_C_STAT_CAUSE cause c
  if cause = 0 then
    (detectorsOf s c).foldl (fun s d => resetOne (bindOne s d x.t x) d) (resetOne s c)
  else
    let s := (detectorsOf s c).foldl unbindOne s
    ((setChState (dropHistory s c) c fcRefused).setFlag F.FDC_C_FLT_CFG_REFUSED true c).setFlt F.FDC_FLT_CFG_ERR

/-- The magnitude of a binary32 pattern. -/
def absB (v : Nat) : Nat := v % 2 ^ 31

/-- A valid input: validity not 0b01 and MISSING clear (R175). -/
def inputValid (q : Nat) : Bool := decide (q % 4 ≠ 1) && !bitOf q 18

/-- A channel in WAIT_VALID, SETTLING or RUN takes an input (R175). -/
def takeInput (s : State) (c : Nat) (x : RelVal) : State :=
  let h := s.fch c
  let st := chState s c
  if st = fcWaitValid then
    if inputValid x.q then
      setChState (s.setFch c { h with hist := [x], first := some x, env := absB x.v, nIn := 1, lastT := x.t }) c fcSettling
    else s.setFch c { h with lastT := x.t }
  else if st = fcSettling || st = fcRun then
    s.setFch c { h with hist := (x :: h.hist).take 512, nIn := h.nIn + 1, lastT := x.t }
  else s.setFch c { h with lastT := x.t }

/-- A channel and its detectors are reset (R174). -/
def resetWith (s : State) (c : Nat) : State := ((detectorsOf s c).filter (chBound s)).foldl resetOne (resetOne s c)

/-- Is a channel in a state that a synchronising reset acts on? -/
def chRuns (s : State) (c : Nat) : Bool := decide (2 ≤ chState s c) && decide (chState s c ≤ 4)

/-- Does a value bind a channel, for the first time or afresh (R158, R177)? -/
def valueBinds (s : State) (c : Nat) (x : RelVal) : Bool :=
  decide (chState s c = fcUnbound)
    || (chBound s c && (decide (chGroup s c ≠ x.grp) || decide (s.fld F.FDC_C_STAT_RATE c ≠ x.rate)))

/-- Does a value reset a channel: its stream has come back, or a SYNC_RESET waits (R174, R178)? -/
def valueResets (s : State) (c : Nat) (x : RelVal) : Bool :=
  let h := s.fch c
  let live (st : Nat) : Bool := decide (st = ssSynced) || decide (st = ssEstimated)
  chRuns s c && (h.resetReq || (live x.st && (match h.prevSt with | some p => !live p | none => false)))

/-- A FILTER channel's slot takes one value: it binds, is reset, or goes on (R158, R174, R177). A detector that has taken the value in its own slot does not take it
again, unless it starts afresh. -/
def slotValue (s : State) (c : Nat) (x : RelVal) : State :=
  let binds := valueBinds s c x
  let resets := valueResets s c x
  let s := if binds then bind s c x else if resets then resetWith s c else s
  let s := s.setFch c { s.fch c with prevSt := some x.st }
  let ds := (detectorsOf s c).filter fun d => chBound s d && (binds || resets || decide ((s.fch d).lastT < x.t))
  ds.foldl (fun s d => takeInput s d x) (takeInput s c x)

/-! ## Entries (R161 to R173) -/

/-- The value of an input for the exact sums; an input that is not finite has no stated value. -/
def inQ (v : Nat) : Q := if fp32.isFin v then fp32.toQ v else Q.ofInt (Config.notFinite v)

/-- Round a result, limited to the largest finite number (R168): the bits and whether it was limited. -/
def limited (v : Q) : Nat × Bool :=
  let b := b32 v
  if fp32.isInf b then (fp32.maxFin (fp32.neg b), true) else (b, false)

/-- The input at a position back from the newest, pre-filled with x_f (R175). -/
def inputAt (h : FdcCh) (pos : Nat) : Nat :=
  match h.hist[pos]? with
  | some x => x.v
  | none => match h.first with | some x => x.v | none => 0

/-- The sum of weights times inputs, limited (R161, R168). With infinite inputs whose terms agree in sign it is past every finite number; other sums of
numbers that are not finite have no stated value. -/
def limitedSum (ts : List (Q × Nat)) : Nat × Bool :=
  let open_ := ts.filter fun e => !fp32.isFin e.2
  let up := open_.all fun e => fp32.isInf e.2 && !e.1.isZero && (decide (0 < e.1.n) != fp32.neg e.2)
  let down := open_.all fun e => fp32.isInf e.2 && !e.1.isZero && (decide (0 < e.1.n) == fp32.neg e.2)
  if open_.isEmpty then limited (ts.foldl (fun acc e => Q.add acc (Q.mul e.1 (fp32.toQ e.2))) Q.zero)
  else if up then (fp32.maxFin false, true)
  else if down then (fp32.maxFin true, true)
  else limited (ts.foldl (fun acc e => Q.add acc (Q.mul e.1 (inQ e.2))) Q.zero)

/-- The filter output at a position back from the newest input (R161). -/
def filterOut (s : State) (c : Nat) (h : FdcCh) (pos : Nat) : Nat × Bool :=
  let preset := s.fld F.FDC_C_CTL_PRESET c
  let rate := chRate s c
  limitedSum ((List.range (presetTaps preset rate)).map fun k => (fp32.toQ (firCoef preset rate k), inputAt h (pos + k)))

/-- A value rounded to binary64. -/
def r64 (v : Q) : Q := fp64.toQ (fp64.round rmRNE false v).1

/-- The weights of the cubic Lagrange interpolation at mu (R163). -/
def lagrange (mu : Q) : List Q :=
  let a := Q.sub mu (Q.ofInt 1)
  let b := Q.sub mu (Q.ofInt 2)
  let c := Q.add mu (Q.ofInt 1)
  [r64 (Q.div (Q.neg (Q.mul mu (Q.mul a b))) (Q.ofInt 6)), r64 (Q.div (Q.mul c (Q.mul a b)) (Q.ofInt 2)),
   r64 (Q.div (Q.neg (Q.mul c (Q.mul mu b))) (Q.ofInt 2)), r64 (Q.div (Q.mul c (Q.mul mu a)) (Q.ofInt 6))]

/-- The position of the newest input at or before a time, and mu there: inputs lie Ts apart, ending at the newest (R163, R164). -/
def inputPos (rate lastT t : Nat) : Nat × Q :=
  let last := lastT * rate
  let x := t * rate
  let n := if x < last then (last - x + secT - 1) / secT else 0
  (n, Q.red ⟨((65536 * (x + n * secT - last)) / secT : Nat), 65536⟩)

/-- The bits that entries OR from their sources: 12:2 and 20:17. -/
def qOrMask : Nat := 0x1E1FFC

/-- The worst validity and the OR of the bits of some quality words. -/
def combineQ (qs : List Nat) : Nat :=
  (qs.foldl (fun a q => a ||| (q &&& qOrMask)) 0) + qs.foldl (fun a q => worstValid a q) 0

/-- An entry's quality with its validity worsened for a limited value (R168). -/
def overQ (q : Nat) (past : Bool) : Nat := if past then q - q % 4 + 1 else q

/-- FILTER entry: value, quality, and whether it was limited (R163, R172). -/
def filterEntry (s : State) (c t : Nat) : Nat × Nat × Bool :=
  let h := s.fch c
  let (pos, mu) := inputPos (chRate s c) h.lastT t
  let ys := [3, 2, 1, 0].map fun k => filterOut s c h (pos + k)
  let (v, past) := limited (((lagrange mu).zip ys).foldl (fun acc (w, y) => Q.add acc (Q.mul w (fp32.toQ y.1))) Q.zero)
  let past := past || ys.any Prod.snd
  let taps := presetTaps (s.fld F.FDC_C_CTL_PRESET c) (chRate s c)
  let qs := ((h.hist.drop pos).take (taps + 3)).map RelVal.q
  let settling := decide (h.nIn ≤ pos + taps + 2)
  let age := (h.hist[pos]?.map RelVal.q).getD 0 / 2 ^ 24
  (v, overQ (combineQ qs + (if settling then qSettling else 0) + age * 2 ^ 24) past, past)

/-- The inputs of a detector's interval (t(X_{m−1}), t(X_m)], newest first, or the newest at or before its end (R169); before the first valid input its history is
that input (R175; DEDUCED, log 60). -/
def peakInputs (s : State) (c t0 t : Nat) : List RelVal :=
  let h := s.fch c
  let rate := chRate s c
  let (p1, _) := inputPos rate h.lastT t
  let (p0, _) := inputPos rate h.lastT t0
  let l := ((h.hist.take h.nIn).drop p1).take (p0 - p1)
  if !l.isEmpty then l
  else match h.hist[p1]? with
    | some x => [x]
    | none => h.first.toList

/-- A magnitude limited to the largest finite number (R168), and whether it was. That of an input that is no number has no stated value. -/
def peakLimit (v : Nat) : Nat × Bool :=
  if fp32.isNan v then limited (Q.abs (inQ v)) else if fp32.isInf v then (fp32.maxFin false, true) else (v, false)

/-- The largest magnitude of some inputs. -/
def peakOf (l : List RelVal) : Nat × Bool := peakLimit (l.foldl (fun a x => max a (absB x.v)) 0)

/-- PEAK entry: value, quality, and whether it was limited (R169, R172). -/
def peakEntry (s : State) (c t0 t : Nat) : Nat × Nat × Bool :=
  let l := peakInputs s c t0 t
  let p := peakOf l
  (p.1, overQ (combineQ (l.map RelVal.q) + (l.head?.map RelVal.q).getD 0 / 2 ^ 24 * 2 ^ 24) p.2, p.2)

/-- Read the source entries of an RMS entry with their ECC checks. -/
def rmsSources (s : State) (src m n : Nat) : List (Nat × Nat) × State :=
  (List.range n).foldl (fun (acc : List (Nat × Nat) × State) k =>
    let (e, s) := readPlane acc.2 src ((m + 256 * n - k) % 256)
    (acc.1 ++ [e], s)) ([], s)

/-- RMS entry from its source entries, newest first (R170, R172). -/
def rmsEntry (es : List (Nat × Nat)) : Nat × Nat × Bool :=
  let (sum, past) := limited (es.foldl (fun a e => Q.add a (Q.mul (inQ e.1) (inQ e.1))) Q.zero)
  let v := (fp32.sqrtQ rmRNE (Q.div (fp32.toQ sum) (Q.ofInt es.length))).1
  let settling := es.any fun e => bitOf e.2 16
  (v, overQ (combineQ (es.map Prod.snd) + (if settling then qSettling else 0) + (es.head?.map Prod.snd).getD 0 / 2 ^ 24 * 2 ^ 24) past,
    past)

/-- Write entry `m` of a channel, and move SETTLING to RUN at the first entry without SETTLING (R166, R177). -/
def writeEntry (s : State) (c m : Nat) (v q : Nat) (past : Bool) : State :=
  let s := ((s.setPlane c m (v, q)).count C.FDC_ENTRIES).count C.FDC_C_ENTRIES c
  let s := s.setFld F.FDC_C_LAST_M m c
  let s := if past then
      (((s.count C.FDC_OVERRANGE).count C.FDC_C_OVERRANGE c).setFlag F.FDC_C_FLT_OVERRANGE true c).setFlt F.FDC_FLT_OVERRANGE
    else s
  let s := if bitOf q 16 then s.count C.FDC_C_SETTLING_ENTRIES c else s
  let h := s.fch c
  let s := s.setFch c { h with nextM := m + 1, since := h.since + 1 }
  if chState s c = fcSettling && !bitOf q 16 then setChState s c fcRun else s

/-- The time (ns) of entry `m` by the fixed map, where its angle lies at or before the last fixed boundary (R162, R166): the entry of boundary N is due once the
window that it ends is fixed, as R16 and the example of R183 have it (DEDUCED, log 61). -/
def entryTime (s : State) (c m : Nat) : Option Nat :=
  let g := chGroup s c
  let x := winAngle (chOspc s c) m % 2 ^ 64
  if grpState s g = gtOff || decide (signed 64 (((s.grp g).x + 2 ^ 64 - x) % 2 ^ 64) < 0) then none
  else (timeOf s g x).map Prod.fst

/-- The entry of an RMS channel at the angle now due, when the source holds every entry of the cycle (R169, R170). -/
def rmsNext (s : State) (c m : Nat) : Option State :=
  if (s.fch (chSource s c)).nextM ≤ m then none
  else
    let r := rmsSources s (chSource s c) m (chOspc s c)
    let e := rmsEntry r.1
    some (writeEntry r.2 c m e.1 e.2.1 e.2.2)

/-- The entry of a PEAK or ENVELOPE channel at the angle now due, device time `t` in 2^-16 ns (R171, R172). -/
def peakNext (s : State) (c m t : Nat) : State :=
  let h := s.fch c
  let t0 := if m = 0 then 0 else ((timeOf s (chGroup s c) (winAngle (chOspc s c) (m - 1) % 2 ^ 64)).map Prod.fst).getD 0 * 65536
  let p := peakEntry s c t0 t
  if chMode s c = fmPeak then writeEntry s c m p.1 p.2.1 p.2.2
  else
    let dec := limited (Q.mul (fp32.toQ (peakLimit h.env).1) (fp32.toQ (s.fld F.FDC_C_DECAY_DECAY c)))
    let e := max p.1 (absB dec.1)
    writeEntry (s.setFch c { h with env := e }) c m e (p.2.1 + (if h.since < chOspc s c then qSettling else 0)) p.2.2

/-- The entry of a channel whose angle falls at `tns` of device time, once the input has been released to that instant. -/
def entryNow (s : State) (c m tns : Nat) : Option State :=
  if (s.fch c).lastT * chRate s c + secT ≤ tns * 65536 * chRate s c then none
  else if chState s c = fcWaitValid || chState s c = fcRefused then some (writeEntry s c m voidEntry.1 voidEntry.2 false)
  else if chMode s c = fmFilter then
    let e := filterEntry s c (tns * 65536)
    some (writeEntry s c m e.1 e.2.1 e.2.2)
  else if chMode s c = fmRms then rmsNext s c m
  else some (peakNext s c m (tns * 65536))

/-- Compute the next entry of a channel if it is due (R166, R173). -/
def nextEntry (s : State) (c : Nat) : Option State :=
  (entryTime s c (s.fch c).nextM).bind (entryNow s c (s.fch c).nextM)

/-- A slot computes up to four entries (R180). -/
def slotEntries (s : State) (c : Nat) : Nat → State
  | 0 => s
  | n + 1 => slotEntries ((nextEntry s c).getD s) c n

/-! ## Sweeps (R178 to R181) -/

/-- Is a channel of a sweep set: bound to a group of the depth, or with a value of such a group waiting? -/
def inSweep (s : State) (depth c : Nat) : Bool :=
  (chBound s c && decide (adepth s (chGroup s c) = depth)) ||
    (match (s.fch c).inq.head? with | some x => decide (adepth s x.grp = depth) | none => false)

/-- A FILTER channel's slot takes the values delivered for instants up to the sweep's; a SYNC_RESET that waits acts in the slot although it takes none (R178). -/
def slotInputs (s : State) (g c : Nat) : State :=
  let h := s.fch c
  let now := h.inq.filter fun x => decide (x.t ≤ g)
  let s := s.setFch c { h with inq := h.inq.filter fun x => decide (g < x.t) }
  let s := if now.isEmpty && h.resetReq && chRuns s c then resetWith s c else s
  now.foldl (fun s x => slotValue s c x) s

/-- A detector's slot: a SYNC_RESET of its own acts, and the inputs of a source numbered above it, whose slot comes later, are taken (R166, R180). -/
def slotDetector (s : State) (g c : Nat) : State :=
  let s := if (s.fch c).resetReq && chBound s c then resetOne s c else s
  let src := chSource s c
  if src < c || !chBound s c || !chBound s src then s
  else ((s.fch src).inq.filter fun x => decide (x.t ≤ g) && decide (x.grp = chGroup s c) && decide (x.rate = s.fld F.FDC_C_STAT_RATE c)).foldl
    (fun s x => takeInput s c x) s

/-- The slot of a channel in the sweep of instant `g`: its inputs and resets, and up to four entries (R180). -/
def sweepSlot (s : State) (depth g c : Nat) : State :=
  let s := if chMode s c = fmFilter then slotInputs s g c else slotDetector s g c
  if chBound s c && decide (adepth s (chGroup s c) = depth) then slotEntries s c 4 else s

/-- The number of the 14,400/s instant that the next sweep of a set is for (R179): the one after the last swept, or, of a set with no channel bound yet, the first
with a value. `latest` is the last one due. -/
def nextSweep (s : State) (depth latest : Nat) (set : List Nat) : Nat :=
  let after := match sparseFind depth s.fdc.swept with | some j => j + 1 | none => 0
  let firsts := (set.filterMap fun c => (s.fch c).inq.head?).map fun x => gridAt 14400 x.t
  if set.any (chBound s) then (if after = 0 then latest else after) else max after (firsts.foldl min latest)

/-- FDC_SWEEP: the next sweep of the channels of an alignment depth, 2,000 ns after the release of a 14,400/s instant: every channel of the set in ascending order
(R179 to R181). -/
def fdcSweep (s : State) (depth : Nat) : State :=
  let lead := (depth + 2000) * 65536
  let set := (enabledChans s).filter (inSweep s depth)
  if !s.flag F.FDC_CTRL_EN || decide (s.devT < lead) || set.isEmpty then s
  else
    let latest := gridAt 14400 (s.devT - lead)
    let k := nextSweep s depth latest set
    if latest < k then s
    else
      let g := gridInst 14400 k
      let due := g + lead
      let start := max due s.fdc.busy
      let wait := decide (due < s.fdc.busy)
      let s := { s with fdc := { s.fdc with swept := sparsePut depth k s.fdc.swept, busy := start + (640 + 4 * set.length) * 65536 } }
      let s := s.count C.FDC_SWEEPS
      let s := if wait then (s.count C.FDC_SWEEP_WAITS).setFlt F.FDC_FLT_SWEEP_WAIT else s
      set.foldl (fun s c => sweepSlot s depth g c) s

def execFdcSweep (depth : Nat) (s : State) : Host.Outcome State Fault Refusal := .next (s.live fun s => fdcSweep s depth)

/-! ## Enables and commands (R157, R177, R178) -/

/-- Does a channel fail a check of R157? -/
def chRefused (s : State) (c : Nat) : Bool :=
  let mode := chMode s c
  let src := s.fld F.FDC_C_CTL_SOURCE c
  let d := s.fld F.FDC_C_DECAY_DECAY c
  (decide (mode ≠ fmFilter) && (decide (src = c) || decide (chMode s src ≠ fmFilter) || !chEn s src))
    || (decide (mode = fmRms) && decide (c ≤ src))
    || (decide (mode = fmEnv) && !(decide (0 < d) && decide (d < 0x3F800000)))

/-- FDC_CHANNEL_ENABLE: EN written 1; refused with CFG_REFUSED and CFG_ERR (R157). With FDC_CTRL.LOCK set it is a lock violation (R184). -/
def fdcChannelEnable (s : State) (c : Nat) : State :=
  if fdcChans ≤ c || chEn s c then s
  else if s.flag F.FDC_CTRL_LOCK then s.rowLocked 5 0x200 0x80000000
  else if chRefused s c then (s.setFlag F.FDC_C_FLT_CFG_REFUSED true c).setFlt F.FDC_FLT_CFG_ERR
  else setChState ((s.setFlag F.FDC_C_CTL_EN true c).setFch c FdcCh.reset) c fcUnbound

def execFdcChannelEnable (c : Nat) (s : State) : Host.Outcome State Fault Refusal := .next (s.live fun s => fdcChannelEnable s c)

/-- FDC_CHANNEL_DISABLE: EN written 0: OFF, the ring as last written; its detectors become UNBOUND at once (R159, R177). With
FDC_CTRL.LOCK set it is a lock violation (R184). -/
def fdcChannelDisable (s : State) (c : Nat) : State :=
  if fdcChans ≤ c || !chEn s c then s
  else if s.flag F.FDC_CTRL_LOCK then s.rowLocked 5 0x200 0
  else
    let ds := detectorsOf s c
    let s := setChState ((s.setFlag F.FDC_C_CTL_EN false c).setFch c FdcCh.reset) c fcOff
    if chMode s c = fmFilter then ds.foldl unbindOne s else s

def execFdcChannelDisable (c : Nat) (s : State) : Host.Outcome State Fault Refusal := .next (s.live fun s => fdcChannelDisable s c)

/-- FDC_DISABLE: FDC_CTRL.EN written 0: every channel that is not OFF becomes UNBOUND (R177). -/
def fdcDisable (s : State) : State :=
  let s := s.setFlag F.FDC_CTRL_EN false
  (enabledChans s).foldl (fun s c => unbindOne (s.setFch c { s.fch c with inq := [] }) c) s

/-- FDC_DISABLE as a command: with FDC_CTRL.LOCK set a change of EN is a lock violation (R184). -/
def fdcDisableRow (s : State) : State := if s.flag F.FDC_CTRL_LOCK && s.flag F.FDC_CTRL_EN then s.rowLocked 5 0 0 else fdcDisable s

def execFdcDisable (s : State) : Host.Outcome State Fault Refusal := .next (s.live fun s => fdcDisableRow s)

/-- A group goes OFF: the channels bound to it become UNBOUND (R177). -/
def fdcGroupOff (s : State) (g : Nat) : State :=
  ((enabledChans s).filter fun c => chBound s c && decide (chGroup s c = g)).foldl unbindOne s

/-- The channels bound to a group that is enabled begin with the entry of its enable, X = 0. -/
def fdcGroupOn (s : State) (g : Nat) : State :=
  ((enabledChans s).filter fun c => chBound s c && decide (chGroup s c = g)).foldl (fun s c => s.setFch c { s.fch c with nextM := 0 }) s

/-- A step of device time moves the instants of the values held and swept; nothing else changes (R164). `d` in 2^-16 ns. -/
def fdcStep (s : State) (d : Int) : State :=
  let mv (h : FdcCh) : FdcCh := { h with lastT := shiftT h.lastT d, inq := h.inq.map fun x => { x with t := shiftT x.t d } }
  let swept : Sparse Nat := s.fdc.swept.map fun (n, k) => (n, gridAt 14400 (shiftT (gridInst 14400 k) d))
  { s with fdc := { s.fdc with chans := s.fdc.chans.map fun (c, h) => (c, mv h), swept := swept, busy := shiftT s.fdc.busy d } }

/-- SYNC_RESET of a channel waits for its slot (R178). -/
def requestReset (s : State) (c : Nat) : State :=
  if chBound s c then s.setFch c { s.fch c with resetReq := true } else s

/-- SYNC_RESET_CHANNEL: of the selected channel. -/
def syncResetChannel (s : State) : State := requestReset s (s.fld F.FDC_SEL_INDEX)

def execSyncResetChannel (s : State) : Host.Outcome State Fault Refusal := .next (s.live fun s => syncResetChannel s)

/-- SYNC_RESET_GROUP: of every channel bound to a group. -/
def syncResetGroup (s : State) (g : Nat) : State :=
  ((enabledChans s).filter fun c => chBound s c && decide (chGroup s c = g)).foldl requestReset s

def execSyncResetGroup (g : Nat) (s : State) : Host.Outcome State Fault Refusal := .next (s.live fun s => syncResetGroup s g)

end Sys2Proof.Machine
end

