-- ==== Sys2Proof/Machine/Gate.lean ====
section
/-! DEFINITION. The gate-pulse generator (chapter 8): commands from committed outputs, continuous, one-shot and angle-targeted
modes, commits, SAFE, freeze and clock stop. -/

namespace Sys2Proof.Machine

/-- A resolved output bit of a partition (R225). -/
def resolvedBit (s : State) (p b : Nat) : Bool := bitOf (sparseGet 0 s.twin.resolved p) b

def gmContinuous : Nat := 0
def gmOneShot : Nat := 1
def gmAngle : Nat := 2

def gateMode (s : State) (n : Nat) : Nat := s.fld F.GATE_C_CTL_MODE n

/-- A flag of a gate channel with its device flag. -/
def gateFlt (s : State) (n : Nat) (f dev : Fld) : State := (s.setFlag f true n).setFlt dev

/-- Device time in units of 31.25 ps. -/
def dev32 (s : State) : Nat := s.devNs * 32

/-- May time act on the channels: the PWM clock runs and the generator is not frozen? -/
def gateFrozen (s : State) : Bool := s.flag F.GATE_STAT_FROZEN

def gateLive (s : State) : Bool := !s.gate.stopped && !gateFrozen s

/-- Give a channel's signal new components at a count: `since` moves when the signal changes. -/
def GateCh.sigAt (c : GateCh) (raw : Bool) (refreshEnd : Option Nat) (at_ : Nat) : GateCh :=
  let c' : GateCh := { c with raw := raw, refreshEnd := refreshEnd }
  if c'.sig = c.sig then c' else { c' with since := at_ }

/-- The number of the last SYS edge at or before a count of the generator (R265). -/
def sysOfCnt (s : State) (r : Nat) : Nat := s.time.sys - (s.gate.cnt - r + 31) / 32

/-! ## Reloads and pending values (R264 to R268) -/

/-- Is a pending duty a duty word, rather than part of a register commit? -/
def dutyIsWord (c : GateCh) : Bool :=
  match c.pendP, c.pendD with
  | some (_, a), some (_, b) => decide (a ≠ b)
  | none, some _ => true
  | _, none => false

/-- A reload at a count: the pending values whose commit precedes its SYS cycle become active; a duty word above the active
period is limited (R265, R268). -/
def gateReloadAt (s : State) (n r : Nat) : State :=
  let c := s.gch n
  let e := sysOfCnt s r
  let takeP := match c.pendP with | some (_, k) => decide (k < e) | none => false
  let takeD := match c.pendD with | some (_, k) => decide (k < e) | none => false
  let s := match c.pendP with
    | some (v, _) => if takeP then s.setFld F.GATE_C_PERIOD_VAL v n else s
    | none => s
  let period := s.fld F.GATE_C_PERIOD_VAL n
  let s := match c.pendD with
    | some (v, _) =>
      if !takeD then s
      else if dutyIsWord c && decide (period < v) then
        gateFlt (s.setFld F.GATE_C_DUTY_VAL period n) n F.GATE_C_FLT_DUTY_CLAMP F.GATE_FLT_DUTY_CLAMP
      else s.setFld F.GATE_C_DUTY_VAL v n
    | none => s
  let c : GateCh := { c with pendP := if takeP then none else c.pendP, pendD := if takeD then none else c.pendD }
  (s.setGch n c).setFlag F.GATE_C_STAT_PEND (c.pendP.isSome || c.pendD.isSome) n

/-- A period of a CONTINUOUS channel starts at a count. -/
def startPeriod (s : State) (n r : Nat) : State :=
  let s := (gateReloadAt s n r).count C.GATE_C_PERIODS n
  let c := s.gch n
  s.setGch n ({ c with rk := r }.sigAt (decide (0 < s.fld F.GATE_C_DUTY_VAL n)) c.refreshEnd r)

/-- GATE_RELOAD: in RUN, PERIOD after the last reload (R264). -/
def gateReload (s : State) (n : Nat) : State :=
  let r := (s.gch n).rk + s.fld F.GATE_C_PERIOD_VAL n
  if gateState s n = gsRun && gateLive s && decide (r ≤ s.gate.cnt) then startPeriod s n r else s

def execGateReload (n : Nat) (s : State) : Host.Outcome State Fault Refusal := .next (s.live fun s => gateReload s n)

/-- GATE_DUTY_END: s falls at r_k + DUTY; with DUTY at PERIOD there is no edge (R264). -/
def gateDutyEnd (s : State) (n : Nat) : State :=
  let c := s.gch n
  let d := s.fld F.GATE_C_DUTY_VAL n
  let t := c.rk + d
  if gateState s n = gsRun && gateLive s && c.raw && decide (d < s.fld F.GATE_C_PERIOD_VAL n) && decide (t ≤ s.gate.cnt) then
    s.setGch n (c.sigAt false c.refreshEnd t)
  else s

def execGateDutyEnd (n : Nat) (s : State) : Host.Outcome State Fault Refusal := .next (s.live fun s => gateDutyEnd s n)

/-- GATE_REFRESH_START: s has been 1 for REFRESH_INTERVAL (R269). -/
def gateRefreshStart (s : State) (n : Nat) : State :=
  let c := s.gch n
  let t := c.since + s.fld F.GATE_C_REFRESH_INTERVAL n * 32000
  if gateState s n = gsRun && gateLive s && s.flag F.GATE_C_CTL_REFRESH_EN n && c.sig && decide (t ≤ s.gate.cnt) then
    (s.count C.GATE_C_REFRESHES n).setGch n (c.sigAt c.raw (some (t + s.fld F.GATE_C_REFRESH_WIDTH n)) t)
  else s

def execGateRefreshStart (n : Nat) (s : State) : Host.Outcome State Fault Refusal := .next (s.live fun s => gateRefreshStart s n)

/-- GATE_REFRESH_END: REFRESH_WIDTH has passed; the 1 interval is counted again from here (R269). -/
def gateRefreshEnd (s : State) (n : Nat) : State :=
  let c := s.gch n
  match c.refreshEnd with
  | some t =>
    if gateState s n = gsRun && gateLive s && decide (t ≤ s.gate.cnt) then s.setGch n (c.sigAt c.raw none t) else s
  | none => s

def execGateRefreshEnd (n : Nat) (s : State) : Host.Outcome State Fault Refusal := .next (s.live fun s => gateRefreshEnd s n)

/-- Would the staged pair be refused as a commit, leaving out the PAIRED condition (R267)? -/
def stagedBad (s : State) (n : Nat) : Bool :=
  let p := s.fld F.GATE_C_PERIOD_STG_VAL n
  let d := s.fld F.GATE_C_DUTY_STG_VAL n
  if gateMode s n = gmContinuous then decide (p < 3200) || decide (p < d)
  else !s.flag F.GATE_C_CTL_LATCH n && decide (d < 32)

/-- GATE_COMMIT: the staged pair becomes pending, or is refused (R265, R267). -/
def gateCommit (s : State) (n : Nat) : State :=
  if gateChans ≤ n then s
  else if stagedBad s n || (s.flag F.GATE_C_CTL_PAIRED n && !(s.flag F.GATE_C_STAT_STG_P n && s.flag F.GATE_C_STAT_STG_D n)) then
    gateFlt (s.count C.GATE_C_COMMIT_REFUSED n) n F.GATE_C_FLT_COMMIT_REFUSED F.GATE_FLT_COMMIT_REFUSED
  else
    let c := s.gch n
    let e := s.time.sys
    let s := s.setGch n { c with pendP := some (s.fld F.GATE_C_PERIOD_STG_VAL n, e), pendD := some (s.fld F.GATE_C_DUTY_STG_VAL n, e) }
    let s := ((s.setFlag F.GATE_C_STAT_STG_P false n).setFlag F.GATE_C_STAT_STG_D false n).setFlag F.GATE_C_STAT_PEND true n
    s.count C.GATE_C_COMMITS n

def execGateCommit (n : Nat) (s : State) : Host.Outcome State Fault Refusal := .next (s.live fun s => gateCommit s n)

/-! ## Pulses (R270 to R275) -/

/-- s rises at a count and the channel enters PULSE: the rise is a reload (R266, R270). -/
def startPulse (s : State) (n t : Nat) : State :=
  let s := gateReloadAt s n t
  let c := s.gch n
  let e := if s.flag F.GATE_C_CTL_LATCH n then none else some (t + s.fld F.GATE_C_DUTY_VAL n)
  setGateState (s.setGch n { c with pulseEnd := e, sched := 0, schedX := 0, fixed := false }) n gsPulse

/-- s falls: the channel returns to IDLE and the pulse is counted (R275). -/
def endPulse (s : State) (n : Nat) : State :=
  let c := s.gch n
  (setGateState (s.setGch n { c with pulseEnd := none }) n gsIdle).count C.GATE_C_PULSES n

/-- GATE_PULSE_END: DUTY has passed (R270). -/
def gatePulseEnd (s : State) (n : Nat) : State :=
  match (s.gch n).pulseEnd with
  | some e => if gateState s n = gsPulse && gateLive s && decide (e ≤ s.gate.cnt) then endPulse s n else s
  | none => s

def execGatePulseEnd (n : Nat) (s : State) : Host.Outcome State Fault Refusal := .next (s.live fun s => gatePulseEnd s n)

/-- Does a group's state refuse an arm (R272)? -/
def armState (s : State) (n : Nat) : Bool :=
  let st := grpState s (s.fld F.GATE_C_CTL_GROUP n)
  !(decide (st = gtTrack) || (s.flag F.GATE_C_CTL_HOLD_OK n && decide (st = gtHold)))

/-- The smallest extended angle at or after `x` (by whole cycles) whose time less BRK_DELAY is at or after `t` (1/32 ns), with
that time in ns; none where a conversion is refused (R271). -/
def findTarget (s : State) (g brk t x : Nat) : Nat → Option (Nat × Nat)
  | 0 => none
  | fuel + 1 =>
    match angToTime s g x with
    | none => none
    | some (tx, _) => if t + brk * 32 ≤ tx * 32 then some (x, tx) else findTarget s g brk t ((x + 2 ^ 32) % 2 ^ 64) fuel

/-- A rising command of an ANGLE channel arms it or is refused (R271, R272); `t` is T in device time, 1/32 ns. -/
def gateArm (s : State) (n t ang : Nat) : State :=
  let g := s.fld F.GATE_C_CTL_GROUP n
  let brk := s.fld F.GATE_C_BRK_BRK_DELAY n
  let target :=
    if armState s n then none
    else
      match timeToAng s g s.devT with
      | none => none
      | some (x, _) =>
        let x0 := x / 2 ^ 32 * 2 ^ 32 + ang % 2 ^ 32
        findTarget s g brk (t + 640000) (if x0 < x then (x0 + 2 ^ 32) % 2 ^ 64 else x0) 600
  match target with
  | some (x, tx) =>
    let c := s.gch n
    (setGateState (s.setGch n { c with sched := (tx - brk) * 32, schedX := x, fixed := false }) n gsWait).count C.GATE_C_ANG_ARMS n
  | none =>
    let s := gateFlt (s.count C.GATE_C_ANG_REFUSED n) n F.GATE_C_FLT_ANG_REFUSED F.GATE_FLT_ANG_REFUSED
    s.event 8 0x0801 (s.fld F.GATE_C_CTL_OWNER n) n (grpState s g)

/-- A scheduled rise is cancelled: 1 group state, 2 freeze, 3 refused conversion (R274). -/
def gateCancel (s : State) (n cause : Nat) : State :=
  let c := s.gch n
  let s := setGateState (s.setGch n { c with sched := 0, schedX := 0, fixed := false }) n gsIdle
  let s := gateFlt (s.count C.GATE_C_ANG_CANCEL n) n F.GATE_C_FLT_ANG_CANCEL F.GATE_FLT_ANG_CANCEL
  s.event 8 0x0802 (s.fld F.GATE_C_CTL_OWNER n) n cause

/-- Is the scheduled instant fixed: from 10 µs before it onward (R273)? -/
def gateFixed (s : State) (n : Nat) : Bool :=
  let c := s.gch n
  c.fixed || decide (c.sched ≤ dev32 s + 320000)

/-- A group has had an evaluation or changed its state: its WAIT_EDGE channels reconvert or are cancelled (R273, R274). -/
def gateReconvert (s : State) (g : Nat) : State :=
  (List.range gateChans).foldl (fun s n =>
    if gateState s n = gsWait && decide (s.fld F.GATE_C_CTL_GROUP n = g) then
      if armState s n then gateCancel s n 1
      else if gateFixed s n then s
      else
        let c := s.gch n
        match angToTime s g c.schedX with
        | none => gateCancel s n 3
        | some (tx, _) =>
          s.setGch n { c with sched := max ((tx - s.fld F.GATE_C_BRK_BRK_DELAY n) * 32) (dev32 s + 320000) }
    else s) s

/-- A step notice moves the scheduled instants (R273); `d` in ns. -/
def gateStep (s : State) (d : Int) : State :=
  (List.range gateChans).foldl (fun s n =>
    if gateState s n = gsWait then
      let c := s.gch n
      s.setGch n { c with sched := ((c.sched : Int) + d * 32).toNat }
    else s) s

/-- GATE_INSTANT_FIXED: ten microseconds before the scheduled rise (R273). -/
def gateInstantFixed (s : State) (n : Nat) : State :=
  if gateState s n = gsWait && gateFixed s n then s.setGch n { s.gch n with fixed := true } else s

def execGateInstantFixed (n : Nat) (s : State) : Host.Outcome State Fault Refusal := .next (s.live fun s => gateInstantFixed s n)

/-- GATE_SCHEDULED_RISE: the scheduled instant is reached and s rises (R275). -/
def gateScheduledRise (s : State) (n : Nat) : State :=
  let c := s.gch n
  if gateState s n = gsWait && gateLive s && decide (c.sched ≤ dev32 s) then startPulse s n (s.gate.cnt - (dev32 s - c.sched))
  else s

def execGateScheduledRise (n : Nat) (s : State) : Host.Outcome State Fault Refusal := .next (s.live fun s => gateScheduledRise s n)

/-! ## Records of the owner (R262, R263) -/

/-- A command acts at T, a count of the generator (R264, R270, R271, R274). -/
def gateCommand (s : State) (n t tdev ang : Nat) (prev cmd : Bool) : State :=
  let st := gateState s n
  let mode := gateMode s n
  let rising := cmd && !prev
  let falling := prev && !cmd
  if st = gsIdle then
    if mode = gmContinuous then
      if cmd then
        let c := s.gch n
        let s := setGateState (s.setGch n { c with raw := false, refreshEnd := none, since := t }) n gsRun
        startPeriod s n t
      else s
    else if rising then (if mode = gmOneShot then startPulse s n t else gateArm s n tdev ang)
    else s
  else if st = gsRun then
    if cmd then s
    else setGateState (s.setGch n { s.gch n with raw := false, refreshEnd := none }) n gsIdle
  else if st = gsWait then
    if rising then s.count C.GATE_C_TRIG_IGNORED n
    else if falling && !gateFixed s n then
      setGateState (s.setGch n { s.gch n with sched := 0, schedX := 0, fixed := false }) n gsIdle
    else s
  else if st = gsPulse then
    if rising then s.count C.GATE_C_TRIG_IGNORED n
    else if falling && s.flag F.GATE_C_CTL_LATCH n then endPulse s n
    else s
  else s

/-- A duty word becomes the pending duty at T, unless a register commit of the same SYS cycle overrides it (R268). -/
def dutyWord (s : State) (n : Nat) (r : GateRec) : State :=
  let c := s.gch n
  let overw := match c.pendP with | some (_, e) => decide (e = r.edge) | none => false
  if s.flag F.GATE_C_SRC_DUTY_OW_EN n && r.committed && !overw then
    (s.setGch n { c with pendD := some (r.duty, r.edge) }).setFlag F.GATE_C_STAT_PEND true n
  else s

/-- GATE_TRIGGER: a channel acts on its oldest record whose T has come: a trip bit forces SAFE, then the words and the
command act (R263, R268, R275, R278). While frozen only the pending values and a force act (R282). -/
def gateTrigger (s : State) (n : Nat) : State :=
  let c := s.gch n
  match c.recs with
  | [] => s
  | r :: rest =>
    if s.gate.stopped || decide (s.gate.pwm < r.at_) then s
    else
      let s := s.setGch n { c with recs := rest, prevCmd := r.cmd }
      let s := if s.flag F.GATE_C_CTL_TRIP_EN n && r.trip then enterSafe s n safeCauseTrip else s
      let s := dutyWord s n r
      if gateFrozen s then s
      else
        let late := s.gate.pwm - r.at_
        let ang := if s.flag F.GATE_C_SRC_ANG_OW_EN n then r.ang else s.fld F.GATE_C_ANG_ANG n
        gateCommand s n (s.gate.cnt - late) (dev32 s - late) ang c.prevCmd r.cmd

def execGateTrigger (n : Nat) (s : State) : Host.Outcome State Fault Refusal := .next (s.live fun s => gateTrigger s n)

/-- Hand a channel a record whose bits are all resolved at this edge: T is 100 ns later (R263). -/
def gateRecord (s : State) (n : Nat) (ob : Nat → Bool) (duty ang : Nat) (committed : Bool) : State :=
  let c := s.gch n
  let r : GateRec := { at_ := s.gate.pwm + 3200, edge := s.time.sys + 100,
                       cmd := ob (s.fld F.GATE_C_SRC_CMD_BIT n), trip := ob (s.fld F.GATE_C_SRC_TRIP_BIT n),
                       duty := duty, ang := ang, committed := committed }
  if gateState s n = gsOff then s else s.setGch n { c with recs := c.recs ++ [r] }

/-! ## Enabling (R275, R276) -/

/-- Is an enable refused (R268, R269, R276)? -/
def gateEnableBad (s : State) (n : Nat) : Bool :=
  !s.flag F.GATE_STAT_CAL_DONE || decide (s.fld F.GATE_C_CTL_OWNER n = 0) || decide (gateMode s n = 3)
    || decide (55 < s.fld F.GATE_C_SRC_DUTY_OW n) || decide (55 < s.fld F.GATE_C_SRC_ANG_OW n) || stagedBad s n
    || (s.flag F.GATE_C_SRC_DUTY_OW_EN n && s.flag F.GATE_C_CTL_PAIRED n)
    || (s.flag F.GATE_C_CTL_REFRESH_EN n && (decide (s.fld F.GATE_C_REFRESH_INTERVAL n = 0)
          || decide (s.fld F.GATE_C_REFRESH_WIDTH n ≤ s.fld F.GATE_C_DT_DT n)))

/-- Is a masked SAFE_N ball low for a channel? -/
def safeBallLow (s : State) (n : Nat) : Bool :=
  decide (s.fld F.GATE_C_CTL_SAFE_MASK n &&& (15 - s.fld F.GATE_STAT_SAFE_N) ≠ 0)

/-- GATE_CHANNEL_ENABLE: EN written 1 (R275, R276). -/
def gateEnable (s : State) (n : Nat) : State :=
  if gateChans ≤ n || s.flag F.GATE_C_CTL_EN n || s.recovering then s
  else if gateEnableBad s n then gateFlt s n F.GATE_C_FLT_CFG_REFUSED F.GATE_FLT_CFG_ERR
  else
    let p := s.fld F.GATE_C_CTL_OWNER n
    let s := (s.setFlag F.GATE_C_CTL_EN true n).setFlag F.GATE_C_STAT_HIZ false n
    let s := (s.setFld F.GATE_C_PERIOD_VAL (s.fld F.GATE_C_PERIOD_STG_VAL n) n).setFld F.GATE_C_DUTY_VAL
      (s.fld F.GATE_C_DUTY_STG_VAL n) n
    let s := (s.setFlag F.GATE_C_STAT_STG_P false n).setFlag F.GATE_C_STAT_STG_D false n
    let s := s.setGch n { s.gch n with prevCmd := resolvedBit s p (s.fld F.GATE_C_SRC_CMD_BIT n), recs := [] }
    let s := setGateState s n gsIdle
    if safeBallLow s n then enterSafe s n safeCauseBall
    else if s.flag F.GATE_C_CTL_RST_SAFE n && partHeld s p then enterSafe s n safeCauseReset
    else s

def execGateChannelEnable (n : Nat) (s : State) : Host.Outcome State Fault Refusal := .next (s.live fun s => gateEnable s n)

/-- GATE_CHANNEL_DISABLE: EN written 0: both outputs inactive, pending values and schedule cleared, SAFE released (R275). -/
def gateDisable (s : State) (n : Nat) : State :=
  if gateChans ≤ n then s
  else
    let s := (s.setFlag F.GATE_C_CTL_EN false n).setFlag F.GATE_C_STAT_PEND false n
    setGateState (s.setGch n GateCh.reset) n gsOff

def execGateChannelDisable (n : Nat) (s : State) : Host.Outcome State Fault Refusal := .next (s.live fun s => gateDisable s n)

/-! ## Forces, freeze and clock (R258, R278 to R283) -/

/-- SAFE_N_ASSERT: a SAFE_N ball goes low for at least `widthNs`. Below 20 ns it is rejected; from 20 ns to below 50 ns the
spec does not say whether it forces; from 50 ns it forces every masked channel (R279). -/
def safeNAssert (s : State) (k widthNs : Nat) : State :=
  let force (s : State) : State :=
    let s := s.setFbit F.GATE_STAT_SAFE_N k false
    (List.range gateChans).foldl (fun s n =>
      if s.fbit F.GATE_C_CTL_SAFE_MASK k n then enterSafe s n safeCauseBall else s) s
  if 4 ≤ k || widthNs < 20 then s
  else if 50 ≤ widthNs then force s
  else
    let (v, s) := s.takeFree
    if v % 2 = 1 then force s else s

def execSafeNAssert (k widthNs : Nat) (s : State) : Host.Outcome State Fault Refusal := .next (s.live fun s => safeNAssert s k widthNs)

/-- SAFE_N_RELEASE: a SAFE_N ball returns high; the channels it forced stay in SAFE (R280). -/
def safeNRelease (s : State) (k : Nat) : State := if 4 ≤ k then s else s.setFbit F.GATE_STAT_SAFE_N k true

def execSafeNRelease (k : Nat) (s : State) : Host.Outcome State Fault Refusal := .next (s.live fun s => safeNRelease s k)

def lcManufacture : Nat := 0
def lcDevelop : Nat := 1
def lcSealed : Nat := 2
def lcDecommissioned : Nat := 3

/-- GATE_FREEZE: a JTAG halt of the generator, in MANUFACTURE and DEVELOP only (R282). -/
def gateFreeze (s : State) : State :=
  if 1 < s.keys.lifecycle || gateFrozen s then s
  else
    let s := (List.range gateChans).foldl (fun s n => if gateState s n = gsWait then gateCancel s n 2 else s) s
    ((s.setFlag F.GATE_STAT_FROZEN true).setFlt F.GATE_FLT_FROZEN).count C.GATE_FREEZES

def execGateFreeze (s : State) : Host.Outcome State Fault Refusal := .next (s.live fun s => gateFreeze s)

/-- GATE_UNFREEZE: every channel continues from the count at which it stopped. -/
def gateUnfreeze (s : State) : State := s.setFlag F.GATE_STAT_FROZEN false

def execGateUnfreeze (s : State) : Host.Outcome State Fault Refusal := .next (s.live fun s => gateUnfreeze s)

/-- PWM_CLOCK_RETURN: every channel that is not OFF enters SAFE (R283). -/
def pwmClockReturn (s : State) : State :=
  if !s.gate.stopped then s
  else
    let s := { s with gate := { s.gate with stopped := false } }
    let s := (List.range gateChans).foldl (fun s n => enterSafe s n safeCauseClock) s
    (s.setFlt F.GATE_FLT_CLK_STOP).count C.GATE_CLK_STOPS

def execPwmClockReturn (s : State) : Host.Outcome State Fault Refusal := .next (s.live fun s => pwmClockReturn s)

/-- GATE_CALIBRATION: a calibration completes or fails (R258). -/
def gateCalibration (s : State) (ok : Bool) : State :=
  if ok then s.setFlag F.GATE_STAT_CAL_DONE true else (s.setFlt F.GATE_FLT_CAL_ERR).count C.GATE_CAL_RUNS

def execGateCalibration (ok : Bool) (s : State) : Host.Outcome State Fault Refusal := .next (s.live fun s => gateCalibration s ok)

/-- READ_SCHED: the scheduled rise of the selected channel in the time layout, refused outside WAIT_EDGE. -/
def readSched (s : State) : State :=
  let n := s.fld F.GATE_SEL_INDEX
  if s.flag (mbxBusy 8) then s.mbxRefuseBusy 8
  else if gateChans ≤ n || gateState s n ≠ gsWait then s.mbxRefuse 8
  else s.mbxStart 8 (timeLayout 1 ((s.gch n).sched * 2048) (s.fld F.TIME_STAT_TQ) 0 (s.fld F.TIME_STAT_EPOCH))

def execReadSched (s : State) : Host.Outcome State Fault Refusal := .next (s.live fun s => readSched s)

end Sys2Proof.Machine
end

