-- ==== Sys2Proof/Machine/Tide.lean ====
section
/-! DEFINITION. Tide (chapter 3): the enable and disable of an angle group, its evaluations, its states and its commands. -/

namespace Sys2Proof.Machine

/-! ## The checks at enable (R109, R188, R463) -/

def fmin100 (s : State) (g : Nat) : Nat := s.fld F.TIDE_G_FLIM_FMIN g
def fmax100 (s : State) (g : Nat) : Nat := s.fld F.TIDE_G_FLIM_FMAX g

/-- C_min: the LANE cycles of a window at FMAX (R109). -/
def cMin (s : State) (g : Nat) : Nat := 120000000000 / (fmax100 s g * wpc s g)

/-- The commit reserve at the end of a window, in LANE cycles. -/
def commitReserve : Nat := 1536

/-- The values that REF_MODE uses (R97). -/
def usedRefs (s : State) (g : Nat) : List (Nat × Nat) :=
  let m := s.fld F.TIDE_G_CFG_REF_MODE g
  (tideRefs s g).take (if m = 0 then 1 else if m = 1 then 2 else 3)

/-- Do a group's frequency limits, loop, offset or reference fail R109? -/
def tideCfgBad (s : State) (g : Nat) : Bool :=
  let f := s.fld F.TIDE_G_FNOM_FNOM g
  let refs := usedRefs s g
  decide (fmin100 s g < 1400) || decide (7200 < fmax100 s g) || decide (fmax100 s g ≤ fmin100 s g)
    || decide (f < fmin100 s g * 10) || decide (fmax100 s g * 10 < f)
    || decide (f < 4000 * 2 ^ s.fld F.TIDE_G_CFG_BW g)
    || decide (s.fld F.TIDE_G_DRO_DRO g < 44000)
    || decide (s.fld F.TIDE_G_CFG_REF_MODE g = 3)
    || (refs.any fun (n, v) => !streamEn s n || decide (s.fld F.SVI_S_CTL_NVAL n ≤ v))
    || (refs.any fun (n, _) => decide (some (streamRate s n) ≠ refs.head?.map fun (m, _) => streamRate s m))

/-- The enabled slots of the whole device. -/
def allSlots (s : State) : List (Nat × Nat) :=
  (List.range lanePairs).flatMap fun n => ((List.range laneSlots).filter (slotEn s n)).map fun j => (n, j)

/-- Can two slots run in the same window? -/
def slotsMeet (s : State) (a b : Nat × Nat) : Bool :=
  (List.range 8).any fun w => slotRuns s a.1 a.2 w && slotRuns s b.1 b.2 w

/-- Do two ranges [a, a + n) and [b, b + m) overlap? -/
def rangesMeet (a n b m : Nat) : Bool := decide (a < b + m) && decide (b < a + n) && decide (0 < n) && decide (0 < m)

/-- The pairs of a list of distinct entries, each pair once. -/
def pairsOf {α : Type} : List α → List (α × α)
  | [] => []
  | a :: t => t.map (fun b => (a, b)) ++ pairsOf t

/-- The LANE cycles a slot takes from its START. -/
def slotSpan (s : State) (n j : Nat) : Nat := preamble + slotBudget s n j

/-- Do the slot tables of a group fail R109? -/
def tideSlotsBad (s : State) (g : Nat) : Bool :=
  let slots := groupSlots s g
  let all := allSlots s
  (slots.any fun (n, j) => decide (slotPart s n j = 0) || decide (slotDiv s n j ≤ slotPhase s n j))
    || (all.any fun (n, _) => decide (pairRole s n ≠ roleWorking))
    || hasDup (all.map fun (n, j) => slotPart s n j)
    || (slots.any fun (n, j) => decide (cMin s g < slotStart s n j + slotSpan s n j + commitReserve))
    || ((pairsOf slots).any fun (a, b) =>
        decide (a.1 = b.1) && slotsMeet s a b && rangesMeet (slotStart s a.1 a.2) (slotSpan s a.1 a.2) (slotStart s b.1 b.2) (slotSpan s b.1 b.2))

/-- Does a slot's own regions fail R188? -/
def regionBad (s : State) (n j : Nat) : Bool :=
  let cs := slotCodeSize s n j
  let e := slotEntry s n j
  decide (cs = 0) || decide (128 < slotCodeBase s n j + cs) || decide (e % 2 = 1) || decide (cs * 1024 ≤ e)
    || decide (256 < slotDataBase s n j + slotDataSize s n j) || decide (16 < slotStateSize s n j)
    || decide (256 < slotStateBase s n j + 2 * slotStateSize s n j)

/-- The data region and the pair of state banks of a slot, as base and size in KiB. -/
def slotAreas (s : State) (n j : Nat) : List (Nat × Nat) :=
  [(slotDataBase s n j, slotDataSize s n j), (slotStateBase s n j, 2 * slotStateSize s n j)]

/-- Do the regions of a group's tables fail R188? -/
def tideRegionsBad (s : State) (g : Nat) : Bool :=
  (groupSlots s g).any (fun (n, j) => regionBad s n j)
    || (groupTables s g).any fun n =>
      let js := (List.range laneSlots).filter (slotEn s n)
      ((pairsOf js).any fun (a, b) =>
        decide (slotPart s n a ≠ slotPart s n b) && rangesMeet (slotCodeBase s n a) (slotCodeSize s n a) (slotCodeBase s n b) (slotCodeSize s n b))
        || ((pairsOf (js.flatMap (slotAreas s n))).any fun (a, b) => rangesMeet a.1 a.2 b.1 b.2)

/-- KEYS_CTRL.ENFORCE as read: 1 in SEALED (R463). -/
def enforce (s : State) : Bool := s.flag F.KEYS_CTRL_ENFORCE || decide (s.keys.lifecycle = lcSealed)

/-- Does a group hold a partition that is not approved while approval is enforced (R463)? -/
def unapproved (s : State) (g : Nat) : Bool :=
  enforce s && (groupSlots s g).any fun (n, j) =>
    let p := slotPart s n j
    !s.flag F.KEYS_T_STAT_IMAGE_OK p || !s.flag F.KEYS_T_STAT_SET_OK p

/-! ## State changes (R104) -/

/-- Set a flag of TIDE_G_FLT; TIDE_FLT.GRP, the OR of the group's flags, raises the interrupt as it becomes 1 (R498). -/
def grpFlt (s : State) (g : Nat) (f : Fld) : State :=
  let fs := [F.TIDE_G_FLT_FCLAMP, F.TIDE_G_FLT_HOLD_EXPIRED, F.TIDE_G_FLT_FREERUN, F.TIDE_G_FLT_LOST, F.TIDE_G_FLT_HOLD, F.TIDE_G_FLT_TRACK]
  let was := fs.any fun f => s.flag f g
  let s := s.setFlag f true g
  if !was && s.fbit F.TIDE_IEN_IEN (8 + g) then s.blockIrq blkTide else s

/-- A group changes state: an event record, the counter of the new state and its flag (R104). -/
def grpEnter (s : State) (g new : Nat) (byEnable : Bool) : State :=
  let old := grpState s g
  if old = new then s
  else
    let s := (s.setFld F.TIDE_G_STAT_STATE new g).event blkTide 0x0301 0 g old new
    if new = gtFreerun then
      let s := s.count C.TIDE_G_FREERUNS g
      if byEnable then s else grpFlt s g F.TIDE_G_FLT_FREERUN
    else if new = gtTrack then grpFlt s g F.TIDE_G_FLT_TRACK
    else if new = gtHold then grpFlt (s.count C.TIDE_G_HOLDS g) g F.TIDE_G_FLT_HOLD
    else if new = gtLost then grpFlt (s.count C.TIDE_G_LOSSES g) g F.TIDE_G_FLT_LOST
    else s

/-- "Not available" in a descriptor or register (R106). -/
def notAvail : Nat := 0x80000000

/-! ## Enable and disable -/

/-- The pairs of a group's tables start running them: a table's own pair, unless it is FAILED, or the spare that holds it. -/
def startTables (s : State) (g : Nat) : State :=
  (groupTables s g).foldl (fun s n =>
    match (List.range lanePairs).find? fun m => s.fld F.TIDE_P_STAT_TABLE m = n && s.fld F.TIDE_P_STAT_RUN m ≠ 2 with
    | some m => s.setFld F.TIDE_P_STAT_RUN 1 m
    | none => if s.fld F.TIDE_P_STAT_RUN n = 2 then s else (s.setFld F.TIDE_P_STAT_TABLE n n).setFld F.TIDE_P_STAT_RUN 1 n) s

/-- The pairs of a group that is OFF run no table; a FAILED pair and a spare that holds a failed pair's table stay so. -/
def stopTables (s : State) (g : Nat) : State :=
  (groupTables s g).foldl (fun s n =>
    if s.fld F.TIDE_P_STAT_TABLE n = n && s.fld F.TIDE_P_STAT_RUN n = 1 then
      (s.setFld F.TIDE_P_STAT_TABLE noTable n).setFld F.TIDE_P_STAT_RUN 0 n
    else s) s

/-- Does some check refuse the enable of a group? -/
def enableRefused (s : State) (g : Nat) : Bool := tideCfgBad s g || tideSlotsBad s g || tideRegionsBad s g || unapproved s g

/-- A refused enable: CFG_ERR, and the flags of the region check and of the approval check where they fail (R109, R188, R463). -/
def enableRefuse (s : State) (g : Nat) : State :=
  let u := s.setFlt F.TIDE_FLT_CFG_ERR
  let u := if tideRegionsBad s g then u.setFlt F.LANE_FLT_REGION_ERR else u
  if unapproved s g then u.setFlt F.KEYS_FLT_UNAPPROVED else u

/-- The streams of a group that release nothing yet begin their releases with the group (R143). -/
def releasesRestart (s : State) (g : Nat) : State :=
  (s.svi.streams.map Prod.fst).foldl (fun s n =>
    if streamGroup s n = g && streamState s n ≠ ssSynced && streamState s n ≠ ssEstimated then s.setStream n { s.stream n with next := none } else s) s

/-- GROUP_ENABLE: a GEN bit written 1. The checks refuse it with CFG_ERR; else the group enters FREERUN with X = 0 now (R87,
R103, R109), and the next run of each of its partitions is a first run (R196). -/
def groupEnable (s : State) (g : Nat) : State :=
  if 8 ≤ g || grpEn s g || s.recovering then s
  else if enableRefused s g then enableRefuse s g
  else
    let old := s.grp g
    let s := s.setFbit F.TIDE_CTRL_GEN g true
    let s := s.setGrp g { TideGrp.reset with b := s.devT, cur := old.cur, stopping := old.cur.isSome }
    let s := (groupSlots s g).foldl (fun s (n, j) =>
      let p := slotPart s n j
      s.setLpart p { s.lpart p with first := max 1 (s.lpart p).first }) s
    let s := fdcGroupOn (releasesRestart (startTables s g) g) g
    let s := ((s.setFld F.TIDE_G_STAT_LOSS_CAUSE 0 g).setFlag F.TIDE_G_STAT_FORCED false g).setFlag F.TIDE_G_STAT_ARMED false g
    let s := ((s.setFlag F.TIDE_G_STAT_REF_OK false g).setFlag F.TIDE_G_STAT_FCLAMP false g).setFld F.TIDE_G_PHERR_VAL notAvail g
    joinSettle (grpEnter ((s.setFld F.TIDE_G_ROCOF_VAL notAvail g).setFld F.TIDE_G_FAVG_VAL notAvail g) g gtFreerun true)

def execGroupEnable (g : Nat) (s : State) : Host.Outcome State Fault Refusal := .next (s.live fun s => groupEnable s g)

/-- A group's last lane window has been committed, or none was in progress: with the group OFF its map is discarded. -/
def groupDrained (s : State) (g : Nat) : State :=
  if grpEn s g then s.setGrp g { s.grp g with cur := none, stopping := false } else joinSettle (stopTables (s.setGrp g TideGrp.reset) g)

/-- The map kept while a lane window runs on: that of its own window and of the one before (R103). -/
def keptMap (grp : TideGrp) : List TideWin :=
  match grp.cur with
  | some c => grp.wins.filter fun w => decide (w.n = c.n) || decide (w.n = (c.n + 2 ^ 32 - 1) % 2 ^ 32)
  | none => []

/-- GROUP_DISABLE: a GEN bit written 0 is acted on at once; the lane window in progress runs to its commit, with its map (R103). -/
def groupDisable (s : State) (g : Nat) : State :=
  if 8 ≤ g || !grpEn s g then s
  else
    let old := s.grp g
    let s := grpEnter (s.setFbit F.TIDE_CTRL_GEN g false) g gtOff false
    let s := s.setGrp g { TideGrp.reset with cur := old.cur, stopping := old.cur.isSome, wins := keptMap old, desc := old.desc }
    let s := rallyUnalign (gateReconvert (fdcGroupOff s g) g) g
    if old.cur.isNone then groupDrained s g else s

def execGroupDisable (g : Nat) (s : State) : Host.Outcome State Fault Refusal := .next (s.live fun s => groupDisable s g)

/-! ## The phasor of the reference (R98, R552) -/

/-- The samples of a value in (a, b]. -/
def refIn (l : List RefSample) (a b : Nat) : List RefSample := l.filter fun x => decide (a < x.t) && decide (x.t ≤ b)

/-- The number that stands for a sample's value; one that is not finite has no stated result. -/
def refValue (v : Nat) : Q := if fp32.isFin v then fp32.toQ v else Q.ofInt (Config.notFinite v)

/-- P of samples given as instant and value, in Tide's binary64 arithmetic. -/
def phasor (s : State) (g : Nat) (xs : List (Nat × Q)) : Q × Q :=
  let n := xs.length
  let sum (f : Q → Q) : Q := xs.foldl (fun a (t, x) =>
    let th := match angleAt s g t with | some (v, _) => v % 2 ^ 32 | none => 0
    Q.add a (Q.mul x (f ⟨th, 2 ^ 32⟩))) Q.zero
  let part (f : Q → Q) : Q := Config.tideRound (Q.div (Q.mul Config.sqrt2 (sum f)) (Q.ofInt n))
  (part Config.sinCycle, part Config.cosCycle)

/-- The reference phasor of an interval by REF_MODE, and the count of its samples. DESIGN CHOICE (log 51): in DIFF an instant of value A at which value B has no
sample takes B as 0; R552 states nothing of it. -/
def refPhasor (s : State) (g a b : Nat) : (Q × Q) × Nat :=
  let grp := s.grp g
  let xa := (refIn grp.refA a b).map fun x => (x.t, refValue x.v)
  let xb := (refIn grp.refB a b).map fun x => (x.t, refValue x.v)
  let xc := (refIn grp.refC a b).map fun x => (x.t, refValue x.v)
  let m := s.fld F.TIDE_G_CFG_REF_MODE g
  if m = 0 then (phasor s g xa, xa.length)
  else if m = 1 then
    let d := xa.map fun (t, v) => (t, Q.sub v (((xb.find? fun y => y.1 = t).map Prod.snd).getD Q.zero))
    (phasor s g d, d.length)
  else
    let (ar, ai) := phasor s g xa
    let (br, bi) := phasor s g xb
    let (cr, ci) := phasor s g xc
    let h : Q := ⟨1, 2⟩
    let r := Q.mul h Config.sqrt3
    let re := Q.add ar (Q.add (Q.sub (Q.neg (Q.mul h br)) (Q.mul r bi)) (Q.add (Q.neg (Q.mul h cr)) (Q.mul r ci)))
    let im := Q.add ai (Q.add (Q.sub (Q.mul r br) (Q.mul h bi)) (Q.sub (Q.neg (Q.mul r cr)) (Q.mul h ci)))
    ((Config.tideRound (Q.div re (Q.ofInt 3)), Config.tideRound (Q.div im (Q.ofInt 3))), xa.length)

/-- The quality part of REF_OK for one sample (R99). -/
def refQualOk (s : State) (g q : Nat) : Bool :=
  (decide (q % 4 = 0) || (decide (q % 4 = 3) && s.flag F.TIDE_G_CFG_QOK g)) && !bitOf q 18
    && (!bitOf q 17 || s.flag F.TIDE_G_CFG_IOK g) && (!bitOf q 19 || s.flag F.TIDE_G_CFG_TOK g)

/-- The amplitude part of REF_OK: off when AMP_MIN is 0.0. -/
def refAmpOk (s : State) (g : Nat) (amp : Q) : Bool :=
  let m := s.fld F.TIDE_G_AMP_AMP_MIN g
  if fp32.isZero m then true
  else if fp32.isNan m then false
  else if fp32.isInf m then fp32.neg m
  else Q.le (fp32.toQ m) amp

/-- wrap_half: into [−0.5, 0.5). -/
def wrapHalf (v : Q) : Q := Q.sub v (Q.ofInt (Q.floor (Q.add v ⟨1, 2⟩)))

/-- A length in 2^-16 ns as seconds. -/
def secondsOf (d : Int) : Q := Q.red ⟨d, 65536000000000⟩

/-! ## An evaluation -/

/-- The values of R99 and R100 at evaluation k: ψ, e, f_avg, ROCOF, REF_OK and the first failing part (1 amplitude, 2 quality,
3 frequency range). -/
structure EvalVals where
  psi : Option Q
  e : Option Q
  favg : Option Q
  rocof : Option Q
  refOk : Bool
  cause : Nat

/-- Compute the values of the evaluation of boundary b_k (R98 to R100). DESIGN CHOICE (log 52): below W no part of R99 has failed by itself; an entry to LOST
there records quality. -/
def evalVals (s : State) (g : Nat) : EvalVals :=
  let grp := s.grp g
  let w := wpc s g
  match grp.wins[w - 1]? with
  | none => { psi := none, e := none, favg := none, rocof := none, refOk := false, cause := 2 }
  | some low =>
    let used := [grp.refA, grp.refB, grp.refC].take (usedRefs s g).length
    let qual := used.all fun l => (refIn l low.b grp.b).all fun x => refQualOk s g x.q
    let ((re, im), n) := refPhasor s g low.b grp.b
    let none_ : Bool := decide (n = 0) || (re.isZero && im.isZero)
    let amp := if none_ then Q.zero else Config.magnitude re im
    let psi := if none_ then none else some (Config.argCycles re im)
    let ampOk := refAmpOk s g amp
    let prev := grp.evals[w - 1]?
    let tc := secondsOf ((grp.b : Int) - low.b)
    let prevOk := (prev.map TideEval.refOk).getD false
    let f := match psi, prev.bind TideEval.psi with
      | some a, some b => if qual && ampOk && prevOk then
          some (Config.tideRound (Q.div (Q.add (Q.ofInt 1) (wrapHalf (Q.sub a b))) tc)) else none
      | _, _ => none
    let inRange := match f with
      | some v => Q.le ⟨fmin100 s g, 100⟩ v && Q.le v ⟨fmax100 s g, 100⟩
      | none => true
    let ok := qual && ampOk && inRange
    let favg := if ok then f else none
    let rocof := match favg, prev.bind TideEval.favg with
      | some a, some b => some (Config.tideRound (Q.div (Q.sub a b) tc))
      | _, _ => none
    let ofs : Q := ⟨s.fld F.TIDE_G_OFS_ANG_OFS g, 2 ^ 32⟩
    { psi := psi, e := psi.map fun p => wrapHalf (Q.sub p ofs), favg := favg, rocof := rocof, refOk := ok,
      cause := if !qual then 2 else if !inRange then 3 else if !ampOk then 1 else 0 }

/-- A count of cycles with 0 treated as 1. -/
def atLeast1 (v : Nat) : Nat := max 1 v

/-- Is |ROCOF| at or below ROCOF_LIM; undefined counts as above. -/
def rocofQuiet (s : State) (g : Nat) (v : EvalVals) : Bool :=
  match v.rocof with
  | some r => Q.le (Q.abs r) ⟨s.fld F.TIDE_G_HOLD_ROCOF_LIM g, 1000⟩
  | none => false

/-- |e| against a threshold in 2^-16 cycle. -/
def phWithin (e : Option Q) (lim : Nat) : Bool :=
  match e with
  | some e => Q.le (Q.abs e) ⟨lim, 65536⟩
  | none => false

def phBeyond (e : Option Q) (lim : Nat) : Bool :=
  match e with
  | some e => !Q.le (Q.abs e) ⟨lim, 65536⟩
  | none => false

/-- The frequency of the window just ended, FNOM before the first. -/
def lastFreq (s : State) (g : Nat) : Q :=
  match (s.grp g).wins.head? with
  | some w => w.f
  | none => fnom s g

/-- The frequency of window k − HOLD_BACK, or of the oldest kept (R103). -/
def holdFreq (s : State) (g : Nat) : Q :=
  let grp := s.grp g
  let back := max 1 (s.fld F.TIDE_G_HOLD_HOLD_BACK g)
  match grp.wins[back - 1]? with
  | some w => w.f
  | none => match grp.wins.getLast? with
    | some w => w.f
    | none => fnom s g

def cmdResync : Nat := 1
def cmdFreerun : Nat := 2

/-- A command takes effect at the first evaluation after its SYS edge (R103). -/
def cmdDue (s : State) (c : Nat × Nat) : Bool := decide (c.2 < s.time.sys)

/-- The command that takes effect at this evaluation: of several, the one whose row of R103 stands first. -/
def tideCmdDue (s : State) (grp : TideGrp) : Option Nat :=
  let due := (grp.cmds.filter (cmdDue s)).map Prod.fst
  if due.contains cmdFreerun then some cmdFreerun else if due.contains cmdResync then some cmdResync else none

/-- The state after the transitions of R103, whether integ is to be set to base, and whether HOLD has expired. -/
def tideNext (s : State) (g : Nat) (v : EvalVals) : Nat × Bool × Bool :=
  let grp := s.grp g
  let st := grpState s g
  let w := wpc s g
  let armed := decide (atLeast1 (s.fld F.TIDE_G_HOLD_HOLD_EXIT g) ≤ grp.quietRun)
  let back := decide (max 2 (s.fld F.TIDE_G_DRO_RET_CYC g) * w ≤ grp.okRun)
  let since := grp.k - grp.entry
  let lock := s.fld F.TIDE_G_PH_LOCK_PH g
  match tideCmdDue s grp with
  | some c => if c = cmdFreerun then (gtFreerun, false, false) else (gtAcquire, true, false)
  | none =>
    if st = gtFreerun then
      if s.flag F.TIDE_G_STAT_FORCED g then (gtFreerun, false, false)
      else if back then (gtAcquire, true, false) else (gtFreerun, false, false)
    else if st = gtLost then
      if back then (gtAcquire, true, false)
      else if atLeast1 (s.fld F.TIDE_G_LOSS_LOSS_CYC g) * w ≤ since then (gtFreerun, false, false)
      else (gtLost, false, false)
    else if st = gtHold then
      if !v.refOk then (gtLost, false, false)
      else if armed then (gtAcquire, true, false)
      else if atLeast1 (s.fld F.TIDE_G_LOSS_HOLD_MAX g) * w ≤ since then (gtAcquire, true, true)
      else (gtHold, false, false)
    else if !v.refOk then (gtLost, false, false)
    else if !rocofQuiet s g v && armed then (gtHold, false, false)
    else if st = gtAcquire then
      if phWithin v.e lock && decide (atLeast1 (s.fld F.TIDE_G_LOSS_LOCK_WIN g) ≤ grp.lockRun + 1) then (gtTrack, false, false)
      else (gtAcquire, false, false)
    else if phBeyond v.e (s.fld F.TIDE_G_PH_UNLOCK_PH g) then (gtAcquire, true, false)
    else (gtTrack, false, false)

/-- The loop bandwidth in hertz. -/
def loopBw (s : State) (g : Nat) : Q := ⟨2 ^ s.fld F.TIDE_G_CFG_BW g, 2⟩

/-- The acquisition offset as a part of FNOM. -/
def acqOfs (s : State) (g : Nat) : Q := ⟨[1, 2, 5, 10].getD (s.fld F.TIDE_G_CFG_ACQ_OFS g) 0, 100⟩

/-- f_next before its limit, integ and the lock run after the evaluation (R101). -/
def loopStep (s : State) (g new : Nat) (toBase entering : Bool) (v : EvalVals) (tw : Q) : Q × Q × Nat :=
  let grp := s.grp g
  let base := match v.favg with | some f => f | none => lastFreq s g
  let integ := if toBase then base else grp.integ
  let run := if entering then 0 else grp.lockRun
  let stepped (e : Q) : Q × Q :=
    let bw := loopBw s g
    let wn := Q.mul (Q.scale Config.pi 2) bw
    let i := Config.tideRound (Q.add integ (Q.mul (Q.mul (Q.mul wn wn) tw) e))
    (Config.tideRound (Q.add i (Q.mul (Q.mul ⟨8886, 1000⟩ bw) e)), i)
  if new = gtTrack || new = gtAcquire then
    match v.e with
    | none => (lastFreq s g, integ, 0)
    | some e =>
      if new = gtAcquire && phBeyond v.e (s.fld F.TIDE_G_PH_LOCK_PH g) then
        let d := Q.mul (acqOfs s g) (fnom s g)
        (if e.n < 0 then Q.sub base d else Q.add base d, base, 0)
      else let (f, i) := stepped e; (f, i, run + 1)
  else if new = gtFreerun then (fnom s g, integ, 0)
  else (grp.fHold, integ, 0)

/-- A number rounded to the nearest integer and limited to ±(2^31 − 1), as a word; not available where undefined (R106). -/
def descNum (v : Option Q) : Nat :=
  match v with
  | some q => unsigned 32 (clampInt (-(2 ^ 31 - 1)) (2 ^ 31 - 1) (Q.round q))
  | none => notAvail

/-- A frequency limited to FMIN and FMAX (R101). -/
def limitFreq (s : State) (g : Nat) (f0 : Q) : Q := Q.max ⟨fmin100 s g, 100⟩ (Q.min ⟨fmax100 s g, 100⟩ f0)

/-- Does the limit change a frequency? -/
def freqClamped (s : State) (g : Nat) (f0 : Q) : Bool := Q.lt f0 ⟨fmin100 s g, 100⟩ || Q.lt ⟨fmax100 s g, 100⟩ f0

/-- The length of the window just ended in seconds, 0 before the first. -/
def lastTw (s : State) (g : Nat) : Q :=
  match (s.grp g).wins.head? with
  | some l => secondsOf (((s.grp g).b : Int) - l.b)
  | none => Q.zero

/-- The start of an evaluation that goes to state `new`: a command that takes effect is shown, and f_hold is taken at the entry into LOST or HOLD. -/
def evalBegin (s : State) (g new : Nat) : State :=
  let grp := s.grp g
  let old := grpState s g
  let s := match tideCmdDue s grp with
    | some c => s.setFlag F.TIDE_G_STAT_FORCED (decide (c = cmdFreerun)) g
    | none => s
  if (decide (new = gtLost) && decide (old = gtAcquire ∨ old = gtTrack)) || (decide (new = gtHold) && decide (old ≠ gtHold)) then
    s.setGrp g { grp with fHold := holdFreq s g }
  else s

/-- The angle that window k spans. -/
def winSpan (s : State) (g : Nat) : Nat := winAngle (wpc s g) ((s.grp g).k + 1) - winAngle (wpc s g) (s.grp g).k

/-- The length of window k in 2^-16 ns at an INC, with the fraction carried (R90). -/
def winLen (s : State) (g inc : Nat) : Q := Q.add (Q.red ⟨(winSpan s g * 2 ^ 38 : Nat), inc⟩) (s.grp g).frac

/-- The descriptor words of window k (R106). -/
def evalWords (s : State) (g : Nat) (v : EvalVals) (new inc : Nat) (clamped : Bool) : List Nat :=
  [(s.grp g).x / 2 ^ 32, descNum (v.e.map fun e => Q.scale e (2 ^ 32)), inc,
   g * 2 ^ 24 + s.fld F.TIDE_G_CFG_WPC g * 2 ^ 16 + ofBit clamped * 32 + ofBit v.refOk * 16 + new,
   descNum (v.rocof.map fun r => Q.scale r 1000), (Q.round ⟨(Q.floor (winLen s g inc)).toNat, 65536⟩).toNat]

/-- Window k is fixed: from its boundary, with the INC of a frequency, to the next boundary; the histories and counts go on. -/
def windowFix (s : State) (g : Nat) (v : EvalVals) (old new run : Nat) (integ f : Q) (words : List Nat) : TideGrp :=
  let grp := s.grp g
  let inc := incOf f
  let dur := (Q.floor (winLen s g inc)).toNat
  let quiet := rocofQuiet s g v
  { grp with
    k := grp.k + 1, x := (grp.x + winSpan s g) % 2 ^ 64, b := grp.b + dur, frac := Q.sub (winLen s g inc) (Q.ofInt dur)
    wins := ({ n := grp.k % 2 ^ 32, x := grp.x, b := grp.b, inc := inc, f := f } :: grp.wins).take 256
    evals := ({ psi := v.psi, favg := v.favg, refOk := v.refOk } :: grp.evals).take 256
    okRun := if v.refOk then grp.okRun + 1 else 0
    quietRun := if quiet && decide (new = gtHold → old = gtHold) then grp.quietRun + 1 else 0
    lockRun := run, integ := integ, entry := if old = new then grp.entry else grp.k
    cmds := grp.cmds.filter fun c => !cmdDue s c
    desc := sparsePut (grp.k % 2 ^ 32) words grp.desc }

/-- The flags, counters and registers that an evaluation writes (R101 to R106). -/
def evalReport (s : State) (g : Nat) (v : EvalVals) (old new : Nat) (expired clamped : Bool) (words : List Nat) : State :=
  let s := if new = gtLost && old ≠ gtLost then s.setFld F.TIDE_G_STAT_LOSS_CAUSE v.cause g else s
  let s := if expired then grpFlt (s.count C.TIDE_G_HOLD_EXPIRIES g) g F.TIDE_G_FLT_HOLD_EXPIRED else s
  let s := if clamped then grpFlt (s.count C.TIDE_G_FCLAMPS g) g F.TIDE_G_FLT_FCLAMP else s
  let s := ((s.setFlag F.TIDE_G_STAT_FCLAMP clamped g).setFlag F.TIDE_G_STAT_REF_OK v.refOk g).setFlag F.TIDE_G_STAT_ARMED
    (decide (atLeast1 (s.fld F.TIDE_G_HOLD_HOLD_EXIT g) ≤ (s.grp g).quietRun)) g
  ((s.setFld F.TIDE_G_PHERR_VAL (words.getD 1 0) g).setFld F.TIDE_G_ROCOF_VAL (words.getD 4 0) g).setFld F.TIDE_G_FAVG_VAL
    (descNum (v.favg.map fun f => Q.mul f ⟨2 ^ 54, 1000000000⟩)) g

/-- The evaluation of boundary b_k: the values, the transitions, INC of window k, the next boundary, the descriptor words of
window k and the registers (R90, R98 to R106). DESIGN CHOICE (log 53): a RESYNC taken in ACQUIRE also restarts the count of evaluations within LOCK_PH;
R103 names only FORCED and integ. -/
def tideEvaluate (s : State) (g : Nat) : State :=
  let v := evalVals s g
  let n := tideNext s g v
  let old := grpState s g
  let a := evalBegin s g n.1
  let l := loopStep a g n.1 n.2.1 (decide (old ≠ n.1) && decide (n.1 = gtAcquire) || (tideCmdDue s (s.grp g)).isSome) v (lastTw s g)
  let f := limitFreq s g l.1
  let words := evalWords s g v n.1 (incOf f) (freqClamped s g l.1)
  let b := a.setGrp g (windowFix a g v old n.1 l.2.2 l.2.1 f words)
  gateReconvert (grpEnter (evalReport b g v old n.1 n.2.2 (freqClamped s g l.1) words) g n.1 false) g

/-- Has Estuary released every reference sample of a group with an instant at or before a boundary (R90)? -/
def refsReleased (s : State) (g b : Nat) : Bool :=
  (usedRefs s g).all fun (n, _) => !streamReleases s n || decide (b < gridInst (streamRate s n) ((s.stream n).next.getD (firstRelease s n)))

/-- TIDE_EVALUATION: the evaluation of the next boundary, D after it, once the reference samples up to it are released, and no later than 1 µs after that (R90). -/
def tideEvaluation (s : State) (g : Nat) : State :=
  let due := (s.grp g).b + adepth s g * 65536
  if 8 ≤ g || !grpEn s g || decide (s.devT < due) || (!refsReleased s g (s.grp g).b && decide (s.devT < due + 1000 * 65536)) then s else tideEvaluate s g

def execTideEvaluation (g : Nat) (s : State) : Host.Outcome State Fault Refusal := .next (s.live fun s => tideEvaluation s g)

/-- A command of TIDE_CMD waits for the first evaluation after it (R103). -/
def tideCommand (s : State) (g c : Nat) : State :=
  if 8 ≤ g || grpState s g = gtOff then s
  else s.setGrp g { s.grp g with cmds := (s.grp g).cmds ++ [(c, s.time.sys)] }

/-- RESYNC: to ACQUIRE at the next evaluation. -/
def execResync (g : Nat) (s : State) : Host.Outcome State Fault Refusal := .next (s.live fun s => tideCommand s g cmdResync)

/-- FORCE_FREERUN: to FREERUN at the next evaluation. -/
def execForceFreerun (g : Nat) (s : State) : Host.Outcome State Fault Refusal := .next (s.live fun s => tideCommand s g cmdFreerun)

/-- A step notice reaches Tide: every stored boundary, the pending lane window and the reference samples move (R94). `d` is in
2^-16 ns. -/
def tideStep (s : State) (d : Int) : State :=
  let mv (x : RefSample) : RefSample := { x with t := shiftT x.t d }
  let one (v : TideGrp) : TideGrp :=
    { v with b := shiftT v.b d, wins := v.wins.map fun w => { w with b := shiftT w.b d }
             refA := v.refA.map mv, refB := v.refB.map mv, refC := v.refC.map mv
             cur := v.cur.map fun c => { c with start := shiftT c.start d, stop := shiftT c.stop d, map := { c.map with b := shiftT c.map.b d } } }
  { s with tide := { s.tide with grps := s.tide.grps.map fun (g, v) => (g, one v) } }

end Sys2Proof.Machine
end

