-- ==== Sys2Proof/Machine/Rally.lean ====
section
/-! DEFINITION. Rally (chapter 9): lanes, pair states, roles, alignment, resolution of output bits, wake and commanded reset. -/

namespace Sys2Proof.Machine

/-! ## Roles (R295, R296) -/

/-- The role changes: a new leader publishes its LEADER blocks, a follower stops (R239, R240, R295). -/
def setRole (s : State) (lead : Bool) : State :=
  if isLeader s = lead then s
  else
    let s := ((s.setFlag F.TWIN_STAT_LEADER lead).count C.TWIN_ROLE_CHANGES).setFlt F.TWIN_FLT_ROLE_CHANGE
    let s := s.event blkTwin 0x0902 0 (ofBit lead)
    if lead then gooseTakeover s else gooseFollow s

/-- Who leads a pair: the higher effective priority, and side A on a tie; when both have yielded the roles stay. -/
def decideRole (s : State) : State :=
  let y := s.flag F.TWIN_STAT_YIELDED
  let mine := if y then 0 else s.fld F.TWIN_CTRL_LEAD_PRI
  let theirs := if s.twin.peerYielded then 0 else s.twin.peerPri
  if y && s.twin.peerYielded then s
  else setRole s (decide (theirs < mine) || (decide (mine = theirs) && !s.twin.sideB))

/-! ## Resolving output bits (R298 to R303) -/

/-- Is a vote present for a status (R300)? -/
def voteOf (st : Nat) : Bool := decide (st = wsCommitted) || decide (st = wsHeld)

/-- The bits of a partition that `f` gives for its AGREE and EITHER bits, the others as they are. -/
def mapShared (s : State) (p old : Nat) (f : Nat → Nat → Bool) : Nat :=
  ((List.range 256).map fun b =>
    let v := if polShared s p b then f b (polByte s p b) else bitOf old b
    if v then 2 ^ b else 0).foldl (· + ·) 0

/-- OWN bits take the delivered bit at the commit edge; a partition that did not run keeps its bits (R298, R300, R302). -/
def resolveOwn (s : State) (r : OwnRec) : State :=
  if r.status = wsNotRun then s
  else
    let old := sparseGet 0 s.twin.resolved r.part
    let new := vecBits r.vec
    s.setResolved r.part (((List.range 256).map fun b =>
      if bitOf (if polShared s r.part b then old else new) b then 2 ^ b else 0).foldl (· + ·) 0)

/-- Do the fingerprints of a partition differ (R301)? -/
def fpDiffers (r : OwnRec) (pfp : Option (List (Nat × List Nat))) : Bool :=
  match pfp.bind fun l => l.find? fun e => e.1 = r.part with
  | some e => decide (r.fp ≠ some e.2)
  | none => true

/-- A bit resolved by fallback from the one vote given (R302). -/
def fallbackBit (pol : Nat) (vote : Option Bool) (old : Bool) : Bool :=
  let fb := pol / 4 % 4
  if fb = 0 then vote.getD old else if fb = 2 then false else old

/-- One AGREE or EITHER bit: its value, and whether it was resolved by fallback. -/
def resolveBit (pol : Nat) (own peer : Option Bool) (fpd old : Bool) : Bool × Bool :=
  match own, peer with
  | some a, some b =>
    if fpd && bitOf pol 4 then (fallbackBit pol (some a) old, true)
    else (if pol % 4 = 1 then a && b else a || b, false)
  | some a, none => (fallbackBit pol (some a) old, true)
  | none, some b => (fallbackBit pol (some b) old, true)
  | none, none => (fallbackBit pol none old, true)

/-- Resolve the AGREE and EITHER bits of a partition: whether any was resolved by fallback. -/
def resolveShared (s : State) (r : OwnRec) (peer : Option PeerRec) (fpd : Bool) : Bool × State :=
  if r.status = wsNotRun then (false, s)
  else
    let p := r.part
    let old := sparseGet 0 s.twin.resolved p
    let mine := vecBits r.vec
    let own (b : Nat) : Option Bool := if voteOf r.status then some (bitOf mine b) else none
    let theirs (b : Nat) : Option Bool := peer.bind fun e => if voteOf e.status then some (bitOf e.ob b) else none
    let res (b pol : Nat) : Bool × Bool := resolveBit pol (own b) (theirs b) fpd (bitOf old b)
    let fell := (List.range 256).any fun b => polShared s p b && (res b (polByte s p b)).2
    let s := s.setResolved p (mapShared s p old fun b pol => (res b pol).1)
    let s := ((s.setFlag F.TWIN_T_STAT_FALLBACK fell p).setFlag F.TWIN_T_STAT_FP_DIFF fpd p).setFld F.TWIN_T_STAT_CLASS 0 p
    (fell, if fell then s.count C.TWIN_T_FALLBACKS p else s)

/-- Do two votes differ in an AGREE or EITHER bit or in their word digests (R303)? -/
def votesDiffer (s : State) (r : OwnRec) (e : PeerRec) : Bool :=
  ((List.range 256).any fun b => polShared s r.part b && (bitOf (vecBits r.vec) b != bitOf e.ob b)) || decide (wordDigest r.vec ≠ e.digest)

/-- Record a classed window of a partition: 1 INPUT, 2 DECISION (R303). -/
def classed (s : State) (p n cls : Nat) : State :=
  let f := if cls = 1 then F.TWIN_INPUT_INPUT else F.TWIN_DECISION_DECISION
  let s := (s.setFld F.TWIN_T_STAT_CLASS cls p).count (if cls = 1 then C.TWIN_T_INPUT_DIFF else C.TWIN_T_DECISION_DIFF) p
  let s := if s.partBit f p then s else s.event blkTwin 0x0905 p n cls
  (s.setPartBit f p true).setFlt (if cls = 1 then F.TWIN_FLT_INPUT_DIFF else F.TWIN_FLT_DECISION_DIFF)

/-- What a matched record shows of one partition: the partner's status and fingerprint, whether the fingerprints differ, and the class
of the window (R301, R303). -/
def classifyPart (s : State) (c : RallyPend) (es : List PeerRec) (r : OwnRec) : State :=
  match es.find? fun e => e.part = r.part with
  | none => s
  | some e =>
    if r.status = wsNotRun then s
    else
      let p := r.part
      let s := s.setFld F.TWIN_T_STAT_PSTATUS e.status p
      let s := match c.pfp.bind fun l => l.find? fun x => x.1 = p with
        | some x => (List.range 3).foldl (fun (s : State) i => s.setFld (F.TWIN_T_PFP_FP.el i) (x.2.getD i 0) p) s
        | none => s
      let fpd := fpDiffers r c.pfp
      let s := s.setFlag F.TWIN_T_STAT_FP_DIFF fpd p
      let s := if fpd then s.count C.TWIN_T_FP_DIFF p else s
      if voteOf r.status && voteOf e.status && votesDiffer s r e then classed s p c.n (if fpd then 1 else 2) else s

def classifyAll (s : State) (c : RallyPend) (es : List PeerRec) : State := c.recs.foldl (fun s r => classifyPart s c es r) s

/-- Does a gate channel take its record at E: is one of the bits it uses AGREE or EITHER (R263)? -/
def gateShared (s : State) (n : Nat) : Bool :=
  let p := s.fld F.GATE_C_CTL_OWNER n
  polShared s p (s.fld F.GATE_C_SRC_CMD_BIT n) || (s.flag F.GATE_C_CTL_TRIP_EN n && polShared s p (s.fld F.GATE_C_SRC_TRIP_BIT n))

/-- A gate channel takes its owner's record of a commit when its bits are resolved at this edge. -/
def deliverGate (s : State) (c : RallyPend) (shared : Bool) (n : Nat) : State :=
  match c.recs.find? fun r => r.part = s.fld F.GATE_C_CTL_OWNER n with
  | some r =>
    if s.flag F.GATE_C_CTL_EN n && gateShared s n = shared then
      gateRecord s n (commitOb s r) (r.vec.getD (8 + s.fld F.GATE_C_SRC_DUTY_OW n) 0) (r.vec.getD (8 + s.fld F.GATE_C_SRC_ANG_OW n) 0)
        (decide (r.status = wsCommitted))
    else s
  | none => s

/-- Deliver a commit's records to the GOOSE engine and the gate channels whose bits are resolved at this edge (R204, R226, R263, R298). -/
def deliver (s : State) (g : Nat) (c : RallyPend) (shared : Bool) : State :=
  (List.range gateChans).foldl (fun s n => deliverGate s c shared n) (gooseEvaluate s g c shared)

/-- Make the resolution of a commit at this edge (R298, R302). -/
def resolveCommit (s : State) (g : Nat) (c : RallyPend) : State :=
  let es := if c.aligned then c.got else none
  let (fell, s) := c.recs.foldl (fun (acc : Bool × State) r =>
    let e := es.bind fun l => l.find? fun e => e.part = r.part
    let (f, s) := resolveShared acc.2 r e (fpDiffers r (if c.aligned then c.pfp else none))
    (acc.1 || f, s)) (false, s)
  let s := if fell && c.aligned then s.count C.TWIN_G_FALLBACK_WINDOWS g else s
  let s := match es with
    | some l => classifyAll s c l
    | none => s
  let d := (s.time.sys - c.edge) % 2 ^ 32
  let s := (s.setFld F.TWIN_G_RLAST_RLAST d g).setFld F.TWIN_G_RMAX_RMAX (max d (s.fld F.TWIN_G_RMAX_RMAX g)) g
  deliver s g c true

/-- Replace a waiting commit by its window number and edge. -/
def setPend (s : State) (g : Nat) (c : RallyPend) : State :=
  let v := s.rgrp g
  s.setRgrp g { v with pend := v.pend.map fun x => if x.n = c.n && x.edge = c.edge then c else x }

/-- The deadline of a commit (R298). -/
def rallyDeadline (s : State) (c : RallyPend) : Nat := c.edge + min 200000 (max 2000 (s.fld F.TWIN_WAIT_RALLY_WAIT))

/-- A matched record has come in time (R297). -/
def inTime (s : State) (g : Nat) (c : RallyPend) : State :=
  let n := s.fld F.TWIN_G_STAT_COUNT g + 1
  if (s.rgrp g).epoch ≠ c.epoch || grpAlign s g = alUnaligned then s
  else if grpAlign s g = alAligned then s.setFld F.TWIN_G_STAT_COUNT 0 g
  else if max 1 (s.fld F.TWIN_LINK_RETURN_N) ≤ n then (s.setFld F.TWIN_G_STAT_ALIGN alAligned g).setFld F.TWIN_G_STAT_COUNT 0 g
  else s.setFld F.TWIN_G_STAT_COUNT n g

/-- A commit's deadline passes with no matched record (R297). -/
def missed (s : State) (g : Nat) (c : RallyPend) : State :=
  let s := s.count C.TWIN_G_MISSING_RECORDS g
  let n := s.fld F.TWIN_G_STAT_COUNT g + 1
  if (s.rgrp g).epoch ≠ c.epoch || grpAlign s g = alUnaligned then s
  else if grpAlign s g = alAligning then s.setFld F.TWIN_G_STAT_COUNT 0 g
  else if max 1 (s.fld F.TWIN_LINK_LATE_MAX) ≤ n then
    rallyUnalign (((s.setFlt F.TWIN_FLT_PARTNER_LATE).count C.TWIN_G_ALIGN_LOSSES g).event blkTwin 0x0904 0 g c.n) g
  else s.setFld F.TWIN_G_STAT_COUNT (min 255 n) g

/-- Close a commit at its deadline: what is unresolved is resolved then (R298). -/
def closePend (s : State) (g : Nat) (c : RallyPend) : State :=
  let s := setPend s g { c with resolved := true, closed := true }
  let s := if c.resolved then s else resolveCommit s g c
  if c.got.isNone then missed s g c else s

/-- The words of a COMMIT frame (R292, R293). -/
def commitWords (g : Nat) (c : RallyPend) : List Nat :=
  let es := c.recs.filter fun r => decide (r.status ≠ wsNotRun)
  [g * 2 ^ 24 + es.length, c.n, c.ns / 1000000000 % 2 ^ 32, tqNs c.tq c.ns]
    ++ es.flatMap fun r => [r.part * 2 ^ 24 + r.status * 2 ^ 16, wordDigest r.vec] ++ r.vec.take 8

/-- The commits and records that a group keeps. -/
def rallyKeep : Nat := 64

/-- A commit of the DX512's own window reaches Rally at the commit edge: OWN bits, the COMMIT frame, and the resolution, at once unless
the group is ALIGNED and its matched record has still to come (R297, R298). -/
def rallyCommit (s : State) (g : Nat) (c : RallyPend) : State :=
  let s := c.recs.foldl resolveOwn s
  let c : RallyPend := { c with recs := c.recs.map fun r => { r with ob := sparseGet 0 s.twin.resolved r.part } }
  let s := sendRally (deliver s g c false) rfCommit (commitWords g c)
  if grpAlign s g = alUnaligned || pairState s ≠ prPaired then resolveCommit s g { c with aligned := false }
  else
    let v := s.rgrp g
    let pn := (c.n + s.fld F.TWIN_G_DN_DN g) % 2 ^ 32
    let find {α : Type} (l : List (Nat × α)) : Option α := (l.find? fun e => e.1 = pn).map Prod.snd
    let al := decide (grpAlign s g = alAligned)
    let got := find v.peers
    let now := !al || got.isSome
    let c : RallyPend := { c with pn := pn, aligned := al, epoch := v.epoch, resolved := now, closed := false, got := got, pfp := find v.prints }
    let l := v.pend ++ [c]
    let s := s.setRgrp g { v with pend := if rallyKeep < l.length then l.drop 1 else l }
    let s := if got.isSome then inTime (s.count C.TWIN_G_RECORDS g) g c else s
    if now then resolveCommit s g c else s

/-- RALLY_RESOLVE: the oldest commit of a group whose deadline has passed is closed and, if it still waits, resolved. -/
def rallyResolve (s : State) (g : Nat) : State :=
  match (s.rgrp g).pend.find? fun c => !c.closed && decide (rallyDeadline s c ≤ s.time.sys) with
  | some c => closePend s g c
  | none => s

def execRallyResolve (g : Nat) (s : State) : Host.Outcome State Fault Refusal := .next (s.live fun s => rallyResolve s g)

/-- Every resolution that waits is made at this edge with the records already accepted (R299). -/
def resolveWaiting (s : State) : State :=
  (List.range 8).foldl (fun s g =>
    (s.rgrp g).pend.foldl (fun s c =>
      if c.closed then s
      else
        let s := setPend s g { c with resolved := true, closed := true }
        if c.resolved then s else resolveCommit s g c) s) s

/-! ## Pair states (R291, R294) -/

/-- Stop the wake frames. -/
def wakeStop (s : State) : State := { s with twin := { s.twin with wakeAt := none } }

/-- Enter a pair state. -/
def setPair (s : State) (new : Nat) : State :=
  let old := pairState s
  if old = new then s
  else
    let s := (s.setFld F.TWIN_STAT_PAIR new).event blkTwin 0x0901 0 old new
    let s := { s with twin := { s.twin with lastRx := s.time.sys } }
    let s := if new ≤ prAlone then { resolveWaiting s with twin := { (resolveWaiting s).twin with rxRef := none } } else s
    let s := if old = prPaired then
        let s := s.setFlag F.TWIN_STAT_YIELDED false
        { s with twin := { s.twin with sendPart := 1, sendImg := none, refusals := 0, rxImg := none } }
      else s
    let s := if new = prPaired then s else (List.range 8).foldl rallyUnalign s
    let s := if new = prProbe then { s with twin := { s.twin with probeLogged := false } } else s
    let s := if new = prOff then { s with twin := { s.twin with out := [] } } else s
    if new = prPaired then decideRole (wakeStop s) else setRole s true

/-- The pair falls back to ALONE (R294). -/
def pairLost (s : State) : State := setPair ((s.setFlt F.TWIN_FLT_LINK_LOST).count C.TWIN_LINK_LOSSES) prAlone

/-- The words of a HELLO (R292). -/
def helloWords (s : State) : List Nat :=
  let cur (g : Nat) : Option LaneWin := (s.grp g).cur
  let win := ((List.range 8).map fun g => if (cur g).isSome then 2 ^ g else 0).foldl (· + ·) 0
  let c (f : Fld) (b : Nat) : Nat := s.fld f * 2 ^ b
  [s.fld F.TWIN_OWN_TAG_VAL, s.fld F.TWIN_BUNDLE_TAG_VAL,
   c F.TWIN_CTRL_LEAD_PRI 28 + c F.TWIN_STAT_LEADER 27 + c F.TWIN_STAT_YIELDED 26 + c F.TWIN_CTRL_XFER_REQ 25 + c F.TWIN_CTRL_XFER_EN 24
     + c F.TWIN_CTRL_ACCEPT_RST 23 + win * 256 + s.fld F.TIDE_CTRL_GEN, 0]
  ++ (List.range 8).flatMap fun g =>
    match cur g with
    | some w => [w.n, w.start / 65536 / 1000000000 % 2 ^ 32, tqNs w.tq (w.start / 65536)]
    | none => [0, 0, 0]

def sendHello (s : State) : State := sendRally s rfHello (helloWords s)

/-- The interval of HELLO in SYS cycles. -/
def helloCycles : Nat := 50000

/-- HELLO_TX: the HELLO that falls due every 50 µs is sent. -/
def helloTx (s : State) : State :=
  if pairState s = prOff || s.time.sys < s.twin.helloAt then s
  else sendHello { s with twin := { s.twin with helloAt := s.twin.helloAt + helloCycles } }

def execHelloTx (s : State) : Host.Outcome State Fault Refusal := .next (s.live fun s => helloTx s)

/-- TWIN_ENABLE: EN written 1 enters ALONE, or is refused with TWIN_SOLO (R288, R294). -/
def twinEnable (s : State) : State :=
  if s.flag F.TWIN_CTRL_EN || s.recovering then s
  else if s.twin.solo then s.setFlt F.TWIN_FLT_CFG_ERR
  else
    let until_ := s.time.sys + s.fld F.TWIN_XFER_XFER_TIMEOUT * 1000000
    let done := (s.twin.join.map JoinSt.done).getD []
    let naks := (s.twin.join.map JoinSt.naks).getD []
    let s := s.setFlag F.TWIN_CTRL_EN true
    let s := { s with twin := { s.twin with txSeq := 0, helloAt := s.time.sys + helloCycles,
                                            join := some { until_ := until_, ended := false, done := done, naks := naks } } }
    sendHello (setPair (joinSettle s) prAlone)

/-- TWIN_ENABLE as a command: with TWIN_CTRL.LOCK set a change of EN is a lock violation (R312). -/
def twinEnableRow (s : State) : State := if s.flag F.TWIN_CTRL_LOCK && !s.flag F.TWIN_CTRL_EN then s.rowLocked 9 0 1 else twinEnable s

def execTwinEnable (s : State) : Host.Outcome State Fault Refusal := .next (s.live fun s => twinEnableRow s)

/-- TWIN_DISABLE: EN written 0 enters OFF. -/
def twinDisable (s : State) : State :=
  if !s.flag F.TWIN_CTRL_EN then s else setPair (s.setFlag F.TWIN_CTRL_EN false) prOff

/-- TWIN_DISABLE as a command: with TWIN_CTRL.LOCK set a change of EN is a lock violation (R312). -/
def twinDisableRow (s : State) : State := if s.flag F.TWIN_CTRL_LOCK && s.flag F.TWIN_CTRL_EN then s.rowLocked 9 0 0 else twinDisable s

def execTwinDisable (s : State) : Host.Outcome State Fault Refusal := .next (s.live fun s => twinDisableRow s)

/-! ## Lanes (R287, R288) -/

/-- The lanes that are up: block lock and LANE_EN, none with TWIN_SOLO or in RECOVERY. A lane that comes up sends a HELLO at once; with none up the
pair falls to ALONE. -/
def laneRefresh (s : State) : State :=
  let was := s.fld F.TWIN_STAT_LANE_UP
  let up := if s.twin.solo || s.recovering then 0 else s.twin.locks &&& s.fld F.TWIN_CTRL_LANE_EN
  let s := s.setFld F.TWIN_STAT_LANE_UP up
  if up = 0 && (pairState s = prProbe || pairState s = prPaired) then pairLost s
  else if up &&& (3 - was) ≠ 0 then sendHello s else s

/-- TWIN_LANE_DOWN: a lane's receiver loses block lock or sees hi_ber. -/
def twinLaneDown (s : State) (lane : Nat) : State :=
  if 2 ≤ lane then s
  else
    let s := if bitOf (s.fld F.TWIN_STAT_LANE_UP) lane then (s.setFlt F.TWIN_FLT_LANE_LOST).count C.TWIN_LANE_LOSSES else s
    laneRefresh { s with twin := { s.twin with locks := s.twin.locks &&& (3 - 2 ^ lane) } }

def execTwinLaneDown (lane : Nat) (s : State) : Host.Outcome State Fault Refusal := .next (s.live fun s => twinLaneDown s lane)

/-- TWIN_LANE_UP: a lane's receiver has block lock and hi_ber is false. -/
def twinLaneUp (s : State) (lane : Nat) : State :=
  if 2 ≤ lane then s else laneRefresh { s with twin := { s.twin with locks := s.twin.locks ||| 2 ^ lane } }

def execTwinLaneUp (lane : Nat) (s : State) : Host.Outcome State Fault Refusal := .next (s.live fun s => twinLaneUp s lane)

/-! ## Reception (R291) -/

/-- A copy is discarded and counted in CRC_ERR of its lane. -/
def crcErr (s : State) (lane : Nat) (ownSide : Bool) : State :=
  let s := (s.count (if lane = 0 then C.TWIN_CRC_ERR_0 else C.TWIN_CRC_ERR_1)).setFlt F.TWIN_FLT_CRC_ERR
  if ownSide then s.setFlt F.TWIN_FLT_PEER_ERR else s

/-- RALLY_COPY_DISCARD: a received copy fails a check of R291 or R553. -/
def execRallyCopyDiscard (lane : Nat) (ownSide : Bool) (s : State) : Host.Outcome State Fault Refusal :=
  .next (s.live fun s => crcErr s lane ownSide)

/-- Judge a copy that passed its checks by its SIDE and SEQ: whether it is accepted. -/
def rallyAccept (s : State) (h : RallyHdr) (hello : Bool) : Bool × State :=
  let st := pairState s
  let ok (s : State) (ref : Option Nat) : Bool × State :=
    (true, ({ s with twin := { s.twin with lastRx := s.time.sys, rxRef := ref } }).count C.TWIN_FRAMES_RX)
  if h.side = s.twin.sideB && !(hello && (st = prAlone || st = prProbe)) then (false, crcErr s h.lane true)
  else match s.twin.rxRef with
    | none =>
      if hello then ok s (if st = prOff then none else some h.seq) else (false, s.count C.TWIN_DUP_DISCARD)
    | some r =>
      let d := (h.seq + 2 ^ 32 - r) % 2 ^ 32
      if 1 ≤ d && d < 2 ^ 31 then ok s (some h.seq) else (false, s.count C.TWIN_DUP_DISCARD)

/-- What an accepted copy does. -/
def onCopy (s : State) (h : RallyHdr) (hello : Bool) (f : State → State) : State :=
  match rallyAccept s h hello with
  | (true, s) => f s
  | (false, s) => s

/-- The alignment calculation of a group at an accepted HELLO (R297). -/
def alignGroup (s : State) (w : List Nat) (g : Nat) : State :=
  let p2 := w.getD 2 0
  if !grpEn s g || !bitOf p2 g then rallyUnalign s g
  else if grpAlign s g ≠ alUnaligned || !bitOf p2 (8 + g) then s
  else match (s.grp g).cur with
    | none => s
    | some c =>
      let osec := c.start / 65536 / 1000000000
      let psec : Int := (osec : Int) + signed 32 (w.getD (5 + 3 * g) 0 + 2 ^ 32 - osec % 2 ^ 32)
      let pstart : Int := (psec * 1000000000 + (w.getD (6 + 3 * g) 0 % 2 ^ 30 : Nat)) * 65536
      let len := c.stop - c.start
      let d : Int := (c.start / 65536 * 65536 : Nat) - pstart
      let k := divRoundEven d (max 1 len)
      let r := absI (d - k * len)
      if 4 * r < len then
        let dn := (w.getD (4 + 3 * g) 0 : Int) + k - c.n
        ((s.setSfld F.TWIN_G_DN_DN dn g).setFld F.TWIN_G_STAT_ALIGN alAligning g).setFld F.TWIN_G_STAT_COUNT 0 g
      else s.setFlt F.TWIN_FLT_ALIGN_ERR

/-- The HELLO checks of R294: 0 when they pass, 1 for a bundle tag that differs, 2 otherwise. -/
def helloCheck (s : State) (h : RallyHdr) (w : List Nat) : Nat :=
  let peer := s.fld F.TWIN_PEER_VAL
  if w.getD 1 0 ≠ s.fld F.TWIN_BUNDLE_TAG_VAL then 1
  else if (peer ≠ 0 && w.getD 0 0 ≠ peer) || h.side = s.twin.sideB then 2 else 0

/-- HELLO_RX: an accepted HELLO moves the pair towards PAIRED, decides the leader and may align groups (R294 to R297). -/
def helloRx (s : State) (h : RallyHdr) (w : List Nat) : State :=
  onCopy s h true fun s =>
    if pairState s = prOff then s
    else
      let s := if pairState s = prAlone then
          let r := s.twin.rxRef
          let s := setPair s prProbe
          { s with twin := { s.twin with rxRef := r } }
        else s
      let p2 := w.getD 2 0
      let s := { s with twin := { s.twin with peerTag := w.getD 0 0, peerPri := bitsOf p2 31 28, peerYielded := bitOf p2 26,
                                              peerXfer := bitOf p2 25, peerGen := p2 % 256 } }
      let bad := helloCheck s h w
      if pairState s = prProbe && bad ≠ 0 then
        let s := s.setFlt (if bad = 1 then F.TWIN_FLT_CFG_MISMATCH else F.TWIN_FLT_PEER_ERR)
        if s.twin.probeLogged then s
        else ({ s with twin := { s.twin with probeLogged := true } }).event blkTwin 0x0903 0 bad (w.getD 0 0) (w.getD 1 0)
      else
        let s := if pairState s = prProbe then setPair s prPaired else decideRole s
        (List.range 8).foldl (fun s g => alignGroup s w g) s

def execHelloRx (h : RallyHdr) (w : List Nat) (s : State) : Host.Outcome State Fault Refusal := .next (s.live fun s => helloRx s h w)

/-- The entries of a payload of `n` words each, after its first words. -/
def rallyEntries (w : List Nat) (skip n count : Nat) : List (List Nat) :=
  (List.range count).map fun i => (w.drop (skip + n * i)).take n

/-- FPRINT_RX: the partner's fingerprints of one of its windows. -/
def fprintRx (s : State) (h : RallyHdr) (w : List Nat) : State :=
  onCopy s h false fun s =>
    let f0 := w.getD 0 0
    let g := bitsOf f0 26 24
    let es := (rallyEntries w 2 3 (f0 % 256)).map fun e => (bitsOf (e.getD 0 0) 30 24, e)
    let v := s.rgrp g
    s.setRgrp g { v with prints := ((w.getD 1 0, es) :: v.prints).take rallyKeep }

def execFprintRx (h : RallyHdr) (w : List Nat) (s : State) : Host.Outcome State Fault Refusal := .next (s.live fun s => fprintRx s h w)

/-- The entries of a COMMIT frame. -/
def peerRecs (w : List Nat) : List PeerRec :=
  (rallyEntries w 4 10 (w.getD 0 0 % 256)).map fun e =>
    { part := bitsOf (e.getD 0 0) 30 24, status := bitsOf (e.getD 0 0) 18 16, digest := e.getD 1 0, ob := vecBits (e.drop 2) }

/-- COMMIT_RX: the partner's record resolves the matched window when that still waits for it; one accepted after its deadline is still
classed and counted (R298, R303). -/
def commitRx (s : State) (h : RallyHdr) (w : List Nat) : State :=
  onCopy s h false fun s =>
    let g := bitsOf (w.getD 0 0) 26 24
    let pn := w.getD 1 0
    let es := peerRecs w
    let v := s.rgrp g
    let s := s.setRgrp g { v with peers := ((pn, es) :: v.peers).take rallyKeep }
    let late (c : RallyPend) : Bool := !c.closed && decide (rallyDeadline s c < s.time.sys)
    let s := match (s.rgrp g).pend.find? fun c => c.pn = pn && c.got.isNone && late c with
      | some c => closePend s g c
      | none => s
    match (s.rgrp g).pend.find? fun c => c.pn = pn && c.got.isNone with
    | none => s
    | some c =>
      let c' : RallyPend := { c with got := some es }
      let s := setPend (s.count C.TWIN_G_RECORDS g) g { c' with resolved := true }
      if c.closed then
        let s := s.count C.TWIN_G_LATE_RECORDS g
        if c.aligned then classifyAll s c' es else s
      else
        let s := inTime s g c
        if c.resolved then s else resolveCommit s g c'

def execCommitRx (h : RallyHdr) (w : List Nat) (s : State) : Host.Outcome State Fault Refusal := .next (s.live fun s => commitRx s h w)

/-- GSEQ_RX: the numbers of LEADER blocks (R238, R305). -/
def gseqRx (s : State) (h : RallyHdr) (w : List Nat) : State :=
  onCopy s h false fun s =>
    (rallyEntries w 1 3 (w.getD 0 0 % 256)).foldl (fun s e => gooseGseqRx s (e.getD 0 0 % 512) (e.getD 1 0) (e.getD 2 0)) s

def execGseqRx (h : RallyHdr) (w : List Nat) (s : State) : Host.Outcome State Fault Refusal := .next (s.live fun s => gseqRx s h w)

/-- YIELD_RX: the partner gives up the lead (R296). -/
def yieldRx (s : State) (h : RallyHdr) : State :=
  onCopy s h false fun s =>
    let s := { s with twin := { s.twin with peerYielded := true } }
    if pairState s = prPaired then setRole s true else s

def execYieldRx (h : RallyHdr) (s : State) : Host.Outcome State Fault Refusal := .next (s.live fun s => yieldRx s h)

/-- PAIR_LINK_TIMEOUT: no lane is up, or no copy has been accepted for HELLO_LOSS × 50 µs (R294). -/
def pairLinkTimeout (s : State) : State :=
  let st := pairState s
  let quiet := s.twin.lastRx + max 2 (s.fld F.TWIN_LINK_HELLO_LOSS) * helloCycles ≤ s.time.sys
  if (st = prProbe || st = prPaired) && (s.fld F.TWIN_STAT_LANE_UP = 0 || quiet) then pairLost s else s

def execPairLinkTimeout (s : State) : Host.Outcome State Fault Refusal := .next (s.live fun s => pairLinkTimeout s)

/-! ## Commands of TWIN_CMD -/

def twinRefuse (s : State) : State := s.setFlt F.TWIN_FLT_CMD_REFUSED

/-- YIELD: accepted only by a leader that is PAIRED (R296). -/
def twinYield (s : State) : State :=
  if pairState s ≠ prPaired || !isLeader s then twinRefuse s
  else sendCtrl (setRole (s.setFlag F.TWIN_STAT_YIELDED true) false) 1 0

def execYield (s : State) : Host.Outcome State Fault Refusal := .next (s.live fun s => twinYield s)

/-- REALIGN: a group returns to UNALIGNED (R297). -/
def execRealign (g : Nat) (s : State) : Host.Outcome State Fault Refusal := .next (s.live fun s => if 8 ≤ g then s else rallyUnalign s g)

/-- CLR_RMAX: RMAX of a group is cleared. -/
def execClrRmax (g : Nat) (s : State) : Host.Outcome State Fault Refusal :=
  .next (s.live fun s => if 8 ≤ g then s else s.setFld F.TWIN_G_RMAX_RMAX 0 g)

/-- Start a wake episode, unless one runs (R310). -/
def wakeStart (s : State) : State :=
  if s.twin.wakeAt.isSome then s
  else
    let end_ := s.time.sys + max 1 (s.fld F.TWIN_WAKE_WAKE_TIMEOUT) * 1000000
    ({ s with twin := { s.twin with wakeAt := some (s.time.sys + 1), wakeEnd := end_ } }).count C.TWIN_WAKES

/-- WAKE: refused while PAIRED. -/
def execWake (s : State) : Host.Outcome State Fault Refusal :=
  .next (s.live fun s => if pairState s = prPaired then twinRefuse s else wakeStart s)

/-- The wake frame (R310). -/
def wakeFrame (s : State) (p : Nat) : Frame :=
  { dst := s.fld F.TWIN_WAKE_DA_HI_DA * 2 ^ 32 + s.fld F.TWIN_WAKE_DA_LO_DA, src := portSa s p, tag := none, hsr := none, etype := 0x88B5,
    payload := .raw ([0x52, 0x41, 0x4C, 0x59] ++ octetsBE 4 (s.fld F.TWIN_PEER_VAL) ++ List.replicate 38 0), prp := [], len := 64 }

/-- WAKE_FRAME_TX: the wake frame that falls due every 1 ms is sent from WAKE_PORT. -/
def wakeFrameTx (s : State) : State :=
  match s.twin.wakeAt with
  | none => s
  | some e =>
    if s.time.sys < e then s
    else
      let p := s.fld F.TWIN_WAKE_WAKE_PORT
      let s := { s with twin := { s.twin with wakeAt := some (e + 1000000) } }
      if oobReady s p then sendOob s p (.wake (wakeFrame s p)) else s

def execWakeFrameTx (s : State) : Host.Outcome State Fault Refusal := .next (s.live fun s => wakeFrameTx s)

/-- WAKE_TIMEOUT: the wake frames end without a pair. -/
def wakeTimeout (s : State) : State :=
  if s.twin.wakeAt.isNone || s.time.sys < s.twin.wakeEnd then s
  else ((wakeStop s).setFlt F.TWIN_FLT_WAKE_TIMEOUT).event blkTwin 0x0906 0 (s.fld F.TWIN_WAKE_WAKE_PORT)

def execWakeTimeout (s : State) : Host.Outcome State Fault Refusal := .next (s.live fun s => wakeTimeout s)

/-- RESET_PARTNER: refused while not PAIRED (R311). -/
def execResetPartner (s : State) : Host.Outcome State Fault Refusal :=
  .next (s.live fun s => if pairState s ≠ prPaired then twinRefuse s else sendCtrl (s.count C.TWIN_RESET_REQ_TX) 2 0)

/-- RESET_REQ_RX: acted on with ACCEPT_RST from 10 s after reset release, and refused otherwise (R311). -/
def resetReqRx (s : State) (h : RallyHdr) : State :=
  onCopy s h false fun s =>
    let s := s.count C.TWIN_RESET_REQ_RX
    if s.flag F.TWIN_CTRL_ACCEPT_RST && 10000000000 ≤ s.time.sys then
      let s := s.event blkTwin 0x0907 0 s.twin.peerTag
      { s with twin := { s.twin with resetAt := some (s.twin.resetAt.getD (s.time.sys + 10000)) } }
    else sendCtrl ((s.setFlt F.TWIN_FLT_RESET_REFUSED).count C.TWIN_RESET_REFUSED) 3 0

def execResetReqRx (h : RallyHdr) (s : State) : Host.Outcome State Fault Refusal := .next (s.live fun s => resetReqRx s h)

/-- RESET_NAK_RX: the partner refused. -/
def execResetNakRx (h : RallyHdr) (s : State) : Host.Outcome State Fault Refusal :=
  .next (s.live fun s => onCopy s h false fun s => s.setFlt F.TWIN_FLT_RESET_REFUSED)

/-! ## Images (R306 to R309) -/

/-- XFER_TIMEOUT: every partition not yet installed is released with zeroed banks (R306). -/
def xferTimeout (s : State) : State :=
  match s.twin.join with
  | none => s
  | some j =>
    if j.ended || !s.flag F.TWIN_CTRL_XFER_REQ || s.time.sys < j.until_ then s
    else
      let ended := (List.range 8).any fun g => grpEn s g && (groupSlots s g).any fun (n, k) => !j.done.contains (slotPart s n k)
      let s := { s with twin := { s.twin with join := some { j with ended := true, done := List.range 128 }, rxImg := none, images := [] } }
      joinSettle (if ended then s.setFlt F.TWIN_FLT_XFER_FAIL else s)

def execXferTimeout (s : State) : Host.Outcome State Fault Refusal := .next (s.live fun s => xferTimeout s)

/-- The length of a partition's image (R307). -/
def imageLen (s : State) (p : Nat) : Option Nat :=
  (slotOf s p).map fun (n, j) => 288 + slotStateSize s n j * 1024

/-- May the twin send an image of a partition: XFER_EN, PAIRED, the partner asks for images and the partition's group is ALIGNED (R307)? -/
def xferOpen (s : State) (p : Nat) : Bool :=
  s.flag F.TWIN_CTRL_XFER_EN && decide (pairState s = prPaired) && s.twin.peerXfer && (groupOf s p).any fun g => grpAlign s g = alAligned

/-- XFER_FRAME_TX: the next frame of the image being sent, at most 1,024 octets of it (R307). -/
def xferFrameTx (s : State) : State :=
  match s.twin.sendImg with
  | none => s
  | some i =>
    if !xferOpen s i.part || i.data.length ≤ i.pos then s
    else
      let chunk := (i.data.drop i.pos).take 1024
      let last := decide (i.data.length ≤ i.pos + 1024)
      let words := (List.range (chunk.length / 4)).map fun k => ofOctetsBE ((chunk.drop (4 * k)).take 4)
      let s := { s with twin := { s.twin with sendImg := some { i with pos := i.pos + chunk.length } } }
      sendRally s rfXfer ([i.part * 2 ^ 24 + ofBit last, i.n, i.pos, if last then crc32c i.data else 0] ++ words)

def execXferFrameTx (s : State) : Host.Outcome State Fault Refusal := .next (s.live fun s => xferFrameTx s)

/-- An image of a partition is refused; after three refusals the partition is released with zeroed banks, as at XFER_TIMEOUT (R306, R309). -/
def xferRefuse (s : State) (p : Nat) : State :=
  let s := sendCtrl s 5 p
  match s.twin.join with
  | none => s
  | some j =>
    let n := sparseGet 0 j.naks p + 1
    let done := if n < 3 then j.done else p :: j.done
    let s := { s with twin := { s.twin with join := some { j with naks := sparseSet 0 j.naks p n, done := done } } }
    if n < 3 then s else joinSettle (s.setFlt F.TWIN_FLT_XFER_FAIL)

/-- A complete image that passes its CRC and fits waits for its installation; another is refused (R308, R309). -/
def xferComplete (s : State) (p crc : Nat) (img : Option XferImg) : State :=
  let s := { s with twin := { s.twin with rxImg := none } }
  match img with
  | some i =>
    if crc32c i.data = crc && imageLen s p = some i.data.length then { s with twin := { s.twin with images := sparsePut p i s.twin.images } }
    else xferRefuse s p
  | none => xferRefuse s p

/-- XFER_RX: part of an image. -/
def xferRx (s : State) (h : RallyHdr) (w : List Nat) : State :=
  onCopy s h false fun s =>
    let p := bitsOf (w.getD 0 0) 30 24
    let off := w.getD 2 0
    let data := (w.drop 4).flatMap (octetsBE 4)
    if !joinHeld s p then s
    else
      let img : Option XferImg :=
        if off = 0 then some { part := p, n := w.getD 1 0, data := data, pos := 0 }
        else match s.twin.rxImg with
          | some i => if i.part = p && i.data.length = off then some { i with data := i.data ++ data } else none
          | none => none
      if !bitOf (w.getD 0 0) 0 then { s with twin := { s.twin with rxImg := img } } else xferComplete s p (w.getD 3 0) img

def execXferRx (h : RallyHdr) (w : List Nat) (s : State) : Host.Outcome State Fault Refusal := .next (s.live fun s => xferRx s h w)

/-- The sender goes on to the partition after `p`. -/
def xferNext (s : State) (p : Nat) : State := { s with twin := { s.twin with sendImg := none, refusals := 0, sendPart := p + 1 } }

/-- XFER_ACK_RX: the partner has installed the image. -/
def xferAckRx (s : State) (h : RallyHdr) (p : Nat) : State :=
  onCopy s h false fun s => if (s.twin.sendImg.any fun i => i.part = p) then xferNext s p else s

def execXferAckRx (h : RallyHdr) (p : Nat) (s : State) : Host.Outcome State Fault Refusal := .next (s.live fun s => xferAckRx s h p)

/-- XFER_NAK_RX: a new image is taken at a later commit; after three refusals the sender goes on (R309). -/
def xferNakRx (s : State) (h : RallyHdr) (p : Nat) : State :=
  onCopy s h false fun s =>
    if !(s.twin.sendImg.any fun i => i.part = p) then s
    else if 2 ≤ s.twin.refusals then xferNext s p
    else { s with twin := { s.twin with sendImg := none, refusals := s.twin.refusals + 1 } }

def execXferNakRx (h : RallyHdr) (p : Nat) (s : State) : Host.Outcome State Fault Refusal := .next (s.live fun s => xferNakRx s h p)

/-! ## Fingerprints (R153, R292) -/

/-- Send the FPRINT frame of a window once its last fingerprint is complete. -/
def rallyPrints (s : State) (g w : Nat) : State :=
  let ps := ((groupSlots s g).filter fun (t, j) => slotRuns s t j w).map fun (t, j) => slotPart s t j
  let has (p : Nat) : Option (List Nat) := (s.fps p).find? fun f => f.getD 0 0 = w
  let sorted := (List.range 128).filter ps.contains
  if sorted.all fun p => (has p).isSome then
    sendRally s rfFprint ([g * 2 ^ 24 + sorted.length, w] ++ sorted.flatMap fun p => ((has p).getD []).drop 1)
  else s

/-- FINGERPRINT_COMPLETE: the fingerprint of a window is stored and handed to Rally. -/
def fingerprintHand (s : State) (p : Nat) : State :=
  let old := (s.fps p).head?
  let s := fingerprintComplete s p
  match (s.fps p).head?, groupOf s p with
  | some f, some g => if old = some f then s else rallyPrints s g (f.getD 0 0)
  | _, _ => s

def execFingerprintComplete (p : Nat) (s : State) : Host.Outcome State Fault Refusal := .next (s.live fun s => fingerprintHand s p)

end Sys2Proof.Machine
end

