-- ==== Sys2Proof/Machine/Drec.lean ====
section
/-! DEFINITION. The disturbance recorder (chapter 10). -/

namespace Sys2Proof.Machine

/-! ## Configuration (R317, R318) -/

def mib : Nat := 2 ^ 20

def drecWords (s : State) : Nat := (drecNb s + 31) / 32
def drecRed (s : State) : Bool := s.flag F.DREC_RED_RED_EN
def drecGroup (s : State) : Nat := s.fld F.DREC_RED_RGROUP

/-- TB and WB: the lengths of a T-record and of a W-record. -/
def drecTb (s : State) : Nat := 16 + 8 * drecNa s + 4 * drecWords s
def drecWb (s : State) : Nat := if drecRed s then 32 + 28 * drecNa s + 8 * drecWords s else 0

/-- SLOT in octets (R317). -/
def slotLen (s : State) : Nat :=
  let n := s.fld F.DREC_NSEG_NSEG
  if n = 0 then 0 else (s.fld F.DREC_CARVE_SIZE_VAL - 1) * mib / n / 4096 * 4096

/-- C of R318. -/
def drecCap (s : State) : Nat :=
  let tb := drecTb s
  let wb := drecWb s
  let g := drecGroup s
  min 16777215 ((slotLen s - 4096 - wb) * 1440000 / (tb * 1440000 + wb * fmax100 s g * wpc s g))

/-- Has a binary channel a field outside the ranges of R315? -/
def binBad (s : State) (b : Nat) : Bool :=
  let a := s.fld F.DREC_B_SRC_A b
  let f := s.fld F.DREC_B_SRC_B b
  match s.fld F.DREC_B_SRC_KIND b with
  | 0 => decide (a = 0) || decide (127 < a)
  | 1 => decide (31 < f)
  | 2 => decide (7 < a) || decide (5 < f)
  | _ => decide (27 < a) || (decide (a < 24) && decide (2 < f)) || (decide (24 ≤ a) && decide (f ≠ 0))

/-- The checks of R331 that set CFG_ERR. -/
def drecCfgBad (s : State) : Bool :=
  let na := drecNa s
  let nb := drecNb s
  let n := s.fld F.DREC_NSEG_NSEG
  let size := s.fld F.DREC_CARVE_SIZE_VAL
  (decide (na = 0) && decide (nb = 0)) || decide (2048 < na) || decide (4096 < nb) || decide (n = 0) || decide (4096 < n)
    || decide (size = 0) || decide (24576 < size) || decide (lpddrSize s < (s.fld F.DREC_CARVE_BASE_VAL + size) * mib)
    || ((List.range nb).any fun b => binBad s b) || (drecRed s && !grpEn s (drecGroup s)) || decide (drecCap s = 0)

/-- What DREC_CAP and DREC_SLOT read: 0 when the configuration fails R331. -/
def drecCapReg (s : State) : Nat := if drecCfgBad s then 0 else drecCap s
def drecSlotReg (s : State) : Nat := if drecCfgBad s then 0 else slotLen s / 4096


/-- The address of the carve-out and of a slot (R317). -/
def carveBase (s : State) : Nat := lpddrBase + s.fld F.DREC_CARVE_BASE_VAL * mib
def slotAddr (s : State) (k : Nat) : Nat := carveBase s + mib + k * slotLen s

/-- What DREC_G_ADDR reads of a slot, in 4 KiB units: 0 when the configuration fails R331, as at reset (R337). -/
def drecAddrReg (s : State) (k : Nat) : Nat := if drecCfgBad s then 0 else (slotAddr s k - lpddrBase) / 4096

/-- The length of a slot's data area. -/
def dataLen (s : State) : Nat := slotLen s - 4096

/-! ## Writing -/

/-- The octets of words, little-endian. -/
def wordsLE (l : List Nat) : List Nat := l.flatMap fun w => octetsLE 4 w

/-- Octets at an offset of a ring of `d` octets, cut where the ring or a 4 KiB page ends. -/
def ringPieces (d : Nat) : Nat → Nat → List Nat → List (Nat × List Nat)
  | 0, _, _ => []
  | _, _, [] => []
  | k + 1, off, l =>
    let o := off % d
    let n := min (d - o) (4096 - o % 4096)
    (o, l.take n) :: ringPieces d k (off + n) (l.drop n)

/-- Write octets into a ring at an address, with partition tag 0; false when any write was refused (R317, R324). -/
def ringWrite (s : State) (base d off : Nat) (l : List Nat) : Bool × State :=
  (ringPieces d (l.length / 4096 + 3) off l).foldl (fun (acc : Bool × State) (o, x) =>
    let (ok, s) := dmaWrite acc.2 initDrec 0 (base + o) x
    (acc.1 && ok, s)) (true, s)

/-- Write words from an address upward. -/
def wordsWrite (s : State) (a : Nat) (l : List Nat) : Bool × State := ringWrite s a (2 ^ 40) 0 (wordsLE l)

/-- A number where a field of `w` bits has room for it, else a value of which nothing is known. -/
def fitField (s : State) (w v : Nat) : Nat × State :=
  if v < 2 ^ w then (v, s) else let (f, s) := s.takeFree; (f % 2 ^ w, s)

/-! ## Slots (R324) -/

def dsFree : Nat := 0
def dsArmed : Nat := 1
def dsRecording : Nat := 2
def dsFlushing : Nat := 3
def dsDone : Nat := 4

def slotState (s : State) (k : Nat) : Nat := s.fld F.DREC_G_STAT_STATE k
def setSlot (s : State) (k st : Nat) : State := s.setFld F.DREC_G_STAT_STATE st k

/-- The slots in DONE. -/
def doneSlots (s : State) : List Nat := (List.range 4096).filter fun k => slotState s k = dsDone

/-- Is a slot FREE at this edge: one freed at this edge is available from the next? -/
def slotFree (s : State) (k : Nat) : Bool :=
  decide (slotState s k = dsFree) && decide (sparseFind k s.drec.freed ≠ some s.time.sys)

/-- The DONE slot of the lowest SEG_SEQ. -/
def oldestDone (s : State) : Option Nat :=
  ((doneSlots s).filter fun k => decide (k < s.fld F.DREC_NSEG_NSEG)).foldl (fun b k =>
    match b with
    | none => some k
    | some j => if s.fld F.DREC_G_SEQ_SEG_SEQ k < s.fld F.DREC_G_SEQ_SEG_SEQ j then some k else b) none

/-- The next slot, with whether it overwrites a DONE one. -/
def nextSlot (s : State) : Option (Nat × Bool) :=
  let n := s.fld F.DREC_NSEG_NSEG
  let cur := s.fld F.DREC_STAT_CUR
  match ((List.range n).map fun i => (cur + 1 + i) % n).find? (slotFree s) with
  | some k => some (k, false)
  | none => if s.flag F.DREC_CTRL_OVWR then (oldestDone s).map fun k => (k, true) else none

def setDrec (s : State) (st : Nat) : State := s.setFld F.DREC_STAT_STATE st

/-- A slot that is armed anew has the VALID of its header cleared (R324); false where the write is refused. -/
def clearValid (s : State) (k : Nat) : Bool × State :=
  if s.memByte (slotAddr s k + 4) % 2 = 1 then dmaWrite s initDrec 0 (slotAddr s k + 4) [s.memByte (slotAddr s k + 4) - 1]
  else (true, s)

/-- REARM_NS: the time from the previous segment's last tick, free where there is none. -/
def rearmGap (s : State) : Nat × State :=
  if s.drec.prevLast.isSome then fitField s 16 (s.time.sys - s.drec.lastAsm)
  else (s.takeFree.1 % 65536, s.takeFree.2)

/-- Arm a slot: VALID of its header is cleared before its first record (R335), and REARM_NS is the time since the previous segment's last
assembly (R325). -/
def armSlot (s : State) (k : Nat) (overw : Bool) : State :=
  let s := if overw then (s.count C.DREC_OVERWRITES).setFlt F.DREC_FLT_OVERWRITE else s
  let p := clearValid s k
  let q := rearmGap p.2
  let s := (setDrec (setSlot q.2 k dsArmed) drArmed).setFld F.DREC_STAT_CUR k
  { s with drec := { s.drec with arming := false
                                 seg := some { slot := k, ticks := [], next := 0, rearm := q.1, refused := !p.1, trunc := false
                                               trig := none } } }

/-- Go to ARMED with a next slot, or to BLOCKED without one. -/
def armNext (s : State) : State :=
  match nextSlot s with
  | some (k, overw) => armSlot s k overw
  | none => (setDrec { s with drec := { s.drec with seg := none, arming := false } } drBlocked).setFlt F.DREC_FLT_BLOCKED

/-- DREC_NEXT_SLOT_ARMED: the slot after a segment's last tick is armed, or a slot freed while BLOCKED. -/
def nextSlotArmed (s : State) : State :=
  if s.drec.arming then armNext s
  else if drecState s = drBlocked then (match nextSlot s with | some (k, overw) => armSlot s k overw | none => s)
  else s

def execDrecNextSlotArmed (s : State) : Host.Outcome State Fault Refusal := .next (s.live fun s => nextSlotArmed s)

/-! ## Enable and disable -/

/-- The image of a channel's source register. -/
def aSrcImage (s : State) (a : Nat) : Nat := s.fld F.DREC_A_SRC_UNIT a * 2 ^ 16 + s.fld F.DREC_A_SRC_CHAN a
def bSrcImage (s : State) (b : Nat) : Nat := s.fld F.DREC_B_SRC_KIND b * 2 ^ 30 + s.fld F.DREC_B_SRC_A b * 2 ^ 16 + s.fld F.DREC_B_SRC_B b

/-- The configuration record (R332). -/
def configRecord (s : State) : List Nat :=
  [0x44524331, s.fld F.DREC_CONF_TAG_CONF_TAG, drecNa s, drecNb s, s.fld F.DREC_NSEG_NSEG, slotLen s / 4096, drecTb s, drecWb s,
   ofBit (drecRed s) * 2 ^ 31 + drecGroup s, wpc s (drecGroup s), s.fld F.DREC_PRE_VAL, s.fld F.DREC_POST_VAL, drecCap s, 0, 0, 0]
  ++ (List.range (drecNa s)).map (aSrcImage s) ++ (List.range (drecNb s)).map (bSrcImage s)

/-- Words 0 to 11 and the images: the words between are not written. -/
def writeConfig (s : State) : State :=
  let l := configRecord s
  let s := (wordsWrite s (carveBase s) (l.take 13)).2
  (wordsWrite s (carveBase s + 64) (l.drop 16)).2

/-- The number of the 14,400/s instant after now. -/
def tickAfter (t : Nat) : Nat := gridInst 14400 (gridAt 14400 t + 1)

/-- Is POST 0, or do PRE and POST exceed C (R331)? -/
def drecCapBad (s : State) : Bool :=
  decide (s.fld F.DREC_POST_VAL = 0) || decide (drecCap s < s.fld F.DREC_PRE_VAL + s.fld F.DREC_POST_VAL)

/-- DREC_ENABLE: EN written 1 (R324, R331). -/
def drecEnable (s : State) : State :=
  if s.flag F.DREC_CTRL_EN then s
  else if drecCfgBad s || drecCapBad s then
    let t := if drecCfgBad s then s.setFlt F.DREC_FLT_CFG_ERR else s
    if drecCapBad s then t.setFlt F.DREC_FLT_CAP_REFUSED else t
  else
    let lt := ((List.range 8).map (adepth s)).foldl max 0 + 2000
    let s := writeConfig (s.setFlag F.DREC_CTRL_EN true)
    let s := { s with drec := { s.drec with lt := lt, next := some (tickAfter s.devT), pend := [], hist := [], cond := 2 ^ 32 - 1, seen := [],
                                            count := 0, lastAsm := 0, prevLast := none, arming := false, seg := none, steps := [], gap := false, staged := 0 } }
    armNext s

def execDrecEnable (s : State) : Host.Outcome State Fault Refusal := .next (s.live fun s => drecEnable s)

/-- DREC_DISABLE: EN written 0. -/
def drecDisable (s : State) : State :=
  if !s.flag F.DREC_CTRL_EN then s
  else
    let s := setDrec (s.setFlag F.DREC_CTRL_EN false) drOff
    let seg := s.drec.seg
    let s := { s with drec := { s.drec with next := none, pend := [], seg := none, arming := false } }
    match seg with
    | none => s
    | some g =>
      if g.trig.isSome then
        let s := setSlot ((s.count C.DREC_TRUNCATED).setFlt F.DREC_FLT_TRUNC) g.slot dsFlushing
        { s with drec := { s.drec with flush := s.drec.flush ++ [{ g with trunc := true }] } }
      else setSlot s g.slot dsFree

def execDrecDisable (s : State) : Host.Outcome State Fault Refusal := .next (s.live fun s => drecDisable s)

/-- FREE and FREE_ALL (R324). -/
def freeSlot (s : State) (k : Nat) : State :=
  if slotState s k ≠ dsDone then s
  else
    let s := setSlot s k dsFree
    { s with drec := { s.drec with freed := sparsePut k s.time.sys s.drec.freed } }

def drecFree (s : State) : State :=
  let k := s.fld F.DREC_SEL_INDEX
  if s.fld F.DREC_SEL_KIND = 3 && decide (k < s.fld F.DREC_NSEG_NSEG) then freeSlot s k else s

def execFree (s : State) : Host.Outcome State Fault Refusal := .next (s.live fun s => drecFree s)

def execFreeAll (s : State) : Host.Outcome State Fault Refusal := .next (s.live fun s => (doneSlots s).foldl freeSlot s)

/-! ## Trigger units (R320 to R322, R329) -/

def utLevel : Nat := 0
def utRate : Nat := 1
def utEdge : Nat := 2
def utPattern : Nat := 3
def utManual : Nat := 4

def unitEn (s : State) (u : Nat) : Bool := s.flag F.DREC_U_CTL_EN u
def unitType (s : State) (u : Nat) : Nat := s.fld F.DREC_U_CTL_TYPE u
def unitDir (s : State) (u : Nat) : Nat := s.fld F.DREC_U_CTL_DIR u
def unitChan (s : State) (u : Nat) : Nat := s.fld F.DREC_U_CTL_CHAN u

/-- Does a unit fail the checks of R329? -/
def unitBad (s : State) (u : Nat) : Bool :=
  let t := unitType s u
  let c := unitChan s u
  let thr := s.fld F.DREC_U_THR_VAL u
  let hyst := s.fld F.DREC_U_HYST_VAL u
  let rn := s.fld F.DREC_U_RN_RN u
  decide (utManual < t) || (decide (t ≤ utRate) && decide (drecNa s ≤ c)) || (decide (t = utEdge) && decide (drecNb s ≤ c))
    || (decide (t = utPattern) && !s.flag F.DREC_U_CTL_PSRC u && (decide (c % 32 ≠ 0) || decide (drecNb s ≤ c + 31)))
    || (decide (t = utRate) && (decide (rn = 0) || decide (64 < rn)))
    || !fp32.isFin thr || !fp32.isFin hyst || (fp32.neg hyst && !fp32.isZero hyst)
    || (decide (t ≠ utManual) && decide (s.fld F.DREC_U_CTL_OWNER u = 0))

/-- DREC_UNIT_ENABLE: EN of a unit written 1; its condition before its first evaluation counts as true (R321, R329). -/
def unitEnable (s : State) (u : Nat) : State :=
  if 32 ≤ u || unitEn s u then s
  else if unitBad s u then (s.setFlag F.DREC_U_STAT_REFUSED true u).setFlt F.DREC_FLT_UNIT_REFUSED
  else
    let s := s.setFlag F.DREC_U_CTL_EN true u
    { s with drec := { s.drec with cond := s.drec.cond ||| 2 ^ u } }

def execDrecUnitEnable (u : Nat) (s : State) : Host.Outcome State Fault Refusal := .next (s.live fun s => unitEnable s u)

/-- TRIGGER: a MANUAL unit that is enabled fires at the next tick, with the initiator's tag (R320, R322). -/
def drecTrigger (s : State) (u tag : Nat) : State :=
  if 32 ≤ u || !unitEn s u || unitType s u ≠ utManual then s
  else { s with drec := { s.drec with manual := sparsePut u tag s.drec.manual } }

def execTrigger (u tag : Nat) (s : State) : Host.Outcome State Fault Refusal := .next (s.live fun s => drecTrigger s u tag)

/-- The quality of a value that was not released (R314). -/
def notReleased : Nat × Nat := (0, 0xFF040001)

/-- Is a value unusable: validity 0b01 or MISSING? -/
def unusable (q : Nat) : Bool := decide (q % 4 = 1) || bitOf q 18

/-- The number that stands for a recorded value: an infinity is beyond every binary32 number and every difference of two, and a NaN has no stated number. -/
def recValue (v : Nat) : Q :=
  if fp32.isInf v then Q.ofInt (if fp32.neg v then -(2 ^ 200) else 2 ^ 200) else refValue v

/-- The value of a channel as a unit takes it: its magnitude with ABS (R320). -/
def unitValue (s : State) (u v : Nat) : Q := if s.flag F.DREC_U_CTL_ABS u then Q.abs (recValue v) else recValue v

/-- A condition of R320 that turns true beyond THR and false beyond THR and HYST. -/
def hystCond (s : State) (u : Nat) (x : Q) (prev : Bool) : Bool × State :=
  let thr := fp32.toQ (s.fld F.DREC_U_THR_VAL u)
  let hyst := fp32.toQ (s.fld F.DREC_U_HYST_VAL u)
  let pick (on off : Bool) : Bool := if on then true else if off then false else prev
  if unitDir s u = 0 then (pick (Q.lt thr x) (Q.lt x (Q.sub thr hyst)), s)
  else if unitDir s u = 1 then (pick (Q.lt x thr) (Q.lt (Q.add thr hyst) x), s)
  else let (f, s) := s.takeFree; (decide (f % 2 = 1), s)

/-- The condition of a unit at a tick, but for PATTERN over unit conditions: `h` holds this tick and those before it, newest first. The difference of two equal
infinities has no stated value, and the condition is then free. -/
def unitCond (s : State) (u : Nat) (h : List DrecTick) : Bool × State :=
  let t := unitType s u
  let c := unitChan s u
  let prev := bitOf s.drec.cond u
  let at_ (k : Nat) : Nat × Nat := ((h[k]?).map fun x => x.vals.getD c notReleased).getD notReleased
  let (v, q) := at_ 0
  if t = utLevel then
    if s.flag F.DREC_U_CTL_QREJ u && unusable q then (prev, s) else hystCond s u (unitValue s u v) prev
  else if t = utRate then
    let (v', q') := at_ (s.fld F.DREC_U_RN_RN u)
    if s.flag F.DREC_U_CTL_QREJ u && (unusable q || unusable q') then (prev, s)
    else if fp32.isInf v && fp32.isInf v' && !Q.lt (unitValue s u v) (unitValue s u v') && !Q.lt (unitValue s u v') (unitValue s u v) then
      let (f, s) := s.takeFree
      (decide (f % 2 = 1), s)
    else
      let d := Q.sub (unitValue s u v) (unitValue s u v')
      hystCond s u (if s.flag F.DREC_U_CTL_ABS u then Q.abs d else d) prev
  else if t = utEdge then
    let now := ((h[0]?).map fun x => bitOf x.bits c).getD false
    let was := ((h[1]?).map fun x => bitOf x.bits c).getD now
    match unitDir s u with
    | 0 => (now && !was, s)
    | 1 => (!now && was, s)
    | 2 => (now != was, s)
    | _ => let (f, s) := s.takeFree; (decide (f % 2 = 1), s)
  else if t = utManual then ((sparseFind u s.drec.manual).isSome, s)
  else (false, s)

/-- The condition of a PATTERN unit over 32 bits. -/
def patternCond (s : State) (u v : Nat) : Bool × State :=
  let hit := decide ((v ^^^ s.fld F.DREC_U_PAT_VAL u) &&& s.fld F.DREC_U_CARE_VAL u = 0)
  match unitDir s u with
  | 0 => (hit, s)
  | 1 => (!hit, s)
  | _ => let (f, s) := s.takeFree; (decide (f % 2 = 1), s)

/-- The conditions of all units at a tick: PATTERN units see the others' conditions of the same tick, their own bits reading 0. -/
def allConds (s : State) (h : List DrecTick) : Nat × State :=
  let (m, s) := (List.range 32).foldl (fun (acc : Nat × State) u =>
    if unitEn acc.2 u then
      let (c, s) := unitCond acc.2 u h
      (acc.1 + (if c then 2 ^ u else 0), s)
    else acc) (0, s)
  let bits := ((h[0]?).map DrecTick.bits).getD 0
  (List.range 32).foldl (fun (acc : Nat × State) u =>
    if unitEn acc.2 u && unitType acc.2 u = utPattern then
      let v := if acc.2.flag F.DREC_U_CTL_PSRC u then m else bits / 2 ^ unitChan acc.2 u % 2 ^ 32
      let (c, s) := patternCond acc.2 u v
      (acc.1 + (if c then 2 ^ u else 0), s)
    else acc) (m, s)

/-- The units that fire: their condition is true and was false, and their owner is not held (R321, R322). -/
def firedUnits (s : State) (conds : Nat) : List Nat :=
  (List.range 32).filter fun u =>
    unitEn s u && bitOf conds u && !bitOf s.drec.cond u && !partHeld s (s.fld F.DREC_U_CTL_OWNER u)

def unitMask (l : List Nat) : Nat := (l.map fun u => 2 ^ u).foldl (· + ·) 0

/-- The tag that a fire of a unit carries. -/
def fireTag (s : State) (u : Nat) : Nat := (sparseFind u s.drec.manual).getD (s.fld F.DREC_U_CTL_OWNER u)

/-! ## Ticks (R313 to R315) -/

/-- The level of a binary channel's source at this edge (R315). -/
def binLevel (s : State) (b : Nat) : Bool :=
  let a := s.fld F.DREC_B_SRC_A b
  let f := s.fld F.DREC_B_SRC_B b
  match s.fld F.DREC_B_SRC_KIND b with
  | 0 => resolvedBit s a f
  | 1 => bitOf ((gsRecord s a).getD 4 0) f
  | 2 =>
    if f = 0 then s.flag F.TIDE_G_STAT_REF_OK a else if f = 1 then s.flag F.TIDE_G_STAT_FCLAMP a
    else if f = 2 then s.flag F.TIDE_G_STAT_ARMED a else bitOf (s.fld F.TIDE_G_STAT_STATE a) (f - 3)
  | _ =>
    if a < 24 then (if f = 0 then gateOutH s a else if f = 1 then gateOutL s a else decide (gateState s a = gsSafe))
    else s.fbit F.GATE_STAT_SAFE_N (a - 24)

/-- The word of TQ and NS of a time in 2^-16 ns. -/
def tqNsWord (tq t : Nat) : Nat := tq * 2 ^ 30 + t / 65536 % 1000000000

/-- DREC_BINARY_SAMPLE: at the first SYS edge at or after a tick its binary channels are sampled. -/
def binarySample (s : State) : State :=
  match s.drec.next with
  | none => s
  | some g =>
    if s.devT < g then s
    else
      let bits := ((List.range (drecNb s)).map fun b => if binLevel s b then 2 ^ b else 0).foldl (· + ·) 0
      { s with drec := { s.drec with next := some (tickAfter g)
                                     pend := s.drec.pend ++ [{ inst := g, tq := s.fld F.TIME_STAT_TQ, utc := s.time.utcEff, bits := bits }] } }

def execDrecBinarySample (s : State) : Host.Outcome State Fault Refusal := .next (s.live fun s => binarySample s)

/-- The value of an analogue channel at a tick (R314). -/
def tickValue (s : State) (g a : Nat) : Nat × Nat :=
  match (sparseGet [] s.svi.rel (s.fld F.DREC_A_SRC_CHAN a)).find? fun x => decide (x.t ≤ g) with
  | some x => if g < x.t + ratePeriod x.rate then (x.v, x.q) else notReleased
  | none => notReleased

/-! ## Reductions (R316) -/

/-- MIN, MAX, MEAN, RMS, quality, count and position words of an analogue channel over a window's ticks, oldest first. Sums over infinities of both signs have
no stated value. -/
def reduceChan (a : Nat) (ts : List DrecTick) : List Nat :=
  let xs := ts.map fun t => t.vals.getD a notReleased
  let q := xs.foldl (fun (acc : Nat × Nat × Nat) x =>
    (worstValid acc.1 x.2, acc.2.1 ||| (x.2 &&& 0x001F1FFC), max acc.2.2 (x.2 / 2 ^ 24))) (0, 0, 0)
  let qw := q.1 + q.2.1 + q.2.2 * 2 ^ 24
  let ix := ((List.range xs.length).zip xs).filter fun e => !unusable e.2.2
  let n := ix.length
  let sel (better : Q → Q → Bool) : Nat × Nat :=
    match ix with
    | [] => (0, 0)
    | e :: t => t.foldl (fun (b : Nat × Nat) e => if better (recValue e.2.1) (recValue b.2) then (e.1, e.2.1) else b) (e.1, e.2.1)
  let mn := sel fun x y => Q.lt x y
  let mx := sel fun x y => Q.lt y x
  let has (n : Bool) : Bool := ix.any fun e => fp32.isInf e.2.1 && fp32.neg e.2.1 == n
  let open_ : Bool := has true && has false
  let sum (f : Q → Q) : Nat := if open_ then b32 (refValue 0x7FC00000) else b32 (ix.foldl (fun acc e => Q.add acc (f (recValue e.2.1))) Q.zero)
  let by_ (v : Nat) (f : Q → Nat) : Nat := if fp32.isFin v then f (Q.div (fp32.toQ v) (Q.ofInt n)) else v
  let count := xs.length % 65536 + (xs.length - n) % 65536 * 65536
  if n = 0 then [0, 0, 0, 0, qw, count, 0]
  else [mn.2, mx.2, by_ (sum fun x => x) b32, by_ (sum fun x => Q.mul x x) (fun v => (fp32.sqrtQ rmRNE v).1), qw, count,
        mn.1 % 65536 + mx.1 % 65536 * 65536]

/-- Words of 32 binary channels. -/
def bitWords (n bits : Nat) : List Nat := (List.range n).map fun i => bits / 2 ^ (32 * i) % 2 ^ 32

/-- The W-record of a window of RGROUP over its ticks (R333). -/
def windowRecord (s : State) (w : TideWin) (ts : List DrecTick) : List Nat :=
  let g := drecGroup s
  let w4 := (sparseGet [] (s.grp g).desc w.n).getD 3 0
  let or_ := ts.foldl (fun b t => b ||| t.bits) 0
  let and_ := ts.foldl (fun b t => b &&& t.bits) (2 ^ 4096 - 1)
  [2 * 2 ^ 28 + w4 % 8 * 2 ^ 24 + ofBit (bitOf w4 4) * 2 ^ 23 + ofBit (bitOf w4 5) * 2 ^ 22, w.n, w.x / 2 ^ 32 % 2 ^ 32, w.inc,
   w.b / secT % 2 ^ 32, tqNsWord (tqAgo s ((s.devT - w.b) / 65536)) w.b, s.fld F.TIME_STAT_EPOCH % 65536, 0]
  ++ (List.range (drecNa s)).flatMap (fun a => reduceChan a ts)
  ++ bitWords (drecWords s) or_ ++ bitWords (drecWords s) (if ts.isEmpty then 0 else and_)

/-- The windows of RGROUP that end between the previous tick and this one, oldest first, with the start of each. -/
def windowsBefore (s : State) (prev g : Nat) : List (TideWin × Nat) :=
  let ws := (s.grp (drecGroup s)).wins
  let low := ((ws.drop 1).map TideWin.b) ++ [0]
  ((ws.zip low).filter fun e => decide (prev ≤ e.1.b) && decide (e.1.b < g)).reverse

/-! ## Assembly -/

/-- Write a record at the end of a slot's records. -/
def putRecord (s : State) (g : DrecSeg) (l : List Nat) : Bool × DrecSeg × State :=
  let (ok, s) := ringWrite s (slotAddr s g.slot + 4096) (dataLen s) g.next (wordsLE l)
  (ok, { g with next := (g.next + 4 * l.length) % dataLen s, refused := g.refused || !ok }, s)

/-- The ticks a slot keeps: while ARMED no more than PRE. -/
def keepTicks (s : State) (g : DrecSeg) : DrecSeg :=
  if g.trig.isSome then g else { g with ticks := g.ticks.take (s.fld F.DREC_PRE_VAL) }

/-- Mark the last tick of a slot with a W-record. -/
def addWrec (g : DrecSeg) : DrecSeg :=
  match g.ticks with
  | [] => g
  | t :: r => { g with ticks := { t with wrecs := t.wrecs + 1 } :: r }

/-- Start the segment of a slot at this tick: CAUSE, PRIMARY, PART, PRE_ACTUAL, DEAD_TICKS and CHAINED (R323, R325, R326). `g` holds the ticks
before it. -/
def startSegment (s : State) (g : DrecSeg) (p : DrecPend) (fired : List Nat) : DrecSeg × State :=
  let pre := min (s.fld F.DREC_PRE_VAL) g.ticks.length
  let primary := fired.headD 0
  let k := s.drec.count
  let (dead, s) := match s.drec.prevLast with
    | none => (2 ^ 32 - 1, s)
    | some l => fitField s 32 (k - pre - l - 1)
  let (first, s) := match s.drec.seq with
    | some v => ((v + 1) % 2 ^ 32, s)
    | none => let (f, s) := s.takeFree; (f % 2 ^ 32, s)
  let s := { s with drec := { s.drec with seq := some first } }
  let s := ((setDrec (setSlot s g.slot dsRecording) drRecording).setFld F.DREC_G_SEQ_SEG_SEQ first g.slot).count C.DREC_U_PRIMARIES primary
  let trig : SegTrig :=
    { seq := first, cause := unitMask fired, later := 0, laterCnt := 0, part := fireTag s primary, primary := primary, pre := pre, dead := dead
      chained := decide (pre < s.fld F.DREC_PRE_VAL) && decide (dead = 0), sec := p.inst / secT % 2 ^ 48
      epoch := s.fld F.TIME_STAT_EPOCH, tqns := tqNsWord p.tq p.inst, utc := p.utc, left := s.fld F.DREC_POST_VAL }
  ({ g with ticks := g.ticks.take pre, trig := some trig }, s)

/-- TICK of the ticks before the trigger counts from the segment's first tick: the records already written get it now (R333). -/
def renumber (s : State) (g : DrecSeg) : State :=
  let n := g.ticks.length
  ((List.range n).zip g.ticks).foldl (fun s (i, t) =>
    if t.lost then s
    else (ringWrite s (slotAddr s g.slot + 4096) (dataLen s) t.off (wordsLE [t.tw0 + (n - 1 - i) % 2 ^ 24])).2) s

/-- A fire while the segment records: LATER and LATER_COUNT (R323). -/
def addLater (s : State) (t : SegTrig) (fired : List Nat) : SegTrig × State :=
  let (n, s) := fitField s 16 (t.laterCnt + fired.length)
  ({ t with later := t.later ||| unitMask fired, laterCnt := n }, fired.foldl (fun s u => s.count C.DREC_U_LATERS u) s)

/-- The T-record of a tick (R333): its first word but for TICK, and the rest. -/
def tickWords (s : State) (p : DrecPend) (t : DrecTick) (fired : List Nat) (gap step : Bool) : Nat × List Nat :=
  (2 ^ 28 + ofBit step * 2 ^ 27 + ofBit (!fired.isEmpty) * 2 ^ 26 + ofBit gap * 2 ^ 25,
   [p.inst / secT % 2 ^ 32, tqNsWord p.tq p.inst, unitMask fired] ++ t.vals.flatMap (fun v => [v.1, v.2]) ++ bitWords (drecWords s) t.bits)

/-- The ticks of W-records and then the T-record are put into staging (R326): whether all were taken, the segment and the state. -/
def putWindows (s : State) (g : DrecSeg) (wins : List (List Nat)) : Bool × DrecSeg × State :=
  if g.ticks.isEmpty then (true, g, s) else
    wins.foldl (fun (acc : Bool × DrecSeg × State) w =>
      let r := putRecord acc.2.2 acc.2.1 w
      (acc.1 && r.1, addWrec r.2.1, r.2.2)) (true, g, s)

/-- A tick whose records were not all stored is counted and flagged (R327). -/
def loseTick (lost : Bool) (s : State) : State :=
  if lost then (s.count C.DREC_TICKS_LOST).setFlt F.DREC_FLT_TICKS_LOST else s

/-- The size of the staging SRAM (R327). -/
def stagingSize : Nat := 2 * mib

/-- The octets of a tick's records: its T-record, and the W-records that precede it once the slot holds a tick. -/
def recordOctets (g : DrecSeg) (words : List Nat) (wins : List (List Nat)) : Nat :=
  4 * (words.length + 1) + 4 * (if g.ticks.isEmpty then 0 else (wins.map List.length).foldl (· + ·) 0)

/-- Store a tick's records in the slot in use (R326, R327). They are lost when staging has no room for them. STEP and GAP stay for the next T-record written. -/
def storeTick (s : State) (g : DrecSeg) (p : DrecPend) (t : DrecTick) (fired : List Nat) (wins : List (List Nat)) : DrecSeg × State :=
  let steps := s.drec.steps
  let words := tickWords s p t fired s.drec.gap (!steps.isEmpty)
  let n := recordOctets g words.2 wins
  let tick (off : Nat) (lost : Bool) (st : List Int) : SegTick :=
    { off := off, sec := p.inst / secT % 2 ^ 32, tqns := tqNsWord p.tq p.inst, lost := lost, steps := st, wrecs := 0, tw0 := words.1 }
  if stagingSize < s.drec.staged + n then
    (keepTicks s { g with ticks := tick g.next true [] :: g.ticks }, loseTick true { s with drec := { s.drec with gap := true } })
  else
    let s := { s with drec := { s.drec with steps := [], gap := false, staged := s.drec.staged + n } }
    let w := putWindows s g wins
    let r := putRecord w.2.2 w.2.1 ((words.1 + w.2.1.ticks.length % 2 ^ 24) :: words.2)
    let lost := !(w.1 && r.1)
    let s := { r.2.2 with drec := { r.2.2.drec with gap := lost } }
    (keepTicks s { r.2.1 with ticks := tick w.2.1.next lost steps :: r.2.1.ticks }, loseTick lost s)

/-- The segment's last tick has been assembled: its slot is FLUSHING and the next slot follows (R324, R325). -/
def endSegment (s : State) (g : DrecSeg) : State :=
  let s := setSlot s g.slot dsFlushing
  let s := { s with drec := { s.drec with flush := s.drec.flush ++ [g], seg := none, prevLast := some s.drec.count, lastAsm := s.time.sys } }
  match nextSlot s with
  | some _ => setDrec { s with drec := { s.drec with arming := true } } drArmed
  | none => (setDrec s drBlocked).setFlt F.DREC_FLT_BLOCKED

/-- Fires while no slot is in use (R323). -/
def missedFires (s : State) (fired : List Nat) : State :=
  if fired.isEmpty then s
  else fired.foldl (fun s u => (s.count C.DREC_MISSED).count C.DREC_U_MISSED u) (s.setFlt F.DREC_FLT_MISSED)

/-- What a tick does to the slot in use. -/
def recordTick (s : State) (p : DrecPend) (t : DrecTick) (fired : List Nat) (wins : List (List Nat)) : State :=
  match s.drec.seg with
  | none => missedFires s fired
  | some g =>
    let (g, s) := match g.trig with
      | none =>
        if fired.isEmpty then (g, s)
        else
          let x := startSegment s g p fired
          (x.1, renumber x.2 x.1)
      | some tr => ({ g with trig := some (addLater s tr fired).1 }, (addLater s tr fired).2)
    let x := storeTick s g p t fired wins
    let g := x.1
    let s := x.2
    match g.trig with
    | none => { s with drec := { s.drec with seg := some g } }
    | some tr =>
      let g := { g with trig := some { tr with left := tr.left - 1 } }
      if tr.left ≤ 1 then endSegment s g else { s with drec := { s.drec with seg := some g } }

/-- The ticks the recorder keeps for RATE units and reductions. -/
def drecKeep : Nat := 128

/-- Assemble a tick: values, windows that ended before it, triggers, records (R313). -/
def assembleTick (s : State) (p : DrecPend) : State :=
  let s := nextSlotArmed s
  let t : DrecTick := { inst := p.inst, vals := (List.range (drecNa s)).map (tickValue s p.inst), bits := p.bits }
  let old := s.drec.hist
  let ws := match old.head? with
    | some l => if drecRed s && grpEn s (drecGroup s) then windowsBefore s l.inst p.inst else []
    | none => []
  let wins := ws.map fun (w, low) => windowRecord s w ((old.filter fun x => decide (low < x.inst) && decide (x.inst ≤ w.b)).reverse)
  let h := (t :: old).take drecKeep
  let s := { s with drec := { s.drec with hist := h, count := s.drec.count + 1, seen := ((p.inst, false) :: s.drec.seen).take drecKeep } }
  let s := (s.count C.DREC_TICKS).countBy C.DREC_WINDOWS wins.length
  let x := allConds s h
  let conds := x.1
  let s := x.2
  let fired := firedUnits s conds
  let s := fired.foldl (fun s u => s.count C.DREC_U_FIRES u) s
  let s := recordTick s p t fired wins
  let s := (List.range 32).foldl (fun s u => s.setFlag F.DREC_U_STAT_COND (bitOf conds u) u) s
  let evaluated := unitMask ((List.range 32).filter fun u => unitEn s u)
  { s with drec := { s.drec with cond := conds + (s.drec.cond &&& (2 ^ 32 - 1 - evaluated)), manual := [] } }

/-- DREC_TICK_ASSEMBLE: the oldest sampled tick, L_T after its instant. `drained` is the octets that staging has passed to LPDDR5X since the last assembly. -/
def tickAssemble (s : State) (drained : Nat) : State :=
  match s.drec.pend with
  | [] => s
  | p :: r =>
    if s.devT < p.inst + s.drec.lt * 65536 then s
    else assembleTick { s with drec := { s.drec with pend := r, staged := s.drec.staged - drained } } p

def execDrecTickAssemble (drained : Nat) (s : State) : Host.Outcome State Fault Refusal := .next (s.live fun s => tickAssemble s drained)

/-! ## Header (R334, R335) -/

/-- The words of a segment header but for VALID. -/
def headerWords (s : State) (g : DrecSeg) (t : SegTrig) : List Nat :=
  let ts := g.ticks.reverse
  let lost := (ts.filter SegTick.lost).length
  let steps := ts.flatMap SegTick.steps
  let firstStep := ((List.range ts.length).zip ts).find? fun e => !e.2.steps.isEmpty
  let amount := unsigned 64 (steps.headD 0)
  let first := ts.headD { off := 0, sec := 0, tqns := 0, lost := false, steps := [], wrecs := 0, tw0 := 0 }
  let wrecs := (ts.map SegTick.wrecs).foldl (· + ·) 0
  let flags := ofBit g.trunc * 2 + ofBit (decide (0 < lost)) * 4 + ofBit (!steps.isEmpty) * 8 + ofBit t.chained * 16 + ofBit (drecRed s) * 32
  [0x44534731, 2 ^ 24 + flags, t.seq, s.fld F.DREC_CONF_TAG_CONF_TAG, t.cause, t.later, t.laterCnt * 2 ^ 16 + t.part * 2 ^ 8 + t.primary,
   t.pre, ts.length, wrecs, t.epoch * 2 ^ 16 + t.sec / 2 ^ 32, t.sec % 2 ^ 32, t.tqns, first.sec, first.tqns, t.dead, g.rearm, lost,
   steps.length, (firstStep.map Prod.fst).getD 0, amount / 2 ^ 32, amount % 2 ^ 32, t.utc, first.off, g.next] ++ List.replicate 7 0

/-- DREC_SLOT_DONE: the oldest FLUSHING slot's records have reached LPDDR5X; its header is written, VALID last and only when no record was
refused, and the slot is DONE. -/
def slotDone (s : State) : State :=
  match s.drec.flush with
  | [] => s
  | g :: r =>
    let s := { s with drec := { s.drec with flush := r } }
    let s := setSlot ((s.count C.DREC_SEGMENTS).setFlt F.DREC_FLT_SEGMENT) g.slot dsDone
    match g.trig with
    | none => s
    | some t =>
      let l := headerWords s g t
      let (ok, s) := wordsWrite s (slotAddr s g.slot) l
      if ok && !g.refused then (wordsWrite s (slotAddr s g.slot + 4) [l.getD 1 0 + 1]).2 else s

def execDrecSlotDone (s : State) : Host.Outcome State Fault Refusal := .next (s.live fun s => slotDone s)

/-! ## Step notices (R328) -/

/-- A tick's instant after a step: the grid instant that stands in its place, so that none is repeated or skipped (R135, R328). -/
def tickStep (t : Nat) (d : Int) : Nat := gridFloor 14400 (shiftT t d)

/-- A step notice moves the ticks sampled and to come; `ns` is its amount and `d` the same in 2^-16 ns. -/
def drecStep (s : State) (ns d : Int) : State :=
  if drecState s = drOff then s
  else
    let pend : List DrecPend := s.drec.pend.map fun p => { p with inst := tickStep p.inst d }
    let hist : List DrecTick := s.drec.hist.map fun p => { p with inst := tickStep p.inst d }
    let seen : List (Nat × Bool) := s.drec.seen.map fun p => (tickStep p.1 d, p.2)
    { s with drec := { s.drec with next := s.drec.next.map fun t => tickStep t d, pend := pend, hist := hist, seen := seen, steps := s.drec.steps ++ [ns] } }

end Sys2Proof.Machine
end

