-- ==== Sys2Proof/Machine/RegsClk.lean ====
section
/-! DEFINITION. The CLK register block (block 1) as the register tables of spec/17_clocks_reset_startup.md give it: every field with its
bits, access and reset value (F), every register (R), and the statistics counters of its banks (C). -/

namespace Sys2Proof.Machine

/-! CLK_STAT: offset 0x0004, reset by device reset. -/
def F.CLK_STAT_LOCKED : Fld := ⟨1, 0, 0x0004, 4, 0, 8, .ro, 0x0⟩
def R.CLK_STAT : RegDesc := ⟨1, 0, 0x0004, 4, 1, [F.CLK_STAT_LOCKED]⟩

/-! CLK_FLT: offset 0x0008, reset by device reset. -/
def F.CLK_FLT_LOST : Fld := ⟨1, 0, 0x0008, 4, 0, 8, .w1c, 0x0⟩
def R.CLK_FLT : RegDesc := ⟨1, 0, 0x0008, 4, 1, [F.CLK_FLT_LOST]⟩

/-! CLK_IEN: offset 0x000C, reset by device reset. -/
def F.CLK_IEN_IEN : Fld := ⟨1, 0, 0x000C, 4, 0, 8, .rw, 0x0⟩
def R.CLK_IEN : RegDesc := ⟨1, 0, 0x000C, 4, 1, [F.CLK_IEN_IEN]⟩

/-! CLK_RST: offset 0x0010, reset by device reset. -/
def F.CLK_RST_KEY : Fld := ⟨1, 0, 0x0010, 4, 16, 16, .wo, 0x0⟩
def R.CLK_RST : RegDesc := ⟨1, 0, 0x0010, 4, 1, [F.CLK_RST_KEY]⟩

/-! CLK_CNTOVF: offset 0x0048, reset by device reset. -/
def F.CLK_CNTOVF_DEV_OVF : Fld := ⟨1, 0, 0x0048, 4, 0, 1, .w1c, 0x0⟩
def R.CLK_CNTOVF : RegDesc := ⟨1, 0, 0x0048, 4, 1, [F.CLK_CNTOVF_DEV_OVF]⟩

/-- Every register of the CLK block. -/
def regsCLK : List RegDesc := [
  R.CLK_STAT, R.CLK_FLT, R.CLK_IEN, R.CLK_RST, R.CLK_CNTOVF]

def C.CLK_RELOCKS_CPU : Ctr := ⟨1, 0, 0x0400, 0x0, F.CLK_CNTOVF_DEV_OVF, .device, none⟩
def C.CLK_RELOCKS_TBC : Ctr := ⟨1, 0, 0x0408, 0x0, F.CLK_CNTOVF_DEV_OVF, .device, none⟩
def C.CLK_RELOCKS_SERDES : Ctr := ⟨1, 0, 0x0410, 0x0, F.CLK_CNTOVF_DEV_OVF, .device, none⟩

end Sys2Proof.Machine
end

