-- ==== Sys2Proof/Machine/Clocks.lean ====
section
/-! DEFINITION. Clocks, resets and the AON domain (chapter 17): loss and return of clocks, device reset and its release, the AON write queue, the
low-power mode, and the delivery of step notices. -/

namespace Sys2Proof.Machine

def blkClk : Nat := 1
def blkAon : Nat := 16

/-! ## Fields of the AON domain (R495) -/

/-- The fields marked SH. -/
def shFields : List Fld :=
  [F.AON_STAT_VALID, F.AON_STAT_OSC_OK, F.AON_RST_CAUSE_CAUSE, F.AON_BOOT_FORCE_RECOV, F.AON_BOOT_BAD, F.AON_BOOT_TRIED, F.AON_BOOT_TRIAL,
   F.AON_BOOT_PREF, F.AON_SCRATCH_VALUE, F.AON_SCRATCH_VALUE.el 1, F.AON_SCRATCH_VALUE.el 2, F.AON_SCRATCH_VALUE.el 3, F.KEYS_TAMP_LEVEL,
   F.KEYS_TAMP_LATCH, F.KEYS_TAMP_EN, F.KEYS_COUNTER_CONF_VAL]

/-- The AON domain's own value of a field marked SH. -/
def State.aonFld (s : State) (f : Fld) : Nat := sparseGet f.rst s.aonRegs (f.key 0)

def State.aonFlag (s : State) (f : Fld) : Bool := s.aonFld f ≠ 0

/-- A field of the AON domain takes a value at an AON edge, and its shadow at the SYS edge after it (R495). -/
def State.setSh (s : State) (f : Fld) (v : Nat) : State :=
  ({ s with aonRegs := sparseSet f.rst s.aonRegs (f.key 0) (v % 2 ^ f.width) }).setFld f v

/-- The registers after a device reset: every field at its reset value but those marked SH, which show the AON domain (R504). -/
def regsAfterReset (aonRegs : Sparse Nat) : Sparse Nat :=
  shFields.foldl (fun m f => sparseSet f.rst m (f.key 0) (sparseGet f.rst aonRegs (f.key 0))) regsAtReset

/-! ## Device reset (R504 to R506) -/

def causePor : Nat := 0
def causeVbat : Nat := 1
def causePin : Nat := 2
def causeDwd : Nat := 3
def causeTwin : Nat := 4
def causeSw : Nat := 5
def causeClkFail : Nat := 6
def causeBootFail : Nat := 7
def causeWake : Nat := 8

/-- The pages of the flash that an erase or a programming cut short leaves open, under a mark of their own; no rule states what they hold. -/
def flashTorn (s : State) : Sparse Nat :=
  match s.boot.op with
  | none => s.boot.torn
  | some o =>
    if o.cmd = 1 || (decide (4 ≤ o.cmd) && decide (o.cmd ≤ 6)) then s.boot.torn
    else (List.range ((o.len + 255) / 256)).foldl (fun m i => sparsePut (o.off / 256 + i) s.freeCtr m) s.boot.torn

/-- What a device reset makes of the machine: every register not marked SH, all SRAM, the cores and the lanes at their reset, LPDDR5X not preserved; the AON
domain, the fuses, the flash, the sampled straps and the TAP are left (R504). -/
def deviceReset (s : State) : State :=
  { State.reset with
    regs := regsAfterReset s.aonRegs
    aonRegs := s.aonRegs
    aon := { s.aon with queue := [] }
    clk := s.clk
    keys := { State.reset.keys with fuses := s.keys.fuses, lifecycle := s.keys.lifecycle }
    boot := { State.reset.boot with flash := s.boot.flash, torn := flashTorn s }
    twin := { State.reset.twin with sideB := s.twin.sideB, solo := s.twin.solo }
    core := { State.reset.core with jtagIr := s.core.jtagIr, jtagBsr := s.core.jtagBsr, jtagOut := s.core.jtagOut }
    freeCtr := s.freeCtr + 1
    pending := s.pending }

/-- The 20 µs of R505 in ns. -/
def releaseDelay : Nat := 20000

/-- Does a cause of device reset persist? -/
def causePersists (s : State) : Bool := s.clk.pinLow || s.clk.refLost || s.clk.por || s.clk.lowPower

/-- Device reset may be released 20 µs after its last cause has ended; a new cause starts the 20 µs afresh (R505). -/
def armRelease (s : State) : State :=
  { s with clk := { s.clk with releaseAt := if causePersists s then none else some (s.clk.ns + releaseDelay) } }

/-- Device reset is asserted, or stays asserted, for a cause, whose bit is set in AON_RST_CAUSE (R505, R506). -/
def assertReset (s : State) (cause : Nat) : State :=
  let s := if s.clk.held then s else deviceReset s
  let s := { s with clk := { s.clk with held := true, lost := [], tbcStop := false, snapMask := none } }
  armRelease (s.setSh F.AON_RST_CAUSE_CAUSE (s.aonFld F.AON_RST_CAUSE_CAUSE ||| 2 ^ cause))

/-- A persisting cause has ended. -/
def causeEnds (s : State) : State := if s.clk.held then armRelease s else s

/-- SOFTWARE_RESET: a write of CLK_RST; only KEY 0xD512 acts. -/
def softwareReset (s : State) (v : Nat) : State := if v / 65536 = 0xD512 then assertReset s causeSw else s

def execSoftwareReset (v : Nat) (s : State) : Host.Outcome State Fault Refusal := .next (s.live fun s => softwareReset s v)

/-- RESET_PIN: RESET_N has been low for `ns` ns and stands at `level`. A low of 1 µs causes device reset, which lasts while it lasts; one shorter than 100 ns is
ignored; of one between them the spec says nothing (R505). In the low-power mode the low is what ends the mode (R526). -/
def resetPin (s : State) (level : Bool) (ns : Nat) : State :=
  let seen (s : State) : State :=
    let s := { s with clk := { s.clk with pinLow := !level, wakeBy := if s.clk.lowPower && s.clk.wakeBy = 0 then 2 else s.clk.wakeBy } }
    assertReset s causePin
  if s.clk.pinLow then (if level then causeEnds { s with clk := { s.clk with pinLow := false } } else s)
  else if 1000 ≤ ns then seen s
  else if ns < 100 || !level then s
  else
    let (v, s) := s.takeFree
    if v % 2 = 1 then seen s else s

def execResetPin (level : Bool) (ns : Nat) (s : State) : Host.Outcome State Fault Refusal := .next (resetPin s level ns)

/-- POWER_ON_RESET: a monitored rail is below its threshold for longer than 2 µs (`low`), or all three are 20 mV above them again (R539). -/
def powerOnReset (s : State) (low : Bool) : State :=
  if low then
    let s := { s with clk := { s.clk with por := true, wakeBy := if s.clk.lowPower && s.clk.wakeBy = 0 then 3 else s.clk.wakeBy } }
    assertReset s causePor
  else if s.clk.por then causeEnds { s with clk := { s.clk with por := false } }
  else s

def execPowerOnReset (low : Bool) (s : State) : Host.Outcome State Fault Refusal := .next (powerOnReset s low)

/-- REF_LOST: the AON domain has found REF out of range in two periods (R502). -/
def refLost (s : State) : State := assertReset { s with clk := { s.clk with refLost := true } } causeClkFail

def execRefLost (s : State) : Host.Outcome State Fault Refusal := .next (refLost s)

/-- REF_RETURN: device reset is released 20 µs later (R502). -/
def refReturn (s : State) : State :=
  if s.clk.refLost then causeEnds { s with clk := { s.clk with refLost := false } } else s

def execRefReturn (s : State) : Host.Outcome State Fault Refusal := .next (refReturn s)

/-- VBAT_LOSS: the AON domain is reset: its registers, the seconds counter, the salt and the confirmed count (R504). -/
def vbatLoss (s : State) : State :=
  { (shFields.foldl (fun s f => s.setFld f f.rst) s).setFlag F.AON_WPEND_WPEND false with
    aonRegs := [], aon := { sec := 0, frac := 0, queue := [], salt := [], saltOk := false, confOk := false } }

def execVbatLoss (s : State) : Host.Outcome State Fault Refusal := .next (vbatLoss s)

/-- The TAP's instruction register after Test-Logic-Reset: IDCODE. -/
def jtagIdcode : Nat := 1

/-- TEST_RESET: TRST_N low resets the TAP only (R504). -/
def testReset (s : State) : State := { s with core := { s.core with jtagIr := jtagIdcode, jtagBsr := [], jtagOut := [] } }

def execTestReset (s : State) : Host.Outcome State Fault Refusal := .next (testReset s)

/-! ## Reset release -/

/-- The highest commit-floor word, 0 while none is burned. -/
def floorMax (s : State) : Nat := s.keys.fuses.floors.foldl max 0

/-- KEYS at reset release (R438, R440, R470, R473): the lifecycle state is read from the fuses; in DECOMMISSIONED the salt is erased; a salt or count found
invalid sets VBAT_LOST, and a new salt is generated; KEY_COUNTER is the confirmed count where that is valid, else the floor. -/
def keysRelease (s : State) : State :=
  let s := { s with keys := { s.keys with lifecycle := s.keys.fuses.lifecycle } }
  let s := if s.aon.saltOk && s.aon.confOk then s else s.setFlag F.KEYS_STAT_VBAT_LOST true
  let s := if s.aon.saltOk then s
    else
      let (l, s) := s.takeOctets 32
      { s with aon := { s.aon with salt := l, saltOk := true } }
  let s := if s.keys.lifecycle = lcDecommissioned then { s with aon := { s.aon with salt := [] } } else s
  s.setFld F.KEYS_COUNTER_VAL (if s.aon.confOk then s.aonFld F.KEYS_COUNTER_CONF_VAL else floorMax s)

/-- RESET_RELEASE: 20 µs after the last cause has ended; the straps are sampled (R288), SEC is loaded from the AON seconds counter, or starts at
0 when VBAT has been lost, which AON_STAT.VALID 0 shows (R45), and BOOT enters INIT. -/
def resetRelease (s : State) (sideB solo : Bool) : State :=
  match s.clk.releaseAt with
  | none => s
  | some t =>
    if !s.clk.held || s.clk.ns < t then s
    else
      let s := { s with clk := { s.clk with held := false, releaseAt := none, released := s.clk.ns }
                        twin := { s.twin with sideB := sideB, solo := solo }
                        time := { s.time with sec := if s.aonFlag F.AON_STAT_VALID then s.aon.sec else 0 } }
      keysRelease (if s.aonFlag F.AON_STAT_VALID then s else s.setFlt F.AON_FLT_VBAT_LOST)

def execResetRelease (sideB solo : Bool) (s : State) : Host.Outcome State Fault Refusal := .next (resetRelease s sideB solo)

/-! ## PLLs (R502, R503) -/

def pllCpu : Nat := 0
def pllTbc : Nat := 5
def pllPort : Nat := 6
def pllTwin : Nat := 7

/-- The parts whose clock a SerDes PLL feeds lose their lock (R287, R371). -/
def serdesDown (s : State) (pll unit : Nat) : State :=
  if pll = pllPort then portCondition s unit (s.flag F.PORT_P_STAT_LOS unit) false (s.flag F.PORT_P_STAT_HI_BER unit) false
  else twinLaneDown s unit

/-- PLL_LOCK_LOST: the PLL of an index, and for SerDes the PLL of a port or twin lane, has lost lock (R502). -/
def pllLockLost (s : State) (pll unit : Nat) : State :=
  if 8 ≤ pll || s.clk.lost.contains (pll, unit) then s
  else
    let s := { s with clk := { s.clk with lost := (pll, unit) :: s.clk.lost } }
    let s := s.setFbit F.CLK_STAT_LOCKED pll false
    let s := (s.setFltBit F.CLK_FLT_LOST pll).event blkClk 0x0101 0 pll
    if pll = pllCpu then s
    else if pll = pllTbc then { s with clk := { s.clk with tbcStop := true, stopNs := s.clk.ns }, gate := { s.gate with stopped := true } }
    else if pll = pllPort || pll = pllTwin then serdesDown s pll unit
    else assertReset s causeClkFail

def execPllLockLost (pll unit : Nat) (s : State) : Host.Outcome State Fault Refusal := .next (s.live fun s => pllLockLost s pll unit)

/-- Are all PLLs of an index locked that CLK_STAT.LOCKED shows by one bit? Of a SerDes group INIT must have seen every one lock. -/
def pllGroupLocked (s : State) (pll : Nat) : Bool :=
  !(s.clk.lost.any fun x => x.1 = pll) && (decide (pll < pllPort) || decide (s.fld F.BOOT_STAT_STATE ≠ 0))

/-- The REF cycles counted while TBC was stopped, and the ns counted in the REF cycle of the stop before it: what PLL_RELOCK of TBC reports (R503). -/
def tbcStopped (c : ClkSt) : Nat × Nat := (c.ns / 40 - c.stopNs / 40, c.stopNs % 40)

/-- PLL_RELOCK: a PLL relocks. The CPU clock is ungated; TBC runs again and device time steps forward by the REF cycles counted, 40 ns each, less
the ns counted before the stop (R502, R503). A PLL that had not lost lock locks for the first time; a report of a TBC stop that has not been of that length
is none. -/
def pllRelock (s : State) (pll unit refs before : Nat) : State :=
  let was := s.clk.lost.contains (pll, unit)
  if 8 ≤ pll || was && decide (pll = pllTbc) && decide ((refs, before) ≠ tbcStopped s.clk) then s
  else
    let s := { s with clk := { s.clk with lost := s.clk.lost.filter (· ≠ (pll, unit)) } }
    let s := if pllGroupLocked s pll then s.setFbit F.CLK_STAT_LOCKED pll true else s
    if !was then s
    else if pll = pllCpu then s.count C.CLK_RELOCKS_CPU
    else if pll = pllTbc then
      stepTime ({ s with clk := { s.clk with tbcStop := false } }.count C.CLK_RELOCKS_TBC) ((refs * 40 : Nat) - (before : Nat) : Int)
    else if pll = pllPort || pll = pllTwin then s.count C.CLK_RELOCKS_SERDES
    else s

def execPllRelock (pll unit refs before : Nat) (s : State) : Host.Outcome State Fault Refusal :=
  .next (s.live fun s => pllRelock s pll unit refs before)

/-! ## Step notices (R54, R84) -/

/-- SET_ABS or STEP_REL completes no later than the notice of its step (R556). -/
def endStepCmd (s : State) : State :=
  match sparseFind blkTime s.mbx with
  | some r => if r.cmd = 2 || r.cmd = 3 then s.mbxEnd blkTime else s
  | none => s

/-- STEP_NOTICE: at the first SYS edge after a step, the notice reaches every consumer, one event record is written and STEPS counts it. -/
def stepNotice (s : State) : State :=
  match s.time.notices with
  | [] => s
  | (a, ep, edge) :: rest =>
    if s.time.sys ≤ edge then s
    else
    let s := endStepCmd { s with time := { s.time with notices := rest } }
    let w := unsigned 64 a
    let s := ((s.count C.TIME_STEPS).event blkTime 0x0201 0 (w / 2 ^ 32) (w % 2 ^ 32) ep).setFlt F.TIME_FLT_STEPPED
    let d := a * 65536
    drecStep (gooseStep (gateStep (fdcStep (tideStep (sviStep s d ep) d) d) a) a ep) a d

def execStepNotice (s : State) : Host.Outcome State Fault Refusal := .next (s.live stepNotice)

/-! ## The AON domain -/

/-- SEC_INCREMENT: at an increment of SEC by the running count while LOCKED, SEC is written into the AON seconds counter, which restarts its count of
AON edges (R46). -/
def secIncrement (s : State) : State :=
  if !s.time.secDue then s
  else
    let s := { s with time := { s.time with secDue := false } }
    if discState s = discLocked then { s with aon := { s.aon with sec := s.time.sec, frac := 0 } } else s

def execSecIncrement (s : State) : Host.Outcome State Fault Refusal := .next (s.live secIncrement)

/-- READ_SEC: the AON seconds counter by the AON mailbox. -/
def readSec (s : State) : State :=
  if s.flag (mbxBusy blkAon) then s.mbxRefuseBusy blkAon
  else s.mbxStart blkAon { cmd := 1, ok := true, d0 := s.aon.sec / 2 ^ 32 % 65536, d1 := s.aon.sec % 2 ^ 32, d2 := 0, d3 := 0 }

def execReadSec (s : State) : Host.Outcome State Fault Refusal := .next (s.live readSec)

/-- AON_WPEND reads 1 while the queue holds a write. -/
def aonSettle (s : State) : State := s.setFlag F.AON_WPEND_WPEND (!s.aon.queue.isEmpty)

/-- The capacity of the AON write queue. -/
def aonQueueSize : Nat := 8

/-- A write to a register with SH fields enters the queue; false where the queue is full, which is a bus error of kind 0b101 (R496). -/
def aonEnqueue (s : State) (addr v : Nat) : Bool × State :=
  if aonQueueSize ≤ s.aon.queue.length then (false, s.setFlt F.AON_FLT_WQ_FULL)
  else (true, aonSettle { s with aon := { s.aon with queue := s.aon.queue ++ [(addr, v)] } })

/-- The low-power mode is entered at the AON edge of the write: the wake detector keeps its settings, device reset is asserted and everything else is powered
down (R374, R525). -/
def lowPowerEnter (s : State) : State :=
  let rate := if s.fld F.PORT_WAKE_CFG_RATE = 3 then 1 else s.fld F.PORT_WAKE_CFG_RATE
  let kept : PortSt :=
    { State.reset.port with wakeRate := if s.flag F.PORT_WAKE_CFG_WAKE_EN then rate + 1 else 0
                            wakeDa := s.fld F.PORT_WAKE_DA_HI_DA * 2 ^ 32 + s.fld F.PORT_WAKE_DA_LO_DA, wakeTag := s.fld F.TWIN_OWN_TAG_VAL }
  let s := deviceReset s
  { s with port := kept, clk := { s.clk with held := true, lowPower := true, wakeBy := 0, releaseAt := none, lost := [], tbcStop := false, snapMask := none } }

/-- The effect of a queued write at its AON edge. -/
def aonApply (s : State) (addr v : Nat) : State :=
  if addr = 0x40100018 then s.setSh F.AON_RST_CAUSE_CAUSE (s.aonFld F.AON_RST_CAUSE_CAUSE - (s.aonFld F.AON_RST_CAUSE_CAUSE &&& v))
  else if addr = 0x40100020 then (if v / 65536 = 0x4C50 && v % 2 = 1 then lowPowerEnter s else s)
  else if 0x40100050 ≤ addr && addr < 0x40100060 then s.setSh (F.AON_SCRATCH_VALUE.el ((addr - 0x40100050) / 4)) v
  else if addr = 0x400F0010 then
    let s := s.setSh F.KEYS_TAMP_EN (s.aonFld F.KEYS_TAMP_EN ||| v % 4)
    s.setSh F.KEYS_TAMP_LATCH (s.aonFld F.KEYS_TAMP_LATCH - (s.aonFld F.KEYS_TAMP_LATCH &&& v / 16 % 4))
  else s

/-- AON_WRITE_APPLY: the oldest queued write takes effect at an AON edge and its shadow shows it (R495, R496); an AON edge shows that the crystal
oscillator runs. -/
def aonWriteApply (s : State) : State :=
  match s.aon.queue with
  | [] => s
  | (a, v) :: rest =>
    let s := (aonSettle { s with aon := { s.aon with queue := rest } }).setSh F.AON_STAT_OSC_OK 1
    aonApply s a v

def execAonWriteApply (s : State) : Host.Outcome State Fault Refusal := .next (aonWriteApply s)

/-- LOW_POWER_ENTER: the write of AON_PWR with its key and ENTER takes effect; what is queued before it has taken effect first (R525). -/
def lowPowerDue (s : State) : State :=
  match s.aon.queue with
  | (0x40100020, v) :: _ => if v / 65536 = 0x4C50 && v % 2 = 1 then aonWriteApply s else s
  | _ => s

def execLowPowerEnter (s : State) : Host.Outcome State Fault Refusal := .next (lowPowerDue s)

/-- WAKE_FRAME_DETECT: in the low-power mode, an untagged frame with a good FCS, the detector's address, EtherType 0x88B5 and payload raises the wake request
(R373, R374). -/
def wakeDetect (s : State) (f : Frame) (fcsOk : Bool) : State :=
  let o := match f.payload with | .raw l => l | p => Config.payloadOctets p
  let tag := ofOctetsBE ((o.drop 4).take 4)
  if s.clk.lowPower && s.port.wakeRate ≠ 0 && fcsOk && f.tag.isNone && f.hsr.isNone && decide (f.dst = s.port.wakeDa)
      && decide (f.etype = 0x88B5) && decide (o.take 4 = [0x52, 0x41, 0x4C, 0x59]) && decide (8 ≤ o.length)
      && (decide (tag = 0) || decide (tag = s.port.wakeTag)) && s.clk.wakeBy = 0
  then { s with clk := { s.clk with wakeBy := 1 } } else s

def execWakeFrameDetect (f : Frame) (fcsOk : Bool) (s : State) : Host.Outcome State Fault Refusal := .next (wakeDetect s f fcsOk)

/-- LOW_POWER_WAKE: a wake request, a RESET_N low or power-on ends the low-power mode; AON_RST_CAUSE shows WAKE, PIN or POR (R526). -/
def lowPowerWake (s : State) : State :=
  if !s.clk.lowPower || s.clk.wakeBy = 0 then s
  else
    let cause := if s.clk.wakeBy = 1 then causeWake else if s.clk.wakeBy = 2 then causePin else causePor
    assertReset { s with clk := { s.clk with lowPower := false, wakeBy := 0 } } cause

def execLowPowerWake (s : State) : Host.Outcome State Fault Refusal := .next (lowPowerWake s)

/-- DWD_EXPIRY: the device watchdog reaches TIMEOUT and asserts device reset (R436). -/
def dwdExpiry (s : State) : State :=
  if !s.flag F.PART_DWD_CTL_EN || s.time.sys < s.part.dwdAt + dwdTimeout s then s else assertReset s causeDwd

def execDwdExpiry (s : State) : Host.Outcome State Fault Refusal := .next (s.live dwdExpiry)

/-- PARTNER_RESET_FIRE: ten microseconds after an accepted RESET_REQ (R311). -/
def partnerResetFire (s : State) : State :=
  match s.twin.resetAt with
  | some t => if t ≤ s.time.sys then assertReset s causeTwin else s
  | none => s

def execPartnerResetFire (s : State) : Host.Outcome State Fault Refusal := .next (s.live partnerResetFire)

end Sys2Proof.Machine
end

