-- ==== Sys2Proof/Machine/Keys.lean ====
section
/-! DEFINITION. Keys, signatures and two-party approval (chapter 15): the key slots, the judgement of messages, the approval records, measurement,
the store image, attestation, lifecycle and zeroisation. -/

namespace Sys2Proof.Machine

def blkKeys : Nat := 15

/-! ## Derived keys and identity (R442 to R445) -/

def ascii (t : String) : List Nat := t.toList.map Char.toNat

/-- The KDF of SP 800-108 in counter mode with HMAC-SHA-256 (R443). -/
def kdf (key : List Nat) (label : String) (ctx : List Nat) (n : Nat) : List Nat :=
  let fixed := ascii label ++ [0] ++ ctx ++ octetsBE 4 (n * 8)
  ((List.range ((n + 31) / 32)).flatMap fun i => hmacSha256 key (octetsBE 4 (i + 1) ++ fixed)).take n

def dus : List Nat := fitOctets 32 Config.dus

/-- The class octet of R443. -/
def keysClass (s : State) : Nat := if s.keys.lifecycle = lcSealed then 2 else 1

def psetS : Nat := 1
def psetF : Nat := 2

def idSeed (s : State) (pset : Nat) : List Nat := kdf dus (if pset = psetS then "DX512 ID S" else "DX512 ID F") [keysClass s] 48
def slotKey (s : State) : List Nat := kdf dus "DX512 SLOT INT" [keysClass s] 32
def storeKey (s : State) : List Nat := kdf dus "DX512 STORE SEC" (keysClass s :: fitOctets 32 s.aon.salt) 32
def transportKey : List Nat := kdf dus "DX512 KTK" [] 32

/-- The identity public key of a parameter set. -/
def idPublic (s : State) (pset : Nat) : List Nat := fitOctets 32 (Config.slhPublic pset (idSeed s pset))

/-- DEVICE_ID (R444). -/
def deviceId (s : State) : List Nat := (sha256 (idPublic s psetS)).take 16

/-- The octets of a signature of a parameter set (R445). -/
def sigLen (pset : Nat) : Nat := if pset = psetS then 7856 else 17088

/-- What is signed: pure SLH-DSA with an empty context (R445). -/
def signInput (m : List Nat) : List Nat := [0, 0] ++ m

/-- Give an array of registers the words of octets, the first at bits 31:24. -/
def setWords (s : State) (f : Fld) (l : List Nat) : State :=
  (List.range (l.length / 4)).foldl (fun s i => s.setFld (f.el i) (ofOctetsBE ((l.drop (4 * i)).take 4))) s

/-- ID_READY: the identity keys are ready, with DEVICE_ID and the own tag; none in DECOMMISSIONED (R440, R444). -/
def idReady (s : State) : State :=
  if s.keys.lifecycle = lcDecommissioned || s.flag F.KEYS_STAT_ID_READY then s
  else
    let s := setWords (setWords s F.KEYS_IDPK_S_VAL (idPublic s psetS)) F.KEYS_IDPK_F_VAL (idPublic s psetF)
    let s := setWords s F.KEYS_DEVID_ID (deviceId s)
    (s.setFld F.TWIN_OWN_TAG_VAL (ofOctetsBE ((deviceId s).take 4))).setFlag F.KEYS_STAT_ID_READY true

def execIdReady (s : State) : Host.Outcome State Fault Refusal := .next (s.live idReady)

/-! ## Slots (R446 to R449) -/

def keySlots : Nat := 256

def slotPublic (typ : Nat) : Bool := decide (typ = 1 ∨ typ = 2)
def slotSecret (typ : Nat) : Bool := decide (3 ≤ typ ∧ typ ≤ 5)

/-- The octets of a type's key, 0 for no type (R447). -/
def typeLen (typ : Nat) : Nat := if typ = 3 then 16 else if 1 ≤ typ ∧ typ ≤ 5 then 32 else 0

def useKeymgmt : Nat := 1
def usePreparer : Nat := 2
def useReleaser : Nat := 4
def useWrap : Nat := 8

/-- Does a type permit USE bits (R447)? -/
def useOk (typ use : Nat) : Bool :=
  if slotPublic typ then decide (use < 8) && !(bitOf use 1 && bitOf use 2)
  else if typ = 4 then decide (use = 0 ∨ use = useWrap)
  else decide (use = 0)

/-- The octets under a slot's integrity tag. -/
def slotOctets (k : KeySlot) : List Nat :=
  [k.st, k.typ] ++ octetsBE 2 k.use ++ [k.parent, k.depth] ++ octetsBE 4 k.id ++ octetsBE 4 k.gen ++ k.mat

def slotTag (s : State) (k : KeySlot) : List Nat := (hmacSha256 (slotKey s) (slotOctets k)).take 16

/-- Does a slot's tag match? -/
def slotSound (s : State) (k : KeySlot) : Bool := decide (k.st = ksEmpty) || decide (slotTag s k = k.tag)

/-- Write a slot with its tag; the store has changed since its last export. -/
def putSlot (s : State) (i : Nat) (k : KeySlot) : State :=
  let k := if k.st = ksEmpty then { KeySlot.reset with gen := k.gen } else { k with tag := slotTag s k }
  { s with keys := { s.keys with slots := sparseSet KeySlot.reset s.keys.slots i k } }.setFlag F.KEYS_STAT_EXPORTED false

/-- Is slot `d` a descendant of slot `a`? -/
def descends (s : State) (a : Nat) : Nat → Nat → Bool
  | 0, _ => false
  | n + 1, d =>
    let k := s.keySlot d
    if d = 0 || k.st = ksEmpty then false else decide (k.parent = a) || descends s a n k.parent

def isDescendant (s : State) (a d : Nat) : Bool := descends s a keySlots d

/-- Every descendant of a slot that is VALID or INVALID becomes ORPHANED (R448); with their number. -/
def orphan (s : State) (a : Nat) : Nat × State :=
  let l := ((List.range keySlots).drop 1).filter fun d =>
    isDescendant s a d && (decide ((s.keySlot d).st = ksValid) || decide ((s.keySlot d).st = ksInvalid))
  let s := l.foldl (fun s d => putSlot s d { s.keySlot d with st := ksOrphaned, mat := [] }) s
  (l.length, if l.isEmpty then s else (s.countBy C.KEYS_ORPHANINGS l.length).setFlt F.KEYS_FLT_ORPHANED)

/-- A slot becomes BAD (R448). -/
def slotBad (s : State) (i : Nat) : State :=
  let s := putSlot s i { s.keySlot i with st := ksBad, mat := [] }
  let (n, s) := orphan s i
  ((s.count C.KEYS_SLOT_BAD).setFlt F.KEYS_FLT_SLOT_BAD).event blkKeys 0x0F03 0 i n

/-- KEYS_SCRUB: every tag is checked; `ecc` names the slots that met an uncorrectable ECC error (R448, R449). -/
def keysScrub (s : State) (ecc : List Nat) : State :=
  let bad := (List.range keySlots).filter fun i =>
    let k := s.keySlot i
    decide (k.st ≠ ksEmpty) && decide (k.st ≠ ksBad) && (ecc.contains i || !slotSound s k)
  bad.foldl slotBad s

def execKeysScrub (ecc : List Nat) (s : State) : Host.Outcome State Fault Refusal := .next (s.live fun s => keysScrub s ecc)

/-! ## Refusal causes -/

def kcFormat : Nat := 0x01
def kcDevice : Nat := 0x02
def kcCounter : Nat := 0x03
def kcPending : Nat := 0x04
def kcSigner : Nat := 0x05
def kcUse : Nat := 0x06
def kcTarget : Nat := 0x07
def kcSignature : Nat := 0x08
def kcUnwrap : Nat := 0x09
def kcPair : Nat := 0x0A
def kcState : Nat := 0x0B
def kcAddress : Nat := 0x0D
def kcTamper : Nat := 0x0E
def kcStore : Nat := 0x0F
def kcNotFound : Nat := 0x10

/-- A refusal whose cause the spec does not name: one of the sixteen, free. -/
def openCause (s : State) : Nat × State :=
  let (v, s) := s.takeFree
  (1 + v % 16, s)

/-! ## The mailbox of KEYS (R464, R488) -/

def keyCounter (s : State) : Nat := s.fld F.KEYS_COUNTER_VAL
def counterConf (s : State) : Nat := s.fld F.KEYS_COUNTER_CONF_VAL

/-- The result words. -/
def keysResult (s : State) (cause d2 : Nat) : State :=
  let s := (s.setFld (mbxData blkKeys 0) cause).setFld (mbxData blkKeys 1) (keyCounter s)
  (s.setFld (mbxData blkKeys 2) d2).setFld (mbxData blkKeys 3) 0

/-- The command is refused with a cause. -/
def keysRefuse (s : State) (cause : Nat) : State :=
  let s := { s with keys := { s.keys with run := none } }
  (keysResult (s.mbxRefuse blkKeys) cause 0).setFlt F.KEYS_FLT_CMD_REFUSED

/-- The command completes. -/
def keysDone (s : State) (d2 : Nat) : State :=
  let s := { s with keys := { s.keys with run := none } }
  ((keysResult s 0 d2).setFlag (mbxBusy blkKeys) false).setFlag (mbxValid blkKeys) true

/-- The operand address. -/
def keysAddr (s : State) : Nat := s.fld F.KEYS_ADDR_HI_ADDR * 2 ^ 32 + s.fld F.KEYS_ADDR_LO_ADDR * 64

/-- A command begins. -/
def keysBegin (s : State) (cmd cause : Nat) (wait : Bool) (data : List Nat) : State :=
  let s := ((s.setFlag (mbxValid blkKeys) false).setFlag (mbxErr blkKeys) false).setFlag (mbxBusy blkKeys) true
  { s with keys := { s.keys with run := some { cmd := cmd, addr := keysAddr s, arg := s.fld F.KEYS_ARG_ARG, wait := wait, cause := cause, data := data } } }

/-- A command is written: refused while BUSY, in DECOMMISSIONED, and outside its permitted states. -/
def keysCmd (s : State) (permitted : Bool) (f : State → State) : State :=
  if s.flag (mbxBusy blkKeys) then (s.mbxRefuseBusy blkKeys).setFlt F.KEYS_FLT_CMD_REFUSED
  else if s.keys.lifecycle = lcDecommissioned || !permitted then keysRefuse s kcState
  else f s

/-- Do `n` octets from an address lie within installed LPDDR5X? -/
def inLpddr (s : State) (a n : Nat) : Bool := decide (lpddrBase ≤ a) && decide (a + n ≤ lpddrBase + lpddrSize s)

/-- Read octets as an engine does, 64 at a time; none at the first refusal. `fuel` is the count of accesses. -/
def engineRead (init : Nat) : Nat → State → Nat → Nat → Option (List Nat) × State
  | 0, s, _, _ => (some [], s)
  | k + 1, s, a, n =>
    if n = 0 then (some [], s)
    else
      let m := min 64 n
      match dmaRead s init 0 a m with
      | (none, s) => (none, s)
      | (some l, s) =>
        match engineRead init k s (a + m) (n - m) with
        | (none, s) => (none, s)
        | (some r, s) => (some (l ++ r), s)

/-- Write octets as an engine does, 64 at a time, up to the first refusal. -/
def engineWrite (init : Nat) : Nat → State → Nat → List Nat → Bool × State
  | 0, s, _, l => (l.isEmpty, s)
  | k + 1, s, a, l =>
    if l.isEmpty then (true, s)
    else
      match dmaWrite s init 0 a (l.take 64) with
      | (false, s) => (false, s)
      | (true, s) => engineWrite init k s (a + 64) (l.drop 64)

/-- A KEYS operand of `n` octets at ADDR. -/
def keysRead (s : State) (n : Nat) : Option (List Nat) × State :=
  if inLpddr s (keysAddr s) n then engineRead initKeys (n / 64 + 1) s (keysAddr s) n else (none, s)

/-- A KEYS output at an address. -/
def keysWrite (s : State) (a : Nat) (l : List Nat) : Bool × State :=
  if inLpddr s a l.length then engineWrite initKeys (l.length / 64 + 1) s a l else (false, s)

/-- What was read goes on to a command, which is refused with ADDRESS where nothing was. -/
def operandRead (f : State → List Nat → State) : Option (List Nat) × State → State
  | (none, s) => keysRefuse s kcAddress
  | (some l, s) => f s l

/-- Read an operand and go on, or refuse with ADDRESS. -/
def withOperand (s : State) (n : Nat) (f : State → List Nat → State) : State := operandRead f (keysRead s n)

/-! ## Messages (R452 to R457) -/

def msgBe (m : List Nat) (i n : Nat) : Nat := ofOctetsBE ((m.drop i).take n)

def msgKind (m : List Nat) : Nat := m.getD 5 0
def msgPset (m : List Nat) : Nat := m.getD 6 0
def msgRole (m : List Nat) : Nat := m.getD 7 0
def msgCounter (m : List Nat) : Nat := msgBe m 24 4
def msgSigner (m : List Nat) : Nat := m.getD 28 0
def msgBodyLen (m : List Nat) : Nat := msgBe m 32 4
def msgBody (m : List Nat) : List Nat := (m.drop 64).take (msgBodyLen m)

def kmWrite : Nat := 1
def kmInvalidate : Nat := 2
def kmApproval : Nat := 3
def kmLifecycle : Nat := 4

/-- The octets of a whole message, from its header. -/
def msgLen (m : List Nat) : Nat := 64 + msgBodyLen m + sigLen (msgPset m)

def roundUp (v n : Nat) : Nat := (v + n - 1) / n * n

/-- The body length that a kind requires (R453, R459). -/
def bodyLenOk (m : List Nat) : Bool :=
  let k := msgKind m
  if k = kmWrite then decide (msgBodyLen m = roundUp (40 + msgBe m 70 2) 4)
  else if k = kmApproval then decide (msgBodyLen m = 40)
  else decide (msgBodyLen m = 4)

/-- Are magic, version, kind, parameter set, role and length well formed? -/
def msgFormat (m : List Nat) (approval : Bool) : Bool :=
  let k := msgKind m
  decide (64 ≤ m.length) && decide (m.take 4 = [0x44, 0x58, 0x4B, 0x4D]) && decide (m.getD 4 0 = 1)
    && decide (1 ≤ k ∧ k ≤ 4) && decide ((k = kmApproval) = approval)
    && decide (msgPset m = psetS ∨ msgPset m = psetF)
    && (if k = kmApproval then decide (msgRole m = 1 ∨ msgRole m = 2) else decide (msgRole m = 0))
    && bodyLenOk m && decide (m.length = msgLen m)

/-- Does the signer's USE permit a message? -/
def usePermits (k : KeySlot) (m : List Nat) : Bool :=
  if msgKind m = kmApproval then bitOf k.use (if msgRole m = 1 then 1 else 2) else bitOf k.use 0

/-- Is a KEY_WRITE permitted (R447, R454)? -/
def writePermitted (s : State) (m : List Nat) : Bool :=
  let b := msgBody m
  let target := b.getD 0 0
  let parent := b.getD 1 0
  let typ := b.getD 2 0
  let wrap := b.getD 3 0
  let use := msgBe b 4 2
  let t := s.keySlot target
  let p := s.keySlot parent
  let w := s.keySlot wrap
  decide (target ≠ 0) && decide (msgSigner m = parent)
    && (decide (t.st = ksEmpty) || (if t.st = ksBad then decide (msgSigner m = 0) else decide (t.parent = parent)))
    && slotPublic p.typ && bitOf p.use 0 && decide (p.depth < 8)
    && decide (parent ≠ target) && !isDescendant s target parent
    && decide (1 ≤ typ ∧ typ ≤ 5) && decide (msgBe b 6 2 = typeLen typ) && useOk typ use
    && (if wrap = 0xFF then true
        else if wrap = 0xFE then slotPublic typ
        else decide (w.st = ksValid) && decide (w.typ = 4) && bitOf w.use 3 && decide (wrap ≠ target))

/-- Is a message permitted (R454)? -/
def msgPermitted (s : State) (m : List Nat) : Bool :=
  let k := msgKind m
  if k = kmWrite then writePermitted s m
  else if k = kmInvalidate then
    let t := (msgBody m).getD 0 0
    decide (t ≠ 0) && decide ((s.keySlot t).st = ksValid) && decide ((s.keySlot t).parent = msgSigner m)
  else if k = kmLifecycle then
    decide (msgSigner m = 0) && decide (s.keys.lifecycle = lcSealed) && decide ((msgBody m).getD 0 0 = 3)
  else true

/-- The key of a KEY_WRITE, unwrapped; none where its tag fails (R453). -/
def unwrapKey (s : State) (m : List Nat) : Option (List Nat) :=
  let b := msgBody m
  let wrap := b.getD 3 0
  let key := (b.drop 40).take (msgBe b 6 2)
  if wrap = 0xFE then some key
  else
    gcmDecrypt (if wrap = 0xFF then transportKey else (s.keySlot wrap).mat) ((b.drop 12).take 12) (m.take 64 ++ b.take 12) key
      ((b.drop 24).take 16)

/-- KEYS judges a message by the steps of R455; `sig` says whether its signature is checked. 0 accepts it. -/
def judge (s : State) (m : List Nat) (approval sig : Bool) : Nat :=
  let k := s.keySlot (msgSigner m)
  if !s.flag F.KEYS_STAT_ID_READY then kcState
  else if !msgFormat m approval then kcFormat
  else if (m.drop 8).take 16 ≠ deviceId s then kcDevice
  else if keyCounter s ≠ counterConf s then kcPending
  else if msgCounter m ≠ keyCounter s || keyCounter s = 0xFFFFFFFF then kcCounter
  else if k.st ≠ ksValid || k.typ ≠ msgPset m then kcSigner
  else if !usePermits k m then kcUse
  else if !msgPermitted s m then kcTarget
  else if sig && !Config.slhVerify (msgPset m) k.mat (signInput (m.take (64 + msgBodyLen m))) (m.drop (64 + msgBodyLen m)) then kcSignature
  else if msgKind m = kmWrite && (unwrapKey s m).isNone then kcUnwrap
  else 0

/-- A message is refused: the flag, the counter and the event record. -/
def msgRefused (s : State) (m : List Nat) (cause : Nat) : State :=
  ((s.count C.KEYS_MSG_REFUSED).setFlt F.KEYS_FLT_MSG_REFUSED).event blkKeys 0x0F02 0 (msgKind m) cause (msgCounter m)

/-- The two messages of an APPROVE (R459). -/
def pairMsgs (d : List Nat) : List Nat × List Nat :=
  let n := 64 + msgBodyLen d + sigLen (msgPset d)
  (d.take n, d.drop (roundUp n 64))

/-- Does INDEX suit ITEM_KIND, and SIZE it? -/
def itemOk (b : List Nat) : Bool :=
  let kind := b.getD 0 0
  let idx := b.getD 1 0
  if kind = 1 || kind = 2 then decide (1 ≤ idx ∧ idx ≤ 127) && decide (msgBe b 4 4 % 1024 = 0)
  else decide (kind = 3) && decide (idx ≤ 1)

/-- The judgement of a pair (R459). -/
def judgePair (s : State) (d : List Nat) (sig : Bool) : Nat :=
  let (a, b) := pairMsgs d
  let ca := judge s a true sig
  let cb := judge s b true sig
  let ka := s.keySlot (msgSigner a)
  let kb := s.keySlot (msgSigner b)
  if ca ≠ 0 then ca
  else if cb ≠ 0 then cb
  else if msgCounter a = msgCounter b && msgBody a = msgBody b && msgRole a ≠ msgRole b && msgSigner a ≠ msgSigner b && ka.id ≠ kb.id
      && !isDescendant s (msgSigner a) (msgSigner b) && !isDescendant s (msgSigner b) (msgSigner a) && itemOk (msgBody a)
  then 0 else kcPair

/-- The octets of message input. -/
def keysLen (s : State) : Nat := s.fld F.KEYS_LEN_LEN

/-- APPLY and APPROVE begin: the input is read and judged; an accepted one waits for its apply edge. -/
def applyBegin (s : State) (pair : Bool) : State :=
  let s := { s with keys := { s.keys with used := true } }
  let cmd := if pair then 2 else 1
  withOperand s (min (keysLen s) 40960) fun s d =>
    let cause := if 40960 < keysLen s then kcFormat else if pair then judgePair s d true else judge s d false true
    if cause = 0 then keysBegin s cmd 0 true d else keysBegin (msgRefused s d cause) cmd cause false d

def execApply (s : State) : Host.Outcome State Fault Refusal := .next (s.live fun s => keysCmd s true fun s => applyBegin s false)

def execApprove (s : State) : Host.Outcome State Fault Refusal := .next (s.live fun s => keysCmd s true fun s => applyBegin s true)

/-! ## Effects at the apply edge (R456, R460) -/

/-- A lifecycle transition is burned, never backwards; it takes effect at the next device reset (R439). -/
def burnLifecycle (s : State) (lc : Nat) : State :=
  let s := { s with keys := { s.keys with fuses := { s.keys.fuses with lifecycle := max lc s.keys.fuses.lifecycle } } }
  (s.setFld F.KEYS_STAT_LC_PEND lc).event blkKeys 0x0F07 0 s.keys.lifecycle lc

/-- A KEY_WRITE takes effect: its slot is VALID, its descendants are ORPHANED. -/
def keyWrite (s : State) (m : List Nat) : Nat × State :=
  let b := msgBody m
  let i := b.getD 0 0
  let p := b.getD 1 0
  let (n, s) := orphan s i
  (n, putSlot s i { st := ksValid, typ := b.getD 2 0, use := msgBe b 4 2, parent := p, depth := (s.keySlot p).depth + 1, id := msgBe b 8 4,
                    gen := ((s.keySlot i).gen + 1) % 2 ^ 32, mat := (unwrapKey s m).getD [], tag := [] })

/-- A KEY_INVALIDATE takes effect. -/
def keyInvalidate (s : State) (m : List Nat) : Nat × State :=
  let i := (msgBody m).getD 0 0
  let (n, s) := orphan s i
  (n, putSlot s i { s.keySlot i with st := ksInvalid, mat := [] })

/-- KEY_COUNTER counts an accepted message. -/
def bumpCounter (s : State) : State :=
  (s.setFld F.KEYS_COUNTER_VAL (keyCounter s + 1)).setFlag F.KEYS_STAT_EXPORTED false

/-- An accepted message takes effect. -/
def msgEffect (s : State) (m : List Nat) : State :=
  let k := msgKind m
  let i := (msgBody m).getD 0 0
  let (n, s) := if k = kmWrite then keyWrite s m else if k = kmInvalidate then keyInvalidate s m else (0, burnLifecycle s lcDecommissioned)
  let (p1, s) := if k = kmLifecycle then s.takeFree else (i, s)
  let s := bumpCounter (s.count C.KEYS_MSG_APPLIED)
  let s := s.event blkKeys 0x0F01 0 k p1 (keyCounter s)
  if n = 0 then s else s.event blkKeys 0x0F04 0 i n

/-- An accepted pair writes or removes its record, and clears the partition's measurement of that kind (R459, R460). -/
def pairEffect (s : State) (d : List Nat) : State :=
  let b := msgBody (pairMsgs d).1
  let kind := b.getD 0 0
  let idx := b.getD 1 0
  let size := msgBe b 4 4
  let digest := (b.drop 8).take 32
  let s := bumpCounter (s.count C.KEYS_APPROVALS)
  let recs := if size = 0 && digest.all (· = 0) then sparseDel (recKey kind idx) s.keys.recs
    else sparsePut (recKey kind idx) { size := size, digest := digest, cnt := msgCounter d } s.keys.recs
  let s := { s with keys := { s.keys with recs := recs } }
  let s := if kind = 1 then s.setFlag F.KEYS_T_STAT_IMAGE_OK false idx
    else if kind = 2 then s.setFlag F.KEYS_T_STAT_SET_OK false idx else s
  s.event blkKeys 0x0F01 0 kmApproval (kind * 256 + idx) (keyCounter s)

/-- KEYS_APPLY_EDGE: every condition but the signature is checked again, and the message or pair takes effect or is refused (R456). -/
def keysApplyEdge (s : State) : State :=
  match s.keys.run with
  | none => s
  | some r =>
    if !r.wait then s
    else
      let cause := if r.cmd = 2 then judgePair s r.data false else judge s r.data false false
      let s := { s with keys := { s.keys with run := some { r with wait := false, cause := cause } } }
      if cause ≠ 0 then msgRefused s r.data cause else if r.cmd = 2 then pairEffect s r.data else msgEffect s r.data

def execKeysApplyEdge (s : State) : Host.Outcome State Fault Refusal := .next (s.live keysApplyEdge)

/-! ## Attestation (R466) -/

/-- A slot as attested: 48 octets. -/
def attSlot (k : KeySlot) : List Nat :=
  [k.st, k.typ, k.depth, k.parent] ++ octetsBE 2 k.use ++ octetsBE 2 (if k.st = ksEmpty then 0 else typeLen k.typ) ++ octetsBE 4 k.id ++ octetsBE 4 k.gen
    ++ (if slotPublic k.typ && k.st = ksValid then fitOctets 32 k.mat else List.replicate 32 0)

/-- A record as attested: 40 octets. -/
def attRec (s : State) (kind idx : Nat) : List Nat :=
  match sparseFind (recKey kind idx) s.keys.recs with
  | some r => [1, kind, idx, 0] ++ octetsBE 4 r.size ++ fitOctets 32 r.digest
  | none => [0, kind, idx, 0] ++ List.replicate 36 0

/-- Every approval record in the order of R466. -/
def allRecs : List (Nat × Nat) :=
  ((List.range 128).drop 1).map (fun i => (1, i)) ++ ((List.range 128).drop 1).map (fun i => (2, i)) ++ [(3, 0), (3, 1)]

/-- The words of an array of registers as octets. -/
def wordOctets (s : State) (f : Fld) (n : Nat) : List Nat := (List.range n).flatMap fun i => octetsBE 4 (s.fld (f.el i))

/-- The report body at the command edge. -/
def attReport (s : State) (pset : Nat) (nonce : List Nat) : List Nat :=
  let flags := ofBit (enforce s) + 2 * ofBit (s.fld F.KEYS_TAMP_LATCH ≠ 0) + 4 * s.fld F.KEYS_STAT_VBAT_LOST + 8 * s.fld F.KEYS_STAT_SECRET_LOST
    + 16 * ofBit (keyCounter s ≠ counterConf s)
  [0x44, 0x58, 0x41, 0x52, 1, s.keys.lifecycle, pset, flags] ++ deviceId s ++ octetsBE 4 (s.fld F.SYS_PARTID_PARTID)
    ++ octetsBE 4 (keyCounter s) ++ octetsBE 4 (counterConf s) ++ nonce
    ++ sha256 ((List.range keySlots).flatMap fun i => attSlot (s.keySlot i))
    ++ sha256 (allRecs.flatMap fun (k, i) => attRec s k i)
    ++ wordOctets s F.BOOT_DIGEST_D 8 ++ octetsBE 6 s.time.sec ++ octetsBE 2 (s.fld F.TIME_STAT_EPOCH)
    ++ octetsBE 4 (s.fld F.TIME_STAT_TQ * 2 ^ 30 + s.time.ns) ++ List.replicate 16 0

/-- ATTEST begins: the nonce is read and the report formed. -/
def attestBegin (s : State) : State :=
  let pset := s.fld F.KEYS_ARG_ARG
  if pset ≠ psetS && pset ≠ psetF then keysRefuse s kcFormat
  else withOperand s 32 fun s nonce => keysBegin s 3 0 false (attReport s pset nonce)

def execAttest (s : State) : Host.Outcome State Fault Refusal :=
  .next (s.live fun s => keysCmd s (s.flag F.KEYS_STAT_ID_READY) attestBegin)

/-! ## Measurement (R461) -/

/-- KEYS reads octets of a table's window. -/
def measureRead (s : State) (t off n : Nat) : Option (List Nat) × State := engineRead initKeys (n / 64 + 1) s (laneBase + t * 0x100000 + off) n

/-- Does a record agree with octets measured? -/
def recAgrees (s : State) (kind p : Nat) (l : List Nat) : Bool :=
  match sparseFind (recKey kind p) s.keys.recs with
  | some r => decide (r.size = l.length) && decide (sha256 l = r.digest)
  | none => false

/-- The measurement of a partition: its results, or the cause that refuses it. -/
def measure (s : State) (p : Nat) : Nat × State :=
  match slotOf s p with
  | none => (kcNotFound, s)
  | some (n, j) =>
    match measureRead s n (slotCodeBase s n j * 1024) (slotCodeSize s n j * 1024) with
    | (none, s) => (kcAddress, s)
    | (some img, s) =>
      let size := settingsSize s p
      let fits := decide (size ≤ slotDataSize s n j * 1024)
      match (if fits then measureRead s n (0x40000 + slotDataBase s n j * 1024) size else (some [], s)) with
      | (none, s) => (kcAddress, s)
      | (some set, s) =>
        let i := recAgrees s 1 p img
        let t := fits && recAgrees s 2 p set
        let s := ((s.setFlag F.KEYS_T_STAT_IMAGE_OK i p).setFlag F.KEYS_T_STAT_SET_OK t p).count C.KEYS_MEASURES
        (0, if i && t then s else s.count C.KEYS_MEASURE_FAILS)

def execMeasure (s : State) : Host.Outcome State Fault Refusal := .next (s.live fun s => keysCmd s true fun s => keysBegin s 4 0 false [])

/-! ## The store image (R467 to R469) -/

/-- A slot in the image: 64 octets. -/
def imgSlot (k : KeySlot) : List Nat :=
  [k.st, k.typ, k.depth, k.parent] ++ octetsBE 2 k.use ++ octetsBE 2 k.mat.length ++ octetsBE 4 k.id ++ octetsBE 4 k.gen ++ fitOctets 32 k.mat
    ++ fitOctets 16 k.tag

/-- The slot that 64 octets spell. -/
def slotOfImg (l : List Nat) : KeySlot :=
  { st := l.getD 0 0, typ := l.getD 1 0, depth := l.getD 2 0, parent := l.getD 3 0, use := msgBe l 4 2, id := msgBe l 8 4, gen := msgBe l 12 4
    mat := (l.drop 16).take (min 32 (msgBe l 6 2)), tag := (l.drop 48).take 16 }

def imgRec (s : State) (kind idx : Nat) : List Nat :=
  attRec s kind idx ++ octetsBE 4 (match sparseFind (recKey kind idx) s.keys.recs with | some r => r.cnt | none => 0)

/-- The slots of one half of the image, the others as EMPTY. -/
def imgSlots (s : State) (pick : Nat → Bool) : List Nat :=
  (List.range keySlots).flatMap fun i => let k := s.keySlot i; imgSlot (if pick k.typ then k else KeySlot.reset)

def imgLen : Nat := 65536
def imgPublic : Nat := 32
def imgRecs : Nat := imgPublic + 64 * keySlots
def imgMac : Nat := imgRecs + 44 * 256
def imgSecret : Nat := imgMac + 32
def imgTag : Nat := imgSecret + 64 * keySlots

/-- The image of the live store; the IV is `iv`. -/
def storeImage (s : State) (iv : List Nat) : List Nat :=
  let head := deviceId s ++ octetsBE 4 (keyCounter s) ++ fitOctets 12 iv
  let pub := head ++ imgSlots s slotPublic ++ allRecs.flatMap fun (k, i) => imgRec s k i
  let (ct, tag) := gcmEncrypt (storeKey s) (fitOctets 12 iv) (head.take 20) (imgSlots s slotSecret)
  fitOctets imgLen (pub ++ hmacSha256 (slotKey s) pub ++ ct ++ tag)

/-- The count of an image. -/
def imgCount (d : List Nat) : Nat := msgBe d 16 4

/-- Is a whole image refused (R468)? -/
def imageRefused (s : State) (d : List Nat) : Bool :=
  let n := imgCount d
  decide (hmacSha256 (slotKey s) (d.take imgMac) ≠ (d.drop imgMac).take 32) || decide (d.take 16 ≠ deviceId s)
    || (if s.aon.confOk then decide (n ≠ counterConf s ∧ n ≠ counterConf s + 1) else decide (n < floorMax s))

/-- Load the slots that octets of the image spell. -/
def loadSlots (s : State) (l : List Nat) : State :=
  (List.range keySlots).foldl (fun s i =>
    let k := slotOfImg ((l.drop (64 * i)).take 64)
    if k.st = ksEmpty then s else { s with keys := { s.keys with slots := sparsePut i k s.keys.slots } }) s

/-- Load the records that octets of the image spell. -/
def loadRecs (s : State) (l : List Nat) : State :=
  (List.range 256).foldl (fun s i =>
    let r := (l.drop (44 * i)).take 44
    let key := recKey (r.getD 1 0) (r.getD 2 0)
    if r.getD 0 0 = 0 then s
    else { s with keys := { s.keys with recs := sparsePut key { size := msgBe r 4 4, digest := (r.drop 8).take 32, cnt := msgBe r 40 4 } s.keys.recs } }) s

/-- IMPORT's effect: 0, or STORE; with the event record (R468). -/
def importImage (s : State) (d : List Nat) : Nat × State :=
  let s := { s with keys := { s.keys with slots := [] } }
  if imageRefused s d then
    (kcStore, (s.setFlt F.KEYS_FLT_STORE_REFUSED).event blkKeys 0x0F06 0 kcStore (imgCount d) 0)
  else
    let s := loadRecs (loadSlots { s with keys := { s.keys with recs := [] } } ((d.drop imgPublic).take (64 * keySlots)))
      ((d.drop imgRecs).take (44 * 256))
    let s := match gcmDecrypt (storeKey s) ((d.drop 20).take 12) (d.take 20) ((d.drop imgSecret).take (64 * keySlots)) ((d.drop imgTag).take 16) with
      | some l => loadSlots s l
      | none => s.setFlag F.KEYS_STAT_SECRET_LOST true
    let n := imgCount d
    let s := ((s.setFld F.KEYS_COUNTER_VAL n).setSh F.KEYS_COUNTER_CONF_VAL n).setFlag F.KEYS_STAT_IMPORTED true
    let s := ({ s with aon := { s.aon with confOk := true } }.count C.KEYS_IMPORTS).setFlag F.KEYS_STAT_EXPORTED false
    let bad := (List.range keySlots).filter fun i =>
      decide ((s.keySlot i).st ≠ ksEmpty) && decide ((s.keySlot i).st ≠ ksBad) && !slotSound s (s.keySlot i)
    (0, (bad.foldl slotBad s).event blkKeys 0x0F06 0 0 n bad.length)

def execKeysExport (s : State) : Host.Outcome State Fault Refusal := .next (s.live fun s => keysCmd s true fun s => keysBegin s 5 0 false [])

/-- CONFIRM begins: refused with STORE unless the live count has been exported (R469). -/
def confirmBegin (s : State) : State := if s.flag F.KEYS_STAT_EXPORTED then keysBegin s 6 0 false [] else keysRefuse s kcStore

def execConfirm (s : State) : Host.Outcome State Fault Refusal := .next (s.live fun s => keysCmd s true confirmBegin)

/-- May an image still be imported: once per reset, before any APPLY or APPROVE? -/
def importOpen (s : State) : Bool := !s.flag F.KEYS_STAT_IMPORTED && !s.keys.used

def execImport (s : State) : Host.Outcome State Fault Refusal :=
  .next (s.live fun s => keysCmd s (importOpen s) fun s => withOperand s imgLen fun s d => keysBegin s 7 0 false d)

/-- COMMIT begins: refused with a change pending or no floor word free, and where the count equals the last word burned (R469). -/
def commitBegin (s : State) : State :=
  if s.keys.fuses.floors.head? = some (counterConf s) then
    let (c, s) := openCause s
    keysRefuse s c
  else keysBegin s 8 0 false []

def execCommit (s : State) : Host.Outcome State Fault Refusal :=
  .next (s.live fun s => keysCmd s (decide (keyCounter s = counterConf s) && decide (s.keys.fuses.floors.length < 64)) commitBegin)

/-! ## Root, lifecycle and KTK (R439, R451) -/

/-- Slot 0 becomes the root key (R451). -/
def rootInstall (s : State) (pset : Nat) (key : List Nat) : State :=
  let (n, s) := orphan s 0
  let s := putSlot s 0 { s.keySlot 0 with st := ksValid, typ := pset, use := useKeymgmt, parent := 0, depth := 0, gen := ((s.keySlot 0).gen + 1) % 2 ^ 32, mat := key }
  if n = 0 then s else s.event blkKeys 0x0F04 0 0 n

/-- The cause that refuses a root key, 0 for none; the spec names none for a key that does not match the root hash. -/
def rootCause (s : State) (pset : Nat) (key : List Nat) : Nat × State :=
  if pset ≠ psetS && pset ≠ psetF then (kcFormat, s)
  else if s.keys.fuses.rootHash = some (sha256 (pset :: key)) then (0, s)
  else openCause s

/-- ROOT_INSTALL begins. -/
def rootBegin (s : State) : State :=
  withOperand s 32 fun s key =>
    let (c, s) := rootCause s (s.fld F.KEYS_ARG_ARG) key
    if c = 0 then keysBegin s 9 0 false key else keysRefuse s c

def execRootInstall (s : State) : Host.Outcome State Fault Refusal := .next (s.live fun s => keysCmd s s.keys.fuses.rootHash.isSome rootBegin)

/-- Does KEYS_CTRL.LOCK refuse the fuse commands? -/
def fuseOpen (s : State) : Bool := !s.flag F.KEYS_CTRL_LOCK && decide (s.keys.lifecycle ≤ lcDevelop)

def execBurnRoot (s : State) : Host.Outcome State Fault Refusal :=
  .next (s.live fun s => keysCmd s (fuseOpen s && s.keys.fuses.rootHash.isNone) fun s => withOperand s 32 fun s h => keysBegin s 0xA 0 false h)

/-- Is no lifecycle transition pending? -/
def lcIdle (s : State) : Bool := decide (s.fld F.KEYS_STAT_LC_PEND = 7)

def execLcDevelop (s : State) : Host.Outcome State Fault Refusal :=
  .next (s.live fun s => keysCmd s (fuseOpen s && lcIdle s && decide (s.keys.lifecycle = 0)) fun s => keysBegin s 0xB 0 false [])

def execLcSeal (s : State) : Host.Outcome State Fault Refusal :=
  .next (s.live fun s => keysCmd s (fuseOpen s && lcIdle s && s.keys.fuses.rootHash.isSome) fun s => keysBegin s 0xC 0 false [])

def execLcDecommission (s : State) : Host.Outcome State Fault Refusal :=
  .next (s.live fun s => keysCmd s (fuseOpen s) fun s => keysBegin s 0xD 0 false [])

def execExportKtk (s : State) : Host.Outcome State Fault Refusal :=
  .next (s.live fun s => keysCmd s (decide (s.keys.lifecycle = 0) && !s.keys.fuses.ktk) fun s => keysBegin s 0xE 0 false [])

/-! ## Completion (R464) -/

/-- Write a command's output and go on, or refuse with ADDRESS. -/
def withOutput (s : State) (a : Nat) (l : List Nat) (f : State → State) : State :=
  match keysWrite s a l with
  | (false, s) => keysRefuse s kcAddress
  | (true, s) => keysDone (f s) 0

def State.setFuses (s : State) (f : Fuses) : State := { s with keys := { s.keys with fuses := f } }

/-- A counter floor is burned: the confirmed count. -/
def burnFloor (s : State) : State := s.setFuses { s.keys.fuses with floors := counterConf s :: s.keys.fuses.floors }

/-- The root hash is burned; a burned one stands. -/
def burnRoot (s : State) (h : List Nat) : State := s.setFuses { s.keys.fuses with rootHash := s.keys.fuses.rootHash.or (some h) }

/-- The transport-key fuse is burned. -/
def burnTransport (s : State) : State := s.setFuses { s.keys.fuses with ktk := true }

/-- The command in progress ends. An APPLY or APPROVE ends only after its apply edge. -/
def keysEnd (s : State) : State :=
  match s.keys.run with
  | none => s
  | some r =>
    if r.wait then s
    else if r.cause ≠ 0 then keysRefuse s r.cause
    else match r.cmd with
    | 3 =>
      let sig := fitOctets (sigLen r.arg) (Config.slhSign r.arg (idSeed s r.arg) (signInput r.data))
      withOutput s r.addr (r.data ++ sig) fun s => s.count C.KEYS_ATTESTS
    | 4 =>
      let (c, s) := measure s r.arg
      if c = 0 then keysDone s (2 * s.fld F.KEYS_T_STAT_IMAGE_OK r.arg + s.fld F.KEYS_T_STAT_SET_OK r.arg) else keysRefuse s c
    | 5 =>
      let (iv, s) := s.takeOctets 12
      withOutput s r.addr (storeImage s iv) fun s => (s.count C.KEYS_EXPORTS).setFlag F.KEYS_STAT_EXPORTED true
    | 6 => keysDone (({ s with aon := { s.aon with confOk := true } }.setSh F.KEYS_COUNTER_CONF_VAL (keyCounter s)).count C.KEYS_CONFIRMS) 0
    | 7 =>
      let (c, s) := importImage s r.data
      if c = 0 then keysDone s 0 else keysRefuse s c
    | 8 => keysDone (burnFloor s) 0
    | 9 => keysDone (rootInstall s r.arg r.data) 0
    | 0xA => keysDone (burnRoot s r.data) 0
    | 0xB => keysDone (burnLifecycle s lcDevelop) 0
    | 0xC => keysDone (burnLifecycle s lcSealed) 0
    | 0xD => keysDone (burnLifecycle s lcDecommissioned) 0
    | 0xE => withOutput s r.addr transportKey burnTransport
    | _ => keysDone s 0

/-! ## Tamper (R471, R472) -/

/-- TAMPER_DETECT: at an AON edge the filtered levels of TAMPER_N_1 and TAMPER_N_0 are `levels`; a low of an enabled input erases the salt, latches the
input, and has the secret slots erased at a SYS edge to come. -/
def tamperDetect (s : State) (levels : Nat) : State :=
  let s := s.setSh F.KEYS_TAMP_LEVEL levels
  let low := s.aonFld F.KEYS_TAMP_EN &&& (3 - levels % 4)
  if low = 0 then s
  else
    let (l, s) := s.takeOctets 32
    let s := { s with aon := { s.aon with salt := l }, keys := { s.keys with zeroDue := !s.clk.held } }
    s.setSh F.KEYS_TAMP_LATCH (s.aonFld F.KEYS_TAMP_LATCH ||| low)

def execTamperDetect (levels : Nat) (s : State) : Host.Outcome State Fault Refusal := .next (tamperDetect s levels)

/-- ZEROISATION: every secret slot becomes EMPTY at one apply edge; a command in progress ends with TAMPER unless it has taken effect (R465, R472). -/
def zeroisation (s : State) : State :=
  if !s.keys.zeroDue then s
  else
    let l := (List.range keySlots).filter fun i => slotSecret (s.keySlot i).typ
    let s := { s with keys := { s.keys with zeroDue := false } }
    let s := l.foldl (fun s i => putSlot s i { s.keySlot i with st := ksEmpty, mat := [] }) s
    let s := ((s.count C.KEYS_ZEROISATIONS).setFlt F.KEYS_FLT_TAMPER).event blkKeys 0x0F05 0 (s.fld F.KEYS_TAMP_LATCH) l.length
    match s.keys.run with
    | some r => if r.cmd ≤ 2 && !r.wait && r.cause = 0 then s else keysRefuse s kcTamper
    | none => s


end Sys2Proof.Machine
end

