-- ==== Sys2Proof/Machine/BootOps.lean ====
section
/-! DEFINITION. The flash and its directory (R507 to R510), the bundle's form (R511, R512), the commands of the BOOT mailbox (R519, R520), and
recovery (R521 to R524). -/

namespace Sys2Proof.Machine

def blkBoot : Nat := 17

def bsInit : Nat := 0
def bsLoad : Nat := 1
def bsVerify : Nat := 2
def bsApply : Nat := 3
def bsReady : Nat := 4
def bsRecovery : Nat := 5
def bsFailed : Nat := 6

def bootState (s : State) : Nat := s.fld F.BOOT_STAT_STATE

/-! ## Flash octets -/

/-- An octet of the flash: open in a page that an operation cut short has left, and beyond the end of the device. -/
def flashByte (s : State) (a : Nat) : Nat :=
  if s.boot.size ≤ a then Config.tornByte 0 a % 256
  else match sparseFind (a / 256) s.boot.torn with
    | some m => Config.tornByte (m + 1) a % 256
    | none => sparseGet 0xFF s.boot.flash a % 256

def flashBytes (s : State) (a n : Nat) : List Nat := (List.range n).map fun i => flashByte s (a + i)

/-- Erase octets of whole sectors: they read 0xFF. -/
def flashErase (s : State) (a n : Nat) : State :=
  { s with boot := { s.boot with flash := s.boot.flash.filter fun e => decide (e.1 < a) || decide (a + n ≤ e.1)
                                 torn := s.boot.torn.filter fun e => decide (e.1 < a / 256) || decide ((a + n) / 256 ≤ e.1) } }

/-- Program whole pages: a NOR flash clears bits and sets none. -/
def flashProg (s : State) (a : Nat) (l : List Nat) : State :=
  let v := (flashBytes s a l.length).zipWith (fun x y => x &&& y) l
  let put (m : Sparse Nat) (x : Nat × Nat) : Sparse Nat := if a + x.2 < s.boot.size then sparseSet 0xFF m (a + x.2) x.1 else m
  let pages := s.boot.torn.filter fun e => decide (e.1 < a / 256) || decide ((a + l.length) / 256 ≤ e.1)
  { s with boot := { s.boot with flash := v.zipIdx.foldl put s.boot.flash, torn := pages } }

/-- Octets as pages of 256, the rest of the last page unprogrammed. -/
def padPage (l : List Nat) : List Nat := l ++ List.replicate (roundUp l.length 256 - l.length) 0xFF

/-- A little-endian word of octets. -/
def leAt (l : List Nat) (i : Nat) : Nat := ofOctetsLE ((l.drop (4 * i)).take 4)

/-! ## The directory (R508, R509) -/

def sector : Nat := 0x10000

/-- The regions below which a slot's span must end, beside the slot itself: base and length. -/
def flashFixed (d : FlashDir) : List (Nat × Nat) := [(0, sector), (sector, sector), (d.store0, 0x20000), (d.store1, 0x20000)]

/-- The span of a slot: to the lowest base above its own, or the end of the flash, at most 64 MiB. -/
def slotSpanOf (size : Nat) (d : FlashDir) (slot : Nat) : Nat :=
  let base := if slot = 0 then d.slot0 else d.slot1
  let other := if slot = 0 then d.slot1 else d.slot0
  let above := ((flashFixed d).map Prod.fst ++ [other]).filter fun b => decide (base < b)
  min (64 * mib) (above.foldl min size - base)

def slotBase (s : State) (slot : Nat) : Nat := if slot = 0 then s.boot.dir.slot0 else s.boot.dir.slot1
def flashSpan (s : State) (slot : Nat) : Nat := slotSpanOf s.boot.size s.boot.dir slot

/-- Does a directory's layout pass R509? -/
def flashDirOk (size : Nat) (d : FlashDir) : Bool :=
  let regions := flashFixed d ++ [(d.slot0, slotSpanOf size d 0), (d.slot1, slotSpanOf size d 1)]
  ((pairsOf regions).all fun (x, y) => !rangesMeet x.1 x.2 y.1 y.2) && regions.all (fun r => decide (r.1 + r.2 ≤ size))
    && decide (sector ≤ slotSpanOf size d 0) && decide (sector ≤ slotSpanOf size d 1)

/-- The directory that octets spell, where they are valid. -/
def flashDirAt (s : State) (base : Nat) : Option FlashDir :=
  let l := flashBytes s base 128
  let w (i : Nat) : Nat := leAt l i
  let d : FlashDir :=
    { slot0 := w 2, slot1 := w 3, store0 := w 4, store1 := w 5, pref := w 6 % 2, pset := w 7 % 256
      key := (l.drop 32).take 32, vid := w 16 / 65536 % 4096, rate := w 16 % 4 }
  if crc32c (l.take 124) = w 31 && decide (w 0 = 0x47444952) && flashDirOk s.boot.size d then some d else none

/-- The first valid copy, or the defaults. -/
def flashDirRead (s : State) : FlashDir :=
  match flashDirAt s 0 with
  | some d => d
  | none => (flashDirAt s sector).getD FlashDir.defaults

/-! ## Store copies (R510) -/

def storeCopyLen : Nat := 16 + imgLen

/-- The SEQ of a store copy's octets, where they are valid. -/
def storeSeq (l : List Nat) : Option Nat :=
  if leAt l 0 = 0x4B435331 && decide (leAt l 2 = imgLen) && decide (crc32c ((l.drop 16).take imgLen) = leAt l 3) then some (leAt l 1) else none

/-- Is SEQ `a` higher than `b`, modulo 2^32? -/
def seqHigher (a b : Nat) : Bool := decide (0 < (a + 2 ^ 32 - b) % 2 ^ 32) && decide ((a + 2 ^ 32 - b) % 2 ^ 32 < 2 ^ 31)

/-- The valid copies, in the order in which BOOT offers them. -/
def storeOrder (a b : Option Nat) : List Nat :=
  match a, b with
  | some x, some y => if seqHigher y x then [1, 0] else [0, 1]
  | some _, none => [0]
  | none, some _ => [1]
  | none, none => []

def storeBase (s : State) (k : Nat) : Nat := if k = 0 then s.boot.dir.store0 else s.boot.dir.store1

/-! ## The staging area (R512) -/

/-- Where BOOT reads the bundle to: the upper 64 MiB of the top 65 MiB of installed LPDDR5X. -/
def stageBundle (s : State) : Nat := lpddrBase + lpddrSize s - 64 * mib
/-- Where it reads a store copy to, in the MiB below. -/
def stageStore (s : State) (k : Nat) : Nat := stageBundle s - mib + k * 0x20000

/-! ## The bundle's form (R511, R512) -/

/-- A section entry. -/
structure BootSec where
  typ : Nat
  core : Nat
  dest : Nat
  off : Nat
  len : Nat
  deriving DecidableEq, Repr

/-- The section entries of a header. -/
def bundleSecs (h : List Nat) : List BootSec :=
  (List.range (leAt h 1 % 65536)).map fun i =>
    let w (j : Nat) : Nat := leAt h (16 + 4 * i + j)
    { typ := w 0 / 2 ^ 24, core := w 0 / 2 ^ 16 % 8, dest := w 0 % 16 * 2 ^ 32 + w 3, off := w 1, len := w 2 }

def secRegs : Nat := 1
def secLane : Nat := 2
def secDram : Nat := 3
def secCore : Nat := 4

/-- Is a header refused? -/
def headerBad (h : List Nat) (span : Nat) : Bool :=
  decide (leAt h 0 ≠ 0x47534C31) || decide (leAt h 1 / 2 ^ 24 ≠ 1) || decide (leAt h 5 ≠ 0x44580512)
    || decide (crc32c (h.take 28 ++ [0, 0, 0, 0] ++ (h.drop 32).take 4064) ≠ leAt h 7)
    || decide (252 < leAt h 1 % 65536) || decide (64 * mib < leAt h 2) || decide (span < leAt h 2)

/-- Is a section refused? `b` is the bundle. -/
def sectionBad (s : State) (b : List Nat) (size : Nat) (x : BootSec) : Bool :=
  let stage := stageBundle s - mib
  if x.typ = secCore then false
  else
    decide (x.off < 4096) || decide (x.off % 64 ≠ 0) || decide (x.len % 4 ≠ 0) || decide (size < x.off + x.len)
      || (decide (x.typ = secLane) && decide (0 < x.len) &&
          !(decide (laneBase ≤ x.dest) && decide (x.dest + x.len ≤ laneBase + 24 * 0x100000)
            && decide ((x.dest - laneBase) / 0x100000 = (x.dest + x.len - 1 - laneBase) / 0x100000)
            && lanePopulated (x.dest % 0x100000) && lanePopulated ((x.dest + x.len - 1) % 0x100000)
            && (decide (x.dest % 0x100000 < 0x20000) == decide ((x.dest + x.len - 1) % 0x100000 < 0x20000))))
      || (decide (x.typ = secDram) && decide (0 < x.len) && (!inLpddr s x.dest x.len || decide (stage < x.dest + x.len)))
      || (decide (x.typ = secRegs) && (List.range (x.len / 12)).any fun i =>
          let a := ofOctetsLE ((b.drop (x.off + 12 * i)).take 4)
          !inRegs a || decide (a % 4 ≠ 0))

/-- Are the sections of a bundle refused? -/
def sectionsBad (s : State) (b : List Nat) : Bool :=
  let secs := bundleSecs b
  let cores := (secs.filter fun x => x.typ = secCore).map BootSec.core
  hasDup cores || secs.any (sectionBad s b (leAt b 2))

/-- A span in which nothing is refused. -/
def bundleForm (s : State) (b : List Nat) (span : Nat) : Nat := if headerBad b span then 3 else if sectionsBad s b then 4 else 0

/-! ## The BOOT mailbox (R519, R520) -/

/-- A BOOT command is written: refused with CMD_REFUSED, or begun. -/
def bootMbx (s : State) (refused : Bool) (op : FlashOp) : State :=
  if s.flag (mbxBusy blkBoot) then (s.mbxRefuseBusy blkBoot).setFlt F.BOOT_FLT_CMD_REFUSED
  else if refused then (s.mbxRefuse blkBoot).setFlt F.BOOT_FLT_CMD_REFUSED
  else
    let d (j : Nat) : Nat := s.mbxD blkBoot j
    let s := s.mbxStart blkBoot { cmd := op.cmd, ok := true, d0 := d 0, d1 := d 1, d2 := d 2, d3 := d 3 }
    { s with boot := { s.boot with op := some op } }

/-- The operands of a flash command. -/
def flashOperands (s : State) (cmd : Nat) : FlashOp :=
  { cmd := cmd, off := s.mbxD blkBoot 0, len := s.mbxD blkBoot 1, addr := s.mbxD blkBoot 3 % 16 * 2 ^ 32 + s.mbxD blkBoot 2, start := s.clk.ns }

/-- Does a range meet the running bundle's extent? -/
def meetsRunning (s : State) (a n : Nat) : Bool :=
  decide (bootState s = bsReady) && rangesMeet a n (slotBase s (s.fld F.BOOT_STAT_SLOT)) (roundUp s.boot.bundle sector)

/-- Is the LPDDR5X side of a flash command refused: outside the installed memory, or by Breakwater under tag 0? -/
def flashMemBad (s : State) (kind : Nat) (o : FlashOp) : Bool × State :=
  if o.len = 0 then (false, s)
  else if !inLpddr s o.addr o.len then (true, s)
  else
    let (ok, s) := bwAdmit s initBoot 0 kind o.addr o.len
    (!ok, s)

/-- Refuse a flash command whose operands are bad, then check its memory. -/
def flashCmd (s : State) (kind : Nat) (bad : Bool) (o : FlashOp) : State :=
  if s.flag (mbxBusy blkBoot) || bad then bootMbx s bad o
  else
    let (mb, s) := flashMemBad s kind o
    bootMbx s mb o

def flashReadCmd (s : State) : State :=
  let o := flashOperands s 1
  flashCmd s kindWrite (decide (o.len % 4 ≠ 0)) o

/-- FLASH_READ. -/
def execFlashRead (s : State) : Host.Outcome State Fault Refusal := .next (s.live flashReadCmd)

def flashEraseCmd (s : State) : State :=
  let o := flashOperands s 2
  bootMbx s (decide (o.off % sector ≠ 0) || decide (o.len % sector ≠ 0) || meetsRunning s o.off o.len) o

/-- FLASH_ERASE. -/
def execFlashErase (s : State) : Host.Outcome State Fault Refusal := .next (s.live flashEraseCmd)

def flashProgCmd (s : State) : State :=
  let o := flashOperands s 3
  flashCmd s kindRead (decide (o.off % 256 ≠ 0) || decide (o.len % 256 ≠ 0) || meetsRunning s o.off o.len) o

/-- FLASH_PROG. -/
def execFlashProg (s : State) : Host.Outcome State Fault Refusal := .next (s.live flashProgCmd)

def bootConfirmCmd (s : State) : State := bootMbx s (decide (bootState s ≠ bsReady)) (flashOperands s 4)

/-- CONFIRM. -/
def execBootConfirm (s : State) : Host.Outcome State Fault Refusal := .next (s.live bootConfirmCmd)

def setTrialCmd (s : State) : State := bootMbx s (decide (bootState s ≠ bsReady) || s.flag F.AON_BOOT_TRIED) (flashOperands s 5)

/-- SET_TRIAL. -/
def execSetTrial (s : State) : Host.Outcome State Fault Refusal := .next (s.live setTrialCmd)

def forceRecoveryCmd (s : State) : State := bootMbx s false (flashOperands s 6)

/-- FORCE_RECOVERY. -/
def execForceRecovery (s : State) : Host.Outcome State Fault Refusal := .next (s.live forceRecoveryCmd)

/-- Set or clear a bit of AON_BOOT.BAD. -/
def setBad (s : State) (slot : Nat) (v : Bool) : State :=
  let b := s.aonFld F.AON_BOOT_BAD
  s.setSh F.AON_BOOT_BAD (if v then b ||| 2 ^ slot else b - (b &&& 2 ^ slot))

def slotIsBad (s : State) (slot : Nat) : Bool := bitOf (s.aonFld F.AON_BOOT_BAD) slot

/-- A programming clears the BAD bit of a slot into whose span it has written (R520). -/
def clearBadIn (s : State) (a n : Nat) : State :=
  [0, 1].foldl (fun s k => if rangesMeet a n (slotBase s k) (flashSpan s k) then setBad s k false else s) s

/-- The command in progress ends with ERR. -/
def bootFail (s : State) : State :=
  let s := match sparseFind blkBoot s.mbx with
    | some r => { s with mbx := sparsePut blkBoot { r with ok := false } s.mbx }
    | none => s
  s.mbxEnd blkBoot

/-- The command of the BOOT mailbox ends. -/
def bootCmdEnd (s : State) (o : FlashOp) : State :=
  let run := s.fld F.BOOT_STAT_SLOT
  if o.cmd = 1 then
    match engineWrite initBoot (o.len / 64 + 1) s o.addr (flashBytes s o.off o.len) with
    | (true, s) => s.mbxEnd blkBoot
    | (false, s) => bootFail s
  else if o.cmd = 2 then (flashErase s o.off o.len).mbxEnd blkBoot
  else if o.cmd = 3 then
    match engineRead initBoot (o.len / 64 + 1) s o.addr o.len with
    | (none, s) => bootFail s
    | (some l, s) =>
      let s := flashProg s o.off l
      if flashBytes s o.off o.len = l then (clearBadIn s o.off o.len).mbxEnd blkBoot else bootFail s
  else if o.cmd = 4 then
    let s := (setBad ((s.setSh F.AON_BOOT_PREF run).setSh F.AON_BOOT_TRIED 0) run false).event blkBoot 0x1105 0
    s.mbxEnd blkBoot
  else if o.cmd = 5 then (s.setSh F.AON_BOOT_TRIAL 1).mbxEnd blkBoot
  else (s.setSh F.AON_BOOT_FORCE_RECOV 1).mbxEnd blkBoot

/-- FLASH_OP_TIMEOUT: a flash operation not reported done within 4 s ends with ERR and sets FLASH_ERR. What it has left where it writes, no rule states. -/
def flashOpTimeout (s : State) : State :=
  match s.boot.op with
  | none => s
  | some o =>
    if 3 < o.cmd || s.clk.ns < o.start + 4000000000 then s
    else
      let m := s.freeCtr
      let s := { s with freeCtr := m + 1, boot := { s.boot with torn := flashTorn s, op := none } }
      let s := if o.cmd = 1 then s.setMemBytes o.addr ((List.range o.len).map fun i => Config.tornByte (m + 1) (o.off + i) % 256) else s
      (bootFail s).setFlt F.BOOT_FLT_FLASH_ERR

def execFlashOpTimeout (s : State) : Host.Outcome State Fault Refusal := .next (s.live flashOpTimeout)

/-! ## Recovery (R521 to R524) -/

/-- The recovery source address: 0x02 and octets 0 to 4 of DEVICE_ID. -/
def recoverySa (s : State) : Nat := 0x02 * 2 ^ 40 + ofOctetsBE ((deviceId s).take 5)

/-- BOOT enters RECOVERY: PORT_7 runs at RECOV_RATE with no FEC, and at 1000BASE-X with AN_EN 1 (R521). -/
def enterRecovery (s : State) : State :=
  let s := ((s.setFld F.BOOT_STAT_STATE bsRecovery).event blkBoot 0x1103 0).setSh F.AON_STAT_VALID 1
  let rate := s.boot.dir.rate
  let mode := if rate = 0 then pm1000X else if rate = 2 then pm25G else pm10G
  let s := ((s.setFld F.PORT_P_CTL_MODE mode 7).setFld F.PORT_P_CTL_FEC 0 7).setFlag F.PORT_P_CTL_AN_EN true 7
  let s := (s.setFld F.PORT_P_SA_HI_SA (recoverySa s / 2 ^ 32) 7).setFld F.PORT_P_SA_LO_SA (recoverySa s) 7
  portEnable s 7

/-- Does BOOT take a frame from PORT_7 (R522)? -/
def recoveryTakes (s : State) (f : Frame) (fcsOk : Bool) : Bool :=
  decide (bootState s = bsRecovery) && fcsOk && f.hsr.isNone && decide (f.tag.map VTag.vid = some s.boot.dir.vid) && decide (f.etype = 0x88B6)
    && (decide (f.dst = recoverySa s) || decide (f.dst = 2 ^ 48 - 1))

/-- The reply to a request (R523). -/
def recoveryReply (s : State) (f : Frame) (m : RecMsg) (status : Nat) (data : List Nat) : State :=
  let r : RecMsg := { op := m.op ||| 0x8000, token := m.token, arg0 := status, arg1 := 0, data := data }
  let g : Frame := { f with src := recoverySa s, dst := f.src, payload := .recovery r, len := max 64 (18 + 4 + 16 + data.length) }
  { s with boot := { s.boot with reply := some g } }

/-- A request of an operation, or none: the frame is one that BOOT takes and carries it. -/
def recoveryReq (s : State) (f : Frame) (fcsOk : Bool) (op : Nat) : Option RecMsg :=
  if !recoveryTakes s f fcsOk then none
  else match f.payload with
    | .recovery m => if m.op = op && decide (m.data.length ≤ 1024) then some m else none
    | _ => none

/-- Handle a request: BUSY while another is in progress. -/
def recoveryOp (s : State) (f : Frame) (fcsOk : Bool) (op : Nat) (g : State → RecMsg → State) : State :=
  match recoveryReq s f fcsOk op with
  | none => s
  | some m => if s.boot.req.isSome then recoveryReply s f m 0x001 [] else g s m

/-- The request in progress ends with a status. -/
def recoveryEnd (s : State) (status : Nat) : State :=
  match s.boot.req with
  | some f =>
    let s := { s with boot := { s.boot with req := none } }
    match f.payload with
    | .recovery m => recoveryReply s f m status []
    | _ => s
  | none => s

def infoData (s : State) : List Nat :=
  deviceId s ++ octetsBE 4 (keyCounter s) ++ octetsBE 4 (counterConf s)
    ++ [s.keys.lifecycle, s.fld F.BOOT_CAUSE_SLOT0, s.fld F.BOOT_CAUSE_SLOT1, 0]

/-- INFO. -/
def execInfo (f : Frame) (fcsOk : Bool) (s : State) : Host.Outcome State Fault Refusal :=
  .next (s.live fun s => recoveryOp s f fcsOk 1 fun s m => recoveryReply s f m 0 (infoData s))

def recoveryStage (s : State) (f : Frame) (m : RecMsg) : State :=
  if 64 * mib < m.arg0 + m.data.length || m.arg0 % 4 ≠ 0 || m.data.length % 4 ≠ 0 then recoveryReply s f m 0x002 []
  else
    let (ok, s) := engineWrite initBoot (m.data.length / 64 + 1) s (stageBundle s + m.arg0) m.data
    recoveryReply s f m (if ok then 0 else 0x002) []

/-- STAGE. -/
def execStage (f : Frame) (fcsOk : Bool) (s : State) : Host.Outcome State Fault Refusal :=
  .next (s.live fun s => recoveryOp s f fcsOk 2 fun s m => recoveryStage s f m)

/-- The status of a refusal by KEYS. -/
def keysStatus (cause : Nat) : Nat := 0x100 + cause
def kcBusy : Nat := 0x0C

/-- Give KEYS a command for a request: refused at once, it ends the request; begun, the request waits for its end. -/
def recoveryKeys (s : State) (f : Frame) (m : RecMsg) (cmd : State → State) : State :=
  if s.flag (mbxBusy blkKeys) then recoveryReply s f m (keysStatus kcBusy) []
  else
    let s := cmd s
    if s.flag (mbxBusy blkKeys) then { s with boot := { s.boot with req := some f } }
    else recoveryReply s f m (keysStatus (s.mbxD blkKeys 0)) []

/-- The operand registers of KEYS, as BOOT sets them. -/
def keysOperand (s : State) (a len arg : Nat) : State :=
  (((s.setFld F.KEYS_ADDR_HI_ADDR (a / 2 ^ 32)).setFld F.KEYS_ADDR_LO_ADDR (a % 2 ^ 32 / 64)).setFld F.KEYS_LEN_LEN len).setFld F.KEYS_ARG_ARG arg

/-- A staged message or pair is given to KEYS; the operand address of KEYS is a multiple of 64. -/
def recoveryApply (s : State) (f : Frame) (m : RecMsg) (pair : Bool) : State :=
  if m.arg0 % 64 ≠ 0 || 64 * mib < m.arg0 + m.arg1 then recoveryReply s f m (keysStatus kcAddress) []
  else recoveryKeys s f m fun s =>
    keysCmd (keysOperand s (stageBundle s + m.arg0) m.arg1 0) true fun s => applyBegin s pair

/-- KEYMSG. -/
def execKeymsg (f : Frame) (fcsOk : Bool) (s : State) : Host.Outcome State Fault Refusal :=
  .next (s.live fun s => recoveryOp s f fcsOk 3 fun s m => recoveryApply s f m false)

/-- APPROVE. -/
def execRecoveryApprove (f : Frame) (fcsOk : Bool) (s : State) : Host.Outcome State Fault Refusal :=
  .next (s.live fun s => recoveryOp s f fcsOk 4 fun s m => recoveryApply s f m true)

/-- ROOT: the key is in the request. -/
def recoveryRoot (s : State) (f : Frame) (m : RecMsg) : State :=
  recoveryKeys s f m fun s =>
    keysCmd (keysOperand s (stageStore s 0) 32 m.arg0) s.keys.fuses.rootHash.isSome fun s =>
      let key := fitOctets 32 m.data
      let (c, s) := rootCause s m.arg0 key
      if c = 0 then keysBegin s 9 0 false key else keysRefuse s c

/-- ROOT. -/
def execRoot (f : Frame) (fcsOk : Bool) (s : State) : Host.Outcome State Fault Refusal :=
  .next (s.live fun s => recoveryOp s f fcsOk 5 fun s m => recoveryRoot s f m)

/-- SAVE_STORE begins with EXPORT; the image is programmed and confirmed as the operations end. -/
def recoverySave (s : State) (f : Frame) (m : RecMsg) : State :=
  recoveryKeys s f m fun s => keysCmd (keysOperand s (stageStore s 0) 0 0) true fun s => keysBegin s 5 0 false []

/-- SAVE_STORE. -/
def execSaveStore (f : Frame) (fcsOk : Bool) (s : State) : Host.Outcome State Fault Refusal :=
  .next (s.live fun s => recoveryOp s f fcsOk 6 fun s m => recoverySave s f m)

/-- PROGRAM's first check: the BUNDLE record is VALID and agrees with the staged octets (R524). -/
def stagedApproved (s : State) (slot : Nat) (b : List Nat) : Bool := recAgrees s 3 slot b

def recoveryProgram (s : State) (f : Frame) (m : RecMsg) : State :=
  if 1 < m.arg0 || 64 * mib < m.arg1 then recoveryReply s f m 0x003 []
  else
    match engineRead initBoot (m.arg1 / 64 + 1) s (stageBundle s) m.arg1 with
    | (none, s) => recoveryReply s f m 0x003 []
    | (some b, s) =>
      if !stagedApproved s m.arg0 b then recoveryReply s f m 0x003 []
      else if bundleForm s b (flashSpan s m.arg0) ≠ 0 then recoveryReply s f m 0x004 []
      else
        let o : FlashOp := { cmd := 0x10, off := slotBase s m.arg0, len := roundUp m.arg1 sector, addr := stageBundle s, start := s.clk.ns }
        { s with boot := { s.boot with req := some f, op := some o } }

/-- PROGRAM. -/
def execProgram (f : Frame) (fcsOk : Bool) (s : State) : Host.Outcome State Fault Refusal :=
  .next (s.live fun s => recoveryOp s f fcsOk 7 fun s m => recoveryProgram s f m)

/-- REBOOT: the reply is sent, then device reset with cause SW. -/
def recoveryReboot (s : State) (f : Frame) (m : RecMsg) : State :=
  let s := recoveryReply s f m 0 []
  let r := assertReset s causeSw
  { r with boot := { r.boot with reply := s.boot.reply } }

def execReboot (f : Frame) (fcsOk : Bool) (s : State) : Host.Outcome State Fault Refusal :=
  .next (s.live fun s => recoveryOp s f fcsOk 8 fun s m => recoveryReboot s f m)

/-! ## What ends later -/

/-- The slot and SIZE that the request in progress names. -/
def reqArgs (s : State) : Nat × Nat :=
  match s.boot.req.map Frame.payload with
  | some (.recovery m) => (m.arg0, m.arg1)
  | _ => (0, 0)

/-- PROGRAM ends: the slot is erased, programmed and read back, and its BAD bit is cleared (R524). -/
def programEnd (s : State) (o : FlashOp) : State :=
  let (slot, size) := reqArgs s
  match engineRead initBoot (size / 64 + 1) s o.addr size with
  | (none, s) => recoveryEnd s 0x005
  | (some b, s) =>
    let s := flashProg (flashErase s o.off o.len) o.off (padPage b)
    if flashBytes s o.off size = b then recoveryEnd (setBad s slot false) 0 else recoveryEnd s 0x005

/-- The store copy that an export is written to, and its SEQ: the copy with the lower SEQ takes the higher SEQ plus one (R510). -/
def storeTarget (s : State) : (Nat × Nat) × State :=
  let seq (k : Nat) : Option Nat := storeSeq (flashBytes s (storeBase s k) storeCopyLen)
  match seq 0, seq 1 with
  | some x, some y => if seqHigher y x then ((0, (y + 1) % 2 ^ 32), s) else ((1, (x + 1) % 2 ^ 32), s)
  | some x, none => ((1, (x + 1) % 2 ^ 32), s)
  | none, some y => ((0, (y + 1) % 2 ^ 32), s)
  | none, none =>
    let (v, s) := s.takeFree
    ((0, v % 2 ^ 32), s)

/-- An EXPORT of SAVE_STORE has ended: its image is to be programmed. -/
def saveProgram (s : State) : State :=
  let k := (storeTarget s).1.1
  { s with boot := { s.boot with op := some { cmd := 0x11, off := storeBase s k, len := 0x20000, addr := stageStore s 0, start := s.clk.ns } } }

/-- The image of SAVE_STORE has been programmed: CONFIRM follows. -/
def saveEnd (s : State) (o : FlashOp) : State :=
  match engineRead initBoot (imgLen / 64 + 1) s o.addr imgLen with
  | (none, s) => recoveryEnd s 0x005
  | (some img, s) =>
    let x := storeTarget s
    let s := x.2
    let l := octetsLE 4 0x4B435331 ++ octetsLE 4 x.1.2 ++ octetsLE 4 imgLen ++ octetsLE 4 (crc32c img) ++ img
    let s := flashProg (flashErase s o.off o.len) o.off (padPage l)
    if flashBytes s o.off l.length ≠ l then recoveryEnd s 0x005
    else if s.flag (mbxBusy blkKeys) then recoveryEnd s (keysStatus kcBusy)
    else
      let s := keysCmd s true confirmBegin
      if s.flag (mbxBusy blkKeys) then s else recoveryEnd s (keysStatus (s.mbxD blkKeys 0))

/-- A flash operation is reported done. -/
def bootEnd (s : State) : State :=
  match s.boot.op with
  | none => s
  | some o =>
    if o.cmd ≤ 3 && o.start + 4000000000 ≤ s.clk.ns then s
    else
    let s := { s with boot := { s.boot with op := none } }
    if o.cmd = 0x10 then programEnd s o else if o.cmd = 0x11 then saveEnd s o else bootCmdEnd s o

/-- A command of KEYS that a request of recovery gave has ended: EXPORT goes on to its programming, any other ends the request. -/
def recoveryKeysEnd (s : State) (cmd : Nat) : State :=
  if s.boot.req.isNone || s.boot.op.isSome then s
  else if s.flag (mbxValid blkKeys) then (if cmd = 5 then saveProgram s else recoveryEnd s 0)
  else recoveryEnd s (keysStatus (s.mbxD blkKeys 0))

/-- ZEROISATION, with the end of a request of recovery whose command of KEYS it ends (R465, R472). -/
def zeroise (s : State) : State :=
  let s' := zeroisation s
  match s.keys.run with
  | none => s'
  | some r => if s'.keys.run.isSome then s' else recoveryKeysEnd s' r.cmd

def execZeroisation (s : State) : Host.Outcome State Fault Refusal := .next (s.live zeroise)

/-- MAILBOX_COMPLETE: the mailbox command in progress of a block ends (R488); for KEYS with its results (R464), for BOOT with the flash operation. -/
def mailboxComplete (s : State) (blk : Nat) : State :=
  if blk = blkKeys then
    match s.keys.run with
    | none => s
    | some r =>
      let s := keysEnd s
      if s.keys.run.isSome then s else recoveryKeysEnd s r.cmd
  else if blk = blkBoot then bootEnd s
  else s.mbxEnd blk

def execMailboxComplete (blk : Nat) (s : State) : Host.Outcome State Fault Refusal := .next (s.live fun s => mailboxComplete s blk)

end Sys2Proof.Machine
end

