-- ==== Sys2Proof/Machine/Paging.lean ====
section
/-! DEFINITION. The page tables that the application cores and the IOMMU walk (R419, R425): Sv39 and Sv48 with the wider root of their G-stage forms. The
spec names the schemes; their walks are those of the RISC-V privileged specification. -/

namespace Sys2Proof.Machine

/-- What a read of a page table entry gives: its value, no value for an access error, or a guest page fault at a guest address. -/
inductive PteRes where
  | val (v : Nat)
  | access
  | guest (gpa : Nat)

/-- What a walk gives: the address, a page fault, an access fault, or a guest page fault met by a read of an entry. -/
inductive WalkRes where
  | ok (pa : Nat)
  | page
  | access
  | guest (gpa : Nat)
  deriving DecidableEq, Repr

/-- A page-table scheme: its levels and whether its root is four times as wide. -/
structure PageCfg where
  levels : Nat
  wide : Bool
  deriving DecidableEq, Repr

/-- The scheme of a MODE field: 8 for Sv39, 9 for Sv48; none for another. -/
def pageCfg (mode : Nat) (wide : Bool) : Option PageCfg :=
  if mode = 8 then some ⟨3, wide⟩ else if mode = 9 then some ⟨4, wide⟩ else none

/-- The bits of an address that a scheme translates. -/
def PageCfg.bits (c : PageCfg) : Nat := 12 + 9 * c.levels + if c.wide then 2 else 0

/-- Is an address one that a scheme translates: sign-extended, or for a G-stage zero-extended? -/
def PageCfg.canonical (c : PageCfg) (va : Nat) : Bool :=
  if c.wide then decide (va < 2 ^ c.bits) else decide (va = unsigned 64 (signed c.bits va))

def pteV (p : Nat) : Bool := bitOf p 0
def pteR (p : Nat) : Bool := bitOf p 1
def pteW (p : Nat) : Bool := bitOf p 2
def pteX (p : Nat) : Bool := bitOf p 3
def pteU (p : Nat) : Bool := bitOf p 4
def pteA (p : Nat) : Bool := bitOf p 6
def pteD (p : Nat) : Bool := bitOf p 7
def ptePpn (p : Nat) : Nat := bitsOf p 53 10

/-- One entry of the walk at a level: a fault, the end at a leaf, or the next table. -/
def walkEntry (leaf : Nat → Bool) (lvl va p : Nat) : WalkRes ⊕ Nat :=
  if !pteV p || (pteW p && !pteR p) || bitsOf p 63 54 ≠ 0 then .inl .page
  else if pteR p || pteX p then
    if !leaf p || ptePpn p % 2 ^ (9 * lvl) ≠ 0 then .inl .page
    else .inl (.ok (ptePpn p * 4096 + va % 2 ^ (12 + 9 * lvl)))
  else if pteA p || pteD p || pteU p then .inl .page
  else .inr (ptePpn p * 4096)

/-- Walk the levels below and including `lvl - 1`, reading entries by `rd`. -/
def walkLevels (rd : State → Nat → PteRes × State) (leaf : Nat → Bool) (va : Nat) : Nat → Bool → State → Nat → WalkRes × State
  | 0, _, s, _ => (.page, s)
  | l + 1, wide, s, base =>
    let idx := va / 2 ^ (12 + 9 * l) % 2 ^ (if wide then 11 else 9)
    match rd s (base + idx * 8) with
    | (.access, s) => (.access, s)
    | (.guest g, s) => (.guest g, s)
    | (.val p, s) =>
      match walkEntry leaf l va p with
      | .inl r => (r, s)
      | .inr next => walkLevels rd leaf va l false s next

/-- Translate an address under a scheme with its root page number. -/
def walk (rd : State → Nat → PteRes × State) (leaf : Nat → Bool) (c : PageCfg) (root va : Nat) (s : State) : WalkRes × State :=
  if c.canonical va then walkLevels rd leaf va c.levels c.wide s (root * 4096) else (.page, s)

/-- Read an entry of 8 octets at a physical address as an engine does. -/
def readPte (init tag : Nat) (s : State) (pa : Nat) : PteRes × State :=
  match dmaRead s init tag pa 8 with
  | (some l, s) => (.val (ofOctetsLE l), s)
  | (none, s) => (.access, s)

/-- An access as page tables judge it. -/
inductive AccKind where
  | read | write | fetch
  deriving DecidableEq, Repr

/-- Does a leaf entry grant an access, with its A and D bits set? -/
def pteGrants (k : AccKind) (mxr : Bool) (p : Nat) : Bool :=
  pteA p && match k with
    | .read => pteR p || (mxr && pteX p)
    | .write => pteW p && pteD p
    | .fetch => pteX p

end Sys2Proof.Machine
end

