-- ==== Sys2Proof/Machine/Iommu.lean ====
section
/-! DEFINITION. The IOMMU (R425, R426): its register set, device contexts, translation, command queue and fault queue. The spec names the
RISC-V IOMMU specification for the layout; what it supports is as R425 lists it. -/

namespace Sys2Proof.Machine

/-! ## Registers, as 32-bit words by offset -/

def State.iow (s : State) (off : Nat) : Nat := sparseGet 0 s.core.iommu off

def State.setIow (s : State) (off v : Nat) : State :=
  { s with core := { s.core with iommu := sparseSet 0 s.core.iommu off (v % 2 ^ 32) } }

/-- A register of 64 bits. -/
def State.iod (s : State) (off : Nat) : Nat := s.iow off + s.iow (off + 4) * 2 ^ 32

def ioDdtp : Nat := 0x10
def ioCqb : Nat := 0x18
def ioCqh : Nat := 0x20
def ioCqt : Nat := 0x24
def ioFqb : Nat := 0x28
def ioFqh : Nat := 0x30
def ioFqt : Nat := 0x34
def ioCqcsr : Nat := 0x48
def ioFqcsr : Nat := 0x4C
def ioIpsr : Nat := 0x54

/-- The words that read as constants: version 1.0, Sv39, Sv48, Sv39x4, Sv48x4 and 36 bits of physical address. -/
def ioCapLo : Nat := 0x10 + 2 ^ 9 + 2 ^ 10 + 2 ^ 17 + 2 ^ 18
def ioCapHi : Nat := 36

/-- The mode of the device directory: 0 Off, 1 Bare, 2 one level. It is Bare at device reset, which the model keeps as the stored word with its
lowest bit inverted. -/
def ddtMode (s : State) : Nat := (s.iow ioDdtp ^^^ 1) % 16

def ddtBase (s : State) : Nat := bitsOf (s.iod ioDdtp) 53 10 * 4096

/-- A queue's entries and base. -/
def queueSize (s : State) (qb : Nat) : Nat := 2 ^ (s.iod qb % 32 + 1)
def queueBase (s : State) (qb : Nat) : Nat := bitsOf (s.iod qb) 53 10 * 4096

/-- A register word as read. -/
def iommuRead (s : State) (off : Nat) : Nat :=
  if off = 0 then ioCapLo else if off = 4 then ioCapHi
  else if off = ioDdtp then s.iow ioDdtp ^^^ 1
  else s.iow off

/-- A queue's control and status register is written: enable and interrupt enable take the value, its error bits in `w1c` are cleared by 1, and an enable from
0 to 1 sets the index that the IOMMU moves, and the error bits, to 0. -/
def queueCsr (s : State) (csr idx w1c v : Nat) : State :=
  let old := s.iow csr
  let err := (old &&& w1c) - (old &&& w1c &&& v)
  if v % 2 = 1 && old % 2 = 0 then (s.setIow idx 0).setIow csr (v % 4 + 2 ^ 16)
  else s.setIow csr (v % 4 + err + (v % 2) * 2 ^ 16)

/-- A register word is written. -/
def iommuWrite (s : State) (off v : Nat) : State :=
  if off = ioDdtp then
    let m := if v % 16 ≤ 2 then v % 16 else ddtMode s
    s.setIow off ((bitsOf v 31 10 * 2 ^ 10 + m) ^^^ 1)
  else if off = ioDdtp + 4 || off = ioCqb + 4 || off = ioFqb + 4 then s.setIow off (v % 2 ^ 22)
  else if off = ioCqb || off = ioFqb then s.setIow off (bitsOf v 31 10 * 2 ^ 10 + v % 32)
  else if off = ioCqt then s.setIow off (v % queueSize s ioCqb)
  else if off = ioFqh then s.setIow off (v % queueSize s ioFqb)
  else if off = ioCqcsr then queueCsr s ioCqcsr ioCqh 0xF00 v
  else if off = ioFqcsr then queueCsr s ioFqcsr ioFqt 0x300 v
  else if off = ioIpsr then s.setIow off (s.iow off - (s.iow off &&& v &&& 3))
  else if off = 0x2F8 then s.setIow off (v % 256)
  else if 0x300 ≤ off && off < 0x400 then s.setIow off v
  else s

/-- Set bits of a register word. -/
def State.orIow (s : State) (off m : Nat) : State := s.setIow off (s.iow off ||| m)

/-! ## Faults -/

/-- A fault of the fault queue: its cause, the device, whether the access was a write, and the two addresses. -/
structure IoFault where
  cause : Nat
  dev : Nat
  write : Bool
  iova : Nat
  iova2 : Nat

/-- A fault goes to the fault queue (R426): 32 octets at its tail, unless the queue is off or full or its write fails. -/
def ioReport (s : State) (f : IoFault) : State :=
  if s.iow ioFqcsr / 2 ^ 16 % 2 = 0 || s.iow ioFqcsr / 2 ^ 8 % 4 ≠ 0 then s
  else
    let irq (s : State) : State := if s.iow ioFqcsr / 2 % 2 = 1 then s.orIow ioIpsr 2 else s
    let t := s.iow ioFqt
    let next := (t + 1) % queueSize s ioFqb
    if next = s.iow ioFqh then irq (s.orIow ioFqcsr 0x200)
    else
      let rec0 := f.cause + (if f.write then 3 else 2) * 2 ^ 34 + f.dev * 2 ^ 40
      match dmaWrite s initOther 0 (queueBase s ioFqb + t * 32) (octetsLE 8 rec0 ++ octetsLE 8 0 ++ octetsLE 8 f.iova ++ octetsLE 8 f.iova2) with
      | (true, s) => irq (s.setIow ioFqt next)
      | (false, s) => irq (s.orIow ioFqcsr 0x100)

/-! ## Translation -/

/-- What translation gives: a physical address, or a fault's cause and second address. -/
inductive IoRes where
  | ok (pa : Nat)
  | fault (cause iova2 : Nat)

/-- A device context's four double words. -/
def ioContext (s : State) (dev : Nat) : Option (List Nat) × State :=
  match dmaRead s initOther 0 (ddtBase s + dev * 32) 32 with
  | (some l, s) => (some ((List.range 4).map fun i => ofOctetsLE ((l.drop (8 * i)).take 8)), s)
  | (none, s) => (none, s)

/-- Is a device context misconfigured for what R425 supports: no process directory, ATS, PRI or hardware update of A and D bits, and only the
listed stages? -/
def dcBad (tc gatp fsc : Nat) : Bool :=
  let okMode (m : Nat) : Bool := decide (m = 0) || decide (m = 8) || decide (m = 9)
  decide (bitsOf tc 3 1 ≠ 0) || decide (bitsOf tc 11 5 ≠ 0) || !okMode (gatp / 2 ^ 60) || !okMode (fsc / 2 ^ 60)
    || (decide (gatp / 2 ^ 60 ≠ 0) && decide (gatp % 4 ≠ 0))

/-- The G-stage of a device: guest physical to physical. -/
def ioGstage (gatp : Nat) (k : AccKind) (gpa : Nat) (s : State) : WalkRes × State :=
  match pageCfg (gatp / 2 ^ 60) true with
  | none => (.ok gpa, s)
  | some c => walk (readPte initOther 0) (fun p => pteU p && pteGrants k false p) c (gatp % 2 ^ 44) gpa s

/-- A read of a first-stage entry, itself through the G-stage. -/
def ioPte (gatp : Nat) (s : State) (gpa : Nat) : PteRes × State :=
  match ioGstage gatp .read gpa s with
  | (.ok pa, s) => readPte initOther 0 s pa
  | (.access, s) => (.access, s)
  | (_, s) => (.guest gpa, s)

/-- The causes of a page fault, guest page fault and access fault of a read or a write. -/
def ioCauses (write : Bool) : Nat × Nat × Nat := if write then (15, 23, 7) else (13, 21, 5)

/-- Both stages of a device context. -/
def ioStages (gatp fsc : Nat) (write : Bool) (iova : Nat) (s : State) : IoRes × State :=
  let k := if write then AccKind.write else .read
  let (pf, gf, af) := ioCauses write
  let first : WalkRes × State :=
    match pageCfg (fsc / 2 ^ 60) false with
    | none => (.ok iova, s)
    | some c => walk (ioPte gatp) (fun p => pteU p && pteGrants k false p) c (fsc % 2 ^ 44) iova s
  match first with
  | (.page, s) => (.fault pf 0, s)
  | (.access, s) => (.fault af 0, s)
  | (.guest g, s) => (.fault gf g, s)
  | (.ok gpa, s) =>
    match ioGstage gatp k gpa s with
    | (.ok pa, s) => (.ok pa, s)
    | (.access, s) => (.fault af 0, s)
    | (_, s) => (.fault gf gpa, s)

/-- Translate an access of a device (R425): Bare passes it unchanged. -/
def ioTranslate (s : State) (dev : Nat) (write : Bool) (iova : Nat) : IoRes × State :=
  if ddtMode s = 1 then (.ok iova, s)
  else if ddtMode s = 0 then (.fault 256 0, s)
  else match ioContext s dev with
    | (none, s) => (.fault 257 0, s)
    | (some dc, s) =>
      let tc := dc.getD 0 0
      let gatp := dc.getD 1 0
      let fsc := dc.getD 3 0
      if tc % 2 = 0 then (.fault 258 0, s)
      else if dcBad tc gatp fsc then (.fault 259 0, s)
      else ioStages gatp fsc write iova s

/-- Translate, reporting a fault. -/
def ioAccess (s : State) (dev : Nat) (write : Bool) (iova : Nat) : Option Nat × State :=
  match ioTranslate s dev write iova with
  | (.ok pa, s) => (some pa, s)
  | (.fault c a, s) => (none, ioReport s { cause := c, dev := dev, write := write, iova := iova, iova2 := a })

/-! ## The command queue -/

/-- Command processing stops with an error bit of cqcsr. -/
def cmdStop (s : State) (bit : Nat) : State :=
  let s := s.orIow ioCqcsr (2 ^ bit)
  if s.iow ioCqcsr / 2 % 2 = 1 then s.orIow ioIpsr 1 else s

/-- The head moves past a command. -/
def cmdNext (s : State) : State := s.setIow ioCqh ((s.iow ioCqh + 1) % queueSize s ioCqb)

/-- One command's two double words. The IOMMU holds no translation or context beyond what it walks, so an invalidation has nothing to remove; IOFENCE.C
with AV writes its data. -/
def iommuRun (s : State) (w0 w1 : Nat) : State :=
  let op := w0 % 128
  let f := bitsOf w0 9 7
  if op = 1 && f ≤ 1 then cmdNext s
  else if op = 3 && f = 0 then cmdNext s
  else if op = 2 && f = 0 && !bitOf w0 11 then
    if bitOf w0 10 then
      match dmaWrite s initOther 0 (w1 % 2 ^ 62 * 4) (octetsLE 4 (w0 / 2 ^ 32)) with
      | (true, s) => cmdNext s
      | (false, s) => cmdStop s 8
    else cmdNext s
  else cmdStop s 10

/-- IOMMU_COMMAND: the command at the head of the command queue is executed. -/
def iommuCommand (s : State) : State :=
  if s.iow ioCqcsr / 2 ^ 16 % 2 = 0 || s.iow ioCqcsr / 2 ^ 8 % 8 ≠ 0 || s.iow ioCqh = s.iow ioCqt then s
  else match dmaRead s initOther 0 (queueBase s ioCqb + s.iow ioCqh * 16) 16 with
    | (none, s) => cmdStop s 8
    | (some l, s) => iommuRun s (ofOctetsLE (l.take 8)) (ofOctetsLE (l.drop 8))

def execIommuCommand (s : State) : Host.Outcome State Fault Refusal := .next (s.live iommuCommand)

end Sys2Proof.Machine
end

