-- ==== Sys2Proof/Machine/CpuPort.lean ====
section
/-! DEFINITION. The CPU port (R405 to R408): the octets of a frame, the receive and the transmit rings. -/

namespace Sys2Proof.Machine

/-! ## Frames as octets -/

/-- The frame that octets without an FCS spell. -/
def frameOf (l : List Nat) : Frame :=
  let tagged := decide (msgBe l 12 2 = 0x8100) && decide (18 ≤ l.length)
  let t := msgBe l 14 2
  let h := if tagged then 16 else 12
  let etype := msgBe l h 2
  let rest := l.drop (h + 2)
  { dst := msgBe l 0 6, src := msgBe l 6 6
    tag := if tagged then some { pcp := t / 2 ^ 13, dei := bitOf t 12, vid := t % 4096 } else none
    hsr := none, etype := etype
    payload := match Config.parsePayload etype rest with | some p => p | none => .raw rest
    prp := [], len := l.length + 4 }

/-! ## Accesses of the rings (R405, R426) -/

/-- Read octets for a partition's ring, through the IOMMU and Breakwater, 64 at a time. -/
def ringRead (p : Nat) : Nat → State → Nat → Nat → Option (List Nat) × State
  | 0, s, _, _ => (some [], s)
  | k + 1, s, a, n =>
    if n = 0 then (some [], s)
    else
      let m := min (64 - a % 64) n
      match ioAccess s p false a with
      | (none, s) => (none, s)
      | (some pa, s) =>
        match dmaRead s initCpuPort p pa m with
        | (none, s) => (none, s)
        | (some l, s) =>
          match ringRead p k s (a + m) (n - m) with
          | (none, s) => (none, s)
          | (some r, s) => (some (l ++ r), s)

/-- Write octets for a partition's ring. -/
def ringPut (p : Nat) : Nat → State → Nat → List Nat → Bool × State
  | 0, s, _, l => (l.isEmpty, s)
  | k + 1, s, a, l =>
    if l.isEmpty then (true, s)
    else
      let m := 64 - a % 64
      match ioAccess s p true a with
      | (none, s) => (false, s)
      | (some pa, s) =>
        match dmaWrite s initCpuPort p pa (l.take m) with
        | (false, s) => (false, s)
        | (true, s) => ringPut p k s (a + m) (l.drop m)

/-- The word of octets read. -/
def leWord (l : List Nat) (i : Nat) : Nat := ofOctetsLE ((l.drop (4 * i)).take 4)

/-- A time-stamp as the words of a descriptor: SEC[31:0], and TQ with NS. -/
def stampWords (st : Stamp) : List Nat :=
  let ns := st.t / 65536
  octetsLE 4 (ns / 1000000000 % 2 ^ 32) ++ octetsLE 4 (st.tq * 2 ^ 30 + ns % 1000000000)

/-! ## Reception (R406) -/

def rxBase (s : State) (p : Nat) : Nat := s.fld F.SWC_T_RX_BASE_HI_ADDR p * 2 ^ 32 + s.fld F.SWC_T_RX_BASE_LO_ADDR p * 32
def txBase (s : State) (p : Nat) : Nat := s.fld F.SWC_T_TX_BASE_HI_ADDR p * 2 ^ 32 + s.fld F.SWC_T_TX_BASE_LO_ADDR p * 32

/-- A ring's next index. -/
def ringNext (log i : Nat) : Nat := (i + 1) % 2 ^ log

/-- A copy that finds no descriptor is discarded. -/
def rxFull (s : State) (p : Nat) : State :=
  ((s.count C.SWC_T_RX_RING_FULL p).setFlag F.SWC_T_FLT_RING_FULL true p).setFlt F.SWC_FLT_RING_FULL

/-- Words D2 to D7 of a filled descriptor: OWN cleared, the flags and LEN, what classification gave, and the ingress time-stamp. -/
def rxStatus (x : SwCopy) (d2 n : Nat) (trunc : Bool) : List Nat :=
  let flags := x.flags % 64 + 64 * ofBit trunc + 128 * ofBit x.frame.tag.isSome
  octetsLE 4 (d2 % 2 ^ 31) ++ octetsLE 4 (flags * 2 ^ 16 + n) ++ octetsLE 4 (x.vid * 2 ^ 16 + x.pcp * 2 ^ 8 + x.cls * 16 + x.inPort)
    ++ stampWords x.stamp ++ octetsLE 4 x.stamp.epoch

/-- The octets of a copy for the CPU port: without the FCS, which a frame cut to MAX_LEN octets has none of (R366). -/
def copyOctets (x : SwCopy) : List Nat :=
  frameOctets (if bitOf x.flags 3 then { x.frame with len := x.frame.len + 4 } else x.frame)

/-- A copy is written into its partition's receive ring. -/
def rxDeliver (s : State) (p : Nat) (x : SwCopy) : State :=
  let h := s.fld F.SWC_T_RX_RING_HEAD p
  let a := rxBase s p + h * 32
  match ringRead p 2 s a 32 with
  | (none, s) => s
  | (some d, s) =>
    let d2 := leWord d 2
    if !bitOf d2 31 then rxFull s p
    else
      let size := d2 % 2 ^ 14
      let all := copyOctets x
      let l := all.take size
      let buf := leWord d 1 % 16 * 2 ^ 32 + leWord d 0 / 64 * 64
      match ringPut p (l.length / 64 + 1) s buf l with
      | (false, s) => s
      | (true, s) =>
        match ringPut p 2 s (a + 8) (rxStatus x d2 l.length (decide (size < all.length))) with
        | (false, s) => s
        | (true, s) =>
          let s := (s.setFld F.SWC_T_RX_RING_HEAD (ringNext (s.fld F.SWC_T_RX_RING_SIZE_LOG p) h) p).count C.SWC_T_RX_FRAMES p
          if s.flag F.SWC_T_CTL_RX_IEN p then s.raiseIdent p 32 else s

/-- CPU_RX_DELIVER: the oldest copy handed to the CPU port. While its partition is held it is discarded (R430). -/
def cpuRxDeliver (s : State) : State :=
  match s.swc.cpuIn with
  | [] => s
  | x :: rest =>
    let s := { s with swc := { s.swc with cpuIn := rest } }
    if partHeld s x.part then s.count C.SWC_T_RX_RING_FULL x.part
    else if !s.flag F.SWC_T_CTL_RX_EN x.part then rxFull s x.part
    else rxDeliver s x.part x

def execCpuRxDeliver (s : State) : Host.Outcome State Fault Refusal := .next (s.live cpuRxDeliver)

/-! ## Transmission (R407) -/

def txAdmitted : Nat := 0
def txVlan : Nat := 1
def txProtected : Nat := 2
def txQuota : Nat := 3
def txBreakwater : Nat := 4
def txLength : Nat := 5
def txNoCopy : Nat := 6

/-- A transmit frame is refused by one of the checks of R407. -/
def txRefuse (s : State) (p status : Nat) : Nat × State :=
  let s := ((s.count C.SWC_T_TX_REFUSED p).setFlag F.SWC_T_FLT_TX_REFUSED true p).setFlt F.SWC_FLT_TX_REFUSED
  (status, if status = txQuota then (s.count C.SWC_T_TX_QUOTA p).setFlag F.SWC_T_FLT_QUOTA true p else s)

/-- Send a RAW frame of partition 0 on its port. -/
def txRaw (s : State) (f : Frame) (port cls pcp : Nat) : Nat × State :=
  if !s.flag F.SWC_CTRL_EN || 8 ≤ port then (txNoCopy, s)
  else
    let x : SwCopy := { frame := f, inPort := swCpu, stamp := s.stamp, wire := f.len, cells := frameCells f.len, pool := false, part := 0, cls := cls,
                        vid := frameVid s swCpu f, pcp := pcp, flags := 0 }
    match queueCopy (s.count C.SWC_FRAMES_IN) port x with
    | (true, s) => (txAdmitted, s.count C.SWC_P_ADMITTED swCpu)
    | (false, s) => (txNoCopy, s.count C.SWC_REFUSED_ALL)

/-- Check a transmit frame and admit or refuse it: the status of its descriptor. -/
def txFrame (s : State) (p t2 : Nat) (l : List Nat) : Nat × State :=
  let raw := bitOf t2 31
  let f := frameOf (l ++ List.replicate (60 - l.length) 0)
  let v := s.vlan (frameVid s swCpu f)
  let pcp := match f.tag with | some t => t.pcp | none => bitsOf t2 26 24
  let cls := min (pcpClass s swCpu pcp) (s.fld F.SWC_T_CTL_MAX_CLASS p)
  if raw && p ≠ 0 then txRefuse s p txProtected
  else if p ≠ 0 && (!v.valid || v.owner ≠ p) then txRefuse s p txVlan
  else if p ≠ 0 && (f.etype = 0x88BA || f.etype = 0x88B8) then txRefuse s p txProtected
  else if s.fld F.SWC_T_CTL_QUOTA p < partCells s p + frameCells f.len then txRefuse s p txQuota
  else if raw then txRaw s f (bitsOf t2 19 16) cls pcp
  else match swcAdmit s swCpu f p cls pcp with
    | (.sent, s) => (txAdmitted, s)
    | (_, s) => (txNoCopy, s)

/-- One transmit descriptor of a partition. -/
def txOne (s : State) (p : Nat) : State :=
  let h := s.fld F.SWC_T_TX_RING_HEAD p
  let a := txBase s p + h * 32
  let (status, s) : Nat × State :=
    match ringRead p 2 s a 32 with
    | (none, s) => (txBreakwater, s)
    | (some d, s) =>
      let t2 := leWord d 2
      let len := t2 % 2 ^ 14
      if len < 14 || 9212 < len then txRefuse s p txLength
      else match ringRead p (len / 64 + 2) s (leWord d 1 % 16 * 2 ^ 32 + leWord d 0 / 64 * 64) len with
        | (none, s) => (txBreakwater, s)
        | (some l, s) => txFrame s p t2 l
  let s := (ringPut p 2 s (a + 12) (octetsLE 4 (2 ^ 31 + status) ++ stampWords s.stamp)).2
  let s := s.setFld F.SWC_T_TX_RING_HEAD (ringNext (s.fld F.SWC_T_TX_RING_SIZE_LOG p) h) p
  let s := if status = txAdmitted then s.count C.SWC_T_TX_FRAMES p else s
  if s.flag F.SWC_T_CTL_TX_IEN p then s.raiseIdent p 33 else s

/-- Has a partition given descriptors that the port may take (R407, R430)? -/
def txReady (s : State) (p : Nat) : Bool :=
  s.flag F.SWC_T_CTL_TX_EN p && !partHeld s p && decide (s.fld F.SWC_T_TX_RING_HEAD p ≠ s.fld F.SWC_T_TX_RING_TAIL p)

/-- CPU_TX_FRAME: the next partition in turn whose HEAD differs from TAIL. -/
def cpuTxFrame (s : State) : State :=
  match ((List.range partCount).map fun i => (s.swc.txTurn + 1 + i) % partCount).find? (txReady s) with
  | some p => txOne { s with swc := { s.swc with txTurn := p } } p
  | none => s

def execCpuTxFrame (s : State) : Host.Outcome State Fault Refusal := .next (s.live cpuTxFrame)

end Sys2Proof.Machine
end

