-- ==== Sys2Proof/Machine/Elog.lean ====
section
/-! DEFINITION. The event log (chapter 11): writing records, software records, reading, clearing and exporting. -/

namespace Sys2Proof.Machine

/-- A slot not written since reset or the last clear (R349). -/
def elogUnwritten : List Nat := [0xFFFFFFFF, 0, 0, 0, 0, 0, 0, 0]

/-- The eight words of a record (R338, R339). -/
def recordWords (e : Event) (seq : Nat) : List Nat :=
  [seq * 65536 + e.code, e.part * 2 ^ 24 + e.src * 65536 + e.sec / 2 ^ 32 % 65536, e.sec % 2 ^ 32,
   e.tq * 2 ^ 30 + e.ns, e.p0, e.p1, e.p2,
   seq * 65536 + e.epoch % 256 * 256 + ofBit e.gap * 4 + ofBit e.sw * 2 + 1]

/-- Word `w` of a slot as the SRAM holds it. -/
def elogWord (s : State) (slot w : Nat) : Nat := (sparseGet elogUnwritten s.elog.sram slot).getD w 0

/-- Write one word of a slot. -/
def setElogWord (s : State) (slot w v : Nat) : State :=
  let old := sparseGet elogUnwritten s.elog.sram slot
  { s with elog := { s.elog with sram := sparseSet elogUnwritten s.elog.sram slot (old.set w v) } }

/-- The record in writing gains its next word: one word per SYS cycle. The next record may begin in the cycle after its last word's (R344). -/
def elogTick (s : State) : State :=
  match s.elog.writing with
  | none => s
  | some r =>
    match r.words with
    | [] => { s with elog := { s.elog with writing := none } }
    | v :: t =>
      let s := setElogWord s r.slot r.next v
      { s with elog := { s.elog with writing := some { r with next := r.next + 1, words := t } } }

/-- A record starts: its W0 goes into the slot at WRPTR, WRPTR and SEQ increment, and the other words follow (R340, R344). -/
def startRecord (s : State) (e : Event) : State :=
  let seq := s.fld F.ELOG_STAT_NEXT_SEQ
  let slot := s.fld F.ELOG_WRPTR_WRPTR
  let ws := recordWords e seq
  let s := setElogWord s slot 0 (ws.getD 0 0)
  let s := { s with elog := { s.elog with writing := some { slot := slot, next := 1, words := ws.drop 1 } } }
  ((s.setFld F.ELOG_WRPTR_WRPTR (slot + 1)).setFld F.ELOG_STAT_NEXT_SEQ (seq + 1)).count C.ELOG_RECORDS

/-- The cycles from an event's SYS edge to its record's first word at the earliest, as the worked example of the chapter has it (DEDUCED, log 62). -/
def recordDelay : Nat := 2

/-- Does an event wait too short a time for its record? -/
def eventYoung (s : State) (e : Event) : Bool := decide (s.time.sys < e.edge + recordDelay)

/-- The FULL record is written after the events before it (R346). -/
def fullRecordWrite (s : State) : State :=
  match s.elog.full with
  | none => s
  | some e => if eventYoung s e then s else startRecord { s with elog := { s.elog with full := none } } e

/-- The next queued event is written into its slot. -/
def headRecordWrite (s : State) : State :=
  match s.elog.queue with
  | [] => fullRecordWrite s
  | e :: t => if eventYoung s e then s else startRecord { s with elog := { s.elog with queue := t } } e

/-- ELOG_RECORD_WRITE: the next queued event is written into its slot, one record every 8 SYS cycles. While a clear runs, only the events that precede it
are written (R344, R353). -/
def elogRecordWrite (s : State) : State :=
  if s.elog.writing.isSome then s
  else match s.elog.clearing with
    | none => headRecordWrite s
    | some c =>
      if c.before = 0 then fullRecordWrite s
      else
        let t := headRecordWrite s
        if t.elog.queue.length = s.elog.queue.length then t
        else { t with elog := { t.elog with clearing := some { c with before := c.before - 1 } } }

def execElogRecordWrite (s : State) : Host.Outcome State Fault Refusal := .next (s.live fun s => elogRecordWrite s)

/-- Is the log full: slot 131,070 is taken, counting the events of the present edge, and no clear is in progress (R346)? -/
def elogFull (s : State) : Bool := (s.elog.clearing = none) && decide (elogSlots - 1 ≤ s.elog.taken + s.elog.offered.length)

/-- An event refused because the log is full (R346). -/
def refuseFull (s : State) : State :=
  { s.count C.ELOG_REFUSED with elog := { s.elog with refusedFull := s.elog.refusedFull + 1 } }

/-- An event that occurred at a SYS edge is judged: refused when the log is full, with a FULL record for the first (R346), refused when the queue is full
(R345), else queued with the next slot taken. -/
def acceptEvent (s : State) (e : Event) : State :=
  if s.flag F.ELOG_STAT_FULL && s.elog.clearing = none then refuseFull s
  else if elogSlots - 1 ≤ s.elog.taken then
    let full : Event := { e with src := 0x0B, code := elogFullCode, part := 0, p0 := e.src * 65536 + e.code, p1 := 0, p2 := 0,
                                 sw := false, gap := s.elog.gapNext }
    let s := refuseFull { s with elog := { s.elog with full := some full, taken := s.elog.taken + 1, gapNext := false } }
    (s.setFlag F.ELOG_STAT_FULL true).setFlt F.ELOG_FLT_FULL
  else if elogQueueSize ≤ s.elog.queue.length then
    let s := { s with elog := { s.elog with gapNext := true } }
    (s.count C.ELOG_QUEUE_DROP).setFlt F.ELOG_FLT_QUEUE_DROP
  else
    let s := { s with elog := { s.elog with queue := s.elog.queue ++ [{ e with gap := s.elog.gapNext }], taken := s.elog.taken + 1, gapNext := false } }
    if e.sw then s.count C.ELOG_SW_RECORDS else s

/-- A SYS edge ends: its events are judged in the order of R340, so that those refused by a full queue come last in it (R345). -/
def elogEdge (s : State) : State := s.elog.offered.foldl acceptEvent { s with elog := { s.elog with offered := [] } }

/-- A staged parameter of a tag (R348). -/
def swParam (s : State) (tag j : Nat) : Nat := s.fld (F.ELOG_SW_P_PARAM.el j) tag

/-- A software record is refused as a bus error (R348). -/
def swRefused (s : State) (init tag : Nat) : State :=
  ((s.count C.ELOG_SW_REFUSED).setFlt F.ELOG_FLT_SW_REFUSED).busError 6 init tag 0x400B008C true

/-- A write of ELOG_SW_CODE by a tag: a software record from the tag's staging set is queued, or the write is refused (R347, R348). -/
def swCode (s : State) (init tag code : Nat) : Bool × State :=
  let code := code % 65536
  let e := s.mkEvent 0x80 code tag (swParam s tag 0) (swParam s tag 1) (swParam s tag 2) true
  if code < 0x8000 || !s.flag F.ELOG_CTRL_SW_EN then (false, swRefused s init tag)
  else if elogFull s then (false, swRefused (s.offerEvent e) init tag)
  else (true, s.offerEvent e)

/-- ELOG_SW_CODE_WRITE: the write as it reaches the register through Breakwater (R412, R429). -/
def elogSwCodeWrite (s : State) (tag code : Nat) : State :=
  let (ok, s) := bwAdmit s initCore (tag % 128) kindWrite 0x400B008C 4
  if ok then (swCode s initCore (tag % 128) code).2 else s

def execElogSwCodeWrite (tag code : Nat) (s : State) : Host.Outcome State Fault Refusal := .next (s.live fun s => elogSwCodeWrite s tag code)

/-- ELOG_RD_IDX_WRITE: selects a slot and clears ELOG_RD_ERR (R349, R351). -/
def elogRdIdx (s : State) (v : Nat) : State := (s.setFld F.ELOG_RD_IDX_IDX v).setFlag F.ELOG_RD_ERR_UE false

def execElogRdIdxWrite (v : Nat) (s : State) : Host.Outcome State Fault Refusal := .next (s.live fun s => elogRdIdx s v)

/-- A read of a word of the log SRAM with its ECC check (R351). -/
def readElog (s : State) (slot w : Nat) : Nat × State :=
  if s.elog.faulty.contains (slot * 8 + w) then (0, (s.count C.ELOG_ECC_UE).setFlt F.ELOG_FLT_ECC_UE)
  else (elogWord s slot w, if s.elog.single.contains (slot * 8 + w) then s.count C.ELOG_ECC_CE else s)

/-- A read of ELOG_RD_D`w` (R349, R351). -/
def elogRd (s : State) (w : Nat) : Nat × State :=
  let slot := s.fld F.ELOG_RD_IDX_IDX
  let (v, s') := readElog s slot w
  (v, if s.elog.faulty.contains (slot * 8 + w) then s'.setFlag F.ELOG_RD_ERR_UE true else s')

/-! ## Clearing and exporting (R352 to R354) -/

/-- Is a clear or an export in progress? -/
def elogBusy (s : State) : Bool := s.elog.clearing.isSome || s.elog.exporting.isSome

/-- CLEAR: accepted unless a clear or export is in progress. The events whose edges precede it still drain; those of its own edge and the later ones
follow the CLEARED record, from slot 1 (R353, R354). -/
def elogClear (s : State) : State :=
  if elogBusy s then s.setFlt F.ELOG_FLT_CMD_REFUSED
  else
    let e := { s.mkEvent 0x0B 0x0B01 0 0 0 0 false with gap := s.elog.gapNext }
    let run : ClearRun := { before := s.elog.queue.length, refused := min 0xFFFFFFFF s.elog.refusedFull, event := e }
    ({ s with elog := { s.elog with clearing := some run, refusedFull := 0, gapNext := false, taken := 1 } }).setFlag F.ELOG_STAT_CLEARING true

def execClear (s : State) : Host.Outcome State Fault Refusal := .next (s.live fun s => elogClear s)

/-- ELOG_CLEAR_DONE: the queue has drained of the events before the clear; every slot is unwritten, WRPTR is 0, FULL is
clear, and the CLEARED record is written into slot 0 (R353). With no record to wipe, PARAM_1 has no stated value. -/
def elogClearDone (s : State) : State :=
  match s.elog.clearing with
  | none => s
  | some c =>
    if c.before ≠ 0 || s.elog.full.isSome || s.elog.writing.isSome then s
    else
      let wiped := s.fld F.ELOG_WRPTR_WRPTR
      let (v, s) := if wiped = 0 then s.takeFree else ((s.fld F.ELOG_STAT_NEXT_SEQ + 65535) % 65536, s)
      let s := { s with elog := { s.elog with sram := [], faulty := [], single := [], clearing := none } }
      let s := ((s.setFld F.ELOG_WRPTR_WRPTR 0).setFlag F.ELOG_STAT_FULL false).setFlag F.ELOG_STAT_CLEARING false
      startRecord (s.count C.ELOG_CLEARS) { c.event with p0 := wiped, p1 := v % 2 ^ 32, p2 := c.refused }

def execElogClearDone (s : State) : Host.Outcome State Fault Refusal := .next (s.live fun s => elogClearDone s)

/-- EXPORT: starts the copy that ELOG_EXP_FIRST, CNT and ADDR describe, or is refused (R352, R354). -/
def elogExport (s : State) : State :=
  let first := s.fld F.ELOG_EXP_FIRST_FIRST
  let cnt := s.fld F.ELOG_EXP_CNT_CNT
  let addr := s.fld F.ELOG_EXP_ADDR_HI_ADDR * 2 ^ 32 + s.fld F.ELOG_EXP_ADDR_LO_ADDR
  if elogBusy s || decide (cnt = 0) || decide (elogSlots < first + cnt) || decide (addr % 32 ≠ 0)
      || decide (addr < lpddrBase) || decide (lpddrBase + lpddrSize s < addr + cnt * 32) then
    s.setFlt F.ELOG_FLT_CMD_REFUSED
  else
    ({ s with elog := { s.elog with exporting := some { first := first, cnt := cnt, addr := addr } } }).setFlag
      F.ELOG_STAT_EXPORTING true

def execExportLog (s : State) : Host.Outcome State Fault Refusal := .next (s.live fun s => elogExport s)

/-- Copy one slot in the layout of R338, little-endian. -/
def exportSlot (s : State) (slot addr : Nat) : Bool × State :=
  let (bytes, s) := (List.range 8).foldl
    (fun (acc : List Nat × State) w => let (v, s) := readElog acc.2 slot w; (acc.1 ++ octetsLE 4 v, s)) ([], s)
  dmaWrite s initElog 0 addr bytes

/-- Copy slots until all are copied or one is refused. -/
def exportSlots (s : State) (slot addr : Nat) : Nat → Bool × State
  | 0 => (true, s)
  | n + 1 =>
    let (ok, s) := exportSlot s slot addr
    if ok then exportSlots s (slot + 1) (addr + 32) n else (false, s)

/-- ELOG_EXPORT_DONE: every slot has been copied as it stood when read, or a refusal has ended the export (R352). -/
def elogExportDone (s : State) : State :=
  match s.elog.exporting with
  | none => s
  | some x =>
    let (ok, s) := exportSlots s x.first x.addr x.cnt
    let s := ({ s with elog := { s.elog with exporting := none } }).setFlag F.ELOG_STAT_EXPORTING false
    if ok then s.count C.ELOG_EXPORTS else s.setFlt F.ELOG_FLT_EXP_ERR

def execElogExportDone (s : State) : Host.Outcome State Fault Refusal := .next (s.live fun s => elogExportDone s)

end Sys2Proof.Machine
end

