-- ==== Sys2Proof/Machine/Fpu.lean ====
section
/-! DEFINITION. The arithmetic of the F and D extensions over bit patterns, each result rounded once, with its exception flags. The
spec names the extensions (R190, R419); their results are those of the RISC-V unprivileged specification. -/

namespace Sys2Proof.Machine

/-- The quiet NaN, with NV when an operand signals. -/
def FpFmt.nanOf (f : FpFmt) (l : List Nat) : Nat × Nat := (f.qnan, if l.any f.isSnan then fNV else 0)

/-- Negate. -/
def FpFmt.negate (f : FpFmt) (a : Nat) : Nat := if f.neg a then a - f.signBit else a + f.signBit

/-- The bits of 1. -/
def FpFmt.one (f : FpFmt) : Nat := f.bias.toNat * 2 ^ f.mb

/-- a × b + c rounded once. -/
def FpFmt.fma (f : FpFmt) (rm a b c : Nat) : Nat × Nat :=
  let ps := f.neg a != f.neg b
  let inval := (f.isInf a && f.isZero b) || (f.isZero a && f.isInf b)
  if f.isNan a || f.isNan b || f.isNan c then
    let (v, fl) := f.nanOf [a, b, c]
    (v, if inval then fNV else fl)
  else if inval then (f.qnan, fNV)
  else if f.isInf a || f.isInf b then
    if f.isInf c && f.neg c != ps then (f.qnan, fNV) else (f.inf ps, 0)
  else if f.isInf c then (c, 0)
  else
    let p := Q.mul (f.toQ a) (f.toQ b)
    let zneg := if (f.isZero a || f.isZero b) && f.isZero c then
        (if ps = f.neg c then ps else decide (rm = rmRDN))
      else decide (rm = rmRDN)
    f.round rm zneg (Q.add p (f.toQ c))

def FpFmt.add (f : FpFmt) (rm a b : Nat) : Nat × Nat := f.fma rm a f.one b
def FpFmt.sub (f : FpFmt) (rm a b : Nat) : Nat × Nat := if f.isNan b then f.nanOf [a, b] else f.add rm a (f.negate b)
def FpFmt.mul (f : FpFmt) (rm a b : Nat) : Nat × Nat := f.fma rm a b (f.zero (f.neg a != f.neg b))

def FpFmt.div (f : FpFmt) (rm a b : Nat) : Nat × Nat :=
  let sg := f.neg a != f.neg b
  if f.isNan a || f.isNan b then f.nanOf [a, b]
  else if (f.isInf a && f.isInf b) || (f.isZero a && f.isZero b) then (f.qnan, fNV)
  else if f.isInf a then (f.inf sg, 0)
  else if f.isInf b || f.isZero a then (f.zero sg, 0)
  else if f.isZero b then (f.inf sg, fDZ)
  else f.round rm sg (Q.div (f.toQ a) (f.toQ b))

def FpFmt.sqrt (f : FpFmt) (rm a : Nat) : Nat × Nat :=
  if f.isNan a then f.nanOf [a]
  else if f.isZero a then (a, 0)
  else if f.neg a then (f.qnan, fNV)
  else if f.isInf a then (a, 0)
  else f.sqrtQ rm (f.toQ a)

/-- a < b of numbers that are not NaN. -/
def FpFmt.ltNum (f : FpFmt) (a b : Nat) : Bool :=
  if f.isZero a && f.isZero b then false
  else match f.neg a, f.neg b with
    | true, false => true
    | false, true => false
    | false, false => decide (a < b)
    | true, true => decide (b < a)

def FpFmt.eqNum (f : FpFmt) (a b : Nat) : Bool := decide (a = b) || (f.isZero a && f.isZero b)

/-- FMIN and FMAX: −0 is below +0, a NaN gives the other operand. -/
def FpFmt.minMax (f : FpFmt) (mx : Bool) (a b : Nat) : Nat × Nat :=
  let fl := if f.isSnan a || f.isSnan b then fNV else 0
  if f.isNan a && f.isNan b then (f.qnan, fl)
  else if f.isNan a then (b, fl)
  else if f.isNan b then (a, fl)
  else
    let less := f.ltNum a b || (f.eqNum a b && f.neg a)
    (if less != mx then a else b, fl)

/-- FEQ (2), FLT (1) and FLE (0) by funct3. -/
def FpFmt.compare (f : FpFmt) (f3 a b : Nat) : Nat × Nat :=
  if f.isNan a || f.isNan b then
    (0, if f3 = 2 then (if f.isSnan a || f.isSnan b then fNV else 0) else fNV)
  else if f3 = 2 then (ofBit (f.eqNum a b), 0)
  else if f3 = 1 then (ofBit (f.ltNum a b), 0)
  else (ofBit (f.ltNum a b || f.eqNum a b), 0)

/-- FSGNJ (0), FSGNJN (1) and FSGNJX (2) by funct3. -/
def FpFmt.sgnj (f : FpFmt) (f3 a b : Nat) : Nat :=
  let sg := if f3 = 0 then f.neg b else if f3 = 1 then !f.neg b else f.neg a != f.neg b
  a % f.signBit + ofBit sg * f.signBit

/-- FCLASS. -/
def FpFmt.classify (f : FpFmt) (a : Nat) : Nat :=
  if f.isNan a then (if f.isSnan a then 2 ^ 8 else 2 ^ 9)
  else if f.isInf a then (if f.neg a then 1 else 2 ^ 7)
  else if f.isZero a then (if f.neg a then 2 ^ 3 else 2 ^ 4)
  else if f.isSub a then (if f.neg a then 2 ^ 2 else 2 ^ 5)
  else if f.neg a then 2 ^ 1 else 2 ^ 6

/-- A conversion to an integer of `w` bits, signed or not: the bits of width `w`. -/
def FpFmt.toInt (f : FpFmt) (rm w : Nat) (sgn : Bool) (a : Nat) : Nat × Nat :=
  let hi : Int := if sgn then 2 ^ (w - 1) - 1 else 2 ^ w - 1
  let lo : Int := if sgn then -(2 ^ (w - 1)) else 0
  if f.isNan a then (unsigned w hi, fNV)
  else if f.isInf a then (unsigned w (if f.neg a then lo else hi), fNV)
  else
    let q := f.toQ a
    let (m, inexact) := roundAt rm (f.neg a) q.n.natAbs q.den 0
    let v : Int := if f.neg a then -(m : Int) else m
    if v < lo then (unsigned w lo, fNV)
    else if hi < v then (unsigned w hi, fNV)
    else (unsigned w v, if inexact then fNX else 0)

/-- A conversion from an integer. -/
def FpFmt.ofInt (f : FpFmt) (rm : Nat) (v : Int) : Nat × Nat := f.round rm false (Q.ofInt v)

/-- A conversion between formats. -/
def fpConvert (src dst : FpFmt) (rm a : Nat) : Nat × Nat :=
  if src.isNan a then (dst.qnan, if src.isSnan a then fNV else 0)
  else if src.isInf a then (dst.inf (src.neg a), 0)
  else dst.round rm (src.neg a) (src.toQ a)

end Sys2Proof.Machine
end

