-- ==== Sys2Proof/Machine/Phasor.lean ====
section
/-! DEFINITION. The results of the phasor extension (R213 to R217): exact expressions over binary32 parts rounded once, sine and
cosine of an angle operand, and the argument of a phasor. -/

namespace Sys2Proof.Machine

/-! ## Sums of products (R214, R215) -/

/-- A term of an exact sum: its sign and its two factors. -/
structure PxTerm where
  minus : Bool
  a : Nat
  b : Nat

def PxTerm.sign (t : PxTerm) : Bool := (fp32.neg t.a != fp32.neg t.b) != t.minus
def PxTerm.isNan (t : PxTerm) : Bool := fp32.isNan t.a || fp32.isNan t.b
def PxTerm.bad (t : PxTerm) : Bool := (fp32.isInf t.a && fp32.isZero t.b) || (fp32.isZero t.a && fp32.isInf t.b)
def PxTerm.isInf (t : PxTerm) : Bool := fp32.isInf t.a || fp32.isInf t.b
def PxTerm.isZero (t : PxTerm) : Bool := fp32.isZero t.a || fp32.isZero t.b
def PxTerm.val (t : PxTerm) : Q :=
  let p := Q.mul (fp32.toQ t.a) (fp32.toQ t.b)
  if t.minus then Q.neg p else p

/-- The sum of terms, exact and rounded once to nearest, with its flags. -/
def pxSum (l : List PxTerm) : Nat × Nat :=
  if l.any PxTerm.isNan || l.any PxTerm.bad then (fp32.qnan, fNV)
  else
    let infs := l.filter PxTerm.isInf
    match infs with
    | t :: r => if r.any fun u => u.sign != t.sign then (fp32.qnan, fNV) else (fp32.inf t.sign, 0)
    | [] =>
      let zneg := l.all fun t => t.isZero && t.sign
      fp32.round rmRNE zneg (l.foldl (fun a t => Q.add a t.val) Q.zero)

def px (a b : Nat) : PxTerm := ⟨false, a, b⟩
def pxNeg (a b : Nat) : PxTerm := ⟨true, a, b⟩

/-- |fs1|, rounded once. -/
def pxAbs (a b : Nat) : Nat × Nat :=
  if fp32.isNan a || fp32.isNan b then (fp32.qnan, fNV)
  else if fp32.isInf a || fp32.isInf b then (fp32.inf false, 0)
  else
    let v := Q.add (Q.mul (fp32.toQ a) (fp32.toQ a)) (Q.mul (fp32.toQ b) (fp32.toQ b))
    if v.n = 0 then (0, 0) else fp32.sqrtQ rmRNE v

/-! ## Sine, cosine and argument -/

/-- The bits kept below the point: enough for every result to round as the exact one. -/
def trigBits : Nat := 192
def trigOne : Nat := 2 ^ trigBits

/-- π in units of 2^-192. -/
def piFix : Nat := 0x3243F6A8885A308D313198A2E03707344A4093822299F31D0

/-- The sum of a Taylor series whose term n + 1 is term n × x² / (k (k + 1)), with alternating signs. -/
def taylor (x2 : Nat) : Nat → Nat → Int → Int → Int
  | 0, _, _, acc => acc
  | n + 1, k, t, acc =>
    let t := -(t * x2 / (trigOne * (k * (k + 1)) : Nat))
    taylor x2 n (k + 2) t (acc + t)

def trigTerms : Nat := 40

/-- sin and cos of an angle up to π/4, in units of 2^-192. -/
def sinFix (x : Nat) : Int := taylor (x * x / trigOne) trigTerms 2 x x
def cosFix (x : Nat) : Int := taylor (x * x / trigOne) trigTerms 1 trigOne trigOne

/-- cos and sin of an angle operand a (θ = 2π a / 2^32), in units of 2^-192. -/
def cisFix (a : Nat) : Int × Int :=
  let a := a % 2 ^ 32
  let oct := a / 2 ^ 29
  let r := a % 2 ^ 29
  let up := oct % 2 = 0
  let m := if up then r else 2 ^ 29 - r
  let x := piFix * m / 2 ^ 31
  let c := cosFix x
  let s := sinFix x
  let (c, s) := if oct = 0 then (c, s) else if oct = 1 then (s, c) else if oct = 2 then (-s, c) else if oct = 3 then (-c, s)
    else if oct = 4 then (-c, -s) else if oct = 5 then (-s, -c) else if oct = 6 then (s, -c) else (c, -s)
  if a % 2 ^ 30 = 0 then
    let q := a / 2 ^ 30
    ([1, 0, -1, 0].getD q 0 * trigOne, [0, 1, 0, -1].getD q 0 * trigOne)
  else (c, s)

/-- PX.CIS: C = rnd(cos θ) and S = rnd(sin θ), with the flags of each. -/
def pxCis (a : Nat) : (Nat × Nat) × (Nat × Nat) :=
  let (c, s) := cisFix a
  (fp32.round rmRNE false ⟨c, trigOne⟩, fp32.round rmRNE false ⟨s, trigOne⟩)

/-- x / (1 + √(1 + x²)): the tangent of half the angle whose tangent is x. -/
def halfTan (x : Nat) : Nat := x * trigOne / (trigOne + isqrt (trigOne * trigOne + x * x))

/-- arctan by its series, for a small tangent. -/
def atanSeries (x x2 : Nat) : Nat → Nat → Nat → Int → Int
  | 0, _, _, acc => acc
  | n + 1, k, p, acc =>
    let p := p * x2 / trigOne
    let t : Int := (p / k : Nat)
    atanSeries x x2 n (k + 2) p (if k % 4 = 3 then acc - t else acc + t)

/-- arctan of a tangent in [0, 1], in units of 2^-192. -/
def atanFix (x : Nat) : Int :=
  let y := halfTan (halfTan (halfTan x))
  8 * atanSeries y (y * y / trigOne) 40 3 y y

/-- PX.CARG: the argument of (a, b) in angle units, to nearest; 0 for (0, 0), and 0 with NV for a part that is not finite (R214,
R215). -/
def pxArg (a b : Nat) : Nat × Nat :=
  if !fp32.isFin a || !fp32.isFin b then (0, fNV)
  else if fp32.isZero a && fp32.isZero b then (0, 0)
  else
    let qa := Q.abs (fp32.toQ a)
    let qb := Q.abs (fp32.toQ b)
    let steep := Q.lt qa qb
    let r := if steep then Q.div qa qb else Q.div qb qa
    let t := atanFix (r.n.toNat * trigOne / r.den)
    let eighth : Int := piFix / 4
    let t := if r.n.toNat = r.den then eighth else t
    let u : Int := if steep then piFix / 2 - t else t
    let u := if fp32.neg a && !fp32.isZero a then (piFix : Int) - u else u
    let n := divRoundEven (u * 2 ^ 31) piFix
    let n := if fp32.neg b then -n else n
    (unsigned 32 n, 0)

/-- PX.QCHK: the quality test of q against the mask m (R216). -/
def pxQchk (q m : Nat) : Bool :=
  (decide (q % 4 = 0) || (decide (q % 4 = 3) && bitOf m 0)) && decide (q &&& m &&& 0x1F0000 = 0)
    && decide (bitsOf q 31 24 ≤ bitsOf m 31 24)

end Sys2Proof.Machine
end

