-- ==== Sys2Proof/Machine/Riscv.lean ====
section
/-! DEFINITION. The RISC-V instructions of the lanes (RV32IMFC with Zicsr, Zba and Zbb, R190) and of the application cores (RV64GC
with the H extension, R419): decoding, and the results of the integer and floating-point instructions. The spec names the
extensions; their encodings and results are those of the RISC-V specifications. -/

namespace Sys2Proof.Machine

/-- Integer operations on two operands. -/
inductive RvAlu where
  | add | sub | sll | slt | sltu | xor | srl | sra | or | and
  | mul | mulh | mulhsu | mulhu | div | divu | rem | remu
  | sh1add | sh2add | sh3add
  | andn | orn | xnor | clz | ctz | cpop | min | minu | max | maxu | sextb | sexth | zexth | rol | ror | orcb | rev8
  deriving DecidableEq, Repr

/-- Floating-point operations; `k` is a funct3 or the selector of a conversion. -/
inductive RvFop where
  | add | sub | mul | div | sqrt | minmax | sgnj | cmp | classify
  | toInt (w : Nat) (sgn : Bool)
  | ofInt (w : Nat) (sgn : Bool)
  | mvToX | mvFromX | cvt
  deriving DecidableEq, Repr

/-- A decoded instruction. `dbl` says that a floating-point instruction works on binary64, `word` that an integer instruction of
RV64 works on 32 bits. -/
inductive RvOp where
  | lui (rd : Nat) (imm : Int)
  | auipc (rd : Nat) (imm : Int)
  | jal (rd : Nat) (off : Int)
  | jalr (rd rs1 : Nat) (off : Int)
  | branch (f3 rs1 rs2 : Nat) (off : Int)
  | load (f3 rd rs1 : Nat) (off : Int)
  | store (f3 rs1 rs2 : Nat) (off : Int)
  | alu (op : RvAlu) (word : Bool) (rd rs1 rs2 : Nat)
  | aluImm (op : RvAlu) (word : Bool) (rd rs1 : Nat) (imm : Int)
  | fence
  | fenceI
  | ecall
  | ebreak
  | csr (f3 rd rs1 num : Nat)
  | amo (f5 : Nat) (dbl : Bool) (rd rs1 rs2 : Nat)
  | fload (dbl : Bool) (rd rs1 : Nat) (off : Int)
  | fstore (dbl : Bool) (rs1 rs2 : Nat) (off : Int)
  | fma (dbl : Bool) (kind rm rd rs1 rs2 rs3 : Nat)
  | fop (op : RvFop) (dbl : Bool) (rm rd rs1 rs2 : Nat)
  | px (f7 f3 rd rs1 rs2 : Nat)
  | sret | mret | wfi
  | sfenceVma (rs1 rs2 : Nat) | hfenceV (rs1 rs2 : Nat) | hfenceG (rs1 rs2 : Nat)
  | hload (f7 k rd rs1 : Nat)
  | hstore (f7 rs1 rs2 : Nat)
  | illegal
  deriving DecidableEq, Repr

/-- What a core implements: RV64 with A, D and the privileged instructions, or RV32 with Zba, Zbb and the phasor extension. -/
inductive RvIsa where
  | lane | core
  deriving DecidableEq, Repr

def RvIsa.xlen : RvIsa → Nat
  | .lane => 32
  | .core => 64

/-! ## Immediates -/

def immI (w : Nat) : Int := signed 12 (bitsOf w 31 20)
def immS (w : Nat) : Int := signed 12 (bitsOf w 31 25 * 32 + bitsOf w 11 7)
def immB (w : Nat) : Int := signed 13 (bitsOf w 31 31 * 2 ^ 12 + bitsOf w 7 7 * 2 ^ 11 + bitsOf w 30 25 * 32 + bitsOf w 11 8 * 2)
def immU (w : Nat) : Int := signed 32 (bitsOf w 31 12 * 2 ^ 12)
def immJ (w : Nat) : Int := signed 21 (bitsOf w 31 31 * 2 ^ 20 + bitsOf w 19 12 * 2 ^ 12 + bitsOf w 20 20 * 2 ^ 11 + bitsOf w 30 21 * 2)

/-! ## 32-bit instructions -/

/-- The integer operation of an OP instruction. -/
def decodeOp (isa : RvIsa) (f7 f3 rs2 : Nat) : Option RvAlu :=
  let base := [RvAlu.add, .sll, .slt, .sltu, .xor, .srl, .or, .and]
  let mul := [RvAlu.mul, .mulh, .mulhsu, .mulhu, .div, .divu, .rem, .remu]
  if f7 = 0 then base[f3]?
  else if f7 = 1 then mul[f3]?
  else if f7 = 0x20 && f3 = 0 then some .sub
  else if f7 = 0x20 && f3 = 5 then some .sra
  else if isa = .core then none
  else if f7 = 0x20 then (if f3 = 7 then some .andn else if f3 = 6 then some .orn else if f3 = 4 then some .xnor else none)
  else if f7 = 0x10 then (if f3 = 2 then some .sh1add else if f3 = 4 then some .sh2add else if f3 = 6 then some .sh3add else none)
  else if f7 = 0x05 then (if f3 = 4 then some .min else if f3 = 5 then some .minu else if f3 = 6 then some .max else if f3 = 7 then some .maxu else none)
  else if f7 = 0x30 then (if f3 = 1 then some .rol else if f3 = 5 then some .ror else none)
  else if f7 = 0x04 && f3 = 4 && rs2 = 0 then some .zexth
  else none

/-- An OP-IMM instruction. -/
def decodeOpImm (isa : RvIsa) (w rd f3 rs1 : Nat) : RvOp :=
  let imm := immI w
  let top := bitsOf w 31 25
  let sh := if isa = .core then bitsOf w 25 20 else bitsOf w 24 20
  let f := if isa = .core then top / 2 * 2 else top
  let i (op : RvAlu) (v : Int) : RvOp := .aluImm op false rd rs1 v
  if f3 = 0 then i .add imm
  else if f3 = 2 then i .slt imm
  else if f3 = 3 then i .sltu imm
  else if f3 = 4 then i .xor imm
  else if f3 = 6 then i .or imm
  else if f3 = 7 then i .and imm
  else if f3 = 1 then
    if f = 0 then i .sll sh
    else if isa = .core then .illegal
    else if top = 0x30 then
      match bitsOf w 24 20 with
      | 0 => i .clz 0
      | 1 => i .ctz 0
      | 2 => i .cpop 0
      | 4 => i .sextb 0
      | 5 => i .sexth 0
      | _ => .illegal
    else .illegal
  else if f = 0 then i .srl sh
  else if f = 0x20 then i .sra sh
  else if isa = .core then .illegal
  else if top = 0x30 then i .ror sh
  else if bitsOf w 31 20 = 0x287 then i .orcb 0
  else if bitsOf w 31 20 = 0x698 then i .rev8 0
  else .illegal

/-- An instruction of the OP-FP opcode. -/
def decodeFp (isa : RvIsa) (w rd f3 rs1 rs2 : Nat) : RvOp :=
  let dbl := bitsOf w 26 25 = 1
  let f5 := bitsOf w 31 27
  let bad := decide (bitsOf w 26 25 ≥ 2) || (dbl && decide (isa = .lane))
  let o (op : RvFop) : RvOp := .fop op dbl f3 rd rs1 rs2
  let wide := if rs2 < 2 then 32 else 64
  let intOk := decide (rs2 < 2) || (decide (rs2 < 4) && decide (isa = .core))
  if bad then .illegal
  else if f5 = 0 then o .add
  else if f5 = 1 then o .sub
  else if f5 = 2 then o .mul
  else if f5 = 3 then o .div
  else if f5 = 0x0B && rs2 = 0 then o .sqrt
  else if f5 = 4 && f3 < 3 then o .sgnj
  else if f5 = 5 && f3 < 2 then o .minmax
  else if f5 = 0x14 && f3 < 3 then o .cmp
  else if f5 = 0x18 && intOk then o (.toInt wide (rs2 % 2 = 0))
  else if f5 = 0x1A && intOk then o (.ofInt wide (rs2 % 2 = 0))
  else if f5 = 0x1C && rs2 = 0 && f3 = 1 then o .classify
  else if f5 = 0x1C && rs2 = 0 && f3 = 0 && (!dbl || isa = .core) then o .mvToX
  else if f5 = 0x1E && rs2 = 0 && f3 = 0 then o .mvFromX
  else if f5 = 8 && isa = .core && rs2 = (if dbl then 0 else 1) then o .cvt
  else .illegal

/-- A SYSTEM instruction with funct3 0 or 4. -/
def decodeSystem (isa : RvIsa) (w rd f3 rs1 rs2 : Nat) : RvOp :=
  let f7 := bitsOf w 31 25
  if f3 = 0 then
    if w = 0x00000073 then .ecall
    else if w = 0x00100073 then .ebreak
    else if isa = .lane then .illegal
    else if w = 0x10200073 then .sret
    else if w = 0x30200073 then .mret
    else if w = 0x10500073 then .wfi
    else if rd = 0 && f7 = 0x09 then .sfenceVma rs1 rs2
    else if rd = 0 && f7 = 0x11 then .hfenceV rs1 rs2
    else if rd = 0 && f7 = 0x31 then .hfenceG rs1 rs2
    else .illegal
  else if f3 = 4 && isa = .core then
    if 0x30 ≤ f7 && f7 < 0x38 && f7 % 2 = 0 then
      (if rs2 = 0 || (rs2 = 1 && f7 < 0x36) || (rs2 = 3 && (f7 = 0x32 || f7 = 0x34)) then .hload f7 rs2 rd rs1 else .illegal)
    else if 0x30 ≤ f7 && f7 < 0x38 && rd = 0 then .hstore f7 rs1 rs2
    else .illegal
  else .illegal

/-- Does a core have the load or store width of a funct3? -/
def loadOk (isa : RvIsa) (f3 : Nat) : Bool := decide (f3 < 3) || f3 = 4 || f3 = 5 || (decide (isa = .core) && (f3 = 3 || f3 = 6))
def storeOk (isa : RvIsa) (f3 : Nat) : Bool := decide (f3 < 3) || (decide (isa = .core) && f3 = 3)

/-- Decode a 32-bit instruction. -/
def decode32 (isa : RvIsa) (w : Nat) : RvOp :=
  let rd := bitsOf w 11 7
  let f3 := bitsOf w 14 12
  let rs1 := bitsOf w 19 15
  let rs2 := bitsOf w 24 20
  let f7 := bitsOf w 31 25
  match bitsOf w 6 0 with
  | 0x37 => .lui rd (immU w)
  | 0x17 => .auipc rd (immU w)
  | 0x6F => .jal rd (immJ w)
  | 0x67 => if f3 = 0 then .jalr rd rs1 (immI w) else .illegal
  | 0x63 => if f3 = 2 || f3 = 3 then .illegal else .branch f3 rs1 rs2 (immB w)
  | 0x03 => if loadOk isa f3 then .load f3 rd rs1 (immI w) else .illegal
  | 0x23 => if storeOk isa f3 then .store f3 rs1 rs2 (immS w) else .illegal
  | 0x13 => decodeOpImm isa w rd f3 rs1
  | 0x33 => match decodeOp isa f7 f3 rs2 with | some op => .alu op false rd rs1 rs2 | none => .illegal
  | 0x1B =>
    if isa = .lane then .illegal
    else if f3 = 0 then .aluImm .add true rd rs1 (immI w)
    else if f3 = 1 && f7 = 0 then .aluImm .sll true rd rs1 rs2
    else if f3 = 5 && f7 = 0 then .aluImm .srl true rd rs1 rs2
    else if f3 = 5 && f7 = 0x20 then .aluImm .sra true rd rs1 rs2
    else .illegal
  | 0x3B =>
    if isa = .lane || (f3 ≠ 0 && f3 ≠ 1 && f3 ≠ 5 && f7 ≠ 1) || (f7 = 1 && (f3 = 1 || f3 = 2 || f3 = 3)) then .illegal
    else match decodeOp isa f7 f3 rs2 with | some op => .alu op true rd rs1 rs2 | none => .illegal
  | 0x0F => if f3 = 0 then .fence else if f3 = 1 then .fenceI else .illegal
  | 0x73 => if f3 = 0 || f3 = 4 then decodeSystem isa w rd f3 rs1 rs2 else .csr f3 rd rs1 (bitsOf w 31 20)
  | 0x2F =>
    let f5 := bitsOf w 31 27
    if isa = .lane || (f3 ≠ 2 && f3 ≠ 3) then .illegal
    else if f5 = 2 then (if rs2 = 0 then .amo f5 (f3 = 3) rd rs1 0 else .illegal)
    else if [0, 1, 3, 4, 8, 0xC, 0x10, 0x14, 0x18, 0x1C].contains f5 then .amo f5 (f3 = 3) rd rs1 rs2
    else .illegal
  | 0x07 => if f3 = 2 || (f3 = 3 && isa = .core) then .fload (f3 = 3) rd rs1 (immI w) else .illegal
  | 0x27 => if f3 = 2 || (f3 = 3 && isa = .core) then .fstore (f3 = 3) rs1 rs2 (immS w) else .illegal
  | 0x43 => if f7 % 4 = 0 || (f7 % 4 = 1 && isa = .core) then .fma (f7 % 4 = 1) 0 f3 rd rs1 rs2 (bitsOf w 31 27) else .illegal
  | 0x47 => if f7 % 4 = 0 || (f7 % 4 = 1 && isa = .core) then .fma (f7 % 4 = 1) 1 f3 rd rs1 rs2 (bitsOf w 31 27) else .illegal
  | 0x4B => if f7 % 4 = 0 || (f7 % 4 = 1 && isa = .core) then .fma (f7 % 4 = 1) 2 f3 rd rs1 rs2 (bitsOf w 31 27) else .illegal
  | 0x4F => if f7 % 4 = 0 || (f7 % 4 = 1 && isa = .core) then .fma (f7 % 4 = 1) 3 f3 rd rs1 rs2 (bitsOf w 31 27) else .illegal
  | 0x53 => decodeFp isa w rd f3 rs1 rs2
  | 0x0B => if isa = .lane then .px f7 f3 rd rs1 rs2 else .illegal
  | _ => .illegal

/-! ## 16-bit instructions -/

/-- Decode a compressed instruction into its expansion. -/
def decode16 (isa : RvIsa) (w : Nat) : RvOp :=
  let core := isa = .core
  let f3 := bitsOf w 15 13
  let r1 := bitsOf w 11 7
  let r2 := bitsOf w 6 2
  let p1 := 8 + bitsOf w 9 7
  let p2 := 8 + bitsOf w 4 2
  let imm6 : Int := signed 6 (bitsOf w 12 12 * 32 + r2)
  let sh := bitsOf w 12 12 * 32 + r2
  let lwOff : Nat := bitsOf w 5 5 * 64 + bitsOf w 12 10 * 8 + bitsOf w 6 6 * 4
  let ldOff : Nat := bitsOf w 6 5 * 64 + bitsOf w 12 10 * 8
  let lwsp : Nat := bitsOf w 3 2 * 64 + bitsOf w 12 12 * 32 + bitsOf w 6 4 * 4
  let ldsp : Nat := bitsOf w 4 2 * 64 + bitsOf w 12 12 * 32 + bitsOf w 6 5 * 8
  let swsp : Nat := bitsOf w 8 7 * 64 + bitsOf w 12 9 * 4
  let sdsp : Nat := bitsOf w 9 7 * 64 + bitsOf w 12 10 * 8
  let cj : Int := signed 12 (bitsOf w 12 12 * 2048 + bitsOf w 11 11 * 16 + bitsOf w 10 9 * 256 + bitsOf w 8 8 * 1024
    + bitsOf w 7 7 * 64 + bitsOf w 6 6 * 128 + bitsOf w 5 3 * 2 + bitsOf w 2 2 * 32)
  let cb : Int := signed 9 (bitsOf w 12 12 * 256 + bitsOf w 11 10 * 8 + bitsOf w 6 5 * 64 + bitsOf w 4 3 * 2 + bitsOf w 2 2 * 32)
  match w % 4, f3 with
  | 0, 0 =>
    let imm := bitsOf w 10 7 * 64 + bitsOf w 12 11 * 16 + bitsOf w 5 5 * 8 + bitsOf w 6 6 * 4
    if imm = 0 then .illegal else .aluImm .add false p2 2 imm
  | 0, 1 => if core then .fload true p2 p1 ldOff else .illegal
  | 0, 2 => .load 2 p2 p1 lwOff
  | 0, 3 => if core then .load 3 p2 p1 ldOff else .fload false p2 p1 lwOff
  | 0, 5 => if core then .fstore true p1 p2 ldOff else .illegal
  | 0, 6 => .store 2 p1 p2 lwOff
  | 0, 7 => if core then .store 3 p1 p2 ldOff else .fstore false p1 p2 lwOff
  | 1, 0 => .aluImm .add false r1 r1 imm6
  | 1, 1 => if core then (if r1 = 0 then .illegal else .aluImm .add true r1 r1 imm6) else .jal 1 cj
  | 1, 2 => .aluImm .add false r1 0 imm6
  | 1, 3 =>
    if r1 = 2 then
      let v : Int := signed 10 (bitsOf w 12 12 * 512 + bitsOf w 6 6 * 16 + bitsOf w 5 5 * 64 + bitsOf w 4 3 * 128 + bitsOf w 2 2 * 32)
      if v = 0 then .illegal else .aluImm .add false 2 2 v
    else if imm6 = 0 then .illegal else .lui r1 (imm6 * 4096)
  | 1, 4 =>
    match bitsOf w 11 10 with
    | 0 => if !core && 32 ≤ sh then .illegal else .aluImm .srl false p1 p1 sh
    | 1 => if !core && 32 ≤ sh then .illegal else .aluImm .sra false p1 p1 sh
    | 2 => .aluImm .and false p1 p1 imm6
    | _ =>
      match bitsOf w 12 12, bitsOf w 6 5 with
      | 0, 0 => .alu .sub false p1 p1 p2
      | 0, 1 => .alu .xor false p1 p1 p2
      | 0, 2 => .alu .or false p1 p1 p2
      | 0, _ => .alu .and false p1 p1 p2
      | _, 0 => if core then .alu .sub true p1 p1 p2 else .illegal
      | _, 1 => if core then .alu .add true p1 p1 p2 else .illegal
      | _, _ => .illegal
  | 1, 5 => .jal 0 cj
  | 1, 6 => .branch 0 p1 0 cb
  | 1, 7 => .branch 1 p1 0 cb
  | 2, 0 => if !core && 32 ≤ sh then .illegal else .aluImm .sll false r1 r1 sh
  | 2, 1 => if core then .fload true r1 2 ldsp else .illegal
  | 2, 2 => if r1 = 0 then .illegal else .load 2 r1 2 lwsp
  | 2, 3 => if core then (if r1 = 0 then .illegal else .load 3 r1 2 ldsp) else .fload false r1 2 lwsp
  | 2, 4 =>
    if bitsOf w 12 12 = 0 then
      if r2 = 0 then (if r1 = 0 then .illegal else .jalr 0 r1 0) else .alu .add false r1 0 r2
    else if r2 = 0 then (if r1 = 0 then .ebreak else .jalr 1 r1 0)
    else .alu .add false r1 r1 r2
  | 2, 5 => if core then .fstore true 2 r2 sdsp else .illegal
  | 2, 6 => .store 2 2 r2 swsp
  | 2, 7 => if core then .store 3 2 r2 sdsp else .fstore false 2 r2 swsp
  | _, _ => .illegal

/-! ## Integer results -/

/-- The number of leading zeros of a value of `n` bits. -/
def clzOf : Nat → Nat → Nat
  | 0, _ => 0
  | n + 1, v => if bitOf v n then 0 else 1 + clzOf n v

/-- The number of trailing zeros. -/
def ctzOf (n v : Nat) : Nat := ((List.range n).find? fun i => bitOf v i).getD n

/-- The number of ones. -/
def popOf (n v : Nat) : Nat := ((List.range n).filter fun i => bitOf v i).length

/-- The result of an integer operation on operands of `n` bits. -/
def aluEval (n : Nat) (op : RvAlu) (a b : Nat) : Nat :=
  let m := 2 ^ n
  let sa := signed n a
  let sb := signed n b
  let sh := b % n
  match op with
  | .add => (a + b) % m
  | .sub => (a + m - b % m) % m
  | .sll => a * 2 ^ sh % m
  | .slt => ofBit (decide (sa < sb))
  | .sltu => ofBit (decide (a < b))
  | .xor => a ^^^ b
  | .srl => a / 2 ^ sh
  | .sra => unsigned n (sa / (2 ^ sh : Nat))
  | .or => a ||| b
  | .and => a &&& b
  | .mul => a * b % m
  | .mulh => unsigned n (sa * sb / (m : Nat))
  | .mulhsu => unsigned n (sa * (b : Int) / (m : Nat))
  | .mulhu => a * b / m
  | .div => if b = 0 then m - 1 else unsigned n (Int.tdiv sa sb)
  | .divu => if b = 0 then m - 1 else a / b
  | .rem => if b = 0 then a else unsigned n (Int.tmod sa sb)
  | .remu => if b = 0 then a else a % b
  | .sh1add => (a * 2 + b) % m
  | .sh2add => (a * 4 + b) % m
  | .sh3add => (a * 8 + b) % m
  | .andn => a &&& (m - 1 - b)
  | .orn => a ||| (m - 1 - b)
  | .xnor => m - 1 - (a ^^^ b)
  | .clz => clzOf n a
  | .ctz => ctzOf n a
  | .cpop => popOf n a
  | .min => if sa < sb then a else b
  | .minu => if a < b then a else b
  | .max => if sa < sb then b else a
  | .maxu => if a < b then b else a
  | .sextb => unsigned n (signed 8 a)
  | .sexth => unsigned n (signed 16 a)
  | .zexth => a % 2 ^ 16
  | .rol => if sh = 0 then a else (a * 2 ^ sh % m) ||| (a / 2 ^ (n - sh))
  | .ror => if sh = 0 then a else (a / 2 ^ sh) ||| (a * 2 ^ (n - sh) % m)
  | .orcb => ofOctetsBE ((octetsBE (n / 8) a).map fun o => if o = 0 then 0 else 255)
  | .rev8 => ofOctetsLE (octetsBE (n / 8) a)

/-- The result in a register of `n` bits; a word operation works on 32 bits and extends its sign. -/
def aluResult (n : Nat) (op : RvAlu) (word : Bool) (a b : Nat) : Nat :=
  if word then unsigned n (signed 32 (aluEval 32 op (a % 2 ^ 32) (b % 2 ^ 32))) else aluEval n op a b

/-- Is a branch taken? -/
def branchTaken (n f3 a b : Nat) : Bool :=
  match f3 with
  | 0 => decide (a = b)
  | 1 => decide (a ≠ b)
  | 4 => decide (signed n a < signed n b)
  | 5 => decide (signed n b ≤ signed n a)
  | 6 => decide (a < b)
  | _ => decide (b ≤ a)

/-- The value a load gives a register of `n` bits, from the octets read. -/
def loadValue (n f3 : Nat) (l : List Nat) : Nat :=
  let v := ofOctetsLE l
  if f3 < 4 then unsigned n (signed (8 * 2 ^ f3) v) else v

/-- The value a CSR instruction writes, `none` where it writes nothing. -/
def csrNew (f3 rs1 src old : Nat) : Option Nat :=
  if f3 % 4 = 1 then some src
  else if rs1 = 0 then none
  else if f3 % 4 = 2 then some (old ||| src)
  else some (old - (old &&& src))

/-! ## Floating-point results -/

def fmtOf (dbl : Bool) : FpFmt := if dbl then fp64 else fp32

/-- FMADD (0), FMSUB (1), FNMSUB (2) and FNMADD (3). -/
def fmaEval (f : FpFmt) (kind rm a b c : Nat) : Nat × Nat :=
  let flip (neg : Bool) (v : Nat) : Nat := if neg && !f.isNan v then f.negate v else v
  f.fma rm (flip (2 ≤ kind) a) b (flip (kind = 1 || kind = 3) c)

/-- A floating-point operation on two operands that gives a floating-point result. -/
def fopEval (f : FpFmt) (op : RvFop) (rm a b : Nat) : Nat × Nat :=
  match op with
  | .add => f.add rm a b
  | .sub => f.sub rm a b
  | .mul => f.mul rm a b
  | .div => f.div rm a b
  | .sqrt => f.sqrt rm a
  | .minmax => f.minMax (rm = 1) a b
  | .sgnj => (f.sgnj rm a b, 0)
  | _ => (0, 0)

/-- Does a floating-point operation use its funct3 as a rounding mode? -/
def RvFop.rounds : RvFop → Bool
  | .add | .sub | .mul | .div | .sqrt | .toInt _ _ | .ofInt _ _ | .cvt => true
  | _ => false

/-- The rounding mode in force; modes 5 and 6, and a dynamic mode that names 5 to 7, do not exist. -/
def roundMode (rm frm : Nat) : Option Nat :=
  let r := if rm = 7 then frm else rm
  if r < 5 then some r else none

end Sys2Proof.Machine
end

