-- ==== Sys2Proof/Machine/LaneIsa.lean ====
section
/-! DEFINITION. What a lane pair executes (chapter 6): its address map, its instructions with their timing, the faults that end a
window, lateness, PX.DONE, and debug. -/

namespace Sys2Proof.Machine

/-! ## Registers of a pair -/

def LanePair.getX (c : LanePair) (r : Nat) : Nat := if r = 0 then 0 else (c.x.getD r 0).toNat
def LanePair.getF (c : LanePair) (r : Nat) : Nat := (c.f.getD r 0).toNat
def LanePair.setX (c : LanePair) (r v : Nat) : LanePair := if r = 0 then c else { c with x := c.x.set r (BitVec.ofNat 32 v) }
def LanePair.setF (c : LanePair) (r v : Nat) : LanePair := { c with f := c.f.set r (BitVec.ofNat 32 v) }
def LanePair.flags (c : LanePair) (fl : Nat) : LanePair := { c with fcsr := c.fcsr ||| fl }

/-! ## The end of a partition's run -/

/-- A partition is late in its window (R111, R208, R219). -/
def partLate (s : State) (g w p : Nat) (debug : Bool) : State :=
  let s := if s.partBit F.TIDE_LATE_LATE p then s else s.event blkTide 0x0304 p w g
  let s := ((s.setPartBit F.TIDE_LATE_LATE p true).setFlt F.TIDE_FLT_LATE).count C.TIDE_T_LATE_BUDGET p
  let s := markOutcome s p wsLate
  let s := s.setLpart p { s.lpart p with debugLast := debug }
  if debug then s.setFlt F.LANE_FLT_DBG_LATE else s

/-- The window number of a pair's run, word W0 of its descriptor. -/
def pairWindow (s : State) (n : Nat) : Nat := (s.pair n).desc.getD 0 0

/-- The partition on a pair is stopped as late. -/
def laneLate (s : State) (n : Nat) : State :=
  let c := s.pair n
  laneStop (partLate s (pairGroup s n) (pairWindow s n) c.part c.halted) n c.cycle

/-- A fault ends the partition's window (R206). -/
def laneFault (s : State) (n cause tval : Nat) : State :=
  let c := s.pair n
  let p := c.part
  let pc := c.pc.toNat
  let s := if s.partBit F.LANE_FAULT_FAULT p then s else s.event 6 0x0601 p cause pc tval
  let s := ((s.setPartBit F.LANE_FAULT_FAULT p true).setFlt F.LANE_FLT_FAULT).count C.LANE_T_FAULTS p
  let s := ((s.setFld F.LANE_T_STAT_CAUSE_LAST cause p).setFld F.LANE_T_FPC_VAL pc p).setFld F.LANE_T_FTVAL_VAL tval p
  let s := s.setLpart p { s.lpart p with fpc := pc, ftval := tval % 2 ^ 32 }
  laneStop (markOutcome s p wsFault) n c.cycle

def causeFetch : Nat := 0x01
def causeIllegal : Nat := 0x02
def causeBreak : Nat := 0x03
def causeLoadMis : Nat := 0x04
def causeLoad : Nat := 0x05
def causeStoreMis : Nat := 0x06
def causeStore : Nat := 0x07
def causeFetchEcc : Nat := 0x20
def causeLoadEcc : Nat := 0x21

/-! ## The lane-local address map (R187) -/

/-- Where a lane-local address leads. -/
inductive LaneLoc where
  | code (phys : Nat)
  | data (phys : Nat)
  | desc (off : Nat)
  | stat (off : Nat)
  | staging (off : Nat)
  | goose (off : Nat)
  | snap (off : Nat)
  | none
  deriving DecidableEq, Repr

/-- The physical address of an offset of a table's memories (R27, R186). -/
def lanePhys (t off : Nat) : Nat := laneBase + t * 0x100000 + off

/-- The place of a slot's banks in the memories of its table: the committed one, and behind it the working one (R201). -/
def bankPhys (t : Nat) (r : SlotRegions) (working : Bool) : Nat :=
  lanePhys t (0x40000 + (r.stateBase + if working then r.stateSize else 0) * 1024)

/-- The location of a lane-local address for a partition with regions `r` in table `t`. -/
def laneLoc (t : Nat) (r : SlotRegions) (a : Nat) : LaneLoc :=
  let within (base size : Nat) : Bool := decide (base ≤ a) && decide (a < base + size)
  if within (r.codeBase * 1024) (r.codeSize * 1024) then .code (lanePhys t a)
  else if within (0x40000 + r.dataBase * 1024) (r.dataSize * 1024) then .data (lanePhys t a)
  else if within 0x80000 0x20 then .desc (a - 0x80000)
  else if within 0x80020 0x20 then .stat (a - 0x80020)
  else if within 0x90000 0x100 then .staging (a - 0x90000)
  else if within 0xA0000 (r.stateSize * 1024) then .data (bankPhys t r true + (a - 0xA0000))
  else if within 0xC0000 0x8000 then .goose (a - 0xC0000)
  else if within 0x10000000 0x1000000 then .snap (a - 0x10000000)
  else .none

/-- Cycles occupying issue and result latency of a load (R193). -/
def LaneLoc.loadCost : LaneLoc → Nat × Nat
  | .code _ => (2, 3)
  | .goose _ => (1, 3)
  | .snap _ => (1, 8)
  | _ => (1, 2)

/-- What the lane window of a group sees of the channels bound to it: entries per window and the value A of R167, by channel (R197). -/
def viewChans (s : State) (g : Nat) : Sparse (Nat × Nat) :=
  ((enabledChans s).filter fun c => chBound s c && decide (chGroup s c = g)).map fun c =>
    let num := (s.fld F.TIDE_G_DRO_DRO g * chRate s c + 1000000000) * chOspc s c * fmax100 s g
    (c, chOspc s c / wpc s g, (divCeil (num : Int) (chRate s c * 100000000000)).toNat)

/-- The entries of the sample plane of some channels, as they stand. -/
def viewPlane (s : State) (l : Sparse (Nat × Nat)) : Sparse (Nat × Nat) :=
  s.fab.plane.filter fun e => (sparseFind (e.1 / 256) l).isSome

/-- A word of the snapshot view of a lane window (R197): an entry that the FDC had written by the window's start and does not overwrite in the window, else
the void entry. Its read is checked by ECC (R183). -/
def snapWord (s : State) (w : LaneWin) (off : Nat) : Nat × State :=
  let c := off / 2048
  let slot := off / 8 % 256
  let pick (e : Nat × Nat) : Nat := if off / 4 % 2 = 0 then e.1 else e.2
  match sparseFind c w.chans with
  | none => (pick voidEntry, s)
  | some (v, a) =>
    let m : Int := (w.n * v : Nat)
    let e : Int := m - ((m - (slot : Int)) % 256)
    if m - 255 + (a : Int) + (v : Int) ≤ e then
      let (x, s) := readPlaneAs s c slot (sparseGet voidEntry w.plane (c * 256 + slot))
      (pick x, s)
    else (pick voidEntry, s)

/-- A word of the snapshot view that a pair sees: that of its group's window in progress, void entries while there is none. -/
def viewWord (s : State) (g off : Nat) : Nat × State :=
  match (s.grp g).cur with
  | some w => snapWord s w off
  | none => (if off / 4 % 2 = 0 then voidEntry.1 else voidEntry.2, s)

/-- The word of an octet list at an offset. -/
def wordOf (l : List Nat) (off : Nat) : Nat := l.getD (off / 4) 0

/-- A word of the GOOSE input view: a record whose owner is another partition reads zero (R199). -/
def gooseViewWord (s : State) (g p off : Nat) : Nat :=
  let i := off / 32
  if s.fld F.GOOSE_S_CTL_OWNER i ≠ p then 0
  else match (s.grp g).cur with
    | some w => wordOf (sparseGet [] w.goose i) (off % 32)
    | none => 0

/-- What a lane access gives: octets, or the cause of a fault. -/
inductive LaneRes where
  | ok (l : List Nat)
  | bad (cause : Nat)

/-- The words of a range of a lane memory with a double-bit error, and with a single-bit error (R207). -/
def laneUe (s : State) (a n : Nat) : Nat := (laneWords a n).countP s.lane.faulty.contains
def laneCe (s : State) (a n : Nat) : Nat := (laneWords a n).countP s.lane.single.contains

/-- Count uncorrectable errors that a pair's access met in the memories of a table. -/
def laneUeCount (s : State) (t n : Nat) : State :=
  ((s.countBy C.LANE_ECC_UE n).countBy C.LANE_P_ECC_UE n t).setFlt F.LANE_FLT_ECC_UE

/-- Octets of a word. -/
def ofWord (w a n : Nat) : List Nat := ((octetsLE 4 w).drop (a % 4)).take n

/-- A load of `n` octets, aligned, by the partition on a pair. -/
def laneLoad (s : State) (k a n : Nat) : LaneRes × State :=
  let c := s.pair k
  let t := pairTable s k
  let mem (p : Nat) : LaneRes × State :=
    let bad := laneUe s p n
    let s := laneCeCount s t (laneCe s p n)
    if bad = 0 then (.ok (s.memBytes p n), s) else (.bad causeLoadEcc, laneUeCount s t bad)
  match laneLoc t c.regs a with
  | .code p => mem p
  | .data p => mem p
  | .desc o => (.ok (ofWord (wordOf c.desc o) o n), s)
  | .stat o => (.ok (ofWord (wordOf c.stat o) o n), s)
  | .staging o => (.ok (ofWord (wordOf c.staging o) o n), s)
  | .goose o => (.ok (ofWord (gooseViewWord s (pairGroup s k) c.part o) o n), s)
  | .snap o => let (w, s) := viewWord s (pairGroup s k) o; (.ok (ofWord w o n), s)
  | .none => (.bad causeLoad, s)

/-- The word with some of its octets replaced. -/
def putOctets (w a : Nat) (l : List Nat) : Nat :=
  let o := octetsLE 4 w
  ofOctetsLE (o.take (a % 4) ++ l ++ o.drop (a % 4 + l.length))

/-- Write octets to a lane memory: a faulty word written is sound again (R207). -/
def laneMemWrite (s : State) (a : Nat) (l : List Nat) : State :=
  laneSound (s.setMemBytes a l) a l.length

/-- A store, aligned: `none` where it is not permitted. -/
def laneStore (s : State) (k a : Nat) (l : List Nat) : Option State :=
  let c := s.pair k
  match laneLoc (pairTable s k) c.regs a with
  | .data p => some (laneMemWrite s p l)
  | .staging o => some (s.setPair k { c with staging := c.staging.set (o / 4) (putOctets (wordOf c.staging o) o l) })
  | _ => none

/-! ## Timing (R193) -/

/-- The registers that an instruction reads, f0 to f31 as 32 to 63. -/
def RvOp.sources : RvOp → List Nat
  | .jalr _ a _ => [a]
  | .branch _ a b _ => [a, b]
  | .load _ _ a _ => [a]
  | .store _ a b _ => [a, b]
  | .alu _ _ _ a b => [a, b]
  | .aluImm _ _ _ a _ => [a]
  | .csr f3 _ a _ => if f3 < 4 then [a] else []
  | .fload _ _ a _ => [a]
  | .fstore _ a b _ => [a, 32 + b]
  | .fma _ _ _ _ a b c => [32 + a, 32 + b, 32 + c]
  | .fop (.ofInt _ _) _ _ _ a _ => [a]
  | .fop .mvFromX _ _ _ a _ => [a]
  | .fop op _ _ _ a b => match op with
    | .sqrt | .classify | .mvToX | .cvt | .toInt _ _ => [32 + a]
    | _ => [32 + a, 32 + b]
  | .px f7 f3 rd a b =>
    let ph (r : Nat) : List Nat := [32 + r, 33 + r]
    if f3 = 1 then ph a
    else if f3 = 2 then [a]
    else if f3 = 3 then (if f7 = 0x12 then ph rd ++ [32 + a, b] else ph a ++ [b])
    else if f3 = 4 then [a, b]
    else if f3 = 7 then [a]
    else if f7 = 5 then ph a ++ [32 + b]
    else if f7 = 2 then ph rd ++ ph a ++ ph b
    else if f7 < 5 then ph a ++ ph b
    else ph a
  | _ => []

/-- The cycles an instruction occupies issue and its result latency, but for loads and taken branches. -/
def RvOp.cost : RvOp → Nat × Nat
  | .jal _ _ => (2, 1)
  | .jalr _ _ _ => (3, 1)
  | .alu op _ _ _ _ => match op with
    | .mul | .mulh | .mulhsu | .mulhu => (1, 3)
    | .div | .divu | .rem | .remu => (34, 34)
    | _ => (1, 1)
  | .fma _ _ _ _ _ _ _ => (1, 5)
  | .fop op _ _ _ _ _ => match op with
    | .div | .sqrt => (16, 16)
    | .sgnj | .mvToX | .mvFromX | .classify => (1, 1)
    | _ => (1, 4)
  | .px f7 f3 _ _ _ =>
    if f3 = 1 || f7 = 9 then (1, 12)
    else if f3 = 2 then (1, 6)
    else if f3 = 3 then (1, 8)
    else if f3 = 4 || f3 = 7 then (1, 1)
    else if f7 = 2 then (1, 5)
    else (1, 4)
  | _ => (1, 1)

/-- Does an instruction use the unit of PX.CABS and PX.CARG? -/
def RvOp.usesPxUnit : RvOp → Bool
  | .px f7 f3 _ _ _ => decide (f7 = 9 ∧ f3 = 0) || decide (f7 = 0x0A ∧ f3 = 1)
  | _ => false

/-- The cycle in which an instruction issues: in order, its sources ready, its unit free. -/
def issueAt (c : LanePair) (op : RvOp) : Nat :=
  let t := op.sources.foldl (fun t r => if r = 0 then t else max t (sparseGet 0 c.ready r)) c.cycle
  if op.usesPxUnit then max t c.pxFree else t

/-- The pair after an instruction has retired: issue and result times, count and PC. -/
def LanePair.retire (c : LanePair) (op : RvOp) (issue : Nat) (cost : Nat × Nat) (dests : List Nat) (pc : Nat) : LanePair :=
  { c with cycle := issue + cost.1, instret := c.instret + 1, pc := BitVec.ofNat 32 pc
           ready := dests.foldl (fun m r => sparsePut r (issue + cost.2) m) c.ready
           pxFree := if op.usesPxUnit then issue + 12 else c.pxFree }

/-! ## CSRs (R192) -/

/-- The value of a lane CSR, where it exists. -/
def laneCsr (s : State) (n issue num : Nat) : Option Nat :=
  let c := s.pair n
  match num with
  | 0x001 => some (c.fcsr % 32)
  | 0x002 => some (c.fcsr / 32 % 8)
  | 0x003 => some (c.fcsr % 256)
  | 0xC00 => some (issue % 2 ^ 32)
  | 0xC80 => some (issue / 2 ^ 32)
  | 0xC02 => some (c.instret % 2 ^ 32)
  | 0xC82 => some (c.instret / 2 ^ 32)
  | 0xCC0 => some c.part
  | 0xCC1 => some (pairWindow s n)
  | 0xCC2 => some (c.desc.getD 7 0 - issue)
  | _ => none

/-- Write a lane CSR that is not read-only. -/
def LanePair.writeCsr (c : LanePair) (num v : Nat) : LanePair :=
  match num with
  | 0x001 => { c with fcsr := c.fcsr / 32 * 32 + v % 32 }
  | 0x002 => { c with fcsr := v % 8 * 32 + c.fcsr % 32 }
  | _ => { c with fcsr := v % 256 }

/-! ## Phasor instructions (R213 to R217) -/

/-- Is a phasor instruction in the table of R213, with even phasor registers and zero where 0 is shown? -/
def pxValid (f7 f3 rd rs1 rs2 : Nat) : Bool :=
  let ev (r : Nat) : Bool := decide (r % 2 = 0)
  if f3 = 0 then
    if f7 < 5 then ev rd && ev rs1 && ev rs2
    else if f7 = 5 then ev rd && ev rs1
    else if f7 = 8 || f7 = 9 then ev rs1 && decide (rs2 = 0)
    else false
  else if f3 = 1 then decide (f7 = 0x0A) && ev rs1 && decide (rs2 = 0)
  else if f3 = 2 then decide (f7 = 0x10) && ev rd && decide (rs2 = 0)
  else if f3 = 3 then (decide (f7 = 0x11) && ev rd && ev rs1) || (decide (f7 = 0x12) && ev rd)
  else if f3 = 4 then decide (f7 = 0x20)
  else if f3 = 7 then decide (f7 = 0x7F) && decide (rd = 0) && decide (rs2 = 0)
  else false

/-- A phasor result: the pair's registers with both parts and flags. -/
def LanePair.setPhasor (c : LanePair) (rd : Nat) (re im : Nat × Nat) : LanePair :=
  ((c.setF rd re.1).setF (rd + 1) im.1).flags (re.2 ||| im.2)

/-- The results of the phasor instructions but PX.DONE (R214 to R216). -/
def LanePair.pxExec (c : LanePair) (f7 f3 rd rs1 rs2 : Nat) : LanePair :=
  let a := c.getF rs1
  let b := c.getF (rs1 + 1)
  let c2 := c.getF rs2
  let d := c.getF (rs2 + 1)
  let dr := c.getF rd
  let di := c.getF (rd + 1)
  let one := fp32.one
  let two (re im : List PxTerm) : LanePair := c.setPhasor rd (pxSum re) (pxSum im)
  if f3 = 0 then
    if f7 = 0 then two [px a c2, pxNeg b d] [px a d, px b c2]
    else if f7 = 1 then two [px a c2, px b d] [px b c2, pxNeg a d]
    else if f7 = 2 then two [px dr one, px a c2, pxNeg b d] [px di one, px a d, px b c2]
    else if f7 = 3 then two [px a one, px c2 one] [px b one, px d one]
    else if f7 = 4 then two [px a one, pxNeg c2 one] [px b one, pxNeg d one]
    else if f7 = 5 then two [px a c2] [px b c2]
    else
      let r := if f7 = 8 then pxSum [px a a, px b b] else pxAbs a b
      (c.setF rd r.1).flags r.2
  else if f3 = 1 then
    let r := pxArg a b
    (c.setX rd r.1).flags r.2
  else if f3 = 2 then
    let (re, im) := pxCis (c.getX rs1)
    c.setPhasor rd re im
  else if f3 = 3 then
    let (re, im) := pxCis (c.getX rs2)
    if f7 = 0x11 then two [px a re.1, pxNeg b im.1] [px a im.1, px b re.1]
    else two [px dr one, px a re.1] [px di one, pxNeg a im.1]
  else c.setX rd (ofBit (pxQchk (c.getX rs1) (c.getX rs2)))

/-- The registers that a phasor instruction writes. -/
def pxDests (f7 f3 rd : Nat) : List Nat :=
  if f3 = 1 || f3 = 4 then [rd]
  else if f3 = 0 && (f7 = 8 || f7 = 9) then [32 + rd]
  else [32 + rd, 33 + rd]

/-- PX.DONE retires: the staging vector and the working bank become pending, or are discarded, by the operand (R202). -/
def laneDone (s : State) (n operand issue : Nat) : State :=
  let c := s.pair n
  let l := s.lpart c.part
  let held := bitOf operand 0
  let l : LanePart := { l with pendVec := if held then none else some c.staging, pendState := !bitOf operand 1 }
  laneStop (markOutcome (s.setLpart c.part l) c.part (if held then wsHeld else wsCommitted)) n issue

/-! ## One instruction -/

/-- Execute a decoded instruction of `len` octets on a pair that issues it at `issue`; `iw` is its word. -/
def laneExec (s : State) (n issue len iw : Nat) (op : RvOp) : State :=
  let c := s.pair n
  let pc := c.pc.toNat
  let next := (pc + len) % 2 ^ 32
  let done (c : LanePair) (dests : List Nat) : State := s.setPair n (c.retire op issue op.cost dests next)
  let jump (c : LanePair) (dests : List Nat) (cost : Nat × Nat) (dest : Int) : State :=
    s.setPair n (c.retire op issue cost dests (unsigned 32 dest))
  let illegal : State := laneFault s n causeIllegal iw
  let fdone (rd : Nat) (r : Nat × Nat) : State := done ((c.setF rd r.1).flags r.2) [32 + rd]
  let xdone (rd : Nat) (r : Nat × Nat) : State := done ((c.setX rd r.1).flags r.2) [rd]
  let rmOf (rm : Nat) : Option Nat := roundMode rm (c.fcsr / 32 % 8)
  let ea (rs1 : Nat) (off : Int) : Nat := unsigned 32 ((c.getX rs1 : Int) + off)
  let loadTo (a size : Nat) (dest : Nat) (f : List Nat → LanePair → LanePair) : State :=
    if a % size ≠ 0 then laneFault s n causeLoadMis a
    else
      match laneLoad s n a size with
      | (.bad cause, s) => laneFault s n cause a
      | (.ok l, s) =>
        s.setPair n ((f l (s.pair n)).retire op issue (laneLoc (pairTable s n) c.regs a).loadCost [dest] next)
  let storeFrom (a size v : Nat) : State :=
    if a % size ≠ 0 then laneFault s n causeStoreMis a
    else
      match laneStore s n a (octetsLE size v) with
      | none => laneFault s n causeStore a
      | some s => s.setPair n ((s.pair n).retire op issue (1, 1) [] next)
  match op with
  | .lui rd imm => done (c.setX rd (unsigned 32 imm)) [rd]
  | .auipc rd imm => done (c.setX rd (unsigned 32 (pc + imm))) [rd]
  | .jal rd off => jump (c.setX rd next) [rd] (2, 1) (pc + off)
  | .jalr rd rs1 off => jump (c.setX rd next) [rd] (3, 1) (ea rs1 off / 2 * 2 : Nat)
  | .branch f3 a b off =>
    if branchTaken 32 f3 (c.getX a) (c.getX b) then jump c [] (2, 1) (pc + off) else done c []
  | .load f3 rd rs1 off => loadTo (ea rs1 off) (2 ^ (f3 % 4)) rd fun l c => c.setX rd (loadValue 32 f3 l)
  | .store f3 rs1 rs2 off => storeFrom (ea rs1 off) (2 ^ f3) (c.getX rs2)
  | .alu op word rd a b => done (c.setX rd (aluResult 32 op word (c.getX a) (c.getX b))) [rd]
  | .aluImm op word rd a imm => done (c.setX rd (aluResult 32 op word (c.getX a) (unsigned 32 imm))) [rd]
  | .fence => done c []
  | .csr f3 rd rs1 num =>
    match laneCsr s n issue num with
    | none => illegal
    | some old =>
      match csrNew f3 rs1 (if f3 < 4 then c.getX rs1 else rs1) old with
      | none => done (c.setX rd old) [rd]
      | some v => if 0xC00 ≤ num then illegal else done ((c.writeCsr num v).setX rd old) [rd]
  | .fload _ rd rs1 off => loadTo (ea rs1 off) 4 (32 + rd) fun l c => c.setF rd (ofOctetsLE l)
  | .fstore _ rs1 rs2 off => storeFrom (ea rs1 off) 4 (c.getF rs2)
  | .fma _ kind rm rd a b c3 =>
    match rmOf rm with
    | none => illegal
    | some r => fdone rd (fmaEval fp32 kind r (c.getF a) (c.getF b) (c.getF c3))
  | .fop fo _ rm rd a b =>
    match (if fo.rounds then rmOf rm else some rm) with
    | none => illegal
    | some r =>
      match fo with
      | .cmp => xdone rd (fp32.compare rm (c.getF a) (c.getF b))
      | .classify => xdone rd (fp32.classify (c.getF a), 0)
      | .mvToX => xdone rd (c.getF a, 0)
      | .mvFromX => fdone rd (c.getX a, 0)
      | .toInt w sgn => xdone rd (fp32.toInt r w sgn (c.getF a))
      | .ofInt w sgn => fdone rd (fp32.ofInt r (if sgn then signed w (c.getX a) else (c.getX a : Int)))
      | _ => fdone rd (fopEval fp32 fo r (c.getF a) (c.getF b))
  | .px f7 f3 rd a b =>
    if !pxValid f7 f3 rd a b then illegal
    else if f3 = 7 then laneDone (s.setPair n (c.retire op issue op.cost [] next)) n (c.getX a) issue
    else done (c.pxExec f7 f3 rd a b) (pxDests f7 f3 rd)
  | .ebreak =>
    if c.debugger && decide (s.keys.lifecycle ≤ lcDevelop) then s.setPair n { c with halted := true }
    else laneFault s n causeBreak pc
  | _ => illegal

/-- Issue an instruction: late when the run's limit is reached before it (R111, R210). -/
def laneIssue (s : State) (n len iw : Nat) (op : RvOp) : State :=
  let t := issueAt (s.pair n) op
  if (s.pair n).limit ≤ t then laneLate s n else laneExec s n t len iw op

/-- Does a hardware trigger stop a pair before an instruction (R218)? -/
def laneTriggered (s : State) (n : Nat) (op : RvOp) : Bool :=
  let c := s.pair n
  let ea (rs1 : Nat) (off : Int) : Nat := unsigned 32 ((c.getX rs1 : Int) + off)
  let data : Option Nat := match op with
    | .load _ _ a off => some (ea a off)
    | .store _ a _ off => some (ea a off)
    | .fload _ _ a off => some (ea a off)
    | .fstore _ a _ off => some (ea a off)
    | _ => none
  decide (s.keys.lifecycle ≤ lcDevelop) &&
    c.trigs.any fun t => if t.onData then decide (data = some t.addr) else decide (t.addr = c.pc.toNat)

/-- Fetch, decode and issue the instruction at a pair's PC; with `trig`, triggers halt the pair first. -/
def laneFetch (s : State) (n : Nat) (trig : Bool) : State :=
  let c := s.pair n
  let t := pairTable s n
  let pc := c.pc.toNat
  let half (a : Nat) : Option Nat := match laneLoc t c.regs a with | .code p => some p | _ => none
  let go (p len iw : Nat) (op : RvOp) : State :=
    let bad := laneUe s p len
    let s := laneCeCount s t (laneCe s p len)
    if bad ≠ 0 then laneFault (laneUeCount s t bad) n causeFetchEcc pc
    else if trig && laneTriggered s n op then s.setPair n { c with halted := true }
    else laneIssue s n len iw op
  match half pc with
  | none => laneFault s n causeFetch pc
  | some p =>
    let lo := ofOctetsLE (s.memBytes p 2)
    if lo % 4 ≠ 3 then go p 2 lo (decode16 .lane lo)
    else
      match half (pc + 2) with
      | none => laneFault s n causeFetch (pc + 2)
      | some _ =>
        let w := ofOctetsLE (s.memBytes p 4)
        go p 4 w (decode32 .lane w)

/-- Is a pair executing a partition, its preamble over (R108), and not halted? -/
def laneRuns (s : State) (n : Nat) : Bool := decide (n < lanePairs) && pairExecutes s n && !(s.pair n).halted

/-- LANE_INSTRUCTION: the pair executes the instruction at its PC (R190 to R193, R206). -/
def laneInstruction (s : State) (n : Nat) : State := if laneRuns s n then laneFetch s n true else s

def execLaneInstruction (n : Nat) (s : State) : Host.Outcome State Fault Refusal := .next (s.live fun s => laneInstruction s n)

/-- A phasor instruction as the next instruction of a pair (R213). -/
def laneP (s : State) (n f7 f3 rd rs1 rs2 : Nat) : State :=
  let rd := rd % 32
  let rs1 := rs1 % 32
  let rs2 := rs2 % 32
  let iw := f7 * 2 ^ 25 + rs2 * 2 ^ 20 + rs1 * 2 ^ 15 + f3 * 2 ^ 12 + rd * 2 ^ 7 + 0x0B
  if laneRuns s n then laneIssue s n 4 iw (.px f7 f3 rd rs1 rs2) else s

def execPxCmul (n rd rs1 rs2 : Nat) (s : State) : Host.Outcome State Fault Refusal := .next (s.live fun s => laneP s n 0x00 0 rd rs1 rs2)
def execPxCmulc (n rd rs1 rs2 : Nat) (s : State) : Host.Outcome State Fault Refusal := .next (s.live fun s => laneP s n 0x01 0 rd rs1 rs2)
def execPxCmac (n rd rs1 rs2 : Nat) (s : State) : Host.Outcome State Fault Refusal := .next (s.live fun s => laneP s n 0x02 0 rd rs1 rs2)
def execPxCadd (n rd rs1 rs2 : Nat) (s : State) : Host.Outcome State Fault Refusal := .next (s.live fun s => laneP s n 0x03 0 rd rs1 rs2)
def execPxCsub (n rd rs1 rs2 : Nat) (s : State) : Host.Outcome State Fault Refusal := .next (s.live fun s => laneP s n 0x04 0 rd rs1 rs2)
def execPxCscl (n rd rs1 rs2 : Nat) (s : State) : Host.Outcome State Fault Refusal := .next (s.live fun s => laneP s n 0x05 0 rd rs1 rs2)
def execPxCabs2 (n rd rs1 : Nat) (s : State) : Host.Outcome State Fault Refusal := .next (s.live fun s => laneP s n 0x08 0 rd rs1 0)
def execPxCabs (n rd rs1 : Nat) (s : State) : Host.Outcome State Fault Refusal := .next (s.live fun s => laneP s n 0x09 0 rd rs1 0)
def execPxCarg (n rd rs1 : Nat) (s : State) : Host.Outcome State Fault Refusal := .next (s.live fun s => laneP s n 0x0A 1 rd rs1 0)
def execPxCis (n rd rs1 : Nat) (s : State) : Host.Outcome State Fault Refusal := .next (s.live fun s => laneP s n 0x10 2 rd rs1 0)
def execPxRot (n rd rs1 rs2 : Nat) (s : State) : Host.Outcome State Fault Refusal := .next (s.live fun s => laneP s n 0x11 3 rd rs1 rs2)
def execPxDfta (n rd rs1 rs2 : Nat) (s : State) : Host.Outcome State Fault Refusal := .next (s.live fun s => laneP s n 0x12 3 rd rs1 rs2)
def execPxQchk (n rd rs1 rs2 : Nat) (s : State) : Host.Outcome State Fault Refusal := .next (s.live fun s => laneP s n 0x20 4 rd rs1 rs2)
def execPxDone (n rs1 : Nat) (s : State) : Host.Outcome State Fault Refusal := .next (s.live fun s => laneP s n 0x7F 7 0 rs1 0)

/-! ## Time on a lane -/

/-- PARTITION_LATE: BUDGET or the working part has run out, by the cycle counter or by the time in the window (R111). -/
def partitionLate (s : State) (n : Nat) : State :=
  let c := s.pair n
  if lanePairs ≤ n || !c.run then s
  else if c.limit ≤ max c.cycle (laneClock s n) then laneLate (s.setPair n { c with cycle := c.limit }) n
  else s

def execPartitionLate (n : Nat) (s : State) : Host.Outcome State Fault Refusal := .next (s.live fun s => partitionLate s n)

/-! ## Debug (R218, R219) -/

/-- May a debugger halt the lanes in the present lifecycle state? -/
def laneDebuggable (s : State) : Bool := decide (s.keys.lifecycle ≤ lcDevelop)

/-- LANE_DEBUG_HALT: both cores stop at an instruction boundary. -/
def laneDebugHalt (s : State) (n : Nat) : State :=
  if lanePairs ≤ n || !laneDebuggable s then s else s.setPair n { s.pair n with halted := true, debugger := true }

def execLaneDebugHalt (n : Nat) (s : State) : Host.Outcome State Fault Refusal := .next (s.live fun s => laneDebugHalt s n)

/-- LANE_DEBUG_RESUME: the run continues where it has not become late; its cycle counter has kept running. Otherwise the run is late and the resume takes
effect at the next preamble. -/
def laneDebugResume (s : State) (n : Nat) : State :=
  let c := s.pair n
  if lanePairs ≤ n || !laneDebuggable s || !c.halted then s
  else if !c.run then s.setPair n { c with resume := true }
  else if c.limit ≤ max c.cycle (laneClock s n) then
    let s := partitionLate s n
    s.setPair n { s.pair n with resume := true }
  else s.setPair n { c with halted := false, cycle := max c.cycle (laneClock s n) }

def execLaneDebugResume (n : Nat) (s : State) : Host.Outcome State Fault Refusal := .next (s.live fun s => laneDebugResume s n)

/-- LANE_DEBUG_STEP: a halted pair executes one instruction and stays halted. -/
def laneDebugStep (s : State) (n : Nat) : State :=
  let c := s.pair n
  if lanePairs ≤ n || !laneDebuggable s || !c.halted || !pairExecutes s n then s
  else
    let s := laneFetch (s.setPair n { c with cycle := max c.cycle (laneClock s n) }) n false
    s.setPair n { s.pair n with halted := true }

def execLaneDebugStep (n : Nat) (s : State) : Host.Outcome State Fault Refusal := .next (s.live fun s => laneDebugStep s n)

/-! ## Registers with effects -/

/-- VECTOR_LATCH_READ: a read of LANE_T_VEC_0 latches the selected partition's committed vector (R205). -/
def vectorLatch (s : State) : State :=
  let p := s.fld F.LANE_SEL_INDEX
  if s.fld F.LANE_SEL_KIND = 1 && 1 ≤ p then { s with lane := { s.lane with latch := (s.lpart p).vec } } else s

def execVectorLatchRead (s : State) : Host.Outcome State Fault Refusal := .next (s.live fun s => vectorLatch s)

/-- CLR_USED: USED_MAX of every slot of the selected pair is cleared. -/
def clrUsed (s : State) : State :=
  let n := s.fld F.LANE_SEL_INDEX
  if s.fld F.LANE_SEL_KIND = 0 && n < lanePairs then
    (List.range laneSlots).foldl (fun s j => s.setFld (F.LANE_P_SLOT_USED_MAX_USED_MAX.el j) 0 n) s
  else s

def execClrUsed (s : State) : Host.Outcome State Fault Refusal := .next (s.live fun s => clrUsed s)

end Sys2Proof.Machine
end

