-- ==== Sys2Proof/Machine/Windows.lean ====
section
/-! DEFINITION. Lane windows (chapters 3 and 6): their start, the slots, the commit, and the failover of lane pairs. -/

namespace Sys2Proof.Machine

/-! ## The tables -/

/-- The data-ready delay of a group after a boundary, D + DRO, in 2^-16 ns (R92). -/
def laneDelay (s : State) (g : Nat) : Nat := (adepth s g + s.fld F.TIDE_G_DRO_DRO g) * 65536

/-- Is a table without a pair that runs it in this window: its pair has failed, or its spare has not begun (R113 to R115)? -/
def tableDead (s : State) (t : Nat) : Bool :=
  match pairOfTable s t with
  | none => true
  | some m => (sparseFind t s.tide.failAt).isSome || (s.pair m).attachAt.isSome

/-- The shortest time, in SYS cycles, from a mismatch to the window in which the spare runs (R113). -/
def spareMargin : Nat := 2000

/-- At the start of a window a spare attached in time begins to run its table. -/
def spareBegin (s : State) (t : Nat) : State :=
  match sparseFind t s.tide.failAt, pairOfTable s t with
  | some e, some m =>
    if e + spareMargin ≤ s.time.sys && (s.pair m).attachAt.isNone then { s with tide := { s.tide with failAt := sparseDel t s.tide.failAt } }
    else s
  | _, _ => s

/-- A slot of a table is dropped, with status FAIL (R114). -/
def slotDrop (s : State) (p : Nat) : State :=
  if (s.lpart p).outcome = wsFail then s
  else
    let s := markOutcome s p wsFail
    (s.setLpart p { s.lpart p with pendVec := none, pendState := false }).count C.TIDE_T_LATE_FAIL p

/-- Does a partition not run although its slot opens: it is held in reset, by its reset or by the joining of its module (R209, R306)? -/
def slotHeld (s : State) (p : Nat) : Bool := s.flag F.LANE_T_STAT_RESET_HELD p || joinHeld s p

/-- A slot that opens and runs nothing: the outcome of its partition; true when it may run. -/
def slotOpen (s : State) (g w t p : Nat) : Bool × State :=
  if tableDead s t then (false, slotDrop s p)
  else if slotHeld s p then
    let s := markOutcome s p wsReset
    (false, s.setLpart p { s.lpart p with first := 2 })
  else
    let m := (pairOfTable s t).getD 0
    let c := s.pair m
    if c.halted && !c.resume then (false, partLate s g w p true) else (true, s)

/-! ## Window start (R92) -/

/-- The descriptor words kept of a group: those of its last windows. -/
def pruneDesc (n : Nat) (d : Sparse (List Nat)) : Sparse (List Nat) :=
  d.filter fun e => decide ((n + 2 ^ 32 - e.1) % 2 ^ 32 ≤ 256) || decide (2 ^ 31 ≤ (n + 2 ^ 32 - e.1) % 2 ^ 32)

/-- The boundary that ends a fixed window. -/
def windowEnd (s : State) (g : Nat) (w : TideWin) : Nat :=
  let grp := s.grp g
  match grp.wins.find? fun v => v.n = (w.n + 1) % 2 ^ 32 with
  | some v => v.b
  | none => grp.b

/-- The schedule of a group's tables for window `n`: its enabled slots. -/
def windowSlots (s : State) (g n : Nat) : List LaneSlot :=
  (groupSlots s g).map fun (t, j) =>
    { tab := t, idx := j, part := slotPart s t j, start := slotStart s t j, budget := slotBudget s t j, runs := slotRuns s t j n }

/-- Lane window `w` of a group as it starts: the descriptor words, the GOOSE view, the snapshot of the sample plane and the schedule are taken. -/
def laneWinOf (s : State) (g : Nat) (w : TideWin) : LaneWin :=
  let d := sparseGet [] (s.grp g).desc w.n
  let at_ (i : Nat) : Nat := d.getD i 0
  let chans := viewChans s g
  { n := w.n, map := w, start := w.b + laneDelay s g, stop := windowEnd s g w + laneDelay s g, edge := s.time.sys, tq := s.fld F.TIME_STAT_TQ
    d1 := at_ 0, d2 := at_ 1, d3 := at_ 2, d4 := at_ 3, d5 := at_ 4, d6 := at_ 5, goose := gooseView s, chans := chans, plane := viewPlane s chans
    slots := windowSlots s g w.n, workEnd := cMin s g - commitReserve, opened := [] }

/-- Start lane window `w` of a group, with its snapshot (R92); spares attached in time begin. -/
def windowStart (s : State) (g : Nat) (w : TideWin) : State :=
  let grp := s.grp g
  let cur := laneWinOf s g w
  let s := s.setGrp g { grp with cur := some cur, nextWin := grp.nextWin + 1, desc := pruneDesc w.n grp.desc }
  let s := (s.setFld F.TIDE_G_INC_VAL w.inc g).setFld F.TIDE_G_WIN_VAL w.n g
  let s := (groupTables s g).foldl spareBegin s
  let s := (groupTables s g).foldl (fun s t =>
    if tableDead s t then s else s.count C.TIDE_P_WINDOWS_RUN ((pairOfTable s t).getD 0)) s
  s.count C.TIDE_G_WINDOWS g

/-- The next fixed window of a group whose lane window is due. -/
def windowDue (s : State) (g : Nat) : Option TideWin :=
  if 8 ≤ g || !grpEn s g then none
  else ((s.grp g).wins.find? fun w => w.n = (s.grp g).nextWin % 2 ^ 32).bind fun w =>
    if w.b + laneDelay s g ≤ s.devT then some w else none

/-! ## Slots (R108, R194) -/

/-- The slot status block (R196). -/
def statusBlock (s : State) (m t p : Nat) : List Nat :=
  let l := s.lpart p
  [l.lastStatus * 2 ^ 16 + l.lastCause * 2 ^ 8 + ofBit l.debugLast * 8 + ofBit (decide (l.lastStatus = wsHeld)) * 4
     + ofBit (decide (l.lastStatus = wsFault)) * 2 + ofBit (decide (l.first ≠ 0)), l.used, l.commits % 2 ^ 32, l.fpc, l.ftval,
   m + t * 2 ^ 8, 0, 0]

/-- The window descriptor of a slot (R106, R209). -/
def slotDesc (s : State) (w : LaneWin) (e : LaneSlot) : List Nat :=
  let l := s.lpart e.part
  let last := if l.first = 2 then 0 else ofBit (decide (l.lastStatus = wsLate)) * 2 ^ 8 + ofBit (decide (l.lastStatus = wsFail)) * 2 ^ 9
  [w.n, w.d1, w.d2, w.d3, w.d4 + last, w.d5, w.d6, e.budget]

/-- The marks of a range of octets, as offsets of words from its start. -/
def marksIn (l : List Nat) (a n : Nat) : List Nat := (l.filter fun w => decide (a ≤ w) && decide (w < a + n)).map fun w => w - a

/-- Copy one bank of a partition to the other. The words read with an error are counted (R207); one with a double-bit error stays faulty in the copy. -/
def bankCopy (s : State) (t : Nat) (r : SlotRegions) (toWorking : Bool) : State :=
  let n := r.stateSize * 1024
  let src := bankPhys t r (!toWorking)
  let dst := bankPhys t r toWorking
  let bad := marksIn s.lane.faulty src n
  let s := laneCeCount s t (marksIn s.lane.single src n).length
  let s := if bad.isEmpty then s else laneUeCount s t bad.length
  let s := laneMemWrite s dst (s.memBytes src n)
  { s with lane := { s.lane with faulty := bad.map (· + dst) ++ s.lane.faulty } }

/-- Zero both banks of a partition. -/
def bankZero (s : State) (t : Nat) (r : SlotRegions) : State :=
  laneMemWrite s (bankPhys t r false) (List.replicate (2 * r.stateSize * 1024) 0)

/-- The pair as a slot's preamble leaves it (R194): cleared registers, the slot's regions, descriptor, status block and staging vector. The limit of the run is
its BUDGET, or what is left of the working part (R111). -/
def preamblePair (s : State) (w : LaneWin) (m : Nat) (e : LaneSlot) : LanePair :=
  let l := s.lpart e.part
  let c := s.pair m
  let r := slotRegions s e.tab e.idx
  let b := bankPhys e.tab r false
  let n := 2 * r.stateSize * 1024
  { LanePair.reset with
    pc := BitVec.ofNat 32 (r.codeBase * 1024 + slotEntry s e.tab e.idx), slot := e.idx, part := e.part, run := true
    group := s.fld F.TIDE_P_CFG_GROUP e.tab, start := e.start, limit := min e.budget (w.workEnd - (e.start + preamble)), regs := r
    desc := slotDesc s w e, stat := statusBlock s m e.tab e.part, staging := l.vec, debugger := c.debugger, trigs := c.trigs
    undo := s.memBytes b n, undoFaulty := marksIn s.lane.faulty b n, undoSingle := marksIn s.lane.single b n, undoFirst := l.first }

/-- The preamble of a slot (R194): the pair's state, and the working bank copied, or both zeroed in a first run (R196, R209); execution starts after it. -/
def slotPreamble (s : State) (w : LaneWin) (m : Nat) (e : LaneSlot) : State :=
  let l := s.lpart e.part
  let r := slotRegions s e.tab e.idx
  let s := s.setPair m (preamblePair s w m e)
  let s := if l.first ≠ 0 then bankZero s e.tab r else bankCopy s e.tab r true
  let s := s.setLpart e.part { l with first := 0, regs := r }
  (s.setFld F.LANE_P_STAT_SLOT e.idx m).count C.TIDE_T_RUN e.part

/-- Has the slot of a partition opened in the window in progress? -/
def slotOpened (w : LaneWin) (p : Nat) : Bool := w.opened.contains p

/-- The slot of a partition opens in the window in progress of a group. -/
def slotMark (s : State) (g p : Nat) : State :=
  let grp := s.grp g
  s.setGrp g { grp with cur := grp.cur.map fun w => { w with opened := p :: w.opened } }

/-- The slot of a table in a window's schedule. -/
def slotIn (w : LaneWin) (t j : Nat) : Option LaneSlot := w.slots.find? fun e => decide (e.tab = t) && decide (e.idx = j)

/-- The slot of a window opens: what it runs. A partition that was reset in the window runs no more in it (DESIGN CHOICE, log 55). -/
def slotBegin (s : State) (g : Nat) (w : LaneWin) (e : LaneSlot) : State :=
  let o := slotOpen (slotMark s g e.part) g w.n e.tab e.part
  if !o.1 || decide ((s.lpart e.part).outcome ≠ 0) then o.2
  else
    let m := (pairOfTable s e.tab).getD 0
    slotPreamble (if (o.2.pair m).run then laneLate o.2 m else o.2) w m e

/-- SLOT_START: a slot scheduled in the window in progress opens at its START. A run before it on the same pair has used its BUDGET. In
DECOMMISSIONED all pairs are held stopped (R218). -/
def slotStartCmd (s : State) (t j : Nat) : State :=
  match (List.range 8).find? fun g => ((s.grp g).cur.bind fun w => slotIn w t j).isSome with
  | none => s
  | some g =>
    match (s.grp g).cur with
    | none => s
    | some w =>
      match slotIn w t j with
      | none => s
      | some e =>
        if !e.runs || slotOpened w e.part || laneElapsed s w < e.start || w.stop ≤ s.devT || s.keys.lifecycle = lcDecommissioned then s
        else slotBegin s g w e

def execSlotStart (t j : Nat) (s : State) : Host.Outcome State Fault Refusal := .next (s.live fun s => slotStartCmd s t j)

/-! ## Commit (R203, R204) -/

/-- A slot of the window in progress that has not ended at the commit edge ends. -/
def slotClose (s : State) (g : Nat) (w : LaneWin) (e : LaneSlot) : State :=
  match pairOfTable s e.tab with
  | some m =>
    if (s.pair m).run && decide ((s.pair m).part = e.part) then laneLate s m
    else if slotOpened w e.part then s
    else
      let o := slotOpen s g w.n e.tab e.part
      if o.1 && decide ((s.lpart e.part).outcome = 0) then partLate o.2 g w.n e.part false else o.2
  | none => if slotOpened w e.part && decide ((s.lpart e.part).outcome ≠ 0) then s else slotDrop s e.part

/-- The status of a partition's window. -/
def slotStatus (s : State) (e : LaneSlot) : Nat := if e.runs then (s.lpart e.part).outcome else wsNotRun

/-- The commit of one partition: pending vector and bank, counters, and what the next preamble reports. -/
def commitPart (s : State) (w : LaneWin) (e : LaneSlot) : State :=
  let p := e.part
  let st := slotStatus s e
  let s := s.setFld F.LANE_T_STAT_STATUS_LAST st p
  if !e.runs then s
  else
    let l := s.lpart p
    let good := voteOf st
    let s := if good && l.pendState then bankCopy s e.tab l.regs false else s
    let vec := if good then l.pendVec.getD l.vec else l.vec
    let cause := if st = wsFault then s.fld F.LANE_T_STAT_CAUSE_LAST p else 0
    let s := s.setLpart p { l with vec := vec, pendVec := none, pendState := false, outcome := 0, lastStatus := st, lastCause := cause
                                   debugLast := l.debugLast && decide (st = wsLate)
                                   commits := if st = wsCommitted then l.commits + 1 else l.commits }
    let s := if st = wsCommitted then ((s.count C.LANE_COMMITS).count C.LANE_T_COMMITS p).setFld F.LANE_T_WIN_VAL w.n p
      else if st = wsHeld then s.count C.LANE_T_HELDS p else s
    lwdStatus s p st

/-- The slots of a window in the order of their partitions. -/
def slotsByPart (w : LaneWin) : List LaneSlot := (List.range partCount).filterMap fun p => w.slots.find? fun e => decide (e.part = p)

/-- The record of a partition at a commit (R204). -/
def ownRecord (s : State) (w : LaneWin) (st : Nat) (p : Nat) : OwnRec :=
  { part := p, status := st, vec := (s.lpart p).vec, fp := ((s.fps p).find? fun f => f.getD 0 0 = w.n).map fun f => f.drop 1, ob := 0 }

/-- The partitions of the enabled groups, ascending: the order in which images are sent (R307). -/
def imageParts (s : State) : List Nat := (List.range partCount).filter fun p => partScheduled s p

/-- The sender takes the image of the partition whose turn it is at a commit of its group (R307). -/
def takeImage (s : State) (g : Nat) (w : LaneWin) (recs : List OwnRec) : State :=
  if pairState s ≠ prPaired || !s.flag F.TWIN_CTRL_XFER_EN || !s.twin.peerXfer || s.twin.sendImg.isSome || grpAlign s g ≠ alAligned then s
  else
    match (imageParts s).find? fun p => s.twin.sendPart ≤ p with
    | none => s
    | some p =>
      match recs.find? fun r => r.part = p && voteOf r.status, w.slots.find? fun e => decide (e.part = p) with
      | some r, some e =>
        let b := (s.lpart p).regs
        let ob := sparseGet 0 s.twin.resolved p
        let bits := (List.range 8).flatMap fun i => octetsBE 4 (ob / 2 ^ (32 * i) % 2 ^ 32)
        let data := r.vec.flatMap (octetsBE 4) ++ bits ++ s.memBytes (bankPhys e.tab b false) (b.stateSize * 1024)
        { s with twin := { s.twin with sendImg := some { part := p, n := w.n, data := data, pos := 0 } } }
      | _, _ => s

/-- Words of an image. -/
def imageWords (l : List Nat) (n : Nat) : List Nat := (List.range n).map fun i => ofOctetsBE ((l.drop (4 * i)).take 4)

/-- The receiver installs a complete image at a commit of its partition's group (R308). -/
def installImage (s : State) (p : Nat) : State :=
  match sparseFind p s.twin.images, slotOf s p with
  | some i, some (t, j) =>
    let vec := imageWords i.data 64
    let ob := vecBits (imageWords (i.data.drop 256) 8)
    let s := laneMemWrite (s.setResolved p ob) (bankPhys t (slotRegions s t j) false) (i.data.drop 288)
    let s := (s.setLpart p { s.lpart p with vec := vec, first := 0, lastStatus := wsReset }).setFlag F.TWIN_T_STAT_INSTALLED true p
    let join := s.twin.join.map fun j => { j with done := p :: j.done }
    let s := { s with twin := { s.twin with join := join, images := sparseDel p s.twin.images } }
    sendCtrl ((joinSettle s).count C.TWIN_XFER_IMAGES) 4 p
  | _, _ => s

/-- The commit record of a group's window as it goes to Rally (R204, R229). -/
def commitRecord (s : State) (w : LaneWin) (recs : List OwnRec) : RallyPend :=
  { n := w.n, edge := s.time.sys, ns := s.devNs, tq := s.fld F.TIME_STAT_TQ, bn := w.map.b / 65536, recs := recs, pn := 0
    aligned := false, epoch := 0, resolved := false, closed := false, got := none, pfp := none }

/-- The commit of a group's lane window: every partition's outcome, the pending vectors and banks, the records to the consumers, and the
images of joining twins. -/
def windowCommit (s : State) (g : Nat) : State :=
  match (s.grp g).cur with
  | none => s
  | some w =>
    let slots := slotsByPart w
    let s := (slots.filter LaneSlot.runs).foldl (fun s e => slotClose s g w e) s
    let sts := slots.map fun e => (e.part, slotStatus s e)
    let s := slots.foldl (fun s e => commitPart s w e) s
    let recs := sts.map fun (p, st) => ownRecord s w st p
    let s := takeImage (rallyCommit s g (commitRecord s w recs)) g w recs
    let s := recs.foldl (fun s r => installImage s r.part) s
    if (s.grp g).stopping then groupDrained s g else s.setGrp g { s.grp g with cur := none }

/-- Is the window in progress at its end (R14)? -/
def commitDue (s : State) (g : Nat) : Bool :=
  match (s.grp g).cur with
  | some w => decide (g < 8) && decide (w.stop ≤ s.devT)
  | none => false

/-- The commits due at this SYS edge of a group and of the groups before it: the lower-numbered group first (R93). -/
def commitUpTo (s : State) (g : Nat) : State :=
  (List.range (min 8 (g + 1))).foldl (fun s h => if commitDue s h then windowCommit s h else s) s

/-- WINDOW_COMMIT: at the first SYS edge at or after the window's end. -/
def windowCommitCmd (s : State) (g : Nat) : State := if commitDue s g then commitUpTo s g else s

def execWindowCommit (g : Nat) (s : State) : Host.Outcome State Fault Refusal := .next (s.live fun s => windowCommitCmd s g)

/-- LANE_WINDOW_START: the next lane window; the one before it is committed first, at the same edge. -/
def laneWindowStart (s : State) (g : Nat) : State :=
  match windowDue s g with
  | none => s
  | some w =>
    let s := windowCommitCmd s g
    if (s.grp g).cur.isSome then s else windowStart s g w

def execLaneWindowStart (g : Nat) (s : State) : Host.Outcome State Fault Refusal := .next (s.live fun s => laneWindowStart s g)

/-! ## Failover (R112 to R115, R211, R212) -/

/-- The idle spares. -/
def idleSpares (s : State) : List Nat :=
  (List.range lanePairs).filter fun n => pairRole s n = roleSpare && s.fld F.TIDE_P_STAT_RUN n = 0

/-- A pair becomes FAILED. -/
def pairFail (s : State) (n : Nat) : State := (s.setFld F.TIDE_P_STAT_RUN 2 n).setFld F.TIDE_P_STAT_TABLE noTable n

/-- TIDE_STAT.SPARES may have reached 0 (R310). -/
def lastSpare (s : State) : State := if s.flag F.TWIN_CTRL_AUTO_LAST && (idleSpares s).isEmpty then wakeStart s else s

/-- The run on a failed pair is dropped; one still in its preamble has its writes discarded (R114, R210). -/
def runDrop (s : State) (n t : Nat) : State :=
  let c := s.pair n
  let b := bankPhys t c.regs false
  let s := if !pairExecutes s n then
      let s := laneMemWrite s b c.undo
      let s : State := { s with lane := { s.lane with faulty := c.undoFaulty.map (· + b) ++ s.lane.faulty, single := c.undoSingle.map (· + b) ++ s.lane.single } }
      s.setLpart c.part { s.lpart c.part with first := c.undoFirst }
    else s
  slotDrop (laneHaltRun s n) c.part

/-- Does a mismatch drop a slot that is not running: one not yet opened, or one that completed in the cycle of the detection (R114, R210)? -/
def slotLost (s : State) (w : LaneWin) (e : LaneSlot) : Bool :=
  let l := s.lpart e.part
  e.runs && (!slotOpened w e.part ||
    (decide (l.outcome = wsCommitted ∨ l.outcome = wsHeld) && decide (laneElapsed s w ≤ e.start + preamble + l.used)))

/-- The slots of a table that a mismatch drops in the window in progress: the running one, those not yet opened, and one that completed in
the cycle of the detection. The answer names the partition of the failing slot, 0 for none. -/
def tableDrop (s : State) (n t : Nat) (w : LaneWin) : Nat × State :=
  let c := s.pair n
  let part := if c.run then c.part else 0
  let s := if c.run then runDrop s n t else s
  (part, (w.slots.filter fun e => decide (e.tab = t) && slotLost s w e).foldl (fun s e => slotDrop s e.part) s)

/-- A pair that ran a table is marked FAILED by a mismatch, and the time of the failure is kept for its table. -/
def pairMismatch (s : State) (n t : Nat) : State :=
  let s := (((pairFail s n).setFlag F.TIDE_P_STAT_MISMATCH true n).setFlt F.TIDE_FLT_MISMATCH).count C.TIDE_P_MISMATCHES n
  { s with tide := { s.tide with failAt := sparsePut t s.time.sys s.tide.failAt } }

/-- An event record of Tide's failover: a spare `m` has taken over, or none was left. -/
def failoverRecord (s : State) (f : PairFail) : State :=
  match f.spare with
  | some m => s.event blkTide 0x0302 f.part f.pair m f.tab
  | none => s.event blkTide 0x0303 0 f.pair f.tab

/-- The record of a failover at this SYS edge, rewritten for the spare that the pair has in the end. -/
def failoverRewrite (s : State) (f : PairFail) : State :=
  let one (e : Event) : Event :=
    if e.src = blkTide && e.p0 = f.pair && (e.code = 0x0302 || e.code = 0x0303) then
      match f.spare with
      | some m => { e with code := 0x0302, part := f.part, p1 := m, p2 := f.tab }
      | none => { e with code := 0x0303, part := 0, p1 := f.tab, p2 := 0 }
    else e
  { s with elog := { s.elog with offered := s.elog.offered.map one } }

/-- Remember a failure of this SYS edge. -/
def failKeep (s : State) (f : PairFail) : State :=
  let l := if s.tide.failEdge = s.time.sys then s.tide.fails.filter fun e => decide (e.pair ≠ f.pair) else []
  { s with tide := { s.tide with failEdge := s.time.sys, fails := f :: l } }

/-- The failures of this SYS edge of pairs above `n`, ascending. -/
def failsAbove (s : State) (n : Nat) : List PairFail :=
  if s.tide.failEdge ≠ s.time.sys then []
  else (List.range lanePairs).filterMap fun k => if n < k then s.tide.fails.find? fun e => decide (e.pair = k) else none

/-- An idle spare takes a failed pair's table and begins to attach. -/
def spareTake (s : State) (t m : Nat) : State :=
  let s := (s.setFld F.TIDE_P_STAT_TABLE t m).setFld F.TIDE_P_STAT_RUN 1 m
  lastSpare ((s.setPair m { s.pair m with attachAt := some (s.time.sys + 1000) }).setFlt F.TIDE_FLT_FAILOVER)

/-- No idle spare is left for a failed pair's table. -/
def noSpare (s : State) : State :=
  let s := s.setFlt F.TIDE_FLT_NO_SPARE
  if s.flag F.TWIN_CTRL_AUTO_NOSPARE then wakeStart s else s

/-- The lowest idle spare takes a failed pair's table (R112); `rec` writes the record. -/
def spareGive (s : State) (f : PairFail) (record : State → PairFail → State) : State :=
  let f := { f with spare := (idleSpares s).head? }
  failKeep (record (match f.spare with | some m => spareTake s f.tab m | none => noSpare s) f) f

/-- A spare given at this SYS edge is idle again. -/
def spareBack (s : State) (f : PairFail) : State :=
  match f.spare with
  | some m => ((s.setFld F.TIDE_P_STAT_TABLE noTable m).setFld F.TIDE_P_STAT_RUN 0 m).setPair m { s.pair m with attachAt := none }
  | none => s

/-- A failed pair gets its spare. Of the pairs that fail at one SYS edge the lower-numbered gets the lower-numbered spare (R112): those above it give theirs back
and are served after it. -/
def spareAssign (s : State) (n t part : Nat) : State :=
  let above := failsAbove s n
  let s := above.foldl spareBack s
  above.foldl (fun s f => spareGive s f failoverRewrite) (spareGive s { pair := n, tab := t, part := part, spare := none } failoverRecord)

/-- The lane window in progress that schedules a table. -/
def windowOfTable (s : State) (t : Nat) : Option LaneWin :=
  (List.range 8).findSome? fun g => (s.grp g).cur.filter fun w => w.slots.any fun e => decide (e.tab = t)

/-- A mismatch on a pair that runs a table: what it drops in the window in progress, the failed pair, and its spare. -/
def mismatchOn (s : State) (n t : Nat) : State :=
  match windowOfTable s t with
  | some w => let d := tableDrop s n t w; spareAssign (pairMismatch d.2 n t) n t d.1
  | none => spareAssign (pairMismatch s n t) n t 0

/-- An idle spare fails its self-test and is never assigned (R212). -/
def selftestFail (s : State) (n : Nat) : State :=
  if !(idleSpares s).contains n || !s.flag F.LANE_CTRL_SPARE_TEST then s
  else
    let s := ((pairFail s n).setFlt F.LANE_FLT_SPARE_TEST).count C.LANE_SPARE_TEST_FAILS
    lastSpare ((s.setFlt F.TIDE_FLT_MISMATCH).event 6 0x0602 0 n)

/-- LOCKSTEP_MISMATCH: the two cores of a pair diverge; in an idle spare that is the self-test's failure. -/
def lockstepMismatch (s : State) (n : Nat) : State :=
  if lanePairs ≤ n || s.fld F.TIDE_P_STAT_RUN n = 2 then s
  else
    let t := s.fld F.TIDE_P_STAT_TABLE n
    if t = noTable then selftestFail s n else mismatchOn s n t

def execLockstepMismatch (n : Nat) (s : State) : Host.Outcome State Fault Refusal := .next (s.live fun s => lockstepMismatch s n)

/-- SPARE_ATTACH_DONE: the memories and regions of the table are in force on the spare, its registers cleared. -/
def spareAttachDone (s : State) (n : Nat) : State :=
  let c := s.pair n
  if lanePairs ≤ n || c.attachAt.isNone then s
  else s.setPair n { LanePair.reset with halted := c.halted, debugger := c.debugger, resume := c.resume, trigs := c.trigs }

def execSpareAttachDone (n : Nat) (s : State) : Host.Outcome State Fault Refusal := .next (s.live fun s => spareAttachDone s n)

def execSpareSelftestFail (n : Nat) (s : State) : Host.Outcome State Fault Refusal := .next (s.live fun s => selftestFail s n)

end Sys2Proof.Machine
end

