-- ==== Sys2Proof/Machine/RegMap.lean ====
section
/-! DEFINITION. The register map as the bus reads it (chapter 16): the registers of each block, the selected-instance windows (R487), the fields
that show state held elsewhere, the snapshot banks (R489, R492), and the pages of PART that are not plain registers (R413, R425). -/

namespace Sys2Proof.Machine

/-! ## Registers and windows -/

/-- The registers of a block, by the number of its base (R25). -/
def regsOf (blk : Nat) : List RegDesc :=
  match blk with
  | 0 => regsSYS
  | 1 => regsCLK
  | 2 => regsTIME
  | 3 => regsTIDE
  | 4 => regsSVI
  | 5 => regsFDC
  | 6 => regsLANE
  | 7 => regsGOOSE
  | 8 => regsGATE
  | 9 => regsTWIN
  | 10 => regsDREC
  | 11 => regsELOG
  | 12 => regsPORT
  | 13 => regsSWC
  | 14 => regsPART
  | 15 => regsKEYS
  | 16 => regsAON
  | 17 => regsBOOT
  | _ => []

/-- The window that the select register of a block shows: its kind, counted from 1, and the instance; none where it names no instance (R487). -/
def windowOf (s : State) (blk : Nat) : Option (Nat × Nat) :=
  let pick (kind idx : Nat) (ok : Bool) : Option (Nat × Nat) := if ok then some (kind + 1, idx) else none
  let part (i : Nat) : Bool := decide (1 ≤ i) && decide (i ≤ 127)
  match blk with
  | 2 => let k := s.fld F.TIME_SEL_KIND; pick k (s.fld F.TIME_SEL_INDEX) (decide (k ≤ 2))
  | 3 =>
    let k := s.fld F.TIDE_SEL_KIND
    let i := s.fld F.TIDE_SEL_INDEX
    pick k i (if k = 0 then decide (i < 8) else decide (k = 1) && decide (i < lanePairs))
  | 4 =>
    let k := s.fld F.SVI_SEL_KIND
    let i := s.fld F.SVI_SEL_INDEX
    pick k i (if k = 0 then true else decide (k = 1) && part i)
  | 5 => some (1, s.fld F.FDC_SEL_INDEX)
  | 6 =>
    let k := s.fld F.LANE_SEL_KIND
    let i := s.fld F.LANE_SEL_INDEX
    pick k i (if k = 0 then decide (i < lanePairs) else decide (k = 1) && part i)
  | 7 =>
    let k := s.fld F.GOOSE_SEL_KIND
    let i := s.fld F.GOOSE_SEL_INDEX
    pick k i (if k = 0 then decide (i < gooseBlocks) else decide (k = 1))
  | 8 => pick 0 (s.fld F.GATE_SEL_INDEX) (decide (s.fld F.GATE_SEL_INDEX < gateChans))
  | 9 =>
    let k := s.fld F.TWIN_SEL_KIND
    let i := s.fld F.TWIN_SEL_INDEX
    pick k i (if k = 0 then decide (i < 8) else decide (k = 1) && part i)
  | 10 =>
    let k := s.fld F.DREC_SEL_KIND
    let i := s.fld F.DREC_SEL_INDEX
    pick k i (if k = 0 then decide (i < 2048) else if k = 1 then true else if k = 2 then decide (i < 32)
      else decide (i < s.fld F.DREC_NSEG_NSEG))
  | 12 => some (1, s.fld F.PORT_SEL_INDEX)
  | 13 =>
    let k := s.fld F.SWC_SEL_KIND
    let i := s.fld F.SWC_SEL_INDEX
    pick k i (if k = 0 then decide (i < 12) else if k = 1 then decide (i < 4) else decide (k = 2))
  | 14 => some (1, s.fld F.PART_SEL_INDEX)
  | 15 =>
    let k := s.fld F.KEYS_SEL_KIND
    let i := s.fld F.KEYS_SEL_INDEX
    pick k i (if k = 0 then true else if k = 1 then part i else decide (k = 2) && decide (i < 2))
  | _ => none

/-- Where an offset of a block leads: the window kind (0 outside the window) and the instance; none for a window that shows none. -/
def placeOf (s : State) (blk off : Nat) : Option (Nat × Nat) :=
  if 0x200 ≤ off && off < 0x400 then windowOf s blk else some (0, 0)

/-- The register at an offset of a block in a place, if any. -/
def regAt (blk kind off : Nat) : Option RegDesc := (regsOf blk).find? fun r => r.covers kind off

/-- The element of an array of registers that an offset names. -/
def RegDesc.index (r : RegDesc) (off : Nat) : Nat := (off - r.off) / r.stride

/-- Is it this register? -/
def RegDesc.is (r q : RegDesc) : Bool := decide (r.blk = q.blk) && decide (r.kind = q.kind) && decide (r.off = q.off)

/-! ## Fields that show state held elsewhere -/

/-- How many of the first `n` instances a property holds for. -/
def countInst (n : Nat) (f : Nat → Bool) : Nat := (List.range n).countP f

/-- A mask of the first `n` instances. -/
def maskInst (n : Nat) (f : Nat → Bool) : Nat := (List.range n).foldl (fun a i => if f i then a + 2 ^ i else a) 0

/-- Is a flag set in some instance? -/
def anyFlag (s : State) (f : Fld) (n : Nat) : Nat := ofBit ((List.range n).any fun i => s.flag f i)

/-- How a field is read: the state, the instance and the element of its array. -/
abbrev Reader := State → Nat → Nat → Nat

def tideReaders : List (Fld × Reader) :=
  [(F.TIDE_STAT_SPARES, fun s _ _ => (idleSpares s).length),
   (F.TIDE_STAT_STATES, fun s _ _ => (List.range 8).foldl (fun a g => a + grpState s g * 8 ^ g) 0),
   (F.TIDE_FLT_GRP, fun s _ _ => maskInst 8 fun g => R.TIDE_G_FLT.flds.any fun f => s.flag f g)]

def sviReaders : List (Fld × Reader) :=
  [(F.SVI_STAT_ENABLED, fun s _ _ => countInst sviStreams (streamEn s)),
   (F.SVI_STAT_DOWN, fun s _ _ => countInst sviStreams fun n => streamState s n = ssDown),
   (F.SVI_DOWN_DOWN, fun s _ j => maskInst 32 fun b => streamState s (32 * j + b) = ssDown),
   (F.SVI_CNTOVF_STREAM_OVF, fun s _ _ => anyFlag s F.SVI_S_FLT_CNT_OVF sviStreams)]

def fdcReaders : List (Fld × Reader) :=
  [(F.FDC_STAT_ENABLED, fun s _ _ => countInst fdcChans (chEn s)),
   (F.FDC_STAT_BOUND, fun s _ _ => countInst fdcChans (chBound s)),
   (F.FDC_COEF_VAL_H, fun s _ _ =>
     firCoef (s.fld F.FDC_COEF_IDX_PRESET) (if s.flag F.FDC_COEF_IDX_RATE then 14400 else 4800) (s.fld F.FDC_COEF_IDX_TAP)),
   (F.FDC_C_SKEW_SKEW, fun s c _ => chSkew s c),
   (F.FDC_CNTOVF_CHAN_OVF, fun s _ _ => anyFlag s F.FDC_C_FLT_CNT_OVF fdcChans)]

def laneReaders : List (Fld × Reader) :=
  [(F.LANE_STAT_FAILED, fun s _ _ => maskInst lanePairs fun n => s.fld F.TIDE_P_STAT_RUN n = 2),
   (F.LANE_HALT_HALTED, fun s _ _ => maskInst lanePairs fun n => (s.pair n).halted),
   (F.LANE_P_STAT_HALTED, fun s n _ => ofBit (s.pair n).halted),
   (F.LANE_P_STAT_RUN, fun s n _ => ofBit (pairExecutes s n)),
   (F.LANE_T_VEC_VEC, fun s _ j => s.lane.latch.getD j 0)]

def gooseReaders : List (Fld × Reader) :=
  [(F.GOOSE_STAT_LEADER, fun s _ _ => ofBit (isLeader s)),
   (F.GOOSE_STAT_BLOCKS, fun s _ _ => countInst gooseBlocks fun b => s.flag F.GOOSE_B_CTL_EN b),
   (F.GOOSE_STAT_VALID, fun s _ _ => countInst gooseSubs fun i => gsState s i = subValid),
   (F.GOOSE_CNTOVF_SUB_OVF, fun s _ _ => anyFlag s F.GOOSE_S_FLT_CNT_OVF gooseSubs),
   (F.GOOSE_CNTOVF_BLOCK_OVF, fun s _ _ => anyFlag s F.GOOSE_B_FLT_CNT_OVF gooseBlocks),
   (F.GOOSE_S_REC_REC, fun s i j => (gsRecord s i).getD j 0)]

def gateReaders : List (Fld × Reader) :=
  [(F.GATE_C_STAT_OUT_H, fun s n _ => ofBit (gateOutH s n)),
   (F.GATE_C_STAT_OUT_L, fun s n _ => ofBit (gateOutL s n)),
   (F.GATE_CNTOVF_CHAN_OVF, fun s _ _ => anyFlag s F.GATE_C_FLT_CNT_OVF gateChans)]

def twinReaders : List (Fld × Reader) :=
  [(F.TWIN_STAT_SIDE, fun s _ _ => ofBit s.twin.sideB),
   (F.TWIN_STAT_SOLO, fun s _ _ => ofBit s.twin.solo),
   (F.TWIN_STAT_XFER, fun s _ _ => if s.twin.rxImg.isSome then 1 else if s.twin.sendImg.isSome then 2 else 0),
   (F.TWIN_T_RES_RES, fun s p j => sparseGet 0 s.twin.resolved p / 2 ^ (32 * j) % 2 ^ 32)]

def drecReaders : List (Fld × Reader) :=
  [(F.DREC_STAT_DONE, fun s _ _ => (doneSlots s).length),
   (F.DREC_CAP_VAL, fun s _ _ => drecCapReg s),
   (F.DREC_SLOT_VAL, fun s _ _ => drecSlotReg s),
   (F.DREC_CNTOVF_UNIT_OVF, fun s _ _ => anyFlag s F.DREC_U_STAT_CNT_OVF 32),
   (F.DREC_U_STAT_INHIBIT, fun s u _ => ofBit (partHeld s (s.fld F.DREC_U_CTL_OWNER u))),
   (F.DREC_G_ADDR_ADDR, fun s k _ => drecAddrReg s k)]

def elogReaders : List (Fld × Reader) := [(F.ELOG_STAT_QUEUE, fun s _ _ => s.elog.queue.length)]

def portReaders : List (Fld × Reader) :=
  [(F.PORT_STAT_MODABS, fun s _ _ => maskInst portCount fun p => s.flag F.PORT_P_STAT_MODABS p),
   (F.PORT_STAT_LINK_UP, fun s _ _ => maskInst portCount fun p => linkState s p = lkUp),
   (F.PORT_P_EQ_RX_CTLE_CUR, fun s p _ =>
     if !s.flag F.PORT_P_CTL_EN p then 0
     else if s.flag F.PORT_P_EQ_RX_ADAPT p then Config.ctleAdapted p s.clk.ns else s.fld F.PORT_P_EQ_RX_CTLE p)]

def swcReaders : List (Fld × Reader) :=
  [(F.SWC_STAT_FREE, fun s _ _ => queueCells - cellsOf (allCopies s)),
   (F.SWC_FDB_LEARNED, fun s _ _ => s.swc.fdb.countP fun e => !e.2.static),
   (F.SWC_FDB_STATIC, fun s _ _ => s.swc.fdb.countP fun e => e.2.static),
   (F.SWC_P_STAT_ENQ_EN, fun s e _ => ofBit (portTakes s e)),
   (F.SWC_P_STAT_CELLS, fun s e _ => ((List.range 8).map fun c => cellsOf (s.swq e c)).foldl (· + ·) 0),
   (F.SWC_R_STAT_DD_USED, fun s k _ => (ddLive s k).length),
   (F.SWC_T_STAT_CELLS, fun s p _ => partCells s p)]

def partReaders : List (Fld × Reader) :=
  [(F.PART_STAT_DWD_EN, fun s _ _ => s.fld F.PART_DWD_CTL_EN),
   (F.PART_STAT_HELD, fun s _ _ => countInst partCount (partHeld s)),
   (F.PART_CNTOVF_PART_OVF, fun s _ _ => anyFlag s F.PART_T_FLT_CNT_OVF partCount)]

/-- A word of an approval record's digest. -/
def recDigest (s : State) (kind idx j : Nat) : Nat :=
  match sparseFind (recKey kind idx) s.keys.recs with
  | some r => msgBe r.digest (4 * j) 4
  | none => 0

def recSize (s : State) (kind idx : Nat) : Nat := ((sparseFind (recKey kind idx) s.keys.recs).map Approval.size).getD 0
def recCnt (s : State) (kind idx : Nat) : Nat := ((sparseFind (recKey kind idx) s.keys.recs).map Approval.cnt).getD 0
def recValid (s : State) (kind idx : Nat) : Nat := ofBit (sparseFind (recKey kind idx) s.keys.recs).isSome

def keysReaders : List (Fld × Reader) :=
  [(F.KEYS_CTRL_ENFORCE, fun s _ _ => ofBit (enforce s)),
   (F.KEYS_STAT_READY, fun s _ _ => ofBit (decide (s.keys.lifecycle ≠ lcDecommissioned) && !s.flag (mbxBusy blkKeys))),
   (F.KEYS_STAT_ROOT_BURNED, fun s _ _ => ofBit s.keys.fuses.rootHash.isSome),
   (F.KEYS_STAT_KTK_EXPORTED, fun s _ _ => ofBit s.keys.fuses.ktk),
   (F.KEYS_STAT_FLOOR_USED, fun s _ _ => s.keys.fuses.floors.length),
   (F.KEYS_STAT_LC, fun s _ _ => s.keys.lifecycle),
   (F.KEYS_ROOT_HASH_VAL, fun s _ j => msgBe (s.keys.fuses.rootHash.getD []) (4 * j) 4),
   (F.KEYS_FLOOR_FLOOR, fun s _ _ => floorMax s),
   (F.KEYS_K_STAT_PARENT, fun s i _ => (s.keySlot i).parent),
   (F.KEYS_K_STAT_DEPTH, fun s i _ => (s.keySlot i).depth),
   (F.KEYS_K_STAT_TYPE, fun s i _ => (s.keySlot i).typ),
   (F.KEYS_K_STAT_STATE, fun s i _ => (s.keySlot i).st),
   (F.KEYS_K_USE_KEY_LEN, fun s i _ => if (s.keySlot i).st = ksEmpty then 0 else typeLen (s.keySlot i).typ),
   (F.KEYS_K_USE_USE, fun s i _ => (s.keySlot i).use),
   (F.KEYS_K_ID_KEY_ID, fun s i _ => (s.keySlot i).id),
   (F.KEYS_K_GEN_GEN, fun s i _ => (s.keySlot i).gen),
   (F.KEYS_K_PK_PK, fun s i j =>
     let k := s.keySlot i
     if k.st = ksValid && slotPublic k.typ then msgBe (fitOctets 32 k.mat) (4 * j) 4 else 0),
   (F.KEYS_T_STAT_SET_REC, fun s p _ => recValid s 2 p),
   (F.KEYS_T_STAT_IMAGE_REC, fun s p _ => recValid s 1 p),
   (F.KEYS_T_IMG_SIZE_VAL, fun s p _ => recSize s 1 p),
   (F.KEYS_T_SET_SIZE_VAL, fun s p _ => recSize s 2 p),
   (F.KEYS_T_IMG_CNT_VAL, fun s p _ => recCnt s 1 p),
   (F.KEYS_T_SET_CNT_VAL, fun s p _ => recCnt s 2 p),
   (F.KEYS_T_IMG_D_VAL, fun s p j => recDigest s 1 p j),
   (F.KEYS_T_SET_D_VAL, fun s p j => recDigest s 2 p j),
   (F.KEYS_BN_STAT_IMAGE_REC, fun s i _ => recValid s 3 i),
   (F.KEYS_BN_IMG_SIZE_VAL, fun s i _ => recSize s 3 i),
   (F.KEYS_BN_IMG_CNT_VAL, fun s i _ => recCnt s 3 i),
   (F.KEYS_BN_IMG_D_VAL, fun s i j => recDigest s 3 i j)]

/-- The readers of a block. -/
def readersOf (blk : Nat) : List (Fld × Reader) :=
  match blk with
  | 3 => tideReaders
  | 4 => sviReaders
  | 5 => fdcReaders
  | 6 => laneReaders
  | 7 => gooseReaders
  | 8 => gateReaders
  | 9 => twinReaders
  | 10 => drecReaders
  | 11 => elogReaders
  | 12 => portReaders
  | 13 => swcReaders
  | 14 => partReaders
  | 15 => keysReaders
  | _ => []

/-- A field of instance `i`, element `j`, as the bus reads it: a WO field reads 0 (R477). -/
def fieldRead (s : State) (f : Fld) (i j : Nat) : Nat :=
  if f.acc = .wo then 0
  else match (readersOf f.blk).find? fun x => x.1 = f with
    | some (_, g) => g s i j % 2 ^ f.width
    | none => s.fld (f.el j) i

/-- A register of instance `i`, element `j`, its reserved bits 0. -/
def regValue (s : State) (r : RegDesc) (i j : Nat) : Nat := r.flds.foldl (fun a f => a + fieldRead s f i j * 2 ^ f.lo) 0

/-- The reserved bits of a register. -/
def reservedBits (r : RegDesc) : Nat := r.flds.foldl (fun m f => m - (2 ^ f.width - 1) * 2 ^ f.lo) (2 ^ 32 - 1)

/-- A register's value with what its reserved bits read: any value in MANUFACTURE, 0 in every other lifecycle state (R479). -/
def withReserved (s : State) (r : RegDesc) (v : Nat) : Nat × State :=
  if s.keys.lifecycle = lcManufacture then
    let (x, s) := s.takeFree
    (v ||| (x &&& reservedBits r), s)
  else (v, s)

/-! ## Counter banks (R489, R492) -/

/-- A word of the snapshot banks: the last snapshot of the counter of that place; what no counter has reads 0. -/
def bankWord (s : State) (blk kind i off : Nat) : Nat :=
  let v := sparseGet 0 s.bank (blkKey blk kind (i * 65536 + off / 8 * 8))
  if off % 8 = 4 then v / 2 ^ 32 else v % 2 ^ 32

/-! ## The doorbell page (R413) -/

/-- An offset of the doorbell page as a tag reads it. -/
def doorbellRead (s : State) (tag off : Nat) : Nat :=
  if off = 4 then s.fld F.SWC_T_TX_RING_TAIL tag
  else if off = 8 then s.fld F.SWC_T_RX_RING_HEAD tag
  else if off = 0xC then tag
  else 0

/-- A write of a tag to an offset of the doorbell page. -/
def doorbellWrite (s : State) (tag off v : Nat) : State :=
  if off = 0 then wdKick s tag else if off = 4 then cpuTxTailWrite s tag (v % 4096) else s

/-! ## A read of one register (R477, R478) -/

/-- A register that keeps a copy for each tag: the software staging set of the event log (R348). -/
def tagged (r : RegDesc) : Bool := r.is R.ELOG_SW_P

/-- Read the register at an offset of a block, by a tag. Only a read of LANE_T_VEC_0 and of a faulty word of the log changes state, but for the
model's own count of free values. -/
def regRead (s : State) (tag blk off : Nat) : Nat × State :=
  if blk = 14 && 0x8000 ≤ off then
    if off < 0x9000 then (iommuRead s (off - 0x8000), s)
    else if 0xC000 ≤ off && off < 0xD000 then (doorbellRead s tag (off - 0xC000), s)
    else (0, s)
  else match placeOf s blk off with
    | none => (0, s)
    | some (kind, i) =>
      match regAt blk kind off with
      | none =>
        if blk = blkAon && 0x34 ≤ off && off < 0x44 then (s.mbxD blkAon ((off - 0x34) / 4), s)
        else (bankWord s blk kind i off, s)
      | some r =>
        let j := r.index off
        if r.is R.ELOG_RD_D then elogRd s j
        else
          let s := if r.is R.LANE_T_VEC && j = 0 then vectorLatch s else s
          withReserved s r (regValue s r (if tagged r then tag else i) j)

end Sys2Proof.Machine
end

