-- ==== Sys2Proof/Machine/RegLock.lean ====
section
/-! DEFINITION. The locks of register fields (R482, R483), as the block chapters state them. -/

namespace Sys2Proof.Machine

/-- Is a field one of a list? -/
def Fld.isOne (f : Fld) (l : List Fld) : Bool := l.any fun g => decide (f = g)

/-- The fields that a block's LOCK leaves open: the interrupt enables, the select register and those the block names. -/
def lockOpen (blk : Nat) : List Fld :=
  match blk with
  | 4 => [F.SVI_IEN_IEN, F.SVI_SEL_KIND, F.SVI_SEL_INDEX]
  | 5 => [F.FDC_IEN_IEN, F.FDC_SEL_INDEX, F.FDC_COEF_IDX_PRESET, F.FDC_COEF_IDX_RATE, F.FDC_COEF_IDX_TAP]
  | 6 => [F.LANE_IEN_IEN, F.LANE_SEL_KIND, F.LANE_SEL_INDEX]
  | 7 => [F.GOOSE_IEN_IEN, F.GOOSE_SEL_KIND, F.GOOSE_SEL_INDEX, F.GOOSE_B_CTL_SIM, F.GOOSE_B_CTL_TEST, F.GOOSE_B_CTL_EN, F.GOOSE_S_CTL_SIM, F.GOOSE_S_CTL_EN]
  | 8 => [F.GATE_IEN_IEN, F.GATE_SEL_INDEX, F.GATE_C_CTL_EN, F.GATE_C_PERIOD_STG_VAL, F.GATE_C_DUTY_STG_VAL]
  | 9 => [F.TWIN_IEN_IEN, F.TWIN_SEL_KIND, F.TWIN_SEL_INDEX]
  | 10 => [F.DREC_IEN_IEN, F.DREC_SEL_KIND, F.DREC_SEL_INDEX, F.DREC_CTRL_EN, F.DREC_U_CTL_EN]
  | 12 => [F.PORT_IEN_IEN, F.PORT_SEL_INDEX, F.PORT_I2C_CMD_WR, F.PORT_I2C_CMD_FAST, F.PORT_I2C_CMD_DEV, F.PORT_I2C_CMD_PORT, F.PORT_I2C_CMD_LEN,
      F.PORT_I2C_CMD_OFFSET, F.PORT_I2C_D0_VAL, F.PORT_I2C_D1_VAL, F.PORT_P_CTL_EN, F.PORT_P_CTL_TX_EN, F.PORT_P_TEST_PRBS_CHK,
      F.PORT_P_TEST_PRBS_GEN, F.PORT_P_TEST_LOOP]
  | 13 => [F.SWC_IEN_IEN, F.SWC_SEL_KIND, F.SWC_SEL_INDEX, F.SWC_T_TX_RING_TAIL, F.SWC_T_CTL_RX_EN, F.SWC_T_CTL_TX_EN]
  | 14 => [F.PART_IEN_IEN, F.PART_SEL_INDEX, F.PART_T_CTL_HOLD, F.PART_CPU_CUR_GUEST]
  | _ => []

/-- Does a block's LOCK hold a field? -/
def blockLocked (s : State) (f : Fld) : Bool :=
  match f.blk with
  | 3 => s.flag F.TIDE_CTRL_LOCK && decide (f.kind ≠ 0)
  | 4 => s.flag F.SVI_CTRL_LOCK && !f.isOne (lockOpen 4)
  | 5 => s.flag F.FDC_CTRL_LOCK && !f.isOne (lockOpen 5)
  | 6 => s.flag F.LANE_CTRL_LOCK && !f.isOne (lockOpen 6)
  | 7 => s.flag F.GOOSE_CTRL_LOCK && !f.isOne (lockOpen 7)
  | 8 => s.flag F.GATE_CTRL_LOCK && !f.isOne (lockOpen 8)
  | 9 => s.flag F.TWIN_CTRL_LOCK && !f.isOne (lockOpen 9)
  | 10 => s.flag F.DREC_CTRL_LOCK && !f.isOne (lockOpen 10)
  | 11 => s.flag F.ELOG_CTRL_LOCK && f.isOne [F.ELOG_CTRL_EN, F.ELOG_CTRL_SW_EN]
  | 12 => s.flag F.PORT_CTRL_LOCK && !f.isOne (lockOpen 12)
  | 13 => s.flag F.SWC_CTRL_LOCK && !f.isOne (lockOpen 13)
  | 14 => s.flag F.PART_CTRL_LOCK && !f.isOne (lockOpen 14)
  | 15 => s.flag F.KEYS_CTRL_LOCK && f.isOne [F.KEYS_CTRL_ENFORCE]
  | _ => false

/-- Is an alignment depth held: its group or a stream of it is enabled (R138)? -/
def adepthHeld (s : State) (g : Nat) : Bool := grpEn s g || (List.range sviStreams).any fun n => streamEn s n && decide (streamGroup s n = g)

/-- Does an enable of its own instance hold a field of instance `i`, element `j`? -/
def instLocked (s : State) (f : Fld) (i j : Nat) : Bool :=
  match f.blk with
  | 3 =>
    if f.kind = 1 then grpEn s i
    else decide (f.kind = 2) && decide (pairRole s i = roleWorking) && grpEn s (s.fld F.TIDE_P_CFG_GROUP i)
  | 4 =>
    if f.kind = 0 then decide (f = F.SVI_ADEPTH_D) && adepthHeld s j
    else if f.kind = 1 then streamEn s i && !f.isOne [F.SVI_S_CTL_EN]
    else decide (f.kind = 2) && partScheduled s i
  | 5 => decide (f.kind = 1) && chEn s i && !f.isOne [F.FDC_C_CTL_EN]
  | 6 => decide (f.kind = 1) && tableClosed s i
  | 7 =>
    (decide (f.kind = 1) && s.flag F.GOOSE_B_CTL_EN i && !f.isOne [F.GOOSE_B_CTL_EN, F.GOOSE_B_CTL_SIM, F.GOOSE_B_CTL_TEST])
      || (decide (f.kind = 2) && s.flag F.GOOSE_S_CTL_EN i
          && !f.isOne [F.GOOSE_S_CTL_EN, F.GOOSE_S_CTL_SIM, F.GOOSE_S_CTL_SUBST_EN, F.GOOSE_S_SUBST_SUBST])
  | 8 => decide (f.kind = 1) && s.flag F.GATE_C_CTL_EN i && !f.isOne [F.GATE_C_CTL_EN, F.GATE_C_PERIOD_STG_VAL, F.GATE_C_DUTY_STG_VAL]
  | 9 => decide (f.kind = 2) && partScheduled s i
  | 10 =>
    (s.flag F.DREC_CTRL_EN && !f.isOne [F.DREC_CTRL_EN, F.DREC_IEN_IEN, F.DREC_SEL_KIND, F.DREC_SEL_INDEX, F.DREC_U_CTL_EN])
      || (decide (f.kind = 3) && unitEn s i && !f.isOne [F.DREC_U_CTL_EN])
  | 12 =>
    s.flag F.PORT_P_CTL_EN i && f.isOne [F.PORT_P_CTL_MODE, F.PORT_P_CTL_FEC, F.PORT_P_CTL_AN_EN, F.PORT_P_CTL_SPEED, F.PORT_P_CTL_LOS_EN,
      F.PORT_P_CTL_MAX_LEN, F.PORT_P_SA_HI_SA, F.PORT_P_SA_LO_SA]
  | 13 =>
    (s.flag F.SWC_CTRL_EN && f.isOne [F.SWC_P_Q_MAX, F.SWC_P_Q_MIN, F.SWC_P_PCPMAP_MAP])
      || (decide (f.kind = 2) && s.flag F.SWC_R_CTL_EN i && !f.isOne [F.SWC_R_CTL_EN])
      || (s.flag F.SWC_T_CTL_RX_EN i && f.isOne [F.SWC_T_RX_BASE_HI_ADDR, F.SWC_T_RX_BASE_LO_ADDR, F.SWC_T_RX_RING_SIZE_LOG])
      || (s.flag F.SWC_T_CTL_TX_EN i && f.isOne [F.SWC_T_TX_BASE_HI_ADDR, F.SWC_T_TX_BASE_LO_ADDR, F.SWC_T_TX_RING_SIZE_LOG])
  | 14 => f.isOne [F.PART_DWD_CTL_TIMEOUT] && s.flag F.PART_DWD_CTL_EN
  | _ => false

/-- Is a field of instance `i`, element `j`, locked (R482, R483)? -/
def fieldLocked (s : State) (f : Fld) (i j : Nat) : Bool :=
  match f.acc with
  | .rw => blockLocked s f || instLocked s f i j
  | .wl => decide (s.fld (f.el j) i ≠ f.rst)
  | _ => false

/-- The bits that a written word gives a field. -/
def Fld.bitsIn (f : Fld) (v : Nat) : Nat := v / 2 ^ f.lo % 2 ^ f.width

/-- Are writes of a field ignored: ENFORCE in SEALED (R463)? -/
def fieldIgnored (s : State) (f : Fld) : Bool := decide (f = F.KEYS_CTRL_ENFORCE) && decide (s.keys.lifecycle = lcSealed)

/-- Would a write change a locked field of a register? -/
def lockBars (s : State) (r : RegDesc) (i j v : Nat) : Bool :=
  r.flds.any fun f => !fieldIgnored s f && fieldLocked s f i j && decide (f.bitsIn v ≠ fieldRead s f i j)

end Sys2Proof.Machine
end

