-- ==== Sys2Proof/Machine/Snapshot.lean ====
section
/-! DEFINITION. The counter snapshot and the SYS mailbox (chapter 16). -/

namespace Sys2Proof.Machine

/-- A snapshot: every counter is copied into its bank at one edge, SNAP_SEQ increments, and the time of the edge is kept (R490). The snapshot counts itself
in the copy, and so is every other event counted at that edge (`snapEnd`). -/
def snapshot (s : State) : State :=
  let s := s.count C.SYS_SNAPSHOTS
  let s := s.setFld F.SYS_SNAP_SEQ_SEQ (s.fld F.SYS_SNAP_SEQ_SEQ + 1)
  { s with bank := s.cnts, snap := some s.stamp, clk := { s.clk with snapMask := some 0 } }

/-- SNAPSHOT. -/
def execSnapshot (s : State) : Host.Outcome State Fault Refusal := .next (s.live snapshot)

/-- A snapshot that clears the live counters of the blocks in MASK after the copy (R491). -/
def snapshotClear (s : State) : State :=
  let s := snapshot s
  let mask := s.fld F.SYS_SNAP_CLR_MASK
  { s with cnts := s.cnts.filter fun e => !bitOf mask (keyBlk e.1), clk := { s.clk with snapMask := some mask } }

/-- SNAPSHOT_CLEAR. -/
def execSnapshotClear (s : State) : Host.Outcome State Fault Refusal := .next (s.live snapshotClear)

/-- A counter's entry of the bank at the end of the snapshot edge: what the counter has counted, and for one that the snapshot cleared that beside the copy. -/
def bankAdd (mask : Nat) (m : Sparse Nat) (e : Nat × Nat) : Sparse Nat :=
  sparseSet 0 m e.1 (if bitOf mask (keyBlk e.1) then min ctrMax (sparseGet 0 m e.1 + e.2) else e.2)

/-- The end of a snapshot edge: events counted at that edge after the command are in the copy, and not in a cleared counter (R490, R491). -/
def snapEnd (s : State) : State :=
  match s.clk.snapMask with
  | none => s
  | some mask =>
    { s with bank := s.cnts.foldl (bankAdd mask) s.bank, cnts := s.cnts.filter fun e => !bitOf mask (keyBlk e.1)
             clk := { s.clk with snapMask := none } }

/-- READ_SNAP_TIME: refused while BUSY and before the first snapshot. -/
def readSnapTime (s : State) : State :=
  if s.flag (mbxBusy 0) then s.mbxRefuseBusy 0
  else match s.snap with
    | none => s.mbxRefuse 0
    | some t => s.mbxStart 0 (timeLayout 1 (t.t / 65536 * 65536) t.tq 0 t.epoch)

def execReadSnapTime (s : State) : Host.Outcome State Fault Refusal := .next (s.live readSnapTime)

end Sys2Proof.Machine
end

