-- ==== Sys2Proof/Machine/RegWrite.lean ====
section
/-! DEFINITION. A write of one register (chapter 16): its locks, its fields, and the operations that a write of it starts. -/

namespace Sys2Proof.Machine

/-! ## Plain fields (R477, R479, R483, R497) -/

/-- Write one field: RW takes the written bits, WL takes any value but its reset value, a 1 clears a W1C bit unless it has been set at this SYS edge (R497);
RO, WO and SH fields take nothing here. -/
def writeField (s : State) (f : Fld) (i v : Nat) : State :=
  let w := f.bitsIn v
  match f.acc with
  | .rw => if fieldIgnored s f then s else s.setFld f w i
  | .wl => if w = f.rst then s else s.setFld f w i
  | .w1c =>
    let old := s.fld f i
    s.setFld f (old - (old &&& w &&& sparseGet f.rst s.clk.edgeRegs (f.key i))) i
  | _ => s

/-- Write the fields of a register but those listed. -/
def writeFields (s : State) (r : RegDesc) (i j v : Nat) (but : List Fld := []) : State :=
  (r.flds.filter fun f => !but.contains f).foldl (fun s f => writeField s (f.el j) i v) s

/-- Where the FLT register of a block stands: 0x28 in TIME, 0x08 in every other block; its IEN is the next word. -/
def fltOff (blk : Nat) : Nat := if blk = blkTime then 0x28 else 8

/-- Is a register the interrupt enables of its block? -/
def isIen (r : RegDesc) : Bool := decide (r.kind = 0) && decide (r.off = fltOff r.blk + 4)

/-- The flags of a block as its FLT register reads. -/
def blockFlt (s : State) (blk : Nat) : Nat :=
  match regAt blk 0 (fltOff blk) with
  | some r => regValue s r 0 0
  | none => 0

/-- A write of the interrupt enables: the block's interrupt is sent when it sets a bit whose flag is 1 (R498). -/
def writeIen (s : State) (r : RegDesc) (v : Nat) : State :=
  let old := regValue s r 0 0
  let s := writeFields s r 0 0 v
  let new := regValue s r 0 0
  if (new - (new &&& old)) &&& blockFlt s r.blk ≠ 0 then s.blockIrq r.blk else s

/-! ## Commands -/

/-- A mailbox command that a block does not have. -/
def mbxOther (s : State) (blk : Nat) : State := if s.flag (mbxBusy blk) then s.mbxRefuseBusy blk else s.mbxRefuse blk

def timeCmd (s : State) (c : Nat) : State :=
  match c with
  | 1 => readNow s
  | 2 => setAbs s
  | 3 => stepRel s
  | 4 => loadTout s
  | 5 => popTin s
  | _ => mbxOther s 2

def tideMbxCmd (s : State) (c : Nat) : State :=
  match c with
  | 1 => readLive s
  | 2 => timeToAngCmd s
  | 3 => angToTimeCmd s
  | _ => mbxOther s 3

def swcMbxCmd (s : State) (c : Nat) : State :=
  match c with
  | 1 => vlanRd s
  | 2 => vlanWr s
  | 3 => fdbRd s
  | 4 => fdbWr s
  | 5 => fdbDel s
  | 6 => mcRd s
  | 7 => mcWr s
  | 8 => fdbRdIndex s
  | _ => mbxOther s 13

/-- The next state of a command's outcome; a command of the mailbox or a command register always has one. -/
def nextOr (s : State) (o : Host.Outcome State Fault Refusal) : State :=
  match o with
  | .next t => t
  | _ => s

/-- A code of KEYS (R464). -/
def keysMbxCmd (s : State) (c : Nat) : State :=
  match c with
  | 1 => nextOr s (execApply s)
  | 2 => nextOr s (execApprove s)
  | 3 => nextOr s (execAttest s)
  | 4 => nextOr s (execMeasure s)
  | 5 => nextOr s (execKeysExport s)
  | 6 => nextOr s (execConfirm s)
  | 7 => nextOr s (execImport s)
  | 8 => nextOr s (execCommit s)
  | 9 => nextOr s (execRootInstall s)
  | 0xA => nextOr s (execBurnRoot s)
  | 0xB => nextOr s (execLcDevelop s)
  | 0xC => nextOr s (execLcSeal s)
  | 0xD => nextOr s (execLcDecommission s)
  | 0xE => nextOr s (execExportKtk s)
  | _ =>
    if s.flag (mbxBusy blkKeys) then (s.mbxRefuseBusy blkKeys).setFlt F.KEYS_FLT_CMD_REFUSED
    else
      let (c, s) := openCause s
      keysRefuse s c

def bootMbxCmd (s : State) (c : Nat) : State :=
  match c with
  | 1 => flashReadCmd s
  | 2 => flashEraseCmd s
  | 3 => flashProgCmd s
  | 4 => bootConfirmCmd s
  | 5 => setTrialCmd s
  | 6 => forceRecoveryCmd s
  | _ => bootMbx s true (flashOperands s 0)

/-- A write of CMD in a block's MBX_CTL. -/
def mbxCmd (s : State) (blk c : Nat) : State :=
  match blk with
  | 0 => if c = 1 then readSnapTime s else mbxOther s 0
  | 2 => timeCmd s c
  | 3 => tideMbxCmd s c
  | 8 => if c = 1 then readSched s else mbxOther s 8
  | 13 => swcMbxCmd s c
  | 15 => keysMbxCmd s c
  | 16 => if c = 1 then readSec s else mbxOther s 16
  | 17 => bootMbxCmd s c
  | _ => s

/-- The blocks with a mailbox. -/
def hasMbx (blk : Nat) : Bool := [0, 2, 3, 8, 13, 15, 16, 17].contains blk

/-- A command of a block's CMD register; `a` is its argument field. -/
def blockCmd (s : State) (blk tag c a : Nat) : State :=
  match blk, c with
  | 3, 1 => tideCommand s a cmdResync
  | 3, 2 => tideCommand s a cmdFreerun
  | 4, 1 => clrTmax s
  | 4, 2 => estRestart s
  | 5, 1 => syncResetChannel s
  | 5, 2 => syncResetGroup s a
  | 6, 1 => clrUsed s
  | 7, 1 => republish s
  | 7, 2 => clrSim s
  | 9, 1 => if pairState s = prPaired then twinRefuse s else wakeStart s
  | 9, 2 => twinYield s
  | 9, 3 => if pairState s ≠ prPaired then twinRefuse s else sendCtrl (s.count C.TWIN_RESET_REQ_TX) 2 0
  | 9, 4 => rallyUnalign s (a % 8)
  | 9, 5 => s.setFld F.TWIN_G_RMAX_RMAX 0 (a % 8)
  | 10, 1 => drecTrigger s a tag
  | 10, 2 => drecFree s
  | 10, 3 => (doneSlots s).foldl freeSlot s
  | 11, 1 => elogClear s
  | 11, 2 => elogExport s
  | 13, 1 => flushFdbAll s
  | 13, 2 => flushFdbPort s
  | 14, 1 => partPulse s a srcPulse
  | _, _ => s

/-! ## Enables -/

/-- A write of an enable bit: `on` when it is written 1 while 0, `off` when it is written 0 while 1. -/
def writeEn (s : State) (f : Fld) (i v : Nat) (on off : State → State) : State :=
  let w := decide (f.bitsIn v ≠ 0)
  let old := s.flag f i
  if w && !old then on s else if !w && old then off s else s

/-- A write of TIDE_CTRL.GEN, in ascending group order (R109). -/
def writeGen (s : State) (v : Nat) : State :=
  (List.range 8).foldl (fun s g =>
    if bitOf v g && !grpEn s g then groupEnable s g else if !bitOf v g && grpEn s g then groupDisable s g else s) s

/-! ## Partitions -/

/-- Is a route refused: of partition 0 with another FILE than 0 (R423)? -/
def routeRefused (p v : Nat) : Bool := decide (p = 0) && decide (1 ≤ v % 16) && decide (v % 16 ≤ 7)

/-- Every identity that a partition holds, in ascending order. -/
def heldIdents (s : State) (p : Nat) : List Nat :=
  ((List.range 18).filter (fun b => s.fbit F.PART_T_IPEND_PEND_BLK b p)).map (· + 1)
    ++ ((List.range 5).filter (fun b => s.fbit F.PART_T_IPEND_PEND b p)).map (· + 32)

/-- A write of a partition's route; with EN 1 every pending identity is delivered in ascending order and PART_T_IPEND is cleared (R424). With PART_CTRL.LOCK set
a change is a lock violation (R437). -/
def writeRoute (s : State) (p v : Nat) : State :=
  if partCount ≤ p then s
  else if s.flag F.PART_CTRL_LOCK && s.fldsDiffer [F.PART_T_IRQ_EN, F.PART_T_IRQ_CORE, F.PART_T_IRQ_FILE] p v then s.rowLocked 14 0x21C v
  else if routeRefused p v then s.setFlt F.PART_FLT_CFG_ERR
  else
    let s := writeFields s R.PART_T_IRQ p 0 v
    if s.flag F.PART_T_IRQ_EN p then
      let held := heldIdents s p
      let s := (s.setFld F.PART_T_IPEND_PEND_BLK 0 p).setFld F.PART_T_IPEND_PEND 0 p
      held.foldl (fun s k => s.routeIdent p k) s
    else s

/-- IRQ_ROUTE_ENABLE: a write of PART_T_IRQ of a partition. -/
def execIrqRouteEnable (p v : Nat) (s : State) : Host.Outcome State Fault Refusal := .next (s.live fun s => writeRoute s p v)

/-- A write of PART_CPU_k_CUR: it takes effect at the core's next trap return (R422). -/
def writeCur (s : State) (k v : Nat) : State := if 8 ≤ k then s else s.setFld (F.PART_CPU_CUR_GUEST.el k) v

/-- A sum over every partition but one. -/
def sumOthers (p : Nat) (f : Nat → Nat) : Nat := ((List.range partCount).filter (· ≠ p)).foldl (fun a q => a + f q) 0

/-- The fields of SVI_S_CTL as written: another rate or group begins another grid of releases. -/
def sviCtlFields (s s' : State) (n : Nat) : State :=
  if streamRate s' n = streamRate s n && streamGroup s' n = streamGroup s n then s' else s'.setStream n { s'.stream n with next := none }

/-- A write of PART_T_BW: a RES that would make the sum exceed 450 is ignored (R432). -/
def writeBw (s : State) (p v : Nat) : State :=
  let s' := writeFields s R.PART_T_BW p 0 v [F.PART_T_BW_RES]
  if 450 < v % 1024 + sumOthers p (fun q => s.fld F.PART_T_BW_RES q) then s'.setFlt F.PART_FLT_CFG_ERR
  else s'.setFld F.PART_T_BW_RES v p

/-- A write of PART_T_SLOTS: one that would make the sum of SLOT_MIN exceed 192 is ignored (R433). -/
def writeSlots (s : State) (p v : Nat) : State :=
  if 192 < slotMin (v % 64) + sumOthers p (fun q => slotMin (s.fld F.PART_T_SLOTS_SLOT_MIN q)) then s.setFlt F.PART_FLT_CFG_ERR
  else writeFields s R.PART_T_SLOTS p 0 v

/-- A write of PART_T_CTL: HOLD by its own rule; HOLD and VIOL_RST of partition 0 are refused (R411, R427, R437). -/
def writePartCtl (s : State) (p v : Nat) : State :=
  if p = 0 then
    let s := writeFields s R.PART_T_CTL p 0 v [F.PART_T_CTL_HOLD, F.PART_T_CTL_VIOL_RST]
    if 1 ≤ v / 2 ^ 30 % 4 then s.setFlt F.PART_FLT_CFG_ERR else s
  else holdWrite (writeFields s R.PART_T_CTL p 0 v [F.PART_T_CTL_HOLD]) p (bitOf v 31)

/-- A write of PART_DWD_CTL: EN locks itself and TIMEOUT; the device watchdog counts from the enable. -/
def writeDwd (s : State) (v : Nat) : State :=
  let was := s.flag F.PART_DWD_CTL_EN
  let s := writeFields s R.PART_DWD_CTL 0 0 v
  if s.flag F.PART_DWD_CTL_EN && !was then { s with part := { s.part with dwdAt := s.time.sys, dwdWarned := false, kickStep := false } } else s

/-! ## Registers with operations of their own -/

/-- VALID of a capture has been written: where it is 0 now, COUNT is cleared with it (R485, R497). -/
def clearCapture (s : State) (valid count : Fld) : State := if s.flag valid then s else s.setFld count 0

/-- A write of TIME_UTCOFS waits for the next increment of SEC (R43). -/
def writeUtcofs (s : State) (v : Nat) : State :=
  let s := writeFields s R.TIME_UTCOFS 0 0 v
  { s with time := { s.time with utcPend := some (regValue s R.TIME_UTCOFS 0 0), utcDue := false } }

/-- A write of a slot field of Tide or the lanes clears the measurements of the partition that it names, and of the one it named before (R462). -/
def writeSlotReg (s : State) (r : RegDesc) (i j v : Nat) : State :=
  let s := if slotPart s i j = 0 then s else clearMeasure s (slotPart s i j)
  let s := writeFields s r i j v
  if slotPart s i j = 0 then s else clearMeasure s (slotPart s i j)

/-- The first and last offsets of the slot registers of a pair's windows in Tide (kind 2) and in the lanes (kind 1). -/
def isSlotReg (r : RegDesc) : Bool :=
  (r.flds.any fun f => decide (f.acc = .rw)) &&
  ((decide (r.blk = 3) && decide (r.kind = 2) && decide (0x240 ≤ r.off) && decide (r.stride = 16))
    || (decide (r.blk = 6) && decide (r.kind = 1) && decide (0x220 ≤ r.off) && decide (r.stride = 24)))

/-- A write of a pair's ROLE that leaves no idle spare makes TIDE_STAT.SPARES reach 0 (R310). -/
def roleWritten (s s' : State) : State := if (idleSpares s).isEmpty then s' else lastSpare s'

/-- A write of TWIN_CTRL: EN, and then what the lanes and the transfer make of the new fields. -/
def twinCtrlWrite (s : State) (v : Nat) : State :=
  joinSettle (laneRefresh (writeEn s F.TWIN_CTRL_EN 0 v (fun s => twinEnable s) fun s => twinDisable s))

/-- What a write of a register of the blocks from 9 on with an operation of its own does; none for one of plain fields. -/
def writeOwnHigh (s : State) (init tag : Nat) (r : RegDesc) (i j v : Nat) : Option (Bool × State) :=
  let ok (t : State) : Option (Bool × State) := some (true, t)
  let fields (but : List Fld) : State := writeFields s r i j v but
  match r.blk with
  | 9 =>
    if r.is R.TWIN_CTRL then ok (twinCtrlWrite (fields [F.TWIN_CTRL_EN]) v)
    else if r.is R.TWIN_CMD then ok (blockCmd s 9 tag (v % 16) (F.TWIN_CMD_GROUP.bitsIn v))
    else none
  | 10 =>
    if r.is R.DREC_CTRL then ok (writeEn (fields [F.DREC_CTRL_EN]) F.DREC_CTRL_EN 0 v drecEnable drecDisable)
    else if r.is R.DREC_CMD then ok (blockCmd s 10 tag (v % 16) (F.DREC_CMD_UNIT.bitsIn v))
    else if r.is R.DREC_U_CTL then
      ok (writeEn (fields [F.DREC_U_CTL_EN]) F.DREC_U_CTL_EN i v (fun s => unitEnable s i) fun s => s.setFlag F.DREC_U_CTL_EN false i)
    else none
  | 11 =>
    if r.is R.ELOG_CMD then ok (blockCmd s 11 tag (v % 16) 0)
    else if r.is R.ELOG_RD_IDX then ok (elogRdIdx s v)
    else if r.is R.ELOG_SW_CODE then some (swCode s init tag v)
    else none
  | 12 =>
    if r.is R.PORT_I2C_CMD then ok (i2cCmd s j v)
    else if r.is R.PORT_P_CTL then
      ok (writeEn (fields [F.PORT_P_CTL_EN]) F.PORT_P_CTL_EN i v (fun s => portEnable s i) fun s => portDisable s i)
    else if r.is R.PORT_P_EQ_TX then ok (eqTxWrite s i v)
    else if r.is R.PORT_P_TXTHR then ok (portTxthrWrite s i v)
    else if r.is R.PORT_P_TEST then ok (portTestWrite s i v)
    else none
  | 13 =>
    if r.is R.SWC_CTRL then
      ok (writeEn (fields [F.SWC_CTRL_EN]) F.SWC_CTRL_EN 0 v swcEnable fun s => s.setFlag F.SWC_CTRL_EN false)
    else if r.is R.SWC_CMD then ok (blockCmd s 13 tag (v % 16) 0)
    else if r.is R.SWC_R_CTL then
      ok (writeEn (fields [F.SWC_R_CTL_EN]) F.SWC_R_CTL_EN i v (fun s => pairEnable s i) fun s => s.setFlag F.SWC_R_CTL_EN false i)
    else if r.is R.SWC_T_CTL then ok (ringEnable (fields [F.SWC_T_CTL_RX_EN, F.SWC_T_CTL_TX_EN]) i (bitOf v 31) (bitOf v 30))
    else none
  | 14 =>
    if r.is R.PART_CMD then ok (blockCmd s 14 tag (v % 16) (F.PART_CMD_PART.bitsIn v))
    else if r.is R.PART_DWD_KICK then ok (dwdKick s v)
    else if r.is R.PART_DWD_CTL then ok (writeDwd s v)
    else if r.is R.PART_CPU_CUR then ok (writeCur s j v)
    else if r.is R.PART_T_CTL then ok (writePartCtl s i v)
    else if r.is R.PART_T_WD then ok (wdConfigWrite s i false v)
    else if r.is R.PART_T_LWD then ok (wdConfigWrite s i true v)
    else if r.is R.PART_T_BW then ok (writeBw s i v)
    else if r.is R.PART_T_SLOTS then ok (writeSlots s i v)
    else if r.is R.PART_T_IRQ then ok (writeRoute s i v)
    else none
  | _ => none

/-- What a write of a register with an operation of its own does; none for a register of plain fields. `i` is the instance, `j` the element. -/
def writeOwn (s : State) (init tag : Nat) (r : RegDesc) (i j v : Nat) : Option (Bool × State) :=
  let ok (t : State) : Option (Bool × State) := some (true, t)
  let fields (but : List Fld) : State := writeFields s r i j v but
  if hasMbx r.blk && r.kind = 0 && r.off = 0x30 then ok (mbxCmd s r.blk (v % 16))
  else if hasMbx r.blk && r.kind = 0 && r.off = 0x34 then (if s.flag (mbxBusy r.blk) then ok s else none)
  else if isIen r then ok (writeIen s r v)
  else if isSlotReg r then ok (writeSlotReg s r i j v)
  else match r.blk with
  | 0 =>
    if r.is R.SYS_SNAP_CTL then ok (if bitOf v 0 then (if bitOf v 1 then snapshotClear s else snapshot s) else s)
    else if r.is R.SYS_BUSERR then ok (clearCapture (fields []) F.SYS_BUSERR_VALID F.SYS_BUSERR_COUNT)
    else if r.is R.SYS_LOCKVIOL then ok (clearCapture (fields []) F.SYS_LOCKVIOL_VALID F.SYS_LOCKVIOL_COUNT)
    else none
  | 1 => if r.is R.CLK_RST then ok (softwareReset s v) else none
  | 2 =>
    if r.is R.TIME_CTRL then ok (timeCtrlWrite s v)
    else if r.is R.TIME_FADJ_SET then ok (if effSource (s.fld F.TIME_CTRL_SRC) = 0 then applyFadjSet (fields []) else fields [])
    else if r.is R.TIME_UTCOFS then ok (writeUtcofs s v)
    else if r.is R.TIME_TOUT_CTRL then ok (toutArm (fields [F.TIME_TOUT_CTRL_ARM]) i (bitOf v 4))
    else none
  | 3 =>
    if r.is R.TIDE_CTRL then ok (writeGen (fields [F.TIDE_CTRL_GEN]) v)
    else if r.is R.TIDE_P_CFG then ok (roleWritten s (fields []))
    else if r.is R.TIDE_CMD then ok (blockCmd s 3 tag (v % 8) (F.TIDE_CMD_GROUP.bitsIn v))
    else none
  | 4 =>
    if r.is R.SVI_ADEPTH then ok (adepthWrite s tag j v)
    else if r.is R.SVI_SCALE_0 then ok (scaleWrite s 0 v)
    else if r.is R.SVI_SCALE_1 then ok (scaleWrite s 1 v)
    else if r.is R.SVI_CMD then ok (blockCmd s 4 tag (v % 16) 0)
    else if r.is R.SVI_S_CTL then
      ok (writeEn (sviCtlFields s (fields [F.SVI_S_CTL_EN]) i) F.SVI_S_CTL_EN i v (fun s => streamEnable s i) fun s => streamDisable s i)
    else none
  | 5 =>
    if r.is R.FDC_CTRL then
      ok (writeEn (fields [F.FDC_CTRL_EN]) F.FDC_CTRL_EN 0 v (fun s => s.setFlag F.FDC_CTRL_EN true) fdcDisable)
    else if r.is R.FDC_CMD then ok (blockCmd s 5 tag (v % 16) (F.FDC_CMD_GROUP.bitsIn v))
    else if r.is R.FDC_C_CTL then
      ok (writeEn (fields [F.FDC_C_CTL_EN]) F.FDC_C_CTL_EN i v (fun s => fdcChannelEnable s i) fun s => fdcChannelDisable s i)
    else none
  | 6 => if r.is R.LANE_CMD then ok (blockCmd s 6 tag (v % 16) 0) else none
  | 7 =>
    if r.is R.GOOSE_CMD then ok (blockCmd s 7 tag (v % 16) 0)
    else if r.is R.GOOSE_B_CTL then
      ok (writeEn (fields [F.GOOSE_B_CTL_EN]) F.GOOSE_B_CTL_EN i v (fun s => gooseBlockEnable s i) fun s => gooseBlockDisable s i)
    else if r.is R.GOOSE_S_CTL then
      let s := fields [F.GOOSE_S_CTL_EN]
      let s := if s.flag F.GOOSE_S_CTL_SIM i then s else s.setFlag F.GOOSE_S_STAT_SIM_LATCH false i
      ok (writeEn s F.GOOSE_S_CTL_EN i v (fun s => gooseSubEnable s i) fun s => gooseSubDisable s i)
    else none
  | 8 =>
    if r.is R.GATE_C_CTL then
      ok (writeEn (fields [F.GATE_C_CTL_EN]) F.GATE_C_CTL_EN i v (fun s => gateEnable s i) fun s => gateDisable s i)
    else if r.is R.GATE_C_PERIOD_STG then ok ((fields []).setFlag F.GATE_C_STAT_STG_P true i)
    else if r.is R.GATE_C_DUTY_STG then ok ((fields []).setFlag F.GATE_C_STAT_STG_D true i)
    else if r.is R.GATE_C_COMMIT then ok (if bitOf v 0 then gateCommit s i else s)
    else none
  | _ => writeOwnHigh s init tag r i j v

/-- A write of a register with SH fields enters the AON write queue; a full queue is a bus error (R496). AON_BOOT and the counts are changed by their own
commands only. -/
def writeShadow (s : State) (init tag addr : Nat) (r : RegDesc) (v : Nat) : Option (Bool × State) :=
  if r.is R.AON_RST_CAUSE || r.is R.AON_PWR || r.is R.AON_SCRATCH || r.is R.KEYS_TAMP then
    let (ok, s) := aonEnqueue s addr v
    some (if ok then (true, s) else (false, s.busError 5 init tag addr true))
  else none

/-- Write a register of an instance and element: refused as a whole where it would change a locked field (R482), else written. -/
def writeReg (s : State) (init tag addr : Nat) (r : RegDesc) (i j v : Nat) : Bool × State :=
  if lockBars s r i j v then (false, s.lockViolation tag addr v)
  else match writeShadow s init tag addr r v with
    | some x => x
    | none => (writeOwn s init tag r i j v).getD (true, writeFields s r (if tagged r then tag else i) j v)

/-- The address of an offset of a block. -/
def regAddr (blk off : Nat) : Nat := regBase + blk * 0x10000 + off

/-- A register write at a window kind and an instance. -/
def regWriteAt (s : State) (init tag blk off v : Nat) : Option (Nat × Nat) → Bool × State
  | none => (true, s)
  | some (kind, i) =>
    match regAt blk kind off with
    | none => (true, s)
    | some r => writeReg s init tag (regAddr blk off) r i (r.index off) v

/-- A write above the registers of PART: the IOMMU's registers, the doorbell page, else nothing (R425, R436). -/
def partPageWrite (s : State) (tag off v : Nat) : Bool × State :=
  if off < 0x9000 then (true, iommuWrite s (off - 0x8000) v)
  else if 0xC000 ≤ off && off < 0xD000 then (true, doorbellWrite s tag (off - 0xC000) v)
  else (true, s)

/-- Write 32 bits at an offset of a block by a tag; false where the initiator receives a bus error. An offset that no chapter assigns ignores the write
(R478). -/
def regWrite (s : State) (init tag blk off v : Nat) : Bool × State :=
  if blk = 14 && 0x8000 ≤ off then partPageWrite s tag off (v % 2 ^ 32)
  else regWriteAt s init tag blk off (v % 2 ^ 32) (placeOf s blk off)

/-! ## The register bus (R475, R476, R484) -/

/-- The value is there. -/
def someFst (p : Nat × State) : Option Nat × State := (some p.1, p.2)

/-- A word is read when Breakwater admits it; one past the end of the register space lies in no region (R23). -/
def admittedRead (init tag a : Nat) (p : Bool × State) : Option Nat × State :=
  if !p.1 then (none, p.2)
  else if inRegs a then someFst (regRead p.2 tag ((a - regBase) / 0x10000) (a % 0x10000))
  else (none, p.2.busError 2 init tag a false)

/-- Breakwater admits a word of the register space and it is read (R412). -/
def busReadWord (s : State) (init tag a : Nat) : Option Nat × State :=
  admittedRead init tag a (bwAdmit s init tag kindRead a 4)

/-- A word is written; one past the end of the register space lies in no region (R23). -/
def busWriteWord (s : State) (init tag a v : Nat) : Bool × State :=
  let (ok, s) := bwAdmit s init tag kindWrite a 4
  if !ok then (false, s)
  else if !inRegs a then (false, s.busError 2 init tag a true)
  else regWrite s init tag ((a - regBase) / 0x10000) (a % 0x10000) v

/-- Is an access to the register space malformed: narrower than 32 bits, or not aligned (R475)? The kind of its bus error. -/
def busBad (a n : Nat) : Option Nat := if n < 4 || n % 4 ≠ 0 then some 0 else if a % 4 ≠ 0 then some 1 else none

/-- The words of a write, lower address first, each judged on its own (R476). -/
def busWriteWords (s : State) (init tag : Nat) : Nat → List Nat → Bool × State
  | _, [] => (true, s)
  | a, w :: l =>
    let (ok, s) := busWriteWord s init tag a w
    let (ok', s) := busWriteWords s init tag (a + 4) l
    (ok && ok', s)

/-- The words of a read. -/
def busReadWords (s : State) (init tag a : Nat) : Nat → Option (List Nat) × State
  | 0 => (some [], s)
  | n + 1 =>
    let (v, s) := busReadWord s init tag a
    let (l, s) := busReadWords s init tag (a + 4) n
    (match v, l with
      | some x, some y => some (octetsLE 4 x ++ y)
      | _, _ => none, s)

/-- Write octets to the register space. -/
def busWrite (s : State) (init tag a : Nat) (l : List Nat) : Bool × State :=
  match busBad a l.length with
  | some k =>
    let (ok, s) := bwAdmit s init tag kindWrite a l.length
    (false, if ok then s.busError k init tag a true else s)
  | none => busWriteWords s init tag a ((List.range (l.length / 4)).map fun i => leAt l i)

/-- Read octets from the register space. -/
def busRead (s : State) (init tag a n : Nat) : Option (List Nat) × State :=
  match busBad a n with
  | some k =>
    let (ok, s) := bwAdmit s init tag kindRead a n
    (none, if ok then s.busError k init tag a false else s)
  | none => busReadWords s init tag a (n / 4)

end Sys2Proof.Machine
end

