-- ==== Sys2Proof/Machine/Access.lean ====
section
/-! DEFINITION. Transactions of the system fabric (R22 to R24, R33 to R38, R412 to R421) and the bandwidth periods of the memory arbiter (R431). -/

namespace Sys2Proof.Machine

/-- A cache line with an uncorrectable error is written back or evicted (cause 1), or served to a device engine (cause 2) (R420). -/
def cacheUe (s : State) (addr cause core : Nat) : State :=
  (s.setFlt F.SYS_FLT_MEM_ECC_UE).event 14 0x0E08 0 (addr % 2 ^ 32) (addr / 2 ^ 32 % 16 + cause * 256) core

/-- The writeback or eviction of a dirty line: the affected 32 octets are marked uncorrectable (R420). -/
def lineWriteback (s : State) (core addr : Nat) : State :=
  let b := (addr - lpddrBase) / 32
  let s := if regionOf s addr = .lpddr && !s.fab.poison.contains b then { s with fab := { s.fab with poison := b :: s.fab.poison } } else s
  cacheUe s addr 1 core

/-- A read through Breakwater, of any region. -/
def fabRead (s : State) (init tag kind a n : Nat) : Option (List Nat) × State :=
  if inRegs a then busRead s init tag a n
  else
    let (ok, s) := bwAdmit s init tag kind a n
    if ok then memRead s init tag a n else (none, s)

/-- A write through Breakwater, of any region. -/
def fabWrite (s : State) (init tag a : Nat) (l : List Nat) : Bool × State :=
  if inRegs a then busWrite s init tag a l else dmaWrite s init tag a l

/-- The core or L3 whose line with an uncorrectable error answers a read of LPDDR5X by a device engine. -/
def FabReq.lineUe (s : State) (r : FabReq) : Option Nat := if r.init = initCore || regionOf s r.addr ≠ .lpddr then none else r.ue

/-- A transaction that Breakwater has admitted reaches its target in memory: what it read, or none where it ends in a bus error. -/
def fabricDo (s : State) (r : FabReq) : Option (List Nat) × State :=
  if r.kind = kindWrite then
    let (ok, s) := memWrite s r.init r.tag r.addr r.data
    (if ok then some [] else none, s)
  else match r.lineUe s with
    | some core => (none, cacheUe (s.busError 7 r.init r.tag r.addr false) r.addr 2 core)
    | none => memRead s r.init r.tag r.addr r.data.length

/-- A transaction of the register space. -/
def fabricRegs (s : State) (r : FabReq) : Option (List Nat) × State :=
  if r.kind = kindWrite then
    let (ok, s) := busWrite s r.init r.tag r.addr r.data
    (if ok then some [] else none, s)
  else busRead s r.init r.tag r.addr r.data.length

/-- The result of a transaction is kept. -/
def fabricEnd (x : Option (List Nat) × State) : State :=
  { x.2 with fab := { x.2.fab with lastRead := x.1.getD [], lastError := x.1.isNone } }

/-- A transaction that Breakwater has admitted: one to LPDDR5X of a partition that has used its CAP waits in its slot for the next period (R431). -/
def fabricAdmitted (s : State) (r : FabReq) : State :=
  if regionOf s r.addr = .lpddr && capUsed s r.tag then { s with fab := { s.fab with waiting := s.fab.waiting ++ [r] } }
  else fabricEnd (fabricDo s r)

/-- A transaction: to memory, it waits at its initiator while no permitted slot of the fabric is free (R38), and Breakwater checks it before it reaches its
target (R36). -/
def fabricAccess (s : State) (r : FabReq) : State :=
  if r.data.isEmpty then s
  else if inRegs r.addr then fabricEnd (fabricRegs s r)
  else if !fabSlotFree s r.init r.tag then { s with fab := { s.fab with stalled := s.fab.stalled ++ [r] } }
  else
    let (ok, s) := bwAdmit s r.init r.tag r.kind r.addr r.data.length
    if ok then fabricAdmitted s r else fabricEnd (none, s)

/-- Serve the waiting requests that may go, by credit, PRIO and turn. -/
def serveWaiting : Nat → State → State
  | 0, s => s
  | k + 1, s =>
    match pickReq s s.fab.waiting with
    | none => s
    | some (r, rest) => serveWaiting k (fabricEnd (fabricDo { s with fab := { s.fab with waiting := rest, turn := r.tag } } r))

/-- A period starts: every partition's credit is renewed, none of its CAP is used, the requests that waited for it are served, which frees their slots, and then the
requests that waited for a slot are taken up in their order. -/
def qosPeriod (s : State) : State :=
  let s := serveWaiting s.fab.waiting.length { s with fab := { s.fab with used := [] } }
  s.fab.stalled.foldl fabricAccess { s with fab := { s.fab with stalled := [] } }

/-- QOS_PERIOD_START. -/
def execQosPeriodStart (s : State) : Host.Outcome State Fault Refusal := .next (s.live qosPeriod)

end Sys2Proof.Machine
end

