-- ==== Sys2Proof/Machine/Boot.lean ====
section
/-! DEFINITION. The boot sequence (R508, R510, R513 to R517). -/

namespace Sys2Proof.Machine

/-! ## INIT -/

/-- The installed size of a channel in GiB: the sum of the capacities of its ranks (R29). -/
def rankSum (ranks : List Nat) : Nat := ranks.foldl (· + ·) 0

/-- What training found of a channel: the capacities in GiB of its ranks, none where it did not train (R29). -/
def memInit (s : State) (mcb : Bool) (ranks : List Nat) : State :=
  let f (a b : Fld) : Fld := if mcb then b else a
  if rankSum ranks = 0 then
    let s := s.setFlag (f F.SYS_MEM_MCA_FAILED F.SYS_MEM_MCB_FAILED) true
    (s.setFlt F.SYS_FLT_MEM_FAIL).event 0 0x0004 0 (ofBit mcb) 1
  else
    let s := s.setFlag (f F.SYS_MEM_MCA_TRAINED F.SYS_MEM_MCB_TRAINED) true
    (s.setFld (f F.SYS_MEM_MCA_RANKS F.SYS_MEM_MCB_RANKS) ranks.length).setFld (f F.SYS_MEM_MCA_SIZE F.SYS_MEM_MCB_SIZE) (min 16 (rankSum ranks))

/-- Read both store copies into staging. -/
def stageStores (s : State) : State :=
  [0, 1].foldl (fun s k => (engineWrite initBoot (storeCopyLen / 64 + 1) s (stageStore s k) (flashBytes s (storeBase s k) storeCopyLen)).2) s

/-- The cause of a slot. -/
def setCause (s : State) (slot c : Nat) : State := s.setFld (if slot = 0 then F.BOOT_CAUSE_SLOT0 else F.BOOT_CAUSE_SLOT1) c
def causeOf (s : State) (slot : Nat) : Nat := s.fld (if slot = 0 then F.BOOT_CAUSE_SLOT0 else F.BOOT_CAUSE_SLOT1)

/-- Go on to the next slot to try, skipping one marked BAD, or to RECOVERY (R514). -/
def bootNext (s : State) : List Nat → State
  | [] => enterRecovery { s with boot := { s.boot with left := [] } }
  | t :: rest =>
    if slotIsBad s t then bootNext (setCause s t 0x08) rest
    else { s.setFld F.BOOT_STAT_STATE bsLoad with boot := { s.boot with slot := t, left := rest } }

/-- The choice of slots (R514). -/
def bootChoose (s : State) : State :=
  let s :=
    if s.aonFlag F.AON_STAT_VALID then s
    else (((s.setSh F.AON_BOOT_PREF s.boot.dir.pref).setSh F.AON_BOOT_TRIAL 0).setSh F.AON_BOOT_TRIED 0).setSh F.AON_BOOT_BAD 0
  if s.aonFlag F.AON_BOOT_FORCE_RECOV then enterRecovery (s.setSh F.AON_BOOT_FORCE_RECOV 0)
  else
    let s :=
      if s.aonFlag F.AON_BOOT_TRIED then ((s.setSh F.AON_BOOT_TRIED 0).setFlt F.BOOT_FLT_TRIAL_FAILED).event blkBoot 0x1104 0
      else s
    let trial := s.aonFlag F.AON_BOOT_TRIAL
    let pref := s.aonFld F.AON_BOOT_PREF
    let first := if trial then 1 - pref else pref
    let s := s.setSh F.AON_BOOT_TRIAL 0
    bootNext { s with boot := { s.boot with first := first, wasTrial := trial } } [first, 1 - first]

/-- BOOT_INIT_DONE: the PLLs are locked, the flash has answered with its density in octets or has not, and the LPDDR5X channels have trained with the ranks
given or have not. -/
def bootInitDone (s : State) (dens : Option Nat) (ranksA ranksB : List Nat) : State :=
  if bootState s ≠ bsInit || !s.clk.lost.isEmpty then s
  else
    let s := s.setFld F.CLK_STAT_LOCKED 0xFF
    let s := memInit (memInit s false ranksA) true ranksB
    match dens with
    | none => s.setFld F.BOOT_STAT_STATE bsFailed
    | some d =>
      if rankSum ranksA = 0 && rankSum ranksB = 0 then s.setFld F.BOOT_STAT_STATE bsFailed
      else
        let s := { s with boot := { s.boot with size := d } }
        let s := { s with boot := { s.boot with dir := flashDirRead s } }
        bootChoose (stageStores s)

/-- The capacities of a channel's ranks that training leaves: none where the channel has not trained (R29). -/
def trainedRanks (ranks : List Nat) (trained : Bool) : List Nat := if trained then ranks else []

def execBootInitDone (dens : Option Nat) (ranksA : List Nat) (trainedA : Bool) (ranksB : List Nat) (trainedB : Bool) (s : State) : Host.Outcome State Fault Refusal :=
  .next (s.live fun s => bootInitDone s dens (trainedRanks ranksA trainedA) (trainedRanks ranksB trainedB))

/-! ## LOAD and VERIFY -/

/-- A slot is rejected: its cause, the event record, FALLBACK where it was the first tried, and on to the next (R515). -/
def bootReject (s : State) (c : Nat) (inLoad : Bool) : State :=
  let k := s.boot.slot
  let firstTried := decide (causeOf s (1 - k) = 0) || decide (causeOf s (1 - k) = 8)
  let s := (setCause s k c).event blkBoot 0x1102 0 k c
  let s := if inLoad then s.setFlt F.BOOT_FLT_SLOT_REJECTED else s
  bootNext (if firstTried then s.setFlag F.BOOT_STAT_FALLBACK true else s) s.boot.left

/-- BOOT offers KEYS the valid store copies in order; one refused does not use up the import (R510). -/
def offerStore (s : State) : List Nat → State
  | [] => s
  | k :: rest =>
    if s.keys.lifecycle = lcDecommissioned || !importOpen s then s
    else match engineRead initKeys (imgLen / 64 + 1) s (stageStore s k + 16) imgLen with
      | (none, s) => offerStore s rest
      | (some d, s) =>
        let (c, s) := importImage s d
        if c = 0 then s else offerStore s rest

/-- The root is installed from the directory where slot 0 is not VALID (R515). -/
def bootRoot (s : State) : State :=
  if (s.keySlot 0).st = ksValid || s.keys.fuses.rootHash.isNone || s.keys.lifecycle = lcDecommissioned then s
  else
    let (c, s) := rootCause s s.boot.dir.pset s.boot.dir.key
    if c = 0 then rootInstall s s.boot.dir.pset s.boot.dir.key else s

/-- The import and the root of a boot: the copies' validity is that of their octets in the flash. -/
def bootKeys (s : State) : State :=
  let seq (k : Nat) : Option Nat := storeSeq (flashBytes s (storeBase s k) storeCopyLen)
  bootRoot (offerStore s (storeOrder (seq 0) (seq 1)))

/-- The verdict on a bundle's octets by its record (R513): a cause, 0 where it is accepted, and whether it is unapproved. -/
def bootVerdict (s : State) (k : Nat) (b : List Nat) : Nat × Bool :=
  match sparseFind (recKey 3 k) s.keys.recs with
  | none => if s.keys.lifecycle = lcSealed || s.keys.lifecycle = lcDecommissioned then (0x05, false) else (0, true)
  | some _ => if recAgrees s 3 k b then (0, false) else (0x06, false)

/-- VERIFY passes: the digest and GEN are written, and BOOT enters APPLY. -/
def bootAccept (s : State) (b : List Nat) (unapproved : Bool) : State :=
  let s := setWords (setCause s s.boot.slot 1) F.BOOT_DIGEST_D (sha256 b)
  let s := (s.setFld F.BOOT_GEN_GEN (leAt b 4)).setFlag F.BOOT_STAT_UNAPPROVED unapproved
  { s.setFld F.BOOT_STAT_STATE bsApply with boot := { s.boot with bundle := b.length } }

/-- BOOT_SLOT_LOADED: the slot in hand has been read and hashed, or a read of the flash has failed; it is checked by R512, staged, and, the store having been
imported and the root installed, verified by R513. -/
def bootSlotLoaded (s : State) (readErr : Bool) : State :=
  if bootState s ≠ bsLoad then s
  else if readErr then bootReject s 0x02 true
  else
    let k := s.boot.slot
    let head := flashBytes s (slotBase s k) 4096
    if headerBad head (flashSpan s k) then bootReject s 0x03 true
    else
      let b := flashBytes s (slotBase s k) (leAt head 2)
      if sectionsBad s b then bootReject s 0x04 true
      else
        let (ok, s) := engineWrite initBoot (b.length / 64 + 1) s (stageBundle s) b
        if !ok then bootReject s 0x02 true
        else
          let s := bootKeys (s.setFld F.BOOT_STAT_STATE bsVerify)
          match bootVerdict s k b with
          | (0, un) => bootAccept s b un
          | (c, _) => bootReject s c false

def execBootSlotLoaded (readErr : Bool) (s : State) : Host.Outcome State Fault Refusal := .next (s.live fun s => bootSlotLoaded s readErr)

/-! ## APPLY (R511, R516) -/

/-- The groups that a REGS entry enables. -/
def gensSet (s : State) (a v : Nat) : List Nat :=
  if a = regAddr 3 0 then (List.range 8).filter fun g => bitOf v g && !grpEn s g else []

/-- The partitions of the enabled slots of a group's WORKING pairs. -/
def groupParts (s : State) (g : Nat) : List Nat := (groupSlots s g).map fun (n, j) => slotPart s n j

/-- One REGS entry: ADDR, VALUE and MASK. -/
def applyEntry (s : State) (e : List Nat) : Bool × State :=
  let a := leAt e 0
  let v := leAt e 1
  let m := leAt e 2
  let s := (gensSet s a v).foldl (fun s g => (groupParts s g).foldl (fun s p => (measure s p).2) s) s
  let (ok, s) := busWriteWord s initBoot 0 a v
  if !ok || s.clk.held then (false, s)
  else if m = 0 then (true, s)
  else match busReadWord s initBoot 0 a with
    | (none, s) => (false, s)
    | (some r, s) => (decide ((r ^^^ v) &&& m = 0), s)

/-- REGS entries from an address of staging on. -/
def applyRegs (s : State) (a : Nat) : Nat → Bool × State
  | 0 => (true, s)
  | n + 1 =>
    match dmaRead s initBoot 0 a 12 with
    | (none, s) => (false, s)
    | (some e, s) =>
      match applyEntry s e with
      | (false, s) => (false, s)
      | (true, s) => applyRegs s (a + 12) n

/-- Apply a section (R511); a section of another type has no effect. -/
def applySection (s : State) (x : BootSec) : Bool × State :=
  let src := stageBundle s + x.off
  if x.typ = secRegs then applyRegs s src (x.len / 12)
  else if x.typ = secLane || x.typ = secDram then
    match engineRead initBoot (x.len / 64 + 1) s src x.len with
    | (none, s) => (false, s)
    | (some l, s) => engineWrite initBoot (l.length / 64 + 1) s x.dest l
  else (true, s)

/-- Apply sections in table order, up to the first that fails. -/
def applySections (s : State) : List BootSec → Bool × State
  | [] => (true, s)
  | x :: l =>
    match applySection s x with
    | (false, s) => (false, s)
    | (true, s) => applySections s l

/-- A core at its reset. -/
def CoreSt.reset : CoreSt :=
  { pc := 0, x := List.replicate 32 0, f := List.replicate 32 0, priv := 3, virt := false, csrs := [], resv := none, wfi := false, run := false, tag := 0 }

def State.cpu (s : State) (k : Nat) : CoreSt := sparseGet CoreSt.reset s.core.cores k
def State.setCpu (s : State) (k : Nat) (c : CoreSt) : State := { s with core := { s.core with cores := sparsePut k c s.core.cores } }

/-- Release the next core that READY releases, given as its number, DEST and SW1: M mode, the PC at DEST, a0 at SW1, a1 at the device tree, whose place no
rule gives (R511, R517). -/
def releaseCore (s : State) : State :=
  match s.boot.release with
  | [] => s
  | (core, dest, sw1) :: rest =>
    let (dt, s) := State.takeFree { s with boot := { s.boot with release := rest } }
    let regs := ((CoreSt.reset.x.set 10 (BitVec.ofNat 64 sw1)).set 11 (BitVec.ofNat 64 dt))
    s.setCpu core { CoreSt.reset with pc := BitVec.ofNat 64 dest, x := regs, run := true }

/-- The cores that a bundle's header has released, in table order. -/
def coreList (h : List Nat) : List (Nat × Nat × Nat) :=
  ((bundleSecs h).filter fun x => x.typ = secCore).map fun x => (x.core, x.dest, x.off)

/-- READY (R514, R517): the first core is released at its edge, and one more at each SYS edge after it. -/
def bootReady (s : State) (h : List Nat) : State :=
  let k := s.boot.slot
  let s := ((s.setFld F.BOOT_STAT_STATE bsReady).setFlag F.BOOT_STAT_READY true).setFld F.BOOT_STAT_SLOT k
  let (us, s) := s.openRound (s.clk.ns - s.clk.released : Nat) 1000
  let s := (s.setFld F.BOOT_READY_US_US us.toNat).setFld F.TWIN_BUNDLE_TAG_VAL (leAt h 3)
  let s := if s.boot.wasTrial && decide (k ≠ s.aonFld F.AON_BOOT_PREF) then s.setSh F.AON_BOOT_TRIED 1 else s
  let s := (s.setSh F.AON_STAT_VALID 1).event blkBoot 0x1101 0 k (s.fld F.BOOT_GEN_GEN) (s.fld F.AON_RST_CAUSE_CAUSE)
  releaseCore { s with boot := { s.boot with release := coreList h } }

/-- APPLY fails: the slot is marked BAD and the device is reset with BOOT_FAIL (R515). -/
def bootApplyFail (s : State) : State := if s.clk.held then s else assertReset (setBad s s.boot.slot true) causeBootFail

/-- BOOT_APPLY_DONE: the sections of the staged bundle have been applied, or one of them has failed. -/
def bootApplyDone (s : State) : State :=
  if bootState s ≠ bsApply then s
  else match engineRead initBoot 64 s (stageBundle s) 4096 with
    | (none, s) => bootApplyFail s
    | (some h, s) =>
      match applySections s (bundleSecs h) with
      | (true, s) => bootReady s h
      | (false, s) => bootApplyFail s

def execBootApplyDone (s : State) : Host.Outcome State Fault Refusal := .next (s.live bootApplyDone)

end Sys2Proof.Machine
end

