-- ==== Sys2Proof/Machine/CpuCsr.lean ====
section
/-! DEFINITION. The control and status registers of the application cores (R419): M, HS, VS and U registers, the interrupt files of each core's IMSIC (R423),
what interrupt is next, traps and returns from them. The spec names RV64GC with the H extension, Smaia and Ssaia; the registers are those of the RISC-V privileged
and AIA specifications. -/

namespace Sys2Proof.Machine

/-! ## Registers -/

def CoreSt.getX (c : CoreSt) (r : Nat) : Nat := if r = 0 then 0 else (c.x.getD r 0).toNat
def CoreSt.getF (c : CoreSt) (r : Nat) : Nat := (c.f.getD r 0).toNat
def CoreSt.setX (c : CoreSt) (r v : Nat) : CoreSt := if r = 0 then c else { c with x := c.x.set r (BitVec.ofNat 64 v) }
def CoreSt.setF (c : CoreSt) (r v : Nat) : CoreSt := { c with f := c.f.set r (BitVec.ofNat 64 v) }

/-- A CSR as held; each holds 0 at its reset. -/
def CoreSt.csr (c : CoreSt) (num : Nat) : Nat := sparseGet 0 c.csrs num
def CoreSt.setCsr (c : CoreSt) (num v : Nat) : CoreSt := { c with csrs := sparseSet 0 c.csrs num (v % 2 ^ 64) }

/-- `old` with the bits of `mask` taken from `v`. -/
def maskWrite (old mask v : Nat) : Nat := old - (old &&& mask) + (v &&& mask)

/-- `v` with the `w` bits from bit `lo` on replaced. -/
def putBits (v lo w x : Nat) : Nat := v - bitsOf v (lo + w - 1) lo * 2 ^ lo + x % 2 ^ w * 2 ^ lo

/-- A CSR with some of its bits replaced. -/
def CoreSt.putCsr (c : CoreSt) (num lo w x : Nat) : CoreSt := c.setCsr num (putBits (c.csr num) lo w x)

def CoreSt.csrBit (c : CoreSt) (num i : Nat) : Bool := bitOf (c.csr num) i

/-! CSR numbers. -/

def csrFcsr : Nat := 0x003
def csrMstatus : Nat := 0x300
def csrMedeleg : Nat := 0x302
def csrMideleg : Nat := 0x303
def csrMie : Nat := 0x304
def csrMtvec : Nat := 0x305
def csrMcounteren : Nat := 0x306
def csrMip : Nat := 0x344
def csrScounteren : Nat := 0x106
def csrSatp : Nat := 0x180
def csrVsstatus : Nat := 0x200
def csrVsatp : Nat := 0x280
def csrHstatus : Nat := 0x600
def csrHedeleg : Nat := 0x602
def csrHideleg : Nat := 0x603
def csrHcounteren : Nat := 0x606
def csrHgeie : Nat := 0x607
def csrHvictl : Nat := 0x609
def csrHvip : Nat := 0x645
def csrHgatp : Nat := 0x680
def csrMinstret : Nat := 0xB02
def csrMcountinhibit : Nat := 0x320

/-- The tag of a core's transactions (R422): that in force while V = 1, else 0. -/
def CoreSt.txTag (c : CoreSt) : Nat := if c.virt then c.tag else 0

/-! ## Interrupt files (R423) -/

/-- The file of core `k` that a guest number names, 0 the supervisor file. -/
def coreFile (s : State) (k g : Nat) : ImsicFile := sparseGet ImsicFile.reset s.part.imsic (imsicKey k g)

def setCoreFile (s : State) (k g : Nat) (f : ImsicFile) : State :=
  { s with part := { s.part with imsic := sparseSet ImsicFile.reset s.part.imsic (imsicKey k g) f } }

/-- The pending and enabled identity that is served first: the lowest, and below the threshold where it is not 0. -/
def ImsicFile.top (f : ImsicFile) : Nat :=
  match (List.range 256).find? fun i => decide (1 ≤ i) && bitOf f.pend i && bitOf f.ena i with
  | some i => if f.threshold = 0 || i < f.threshold then i else 0
  | none => 0

/-- Does a file signal its interrupt? -/
def ImsicFile.signals (f : ImsicFile) : Bool := decide (f.delivery = 1) && decide (f.top ≠ 0)

/-- The guest file that hstatus.VGEIN names, where it names one (GEILEN 7). -/
def CoreSt.vgein (c : CoreSt) : Option Nat :=
  let g := bitsOf (c.csr csrHstatus) 17 12
  if 1 ≤ g && g ≤ 7 then some g else none

/-- Bits 1 to 7 of hgeip: the guest files that signal. -/
def hgeip (s : State) (k : Nat) : Nat :=
  (List.range 8).foldl (fun a g => if 1 ≤ g && (coreFile s k g).signals then a + 2 ^ g else a) 0

/-- A file's register by its number, the even ones of 64 bits each; none where it does not exist. -/
def fileReg (f : ImsicFile) (num : Nat) : Option Nat :=
  let word (v i : Nat) : Nat := if i < 8 then v / 2 ^ (32 * i) % 2 ^ 64 else 0
  if num = 0x70 then some f.delivery
  else if num = 0x72 then some f.threshold
  else if num % 2 = 1 then none
  else if 0x80 ≤ num && num < 0xC0 then some (word f.pend (num - 0x80))
  else if 0xC0 ≤ num && num ≤ 0xFF then some (word f.ena (num - 0xC0))
  else none

/-- A file's register is written; identity 0 and those above 255 do not exist. -/
def fileWrite (f : ImsicFile) (num v : Nat) : ImsicFile :=
  let word (old i : Nat) : Nat := if i < 8 then (putBits old (32 * i) 64 v) / 2 * 2 else old
  if num = 0x70 then { f with delivery := v % 2 }
  else if num = 0x72 then { f with threshold := v % 256 }
  else if num < 0xC0 then { f with pend := word f.pend (num - 0x80) }
  else { f with ena := word f.ena (num - 0xC0) }

/-! ## Interrupts pending and enabled -/

/-- The bits of mip that exist: SSIP, STIP, SEIP, and VSSIP, VSTIP, VSEIP, SGEIP of the H extension. No rule gives a source of MSIP, MTIP or MEIP. -/
def maskS : Nat := 0x222
def maskH : Nat := 0x1444
def maskVs : Nat := 0x444
def maskM : Nat := 0x888

/-- mip as read. -/
def mipOf (s : State) (k : Nat) : Nat :=
  let c := s.cpu k
  let ge := hgeip s k
  let vse := match c.vgein with | some g => bitOf ge g | none => false
  (c.csr csrMip &&& maskS) ||| (if (coreFile s k 0).signals then 0x200 else 0) ||| (c.csr csrHvip &&& maskVs)
    ||| (if vse then 0x400 else 0) ||| (if ge &&& c.csr csrHgeie = 0 then 0 else 0x1000)

/-- mideleg as read: the bits of the H extension are one. -/
def CoreSt.mideleg (c : CoreSt) : Nat := (c.csr csrMideleg &&& maskS) ||| maskH
def CoreSt.mie (c : CoreSt) : Nat := c.csr csrMie
def CoreSt.hideleg (c : CoreSt) : Nat := c.csr csrHideleg

/-- What is pending and enabled at M, at HS and at VS level. -/
def pendM (s : State) (k : Nat) : Nat := let c := s.cpu k; maskWrite (mipOf s k &&& c.mie) c.mideleg 0
def pendS (s : State) (k : Nat) : Nat := let c := s.cpu k; maskWrite (mipOf s k &&& c.mie &&& c.mideleg) c.hideleg 0
def pendVs (s : State) (k : Nat) : Nat := let c := s.cpu k; mipOf s k &&& c.mie &&& c.hideleg

/-- The first of the pending interrupts in the default order of priority; every iprio byte reads zero. -/
def firstIrq (p : Nat) : Option Nat := [11, 3, 7, 9, 1, 5, 12, 10, 2, 6].find? fun i => bitOf p i

/-- The VS-level interrupt that vstopi shows and its priority number: VSEI with its identity, hvictl's injected interrupt, or the other VS interrupts
while hvictl.VTI is 0. -/
def vsTop (s : State) (k : Nat) : Option (Nat × Nat) :=
  let c := s.cpu k
  let p := pendVs s k
  let ctl := c.csr csrHvictl
  let iid := bitsOf ctl 27 16
  let prio := bitsOf ctl 7 0
  let ext : Option (Nat × Nat) :=
    if !bitOf p 10 then none
    else match c.vgein with
      | some g => let t := (coreFile s k g).top; some (9, if t = 0 then 256 else t)
      | none => some (9, if bitsOf (c.csr csrHstatus) 17 12 = 0 && iid = 9 && prio ≠ 0 then prio else 256)
  let other : Option (Nat × Nat) :=
    if bitOf ctl 30 then
      (if iid = 9 || iid = 0 then none else some (iid, if prio ≠ 0 then prio else if bitOf ctl 9 then 256 else 0))
    else if bitOf p 2 then some (1, 256)
    else if bitOf p 6 then some (5, 256)
    else none
  match ext, other with
  | some e, some o => if o.2 < e.2 then some o else some e
  | some e, none => some e
  | none, o => o

/-- mtopi, stopi or vstopi of a first interrupt. -/
def topi (iid : Option Nat) : Nat := match iid with | some i => i * 65536 + 1 | none => 0

/-- vstopi: its priority is shown where hvictl.IPRIOM is 1. -/
def vstopi (s : State) (k : Nat) : Nat :=
  match vsTop s k with
  | some (i, p) => i * 65536 + (if bitOf ((s.cpu k).csr csrHvictl) 8 then min p 255 else 1)
  | none => 0

/-! ## Reading CSRs -/

/-- The CSR that a number names in the present mode: with V = 1 the supervisor registers are those of VS. -/
def CoreSt.csrName (c : CoreSt) (num : Nat) : Nat :=
  if !c.virt then num
  else if [0x100, 0x104, 0x105, 0x140, 0x141, 0x142, 0x143, 0x144, 0x150, 0x151, 0x15C, 0x180].contains num then num + 0x100
  else if num = 0xDB0 then 0xEB0
  else num

/-- The bits of mstatus, sstatus, vsstatus and hstatus that can be written. -/
def maskMstatus : Nat := 0xC0007E79AA
def maskSstatus : Nat := 0xC6122
def maskHstatus : Nat := 0x7003C0

/-- mstatus or vsstatus with SD. -/
def withSd (v : Nat) : Nat := if bitsOf v 14 13 = 3 then v + 2 ^ 63 else v

/-- CSRs held as written under a mask, with their mask. -/
def csrPlain (num : Nat) : Option Nat :=
  let all := 2 ^ 64 - 1
  match num with
  | 0x302 => some 0xF0B7FF
  | 0x303 => some maskS
  | 0x304 => some (maskS + maskH + maskM)
  | 0x305 | 0x105 | 0x205 => some (all - 2)
  | 0x306 | 0x106 | 0x606 => some (2 ^ 32 - 1)
  | 0x30A | 0x10A | 0x60A => some 1
  | 0x320 => some 5
  | 0x340 | 0x140 | 0x240 => some all
  | 0x341 | 0x141 | 0x241 => some (all - 1)
  | 0x342 | 0x142 | 0x242 => some all
  | 0x343 | 0x143 | 0x243 => some all
  | 0x34A | 0x34B | 0x643 | 0x64A => some all
  | 0x350 | 0x150 | 0x250 => some 0xFFF
  | 0x602 => some 0xB1FF
  | 0x603 => some maskVs
  | 0x605 => some all
  | 0x607 => some 0xFE
  | 0x609 => some 0x4FFF03FF
  | 0x645 => some maskVs
  | 0xB02 => some all
  | _ => none

/-- CSRs that read zero and ignore writes: PMP, the unused event counters, mvien, hvien and the iprio registers of VS. -/
def csrZero (num : Nat) : Bool :=
  (decide (0x3A0 ≤ num) && decide (num < 0x3F0)) || (decide (0x323 ≤ num) && decide (num < 0x340))
    || (decide (0xB03 ≤ num) && decide (num < 0xB20)) || (decide (0xC03 ≤ num) && decide (num < 0xC20))
    || [0x308, 0x608, 0x646, 0x647, 0xF15].contains num

/-- CSRs with a meaning of their own. -/
def csrOwn (num : Nat) : Bool :=
  [0x001, 0x002, 0x003, 0x100, 0x104, 0x144, 0x151, 0x15C, 0x180, 0x200, 0x204, 0x244, 0x251, 0x25C, 0x280, 0x300, 0x301, 0x309, 0x344, 0x351,
    0x600, 0x604, 0x644, 0x680, 0xB00, 0xC00, 0xC01, 0xC02, 0xDB0, 0xE12, 0xEB0, 0xF11, 0xF12, 0xF13, 0xF14, 0xFB0].contains num

def csrKnown (num : Nat) : Bool := (csrPlain num).isSome || csrZero num || csrOwn num

/-- misa: RV64 with A, C, D, F, H, I, M, S and U. -/
def misaVal : Nat := 2 ^ 63 + 0x14112D + 0x80

/-- The number of an indirectly accessed register: of M, S or VS level. -/
def iselOf (c : CoreSt) (num : Nat) : Nat := c.csr (num - 1)

/-- The interrupt file behind sireg or vsireg. -/
def iregFile (c : CoreSt) (num : Nat) : Option Nat := if num = 0x251 || num = 0x25C then c.vgein else some 0

/-- The value behind mireg, sireg or vsireg; none where the register does not exist. There is no machine-level file, and every iprio reads zero. -/
def iregRead (s : State) (k num : Nat) : Option Nat :=
  let c := s.cpu k
  let i := iselOf c num
  if 0x30 ≤ i && i < 0x40 then (if i % 2 = 0 && num ≠ 0x251 then some 0 else none)
  else if num = 0x351 then none
  else match iregFile c num with
    | some g => fileReg (coreFile s k g) i
    | none => none

/-- stopei or vstopei. -/
def topei (s : State) (k num : Nat) : Nat :=
  match iregFile (s.cpu k) num with
  | some g => let t := (coreFile s k g).top; t * 65536 + t
  | none => 0

/-- A known CSR as read; the registers whose values no rule states are not read here. -/
def csrValue (s : State) (k num : Nat) : Nat :=
  let c := s.cpu k
  let xl : Nat := 2 ^ 33
  match num with
  | 0x001 => c.csr csrFcsr % 32
  | 0x002 => c.csr csrFcsr / 32 % 8
  | 0x003 => c.csr csrFcsr
  | 0x300 => withSd (c.csr csrMstatus + xl + 2 ^ 35)
  | 0x100 => withSd ((c.csr csrMstatus &&& maskSstatus) + xl)
  | 0x200 => withSd (c.csr csrVsstatus + xl)
  | 0x600 => c.csr csrHstatus + xl
  | 0x301 => misaVal
  | 0x303 => c.mideleg
  | 0x104 => c.mie &&& c.mideleg &&& maskS
  | 0x204 => (c.mie &&& c.hideleg) / 2
  | 0x604 => c.mie &&& maskH
  | 0x344 => mipOf s k
  | 0x144 => mipOf s k &&& c.mideleg &&& maskS
  | 0x244 => (mipOf s k &&& c.hideleg) / 2
  | 0x644 => mipOf s k &&& maskH
  | 0x309 => c.csr csrMip &&& maskS
  | 0xE12 => hgeip s k
  | 0x151 | 0x251 | 0x351 => (iregRead s k num).getD 0
  | 0x15C | 0x25C => topei s k num
  | 0xFB0 => topi (firstIrq (pendM s k))
  | 0xDB0 => topi (firstIrq (pendS s k))
  | 0xEB0 => vstopi s k
  | 0xC02 => c.csr csrMinstret
  | 0xF14 => k
  | _ => c.csr num

/-- CSRs whose value no rule states: the counts of cycles and of time, and the identities of the implementation. -/
def csrFree (num : Nat) : Bool := [0xB00, 0xC00, 0xC01, 0xF11, 0xF12, 0xF13].contains num

/-- Read a known CSR. -/
def csrRead (s : State) (k num : Nat) : Nat × State :=
  if num = 0xB00 || num = 0xC00 || num = 0xC01 then (let (v, s) := s.takeFree; (v % 2 ^ 64, s))
  else if csrFree num then (Config.coreIdentity num % 2 ^ 64, s)
  else (csrValue s k num, s)

/-! ## May a CSR be accessed? -/

/-- Is the floating-point unit off? -/
def CoreSt.fpOff (c : CoreSt) : Bool :=
  decide (bitsOf (c.csr csrMstatus) 14 13 = 0) || (c.virt && decide (bitsOf (c.csr csrVsstatus) 14 13 = 0))

/-- A write of floating-point state makes FS dirty. -/
def CoreSt.fpDirty (c : CoreSt) : CoreSt :=
  let c := c.putCsr csrMstatus 13 2 3
  if c.virt then c.putCsr csrVsstatus 13 2 3 else c

def trapIllegal : Nat := 2
def trapVirtual : Nat := 22

/-- The exception of an access by a counter-enable register, for the user counters. -/
def counterGate (c : CoreSt) (num : Nat) : Option Nat :=
  let b := num - 0xC00
  if c.priv = 3 then none
  else if !c.csrBit csrMcounteren b then some trapIllegal
  else if c.virt then
    (if !c.csrBit csrHcounteren b || (c.priv = 0 && !c.csrBit csrScounteren b) then some trapVirtual else none)
  else if c.priv = 0 && !c.csrBit csrScounteren b then some trapIllegal
  else none

/-- The exception of an access to a register of a guest interrupt file or to an indirect register. -/
def iregGate (s : State) (k num : Nat) : Option Nat :=
  let c := s.cpu k
  let no := if c.virt then trapVirtual else trapIllegal
  if num = 0x25C then (if c.vgein.isSome then none else some no)
  else
    let i := iselOf c num
    if num = 0x251 && (decide (0x30 ≤ i) && decide (i < 0x40)) then some no
    else if num = 0x251 && c.vgein.isNone && (decide (0x70 ≤ i) && decide (i ≤ 0xFF)) then some no
    else if (iregRead s k num).isSome then none
    else some trapIllegal

/-- The exception that an access to a CSR raises, by number as the instruction has it. -/
def csrGate (s : State) (k num : Nat) (write : Bool) : Option Nat :=
  let c := s.cpu k
  let lvl := num / 256 % 4
  let ro := decide (num / 1024 = 3)
  let eff := c.csrName num
  if !csrKnown num || (write && ro) then some trapIllegal
  else if lvl = 3 && c.priv ≠ 3 then some trapIllegal
  else if c.virt && lvl = 2 then some trapVirtual
  else if c.virt && lvl = 1 && c.priv = 0 then some trapVirtual
  else if !c.virt && c.priv = 0 && lvl ≠ 0 then some trapIllegal
  else if lvl = 0 && num < 4 then (if c.fpOff then some trapIllegal else none)
  else if 0xC00 ≤ num && num < 0xC20 then counterGate c num
  else if c.virt && num = csrSatp && c.csrBit csrHstatus 20 then some trapVirtual
  else if !c.virt && c.priv = 1 && (num = csrSatp || num = csrHgatp) && c.csrBit csrMstatus 20 then some trapIllegal
  else if c.virt && (num = 0x104 || num = 0x144) && c.csrBit csrHvictl 30 then some trapVirtual
  else if eff = 0x151 || eff = 0x251 || eff = 0x351 || eff = 0x25C then iregGate s k eff
  else none

/-! ## Writing CSRs -/

/-- A page-table base register: one with a MODE that is not Bare, Sv39 or Sv48 is not written. -/
def atpWrite (c : CoreSt) (num v : Nat) : CoreSt :=
  let m := v / 2 ^ 60
  if m = 0 || m = 8 || m = 9 then c.setCsr num (if num = csrHgatp then v &&& 0xF3FFFFFFFFFFFFFC else v) else c

/-- Does a CSR's effect lie in the core's own registers? -/
def CoreSt.csrWrite (c : CoreSt) (num v : Nat) : CoreSt :=
  match num with
  | 0x001 => (c.setCsr csrFcsr (maskWrite (c.csr csrFcsr) 0x1F v)).fpDirty
  | 0x002 => (c.setCsr csrFcsr (maskWrite (c.csr csrFcsr) 0xE0 (v % 8 * 32))).fpDirty
  | 0x003 => (c.setCsr csrFcsr (v % 256)).fpDirty
  | 0x300 =>
    let old := c.csr csrMstatus
    let v := if bitsOf v 12 11 = 2 then putBits v 11 2 (bitsOf old 12 11) else v
    c.setCsr csrMstatus (maskWrite old maskMstatus v)
  | 0x100 => c.setCsr csrMstatus (maskWrite (c.csr csrMstatus) maskSstatus v)
  | 0x200 => c.setCsr csrVsstatus (maskWrite (c.csr csrVsstatus) maskSstatus v)
  | 0x600 =>
    let old := c.csr csrHstatus
    let g := bitsOf v 17 12
    c.setCsr csrHstatus (putBits (maskWrite old maskHstatus v) 12 6 (if g ≤ 7 then g else bitsOf old 17 12))
  | 0x104 => c.setCsr csrMie (maskWrite (c.csr csrMie) (c.mideleg &&& maskS) v)
  | 0x204 => c.setCsr csrMie (maskWrite (c.csr csrMie) c.hideleg (v * 2))
  | 0x604 => c.setCsr csrMie (maskWrite (c.csr csrMie) maskH v)
  | 0x344 => (c.setCsr csrMip (maskWrite (c.csr csrMip) maskS v)).setCsr csrHvip (maskWrite (c.csr csrHvip) 4 v)
  | 0x309 => c.setCsr csrMip (maskWrite (c.csr csrMip) maskS v)
  | 0x144 => c.setCsr csrMip (maskWrite (c.csr csrMip) (c.mideleg &&& 2) v)
  | 0x244 => c.setCsr csrHvip (maskWrite (c.csr csrHvip) (c.hideleg &&& 4) (v * 2))
  | 0x644 => c.setCsr csrHvip (maskWrite (c.csr csrHvip) 4 v)
  | 0x180 | 0x280 | 0x680 => atpWrite c num v
  | _ =>
    match csrPlain num with
    | some m => c.setCsr num (maskWrite (c.csr num) m v)
    | none => c

/-- Write a known CSR: a write of stopei claims the identity it shows. -/
def csrPut (s : State) (k num v : Nat) : State :=
  let c := s.cpu k
  if num = 0x15C || num = 0x25C then
    match iregFile c num with
    | some g => let f := coreFile s k g; setCoreFile s k g { f with pend := maskWrite f.pend (2 ^ f.top) 0 }
    | none => s
  else if num = 0x151 || num = 0x251 then
    let i := iselOf c num
    if 0x30 ≤ i && i < 0x40 then s
    else match iregFile c num with
      | some g => setCoreFile s k g (fileWrite (coreFile s k g) i v)
      | none => s
  else s.setCpu k (c.csrWrite num v)

/-! ## Traps -/

/-- An exception: its cause, its value, the guest physical address over 4, the transformed instruction, and whether the value is a guest virtual address. -/
structure CpuTrap where
  cause : Nat
  tval : Nat
  tval2 : Nat
  tinst : Nat
  gva : Bool
  deriving DecidableEq, Repr

/-- An exception with a value only. -/
def CpuTrap.plain (cause tval : Nat) : CpuTrap := { cause := cause, tval := tval, tval2 := 0, tinst := 0, gva := false }

/-- The address a trap goes to. -/
def trapTarget (tvec cause : Nat) (irq : Bool) : Nat := tvec / 4 * 4 + (if irq && tvec % 4 = 1 then 4 * cause else 0)

def trapCode (cause : Nat) (irq : Bool) : Nat := cause + if irq then 2 ^ 63 else 0

/-- A trap into M mode. -/
def CoreSt.trapM (c : CoreSt) (t : CpuTrap) (irq : Bool) : CoreSt :=
  let st := c.csr csrMstatus
  let st := putBits (putBits (putBits st 7 1 (bitsOf st 3 3)) 3 1 0) 11 2 c.priv
  let st := putBits (putBits st 39 1 (ofBit c.virt)) 38 1 (ofBit t.gva)
  let c := (((c.setCsr csrMstatus st).setCsr 0x341 c.pc.toNat).setCsr 0x342 (trapCode t.cause irq)).setCsr 0x343 t.tval
  let c := (c.setCsr 0x34B t.tval2).setCsr 0x34A t.tinst
  { c with priv := 3, virt := false, wfi := false, pc := BitVec.ofNat 64 (trapTarget (c.csr csrMtvec) t.cause irq) }

/-- A trap into HS mode. -/
def CoreSt.trapS (c : CoreSt) (t : CpuTrap) (irq : Bool) : CoreSt :=
  let st := c.csr csrMstatus
  let st := putBits (putBits (putBits st 5 1 (bitsOf st 1 1)) 1 1 0) 8 1 c.priv
  let h := c.csr csrHstatus
  let h := putBits (putBits h 7 1 (ofBit c.virt)) 6 1 (ofBit t.gva)
  let h := if c.virt then putBits h 8 1 c.priv else h
  let c := ((c.setCsr csrMstatus st).setCsr csrHstatus h).setCsr 0x141 c.pc.toNat
  let c := (((c.setCsr 0x142 (trapCode t.cause irq)).setCsr 0x143 t.tval).setCsr 0x643 t.tval2).setCsr 0x64A t.tinst
  { c with priv := 1, virt := false, wfi := false, pc := BitVec.ofNat 64 (trapTarget (c.csr 0x105) t.cause irq) }

/-- A trap into VS mode. -/
def CoreSt.trapVs (c : CoreSt) (t : CpuTrap) (irq : Bool) : CoreSt :=
  let st := c.csr csrVsstatus
  let st := putBits (putBits (putBits st 5 1 (bitsOf st 1 1)) 1 1 0) 8 1 c.priv
  let c := ((c.setCsr csrVsstatus st).setCsr 0x241 c.pc.toNat).setCsr 0x242 (trapCode t.cause irq)
  let c := c.setCsr 0x243 t.tval
  { c with priv := 1, virt := true, wfi := false, pc := BitVec.ofNat 64 (trapTarget (c.csr 0x205) t.cause irq) }

/-- An exception is taken at the level that the delegation registers give. -/
def CoreSt.except (c : CoreSt) (t : CpuTrap) : CoreSt :=
  if c.priv = 3 || !c.csrBit csrMedeleg t.cause then c.trapM t false
  else if c.virt && c.csrBit csrHedeleg t.cause then c.trapVs t false
  else c.trapS t false

/-- The interrupt that a core takes now, as its trap: M level, then HS level, then VS level. -/
def coreIrq (s : State) (k : Nat) : Option CoreSt :=
  let c := s.cpu k
  let t (i : Nat) : CpuTrap := CpuTrap.plain i 0
  match (if c.priv < 3 || c.csrBit csrMstatus 3 then firstIrq (pendM s k) else none) with
  | some i => some (c.trapM (t i) true)
  | none =>
    match (if c.virt || c.priv = 0 || (c.priv = 1 && c.csrBit csrMstatus 1) then firstIrq (pendS s k) else none) with
    | some i => some (c.trapS (t i) true)
    | none =>
      if c.virt && (c.priv = 0 || c.csrBit csrVsstatus 1) then
        match vsTop s k with
        | some (i, _) => some (c.trapVs (t i) true)
        | none => none
      else none

/-- Does an interrupt end a WFI: one pending and enabled at any level, whatever the global enables? -/
def irqWakes (s : State) (k : Nat) : Bool := decide (mipOf s k &&& (s.cpu k).mie ≠ 0) || (vsTop s k).isSome

/-- The tag of PART_CPU_k_CUR comes into force at a trap return (R422). -/
def State.curTag (s : State) (k : Nat) : Nat := s.fld (F.PART_CPU_CUR_GUEST.el k)

/-- MRET. -/
def CoreSt.mret (c : CoreSt) (tag : Nat) : CoreSt :=
  let st := c.csr csrMstatus
  let mpp := bitsOf st 12 11
  let v := bitOf st 39 && decide (mpp ≠ 3)
  let st := putBits (putBits (putBits (putBits st 3 1 (bitsOf st 7 7)) 7 1 1) 11 2 0) 39 1 0
  let st := if mpp = 3 then st else putBits st 17 1 0
  { c.setCsr csrMstatus st with priv := mpp, virt := v, tag := tag, pc := BitVec.ofNat 64 (c.csr 0x341) }

/-- SRET with V = 0. -/
def CoreSt.sretHs (c : CoreSt) (tag : Nat) : CoreSt :=
  let st := c.csr csrMstatus
  let st' := putBits (putBits (putBits (putBits st 1 1 (bitsOf st 5 5)) 5 1 1) 8 1 0) 17 1 0
  let h := c.csr csrHstatus
  let c' := (c.setCsr csrMstatus st').setCsr csrHstatus (putBits h 7 1 0)
  { c' with priv := bitsOf st 8 8, virt := bitOf h 7, tag := tag, pc := BitVec.ofNat 64 (c.csr 0x141) }

/-- SRET with V = 1. -/
def CoreSt.sretVs (c : CoreSt) (tag : Nat) : CoreSt :=
  let st := c.csr csrVsstatus
  let st' := putBits (putBits (putBits st 1 1 (bitsOf st 5 5)) 5 1 1) 8 1 0
  { c.setCsr csrVsstatus st' with priv := bitsOf st 8 8, tag := tag, pc := BitVec.ofNat 64 (c.csr 0x241) }

end Sys2Proof.Machine
end

