-- ==== Sys2Proof/Machine/CpuMem.lean ====
section
/-! DEFINITION. The memory accesses of the application cores: translation through both stages (R419), the transactions on the fabric (R421, R422), and the exceptions of
an access, a bus error among them (R486). -/

namespace Sys2Proof.Machine

/-- An access as a core makes it: its kind, the privilege and V that it is made with, and whether a load needs execute permission in place of read (HLVX). -/
structure CpuAcc where
  kind : AccKind
  priv : Nat
  virt : Bool
  hlvx : Bool
  deriving DecidableEq, Repr

/-- The causes of an access: access fault, page fault and guest page fault. -/
def AccKind.causes : AccKind → Nat × Nat × Nat
  | .fetch => (1, 12, 20)
  | .read => (5, 13, 21)
  | .write => (7, 15, 23)

/-- What an access or a translation gives. -/
inductive CpuRes (α : Type) where
  | ok (v : α)
  | trap (t : CpuTrap)

/-- The fetches of a core. -/
def CoreSt.fetchAcc (c : CoreSt) : CpuAcc := { kind := .fetch, priv := c.priv, virt := c.virt, hlvx := false }

/-- The loads and stores of a core: with mstatus.MPRV they are made as MPP and MPV say. -/
def CoreSt.dataAcc (c : CoreSt) (kind : AccKind) : CpuAcc :=
  let st := c.csr csrMstatus
  if c.priv = 3 && bitOf st 17 then
    let mpp := bitsOf st 12 11
    { kind := kind, priv := mpp, virt := bitOf st 39 && decide (mpp ≠ 3), hlvx := false }
  else { kind := kind, priv := c.priv, virt := c.virt, hlvx := false }

/-- Does a first-stage leaf grant an access? -/
def leafGrants (c : CoreSt) (a : CpuAcc) (p : Nat) : Bool :=
  let st := if a.virt then c.csr csrVsstatus else c.csr csrMstatus
  let sum := bitOf st 18
  let mxr := bitOf (c.csr csrMstatus) 19 || bitOf st 19
  let user := if a.priv = 0 then pteU p else !pteU p || (sum && decide (a.kind ≠ .fetch))
  user && (if a.hlvx then pteA p && pteX p else pteGrants a.kind mxr p)

/-- Does a G-stage leaf grant an access? -/
def gLeafGrants (c : CoreSt) (a : CpuAcc) (p : Nat) : Bool :=
  pteU p && (if a.hlvx then pteA p && pteX p else pteGrants a.kind (c.csrBit csrMstatus 19) p)

/-- The G-stage: guest physical to physical. -/
def cpuGstage (c : CoreSt) (leaf : Nat → Bool) (gpa : Nat) (s : State) : WalkRes × State :=
  match pageCfg (c.csr csrHgatp / 2 ^ 60) true with
  | none => (.ok gpa, s)
  | some g => walk (readPte initCore c.txTag) leaf g (c.csr csrHgatp % 2 ^ 44) gpa s

/-- A read of a VS-stage entry, itself through the G-stage. -/
def cpuGuestPte (c : CoreSt) (s : State) (gpa : Nat) : PteRes × State :=
  match cpuGstage c (fun p => pteU p && pteGrants .read false p) gpa s with
  | (.ok pa, s) => readPte initCore c.txTag s pa
  | (.access, s) => (.access, s)
  | (_, s) => (.guest gpa, s)

/-- Translate an address of core `k`. -/
def cpuTranslate (s : State) (k : Nat) (a : CpuAcc) (va : Nat) : CpuRes Nat × State :=
  let c := s.cpu k
  let (af, pf, gf) := a.kind.causes
  let trap (cause gpa tinst : Nat) : CpuRes Nat := .trap { cause := cause, tval := va, tval2 := gpa / 4, tinst := tinst, gva := a.virt }
  if a.priv = 3 then (.ok va, s)
  else if !a.virt then
    match pageCfg (c.csr csrSatp / 2 ^ 60) false with
    | none => (.ok va, s)
    | some g =>
      match walk (readPte initCore c.txTag) (leafGrants c a) g (c.csr csrSatp % 2 ^ 44) va s with
      | (.ok pa, s) => (.ok pa, s)
      | (.access, s) => (trap af 0 0, s)
      | (_, s) => (trap pf 0 0, s)
  else
    let first : WalkRes × State :=
      match pageCfg (c.csr csrVsatp / 2 ^ 60) false with
      | none => (.ok va, s)
      | some g => walk (cpuGuestPte c) (leafGrants c a) g (c.csr csrVsatp % 2 ^ 44) va s
    match first with
    | (.page, s) => (trap pf 0 0, s)
    | (.access, s) => (trap af 0 0, s)
    | (.guest g, s) => (trap gf g 0x3000, s)
    | (.ok gpa, s) =>
      match cpuGstage c (gLeafGrants c a) gpa s with
      | (.ok pa, s) => (.ok pa, s)
      | (.access, s) => (trap af 0 0, s)
      | (_, s) => (trap gf gpa 0, s)

/-- The part of an access of `n` octets that lies in its first page. -/
def firstPart (va n : Nat) : Nat := min n (4096 - va % 4096)

/-- The physical addresses of the one or two parts of an access, each with its length. -/
def cpuPlaces (s : State) (k : Nat) (a : CpuAcc) (va n : Nat) : CpuRes (List (Nat × Nat)) × State :=
  let m := firstPart va n
  match cpuTranslate s k a (va % 2 ^ 64) with
  | (.trap t, s) => (.trap t, s)
  | (.ok pa, s) =>
    if m = n then (.ok [(pa, n)], s)
    else match cpuTranslate s k a ((va + m) % 2 ^ 64) with
      | (.trap t, s) => (.trap t, s)
      | (.ok pb, s) => (.ok [(pa, m), (pb, n - m)], s)

/-- An access fault of an access. -/
def accFault (a : CpuAcc) (va : Nat) : CpuTrap := { CpuTrap.plain a.kind.causes.1 (va % 2 ^ 64) with gva := a.virt }

/-- Does a part lie in the 36-bit physical address space? -/
def inSpace (p : Nat × Nat) : Bool := decide (p.1 + p.2 ≤ 2 ^ 36)

/-- Read the parts of an access. -/
def cpuReadParts (s : State) (tag kind : Nat) : List (Nat × Nat) → Option (List Nat) × State
  | [] => (some [], s)
  | p :: ps =>
    if !inSpace p then (none, s)
    else match fabRead s initCore tag kind p.1 p.2 with
      | (none, s) => (none, s)
      | (some l, s) =>
        match cpuReadParts s tag kind ps with
        | (none, s) => (none, s)
        | (some m, s) => (some (l ++ m), s)

/-- Write the parts of an access. -/
def cpuWriteParts (s : State) (tag : Nat) (l : List Nat) : List (Nat × Nat) → Bool × State
  | [] => (true, s)
  | p :: ps =>
    if !inSpace p then (false, s)
    else match fabWrite s initCore tag p.1 (l.take p.2) with
      | (false, s) => (false, s)
      | (true, s) => cpuWriteParts s tag (l.drop p.2) ps

/-- A fetch or a load of `n` octets. -/
def cpuLoad (s : State) (k : Nat) (a : CpuAcc) (va n : Nat) : CpuRes (List Nat) × State :=
  match cpuPlaces s k a va n with
  | (.trap t, s) => (.trap t, s)
  | (.ok ps, s) =>
    match cpuReadParts s (s.cpu k).txTag (if a.kind = .fetch then kindFetch else kindRead) ps with
    | (none, s) => (.trap (accFault a va), s)
    | (some l, s) => (.ok l, s)

/-- A store: the exception it raises, if any. -/
def cpuStore (s : State) (k : Nat) (a : CpuAcc) (va : Nat) (l : List Nat) : CpuRes Unit × State :=
  match cpuPlaces s k a va l.length with
  | (.trap t, s) => (.trap t, s)
  | (.ok ps, s) =>
    match cpuWriteParts s (s.cpu k).txTag l ps with
    | (false, s) => (.trap (accFault a va), s)
    | (true, s) => (.ok (), s)

/-! ## Atomics -/

/-- The octets about an address that a reservation covers. -/
def resvSize : Nat := 64

/-- The result of an atomic operation on operands of `w` bits. -/
def amoEval (w f5 old v : Nat) : Nat :=
  match f5 with
  | 0 => (old + v) % 2 ^ w
  | 1 => v
  | 4 => old ^^^ v
  | 0xC => old &&& v
  | 8 => old ||| v
  | 0x10 => if signed w old < signed w v then old else v
  | 0x14 => if signed w old < signed w v then v else old
  | 0x18 => if old < v then old else v
  | _ => if old < v then v else old

end Sys2Proof.Machine
end

