-- ==== Sys2Proof/Machine/Cpu.lean ====
section
/-! DEFINITION. What an application core executes (R419): fetching, the instructions of RV64GC and of the H extension with their exceptions, interrupts, and the errors
of the caches (R420). -/

namespace Sys2Proof.Machine

/-- The state of a core after an instruction that goes on at `next`. -/
def cpuRetire (s : State) (k next : Nat) (f : CoreSt → CoreSt) : State :=
  if s.clk.held then s
  else
    let c := f (s.cpu k)
    let c := if c.csrBit csrMcountinhibit 2 then c else c.setCsr csrMinstret (c.csr csrMinstret + 1)
    s.setCpu k { c with pc := BitVec.ofNat 64 next }

/-- An instruction that has set the PC itself, as a trap return does, retires. -/
def cpuReturn (s : State) (k : Nat) (f : CoreSt → CoreSt) : State :=
  let c := f (s.cpu k)
  cpuRetire s k c.pc.toNat f

/-- An exception of the instruction of core `k`. -/
def cpuTrap (s : State) (k : Nat) (t : CpuTrap) : State := if s.clk.held then s else s.setCpu k ((s.cpu k).except t)

/-- The value of an f register as binary32: one that is not NaN-boxed is the quiet NaN. -/
def unboxed (v : Nat) : Nat := if v / 2 ^ 32 = 2 ^ 32 - 1 then v % 2 ^ 32 else fp32.qnan

/-- A binary32 value as an f register holds it. -/
def boxed (v : Nat) : Nat := (2 ^ 32 - 1) * 2 ^ 32 + v % 2 ^ 32

/-- An f register as an operand, and a result as an f register holds it. -/
def CoreSt.fpIn (c : CoreSt) (dbl : Bool) (r : Nat) : Nat := if dbl then c.getF r else unboxed (c.getF r)
def fpOut (dbl : Bool) (v : Nat) : Nat := if dbl then v % 2 ^ 64 else boxed v

/-- Exception flags accrue. -/
def CoreSt.accrue (c : CoreSt) (fl : Nat) : CoreSt := c.setCsr csrFcsr (c.csr csrFcsr ||| fl)

/-- A floating-point result with its flags. -/
def CoreSt.fpDone (c : CoreSt) (dbl : Bool) (rd : Nat) (r : Nat × Nat) : CoreSt :=
  ((c.setF rd (fpOut dbl r.1)).accrue r.2).fpDirty

/-- An integer result of a floating-point operation, with its flags. -/
def CoreSt.fpInt (c : CoreSt) (rd : Nat) (r : Nat × Nat) : CoreSt :=
  let c := c.setX rd r.1
  if r.2 = 0 then c else (c.accrue r.2).fpDirty

/-- A value of 32 bits sign-extended. -/
def sext32 (v : Nat) : Nat := unsigned 64 (signed 32 v)

/-- The floating-point operations on one or two operands; `r` is the rounding mode, or the selector of one that does not round. -/
def CoreSt.fpOp (c : CoreSt) (fo : RvFop) (dbl : Bool) (r rd a b : Nat) : CoreSt :=
  let f := fmtOf dbl
  let x := c.fpIn dbl a
  match fo with
  | .cmp => c.fpInt rd (f.compare r x (c.fpIn dbl b))
  | .classify => c.fpInt rd (f.classify x, 0)
  | .mvToX => c.setX rd (if dbl then c.getF a else sext32 (c.getF a))
  | .mvFromX => (c.setF rd (fpOut dbl (c.getX a))).fpDirty
  | .toInt w sgn =>
    let (v, fl) := f.toInt r w sgn x
    c.fpInt rd (if w = 32 then sext32 v else v, fl)
  | .ofInt w sgn => c.fpDone dbl rd (f.ofInt r (if sgn then signed w (c.getX a) else ((c.getX a % 2 ^ w : Nat) : Int)))
  | .cvt => c.fpDone dbl rd (fpConvert (fmtOf (!dbl)) f r (c.fpIn (!dbl) a))
  | _ => c.fpDone dbl rd (fopEval f fo r x (c.fpIn dbl b))

/-- A load into a register: the exception, or the register written by `f` from the octets. -/
def cpuLoadTo (s : State) (k next : Nat) (a : CpuAcc) (ue : Bool) (va n : Nat) (f : List Nat → CoreSt → CoreSt) : State :=
  if ue then cpuTrap s k (accFault a va)
  else match cpuLoad s k a va n with
    | (.trap t, s) => cpuTrap s k t
    | (.ok l, s) => cpuRetire s k next (f l)

/-- A store. -/
def cpuStoreFrom (s : State) (k next : Nat) (a : CpuAcc) (va n v : Nat) : State :=
  match cpuStore s k a va (octetsLE n v) with
  | (.trap t, s) => cpuTrap s k t
  | (.ok (), s) => cpuRetire s k next id

/-- Translate the address of an atomic: naturally aligned, and in LPDDR5X. -/
def amoPlace (s : State) (k : Nat) (a : CpuAcc) (va n : Nat) : CpuRes Nat × State :=
  if va % n ≠ 0 then (.trap { CpuTrap.plain (a.kind.causes.1 - 1) va with gva := a.virt }, s)
  else match cpuTranslate s k a va with
    | (.trap t, s) => (.trap t, s)
    | (.ok pa, s) => if regionOf s pa = .lpddr && inSpace (pa, n) then (.ok pa, s) else (.trap (accFault a va), s)

/-- A value loaded by an atomic, sign-extended. -/
def amoLoaded (n v : Nat) : Nat := unsigned 64 (signed (8 * n) v)

/-- LR. -/
def cpuLr (s : State) (k next : Nat) (ue : Bool) (rd va n : Nat) : State :=
  let a := (s.cpu k).dataAcc .read
  match amoPlace s k a va n with
  | (.trap t, s) => cpuTrap s k t
  | (.ok pa, s) =>
    if ue then cpuTrap s k (accFault a va)
    else match fabRead s initCore (s.cpu k).txTag kindRead pa n with
      | (none, s) => cpuTrap s k (accFault a va)
      | (some l, s) => cpuRetire s k next fun c => { c.setX rd (amoLoaded n (ofOctetsLE l)) with resv := some (pa, n) }

/-- SC: it stores where the core holds a reservation of these octets, and ends the reservation in either case. -/
def cpuSc (s : State) (k next rd va n v : Nat) : State :=
  let a := (s.cpu k).dataAcc .write
  match amoPlace s k a va n with
  | (.trap t, s) => cpuTrap s k t
  | (.ok pa, s) =>
    if (s.cpu k).resv = some (pa, n) then
      match fabWrite s initCore (s.cpu k).txTag pa (octetsLE n v) with
      | (false, s) => cpuTrap s k (accFault a va)
      | (true, s) => cpuRetire s k next fun c => { c.setX rd 0 with resv := none }
    else cpuRetire s k next fun c => { c.setX rd 1 with resv := none }

/-- An AMO. -/
def cpuAmo (s : State) (k next : Nat) (ue : Bool) (f5 rd va n v : Nat) : State :=
  let a := (s.cpu k).dataAcc .write
  match amoPlace s k a va n with
  | (.trap t, s) => cpuTrap s k t
  | (.ok pa, s) =>
    if ue then cpuTrap s k (accFault a va)
    else match fabRead s initCore (s.cpu k).txTag kindRead pa n with
      | (none, s) => cpuTrap s k (accFault a va)
      | (some l, s) =>
        let old := ofOctetsLE l
        match fabWrite s initCore (s.cpu k).txTag pa (octetsLE n (amoEval (8 * n) f5 old (v % 2 ^ (8 * n)))) with
        | (false, s) => cpuTrap s k (accFault a va)
        | (true, s) => cpuRetire s k next fun c => c.setX rd (amoLoaded n old)

/-- The privilege and V of HLV, HLVX and HSV: VS or VU as hstatus.SPVP says. -/
def CoreSt.guestAcc (c : CoreSt) (kind : AccKind) (hlvx : Bool) : CpuAcc :=
  { kind := kind, priv := bitsOf (c.csr csrHstatus) 8 8, virt := true, hlvx := hlvx }

/-- The exception of an instruction for hypervisors: with V = 1, and in U mode where `u` is false. -/
def hypGate (c : CoreSt) (u : Bool) : Option Nat :=
  if c.virt then some trapVirtual else if c.priv = 0 && !u then some trapIllegal else none

/-- The exception of SRET, of WFI and of SFENCE.VMA. -/
def sretGate (c : CoreSt) : Option Nat :=
  if c.virt then (if c.priv = 0 || c.csrBit csrHstatus 22 then some trapVirtual else none)
  else if c.priv = 0 || (c.priv = 1 && c.csrBit csrMstatus 22) then some trapIllegal
  else none

def wfiGate (c : CoreSt) : Option Nat :=
  if c.priv < 3 && c.csrBit csrMstatus 21 then some trapIllegal
  else if c.virt then (if c.priv = 0 || c.csrBit csrHstatus 21 then some trapVirtual else none)
  else if c.priv = 0 then some trapIllegal
  else none

def sfenceGate (c : CoreSt) : Option Nat :=
  if c.virt then (if c.priv = 0 || c.csrBit csrHstatus 20 then some trapVirtual else none)
  else if c.priv = 0 || (c.priv = 1 && c.csrBit csrMstatus 20) then some trapIllegal
  else none

/-- The cause of ECALL: from U, from HS, from VS and from M. -/
def ecallCause (c : CoreSt) : Nat := if c.priv = 0 then 8 else if c.priv = 3 then 11 else if c.virt then 10 else 9

/-- A CSR instruction. -/
def cpuCsr (s : State) (k next iw f3 rd rs1 num : Nat) : State :=
  let c := s.cpu k
  let write := decide (f3 % 4 = 1) || decide (rs1 ≠ 0)
  match csrGate s k num write with
  | some cause => cpuTrap s k (CpuTrap.plain cause iw)
  | none =>
    let n := c.csrName num
    let src := if f3 < 4 then c.getX rs1 else rs1
    let (old, s) := csrRead s k n
    let base := if n = csrMip then maskWrite old maskS (c.csr csrMip) else old
    let s := match csrNew f3 rs1 src base with
      | some v => csrPut s k n v
      | none => s
    cpuRetire s k next fun c => c.setX rd old

/-- Execute a decoded instruction of `len` octets at the PC of core `k`; `ue` says that its load meets an uncorrectable error in a cache. -/
def cpuExec (s : State) (k len iw : Nat) (op : RvOp) (ue : Bool) : State :=
  let c := s.cpu k
  let pc := c.pc.toNat
  let next := (pc + len) % 2 ^ 64
  let done (f : CoreSt → CoreSt) : State := cpuRetire s k next f
  let raise (cause : Nat) : State := cpuTrap s k (CpuTrap.plain cause iw)
  let gated (g : Option Nat) (t : State) : State := match g with | some cause => raise cause | none => t
  let ea (rs1 : Nat) (off : Int) : Nat := unsigned 64 ((c.getX rs1 : Int) + off)
  let fp (t : State) : State := if c.fpOff then raise trapIllegal else t
  let rmOf (rm : Nat) : Option Nat := roundMode rm (c.csr csrFcsr / 32 % 8)
  match op with
  | .lui rd imm => done fun c => c.setX rd (unsigned 64 imm)
  | .auipc rd imm => done fun c => c.setX rd (unsigned 64 (pc + imm))
  | .jal rd off => cpuRetire s k (unsigned 64 (pc + off)) fun c => c.setX rd next
  | .jalr rd rs1 off => cpuRetire s k (ea rs1 off / 2 * 2) fun c => c.setX rd next
  | .branch f3 a b off => cpuRetire s k (if branchTaken 64 f3 (c.getX a) (c.getX b) then unsigned 64 (pc + off) else next) id
  | .load f3 rd rs1 off => cpuLoadTo s k next (c.dataAcc .read) ue (ea rs1 off) (2 ^ (f3 % 4)) fun l c => c.setX rd (loadValue 64 f3 l)
  | .store f3 rs1 rs2 off => cpuStoreFrom s k next (c.dataAcc .write) (ea rs1 off) (2 ^ f3) (c.getX rs2)
  | .alu op word rd a b => done fun c => c.setX rd (aluResult 64 op word (c.getX a) (c.getX b))
  | .aluImm op word rd a imm => done fun c => c.setX rd (aluResult 64 op word (c.getX a) (unsigned 64 imm))
  | .fence => done id
  | .fenceI => done id
  | .ecall => cpuTrap s k (CpuTrap.plain (ecallCause c) 0)
  | .ebreak => cpuTrap s k { CpuTrap.plain 3 pc with gva := c.virt }
  | .csr f3 rd rs1 num => cpuCsr s k next iw f3 rd rs1 num
  | .amo f5 dbl rd rs1 rs2 =>
    let n := if dbl then 8 else 4
    let va := c.getX rs1
    if f5 = 2 then cpuLr s k next ue rd va n
    else if f5 = 3 then cpuSc s k next rd va n (c.getX rs2)
    else cpuAmo s k next ue f5 rd va n (c.getX rs2)
  | .fload dbl rd rs1 off =>
    fp (cpuLoadTo s k next (c.dataAcc .read) ue (ea rs1 off) (if dbl then 8 else 4) fun l c => (c.setF rd (fpOut dbl (ofOctetsLE l))).fpDirty)
  | .fstore dbl rs1 rs2 off => fp (cpuStoreFrom s k next (c.dataAcc .write) (ea rs1 off) (if dbl then 8 else 4) (c.getF rs2))
  | .fma dbl kind rm rd a b d =>
    fp (match rmOf rm with
      | none => raise trapIllegal
      | some r => done fun c => c.fpDone dbl rd (fmaEval (fmtOf dbl) kind r (c.fpIn dbl a) (c.fpIn dbl b) (c.fpIn dbl d)))
  | .fop fo dbl rm rd a b =>
    fp (match (if fo.rounds then rmOf rm else some rm) with
      | none => raise trapIllegal
      | some r => done fun c => c.fpOp fo dbl r rd a b)
  | .px _ _ _ _ _ => raise trapIllegal
  | .mret => if c.priv = 3 then cpuReturn s k fun c => c.mret (s.curTag k) else raise trapIllegal
  | .sret => gated (sretGate c) (cpuReturn s k fun c => if c.virt then c.sretVs (s.curTag k) else c.sretHs (s.curTag k))
  | .wfi => gated (wfiGate c) (done fun c => { c with wfi := true })
  | .sfenceVma _ _ => gated (sfenceGate c) (done id)
  | .hfenceV _ _ => gated (hypGate c false) (done id)
  | .hfenceG _ _ => gated (hypGate c false) (if c.priv = 1 && c.csrBit csrMstatus 20 then raise trapIllegal else done id)
  | .hload f7 sel rd rs1 =>
    let n := 2 ^ ((f7 - 0x30) / 2)
    gated (hypGate c (c.csrBit csrHstatus 9))
      (cpuLoadTo s k next (c.guestAcc .read (decide (sel = 3))) ue (c.getX rs1) n fun l c =>
        c.setX rd (if sel = 0 then amoLoaded n (ofOctetsLE l) else ofOctetsLE l))
  | .hstore f7 rs1 rs2 =>
    gated (hypGate c (c.csrBit csrHstatus 9)) (cpuStoreFrom s k next (c.guestAcc .write false) (c.getX rs1) (2 ^ ((f7 - 0x30) / 2)) (c.getX rs2))
  | .illegal => raise trapIllegal

/-- Fetch and execute the instruction at the PC of core `k`; `ue` is 1 where the fetch, and 2 where the load, meets an uncorrectable error in a cache (R419). -/
def cpuFetch (s : State) (k ue : Nat) : State :=
  let c := s.cpu k
  let a := c.fetchAcc
  let pc := c.pc.toNat
  let pc2 := (pc + 2) % 2 ^ 64
  if ue = 1 then cpuTrap s k (accFault a pc)
  else match cpuLoad s k a pc 2 with
    | (.trap t, s) => cpuTrap s k t
    | (.ok l, s) =>
      let lo := ofOctetsLE l
      if lo % 4 ≠ 3 then cpuExec s k 2 lo (decode16 .core lo) (decide (ue = 2))
      else match cpuLoad s k a pc2 2 with
        | (.trap t, s) => cpuTrap s k t
        | (.ok h, s) =>
          let w := lo + ofOctetsLE h * 2 ^ 16
          cpuExec s k 4 w (decode32 .core w) (decide (ue = 2))

/-- Does core `k` execute: released, its PLL locked (R502), and not halted by debug? -/
def cpuRuns (s : State) (k : Nat) : Bool :=
  decide (k < 8) && (s.cpu k).run && s.fbit F.CLK_STAT_LOCKED 0 && !bitOf s.core.jtagHalt k

/-- One instruction of core `k`: an interrupt is taken first; a core that waits in WFI waits on while none is pending. -/
def cpuStep (s : State) (k ue : Nat) : State :=
  if !cpuRuns s k then s
  else match coreIrq s k with
    | some c => s.setCpu k c
    | none =>
      if (s.cpu k).wfi then
        (if irqWakes s k then cpuFetch (s.setCpu k { s.cpu k with wfi := false }) k ue else s)
      else cpuFetch s k ue

/-- CORE_INSTRUCTION: before the instruction, the lines with uncorrectable errors of `evict`, each as the core or 0xFF for the L3 and the address, are written
back (R420). -/
def coreInstruction (s : State) (k ue : Nat) (evict : List (Nat × Nat)) : State :=
  cpuStep (evict.foldl (fun s e => lineWriteback s e.1 e.2) s) k ue

def execCoreInstruction (k ue : Nat) (evict : List (Nat × Nat)) (s : State) : Host.Outcome State Fault Refusal :=
  .next (s.live fun s => coreInstruction s k ue evict)

end Sys2Proof.Machine
end

