-- ==== Sys2Proof/Machine/Jtag.lean ====
section
/-! DEFINITION. What JTAG does, as the lifecycle state permits (R441 for the TAP, the cores and the fabric, R218 for the lanes). -/

namespace Sys2Proof.Machine

/-! The instructions of the TAP, by the model's own numbers. -/

def tapBypass : Nat := 0
def tapIdcode : Nat := 1
def tapPreload : Nat := 2
def tapExtest : Nat := 3
def tapIntest : Nat := 4

/-- What an operation shifts out. -/
def State.jtagShift (s : State) (l : List Nat) : State := { s with core := { s.core with jtagOut := l } }

/-- The TAP's instruction register. -/
def State.jtagInstr (s : State) (ir : Nat) : State := { s with core := { s.core with jtagIr := ir } }

/-- A scan of the boundary register: the levels at the balls, which no rule states, are shifted out, and the new ones are kept. -/
def boundaryScan (s : State) (ir : Nat) (levels : List (Nat × Bool)) : State :=
  let (v, s) := s.takeFree
  { s.jtagShift [v] with core := { (s.jtagShift [v]).core with jtagIr := ir, jtagBsr := levels } }

/-- MANUFACTURE and DEVELOP permit the debug of cores and lanes and fabric access. -/
def debugOpen (s : State) : Bool := !s.clk.held && decide (s.keys.lifecycle ≤ lcDevelop)

/-- What is done where debug is permitted. -/
def whenDebug (s : State) (t : State) : State := if debugOpen s then t else s

/-! ## Application cores -/

/-- Is a core halted by debug? -/
def coreHalted (s : State) (k : Nat) : Bool := decide (k < 8) && bitOf s.core.jtagHalt k

/-- A core is halted, or goes on. -/
def setHalt (s : State) (k : Nat) (b : Bool) : State :=
  if 8 ≤ k then s else { s with core := { s.core with jtagHalt := putBits s.core.jtagHalt k 1 (ofBit b) } }

/-- A register of a halted core is read. -/
def jtagCoreRead (s : State) (k r : Nat) : State :=
  let c := s.cpu k
  if r < 32 then s.jtagShift [c.getX r]
  else if r < 64 then s.jtagShift [c.getF (r - 32)]
  else if r = 64 then s.jtagShift [c.pc.toNat]
  else if 0x1000 ≤ r && csrKnown (r - 0x1000) then
    let x := csrRead s k (r - 0x1000)
    x.2.jtagShift [x.1]
  else s

/-- A register of a halted core is written. -/
def jtagCoreWrite (s : State) (k r v : Nat) : State :=
  let c := s.cpu k
  if r < 32 then s.setCpu k (c.setX r v)
  else if r < 64 then s.setCpu k (c.setF (r - 32) v)
  else if r = 64 then s.setCpu k { c with pc := BitVec.ofNat 64 (v / 2 * 2) }
  else if 0x1000 ≤ r && csrKnown (r - 0x1000) && (r - 0x1000) / 1024 ≠ 3 then csrPut s k (r - 0x1000) v
  else s

/-- What a read by JTAG shifts out: nothing where it ends in a bus error. -/
def jtagGot (x : Option (List Nat) × State) : State := x.2.jtagShift (x.1.getD [])

/-! ## Lanes (R218) -/

/-- May JTAG access the memories of a table: always in MANUFACTURE, in DEVELOP while no pair runs the table? -/
def laneMemOpen (s : State) (t : Nat) : Bool :=
  !s.clk.held && (decide (s.keys.lifecycle = lcManufacture) || (decide (s.keys.lifecycle = lcDevelop) && (pairOfTable s t).isNone))

/-- The table whose memories hold `n` octets from an address on. -/
def laneAt (s : State) (a n : Nat) : Option Nat :=
  match oneRegion s a n with
  | .lane t => if n = 0 then none else some t
  | _ => none

/-- JTAG reads lane memory; octets of a word with a double-bit error read as no rule states. -/
def jtagLaneRead (s : State) (a n : Nat) : State :=
  match laneAt s a n with
  | none => s
  | some t =>
    if !laneMemOpen s t then s
    else
      let bad := laneUe s a n
      let s := laneCeCount s t (laneCe s a n)
      if bad = 0 then s.jtagShift (s.memBytes a n)
      else
        let (v, s) := (laneUeCount s t bad).takeFree
        s.jtagShift (octetsLE n v)

/-- JTAG writes lane memory: a write within a partition's measured ranges clears its IMAGE_OK and SETTINGS_OK (R462). -/
def jtagLaneWrite (s : State) (a : Nat) (l : List Nat) : State :=
  match laneAt s a l.length with
  | none => s
  | some t => if laneMemOpen s t then clearMeasured (laneMemWrite s a l) t (a % 0x100000) l.length else s

/-- What is read of a halted pair. -/
def whenHalted (s : State) (n : Nat) (t : State) : State :=
  if decide (n < lanePairs) && (s.pair n).halted then whenDebug s t else s

/-- A register of a pair. -/
def jtagLaneReg (s : State) (n r : Nat) : State :=
  let c := s.pair n
  if r < 32 then s.jtagShift [c.getX r]
  else if r < 64 then s.jtagShift [c.getF (r - 32)]
  else if r = 64 then s.jtagShift [c.pc.toNat]
  else if r = 65 then s.jtagShift [c.fcsr]
  else s

/-- A word of a pair's snapshot view. -/
def jtagLaneView (s : State) (n off : Nat) : State :=
  let (w, s) := viewWord s (pairGroup s n) (off / 4 * 4 % 0x1000000)
  s.jtagShift [w]

/-- The hardware triggers of a pair, four at most. -/
def jtagTriggers (s : State) (n : Nat) (trigs : List (Bool × Nat)) : State :=
  if lanePairs ≤ n then s
  else s.setPair n { s.pair n with trigs := (trigs.take 4).map fun t => { onData := t.1, addr := t.2 % 2 ^ 32 } }

/-! ## The operations -/

/-- A JTAG operation other than a design-for-test scan: one that the lifecycle state does not permit has no effect. -/
def jtagDo (s : State) : JtagOp → State
  | .idcode => (s.jtagInstr tapIdcode).jtagShift [Config.idcode % 2 ^ 32]
  | .bypass => (s.jtagInstr tapBypass).jtagShift [0]
  | .preload l => boundaryScan s tapPreload l
  | .extest l => if s.keys.lifecycle = lcSealed then s else boundaryScan s tapExtest l
  | .intest l => if s.keys.lifecycle = lcSealed then s else boundaryScan s tapIntest l
  | .testScan => s
  | .coreHalt k => whenDebug s (setHalt s k true)
  | .coreResume k => whenDebug s (setHalt s k false)
  | .coreRead k r => if coreHalted s k then whenDebug s (jtagCoreRead s k r) else s
  | .coreWrite k r v => if coreHalted s k then whenDebug s (jtagCoreWrite s k r v) else s
  | .coreLoad k a n => if coreHalted s k && n ≠ 0 then whenDebug s (jtagGot (fabRead s initCore (s.cpu k).txTag kindRead (a % 2 ^ 36) n)) else s
  | .coreStore k a l => if coreHalted s k && l ≠ [] then whenDebug s (fabWrite s initCore (s.cpu k).txTag (a % 2 ^ 36) l).2 else s
  | .fabRead a n => if n = 0 then s else whenDebug s (jtagGot (fabRead s initJtag 0 kindRead (a % 2 ^ 36) n))
  | .fabWrite a l => if l = [] then s else whenDebug s (fabWrite s initJtag 0 (a % 2 ^ 36) l).2
  | .laneRead a n => jtagLaneRead s a n
  | .laneWrite a l => jtagLaneWrite s a l
  | .laneTriggers n t => whenDebug s (jtagTriggers s n t)
  | .laneReg n r => whenHalted s n (jtagLaneReg s n r)
  | .laneView n off => whenHalted s n (jtagLaneView s n off)
  | .laneStaging n => whenHalted s n (s.jtagShift (s.pair n).staging)

/-- Does a lifecycle state permit design-for-test scan and memory test: MANUFACTURE and DECOMMISSIONED? -/
def testOpen (s : State) : Bool := decide (s.keys.lifecycle = lcManufacture) || decide (s.keys.lifecycle = lcDecommissioned)

/-- JTAG_INSTRUCTION. -/
def execJtagInstruction (op : JtagOp) (s : State) : Host.Outcome State Fault Refusal :=
  if op = .testScan && testOpen s then .refused .testScan else .next (jtagDo s op)

end Sys2Proof.Machine
end

