-- ==== Sys2Proof/Machine/Source.lean ====
section
/-! DEFINITION. Transactions by their source: the tag that the device gives each (R34, R35), and the commands that name a source. -/

namespace Sys2Proof.Machine

/-- The tag that the device gives a transaction at its source (R34): of a core, what the core carries now; of a device behind the IOMMU, its device context's, which
is its ring's partition; of an engine that acts for the device, 0. -/
def sourceTag (s : State) (init src : Nat) : Nat :=
  if init = initCore then (s.cpu src).txTag else if init = initCpuPort then src % 128 else 0

/-- FABRIC_ACCESS: a transaction of an initiator class, from core or ring `src`. -/
def execFabricAccess (init src kind addr : Nat) (data : List Nat) (ue : Option Nat) (s : State) : Host.Outcome State Fault Refusal :=
  .next (s.live fun s => fabricAccess s { init := init, tag := sourceTag s init src, kind := kind, addr := addr % 2 ^ 36, data := data.map (· % 256), ue := ue })

/-- REGISTER_WRITE: a write of `size` octets of `v` by an initiator at an address of the register space, or outside it. -/
def registerWrite (s : State) (init src addr size v : Nat) : State := (fabWrite s init (sourceTag s init src) (addr % 2 ^ 36) (octetsLE size v)).2

def execRegisterWrite (init src addr size v : Nat) (s : State) : Host.Outcome State Fault Refusal :=
  .next (s.live fun s => registerWrite s init src addr size v)

/-- CUR_WRITE: a core writes PART_CPU_k_CUR of a core; a guest's write is refused by the fixed rule of the register space (R35, R412, R422). -/
def execCurWrite (k : CurSel) (v : Nat) (s : State) : Host.Outcome State Fault Refusal :=
  .next (s.live fun s => if 8 ≤ k.core then s else registerWrite s initCore k.writer (0x400E0060 + 4 * k.core) 4 v)

end Sys2Proof.Machine
end

