-- ==== Sys2Proof/Machine/Dispatch.lean ====
section
/-! DEFINITION. What each command does: one arm for each constructor of Instr. -/

namespace Sys2Proof.Machine

def exec (i : Instr) (s : State) : Host.Outcome State Fault Refusal :=
  match i with
  | .utcofsApply => Sys2Proof.Machine.execUtcofsApply s
  | .timeCtrlWrite v => Sys2Proof.Machine.execTimeCtrlWrite v s
  | .syncRx port m rx fu => Sys2Proof.Machine.execSyncRx port m rx fu s
  | .ppsEdge st => Sys2Proof.Machine.execPpsEdge st s
  | .syncLossTimer => Sys2Proof.Machine.execSyncLossTimer s
  | .holdLimitReached => Sys2Proof.Machine.execHoldLimitReached s
  | .stepNotice => Sys2Proof.Machine.execStepNotice s
  | .pdelayReqRx port m rx => Sys2Proof.Machine.execPdelayReqRx port m rx s
  | .pdelayReqTx port => Sys2Proof.Machine.execPdelayReqTx port s
  | .pdelayRespRx port m rx fu => Sys2Proof.Machine.execPdelayRespRx port m rx fu s
  | .syncEgressCorrect port => Sys2Proof.Machine.execSyncEgressCorrect port s
  | .twoStepSyncRecord port => Sys2Proof.Machine.execTwoStepSyncRecord port s
  | .followUpEgress port => Sys2Proof.Machine.execFollowUpEgress port s
  | .toutArm n arm => Sys2Proof.Machine.execToutArm n arm s
  | .toutPulseStart n => Sys2Proof.Machine.execToutPulseStart n s
  | .toutPulseEnd n => Sys2Proof.Machine.execToutPulseEnd n s
  | .tinCapture n rising sub => Sys2Proof.Machine.execTinCapture n rising sub s
  | .readNow => Sys2Proof.Machine.execReadNow s
  | .setAbs => Sys2Proof.Machine.execSetAbs s
  | .stepRel => Sys2Proof.Machine.execStepRel s
  | .loadTout => Sys2Proof.Machine.execLoadTout s
  | .popTin => Sys2Proof.Machine.execPopTin s
  | .mailboxComplete blk => Sys2Proof.Machine.execMailboxComplete blk s
  | .groupEnable g => Sys2Proof.Machine.execGroupEnable g s
  | .groupDisable g => Sys2Proof.Machine.execGroupDisable g s
  | .tideEvaluation g => Sys2Proof.Machine.execTideEvaluation g s
  | .resync g => Sys2Proof.Machine.execResync g s
  | .forceFreerun g => Sys2Proof.Machine.execForceFreerun g s
  | .laneWindowStart g => Sys2Proof.Machine.execLaneWindowStart g s
  | .slotStart t j => Sys2Proof.Machine.execSlotStart t j s
  | .partitionLate n => Sys2Proof.Machine.execPartitionLate n s
  | .windowCommit g => Sys2Proof.Machine.execWindowCommit g s
  | .lockstepMismatch n => Sys2Proof.Machine.execLockstepMismatch n s
  | .spareAttachDone n => Sys2Proof.Machine.execSpareAttachDone n s
  | .spareSelftestFail n => Sys2Proof.Machine.execSpareSelftestFail n s
  | .readLive => Sys2Proof.Machine.execReadLive s
  | .timeToAng => Sys2Proof.Machine.execTimeToAng s
  | .angToTime => Sys2Proof.Machine.execAngToTime s
  | .svFrameRx => Sys2Proof.Machine.execSvFrameRx s
  | .streamEnable n => Sys2Proof.Machine.execStreamEnable n s
  | .streamDisable n => Sys2Proof.Machine.execStreamDisable n s
  | .sampleRelease n => Sys2Proof.Machine.execSampleRelease n s
  | .fingerprintComplete p => Sys2Proof.Machine.execFingerprintComplete p s
  | .stepGuardExpiry n => Sys2Proof.Machine.execStepGuardExpiry n s
  | .clrTmax => Sys2Proof.Machine.execClrTmax s
  | .estRestart => Sys2Proof.Machine.execEstRestart s
  | .adepthWrite g v => Sys2Proof.Machine.execAdepthWrite g v s
  | .fdcSweep depth => Sys2Proof.Machine.execFdcSweep depth s
  | .fdcChannelEnable c => Sys2Proof.Machine.execFdcChannelEnable c s
  | .fdcChannelDisable c => Sys2Proof.Machine.execFdcChannelDisable c s
  | .fdcDisable => Sys2Proof.Machine.execFdcDisable s
  | .syncResetChannel => Sys2Proof.Machine.execSyncResetChannel s
  | .syncResetGroup g => Sys2Proof.Machine.execSyncResetGroup g s
  | .laneInstruction n => Sys2Proof.Machine.execLaneInstruction n s
  | .pxCmul n rd rs1 rs2 => Sys2Proof.Machine.execPxCmul n rd rs1 rs2 s
  | .pxCmulc n rd rs1 rs2 => Sys2Proof.Machine.execPxCmulc n rd rs1 rs2 s
  | .pxCmac n rd rs1 rs2 => Sys2Proof.Machine.execPxCmac n rd rs1 rs2 s
  | .pxCadd n rd rs1 rs2 => Sys2Proof.Machine.execPxCadd n rd rs1 rs2 s
  | .pxCsub n rd rs1 rs2 => Sys2Proof.Machine.execPxCsub n rd rs1 rs2 s
  | .pxCscl n rd rs1 rs2 => Sys2Proof.Machine.execPxCscl n rd rs1 rs2 s
  | .pxCabs2 n rd rs1 => Sys2Proof.Machine.execPxCabs2 n rd rs1 s
  | .pxCabs n rd rs1 => Sys2Proof.Machine.execPxCabs n rd rs1 s
  | .pxCarg n rd rs1 => Sys2Proof.Machine.execPxCarg n rd rs1 s
  | .pxCis n rd rs1 => Sys2Proof.Machine.execPxCis n rd rs1 s
  | .pxRot n rd rs1 rs2 => Sys2Proof.Machine.execPxRot n rd rs1 rs2 s
  | .pxDfta n rd rs1 rs2 => Sys2Proof.Machine.execPxDfta n rd rs1 rs2 s
  | .pxQchk n rd rs1 rs2 => Sys2Proof.Machine.execPxQchk n rd rs1 rs2 s
  | .pxDone n rs1 => Sys2Proof.Machine.execPxDone n rs1 s
  | .vectorLatchRead => Sys2Proof.Machine.execVectorLatchRead s
  | .clrUsed => Sys2Proof.Machine.execClrUsed s
  | .laneDebugHalt n => Sys2Proof.Machine.execLaneDebugHalt n s
  | .laneDebugResume n => Sys2Proof.Machine.execLaneDebugResume n s
  | .laneDebugStep n => Sys2Proof.Machine.execLaneDebugStep n s
  | .gooseRetransmit b => Sys2Proof.Machine.execGooseRetransmit b s
  | .gooseBlockEnable b => Sys2Proof.Machine.execGooseBlockEnable b s
  | .gooseBlockDisable b => Sys2Proof.Machine.execGooseBlockDisable b s
  | .gooseSubEnable sub => Sys2Proof.Machine.execGooseSubEnable sub s
  | .gooseSubDisable sub => Sys2Proof.Machine.execGooseSubDisable sub s
  | .gooseFrameRx => Sys2Proof.Machine.execGooseFrameRx s
  | .gooseSubUpdate sub => Sys2Proof.Machine.execGooseSubUpdate sub s
  | .gooseSubExpiry sub => Sys2Proof.Machine.execGooseSubExpiry sub s
  | .republish => Sys2Proof.Machine.execRepublish s
  | .clrSim => Sys2Proof.Machine.execClrSim s
  | .gateTrigger n => Sys2Proof.Machine.execGateTrigger n s
  | .gateChannelEnable n => Sys2Proof.Machine.execGateChannelEnable n s
  | .gateChannelDisable n => Sys2Proof.Machine.execGateChannelDisable n s
  | .gateCommit n => Sys2Proof.Machine.execGateCommit n s
  | .gateReload n => Sys2Proof.Machine.execGateReload n s
  | .gateDutyEnd n => Sys2Proof.Machine.execGateDutyEnd n s
  | .gateRefreshStart n => Sys2Proof.Machine.execGateRefreshStart n s
  | .gateRefreshEnd n => Sys2Proof.Machine.execGateRefreshEnd n s
  | .gateInstantFixed n => Sys2Proof.Machine.execGateInstantFixed n s
  | .gateScheduledRise n => Sys2Proof.Machine.execGateScheduledRise n s
  | .gatePulseEnd n => Sys2Proof.Machine.execGatePulseEnd n s
  | .safeNAssert k widthNs => Sys2Proof.Machine.execSafeNAssert k widthNs s
  | .gateFreeze => Sys2Proof.Machine.execGateFreeze s
  | .gateUnfreeze => Sys2Proof.Machine.execGateUnfreeze s
  | .pwmClockReturn => Sys2Proof.Machine.execPwmClockReturn s
  | .gateCalibration ok => Sys2Proof.Machine.execGateCalibration ok s
  | .readSched => Sys2Proof.Machine.execReadSched s
  | .twinLaneDown lane => Sys2Proof.Machine.execTwinLaneDown lane s
  | .twinLaneUp lane => Sys2Proof.Machine.execTwinLaneUp lane s
  | .twinEnable => Sys2Proof.Machine.execTwinEnable s
  | .twinDisable => Sys2Proof.Machine.execTwinDisable s
  | .helloTx => Sys2Proof.Machine.execHelloTx s
  | .helloRx h w => Sys2Proof.Machine.execHelloRx h w s
  | .fprintRx h w => Sys2Proof.Machine.execFprintRx h w s
  | .commitRx h w => Sys2Proof.Machine.execCommitRx h w s
  | .gseqRx h w => Sys2Proof.Machine.execGseqRx h w s
  | .xferRx h w => Sys2Proof.Machine.execXferRx h w s
  | .yieldRx h => Sys2Proof.Machine.execYieldRx h s
  | .resetReqRx h => Sys2Proof.Machine.execResetReqRx h s
  | .resetNakRx h => Sys2Proof.Machine.execResetNakRx h s
  | .xferAckRx h p => Sys2Proof.Machine.execXferAckRx h p s
  | .xferNakRx h p => Sys2Proof.Machine.execXferNakRx h p s
  | .xferFrameTx => Sys2Proof.Machine.execXferFrameTx s
  | .pairLinkTimeout => Sys2Proof.Machine.execPairLinkTimeout s
  | .rallyResolve g => Sys2Proof.Machine.execRallyResolve g s
  | .xferTimeout => Sys2Proof.Machine.execXferTimeout s
  | .wake => Sys2Proof.Machine.execWake s
  | .yield => Sys2Proof.Machine.execYield s
  | .resetPartner => Sys2Proof.Machine.execResetPartner s
  | .realign g => Sys2Proof.Machine.execRealign g s
  | .clrRmax g => Sys2Proof.Machine.execClrRmax g s
  | .wakeFrameTx => Sys2Proof.Machine.execWakeFrameTx s
  | .wakeTimeout => Sys2Proof.Machine.execWakeTimeout s
  | .partnerResetFire => Sys2Proof.Machine.execPartnerResetFire s
  | .drecBinarySample => Sys2Proof.Machine.execDrecBinarySample s
  | .drecTickAssemble drained => Sys2Proof.Machine.execDrecTickAssemble drained s
  | .drecEnable => Sys2Proof.Machine.execDrecEnable s
  | .drecDisable => Sys2Proof.Machine.execDrecDisable s
  | .drecUnitEnable u => Sys2Proof.Machine.execDrecUnitEnable u s
  | .trigger u tag => Sys2Proof.Machine.execTrigger u tag s
  | .free => Sys2Proof.Machine.execFree s
  | .freeAll => Sys2Proof.Machine.execFreeAll s
  | .drecNextSlotArmed => Sys2Proof.Machine.execDrecNextSlotArmed s
  | .drecSlotDone => Sys2Proof.Machine.execDrecSlotDone s
  | .elogRecordWrite => Sys2Proof.Machine.execElogRecordWrite s
  | .elogSwCodeWrite tag code => Sys2Proof.Machine.execElogSwCodeWrite tag code s
  | .elogRdIdxWrite v => Sys2Proof.Machine.execElogRdIdxWrite v s
  | .clear => Sys2Proof.Machine.execClear s
  | .elogClearDone => Sys2Proof.Machine.execElogClearDone s
  | .exportLog => Sys2Proof.Machine.execExportLog s
  | .elogExportDone => Sys2Proof.Machine.execElogExportDone s
  | .portEnable p => Sys2Proof.Machine.execPortEnable p s
  | .portDisable p => Sys2Proof.Machine.execPortDisable p s
  | .portUpConditionChange p los pcs hiBer fec => Sys2Proof.Machine.execPortUpConditionChange p los pcs hiBer fec s
  | .upHoldExpiry p => Sys2Proof.Machine.execUpHoldExpiry p s
  | .downHoldExpiry p => Sys2Proof.Machine.execDownHoldExpiry p s
  | .anComplete p lp => Sys2Proof.Machine.execAnComplete p lp s
  | .modabsChange p absent => Sys2Proof.Machine.execModabsChange p absent s
  | .i2cCmd k v => Sys2Proof.Machine.execI2cCmd k v s
  | .i2cDone k ok data => Sys2Proof.Machine.execI2cDone k ok data s
  | .eqTxWrite p v => Sys2Proof.Machine.execEqTxWrite p v s
  | .portTxthrWrite p v => Sys2Proof.Machine.execPortTxthrWrite p v s
  | .portTestWrite p v => Sys2Proof.Machine.execPortTestWrite p v s
  | .macRxFrame p f st fcs code lenMis shortPre => Sys2Proof.Machine.execMacRxFrame p f st fcs code lenMis shortPre s
  | .macTxStart p fill => Sys2Proof.Machine.execMacTxStart p fill s
  | .txUnderrun p => Sys2Proof.Machine.execTxUnderrun p s
  | .wakeFrameDetect f fcsOk => Sys2Proof.Machine.execWakeFrameDetect f fcsOk s
  | .swcFrameAdmit sp => Sys2Proof.Machine.execSwcFrameAdmit sp s
  | .swcTxCopy e ecc => Sys2Proof.Machine.execSwcTxCopy e ecc s
  | .swcFlushComplete p => Sys2Proof.Machine.execSwcFlushComplete p s
  | .fdbAgeOut idx => Sys2Proof.Machine.execFdbAgeOut idx s
  | .ddEntryExpire k => Sys2Proof.Machine.execDdEntryExpire k s
  | .cpuRxDeliver => Sys2Proof.Machine.execCpuRxDeliver s
  | .cpuTxTailWrite p v => Sys2Proof.Machine.execCpuTxTailWrite p v s
  | .cpuTxFrame => Sys2Proof.Machine.execCpuTxFrame s
  | .flushFdbAll => Sys2Proof.Machine.execFlushFdbAll s
  | .flushFdbPort => Sys2Proof.Machine.execFlushFdbPort s
  | .vlanRd => Sys2Proof.Machine.execVlanRd s
  | .vlanWr => Sys2Proof.Machine.execVlanWr s
  | .fdbRd => Sys2Proof.Machine.execFdbRd s
  | .fdbWr => Sys2Proof.Machine.execFdbWr s
  | .fdbDel => Sys2Proof.Machine.execFdbDel s
  | .mcRd => Sys2Proof.Machine.execMcRd s
  | .mcWr => Sys2Proof.Machine.execMcWr s
  | .fdbRdIndex => Sys2Proof.Machine.execFdbRdIndex s
  | .swcEnable => Sys2Proof.Machine.execSwcEnable s
  | .pairEnable k => Sys2Proof.Machine.execPairEnable k s
  | .ringEnable p rx tx => Sys2Proof.Machine.execRingEnable p rx tx s
  | .fabricAccess init src kind addr data ue => Sys2Proof.Machine.execFabricAccess init src kind addr data ue s
  | .coreInstruction k ue evict => Sys2Proof.Machine.execCoreInstruction k ue evict s
  | .curWrite k v => Sys2Proof.Machine.execCurWrite k v s
  | .irqRouteEnable p v => Sys2Proof.Machine.execIrqRouteEnable p v s
  | .iommuCommand => Sys2Proof.Machine.execIommuCommand s
  | .pulse p => Sys2Proof.Machine.execPulse p s
  | .holdWrite p v => Sys2Proof.Machine.execHoldWrite p v s
  | .resetPulseEnd p => Sys2Proof.Machine.execResetPulseEnd p s
  | .wdKick p => Sys2Proof.Machine.execWdKick p s
  | .wdWarn p => Sys2Proof.Machine.execWdWarn p s
  | .wdExpiry p => Sys2Proof.Machine.execWdExpiry p s
  | .wdConfigWrite p lane v => Sys2Proof.Machine.execWdConfigWrite p lane v s
  | .lwdExpiry p win => Sys2Proof.Machine.execLwdExpiry p win s
  | .dwdKick v => Sys2Proof.Machine.execDwdKick v s
  | .dwdWarn => Sys2Proof.Machine.execDwdWarn s
  | .dwdExpiry => Sys2Proof.Machine.execDwdExpiry s
  | .qosPeriodStart => Sys2Proof.Machine.execQosPeriodStart s
  | .apply => Sys2Proof.Machine.execApply s
  | .approve => Sys2Proof.Machine.execApprove s
  | .attest => Sys2Proof.Machine.execAttest s
  | .measure => Sys2Proof.Machine.execMeasure s
  | .keysExport => Sys2Proof.Machine.execKeysExport s
  | .confirm => Sys2Proof.Machine.execConfirm s
  | .import => Sys2Proof.Machine.execImport s
  | .commit => Sys2Proof.Machine.execCommit s
  | .rootInstall => Sys2Proof.Machine.execRootInstall s
  | .burnRoot => Sys2Proof.Machine.execBurnRoot s
  | .lcDevelop => Sys2Proof.Machine.execLcDevelop s
  | .lcSeal => Sys2Proof.Machine.execLcSeal s
  | .lcDecommission => Sys2Proof.Machine.execLcDecommission s
  | .exportKtk => Sys2Proof.Machine.execExportKtk s
  | .keysApplyEdge => Sys2Proof.Machine.execKeysApplyEdge s
  | .keysScrub ecc => Sys2Proof.Machine.execKeysScrub ecc s
  | .idReady => Sys2Proof.Machine.execIdReady s
  | .tamperDetect levels => Sys2Proof.Machine.execTamperDetect levels s
  | .zeroisation => Sys2Proof.Machine.execZeroisation s
  | .snapshot => Sys2Proof.Machine.execSnapshot s
  | .snapshotClear => Sys2Proof.Machine.execSnapshotClear s
  | .readSnapTime => Sys2Proof.Machine.execReadSnapTime s
  | .aonWriteApply => Sys2Proof.Machine.execAonWriteApply s
  | .registerWrite init src addr size v => Sys2Proof.Machine.execRegisterWrite init src addr size v s
  | .memRetrain mcb ok => Sys2Proof.Machine.execMemRetrain mcb ok s
  | .pllLockLost pll unit => Sys2Proof.Machine.execPllLockLost pll unit s
  | .pllRelock pll unit refs before => Sys2Proof.Machine.execPllRelock pll unit refs before s
  | .refLost => Sys2Proof.Machine.execRefLost s
  | .refReturn => Sys2Proof.Machine.execRefReturn s
  | .resetPin level ns => Sys2Proof.Machine.execResetPin level ns s
  | .softwareReset v => Sys2Proof.Machine.execSoftwareReset v s
  | .resetRelease sideB solo => Sys2Proof.Machine.execResetRelease sideB solo s
  | .powerOnReset low => Sys2Proof.Machine.execPowerOnReset low s
  | .vbatLoss => Sys2Proof.Machine.execVbatLoss s
  | .testReset => Sys2Proof.Machine.execTestReset s
  | .bootInitDone dens ranksA trainedA ranksB trainedB => Sys2Proof.Machine.execBootInitDone dens ranksA trainedA ranksB trainedB s
  | .bootSlotLoaded readErr => Sys2Proof.Machine.execBootSlotLoaded readErr s
  | .bootApplyDone => Sys2Proof.Machine.execBootApplyDone s
  | .flashRead => Sys2Proof.Machine.execFlashRead s
  | .flashErase => Sys2Proof.Machine.execFlashErase s
  | .flashProg => Sys2Proof.Machine.execFlashProg s
  | .bootConfirm => Sys2Proof.Machine.execBootConfirm s
  | .setTrial => Sys2Proof.Machine.execSetTrial s
  | .forceRecovery => Sys2Proof.Machine.execForceRecovery s
  | .flashOpTimeout => Sys2Proof.Machine.execFlashOpTimeout s
  | .info f fcsOk => Sys2Proof.Machine.execInfo f fcsOk s
  | .stage f fcsOk => Sys2Proof.Machine.execStage f fcsOk s
  | .keymsg f fcsOk => Sys2Proof.Machine.execKeymsg f fcsOk s
  | .recoveryApprove f fcsOk => Sys2Proof.Machine.execRecoveryApprove f fcsOk s
  | .root f fcsOk => Sys2Proof.Machine.execRoot f fcsOk s
  | .saveStore f fcsOk => Sys2Proof.Machine.execSaveStore f fcsOk s
  | .program f fcsOk => Sys2Proof.Machine.execProgram f fcsOk s
  | .reboot f fcsOk => Sys2Proof.Machine.execReboot f fcsOk s
  | .lowPowerEnter => Sys2Proof.Machine.execLowPowerEnter s
  | .lowPowerWake => Sys2Proof.Machine.execLowPowerWake s
  | .readSec => Sys2Proof.Machine.execReadSec s
  | .secIncrement => Sys2Proof.Machine.execSecIncrement s
  | .jtagInstruction op => Sys2Proof.Machine.execJtagInstruction op s
  | .rallyCopyDiscard lane ownSide => Sys2Proof.Machine.execRallyCopyDiscard lane ownSide s
  | .safeNRelease k => Sys2Proof.Machine.execSafeNRelease k s

end Sys2Proof.Machine
end

