-- ==== Sys2Proof/Machine/Tick.lean ====
section
/-! DEFINITION. What happens when no command waits: one nanosecond passes. -/

namespace Sys2Proof.Machine

/-- A nanosecond of the AON domain, which no reset stops. -/
def aonTick (a : AonSt) : AonSt :=
  if a.frac + 1 < 1000000000 then { a with frac := a.frac + 1 } else { a with frac := 0, sec := (a.sec + 1) % 2 ^ 48 }

/-- A TBC edge and the 32 PWM counts of it; a frozen generator's own count stands (R282). A step that waits for the edge is made (R556). -/
def tbcEdge (s : State) : State :=
  stepDue { s with
           time := s.time.tick
           gate := if s.gate.stopped then s.gate
             else { s.gate with pwm := s.gate.pwm + 32, cnt := s.gate.cnt + if gateFrozen s then 0 else 32 } }

/-- So many TBC edges. -/
def tbcEdges : Nat → State → State
  | 0, s => s
  | n + 1, s => tbcEdges n (tbcEdge s)

/-- The TBC cycles of a nanosecond of REF, 1 + FADJ × 2^-38 of them (R48), unless the TBC PLL has lost lock (R502). -/
def tbcTick (s : State) : State :=
  if s.clk.tbcStop then s
  else
    let p := ((s.time.phase : Int) + 2 ^ 38 + fadjOf s).toNat
    tbcEdges (p / 2 ^ 38) { s with time := { s.time with phase := p % 2 ^ 38 } }

/-- The present SYS edge ends: partitions without a source of reset leave it, the GOOSE and Rally frames that fell due at it are handed over, its events are
judged, each in the order that its chapter gives (DESIGN CHOICE, log 63), and a snapshot of the edge is complete. -/
def sysEnd (s : State) : State := snapEnd (elogEdge (rallyEdge (gooseEdge (partEdge s))))

/-- The next SYS edge begins, and finds the registers as they stand. -/
def sysBegin (s : State) : State := { s with time := { s.time with sys := s.time.sys + 1 }, clk := { s.clk with edgeRegs := s.regs } }

/-- What comes about as a SYS edge begins: the record in writing gains its next word, the EN writes of streams whose instant has come take effect, blocks that
REPUBLISH has named enter their new states, the ports' transmitters go on, and the next core of a bundle is released. -/
def sysTick (s : State) : State := releaseCore (portTick (gooseBegin (sviSettle (elogTick (sysBegin s)))))

/-- One nanosecond. -/
def tick (s : State) : State :=
  let s := { s with clk := { s.clk with ns := s.clk.ns + 1 }, aon := aonTick s.aon }
  s.live fun s => sysTick (tbcTick (sysEnd s))

end Sys2Proof.Machine
end

