-- ==== Sys2Proof/Safety.lean ====
section
/-! DEFINITION. What a sound state of the machine is, in the terms the statements use. -/

namespace Sys2Proof.Machine

/-- Keys strictly rising, all of them at or above a bound. -/
def risingFrom {α : Type} : Nat → Sparse α → Bool
  | _, [] => true
  | b, (k, _) :: t => decide (b ≤ k) && risingFrom (k + 1) t

/-- Every live statistics counter is at most 2^48 − 1 (R489, R493). -/
def countersBounded (m : Sparse Nat) : Bool := m.all fun x => decide (x.2 ≤ ctrMax)

/-- A sound state: the memory is in its canonical form, no register field is listed twice, and no statistics counter is above its greatest
value. -/
def State.Sound (s : State) : Prop :=
  Memory.wf s.mem = true ∧ risingFrom 0 s.regs = true ∧ countersBounded s.cnts = true

/-- What the one-time fuses hold in `t` is at least what they held in `s`: the lifecycle does not go backwards, and a burned root hash, the burned
transport-key fuse and every burned counter floor stand (R438, R439). -/
def Fuses.Kept (s t : Fuses) : Prop :=
  s.lifecycle ≤ t.lifecycle ∧ (∀ h, s.rootHash = some h → t.rootHash = some h) ∧ (s.ktk = true → t.ktk = true) ∧ s.floors <:+ t.floors

/-- A part of the machine: a component of the state, or the register fields or the counters of one block. -/
inductive Part where
  | aonRegs | bank | mbx | mem | time | elog | part | tide | lane | gate | fab | svi | fdc
  | goose | twin | swc | port | drec | keys | clk | aon | boot | core | snap | freeCtr
  | regs (blk : Nat) | ctrs (blk : Nat)
  deriving DecidableEq, Repr

/-- Is a part of the machine the same in two states? -/
def Part.Same : Part → State → State → Prop
  | .aonRegs, s, t => t.aonRegs = s.aonRegs
  | .bank, s, t => t.bank = s.bank
  | .mbx, s, t => t.mbx = s.mbx
  | .mem, s, t => t.mem = s.mem
  | .time, s, t => t.time = s.time
  | .elog, s, t => t.elog = s.elog
  | .part, s, t => t.part = s.part
  | .tide, s, t => t.tide = s.tide
  | .lane, s, t => t.lane = s.lane
  | .gate, s, t => t.gate = s.gate
  | .fab, s, t => t.fab = s.fab
  | .svi, s, t => t.svi = s.svi
  | .fdc, s, t => t.fdc = s.fdc
  | .goose, s, t => t.goose = s.goose
  | .twin, s, t => t.twin = s.twin
  | .swc, s, t => t.swc = s.swc
  | .port, s, t => t.port = s.port
  | .drec, s, t => t.drec = s.drec
  | .keys, s, t => t.keys = s.keys
  | .clk, s, t => t.clk = s.clk
  | .aon, s, t => t.aon = s.aon
  | .boot, s, t => t.boot = s.boot
  | .core, s, t => t.core = s.core
  | .snap, s, t => t.snap = s.snap
  | .freeCtr, s, t => t.freeCtr = s.freeCtr
  | .regs b, s, t => ∀ k, keyBlk k = b → sparseFind k t.regs = sparseFind k s.regs
  | .ctrs b, s, t => ∀ k, keyBlk k = b → sparseFind k t.cnts = sparseFind k s.cnts

/-- The bit that stands for a part in a set of parts. -/
def Part.bit : Part → Nat
  | .aonRegs => 0
  | .bank => 1
  | .mbx => 2
  | .mem => 3
  | .time => 4
  | .elog => 5
  | .part => 6
  | .tide => 7
  | .lane => 8
  | .gate => 9
  | .fab => 10
  | .svi => 11
  | .fdc => 12
  | .goose => 13
  | .twin => 14
  | .swc => 15
  | .port => 16
  | .drec => 17
  | .keys => 18
  | .clk => 19
  | .aon => 20
  | .boot => 21
  | .core => 22
  | .snap => 23
  | .freeCtr => 24
  | .regs b => 32 + b % 32
  | .ctrs b => 64 + b % 32

/-- What lies outside a set of parts is the same. -/
def SameBut (m : Nat) (s t : State) : Prop := ∀ p : Part, m.testBit p.bit = false → p.Same s t

/-- The overflow flags that a counter's count may set when it stands at its greatest value (R493). -/
def Ctr.ovfKeys (c : Ctr) (i : Nat) : List Nat :=
  (c.inst.map fun f => f.key i).toList ++ [match c.how with | .instance_ => c.ovf.key i | _ => c.ovf.key 0]

/-- The blocks that writing an event record may touch beside the block concerned: ELOG, which counts the records that it refuses (R347). -/
def logBlks : List Nat := [11]

/-- `t` is `s` but for the register fields at the keys `ks`, the counters at the keys `cs`, the registers and counters of the blocks `bs`, and what holds
queued event records and pending interrupts. Memory and every other part of the machine are the same. -/
def Touches (ks cs bs : List Nat) (s t : State) : Prop :=
  (∀ k, k ∉ ks → keyBlk k ∉ bs → sparseFind k t.regs = sparseFind k s.regs)
    ∧ (∀ k, k ∉ cs → keyBlk k ∉ bs → sparseFind k t.cnts = sparseFind k s.cnts)
    ∧ { t with regs := s.regs, cnts := s.cnts, elog := s.elog, part := s.part } = s

end Sys2Proof.Machine
end

