-- ==== Sys2Proof/Machine/Touched.lean ====
section
/-! DEFINITION. What each command may touch: the frame of every command, said once. -/

namespace Sys2Proof.Machine

/-- What sending an interrupt may touch: the interrupt files and PART's pending bits, and the counts of SYS and PART (R423, R424, R498). -/
def irqParts : List Part := [.part, .regs 0, .regs 14, .ctrs 0, .ctrs 14]

/-- What writing an event record and sending interrupts may touch (R345 to R347). -/
def logParts : List Part := [.elog, .part, .regs 0, .regs 11, .regs 14, .ctrs 0, .ctrs 11, .ctrs 14]

/-- The registers of every block. -/
def allRegs : List Part := (List.range 32).map .regs

/-- The counters of every block. -/
def allCtrs : List Part := (List.range 32).map .ctrs

/-- Every part: of a command that may reset the device or write any register. -/
def allParts : List Part :=
  [.aonRegs, .bank, .mbx, .mem, .time, .elog, .part, .tide, .lane, .gate, .fab, .svi, .fdc, .goose, .twin, .swc, .port, .drec, .keys, .clk, .aon,
    .boot, .core, .snap, .freeCtr] ++ allRegs ++ allCtrs

/-- The parts of the machine that a command may touch. Blocks by number: SYS 0, CLK 1, TIME 2, TIDE 3, SVI 4, FDC 5, LANE 6, GOOSE 7, GATE 8, TWIN 9,
DREC 10, ELOG 11, PORT 12, SWC 13, PART 14, KEYS 15, AON 16, BOOT 17. -/
def touched (c : Instr) : List Part :=
  match c with
  | .utcofsApply => [.time]
  | .timeCtrlWrite .. => [.time, .regs 2]
  | .syncRx .. => irqParts ++ [.time, .freeCtr, .regs 2, .ctrs 2]
  | .ppsEdge .. => irqParts ++ [.time, .regs 2, .ctrs 2]
  | .syncLossTimer => irqParts ++ [.time, .regs 2, .ctrs 2]
  | .holdLimitReached => irqParts ++ [.time, .regs 2]
  | .stepNotice => logParts ++ [.mbx, .time, .tide, .gate, .svi, .fdc, .goose, .drec, .regs 2, .regs 4, .ctrs 2]
  | .pdelayReqRx .. => [.time, .port, .freeCtr, .regs 2, .regs 12, .ctrs 2, .ctrs 12]
  | .pdelayReqTx .. => irqParts ++ [.time, .port, .freeCtr, .regs 2, .regs 12, .ctrs 2, .ctrs 12]
  | .pdelayRespRx .. => [.time, .freeCtr, .regs 2, .ctrs 2]
  | .syncEgressCorrect .. => [.time, .port, .freeCtr, .regs 2, .regs 12, .ctrs 2, .ctrs 12]
  | .twoStepSyncRecord .. => [.time, .port, .freeCtr, .regs 2, .regs 12, .ctrs 2, .ctrs 12]
  | .followUpEgress .. => [.time, .port, .freeCtr, .regs 2, .regs 12, .ctrs 2, .ctrs 12]
  | .toutArm .. => [.time, .regs 2]
  | .toutPulseStart .. => irqParts ++ [.time, .regs 2, .ctrs 2]
  | .toutPulseEnd .. => [.time, .regs 2]
  | .tinCapture .. => irqParts ++ [.time, .regs 2, .ctrs 2]
  | .readNow => [.mbx, .regs 2]
  | .setAbs => [.mbx, .time, .regs 2, .ctrs 2]
  | .stepRel => [.mbx, .time, .regs 2, .ctrs 2]
  | .loadTout => [.mbx, .time, .regs 2]
  | .popTin => [.mbx, .time, .freeCtr, .regs 2]
  | .mailboxComplete blk => logParts ++ [.aonRegs, .mbx, .mem, .lane, .gate, .fab, .keys, .aon, .boot, .core, .freeCtr, .regs 5, .regs 6, .regs 8,
      .regs 9, .regs 15, .regs 16, .regs 17, .ctrs 5, .ctrs 6, .ctrs 8, .ctrs 15, .regs (blk % 32)]
  | .groupEnable .. => logParts ++ [.tide, .lane, .svi, .fdc, .regs 3, .regs 6, .regs 15, .ctrs 3, .ctrs 6]
  | .groupDisable .. => logParts ++ [.tide, .lane, .gate, .fdc, .twin, .regs 3, .regs 5, .regs 6, .regs 8, .regs 9, .ctrs 3, .ctrs 6, .ctrs 8]
  | .tideEvaluation .. => logParts ++ [.tide, .gate, .regs 3, .regs 8, .ctrs 3, .ctrs 8]
  | .resync .. => [.tide]
  | .forceFreerun .. => [.tide]
  | .laneWindowStart .. => logParts ++ [.mem, .tide, .lane, .gate, .goose, .twin, .regs 3, .regs 6, .regs 7, .regs 9, .ctrs 3, .ctrs 6, .ctrs 7,
      .ctrs 9]
  | .slotStart .. => logParts ++ [.mem, .tide, .lane, .regs 3, .regs 6, .ctrs 3, .ctrs 6]
  | .partitionLate .. => logParts ++ [.lane, .regs 3, .regs 6, .ctrs 3]
  | .windowCommit .. => logParts ++ [.mem, .tide, .lane, .gate, .goose, .twin, .regs 3, .regs 6, .regs 7, .regs 9, .ctrs 3, .ctrs 6, .ctrs 7, .ctrs 9]
  | .lockstepMismatch .. => logParts ++ [.mem, .tide, .lane, .twin, .regs 3, .regs 6, .regs 9, .ctrs 3, .ctrs 6, .ctrs 9]
  | .spareAttachDone .. => [.lane]
  | .spareSelftestFail .. => logParts ++ [.twin, .regs 3, .regs 6, .regs 9, .ctrs 6, .ctrs 9]
  | .readLive => [.mbx, .regs 3]
  | .timeToAng => [.mbx, .regs 3]
  | .angToTime => [.mbx, .regs 3]
  | .svFrameRx => logParts ++ [.svi, .freeCtr, .regs 4, .ctrs 4]
  | .streamEnable .. => logParts ++ [.svi, .regs 4]
  | .streamDisable .. => logParts ++ [.svi, .regs 4]
  | .sampleRelease .. => logParts ++ [.tide, .svi, .fdc, .drec, .regs 4, .regs 5, .regs 10, .ctrs 4, .ctrs 5, .ctrs 10]
  | .fingerprintComplete .. => [.svi, .twin, .regs 4, .ctrs 4]
  | .stepGuardExpiry .. => logParts ++ [.svi, .regs 4]
  | .clrTmax => [.svi, .regs 4]
  | .estRestart => [.svi]
  | .adepthWrite .. => logParts ++ [.regs 4]
  | .fdcSweep .. => irqParts ++ [.fab, .fdc, .regs 5, .ctrs 5]
  | .fdcChannelEnable .. => logParts ++ [.fdc, .regs 5]
  | .fdcChannelDisable .. => logParts ++ [.fdc, .regs 5]
  | .fdcDisable => logParts ++ [.fdc, .regs 5]
  | .syncResetChannel => [.fdc]
  | .syncResetGroup .. => [.fdc]
  | .laneInstruction .. => logParts ++ [.mem, .lane, .regs 3, .regs 5, .regs 6, .ctrs 3, .ctrs 5, .ctrs 6]
  | .pxCmul .. => logParts ++ [.mem, .lane, .regs 3, .regs 5, .regs 6, .ctrs 3, .ctrs 5, .ctrs 6]
  | .pxCmulc .. => logParts ++ [.mem, .lane, .regs 3, .regs 5, .regs 6, .ctrs 3, .ctrs 5, .ctrs 6]
  | .pxCmac .. => logParts ++ [.mem, .lane, .regs 3, .regs 5, .regs 6, .ctrs 3, .ctrs 5, .ctrs 6]
  | .pxCadd .. => logParts ++ [.mem, .lane, .regs 3, .regs 5, .regs 6, .ctrs 3, .ctrs 5, .ctrs 6]
  | .pxCsub .. => logParts ++ [.mem, .lane, .regs 3, .regs 5, .regs 6, .ctrs 3, .ctrs 5, .ctrs 6]
  | .pxCscl .. => logParts ++ [.mem, .lane, .regs 3, .regs 5, .regs 6, .ctrs 3, .ctrs 5, .ctrs 6]
  | .pxCabs2 .. => logParts ++ [.mem, .lane, .regs 3, .regs 5, .regs 6, .ctrs 3, .ctrs 5, .ctrs 6]
  | .pxCabs .. => logParts ++ [.mem, .lane, .regs 3, .regs 5, .regs 6, .ctrs 3, .ctrs 5, .ctrs 6]
  | .pxCarg .. => logParts ++ [.mem, .lane, .regs 3, .regs 5, .regs 6, .ctrs 3, .ctrs 5, .ctrs 6]
  | .pxCis .. => logParts ++ [.mem, .lane, .regs 3, .regs 5, .regs 6, .ctrs 3, .ctrs 5, .ctrs 6]
  | .pxRot .. => logParts ++ [.mem, .lane, .regs 3, .regs 5, .regs 6, .ctrs 3, .ctrs 5, .ctrs 6]
  | .pxDfta .. => logParts ++ [.mem, .lane, .regs 3, .regs 5, .regs 6, .ctrs 3, .ctrs 5, .ctrs 6]
  | .pxQchk .. => logParts ++ [.mem, .lane, .regs 3, .regs 5, .regs 6, .ctrs 3, .ctrs 5, .ctrs 6]
  | .pxDone .. => logParts ++ [.mem, .lane, .regs 3, .regs 5, .regs 6, .ctrs 3, .ctrs 5, .ctrs 6]
  | .vectorLatchRead => [.lane]
  | .clrUsed => [.regs 6]
  | .laneDebugHalt .. => [.lane]
  | .laneDebugResume .. => logParts ++ [.lane, .regs 3, .regs 6, .ctrs 3]
  | .laneDebugStep .. => logParts ++ [.mem, .lane, .regs 3, .regs 5, .regs 6, .ctrs 3, .ctrs 5, .ctrs 6]
  | .gooseRetransmit .. => [.goose, .regs 7]
  | .gooseBlockEnable .. => irqParts ++ [.goose, .twin, .regs 7]
  | .gooseBlockDisable .. => [.goose, .regs 7]
  | .gooseSubEnable .. => logParts ++ [.goose, .regs 7]
  | .gooseSubDisable .. => [.elog, .goose, .regs 7, .regs 11, .ctrs 11]
  | .gooseFrameRx => irqParts ++ [.goose, .regs 7, .ctrs 7]
  | .gooseSubUpdate .. => logParts ++ [.goose, .regs 7]
  | .gooseSubExpiry .. => logParts ++ [.goose, .regs 7, .ctrs 7]
  | .republish => [.goose]
  | .clrSim => [.regs 7]
  | .gateTrigger .. => logParts ++ [.gate, .regs 8, .ctrs 8]
  | .gateChannelEnable .. => logParts ++ [.gate, .regs 8, .ctrs 8]
  | .gateChannelDisable .. => [.gate, .regs 8]
  | .gateCommit .. => irqParts ++ [.gate, .regs 8, .ctrs 8]
  | .gateReload .. => irqParts ++ [.gate, .regs 8, .ctrs 8]
  | .gateDutyEnd .. => [.gate]
  | .gateRefreshStart .. => [.gate, .regs 8, .ctrs 8]
  | .gateRefreshEnd .. => [.gate]
  | .gateInstantFixed .. => [.gate]
  | .gateScheduledRise .. => irqParts ++ [.gate, .regs 8]
  | .gatePulseEnd .. => [.gate, .regs 8, .ctrs 8]
  | .safeNAssert .. => logParts ++ [.gate, .freeCtr, .regs 8, .ctrs 8]
  | .gateFreeze => logParts ++ [.gate, .regs 8, .ctrs 8]
  | .gateUnfreeze => [.regs 8]
  | .pwmClockReturn => logParts ++ [.gate, .regs 8, .ctrs 8]
  | .gateCalibration .. => irqParts ++ [.regs 8, .ctrs 8]
  | .readSched => [.mbx, .regs 8]
  | .twinLaneDown .. => logParts ++ [.gate, .goose, .twin, .regs 7, .regs 9, .ctrs 7, .ctrs 9]
  | .twinLaneUp .. => logParts ++ [.gate, .goose, .twin, .regs 7, .regs 9, .ctrs 7, .ctrs 9]
  | .twinEnable => logParts ++ [.lane, .gate, .goose, .twin, .regs 6, .regs 7, .regs 9, .ctrs 6, .ctrs 7, .ctrs 9]
  | .twinDisable => logParts ++ [.gate, .goose, .twin, .regs 7, .regs 9, .ctrs 7, .ctrs 9]
  | .helloTx => [.twin]
  | .helloRx .. => logParts ++ [.gate, .goose, .twin, .regs 7, .regs 9, .ctrs 7, .ctrs 9]
  | .fprintRx .. => irqParts ++ [.twin, .regs 9, .ctrs 9]
  | .commitRx .. => logParts ++ [.gate, .goose, .twin, .regs 7, .regs 9, .ctrs 7, .ctrs 9]
  | .gseqRx .. => irqParts ++ [.twin, .regs 7, .regs 9, .ctrs 9]
  | .xferRx .. => irqParts ++ [.lane, .twin, .regs 6, .regs 9, .ctrs 6, .ctrs 9]
  | .yieldRx .. => logParts ++ [.goose, .twin, .regs 7, .regs 9, .ctrs 7, .ctrs 9]
  | .resetReqRx .. => logParts ++ [.twin, .regs 9, .ctrs 9]
  | .resetNakRx .. => irqParts ++ [.twin, .regs 9, .ctrs 9]
  | .xferAckRx .. => irqParts ++ [.twin, .regs 9, .ctrs 9]
  | .xferNakRx .. => irqParts ++ [.twin, .regs 9, .ctrs 9]
  | .xferFrameTx => [.twin]
  | .pairLinkTimeout => logParts ++ [.gate, .goose, .twin, .regs 7, .regs 9, .ctrs 7, .ctrs 9]
  | .rallyResolve .. => logParts ++ [.gate, .goose, .twin, .regs 7, .regs 9, .ctrs 7, .ctrs 9]
  | .xferTimeout => irqParts ++ [.lane, .twin, .regs 6, .regs 9, .ctrs 6]
  | .wake => irqParts ++ [.twin, .regs 9, .ctrs 9]
  | .yield => logParts ++ [.goose, .twin, .regs 7, .regs 9, .ctrs 7, .ctrs 9]
  | .resetPartner => irqParts ++ [.twin, .regs 9, .ctrs 9]
  | .realign .. => [.twin, .regs 9]
  | .clrRmax .. => [.regs 9]
  | .wakeFrameTx => [.time, .twin, .port, .freeCtr, .regs 2, .regs 12, .ctrs 2, .ctrs 12]
  | .wakeTimeout => logParts ++ [.twin, .regs 9]
  | .partnerResetFire => allParts
  | .drecBinarySample => [.drec]
  | .drecTickAssemble .. => logParts ++ [.mem, .lane, .gate, .fab, .drec, .core, .freeCtr, .regs 6, .regs 8, .regs 9, .regs 10, .regs 15, .ctrs 6,
      .ctrs 8, .ctrs 10]
  | .drecEnable => logParts ++ [.mem, .lane, .gate, .fab, .drec, .core, .freeCtr, .regs 6, .regs 8, .regs 9, .regs 10, .regs 15, .ctrs 6, .ctrs 8,
      .ctrs 10]
  | .drecDisable => irqParts ++ [.drec, .regs 10, .ctrs 10]
  | .drecUnitEnable .. => irqParts ++ [.drec, .regs 10]
  | .trigger .. => [.drec]
  | .free => [.drec, .regs 10]
  | .freeAll => [.drec, .regs 10]
  | .drecNextSlotArmed => logParts ++ [.mem, .lane, .gate, .fab, .drec, .core, .freeCtr, .regs 6, .regs 8, .regs 9, .regs 10, .regs 15, .ctrs 6,
      .ctrs 8, .ctrs 10]
  | .drecSlotDone => logParts ++ [.mem, .lane, .gate, .fab, .drec, .core, .regs 6, .regs 8, .regs 9, .regs 10, .regs 15, .ctrs 6, .ctrs 8, .ctrs 10]
  | .elogRecordWrite => [.elog, .regs 11, .ctrs 11]
  | .elogSwCodeWrite .. => logParts ++ [.lane, .gate, .regs 6, .regs 8, .regs 9, .ctrs 6, .ctrs 8]
  | .elogRdIdxWrite .. => [.regs 11]
  | .clear => irqParts ++ [.elog, .regs 11]
  | .elogClearDone => [.elog, .freeCtr, .regs 11, .ctrs 11]
  | .exportLog => irqParts ++ [.elog, .regs 11]
  | .elogExportDone => logParts ++ [.mem, .lane, .gate, .fab, .core, .regs 6, .regs 8, .regs 9, .regs 15, .ctrs 6, .ctrs 8]
  | .portEnable .. => logParts ++ [.time, .swc, .port, .regs 2, .regs 12, .regs 13, .ctrs 2, .ctrs 12, .ctrs 13]
  | .portDisable .. => logParts ++ [.time, .swc, .port, .regs 2, .regs 12, .regs 13, .ctrs 2, .ctrs 12, .ctrs 13]
  | .portUpConditionChange .. => logParts ++ [.time, .swc, .port, .regs 2, .regs 12, .regs 13, .ctrs 2, .ctrs 12, .ctrs 13]
  | .upHoldExpiry .. => logParts ++ [.port, .regs 12, .ctrs 12]
  | .downHoldExpiry .. => logParts ++ [.time, .swc, .port, .regs 2, .regs 12, .regs 13, .ctrs 2, .ctrs 12, .ctrs 13]
  | .anComplete .. => logParts ++ [.time, .swc, .port, .regs 2, .regs 12, .regs 13, .ctrs 2, .ctrs 12, .ctrs 13]
  | .modabsChange .. => logParts ++ [.time, .swc, .port, .regs 2, .regs 12, .regs 13, .ctrs 2, .ctrs 12, .ctrs 13]
  | .i2cCmd .. => irqParts ++ [.port, .regs 12, .ctrs 12]
  | .i2cDone .. => irqParts ++ [.regs 12, .ctrs 12]
  | .eqTxWrite .. => logParts ++ [.regs 12]
  | .portTxthrWrite .. => logParts ++ [.regs 12]
  | .portTestWrite .. => logParts ++ [.time, .swc, .port, .regs 2, .regs 12, .regs 13, .ctrs 2, .ctrs 12, .ctrs 13]
  | .macRxFrame .. => irqParts ++ [.swc, .freeCtr, .regs 12, .regs 13, .ctrs 12, .ctrs 13]
  | .macTxStart .. => [.time, .port, .freeCtr, .regs 2, .regs 12, .ctrs 2, .ctrs 12]
  | .txUnderrun .. => [.port]
  | .wakeFrameDetect .. => [.clk]
  | .swcFrameAdmit .. => logParts ++ [.swc, .regs 13, .ctrs 13]
  | .swcTxCopy .. => logParts ++ [.svi, .goose, .swc, .port, .regs 13, .ctrs 13]
  | .swcFlushComplete .. => logParts ++ [.port, .regs 12, .regs 13, .ctrs 12]
  | .fdbAgeOut .. => [.swc, .regs 13, .ctrs 13]
  | .ddEntryExpire .. => [.swc]
  | .cpuRxDeliver => logParts ++ [.mem, .lane, .gate, .fab, .swc, .core, .freeCtr, .regs 5, .regs 6, .regs 8, .regs 9, .regs 13, .regs 15, .ctrs 5,
      .ctrs 6, .ctrs 8, .ctrs 13]
  | .cpuTxTailWrite .. => [.regs 13]
  | .cpuTxFrame => logParts ++ [.mem, .lane, .gate, .fab, .swc, .core, .freeCtr, .regs 5, .regs 6, .regs 8, .regs 9, .regs 13, .regs 15, .ctrs 5,
      .ctrs 6, .ctrs 8, .ctrs 13]
  | .flushFdbAll => [.swc]
  | .flushFdbPort => [.swc]
  | .vlanRd => [.mbx, .regs 13]
  | .vlanWr => [.mbx, .swc, .regs 13]
  | .fdbRd => [.mbx, .regs 13]
  | .fdbWr => [.mbx, .swc, .regs 13]
  | .fdbDel => [.mbx, .swc, .regs 13]
  | .mcRd => [.mbx, .regs 13]
  | .mcWr => [.mbx, .swc, .regs 13]
  | .fdbRdIndex => [.mbx, .regs 13]
  | .swcEnable => logParts ++ [.regs 13]
  | .pairEnable .. => logParts ++ [.regs 13]
  | .ringEnable .. => irqParts ++ [.regs 13]
  | .fabricAccess .. => allParts
  | .coreInstruction .. => allParts
  | .curWrite .. => allParts
  | .irqRouteEnable .. => logParts ++ allRegs
  | .iommuCommand => logParts ++ [.mem, .lane, .gate, .fab, .core, .freeCtr, .regs 5, .regs 6, .regs 8, .regs 9, .regs 15, .ctrs 5, .ctrs 6, .ctrs 8]
  | .pulse .. => logParts ++ [.lane, .gate, .regs 6, .regs 8, .regs 9, .ctrs 6, .ctrs 8]
  | .holdWrite .. => logParts ++ [.lane, .gate, .regs 6, .regs 8, .regs 9, .ctrs 6, .ctrs 8]
  | .resetPulseEnd .. => logParts ++ [.lane, .gate, .regs 6, .regs 8, .regs 9, .ctrs 6, .ctrs 8]
  | .wdKick .. => [.part]
  | .wdWarn .. => logParts
  | .wdExpiry .. => logParts ++ [.lane, .gate, .regs 6, .regs 8, .regs 9, .ctrs 6, .ctrs 8]
  | .wdConfigWrite .. => logParts ++ [.lane, .gate, .regs 6, .regs 8, .regs 9, .ctrs 6, .ctrs 8]
  | .lwdExpiry .. => logParts ++ [.lane, .gate, .regs 6, .regs 8, .regs 9, .ctrs 6, .ctrs 8]
  | .dwdKick .. => [.part]
  | .dwdWarn => logParts
  | .dwdExpiry => allParts
  | .qosPeriodStart => allParts
  | .apply => logParts ++ [.lane, .gate, .fab, .keys, .freeCtr, .regs 5, .regs 6, .regs 8, .regs 9, .regs 15, .ctrs 5, .ctrs 6, .ctrs 8, .ctrs 15]
  | .approve => logParts ++ [.lane, .gate, .fab, .keys, .freeCtr, .regs 5, .regs 6, .regs 8, .regs 9, .regs 15, .ctrs 5, .ctrs 6, .ctrs 8, .ctrs 15]
  | .attest => logParts ++ [.lane, .gate, .fab, .keys, .freeCtr, .regs 5, .regs 6, .regs 8, .regs 9, .regs 15, .ctrs 5, .ctrs 6, .ctrs 8]
  | .measure => irqParts ++ [.keys, .regs 15]
  | .keysExport => irqParts ++ [.keys, .regs 15]
  | .confirm => irqParts ++ [.keys, .regs 15]
  | .import => logParts ++ [.lane, .gate, .fab, .keys, .freeCtr, .regs 5, .regs 6, .regs 8, .regs 9, .regs 15, .ctrs 5, .ctrs 6, .ctrs 8]
  | .commit => irqParts ++ [.keys, .freeCtr, .regs 15]
  | .rootInstall => logParts ++ [.lane, .gate, .fab, .keys, .freeCtr, .regs 5, .regs 6, .regs 8, .regs 9, .regs 15, .ctrs 5, .ctrs 6, .ctrs 8]
  | .burnRoot => logParts ++ [.lane, .gate, .fab, .keys, .freeCtr, .regs 5, .regs 6, .regs 8, .regs 9, .regs 15, .ctrs 5, .ctrs 6, .ctrs 8]
  | .lcDevelop => irqParts ++ [.keys, .regs 15]
  | .lcSeal => irqParts ++ [.keys, .regs 15]
  | .lcDecommission => irqParts ++ [.keys, .regs 15]
  | .exportKtk => irqParts ++ [.keys, .regs 15]
  | .keysApplyEdge => logParts ++ [.keys, .freeCtr, .regs 15, .ctrs 15]
  | .keysScrub .. => logParts ++ [.keys, .regs 15, .ctrs 15]
  | .idReady => [.regs 9, .regs 15]
  | .tamperDetect .. => [.aonRegs, .keys, .aon, .freeCtr, .regs 15]
  | .zeroisation => logParts ++ [.keys, .boot, .regs 15, .ctrs 15]
  | .snapshot => [.bank, .snap, .clk, .regs 0, .ctrs 0]
  | .snapshotClear => [.bank, .snap, .clk, .regs 0] ++ allCtrs
  | .readSnapTime => [.mbx, .regs 0]
  | .aonWriteApply => allParts
  | .registerWrite .. => allParts
  | .memRetrain .. => logParts ++ [.fab]
  | .pllLockLost .. => allParts
  | .pllRelock .. => [.time, .clk, .regs 1, .regs 2, .ctrs 1, .ctrs 2]
  | .refLost => allParts
  | .refReturn => [.clk]
  | .resetPin .. => allParts
  | .softwareReset .. => allParts
  | .resetRelease .. => irqParts ++ [.time, .twin, .keys, .clk, .aon, .freeCtr, .regs 15, .regs 16]
  | .powerOnReset .. => allParts
  | .vbatLoss => [.aonRegs, .aon, .regs 0, .regs 15, .regs 16, .regs 17]
  | .testReset => [.core]
  | .bootInitDone .. => logParts ++ [.aonRegs, .mem, .time, .lane, .gate, .fab, .swc, .port, .boot, .core, .regs 1, .regs 2, .regs 6, .regs 8, .regs
      9, .regs 12, .regs 13, .regs 15, .regs 16, .regs 17, .ctrs 2, .ctrs 6, .ctrs 8, .ctrs 12, .ctrs 13]
  | .bootSlotLoaded .. => logParts ++ [.aonRegs, .mem, .time, .lane, .gate, .fab, .swc, .port, .keys, .aon, .boot, .core, .freeCtr, .regs 2, .regs
      5, .regs 6, .regs 8, .regs 9, .regs 12, .regs 13, .regs 15, .regs 16, .regs 17, .ctrs 2, .ctrs 5, .ctrs 6, .ctrs 8, .ctrs 12, .ctrs 13, .ctrs
      15]
  | .bootApplyDone => allParts
  | .flashRead => logParts ++ [.mbx, .lane, .gate, .boot, .regs 6, .regs 8, .regs 9, .regs 17, .ctrs 6, .ctrs 8]
  | .flashErase => irqParts ++ [.mbx, .boot, .regs 17]
  | .flashProg => logParts ++ [.mbx, .lane, .gate, .boot, .regs 6, .regs 8, .regs 9, .regs 17, .ctrs 6, .ctrs 8]
  | .bootConfirm => irqParts ++ [.mbx, .boot, .regs 17]
  | .setTrial => irqParts ++ [.mbx, .boot, .regs 17]
  | .forceRecovery => irqParts ++ [.mbx, .boot, .regs 17]
  | .flashOpTimeout => irqParts ++ [.mbx, .mem, .boot, .freeCtr, .regs 17]
  | .info .. => [.boot]
  | .stage .. => logParts ++ [.mem, .lane, .gate, .fab, .boot, .core, .regs 6, .regs 8, .regs 9, .regs 15, .ctrs 6, .ctrs 8]
  | .keymsg .. => logParts ++ [.lane, .gate, .fab, .keys, .boot, .freeCtr, .regs 5, .regs 6, .regs 8, .regs 9, .regs 15, .ctrs 5, .ctrs 6, .ctrs 8,
      .ctrs 15]
  | .recoveryApprove .. => logParts ++ [.lane, .gate, .fab, .keys, .boot, .freeCtr, .regs 5, .regs 6, .regs 8, .regs 9, .regs 15, .ctrs 5, .ctrs 6,
      .ctrs 8, .ctrs 15]
  | .root .. => irqParts ++ [.keys, .boot, .freeCtr, .regs 15]
  | .saveStore .. => irqParts ++ [.keys, .boot, .regs 15]
  | .program .. => logParts ++ [.lane, .gate, .fab, .boot, .freeCtr, .regs 5, .regs 6, .regs 8, .regs 9, .ctrs 5, .ctrs 6, .ctrs 8]
  | .reboot .. => allParts
  | .lowPowerEnter => allParts
  | .lowPowerWake => allParts
  | .readSec => [.mbx, .regs 16]
  | .secIncrement => [.time, .aon]
  | .jtagInstruction .. => allParts
  | .rallyCopyDiscard .. => irqParts ++ [.regs 9, .ctrs 9]
  | .safeNRelease .. => [.regs 8]

end Sys2Proof.Machine
end

