-- ==== Sys2Proof/Certificates/Slice0/Obligations.lean ====
section
/-! DEFINITION. The obligations: what the commands and the machine do, as the numbered rules of the spec say it. Each is a claim about every state, or about
every state that meets the conditions it names. -/

open Sys2Proof Sys2Proof.Machine

/-- A step with a command waiting takes the command at the front of the queue and runs it with the rest of the queue (the model's queue of commands, log
entry 1). -/
def Obligations.StepRunsTheFrontCommand : Prop :=
  ∀ (s : State) (c : Instr) (rest : List Instr), s.pending = c :: rest → step s = exec c { s with pending := rest }

/-- A step with no command waiting is one nanosecond of REF (DESIGN CHOICE, log entry 2): the count of REF and the AON domain's second advance always;
out of device reset one SYS edge passes, and as many TBC edges as the frequency adjustment gives, each advancing device time by one nanosecond (R39, R48). -/
def Obligations.IdleStepIsOneNanosecond : Prop :=
  ∀ s : State, s.pending = [] → ∃ t, step s = .next t ∧ t.pending = [] ∧ t.clk.ns = s.clk.ns + 1
    ∧ t.aon.sec * 1000000000 + t.aon.frac = (if s.aon.frac + 1 < 1000000000 then s.aon.sec * 1000000000 + s.aon.frac + 1 else (s.aon.sec + 1) % 2 ^ 48 * 1000000000)
    ∧ (s.clk.held = true → t = { s with clk := t.clk, aon := t.aon })
    ∧ (s.clk.held = false → t.time.sys = s.time.sys + 1
      ∧ (s.clk.tbcStop = true → t.time.tbc = s.time.tbc)
      ∧ (s.clk.tbcStop = false → t.time.tbc = s.time.tbc + ((s.time.phase : Int) + 2 ^ 38 + fadjOf s).toNat / 2 ^ 38
          ∧ t.time.phase = ((s.time.phase : Int) + 2 ^ 38 + fadjOf s).toNat % 2 ^ 38))

/-- The queue is first in, first out: a step takes the command at its front and adds none. -/
def Obligations.QueueIsFirstInFirstOut : Prop :=
  ∀ s t : State, step s = .next t → t.pending = s.pending.tail

/-- A sound state steps to a sound state: the memory keeps its canonical form, no register field is held twice, and no statistics counter passes
2^48 − 1 (R489, R493). -/
def Obligations.EveryStepKeepsSoundness : Prop :=
  ∀ s t : State, s.Sound → step s = .next t → t.Sound

/-- The state at reset is sound. -/
def Obligations.ResetStateIsSound : Prop := State.reset.Sound

/-- No step undoes a one-time fuse (R438, R439): the lifecycle does not go backwards, the burned root hash, the burned transport key and every burned counter
floor stand. -/
def Obligations.NoStepUndoesAFuse : Prop :=
  ∀ s t : State, step s = .next t → Fuses.Kept s.keys.fuses t.keys.fuses

/-- Every command runs: it answers a next state from every state, but for the device-test scan over JTAG in a lifecycle state that permits it, of which the
spec gives no effect and which is refused by name. -/
def Obligations.EveryCommandButTheTestScanRuns : Prop :=
  ∀ (c : Instr) (s : State), (∃ t, exec c s = .next t)
    ∨ (c = .jtagInstruction .testScan ∧ testOpen s = true ∧ exec c s = .refused .testScan)

/-- The frame of every command: a part of the machine that is not in the command's own list is the same after it. -/
def Obligations.CommandsTouchOnlyTheirParts : Prop :=
  ∀ (c : Instr) (s t : State), exec c s = .next t → ∀ p : Part, p ∉ touched c → p.Same s t

/-- A statistics counter counts each event up to 2^48 − 1 and then stays there (R493); a count that would pass it sets the overflow flag of the counter's
group, and a count that does not sets none. -/
def Obligations.CountersSaturate : Prop :=
  ∀ (s : State) (c : Ctr) (n i : Nat), (s.countBy c n i).ctr c i = min ctrMax (s.ctr c i + n)
    ∧ (s.ctr c i + n ≤ ctrMax → (s.countBy c n i).regs = s.regs)
    ∧ (ctrMax < s.ctr c i + n → c.how = .device → c.inst = none → c.ovf.width = 1 → (s.countBy c n i).flag c.ovf = true)
    ∧ { (s.countBy c n i) with cnts := s.cnts, regs := s.regs } = s

/-- Memory holds, byte by byte, what was last written at each address, and a write changes no other byte and nothing else (R26, R27). -/
def Obligations.MemoryReadsWhatWasWritten : Prop :=
  ∀ (s : State) (a : Nat) (l : List Nat) (b : Nat),
    (∀ j, j < l.length → b = a + j → (s.setMemBytes a l).memByte b = (l.getD j 0) % 256)
    ∧ ((b < a ∨ a + l.length ≤ b) → (s.setMemBytes a l).memByte b = s.memByte b)
    ∧ { (s.setMemBytes a l) with mem := s.mem } = s

/-- While device reset is asserted nothing but the clocks, the resets, the AON domain, the tamper balls and the TAP acts (R504, R505): every other command
leaves the machine as it was. -/
def Obligations.ResetHoldsEveryBlock : Prop :=
  ∀ (c : Instr) (s : State), s.clk.held = true →
    (match c with
     | .aonWriteApply | .pllRelock .. | .refLost | .refReturn | .resetPin .. | .resetRelease .. | .powerOnReset .. | .vbatLoss | .testReset | .lowPowerEnter
     | .lowPowerWake | .wakeFrameDetect .. | .tamperDetect .. | .jtagInstruction .. => True
     | _ => exec c s = .next s)

/-- The UTC offset and the discipline's source (R43, R49, R51): a pending TAI − UTC offset takes effect once SEC has been incremented by the running
count; a write of TIME_CTRL sets its five fields and nothing else while the effective source stays, and otherwise also moves the discipline to FREERUN, time
quality 0b11, with TIME_FADJ_SET, limited to ±200 ppm, applied when the new source is software. -/
def Obligations.TimeSourceAndUtcOffset : Prop :=
  ∀ s : State, s.clk.held = false →
    (∀ v, s.time.utcPend = some v → s.time.utcDue = true →
      exec .utcofsApply s = .next { s with time := { s.time with utcEff := v, utcPend := none, utcDue := false } })
    ∧ ∀ (v : Nat) (a : State),
      a = ((((s.setFld F.TIME_CTRL_DOMAIN (bitsOf v 31 24)).setFld F.TIME_CTRL_SLAVE_PORT (bitsOf v 23 20)).setFld F.TIME_CTRL_LOG_SYNC
        (bitsOf v 19 16)).setFld F.TIME_CTRL_SRC (bitsOf v 9 8)).setFld F.TIME_CTRL_STEP_EN (v % 2) →
      (effSource (bitsOf v 9 8) = effSource (s.fld F.TIME_CTRL_SRC) → exec (.timeCtrlWrite v) s = .next a)
      ∧ (effSource (bitsOf v 9 8) ≠ effSource (s.fld F.TIME_CTRL_SRC) → effSource (bitsOf v 9 8) = 0 →
          ∃ t, exec (.timeCtrlWrite v) s = .next t
            ∧ t.regs = (((a.setFld F.TIME_STAT_STATE 0).setFld F.TIME_STAT_TQ 3).setSfld F.TIME_FADJ_FADJ
                (clampInt (-54975581) 54975581 (s.sfld F.TIME_FADJ_SET_FADJ_SET))).regs
            ∧ { t with regs := s.regs, time := s.time } = s)
      ∧ (effSource (bitsOf v 9 8) ≠ effSource (s.fld F.TIME_CTRL_SRC) → effSource (bitsOf v 9 8) ≠ 0 →
          ∃ t, exec (.timeCtrlWrite v) s = .next t ∧ t.regs = ((a.setFld F.TIME_STAT_STATE 0).setFld F.TIME_STAT_TQ 3).regs
            ∧ { t with regs := s.regs, time := s.time } = s)

/-- What reaches the servo (R50, R555): a usable one-step Sync, a usable two-step Sync with its Follow_Up, and a pulse per second, each with its offset: for
a Sync T2 − T1, with RXTRIM added to T2, less the corrections and the mean link delay, formed exactly and rounded once to a whole nanosecond with ties to even; for a pulse the
nanoseconds of its capture, taken within half a second. -/
def Obligations.OffsetsReachTheDiscipline : Prop :=
  ∀ s : State, s.clk.held = false →
    (effSource (s.fld F.TIME_CTRL_SRC) = 1 → ∀ port m st, ∃ trim a rx, s.openRound (s.sfld F.TIME_P_RXTRIM_TRIM port * 65536) 1000 = (trim, a)
      ∧ rx = st.moved trim
      ∧ (m.twoStep = false → ∀ fu, syncUsable s port m st fu = true →
        exec (.syncRx port m st fu) s = .next (disciplineOffset a (divRoundEven
          ((((rx.t : Int) - ((m.tsSec * 1000000000 + m.tsNs : Nat) : Int) * 65536) - m.corr - (s.fld F.TIME_P_MLD_MLD port : Int) * 4096) * 1000
            - s.sfld F.TIME_P_ASYM_ASYM port * 65536) 65536000)))
      ∧ (m.twoStep = true → ∀ f frx, syncUsable s port m st (some (f, frx)) = true →
        exec (.syncRx port m st (some (f, frx))) s = .next (disciplineOffset a (divRoundEven
          ((((rx.t : Int) - ((f.tsSec * 1000000000 + f.tsNs : Nat) : Int) * 65536) - (m.corr + f.corr) - (s.fld F.TIME_P_MLD_MLD port : Int) * 4096) * 1000
            - s.sfld F.TIME_P_ASYM_ASYM port * 65536) 65536000))))
    ∧ (effSource (s.fld F.TIME_CTRL_SRC) = 2 → ∀ st : Stamp, st.epoch = s.fld F.TIME_STAT_EPOCH →
      exec (.ppsEdge st) s = .next (disciplineOffset s
        (if st.t / 65536 % 1000000000 < 500000000 then ((st.t / 65536 % 1000000000 : Nat) : Int)
         else ((st.t / 65536 % 1000000000 : Nat) : Int) - 1000000000)))

/-- The discipline loses its source or holds over too long (R47, R51): when the loss timer has expired, LOCKED goes to HOLDOVER with SYNC_LOSS and ACQUIRE,
never having been LOCKED, to FREERUN; when HOLD_LIMIT is reached, the time quality becomes 0b10 and HOLD_EXCEEDED is set. -/
def Obligations.SourceLossAndHoldLimit : Prop :=
  ∀ s : State, s.clk.held = false → ∀ d, d ≤ s.time.tbc →
    (s.time.lossAt = some d → s.fld F.TIME_STAT_STATE = 2 → ∃ t, exec .syncLossTimer s = .next t
      ∧ t.fld F.TIME_STAT_STATE = 3 ∧ t.fld F.TIME_STAT_TQ = 1 ∧ t.flag F.TIME_FLT_SYNC_LOSS = true ∧ t.time.lossAt = none
      ∧ t.fld F.TIME_FADJ_FADJ = unsigned 32 (holdoverFadj s)
      ∧ t.ctr C.TIME_HOLDOVER_ENTRIES = min ctrMax (s.ctr C.TIME_HOLDOVER_ENTRIES + 1) ∧ t.mem = s.mem)
    ∧ (s.time.lossAt = some d → s.fld F.TIME_STAT_STATE = 1 → s.time.everLocked = false →
      exec .syncLossTimer s = .next (setTq ({ s with time := { s.time with lossAt := none } }.setFld F.TIME_STAT_STATE 0) 3))
    ∧ (s.time.holdAt = some d → s.fld F.TIME_STAT_STATE = 3 →
      exec .holdLimitReached s = .next ((setTq { s with time := { s.time with holdAt := none } } 2).setFlt F.TIME_FLT_HOLD_EXCEEDED))

/-- TOUT and TIN (R74 to R82): arming a PERIODIC or ONCE channel that passes its checks, and disarming; the start of a due pulse, which lasts WIDTH TBC
edges, a PERIOD newly written taking effect there, and its end, after which ARM of a ONCE channel reads 0; the capture of a selected edge with the time quality and EPOCH of the moment. -/
def Obligations.PulsesAndCaptures : Prop :=
  ∀ (s : State) (n : Nat), s.clk.held = false → n < 8 →
    (∀ st, (s.tout n).start = some st → s.flag F.TIME_TOUT_CTRL_ARM n = false → toutArmRefused s n = false → s.fld F.TIME_TOUT_CTRL_MODE n = 1 →
      exec (.toutArm n true) s = .next ((s.setTout n { s.tout n with
          anchor := st, per := max 1 (s.fld F.TIME_TOUT_PERIOD_VAL n), next := st, late := decide (st < s.devNs), fired := false }).setFlag F.TIME_TOUT_CTRL_ARM true n))
    ∧ (∀ st, (s.tout n).start = some st → s.flag F.TIME_TOUT_CTRL_ARM n = false → toutArmRefused s n = false → s.fld F.TIME_TOUT_CTRL_MODE n = 2 →
      ∃ k, exec (.toutArm n true) s = .next ((s.setTout n { s.tout n with
          anchor := st, per := max 1 (s.fld F.TIME_TOUT_PERIOD_VAL n), next := st + k * max 1 (s.fld F.TIME_TOUT_PERIOD_VAL n), late := decide (st < s.devNs),
          fired := false }).setFlag F.TIME_TOUT_CTRL_ARM true n)
        ∧ s.devNs ≤ st + k * max 1 (s.fld F.TIME_TOUT_PERIOD_VAL n)
        ∧ ∀ j, s.devNs ≤ st + j * max 1 (s.fld F.TIME_TOUT_PERIOD_VAL n) → k ≤ j)
    ∧ (s.flag F.TIME_TOUT_CTRL_ARM n = true →
      exec (.toutArm n false) s = .next ((s.setTout n { s.tout n with start := none, late := false, fired := false }).setFlag F.TIME_TOUT_CTRL_ARM false n))
    ∧ (s.flag F.TIME_TOUT_CTRL_ARM n = true → (s.tout n).fired = false → (s.tout n).next ≤ s.devNs →
        s.fld F.TIME_STAT_TQ ≤ s.fld F.TIME_TOUT_CTRL_MIN_TQ n →
      (s.fld F.TIME_TOUT_CTRL_MODE n = 2 → s.fld F.TIME_TOUT_PERIOD_VAL n = (s.tout n).per → 0 < (s.tout n).per →
        exec (.toutPulseStart n) s = .next ((s.setTout n { s.tout n with
            next := (s.tout n).next + (s.tout n).per, late := false, active := true,
            pulseEnd := some (s.time.tbc + s.fld F.TIME_TOUT_WIDTH_VAL n) }).count C.TIME_TOUT_PULSES n))
      ∧ (s.fld F.TIME_TOUT_CTRL_MODE n = 2 → s.fld F.TIME_TOUT_PERIOD_VAL n ≠ (s.tout n).per → 0 < s.fld F.TIME_TOUT_PERIOD_VAL n →
        exec (.toutPulseStart n) s = .next ((s.setTout n { s.tout n with
            anchor := (s.tout n).next, per := s.fld F.TIME_TOUT_PERIOD_VAL n, next := (s.tout n).next + s.fld F.TIME_TOUT_PERIOD_VAL n,
            late := false, active := true, pulseEnd := some (s.time.tbc + s.fld F.TIME_TOUT_WIDTH_VAL n) }).count C.TIME_TOUT_PULSES n))
      ∧ (s.fld F.TIME_TOUT_CTRL_MODE n = 1 → (s.tout n).late = false →
        exec (.toutPulseStart n) s = .next ((s.setTout n { s.tout n with
            start := none, fired := true, active := true,
            pulseEnd := some (s.time.tbc + s.fld F.TIME_TOUT_WIDTH_VAL n) }).count C.TIME_TOUT_PULSES n)))
    ∧ (∀ e, (s.tout n).pulseEnd = some e → e ≤ s.time.tbc →
      exec (.toutPulseEnd n) s = .next ((s.setTout n { s.tout n with active := false, fired := false, pulseEnd := none }).setFlag F.TIME_TOUT_CTRL_ARM
        (s.flag F.TIME_TOUT_CTRL_ARM n && !(s.tout n).fired) n))
    ∧ (∀ (rising : Bool) (sub : Nat) (st : Stamp), bitOf (s.fld F.TIME_TIN_CTRL_EDGE n) (if rising then 0 else 1) = true → sub < 65536 →
        st = { t := s.devNs * 65536 + sub, tbc := s.time.tbc * 65536 + sub, epoch := s.fld F.TIME_STAT_EPOCH, tq := s.fld F.TIME_STAT_TQ } →
        (∀ l, (s.tin n).last = some l → l + 50 * 65536 < st.tbc) → (s.tin n).fifo.length < 16 →
      exec (.tinCapture n rising sub) s = .next ((s.setTin n { fifo := (s.tin n).fifo ++ [⟨st, rising⟩], last := some st.tbc }).count C.TIME_TIN_CAPTURED n))

/-- The TIME mailbox (R85, R488, R556): each of its commands, begun while the mailbox is not BUSY and its own condition holds, sampled at the first TBC edge at
or after the SYS edge, and the completion that writes the results. -/
def Obligations.TimeMailboxCommands : Prop :=
  ∀ s : State, s.clk.held = false → s.flag (mbxBusy 2) = false →
    (s.time.phase = 0 →
      exec .readNow s = .next (s.mbxStart 2 (timeLayout 1 (s.devNs * 65536) (s.fld F.TIME_STAT_TQ) 0 (s.fld F.TIME_STAT_EPOCH))))
    ∧ (s.time.phase ≠ 0 → s.devNs + 1 < 2 ^ 48 * 1000000000 →
      exec .readNow s = .next (s.mbxStart 2 (timeLayout 1 ((s.devNs + 1) * 65536) (s.fld F.TIME_STAT_TQ) 0 (s.fld F.TIME_STAT_EPOCH))))
    ∧ (effSource (s.fld F.TIME_CTRL_SRC) = 0 → s.time.phase = 0 →
      exec .setAbs s = .next (stepTime (s.mbxStart 2 (mbxEcho s 2 2))
          ((((s.fld (mbxData 2 0) % 65536 * 2 ^ 32 + s.fld (mbxData 2 1)) * 1000000000 + s.fld (mbxData 2 2) % 2 ^ 30 : Nat) : Int) - (s.devNs : Int)))
      ∧ exec .stepRel s = .next (stepTime (s.mbxStart 2 (mbxEcho s 2 3)) (signed 64 (s.fld (mbxData 2 0) * 2 ^ 32 + s.fld (mbxData 2 1)))))
    ∧ (effSource (s.fld F.TIME_CTRL_SRC) = 0 → s.time.phase ≠ 0 → ∀ b, b = s.mbxStart 2 (mbxEcho s 2 3) →
      exec .stepRel s = .next { b with time := { b.time with stepPend := some (signed 64 (s.fld (mbxData 2 0) * 2 ^ 32 + s.fld (mbxData 2 1))) } })
    ∧ (s.fld F.TIME_SEL_KIND = 1 → ∃ t, exec .loadTout s = .next t
      ∧ (t.tout (s.fld F.TIME_SEL_INDEX)).start = some ((s.fld (mbxData 2 0) % 65536 * 2 ^ 32 + s.fld (mbxData 2 1)) * 1000000000 + s.fld (mbxData 2 2) % 2 ^ 30)
      ∧ t.regs = (s.mbxStart 2 (mbxEcho s 2 4)).regs ∧ t.mem = s.mem)
    ∧ (s.fld F.TIME_SEL_KIND = 2 → ∀ c rest, (s.tin (s.fld F.TIME_SEL_INDEX)).fifo = c :: rest →
      exec .popTin s = .next ((s.setTin (s.fld F.TIME_SEL_INDEX) { s.tin (s.fld F.TIME_SEL_INDEX) with fifo := rest }).mbxStart 2
        (timeLayout 5 c.stamp.t c.stamp.tq (ofBit c.rising + 2) c.stamp.epoch)))
    ∧ ∀ b r, b ≠ 15 → b ≠ 17 → sparseFind b s.mbx = some r → r.ok = true →
      exec (.mailboxComplete b) s = .next (((((({ s with mbx := sparseDel b s.mbx }.setFlag (mbxBusy b) false).setFld (mbxData b 0) r.d0).setFld (mbxData b 1)
        r.d1).setFld (mbxData b 2) r.d2).setFld (mbxData b 3) r.d3).setFlag (mbxValid b) true)

/-- A step of device time (R44, R54): the sum taken modulo the width of SEC, EPOCH counted up modulo 2^16, one notice waiting with the amount, the new
EPOCH and the SYS edge of the step; the running counts of TBC and SYS, and memory, stand. That a sum below 0 leaves device time at 0 is the model's choice (DESIGN
CHOICE, at stepTime). -/
def Obligations.StepOfDeviceTime : Prop :=
  ∀ (s : State) (d : Int) (t : State), t = stepTime s d →
    t.time.sec = ((s.devNs : Int) + d).toNat / 1000000000 % 2 ^ 48 ∧ t.time.ns = ((s.devNs : Int) + d).toNat % 1000000000
    ∧ t.fld F.TIME_STAT_EPOCH = (s.fld F.TIME_STAT_EPOCH + 1) % 65536
    ∧ t.time.notices = s.time.notices ++ [(d, (s.fld F.TIME_STAT_EPOCH + 1) % 65536, s.time.sys)]
    ∧ t.time.tbc = s.time.tbc ∧ t.time.sys = s.time.sys ∧ t.mem = s.mem

/-- The step notice and the increment of SEC (R46, R54, R84, R556): from the SYS edge after the step on, a waiting notice ends the mailbox command that asked for
the step, is counted, logged with its amount and the new EPOCH, flagged, and handed to the sampled-value inputs, Tide, the converter, the gates, GOOSE and the recorder
in turn; at an increment of SEC while LOCKED the AON seconds counter takes SEC. -/
def Obligations.StepNoticeAndSecondsOfAon : Prop :=
  ∀ s : State, s.clk.held = false →
    (∀ a ep edge rest b c, s.time.notices = (a, ep, edge) :: rest → edge < s.time.sys →
      ((∀ r, sparseFind 2 s.mbx = some r → r.cmd ≠ 2 ∧ r.cmd ≠ 3) → c = { s with time := { s.time with notices := rest } }) →
      (∀ r, sparseFind 2 s.mbx = some r → r.cmd = 2 ∨ r.cmd = 3 → c = ({ s with time := { s.time with notices := rest } }).mbxEnd 2) →
      b = ((c.count C.TIME_STEPS).event 2 0x0201 0 (unsigned 64 a / 2 ^ 32) (unsigned 64 a % 2 ^ 32) ep).setFlt F.TIME_FLT_STEPPED →
      exec .stepNotice s = .next (drecStep (gooseStep (gateStep (fdcStep (tideStep (sviStep b (a * 65536) ep) (a * 65536)) (a * 65536)) a) a ep) a (a * 65536)))
    ∧ (s.time.secDue = true → s.fld F.TIME_STAT_STATE = 2 →
      exec .secIncrement s = .next { s with time := { s.time with secDue := false }, aon := { s.aon with sec := s.time.sec, frac := 0 } })

/-- Peer delay (R60 to R62): a request on a port with PDELAY_EN is answered beside the queues, a request due is sent, and a response to the request
outstanding gives, when it lies in range, a measurement, the first of a new mean, that makes the peer delay valid; every ingress time-stamp has RXTRIM added. What goes out on an idle line
leaves at once: the one-step answer names the requester and carries the turnaround, the request is counted and remembered with the time-stamp at which it left. -/
def Obligations.PeerDelayMeasured : Prop :=
  ∀ (s : State) (p : Nat), s.clk.held = false → p < 8 → s.flag F.TIME_P_CTRL_PDELAY_EN p = true →
    (oobReady s p = true → ∀ m rx, m.msgType = 2 →
      exec (.pdelayReqRx p m rx) s = .next (sendOob (ingressStamp s p rx).2 p (.pdResp m (ingressStamp s p rx).1)))
    ∧ (oobReady s p = true → (s.ptpPort p).nextReq = none → s.flag F.TIME_P_STAT_PD_VALID p = false →
      exec (.pdelayReqTx p) s = .next (sendOob (s.setPtpPort p { s.ptpPort p with
          noMeas := min 3 ((s.ptpPort p).noMeas + 1), seq := ((s.ptpPort p).seq + 1) % 65536, outstanding := none,
          nextReq := some (s.time.tbc + logSeconds 1 (s.sfld F.TIME_P_CTRL_LOG_PDELAY p)) }) p (.pdReq {
          msgType := 2, domain := s.fld F.TIME_CTRL_DOMAIN, twoStep := false, corr := 0, srcId := portId s p,
          seq := ((s.ptpPort p).seq + 1) % 65536, tsSec := 0, tsNs := 0, reqId := 0, rest := [] })))
    ∧ (∀ m rx t1 d c trim a mean b, m.msgType = 3 → m.twoStep = false → (s.ptpPort p).outstanding = some (m.seq, t1) → m.reqId = portId s p →
        c = s.count C.TIME_P_PDRESP_RX p → s.ctr C.TIME_P_PDRESP_RX p < ctrMax → c.openRound (s.sfld F.TIME_P_RXTRIM_TRIM p * 65536) 1000 = (trim, a) →
        a.openRound d 8192 = (mean, b) → d = ((rx.moved trim).t : Int) - (t1.t : Int) - m.corr → 0 ≤ d → d ≤ (s.fld F.TIME_P_CTRL_PDELAY_MAX p : Int) * 131072 →
        rx.epoch = t1.epoch → s.flag F.TIME_P_STAT_PD_VALID p = false →
      exec (.pdelayRespRx p m rx none) s = .next (((b.setPtpPort p { s.ptpPort p with meas := [d], noMeas := 0, outstanding := none }).setFld
          F.TIME_P_MLD_MLD mean.toNat p).setFlag F.TIME_P_STAT_PD_VALID true p))
    ∧ (oobReady s p = true → (s.portCh p).oob = [] → (s.portCh p).txEnd ≤ s.time.sys → ∀ tx, tx = (egressStamp s p).1 →
      (s.flag F.TIME_P_CTRL_RESP_TWO_STEP p = false → ∀ m rx, ((sendOob s p (.pdResp m rx)).portCh p).sent = some (pdelayFrame s p { m with
          msgType := 3, twoStep := false, corr := m.corr + ((tx.tbc : Int) - (rx.tbc : Int)), srcId := portId s p, tsSec := 0, tsNs := 0, reqId := m.srcId, rest := [] }))
      ∧ ∀ m, ((sendOob s p (.pdReq m)).portCh p).sent = some (pdelayFrame s p m)
        ∧ ((sendOob s p (.pdReq m)).ptpPort p).outstanding = some (m.seq, tx)
        ∧ (sendOob s p (.pdReq m)).ctr C.TIME_P_PDREQ_TX p = min ctrMax (s.ctr C.TIME_P_PDREQ_TX p + 1))

/-- The transparent clock (R64 to R69): a one-step Sync leaves with the residence and link delay added to its correctionField, a two-step Sync leaves as it
came with its correction recorded against the port, and the Follow_Up that matches a record takes the recorded correction away with it. -/
def Obligations.TransparentClock : Prop :=
  ∀ (s : State) (p : Nat) (x : SwCopy) (m : PtpMsg), s.clk.held = false → (s.portCh p).fifo = some x → ptpOf x.frame = some m →
      s.flag F.TIME_P_CTRL_TC_EN p = true → x.inPort < 8 → (s.portCh p).txEnd ≤ s.time.sys →
    (m.msgType = 0 → m.twoStep = false → ∃ t c, exec (.syncEgressCorrect p) s = .next t
      ∧ c = (syncCorrection (s.setPortCh p { s.portCh p with fifo := none }) p x.inPort x.stamp).1
      ∧ (t.portCh p).sent = some { x.frame with payload := .ptp { m with corr := min (2 ^ 63 - 1) (m.corr + c) } }
      ∧ (t.portCh p).fifo = none ∧ t.mem = s.mem)
    ∧ (m.msgType = 0 → m.twoStep = true → (s.ptpPort p).recs.length < 32 → ∃ t c r, exec (.twoStepSyncRecord p) s = .next t
      ∧ c = (syncCorrection (s.setPortCh p { s.portCh p with fifo := none }) p x.inPort x.stamp).1
      ∧ (t.portCh p).sent = some x.frame
      ∧ r = { ingress := x.inPort, domain := m.domain, srcId := m.srcId, seq := m.seq, corr := c, syncTbc := x.stamp.tbc / 65536 }
      ∧ (t.ptpPort p).recs = (s.ptpPort p).recs.filter (fun e => !e.sameKey r) ++ [r]
      ∧ (t.portCh p).fifo = none ∧ t.mem = s.mem)
    ∧ (m.msgType = 8 → ∀ r, (s.ptpPort p).recs = [r] → r.ingress = x.inPort → r.domain = m.domain → r.srcId = m.srcId → r.seq = m.seq →
        x.stamp.tbc / 65536 ≤ r.syncTbc + 100000000 → ∃ t, exec (.followUpEgress p) s = .next t
      ∧ (t.portCh p).sent = some { x.frame with payload := .ptp { m with corr := min (2 ^ 63 - 1) (m.corr + r.corr) } }
      ∧ (t.ptpPort p).recs = [] ∧ (t.portCh p).fifo = none ∧ t.mem = s.mem)

/-- A group starts at angle zero (R87): at the enable of a group that passes its checks, X is 0 at the device time at which the enable takes effect. -/
def Obligations.GroupStartsAtAngleZero : Prop :=
  ∀ (s : State) (g : Nat), s.clk.held = false → s.recovering = false → g < 8 → grpEn s g = false → enableRefused s g = false →
    ∃ t, exec (.groupEnable g) s = .next t ∧ (t.grp g).x = 0 ∧ (t.grp g).b = s.devT ∧ t.devT = s.devT ∧ angleAt t g s.devT = some (0, false)

/-- Windows on the extended angle (R88): W is 24, 48, 96 or 192 as WPC selects, the window number of X is floor(X × W / 2^32), and window N is the range of
angles from ceil(N × 2^32 / W), inclusive, to ceil((N + 1) × 2^32 / W), exclusive. -/
def Obligations.WindowNumberAndBoundary : Prop :=
  ∀ (s : State) (g : Nat),
    (s.fld F.TIDE_G_CFG_WPC g = 0 → wpc s g = 24) ∧ (s.fld F.TIDE_G_CFG_WPC g = 1 → wpc s g = 48)
    ∧ (s.fld F.TIDE_G_CFG_WPC g = 2 → wpc s g = 96) ∧ (s.fld F.TIDE_G_CFG_WPC g = 3 → wpc s g = 192)
    ∧ ∀ x n, (winOf (wpc s g) x = n ↔ winAngle (wpc s g) n ≤ x ∧ x < winAngle (wpc s g) (n + 1))
      ∧ n * 2 ^ 32 ≤ winAngle (wpc s g) n * wpc s g ∧ winAngle (wpc s g) n * wpc s g < n * 2 ^ 32 + wpc s g

/-- The enable and disable of a group (R103, R109): refused, a GEN bit written 1 sets CFG_ERR and leaves the group off; accepted, the group enters FREERUN at its first
boundary, now, with no window fixed, and the entry is counted. A GEN bit written 0 takes the group OFF and discards its map, of which a lane window in progress keeps
its own window and the one before until its commit. RESYNC and FORCE_FREERUN wait for the first evaluation after them. -/
def Obligations.GroupEnableAndDisable : Prop :=
  ∀ (s : State) (g : Nat), s.clk.held = false → s.recovering = false → g < 8 →
    (grpEn s g = false → enableRefused s g = true → ∃ t, exec (.groupEnable g) s = .next t ∧ t.flag F.TIDE_FLT_CFG_ERR = true
      ∧ grpEn t g = false ∧ t.tide = s.tide ∧ t.mem = s.mem)
    ∧ (grpEn s g = false → enableRefused s g = false → grpState s g = gtOff → ∃ t, exec (.groupEnable g) s = .next t ∧ grpEn t g = true
      ∧ grpState t g = gtFreerun ∧ (t.grp g).k = 0 ∧ (t.grp g).x = 0 ∧ (t.grp g).b = s.devT ∧ (t.grp g).wins = []
      ∧ t.ctr C.TIDE_G_FREERUNS g = min ctrMax (s.ctr C.TIDE_G_FREERUNS g + 1) ∧ t.mem = s.mem)
    ∧ (grpEn s g = true → ∃ t, exec (.groupDisable g) s = .next t ∧ grpEn t g = false ∧ grpState t g = gtOff
      ∧ (t.grp g).cur = (s.grp g).cur ∧ t.mem = s.mem
      ∧ ((s.grp g).cur = none → (t.grp g).wins = [])
      ∧ (∀ c, (s.grp g).cur = some c → (t.grp g).wins = (s.grp g).wins.filter fun w => decide (w.n = c.n) || decide (w.n = (c.n + 2 ^ 32 - 1) % 2 ^ 32)))
    ∧ (grpState s g ≠ gtOff →
      exec (.resync g) s = .next (s.setGrp g { s.grp g with cmds := (s.grp g).cmds ++ [(1, s.time.sys)] })
      ∧ exec (.forceFreerun g) s = .next (s.setGrp g { s.grp g with cmds := (s.grp g).cmds ++ [(2, s.time.sys)] }))

/-- The evaluation of a boundary (R90, R95, R98 to R106): due D after the boundary and not before, and once the reference samples up to the boundary are released, at
the latest 1 µs later, it fixes window k from the boundary's angle and instant with the INC
of the frequency that the loop gives, limited to FMIN and FMAX; it moves the boundary on by one window; it takes the state that R103 gives and writes PHERR,
ROCOF and the flags. -/
def Obligations.TideEvaluationFixesAWindow : Prop :=
  ∀ (s : State) (g : Nat), s.clk.held = false → g < 8 → grpEn s g = true →
    (s.devT < (s.grp g).b + adepth s g * 65536 → exec (.tideEvaluation g) s = .next s)
    ∧ (s.devT < (s.grp g).b + adepth s g * 65536 + 65536000 → refsReleased s g (s.grp g).b = false → exec (.tideEvaluation g) s = .next s)
    ∧ ((s.grp g).b + adepth s g * 65536 ≤ s.devT → refsReleased s g (s.grp g).b = true ∨ (s.grp g).b + adepth s g * 65536 + 65536000 ≤ s.devT → (tideNext s g (evalVals s g)).1 < 8 → ∃ t f0 f, exec (.tideEvaluation g) s = .next t
      ∧ f = Q.max ⟨s.fld F.TIDE_G_FLIM_FMIN g, 100⟩ (Q.min ⟨s.fld F.TIDE_G_FLIM_FMAX g, 100⟩ f0)
      ∧ (t.grp g).k = (s.grp g).k + 1
      ∧ (t.grp g).wins.head? = some { n := (s.grp g).k % 2 ^ 32, x := (s.grp g).x, b := (s.grp g).b, inc := incOf f, f := f }
      ∧ (t.grp g).x = ((s.grp g).x + (winAngle (wpc s g) ((s.grp g).k + 1) - winAngle (wpc s g) (s.grp g).k)) % 2 ^ 64
      ∧ (s.grp g).b ≤ (t.grp g).b
      ∧ grpState t g = (tideNext s g (evalVals s g)).1
      ∧ t.flag F.TIDE_G_STAT_REF_OK g = (evalVals s g).refOk
      ∧ t.fld F.TIDE_G_PHERR_VAL g = descNum ((evalVals s g).e.map fun e => Q.scale e (2 ^ 32)) % 2 ^ 32
      ∧ t.mem = s.mem ∧ t.time = s.time)

/-- The TIDE mailbox (R95, R96, R116): on the group that TIDE_SEL selects, READ_LIVE gives the angle now, TIME_TO_ANG the angle of the time in the operand and
ANG_TO_TIME the time of the angle in the operand, each by the group's map where R96 admits it, and refused where it does not. -/
def Obligations.TideMailboxConverts : Prop :=
  ∀ (s : State) (g : Nat), s.clk.held = false → s.flag (mbxBusy 3) = false → s.fld F.TIDE_SEL_KIND = 0 → s.fld F.TIDE_SEL_INDEX = g → g ≤ 7 →
    (∀ x p, timeToAng s g s.devT = some (x, p) → exec .readLive s = .next (s.mbxStart 3 (tideLayout 1 x s.devNs p)))
    ∧ (timeToAng s g s.devT = none → exec .readLive s = .next (s.mbxRefuse 3))
    ∧ (∀ ns x p, ns = (s.mbxD 3 0 % 65536 * 2 ^ 32 + s.mbxD 3 1) * 1000000000 + s.mbxD 3 2 % 2 ^ 30 → timeToAng s g (ns * 65536) = some (x, p) →
      exec .timeToAng s = .next (s.mbxStart 3 (tideLayout 2 x ns p)))
    ∧ (∀ now q x ns p, timeToAng s g s.devT = some (now, q) → x = nearestCyc (now / 2 ^ 32) (s.mbxD 3 0 / 65536 % 65536) * 2 ^ 32 + s.mbxD 3 3 →
      angToTime s g x = some (ns, p) → exec .angToTime s = .next (s.mbxStart 3 (tideLayout 3 x ns p)))

/-- Lane windows (R92, R106, R108, R194, R196): a window that is due starts at its boundary plus D and DRO and is shown in WIN and INC, with its descriptor words and
its schedule; a slot that runs in it opens at its START on the pair of its table, with the regions it then has, the committed vector in the staging vector and execution
at the slot's entry; at the window's end the commit leaves the group without a window in progress. -/
def Obligations.LaneWindowsRun : Prop :=
  ∀ (s : State) (g : Nat), s.clk.held = false → g < 8 →
    (∀ w, windowDue s g = some w → (s.grp g).cur = none → ∃ t c, exec (.laneWindowStart g) s = .next t ∧ (t.grp g).cur = some c
      ∧ c.n = w.n ∧ c.map = w ∧ c.slots = windowSlots s g w.n ∧ c.opened = [] ∧ c.start = w.b + laneDelay s g ∧ c.stop = windowEnd s g w + laneDelay s g
      ∧ [c.d1, c.d2, c.d3, c.d4, c.d5, c.d6] = (List.range 6).map (fun i => (sparseGet [] (s.grp g).desc w.n).getD i 0)
      ∧ t.fld F.TIDE_G_WIN_VAL g = w.n % 2 ^ 32 ∧ t.fld F.TIDE_G_INC_VAL g = w.inc % 2 ^ 32
      ∧ t.ctr C.TIDE_G_WINDOWS g = min ctrMax (s.ctr C.TIDE_G_WINDOWS g + 1) ∧ t.mem = s.mem)
    ∧ (∀ n j w e m, (List.range 8).find? (fun g => ((s.grp g).cur.bind fun w => slotIn w n j).isSome) = some g → (s.grp g).cur = some w → slotIn w n j = some e →
      e.runs = true → slotOpened w e.part = false → e.start ≤ laneElapsed s w → s.devT < w.stop → s.keys.lifecycle ≠ lcDecommissioned → (s.lpart e.part).outcome = 0 →
      tableDead s e.tab = false → slotHeld s e.part = false → pairOfTable s e.tab = some m → (s.pair m).run = false → (s.pair m).halted = false →
      ∃ t, exec (.slotStart n j) s = .next t ∧ (t.pair m).run = true ∧ (t.pair m).slot = e.idx ∧ (t.pair m).part = e.part
        ∧ (t.pair m).regs = slotRegions s e.tab e.idx ∧ (t.pair m).pc = BitVec.ofNat 32 (slotCodeBase s e.tab e.idx * 1024 + slotEntry s e.tab e.idx)
        ∧ (t.pair m).staging = (s.lpart e.part).vec ∧ (t.pair m).desc = slotDesc s w e ∧ (t.pair m).x = List.replicate 32 0
        ∧ (t.pair m).start = e.start ∧ (t.pair m).limit = min e.budget (w.workEnd - (e.start + 512))
        ∧ (t.lpart e.part).first = 0 ∧ (t.grp g).cur = some { w with opened := e.part :: w.opened }
        ∧ t.ctr C.TIDE_T_RUN e.part = min ctrMax (s.ctr C.TIDE_T_RUN e.part + 1))
    ∧ (commitDue s g = true → (∀ h, h < g → commitDue s h = false) → exec (.windowCommit g) s = .next (windowCommit s g) ∧ ((windowCommit s g).grp g).cur = none)
    ∧ (commitDue s g = false → exec (.windowCommit g) s = .next s)

/-- The commit of one partition's window (R203, R204): COMMITTED or HELD, its pending vector becomes the committed one; otherwise the committed vector stands; the
pending vector is gone, the status is the one shown, and a partition that was COMMITTED is counted. -/
def Obligations.CommitTakesThePendingVector : Prop :=
  ∀ (s : State) (w : LaneWin) (e : LaneSlot) (p : Nat), e.part = p → p < 128 → e.tab < 24 → e.runs = true →
    (∀ v, (s.lpart p).outcome = wsCommitted → (s.lpart p).pendVec = some v → ((commitPart s w e).lpart p).vec = v
      ∧ (commitPart s w e).ctr C.LANE_T_COMMITS p = min ctrMax (s.ctr C.LANE_T_COMMITS p + 1))
    ∧ ((s.lpart p).outcome ≠ wsCommitted → (s.lpart p).outcome ≠ wsHeld → ((commitPart s w e).lpart p).vec = (s.lpart p).vec
      ∧ (commitPart s w e).mem = s.mem)
    ∧ ((commitPart s w e).lpart p).pendVec = none ∧ ((commitPart s w e).lpart p).outcome = 0
    ∧ ((commitPart s w e).lpart p).lastStatus = (s.lpart p).outcome
    ∧ (commitPart s w e).fld F.LANE_T_STAT_STATUS_LAST p = (s.lpart p).outcome % 2 ^ F.LANE_T_STAT_STATUS_LAST.width

/-- Failover (R112 to R115, R211, R212): a divergence in a pair that runs a table stops and marks the pair FAILED, counts it, and gives its table to the lowest idle
spare, which begins to attach; with no spare left NO_SPARE is set. A spare whose attachment ends has cleared registers. An idle spare that fails its self-test
is FAILED. -/
def Obligations.LockstepFailover : Prop :=
  ∀ (s : State) (n : Nat), s.clk.held = false → n < 24 →
    (∀ k m rest, s.tide.failEdge ≠ s.time.sys → s.fld F.TIDE_P_STAT_TABLE n = k → k ≠ noTable → s.fld F.TIDE_P_STAT_RUN n = 1 → idleSpares s = m :: rest →
      ∃ t, exec (.lockstepMismatch n) s = .next t ∧ t.fld F.TIDE_P_STAT_RUN n = 2 ∧ t.fld F.TIDE_P_STAT_TABLE n = noTable
        ∧ t.flag F.TIDE_P_STAT_MISMATCH n = true ∧ t.fld F.TIDE_P_STAT_RUN m = 1 ∧ t.fld F.TIDE_P_STAT_TABLE m = k % 32
        ∧ (t.pair m).attachAt = some (s.time.sys + 1000) ∧ t.flag F.TIDE_FLT_FAILOVER = true)
    ∧ (∀ k, s.tide.failEdge ≠ s.time.sys → s.fld F.TIDE_P_STAT_TABLE n = k → k ≠ noTable → s.fld F.TIDE_P_STAT_RUN n = 1 → idleSpares s = [] →
      ∃ t, exec (.lockstepMismatch n) s = .next t ∧ t.fld F.TIDE_P_STAT_RUN n = 2 ∧ t.flag F.TIDE_FLT_NO_SPARE = true)
    ∧ ((s.pair n).attachAt.isSome → ∃ t, exec (.spareAttachDone n) s = .next t ∧ (t.pair n).attachAt = none ∧ (t.pair n).x = List.replicate 32 0
        ∧ (t.pair n).f = List.replicate 32 0 ∧ { t with lane := s.lane } = s)
    ∧ (n ∈ idleSpares s → s.flag F.LANE_CTRL_SPARE_TEST = true →
      ∃ t, exec (.spareSelftestFail n) s = .next t ∧ t.fld F.TIDE_P_STAT_RUN n = 2 ∧ t.flag F.LANE_FLT_SPARE_TEST = true
        ∧ t.ctr C.LANE_SPARE_TEST_FAILS = min ctrMax (s.ctr C.LANE_SPARE_TEST_FAILS + 1) ∧ t.mem = s.mem)

/-- The enables, limits and commands of Estuary (R124, R135 to R138, R148, R154): an enable that fails a check sets CFG_REFUSED and CFG_ERR and leaves EN 0; accepted, EN is 1 and
acts at the stream's next grid instant, as a disable does; with LOCK set either is a lock violation. STEP_WAIT that reaches its end without a fitting frame ends with STEP_TIMEOUT. CLR_TMAX and EST_RESTART act on the
selected stream. A depth is written only while the group and its streams are off, and only inside 100,000 to 4,000,000 ns. -/
def Obligations.StreamEnablesAndLimits : Prop :=
  ∀ (s : State) (n : Nat), s.clk.held = false → n < 512 →
    (s.flag F.SVI_CTRL_LOCK = true → (streamEn s n = false → exec (.streamEnable n) s = .next (s.lockViolation 0 0x40040200 0x80000000))
      ∧ (streamEn s n = true → exec (.streamDisable n) s = .next (s.lockViolation 0 0x40040200 0)))
    ∧ (s.flag F.SVI_CTRL_LOCK = false → streamEn s n = false → streamRefused s n = true → ∃ t, exec (.streamEnable n) s = .next t ∧ t.flag F.SVI_S_FLT_CFG_REFUSED n = true
      ∧ t.flag F.SVI_FLT_CFG_ERR = true ∧ streamEn t n = false ∧ t.svi = s.svi ∧ t.mem = s.mem)
    ∧ (s.flag F.SVI_CTRL_LOCK = false → streamEn s n = false → streamRefused s n = false → ∃ t, exec (.streamEnable n) s = .next t ∧ streamEn t n = true
      ∧ t.svi.enWait = s.svi.enWait ++ [(n, gridInst (streamRate s n) (gridAt (streamRate s n) s.devT + 1), true)]
      ∧ t.svi.streams = s.svi.streams ∧ streamState t n = streamState s n ∧ t.mem = s.mem)
    ∧ (s.flag F.SVI_CTRL_LOCK = false → streamEn s n = true → ∃ t, exec (.streamDisable n) s = .next t ∧ streamEn t n = false
      ∧ t.svi.enWait = s.svi.enWait ++ [(n, gridInst (streamRate s n) (gridAt (streamRate s n) s.devT + 1), false)]
      ∧ t.svi.streams = s.svi.streams ∧ streamState t n = streamState s n ∧ t.mem = s.mem)
    ∧ (∀ e, (s.stream n).stepEnd = some e → e ≤ s.time.sys → ∃ t, exec (.stepGuardExpiry n) s = .next t ∧ (t.stream n).stepEnd = none
      ∧ t.flag F.SVI_S_STAT_STEP_WAIT n = false ∧ t.flag F.SVI_S_FLT_STEP_TIMEOUT n = true ∧ t.flag F.SVI_FLT_STEP_TIMEOUT = true
      ∧ (t.stream n).held = (s.stream n).held ∧ streamState t n = streamState s n ∧ t.mem = s.mem)
    ∧ (s.fld F.SVI_SEL_KIND = 0 → s.fld F.SVI_SEL_INDEX = n → ∃ t, exec .clrTmax s = .next t ∧ t.fld F.SVI_S_TMAX_VAL n = 0
      ∧ (t.stream n).tmaxSet = false ∧ t.mem = s.mem)
    ∧ (s.fld F.SVI_SEL_KIND = 0 → s.fld F.SVI_SEL_INDEX = n →
      exec .estRestart s = .next (if streamState s n = ssEstimated then s.setStream n { s.stream n with fresh := true } else s))
    ∧ (∀ g v, g < 8 → v < 2 ^ 22 →
      ((grpEn s g = true ∨ s.flag F.SVI_CTRL_LOCK = true ∨ ∃ m, m < 512 ∧ streamEn s m = true ∧ streamGroup s m = g) → v ≠ adepth s g →
        exec (.adepthWrite g v) s = .next (s.lockViolation 0 (0x40040020 + 4 * g) v))
      ∧ (grpEn s g = false → s.flag F.SVI_CTRL_LOCK = false → (∀ m, m < 512 → ¬ (streamEn s m = true ∧ streamGroup s m = g)) →
        exec (.adepthWrite g v) s = .next (if v < 100000 ∨ 4000000 < v then s.setFlt F.SVI_FLT_CFG_ERR else s.setFld (F.SVI_ADEPTH_D.el g) v)))

/-- The frames and the fingerprints of Estuary (R117, R121, R122, R153): the frame at the head of the SVI port is taken and counted; with the block off it is dropped and counted so;
with no entry that matches, UNMATCHED is counted and flagged; a frame of an entry that needs no authentication and fails no check has its samples placed. The fingerprint of a window falls due 3 µs after its boundary plus D, is stored for its partition, and is counted. -/
def Obligations.SampledValueFrames : Prop :=
  ∀ (s : State), s.clk.held = false → s.svi.enWait = [] →
    (∀ r rest, s.svi.inbox = r :: rest → s.flag F.SVI_CTRL_EN = false → ∃ t, exec .svFrameRx s = .next t ∧ t.svi.inbox = rest ∧ t.svi.streams = s.svi.streams
      ∧ t.ctr C.SVI_FRAMES_IN = min ctrMax (s.ctr C.SVI_FRAMES_IN + 1) ∧ t.ctr C.SVI_DISABLED_DROP = min ctrMax (s.ctr C.SVI_DISABLED_DROP + 1)
      ∧ t.mem = s.mem)
    ∧ (∀ r p rest, s.svi.inbox = r :: rest → s.flag F.SVI_CTRL_EN = true → r.frame.payload = .sv p →
      (r.frame.etype ≠ 0x88BA ∨ ∀ n, n < 512 → frameMatches s r.frame p n = false) →
      ∃ t, exec .svFrameRx s = .next t ∧ t.svi.inbox = rest ∧ t.svi.streams = s.svi.streams ∧ t.flag F.SVI_FLT_UNMATCHED = true
        ∧ t.ctr C.SVI_UNMATCHED = min ctrMax (s.ctr C.SVI_UNMATCHED + 1) ∧ t.mem = s.mem)
    ∧ (∀ r p n rest b q, s.svi.inbox = r :: rest → s.flag F.SVI_CTRL_EN = true → r.frame.payload = .sv p → r.frame.etype = 0x88BA →
      (List.range 512).find? (frameMatches s r.frame p) = some n → frameBad s p n = false → (∀ x ∈ p.asdus, x.confRev = s.fld F.SVI_S_CONFREV_CONFREV n) →
      p.sim = s.flag F.SVI_S_CTL_SIM n → s.fld F.SVI_S_CTL_AUTH n = 0 →
      b = (({ s with svi := { s.svi with inbox := rest } }).count C.SVI_FRAMES_IN).count C.SVI_S_FRAMES n →
      q = frameSamples b n r.stamp.t (s.fld F.SVI_S_CTL_NVAL n) true p.asdus →
      exec .svFrameRx s = .next (placeFrame q.2 n r.stamp.t ((r.wire + 20) * 8) r.kbps (p.asdus.all fun x => decide (x.smpSynch = 2))
        ((p.asdus.getLast?.map SvAsdu.smpSynch).getD 0) q.1))
    ∧ (∀ p tb j g w, slotOf s p = some (tb, j) → s.fld F.TIDE_P_CFG_GROUP tb = g → grpEn s g = true →
      fpNext s p (s.grp g).wins (fun n => slotRuns s tb j n) = some w →
      (s.devT < w.b + (adepth s g + 3000) * 65536 → exec (.fingerprintComplete p) s = .next s)
      ∧ (w.b + (adepth s g + 3000) * 65536 ≤ s.devT → ∃ t, exec (.fingerprintComplete p) s = .next t
        ∧ t.fps p = ((fingerprint s p g w.n (fpFrom s tb j g w) w.b) :: s.fps p).take 64
        ∧ (∀ i, i < 4 → t.fld (F.SVI_P_FP_FP.el i) p = (fingerprint s p g w.n (fpFrom s tb j g w) w.b).getD i 0 % 2 ^ 32)
        ∧ t.ctr C.SVI_FINGERPRINTS = min ctrMax (s.ctr C.SVI_FINGERPRINTS + 1) ∧ t.mem = s.mem))

/-- Placing and releasing samples (R139 to R147): a late or an early sample is discarded and counted so, a duplicate is counted and discarded, any other is held in the order of
instants; the grid instant whose time has come is released, the next one is the grid number after it, and no sample at or before it is held any more. -/
def Obligations.SamplesArePlacedAndReleased : Prop :=
  ∀ (s : State) (n : Nat), n < 512 →
    (∀ a wire kbps x,
      (sampleLate s n a wire kbps x.inst = true → ∃ t, placeSample s n a wire kbps x = (false, t) ∧ t.ctr C.SVI_S_LATE n = min ctrMax (s.ctr C.SVI_S_LATE n + 1)
        ∧ t.flag F.SVI_S_FLT_LATE n = true ∧ t.svi = s.svi)
      ∧ (sampleLate s n a wire kbps x.inst = false → sampleEarly s n a x.inst = true → ∃ t, placeSample s n a wire kbps x = (false, t)
        ∧ t.ctr C.SVI_S_EARLY n = min ctrMax (s.ctr C.SVI_S_EARLY n + 1) ∧ t.flag F.SVI_S_FLT_EARLY n = true ∧ t.svi = s.svi)
      ∧ (sampleLate s n a wire kbps x.inst = false → sampleEarly s n a x.inst = false → (∃ h ∈ (s.stream n).held, h.inst = x.inst) →
        ∃ t, placeSample s n a wire kbps x = (false, t) ∧ t.ctr C.SVI_S_DUP n = min ctrMax (s.ctr C.SVI_S_DUP n + 1) ∧ t.svi = s.svi)
      ∧ (∀ t, placeSample s n a wire kbps x = (true, t) → (t.stream n).held.Perm (x :: (s.stream n).held)
        ∧ ((s.stream n).held.Pairwise (fun u v => u.inst ≤ v.inst) → (t.stream n).held.Pairwise (fun u v => u.inst ≤ v.inst))
        ∧ t.ctr C.SVI_S_SAMPLES n = min ctrMax (s.ctr C.SVI_S_SAMPLES n + 1)))
    ∧ (∀ k, s.clk.held = false → s.svi.enWait = [] → streamReleases s n = true → (s.stream n).next = some k →
      adepth s (streamGroup s n) * 65536 ≤ s.devT →
      (k ≤ gridAt (streamRate s n) (s.devT - adepth s (streamGroup s n) * 65536) → ∃ t, exec (.sampleRelease n) s = .next t ∧ (t.stream n).next = some (k + 1)
        ∧ (t.stream n).held = (s.stream n).held.filter (fun x => decide (gridInst (streamRate s n) k < x.inst)) ∧ t.mem = s.mem)
      ∧ (gridAt (streamRate s n) (s.devT - adepth s (streamGroup s n) * 65536) < k → exec (.sampleRelease n) s = .next s))

/-- The enables and synchronising resets of the filter chain (R157, R158, R159, R177, R178, R184): with LOCK set an enable or a disable is a lock violation; an
enable that fails a check sets CFG_REFUSED and CFG_ERR and nothing else; accepted, the channel is UNBOUND with nothing of its past. A disable puts the channel OFF, and
the detectors of a FILTER channel, as every channel at a disable of the chain, become UNBOUND and lose their history. A SYNC_RESET waits for the slot of each bound
channel that it names. -/
def Obligations.FilterChannelEnables : Prop :=
  ∀ (s : State) (c : Nat), s.clk.held = false → c < 8192 →
    (s.flag F.FDC_CTRL_LOCK = true → (s.flag F.FDC_C_CTL_EN c = false → exec (.fdcChannelEnable c) s = .next (s.lockViolation 0 0x40050200 0x80000000))
      ∧ (s.flag F.FDC_C_CTL_EN c = true → exec (.fdcChannelDisable c) s = .next (s.lockViolation 0 0x40050200 0))
      ∧ (s.flag F.FDC_CTRL_EN = true → exec .fdcDisable s = .next (s.lockViolation 0 0x40050000 0)))
    ∧ (s.flag F.FDC_CTRL_LOCK = false →
      (s.flag F.FDC_C_CTL_EN c = false → chRefused s c = true →
        exec (.fdcChannelEnable c) s = .next ((s.setFlag F.FDC_C_FLT_CFG_REFUSED true c).setFlt F.FDC_FLT_CFG_ERR))
      ∧ (s.flag F.FDC_C_CTL_EN c = false → chRefused s c = false →
        exec (.fdcChannelEnable c) s = .next (((s.setFlag F.FDC_C_CTL_EN true c).setFch c FdcCh.reset).setFld F.FDC_C_STAT_STATE 1 c))
      ∧ (s.flag F.FDC_C_CTL_EN c = true → ∀ a, a = ((s.setFlag F.FDC_C_CTL_EN false c).setFch c FdcCh.reset).setFld F.FDC_C_STAT_STATE 0 c →
        (s.fld F.FDC_C_CTL_MODE c ≠ 0 → exec (.fdcChannelDisable c) s = .next a)
        ∧ (s.fld F.FDC_C_CTL_MODE c = 0 → exec (.fdcChannelDisable c) s = .next ((detectorsOf s c).foldl unbindOne a)))
      ∧ ∀ a, a = s.setFlag F.FDC_CTRL_EN false → exec .fdcDisable s = .next (((List.range 8192).filter fun k => s.flag F.FDC_C_CTL_EN k).foldl
          (fun s k => unbindOne (s.setFch k { s.fch k with inq := [] }) k) a))
    ∧ (s.fld F.FDC_C_STAT_STATE c ≤ 1 → unbindOne s c = s)
    ∧ (1 < s.fld F.FDC_C_STAT_STATE c → unbindOne s c = (s.setFch c { s.fch c with
        hist := [], first := none, env := 0, since := 0, nIn := 0, resetReq := false }).setFld F.FDC_C_STAT_STATE 1 c)
    ∧ (s.fld F.FDC_SEL_INDEX = c → 1 < s.fld F.FDC_C_STAT_STATE c → exec .syncResetChannel s = .next (s.setFch c { s.fch c with resetReq := true }))
    ∧ ∀ g, exec (.syncResetGroup g) s = .next (((List.range 8192).filter fun k => s.flag F.FDC_C_CTL_EN k && (decide (2 ≤ s.fld F.FDC_C_STAT_STATE k)
          && decide (s.fld F.FDC_C_STAT_GROUP k = g))).foldl requestReset s)

/-- Sweeps (R179 to R181): the sweep of a depth is due 2,000 ns after the release of a 14,400/s instant. It takes the instant after the one last swept, or its
first; it is counted, waits for the sweep before it, and runs the slot of every channel of the set in ascending order, four entries at most in each. -/
def Obligations.FilterSweepRunsEverySlot : Prop :=
  ∀ (s : State) (depth : Nat) (set : List Nat) (k g : Nat), s.clk.held = false → s.flag F.FDC_CTRL_EN = true →
    set = (enabledChans s).filter (inSweep s depth) → set ≠ [] → (depth + 2000) * 65536 ≤ s.devT →
    k = nextSweep s depth (gridAt 14400 (s.devT - (depth + 2000) * 65536)) set → g = gridInst 14400 k →
    (gridAt 14400 (s.devT - (depth + 2000) * 65536) < k → exec (.fdcSweep depth) s = .next s)
    ∧ (k ≤ gridAt 14400 (s.devT - (depth + 2000) * 65536) → ∀ a b, a = ({ s with fdc := { s.fdc with
            swept := sparsePut depth k s.fdc.swept, busy := max (g + (depth + 2000) * 65536) s.fdc.busy + (640 + 4 * set.length) * 65536 } }).count C.FDC_SWEEPS →
        (g + (depth + 2000) * 65536 < s.fdc.busy → b = (a.count C.FDC_SWEEP_WAITS).setFlt F.FDC_FLT_SWEEP_WAIT) →
        (s.fdc.busy ≤ g + (depth + 2000) * 65536 → b = a) →
        exec (.fdcSweep depth) s = .next (set.foldl (fun s c => sweepSlot s depth g c) b))
    ∧ ∀ c, s.fld F.FDC_C_CTL_MODE c = 0 → (1 < (slotInputs s g c).fld F.FDC_C_STAT_STATE c) → adepth (slotInputs s g c) (chGroup (slotInputs s g c) c) = depth →
        sweepSlot s depth g c = slotEntries (slotInputs s g c) c 4

/-- The phasor instructions (R193, R213 to R216): a phasor instruction of a pair that executes, with even phasor registers and within the run's limit, issues when its
sources are ready, writes the exact result of its expression, rounded once, with its latency, and goes to the next instruction. An instruction of the table with an odd
register where a phasor stands ends the window with an illegal-instruction fault. -/
def Obligations.PhasorInstructionsCompute : Prop :=
  ∀ (s : State) (n rd a b : Nat), s.clk.held = false → laneRuns s n = true → rd < 32 → a < 32 → b < 32 →
    let c := s.pair n
    let on (f7 f3 rb : Nat) : Prop := issueAt c (.px f7 f3 rd a rb) < c.limit
    let done (f7 f3 rb lat : Nat) (dests : List Nat) (r : LanePair) : Host.Outcome State Fault Refusal :=
      .next (s.setPair n (r.retire (.px f7 f3 rd a rb) (issueAt c (.px f7 f3 rd a rb)) (1, lat) dests ((c.pc.toNat + 4) % 2 ^ 32)))
    let ar := c.getF a
    let ai := c.getF (a + 1)
    let br := c.getF b
    let bi := c.getF (b + 1)
    let dr := c.getF rd
    let di := c.getF (rd + 1)
    let one := fp32.one
    let cs := pxCis (c.getX b)
    (rd % 2 = 0 → a % 2 = 0 → b % 2 = 0 →
      (on 0 0 b → exec (.pxCmul n rd a b) s = done 0 0 b 4 [32 + rd, 33 + rd] (c.setPhasor rd (pxSum [px ar br, pxNeg ai bi]) (pxSum [px ar bi, px ai br])))
      ∧ (on 1 0 b → exec (.pxCmulc n rd a b) s = done 1 0 b 4 [32 + rd, 33 + rd] (c.setPhasor rd (pxSum [px ar br, px ai bi]) (pxSum [px ai br, pxNeg ar bi])))
      ∧ (on 2 0 b → exec (.pxCmac n rd a b) s = done 2 0 b 5 [32 + rd, 33 + rd]
          (c.setPhasor rd (pxSum [px dr one, px ar br, pxNeg ai bi]) (pxSum [px di one, px ar bi, px ai br])))
      ∧ (on 3 0 b → exec (.pxCadd n rd a b) s = done 3 0 b 4 [32 + rd, 33 + rd] (c.setPhasor rd (pxSum [px ar one, px br one]) (pxSum [px ai one, px bi one])))
      ∧ (on 4 0 b → exec (.pxCsub n rd a b) s = done 4 0 b 4 [32 + rd, 33 + rd] (c.setPhasor rd (pxSum [px ar one, pxNeg br one]) (pxSum [px ai one, pxNeg bi one]))))
    ∧ (rd % 2 = 0 → a % 2 = 0 →
      (on 5 0 b → exec (.pxCscl n rd a b) s = done 5 0 b 4 [32 + rd, 33 + rd] (c.setPhasor rd (pxSum [px ar br]) (pxSum [px ai br])))
      ∧ (on 0x11 3 b → exec (.pxRot n rd a b) s = done 0x11 3 b 8 [32 + rd, 33 + rd]
          (c.setPhasor rd (pxSum [px ar cs.1.1, pxNeg ai cs.2.1]) (pxSum [px ar cs.2.1, px ai cs.1.1]))))
    ∧ (a % 2 = 0 →
      (on 8 0 0 → exec (.pxCabs2 n rd a) s = done 8 0 0 4 [32 + rd] ((c.setF rd (pxSum [px ar ar, px ai ai]).1).flags (pxSum [px ar ar, px ai ai]).2))
      ∧ (on 9 0 0 → exec (.pxCabs n rd a) s = done 9 0 0 12 [32 + rd] ((c.setF rd (pxAbs ar ai).1).flags (pxAbs ar ai).2))
      ∧ (on 0x0A 1 0 → exec (.pxCarg n rd a) s = done 0x0A 1 0 12 [rd] ((c.setX rd (pxArg ar ai).1).flags (pxArg ar ai).2)))
    ∧ (rd % 2 = 0 →
      (on 0x10 2 0 → exec (.pxCis n rd a) s = done 0x10 2 0 6 [32 + rd, 33 + rd] (c.setPhasor rd (pxCis (c.getX a)).1 (pxCis (c.getX a)).2))
      ∧ (on 0x12 3 b → exec (.pxDfta n rd a b) s = done 0x12 3 b 8 [32 + rd, 33 + rd]
          (c.setPhasor rd (pxSum [px dr one, px ar cs.1.1]) (pxSum [px di one, pxNeg ar cs.2.1]))))
    ∧ (on 0x20 4 b → exec (.pxQchk n rd a b) s = done 0x20 4 b 1 [rd] (c.setX rd (ofBit (pxQchk (c.getX a) (c.getX b)))))
    ∧ (on 0 0 b → (rd % 2 = 1 ∨ a % 2 = 1 ∨ b % 2 = 1) →
      exec (.pxCmul n rd a b) s = .next (laneFault s n 0x02 (b * 2 ^ 20 + a * 2 ^ 15 + rd * 2 ^ 7 + 0x0B)))

/-- How a partition's window ends on its pair (R111, R202, R206): PX.DONE below the limit stops the pair with the staging vector pending, or HELD without it, and the
working bank pending unless bit 1 of the operand is set; the limit reached stops it as LATE; a fault stops it as FAULT with its cause, PC and value recorded. Each time the
status is merged with what the window already has, and the pair runs no more. -/
def Obligations.WindowRunsEnd : Prop :=
  ∀ (s : State) (n p : Nat), s.clk.held = false → n < 24 → (s.pair n).part = p → p < 128 →
    (∀ a i v, a < 32 → laneRuns s n = true → i = issueAt (s.pair n) (.px 0x7F 7 0 a 0) → i < (s.pair n).limit → v = (s.pair n).getX a →
      ∃ t, exec (.pxDone n a) s = .next t ∧ (t.pair n).run = false
        ∧ (t.lpart p).pendVec = (if v % 2 = 1 then none else some (s.pair n).staging) ∧ (t.lpart p).pendState = !v.testBit 1
        ∧ (t.lpart p).outcome = wsMerge (s.lpart p).outcome (if v % 2 = 1 then wsHeld else wsCommitted)
        ∧ (t.lpart p).vec = (s.lpart p).vec ∧ t.mem = s.mem)
    ∧ ((s.pair n).run = true → (s.pair n).limit ≤ max (s.pair n).cycle (laneClock s n) →
      ∃ t, exec (.partitionLate n) s = .next t ∧ (t.pair n).run = false ∧ (t.lpart p).outcome = wsMerge (s.lpart p).outcome wsLate
        ∧ t.ctr C.TIDE_T_LATE_BUDGET p = min ctrMax (s.ctr C.TIDE_T_LATE_BUDGET p + 1) ∧ t.flag F.TIDE_FLT_LATE = true ∧ t.mem = s.mem)
    ∧ (max (s.pair n).cycle (laneClock s n) < (s.pair n).limit → exec (.partitionLate n) s = .next s)
    ∧ (∀ cause v t, t = laneFault s n cause v → (t.pair n).run = false ∧ (t.lpart p).outcome = wsMerge (s.lpart p).outcome wsFault
        ∧ (t.lpart p).fpc = (s.pair n).pc.toNat ∧ (t.lpart p).ftval = v % 2 ^ 32 ∧ t.fld F.LANE_T_STAT_CAUSE_LAST p = cause % 256
        ∧ t.flag F.LANE_FLT_FAULT = true ∧ t.ctr C.LANE_T_FAULTS p = min ctrMax (s.ctr C.LANE_T_FAULTS p + 1) ∧ t.mem = s.mem)

/-- The RISC-V instructions of a lane (R190 to R193): a pair that executes fetches at its PC in its code region, decodes the word and issues it when its sources are
ready; below the limit it executes. An addition, a jump, a branch, a load and a store have the results of RV32, and each goes to its next instruction with its cost. -/
def Obligations.LaneInstructionsExecute : Prop :=
  ∀ (s : State) (n : Nat), s.clk.held = false →
    (∀ p q w op, laneRuns s n = true → laneLoc (pairTable s n) (s.pair n).regs (s.pair n).pc.toNat = .code p →
      laneLoc (pairTable s n) (s.pair n).regs ((s.pair n).pc.toNat + 2) = .code q → ofOctetsLE (s.memBytes p 2) % 4 = 3 → w = ofOctetsLE (s.memBytes p 4) →
      op = decode32 .lane w → laneUe s p 4 = 0 → laneCe s p 4 = 0 → laneTriggered s n op = false → issueAt (s.pair n) op < (s.pair n).limit →
      exec (.laneInstruction n) s = .next (laneExec s n (issueAt (s.pair n) op) 4 w op))
    ∧ (laneLoc (pairTable s n) (s.pair n).regs (s.pair n).pc.toNat = .none → laneRuns s n = true →
      exec (.laneInstruction n) s = .next (laneFault s n 0x01 (s.pair n).pc.toNat))
    ∧ ∀ i w, let c := s.pair n
      let next := (c.pc.toNat + 4) % 2 ^ 32
      (∀ rd a b, laneExec s n i 4 w (.alu .add false rd a b) =
          s.setPair n ((c.setX rd ((c.getX a + c.getX b) % 2 ^ 32)).retire (.alu .add false rd a b) i (1, 1) [rd] next))
      ∧ (∀ rd off, laneExec s n i 4 w (.jal rd off) =
          s.setPair n ((c.setX rd next).retire (.jal rd off) i (2, 1) [rd] (((c.pc.toNat : Int) + off) % 2 ^ 32).toNat))
      ∧ (∀ a b off, c.getX a = c.getX b → laneExec s n i 4 w (.branch 0 a b off) =
          s.setPair n (c.retire (.branch 0 a b off) i (2, 1) [] (((c.pc.toNat : Int) + off) % 2 ^ 32).toNat))
      ∧ (∀ a b off, c.getX a ≠ c.getX b → laneExec s n i 4 w (.branch 0 a b off) = s.setPair n (c.retire (.branch 0 a b off) i (1, 1) [] next))
      ∧ (∀ rd a off x p, x = (((c.getX a : Int) + off) % 2 ^ 32).toNat → x % 4 = 0 → laneLoc (pairTable s n) c.regs x = .data p → laneUe s p 4 = 0 → laneCe s p 4 = 0 →
          laneExec s n i 4 w (.fload false rd a off) =
            s.setPair n ((c.setF rd (ofOctetsLE (s.memBytes p 4))).retire (.fload false rd a off) i (1, 2) [32 + rd] next))
      ∧ (∀ a b off x p, x = (((c.getX a : Int) + off) % 2 ^ 32).toNat → x % 4 = 0 → laneLoc (pairTable s n) c.regs x = .data p →
          laneExec s n i 4 w (.store 2 a b off) =
            (laneMemWrite s p (octetsLE 4 (c.getX b))).setPair n (c.retire (.store 2 a b off) i (1, 1) [] next))
      ∧ (∀ a b off x, x = (((c.getX a : Int) + off) % 2 ^ 32).toNat → x % 4 = 0 → laneLoc (pairTable s n) c.regs x = .none →
          laneExec s n i 4 w (.store 2 a b off) = laneFault s n 0x07 x)

/-- The debug of a lane and the registers with effects (R196, R205, R218, R219): while the lifecycle admits it a pair halts; resumed within its limit it goes on, its counter
having kept running; resumed without a run the resume waits for the next preamble; a step executes one instruction and stays halted. A read of LANE_T_VEC_0 latches the whole
committed vector of the selected partition; CLR_USED clears USED_MAX of the selected pair's slots. -/
def Obligations.LaneDebugAndLatches : Prop :=
  ∀ (s : State) (n : Nat), s.clk.held = false → n < 24 →
    (s.keys.lifecycle ≤ 1 →
      exec (.laneDebugHalt n) s = .next (s.setPair n { s.pair n with halted := true, debugger := true })
      ∧ ((s.pair n).halted = true → (s.pair n).run = false → exec (.laneDebugResume n) s = .next (s.setPair n { s.pair n with resume := true }))
      ∧ ((s.pair n).halted = true → (s.pair n).run = true → max (s.pair n).cycle (laneClock s n) < (s.pair n).limit →
        exec (.laneDebugResume n) s = .next (s.setPair n { s.pair n with halted := false, cycle := max (s.pair n).cycle (laneClock s n) }))
      ∧ ((s.pair n).halted = true → pairExecutes s n = true → ∀ t,
        t = laneFetch (s.setPair n { s.pair n with cycle := max (s.pair n).cycle (laneClock s n) }) n false →
        exec (.laneDebugStep n) s = .next (t.setPair n { t.pair n with halted := true })))
    ∧ (1 < s.keys.lifecycle → exec (.laneDebugHalt n) s = .next s ∧ exec (.laneDebugResume n) s = .next s ∧ exec (.laneDebugStep n) s = .next s)
    ∧ (∀ p, s.fld F.LANE_SEL_KIND = 1 → s.fld F.LANE_SEL_INDEX = p → 1 ≤ p → ∃ t, exec .vectorLatchRead s = .next t ∧ t.lane.latch = (s.lpart p).vec
        ∧ { t with lane := s.lane } = s)
    ∧ (s.fld F.LANE_SEL_KIND = 0 → s.fld F.LANE_SEL_INDEX = n → ∃ t, exec .clrUsed s = .next t ∧ (∀ j, j < 16 → t.fld (F.LANE_P_SLOT_USED_MAX_USED_MAX.el j) n = 0)
        ∧ t.lane = s.lane ∧ t.mem = s.mem)

/-- GOOSE publishing (R223, R227, R228, R230, R231, R554): an enable that fails a check sets CFG_REFUSED and CFG_ERR and nothing else; accepted, the block has no dataset and both
numbers are 0. A disable ends it. A new state raises stNum, clears sqNum and makes a frame due at this edge. At its due edge a block's retransmission raises sqNum and makes its
next frame due, with that of every block due at the same edge, unless a frame of the block is due already; before it nothing happens. REPUBLISH marks the selected block. -/
def Obligations.GooseBlocksPublish : Prop :=
  ∀ (s : State) (b : Nat), s.clk.held = false → b < 512 →
    (s.flag F.GOOSE_B_CTL_EN b = false → gbRefused s b = true →
      exec (.gooseBlockEnable b) s = .next ((s.setFlag F.GOOSE_B_FLT_CFG_REFUSED true b).setFlt F.GOOSE_FLT_CFG_ERR))
    ∧ (s.flag F.GOOSE_B_CTL_EN b = false → gbRefused s b = false → ∃ t, exec (.gooseBlockEnable b) s = .next t ∧ t.flag F.GOOSE_B_CTL_EN b = true
      ∧ t.gblk b = some { data := none, tSec := 0, tFrac := 0, tQual := 0, k := 0, due := none, repub := false }
      ∧ t.fld F.GOOSE_B_STNUM_VAL b = 0 ∧ t.fld F.GOOSE_B_SQNUM_VAL b = 0 ∧ t.mem = s.mem)
    ∧ (s.flag F.GOOSE_B_CTL_EN b = true → ∃ t, exec (.gooseBlockDisable b) s = .next t ∧ t.flag F.GOOSE_B_CTL_EN b = false ∧ t.goose.subs = s.goose.subs
      ∧ t.goose.blocks = sparseDel b s.goose.blocks ∧ t.mem = s.mem)
    ∧ (∀ d t st g u, gbSilent s b = false → u = gbNewState s b d t st g → u.fld F.GOOSE_B_SQNUM_VAL b = 0
      ∧ u.fld F.GOOSE_B_STNUM_VAL b = st.getD (gnInc (s.fld F.GOOSE_B_STNUM_VAL b)) % 2 ^ 32
      ∧ u.gblk b = some { data := some d, tSec := t.1, tFrac := t.2.1, tQual := t.2.2, k := 0, due := some s.time.sys, repub := false }
      ∧ u.goose.out = s.goose.out.filter (fun e => e.1 ≠ b) ++ [(b, g)] ∧ u.ctr C.GOOSE_B_STATES b = min ctrMax (s.ctr C.GOOSE_B_STATES b + 1))
    ∧ (∀ v e, s.gblk b = some v → v.due = some e →
      (s.time.sys < e → exec (.gooseRetransmit b) s = .next s)
      ∧ (gbIsDue s b = true → exec (.gooseRetransmit b) s = .next s)
      ∧ (e ≤ s.time.sys → gbIsDue s b = false → exec (.gooseRetransmit b) s =
          .next (((enabledBlocks s).filter fun c => decide ((s.gblk c).bind GBlk.due = some e) && !gbIsDue s c).foldl gbRetransmit s)))
    ∧ (∀ v t, s.gblk b = some v → t = gbRetransmit s b → t.gblk b = some { v with k := v.k + 1 }
      ∧ t.fld F.GOOSE_B_SQNUM_VAL b = gnInc (s.fld F.GOOSE_B_SQNUM_VAL b) % 2 ^ 32 ∧ t.fld F.GOOSE_B_STNUM_VAL b = s.fld F.GOOSE_B_STNUM_VAL b
      ∧ t.goose.out = s.goose.out.filter (fun e => e.1 ≠ b) ++ [(b, none)])
    ∧ (∀ v, s.fld F.GOOSE_SEL_KIND = 0 → s.fld F.GOOSE_SEL_INDEX = b → s.gblk b = some v →
      (gbSilent s b = false → exec .republish s = .next (s.setGblk b { v with repub := true }))
      ∧ (gbSilent s b = true → exec .republish s = .next s))

/-- GOOSE subscriptions (R241 to R251): an enable that fails a check is refused; accepted, the subscription waits. A disable takes its record away. The oldest frame of the GOOSE
port is processed for every enabled subscription that it matches, or counted as dropped or unmatched. An accepted frame's values appear at its update edge and the state is
VALID; a frame that mismatches makes it MISMATCH. At its expiry a VALID subscription is STALE, counted and flagged, and not before. CLR_SIM clears the latch. -/
def Obligations.GooseSubscriptions : Prop :=
  ∀ (s : State) (i : Nat), s.clk.held = false → i < 1024 →
    (s.flag F.GOOSE_S_CTL_EN i = false → gsRefused s i = true →
      exec (.gooseSubEnable i) s = .next ((s.setFlag F.GOOSE_S_FLT_CFG_REFUSED true i).setFlt F.GOOSE_FLT_CFG_ERR))
    ∧ (s.flag F.GOOSE_S_CTL_EN i = false → gsRefused s i = false → ∃ t v, exec (.gooseSubEnable i) s = .next t ∧ t.flag F.GOOSE_S_CTL_EN i = true
      ∧ t.fld F.GOOSE_S_STAT_STATE i = 1 ∧ t.gsub i = some v ∧ v.last = none ∧ v.upd = [] ∧ v.expiry = none ∧ v.bits = 0 ∧ t.mem = s.mem)
    ∧ (s.flag F.GOOSE_S_CTL_EN i = true → ∃ t, exec (.gooseSubDisable i) s = .next t ∧ t.flag F.GOOSE_S_CTL_EN i = false
      ∧ t.fld F.GOOSE_S_STAT_STATE i = 0 ∧ t.goose.subs = sparseDel i s.goose.subs ∧ t.mem = s.mem)
    ∧ (∀ r rest a, s.goose.inbox = r :: rest → a = ({ s with goose := { s.goose with inbox := rest } }).count C.GOOSE_FRAMES_RX →
      (s.flag F.GOOSE_CTRL_EN = false → exec .gooseFrameRx s = .next (a.count C.GOOSE_DISABLED_DROP))
      ∧ ∀ p l, s.flag F.GOOSE_CTRL_EN = true → r.frame.payload = .goose p → l = (s.goose.subs.map Prod.fst).filter (fun i => gsMatches s i r.frame p) →
        (l = [] → exec .gooseFrameRx s = .next (a.count C.GOOSE_UNMATCHED))
        ∧ (l ≠ [] → exec .gooseFrameRx s = .next (l.foldl (fun s i => gsFrame s r.frame r.stamp p i) a)))
    ∧ (∀ v u, s.gsub i = some v → v.upd.find? (fun u => decide (u.due ≤ (s.devT : Int))) = some u →
      (u.mism = false → ∃ t w, exec (.gooseSubUpdate i) s = .next t ∧ t.fld F.GOOSE_S_STAT_STATE i = 2 ∧ t.gsub i = some w ∧ w.stNum = u.pdu.stNum ∧ w.sqNum = u.pdu.sqNum
        ∧ w.expiry = some u.expiry ∧ w.upd = v.upd.erase u ∧ w.chg = (if u.isNew then (v.chg + 1) % 65536 else v.chg) ∧ t.mem = s.mem)
      ∧ (u.mism = true → ∃ t w, exec (.gooseSubUpdate i) s = .next t ∧ t.fld F.GOOSE_S_STAT_STATE i = 4 ∧ t.gsub i = some w ∧ w.expiry = none ∧ w.upd = v.upd.erase u
        ∧ t.flag F.GOOSE_S_FLT_MISMATCH i = true ∧ t.flag F.GOOSE_FLT_MISMATCH = true ∧ t.mem = s.mem))
    ∧ (∀ v e, s.gsub i = some v → v.expiry = some e →
      (s.fld F.GOOSE_S_STAT_STATE i = 2 → e ≤ (s.devT : Int) → ∃ t, exec (.gooseSubExpiry i) s = .next t ∧ t.fld F.GOOSE_S_STAT_STATE i = 3
        ∧ t.ctr C.GOOSE_S_STALES i = min ctrMax (s.ctr C.GOOSE_S_STALES i + 1) ∧ t.flag F.GOOSE_S_FLT_STALE i = true ∧ t.flag F.GOOSE_FLT_STALE = true ∧ t.mem = s.mem)
      ∧ ((s.devT : Int) < e → exec (.gooseSubExpiry i) s = .next s))
    ∧ (s.fld F.GOOSE_SEL_KIND = 1 → s.fld F.GOOSE_SEL_INDEX = i → exec .clrSim s = .next (s.setFlag F.GOOSE_S_STAT_SIM_LATCH false i))

/-- Gate channels are set up (R255, R258, R265, R267, R275, R276): a refused enable sets CFG_REFUSED and CFG_ERR; an accepted one, with no SAFE_N ball low and no held owner, puts
the channel in IDLE with its outputs driven and the staged pair active. A disable puts it OFF with nothing pending. A commit makes the staged pair pending, or is refused and
counted. A calibration sets CAL_DONE or CAL_ERR. READ_SCHED gives the scheduled rise in WAIT_EDGE and is refused otherwise. -/
def Obligations.GateChannelsAreSetUp : Prop :=
  ∀ (s : State) (n : Nat), s.clk.held = false → n < 24 →
    (s.recovering = false → s.flag F.GATE_C_CTL_EN n = false → gateEnableBad s n = true →
      exec (.gateChannelEnable n) s = .next ((s.setFlag F.GATE_C_FLT_CFG_REFUSED true n).setFlt F.GATE_FLT_CFG_ERR))
    ∧ (s.recovering = false → s.flag F.GATE_C_CTL_EN n = false → gateEnableBad s n = false → safeBallLow s n = false →
        (s.flag F.GATE_C_CTL_RST_SAFE n = true → partHeld s (s.fld F.GATE_C_CTL_OWNER n) = false) →
      ∃ t, exec (.gateChannelEnable n) s = .next t ∧ t.flag F.GATE_C_CTL_EN n = true ∧ t.flag F.GATE_C_STAT_HIZ n = false ∧ t.fld F.GATE_C_STAT_STATE n = 1
        ∧ t.fld F.GATE_C_PERIOD_VAL n = s.fld F.GATE_C_PERIOD_STG_VAL n % 2 ^ F.GATE_C_PERIOD_VAL.width
        ∧ t.fld F.GATE_C_DUTY_VAL n = s.fld F.GATE_C_DUTY_STG_VAL n % 2 ^ F.GATE_C_DUTY_VAL.width ∧ (t.gch n).recs = [] ∧ t.mem = s.mem)
    ∧ (∃ t, exec (.gateChannelDisable n) s = .next t ∧ t.flag F.GATE_C_CTL_EN n = false ∧ t.fld F.GATE_C_STAT_STATE n = 0 ∧ t.gch n = GateCh.reset
        ∧ gateOutH t n = false ∧ gateOutL t n = false ∧ t.mem = s.mem)
    ∧ (stagedBad s n = true → exec (.gateCommit n) s = .next (((s.count C.GATE_C_COMMIT_REFUSED n).setFlag F.GATE_C_FLT_COMMIT_REFUSED true n).setFlt F.GATE_FLT_COMMIT_REFUSED))
    ∧ (stagedBad s n = false → s.flag F.GATE_C_CTL_PAIRED n = false → ∃ t, exec (.gateCommit n) s = .next t
      ∧ t.gch n = { s.gch n with pendP := some (s.fld F.GATE_C_PERIOD_STG_VAL n, s.time.sys), pendD := some (s.fld F.GATE_C_DUTY_STG_VAL n, s.time.sys) }
      ∧ t.flag F.GATE_C_STAT_PEND n = true ∧ t.flag F.GATE_C_STAT_STG_P n = false ∧ t.flag F.GATE_C_STAT_STG_D n = false
      ∧ t.fld F.GATE_C_PERIOD_VAL n = s.fld F.GATE_C_PERIOD_VAL n ∧ t.ctr C.GATE_C_COMMITS n = min ctrMax (s.ctr C.GATE_C_COMMITS n + 1) ∧ t.mem = s.mem)
    ∧ exec (.gateCalibration true) s = .next (s.setFlag F.GATE_STAT_CAL_DONE true)
    ∧ exec (.gateCalibration false) s = .next ((s.setFlt F.GATE_FLT_CAL_ERR).count C.GATE_CAL_RUNS)
    ∧ (s.flag (mbxBusy 8) = false → s.fld F.GATE_SEL_INDEX = n → (s.fld F.GATE_C_STAT_STATE n = 3 →
        exec .readSched s = .next (s.mbxStart 8 (timeLayout 1 ((s.gch n).sched * 2048) (s.fld F.TIME_STAT_TQ) 0 (s.fld F.TIME_STAT_EPOCH))))
      ∧ (s.fld F.GATE_C_STAT_STATE n ≠ 3 → exec .readSched s = .next (s.mbxRefuse 8)))

/-- Gate channels act in time (R263, R264, R268 to R275): a record acts when its T has come and not before; the command of an IDLE channel starts the periods of a CONTINUOUS one
or the pulse of a ONE_SHOT one, and ends RUN. In RUN the next period starts PERIOD after the last with a reload, the signal falls DUTY after it, and a refresh interrupts it. A
scheduled instant is fixed 10 µs before it and raises the signal when it is reached; a pulse ends after DUTY and is counted. -/
def Obligations.GateChannelsActInTime : Prop :=
  ∀ (s : State) (n : Nat), s.clk.held = false →
    (∀ r rest, (s.gch n).recs = r :: rest → s.gate.stopped = false →
      (s.gate.pwm < r.at_ → exec (.gateTrigger n) s = .next s)
      ∧ (r.at_ ≤ s.gate.pwm → r.trip = false → s.flag F.GATE_C_SRC_DUTY_OW_EN n = false → gateFrozen s = false → ∀ a late,
          a = s.setGch n { s.gch n with recs := rest, prevCmd := r.cmd } → late = s.gate.pwm - r.at_ →
          exec (.gateTrigger n) s = .next (gateCommand a n (s.gate.cnt - late) (dev32 s - late)
            (if s.flag F.GATE_C_SRC_ANG_OW_EN n then r.ang else s.fld F.GATE_C_ANG_ANG n) (s.gch n).prevCmd r.cmd)))
    ∧ (∀ t d a p u, s.fld F.GATE_C_STAT_STATE n = 1 → n < 24 →
      (s.fld F.GATE_C_CTL_MODE n = 0 → u = gateCommand s n t d a p true → u.fld F.GATE_C_STAT_STATE n = 2 ∧ (u.gch n).rk = t
        ∧ u.ctr C.GATE_C_PERIODS n = min ctrMax (s.ctr C.GATE_C_PERIODS n + 1))
      ∧ (s.fld F.GATE_C_CTL_MODE n = 1 → u = gateCommand s n t d a false true → u.fld F.GATE_C_STAT_STATE n = 4
        ∧ (u.gch n).pulseEnd = (if s.flag F.GATE_C_CTL_LATCH n then none else some (t + u.fld F.GATE_C_DUTY_VAL n)))
      ∧ gateCommand s n t d a p false = s)
    ∧ (gateLive s = true → s.fld F.GATE_C_STAT_STATE n = 2 →
      ((s.gch n).rk + s.fld F.GATE_C_PERIOD_VAL n ≤ s.gate.cnt → exec (.gateReload n) s = .next (startPeriod s n ((s.gch n).rk + s.fld F.GATE_C_PERIOD_VAL n)))
      ∧ (s.gate.cnt < (s.gch n).rk + s.fld F.GATE_C_PERIOD_VAL n → exec (.gateReload n) s = .next s)
      ∧ (∀ d, d = s.fld F.GATE_C_DUTY_VAL n → (s.gch n).raw = true → d < s.fld F.GATE_C_PERIOD_VAL n → (s.gch n).rk + d ≤ s.gate.cnt →
        exec (.gateDutyEnd n) s = .next (s.setGch n ((s.gch n).sigAt false (s.gch n).refreshEnd ((s.gch n).rk + d))))
      ∧ (∀ t, t = (s.gch n).since + s.fld F.GATE_C_REFRESH_INTERVAL n * 32000 → s.flag F.GATE_C_CTL_REFRESH_EN n = true → (s.gch n).sig = true → t ≤ s.gate.cnt →
        exec (.gateRefreshStart n) s = .next ((s.count C.GATE_C_REFRESHES n).setGch n ((s.gch n).sigAt (s.gch n).raw (some (t + s.fld F.GATE_C_REFRESH_WIDTH n)) t)))
      ∧ (∀ t, (s.gch n).refreshEnd = some t → t ≤ s.gate.cnt → exec (.gateRefreshEnd n) s = .next (s.setGch n ((s.gch n).sigAt (s.gch n).raw none t))))
    ∧ (s.fld F.GATE_C_STAT_STATE n = 3 →
      ((s.gch n).sched ≤ dev32 s + 320000 → exec (.gateInstantFixed n) s = .next (s.setGch n { s.gch n with fixed := true }))
      ∧ (dev32 s + 320000 < (s.gch n).sched → (s.gch n).fixed = false → exec (.gateInstantFixed n) s = .next s)
      ∧ (gateLive s = true → (s.gch n).sched ≤ dev32 s →
        exec (.gateScheduledRise n) s = .next (startPulse s n (s.gate.cnt - (dev32 s - (s.gch n).sched))))
      ∧ (dev32 s < (s.gch n).sched → exec (.gateScheduledRise n) s = .next s))
    ∧ (∀ e, s.fld F.GATE_C_STAT_STATE n = 4 → (s.gch n).pulseEnd = some e → n < 24 →
      (gateLive s = true → e ≤ s.gate.cnt → ∃ t, exec (.gatePulseEnd n) s = .next t ∧ t.fld F.GATE_C_STAT_STATE n = 1 ∧ (t.gch n).pulseEnd = none
        ∧ gateOutH t n = false ∧ t.ctr C.GATE_C_PULSES n = min ctrMax (s.ctr C.GATE_C_PULSES n + 1) ∧ t.mem = s.mem)
      ∧ (s.gate.cnt < e → exec (.gatePulseEnd n) s = .next s))

/-- SAFE, freeze and clock stop (R277 to R283): a SAFE_N ball low for 50 ns or more puts every channel that masks it into SAFE, one below 20 ns is rejected, and its return releases
none; an entry to SAFE turns the high side off at once, records its cause and is counted and flagged. A freeze, in MANUFACTURE and DEVELOP only, cancels the scheduled rises and
is counted; the return of a stopped PWM clock puts every channel that is not OFF into SAFE. -/
def Obligations.GateSafeStates : Prop :=
  ∀ (s : State), s.clk.held = false →
    (∀ k w, k < 4 →
      (w < 20 → exec (.safeNAssert k w) s = .next s)
      ∧ (50 ≤ w → exec (.safeNAssert k w) s = .next ((List.range 24).foldl (fun s n => if s.fbit F.GATE_C_CTL_SAFE_MASK k n then enterSafe s n 1 else s)
          (s.setFbit F.GATE_STAT_SAFE_N k false)))
      ∧ exec (.safeNRelease k) s = .next (s.setFbit F.GATE_STAT_SAFE_N k true))
    ∧ (∀ n c t, n < 24 → 1 ≤ c → c < 8 → s.fld F.GATE_C_STAT_STATE n ≠ 0 → s.fld F.GATE_C_STAT_STATE n ≠ 5 → t = enterSafe s n c →
      t.fld F.GATE_C_STAT_STATE n = 5 ∧ gateOutH t n = false ∧ t.fld F.GATE_C_STAT_SAFE_CAUSE n = c ∧ t.flag F.GATE_C_FLT_SAFE n = true ∧ t.flag F.GATE_FLT_SAFE = true
        ∧ t.ctr C.GATE_C_SAFE_ENTRIES n = min ctrMax (s.ctr C.GATE_C_SAFE_ENTRIES n + 1) ∧ (t.gch n).safeAt = some s.gate.pwm ∧ (t.gch n).recs = (s.gch n).recs ∧ t.mem = s.mem)
    ∧ (s.fld F.GATE_STAT_FROZEN = 0 → s.keys.lifecycle ≤ 1 → exec .gateFreeze s = .next ((((List.range 24).foldl (fun s n =>
          if s.fld F.GATE_C_STAT_STATE n = 3 then gateCancel s n 2 else s) s).setFlag F.GATE_STAT_FROZEN true |>.setFlt F.GATE_FLT_FROZEN).count C.GATE_FREEZES))
    ∧ (1 < s.keys.lifecycle → exec .gateFreeze s = .next s)
    ∧ exec .gateUnfreeze s = .next (s.setFlag F.GATE_STAT_FROZEN false)
    ∧ (s.gate.stopped = true → exec .pwmClockReturn s = .next ((((List.range 24).foldl (fun s n => enterSafe s n 4)
          { s with gate := { s.gate with stopped := false } }).setFlt F.GATE_FLT_CLK_STOP).count C.GATE_CLK_STOPS))
    ∧ (s.gate.stopped = false → exec .pwmClockReturn s = .next s)

/-- Copies on the Rally lanes (R291, R294 to R298, R303, R305, R308, R309, R311, R553): a copy of the other side whose SEQ is ahead of the reference is accepted, becomes the
reference and is counted; one of a type other than HELLO is discarded and counted while there is no reference, and any that is not ahead is; a copy of one's own side, as a copy that
fails its checks, is counted in CRC_ERR of its lane. Accepted, a frame has the effect of its type. -/
def Obligations.RallyCopiesAreJudged : Prop :=
  ∀ (s : State) (h : RallyHdr) (w : List Nat), s.clk.held = false →
    (∀ own, exec (.rallyCopyDiscard h.lane own) s = .next (crcErr s h.lane own))
    ∧ (h.side = s.twin.sideB → exec (.fprintRx h w) s = .next (crcErr s h.lane true) ∧ exec (.commitRx h w) s = .next (crcErr s h.lane true))
    ∧ (h.side ≠ s.twin.sideB → s.twin.rxRef = none → exec (.gseqRx h w) s = .next (s.count C.TWIN_DUP_DISCARD)
      ∧ exec (.xferRx h w) s = .next (s.count C.TWIN_DUP_DISCARD))
    ∧ (∀ r, h.side ≠ s.twin.sideB → s.twin.rxRef = some r → (h.seq + 2 ^ 32 - r) % 2 ^ 32 = 0 ∨ 2 ^ 31 ≤ (h.seq + 2 ^ 32 - r) % 2 ^ 32 →
      exec (.yieldRx h) s = .next (s.count C.TWIN_DUP_DISCARD) ∧ exec (.helloRx h w) s = .next (s.count C.TWIN_DUP_DISCARD))
    ∧ ∀ r a, h.side ≠ s.twin.sideB → s.twin.rxRef = some r → 1 ≤ (h.seq + 2 ^ 32 - r) % 2 ^ 32 → (h.seq + 2 ^ 32 - r) % 2 ^ 32 < 2 ^ 31 →
      a = ({ s with twin := { s.twin with lastRx := s.time.sys, rxRef := some h.seq } }).count C.TWIN_FRAMES_RX →
      (∀ g, g = bitsOf (w.getD 0 0) 26 24 → exec (.fprintRx h w) s = .next (a.setRgrp g { a.rgrp g with
          prints := ((w.getD 1 0, (rallyEntries w 2 3 (w.getD 0 0 % 256)).map fun e => (bitsOf (e.getD 0 0) 30 24, e)) :: (a.rgrp g).prints).take 64 }))
      ∧ (∀ g pn v, g = bitsOf (w.getD 0 0) 26 24 → pn = w.getD 1 0 → v = { a.rgrp g with peers := ((pn, peerRecs w) :: (a.rgrp g).peers).take 64 } →
        (∀ x ∈ v.pend, x.closed = true ∨ a.time.sys ≤ rallyDeadline (a.setRgrp g v) x) →
        (v.pend.find? (fun c => c.pn = pn && c.got.isNone) = none → exec (.commitRx h w) s = .next (a.setRgrp g v))
        ∧ (∀ c, v.pend.find? (fun c => c.pn = pn && c.got.isNone) = some c → c.closed = false → c.resolved = false →
          exec (.commitRx h w) s = .next (resolveCommit (inTime (setPend ((a.setRgrp g v).count C.TWIN_G_RECORDS g) g
            { c with got := some (peerRecs w), resolved := true }) g c) g { c with got := some (peerRecs w) })))
      ∧ exec (.gseqRx h w) s = .next ((rallyEntries w 1 3 (w.getD 0 0 % 256)).foldl (fun s e => gooseGseqRx s (e.getD 0 0 % 512) (e.getD 1 0) (e.getD 2 0)) a)
      ∧ (∀ p, p = bitsOf (w.getD 0 0) 30 24 → w.getD 2 0 = 0 → joinHeld a p = true → bitOf (w.getD 0 0) 0 = false →
        exec (.xferRx h w) s = .next { a with twin := { a.twin with rxImg := some { part := p, n := w.getD 1 0, data := (w.drop 4).flatMap (octetsBE 4), pos := 0 } } })
      ∧ (s.fld F.TWIN_STAT_PAIR ≠ 3 → exec (.yieldRx h) s = .next { a with twin := { a.twin with peerYielded := true } })
      ∧ (s.fld F.TWIN_STAT_PAIR = 3 → exec (.yieldRx h) s = .next (setRole { a with twin := { a.twin with peerYielded := true } } true))
      ∧ (∀ b, b = a.count C.TWIN_RESET_REQ_RX →
        (s.flag F.TWIN_CTRL_ACCEPT_RST = true → 10000000000 ≤ s.time.sys → ∃ t, exec (.resetReqRx h) s = .next t
          ∧ t.twin = { b.twin with resetAt := some (b.twin.resetAt.getD (s.time.sys + 10000)) } ∧ t.mem = s.mem)
        ∧ (s.flag F.TWIN_CTRL_ACCEPT_RST = false → exec (.resetReqRx h) s = .next (sendCtrl ((b.setFlt F.TWIN_FLT_RESET_REFUSED).count C.TWIN_RESET_REFUSED) 3 0)))
      ∧ exec (.resetNakRx h) s = .next (a.setFlt F.TWIN_FLT_RESET_REFUSED)
      ∧ (∀ p, s.twin.sendImg.any (fun i => i.part = p) = true →
        exec (.xferAckRx h p) s = .next { a with twin := { a.twin with sendImg := none, refusals := 0, sendPart := p + 1 } }
        ∧ (s.twin.refusals < 2 → exec (.xferNakRx h p) s = .next { a with twin := { a.twin with sendImg := none, refusals := s.twin.refusals + 1 } })
        ∧ (2 ≤ s.twin.refusals → exec (.xferNakRx h p) s = .next { a with twin := { a.twin with sendImg := none, refusals := 0, sendPart := p + 1 } }))

/-- The pair of twins (R287, R288, R291, R292, R294 to R297): TWIN_ENABLE of a module that is not TWIN_SOLO enters ALONE and counts nothing else, TWIN_DISABLE enters OFF; a HELLO falls due every
50 µs. A lane that loses its lock is down, counted and flagged. A HELLO that passes its checks takes ALONE through PROBE to PAIRED; the pair falls to ALONE when no copy comes for
HELLO_LOSS × 50 µs. YIELD gives up the lead of a pair, REALIGN returns a group to UNALIGNED, CLR_RMAX clears RMAX. -/
def Obligations.RallyPairForms : Prop :=
  ∀ (s : State), s.clk.held = false →
    (s.flag F.TWIN_CTRL_EN = false → s.recovering = false →
      (s.flag F.TWIN_CTRL_LOCK = true → exec .twinEnable s = .next (s.lockViolation 0 0x40090000 1))
      ∧ (s.flag F.TWIN_CTRL_LOCK = false → s.twin.solo = true → exec .twinEnable s = .next (s.setFlt F.TWIN_FLT_CFG_ERR))
      ∧ (s.flag F.TWIN_CTRL_LOCK = false → s.twin.solo = false → ∀ b j, j = { until_ := s.time.sys + s.fld F.TWIN_XFER_XFER_TIMEOUT * 1000000, ended := false, done := (s.twin.join.map JoinSt.done).getD [], naks := (s.twin.join.map JoinSt.naks).getD [] } →
          b = { s.setFlag F.TWIN_CTRL_EN true with twin := { s.twin with txSeq := 0, helloAt := s.time.sys + 50000, join := some j } } →
          exec .twinEnable s = .next (sendHello (setPair (joinSettle b) 1))))
    ∧ (s.flag F.TWIN_CTRL_EN = true → s.flag F.TWIN_CTRL_LOCK = false → exec .twinDisable s = .next (setPair (s.setFlag F.TWIN_CTRL_EN false) 0))
    ∧ (s.fld F.TWIN_STAT_PAIR ≠ 0 → s.twin.helloAt ≤ s.time.sys →
      exec .helloTx s = .next (sendHello { s with twin := { s.twin with helloAt := s.twin.helloAt + 50000 } }))
    ∧ (s.time.sys < s.twin.helloAt → exec .helloTx s = .next s)
    ∧ (∀ l, l < 2 → exec (.twinLaneUp l) s = .next (laneRefresh { s with twin := { s.twin with locks := s.twin.locks ||| 2 ^ l } })
      ∧ (∀ a, bitOf (s.fld F.TWIN_STAT_LANE_UP) l = true → a = (s.setFlt F.TWIN_FLT_LANE_LOST).count C.TWIN_LANE_LOSSES →
        exec (.twinLaneDown l) s = .next (laneRefresh { a with twin := { a.twin with locks := a.twin.locks &&& (3 - 2 ^ l) } })))
    ∧ (∀ h w a b, h.side ≠ s.twin.sideB → s.fld F.TWIN_STAT_PAIR = 1 → s.flag F.TWIN_STAT_LEADER = true → s.twin.rxRef = none →
      a = setPair (({ s with twin := { s.twin with lastRx := s.time.sys, rxRef := some h.seq } }).count C.TWIN_FRAMES_RX) 2 →
      b = { a with twin := { a.twin with rxRef := some h.seq, peerTag := w.getD 0 0, peerPri := bitsOf (w.getD 2 0) 31 28, peerYielded := bitOf (w.getD 2 0) 26, peerXfer := bitOf (w.getD 2 0) 25, peerGen := w.getD 2 0 % 256 } } → helloCheck b h w = 0 →
      a.fld F.TWIN_STAT_PAIR = 2 ∧ exec (.helloRx h w) s = .next ((List.range 8).foldl (fun s g => alignGroup s w g) (setPair b 3)))
    ∧ (s.fld F.TWIN_STAT_PAIR = 3 →
      (s.twin.lastRx + max 2 (s.fld F.TWIN_LINK_HELLO_LOSS) * 50000 ≤ s.time.sys →
        exec .pairLinkTimeout s = .next (setPair ((s.setFlt F.TWIN_FLT_LINK_LOST).count C.TWIN_LINK_LOSSES) 1))
      ∧ (s.time.sys < s.twin.lastRx + max 2 (s.fld F.TWIN_LINK_HELLO_LOSS) * 50000 → s.fld F.TWIN_STAT_LANE_UP ≠ 0 → exec .pairLinkTimeout s = .next s)
      ∧ (s.flag F.TWIN_STAT_LEADER = true → exec .yield s = .next (sendCtrl (setRole (s.setFlag F.TWIN_STAT_YIELDED true) false) 1 0))
      ∧ (s.flag F.TWIN_STAT_LEADER = false → exec .yield s = .next (s.setFlt F.TWIN_FLT_CMD_REFUSED)))
    ∧ (∀ g, g < 8 → (∃ t, exec (.realign g) s = .next t ∧ t.fld F.TWIN_G_STAT_ALIGN g = 0 ∧ t.mem = s.mem)
      ∧ exec (.clrRmax g) s = .next (s.setFld F.TWIN_G_RMAX_RMAX 0 g))

/-- Resolution, images, wake and the commanded reset (R297, R298, R306 to R311): the oldest commit whose deadline has come is closed, and nothing is before. The image being sent goes on
in frames of at most 1,024 octets while the pair is PAIRED and the partner asks. At XFER_TIMEOUT what is not installed is released and XFER_FAIL is set. WAKE starts wake frames 1 ms
apart until their end, refused while PAIRED; RESET_PARTNER asks a partner for a reset and is refused while not PAIRED; an accepted request resets the device 10 µs later. -/
def Obligations.RallyResolvesAndTransfers : Prop :=
  ∀ (s : State), s.clk.held = false →
    (∀ g c, (s.rgrp g).pend.find? (fun c => !c.closed && decide (rallyDeadline s c ≤ s.time.sys)) = some c → ∀ a, a = setPend s g { c with resolved := true, closed := true } →
      (c.resolved = true → c.got.isSome → exec (.rallyResolve g) s = .next a)
      ∧ (c.resolved = false → c.got = none → exec (.rallyResolve g) s = .next (missed (resolveCommit a g c) g c)))
    ∧ (∀ g, (∀ c ∈ (s.rgrp g).pend, c.closed = true ∨ s.time.sys < rallyDeadline s c) → exec (.rallyResolve g) s = .next s)
    ∧ (∀ i, s.twin.sendImg = some i → (xferOpen s i.part = false → exec .xferFrameTx s = .next s)
      ∧ (xferOpen s i.part = true → i.data.length ≤ i.pos + 1024 → i.pos < i.data.length → ∃ t, exec .xferFrameTx s = .next t
        ∧ t.twin.sendImg = some { i with pos := i.data.length } ∧ t.mem = s.mem
        ∧ (rallyOpen s = true → t.twin.out = s.twin.out ++ [(6 - 1, [i.part * 2 ^ 24 + 1, i.n, i.pos, crc32c i.data]
            ++ (List.range ((i.data.drop i.pos).length / 4)).map fun k => ofOctetsBE (((i.data.drop i.pos).drop (4 * k)).take 4))])))
    ∧ (∀ j, s.twin.join = some j → j.ended = false → s.flag F.TWIN_CTRL_XFER_REQ = true →
      (s.time.sys < j.until_ → exec .xferTimeout s = .next s)
      ∧ (j.until_ ≤ s.time.sys → ∀ b, b = { s with twin := { s.twin with join := some { j with ended := true, done := List.range 128 }, rxImg := none, images := [] } } →
        (((List.range 8).any fun g => grpEn s g && (groupSlots s g).any fun (n, k) => !j.done.contains (slotPart s n k)) = true →
          exec .xferTimeout s = .next (joinSettle (b.setFlt F.TWIN_FLT_XFER_FAIL)))
        ∧ (((List.range 8).any fun g => grpEn s g && (groupSlots s g).any fun (n, k) => !j.done.contains (slotPart s n k)) = false →
          exec .xferTimeout s = .next (joinSettle b))))
    ∧ (s.fld F.TWIN_STAT_PAIR = 3 → exec .wake s = .next (s.setFlt F.TWIN_FLT_CMD_REFUSED)
      ∧ exec .resetPartner s = .next (sendCtrl (s.count C.TWIN_RESET_REQ_TX) 2 0))
    ∧ (s.fld F.TWIN_STAT_PAIR ≠ 3 → exec .resetPartner s = .next (s.setFlt F.TWIN_FLT_CMD_REFUSED)
      ∧ (s.twin.wakeAt = none → exec .wake s = .next (({ s with twin := { s.twin with wakeAt := some (s.time.sys + 1), wakeEnd := s.time.sys + max 1 (s.fld F.TWIN_WAKE_WAKE_TIMEOUT) * 1000000 } }).count C.TWIN_WAKES)))
    ∧ (∀ e p, s.twin.wakeAt = some e → p = s.fld F.TWIN_WAKE_WAKE_PORT →
      (s.time.sys < e → exec .wakeFrameTx s = .next s)
      ∧ (∀ a, e ≤ s.time.sys → a = { s with twin := { s.twin with wakeAt := some (e + 1000000) } } →
        (oobReady a p = true → exec .wakeFrameTx s = .next (sendOob a p (.wake (wakeFrame a p))))
        ∧ (oobReady a p = false → exec .wakeFrameTx s = .next a))
      ∧ (s.time.sys < s.twin.wakeEnd → exec .wakeTimeout s = .next s)
      ∧ (s.twin.wakeEnd ≤ s.time.sys → ∃ t, exec .wakeTimeout s = .next t ∧ t.twin.wakeAt = none ∧ t.flag F.TWIN_FLT_WAKE_TIMEOUT = true ∧ t.mem = s.mem))
    ∧ (∀ t, s.twin.resetAt = some t → (s.time.sys < t → exec .partnerResetFire s = .next s)
      ∧ (t ≤ s.time.sys → exec .partnerResetFire s = .next (assertReset s causeTwin)))

/-- The disturbance recorder (R313 to R315, R320 to R325, R329 to R331, R335): an enable that fails R331 sets CFG_ERR or CAP_REFUSED; accepted, the configuration record is written,
the ticks start at the next grid instant and a slot is armed. A disable truncates a triggered segment and frees an untriggered slot. Binary channels are sampled at the first edge at
or after a tick; the oldest sampled tick is assembled L_T after its instant. A unit that passes its checks is enabled with its condition counting as true; TRIGGER fires an enabled
MANUAL unit; FREE and FREE_ALL free DONE slots; a flushed slot is DONE, its segment counted. -/
def Obligations.RecorderRuns : Prop :=
  ∀ (s : State), s.clk.held = false →
    (s.flag F.DREC_CTRL_EN = false → drecCfgBad s = true → drecCapBad s = false → exec .drecEnable s = .next (s.setFlt F.DREC_FLT_CFG_ERR))
    ∧ (s.flag F.DREC_CTRL_EN = false → drecCfgBad s = false → drecCapBad s = true → exec .drecEnable s = .next (s.setFlt F.DREC_FLT_CAP_REFUSED))
    ∧ (s.flag F.DREC_CTRL_EN = false → drecCfgBad s = false → drecCapBad s = false → ∀ b, b = writeConfig (s.setFlag F.DREC_CTRL_EN true) →
      exec .drecEnable s = .next (armNext { b with drec := { b.drec with lt := ((List.range 8).map (adepth s)).foldl max 0 + 2000, next := some (tickAfter b.devT), pend := [], hist := [], cond := 2 ^ 32 - 1, seen := [], count := 0, lastAsm := 0, prevLast := none, arming := false, seg := none, steps := [], gap := false, staged := 0 } }))
    ∧ (s.flag F.DREC_CTRL_EN = true → ∀ b, b = (s.setFlag F.DREC_CTRL_EN false).setFld F.DREC_STAT_STATE 0 → ∀ c, c = { b with drec := { b.drec with next := none, pend := [], seg := none, arming := false } } →
      (s.drec.seg = none → exec .drecDisable s = .next c)
      ∧ (∀ g, s.drec.seg = some g → g.trig = none → exec .drecDisable s = .next (c.setFld F.DREC_G_STAT_STATE 0 g.slot))
      ∧ (∀ g t, s.drec.seg = some g → g.trig.isSome → t = ((c.count C.DREC_TRUNCATED).setFlt F.DREC_FLT_TRUNC).setFld F.DREC_G_STAT_STATE 3 g.slot →
        exec .drecDisable s = .next { t with drec := { t.drec with flush := t.drec.flush ++ [{ g with trunc := true }] } }))
    ∧ (∀ g, s.drec.next = some g → (s.devT < g → exec .drecBinarySample s = .next s)
      ∧ (g ≤ s.devT → ∃ t x, exec .drecBinarySample s = .next t ∧ t.drec.next = some (tickAfter g) ∧ t.drec.pend = s.drec.pend ++ [x] ∧ x.inst = g
        ∧ x.tq = s.fld F.TIME_STAT_TQ ∧ { t with drec := s.drec } = s))
    ∧ (∀ p r d, s.drec.pend = p :: r → (s.devT < p.inst + s.drec.lt * 65536 → exec (.drecTickAssemble d) s = .next s)
      ∧ (p.inst + s.drec.lt * 65536 ≤ s.devT →
        exec (.drecTickAssemble d) s = .next (assembleTick { s with drec := { s.drec with pend := r, staged := s.drec.staged - d } } p)))
    ∧ (s.drec.arming = true → exec .drecNextSlotArmed s = .next (armNext s))
    ∧ (∀ k ov, s.drec.arming = false → s.fld F.DREC_STAT_STATE = 3 → nextSlot s = some (k, ov) → exec .drecNextSlotArmed s = .next (armSlot s k ov))
    ∧ (∀ k ov t, t = armSlot s k ov → ∃ g, t.drec.seg = some g ∧ g.slot = k ∧ g.ticks = [] ∧ g.trig = none ∧ t.drec.arming = false ∧ t.fld F.DREC_STAT_STATE = 1
      ∧ t.fld F.DREC_STAT_CUR = k % 2 ^ F.DREC_STAT_CUR.width)
    ∧ (∀ g r, s.drec.flush = g :: r → g.trig = none → ∃ t, exec .drecSlotDone s = .next t ∧ t.drec.flush = r ∧ t.fld F.DREC_G_STAT_STATE g.slot = 4
      ∧ t.ctr C.DREC_SEGMENTS = min ctrMax (s.ctr C.DREC_SEGMENTS + 1) ∧ t.flag F.DREC_FLT_SEGMENT = true ∧ t.mem = s.mem)
    ∧ (∀ u, u < 32 → s.flag F.DREC_U_CTL_EN u = false →
      (unitBad s u = true → exec (.drecUnitEnable u) s = .next ((s.setFlag F.DREC_U_STAT_REFUSED true u).setFlt F.DREC_FLT_UNIT_REFUSED))
      ∧ (unitBad s u = false → exec (.drecUnitEnable u) s = .next { s.setFlag F.DREC_U_CTL_EN true u with drec := { s.drec with cond := s.drec.cond ||| 2 ^ u } }))
    ∧ (∀ u tag, u < 32 → s.flag F.DREC_U_CTL_EN u = true → s.fld F.DREC_U_CTL_TYPE u = 4 →
      exec (.trigger u tag) s = .next { s with drec := { s.drec with manual := sparsePut u tag s.drec.manual } })
    ∧ (∀ k, s.fld F.DREC_SEL_KIND = 3 → s.fld F.DREC_SEL_INDEX = k → k < s.fld F.DREC_NSEG_NSEG → exec .free s = .next (freeSlot s k)
      ∧ (s.fld F.DREC_G_STAT_STATE k = 4 → (freeSlot s k).fld F.DREC_G_STAT_STATE k = 0 ∧ sparseFind k (freeSlot s k).drec.freed = some s.time.sys)
      ∧ (s.fld F.DREC_G_STAT_STATE k ≠ 4 → freeSlot s k = s))
    ∧ exec .freeAll s = .next (((List.range 4096).filter fun k => s.fld F.DREC_G_STAT_STATE k = 4).foldl freeSlot s)

/-- The event log (R338 to R354): the next queued event old enough is written into the slot at WRPTR, its W0 first, and WRPTR, NEXT_SEQ and RECORDS move on by one. A software record
with a code of 0x8000 or more and SW_EN set is offered from the writer's staging set, another is refused as a bus error. A write of RD_IDX selects a slot and clears the read error.
CLEAR starts a clear unless one or an export runs; its end leaves only the CLEARED record, in slot 0. EXPORT starts a copy that its checks admit, which ends counted. -/
def Obligations.EventLogRecords : Prop :=
  ∀ (s : State), s.clk.held = false →
    (∀ e rest p, s.elog.writing = none → s.elog.clearing = none → s.elog.queue = e :: rest → s.fld F.ELOG_WRPTR_WRPTR = p →
      (s.time.sys < e.edge + 2 → exec .elogRecordWrite s = .next s)
      ∧ (e.edge + 2 ≤ s.time.sys → ∃ t, exec .elogRecordWrite s = .next t ∧ t.elog.queue = rest ∧ sparseGet elogUnwritten t.elog.sram p = (sparseGet elogUnwritten s.elog.sram p).set 0 (s.fld F.ELOG_STAT_NEXT_SEQ * 65536 + e.code)
        ∧ t.elog.writing = some { slot := p, next := 1, words := (recordWords e (s.fld F.ELOG_STAT_NEXT_SEQ)).drop 1 }
        ∧ t.fld F.ELOG_WRPTR_WRPTR = (p + 1) % 2 ^ F.ELOG_WRPTR_WRPTR.width ∧ t.fld F.ELOG_STAT_NEXT_SEQ = (s.fld F.ELOG_STAT_NEXT_SEQ + 1) % 65536
        ∧ t.ctr C.ELOG_RECORDS = min ctrMax (s.ctr C.ELOG_RECORDS + 1) ∧ t.mem = s.mem))
    ∧ (∀ w, s.elog.writing = some w → exec .elogRecordWrite s = .next s)
    ∧ (∀ tag code b, tag < 128 → code < 65536 → bwAdmit s initCore tag kindWrite 0x400B008C 4 = (true, b) →
      (0x8000 ≤ code → b.flag F.ELOG_CTRL_SW_EN = true → elogFull b = false → exec (.elogSwCodeWrite tag code) s =
        .next (b.offerEvent (b.mkEvent 0x80 code tag (b.fld (F.ELOG_SW_P_PARAM.el 0) tag) (b.fld (F.ELOG_SW_P_PARAM.el 1) tag) (b.fld (F.ELOG_SW_P_PARAM.el 2) tag) true)))
      ∧ (code < 0x8000 ∨ b.flag F.ELOG_CTRL_SW_EN = false → exec (.elogSwCodeWrite tag code) s =
        .next (((b.count C.ELOG_SW_REFUSED).setFlt F.ELOG_FLT_SW_REFUSED).busError 6 initCore tag 0x400B008C true)))
    ∧ (∀ v, exec (.elogRdIdxWrite v) s = .next ((s.setFld F.ELOG_RD_IDX_IDX v).setFlag F.ELOG_RD_ERR_UE false))
    ∧ (elogBusy s = true → exec .clear s = .next (s.setFlt F.ELOG_FLT_CMD_REFUSED) ∧ exec .exportLog s = .next (s.setFlt F.ELOG_FLT_CMD_REFUSED))
    ∧ (elogBusy s = false → ∃ t c, exec .clear s = .next t ∧ t.flag F.ELOG_STAT_CLEARING = true ∧ t.elog.clearing = some c ∧ c.before = s.elog.queue.length
      ∧ t.elog.taken = 1 ∧ t.elog.queue = s.elog.queue ∧ t.elog.sram = s.elog.sram ∧ t.mem = s.mem)
    ∧ (∀ c n, s.elog.clearing = some c → c.before = 0 → s.elog.full = none → s.elog.writing = none → s.fld F.ELOG_WRPTR_WRPTR = n → n ≠ 0 →
      ∃ t, exec .elogClearDone s = .next t ∧ t.elog.clearing = none ∧ t.flag F.ELOG_STAT_CLEARING = false ∧ t.flag F.ELOG_STAT_FULL = false
        ∧ t.fld F.ELOG_WRPTR_WRPTR = 1 ∧ (∀ k, k ≠ 0 → sparseGet elogUnwritten t.elog.sram k = elogUnwritten)
        ∧ elogWord t 0 0 = s.fld F.ELOG_STAT_NEXT_SEQ * 65536 + c.event.code ∧ t.ctr C.ELOG_CLEARS = min ctrMax (s.ctr C.ELOG_CLEARS + 1) ∧ t.mem = s.mem)
    ∧ (∀ f n a, elogBusy s = false → s.fld F.ELOG_EXP_FIRST_FIRST = f → s.fld F.ELOG_EXP_CNT_CNT = n → s.fld F.ELOG_EXP_ADDR_HI_ADDR * 2 ^ 32 + s.fld F.ELOG_EXP_ADDR_LO_ADDR = a →
      (0 < n → f + n ≤ elogSlots → a % 32 = 0 → lpddrBase ≤ a → a + n * 32 ≤ lpddrBase + lpddrSize s → ∃ t, exec .exportLog s = .next t
        ∧ t.elog.exporting = some { first := f, cnt := n, addr := a } ∧ t.flag F.ELOG_STAT_EXPORTING = true ∧ t.mem = s.mem)
      ∧ (n = 0 ∨ elogSlots < f + n ∨ a % 32 ≠ 0 ∨ a < lpddrBase ∨ lpddrBase + lpddrSize s < a + n * 32 → exec .exportLog s = .next (s.setFlt F.ELOG_FLT_CMD_REFUSED)))
    ∧ (∀ x ok b, s.elog.exporting = some x → exportSlots s x.first x.addr x.cnt = (ok, b) → ∀ c, c = ({ b with elog := { b.elog with exporting := none } }).setFlag F.ELOG_STAT_EXPORTING false →
      (ok = true → exec .elogExportDone s = .next (c.count C.ELOG_EXPORTS)) ∧ (ok = false → exec .elogExportDone s = .next (c.setFlt F.ELOG_FLT_EXP_ERR)))

/-- The link of a port (R357, R361, R371, R372): an accepted EN takes it from DISABLED to DOWN with the threshold, speed and auto-negotiation as at reset, a refused one counts no link and sets
CFG_REFUSED; EN 0 takes it to DISABLED. A change of the line's signals, of the module, of auto-negotiation or of a test mode settles the link by the up condition: DOWN to UP_WAIT with UP_HOLD
running, UP_WAIT to DOWN and DOWN_WAIT to UP with a flap, UP to DOWN_WAIT or at once to DOWN. UP_HOLD ends in UP, or waits for the flush; DOWN_HOLD ends in DOWN. -/
def Obligations.LinkOfAPort : Prop :=
  ∀ (s : State) (p : Nat), s.clk.held = false → p < 8 →
    (∀ a, (s.recovering = false ∨ p = 7) → s.flag F.PORT_P_CTL_EN p = false →
      (portRefused s p = true → exec (.portEnable p) s = .next (portFlt s p F.PORT_P_FLT_CFG_REFUSED F.PORT_FLT_CFG_ERR))
      ∧ (portRefused s p = false →
        a = ((((((s.setFlag F.PORT_P_CTL_EN true p).setFld F.PORT_P_STAT_LINK 1 p).setFld F.PORT_P_STAT_TX_THR_CUR (max 1 (s.fld F.PORT_P_TXTHR_TX_THR p)) p).setFlag F.PORT_P_AN_AN_DONE false p).setFld
          F.PORT_P_AN_LP_ABILITY 0 p).setPortCh p { s.portCh p with anAck := false }).setFld F.PORT_P_STAT_SPEED_RES (s.fld F.PORT_P_CTL_SPEED p) p →
        exec (.portEnable p) s = .next (linkSettle a p)))
    ∧ (∀ a b, s.flag F.PORT_P_CTL_EN p = true → (a = if s.fld F.PORT_P_STAT_LINK p = 3 ∨ s.fld F.PORT_P_STAT_LINK p = 4 then enterDown s p else s.setPortCh p { s.portCh p with holdAt := none }) →
      b = a.setPortCh p { a.portCh p with oob := [] } →
      exec (.portDisable p) s = .next (((b.setFlag F.PORT_P_CTL_EN false p).setFld F.PORT_P_STAT_LINK 0 p).setFlag F.PORT_P_STAT_FLUSH_PEND false p))
    ∧ (∀ los pcs ber fec, exec (.portUpConditionChange p los pcs ber fec) s = .next (linkSettle
        ((((s.setFlag F.PORT_P_STAT_LOS los p).setFlag F.PORT_P_STAT_PCS_LOCK pcs p).setFlag F.PORT_P_STAT_HI_BER ber p).setFlag F.PORT_P_STAT_FEC_LOCK fec p) p))
    ∧ (∀ absent, s.flag F.PORT_P_STAT_MODABS p ≠ absent → exec (.modabsChange p absent) s = .next (linkSettle
        (portFlt ((s.setFlag F.PORT_P_STAT_MODABS absent p).event blkPort 0x0C02 0 p (if absent then 0 else 1)) p F.PORT_P_FLT_MOD_CHANGE F.PORT_FLT_MOD_CHANGE) p))
    ∧ (∀ lp a, s.fld F.PORT_P_STAT_LINK p ≠ 0 → s.flag F.PORT_P_CTL_AN_EN p = true → a = s.setFld F.PORT_P_AN_LP_ABILITY lp p →
      (s.fld F.PORT_P_CTL_MODE p = 2 → bitOf lp 5 = true → exec (.anComplete p lp) s = .next (linkSettle (a.setFlag F.PORT_P_AN_AN_DONE true p) p))
      ∧ (s.fld F.PORT_P_CTL_MODE p = 2 → bitOf lp 5 = false → exec (.anComplete p lp) s = .next (linkSettle (portFlt
          (((a.setFlag F.PORT_P_AN_AN_DONE false p).count C.PORT_P_AN_FAILS p).event blkPort 0x0C04 0 p (lp % 65536)) p F.PORT_P_FLT_AN_FAIL F.PORT_FLT_AN_FAIL) p))
      ∧ (s.fld F.PORT_P_CTL_MODE p = 3 → ∃ t, exec (.anComplete p lp) s = .next (linkSettle t p) ∧ t.fld F.PORT_P_STAT_SPEED_RES p = bitsOf lp 11 10 ∧ t.flag F.PORT_P_AN_AN_DONE p = true
          ∧ (t.portCh p).anAck = true))
    ∧ (∀ v a b, a = ((s.setFld F.PORT_P_TEST_LOOP v p).setFlag F.PORT_P_TEST_PRBS_GEN (bitOf v 4) p).setFlag F.PORT_P_TEST_PRBS_CHK (bitOf v 5) p →
      (b = if bitOf v 5 then a.setFld F.PORT_P_PRBS_ERR_ERRORS 0 p else a) → exec (.portTestWrite p v) s = .next (linkSettle b p (portTesting a p)))
    ∧ (∀ e, (s.portCh p).holdAt = some e → e ≤ s.time.sys →
      (s.fld F.PORT_P_STAT_LINK p = 2 → s.flag F.SWC_P_STAT_FLUSHING p = true → exec (.upHoldExpiry p) s = .next (s.setFlag F.PORT_P_STAT_FLUSH_PEND true p))
      ∧ (s.fld F.PORT_P_STAT_LINK p = 2 → s.flag F.SWC_P_STAT_FLUSHING p = false → ∃ t, exec (.upHoldExpiry p) s = .next t ∧ t.fld F.PORT_P_STAT_LINK p = 3
        ∧ t.flag F.PORT_P_FLT_LINK_UP p = true ∧ t.fld F.PORT_P_STAT_TX_THR_CUR p = max 1 (s.fld F.PORT_P_TXTHR_TX_THR p) % 256)
      ∧ (s.fld F.PORT_P_STAT_LINK p = 4 → exec (.downHoldExpiry p) s = .next (enterDown s p)))
    ∧ (∀ e, (s.portCh p).holdAt = some e → s.time.sys < e → exec (.upHoldExpiry p) s = .next s ∧ exec (.downHoldExpiry p) s = .next s)
    ∧ ∀ up, up = upCondition s p →
      (s.fld F.PORT_P_STAT_LINK p = 1 → up = true → linkSettle s p = ((s.setPortCh p { s.portCh p with holdAt := some (s.time.sys + min 1000 (s.fld F.PORT_P_LINK_UP_HOLD p) * 1000000) }).setFld F.PORT_P_STAT_LINK 2 p))
      ∧ (s.fld F.PORT_P_STAT_LINK p = 3 → up = false → 1 ≤ s.fld F.PORT_P_LINK_DOWN_HOLD p → linkSettle s p = slaveLost
        ((s.setPortCh p { s.portCh p with holdAt := some (s.time.sys + min 1000 (s.fld F.PORT_P_LINK_DOWN_HOLD p) * 1000) }).setFld F.PORT_P_STAT_LINK 4 p) p)
      ∧ (s.fld F.PORT_P_STAT_LINK p = 3 → up = false → linkSettle s p true = enterDown s p)
      ∧ (s.fld F.PORT_P_STAT_LINK p = 1 → up = false → linkSettle s p = s)

/-- The paths of a port (R358, R359, R364 to R369, R373): an I2C command starts a transaction, whose end leaves what was read; equaliser weights and the threshold are taken, a set of weights
above 64 is refused. A received frame that no rule of the MAC takes goes to the switch core with RXTRIM added; PAUSE, a fragment and a frame with a wrong FCS and DELIVER_BAD 0 go no further. The MAC
starts the frame in its FIFO at the start level on an idle line; an underrun ends it. In the low-power mode a matching frame raises the wake request. -/
def Obligations.PathsOfAPort : Prop :=
  ∀ (s : State) (p : Nat), s.clk.held = false → p < 8 →
    (∀ k, k < 2 →
      (∀ v a b, s.flag (F.PORT_I2C_STAT_BUSY.el k) = false → bitOf v 31 = true →
        a = [F.PORT_I2C_CMD_WR, F.PORT_I2C_CMD_FAST, F.PORT_I2C_CMD_DEV, F.PORT_I2C_CMD_PORT, F.PORT_I2C_CMD_LEN, F.PORT_I2C_CMD_OFFSET].foldl (fun s f => s.setFld (f.el k) (v / 2 ^ f.lo)) s →
        b = ((a.setFlag (F.PORT_I2C_STAT_DONE.el k) false).setFlag (F.PORT_I2C_STAT_ERR.el k) false).count C.PORT_I2C_XFERS →
        b.flag F.PORT_P_STAT_MODABS (4 * k + b.fld (F.PORT_I2C_CMD_PORT.el k)) = false →
        exec (.i2cCmd k v) s = .next ((b.setI2cOut k (i2cOctets b k)).setFlag (F.PORT_I2C_STAT_BUSY.el k) true))
      ∧ (∀ v, s.flag (F.PORT_I2C_STAT_BUSY.el k) = true → exec (.i2cCmd k v) s = .next (s.setFlag (F.PORT_I2C_STAT_ERR.el k) true))
      ∧ (∀ data, s.flag (F.PORT_I2C_STAT_BUSY.el k) = true → s.flag (F.PORT_I2C_CMD_WR.el k) = true →
        exec (.i2cDone k true data) s = .next (((s.setFlag (F.PORT_I2C_STAT_BUSY.el k) false).setFlag (F.PORT_I2C_STAT_DONE.el k) true).setFlag (F.PORT_I2C_STAT_ERR.el k) false))
      ∧ (∀ data, s.flag (F.PORT_I2C_STAT_BUSY.el k) = true → s.flag (F.PORT_I2C_CMD_WR.el k) = false → s.fld (F.PORT_I2C_CMD_LEN.el k) = 7 →
        exec (.i2cDone k true data) s = .next (((((s.setFld (F.PORT_I2C_D0_VAL.el k) (ofOctetsLE ((List.range 4).map fun i => data.getD i 0))).setFld (F.PORT_I2C_D1_VAL.el k)
          (ofOctetsLE ((List.range 4).map fun i => data.getD (4 + i) 0))).setFlag (F.PORT_I2C_STAT_BUSY.el k) false).setFlag (F.PORT_I2C_STAT_DONE.el k) true).setFlag (F.PORT_I2C_STAT_ERR.el k) false)))
    ∧ (∀ v, s.flag F.PORT_CTRL_LOCK = false →
      (bitsOf v 20 16 + bitsOf v 13 8 + bitsOf v 4 0 ≤ 64 → exec (.eqTxWrite p v) s = .next (((s.setFld F.PORT_P_EQ_TX_POST (bitsOf v 20 16) p).setFld F.PORT_P_EQ_TX_MAIN (bitsOf v 13 8) p).setFld
          F.PORT_P_EQ_TX_PRE (bitsOf v 4 0) p))
      ∧ (64 < bitsOf v 20 16 + bitsOf v 13 8 + bitsOf v 4 0 → exec (.eqTxWrite p v) s = .next (portFlt s p F.PORT_P_FLT_CFG_REFUSED F.PORT_FLT_CFG_ERR))
      ∧ ∃ t, exec (.portTxthrWrite p v) s = .next t ∧ t.fld F.PORT_P_TXTHR_STEP p = bitsOf v 15 8 % 256 ∧ t.fld F.PORT_P_TXTHR_TX_THR p = v % 256 ∧ t.fld F.PORT_P_STAT_TX_THR_CUR p = max 1 (v % 256) % 256)
    ∧ (∀ f st, s.fld F.PORT_P_STAT_LINK p ≠ 0 →
      (64 ≤ f.len → f.len ≤ s.fld F.PORT_P_CTL_MAX_LEN p → ∀ a, a = (s.count C.PORT_P_RX_FRAMES p).countBy C.PORT_P_RX_OCTETS f.len p →
        (macTakes s f = none → ∀ t b, ingressStamp s p st = (t, b) → exec (.macRxFrame p f st false false false false) s = .next
          (swcReceive ((b.count C.PORT_P_RX_FRAMES p).countBy C.PORT_P_RX_OCTETS f.len p) p { frame := f, stamp := t, flags := 0, bad := false, wire := f.len }))
        ∧ (f.hsr = none → f.etype = 0x8808 → exec (.macRxFrame p f st false false false false) s = .next (a.count C.PORT_P_RX_PAUSE p))
        ∧ (∀ b, b = portFlt (s.count C.PORT_P_RX_FCS_ERR p) p F.PORT_P_FLT_BAD_RX F.PORT_FLT_BAD_RX → s.flag F.PORT_P_CTL_DELIVER_BAD p = false →
          ∀ x t, ingressStamp b p st = (x, t) → t.flag F.PORT_P_CTL_DELIVER_BAD p = false → exec (.macRxFrame p f st true false false false) s = .next (t.count C.PORT_P_RX_BAD_DROPPED p)))
      ∧ (f.len < 14 → f.len ≤ s.fld F.PORT_P_CTL_MAX_LEN p → exec (.macRxFrame p f st false false false false) s = .next (s.count C.PORT_P_RX_FRAGMENTS p)))
    ∧ (∀ x fill g a, (s.portCh p).fifo = some x → (s.portCh p).txEnd ≤ s.time.sys → startLevel s p x.frame.len ≤ fill → egressFrame (s.setPortCh p { s.portCh p with fifo := none }) p x = (g, a) →
      exec (.macTxStart p fill) s = .next (((a.setPortCh p { a.portCh p with txing := some x, txEnd := a.time.sys + lineTime a p g.len, sent := some g, under := none, broken := [] }).count C.PORT_P_TX_FRAMES p).countBy
        C.PORT_P_TX_OCTETS g.len p))
    ∧ (∀ x f o, (s.portCh p).txing = some x → (s.portCh p).sent = some f → (s.portCh p).under = none → lineBusy s p = true →
      o = (frameOctets f).take ((s.time.sys + lineTime s p f.len - (s.portCh p).txEnd) * portKbps s p / 8000000 - 8) →
      exec (.txUnderrun p) s = .next (s.setPortCh p { s.portCh p with txing := none, sent := none, under := some (s.time.sys + octetTime s p 4, true), broken := o ++ (fcsOctets o).map (255 - ·), txEnd := s.time.sys + octetTime s p 16 }))
    ∧ ∀ f r, s.clk.lowPower = true → s.port.wakeRate ≠ 0 → s.clk.wakeBy = 0 → f.tag = none → f.hsr = none → f.dst = s.port.wakeDa → f.etype = 0x88B5 → f.payload = .raw ([0x52, 0x41, 0x4C, 0x59] ++ octetsBE 4 0 ++ r) →
      exec (.wakeFrameDetect f true) s = .next { s with clk := { s.clk with wakeBy := 1 } } ∧ exec (.wakeFrameDetect f false) s = .next s

/-- The tables of the switch core (R380, R382, R385, R398, R405, R409, R410): its mailbox reads and writes the VLAN table, the FDB and the multicast table, a missing entry is refused, and what has
a value in a table reads back. A learned entry leaves the FDB at AGE_TIME or by a flush, an entry of duplicate discard at FORGET. EN is set when every queue limit holds, that of a
pair when its mode is PRP or HSR and the source addresses agree, that of a ring for a SIZE_LOG of 4 to 12; each refused EN sets CFG_ERR. -/
def Obligations.SwitchTables : Prop :=
  ∀ (s : State), s.clk.held = false →
    (∀ d a, s.flag (mbxBusy 13) = false → d = s.mbxD 13 0 → a = s.mbxD 13 1 % 65536 * 2 ^ 32 + s.mbxD 13 2 →
      (∀ e, e = s.vlan (d % 4096) → exec .vlanRd s = .next (s.mbxStart 13 ⟨1, true, ofBit e.valid * 2 ^ 31 + ofBit e.floodUc * 2 ^ 30 + ofBit e.floodMc * 2 ^ 29 + ofBit e.sv * 2 ^ 28
          + ofBit e.go * 2 ^ 27 + ofBit e.loop * 2 ^ 26 + e.owner * 2 ^ 16 + d % 4096, e.member, e.untag, 0⟩))
      ∧ (∀ i e, fdbFind s a (d % 4096) = some (i, e) → exec .fdbRd s = .next (s.mbxStart 13 ⟨3, true, 2 ^ 31 + ofBit e.static * 2 ^ 30 + e.port * 2 ^ 16 + e.vid, e.addr / 2 ^ 32, e.addr % 2 ^ 32,
          if e.static then 0 else min 4095 ((s.time.sys - e.last) / 1000000000)⟩))
      ∧ (fdbFind s a (d % 4096) = none → exec .fdbRd s = .next (s.mbxRefuse 13))
      ∧ (∀ e, sparseFind (bitsOf d 25 16) s.swc.mc = some e → exec .mcRd s = .next (s.mbxStart 13 ⟨6, true, 2 ^ 31 + bitsOf d 25 16 * 2 ^ 16 + e.vid, e.addr / 2 ^ 32, e.addr % 2 ^ 32, e.mask⟩))
      ∧ (∀ i e, i = bitsOf (s.mbxD 13 1) 29 16 → sparseFind i s.swc.fdb = some e → exec .fdbRdIndex s = .next (s.mbxStart 13 ⟨8, true, 2 ^ 31 + ofBit e.static * 2 ^ 30 + e.port * 2 ^ 16 + e.vid,
          i * 2 ^ 16 + e.addr / 2 ^ 32, e.addr % 2 ^ 32, if e.static then 0 else min 4095 ((s.time.sys - e.last) / 1000000000)⟩))
      ∧ (∀ i, i = bitsOf (s.mbxD 13 1) 29 16 → sparseFind i s.swc.fdb = none → exec .fdbRdIndex s = .next (s.mbxStart 13 ⟨8, true, 0, i * 2 ^ 16, 0, 0⟩))
      ∧ (s.flag F.SWC_CTRL_LOCK = true → exec .vlanWr s = .next (s.mbxRefuse 13) ∧ exec .fdbWr s = .next (s.mbxRefuse 13) ∧ exec .fdbDel s = .next (s.mbxRefuse 13) ∧ exec .mcWr s = .next (s.mbxRefuse 13))
      ∧ (s.flag F.SWC_CTRL_LOCK = false →
        (∃ t, exec .vlanWr s = .next t ∧ t.vlan (d % 4096) = { valid := bitOf d 31, floodUc := bitOf d 30, floodMc := bitOf d 29, sv := bitOf d 28, go := bitOf d 27, loop := bitOf d 26, owner := bitsOf d 22 16, member := s.mbxD 13 1 % 4096, untag := s.mbxD 13 2 % 256 }
          ∧ (∀ v, v ≠ d % 4096 → t.vlan v = s.vlan v) ∧ t.mem = s.mem)
        ∧ (∀ i, (∃ e, fdbFind s a (d % 4096) = some (i, e)) ∨ (fdbFind s a (d % 4096) = none ∧ fdbPlace s a (d % 4096) = some i) → ∃ t, exec .fdbWr s = .next t
          ∧ sparseFind i t.swc.fdb = some { static := true, addr := a, vid := d % 4096, port := bitsOf d 19 16, last := s.time.sys } ∧ (∀ k, k ≠ i → sparseFind k t.swc.fdb = sparseFind k s.swc.fdb) ∧ t.mem = s.mem)
        ∧ (∀ i e, fdbFind s a (d % 4096) = some (i, e) → exec .fdbDel s = .next (({ s with swc := { s.swc with fdb := sparseDel i s.swc.fdb } }).mbxStart 13 ⟨5, true, d, s.mbxD 13 1, s.mbxD 13 2, s.mbxD 13 3⟩))
        ∧ (bitOf d 31 = true → ∃ t, exec .mcWr s = .next t ∧ sparseFind (bitsOf d 25 16) t.swc.mc = some { vid := d % 4096, addr := a, mask := s.mbxD 13 3 % 512 } ∧ t.mem = s.mem)
        ∧ (bitOf d 31 = false → exec .mcWr s = .next (({ s with swc := { s.swc with mc := sparseDel (bitsOf d 25 16) s.swc.mc } }).mbxStart 13 ⟨7, true, d, s.mbxD 13 1, s.mbxD 13 2, s.mbxD 13 3⟩))))
    ∧ (s.flag (mbxBusy 13) = true → exec .vlanRd s = .next (s.setFlag (mbxErr 13) true) ∧ exec .mcWr s = .next (s.setFlag (mbxErr 13) true))
    ∧ (∀ i e, sparseFind i s.swc.fdb = some e → e.static = false →
      (s.fld F.SWC_CTRL_AGE_TIME ≠ 0 → e.last + s.fld F.SWC_CTRL_AGE_TIME * 1000000000 ≤ s.time.sys →
        exec (.fdbAgeOut i) s = .next (({ s with swc := { s.swc with fdb := sparseDel i s.swc.fdb } }).count C.SWC_AGED))
      ∧ (s.time.sys < e.last + s.fld F.SWC_CTRL_AGE_TIME * 1000000000 → exec (.fdbAgeOut i) s = .next s))
    ∧ exec .flushFdbAll s = .next { s with swc := { s.swc with fdb := s.swc.fdb.filter fun e => e.2.static } }
    ∧ (s.fld F.SWC_SEL_KIND = 0 → exec .flushFdbPort s = .next { s with swc := { s.swc with
        fdb := s.swc.fdb.filter fun e => e.2.static || decide (canonPort s e.2.port ≠ canonPort s (s.fld F.SWC_SEL_INDEX)) } })
    ∧ (∀ k, k < 4 → ∃ t, exec (.ddEntryExpire k) s = .next t ∧ t.ddTab k = (s.ddTab k).filter (fun e => decide (s.time.sys < e.last + max 1 (s.fld F.SWC_R_CTL_FORGET k) * 1000000)) ∧ t.mem = s.mem)
    ∧ (s.flag F.SWC_CTRL_LOCK = false →
      (s.flag F.SWC_CTRL_EN = false → s.recovering = false →
        ((∀ e c, e < 12 → c < 8 → qMin s e c ≤ qMax s e c ∧ qMax s e c ≤ 64896) → sumMin s ≤ 60800 → exec .swcEnable s = .next (s.setFlag F.SWC_CTRL_EN true))
        ∧ ((∃ e c, e < 12 ∧ c < 8 ∧ (qMax s e c < qMin s e c ∨ 64896 < qMax s e c)) ∨ 60800 < sumMin s → exec .swcEnable s = .next (s.setFlt F.SWC_FLT_CFG_ERR)))
      ∧ (∀ k, k < 4 → s.flag F.SWC_R_CTL_EN k = false →
        ((s.fld F.SWC_R_CTL_MODE k = 1 ∨ s.fld F.SWC_R_CTL_MODE k = 2) → portSa s (2 * k) = portSa s (2 * k + 1) → exec (.pairEnable k) s = .next (s.setFlag F.SWC_R_CTL_EN true k))
        ∧ ((s.fld F.SWC_R_CTL_MODE k ≠ 1 ∧ s.fld F.SWC_R_CTL_MODE k ≠ 2) ∨ portSa s (2 * k) ≠ portSa s (2 * k + 1) →
          exec (.pairEnable k) s = .next ((s.setFlag F.SWC_R_FLT_CFG_REFUSED true k).setFlt F.SWC_FLT_CFG_ERR))))
    ∧ ∀ p rx, p < 128 →
      (4 ≤ s.fld F.SWC_T_RX_RING_SIZE_LOG p → s.fld F.SWC_T_RX_RING_SIZE_LOG p ≤ 12 → exec (.ringEnable p rx false) s = .next ((s.setFlag F.SWC_T_CTL_RX_EN rx p).setFlag F.SWC_T_CTL_TX_EN false p))
      ∧ (s.flag F.SWC_T_CTL_RX_EN p = false → 12 < s.fld F.SWC_T_RX_RING_SIZE_LOG p → exec (.ringEnable p true false) s = .next ((s.setFlt F.SWC_FLT_CFG_ERR).setFlag F.SWC_T_CTL_TX_EN false p))

/-- The traffic of the switch core (R379, R382, R384 to R386, R394 to R396, R405 to R407, R430): the oldest frame received at a port outside a pair is counted, learned and sent to its destinations, discarded
for a VLAN that it is not a member of. A port's scheduler hands its next copy to the MAC, Estuary or the GOOSE engine; a double-bit error discards it. A flush ends and lets the port UP. A copy for the CPU
port fills the next descriptor of its partition's ring, and the partition in turn sends the frame of its next descriptor. -/
def Obligations.SwitchTraffic : Prop :=
  ∀ (s : State), s.clk.held = false →
    (∀ p x l a v, p < 8 → sparseGet [] s.swc.inq p = x :: l → s.flag F.SWC_CTRL_EN = true → x.bad = false → pairMode s p = 0 →
      a = ({ s with swc := { s.swc with inq := sparseSet [] s.swc.inq p l } }).count C.SWC_FRAMES_IN → v = s.vlan (frameVid s p x.frame) →
      (v.valid = true → bitOf v.member p = true → exec (.swcFrameAdmit p) s = .next (admClose p (admitAll (⟨0, 0⟩, swcLearn a p (frameVid s p x.frame) x.frame.src)
          { sp := p, inPort := p, frame := x.frame, stamp := x.stamp, vid := frameVid s p x.frame, pcp := framePcp s p x.frame, cls := pcpClass s p (framePcp s p x.frame), part := v.owner, flags := x.flags, wire := x.wire, cells := frameCells x.frame.len, seqIn := none }
          v (plainType x.frame))).2)
      ∧ (bitOf v.member p = false → ptpOf x.frame = none → exec (.swcFrameAdmit p) s = .next ((a.count C.SWC_P_VLAN_DROP p).setFlag F.SWC_P_FLT_VLAN_DROP true p)))
    ∧ (∀ p x l, sparseGet [] s.swc.inq p = x :: l → s.flag F.SWC_CTRL_EN = false →
      exec (.swcFrameAdmit p) s = .next (({ s with swc := { s.swc with inq := sparseSet [] s.swc.inq p l } }).count C.SWC_DISABLED_DROP))
    ∧ (∀ e x t, (s.portCh e).fifo = none → portTakes s e = true → (s.portCh e).txEnd ≤ s.time.sys → takeCopy s e = some (x, t) →
      (e < 8 → exec (.swcTxCopy e 0) s = .next (t.setPortCh e { t.portCh e with fifo := some x }))
      ∧ (e = 9 → exec (.swcTxCopy e 0) s = .next { t with svi := { t.svi with inbox := t.svi.inbox ++ [rxFrame t x] } })
      ∧ (e = 10 → exec (.swcTxCopy e 0) s = .next { t with goose := { t.goose with inbox := t.goose.inbox ++ [rxFrame t x] } })
      ∧ (e = 8 → exec (.swcTxCopy e 0) s = .next { t with swc := { t.swc with cpuIn := t.swc.cpuIn ++ [x] } })
      ∧ (e < 12 → exec (.swcTxCopy e 2) s = .next (((t.count C.SWC_ECC_UE).setFlt F.SWC_FLT_ECC_UE).event blkSwc 0x0D01 0 e x.cls)))
    ∧ (∀ p, p < 8 → s.flag F.SWC_P_STAT_FLUSHING p = true →
      (s.fld F.PORT_P_STAT_LINK p ≠ 2 → exec (.swcFlushComplete p) s = .next (s.setFlag F.SWC_P_STAT_FLUSHING false p))
      ∧ (∀ e, s.fld F.PORT_P_STAT_LINK p = 2 → (s.portCh p).holdAt = some e → e ≤ s.time.sys → exec (.swcFlushComplete p) s = .next (enterUp (s.setFlag F.SWC_P_STAT_FLUSHING false p) p)))
    ∧ (∀ p v, p < 128 → exec (.cpuTxTailWrite p v) s = .next (s.setFld F.SWC_T_TX_RING_TAIL v p))
    ∧ (∀ x l a p, s.swc.cpuIn = x :: l → p = x.part → a = { s with swc := { s.swc with cpuIn := l } } →
      (partHeld a p = true → exec .cpuRxDeliver s = .next (a.count C.SWC_T_RX_RING_FULL p))
      ∧ (partHeld a p = false → s.flag F.SWC_T_CTL_RX_EN p = false → exec .cpuRxDeliver s = .next (((a.count C.SWC_T_RX_RING_FULL p).setFlag F.SWC_T_FLT_RING_FULL true p).setFlt F.SWC_FLT_RING_FULL))
      ∧ (∀ h d b o c e, partHeld a p = false → s.flag F.SWC_T_CTL_RX_EN p = true → h = s.fld F.SWC_T_RX_RING_HEAD p → ringRead p 2 a (rxBase a p + h * 32) 32 = (some d, b) → bitOf (leWord d 2) 31 = true →
        o = (copyOctets x).take (leWord d 2 % 2 ^ 14) → ringPut p (o.length / 64 + 1) b (leWord d 1 % 16 * 2 ^ 32 + leWord d 0 / 64 * 64) o = (true, c) →
        ringPut p 2 c (rxBase a p + h * 32 + 8) (rxStatus x (leWord d 2) o.length (decide (leWord d 2 % 2 ^ 14 < (copyOctets x).length))) = (true, e) →
        e.flag F.SWC_T_CTL_RX_IEN p = false →
        ∃ t, exec .cpuRxDeliver s = .next t ∧ t.fld F.SWC_T_RX_RING_HEAD p = (h + 1) % 2 ^ e.fld F.SWC_T_RX_RING_SIZE_LOG p % 2 ^ F.SWC_T_RX_RING_HEAD.width ∧ t.mem = e.mem))
    ∧ (∀ p a h d b o c st e f, ((List.range 128).map fun i => (s.swc.txTurn + 1 + i) % 128).find? (txReady s) = some p → a = { s with swc := { s.swc with txTurn := p } } → h = s.fld F.SWC_T_TX_RING_HEAD p →
      ringRead p 2 a (txBase a p + h * 32) 32 = (some d, b) → 14 ≤ leWord d 2 % 2 ^ 14 → leWord d 2 % 2 ^ 14 ≤ 9212 →
      ringRead p (leWord d 2 % 2 ^ 14 / 64 + 2) b (leWord d 1 % 16 * 2 ^ 32 + leWord d 0 / 64 * 64) (leWord d 2 % 2 ^ 14) = (some o, c) → txFrame c p (leWord d 2) o = (st, e) →
      f = (ringPut p 2 e (txBase a p + h * 32 + 12) (octetsLE 4 (2 ^ 31 + st) ++ stampWords e.stamp)).2 → f.flag F.SWC_T_CTL_TX_IEN p = false →
      ∃ t, exec .cpuTxFrame s = .next t ∧ t.fld F.SWC_T_TX_RING_HEAD p = (h + 1) % 2 ^ f.fld F.SWC_T_TX_RING_SIZE_LOG p % 2 ^ F.SWC_T_TX_RING_HEAD.width ∧ t.mem = f.mem
        ∧ (st = 0 → f.ctr C.SWC_T_TX_FRAMES p < ctrMax → t.ctr C.SWC_T_TX_FRAMES p = f.ctr C.SWC_T_TX_FRAMES p + 1))
    ∧ (((List.range 128).map fun i => (s.swc.txTurn + 1 + i) % 128).find? (txReady s) = none → exec .cpuTxFrame s = .next s)

/-- Partition resets and watchdogs (R411, R427, R428, R434 to R437): a pulse, a hold and the end of a pulse set the sources of a partition's reset and settle it, reset being asserted when one
becomes active and released at the end of the edge at which none is left; those of partition 0 are refused. A kick in time starts the application watchdog's count again, a late one does nothing; WARN and TIMEOUT
are counted, flagged and act by ACT, as LIMIT of the lane watchdog does; a write of their registers restarts them. The device watchdog takes 0x5A and then 0xA5, warns at half of TIMEOUT and resets the device at it. -/
def Obligations.PartitionsAndWatchdogs : Prop :=
  ∀ (s : State), s.clk.held = false →
    (∀ p, 0 < p → p < 128 →
      exec (.pulse p) s = .next (partSettle (s.setPres p { s.pres p with pulseEnd := some (s.time.sys + max 1 (s.fld F.PART_T_CTL_PULSE_US p) * 1000), causes := (if (s.pres p).pulseEnd.isSome then (s.pres p).causes else 0) ||| 2 }) p)
      ∧ exec (.holdWrite p true) s = .next (partSettle ((s.setPres p { s.pres p with wdHold := false, lwdHold := false }).setFlag F.PART_T_CTL_HOLD true p) p)
      ∧ exec (.holdWrite p false) s = .next (partSettle (s.setFlag F.PART_T_CTL_HOLD false p) p)
      ∧ (partSources s p = 0 → partHeld s p = false → partSettle s p = s.setFld F.PART_T_STAT_SOURCES 0 p)
      ∧ (partSources s p ≠ 0 → s.flag F.PART_T_STAT_HELD p = true → partSettle s p = s.setFld F.PART_T_STAT_SOURCES (partSources s p) p)
      ∧ (∀ a, partSources s p = 0 → s.flag F.PART_T_STAT_HELD p = true → a = s.setFld F.PART_T_STAT_SOURCES 0 p →
        partSettle s p = { a with part := { a.part with leaving := p :: a.part.leaving } })
      ∧ (partSources s p ≠ 0 → partLeave s p = s)
      ∧ (∀ a b, partSources s p = 0 → s.flag F.PART_T_STAT_HELD p = true →
        a = ((((s.setFlag F.PART_T_STAT_HELD false p).setPartBit F.PART_RST_HELD p false).event 14 0x0E02 p).setFld F.PART_T_STAT_LWD_COUNT 0 p) →
        b = a.setFlag F.LANE_T_STAT_RESET_HELD (joinHeld a p) p → partLeave s p = (b.setPres p { b.pres p with wdFrom := some b.time.sys, warned := false }).raiseIdent p 36)
      ∧ (∀ c, s.fld F.PART_T_WD_TIMEOUT p ≠ 0 → wdCount s p = some c →
        (c < s.fld F.PART_T_WD_TIMEOUT p → partHeld s p = false → exec (.wdKick p) s = .next (s.setPres p { s.pres p with wdFrom := some s.time.sys, warned := false }))
        ∧ (s.fld F.PART_T_WD_TIMEOUT p ≤ c → exec (.wdKick p) s = .next s)
        ∧ (s.fld F.PART_T_WD_WARN p ≠ 0 → s.fld F.PART_T_WD_WARN p ≤ c → (s.pres p).warned = false → exec (.wdWarn p) s = .next
            ((((((s.setPres p { s.pres p with warned := true }).setFlag F.PART_T_FLT_WD_WARN true p).count C.PART_T_WD_WARNS p).event 14 0x0E04 p (s.fld F.PART_T_WD_WARN p)).setFlt F.PART_FLT_WD_WARN).raiseIdent p 34))
        ∧ (c < s.fld F.PART_T_WD_WARN p → exec (.wdWarn p) s = .next s)
        ∧ (c < s.fld F.PART_T_WD_TIMEOUT p → exec (.wdExpiry p) s = .next s)
        ∧ (∀ a, s.fld F.PART_T_WD_TIMEOUT p ≤ c →
          a = ((((s.setPres p { s.pres p with wdFrom := none }).setFlag F.PART_T_FLT_WD_EXP true p).count C.PART_T_WD_EXPIRIES p).event 14 0x0E05 p (s.fld F.PART_T_WD_ACT p)).setFlt F.PART_FLT_WD_EXP →
          (s.fld F.PART_T_WD_ACT p = 0 → exec (.wdExpiry p) s = .next a)
          ∧ (s.fld F.PART_T_WD_ACT p = 1 → exec (.wdExpiry p) s = .next (partPulse a p 2))
          ∧ (2 ≤ s.fld F.PART_T_WD_ACT p → exec (.wdExpiry p) s = .next (partSettle (a.setPres p { a.pres p with wdHold := true }) p))))
      ∧ (∀ v a, s.flag F.PART_CTRL_LOCK = false →
        (v % 65536 = 0 ∨ bitsOf v 29 16 < v % 65536 → a = ((s.setFld F.PART_T_WD_ACT (bitsOf v 31 30) p).setFld F.PART_T_WD_WARN (bitsOf v 29 16) p).setFld F.PART_T_WD_TIMEOUT (v % 65536) p →
          exec (.wdConfigWrite p false v) s = .next (wdRestart (partSettle (a.setPres p { a.pres p with wdHold := false }) p) p))
        ∧ (v % 65536 ≠ 0 → v % 65536 ≤ bitsOf v 29 16 → exec (.wdConfigWrite p false v) s = .next (s.setFlt F.PART_FLT_CFG_ERR))
        ∧ (a = (s.setFld F.PART_T_LWD_ACT (bitsOf v 31 30) p).setFld F.PART_T_LWD_LIMIT (v % 256) p →
          exec (.wdConfigWrite p true v) s = .next (partSettle ((a.setFld F.PART_T_STAT_LWD_COUNT 0 p).setPres p { a.pres p with lwdHold := false }) p)))
      ∧ (∀ win a, s.fld F.PART_T_LWD_LIMIT p ≠ 0 → s.fld F.PART_T_LWD_LIMIT p ≤ s.fld F.PART_T_STAT_LWD_COUNT p → partHeld s p = false →
        a = (((((s.setFld F.PART_T_STAT_LWD_COUNT 0 p).setFlag F.PART_T_FLT_LWD_EXP true p).count C.PART_T_LWD_EXPIRIES p).event 14 0x0E06 p (s.fld F.PART_T_LWD_ACT p) win).setFlt F.PART_FLT_LWD_EXP).raiseIdent p 35 →
        exec (.lwdExpiry p win) s = .next (watchdogAct a p (s.fld F.PART_T_LWD_ACT p) 3)))
    ∧ exec (.pulse 0) s = .next (s.setFlt F.PART_FLT_CFG_ERR) ∧ exec (.holdWrite 0 true) s = .next (s.setFlt F.PART_FLT_CFG_ERR)
    ∧ (∀ p e, (s.pres p).pulseEnd = some e →
      (s.time.sys < e → exec (.resetPulseEnd p) s = .next s)
      ∧ (e ≤ s.time.sys → exec (.resetPulseEnd p) s = .next (partSettle (s.setPres p { s.pres p with pulseEnd := none, causes := 0 }) p)))
    ∧ (∀ v, v % 256 = 0x5A → exec (.dwdKick v) s = .next { s with part := { s.part with kickStep := true } })
    ∧ (∀ v, v % 256 = 0xA5 → s.part.kickStep = true → exec (.dwdKick v) s = .next { s with part := { s.part with kickStep := false, dwdAt := s.time.sys, dwdWarned := false } })
    ∧ (∀ v, v % 256 ≠ 0x5A → v % 256 ≠ 0xA5 → exec (.dwdKick v) s = .next { s with part := { s.part with kickStep := false } })
    ∧ ∀ n, s.flag F.PART_DWD_CTL_EN = true → n = max 1 (s.fld F.PART_DWD_CTL_TIMEOUT) * 10000000 →
      (s.part.dwdWarned = false → s.part.dwdAt + n / 2 ≤ s.time.sys → exec .dwdWarn s = .next
        (((({ s with part := { s.part with dwdWarned := true } }).count C.PART_DWD_WARNINGS).event 14 0x0E07 0 (s.fld F.PART_DWD_CTL_TIMEOUT)).setFlt F.PART_FLT_DWD_WARN))
      ∧ (s.time.sys < s.part.dwdAt + n / 2 → exec .dwdWarn s = .next s)
      ∧ (s.part.dwdAt + n ≤ s.time.sys → exec .dwdExpiry s = .next (assertReset s causeDwd))
      ∧ (s.time.sys < s.part.dwdAt + n → exec .dwdExpiry s = .next s)

/-- The fabric and the cores (R30, R35 to R38, R412, R418 to R420, R422, R424, R425, R429, R431): a transaction that finds a slot and a permit is done and its result kept, one without a permit is a
violation, one of a partition that has used its CAP waits, one without a slot waits at its source. A period renews the credit. A core of tag 0 writes PART_CPU_CUR and a guest's write is a violation;
a route delivers what is pending. The IOMMU takes the command at its queue's head. A core executes the instruction that it fetches. The second failed retraining in a row fails a channel. -/
def Obligations.FabricAndCores : Prop :=
  ∀ (s : State), s.clk.held = false →
    (∀ init src kind addr data ue r, r = ({ init := init, tag := sourceTag s init src, kind := kind, addr := addr % 2 ^ 36, data := data.map (· % 256), ue := ue } : FabReq) → data ≠ [] → inRegs r.addr = false →
      (fabSlotFree s init r.tag = false → exec (.fabricAccess init src kind addr data ue) s = .next { s with fab := { s.fab with stalled := s.fab.stalled ++ [r] } })
      ∧ (fabSlotFree s init r.tag = true → partHeld s r.tag = false → bwPermits s r.tag kind r.addr data.length = true →
        (regionOf s r.addr = .lpddr → capUsed s r.tag = true → exec (.fabricAccess init src kind addr data ue) s = .next { s with fab := { s.fab with waiting := s.fab.waiting ++ [r] } })
        ∧ (∀ l t, kind = kindRead → (regionOf s r.addr ≠ .lpddr ∨ capUsed s r.tag = false) → (init = initCore ∨ ue = none) → memRead s init r.tag r.addr data.length = (l, t) →
          exec (.fabricAccess init src kind addr data ue) s = .next { t with fab := { t.fab with lastRead := l.getD [], lastError := l.isNone } })
        ∧ (∀ ok t, kind = kindWrite → (regionOf s r.addr ≠ .lpddr ∨ capUsed s r.tag = false) → memWrite s init r.tag r.addr r.data = (ok, t) →
          exec (.fabricAccess init src kind addr data ue) s = .next { t with fab := { t.fab with lastRead := [], lastError := !ok } }))
      ∧ (∀ t, fabSlotFree s init r.tag = true → partHeld s r.tag = false → bwPermits s r.tag kind r.addr data.length = false → t = bwViolation s init r.tag kind r.addr →
        exec (.fabricAccess init src kind addr data ue) s = .next { t with fab := { t.fab with lastRead := [], lastError := true } }))
    ∧ (s.fab.waiting = [] → s.fab.stalled = [] → exec .qosPeriodStart s = .next { s with fab := { s.fab with used := [] } })
    ∧ (∀ r l t, s.fab.waiting = [r] → fabricDo { s with fab := { s.fab with used := [], waiting := [], turn := r.tag } } r = (l, t) → t.fab.stalled = [] →
      exec .qosPeriodStart s = .next { t with fab := { t.fab with lastRead := l.getD [], lastError := l.isNone, stalled := [] } })
    ∧ (∀ w k v, k < 8 → (s.cpu w).txTag = 0 → partHeld s 0 = false → exec (.curWrite ⟨w, k⟩ v) s = .next (s.setFld (F.PART_CPU_CUR_GUEST.el k) (v % 2 ^ 32)))
    ∧ (∀ w k v, k < 8 → (s.cpu w).txTag ≠ 0 → partHeld s (s.cpu w).txTag = false → exec (.curWrite ⟨w, k⟩ v) s = .next (bwViolation s initCore (s.cpu w).txTag kindWrite (0x400E0060 + 4 * k)))
    ∧ (∀ p v a l, 0 < p → p < 128 → s.flag F.PART_CTRL_LOCK = false → a = writeFields s R.PART_T_IRQ p 0 v →
      (a.flag F.PART_T_IRQ_EN p = false → exec (.irqRouteEnable p v) s = .next a)
      ∧ (a.flag F.PART_T_IRQ_EN p = true → l = heldIdents a p → exec (.irqRouteEnable p v) s = .next (l.foldl (fun s k => s.routeIdent p k) ((a.setFld F.PART_T_IPEND_PEND_BLK 0 p).setFld F.PART_T_IPEND_PEND 0 p))))
    ∧ (∀ l a w0 w1, s.iow ioCqcsr / 2 ^ 16 % 2 = 1 → s.iow ioCqcsr / 2 ^ 8 % 8 = 0 → s.iow ioCqh ≠ s.iow ioCqt → dmaRead s initOther 0 (queueBase s ioCqb + s.iow ioCqh * 16) 16 = (some l, a) →
      w0 = ofOctetsLE (l.take 8) → w1 = ofOctetsLE (l.drop 8) →
      (w0 % 128 = 1 → bitsOf w0 9 7 ≤ 1 → exec .iommuCommand s = .next (a.setIow ioCqh ((a.iow ioCqh + 1) % queueSize a ioCqb)))
      ∧ (∀ b, w0 % 128 = 2 → bitsOf w0 9 7 = 0 → bitOf w0 11 = false → bitOf w0 10 = true → dmaWrite a initOther 0 (w1 % 2 ^ 62 * 4) (octetsLE 4 (w0 / 2 ^ 32)) = (true, b) →
        exec .iommuCommand s = .next (b.setIow ioCqh ((b.iow ioCqh + 1) % queueSize b ioCqb)))
      ∧ (4 ≤ w0 % 128 → exec .iommuCommand s = .next (cmdStop a 10)))
    ∧ (∀ k lo hi a b w pc, cpuRuns s k = true → coreIrq s k = none → (s.cpu k).wfi = false → pc = (s.cpu k).pc.toNat → cpuLoad s k (s.cpu k).fetchAcc pc 2 = (.ok lo, a) → ofOctetsLE lo % 4 = 3 →
      cpuLoad a k (s.cpu k).fetchAcc ((pc + 2) % 2 ^ 64) 2 = (.ok hi, b) → w = ofOctetsLE lo + ofOctetsLE hi * 2 ^ 16 → b.clk.held = false →
      (∀ rd imm, decode32 .core w = .lui rd imm → (b.cpu k).csrBit csrMcountinhibit 2 = true → exec (.coreInstruction k 0 []) s = .next (b.setCpu k
          { (b.cpu k).setX rd (unsigned 64 imm) with pc := BitVec.ofNat 64 (((b.cpu k).pc.toNat + 4) % 2 ^ 64) }))
      ∧ (∀ op word rd x y, decode32 .core w = .alu op word rd x y → exec (.coreInstruction k 0 []) s = .next (cpuRetire b k (((b.cpu k).pc.toNat + 4) % 2 ^ 64)
          fun c => c.setX rd (aluResult 64 op word ((b.cpu k).getX x) ((b.cpu k).getX y))))
      ∧ (∀ f3 x y off, decode32 .core w = .branch f3 x y off → exec (.coreInstruction k 0 []) s = .next (cpuRetire b k
          (if branchTaken 64 f3 ((b.cpu k).getX x) ((b.cpu k).getX y) then unsigned 64 ((b.cpu k).pc.toNat + off) else ((b.cpu k).pc.toNat + 4) % 2 ^ 64) id))
      ∧ (decode32 .core w = .ecall → (b.cpu k).priv = 3 → exec (.coreInstruction k 0 []) s = .next (b.setCpu k ((b.cpu k).trapM (CpuTrap.plain 11 0) false)))
      ∧ (decode32 .core w = .mret → (b.cpu k).priv = 0 → exec (.coreInstruction k 0 []) s = .next (b.setCpu k ((b.cpu k).except (CpuTrap.plain 2 w)))))
    ∧ (∀ k c, cpuRuns s k = true → coreIrq s k = some c → exec (.coreInstruction k 0 []) s = .next (s.setCpu k c))
    ∧ (∀ k, cpuRuns s k = false → exec (.coreInstruction k 0 []) s = .next s)
    ∧ (bitOf s.fab.retrain 0 = true → s.flag F.SYS_MEM_MCA_FAILED = false →
      exec (.memRetrain false false) s = .next (((s.setFlag F.SYS_MEM_MCA_FAILED true).setFlt F.SYS_FLT_MEM_FAIL).event 0 0x0004 0 0 2))
    ∧ (bitOf s.fab.retrain 0 = false → exec (.memRetrain false false) s = .next { s with fab := { s.fab with retrain := s.fab.retrain + 1 } }
      ∧ exec (.memRetrain false true) s = .next s)

/-- The commands of KEYS (R439, R451, R455, R459, R461, R464, R466 to R469): a command that is permitted, outside DECOMMISSIONED and while BUSY is 0, begins with BUSY 1 and holds its operand address, ARG and what it has read;
an operand that cannot be read refuses it with ADDRESS, one of a state that does not permit it with STATE, CONFIRM without an export with STORE. APPLY and APPROVE judge what they read: what is accepted waits for its
apply edge, what is refused is counted and ends with its cause. -/
def Obligations.KeysCommandsBegin : Prop :=
  ∀ (s : State), s.clk.held = false →
    (∀ cmd c w d, keysBegin s cmd c w d = { ((s.setFlag (mbxValid 15) false).setFlag (mbxErr 15) false).setFlag (mbxBusy 15) true with keys := { s.keys with run := some { cmd := cmd, addr := keysAddr (((s.setFlag (mbxValid 15) false).setFlag (mbxErr 15) false).setFlag (mbxBusy 15) true), arg := (((s.setFlag (mbxValid 15) false).setFlag (mbxErr 15) false).setFlag (mbxBusy 15) true).fld F.KEYS_ARG_ARG, wait := w, cause := c, data := d } } })
    ∧ (s.flag (mbxBusy 15) = true → exec .apply s = .next ((s.setFlag (mbxErr 15) true).setFlt F.KEYS_FLT_CMD_REFUSED) ∧ exec .lcSeal s = .next ((s.setFlag (mbxErr 15) true).setFlt F.KEYS_FLT_CMD_REFUSED))
    ∧ (s.flag (mbxBusy 15) = false → s.keys.lifecycle = 3 → exec .keysExport s = .next (keysRefuse s 0x0B) ∧ exec .approve s = .next (keysRefuse s 0x0B))
    ∧ (s.flag (mbxBusy 15) = false → s.keys.lifecycle ≠ 3 →
      (∀ d a, s.fld F.KEYS_LEN_LEN ≤ 40960 → keysRead { s with keys := { s.keys with used := true } } (s.fld F.KEYS_LEN_LEN) = (some d, a) → a.fld F.KEYS_LEN_LEN ≤ 40960 →
        (judge a d false true = 0 → exec .apply s = .next (keysBegin a 1 0 true d))
        ∧ (∀ c, c = judge a d false true → c ≠ 0 → exec .apply s = .next (keysBegin (((a.count C.KEYS_MSG_REFUSED).setFlt F.KEYS_FLT_MSG_REFUSED).event 15 0x0F02 0 (msgKind d) c (msgCounter d)) 1 c false d))
        ∧ (judgePair a d true = 0 → exec .approve s = .next (keysBegin a 2 0 true d)))
      ∧ (∀ a, keysRead { s with keys := { s.keys with used := true } } (min (s.fld F.KEYS_LEN_LEN) 40960) = (none, a) → exec .apply s = .next (keysRefuse a 0x0D))
      ∧ (∀ n a p, s.flag F.KEYS_STAT_ID_READY = true → p = s.fld F.KEYS_ARG_ARG → p = 1 ∨ p = 2 → keysRead s 32 = (some n, a) → exec .attest s = .next (keysBegin a 3 0 false (attReport a p n)))
      ∧ exec .measure s = .next (keysBegin s 4 0 false [])
      ∧ exec .keysExport s = .next (keysBegin s 5 0 false [])
      ∧ (s.flag F.KEYS_STAT_EXPORTED = true → exec .confirm s = .next (keysBegin s 6 0 false []))
      ∧ (s.flag F.KEYS_STAT_EXPORTED = false → exec .confirm s = .next (keysRefuse s 0x0F))
      ∧ (∀ d a, s.flag F.KEYS_STAT_IMPORTED = false → s.keys.used = false → keysRead s 65536 = (some d, a) → exec .import s = .next (keysBegin a 7 0 false d))
      ∧ (s.flag F.KEYS_STAT_IMPORTED = true → exec .import s = .next (keysRefuse s 0x0B))
      ∧ (keyCounter s = counterConf s → s.keys.fuses.floors.length < 64 → s.keys.fuses.floors.head? ≠ some (counterConf s) → exec .commit s = .next (keysBegin s 8 0 false []))
      ∧ (keyCounter s ≠ counterConf s → exec .commit s = .next (keysRefuse s 0x0B))
      ∧ (∀ k a, s.keys.fuses.rootHash.isSome = true → keysRead s 32 = (some k, a) → a.fld F.KEYS_ARG_ARG = 1 ∨ a.fld F.KEYS_ARG_ARG = 2 → a.keys.fuses.rootHash = some (sha256 (a.fld F.KEYS_ARG_ARG :: k)) →
        exec .rootInstall s = .next (keysBegin a 9 0 false k))
      ∧ (s.flag F.KEYS_CTRL_LOCK = false → s.keys.lifecycle ≤ 1 →
        (∀ hsh a, s.keys.fuses.rootHash = none → keysRead s 32 = (some hsh, a) → exec .burnRoot s = .next (keysBegin a 0xA 0 false hsh))
        ∧ (s.fld F.KEYS_STAT_LC_PEND = 7 → s.keys.lifecycle = 0 → exec .lcDevelop s = .next (keysBegin s 0xB 0 false []))
        ∧ (s.fld F.KEYS_STAT_LC_PEND = 7 → s.keys.fuses.rootHash.isSome = true → exec .lcSeal s = .next (keysBegin s 0xC 0 false []))
        ∧ exec .lcDecommission s = .next (keysBegin s 0xD 0 false []))
      ∧ (s.flag F.KEYS_CTRL_LOCK = true → exec .lcDevelop s = .next (keysRefuse s 0x0B) ∧ exec .lcSeal s = .next (keysRefuse s 0x0B) ∧ exec .lcDecommission s = .next (keysRefuse s 0x0B) ∧ exec .burnRoot s = .next (keysRefuse s 0x0B))
      ∧ (s.keys.lifecycle = 0 → s.keys.fuses.ktk = false → exec .exportKtk s = .next (keysBegin s 0xE 0 false [])))

/-- What KEYS does (R439, R440, R444, R448, R449, R456, R460, R464, R465, R469, R471, R472): at its apply edge an accepted message or pair takes effect, one no longer accepted is refused and counted; a scrub makes every slot that fails its check
BAD. A command ends with what it burns or writes. The identity is formed once. A low of an enabled tamper ball erases the salt, latches the input and has the secret slots erased; the zeroisation leaves every secret slot
EMPTY and every other slot as it was. -/
def Obligations.KeysEffects : Prop :=
  ∀ (s : State),
    (s.clk.held = false →
      (∀ r a, s.keys.run = some r → r.wait = true → a = ({ s with keys := { s.keys with run := some { r with wait := false, cause := 0 } } } : State) →
        (r.cmd = 1 → judge s r.data false false = 0 → exec .keysApplyEdge s = .next (msgEffect a r.data))
        ∧ (r.cmd = 2 → judgePair s r.data false = 0 → exec .keysApplyEdge s = .next (pairEffect a r.data))
        ∧ (∀ c, r.cmd = 1 → c = judge s r.data false false → c ≠ 0 → exec .keysApplyEdge s = .next
            (((({ s with keys := { s.keys with run := some { r with wait := false, cause := c } } } : State).count C.KEYS_MSG_REFUSED).setFlt F.KEYS_FLT_MSG_REFUSED).event 15 0x0F02 0 (msgKind r.data) c (msgCounter r.data))))
      ∧ (∀ ecc, exec (.keysScrub ecc) s = .next (((List.range 256).filter fun i => decide ((s.keySlot i).st ≠ ksEmpty) && decide ((s.keySlot i).st ≠ ksBad) && (ecc.contains i || !slotSound s (s.keySlot i))).foldl slotBad s))
      ∧ (s.keys.lifecycle ≠ 3 → s.flag F.KEYS_STAT_ID_READY = false → ∃ t, exec .idReady s = .next t ∧ t.flag F.KEYS_STAT_ID_READY = true ∧ t.fld F.TWIN_OWN_TAG_VAL = ofOctetsBE ((deviceId s).take 4) % 2 ^ 32 ∧ t.mem = s.mem)
      ∧ (s.keys.zeroDue = true → ∃ t, exec .zeroisation s = .next t ∧ ∀ i, i < 256 →
        (slotSecret (s.keySlot i).typ = true → (t.keySlot i).st = ksEmpty ∧ (t.keySlot i).mat = []) ∧ (slotSecret (s.keySlot i).typ = false → t.keySlot i = s.keySlot i))
      ∧ (∀ r, s.keys.run = some r → r.wait = false → r.cause = 0 → s.boot.req = none →
        (r.cmd = 6 → exec (.mailboxComplete 15) s = .next (keysDone (({ s with aon := { s.aon with confOk := true } }.setSh F.KEYS_COUNTER_CONF_VAL (keyCounter s)).count C.KEYS_CONFIRMS) 0))
        ∧ (r.cmd = 8 → exec (.mailboxComplete 15) s = .next (keysDone { s with keys := { s.keys with fuses := { s.keys.fuses with floors := counterConf s :: s.keys.fuses.floors } } } 0))
        ∧ (r.cmd = 9 → exec (.mailboxComplete 15) s = .next (keysDone (rootInstall s r.arg r.data) 0))
        ∧ (r.cmd = 0xA → s.keys.fuses.rootHash = none → exec (.mailboxComplete 15) s = .next (keysDone { s with keys := { s.keys with fuses := { s.keys.fuses with rootHash := some r.data } } } 0))
        ∧ (r.cmd = 0xC → exec (.mailboxComplete 15) s = .next (keysDone (burnLifecycle s 2) 0))
        ∧ (r.cmd = 0xD → exec (.mailboxComplete 15) s = .next (keysDone (burnLifecycle s 3) 0)))
      ∧ (∀ lc, burnLifecycle s lc = ((({ s with keys := { s.keys with fuses := { s.keys.fuses with lifecycle := max lc s.keys.fuses.lifecycle } } }).setFld F.KEYS_STAT_LC_PEND lc).event 15 0x0F07 0 s.keys.lifecycle lc)))
    ∧ (∀ lv l a, (s.setSh F.KEYS_TAMP_LEVEL lv).aonFld F.KEYS_TAMP_EN &&& (3 - lv % 4) = 0 → l = s.setSh F.KEYS_TAMP_LEVEL lv → a = l → exec (.tamperDetect lv) s = .next a)
    ∧ ∀ lv low a b salt, a = s.setSh F.KEYS_TAMP_LEVEL lv → low = a.aonFld F.KEYS_TAMP_EN &&& (3 - lv % 4) → low ≠ 0 → a.takeOctets 32 = (salt, b) →
      exec (.tamperDetect lv) s = .next (({ b with aon := { b.aon with salt := salt }, keys := { b.keys with zeroDue := !b.clk.held } } : State).setSh F.KEYS_TAMP_LATCH (b.aonFld F.KEYS_TAMP_LATCH ||| low))

/-- Clocks, resets and the AON domain (R45, R46, R495, R496, R502 to R506, R525, R526, R539): a cause of device reset asserts it, sets its bit, keeps the fuses and the flash and, where it was not asserted, loses memory; it may be
released 20 µs after no cause persists, the release taking the straps and SEC. A lost PLL clears its lock, sets its bit and acts by what it feeds; CPU and TBC come back. An AON write takes effect at its edge; the low-power mode is
entered by its key and left by a wake, a RESET_N low or power-on. A loss of VBAT resets the AON domain and TRST_N the TAP. A RESET_N low between 100 ns and 1 µs takes or not (a free value, log entry 11). -/
def Obligations.ClocksAndResets : Prop :=
  ∀ (s : State),
    (∀ c, c < 9 → (assertReset s c).clk.held = true ∧ bitOf ((assertReset s c).aonFld F.AON_RST_CAUSE_CAUSE) c = true ∧ (assertReset s c).keys.fuses = s.keys.fuses ∧ (assertReset s c).boot.flash = s.boot.flash
      ∧ (s.clk.held = false → (assertReset s c).mem = []) ∧ (causePersists s = true → (assertReset s c).clk.releaseAt = none) ∧ (causePersists s = false → (assertReset s c).clk.releaseAt = some (s.clk.ns + 20000)))
    ∧ (∀ lv ns, s.clk.pinLow = false →
      (1000 ≤ ns → s.clk.lowPower = false → exec (.resetPin lv ns) s = .next (assertReset { s with clk := { s.clk with pinLow := !lv } } causePin))
      ∧ (ns < 100 → exec (.resetPin lv ns) s = .next s)
      ∧ (∀ v a, 100 ≤ ns → ns < 1000 → s.takeFree = (v, a) → v % 2 = 0 → exec (.resetPin true ns) s = .next a))
    ∧ (∀ ns, s.clk.pinLow = true → s.clk.held = true → exec (.resetPin true ns) s = .next (armRelease { s with clk := { s.clk with pinLow := false } }) ∧ exec (.resetPin false ns) s = .next s)
    ∧ (s.clk.lowPower = false → exec (.powerOnReset true) s = .next (assertReset { s with clk := { s.clk with por := true } } causePor))
    ∧ (s.clk.por = true → s.clk.held = true → exec (.powerOnReset false) s = .next (armRelease { s with clk := { s.clk with por := false } }))
    ∧ exec .refLost s = .next (assertReset { s with clk := { s.clk with refLost := true } } causeClkFail)
    ∧ (s.clk.refLost = true → s.clk.held = true → exec .refReturn s = .next (armRelease { s with clk := { s.clk with refLost := false } }))
    ∧ (∀ t, s.clk.releaseAt = some t → s.clk.held = true →
      (∀ b o, t ≤ s.clk.ns → ∃ u, exec (.resetRelease b o) s = .next u ∧ u.clk.held = false ∧ u.clk.released = s.clk.ns ∧ u.twin.sideB = b ∧ u.twin.solo = o ∧ u.keys.lifecycle = s.keys.fuses.lifecycle
        ∧ (s.aonFlag F.AON_STAT_VALID = true → u.time.sec = s.aon.sec) ∧ (s.aonFlag F.AON_STAT_VALID = false → u.time.sec = 0))
      ∧ (∀ b o, s.clk.ns < t → exec (.resetRelease b o) s = .next s))
    ∧ (∃ t, exec .vbatLoss s = .next t ∧ t.aonRegs = [] ∧ t.aon.sec = 0 ∧ t.aon.saltOk = false ∧ t.aon.confOk = false ∧ t.aon.queue = [] ∧ t.keys = s.keys ∧ t.mem = s.mem)
    ∧ exec .testReset s = .next { s with core := { s.core with jtagIr := 1, jtagBsr := [], jtagOut := [] } }
    ∧ (∀ a v l b, s.aon.queue = (a, v) :: l → b = ((({ s with aon := { s.aon with queue := l } } : State).setFlag F.AON_WPEND_WPEND (!l.isEmpty)).setSh F.AON_STAT_OSC_OK 1) →
      (∀ k, k < 4 → a = 0x40100050 + 4 * k → exec .aonWriteApply s = .next (b.setSh (F.AON_SCRATCH_VALUE.el k) v))
      ∧ (a = 0x40100018 → exec .aonWriteApply s = .next (b.setSh F.AON_RST_CAUSE_CAUSE (b.aonFld F.AON_RST_CAUSE_CAUSE - (b.aonFld F.AON_RST_CAUSE_CAUSE &&& v))))
      ∧ (a = 0x40100020 → v / 65536 ≠ 0x4C50 → exec .aonWriteApply s = .next b ∧ exec .lowPowerEnter s = .next s)
      ∧ (a = 0x40100020 → v / 65536 = 0x4C50 → v % 2 = 1 → ∃ t, exec .lowPowerEnter s = .next t ∧ t.clk.lowPower = true ∧ t.clk.held = true ∧ t.mem = [] ∧ t.aonRegs = b.aonRegs
        ∧ t.port.wakeRate = (if b.flag F.PORT_WAKE_CFG_WAKE_EN then (if b.fld F.PORT_WAKE_CFG_RATE = 3 then 1 else b.fld F.PORT_WAKE_CFG_RATE) + 1 else 0)))
    ∧ (s.aon.queue = [] → exec .aonWriteApply s = .next s)
    ∧ (∀ a, s.clk.lowPower = true → a = ({ s with clk := { s.clk with lowPower := false, wakeBy := 0 } } : State) →
      (s.clk.wakeBy = 1 → exec .lowPowerWake s = .next (assertReset a causeWake)) ∧ (s.clk.wakeBy = 2 → exec .lowPowerWake s = .next (assertReset a causePin)) ∧ (s.clk.wakeBy = 3 → exec .lowPowerWake s = .next (assertReset a causePor)))
    ∧ (s.clk.lowPower = false ∨ s.clk.wakeBy = 0 → exec .lowPowerWake s = .next s)
    ∧ (s.clk.held = false →
      (∀ v, (v / 65536 = 0xD512 → exec (.softwareReset v) s = .next (assertReset s causeSw)) ∧ (v / 65536 ≠ 0xD512 → exec (.softwareReset v) s = .next s))
      ∧ (∀ p u a, p < 8 → s.clk.lost.contains (p, u) = false → a = (((({ s with clk := { s.clk with lost := (p, u) :: s.clk.lost } } : State).setFbit F.CLK_STAT_LOCKED p false).setFltBit F.CLK_FLT_LOST p).event 1 0x0101 0 p) →
        (p = 0 → exec (.pllLockLost p u) s = .next a)
        ∧ (p = 5 → exec (.pllLockLost p u) s = .next { a with clk := { a.clk with tbcStop := true, stopNs := s.clk.ns }, gate := { a.gate with stopped := true } })
        ∧ (p = 7 → exec (.pllLockLost p u) s = .next (twinLaneDown a u))
        ∧ (1 ≤ p → p ≤ 4 → exec (.pllLockLost p u) s = .next (assertReset a causeClkFail)))
      ∧ (∀ p u refs before a, p < 8 → s.clk.lost = [(p, u)] → a = (({ s with clk := { s.clk with lost := [] } } : State).setFbit F.CLK_STAT_LOCKED p true) →
        (p = 0 → exec (.pllRelock p u refs before) s = .next (a.count C.CLK_RELOCKS_CPU))
        ∧ (p = 5 → refs = s.clk.ns / 40 - s.clk.stopNs / 40 → before = s.clk.stopNs % 40 → exec (.pllRelock p u refs before) s = .next (stepTime (({ a with clk := { a.clk with tbcStop := false } } : State).count C.CLK_RELOCKS_TBC) ((refs * 40 : Nat) - (before : Nat) : Int)))
        ∧ (p = 5 → refs ≠ s.clk.ns / 40 - s.clk.stopNs / 40 ∨ before ≠ s.clk.stopNs % 40 → exec (.pllRelock p u refs before) s = .next s))
      ∧ (s.flag (mbxBusy 16) = false → exec .readSec s = .next (s.mbxStart 16 { cmd := 1, ok := true, d0 := s.aon.sec / 2 ^ 32 % 65536, d1 := s.aon.sec % 2 ^ 32, d2 := 0, d3 := 0 }))
      ∧ (s.flag (mbxBusy 16) = true → exec .readSec s = .next (s.mbxRefuseBusy 16)))

/-- The counter snapshot and a register write (R475, R476, R477, R490, R491, R482, R412, R24): a snapshot copies every live counter, its own among them, into the bank, increments SNAP_SEQ and keeps the time; one that clears
clears the counters of MASK's blocks. READ_SNAP_TIME gives the time kept and is refused before the first. A core's aligned word reaches its register when Breakwater permits it; a guest's is a violation, a narrow
access a bus error of kind 0 and a misaligned one of kind 1. A write of TIME_HOLD takes its three fields; a write of FDC_CTRL that would change EN while LOCK is 1 is refused as a whole and is a lock violation. -/
def Obligations.RegistersAndSnapshots : Prop :=
  ∀ (s : State), s.clk.held = false →
    (∃ t, exec .snapshot s = .next t ∧ t.bank = (s.count C.SYS_SNAPSHOTS).cnts ∧ t.cnts = t.bank ∧ t.fld F.SYS_SNAP_SEQ_SEQ = (s.fld F.SYS_SNAP_SEQ_SEQ + 1) % 2 ^ 32 ∧ t.snap = some s.stamp ∧ t.mem = s.mem)
    ∧ (∃ t, exec .snapshotClear s = .next t ∧ t.bank = (s.count C.SYS_SNAPSHOTS).cnts ∧ t.cnts = t.bank.filter (fun e => !bitOf (s.fld F.SYS_SNAP_CLR_MASK) (keyBlk e.1)) ∧ t.snap = some s.stamp ∧ t.mem = s.mem)
    ∧ (s.flag (mbxBusy 0) = false →
      (∀ t, s.snap = some t → exec .readSnapTime s = .next (s.mbxStart 0 (timeLayout 1 (t.t / 65536 * 65536) t.tq 0 t.epoch)))
      ∧ (s.snap = none → exec .readSnapTime s = .next (s.mbxRefuse 0)))
    ∧ (s.flag (mbxBusy 0) = true → exec .readSnapTime s = .next (s.mbxRefuseBusy 0))
    ∧ (∀ src addr v, inRegs addr = true → partHeld s (s.cpu src).txTag = false →
      (addr % 4 = 0 → (s.cpu src).txTag = 0 → exec (.registerWrite initCore src addr 4 v) s = .next (regWrite s initCore 0 ((addr - 0x40000000) / 65536) (addr % 65536) (v % 2 ^ 32)).2)
      ∧ (addr % 4 = 0 → (s.cpu src).txTag ≠ 0 → bwPermits s (s.cpu src).txTag kindWrite addr 4 = false → exec (.registerWrite initCore src addr 4 v) s = .next (bwViolation s initCore (s.cpu src).txTag kindWrite addr))
      ∧ (addr % 4 ≠ 0 → (s.cpu src).txTag = 0 → exec (.registerWrite initCore src addr 4 v) s = .next (s.busError 1 initCore 0 addr true))
      ∧ ((s.cpu src).txTag = 0 → exec (.registerWrite initCore src addr 2 v) s = .next (s.busError 0 initCore 0 addr true)))
    ∧ (∀ src v, (s.cpu src).txTag = 0 → partHeld s 0 = false →
      exec (.registerWrite initCore src 0x40020020 4 v) s = .next (((s.setFld F.TIME_HOLD_HOLD_LIMIT (v / 65536 % 65536)).setFld F.TIME_HOLD_HOLD_AVG (v / 256 % 256)).setFld F.TIME_HOLD_SYNC_LOSS (v % 256))
      ∧ (s.flag F.FDC_CTRL_LOCK = true → v % 2 ≠ s.fld F.FDC_CTRL_EN → exec (.registerWrite initCore src 0x40050000 4 v) s = .next (s.lockViolation 0 0x40050000 (v % 2 ^ 32))))

/-- The boot sequence (R29, R509, R511 to R517): INIT locks the PLLs, trains the channels and reads the flash's directory, and ends in FAILED without a flash or memory; BOOT then tries the slots in their order, passing one marked BAD
with cause 0x08, goes to RECOVERY when none is left or FORCE_RECOV is set. A slot loaded is rejected with its cause (a read error, its header, its sections, its record) and the next is tried, or is accepted and its digest kept.
The sections applied, the slot is READY; one that fails marks the slot BAD and resets the device with BOOT_FAIL. READY releases the cores one at a time, each in M mode at its DEST with its SW1 in a0. -/
def Obligations.BootSequence : Prop :=
  ∀ (s : State), s.clk.held = false →
    (s.fld F.BOOT_STAT_STATE ≠ 0 ∨ s.clk.lost ≠ [] → ∀ d ra ta rb tb, exec (.bootInitDone d ra ta rb tb) s = .next s)
    ∧ (s.fld F.BOOT_STAT_STATE = 0 → s.clk.lost = [] → ∀ ra ta rb tb x y a, x = (if ta then ra else []) → y = (if tb then rb else []) → a = memInit (memInit (s.setFld F.CLK_STAT_LOCKED 0xFF) false x) true y →
      exec (.bootInitDone none ra ta rb tb) s = .next (a.setFld F.BOOT_STAT_STATE 6)
      ∧ (∀ d, rankSum x = 0 → rankSum y = 0 → exec (.bootInitDone (some d) ra ta rb tb) s = .next (a.setFld F.BOOT_STAT_STATE 6))
      ∧ (∀ d b, rankSum x ≠ 0 ∨ rankSum y ≠ 0 → b = ({ a with boot := { a.boot with size := d } } : State) →
        exec (.bootInitDone (some d) ra ta rb tb) s = .next (bootChoose (stageStores { b with boot := { b.boot with dir := flashDirRead b } }))))
    ∧ (∀ ra, rankSum ra ≠ 0 → memInit s false ra = ((s.setFlag F.SYS_MEM_MCA_TRAINED true).setFld F.SYS_MEM_MCA_RANKS ra.length).setFld F.SYS_MEM_MCA_SIZE (min 16 (rankSum ra)))
    ∧ (∀ ra, rankSum ra = 0 → memInit s true ra = ((s.setFlag F.SYS_MEM_MCB_FAILED true).setFlt F.SYS_FLT_MEM_FAIL).event 0 0x0004 0 1 1)
    ∧ (s.aonFlag F.AON_STAT_VALID = true →
      (s.aonFlag F.AON_BOOT_FORCE_RECOV = true → bootChoose s = enterRecovery (s.setSh F.AON_BOOT_FORCE_RECOV 0))
      ∧ (s.aonFlag F.AON_BOOT_FORCE_RECOV = false → s.aonFlag F.AON_BOOT_TRIED = false → ∀ f b, f = (if s.aonFlag F.AON_BOOT_TRIAL then 1 - s.aonFld F.AON_BOOT_PREF else s.aonFld F.AON_BOOT_PREF) → b = s.setSh F.AON_BOOT_TRIAL 0 →
        bootChoose s = bootNext { b with boot := { b.boot with first := f, wasTrial := s.aonFlag F.AON_BOOT_TRIAL } } [f, 1 - f]))
    ∧ (∀ k l, (bitOf (s.aonFld F.AON_BOOT_BAD) k = true → bootNext s (k :: l) = bootNext (setCause s k 8) l)
      ∧ (bitOf (s.aonFld F.AON_BOOT_BAD) k = false → ∀ b, b = s.setFld F.BOOT_STAT_STATE 1 → bootNext s (k :: l) = { b with boot := { b.boot with slot := k, left := l } }))
    ∧ bootNext s [] = enterRecovery { s with boot := { s.boot with left := [] } }
    ∧ (s.fld F.BOOT_STAT_STATE = 1 → ∀ k head b, k = s.boot.slot → head = flashBytes s (slotBase s k) 4096 → b = flashBytes s (slotBase s k) (leAt head 2) →
      exec (.bootSlotLoaded true) s = .next (bootReject s 2 true)
      ∧ (headerBad head (flashSpan s k) = true → exec (.bootSlotLoaded false) s = .next (bootReject s 3 true))
      ∧ (headerBad head (flashSpan s k) = false → sectionsBad s b = true → exec (.bootSlotLoaded false) s = .next (bootReject s 4 true))
      ∧ (∀ e a, headerBad head (flashSpan s k) = false → sectionsBad s b = false → engineWrite initBoot (b.length / 64 + 1) s (stageBundle s) b = (true, e) → a = bootKeys (e.setFld F.BOOT_STAT_STATE 2) →
        (∀ un, bootVerdict a k b = (0, un) → exec (.bootSlotLoaded false) s = .next (bootAccept a b un))
        ∧ (∀ c un, c ≠ 0 → bootVerdict a k b = (c, un) → exec (.bootSlotLoaded false) s = .next (bootReject a c false))))
    ∧ (s.fld F.BOOT_STAT_STATE ≠ 1 → ∀ r, exec (.bootSlotLoaded r) s = .next s)
    ∧ (∀ k b, (sparseFind (recKey 3 k) s.keys.recs = none → 2 ≤ s.keys.lifecycle → s.keys.lifecycle ≤ 3 → bootVerdict s k b = (5, false))
      ∧ (sparseFind (recKey 3 k) s.keys.recs = none → s.keys.lifecycle ≤ 1 → bootVerdict s k b = (0, true))
      ∧ (∀ r, sparseFind (recKey 3 k) s.keys.recs = some r → bootVerdict s k b = (if recAgrees s 3 k b then 0 else 6, false)))
    ∧ (s.fld F.BOOT_STAT_STATE = 3 → ∀ h e, engineRead initBoot 64 s (stageBundle s) 4096 = (some h, e) →
      (∀ a, applySections e (bundleSecs h) = (true, a) → exec .bootApplyDone s = .next (bootReady a h))
      ∧ (∀ a, applySections e (bundleSecs h) = (false, a) → a.clk.held = false → exec .bootApplyDone s = .next (assertReset (setBad a a.boot.slot true) causeBootFail)))
    ∧ (s.fld F.BOOT_STAT_STATE ≠ 3 → exec .bootApplyDone s = .next s)
    ∧ (∀ k d w rest, s.boot.release = (k, d, w) :: rest → ((releaseCore s).boot.release = rest ∧ ((releaseCore s).cpu k).run = true ∧ ((releaseCore s).cpu k).priv = 3
      ∧ ((releaseCore s).cpu k).pc = BitVec.ofNat 64 d ∧ ((releaseCore s).cpu k).x[10]? = some (BitVec.ofNat 64 w) ∧ ∀ j, j ≠ k → (releaseCore s).cpu j = s.cpu j))

/-- The BOOT mailbox and the flash (R507, R519, R520): a command written while BUSY, or one whose operands or state refuse it, is refused with CMD_REFUSED; one that is permitted begins and is held. FLASH_ERASE and FLASH_PROG are
refused where they are not whole sectors or pages or meet the running bundle, CONFIRM outside READY, SET_TRIAL outside READY or while TRIED is 1. An erase leaves its sectors reading 0xFF; CONFIRM prefers the running slot, clears
TRIED and its BAD bit. An operation not done within 4 s ends with ERR and FLASH_ERR. -/
def Obligations.FlashCommands : Prop :=
  ∀ (s : State), s.clk.held = false →
    (s.flag (mbxBusy 17) = true → ∀ a, a = (s.mbxRefuseBusy 17).setFlt F.BOOT_FLT_CMD_REFUSED →
      exec .flashRead s = .next a ∧ exec .flashErase s = .next a ∧ exec .flashProg s = .next a ∧ exec .bootConfirm s = .next a ∧ exec .setTrial s = .next a ∧ exec .forceRecovery s = .next a)
    ∧ (s.flag (mbxBusy 17) = false → ∀ off len addr, off = s.mbxD 17 0 → len = s.mbxD 17 1 → addr = s.mbxD 17 3 % 16 * 2 ^ 32 + s.mbxD 17 2 →
      (∀ a b c, a = (s.mbxRefuse 17).setFlt F.BOOT_FLT_CMD_REFUSED →
        b = (fun n => s.mbxStart 17 { cmd := n, ok := true, d0 := s.mbxD 17 0, d1 := s.mbxD 17 1, d2 := s.mbxD 17 2, d3 := s.mbxD 17 3 }) →
        c = (fun n => ({ b n with boot := { (b n).boot with op := some { cmd := n, off := off, len := len, addr := addr, start := s.clk.ns } } } : State)) →
        (len % 4 ≠ 0 → exec .flashRead s = .next a)
        ∧ (len % 4 = 0 → len ≠ 0 → inLpddr s addr len = false → exec .flashRead s = .next a)
        ∧ (len % 4 = 0 → len ≠ 0 → inLpddr s addr len = true → partHeld s 0 = false → bwPermits s 0 kindWrite addr len = true → exec .flashRead s = .next (c 1))
        ∧ (off % 65536 = 0 → len % 65536 = 0 → meetsRunning s off len = false → exec .flashErase s = .next (c 2))
        ∧ (off % 65536 ≠ 0 ∨ len % 65536 ≠ 0 ∨ meetsRunning s off len = true → exec .flashErase s = .next a)
        ∧ (off % 256 = 0 → len % 256 = 0 → meetsRunning s off len = false → len ≠ 0 → inLpddr s addr len = true → partHeld s 0 = false → bwPermits s 0 kindRead addr len = true → exec .flashProg s = .next (c 3))
        ∧ (off % 256 ≠ 0 ∨ len % 256 ≠ 0 ∨ meetsRunning s off len = true → exec .flashProg s = .next a)
        ∧ (s.fld F.BOOT_STAT_STATE = 4 → exec .bootConfirm s = .next (c 4))
        ∧ (s.fld F.BOOT_STAT_STATE ≠ 4 → exec .bootConfirm s = .next a)
        ∧ (s.fld F.BOOT_STAT_STATE = 4 → s.flag F.AON_BOOT_TRIED = false → exec .setTrial s = .next (c 5))
        ∧ (s.fld F.BOOT_STAT_STATE ≠ 4 ∨ s.flag F.AON_BOOT_TRIED = true → exec .setTrial s = .next a)
        ∧ exec .forceRecovery s = .next (c 6)))
    ∧ (∀ o a r, s.boot.op = some o → a = ({ s with boot := { s.boot with op := none } } : State) → r = s.fld F.BOOT_STAT_SLOT →
      (o.cmd = 2 → s.clk.ns < o.start + 4000000000 → exec (.mailboxComplete 17) s = .next ((flashErase a o.off o.len).mbxEnd 17))
      ∧ (o.cmd = 4 → exec (.mailboxComplete 17) s = .next (((setBad ((a.setSh F.AON_BOOT_PREF r).setSh F.AON_BOOT_TRIED 0) r false).event 17 0x1105 0).mbxEnd 17))
      ∧ (o.cmd = 5 → exec (.mailboxComplete 17) s = .next ((a.setSh F.AON_BOOT_TRIAL 1).mbxEnd 17))
      ∧ (o.cmd = 6 → exec (.mailboxComplete 17) s = .next ((a.setSh F.AON_BOOT_FORCE_RECOV 1).mbxEnd 17))
      ∧ (o.cmd ≤ 3 → o.start + 4000000000 ≤ s.clk.ns → exec (.mailboxComplete 17) s = .next s)
      ∧ (o.cmd = 2 ∨ o.cmd = 3 → o.start + 4000000000 ≤ s.clk.ns → ∃ t, exec .flashOpTimeout s = .next t ∧ t.boot.op = none ∧ t.flag F.BOOT_FLT_FLASH_ERR = true ∧ t.mem = s.mem ∧ t.boot.flash = s.boot.flash)
      ∧ (s.clk.ns < o.start + 4000000000 → exec .flashOpTimeout s = .next s))
    ∧ (∀ off len x, off % 65536 = 0 → len % 65536 = 0 → off ≤ x → x < off + len → x < s.boot.size → flashByte (flashErase s off len) x = 0xFF)
    ∧ ∀ off len x, x < off → x / 256 < off / 256 → flashByte (flashErase s off len) x = flashByte s x

/-- Recovery and JTAG (R218, R441, R462, R521 to R524): in RECOVERY a request that BOOT takes is answered BUSY while another is in progress; else it is done, or waits for KEYS or the flash, and its reply is sent back to the sender with
its token and a status; a frame that BOOT does not take does nothing. REBOOT is answered and then resets the device. JTAG halts, resumes, reads and writes the cores and accesses the fabric where the lifecycle permits debug, and the lane
memories where R218 permits; in any other state it has no effect. The levels that a boundary scan captures are free values; the TAP's instruction numbers are the model's own (log entry 49). -/
def Obligations.RecoveryAndJtag : Prop :=
  ∀ (s : State), (s.clk.held = false →
    (∀ f c, recoveryTakes s f c = false → exec (.info f c) s = .next s ∧ exec (.stage f c) s = .next s ∧ exec (.keymsg f c) s = .next s ∧ exec (.recoveryApprove f c) s = .next s
      ∧ exec (.root f c) s = .next s ∧ exec (.saveStore f c) s = .next s ∧ exec (.program f c) s = .next s ∧ exec (.reboot f c) s = .next s)
    ∧ (∀ f c m, recoveryTakes s f c = true → f.payload = .recovery m → m.data.length ≤ 1024 →
      (s.boot.req.isSome = true → (m.op = 1 → exec (.info f c) s = .next (recoveryReply s f m 1 [])) ∧ (m.op = 2 → exec (.stage f c) s = .next (recoveryReply s f m 1 [])) ∧ (m.op = 7 → exec (.program f c) s = .next (recoveryReply s f m 1 [])))
      ∧ (s.boot.req.isSome = false →
        (m.op = 1 → exec (.info f c) s = .next (recoveryReply s f m 0 (deviceId s ++ octetsBE 4 (keyCounter s) ++ octetsBE 4 (counterConf s) ++ [s.keys.lifecycle, s.fld F.BOOT_CAUSE_SLOT0, s.fld F.BOOT_CAUSE_SLOT1, 0])))
        ∧ (m.op = 2 → 0x4000000 < m.arg0 + m.data.length ∨ m.arg0 % 4 ≠ 0 ∨ m.data.length % 4 ≠ 0 → exec (.stage f c) s = .next (recoveryReply s f m 2 []))
        ∧ (∀ a, m.op = 2 → m.arg0 + m.data.length ≤ 0x4000000 → m.arg0 % 4 = 0 → m.data.length % 4 = 0 → engineWrite initBoot (m.data.length / 64 + 1) s (stageBundle s + m.arg0) m.data = (true, a) →
          exec (.stage f c) s = .next (recoveryReply a f m 0 []))
        ∧ (∀ a pair, m.op = (if pair then 4 else 3) → m.arg0 % 64 = 0 → m.arg0 + m.arg1 ≤ 0x4000000 → s.flag (mbxBusy 15) = false → keysCmd (keysOperand s (stageBundle s + m.arg0) m.arg1 0) true (fun s => applyBegin s pair) = a →
          (a.flag (mbxBusy 15) = true → exec (if pair then .recoveryApprove f c else .keymsg f c) s = .next { a with boot := { a.boot with req := some f } })
          ∧ (a.flag (mbxBusy 15) = false → exec (if pair then .recoveryApprove f c else .keymsg f c) s = .next (recoveryReply a f m (0x100 + a.mbxD 15 0) [])))
        ∧ (s.flag (mbxBusy 15) = true → (m.op = 5 → exec (.root f c) s = .next (recoveryReply s f m 0x10C [])) ∧ (m.op = 6 → exec (.saveStore f c) s = .next (recoveryReply s f m 0x10C [])))
        ∧ (∀ k a, m.op = 5 → s.flag (mbxBusy 15) = false → s.keys.lifecycle ≠ 3 → k = fitOctets 32 m.data → m.arg0 = 1 ∨ m.arg0 = 2 → s.keys.fuses.rootHash = some (sha256 (m.arg0 :: k)) →
          a = keysBegin (keysOperand s (stageStore s 0) 32 m.arg0) 9 0 false k → exec (.root f c) s = .next { a with boot := { a.boot with req := some f } })
        ∧ (∀ a, m.op = 6 → s.flag (mbxBusy 15) = false → s.keys.lifecycle ≠ 3 → a = keysBegin (keysOperand s (stageStore s 0) 0 0) 5 0 false [] → exec (.saveStore f c) s = .next { a with boot := { a.boot with req := some f } })
        ∧ (m.op = 7 → 1 < m.arg0 ∨ 0x4000000 < m.arg1 → exec (.program f c) s = .next (recoveryReply s f m 3 []))
        ∧ (∀ b a, m.op = 7 → m.arg0 ≤ 1 → m.arg1 ≤ 0x4000000 → engineRead initBoot (m.arg1 / 64 + 1) s (stageBundle s) m.arg1 = (some b, a) →
          (recAgrees a 3 m.arg0 b = false → exec (.program f c) s = .next (recoveryReply a f m 3 []))
          ∧ (recAgrees a 3 m.arg0 b = true → bundleForm a b (flashSpan a m.arg0) ≠ 0 → exec (.program f c) s = .next (recoveryReply a f m 4 []))
          ∧ (recAgrees a 3 m.arg0 b = true → bundleForm a b (flashSpan a m.arg0) = 0 → exec (.program f c) s = .next
              { a with boot := { a.boot with req := some f, op := some { cmd := 0x10, off := slotBase a m.arg0, len := roundUp m.arg1 65536, addr := stageBundle a, start := a.clk.ns } } }))
        ∧ (m.op = 8 → ∃ t, exec (.reboot f c) s = .next t ∧ t.clk.held = true ∧ bitOf (t.aonFld F.AON_RST_CAUSE_CAUSE) 5 = true ∧ t.boot.reply = (recoveryReply s f m 0 []).boot.reply)))
    ∧ ∀ f m st d, ∃ g, (recoveryReply s f m st d).boot.reply = some g ∧ g.dst = f.src ∧ g.src = recoverySa s ∧ g.payload = .recovery { op := m.op ||| 0x8000, token := m.token, arg0 := st, arg1 := 0, data := d })
    ∧ (exec (.jtagInstruction .idcode) s = .next ((s.jtagInstr 1).jtagShift [Config.idcode % 2 ^ 32]) ∧ exec (.jtagInstruction .bypass) s = .next ((s.jtagInstr 0).jtagShift [0])
      ∧ (∀ l v a, s.takeFree = (v, a) → exec (.jtagInstruction (.preload l)) s = .next { a with core := { a.core with jtagOut := [v], jtagIr := 2, jtagBsr := l } }
        ∧ (s.keys.lifecycle = 2 → exec (.jtagInstruction (.extest l)) s = .next s ∧ exec (.jtagInstruction (.intest l)) s = .next s)
        ∧ (s.keys.lifecycle ≠ 2 → exec (.jtagInstruction (.extest l)) s = .next { a with core := { a.core with jtagOut := [v], jtagIr := 3, jtagBsr := l } } ∧ exec (.jtagInstruction (.intest l)) s = .next { a with core := { a.core with jtagOut := [v], jtagIr := 4, jtagBsr := l } }))
      ∧ (s.keys.lifecycle = 1 ∨ s.keys.lifecycle = 2 → exec (.jtagInstruction .testScan) s = .next s)
      ∧ (debugOpen s = false → ∀ k r v a n l, exec (.jtagInstruction (.coreHalt k)) s = .next s ∧ exec (.jtagInstruction (.coreResume k)) s = .next s ∧ exec (.jtagInstruction (.coreRead k r)) s = .next s ∧ exec (.jtagInstruction (.coreWrite k r v)) s = .next s
        ∧ exec (.jtagInstruction (.coreLoad k a n)) s = .next s ∧ exec (.jtagInstruction (.coreStore k a l)) s = .next s ∧ exec (.jtagInstruction (.fabRead a n)) s = .next s ∧ exec (.jtagInstruction (.fabWrite a l)) s = .next s)
      ∧ (debugOpen s = true → (∀ k, k < 8 → (∃ t, exec (.jtagInstruction (.coreHalt k)) s = .next t ∧ coreHalted t k = true ∧ t.mem = s.mem) ∧ (∃ t, exec (.jtagInstruction (.coreResume k)) s = .next t ∧ coreHalted t k = false ∧ t.mem = s.mem)
          ∧ (coreHalted s k = true → (∀ r, r < 32 → exec (.jtagInstruction (.coreRead k r)) s = .next (s.jtagShift [(s.cpu k).getX r])) ∧ (∀ r v, r < 32 → exec (.jtagInstruction (.coreWrite k r v)) s = .next (s.setCpu k ((s.cpu k).setX r v)))
            ∧ exec (.jtagInstruction (.coreRead k 64)) s = .next (s.jtagShift [(s.cpu k).pc.toNat])
            ∧ (∀ a n, n ≠ 0 → exec (.jtagInstruction (.coreLoad k a n)) s = .next (jtagGot (fabRead s initCore (s.cpu k).txTag kindRead (a % 2 ^ 36) n))) ∧ (∀ a l, l ≠ [] → exec (.jtagInstruction (.coreStore k a l)) s = .next (fabWrite s initCore (s.cpu k).txTag (a % 2 ^ 36) l).2)))
        ∧ (∀ a n, n ≠ 0 → exec (.jtagInstruction (.fabRead a n)) s = .next (jtagGot (fabRead s initJtag 0 kindRead (a % 2 ^ 36) n))) ∧ (∀ a l, l ≠ [] → exec (.jtagInstruction (.fabWrite a l)) s = .next (fabWrite s initJtag 0 (a % 2 ^ 36) l).2)
        ∧ (∀ n, n < 24 → (∀ g, exec (.jtagInstruction (.laneTriggers n g)) s = .next (s.setPair n { s.pair n with trigs := (g.take 4).map fun t => { onData := t.1, addr := t.2 % 2 ^ 32 } })) ∧ ((s.pair n).halted = true →
          exec (.jtagInstruction (.laneStaging n)) s = .next (s.jtagShift (s.pair n).staging) ∧ exec (.jtagInstruction (.laneReg n 64)) s = .next (s.jtagShift [(s.pair n).pc.toNat]) ∧ (∀ r, r < 32 → exec (.jtagInstruction (.laneReg n r)) s = .next (s.jtagShift [(s.pair n).getX r]))
          ∧ (∀ off w a, viewWord s (pairGroup s n) (off / 4 * 4 % 0x1000000) = (w, a) → exec (.jtagInstruction (.laneView n off)) s = .next (a.jtagShift [w])))))
      ∧ ∀ a n t, laneAt s a n = some t →
        (laneMemOpen s t = false → exec (.jtagInstruction (.laneRead a n)) s = .next s) ∧ (laneMemOpen s t = true → laneUe s a n = 0 → ∀ b, b = laneCeCount s t (laneCe s a n) → exec (.jtagInstruction (.laneRead a n)) s = .next (b.jtagShift (b.memBytes a n)))
        ∧ (∀ l, l.length = n → (laneMemOpen s t = false → exec (.jtagInstruction (.laneWrite a l)) s = .next s) ∧ (laneMemOpen s t = true → exec (.jtagInstruction (.laneWrite a l)) s = .next (clearMeasured (laneMemWrite s a l) t (a % 0x100000) n))))
end

