-- ==== Sys2Proof/Laws/Exec.lean ====
section
/-! SUPPORT. Each command is its meaning, one lemma for each; and what a command does while device reset is not asserted. -/

set_option Elab.async false

namespace Sys2Proof.Machine

/-- While device reset is not asserted, a command acts. -/
@[simp] theorem live_of_not_held {s : State} (h : s.clk.held = false) (f : State → State) : s.live f = f s := by
  simp [State.live, h]

/-- While device reset is asserted, a command finds nothing to act on. -/
@[simp] theorem live_of_held {s : State} (h : s.clk.held = true) (f : State → State) : s.live f = s := by
  simp [State.live, h]

/-- A step with a command waiting runs the command at the front on what is behind it. -/
theorem step_front {s : State} {c : Sys2Proof.Instr} {rest : List Sys2Proof.Instr} (h : s.pending = c :: rest) :
    step s = exec c { s with pending := rest } := by
  unfold step; rw [h]

/-- A step with no command waiting is one tick. -/
theorem step_idle {s : State} (h : s.pending = []) : step s = .next (tick s) := by
  unfold step; rw [h]

@[simp] theorem exec_utcofsApply (s : State) : exec (.utcofsApply) s = execUtcofsApply s := rfl
@[simp] theorem exec_timeCtrlWrite (v : Nat) (s : State) : exec (.timeCtrlWrite v) s = execTimeCtrlWrite v s := rfl
@[simp] theorem exec_syncRx (port : Nat) (m : PtpMsg) (rx : Stamp) (fu : Option (PtpMsg × Stamp)) (s : State) : exec (.syncRx port m rx fu) s = execSyncRx port m rx fu s := rfl
@[simp] theorem exec_ppsEdge (st : Stamp) (s : State) : exec (.ppsEdge st) s = execPpsEdge st s := rfl
@[simp] theorem exec_syncLossTimer (s : State) : exec (.syncLossTimer) s = execSyncLossTimer s := rfl
@[simp] theorem exec_holdLimitReached (s : State) : exec (.holdLimitReached) s = execHoldLimitReached s := rfl
@[simp] theorem exec_stepNotice (s : State) : exec (.stepNotice) s = execStepNotice s := rfl
@[simp] theorem exec_pdelayReqRx (port : Nat) (m : PtpMsg) (rx : Stamp) (s : State) : exec (.pdelayReqRx port m rx) s = execPdelayReqRx port m rx s := rfl
@[simp] theorem exec_pdelayReqTx (port : Nat) (s : State) : exec (.pdelayReqTx port) s = execPdelayReqTx port s := rfl
@[simp] theorem exec_pdelayRespRx (port : Nat) (m : PtpMsg) (rx : Stamp) (fu : Option PtpMsg) (s : State) : exec (.pdelayRespRx port m rx fu) s = execPdelayRespRx port m rx fu s := rfl
@[simp] theorem exec_syncEgressCorrect (port : Nat) (s : State) : exec (.syncEgressCorrect port) s = execSyncEgressCorrect port s := rfl
@[simp] theorem exec_twoStepSyncRecord (port : Nat) (s : State) : exec (.twoStepSyncRecord port) s = execTwoStepSyncRecord port s := rfl
@[simp] theorem exec_followUpEgress (port : Nat) (s : State) : exec (.followUpEgress port) s = execFollowUpEgress port s := rfl
@[simp] theorem exec_toutArm (n : Nat) (arm : Bool) (s : State) : exec (.toutArm n arm) s = execToutArm n arm s := rfl
@[simp] theorem exec_toutPulseStart (n : Nat) (s : State) : exec (.toutPulseStart n) s = execToutPulseStart n s := rfl
@[simp] theorem exec_toutPulseEnd (n : Nat) (s : State) : exec (.toutPulseEnd n) s = execToutPulseEnd n s := rfl
@[simp] theorem exec_tinCapture (n : Nat) (rising : Bool) (sub : Nat) (s : State) : exec (.tinCapture n rising sub) s = execTinCapture n rising sub s := rfl
@[simp] theorem exec_readNow (s : State) : exec (.readNow) s = execReadNow s := rfl
@[simp] theorem exec_setAbs (s : State) : exec (.setAbs) s = execSetAbs s := rfl
@[simp] theorem exec_stepRel (s : State) : exec (.stepRel) s = execStepRel s := rfl
@[simp] theorem exec_loadTout (s : State) : exec (.loadTout) s = execLoadTout s := rfl
@[simp] theorem exec_popTin (s : State) : exec (.popTin) s = execPopTin s := rfl
@[simp] theorem exec_mailboxComplete (blk : Nat) (s : State) : exec (.mailboxComplete blk) s = execMailboxComplete blk s := rfl
@[simp] theorem exec_groupEnable (g : Nat) (s : State) : exec (.groupEnable g) s = execGroupEnable g s := rfl
@[simp] theorem exec_groupDisable (g : Nat) (s : State) : exec (.groupDisable g) s = execGroupDisable g s := rfl
@[simp] theorem exec_tideEvaluation (g : Nat) (s : State) : exec (.tideEvaluation g) s = execTideEvaluation g s := rfl
@[simp] theorem exec_resync (g : Nat) (s : State) : exec (.resync g) s = execResync g s := rfl
@[simp] theorem exec_forceFreerun (g : Nat) (s : State) : exec (.forceFreerun g) s = execForceFreerun g s := rfl
@[simp] theorem exec_laneWindowStart (g : Nat) (s : State) : exec (.laneWindowStart g) s = execLaneWindowStart g s := rfl
@[simp] theorem exec_slotStart (t j : Nat) (s : State) : exec (.slotStart t j) s = execSlotStart t j s := rfl
@[simp] theorem exec_partitionLate (n : Nat) (s : State) : exec (.partitionLate n) s = execPartitionLate n s := rfl
@[simp] theorem exec_windowCommit (g : Nat) (s : State) : exec (.windowCommit g) s = execWindowCommit g s := rfl
@[simp] theorem exec_lockstepMismatch (n : Nat) (s : State) : exec (.lockstepMismatch n) s = execLockstepMismatch n s := rfl
@[simp] theorem exec_spareAttachDone (n : Nat) (s : State) : exec (.spareAttachDone n) s = execSpareAttachDone n s := rfl
@[simp] theorem exec_spareSelftestFail (n : Nat) (s : State) : exec (.spareSelftestFail n) s = execSpareSelftestFail n s := rfl
@[simp] theorem exec_readLive (s : State) : exec (.readLive) s = execReadLive s := rfl
@[simp] theorem exec_timeToAng (s : State) : exec (.timeToAng) s = execTimeToAng s := rfl
@[simp] theorem exec_angToTime (s : State) : exec (.angToTime) s = execAngToTime s := rfl
@[simp] theorem exec_svFrameRx (s : State) : exec (.svFrameRx) s = execSvFrameRx s := rfl
@[simp] theorem exec_streamEnable (n : Nat) (s : State) : exec (.streamEnable n) s = execStreamEnable n s := rfl
@[simp] theorem exec_streamDisable (n : Nat) (s : State) : exec (.streamDisable n) s = execStreamDisable n s := rfl
@[simp] theorem exec_sampleRelease (n : Nat) (s : State) : exec (.sampleRelease n) s = execSampleRelease n s := rfl
@[simp] theorem exec_fingerprintComplete (p : Nat) (s : State) : exec (.fingerprintComplete p) s = execFingerprintComplete p s := rfl
@[simp] theorem exec_stepGuardExpiry (n : Nat) (s : State) : exec (.stepGuardExpiry n) s = execStepGuardExpiry n s := rfl
@[simp] theorem exec_clrTmax (s : State) : exec (.clrTmax) s = execClrTmax s := rfl
@[simp] theorem exec_estRestart (s : State) : exec (.estRestart) s = execEstRestart s := rfl
@[simp] theorem exec_adepthWrite (g v : Nat) (s : State) : exec (.adepthWrite g v) s = execAdepthWrite g v s := rfl
@[simp] theorem exec_fdcSweep (depth : Nat) (s : State) : exec (.fdcSweep depth) s = execFdcSweep depth s := rfl
@[simp] theorem exec_fdcChannelEnable (c : Nat) (s : State) : exec (.fdcChannelEnable c) s = execFdcChannelEnable c s := rfl
@[simp] theorem exec_fdcChannelDisable (c : Nat) (s : State) : exec (.fdcChannelDisable c) s = execFdcChannelDisable c s := rfl
@[simp] theorem exec_fdcDisable (s : State) : exec (.fdcDisable) s = execFdcDisable s := rfl
@[simp] theorem exec_syncResetChannel (s : State) : exec (.syncResetChannel) s = execSyncResetChannel s := rfl
@[simp] theorem exec_syncResetGroup (g : Nat) (s : State) : exec (.syncResetGroup g) s = execSyncResetGroup g s := rfl
@[simp] theorem exec_laneInstruction (n : Nat) (s : State) : exec (.laneInstruction n) s = execLaneInstruction n s := rfl
@[simp] theorem exec_pxCmul (n rd rs1 rs2 : Nat) (s : State) : exec (.pxCmul n rd rs1 rs2) s = execPxCmul n rd rs1 rs2 s := rfl
@[simp] theorem exec_pxCmulc (n rd rs1 rs2 : Nat) (s : State) : exec (.pxCmulc n rd rs1 rs2) s = execPxCmulc n rd rs1 rs2 s := rfl
@[simp] theorem exec_pxCmac (n rd rs1 rs2 : Nat) (s : State) : exec (.pxCmac n rd rs1 rs2) s = execPxCmac n rd rs1 rs2 s := rfl
@[simp] theorem exec_pxCadd (n rd rs1 rs2 : Nat) (s : State) : exec (.pxCadd n rd rs1 rs2) s = execPxCadd n rd rs1 rs2 s := rfl
@[simp] theorem exec_pxCsub (n rd rs1 rs2 : Nat) (s : State) : exec (.pxCsub n rd rs1 rs2) s = execPxCsub n rd rs1 rs2 s := rfl
@[simp] theorem exec_pxCscl (n rd rs1 rs2 : Nat) (s : State) : exec (.pxCscl n rd rs1 rs2) s = execPxCscl n rd rs1 rs2 s := rfl
@[simp] theorem exec_pxCabs2 (n rd rs1 : Nat) (s : State) : exec (.pxCabs2 n rd rs1) s = execPxCabs2 n rd rs1 s := rfl
@[simp] theorem exec_pxCabs (n rd rs1 : Nat) (s : State) : exec (.pxCabs n rd rs1) s = execPxCabs n rd rs1 s := rfl
@[simp] theorem exec_pxCarg (n rd rs1 : Nat) (s : State) : exec (.pxCarg n rd rs1) s = execPxCarg n rd rs1 s := rfl
@[simp] theorem exec_pxCis (n rd rs1 : Nat) (s : State) : exec (.pxCis n rd rs1) s = execPxCis n rd rs1 s := rfl
@[simp] theorem exec_pxRot (n rd rs1 rs2 : Nat) (s : State) : exec (.pxRot n rd rs1 rs2) s = execPxRot n rd rs1 rs2 s := rfl
@[simp] theorem exec_pxDfta (n rd rs1 rs2 : Nat) (s : State) : exec (.pxDfta n rd rs1 rs2) s = execPxDfta n rd rs1 rs2 s := rfl
@[simp] theorem exec_pxQchk (n rd rs1 rs2 : Nat) (s : State) : exec (.pxQchk n rd rs1 rs2) s = execPxQchk n rd rs1 rs2 s := rfl
@[simp] theorem exec_pxDone (n rs1 : Nat) (s : State) : exec (.pxDone n rs1) s = execPxDone n rs1 s := rfl
@[simp] theorem exec_vectorLatchRead (s : State) : exec (.vectorLatchRead) s = execVectorLatchRead s := rfl
@[simp] theorem exec_clrUsed (s : State) : exec (.clrUsed) s = execClrUsed s := rfl
@[simp] theorem exec_laneDebugHalt (n : Nat) (s : State) : exec (.laneDebugHalt n) s = execLaneDebugHalt n s := rfl
@[simp] theorem exec_laneDebugResume (n : Nat) (s : State) : exec (.laneDebugResume n) s = execLaneDebugResume n s := rfl
@[simp] theorem exec_laneDebugStep (n : Nat) (s : State) : exec (.laneDebugStep n) s = execLaneDebugStep n s := rfl
@[simp] theorem exec_gooseRetransmit (b : Nat) (s : State) : exec (.gooseRetransmit b) s = execGooseRetransmit b s := rfl
@[simp] theorem exec_gooseBlockEnable (b : Nat) (s : State) : exec (.gooseBlockEnable b) s = execGooseBlockEnable b s := rfl
@[simp] theorem exec_gooseBlockDisable (b : Nat) (s : State) : exec (.gooseBlockDisable b) s = execGooseBlockDisable b s := rfl
@[simp] theorem exec_gooseSubEnable (sub : Nat) (s : State) : exec (.gooseSubEnable sub) s = execGooseSubEnable sub s := rfl
@[simp] theorem exec_gooseSubDisable (sub : Nat) (s : State) : exec (.gooseSubDisable sub) s = execGooseSubDisable sub s := rfl
@[simp] theorem exec_gooseFrameRx (s : State) : exec (.gooseFrameRx) s = execGooseFrameRx s := rfl
@[simp] theorem exec_gooseSubUpdate (sub : Nat) (s : State) : exec (.gooseSubUpdate sub) s = execGooseSubUpdate sub s := rfl
@[simp] theorem exec_gooseSubExpiry (sub : Nat) (s : State) : exec (.gooseSubExpiry sub) s = execGooseSubExpiry sub s := rfl
@[simp] theorem exec_republish (s : State) : exec (.republish) s = execRepublish s := rfl
@[simp] theorem exec_clrSim (s : State) : exec (.clrSim) s = execClrSim s := rfl
@[simp] theorem exec_gateTrigger (n : Nat) (s : State) : exec (.gateTrigger n) s = execGateTrigger n s := rfl
@[simp] theorem exec_gateChannelEnable (n : Nat) (s : State) : exec (.gateChannelEnable n) s = execGateChannelEnable n s := rfl
@[simp] theorem exec_gateChannelDisable (n : Nat) (s : State) : exec (.gateChannelDisable n) s = execGateChannelDisable n s := rfl
@[simp] theorem exec_gateCommit (n : Nat) (s : State) : exec (.gateCommit n) s = execGateCommit n s := rfl
@[simp] theorem exec_gateReload (n : Nat) (s : State) : exec (.gateReload n) s = execGateReload n s := rfl
@[simp] theorem exec_gateDutyEnd (n : Nat) (s : State) : exec (.gateDutyEnd n) s = execGateDutyEnd n s := rfl
@[simp] theorem exec_gateRefreshStart (n : Nat) (s : State) : exec (.gateRefreshStart n) s = execGateRefreshStart n s := rfl
@[simp] theorem exec_gateRefreshEnd (n : Nat) (s : State) : exec (.gateRefreshEnd n) s = execGateRefreshEnd n s := rfl
@[simp] theorem exec_gateInstantFixed (n : Nat) (s : State) : exec (.gateInstantFixed n) s = execGateInstantFixed n s := rfl
@[simp] theorem exec_gateScheduledRise (n : Nat) (s : State) : exec (.gateScheduledRise n) s = execGateScheduledRise n s := rfl
@[simp] theorem exec_gatePulseEnd (n : Nat) (s : State) : exec (.gatePulseEnd n) s = execGatePulseEnd n s := rfl
@[simp] theorem exec_safeNAssert (k widthNs : Nat) (s : State) : exec (.safeNAssert k widthNs) s = execSafeNAssert k widthNs s := rfl
@[simp] theorem exec_gateFreeze (s : State) : exec (.gateFreeze) s = execGateFreeze s := rfl
@[simp] theorem exec_gateUnfreeze (s : State) : exec (.gateUnfreeze) s = execGateUnfreeze s := rfl
@[simp] theorem exec_pwmClockReturn (s : State) : exec (.pwmClockReturn) s = execPwmClockReturn s := rfl
@[simp] theorem exec_gateCalibration (ok : Bool) (s : State) : exec (.gateCalibration ok) s = execGateCalibration ok s := rfl
@[simp] theorem exec_readSched (s : State) : exec (.readSched) s = execReadSched s := rfl
@[simp] theorem exec_twinLaneDown (lane : Nat) (s : State) : exec (.twinLaneDown lane) s = execTwinLaneDown lane s := rfl
@[simp] theorem exec_twinLaneUp (lane : Nat) (s : State) : exec (.twinLaneUp lane) s = execTwinLaneUp lane s := rfl
@[simp] theorem exec_twinEnable (s : State) : exec (.twinEnable) s = execTwinEnable s := rfl
@[simp] theorem exec_twinDisable (s : State) : exec (.twinDisable) s = execTwinDisable s := rfl
@[simp] theorem exec_helloTx (s : State) : exec (.helloTx) s = execHelloTx s := rfl
@[simp] theorem exec_helloRx (h : RallyHdr) (w : List Nat) (s : State) : exec (.helloRx h w) s = execHelloRx h w s := rfl
@[simp] theorem exec_fprintRx (h : RallyHdr) (w : List Nat) (s : State) : exec (.fprintRx h w) s = execFprintRx h w s := rfl
@[simp] theorem exec_commitRx (h : RallyHdr) (w : List Nat) (s : State) : exec (.commitRx h w) s = execCommitRx h w s := rfl
@[simp] theorem exec_gseqRx (h : RallyHdr) (w : List Nat) (s : State) : exec (.gseqRx h w) s = execGseqRx h w s := rfl
@[simp] theorem exec_xferRx (h : RallyHdr) (w : List Nat) (s : State) : exec (.xferRx h w) s = execXferRx h w s := rfl
@[simp] theorem exec_yieldRx (h : RallyHdr) (s : State) : exec (.yieldRx h) s = execYieldRx h s := rfl
@[simp] theorem exec_resetReqRx (h : RallyHdr) (s : State) : exec (.resetReqRx h) s = execResetReqRx h s := rfl
@[simp] theorem exec_resetNakRx (h : RallyHdr) (s : State) : exec (.resetNakRx h) s = execResetNakRx h s := rfl
@[simp] theorem exec_xferAckRx (h : RallyHdr) (p : Nat) (s : State) : exec (.xferAckRx h p) s = execXferAckRx h p s := rfl
@[simp] theorem exec_xferNakRx (h : RallyHdr) (p : Nat) (s : State) : exec (.xferNakRx h p) s = execXferNakRx h p s := rfl
@[simp] theorem exec_xferFrameTx (s : State) : exec (.xferFrameTx) s = execXferFrameTx s := rfl
@[simp] theorem exec_pairLinkTimeout (s : State) : exec (.pairLinkTimeout) s = execPairLinkTimeout s := rfl
@[simp] theorem exec_rallyResolve (g : Nat) (s : State) : exec (.rallyResolve g) s = execRallyResolve g s := rfl
@[simp] theorem exec_xferTimeout (s : State) : exec (.xferTimeout) s = execXferTimeout s := rfl
@[simp] theorem exec_wake (s : State) : exec (.wake) s = execWake s := rfl
@[simp] theorem exec_yield (s : State) : exec (.yield) s = execYield s := rfl
@[simp] theorem exec_resetPartner (s : State) : exec (.resetPartner) s = execResetPartner s := rfl
@[simp] theorem exec_realign (g : Nat) (s : State) : exec (.realign g) s = execRealign g s := rfl
@[simp] theorem exec_clrRmax (g : Nat) (s : State) : exec (.clrRmax g) s = execClrRmax g s := rfl
@[simp] theorem exec_wakeFrameTx (s : State) : exec (.wakeFrameTx) s = execWakeFrameTx s := rfl
@[simp] theorem exec_wakeTimeout (s : State) : exec (.wakeTimeout) s = execWakeTimeout s := rfl
@[simp] theorem exec_partnerResetFire (s : State) : exec (.partnerResetFire) s = execPartnerResetFire s := rfl
@[simp] theorem exec_drecBinarySample (s : State) : exec (.drecBinarySample) s = execDrecBinarySample s := rfl
@[simp] theorem exec_drecTickAssemble (drained : Nat) (s : State) : exec (.drecTickAssemble drained) s = execDrecTickAssemble drained s := rfl
@[simp] theorem exec_drecEnable (s : State) : exec (.drecEnable) s = execDrecEnable s := rfl
@[simp] theorem exec_drecDisable (s : State) : exec (.drecDisable) s = execDrecDisable s := rfl
@[simp] theorem exec_drecUnitEnable (u : Nat) (s : State) : exec (.drecUnitEnable u) s = execDrecUnitEnable u s := rfl
@[simp] theorem exec_trigger (u tag : Nat) (s : State) : exec (.trigger u tag) s = execTrigger u tag s := rfl
@[simp] theorem exec_free (s : State) : exec (.free) s = execFree s := rfl
@[simp] theorem exec_freeAll (s : State) : exec (.freeAll) s = execFreeAll s := rfl
@[simp] theorem exec_drecNextSlotArmed (s : State) : exec (.drecNextSlotArmed) s = execDrecNextSlotArmed s := rfl
@[simp] theorem exec_drecSlotDone (s : State) : exec (.drecSlotDone) s = execDrecSlotDone s := rfl
@[simp] theorem exec_elogRecordWrite (s : State) : exec (.elogRecordWrite) s = execElogRecordWrite s := rfl
@[simp] theorem exec_elogSwCodeWrite (tag code : Nat) (s : State) : exec (.elogSwCodeWrite tag code) s = execElogSwCodeWrite tag code s := rfl
@[simp] theorem exec_elogRdIdxWrite (v : Nat) (s : State) : exec (.elogRdIdxWrite v) s = execElogRdIdxWrite v s := rfl
@[simp] theorem exec_clear (s : State) : exec (.clear) s = execClear s := rfl
@[simp] theorem exec_elogClearDone (s : State) : exec (.elogClearDone) s = execElogClearDone s := rfl
@[simp] theorem exec_exportLog (s : State) : exec (.exportLog) s = execExportLog s := rfl
@[simp] theorem exec_elogExportDone (s : State) : exec (.elogExportDone) s = execElogExportDone s := rfl
@[simp] theorem exec_portEnable (p : Nat) (s : State) : exec (.portEnable p) s = execPortEnable p s := rfl
@[simp] theorem exec_portDisable (p : Nat) (s : State) : exec (.portDisable p) s = execPortDisable p s := rfl
@[simp] theorem exec_portUpConditionChange (p : Nat) (los pcs hiBer fec : Bool) (s : State) : exec (.portUpConditionChange p los pcs hiBer fec) s = execPortUpConditionChange p los pcs hiBer fec s := rfl
@[simp] theorem exec_upHoldExpiry (p : Nat) (s : State) : exec (.upHoldExpiry p) s = execUpHoldExpiry p s := rfl
@[simp] theorem exec_downHoldExpiry (p : Nat) (s : State) : exec (.downHoldExpiry p) s = execDownHoldExpiry p s := rfl
@[simp] theorem exec_anComplete (p lp : Nat) (s : State) : exec (.anComplete p lp) s = execAnComplete p lp s := rfl
@[simp] theorem exec_modabsChange (p : Nat) (absent : Bool) (s : State) : exec (.modabsChange p absent) s = execModabsChange p absent s := rfl
@[simp] theorem exec_i2cCmd (k v : Nat) (s : State) : exec (.i2cCmd k v) s = execI2cCmd k v s := rfl
@[simp] theorem exec_i2cDone (k : Nat) (ok : Bool) (data : List Nat) (s : State) : exec (.i2cDone k ok data) s = execI2cDone k ok data s := rfl
@[simp] theorem exec_eqTxWrite (p v : Nat) (s : State) : exec (.eqTxWrite p v) s = execEqTxWrite p v s := rfl
@[simp] theorem exec_portTxthrWrite (p v : Nat) (s : State) : exec (.portTxthrWrite p v) s = execPortTxthrWrite p v s := rfl
@[simp] theorem exec_portTestWrite (p v : Nat) (s : State) : exec (.portTestWrite p v) s = execPortTestWrite p v s := rfl
@[simp] theorem exec_macRxFrame (p : Nat) (f : Frame) (st : Stamp) (fcs code lenMis shortPre : Bool) (s : State) : exec (.macRxFrame p f st fcs code lenMis shortPre) s = execMacRxFrame p f st fcs code lenMis shortPre s := rfl
@[simp] theorem exec_macTxStart (p fill : Nat) (s : State) : exec (.macTxStart p fill) s = execMacTxStart p fill s := rfl
@[simp] theorem exec_txUnderrun (p : Nat) (s : State) : exec (.txUnderrun p) s = execTxUnderrun p s := rfl
@[simp] theorem exec_wakeFrameDetect (f : Frame) (fcsOk : Bool) (s : State) : exec (.wakeFrameDetect f fcsOk) s = execWakeFrameDetect f fcsOk s := rfl
@[simp] theorem exec_swcFrameAdmit (sp : Nat) (s : State) : exec (.swcFrameAdmit sp) s = execSwcFrameAdmit sp s := rfl
@[simp] theorem exec_swcTxCopy (e ecc : Nat) (s : State) : exec (.swcTxCopy e ecc) s = execSwcTxCopy e ecc s := rfl
@[simp] theorem exec_swcFlushComplete (p : Nat) (s : State) : exec (.swcFlushComplete p) s = execSwcFlushComplete p s := rfl
@[simp] theorem exec_fdbAgeOut (idx : Nat) (s : State) : exec (.fdbAgeOut idx) s = execFdbAgeOut idx s := rfl
@[simp] theorem exec_ddEntryExpire (k : Nat) (s : State) : exec (.ddEntryExpire k) s = execDdEntryExpire k s := rfl
@[simp] theorem exec_cpuRxDeliver (s : State) : exec (.cpuRxDeliver) s = execCpuRxDeliver s := rfl
@[simp] theorem exec_cpuTxTailWrite (p v : Nat) (s : State) : exec (.cpuTxTailWrite p v) s = execCpuTxTailWrite p v s := rfl
@[simp] theorem exec_cpuTxFrame (s : State) : exec (.cpuTxFrame) s = execCpuTxFrame s := rfl
@[simp] theorem exec_flushFdbAll (s : State) : exec (.flushFdbAll) s = execFlushFdbAll s := rfl
@[simp] theorem exec_flushFdbPort (s : State) : exec (.flushFdbPort) s = execFlushFdbPort s := rfl
@[simp] theorem exec_vlanRd (s : State) : exec (.vlanRd) s = execVlanRd s := rfl
@[simp] theorem exec_vlanWr (s : State) : exec (.vlanWr) s = execVlanWr s := rfl
@[simp] theorem exec_fdbRd (s : State) : exec (.fdbRd) s = execFdbRd s := rfl
@[simp] theorem exec_fdbWr (s : State) : exec (.fdbWr) s = execFdbWr s := rfl
@[simp] theorem exec_fdbDel (s : State) : exec (.fdbDel) s = execFdbDel s := rfl
@[simp] theorem exec_mcRd (s : State) : exec (.mcRd) s = execMcRd s := rfl
@[simp] theorem exec_mcWr (s : State) : exec (.mcWr) s = execMcWr s := rfl
@[simp] theorem exec_fdbRdIndex (s : State) : exec (.fdbRdIndex) s = execFdbRdIndex s := rfl
@[simp] theorem exec_swcEnable (s : State) : exec (.swcEnable) s = execSwcEnable s := rfl
@[simp] theorem exec_pairEnable (k : Nat) (s : State) : exec (.pairEnable k) s = execPairEnable k s := rfl
@[simp] theorem exec_ringEnable (p : Nat) (rx tx : Bool) (s : State) : exec (.ringEnable p rx tx) s = execRingEnable p rx tx s := rfl
@[simp] theorem exec_fabricAccess (init src kind addr : Nat) (data : List Nat) (ue : Option Nat) (s : State) : exec (.fabricAccess init src kind addr data ue) s = execFabricAccess init src kind addr data ue s := rfl
@[simp] theorem exec_coreInstruction (k ue : Nat) (evict : List (Nat × Nat)) (s : State) : exec (.coreInstruction k ue evict) s = execCoreInstruction k ue evict s := rfl
@[simp] theorem exec_curWrite (k : CurSel) (v : Nat) (s : State) : exec (.curWrite k v) s = execCurWrite k v s := rfl
@[simp] theorem exec_irqRouteEnable (p v : Nat) (s : State) : exec (.irqRouteEnable p v) s = execIrqRouteEnable p v s := rfl
@[simp] theorem exec_iommuCommand (s : State) : exec (.iommuCommand) s = execIommuCommand s := rfl
@[simp] theorem exec_pulse (p : Nat) (s : State) : exec (.pulse p) s = execPulse p s := rfl
@[simp] theorem exec_holdWrite (p : Nat) (v : Bool) (s : State) : exec (.holdWrite p v) s = execHoldWrite p v s := rfl
@[simp] theorem exec_resetPulseEnd (p : Nat) (s : State) : exec (.resetPulseEnd p) s = execResetPulseEnd p s := rfl
@[simp] theorem exec_wdKick (p : Nat) (s : State) : exec (.wdKick p) s = execWdKick p s := rfl
@[simp] theorem exec_wdWarn (p : Nat) (s : State) : exec (.wdWarn p) s = execWdWarn p s := rfl
@[simp] theorem exec_wdExpiry (p : Nat) (s : State) : exec (.wdExpiry p) s = execWdExpiry p s := rfl
@[simp] theorem exec_wdConfigWrite (p : Nat) (lane : Bool) (v : Nat) (s : State) : exec (.wdConfigWrite p lane v) s = execWdConfigWrite p lane v s := rfl
@[simp] theorem exec_lwdExpiry (p : Nat) (win : Nat) (s : State) : exec (.lwdExpiry p win) s = execLwdExpiry p win s := rfl
@[simp] theorem exec_dwdKick (v : Nat) (s : State) : exec (.dwdKick v) s = execDwdKick v s := rfl
@[simp] theorem exec_dwdWarn (s : State) : exec (.dwdWarn) s = execDwdWarn s := rfl
@[simp] theorem exec_dwdExpiry (s : State) : exec (.dwdExpiry) s = execDwdExpiry s := rfl
@[simp] theorem exec_qosPeriodStart (s : State) : exec (.qosPeriodStart) s = execQosPeriodStart s := rfl
@[simp] theorem exec_apply (s : State) : exec (.apply) s = execApply s := rfl
@[simp] theorem exec_approve (s : State) : exec (.approve) s = execApprove s := rfl
@[simp] theorem exec_attest (s : State) : exec (.attest) s = execAttest s := rfl
@[simp] theorem exec_measure (s : State) : exec (.measure) s = execMeasure s := rfl
@[simp] theorem exec_keysExport (s : State) : exec (.keysExport) s = execKeysExport s := rfl
@[simp] theorem exec_confirm (s : State) : exec (.confirm) s = execConfirm s := rfl
@[simp] theorem exec_import (s : State) : exec (.import) s = execImport s := rfl
@[simp] theorem exec_commit (s : State) : exec (.commit) s = execCommit s := rfl
@[simp] theorem exec_rootInstall (s : State) : exec (.rootInstall) s = execRootInstall s := rfl
@[simp] theorem exec_burnRoot (s : State) : exec (.burnRoot) s = execBurnRoot s := rfl
@[simp] theorem exec_lcDevelop (s : State) : exec (.lcDevelop) s = execLcDevelop s := rfl
@[simp] theorem exec_lcSeal (s : State) : exec (.lcSeal) s = execLcSeal s := rfl
@[simp] theorem exec_lcDecommission (s : State) : exec (.lcDecommission) s = execLcDecommission s := rfl
@[simp] theorem exec_exportKtk (s : State) : exec (.exportKtk) s = execExportKtk s := rfl
@[simp] theorem exec_keysApplyEdge (s : State) : exec (.keysApplyEdge) s = execKeysApplyEdge s := rfl
@[simp] theorem exec_keysScrub (ecc : List Nat) (s : State) : exec (.keysScrub ecc) s = execKeysScrub ecc s := rfl
@[simp] theorem exec_idReady (s : State) : exec (.idReady) s = execIdReady s := rfl
@[simp] theorem exec_tamperDetect (levels : Nat) (s : State) : exec (.tamperDetect levels) s = execTamperDetect levels s := rfl
@[simp] theorem exec_zeroisation (s : State) : exec (.zeroisation) s = execZeroisation s := rfl
@[simp] theorem exec_snapshot (s : State) : exec (.snapshot) s = execSnapshot s := rfl
@[simp] theorem exec_snapshotClear (s : State) : exec (.snapshotClear) s = execSnapshotClear s := rfl
@[simp] theorem exec_readSnapTime (s : State) : exec (.readSnapTime) s = execReadSnapTime s := rfl
@[simp] theorem exec_aonWriteApply (s : State) : exec (.aonWriteApply) s = execAonWriteApply s := rfl
@[simp] theorem exec_registerWrite (init src addr size v : Nat) (s : State) : exec (.registerWrite init src addr size v) s = execRegisterWrite init src addr size v s := rfl
@[simp] theorem exec_memRetrain (mcb ok : Bool) (s : State) : exec (.memRetrain mcb ok) s = execMemRetrain mcb ok s := rfl
@[simp] theorem exec_pllLockLost (pll unit : Nat) (s : State) : exec (.pllLockLost pll unit) s = execPllLockLost pll unit s := rfl
@[simp] theorem exec_pllRelock (pll unit refs before : Nat) (s : State) : exec (.pllRelock pll unit refs before) s = execPllRelock pll unit refs before s := rfl
@[simp] theorem exec_refLost (s : State) : exec (.refLost) s = execRefLost s := rfl
@[simp] theorem exec_refReturn (s : State) : exec (.refReturn) s = execRefReturn s := rfl
@[simp] theorem exec_resetPin (level : Bool) (ns : Nat) (s : State) : exec (.resetPin level ns) s = execResetPin level ns s := rfl
@[simp] theorem exec_softwareReset (v : Nat) (s : State) : exec (.softwareReset v) s = execSoftwareReset v s := rfl
@[simp] theorem exec_resetRelease (sideB solo : Bool) (s : State) : exec (.resetRelease sideB solo) s = execResetRelease sideB solo s := rfl
@[simp] theorem exec_powerOnReset (low : Bool) (s : State) : exec (.powerOnReset low) s = execPowerOnReset low s := rfl
@[simp] theorem exec_vbatLoss (s : State) : exec (.vbatLoss) s = execVbatLoss s := rfl
@[simp] theorem exec_testReset (s : State) : exec (.testReset) s = execTestReset s := rfl
@[simp] theorem exec_bootInitDone (dens : Option Nat) (ranksA : List Nat) (trainedA : Bool) (ranksB : List Nat) (trainedB : Bool) (s : State) :
    exec (.bootInitDone dens ranksA trainedA ranksB trainedB) s = execBootInitDone dens ranksA trainedA ranksB trainedB s := rfl
@[simp] theorem exec_bootSlotLoaded (readErr : Bool) (s : State) : exec (.bootSlotLoaded readErr) s = execBootSlotLoaded readErr s := rfl
@[simp] theorem exec_bootApplyDone (s : State) : exec (.bootApplyDone) s = execBootApplyDone s := rfl
@[simp] theorem exec_flashRead (s : State) : exec (.flashRead) s = execFlashRead s := rfl
@[simp] theorem exec_flashErase (s : State) : exec (.flashErase) s = execFlashErase s := rfl
@[simp] theorem exec_flashProg (s : State) : exec (.flashProg) s = execFlashProg s := rfl
@[simp] theorem exec_bootConfirm (s : State) : exec (.bootConfirm) s = execBootConfirm s := rfl
@[simp] theorem exec_setTrial (s : State) : exec (.setTrial) s = execSetTrial s := rfl
@[simp] theorem exec_forceRecovery (s : State) : exec (.forceRecovery) s = execForceRecovery s := rfl
@[simp] theorem exec_flashOpTimeout (s : State) : exec (.flashOpTimeout) s = execFlashOpTimeout s := rfl
@[simp] theorem exec_info (f : Frame) (fcsOk : Bool) (s : State) : exec (.info f fcsOk) s = execInfo f fcsOk s := rfl
@[simp] theorem exec_stage (f : Frame) (fcsOk : Bool) (s : State) : exec (.stage f fcsOk) s = execStage f fcsOk s := rfl
@[simp] theorem exec_keymsg (f : Frame) (fcsOk : Bool) (s : State) : exec (.keymsg f fcsOk) s = execKeymsg f fcsOk s := rfl
@[simp] theorem exec_recoveryApprove (f : Frame) (fcsOk : Bool) (s : State) : exec (.recoveryApprove f fcsOk) s = execRecoveryApprove f fcsOk s := rfl
@[simp] theorem exec_root (f : Frame) (fcsOk : Bool) (s : State) : exec (.root f fcsOk) s = execRoot f fcsOk s := rfl
@[simp] theorem exec_saveStore (f : Frame) (fcsOk : Bool) (s : State) : exec (.saveStore f fcsOk) s = execSaveStore f fcsOk s := rfl
@[simp] theorem exec_program (f : Frame) (fcsOk : Bool) (s : State) : exec (.program f fcsOk) s = execProgram f fcsOk s := rfl
@[simp] theorem exec_reboot (f : Frame) (fcsOk : Bool) (s : State) : exec (.reboot f fcsOk) s = execReboot f fcsOk s := rfl
@[simp] theorem exec_lowPowerEnter (s : State) : exec (.lowPowerEnter) s = execLowPowerEnter s := rfl
@[simp] theorem exec_lowPowerWake (s : State) : exec (.lowPowerWake) s = execLowPowerWake s := rfl
@[simp] theorem exec_readSec (s : State) : exec (.readSec) s = execReadSec s := rfl
@[simp] theorem exec_secIncrement (s : State) : exec (.secIncrement) s = execSecIncrement s := rfl
@[simp] theorem exec_jtagInstruction (op : JtagOp) (s : State) : exec (.jtagInstruction op) s = execJtagInstruction op s := rfl
@[simp] theorem exec_rallyCopyDiscard (lane : Nat) (ownSide : Bool) (s : State) : exec (.rallyCopyDiscard lane ownSide) s = execRallyCopyDiscard lane ownSide s := rfl
@[simp] theorem exec_safeNRelease (k : Nat) (s : State) : exec (.safeNRelease k) s = execSafeNRelease k s := rfl

end Sys2Proof.Machine
end

