-- ==== Sys2Proof/Laws/Sparse.lean ====
section
/-! SUPPORT. Laws of sparse tables: reading after writing, and the canonical form kept by every write. -/

set_option Elab.async false

namespace Sys2Proof.Machine

theorem sparseFind_put_self {α : Type} (k : Nat) (v : α) (m : Sparse α) : sparseFind k (sparsePut k v m) = some v := by
  induction m with
  | nil => simp [sparsePut, sparseFind]
  | cons x t ih =>
    obtain ⟨k', v'⟩ := x
    simp only [sparsePut]
    split
    · simp [sparseFind]
    · split
      · simp [sparseFind]
      · simp_all [sparseFind]

theorem sparseFind_put_other {α : Type} {k j : Nat} (h : j ≠ k) (v : α) (m : Sparse α) :
    sparseFind j (sparsePut k v m) = sparseFind j m := by
  induction m with
  | nil => simp [sparsePut, sparseFind, h]
  | cons x t ih =>
    obtain ⟨k', v'⟩ := x
    simp only [sparsePut]
    split
    · subst k'; simp [sparseFind, h]
    · split
      · simp [sparseFind, h]
      · simp only [sparseFind, ih]

theorem sparseFind_del_self {α : Type} (k : Nat) (m : Sparse α) : sparseFind k (sparseDel k m) = none := by
  induction m with
  | nil => rfl
  | cons x t ih =>
    obtain ⟨k', v'⟩ := x
    simp only [sparseDel]
    split
    · exact ih
    · simp_all [sparseFind]

theorem sparseFind_del_other {α : Type} {k j : Nat} (h : j ≠ k) (m : Sparse α) : sparseFind j (sparseDel k m) = sparseFind j m := by
  induction m with
  | nil => rfl
  | cons x t ih =>
    obtain ⟨k', v'⟩ := x
    simp only [sparseDel]
    split
    · subst k'; simp [sparseFind, h, ih]
    · simp [sparseFind, ih]

/-- A key reads as the value last written there. -/
@[simp] theorem sparseGet_set_self {α : Type} [DecidableEq α] (d : α) (m : Sparse α) (k : Nat) (v : α) :
    sparseGet d (sparseSet d m k v) k = v := by
  by_cases hv : v = d
  · simp [sparseSet, hv, sparseGet, sparseFind_del_self]
  · simp [sparseSet, hv, sparseGet, sparseFind_put_self]

/-- A write leaves every other key as it was. -/
theorem sparseGet_set_other {α : Type} [DecidableEq α] (e d : α) (m : Sparse α) {k j : Nat} (h : j ≠ k) (v : α) :
    sparseGet e (sparseSet d m k v) j = sparseGet e m j := by
  by_cases hv : v = d
  · simp [sparseSet, hv, sparseGet, sparseFind_del_other h]
  · simp [sparseSet, hv, sparseGet, sparseFind_put_other h]

@[simp] theorem sparseGet_put_self {α : Type} (d : α) (m : Sparse α) (k : Nat) (v : α) : sparseGet d (sparsePut k v m) k = v := by
  unfold sparseGet; rw [sparseFind_put_self]

theorem sparseGet_put_other {α : Type} (d : α) (m : Sparse α) {k j : Nat} (h : j ≠ k) (v : α) :
    sparseGet d (sparsePut k v m) j = sparseGet d m j := by
  unfold sparseGet; rw [sparseFind_put_other h]

/-! ## The canonical form -/

theorem sparseWfFrom_mono {α : Type} [DecidableEq α] {d : α} {b c : Nat} (h : c ≤ b) {m : Sparse α} (w : sparseWfFrom d b m = true) :
    sparseWfFrom d c m = true := by
  cases m with
  | nil => rfl
  | cons x t => simp only [sparseWfFrom, Bool.and_eq_true, decide_eq_true_eq] at w ⊢; exact ⟨⟨by omega, w.1.2⟩, w.2⟩

theorem sparseWfFrom_del {α : Type} [DecidableEq α] {d : α} (k : Nat) {b : Nat} {m : Sparse α} (w : sparseWfFrom d b m = true) :
    sparseWfFrom d b (sparseDel k m) = true := by
  induction m generalizing b with
  | nil => rfl
  | cons x t ih =>
    simp only [sparseWfFrom, Bool.and_eq_true, decide_eq_true_eq] at w
    simp only [sparseDel]
    split
    · exact sparseWfFrom_mono (by omega) (ih w.2)
    · simp only [sparseWfFrom, Bool.and_eq_true, decide_eq_true_eq]; exact ⟨w.1, ih w.2⟩

theorem sparseWfFrom_put {α : Type} [DecidableEq α] {d v : α} {k b : Nat} {m : Sparse α} (hv : v ≠ d) (hk : b ≤ k)
    (w : sparseWfFrom d b m = true) : sparseWfFrom d b (sparsePut k v m) = true := by
  induction m generalizing b with
  | nil => simp [sparsePut, sparseWfFrom, hv, hk]
  | cons x t ih =>
    simp only [sparseWfFrom, Bool.and_eq_true, decide_eq_true_eq] at w
    simp only [sparsePut]
    split
    · simp only [sparseWfFrom, Bool.and_eq_true, decide_eq_true_eq]; subst k; exact ⟨⟨hk, hv⟩, w.2⟩
    · split
      · simp only [sparseWfFrom, Bool.and_eq_true, decide_eq_true_eq]; exact ⟨⟨hk, hv⟩, ⟨⟨by omega, w.1.2⟩, w.2⟩⟩
      · simp only [sparseWfFrom, Bool.and_eq_true, decide_eq_true_eq]; exact ⟨w.1, ih (by omega) w.2⟩

/-- A write keeps the canonical form. -/
theorem sparseWf_set {α : Type} [DecidableEq α] {d : α} {m : Sparse α} (k : Nat) (v : α) (w : sparseWf d m = true) :
    sparseWf d (sparseSet d m k v) = true := by
  unfold sparseSet
  split
  · exact sparseWfFrom_del k w
  · exact sparseWfFrom_put ‹_› (Nat.zero_le k) w

/-! ## Rising keys -/

theorem risingFrom_mono {α : Type} {b c : Nat} (h : c ≤ b) {m : Sparse α} (w : risingFrom b m = true) : risingFrom c m = true := by
  cases m with
  | nil => rfl
  | cons x t => simp only [risingFrom, Bool.and_eq_true, decide_eq_true_eq] at w ⊢; exact ⟨by omega, w.2⟩

theorem risingFrom_del {α : Type} (k : Nat) {b : Nat} {m : Sparse α} (w : risingFrom b m = true) : risingFrom b (sparseDel k m) = true := by
  induction m generalizing b with
  | nil => rfl
  | cons x t ih =>
    simp only [risingFrom, Bool.and_eq_true, decide_eq_true_eq] at w
    simp only [sparseDel]
    split
    · exact risingFrom_mono (by omega) (ih w.2)
    · simp only [risingFrom, Bool.and_eq_true, decide_eq_true_eq]; exact ⟨w.1, ih w.2⟩

theorem risingFrom_put {α : Type} (v : α) {k b : Nat} {m : Sparse α} (hk : b ≤ k) (w : risingFrom b m = true) :
    risingFrom b (sparsePut k v m) = true := by
  induction m generalizing b with
  | nil => simp [sparsePut, risingFrom, hk]
  | cons x t ih =>
    simp only [risingFrom, Bool.and_eq_true, decide_eq_true_eq] at w
    simp only [sparsePut]
    split
    · simp only [risingFrom, Bool.and_eq_true, decide_eq_true_eq]; subst k; exact ⟨hk, w.2⟩
    · split
      · simp only [risingFrom, Bool.and_eq_true, decide_eq_true_eq]; exact ⟨hk, by omega, w.2⟩
      · simp only [risingFrom, Bool.and_eq_true, decide_eq_true_eq]; exact ⟨w.1, ih (by omega) w.2⟩

/-- A write keeps the keys rising. -/
theorem risingFrom_set {α : Type} [DecidableEq α] {d : α} {m : Sparse α} (k : Nat) (v : α) (w : risingFrom 0 m = true) :
    risingFrom 0 (sparseSet d m k v) = true := by
  unfold sparseSet
  split
  · exact risingFrom_del k w
  · exact risingFrom_put v (Nat.zero_le k) w

/-! ## Bounded counters -/

theorem countersBounded_del (k : Nat) {m : Sparse Nat} (w : countersBounded m = true) : countersBounded (sparseDel k m) = true := by
  induction m with
  | nil => rfl
  | cons x t ih =>
    simp only [countersBounded, List.all_cons, Bool.and_eq_true] at w ih ⊢
    simp only [sparseDel]
    split
    · exact ih w.2
    · simp only [List.all_cons, Bool.and_eq_true]; exact ⟨w.1, ih w.2⟩

theorem countersBounded_put {v : Nat} (hv : v ≤ ctrMax) (k : Nat) {m : Sparse Nat} (w : countersBounded m = true) :
    countersBounded (sparsePut k v m) = true := by
  induction m with
  | nil => simp [countersBounded, sparsePut, hv]
  | cons x t ih =>
    simp only [countersBounded, List.all_cons, Bool.and_eq_true] at w ih ⊢
    simp only [sparsePut]
    split
    · simp only [List.all_cons, Bool.and_eq_true, decide_eq_true_eq]; exact ⟨hv, w.2⟩
    · split
      · simp only [List.all_cons, Bool.and_eq_true, decide_eq_true_eq] at w ⊢; exact ⟨hv, w⟩
      · simp only [List.all_cons, Bool.and_eq_true]; exact ⟨w.1, ih w.2⟩

/-- Writing a value that is no greater than 2^48 − 1 keeps the counters bounded. -/
theorem countersBounded_set {v : Nat} (hv : v ≤ ctrMax) (k : Nat) {m : Sparse Nat} (w : countersBounded m = true) :
    countersBounded (sparseSet 0 m k v) = true := by
  unfold sparseSet
  split
  · exact countersBounded_del k w
  · exact countersBounded_put hv k w

/-- A field's key lies in its block. -/
theorem keyBlk_key (f : Fld) (i : Nat) : keyBlk (f.key i) = f.blk % 32 := by
  unfold keyBlk Fld.key blkKey; omega

/-- A counter's key lies in its block. -/
theorem ctrBlk_key (c : Ctr) (i : Nat) : keyBlk (c.key i) = c.blk % 32 := by
  unfold keyBlk Ctr.key blkKey; omega

end Sys2Proof.Machine
end

