-- ==== Sys2Proof/Laws/State.lean ====
section
/-! SUPPORT. What an update of the state leaves as it was: one lemma for each part of the state and each update that does not touch it. -/

set_option Elab.async false

namespace Sys2Proof.Machine

/-! State.setFld -/

@[simp] theorem State.setFld_aonRegs (s : State) (f : Fld) (v : Nat) (i : Nat) : (State.setFld s f v i).aonRegs = s.aonRegs := rfl
@[simp] theorem State.setFld_cnts (s : State) (f : Fld) (v : Nat) (i : Nat) : (State.setFld s f v i).cnts = s.cnts := rfl
@[simp] theorem State.setFld_bank (s : State) (f : Fld) (v : Nat) (i : Nat) : (State.setFld s f v i).bank = s.bank := rfl
@[simp] theorem State.setFld_mbx (s : State) (f : Fld) (v : Nat) (i : Nat) : (State.setFld s f v i).mbx = s.mbx := rfl
@[simp] theorem State.setFld_mem (s : State) (f : Fld) (v : Nat) (i : Nat) : (State.setFld s f v i).mem = s.mem := rfl
@[simp] theorem State.setFld_time (s : State) (f : Fld) (v : Nat) (i : Nat) : (State.setFld s f v i).time = s.time := rfl
@[simp] theorem State.setFld_elog (s : State) (f : Fld) (v : Nat) (i : Nat) : (State.setFld s f v i).elog = s.elog := rfl
@[simp] theorem State.setFld_part (s : State) (f : Fld) (v : Nat) (i : Nat) : (State.setFld s f v i).part = s.part := rfl
@[simp] theorem State.setFld_tide (s : State) (f : Fld) (v : Nat) (i : Nat) : (State.setFld s f v i).tide = s.tide := rfl
@[simp] theorem State.setFld_lane (s : State) (f : Fld) (v : Nat) (i : Nat) : (State.setFld s f v i).lane = s.lane := rfl
@[simp] theorem State.setFld_gate (s : State) (f : Fld) (v : Nat) (i : Nat) : (State.setFld s f v i).gate = s.gate := rfl
@[simp] theorem State.setFld_fab (s : State) (f : Fld) (v : Nat) (i : Nat) : (State.setFld s f v i).fab = s.fab := rfl
@[simp] theorem State.setFld_svi (s : State) (f : Fld) (v : Nat) (i : Nat) : (State.setFld s f v i).svi = s.svi := rfl
@[simp] theorem State.setFld_fdc (s : State) (f : Fld) (v : Nat) (i : Nat) : (State.setFld s f v i).fdc = s.fdc := rfl
@[simp] theorem State.setFld_goose (s : State) (f : Fld) (v : Nat) (i : Nat) : (State.setFld s f v i).goose = s.goose := rfl
@[simp] theorem State.setFld_twin (s : State) (f : Fld) (v : Nat) (i : Nat) : (State.setFld s f v i).twin = s.twin := rfl
@[simp] theorem State.setFld_swc (s : State) (f : Fld) (v : Nat) (i : Nat) : (State.setFld s f v i).swc = s.swc := rfl
@[simp] theorem State.setFld_port (s : State) (f : Fld) (v : Nat) (i : Nat) : (State.setFld s f v i).port = s.port := rfl
@[simp] theorem State.setFld_drec (s : State) (f : Fld) (v : Nat) (i : Nat) : (State.setFld s f v i).drec = s.drec := rfl
@[simp] theorem State.setFld_keys (s : State) (f : Fld) (v : Nat) (i : Nat) : (State.setFld s f v i).keys = s.keys := rfl
@[simp] theorem State.setFld_clk (s : State) (f : Fld) (v : Nat) (i : Nat) : (State.setFld s f v i).clk = s.clk := rfl
@[simp] theorem State.setFld_aon (s : State) (f : Fld) (v : Nat) (i : Nat) : (State.setFld s f v i).aon = s.aon := rfl
@[simp] theorem State.setFld_boot (s : State) (f : Fld) (v : Nat) (i : Nat) : (State.setFld s f v i).boot = s.boot := rfl
@[simp] theorem State.setFld_core (s : State) (f : Fld) (v : Nat) (i : Nat) : (State.setFld s f v i).core = s.core := rfl
@[simp] theorem State.setFld_snap (s : State) (f : Fld) (v : Nat) (i : Nat) : (State.setFld s f v i).snap = s.snap := rfl
@[simp] theorem State.setFld_freeCtr (s : State) (f : Fld) (v : Nat) (i : Nat) : (State.setFld s f v i).freeCtr = s.freeCtr := rfl
@[simp] theorem State.setFld_pending (s : State) (f : Fld) (v : Nat) (i : Nat) : (State.setFld s f v i).pending = s.pending := rfl

/-! State.setFlag -/

@[simp] theorem State.setFlag_aonRegs (s : State) (f : Fld) (b : Bool) (i : Nat) : (State.setFlag s f b i).aonRegs = s.aonRegs := rfl
@[simp] theorem State.setFlag_cnts (s : State) (f : Fld) (b : Bool) (i : Nat) : (State.setFlag s f b i).cnts = s.cnts := rfl
@[simp] theorem State.setFlag_bank (s : State) (f : Fld) (b : Bool) (i : Nat) : (State.setFlag s f b i).bank = s.bank := rfl
@[simp] theorem State.setFlag_mbx (s : State) (f : Fld) (b : Bool) (i : Nat) : (State.setFlag s f b i).mbx = s.mbx := rfl
@[simp] theorem State.setFlag_mem (s : State) (f : Fld) (b : Bool) (i : Nat) : (State.setFlag s f b i).mem = s.mem := rfl
@[simp] theorem State.setFlag_time (s : State) (f : Fld) (b : Bool) (i : Nat) : (State.setFlag s f b i).time = s.time := rfl
@[simp] theorem State.setFlag_elog (s : State) (f : Fld) (b : Bool) (i : Nat) : (State.setFlag s f b i).elog = s.elog := rfl
@[simp] theorem State.setFlag_part (s : State) (f : Fld) (b : Bool) (i : Nat) : (State.setFlag s f b i).part = s.part := rfl
@[simp] theorem State.setFlag_tide (s : State) (f : Fld) (b : Bool) (i : Nat) : (State.setFlag s f b i).tide = s.tide := rfl
@[simp] theorem State.setFlag_lane (s : State) (f : Fld) (b : Bool) (i : Nat) : (State.setFlag s f b i).lane = s.lane := rfl
@[simp] theorem State.setFlag_gate (s : State) (f : Fld) (b : Bool) (i : Nat) : (State.setFlag s f b i).gate = s.gate := rfl
@[simp] theorem State.setFlag_fab (s : State) (f : Fld) (b : Bool) (i : Nat) : (State.setFlag s f b i).fab = s.fab := rfl
@[simp] theorem State.setFlag_svi (s : State) (f : Fld) (b : Bool) (i : Nat) : (State.setFlag s f b i).svi = s.svi := rfl
@[simp] theorem State.setFlag_fdc (s : State) (f : Fld) (b : Bool) (i : Nat) : (State.setFlag s f b i).fdc = s.fdc := rfl
@[simp] theorem State.setFlag_goose (s : State) (f : Fld) (b : Bool) (i : Nat) : (State.setFlag s f b i).goose = s.goose := rfl
@[simp] theorem State.setFlag_twin (s : State) (f : Fld) (b : Bool) (i : Nat) : (State.setFlag s f b i).twin = s.twin := rfl
@[simp] theorem State.setFlag_swc (s : State) (f : Fld) (b : Bool) (i : Nat) : (State.setFlag s f b i).swc = s.swc := rfl
@[simp] theorem State.setFlag_port (s : State) (f : Fld) (b : Bool) (i : Nat) : (State.setFlag s f b i).port = s.port := rfl
@[simp] theorem State.setFlag_drec (s : State) (f : Fld) (b : Bool) (i : Nat) : (State.setFlag s f b i).drec = s.drec := rfl
@[simp] theorem State.setFlag_keys (s : State) (f : Fld) (b : Bool) (i : Nat) : (State.setFlag s f b i).keys = s.keys := rfl
@[simp] theorem State.setFlag_clk (s : State) (f : Fld) (b : Bool) (i : Nat) : (State.setFlag s f b i).clk = s.clk := rfl
@[simp] theorem State.setFlag_aon (s : State) (f : Fld) (b : Bool) (i : Nat) : (State.setFlag s f b i).aon = s.aon := rfl
@[simp] theorem State.setFlag_boot (s : State) (f : Fld) (b : Bool) (i : Nat) : (State.setFlag s f b i).boot = s.boot := rfl
@[simp] theorem State.setFlag_core (s : State) (f : Fld) (b : Bool) (i : Nat) : (State.setFlag s f b i).core = s.core := rfl
@[simp] theorem State.setFlag_snap (s : State) (f : Fld) (b : Bool) (i : Nat) : (State.setFlag s f b i).snap = s.snap := rfl
@[simp] theorem State.setFlag_freeCtr (s : State) (f : Fld) (b : Bool) (i : Nat) : (State.setFlag s f b i).freeCtr = s.freeCtr := rfl
@[simp] theorem State.setFlag_pending (s : State) (f : Fld) (b : Bool) (i : Nat) : (State.setFlag s f b i).pending = s.pending := rfl

/-! State.setSfld -/

@[simp] theorem State.setSfld_aonRegs (s : State) (f : Fld) (v : Int) (i : Nat) : (State.setSfld s f v i).aonRegs = s.aonRegs := rfl
@[simp] theorem State.setSfld_cnts (s : State) (f : Fld) (v : Int) (i : Nat) : (State.setSfld s f v i).cnts = s.cnts := rfl
@[simp] theorem State.setSfld_bank (s : State) (f : Fld) (v : Int) (i : Nat) : (State.setSfld s f v i).bank = s.bank := rfl
@[simp] theorem State.setSfld_mbx (s : State) (f : Fld) (v : Int) (i : Nat) : (State.setSfld s f v i).mbx = s.mbx := rfl
@[simp] theorem State.setSfld_mem (s : State) (f : Fld) (v : Int) (i : Nat) : (State.setSfld s f v i).mem = s.mem := rfl
@[simp] theorem State.setSfld_time (s : State) (f : Fld) (v : Int) (i : Nat) : (State.setSfld s f v i).time = s.time := rfl
@[simp] theorem State.setSfld_elog (s : State) (f : Fld) (v : Int) (i : Nat) : (State.setSfld s f v i).elog = s.elog := rfl
@[simp] theorem State.setSfld_part (s : State) (f : Fld) (v : Int) (i : Nat) : (State.setSfld s f v i).part = s.part := rfl
@[simp] theorem State.setSfld_tide (s : State) (f : Fld) (v : Int) (i : Nat) : (State.setSfld s f v i).tide = s.tide := rfl
@[simp] theorem State.setSfld_lane (s : State) (f : Fld) (v : Int) (i : Nat) : (State.setSfld s f v i).lane = s.lane := rfl
@[simp] theorem State.setSfld_gate (s : State) (f : Fld) (v : Int) (i : Nat) : (State.setSfld s f v i).gate = s.gate := rfl
@[simp] theorem State.setSfld_fab (s : State) (f : Fld) (v : Int) (i : Nat) : (State.setSfld s f v i).fab = s.fab := rfl
@[simp] theorem State.setSfld_svi (s : State) (f : Fld) (v : Int) (i : Nat) : (State.setSfld s f v i).svi = s.svi := rfl
@[simp] theorem State.setSfld_fdc (s : State) (f : Fld) (v : Int) (i : Nat) : (State.setSfld s f v i).fdc = s.fdc := rfl
@[simp] theorem State.setSfld_goose (s : State) (f : Fld) (v : Int) (i : Nat) : (State.setSfld s f v i).goose = s.goose := rfl
@[simp] theorem State.setSfld_twin (s : State) (f : Fld) (v : Int) (i : Nat) : (State.setSfld s f v i).twin = s.twin := rfl
@[simp] theorem State.setSfld_swc (s : State) (f : Fld) (v : Int) (i : Nat) : (State.setSfld s f v i).swc = s.swc := rfl
@[simp] theorem State.setSfld_port (s : State) (f : Fld) (v : Int) (i : Nat) : (State.setSfld s f v i).port = s.port := rfl
@[simp] theorem State.setSfld_drec (s : State) (f : Fld) (v : Int) (i : Nat) : (State.setSfld s f v i).drec = s.drec := rfl
@[simp] theorem State.setSfld_keys (s : State) (f : Fld) (v : Int) (i : Nat) : (State.setSfld s f v i).keys = s.keys := rfl
@[simp] theorem State.setSfld_clk (s : State) (f : Fld) (v : Int) (i : Nat) : (State.setSfld s f v i).clk = s.clk := rfl
@[simp] theorem State.setSfld_aon (s : State) (f : Fld) (v : Int) (i : Nat) : (State.setSfld s f v i).aon = s.aon := rfl
@[simp] theorem State.setSfld_boot (s : State) (f : Fld) (v : Int) (i : Nat) : (State.setSfld s f v i).boot = s.boot := rfl
@[simp] theorem State.setSfld_core (s : State) (f : Fld) (v : Int) (i : Nat) : (State.setSfld s f v i).core = s.core := rfl
@[simp] theorem State.setSfld_snap (s : State) (f : Fld) (v : Int) (i : Nat) : (State.setSfld s f v i).snap = s.snap := rfl
@[simp] theorem State.setSfld_freeCtr (s : State) (f : Fld) (v : Int) (i : Nat) : (State.setSfld s f v i).freeCtr = s.freeCtr := rfl
@[simp] theorem State.setSfld_pending (s : State) (f : Fld) (v : Int) (i : Nat) : (State.setSfld s f v i).pending = s.pending := rfl

/-! State.setFbit -/

@[simp] theorem State.setFbit_aonRegs (s : State) (f : Fld) (k : Nat) (b : Bool) (i : Nat) : (State.setFbit s f k b i).aonRegs = s.aonRegs := rfl
@[simp] theorem State.setFbit_cnts (s : State) (f : Fld) (k : Nat) (b : Bool) (i : Nat) : (State.setFbit s f k b i).cnts = s.cnts := rfl
@[simp] theorem State.setFbit_bank (s : State) (f : Fld) (k : Nat) (b : Bool) (i : Nat) : (State.setFbit s f k b i).bank = s.bank := rfl
@[simp] theorem State.setFbit_mbx (s : State) (f : Fld) (k : Nat) (b : Bool) (i : Nat) : (State.setFbit s f k b i).mbx = s.mbx := rfl
@[simp] theorem State.setFbit_mem (s : State) (f : Fld) (k : Nat) (b : Bool) (i : Nat) : (State.setFbit s f k b i).mem = s.mem := rfl
@[simp] theorem State.setFbit_time (s : State) (f : Fld) (k : Nat) (b : Bool) (i : Nat) : (State.setFbit s f k b i).time = s.time := rfl
@[simp] theorem State.setFbit_elog (s : State) (f : Fld) (k : Nat) (b : Bool) (i : Nat) : (State.setFbit s f k b i).elog = s.elog := rfl
@[simp] theorem State.setFbit_part (s : State) (f : Fld) (k : Nat) (b : Bool) (i : Nat) : (State.setFbit s f k b i).part = s.part := rfl
@[simp] theorem State.setFbit_tide (s : State) (f : Fld) (k : Nat) (b : Bool) (i : Nat) : (State.setFbit s f k b i).tide = s.tide := rfl
@[simp] theorem State.setFbit_lane (s : State) (f : Fld) (k : Nat) (b : Bool) (i : Nat) : (State.setFbit s f k b i).lane = s.lane := rfl
@[simp] theorem State.setFbit_gate (s : State) (f : Fld) (k : Nat) (b : Bool) (i : Nat) : (State.setFbit s f k b i).gate = s.gate := rfl
@[simp] theorem State.setFbit_fab (s : State) (f : Fld) (k : Nat) (b : Bool) (i : Nat) : (State.setFbit s f k b i).fab = s.fab := rfl
@[simp] theorem State.setFbit_svi (s : State) (f : Fld) (k : Nat) (b : Bool) (i : Nat) : (State.setFbit s f k b i).svi = s.svi := rfl
@[simp] theorem State.setFbit_fdc (s : State) (f : Fld) (k : Nat) (b : Bool) (i : Nat) : (State.setFbit s f k b i).fdc = s.fdc := rfl
@[simp] theorem State.setFbit_goose (s : State) (f : Fld) (k : Nat) (b : Bool) (i : Nat) : (State.setFbit s f k b i).goose = s.goose := rfl
@[simp] theorem State.setFbit_twin (s : State) (f : Fld) (k : Nat) (b : Bool) (i : Nat) : (State.setFbit s f k b i).twin = s.twin := rfl
@[simp] theorem State.setFbit_swc (s : State) (f : Fld) (k : Nat) (b : Bool) (i : Nat) : (State.setFbit s f k b i).swc = s.swc := rfl
@[simp] theorem State.setFbit_port (s : State) (f : Fld) (k : Nat) (b : Bool) (i : Nat) : (State.setFbit s f k b i).port = s.port := rfl
@[simp] theorem State.setFbit_drec (s : State) (f : Fld) (k : Nat) (b : Bool) (i : Nat) : (State.setFbit s f k b i).drec = s.drec := rfl
@[simp] theorem State.setFbit_keys (s : State) (f : Fld) (k : Nat) (b : Bool) (i : Nat) : (State.setFbit s f k b i).keys = s.keys := rfl
@[simp] theorem State.setFbit_clk (s : State) (f : Fld) (k : Nat) (b : Bool) (i : Nat) : (State.setFbit s f k b i).clk = s.clk := rfl
@[simp] theorem State.setFbit_aon (s : State) (f : Fld) (k : Nat) (b : Bool) (i : Nat) : (State.setFbit s f k b i).aon = s.aon := rfl
@[simp] theorem State.setFbit_boot (s : State) (f : Fld) (k : Nat) (b : Bool) (i : Nat) : (State.setFbit s f k b i).boot = s.boot := rfl
@[simp] theorem State.setFbit_core (s : State) (f : Fld) (k : Nat) (b : Bool) (i : Nat) : (State.setFbit s f k b i).core = s.core := rfl
@[simp] theorem State.setFbit_snap (s : State) (f : Fld) (k : Nat) (b : Bool) (i : Nat) : (State.setFbit s f k b i).snap = s.snap := rfl
@[simp] theorem State.setFbit_freeCtr (s : State) (f : Fld) (k : Nat) (b : Bool) (i : Nat) : (State.setFbit s f k b i).freeCtr = s.freeCtr := rfl
@[simp] theorem State.setFbit_pending (s : State) (f : Fld) (k : Nat) (b : Bool) (i : Nat) : (State.setFbit s f k b i).pending = s.pending := rfl

/-! State.setPartBit -/

@[simp] theorem State.setPartBit_aonRegs (s : State) (f : Fld) (p : Nat) (b : Bool) : (State.setPartBit s f p b).aonRegs = s.aonRegs := rfl
@[simp] theorem State.setPartBit_cnts (s : State) (f : Fld) (p : Nat) (b : Bool) : (State.setPartBit s f p b).cnts = s.cnts := rfl
@[simp] theorem State.setPartBit_bank (s : State) (f : Fld) (p : Nat) (b : Bool) : (State.setPartBit s f p b).bank = s.bank := rfl
@[simp] theorem State.setPartBit_mbx (s : State) (f : Fld) (p : Nat) (b : Bool) : (State.setPartBit s f p b).mbx = s.mbx := rfl
@[simp] theorem State.setPartBit_mem (s : State) (f : Fld) (p : Nat) (b : Bool) : (State.setPartBit s f p b).mem = s.mem := rfl
@[simp] theorem State.setPartBit_time (s : State) (f : Fld) (p : Nat) (b : Bool) : (State.setPartBit s f p b).time = s.time := rfl
@[simp] theorem State.setPartBit_elog (s : State) (f : Fld) (p : Nat) (b : Bool) : (State.setPartBit s f p b).elog = s.elog := rfl
@[simp] theorem State.setPartBit_part (s : State) (f : Fld) (p : Nat) (b : Bool) : (State.setPartBit s f p b).part = s.part := rfl
@[simp] theorem State.setPartBit_tide (s : State) (f : Fld) (p : Nat) (b : Bool) : (State.setPartBit s f p b).tide = s.tide := rfl
@[simp] theorem State.setPartBit_lane (s : State) (f : Fld) (p : Nat) (b : Bool) : (State.setPartBit s f p b).lane = s.lane := rfl
@[simp] theorem State.setPartBit_gate (s : State) (f : Fld) (p : Nat) (b : Bool) : (State.setPartBit s f p b).gate = s.gate := rfl
@[simp] theorem State.setPartBit_fab (s : State) (f : Fld) (p : Nat) (b : Bool) : (State.setPartBit s f p b).fab = s.fab := rfl
@[simp] theorem State.setPartBit_svi (s : State) (f : Fld) (p : Nat) (b : Bool) : (State.setPartBit s f p b).svi = s.svi := rfl
@[simp] theorem State.setPartBit_fdc (s : State) (f : Fld) (p : Nat) (b : Bool) : (State.setPartBit s f p b).fdc = s.fdc := rfl
@[simp] theorem State.setPartBit_goose (s : State) (f : Fld) (p : Nat) (b : Bool) : (State.setPartBit s f p b).goose = s.goose := rfl
@[simp] theorem State.setPartBit_twin (s : State) (f : Fld) (p : Nat) (b : Bool) : (State.setPartBit s f p b).twin = s.twin := rfl
@[simp] theorem State.setPartBit_swc (s : State) (f : Fld) (p : Nat) (b : Bool) : (State.setPartBit s f p b).swc = s.swc := rfl
@[simp] theorem State.setPartBit_port (s : State) (f : Fld) (p : Nat) (b : Bool) : (State.setPartBit s f p b).port = s.port := rfl
@[simp] theorem State.setPartBit_drec (s : State) (f : Fld) (p : Nat) (b : Bool) : (State.setPartBit s f p b).drec = s.drec := rfl
@[simp] theorem State.setPartBit_keys (s : State) (f : Fld) (p : Nat) (b : Bool) : (State.setPartBit s f p b).keys = s.keys := rfl
@[simp] theorem State.setPartBit_clk (s : State) (f : Fld) (p : Nat) (b : Bool) : (State.setPartBit s f p b).clk = s.clk := rfl
@[simp] theorem State.setPartBit_aon (s : State) (f : Fld) (p : Nat) (b : Bool) : (State.setPartBit s f p b).aon = s.aon := rfl
@[simp] theorem State.setPartBit_boot (s : State) (f : Fld) (p : Nat) (b : Bool) : (State.setPartBit s f p b).boot = s.boot := rfl
@[simp] theorem State.setPartBit_core (s : State) (f : Fld) (p : Nat) (b : Bool) : (State.setPartBit s f p b).core = s.core := rfl
@[simp] theorem State.setPartBit_snap (s : State) (f : Fld) (p : Nat) (b : Bool) : (State.setPartBit s f p b).snap = s.snap := rfl
@[simp] theorem State.setPartBit_freeCtr (s : State) (f : Fld) (p : Nat) (b : Bool) : (State.setPartBit s f p b).freeCtr = s.freeCtr := rfl
@[simp] theorem State.setPartBit_pending (s : State) (f : Fld) (p : Nat) (b : Bool) : (State.setPartBit s f p b).pending = s.pending := rfl

/-! State.imsicPend -/

@[simp] theorem State.imsicPend_regs (s : State) (core file ident : Nat) : (State.imsicPend s core file ident).regs = s.regs := rfl
@[simp] theorem State.imsicPend_aonRegs (s : State) (core file ident : Nat) : (State.imsicPend s core file ident).aonRegs = s.aonRegs := rfl
@[simp] theorem State.imsicPend_cnts (s : State) (core file ident : Nat) : (State.imsicPend s core file ident).cnts = s.cnts := rfl
@[simp] theorem State.imsicPend_bank (s : State) (core file ident : Nat) : (State.imsicPend s core file ident).bank = s.bank := rfl
@[simp] theorem State.imsicPend_mbx (s : State) (core file ident : Nat) : (State.imsicPend s core file ident).mbx = s.mbx := rfl
@[simp] theorem State.imsicPend_mem (s : State) (core file ident : Nat) : (State.imsicPend s core file ident).mem = s.mem := rfl
@[simp] theorem State.imsicPend_time (s : State) (core file ident : Nat) : (State.imsicPend s core file ident).time = s.time := rfl
@[simp] theorem State.imsicPend_elog (s : State) (core file ident : Nat) : (State.imsicPend s core file ident).elog = s.elog := rfl
@[simp] theorem State.imsicPend_tide (s : State) (core file ident : Nat) : (State.imsicPend s core file ident).tide = s.tide := rfl
@[simp] theorem State.imsicPend_lane (s : State) (core file ident : Nat) : (State.imsicPend s core file ident).lane = s.lane := rfl
@[simp] theorem State.imsicPend_gate (s : State) (core file ident : Nat) : (State.imsicPend s core file ident).gate = s.gate := rfl
@[simp] theorem State.imsicPend_fab (s : State) (core file ident : Nat) : (State.imsicPend s core file ident).fab = s.fab := rfl
@[simp] theorem State.imsicPend_svi (s : State) (core file ident : Nat) : (State.imsicPend s core file ident).svi = s.svi := rfl
@[simp] theorem State.imsicPend_fdc (s : State) (core file ident : Nat) : (State.imsicPend s core file ident).fdc = s.fdc := rfl
@[simp] theorem State.imsicPend_goose (s : State) (core file ident : Nat) : (State.imsicPend s core file ident).goose = s.goose := rfl
@[simp] theorem State.imsicPend_twin (s : State) (core file ident : Nat) : (State.imsicPend s core file ident).twin = s.twin := rfl
@[simp] theorem State.imsicPend_swc (s : State) (core file ident : Nat) : (State.imsicPend s core file ident).swc = s.swc := rfl
@[simp] theorem State.imsicPend_port (s : State) (core file ident : Nat) : (State.imsicPend s core file ident).port = s.port := rfl
@[simp] theorem State.imsicPend_drec (s : State) (core file ident : Nat) : (State.imsicPend s core file ident).drec = s.drec := rfl
@[simp] theorem State.imsicPend_keys (s : State) (core file ident : Nat) : (State.imsicPend s core file ident).keys = s.keys := rfl
@[simp] theorem State.imsicPend_clk (s : State) (core file ident : Nat) : (State.imsicPend s core file ident).clk = s.clk := rfl
@[simp] theorem State.imsicPend_aon (s : State) (core file ident : Nat) : (State.imsicPend s core file ident).aon = s.aon := rfl
@[simp] theorem State.imsicPend_boot (s : State) (core file ident : Nat) : (State.imsicPend s core file ident).boot = s.boot := rfl
@[simp] theorem State.imsicPend_core (s : State) (core file ident : Nat) : (State.imsicPend s core file ident).core = s.core := rfl
@[simp] theorem State.imsicPend_snap (s : State) (core file ident : Nat) : (State.imsicPend s core file ident).snap = s.snap := rfl
@[simp] theorem State.imsicPend_freeCtr (s : State) (core file ident : Nat) : (State.imsicPend s core file ident).freeCtr = s.freeCtr := rfl
@[simp] theorem State.imsicPend_pending (s : State) (core file ident : Nat) : (State.imsicPend s core file ident).pending = s.pending := rfl

/-! State.mbxRefuseBusy -/

@[simp] theorem State.mbxRefuseBusy_aonRegs (s : State) (blk : Nat) : (State.mbxRefuseBusy s blk).aonRegs = s.aonRegs := rfl
@[simp] theorem State.mbxRefuseBusy_cnts (s : State) (blk : Nat) : (State.mbxRefuseBusy s blk).cnts = s.cnts := rfl
@[simp] theorem State.mbxRefuseBusy_bank (s : State) (blk : Nat) : (State.mbxRefuseBusy s blk).bank = s.bank := rfl
@[simp] theorem State.mbxRefuseBusy_mbx (s : State) (blk : Nat) : (State.mbxRefuseBusy s blk).mbx = s.mbx := rfl
@[simp] theorem State.mbxRefuseBusy_mem (s : State) (blk : Nat) : (State.mbxRefuseBusy s blk).mem = s.mem := rfl
@[simp] theorem State.mbxRefuseBusy_time (s : State) (blk : Nat) : (State.mbxRefuseBusy s blk).time = s.time := rfl
@[simp] theorem State.mbxRefuseBusy_elog (s : State) (blk : Nat) : (State.mbxRefuseBusy s blk).elog = s.elog := rfl
@[simp] theorem State.mbxRefuseBusy_part (s : State) (blk : Nat) : (State.mbxRefuseBusy s blk).part = s.part := rfl
@[simp] theorem State.mbxRefuseBusy_tide (s : State) (blk : Nat) : (State.mbxRefuseBusy s blk).tide = s.tide := rfl
@[simp] theorem State.mbxRefuseBusy_lane (s : State) (blk : Nat) : (State.mbxRefuseBusy s blk).lane = s.lane := rfl
@[simp] theorem State.mbxRefuseBusy_gate (s : State) (blk : Nat) : (State.mbxRefuseBusy s blk).gate = s.gate := rfl
@[simp] theorem State.mbxRefuseBusy_fab (s : State) (blk : Nat) : (State.mbxRefuseBusy s blk).fab = s.fab := rfl
@[simp] theorem State.mbxRefuseBusy_svi (s : State) (blk : Nat) : (State.mbxRefuseBusy s blk).svi = s.svi := rfl
@[simp] theorem State.mbxRefuseBusy_fdc (s : State) (blk : Nat) : (State.mbxRefuseBusy s blk).fdc = s.fdc := rfl
@[simp] theorem State.mbxRefuseBusy_goose (s : State) (blk : Nat) : (State.mbxRefuseBusy s blk).goose = s.goose := rfl
@[simp] theorem State.mbxRefuseBusy_twin (s : State) (blk : Nat) : (State.mbxRefuseBusy s blk).twin = s.twin := rfl
@[simp] theorem State.mbxRefuseBusy_swc (s : State) (blk : Nat) : (State.mbxRefuseBusy s blk).swc = s.swc := rfl
@[simp] theorem State.mbxRefuseBusy_port (s : State) (blk : Nat) : (State.mbxRefuseBusy s blk).port = s.port := rfl
@[simp] theorem State.mbxRefuseBusy_drec (s : State) (blk : Nat) : (State.mbxRefuseBusy s blk).drec = s.drec := rfl
@[simp] theorem State.mbxRefuseBusy_keys (s : State) (blk : Nat) : (State.mbxRefuseBusy s blk).keys = s.keys := rfl
@[simp] theorem State.mbxRefuseBusy_clk (s : State) (blk : Nat) : (State.mbxRefuseBusy s blk).clk = s.clk := rfl
@[simp] theorem State.mbxRefuseBusy_aon (s : State) (blk : Nat) : (State.mbxRefuseBusy s blk).aon = s.aon := rfl
@[simp] theorem State.mbxRefuseBusy_boot (s : State) (blk : Nat) : (State.mbxRefuseBusy s blk).boot = s.boot := rfl
@[simp] theorem State.mbxRefuseBusy_core (s : State) (blk : Nat) : (State.mbxRefuseBusy s blk).core = s.core := rfl
@[simp] theorem State.mbxRefuseBusy_snap (s : State) (blk : Nat) : (State.mbxRefuseBusy s blk).snap = s.snap := rfl
@[simp] theorem State.mbxRefuseBusy_freeCtr (s : State) (blk : Nat) : (State.mbxRefuseBusy s blk).freeCtr = s.freeCtr := rfl
@[simp] theorem State.mbxRefuseBusy_pending (s : State) (blk : Nat) : (State.mbxRefuseBusy s blk).pending = s.pending := rfl

/-! State.mbxRefuse -/

@[simp] theorem State.mbxRefuse_aonRegs (s : State) (blk : Nat) : (State.mbxRefuse s blk).aonRegs = s.aonRegs := rfl
@[simp] theorem State.mbxRefuse_cnts (s : State) (blk : Nat) : (State.mbxRefuse s blk).cnts = s.cnts := rfl
@[simp] theorem State.mbxRefuse_bank (s : State) (blk : Nat) : (State.mbxRefuse s blk).bank = s.bank := rfl
@[simp] theorem State.mbxRefuse_mbx (s : State) (blk : Nat) : (State.mbxRefuse s blk).mbx = s.mbx := rfl
@[simp] theorem State.mbxRefuse_mem (s : State) (blk : Nat) : (State.mbxRefuse s blk).mem = s.mem := rfl
@[simp] theorem State.mbxRefuse_time (s : State) (blk : Nat) : (State.mbxRefuse s blk).time = s.time := rfl
@[simp] theorem State.mbxRefuse_elog (s : State) (blk : Nat) : (State.mbxRefuse s blk).elog = s.elog := rfl
@[simp] theorem State.mbxRefuse_part (s : State) (blk : Nat) : (State.mbxRefuse s blk).part = s.part := rfl
@[simp] theorem State.mbxRefuse_tide (s : State) (blk : Nat) : (State.mbxRefuse s blk).tide = s.tide := rfl
@[simp] theorem State.mbxRefuse_lane (s : State) (blk : Nat) : (State.mbxRefuse s blk).lane = s.lane := rfl
@[simp] theorem State.mbxRefuse_gate (s : State) (blk : Nat) : (State.mbxRefuse s blk).gate = s.gate := rfl
@[simp] theorem State.mbxRefuse_fab (s : State) (blk : Nat) : (State.mbxRefuse s blk).fab = s.fab := rfl
@[simp] theorem State.mbxRefuse_svi (s : State) (blk : Nat) : (State.mbxRefuse s blk).svi = s.svi := rfl
@[simp] theorem State.mbxRefuse_fdc (s : State) (blk : Nat) : (State.mbxRefuse s blk).fdc = s.fdc := rfl
@[simp] theorem State.mbxRefuse_goose (s : State) (blk : Nat) : (State.mbxRefuse s blk).goose = s.goose := rfl
@[simp] theorem State.mbxRefuse_twin (s : State) (blk : Nat) : (State.mbxRefuse s blk).twin = s.twin := rfl
@[simp] theorem State.mbxRefuse_swc (s : State) (blk : Nat) : (State.mbxRefuse s blk).swc = s.swc := rfl
@[simp] theorem State.mbxRefuse_port (s : State) (blk : Nat) : (State.mbxRefuse s blk).port = s.port := rfl
@[simp] theorem State.mbxRefuse_drec (s : State) (blk : Nat) : (State.mbxRefuse s blk).drec = s.drec := rfl
@[simp] theorem State.mbxRefuse_keys (s : State) (blk : Nat) : (State.mbxRefuse s blk).keys = s.keys := rfl
@[simp] theorem State.mbxRefuse_clk (s : State) (blk : Nat) : (State.mbxRefuse s blk).clk = s.clk := rfl
@[simp] theorem State.mbxRefuse_aon (s : State) (blk : Nat) : (State.mbxRefuse s blk).aon = s.aon := rfl
@[simp] theorem State.mbxRefuse_boot (s : State) (blk : Nat) : (State.mbxRefuse s blk).boot = s.boot := rfl
@[simp] theorem State.mbxRefuse_core (s : State) (blk : Nat) : (State.mbxRefuse s blk).core = s.core := rfl
@[simp] theorem State.mbxRefuse_snap (s : State) (blk : Nat) : (State.mbxRefuse s blk).snap = s.snap := rfl
@[simp] theorem State.mbxRefuse_freeCtr (s : State) (blk : Nat) : (State.mbxRefuse s blk).freeCtr = s.freeCtr := rfl
@[simp] theorem State.mbxRefuse_pending (s : State) (blk : Nat) : (State.mbxRefuse s blk).pending = s.pending := rfl

/-! State.mbxStart -/

@[simp] theorem State.mbxStart_aonRegs (s : State) (blk : Nat) (r : MbxRun) : (State.mbxStart s blk r).aonRegs = s.aonRegs := rfl
@[simp] theorem State.mbxStart_cnts (s : State) (blk : Nat) (r : MbxRun) : (State.mbxStart s blk r).cnts = s.cnts := rfl
@[simp] theorem State.mbxStart_bank (s : State) (blk : Nat) (r : MbxRun) : (State.mbxStart s blk r).bank = s.bank := rfl
@[simp] theorem State.mbxStart_mem (s : State) (blk : Nat) (r : MbxRun) : (State.mbxStart s blk r).mem = s.mem := rfl
@[simp] theorem State.mbxStart_time (s : State) (blk : Nat) (r : MbxRun) : (State.mbxStart s blk r).time = s.time := rfl
@[simp] theorem State.mbxStart_elog (s : State) (blk : Nat) (r : MbxRun) : (State.mbxStart s blk r).elog = s.elog := rfl
@[simp] theorem State.mbxStart_part (s : State) (blk : Nat) (r : MbxRun) : (State.mbxStart s blk r).part = s.part := rfl
@[simp] theorem State.mbxStart_tide (s : State) (blk : Nat) (r : MbxRun) : (State.mbxStart s blk r).tide = s.tide := rfl
@[simp] theorem State.mbxStart_lane (s : State) (blk : Nat) (r : MbxRun) : (State.mbxStart s blk r).lane = s.lane := rfl
@[simp] theorem State.mbxStart_gate (s : State) (blk : Nat) (r : MbxRun) : (State.mbxStart s blk r).gate = s.gate := rfl
@[simp] theorem State.mbxStart_fab (s : State) (blk : Nat) (r : MbxRun) : (State.mbxStart s blk r).fab = s.fab := rfl
@[simp] theorem State.mbxStart_svi (s : State) (blk : Nat) (r : MbxRun) : (State.mbxStart s blk r).svi = s.svi := rfl
@[simp] theorem State.mbxStart_fdc (s : State) (blk : Nat) (r : MbxRun) : (State.mbxStart s blk r).fdc = s.fdc := rfl
@[simp] theorem State.mbxStart_goose (s : State) (blk : Nat) (r : MbxRun) : (State.mbxStart s blk r).goose = s.goose := rfl
@[simp] theorem State.mbxStart_twin (s : State) (blk : Nat) (r : MbxRun) : (State.mbxStart s blk r).twin = s.twin := rfl
@[simp] theorem State.mbxStart_swc (s : State) (blk : Nat) (r : MbxRun) : (State.mbxStart s blk r).swc = s.swc := rfl
@[simp] theorem State.mbxStart_port (s : State) (blk : Nat) (r : MbxRun) : (State.mbxStart s blk r).port = s.port := rfl
@[simp] theorem State.mbxStart_drec (s : State) (blk : Nat) (r : MbxRun) : (State.mbxStart s blk r).drec = s.drec := rfl
@[simp] theorem State.mbxStart_keys (s : State) (blk : Nat) (r : MbxRun) : (State.mbxStart s blk r).keys = s.keys := rfl
@[simp] theorem State.mbxStart_clk (s : State) (blk : Nat) (r : MbxRun) : (State.mbxStart s blk r).clk = s.clk := rfl
@[simp] theorem State.mbxStart_aon (s : State) (blk : Nat) (r : MbxRun) : (State.mbxStart s blk r).aon = s.aon := rfl
@[simp] theorem State.mbxStart_boot (s : State) (blk : Nat) (r : MbxRun) : (State.mbxStart s blk r).boot = s.boot := rfl
@[simp] theorem State.mbxStart_core (s : State) (blk : Nat) (r : MbxRun) : (State.mbxStart s blk r).core = s.core := rfl
@[simp] theorem State.mbxStart_snap (s : State) (blk : Nat) (r : MbxRun) : (State.mbxStart s blk r).snap = s.snap := rfl
@[simp] theorem State.mbxStart_freeCtr (s : State) (blk : Nat) (r : MbxRun) : (State.mbxStart s blk r).freeCtr = s.freeCtr := rfl
@[simp] theorem State.mbxStart_pending (s : State) (blk : Nat) (r : MbxRun) : (State.mbxStart s blk r).pending = s.pending := rfl

/-! State.setMemByte -/

@[simp] theorem State.setMemByte_regs (s : State) (a v : Nat) : (State.setMemByte s a v).regs = s.regs := rfl
@[simp] theorem State.setMemByte_aonRegs (s : State) (a v : Nat) : (State.setMemByte s a v).aonRegs = s.aonRegs := rfl
@[simp] theorem State.setMemByte_cnts (s : State) (a v : Nat) : (State.setMemByte s a v).cnts = s.cnts := rfl
@[simp] theorem State.setMemByte_bank (s : State) (a v : Nat) : (State.setMemByte s a v).bank = s.bank := rfl
@[simp] theorem State.setMemByte_mbx (s : State) (a v : Nat) : (State.setMemByte s a v).mbx = s.mbx := rfl
@[simp] theorem State.setMemByte_time (s : State) (a v : Nat) : (State.setMemByte s a v).time = s.time := rfl
@[simp] theorem State.setMemByte_elog (s : State) (a v : Nat) : (State.setMemByte s a v).elog = s.elog := rfl
@[simp] theorem State.setMemByte_part (s : State) (a v : Nat) : (State.setMemByte s a v).part = s.part := rfl
@[simp] theorem State.setMemByte_tide (s : State) (a v : Nat) : (State.setMemByte s a v).tide = s.tide := rfl
@[simp] theorem State.setMemByte_lane (s : State) (a v : Nat) : (State.setMemByte s a v).lane = s.lane := rfl
@[simp] theorem State.setMemByte_gate (s : State) (a v : Nat) : (State.setMemByte s a v).gate = s.gate := rfl
@[simp] theorem State.setMemByte_fab (s : State) (a v : Nat) : (State.setMemByte s a v).fab = s.fab := rfl
@[simp] theorem State.setMemByte_svi (s : State) (a v : Nat) : (State.setMemByte s a v).svi = s.svi := rfl
@[simp] theorem State.setMemByte_fdc (s : State) (a v : Nat) : (State.setMemByte s a v).fdc = s.fdc := rfl
@[simp] theorem State.setMemByte_goose (s : State) (a v : Nat) : (State.setMemByte s a v).goose = s.goose := rfl
@[simp] theorem State.setMemByte_twin (s : State) (a v : Nat) : (State.setMemByte s a v).twin = s.twin := rfl
@[simp] theorem State.setMemByte_swc (s : State) (a v : Nat) : (State.setMemByte s a v).swc = s.swc := rfl
@[simp] theorem State.setMemByte_port (s : State) (a v : Nat) : (State.setMemByte s a v).port = s.port := rfl
@[simp] theorem State.setMemByte_drec (s : State) (a v : Nat) : (State.setMemByte s a v).drec = s.drec := rfl
@[simp] theorem State.setMemByte_keys (s : State) (a v : Nat) : (State.setMemByte s a v).keys = s.keys := rfl
@[simp] theorem State.setMemByte_clk (s : State) (a v : Nat) : (State.setMemByte s a v).clk = s.clk := rfl
@[simp] theorem State.setMemByte_aon (s : State) (a v : Nat) : (State.setMemByte s a v).aon = s.aon := rfl
@[simp] theorem State.setMemByte_boot (s : State) (a v : Nat) : (State.setMemByte s a v).boot = s.boot := rfl
@[simp] theorem State.setMemByte_core (s : State) (a v : Nat) : (State.setMemByte s a v).core = s.core := rfl
@[simp] theorem State.setMemByte_snap (s : State) (a v : Nat) : (State.setMemByte s a v).snap = s.snap := rfl
@[simp] theorem State.setMemByte_freeCtr (s : State) (a v : Nat) : (State.setMemByte s a v).freeCtr = s.freeCtr := rfl
@[simp] theorem State.setMemByte_pending (s : State) (a v : Nat) : (State.setMemByte s a v).pending = s.pending := rfl

/-! State.setPlane -/

@[simp] theorem State.setPlane_regs (s : State) (c slot : Nat) (e : Nat × Nat) : (State.setPlane s c slot e).regs = s.regs := rfl
@[simp] theorem State.setPlane_aonRegs (s : State) (c slot : Nat) (e : Nat × Nat) : (State.setPlane s c slot e).aonRegs = s.aonRegs := rfl
@[simp] theorem State.setPlane_cnts (s : State) (c slot : Nat) (e : Nat × Nat) : (State.setPlane s c slot e).cnts = s.cnts := rfl
@[simp] theorem State.setPlane_bank (s : State) (c slot : Nat) (e : Nat × Nat) : (State.setPlane s c slot e).bank = s.bank := rfl
@[simp] theorem State.setPlane_mbx (s : State) (c slot : Nat) (e : Nat × Nat) : (State.setPlane s c slot e).mbx = s.mbx := rfl
@[simp] theorem State.setPlane_mem (s : State) (c slot : Nat) (e : Nat × Nat) : (State.setPlane s c slot e).mem = s.mem := rfl
@[simp] theorem State.setPlane_time (s : State) (c slot : Nat) (e : Nat × Nat) : (State.setPlane s c slot e).time = s.time := rfl
@[simp] theorem State.setPlane_elog (s : State) (c slot : Nat) (e : Nat × Nat) : (State.setPlane s c slot e).elog = s.elog := rfl
@[simp] theorem State.setPlane_part (s : State) (c slot : Nat) (e : Nat × Nat) : (State.setPlane s c slot e).part = s.part := rfl
@[simp] theorem State.setPlane_tide (s : State) (c slot : Nat) (e : Nat × Nat) : (State.setPlane s c slot e).tide = s.tide := rfl
@[simp] theorem State.setPlane_lane (s : State) (c slot : Nat) (e : Nat × Nat) : (State.setPlane s c slot e).lane = s.lane := rfl
@[simp] theorem State.setPlane_gate (s : State) (c slot : Nat) (e : Nat × Nat) : (State.setPlane s c slot e).gate = s.gate := rfl
@[simp] theorem State.setPlane_svi (s : State) (c slot : Nat) (e : Nat × Nat) : (State.setPlane s c slot e).svi = s.svi := rfl
@[simp] theorem State.setPlane_fdc (s : State) (c slot : Nat) (e : Nat × Nat) : (State.setPlane s c slot e).fdc = s.fdc := rfl
@[simp] theorem State.setPlane_goose (s : State) (c slot : Nat) (e : Nat × Nat) : (State.setPlane s c slot e).goose = s.goose := rfl
@[simp] theorem State.setPlane_twin (s : State) (c slot : Nat) (e : Nat × Nat) : (State.setPlane s c slot e).twin = s.twin := rfl
@[simp] theorem State.setPlane_swc (s : State) (c slot : Nat) (e : Nat × Nat) : (State.setPlane s c slot e).swc = s.swc := rfl
@[simp] theorem State.setPlane_port (s : State) (c slot : Nat) (e : Nat × Nat) : (State.setPlane s c slot e).port = s.port := rfl
@[simp] theorem State.setPlane_drec (s : State) (c slot : Nat) (e : Nat × Nat) : (State.setPlane s c slot e).drec = s.drec := rfl
@[simp] theorem State.setPlane_keys (s : State) (c slot : Nat) (e : Nat × Nat) : (State.setPlane s c slot e).keys = s.keys := rfl
@[simp] theorem State.setPlane_clk (s : State) (c slot : Nat) (e : Nat × Nat) : (State.setPlane s c slot e).clk = s.clk := rfl
@[simp] theorem State.setPlane_aon (s : State) (c slot : Nat) (e : Nat × Nat) : (State.setPlane s c slot e).aon = s.aon := rfl
@[simp] theorem State.setPlane_boot (s : State) (c slot : Nat) (e : Nat × Nat) : (State.setPlane s c slot e).boot = s.boot := rfl
@[simp] theorem State.setPlane_core (s : State) (c slot : Nat) (e : Nat × Nat) : (State.setPlane s c slot e).core = s.core := rfl
@[simp] theorem State.setPlane_snap (s : State) (c slot : Nat) (e : Nat × Nat) : (State.setPlane s c slot e).snap = s.snap := rfl
@[simp] theorem State.setPlane_freeCtr (s : State) (c slot : Nat) (e : Nat × Nat) : (State.setPlane s c slot e).freeCtr = s.freeCtr := rfl
@[simp] theorem State.setPlane_pending (s : State) (c slot : Nat) (e : Nat × Nat) : (State.setPlane s c slot e).pending = s.pending := rfl

/-! State.setCpu -/

@[simp] theorem State.setCpu_regs (s : State) (k : Nat) (c : CoreSt) : (State.setCpu s k c).regs = s.regs := rfl
@[simp] theorem State.setCpu_aonRegs (s : State) (k : Nat) (c : CoreSt) : (State.setCpu s k c).aonRegs = s.aonRegs := rfl
@[simp] theorem State.setCpu_cnts (s : State) (k : Nat) (c : CoreSt) : (State.setCpu s k c).cnts = s.cnts := rfl
@[simp] theorem State.setCpu_bank (s : State) (k : Nat) (c : CoreSt) : (State.setCpu s k c).bank = s.bank := rfl
@[simp] theorem State.setCpu_mbx (s : State) (k : Nat) (c : CoreSt) : (State.setCpu s k c).mbx = s.mbx := rfl
@[simp] theorem State.setCpu_mem (s : State) (k : Nat) (c : CoreSt) : (State.setCpu s k c).mem = s.mem := rfl
@[simp] theorem State.setCpu_time (s : State) (k : Nat) (c : CoreSt) : (State.setCpu s k c).time = s.time := rfl
@[simp] theorem State.setCpu_elog (s : State) (k : Nat) (c : CoreSt) : (State.setCpu s k c).elog = s.elog := rfl
@[simp] theorem State.setCpu_part (s : State) (k : Nat) (c : CoreSt) : (State.setCpu s k c).part = s.part := rfl
@[simp] theorem State.setCpu_tide (s : State) (k : Nat) (c : CoreSt) : (State.setCpu s k c).tide = s.tide := rfl
@[simp] theorem State.setCpu_lane (s : State) (k : Nat) (c : CoreSt) : (State.setCpu s k c).lane = s.lane := rfl
@[simp] theorem State.setCpu_gate (s : State) (k : Nat) (c : CoreSt) : (State.setCpu s k c).gate = s.gate := rfl
@[simp] theorem State.setCpu_fab (s : State) (k : Nat) (c : CoreSt) : (State.setCpu s k c).fab = s.fab := rfl
@[simp] theorem State.setCpu_svi (s : State) (k : Nat) (c : CoreSt) : (State.setCpu s k c).svi = s.svi := rfl
@[simp] theorem State.setCpu_fdc (s : State) (k : Nat) (c : CoreSt) : (State.setCpu s k c).fdc = s.fdc := rfl
@[simp] theorem State.setCpu_goose (s : State) (k : Nat) (c : CoreSt) : (State.setCpu s k c).goose = s.goose := rfl
@[simp] theorem State.setCpu_twin (s : State) (k : Nat) (c : CoreSt) : (State.setCpu s k c).twin = s.twin := rfl
@[simp] theorem State.setCpu_swc (s : State) (k : Nat) (c : CoreSt) : (State.setCpu s k c).swc = s.swc := rfl
@[simp] theorem State.setCpu_port (s : State) (k : Nat) (c : CoreSt) : (State.setCpu s k c).port = s.port := rfl
@[simp] theorem State.setCpu_drec (s : State) (k : Nat) (c : CoreSt) : (State.setCpu s k c).drec = s.drec := rfl
@[simp] theorem State.setCpu_keys (s : State) (k : Nat) (c : CoreSt) : (State.setCpu s k c).keys = s.keys := rfl
@[simp] theorem State.setCpu_clk (s : State) (k : Nat) (c : CoreSt) : (State.setCpu s k c).clk = s.clk := rfl
@[simp] theorem State.setCpu_aon (s : State) (k : Nat) (c : CoreSt) : (State.setCpu s k c).aon = s.aon := rfl
@[simp] theorem State.setCpu_boot (s : State) (k : Nat) (c : CoreSt) : (State.setCpu s k c).boot = s.boot := rfl
@[simp] theorem State.setCpu_snap (s : State) (k : Nat) (c : CoreSt) : (State.setCpu s k c).snap = s.snap := rfl
@[simp] theorem State.setCpu_freeCtr (s : State) (k : Nat) (c : CoreSt) : (State.setCpu s k c).freeCtr = s.freeCtr := rfl
@[simp] theorem State.setCpu_pending (s : State) (k : Nat) (c : CoreSt) : (State.setCpu s k c).pending = s.pending := rfl

/-! State.setGch -/

@[simp] theorem State.setGch_regs (s : State) (n : Nat) (c : GateCh) : (State.setGch s n c).regs = s.regs := rfl
@[simp] theorem State.setGch_aonRegs (s : State) (n : Nat) (c : GateCh) : (State.setGch s n c).aonRegs = s.aonRegs := rfl
@[simp] theorem State.setGch_cnts (s : State) (n : Nat) (c : GateCh) : (State.setGch s n c).cnts = s.cnts := rfl
@[simp] theorem State.setGch_bank (s : State) (n : Nat) (c : GateCh) : (State.setGch s n c).bank = s.bank := rfl
@[simp] theorem State.setGch_mbx (s : State) (n : Nat) (c : GateCh) : (State.setGch s n c).mbx = s.mbx := rfl
@[simp] theorem State.setGch_mem (s : State) (n : Nat) (c : GateCh) : (State.setGch s n c).mem = s.mem := rfl
@[simp] theorem State.setGch_time (s : State) (n : Nat) (c : GateCh) : (State.setGch s n c).time = s.time := rfl
@[simp] theorem State.setGch_elog (s : State) (n : Nat) (c : GateCh) : (State.setGch s n c).elog = s.elog := rfl
@[simp] theorem State.setGch_part (s : State) (n : Nat) (c : GateCh) : (State.setGch s n c).part = s.part := rfl
@[simp] theorem State.setGch_tide (s : State) (n : Nat) (c : GateCh) : (State.setGch s n c).tide = s.tide := rfl
@[simp] theorem State.setGch_lane (s : State) (n : Nat) (c : GateCh) : (State.setGch s n c).lane = s.lane := rfl
@[simp] theorem State.setGch_fab (s : State) (n : Nat) (c : GateCh) : (State.setGch s n c).fab = s.fab := rfl
@[simp] theorem State.setGch_svi (s : State) (n : Nat) (c : GateCh) : (State.setGch s n c).svi = s.svi := rfl
@[simp] theorem State.setGch_fdc (s : State) (n : Nat) (c : GateCh) : (State.setGch s n c).fdc = s.fdc := rfl
@[simp] theorem State.setGch_goose (s : State) (n : Nat) (c : GateCh) : (State.setGch s n c).goose = s.goose := rfl
@[simp] theorem State.setGch_twin (s : State) (n : Nat) (c : GateCh) : (State.setGch s n c).twin = s.twin := rfl
@[simp] theorem State.setGch_swc (s : State) (n : Nat) (c : GateCh) : (State.setGch s n c).swc = s.swc := rfl
@[simp] theorem State.setGch_port (s : State) (n : Nat) (c : GateCh) : (State.setGch s n c).port = s.port := rfl
@[simp] theorem State.setGch_drec (s : State) (n : Nat) (c : GateCh) : (State.setGch s n c).drec = s.drec := rfl
@[simp] theorem State.setGch_keys (s : State) (n : Nat) (c : GateCh) : (State.setGch s n c).keys = s.keys := rfl
@[simp] theorem State.setGch_clk (s : State) (n : Nat) (c : GateCh) : (State.setGch s n c).clk = s.clk := rfl
@[simp] theorem State.setGch_aon (s : State) (n : Nat) (c : GateCh) : (State.setGch s n c).aon = s.aon := rfl
@[simp] theorem State.setGch_boot (s : State) (n : Nat) (c : GateCh) : (State.setGch s n c).boot = s.boot := rfl
@[simp] theorem State.setGch_core (s : State) (n : Nat) (c : GateCh) : (State.setGch s n c).core = s.core := rfl
@[simp] theorem State.setGch_snap (s : State) (n : Nat) (c : GateCh) : (State.setGch s n c).snap = s.snap := rfl
@[simp] theorem State.setGch_freeCtr (s : State) (n : Nat) (c : GateCh) : (State.setGch s n c).freeCtr = s.freeCtr := rfl
@[simp] theorem State.setGch_pending (s : State) (n : Nat) (c : GateCh) : (State.setGch s n c).pending = s.pending := rfl

/-! State.setGblk -/

@[simp] theorem State.setGblk_regs (s : State) (b : Nat) (v : GBlk) : (State.setGblk s b v).regs = s.regs := rfl
@[simp] theorem State.setGblk_aonRegs (s : State) (b : Nat) (v : GBlk) : (State.setGblk s b v).aonRegs = s.aonRegs := rfl
@[simp] theorem State.setGblk_cnts (s : State) (b : Nat) (v : GBlk) : (State.setGblk s b v).cnts = s.cnts := rfl
@[simp] theorem State.setGblk_bank (s : State) (b : Nat) (v : GBlk) : (State.setGblk s b v).bank = s.bank := rfl
@[simp] theorem State.setGblk_mbx (s : State) (b : Nat) (v : GBlk) : (State.setGblk s b v).mbx = s.mbx := rfl
@[simp] theorem State.setGblk_mem (s : State) (b : Nat) (v : GBlk) : (State.setGblk s b v).mem = s.mem := rfl
@[simp] theorem State.setGblk_time (s : State) (b : Nat) (v : GBlk) : (State.setGblk s b v).time = s.time := rfl
@[simp] theorem State.setGblk_elog (s : State) (b : Nat) (v : GBlk) : (State.setGblk s b v).elog = s.elog := rfl
@[simp] theorem State.setGblk_part (s : State) (b : Nat) (v : GBlk) : (State.setGblk s b v).part = s.part := rfl
@[simp] theorem State.setGblk_tide (s : State) (b : Nat) (v : GBlk) : (State.setGblk s b v).tide = s.tide := rfl
@[simp] theorem State.setGblk_lane (s : State) (b : Nat) (v : GBlk) : (State.setGblk s b v).lane = s.lane := rfl
@[simp] theorem State.setGblk_gate (s : State) (b : Nat) (v : GBlk) : (State.setGblk s b v).gate = s.gate := rfl
@[simp] theorem State.setGblk_fab (s : State) (b : Nat) (v : GBlk) : (State.setGblk s b v).fab = s.fab := rfl
@[simp] theorem State.setGblk_svi (s : State) (b : Nat) (v : GBlk) : (State.setGblk s b v).svi = s.svi := rfl
@[simp] theorem State.setGblk_fdc (s : State) (b : Nat) (v : GBlk) : (State.setGblk s b v).fdc = s.fdc := rfl
@[simp] theorem State.setGblk_twin (s : State) (b : Nat) (v : GBlk) : (State.setGblk s b v).twin = s.twin := rfl
@[simp] theorem State.setGblk_swc (s : State) (b : Nat) (v : GBlk) : (State.setGblk s b v).swc = s.swc := rfl
@[simp] theorem State.setGblk_port (s : State) (b : Nat) (v : GBlk) : (State.setGblk s b v).port = s.port := rfl
@[simp] theorem State.setGblk_drec (s : State) (b : Nat) (v : GBlk) : (State.setGblk s b v).drec = s.drec := rfl
@[simp] theorem State.setGblk_keys (s : State) (b : Nat) (v : GBlk) : (State.setGblk s b v).keys = s.keys := rfl
@[simp] theorem State.setGblk_clk (s : State) (b : Nat) (v : GBlk) : (State.setGblk s b v).clk = s.clk := rfl
@[simp] theorem State.setGblk_aon (s : State) (b : Nat) (v : GBlk) : (State.setGblk s b v).aon = s.aon := rfl
@[simp] theorem State.setGblk_boot (s : State) (b : Nat) (v : GBlk) : (State.setGblk s b v).boot = s.boot := rfl
@[simp] theorem State.setGblk_core (s : State) (b : Nat) (v : GBlk) : (State.setGblk s b v).core = s.core := rfl
@[simp] theorem State.setGblk_snap (s : State) (b : Nat) (v : GBlk) : (State.setGblk s b v).snap = s.snap := rfl
@[simp] theorem State.setGblk_freeCtr (s : State) (b : Nat) (v : GBlk) : (State.setGblk s b v).freeCtr = s.freeCtr := rfl
@[simp] theorem State.setGblk_pending (s : State) (b : Nat) (v : GBlk) : (State.setGblk s b v).pending = s.pending := rfl

/-! State.setGsub -/

@[simp] theorem State.setGsub_regs (s : State) (i : Nat) (v : GSub) : (State.setGsub s i v).regs = s.regs := rfl
@[simp] theorem State.setGsub_aonRegs (s : State) (i : Nat) (v : GSub) : (State.setGsub s i v).aonRegs = s.aonRegs := rfl
@[simp] theorem State.setGsub_cnts (s : State) (i : Nat) (v : GSub) : (State.setGsub s i v).cnts = s.cnts := rfl
@[simp] theorem State.setGsub_bank (s : State) (i : Nat) (v : GSub) : (State.setGsub s i v).bank = s.bank := rfl
@[simp] theorem State.setGsub_mbx (s : State) (i : Nat) (v : GSub) : (State.setGsub s i v).mbx = s.mbx := rfl
@[simp] theorem State.setGsub_mem (s : State) (i : Nat) (v : GSub) : (State.setGsub s i v).mem = s.mem := rfl
@[simp] theorem State.setGsub_time (s : State) (i : Nat) (v : GSub) : (State.setGsub s i v).time = s.time := rfl
@[simp] theorem State.setGsub_elog (s : State) (i : Nat) (v : GSub) : (State.setGsub s i v).elog = s.elog := rfl
@[simp] theorem State.setGsub_part (s : State) (i : Nat) (v : GSub) : (State.setGsub s i v).part = s.part := rfl
@[simp] theorem State.setGsub_tide (s : State) (i : Nat) (v : GSub) : (State.setGsub s i v).tide = s.tide := rfl
@[simp] theorem State.setGsub_lane (s : State) (i : Nat) (v : GSub) : (State.setGsub s i v).lane = s.lane := rfl
@[simp] theorem State.setGsub_gate (s : State) (i : Nat) (v : GSub) : (State.setGsub s i v).gate = s.gate := rfl
@[simp] theorem State.setGsub_fab (s : State) (i : Nat) (v : GSub) : (State.setGsub s i v).fab = s.fab := rfl
@[simp] theorem State.setGsub_svi (s : State) (i : Nat) (v : GSub) : (State.setGsub s i v).svi = s.svi := rfl
@[simp] theorem State.setGsub_fdc (s : State) (i : Nat) (v : GSub) : (State.setGsub s i v).fdc = s.fdc := rfl
@[simp] theorem State.setGsub_twin (s : State) (i : Nat) (v : GSub) : (State.setGsub s i v).twin = s.twin := rfl
@[simp] theorem State.setGsub_swc (s : State) (i : Nat) (v : GSub) : (State.setGsub s i v).swc = s.swc := rfl
@[simp] theorem State.setGsub_port (s : State) (i : Nat) (v : GSub) : (State.setGsub s i v).port = s.port := rfl
@[simp] theorem State.setGsub_drec (s : State) (i : Nat) (v : GSub) : (State.setGsub s i v).drec = s.drec := rfl
@[simp] theorem State.setGsub_keys (s : State) (i : Nat) (v : GSub) : (State.setGsub s i v).keys = s.keys := rfl
@[simp] theorem State.setGsub_clk (s : State) (i : Nat) (v : GSub) : (State.setGsub s i v).clk = s.clk := rfl
@[simp] theorem State.setGsub_aon (s : State) (i : Nat) (v : GSub) : (State.setGsub s i v).aon = s.aon := rfl
@[simp] theorem State.setGsub_boot (s : State) (i : Nat) (v : GSub) : (State.setGsub s i v).boot = s.boot := rfl
@[simp] theorem State.setGsub_core (s : State) (i : Nat) (v : GSub) : (State.setGsub s i v).core = s.core := rfl
@[simp] theorem State.setGsub_snap (s : State) (i : Nat) (v : GSub) : (State.setGsub s i v).snap = s.snap := rfl
@[simp] theorem State.setGsub_freeCtr (s : State) (i : Nat) (v : GSub) : (State.setGsub s i v).freeCtr = s.freeCtr := rfl
@[simp] theorem State.setGsub_pending (s : State) (i : Nat) (v : GSub) : (State.setGsub s i v).pending = s.pending := rfl

/-! State.setIow -/

@[simp] theorem State.setIow_regs (s : State) (off v : Nat) : (State.setIow s off v).regs = s.regs := rfl
@[simp] theorem State.setIow_aonRegs (s : State) (off v : Nat) : (State.setIow s off v).aonRegs = s.aonRegs := rfl
@[simp] theorem State.setIow_cnts (s : State) (off v : Nat) : (State.setIow s off v).cnts = s.cnts := rfl
@[simp] theorem State.setIow_bank (s : State) (off v : Nat) : (State.setIow s off v).bank = s.bank := rfl
@[simp] theorem State.setIow_mbx (s : State) (off v : Nat) : (State.setIow s off v).mbx = s.mbx := rfl
@[simp] theorem State.setIow_mem (s : State) (off v : Nat) : (State.setIow s off v).mem = s.mem := rfl
@[simp] theorem State.setIow_time (s : State) (off v : Nat) : (State.setIow s off v).time = s.time := rfl
@[simp] theorem State.setIow_elog (s : State) (off v : Nat) : (State.setIow s off v).elog = s.elog := rfl
@[simp] theorem State.setIow_part (s : State) (off v : Nat) : (State.setIow s off v).part = s.part := rfl
@[simp] theorem State.setIow_tide (s : State) (off v : Nat) : (State.setIow s off v).tide = s.tide := rfl
@[simp] theorem State.setIow_lane (s : State) (off v : Nat) : (State.setIow s off v).lane = s.lane := rfl
@[simp] theorem State.setIow_gate (s : State) (off v : Nat) : (State.setIow s off v).gate = s.gate := rfl
@[simp] theorem State.setIow_fab (s : State) (off v : Nat) : (State.setIow s off v).fab = s.fab := rfl
@[simp] theorem State.setIow_svi (s : State) (off v : Nat) : (State.setIow s off v).svi = s.svi := rfl
@[simp] theorem State.setIow_fdc (s : State) (off v : Nat) : (State.setIow s off v).fdc = s.fdc := rfl
@[simp] theorem State.setIow_goose (s : State) (off v : Nat) : (State.setIow s off v).goose = s.goose := rfl
@[simp] theorem State.setIow_twin (s : State) (off v : Nat) : (State.setIow s off v).twin = s.twin := rfl
@[simp] theorem State.setIow_swc (s : State) (off v : Nat) : (State.setIow s off v).swc = s.swc := rfl
@[simp] theorem State.setIow_port (s : State) (off v : Nat) : (State.setIow s off v).port = s.port := rfl
@[simp] theorem State.setIow_drec (s : State) (off v : Nat) : (State.setIow s off v).drec = s.drec := rfl
@[simp] theorem State.setIow_keys (s : State) (off v : Nat) : (State.setIow s off v).keys = s.keys := rfl
@[simp] theorem State.setIow_clk (s : State) (off v : Nat) : (State.setIow s off v).clk = s.clk := rfl
@[simp] theorem State.setIow_aon (s : State) (off v : Nat) : (State.setIow s off v).aon = s.aon := rfl
@[simp] theorem State.setIow_boot (s : State) (off v : Nat) : (State.setIow s off v).boot = s.boot := rfl
@[simp] theorem State.setIow_snap (s : State) (off v : Nat) : (State.setIow s off v).snap = s.snap := rfl
@[simp] theorem State.setIow_freeCtr (s : State) (off v : Nat) : (State.setIow s off v).freeCtr = s.freeCtr := rfl
@[simp] theorem State.setIow_pending (s : State) (off v : Nat) : (State.setIow s off v).pending = s.pending := rfl

/-! State.jtagShift -/

@[simp] theorem State.jtagShift_regs (s : State) (l : List Nat) : (State.jtagShift s l).regs = s.regs := rfl
@[simp] theorem State.jtagShift_aonRegs (s : State) (l : List Nat) : (State.jtagShift s l).aonRegs = s.aonRegs := rfl
@[simp] theorem State.jtagShift_cnts (s : State) (l : List Nat) : (State.jtagShift s l).cnts = s.cnts := rfl
@[simp] theorem State.jtagShift_bank (s : State) (l : List Nat) : (State.jtagShift s l).bank = s.bank := rfl
@[simp] theorem State.jtagShift_mbx (s : State) (l : List Nat) : (State.jtagShift s l).mbx = s.mbx := rfl
@[simp] theorem State.jtagShift_mem (s : State) (l : List Nat) : (State.jtagShift s l).mem = s.mem := rfl
@[simp] theorem State.jtagShift_time (s : State) (l : List Nat) : (State.jtagShift s l).time = s.time := rfl
@[simp] theorem State.jtagShift_elog (s : State) (l : List Nat) : (State.jtagShift s l).elog = s.elog := rfl
@[simp] theorem State.jtagShift_part (s : State) (l : List Nat) : (State.jtagShift s l).part = s.part := rfl
@[simp] theorem State.jtagShift_tide (s : State) (l : List Nat) : (State.jtagShift s l).tide = s.tide := rfl
@[simp] theorem State.jtagShift_lane (s : State) (l : List Nat) : (State.jtagShift s l).lane = s.lane := rfl
@[simp] theorem State.jtagShift_gate (s : State) (l : List Nat) : (State.jtagShift s l).gate = s.gate := rfl
@[simp] theorem State.jtagShift_fab (s : State) (l : List Nat) : (State.jtagShift s l).fab = s.fab := rfl
@[simp] theorem State.jtagShift_svi (s : State) (l : List Nat) : (State.jtagShift s l).svi = s.svi := rfl
@[simp] theorem State.jtagShift_fdc (s : State) (l : List Nat) : (State.jtagShift s l).fdc = s.fdc := rfl
@[simp] theorem State.jtagShift_goose (s : State) (l : List Nat) : (State.jtagShift s l).goose = s.goose := rfl
@[simp] theorem State.jtagShift_twin (s : State) (l : List Nat) : (State.jtagShift s l).twin = s.twin := rfl
@[simp] theorem State.jtagShift_swc (s : State) (l : List Nat) : (State.jtagShift s l).swc = s.swc := rfl
@[simp] theorem State.jtagShift_port (s : State) (l : List Nat) : (State.jtagShift s l).port = s.port := rfl
@[simp] theorem State.jtagShift_drec (s : State) (l : List Nat) : (State.jtagShift s l).drec = s.drec := rfl
@[simp] theorem State.jtagShift_keys (s : State) (l : List Nat) : (State.jtagShift s l).keys = s.keys := rfl
@[simp] theorem State.jtagShift_clk (s : State) (l : List Nat) : (State.jtagShift s l).clk = s.clk := rfl
@[simp] theorem State.jtagShift_aon (s : State) (l : List Nat) : (State.jtagShift s l).aon = s.aon := rfl
@[simp] theorem State.jtagShift_boot (s : State) (l : List Nat) : (State.jtagShift s l).boot = s.boot := rfl
@[simp] theorem State.jtagShift_snap (s : State) (l : List Nat) : (State.jtagShift s l).snap = s.snap := rfl
@[simp] theorem State.jtagShift_freeCtr (s : State) (l : List Nat) : (State.jtagShift s l).freeCtr = s.freeCtr := rfl
@[simp] theorem State.jtagShift_pending (s : State) (l : List Nat) : (State.jtagShift s l).pending = s.pending := rfl

/-! State.jtagInstr -/

@[simp] theorem State.jtagInstr_regs (s : State) (ir : Nat) : (State.jtagInstr s ir).regs = s.regs := rfl
@[simp] theorem State.jtagInstr_aonRegs (s : State) (ir : Nat) : (State.jtagInstr s ir).aonRegs = s.aonRegs := rfl
@[simp] theorem State.jtagInstr_cnts (s : State) (ir : Nat) : (State.jtagInstr s ir).cnts = s.cnts := rfl
@[simp] theorem State.jtagInstr_bank (s : State) (ir : Nat) : (State.jtagInstr s ir).bank = s.bank := rfl
@[simp] theorem State.jtagInstr_mbx (s : State) (ir : Nat) : (State.jtagInstr s ir).mbx = s.mbx := rfl
@[simp] theorem State.jtagInstr_mem (s : State) (ir : Nat) : (State.jtagInstr s ir).mem = s.mem := rfl
@[simp] theorem State.jtagInstr_time (s : State) (ir : Nat) : (State.jtagInstr s ir).time = s.time := rfl
@[simp] theorem State.jtagInstr_elog (s : State) (ir : Nat) : (State.jtagInstr s ir).elog = s.elog := rfl
@[simp] theorem State.jtagInstr_part (s : State) (ir : Nat) : (State.jtagInstr s ir).part = s.part := rfl
@[simp] theorem State.jtagInstr_tide (s : State) (ir : Nat) : (State.jtagInstr s ir).tide = s.tide := rfl
@[simp] theorem State.jtagInstr_lane (s : State) (ir : Nat) : (State.jtagInstr s ir).lane = s.lane := rfl
@[simp] theorem State.jtagInstr_gate (s : State) (ir : Nat) : (State.jtagInstr s ir).gate = s.gate := rfl
@[simp] theorem State.jtagInstr_fab (s : State) (ir : Nat) : (State.jtagInstr s ir).fab = s.fab := rfl
@[simp] theorem State.jtagInstr_svi (s : State) (ir : Nat) : (State.jtagInstr s ir).svi = s.svi := rfl
@[simp] theorem State.jtagInstr_fdc (s : State) (ir : Nat) : (State.jtagInstr s ir).fdc = s.fdc := rfl
@[simp] theorem State.jtagInstr_goose (s : State) (ir : Nat) : (State.jtagInstr s ir).goose = s.goose := rfl
@[simp] theorem State.jtagInstr_twin (s : State) (ir : Nat) : (State.jtagInstr s ir).twin = s.twin := rfl
@[simp] theorem State.jtagInstr_swc (s : State) (ir : Nat) : (State.jtagInstr s ir).swc = s.swc := rfl
@[simp] theorem State.jtagInstr_port (s : State) (ir : Nat) : (State.jtagInstr s ir).port = s.port := rfl
@[simp] theorem State.jtagInstr_drec (s : State) (ir : Nat) : (State.jtagInstr s ir).drec = s.drec := rfl
@[simp] theorem State.jtagInstr_keys (s : State) (ir : Nat) : (State.jtagInstr s ir).keys = s.keys := rfl
@[simp] theorem State.jtagInstr_clk (s : State) (ir : Nat) : (State.jtagInstr s ir).clk = s.clk := rfl
@[simp] theorem State.jtagInstr_aon (s : State) (ir : Nat) : (State.jtagInstr s ir).aon = s.aon := rfl
@[simp] theorem State.jtagInstr_boot (s : State) (ir : Nat) : (State.jtagInstr s ir).boot = s.boot := rfl
@[simp] theorem State.jtagInstr_snap (s : State) (ir : Nat) : (State.jtagInstr s ir).snap = s.snap := rfl
@[simp] theorem State.jtagInstr_freeCtr (s : State) (ir : Nat) : (State.jtagInstr s ir).freeCtr = s.freeCtr := rfl
@[simp] theorem State.jtagInstr_pending (s : State) (ir : Nat) : (State.jtagInstr s ir).pending = s.pending := rfl

/-! State.setFuses -/

@[simp] theorem State.setFuses_regs (s : State) (f : Fuses) : (State.setFuses s f).regs = s.regs := rfl
@[simp] theorem State.setFuses_aonRegs (s : State) (f : Fuses) : (State.setFuses s f).aonRegs = s.aonRegs := rfl
@[simp] theorem State.setFuses_cnts (s : State) (f : Fuses) : (State.setFuses s f).cnts = s.cnts := rfl
@[simp] theorem State.setFuses_bank (s : State) (f : Fuses) : (State.setFuses s f).bank = s.bank := rfl
@[simp] theorem State.setFuses_mbx (s : State) (f : Fuses) : (State.setFuses s f).mbx = s.mbx := rfl
@[simp] theorem State.setFuses_mem (s : State) (f : Fuses) : (State.setFuses s f).mem = s.mem := rfl
@[simp] theorem State.setFuses_time (s : State) (f : Fuses) : (State.setFuses s f).time = s.time := rfl
@[simp] theorem State.setFuses_elog (s : State) (f : Fuses) : (State.setFuses s f).elog = s.elog := rfl
@[simp] theorem State.setFuses_part (s : State) (f : Fuses) : (State.setFuses s f).part = s.part := rfl
@[simp] theorem State.setFuses_tide (s : State) (f : Fuses) : (State.setFuses s f).tide = s.tide := rfl
@[simp] theorem State.setFuses_lane (s : State) (f : Fuses) : (State.setFuses s f).lane = s.lane := rfl
@[simp] theorem State.setFuses_gate (s : State) (f : Fuses) : (State.setFuses s f).gate = s.gate := rfl
@[simp] theorem State.setFuses_fab (s : State) (f : Fuses) : (State.setFuses s f).fab = s.fab := rfl
@[simp] theorem State.setFuses_svi (s : State) (f : Fuses) : (State.setFuses s f).svi = s.svi := rfl
@[simp] theorem State.setFuses_fdc (s : State) (f : Fuses) : (State.setFuses s f).fdc = s.fdc := rfl
@[simp] theorem State.setFuses_goose (s : State) (f : Fuses) : (State.setFuses s f).goose = s.goose := rfl
@[simp] theorem State.setFuses_twin (s : State) (f : Fuses) : (State.setFuses s f).twin = s.twin := rfl
@[simp] theorem State.setFuses_swc (s : State) (f : Fuses) : (State.setFuses s f).swc = s.swc := rfl
@[simp] theorem State.setFuses_port (s : State) (f : Fuses) : (State.setFuses s f).port = s.port := rfl
@[simp] theorem State.setFuses_drec (s : State) (f : Fuses) : (State.setFuses s f).drec = s.drec := rfl
@[simp] theorem State.setFuses_clk (s : State) (f : Fuses) : (State.setFuses s f).clk = s.clk := rfl
@[simp] theorem State.setFuses_aon (s : State) (f : Fuses) : (State.setFuses s f).aon = s.aon := rfl
@[simp] theorem State.setFuses_boot (s : State) (f : Fuses) : (State.setFuses s f).boot = s.boot := rfl
@[simp] theorem State.setFuses_core (s : State) (f : Fuses) : (State.setFuses s f).core = s.core := rfl
@[simp] theorem State.setFuses_snap (s : State) (f : Fuses) : (State.setFuses s f).snap = s.snap := rfl
@[simp] theorem State.setFuses_freeCtr (s : State) (f : Fuses) : (State.setFuses s f).freeCtr = s.freeCtr := rfl
@[simp] theorem State.setFuses_pending (s : State) (f : Fuses) : (State.setFuses s f).pending = s.pending := rfl

/-! State.setPair -/

@[simp] theorem State.setPair_regs (s : State) (n : Nat) (p : LanePair) : (State.setPair s n p).regs = s.regs := rfl
@[simp] theorem State.setPair_aonRegs (s : State) (n : Nat) (p : LanePair) : (State.setPair s n p).aonRegs = s.aonRegs := rfl
@[simp] theorem State.setPair_cnts (s : State) (n : Nat) (p : LanePair) : (State.setPair s n p).cnts = s.cnts := rfl
@[simp] theorem State.setPair_bank (s : State) (n : Nat) (p : LanePair) : (State.setPair s n p).bank = s.bank := rfl
@[simp] theorem State.setPair_mbx (s : State) (n : Nat) (p : LanePair) : (State.setPair s n p).mbx = s.mbx := rfl
@[simp] theorem State.setPair_mem (s : State) (n : Nat) (p : LanePair) : (State.setPair s n p).mem = s.mem := rfl
@[simp] theorem State.setPair_time (s : State) (n : Nat) (p : LanePair) : (State.setPair s n p).time = s.time := rfl
@[simp] theorem State.setPair_elog (s : State) (n : Nat) (p : LanePair) : (State.setPair s n p).elog = s.elog := rfl
@[simp] theorem State.setPair_part (s : State) (n : Nat) (p : LanePair) : (State.setPair s n p).part = s.part := rfl
@[simp] theorem State.setPair_tide (s : State) (n : Nat) (p : LanePair) : (State.setPair s n p).tide = s.tide := rfl
@[simp] theorem State.setPair_gate (s : State) (n : Nat) (p : LanePair) : (State.setPair s n p).gate = s.gate := rfl
@[simp] theorem State.setPair_fab (s : State) (n : Nat) (p : LanePair) : (State.setPair s n p).fab = s.fab := rfl
@[simp] theorem State.setPair_svi (s : State) (n : Nat) (p : LanePair) : (State.setPair s n p).svi = s.svi := rfl
@[simp] theorem State.setPair_fdc (s : State) (n : Nat) (p : LanePair) : (State.setPair s n p).fdc = s.fdc := rfl
@[simp] theorem State.setPair_goose (s : State) (n : Nat) (p : LanePair) : (State.setPair s n p).goose = s.goose := rfl
@[simp] theorem State.setPair_twin (s : State) (n : Nat) (p : LanePair) : (State.setPair s n p).twin = s.twin := rfl
@[simp] theorem State.setPair_swc (s : State) (n : Nat) (p : LanePair) : (State.setPair s n p).swc = s.swc := rfl
@[simp] theorem State.setPair_port (s : State) (n : Nat) (p : LanePair) : (State.setPair s n p).port = s.port := rfl
@[simp] theorem State.setPair_drec (s : State) (n : Nat) (p : LanePair) : (State.setPair s n p).drec = s.drec := rfl
@[simp] theorem State.setPair_keys (s : State) (n : Nat) (p : LanePair) : (State.setPair s n p).keys = s.keys := rfl
@[simp] theorem State.setPair_clk (s : State) (n : Nat) (p : LanePair) : (State.setPair s n p).clk = s.clk := rfl
@[simp] theorem State.setPair_aon (s : State) (n : Nat) (p : LanePair) : (State.setPair s n p).aon = s.aon := rfl
@[simp] theorem State.setPair_boot (s : State) (n : Nat) (p : LanePair) : (State.setPair s n p).boot = s.boot := rfl
@[simp] theorem State.setPair_core (s : State) (n : Nat) (p : LanePair) : (State.setPair s n p).core = s.core := rfl
@[simp] theorem State.setPair_snap (s : State) (n : Nat) (p : LanePair) : (State.setPair s n p).snap = s.snap := rfl
@[simp] theorem State.setPair_freeCtr (s : State) (n : Nat) (p : LanePair) : (State.setPair s n p).freeCtr = s.freeCtr := rfl
@[simp] theorem State.setPair_pending (s : State) (n : Nat) (p : LanePair) : (State.setPair s n p).pending = s.pending := rfl

/-! State.setLpart -/

@[simp] theorem State.setLpart_regs (s : State) (p : Nat) (v : LanePart) : (State.setLpart s p v).regs = s.regs := rfl
@[simp] theorem State.setLpart_aonRegs (s : State) (p : Nat) (v : LanePart) : (State.setLpart s p v).aonRegs = s.aonRegs := rfl
@[simp] theorem State.setLpart_cnts (s : State) (p : Nat) (v : LanePart) : (State.setLpart s p v).cnts = s.cnts := rfl
@[simp] theorem State.setLpart_bank (s : State) (p : Nat) (v : LanePart) : (State.setLpart s p v).bank = s.bank := rfl
@[simp] theorem State.setLpart_mbx (s : State) (p : Nat) (v : LanePart) : (State.setLpart s p v).mbx = s.mbx := rfl
@[simp] theorem State.setLpart_mem (s : State) (p : Nat) (v : LanePart) : (State.setLpart s p v).mem = s.mem := rfl
@[simp] theorem State.setLpart_time (s : State) (p : Nat) (v : LanePart) : (State.setLpart s p v).time = s.time := rfl
@[simp] theorem State.setLpart_elog (s : State) (p : Nat) (v : LanePart) : (State.setLpart s p v).elog = s.elog := rfl
@[simp] theorem State.setLpart_part (s : State) (p : Nat) (v : LanePart) : (State.setLpart s p v).part = s.part := rfl
@[simp] theorem State.setLpart_tide (s : State) (p : Nat) (v : LanePart) : (State.setLpart s p v).tide = s.tide := rfl
@[simp] theorem State.setLpart_gate (s : State) (p : Nat) (v : LanePart) : (State.setLpart s p v).gate = s.gate := rfl
@[simp] theorem State.setLpart_fab (s : State) (p : Nat) (v : LanePart) : (State.setLpart s p v).fab = s.fab := rfl
@[simp] theorem State.setLpart_svi (s : State) (p : Nat) (v : LanePart) : (State.setLpart s p v).svi = s.svi := rfl
@[simp] theorem State.setLpart_fdc (s : State) (p : Nat) (v : LanePart) : (State.setLpart s p v).fdc = s.fdc := rfl
@[simp] theorem State.setLpart_goose (s : State) (p : Nat) (v : LanePart) : (State.setLpart s p v).goose = s.goose := rfl
@[simp] theorem State.setLpart_twin (s : State) (p : Nat) (v : LanePart) : (State.setLpart s p v).twin = s.twin := rfl
@[simp] theorem State.setLpart_swc (s : State) (p : Nat) (v : LanePart) : (State.setLpart s p v).swc = s.swc := rfl
@[simp] theorem State.setLpart_port (s : State) (p : Nat) (v : LanePart) : (State.setLpart s p v).port = s.port := rfl
@[simp] theorem State.setLpart_drec (s : State) (p : Nat) (v : LanePart) : (State.setLpart s p v).drec = s.drec := rfl
@[simp] theorem State.setLpart_keys (s : State) (p : Nat) (v : LanePart) : (State.setLpart s p v).keys = s.keys := rfl
@[simp] theorem State.setLpart_clk (s : State) (p : Nat) (v : LanePart) : (State.setLpart s p v).clk = s.clk := rfl
@[simp] theorem State.setLpart_aon (s : State) (p : Nat) (v : LanePart) : (State.setLpart s p v).aon = s.aon := rfl
@[simp] theorem State.setLpart_boot (s : State) (p : Nat) (v : LanePart) : (State.setLpart s p v).boot = s.boot := rfl
@[simp] theorem State.setLpart_core (s : State) (p : Nat) (v : LanePart) : (State.setLpart s p v).core = s.core := rfl
@[simp] theorem State.setLpart_snap (s : State) (p : Nat) (v : LanePart) : (State.setLpart s p v).snap = s.snap := rfl
@[simp] theorem State.setLpart_freeCtr (s : State) (p : Nat) (v : LanePart) : (State.setLpart s p v).freeCtr = s.freeCtr := rfl
@[simp] theorem State.setLpart_pending (s : State) (p : Nat) (v : LanePart) : (State.setLpart s p v).pending = s.pending := rfl

/-! State.setGrp -/

@[simp] theorem State.setGrp_regs (s : State) (g : Nat) (v : TideGrp) : (State.setGrp s g v).regs = s.regs := rfl
@[simp] theorem State.setGrp_aonRegs (s : State) (g : Nat) (v : TideGrp) : (State.setGrp s g v).aonRegs = s.aonRegs := rfl
@[simp] theorem State.setGrp_cnts (s : State) (g : Nat) (v : TideGrp) : (State.setGrp s g v).cnts = s.cnts := rfl
@[simp] theorem State.setGrp_bank (s : State) (g : Nat) (v : TideGrp) : (State.setGrp s g v).bank = s.bank := rfl
@[simp] theorem State.setGrp_mbx (s : State) (g : Nat) (v : TideGrp) : (State.setGrp s g v).mbx = s.mbx := rfl
@[simp] theorem State.setGrp_mem (s : State) (g : Nat) (v : TideGrp) : (State.setGrp s g v).mem = s.mem := rfl
@[simp] theorem State.setGrp_time (s : State) (g : Nat) (v : TideGrp) : (State.setGrp s g v).time = s.time := rfl
@[simp] theorem State.setGrp_elog (s : State) (g : Nat) (v : TideGrp) : (State.setGrp s g v).elog = s.elog := rfl
@[simp] theorem State.setGrp_part (s : State) (g : Nat) (v : TideGrp) : (State.setGrp s g v).part = s.part := rfl
@[simp] theorem State.setGrp_lane (s : State) (g : Nat) (v : TideGrp) : (State.setGrp s g v).lane = s.lane := rfl
@[simp] theorem State.setGrp_gate (s : State) (g : Nat) (v : TideGrp) : (State.setGrp s g v).gate = s.gate := rfl
@[simp] theorem State.setGrp_fab (s : State) (g : Nat) (v : TideGrp) : (State.setGrp s g v).fab = s.fab := rfl
@[simp] theorem State.setGrp_svi (s : State) (g : Nat) (v : TideGrp) : (State.setGrp s g v).svi = s.svi := rfl
@[simp] theorem State.setGrp_fdc (s : State) (g : Nat) (v : TideGrp) : (State.setGrp s g v).fdc = s.fdc := rfl
@[simp] theorem State.setGrp_goose (s : State) (g : Nat) (v : TideGrp) : (State.setGrp s g v).goose = s.goose := rfl
@[simp] theorem State.setGrp_twin (s : State) (g : Nat) (v : TideGrp) : (State.setGrp s g v).twin = s.twin := rfl
@[simp] theorem State.setGrp_swc (s : State) (g : Nat) (v : TideGrp) : (State.setGrp s g v).swc = s.swc := rfl
@[simp] theorem State.setGrp_port (s : State) (g : Nat) (v : TideGrp) : (State.setGrp s g v).port = s.port := rfl
@[simp] theorem State.setGrp_drec (s : State) (g : Nat) (v : TideGrp) : (State.setGrp s g v).drec = s.drec := rfl
@[simp] theorem State.setGrp_keys (s : State) (g : Nat) (v : TideGrp) : (State.setGrp s g v).keys = s.keys := rfl
@[simp] theorem State.setGrp_clk (s : State) (g : Nat) (v : TideGrp) : (State.setGrp s g v).clk = s.clk := rfl
@[simp] theorem State.setGrp_aon (s : State) (g : Nat) (v : TideGrp) : (State.setGrp s g v).aon = s.aon := rfl
@[simp] theorem State.setGrp_boot (s : State) (g : Nat) (v : TideGrp) : (State.setGrp s g v).boot = s.boot := rfl
@[simp] theorem State.setGrp_core (s : State) (g : Nat) (v : TideGrp) : (State.setGrp s g v).core = s.core := rfl
@[simp] theorem State.setGrp_snap (s : State) (g : Nat) (v : TideGrp) : (State.setGrp s g v).snap = s.snap := rfl
@[simp] theorem State.setGrp_freeCtr (s : State) (g : Nat) (v : TideGrp) : (State.setGrp s g v).freeCtr = s.freeCtr := rfl
@[simp] theorem State.setGrp_pending (s : State) (g : Nat) (v : TideGrp) : (State.setGrp s g v).pending = s.pending := rfl

/-! State.setPres -/

@[simp] theorem State.setPres_regs (s : State) (p : Nat) (r : PartRes) : (State.setPres s p r).regs = s.regs := rfl
@[simp] theorem State.setPres_aonRegs (s : State) (p : Nat) (r : PartRes) : (State.setPres s p r).aonRegs = s.aonRegs := rfl
@[simp] theorem State.setPres_cnts (s : State) (p : Nat) (r : PartRes) : (State.setPres s p r).cnts = s.cnts := rfl
@[simp] theorem State.setPres_bank (s : State) (p : Nat) (r : PartRes) : (State.setPres s p r).bank = s.bank := rfl
@[simp] theorem State.setPres_mbx (s : State) (p : Nat) (r : PartRes) : (State.setPres s p r).mbx = s.mbx := rfl
@[simp] theorem State.setPres_mem (s : State) (p : Nat) (r : PartRes) : (State.setPres s p r).mem = s.mem := rfl
@[simp] theorem State.setPres_time (s : State) (p : Nat) (r : PartRes) : (State.setPres s p r).time = s.time := rfl
@[simp] theorem State.setPres_elog (s : State) (p : Nat) (r : PartRes) : (State.setPres s p r).elog = s.elog := rfl
@[simp] theorem State.setPres_tide (s : State) (p : Nat) (r : PartRes) : (State.setPres s p r).tide = s.tide := rfl
@[simp] theorem State.setPres_lane (s : State) (p : Nat) (r : PartRes) : (State.setPres s p r).lane = s.lane := rfl
@[simp] theorem State.setPres_gate (s : State) (p : Nat) (r : PartRes) : (State.setPres s p r).gate = s.gate := rfl
@[simp] theorem State.setPres_fab (s : State) (p : Nat) (r : PartRes) : (State.setPres s p r).fab = s.fab := rfl
@[simp] theorem State.setPres_svi (s : State) (p : Nat) (r : PartRes) : (State.setPres s p r).svi = s.svi := rfl
@[simp] theorem State.setPres_fdc (s : State) (p : Nat) (r : PartRes) : (State.setPres s p r).fdc = s.fdc := rfl
@[simp] theorem State.setPres_goose (s : State) (p : Nat) (r : PartRes) : (State.setPres s p r).goose = s.goose := rfl
@[simp] theorem State.setPres_twin (s : State) (p : Nat) (r : PartRes) : (State.setPres s p r).twin = s.twin := rfl
@[simp] theorem State.setPres_swc (s : State) (p : Nat) (r : PartRes) : (State.setPres s p r).swc = s.swc := rfl
@[simp] theorem State.setPres_port (s : State) (p : Nat) (r : PartRes) : (State.setPres s p r).port = s.port := rfl
@[simp] theorem State.setPres_drec (s : State) (p : Nat) (r : PartRes) : (State.setPres s p r).drec = s.drec := rfl
@[simp] theorem State.setPres_keys (s : State) (p : Nat) (r : PartRes) : (State.setPres s p r).keys = s.keys := rfl
@[simp] theorem State.setPres_clk (s : State) (p : Nat) (r : PartRes) : (State.setPres s p r).clk = s.clk := rfl
@[simp] theorem State.setPres_aon (s : State) (p : Nat) (r : PartRes) : (State.setPres s p r).aon = s.aon := rfl
@[simp] theorem State.setPres_boot (s : State) (p : Nat) (r : PartRes) : (State.setPres s p r).boot = s.boot := rfl
@[simp] theorem State.setPres_core (s : State) (p : Nat) (r : PartRes) : (State.setPres s p r).core = s.core := rfl
@[simp] theorem State.setPres_snap (s : State) (p : Nat) (r : PartRes) : (State.setPres s p r).snap = s.snap := rfl
@[simp] theorem State.setPres_freeCtr (s : State) (p : Nat) (r : PartRes) : (State.setPres s p r).freeCtr = s.freeCtr := rfl
@[simp] theorem State.setPres_pending (s : State) (p : Nat) (r : PartRes) : (State.setPres s p r).pending = s.pending := rfl

/-! State.setPtpPort -/

@[simp] theorem State.setPtpPort_regs (s : State) (p : Nat) (v : PtpPort) : (State.setPtpPort s p v).regs = s.regs := rfl
@[simp] theorem State.setPtpPort_aonRegs (s : State) (p : Nat) (v : PtpPort) : (State.setPtpPort s p v).aonRegs = s.aonRegs := rfl
@[simp] theorem State.setPtpPort_cnts (s : State) (p : Nat) (v : PtpPort) : (State.setPtpPort s p v).cnts = s.cnts := rfl
@[simp] theorem State.setPtpPort_bank (s : State) (p : Nat) (v : PtpPort) : (State.setPtpPort s p v).bank = s.bank := rfl
@[simp] theorem State.setPtpPort_mbx (s : State) (p : Nat) (v : PtpPort) : (State.setPtpPort s p v).mbx = s.mbx := rfl
@[simp] theorem State.setPtpPort_mem (s : State) (p : Nat) (v : PtpPort) : (State.setPtpPort s p v).mem = s.mem := rfl
@[simp] theorem State.setPtpPort_elog (s : State) (p : Nat) (v : PtpPort) : (State.setPtpPort s p v).elog = s.elog := rfl
@[simp] theorem State.setPtpPort_part (s : State) (p : Nat) (v : PtpPort) : (State.setPtpPort s p v).part = s.part := rfl
@[simp] theorem State.setPtpPort_tide (s : State) (p : Nat) (v : PtpPort) : (State.setPtpPort s p v).tide = s.tide := rfl
@[simp] theorem State.setPtpPort_lane (s : State) (p : Nat) (v : PtpPort) : (State.setPtpPort s p v).lane = s.lane := rfl
@[simp] theorem State.setPtpPort_gate (s : State) (p : Nat) (v : PtpPort) : (State.setPtpPort s p v).gate = s.gate := rfl
@[simp] theorem State.setPtpPort_fab (s : State) (p : Nat) (v : PtpPort) : (State.setPtpPort s p v).fab = s.fab := rfl
@[simp] theorem State.setPtpPort_svi (s : State) (p : Nat) (v : PtpPort) : (State.setPtpPort s p v).svi = s.svi := rfl
@[simp] theorem State.setPtpPort_fdc (s : State) (p : Nat) (v : PtpPort) : (State.setPtpPort s p v).fdc = s.fdc := rfl
@[simp] theorem State.setPtpPort_goose (s : State) (p : Nat) (v : PtpPort) : (State.setPtpPort s p v).goose = s.goose := rfl
@[simp] theorem State.setPtpPort_twin (s : State) (p : Nat) (v : PtpPort) : (State.setPtpPort s p v).twin = s.twin := rfl
@[simp] theorem State.setPtpPort_swc (s : State) (p : Nat) (v : PtpPort) : (State.setPtpPort s p v).swc = s.swc := rfl
@[simp] theorem State.setPtpPort_port (s : State) (p : Nat) (v : PtpPort) : (State.setPtpPort s p v).port = s.port := rfl
@[simp] theorem State.setPtpPort_drec (s : State) (p : Nat) (v : PtpPort) : (State.setPtpPort s p v).drec = s.drec := rfl
@[simp] theorem State.setPtpPort_keys (s : State) (p : Nat) (v : PtpPort) : (State.setPtpPort s p v).keys = s.keys := rfl
@[simp] theorem State.setPtpPort_clk (s : State) (p : Nat) (v : PtpPort) : (State.setPtpPort s p v).clk = s.clk := rfl
@[simp] theorem State.setPtpPort_aon (s : State) (p : Nat) (v : PtpPort) : (State.setPtpPort s p v).aon = s.aon := rfl
@[simp] theorem State.setPtpPort_boot (s : State) (p : Nat) (v : PtpPort) : (State.setPtpPort s p v).boot = s.boot := rfl
@[simp] theorem State.setPtpPort_core (s : State) (p : Nat) (v : PtpPort) : (State.setPtpPort s p v).core = s.core := rfl
@[simp] theorem State.setPtpPort_snap (s : State) (p : Nat) (v : PtpPort) : (State.setPtpPort s p v).snap = s.snap := rfl
@[simp] theorem State.setPtpPort_freeCtr (s : State) (p : Nat) (v : PtpPort) : (State.setPtpPort s p v).freeCtr = s.freeCtr := rfl
@[simp] theorem State.setPtpPort_pending (s : State) (p : Nat) (v : PtpPort) : (State.setPtpPort s p v).pending = s.pending := rfl

/-! State.setResolved -/

@[simp] theorem State.setResolved_regs (s : State) (p v : Nat) : (State.setResolved s p v).regs = s.regs := rfl
@[simp] theorem State.setResolved_aonRegs (s : State) (p v : Nat) : (State.setResolved s p v).aonRegs = s.aonRegs := rfl
@[simp] theorem State.setResolved_cnts (s : State) (p v : Nat) : (State.setResolved s p v).cnts = s.cnts := rfl
@[simp] theorem State.setResolved_bank (s : State) (p v : Nat) : (State.setResolved s p v).bank = s.bank := rfl
@[simp] theorem State.setResolved_mbx (s : State) (p v : Nat) : (State.setResolved s p v).mbx = s.mbx := rfl
@[simp] theorem State.setResolved_mem (s : State) (p v : Nat) : (State.setResolved s p v).mem = s.mem := rfl
@[simp] theorem State.setResolved_time (s : State) (p v : Nat) : (State.setResolved s p v).time = s.time := rfl
@[simp] theorem State.setResolved_elog (s : State) (p v : Nat) : (State.setResolved s p v).elog = s.elog := rfl
@[simp] theorem State.setResolved_part (s : State) (p v : Nat) : (State.setResolved s p v).part = s.part := rfl
@[simp] theorem State.setResolved_tide (s : State) (p v : Nat) : (State.setResolved s p v).tide = s.tide := rfl
@[simp] theorem State.setResolved_lane (s : State) (p v : Nat) : (State.setResolved s p v).lane = s.lane := rfl
@[simp] theorem State.setResolved_gate (s : State) (p v : Nat) : (State.setResolved s p v).gate = s.gate := rfl
@[simp] theorem State.setResolved_fab (s : State) (p v : Nat) : (State.setResolved s p v).fab = s.fab := rfl
@[simp] theorem State.setResolved_svi (s : State) (p v : Nat) : (State.setResolved s p v).svi = s.svi := rfl
@[simp] theorem State.setResolved_fdc (s : State) (p v : Nat) : (State.setResolved s p v).fdc = s.fdc := rfl
@[simp] theorem State.setResolved_goose (s : State) (p v : Nat) : (State.setResolved s p v).goose = s.goose := rfl
@[simp] theorem State.setResolved_swc (s : State) (p v : Nat) : (State.setResolved s p v).swc = s.swc := rfl
@[simp] theorem State.setResolved_port (s : State) (p v : Nat) : (State.setResolved s p v).port = s.port := rfl
@[simp] theorem State.setResolved_drec (s : State) (p v : Nat) : (State.setResolved s p v).drec = s.drec := rfl
@[simp] theorem State.setResolved_keys (s : State) (p v : Nat) : (State.setResolved s p v).keys = s.keys := rfl
@[simp] theorem State.setResolved_clk (s : State) (p v : Nat) : (State.setResolved s p v).clk = s.clk := rfl
@[simp] theorem State.setResolved_aon (s : State) (p v : Nat) : (State.setResolved s p v).aon = s.aon := rfl
@[simp] theorem State.setResolved_boot (s : State) (p v : Nat) : (State.setResolved s p v).boot = s.boot := rfl
@[simp] theorem State.setResolved_core (s : State) (p v : Nat) : (State.setResolved s p v).core = s.core := rfl
@[simp] theorem State.setResolved_snap (s : State) (p v : Nat) : (State.setResolved s p v).snap = s.snap := rfl
@[simp] theorem State.setResolved_freeCtr (s : State) (p v : Nat) : (State.setResolved s p v).freeCtr = s.freeCtr := rfl
@[simp] theorem State.setResolved_pending (s : State) (p v : Nat) : (State.setResolved s p v).pending = s.pending := rfl

/-! State.setRgrp -/

@[simp] theorem State.setRgrp_regs (s : State) (g : Nat) (v : RallyGrp) : (State.setRgrp s g v).regs = s.regs := rfl
@[simp] theorem State.setRgrp_aonRegs (s : State) (g : Nat) (v : RallyGrp) : (State.setRgrp s g v).aonRegs = s.aonRegs := rfl
@[simp] theorem State.setRgrp_cnts (s : State) (g : Nat) (v : RallyGrp) : (State.setRgrp s g v).cnts = s.cnts := rfl
@[simp] theorem State.setRgrp_bank (s : State) (g : Nat) (v : RallyGrp) : (State.setRgrp s g v).bank = s.bank := rfl
@[simp] theorem State.setRgrp_mbx (s : State) (g : Nat) (v : RallyGrp) : (State.setRgrp s g v).mbx = s.mbx := rfl
@[simp] theorem State.setRgrp_mem (s : State) (g : Nat) (v : RallyGrp) : (State.setRgrp s g v).mem = s.mem := rfl
@[simp] theorem State.setRgrp_time (s : State) (g : Nat) (v : RallyGrp) : (State.setRgrp s g v).time = s.time := rfl
@[simp] theorem State.setRgrp_elog (s : State) (g : Nat) (v : RallyGrp) : (State.setRgrp s g v).elog = s.elog := rfl
@[simp] theorem State.setRgrp_part (s : State) (g : Nat) (v : RallyGrp) : (State.setRgrp s g v).part = s.part := rfl
@[simp] theorem State.setRgrp_tide (s : State) (g : Nat) (v : RallyGrp) : (State.setRgrp s g v).tide = s.tide := rfl
@[simp] theorem State.setRgrp_lane (s : State) (g : Nat) (v : RallyGrp) : (State.setRgrp s g v).lane = s.lane := rfl
@[simp] theorem State.setRgrp_gate (s : State) (g : Nat) (v : RallyGrp) : (State.setRgrp s g v).gate = s.gate := rfl
@[simp] theorem State.setRgrp_fab (s : State) (g : Nat) (v : RallyGrp) : (State.setRgrp s g v).fab = s.fab := rfl
@[simp] theorem State.setRgrp_svi (s : State) (g : Nat) (v : RallyGrp) : (State.setRgrp s g v).svi = s.svi := rfl
@[simp] theorem State.setRgrp_fdc (s : State) (g : Nat) (v : RallyGrp) : (State.setRgrp s g v).fdc = s.fdc := rfl
@[simp] theorem State.setRgrp_goose (s : State) (g : Nat) (v : RallyGrp) : (State.setRgrp s g v).goose = s.goose := rfl
@[simp] theorem State.setRgrp_swc (s : State) (g : Nat) (v : RallyGrp) : (State.setRgrp s g v).swc = s.swc := rfl
@[simp] theorem State.setRgrp_port (s : State) (g : Nat) (v : RallyGrp) : (State.setRgrp s g v).port = s.port := rfl
@[simp] theorem State.setRgrp_drec (s : State) (g : Nat) (v : RallyGrp) : (State.setRgrp s g v).drec = s.drec := rfl
@[simp] theorem State.setRgrp_keys (s : State) (g : Nat) (v : RallyGrp) : (State.setRgrp s g v).keys = s.keys := rfl
@[simp] theorem State.setRgrp_clk (s : State) (g : Nat) (v : RallyGrp) : (State.setRgrp s g v).clk = s.clk := rfl
@[simp] theorem State.setRgrp_aon (s : State) (g : Nat) (v : RallyGrp) : (State.setRgrp s g v).aon = s.aon := rfl
@[simp] theorem State.setRgrp_boot (s : State) (g : Nat) (v : RallyGrp) : (State.setRgrp s g v).boot = s.boot := rfl
@[simp] theorem State.setRgrp_core (s : State) (g : Nat) (v : RallyGrp) : (State.setRgrp s g v).core = s.core := rfl
@[simp] theorem State.setRgrp_snap (s : State) (g : Nat) (v : RallyGrp) : (State.setRgrp s g v).snap = s.snap := rfl
@[simp] theorem State.setRgrp_freeCtr (s : State) (g : Nat) (v : RallyGrp) : (State.setRgrp s g v).freeCtr = s.freeCtr := rfl
@[simp] theorem State.setRgrp_pending (s : State) (g : Nat) (v : RallyGrp) : (State.setRgrp s g v).pending = s.pending := rfl

/-! State.setStream -/

@[simp] theorem State.setStream_regs (s : State) (n : Nat) (v : SviStream) : (State.setStream s n v).regs = s.regs := rfl
@[simp] theorem State.setStream_aonRegs (s : State) (n : Nat) (v : SviStream) : (State.setStream s n v).aonRegs = s.aonRegs := rfl
@[simp] theorem State.setStream_cnts (s : State) (n : Nat) (v : SviStream) : (State.setStream s n v).cnts = s.cnts := rfl
@[simp] theorem State.setStream_bank (s : State) (n : Nat) (v : SviStream) : (State.setStream s n v).bank = s.bank := rfl
@[simp] theorem State.setStream_mbx (s : State) (n : Nat) (v : SviStream) : (State.setStream s n v).mbx = s.mbx := rfl
@[simp] theorem State.setStream_mem (s : State) (n : Nat) (v : SviStream) : (State.setStream s n v).mem = s.mem := rfl
@[simp] theorem State.setStream_time (s : State) (n : Nat) (v : SviStream) : (State.setStream s n v).time = s.time := rfl
@[simp] theorem State.setStream_elog (s : State) (n : Nat) (v : SviStream) : (State.setStream s n v).elog = s.elog := rfl
@[simp] theorem State.setStream_part (s : State) (n : Nat) (v : SviStream) : (State.setStream s n v).part = s.part := rfl
@[simp] theorem State.setStream_tide (s : State) (n : Nat) (v : SviStream) : (State.setStream s n v).tide = s.tide := rfl
@[simp] theorem State.setStream_lane (s : State) (n : Nat) (v : SviStream) : (State.setStream s n v).lane = s.lane := rfl
@[simp] theorem State.setStream_gate (s : State) (n : Nat) (v : SviStream) : (State.setStream s n v).gate = s.gate := rfl
@[simp] theorem State.setStream_fab (s : State) (n : Nat) (v : SviStream) : (State.setStream s n v).fab = s.fab := rfl
@[simp] theorem State.setStream_fdc (s : State) (n : Nat) (v : SviStream) : (State.setStream s n v).fdc = s.fdc := rfl
@[simp] theorem State.setStream_goose (s : State) (n : Nat) (v : SviStream) : (State.setStream s n v).goose = s.goose := rfl
@[simp] theorem State.setStream_twin (s : State) (n : Nat) (v : SviStream) : (State.setStream s n v).twin = s.twin := rfl
@[simp] theorem State.setStream_swc (s : State) (n : Nat) (v : SviStream) : (State.setStream s n v).swc = s.swc := rfl
@[simp] theorem State.setStream_port (s : State) (n : Nat) (v : SviStream) : (State.setStream s n v).port = s.port := rfl
@[simp] theorem State.setStream_drec (s : State) (n : Nat) (v : SviStream) : (State.setStream s n v).drec = s.drec := rfl
@[simp] theorem State.setStream_keys (s : State) (n : Nat) (v : SviStream) : (State.setStream s n v).keys = s.keys := rfl
@[simp] theorem State.setStream_clk (s : State) (n : Nat) (v : SviStream) : (State.setStream s n v).clk = s.clk := rfl
@[simp] theorem State.setStream_aon (s : State) (n : Nat) (v : SviStream) : (State.setStream s n v).aon = s.aon := rfl
@[simp] theorem State.setStream_boot (s : State) (n : Nat) (v : SviStream) : (State.setStream s n v).boot = s.boot := rfl
@[simp] theorem State.setStream_core (s : State) (n : Nat) (v : SviStream) : (State.setStream s n v).core = s.core := rfl
@[simp] theorem State.setStream_snap (s : State) (n : Nat) (v : SviStream) : (State.setStream s n v).snap = s.snap := rfl
@[simp] theorem State.setStream_freeCtr (s : State) (n : Nat) (v : SviStream) : (State.setStream s n v).freeCtr = s.freeCtr := rfl
@[simp] theorem State.setStream_pending (s : State) (n : Nat) (v : SviStream) : (State.setStream s n v).pending = s.pending := rfl

/-! State.setFch -/

@[simp] theorem State.setFch_regs (s : State) (c : Nat) (v : FdcCh) : (State.setFch s c v).regs = s.regs := rfl
@[simp] theorem State.setFch_aonRegs (s : State) (c : Nat) (v : FdcCh) : (State.setFch s c v).aonRegs = s.aonRegs := rfl
@[simp] theorem State.setFch_cnts (s : State) (c : Nat) (v : FdcCh) : (State.setFch s c v).cnts = s.cnts := rfl
@[simp] theorem State.setFch_bank (s : State) (c : Nat) (v : FdcCh) : (State.setFch s c v).bank = s.bank := rfl
@[simp] theorem State.setFch_mbx (s : State) (c : Nat) (v : FdcCh) : (State.setFch s c v).mbx = s.mbx := rfl
@[simp] theorem State.setFch_mem (s : State) (c : Nat) (v : FdcCh) : (State.setFch s c v).mem = s.mem := rfl
@[simp] theorem State.setFch_time (s : State) (c : Nat) (v : FdcCh) : (State.setFch s c v).time = s.time := rfl
@[simp] theorem State.setFch_elog (s : State) (c : Nat) (v : FdcCh) : (State.setFch s c v).elog = s.elog := rfl
@[simp] theorem State.setFch_part (s : State) (c : Nat) (v : FdcCh) : (State.setFch s c v).part = s.part := rfl
@[simp] theorem State.setFch_tide (s : State) (c : Nat) (v : FdcCh) : (State.setFch s c v).tide = s.tide := rfl
@[simp] theorem State.setFch_lane (s : State) (c : Nat) (v : FdcCh) : (State.setFch s c v).lane = s.lane := rfl
@[simp] theorem State.setFch_gate (s : State) (c : Nat) (v : FdcCh) : (State.setFch s c v).gate = s.gate := rfl
@[simp] theorem State.setFch_fab (s : State) (c : Nat) (v : FdcCh) : (State.setFch s c v).fab = s.fab := rfl
@[simp] theorem State.setFch_svi (s : State) (c : Nat) (v : FdcCh) : (State.setFch s c v).svi = s.svi := rfl
@[simp] theorem State.setFch_goose (s : State) (c : Nat) (v : FdcCh) : (State.setFch s c v).goose = s.goose := rfl
@[simp] theorem State.setFch_twin (s : State) (c : Nat) (v : FdcCh) : (State.setFch s c v).twin = s.twin := rfl
@[simp] theorem State.setFch_swc (s : State) (c : Nat) (v : FdcCh) : (State.setFch s c v).swc = s.swc := rfl
@[simp] theorem State.setFch_port (s : State) (c : Nat) (v : FdcCh) : (State.setFch s c v).port = s.port := rfl
@[simp] theorem State.setFch_drec (s : State) (c : Nat) (v : FdcCh) : (State.setFch s c v).drec = s.drec := rfl
@[simp] theorem State.setFch_keys (s : State) (c : Nat) (v : FdcCh) : (State.setFch s c v).keys = s.keys := rfl
@[simp] theorem State.setFch_clk (s : State) (c : Nat) (v : FdcCh) : (State.setFch s c v).clk = s.clk := rfl
@[simp] theorem State.setFch_aon (s : State) (c : Nat) (v : FdcCh) : (State.setFch s c v).aon = s.aon := rfl
@[simp] theorem State.setFch_boot (s : State) (c : Nat) (v : FdcCh) : (State.setFch s c v).boot = s.boot := rfl
@[simp] theorem State.setFch_core (s : State) (c : Nat) (v : FdcCh) : (State.setFch s c v).core = s.core := rfl
@[simp] theorem State.setFch_snap (s : State) (c : Nat) (v : FdcCh) : (State.setFch s c v).snap = s.snap := rfl
@[simp] theorem State.setFch_freeCtr (s : State) (c : Nat) (v : FdcCh) : (State.setFch s c v).freeCtr = s.freeCtr := rfl
@[simp] theorem State.setFch_pending (s : State) (c : Nat) (v : FdcCh) : (State.setFch s c v).pending = s.pending := rfl

/-! State.setFdb -/

@[simp] theorem State.setFdb_regs (s : State) (i : Nat) (e : FdbEnt) : (State.setFdb s i e).regs = s.regs := rfl
@[simp] theorem State.setFdb_aonRegs (s : State) (i : Nat) (e : FdbEnt) : (State.setFdb s i e).aonRegs = s.aonRegs := rfl
@[simp] theorem State.setFdb_cnts (s : State) (i : Nat) (e : FdbEnt) : (State.setFdb s i e).cnts = s.cnts := rfl
@[simp] theorem State.setFdb_bank (s : State) (i : Nat) (e : FdbEnt) : (State.setFdb s i e).bank = s.bank := rfl
@[simp] theorem State.setFdb_mbx (s : State) (i : Nat) (e : FdbEnt) : (State.setFdb s i e).mbx = s.mbx := rfl
@[simp] theorem State.setFdb_mem (s : State) (i : Nat) (e : FdbEnt) : (State.setFdb s i e).mem = s.mem := rfl
@[simp] theorem State.setFdb_time (s : State) (i : Nat) (e : FdbEnt) : (State.setFdb s i e).time = s.time := rfl
@[simp] theorem State.setFdb_elog (s : State) (i : Nat) (e : FdbEnt) : (State.setFdb s i e).elog = s.elog := rfl
@[simp] theorem State.setFdb_part (s : State) (i : Nat) (e : FdbEnt) : (State.setFdb s i e).part = s.part := rfl
@[simp] theorem State.setFdb_tide (s : State) (i : Nat) (e : FdbEnt) : (State.setFdb s i e).tide = s.tide := rfl
@[simp] theorem State.setFdb_lane (s : State) (i : Nat) (e : FdbEnt) : (State.setFdb s i e).lane = s.lane := rfl
@[simp] theorem State.setFdb_gate (s : State) (i : Nat) (e : FdbEnt) : (State.setFdb s i e).gate = s.gate := rfl
@[simp] theorem State.setFdb_fab (s : State) (i : Nat) (e : FdbEnt) : (State.setFdb s i e).fab = s.fab := rfl
@[simp] theorem State.setFdb_svi (s : State) (i : Nat) (e : FdbEnt) : (State.setFdb s i e).svi = s.svi := rfl
@[simp] theorem State.setFdb_fdc (s : State) (i : Nat) (e : FdbEnt) : (State.setFdb s i e).fdc = s.fdc := rfl
@[simp] theorem State.setFdb_goose (s : State) (i : Nat) (e : FdbEnt) : (State.setFdb s i e).goose = s.goose := rfl
@[simp] theorem State.setFdb_twin (s : State) (i : Nat) (e : FdbEnt) : (State.setFdb s i e).twin = s.twin := rfl
@[simp] theorem State.setFdb_port (s : State) (i : Nat) (e : FdbEnt) : (State.setFdb s i e).port = s.port := rfl
@[simp] theorem State.setFdb_drec (s : State) (i : Nat) (e : FdbEnt) : (State.setFdb s i e).drec = s.drec := rfl
@[simp] theorem State.setFdb_keys (s : State) (i : Nat) (e : FdbEnt) : (State.setFdb s i e).keys = s.keys := rfl
@[simp] theorem State.setFdb_clk (s : State) (i : Nat) (e : FdbEnt) : (State.setFdb s i e).clk = s.clk := rfl
@[simp] theorem State.setFdb_aon (s : State) (i : Nat) (e : FdbEnt) : (State.setFdb s i e).aon = s.aon := rfl
@[simp] theorem State.setFdb_boot (s : State) (i : Nat) (e : FdbEnt) : (State.setFdb s i e).boot = s.boot := rfl
@[simp] theorem State.setFdb_core (s : State) (i : Nat) (e : FdbEnt) : (State.setFdb s i e).core = s.core := rfl
@[simp] theorem State.setFdb_snap (s : State) (i : Nat) (e : FdbEnt) : (State.setFdb s i e).snap = s.snap := rfl
@[simp] theorem State.setFdb_freeCtr (s : State) (i : Nat) (e : FdbEnt) : (State.setFdb s i e).freeCtr = s.freeCtr := rfl
@[simp] theorem State.setFdb_pending (s : State) (i : Nat) (e : FdbEnt) : (State.setFdb s i e).pending = s.pending := rfl

/-! State.delFdb -/

@[simp] theorem State.delFdb_regs (s : State) (i : Nat) : (State.delFdb s i).regs = s.regs := rfl
@[simp] theorem State.delFdb_aonRegs (s : State) (i : Nat) : (State.delFdb s i).aonRegs = s.aonRegs := rfl
@[simp] theorem State.delFdb_cnts (s : State) (i : Nat) : (State.delFdb s i).cnts = s.cnts := rfl
@[simp] theorem State.delFdb_bank (s : State) (i : Nat) : (State.delFdb s i).bank = s.bank := rfl
@[simp] theorem State.delFdb_mbx (s : State) (i : Nat) : (State.delFdb s i).mbx = s.mbx := rfl
@[simp] theorem State.delFdb_mem (s : State) (i : Nat) : (State.delFdb s i).mem = s.mem := rfl
@[simp] theorem State.delFdb_time (s : State) (i : Nat) : (State.delFdb s i).time = s.time := rfl
@[simp] theorem State.delFdb_elog (s : State) (i : Nat) : (State.delFdb s i).elog = s.elog := rfl
@[simp] theorem State.delFdb_part (s : State) (i : Nat) : (State.delFdb s i).part = s.part := rfl
@[simp] theorem State.delFdb_tide (s : State) (i : Nat) : (State.delFdb s i).tide = s.tide := rfl
@[simp] theorem State.delFdb_lane (s : State) (i : Nat) : (State.delFdb s i).lane = s.lane := rfl
@[simp] theorem State.delFdb_gate (s : State) (i : Nat) : (State.delFdb s i).gate = s.gate := rfl
@[simp] theorem State.delFdb_fab (s : State) (i : Nat) : (State.delFdb s i).fab = s.fab := rfl
@[simp] theorem State.delFdb_svi (s : State) (i : Nat) : (State.delFdb s i).svi = s.svi := rfl
@[simp] theorem State.delFdb_fdc (s : State) (i : Nat) : (State.delFdb s i).fdc = s.fdc := rfl
@[simp] theorem State.delFdb_goose (s : State) (i : Nat) : (State.delFdb s i).goose = s.goose := rfl
@[simp] theorem State.delFdb_twin (s : State) (i : Nat) : (State.delFdb s i).twin = s.twin := rfl
@[simp] theorem State.delFdb_port (s : State) (i : Nat) : (State.delFdb s i).port = s.port := rfl
@[simp] theorem State.delFdb_drec (s : State) (i : Nat) : (State.delFdb s i).drec = s.drec := rfl
@[simp] theorem State.delFdb_keys (s : State) (i : Nat) : (State.delFdb s i).keys = s.keys := rfl
@[simp] theorem State.delFdb_clk (s : State) (i : Nat) : (State.delFdb s i).clk = s.clk := rfl
@[simp] theorem State.delFdb_aon (s : State) (i : Nat) : (State.delFdb s i).aon = s.aon := rfl
@[simp] theorem State.delFdb_boot (s : State) (i : Nat) : (State.delFdb s i).boot = s.boot := rfl
@[simp] theorem State.delFdb_core (s : State) (i : Nat) : (State.delFdb s i).core = s.core := rfl
@[simp] theorem State.delFdb_snap (s : State) (i : Nat) : (State.delFdb s i).snap = s.snap := rfl
@[simp] theorem State.delFdb_freeCtr (s : State) (i : Nat) : (State.delFdb s i).freeCtr = s.freeCtr := rfl
@[simp] theorem State.delFdb_pending (s : State) (i : Nat) : (State.delFdb s i).pending = s.pending := rfl

/-! State.setDd -/

@[simp] theorem State.setDd_regs (s : State) (k : Nat) (l : List DdEnt) : (State.setDd s k l).regs = s.regs := rfl
@[simp] theorem State.setDd_aonRegs (s : State) (k : Nat) (l : List DdEnt) : (State.setDd s k l).aonRegs = s.aonRegs := rfl
@[simp] theorem State.setDd_cnts (s : State) (k : Nat) (l : List DdEnt) : (State.setDd s k l).cnts = s.cnts := rfl
@[simp] theorem State.setDd_bank (s : State) (k : Nat) (l : List DdEnt) : (State.setDd s k l).bank = s.bank := rfl
@[simp] theorem State.setDd_mbx (s : State) (k : Nat) (l : List DdEnt) : (State.setDd s k l).mbx = s.mbx := rfl
@[simp] theorem State.setDd_mem (s : State) (k : Nat) (l : List DdEnt) : (State.setDd s k l).mem = s.mem := rfl
@[simp] theorem State.setDd_time (s : State) (k : Nat) (l : List DdEnt) : (State.setDd s k l).time = s.time := rfl
@[simp] theorem State.setDd_elog (s : State) (k : Nat) (l : List DdEnt) : (State.setDd s k l).elog = s.elog := rfl
@[simp] theorem State.setDd_part (s : State) (k : Nat) (l : List DdEnt) : (State.setDd s k l).part = s.part := rfl
@[simp] theorem State.setDd_tide (s : State) (k : Nat) (l : List DdEnt) : (State.setDd s k l).tide = s.tide := rfl
@[simp] theorem State.setDd_lane (s : State) (k : Nat) (l : List DdEnt) : (State.setDd s k l).lane = s.lane := rfl
@[simp] theorem State.setDd_gate (s : State) (k : Nat) (l : List DdEnt) : (State.setDd s k l).gate = s.gate := rfl
@[simp] theorem State.setDd_fab (s : State) (k : Nat) (l : List DdEnt) : (State.setDd s k l).fab = s.fab := rfl
@[simp] theorem State.setDd_svi (s : State) (k : Nat) (l : List DdEnt) : (State.setDd s k l).svi = s.svi := rfl
@[simp] theorem State.setDd_fdc (s : State) (k : Nat) (l : List DdEnt) : (State.setDd s k l).fdc = s.fdc := rfl
@[simp] theorem State.setDd_goose (s : State) (k : Nat) (l : List DdEnt) : (State.setDd s k l).goose = s.goose := rfl
@[simp] theorem State.setDd_twin (s : State) (k : Nat) (l : List DdEnt) : (State.setDd s k l).twin = s.twin := rfl
@[simp] theorem State.setDd_port (s : State) (k : Nat) (l : List DdEnt) : (State.setDd s k l).port = s.port := rfl
@[simp] theorem State.setDd_drec (s : State) (k : Nat) (l : List DdEnt) : (State.setDd s k l).drec = s.drec := rfl
@[simp] theorem State.setDd_keys (s : State) (k : Nat) (l : List DdEnt) : (State.setDd s k l).keys = s.keys := rfl
@[simp] theorem State.setDd_clk (s : State) (k : Nat) (l : List DdEnt) : (State.setDd s k l).clk = s.clk := rfl
@[simp] theorem State.setDd_aon (s : State) (k : Nat) (l : List DdEnt) : (State.setDd s k l).aon = s.aon := rfl
@[simp] theorem State.setDd_boot (s : State) (k : Nat) (l : List DdEnt) : (State.setDd s k l).boot = s.boot := rfl
@[simp] theorem State.setDd_core (s : State) (k : Nat) (l : List DdEnt) : (State.setDd s k l).core = s.core := rfl
@[simp] theorem State.setDd_snap (s : State) (k : Nat) (l : List DdEnt) : (State.setDd s k l).snap = s.snap := rfl
@[simp] theorem State.setDd_freeCtr (s : State) (k : Nat) (l : List DdEnt) : (State.setDd s k l).freeCtr = s.freeCtr := rfl
@[simp] theorem State.setDd_pending (s : State) (k : Nat) (l : List DdEnt) : (State.setDd s k l).pending = s.pending := rfl

/-! State.setPortCh -/

@[simp] theorem State.setPortCh_regs (s : State) (p : Nat) (v : PortCh) : (State.setPortCh s p v).regs = s.regs := rfl
@[simp] theorem State.setPortCh_aonRegs (s : State) (p : Nat) (v : PortCh) : (State.setPortCh s p v).aonRegs = s.aonRegs := rfl
@[simp] theorem State.setPortCh_cnts (s : State) (p : Nat) (v : PortCh) : (State.setPortCh s p v).cnts = s.cnts := rfl
@[simp] theorem State.setPortCh_bank (s : State) (p : Nat) (v : PortCh) : (State.setPortCh s p v).bank = s.bank := rfl
@[simp] theorem State.setPortCh_mbx (s : State) (p : Nat) (v : PortCh) : (State.setPortCh s p v).mbx = s.mbx := rfl
@[simp] theorem State.setPortCh_mem (s : State) (p : Nat) (v : PortCh) : (State.setPortCh s p v).mem = s.mem := rfl
@[simp] theorem State.setPortCh_time (s : State) (p : Nat) (v : PortCh) : (State.setPortCh s p v).time = s.time := rfl
@[simp] theorem State.setPortCh_elog (s : State) (p : Nat) (v : PortCh) : (State.setPortCh s p v).elog = s.elog := rfl
@[simp] theorem State.setPortCh_part (s : State) (p : Nat) (v : PortCh) : (State.setPortCh s p v).part = s.part := rfl
@[simp] theorem State.setPortCh_tide (s : State) (p : Nat) (v : PortCh) : (State.setPortCh s p v).tide = s.tide := rfl
@[simp] theorem State.setPortCh_lane (s : State) (p : Nat) (v : PortCh) : (State.setPortCh s p v).lane = s.lane := rfl
@[simp] theorem State.setPortCh_gate (s : State) (p : Nat) (v : PortCh) : (State.setPortCh s p v).gate = s.gate := rfl
@[simp] theorem State.setPortCh_fab (s : State) (p : Nat) (v : PortCh) : (State.setPortCh s p v).fab = s.fab := rfl
@[simp] theorem State.setPortCh_svi (s : State) (p : Nat) (v : PortCh) : (State.setPortCh s p v).svi = s.svi := rfl
@[simp] theorem State.setPortCh_fdc (s : State) (p : Nat) (v : PortCh) : (State.setPortCh s p v).fdc = s.fdc := rfl
@[simp] theorem State.setPortCh_goose (s : State) (p : Nat) (v : PortCh) : (State.setPortCh s p v).goose = s.goose := rfl
@[simp] theorem State.setPortCh_twin (s : State) (p : Nat) (v : PortCh) : (State.setPortCh s p v).twin = s.twin := rfl
@[simp] theorem State.setPortCh_swc (s : State) (p : Nat) (v : PortCh) : (State.setPortCh s p v).swc = s.swc := rfl
@[simp] theorem State.setPortCh_drec (s : State) (p : Nat) (v : PortCh) : (State.setPortCh s p v).drec = s.drec := rfl
@[simp] theorem State.setPortCh_keys (s : State) (p : Nat) (v : PortCh) : (State.setPortCh s p v).keys = s.keys := rfl
@[simp] theorem State.setPortCh_clk (s : State) (p : Nat) (v : PortCh) : (State.setPortCh s p v).clk = s.clk := rfl
@[simp] theorem State.setPortCh_aon (s : State) (p : Nat) (v : PortCh) : (State.setPortCh s p v).aon = s.aon := rfl
@[simp] theorem State.setPortCh_boot (s : State) (p : Nat) (v : PortCh) : (State.setPortCh s p v).boot = s.boot := rfl
@[simp] theorem State.setPortCh_core (s : State) (p : Nat) (v : PortCh) : (State.setPortCh s p v).core = s.core := rfl
@[simp] theorem State.setPortCh_snap (s : State) (p : Nat) (v : PortCh) : (State.setPortCh s p v).snap = s.snap := rfl
@[simp] theorem State.setPortCh_freeCtr (s : State) (p : Nat) (v : PortCh) : (State.setPortCh s p v).freeCtr = s.freeCtr := rfl
@[simp] theorem State.setPortCh_pending (s : State) (p : Nat) (v : PortCh) : (State.setPortCh s p v).pending = s.pending := rfl

/-! State.setSwq -/

@[simp] theorem State.setSwq_regs (s : State) (e c : Nat) (l : List SwCopy) : (State.setSwq s e c l).regs = s.regs := rfl
@[simp] theorem State.setSwq_aonRegs (s : State) (e c : Nat) (l : List SwCopy) : (State.setSwq s e c l).aonRegs = s.aonRegs := rfl
@[simp] theorem State.setSwq_cnts (s : State) (e c : Nat) (l : List SwCopy) : (State.setSwq s e c l).cnts = s.cnts := rfl
@[simp] theorem State.setSwq_bank (s : State) (e c : Nat) (l : List SwCopy) : (State.setSwq s e c l).bank = s.bank := rfl
@[simp] theorem State.setSwq_mbx (s : State) (e c : Nat) (l : List SwCopy) : (State.setSwq s e c l).mbx = s.mbx := rfl
@[simp] theorem State.setSwq_mem (s : State) (e c : Nat) (l : List SwCopy) : (State.setSwq s e c l).mem = s.mem := rfl
@[simp] theorem State.setSwq_time (s : State) (e c : Nat) (l : List SwCopy) : (State.setSwq s e c l).time = s.time := rfl
@[simp] theorem State.setSwq_elog (s : State) (e c : Nat) (l : List SwCopy) : (State.setSwq s e c l).elog = s.elog := rfl
@[simp] theorem State.setSwq_part (s : State) (e c : Nat) (l : List SwCopy) : (State.setSwq s e c l).part = s.part := rfl
@[simp] theorem State.setSwq_tide (s : State) (e c : Nat) (l : List SwCopy) : (State.setSwq s e c l).tide = s.tide := rfl
@[simp] theorem State.setSwq_lane (s : State) (e c : Nat) (l : List SwCopy) : (State.setSwq s e c l).lane = s.lane := rfl
@[simp] theorem State.setSwq_gate (s : State) (e c : Nat) (l : List SwCopy) : (State.setSwq s e c l).gate = s.gate := rfl
@[simp] theorem State.setSwq_fab (s : State) (e c : Nat) (l : List SwCopy) : (State.setSwq s e c l).fab = s.fab := rfl
@[simp] theorem State.setSwq_svi (s : State) (e c : Nat) (l : List SwCopy) : (State.setSwq s e c l).svi = s.svi := rfl
@[simp] theorem State.setSwq_fdc (s : State) (e c : Nat) (l : List SwCopy) : (State.setSwq s e c l).fdc = s.fdc := rfl
@[simp] theorem State.setSwq_goose (s : State) (e c : Nat) (l : List SwCopy) : (State.setSwq s e c l).goose = s.goose := rfl
@[simp] theorem State.setSwq_twin (s : State) (e c : Nat) (l : List SwCopy) : (State.setSwq s e c l).twin = s.twin := rfl
@[simp] theorem State.setSwq_port (s : State) (e c : Nat) (l : List SwCopy) : (State.setSwq s e c l).port = s.port := rfl
@[simp] theorem State.setSwq_drec (s : State) (e c : Nat) (l : List SwCopy) : (State.setSwq s e c l).drec = s.drec := rfl
@[simp] theorem State.setSwq_keys (s : State) (e c : Nat) (l : List SwCopy) : (State.setSwq s e c l).keys = s.keys := rfl
@[simp] theorem State.setSwq_clk (s : State) (e c : Nat) (l : List SwCopy) : (State.setSwq s e c l).clk = s.clk := rfl
@[simp] theorem State.setSwq_aon (s : State) (e c : Nat) (l : List SwCopy) : (State.setSwq s e c l).aon = s.aon := rfl
@[simp] theorem State.setSwq_boot (s : State) (e c : Nat) (l : List SwCopy) : (State.setSwq s e c l).boot = s.boot := rfl
@[simp] theorem State.setSwq_core (s : State) (e c : Nat) (l : List SwCopy) : (State.setSwq s e c l).core = s.core := rfl
@[simp] theorem State.setSwq_snap (s : State) (e c : Nat) (l : List SwCopy) : (State.setSwq s e c l).snap = s.snap := rfl
@[simp] theorem State.setSwq_freeCtr (s : State) (e c : Nat) (l : List SwCopy) : (State.setSwq s e c l).freeCtr = s.freeCtr := rfl
@[simp] theorem State.setSwq_pending (s : State) (e c : Nat) (l : List SwCopy) : (State.setSwq s e c l).pending = s.pending := rfl

/-! State.setDeficit -/

@[simp] theorem State.setDeficit_regs (s : State) (e c v : Nat) : (State.setDeficit s e c v).regs = s.regs := rfl
@[simp] theorem State.setDeficit_aonRegs (s : State) (e c v : Nat) : (State.setDeficit s e c v).aonRegs = s.aonRegs := rfl
@[simp] theorem State.setDeficit_cnts (s : State) (e c v : Nat) : (State.setDeficit s e c v).cnts = s.cnts := rfl
@[simp] theorem State.setDeficit_bank (s : State) (e c v : Nat) : (State.setDeficit s e c v).bank = s.bank := rfl
@[simp] theorem State.setDeficit_mbx (s : State) (e c v : Nat) : (State.setDeficit s e c v).mbx = s.mbx := rfl
@[simp] theorem State.setDeficit_mem (s : State) (e c v : Nat) : (State.setDeficit s e c v).mem = s.mem := rfl
@[simp] theorem State.setDeficit_time (s : State) (e c v : Nat) : (State.setDeficit s e c v).time = s.time := rfl
@[simp] theorem State.setDeficit_elog (s : State) (e c v : Nat) : (State.setDeficit s e c v).elog = s.elog := rfl
@[simp] theorem State.setDeficit_part (s : State) (e c v : Nat) : (State.setDeficit s e c v).part = s.part := rfl
@[simp] theorem State.setDeficit_tide (s : State) (e c v : Nat) : (State.setDeficit s e c v).tide = s.tide := rfl
@[simp] theorem State.setDeficit_lane (s : State) (e c v : Nat) : (State.setDeficit s e c v).lane = s.lane := rfl
@[simp] theorem State.setDeficit_gate (s : State) (e c v : Nat) : (State.setDeficit s e c v).gate = s.gate := rfl
@[simp] theorem State.setDeficit_fab (s : State) (e c v : Nat) : (State.setDeficit s e c v).fab = s.fab := rfl
@[simp] theorem State.setDeficit_svi (s : State) (e c v : Nat) : (State.setDeficit s e c v).svi = s.svi := rfl
@[simp] theorem State.setDeficit_fdc (s : State) (e c v : Nat) : (State.setDeficit s e c v).fdc = s.fdc := rfl
@[simp] theorem State.setDeficit_goose (s : State) (e c v : Nat) : (State.setDeficit s e c v).goose = s.goose := rfl
@[simp] theorem State.setDeficit_twin (s : State) (e c v : Nat) : (State.setDeficit s e c v).twin = s.twin := rfl
@[simp] theorem State.setDeficit_port (s : State) (e c v : Nat) : (State.setDeficit s e c v).port = s.port := rfl
@[simp] theorem State.setDeficit_drec (s : State) (e c v : Nat) : (State.setDeficit s e c v).drec = s.drec := rfl
@[simp] theorem State.setDeficit_keys (s : State) (e c v : Nat) : (State.setDeficit s e c v).keys = s.keys := rfl
@[simp] theorem State.setDeficit_clk (s : State) (e c v : Nat) : (State.setDeficit s e c v).clk = s.clk := rfl
@[simp] theorem State.setDeficit_aon (s : State) (e c v : Nat) : (State.setDeficit s e c v).aon = s.aon := rfl
@[simp] theorem State.setDeficit_boot (s : State) (e c v : Nat) : (State.setDeficit s e c v).boot = s.boot := rfl
@[simp] theorem State.setDeficit_core (s : State) (e c v : Nat) : (State.setDeficit s e c v).core = s.core := rfl
@[simp] theorem State.setDeficit_snap (s : State) (e c v : Nat) : (State.setDeficit s e c v).snap = s.snap := rfl
@[simp] theorem State.setDeficit_freeCtr (s : State) (e c v : Nat) : (State.setDeficit s e c v).freeCtr = s.freeCtr := rfl
@[simp] theorem State.setDeficit_pending (s : State) (e c v : Nat) : (State.setDeficit s e c v).pending = s.pending := rfl

/-! State.setTurn -/

@[simp] theorem State.setTurn_regs (s : State) (e v : Nat) : (State.setTurn s e v).regs = s.regs := rfl
@[simp] theorem State.setTurn_aonRegs (s : State) (e v : Nat) : (State.setTurn s e v).aonRegs = s.aonRegs := rfl
@[simp] theorem State.setTurn_cnts (s : State) (e v : Nat) : (State.setTurn s e v).cnts = s.cnts := rfl
@[simp] theorem State.setTurn_bank (s : State) (e v : Nat) : (State.setTurn s e v).bank = s.bank := rfl
@[simp] theorem State.setTurn_mbx (s : State) (e v : Nat) : (State.setTurn s e v).mbx = s.mbx := rfl
@[simp] theorem State.setTurn_mem (s : State) (e v : Nat) : (State.setTurn s e v).mem = s.mem := rfl
@[simp] theorem State.setTurn_time (s : State) (e v : Nat) : (State.setTurn s e v).time = s.time := rfl
@[simp] theorem State.setTurn_elog (s : State) (e v : Nat) : (State.setTurn s e v).elog = s.elog := rfl
@[simp] theorem State.setTurn_part (s : State) (e v : Nat) : (State.setTurn s e v).part = s.part := rfl
@[simp] theorem State.setTurn_tide (s : State) (e v : Nat) : (State.setTurn s e v).tide = s.tide := rfl
@[simp] theorem State.setTurn_lane (s : State) (e v : Nat) : (State.setTurn s e v).lane = s.lane := rfl
@[simp] theorem State.setTurn_gate (s : State) (e v : Nat) : (State.setTurn s e v).gate = s.gate := rfl
@[simp] theorem State.setTurn_fab (s : State) (e v : Nat) : (State.setTurn s e v).fab = s.fab := rfl
@[simp] theorem State.setTurn_svi (s : State) (e v : Nat) : (State.setTurn s e v).svi = s.svi := rfl
@[simp] theorem State.setTurn_fdc (s : State) (e v : Nat) : (State.setTurn s e v).fdc = s.fdc := rfl
@[simp] theorem State.setTurn_goose (s : State) (e v : Nat) : (State.setTurn s e v).goose = s.goose := rfl
@[simp] theorem State.setTurn_twin (s : State) (e v : Nat) : (State.setTurn s e v).twin = s.twin := rfl
@[simp] theorem State.setTurn_port (s : State) (e v : Nat) : (State.setTurn s e v).port = s.port := rfl
@[simp] theorem State.setTurn_drec (s : State) (e v : Nat) : (State.setTurn s e v).drec = s.drec := rfl
@[simp] theorem State.setTurn_keys (s : State) (e v : Nat) : (State.setTurn s e v).keys = s.keys := rfl
@[simp] theorem State.setTurn_clk (s : State) (e v : Nat) : (State.setTurn s e v).clk = s.clk := rfl
@[simp] theorem State.setTurn_aon (s : State) (e v : Nat) : (State.setTurn s e v).aon = s.aon := rfl
@[simp] theorem State.setTurn_boot (s : State) (e v : Nat) : (State.setTurn s e v).boot = s.boot := rfl
@[simp] theorem State.setTurn_core (s : State) (e v : Nat) : (State.setTurn s e v).core = s.core := rfl
@[simp] theorem State.setTurn_snap (s : State) (e v : Nat) : (State.setTurn s e v).snap = s.snap := rfl
@[simp] theorem State.setTurn_freeCtr (s : State) (e v : Nat) : (State.setTurn s e v).freeCtr = s.freeCtr := rfl
@[simp] theorem State.setTurn_pending (s : State) (e v : Nat) : (State.setTurn s e v).pending = s.pending := rfl

/-! State.setTout -/

@[simp] theorem State.setTout_regs (s : State) (n : Nat) (t : ToutSt) : (State.setTout s n t).regs = s.regs := rfl
@[simp] theorem State.setTout_aonRegs (s : State) (n : Nat) (t : ToutSt) : (State.setTout s n t).aonRegs = s.aonRegs := rfl
@[simp] theorem State.setTout_cnts (s : State) (n : Nat) (t : ToutSt) : (State.setTout s n t).cnts = s.cnts := rfl
@[simp] theorem State.setTout_bank (s : State) (n : Nat) (t : ToutSt) : (State.setTout s n t).bank = s.bank := rfl
@[simp] theorem State.setTout_mbx (s : State) (n : Nat) (t : ToutSt) : (State.setTout s n t).mbx = s.mbx := rfl
@[simp] theorem State.setTout_mem (s : State) (n : Nat) (t : ToutSt) : (State.setTout s n t).mem = s.mem := rfl
@[simp] theorem State.setTout_elog (s : State) (n : Nat) (t : ToutSt) : (State.setTout s n t).elog = s.elog := rfl
@[simp] theorem State.setTout_part (s : State) (n : Nat) (t : ToutSt) : (State.setTout s n t).part = s.part := rfl
@[simp] theorem State.setTout_tide (s : State) (n : Nat) (t : ToutSt) : (State.setTout s n t).tide = s.tide := rfl
@[simp] theorem State.setTout_lane (s : State) (n : Nat) (t : ToutSt) : (State.setTout s n t).lane = s.lane := rfl
@[simp] theorem State.setTout_gate (s : State) (n : Nat) (t : ToutSt) : (State.setTout s n t).gate = s.gate := rfl
@[simp] theorem State.setTout_fab (s : State) (n : Nat) (t : ToutSt) : (State.setTout s n t).fab = s.fab := rfl
@[simp] theorem State.setTout_svi (s : State) (n : Nat) (t : ToutSt) : (State.setTout s n t).svi = s.svi := rfl
@[simp] theorem State.setTout_fdc (s : State) (n : Nat) (t : ToutSt) : (State.setTout s n t).fdc = s.fdc := rfl
@[simp] theorem State.setTout_goose (s : State) (n : Nat) (t : ToutSt) : (State.setTout s n t).goose = s.goose := rfl
@[simp] theorem State.setTout_twin (s : State) (n : Nat) (t : ToutSt) : (State.setTout s n t).twin = s.twin := rfl
@[simp] theorem State.setTout_swc (s : State) (n : Nat) (t : ToutSt) : (State.setTout s n t).swc = s.swc := rfl
@[simp] theorem State.setTout_port (s : State) (n : Nat) (t : ToutSt) : (State.setTout s n t).port = s.port := rfl
@[simp] theorem State.setTout_drec (s : State) (n : Nat) (t : ToutSt) : (State.setTout s n t).drec = s.drec := rfl
@[simp] theorem State.setTout_keys (s : State) (n : Nat) (t : ToutSt) : (State.setTout s n t).keys = s.keys := rfl
@[simp] theorem State.setTout_clk (s : State) (n : Nat) (t : ToutSt) : (State.setTout s n t).clk = s.clk := rfl
@[simp] theorem State.setTout_aon (s : State) (n : Nat) (t : ToutSt) : (State.setTout s n t).aon = s.aon := rfl
@[simp] theorem State.setTout_boot (s : State) (n : Nat) (t : ToutSt) : (State.setTout s n t).boot = s.boot := rfl
@[simp] theorem State.setTout_core (s : State) (n : Nat) (t : ToutSt) : (State.setTout s n t).core = s.core := rfl
@[simp] theorem State.setTout_snap (s : State) (n : Nat) (t : ToutSt) : (State.setTout s n t).snap = s.snap := rfl
@[simp] theorem State.setTout_freeCtr (s : State) (n : Nat) (t : ToutSt) : (State.setTout s n t).freeCtr = s.freeCtr := rfl
@[simp] theorem State.setTout_pending (s : State) (n : Nat) (t : ToutSt) : (State.setTout s n t).pending = s.pending := rfl

/-! State.setTin -/

@[simp] theorem State.setTin_aonRegs (s : State) (n : Nat) (t : TinSt) : (State.setTin s n t).aonRegs = s.aonRegs := rfl
@[simp] theorem State.setTin_cnts (s : State) (n : Nat) (t : TinSt) : (State.setTin s n t).cnts = s.cnts := rfl
@[simp] theorem State.setTin_bank (s : State) (n : Nat) (t : TinSt) : (State.setTin s n t).bank = s.bank := rfl
@[simp] theorem State.setTin_mbx (s : State) (n : Nat) (t : TinSt) : (State.setTin s n t).mbx = s.mbx := rfl
@[simp] theorem State.setTin_mem (s : State) (n : Nat) (t : TinSt) : (State.setTin s n t).mem = s.mem := rfl
@[simp] theorem State.setTin_elog (s : State) (n : Nat) (t : TinSt) : (State.setTin s n t).elog = s.elog := rfl
@[simp] theorem State.setTin_part (s : State) (n : Nat) (t : TinSt) : (State.setTin s n t).part = s.part := rfl
@[simp] theorem State.setTin_tide (s : State) (n : Nat) (t : TinSt) : (State.setTin s n t).tide = s.tide := rfl
@[simp] theorem State.setTin_lane (s : State) (n : Nat) (t : TinSt) : (State.setTin s n t).lane = s.lane := rfl
@[simp] theorem State.setTin_gate (s : State) (n : Nat) (t : TinSt) : (State.setTin s n t).gate = s.gate := rfl
@[simp] theorem State.setTin_fab (s : State) (n : Nat) (t : TinSt) : (State.setTin s n t).fab = s.fab := rfl
@[simp] theorem State.setTin_svi (s : State) (n : Nat) (t : TinSt) : (State.setTin s n t).svi = s.svi := rfl
@[simp] theorem State.setTin_fdc (s : State) (n : Nat) (t : TinSt) : (State.setTin s n t).fdc = s.fdc := rfl
@[simp] theorem State.setTin_goose (s : State) (n : Nat) (t : TinSt) : (State.setTin s n t).goose = s.goose := rfl
@[simp] theorem State.setTin_twin (s : State) (n : Nat) (t : TinSt) : (State.setTin s n t).twin = s.twin := rfl
@[simp] theorem State.setTin_swc (s : State) (n : Nat) (t : TinSt) : (State.setTin s n t).swc = s.swc := rfl
@[simp] theorem State.setTin_port (s : State) (n : Nat) (t : TinSt) : (State.setTin s n t).port = s.port := rfl
@[simp] theorem State.setTin_drec (s : State) (n : Nat) (t : TinSt) : (State.setTin s n t).drec = s.drec := rfl
@[simp] theorem State.setTin_keys (s : State) (n : Nat) (t : TinSt) : (State.setTin s n t).keys = s.keys := rfl
@[simp] theorem State.setTin_clk (s : State) (n : Nat) (t : TinSt) : (State.setTin s n t).clk = s.clk := rfl
@[simp] theorem State.setTin_aon (s : State) (n : Nat) (t : TinSt) : (State.setTin s n t).aon = s.aon := rfl
@[simp] theorem State.setTin_boot (s : State) (n : Nat) (t : TinSt) : (State.setTin s n t).boot = s.boot := rfl
@[simp] theorem State.setTin_core (s : State) (n : Nat) (t : TinSt) : (State.setTin s n t).core = s.core := rfl
@[simp] theorem State.setTin_snap (s : State) (n : Nat) (t : TinSt) : (State.setTin s n t).snap = s.snap := rfl
@[simp] theorem State.setTin_freeCtr (s : State) (n : Nat) (t : TinSt) : (State.setTin s n t).freeCtr = s.freeCtr := rfl
@[simp] theorem State.setTin_pending (s : State) (n : Nat) (t : TinSt) : (State.setTin s n t).pending = s.pending := rfl

/-! State.setSh -/

@[simp] theorem State.setSh_cnts (s : State) (f : Fld) (v : Nat) : (State.setSh s f v).cnts = s.cnts := rfl
@[simp] theorem State.setSh_bank (s : State) (f : Fld) (v : Nat) : (State.setSh s f v).bank = s.bank := rfl
@[simp] theorem State.setSh_mbx (s : State) (f : Fld) (v : Nat) : (State.setSh s f v).mbx = s.mbx := rfl
@[simp] theorem State.setSh_mem (s : State) (f : Fld) (v : Nat) : (State.setSh s f v).mem = s.mem := rfl
@[simp] theorem State.setSh_time (s : State) (f : Fld) (v : Nat) : (State.setSh s f v).time = s.time := rfl
@[simp] theorem State.setSh_elog (s : State) (f : Fld) (v : Nat) : (State.setSh s f v).elog = s.elog := rfl
@[simp] theorem State.setSh_part (s : State) (f : Fld) (v : Nat) : (State.setSh s f v).part = s.part := rfl
@[simp] theorem State.setSh_tide (s : State) (f : Fld) (v : Nat) : (State.setSh s f v).tide = s.tide := rfl
@[simp] theorem State.setSh_lane (s : State) (f : Fld) (v : Nat) : (State.setSh s f v).lane = s.lane := rfl
@[simp] theorem State.setSh_gate (s : State) (f : Fld) (v : Nat) : (State.setSh s f v).gate = s.gate := rfl
@[simp] theorem State.setSh_fab (s : State) (f : Fld) (v : Nat) : (State.setSh s f v).fab = s.fab := rfl
@[simp] theorem State.setSh_svi (s : State) (f : Fld) (v : Nat) : (State.setSh s f v).svi = s.svi := rfl
@[simp] theorem State.setSh_fdc (s : State) (f : Fld) (v : Nat) : (State.setSh s f v).fdc = s.fdc := rfl
@[simp] theorem State.setSh_goose (s : State) (f : Fld) (v : Nat) : (State.setSh s f v).goose = s.goose := rfl
@[simp] theorem State.setSh_twin (s : State) (f : Fld) (v : Nat) : (State.setSh s f v).twin = s.twin := rfl
@[simp] theorem State.setSh_swc (s : State) (f : Fld) (v : Nat) : (State.setSh s f v).swc = s.swc := rfl
@[simp] theorem State.setSh_port (s : State) (f : Fld) (v : Nat) : (State.setSh s f v).port = s.port := rfl
@[simp] theorem State.setSh_drec (s : State) (f : Fld) (v : Nat) : (State.setSh s f v).drec = s.drec := rfl
@[simp] theorem State.setSh_keys (s : State) (f : Fld) (v : Nat) : (State.setSh s f v).keys = s.keys := rfl
@[simp] theorem State.setSh_clk (s : State) (f : Fld) (v : Nat) : (State.setSh s f v).clk = s.clk := rfl
@[simp] theorem State.setSh_aon (s : State) (f : Fld) (v : Nat) : (State.setSh s f v).aon = s.aon := rfl
@[simp] theorem State.setSh_boot (s : State) (f : Fld) (v : Nat) : (State.setSh s f v).boot = s.boot := rfl
@[simp] theorem State.setSh_core (s : State) (f : Fld) (v : Nat) : (State.setSh s f v).core = s.core := rfl
@[simp] theorem State.setSh_snap (s : State) (f : Fld) (v : Nat) : (State.setSh s f v).snap = s.snap := rfl
@[simp] theorem State.setSh_freeCtr (s : State) (f : Fld) (v : Nat) : (State.setSh s f v).freeCtr = s.freeCtr := rfl
@[simp] theorem State.setSh_pending (s : State) (f : Fld) (v : Nat) : (State.setSh s f v).pending = s.pending := rfl

/-! State.takeFree -/

@[simp] theorem State.takeFree_regs (s : State) : s.takeFree.2.regs = s.regs := rfl
@[simp] theorem State.takeFree_aonRegs (s : State) : s.takeFree.2.aonRegs = s.aonRegs := rfl
@[simp] theorem State.takeFree_cnts (s : State) : s.takeFree.2.cnts = s.cnts := rfl
@[simp] theorem State.takeFree_bank (s : State) : s.takeFree.2.bank = s.bank := rfl
@[simp] theorem State.takeFree_mbx (s : State) : s.takeFree.2.mbx = s.mbx := rfl
@[simp] theorem State.takeFree_mem (s : State) : s.takeFree.2.mem = s.mem := rfl
@[simp] theorem State.takeFree_time (s : State) : s.takeFree.2.time = s.time := rfl
@[simp] theorem State.takeFree_elog (s : State) : s.takeFree.2.elog = s.elog := rfl
@[simp] theorem State.takeFree_part (s : State) : s.takeFree.2.part = s.part := rfl
@[simp] theorem State.takeFree_tide (s : State) : s.takeFree.2.tide = s.tide := rfl
@[simp] theorem State.takeFree_lane (s : State) : s.takeFree.2.lane = s.lane := rfl
@[simp] theorem State.takeFree_gate (s : State) : s.takeFree.2.gate = s.gate := rfl
@[simp] theorem State.takeFree_fab (s : State) : s.takeFree.2.fab = s.fab := rfl
@[simp] theorem State.takeFree_svi (s : State) : s.takeFree.2.svi = s.svi := rfl
@[simp] theorem State.takeFree_fdc (s : State) : s.takeFree.2.fdc = s.fdc := rfl
@[simp] theorem State.takeFree_goose (s : State) : s.takeFree.2.goose = s.goose := rfl
@[simp] theorem State.takeFree_twin (s : State) : s.takeFree.2.twin = s.twin := rfl
@[simp] theorem State.takeFree_swc (s : State) : s.takeFree.2.swc = s.swc := rfl
@[simp] theorem State.takeFree_port (s : State) : s.takeFree.2.port = s.port := rfl
@[simp] theorem State.takeFree_drec (s : State) : s.takeFree.2.drec = s.drec := rfl
@[simp] theorem State.takeFree_keys (s : State) : s.takeFree.2.keys = s.keys := rfl
@[simp] theorem State.takeFree_clk (s : State) : s.takeFree.2.clk = s.clk := rfl
@[simp] theorem State.takeFree_aon (s : State) : s.takeFree.2.aon = s.aon := rfl
@[simp] theorem State.takeFree_boot (s : State) : s.takeFree.2.boot = s.boot := rfl
@[simp] theorem State.takeFree_core (s : State) : s.takeFree.2.core = s.core := rfl
@[simp] theorem State.takeFree_snap (s : State) : s.takeFree.2.snap = s.snap := rfl
@[simp] theorem State.takeFree_pending (s : State) : s.takeFree.2.pending = s.pending := rfl

end Sys2Proof.Machine
end

