-- ==== Sys2Proof/Laws/Ops.lean ====
section
/-! SUPPORT. What each shared operation does, said once: register fields, counters, flags, interrupts, event records, mailboxes and memory. -/

set_option Elab.async false

namespace Sys2Proof.Machine

/-! ## Register fields -/

/-- A field reads as the value last written there, cut to its width. -/
@[simp] theorem fld_setFld_same (s : State) (f : Fld) (v i : Nat) : (s.setFld f v i).fld f i = v % 2 ^ f.width :=
  sparseGet_set_self _ _ _ _

/-- Fields at different places of their registers have different keys, whatever their instances. -/
theorem key_ne {f g : Fld} (h : (f.off % 65536, f.lo % 32) ≠ (g.off % 65536, g.lo % 32)) (i j : Nat)
    (hf : f.off < 65536 ∧ f.lo < 32 := by decide) (hg : g.off < 65536 ∧ g.lo < 32 := by decide) : f.key i ≠ g.key j := by
  intro e
  apply h
  unfold Fld.key blkKey at e
  have : f.lo = g.lo := by omega
  have : f.off = g.off := by omega
  simp_all

/-- A field reads as before after a write of a field at another place. -/
theorem fld_setFld_other (s : State) {f g : Fld} (v i j : Nat) (h : g.key j ≠ f.key i) : (s.setFld f v i).fld g j = s.fld g j :=
  sparseGet_set_other _ _ _ h _

/-- Two fields that no instances of which share a key: they lie at different places of their registers. -/
def Fld.apart (f g : Fld) : Bool :=
  decide (f.blk % 32 ≠ g.blk % 32) || decide (f.kind % 8 ≠ g.kind % 8)
    || (decide (f.off < 65536) && decide (g.off < 65536) && decide (f.lo < 32) && decide (g.lo < 32) && (decide (f.off ≠ g.off) || decide (f.lo ≠ g.lo)))

theorem Fld.apart_key {f g : Fld} (h : f.apart g = true) (i j : Nat) : f.key i ≠ g.key j := by
  simp only [Fld.apart, Bool.and_eq_true, Bool.or_eq_true, decide_eq_true_eq] at h
  unfold Fld.key blkKey
  omega

theorem fld_setFld_apart (s : State) {f g : Fld} (v i j : Nat) (h : g.apart f = true) : (s.setFld f v i).fld g j = s.fld g j :=
  fld_setFld_other s v i j (Fld.apart_key h j i)

/-- The same field of another instance reads as before. -/
theorem fld_setFld_inst (s : State) (f : Fld) (v : Nat) {i j : Nat} (h : j ≠ i) : (s.setFld f v i).fld f j = s.fld f j :=
  fld_setFld_other s v i j (by unfold Fld.key blkKey; omega)

@[simp] theorem flag_setFlag_same (s : State) (f : Fld) (b : Bool) (i : Nat) (h : f.width = 1) : (s.setFlag f b i).flag f i = b := by
  cases b <;> simp [State.flag, State.setFlag, h, ofBit]

theorem fld_setFlag_same (s : State) (f : Fld) (b : Bool) (i : Nat) (h : f.width = 1) : (s.setFlag f b i).fld f i = ofBit b := by
  cases b <;> simp [State.setFlag, h, ofBit]

theorem fld_setFlag_apart (s : State) {f g : Fld} (b : Bool) (i j : Nat) (h : g.apart f = true) : (s.setFlag f b i).fld g j = s.fld g j :=
  fld_setFld_apart s _ i j h

theorem flag_setFld_apart (s : State) {f g : Fld} (v i j : Nat) (h : g.apart f = true) : (s.setFld f v i).flag g j = s.flag g j := by
  unfold State.flag; rw [fld_setFld_apart s v i j h]

theorem flag_setFlag_apart (s : State) {f g : Fld} (b : Bool) (i j : Nat) (h : g.apart f = true) : (s.setFlag f b i).flag g j = s.flag g j :=
  flag_setFld_apart s _ i j h

/-- A part that does not hold the registers leaves every field as it was. -/
theorem fld_of_regs {s t : State} (h : t.regs = s.regs) (f : Fld) (i : Nat) : t.fld f i = s.fld f i := by unfold State.fld; rw [h]

theorem flag_of_regs {s t : State} (h : t.regs = s.regs) (f : Fld) (i : Nat) : t.flag f i = s.flag f i := by unfold State.flag; rw [fld_of_regs h]

@[simp] theorem ctr_setFld (s : State) (f : Fld) (v i : Nat) (c : Ctr) (j : Nat) : (s.setFld f v i).ctr c j = s.ctr c j := rfl

@[simp] theorem ctr_setFlag (s : State) (f : Fld) (b : Bool) (i : Nat) (c : Ctr) (j : Nat) : (s.setFlag f b i).ctr c j = s.ctr c j := rfl

/-! ## Counters (R489, R493) -/

theorem cnts_setOvf (s : State) (c : Ctr) (i : Nat) : (s.setOvf c i).cnts = s.cnts := by
  unfold State.setOvf; cases c.inst <;> cases c.how <;> rfl

theorem cnts_countBy (s : State) (c : Ctr) (n i : Nat) :
    (s.countBy c n i).cnts = sparseSet 0 s.cnts (c.key i) (min ctrMax (s.ctr c i + n)) := by
  unfold State.countBy
  by_cases h : s.ctr c i + n ≤ ctrMax
  · simp only [h, if_true, Nat.min_eq_right h]
  · simp only [h, if_false, cnts_setOvf, Nat.min_eq_left (Nat.le_of_not_le h)]

/-- A counter counts, and stays at its greatest value once it is there. -/
@[simp] theorem ctr_countBy_same (s : State) (c : Ctr) (n i : Nat) : (s.countBy c n i).ctr c i = min ctrMax (s.ctr c i + n) := by
  unfold State.ctr; rw [cnts_countBy]; exact sparseGet_set_self _ _ _ _

@[simp] theorem ctr_count_same (s : State) (c : Ctr) (i : Nat) : (s.count c i).ctr c i = min ctrMax (s.ctr c i + 1) := ctr_countBy_same s c 1 i

theorem ctr_count_other (s : State) {c d : Ctr} {i j : Nat} (h : d.key j ≠ c.key i) : (s.count c i).ctr d j = s.ctr d j := by
  unfold State.ctr State.count; rw [cnts_countBy]; exact sparseGet_set_other _ _ _ h _

/-! ## What an operation touches -/

theorem Touches.refl (ks cs bs : List Nat) (s : State) : Touches ks cs bs s s := ⟨fun _ _ _ => rfl, fun _ _ _ => rfl, rfl⟩

theorem Touches.trans {ks cs bs : List Nat} {a b c : State} (h : Touches ks cs bs a b) (k : Touches ks cs bs b c) : Touches ks cs bs a c := by
  refine ⟨fun x y z => (k.1 x y z).trans (h.1 x y z), fun x y z => (k.2.1 x y z).trans (h.2.1 x y z), ?_⟩
  have e := k.2.2; have f := h.2.2
  cases a; cases b; cases c
  simp only [State.mk.injEq] at e f ⊢
  simp_all

theorem Touches.setFld {ks cs bs : List Nat} {s₀ s : State} (h : Touches ks cs bs s₀ s) {f : Fld} {v i : Nat}
    (k : f.key i ∈ ks ∨ keyBlk (f.key i) ∈ bs) : Touches ks cs bs s₀ (s.setFld f v i) := by
  refine h.trans ⟨fun x y z => ?_, fun _ _ _ => rfl, rfl⟩
  have : x ≠ f.key i := by rintro rfl; cases k <;> contradiction
  show sparseFind x (sparseSet _ _ _ _) = _
  unfold sparseSet
  split
  · exact sparseFind_del_other this _
  · exact sparseFind_put_other this _ _

theorem Touches.setFlag {ks cs bs : List Nat} {s₀ s : State} (h : Touches ks cs bs s₀ s) {f : Fld} {b : Bool} {i : Nat}
    (k : f.key i ∈ ks ∨ keyBlk (f.key i) ∈ bs) : Touches ks cs bs s₀ (s.setFlag f b i) := h.setFld k

theorem Touches.setFbit {ks cs bs : List Nat} {s₀ s : State} (h : Touches ks cs bs s₀ s) {f : Fld} {n : Nat} {b : Bool} {i : Nat}
    (k : f.key i ∈ ks ∨ keyBlk (f.key i) ∈ bs) : Touches ks cs bs s₀ (s.setFbit f n b i) := h.setFld k

theorem Touches.ite {ks cs bs : List Nat} {s₀ s t : State} {c : Prop} [Decidable c] (h : Touches ks cs bs s₀ s) (k : Touches ks cs bs s₀ t) :
    Touches ks cs bs s₀ (if c then s else t) := by
  split <;> assumption

theorem Touches.setCnts {ks cs bs : List Nat} {s₀ s : State} (h : Touches ks cs bs s₀ s) {k v : Nat} (hk : k ∈ cs ∨ keyBlk k ∈ bs) :
    Touches ks cs bs s₀ { s with cnts := sparseSet 0 s.cnts k v } := by
  refine h.trans ⟨fun _ _ _ => rfl, fun x y z => ?_, rfl⟩
  have : x ≠ k := by rintro rfl; cases hk <;> contradiction
  show sparseFind x (sparseSet _ _ _ _) = _
  unfold sparseSet
  split
  · exact sparseFind_del_other this _
  · exact sparseFind_put_other this _ _

theorem Touches.countBy {ks cs bs : List Nat} {s₀ s : State} (h : Touches ks cs bs s₀ s) {c : Ctr} {n i : Nat} (hk : c.key i ∈ cs ∨ keyBlk (c.key i) ∈ bs)
    (ho : ∀ k ∈ c.ovfKeys i, k ∈ ks ∨ keyBlk k ∈ bs) : Touches ks cs bs s₀ (s.countBy c n i) := by
  unfold State.countBy
  refine Touches.ite (h.setCnts hk) ?_
  have h1 := h.setCnts (v := ctrMax) hk
  unfold Ctr.ovfKeys at ho
  unfold State.setOvf
  cases hc : c.inst <;> cases hh : c.how <;> simp only [hc, hh, Option.map, Option.toList, List.mem_append, List.mem_cons, List.not_mem_nil, or_false,
    forall_eq_or_imp, forall_eq, List.nil_append] at ho ⊢
  · exact h1.setFld ho
  · exact h1.setFbit ho
  · exact h1.setFld ho
  · exact (h1.setFld ho.1).setFld ho.2
  · exact (h1.setFld ho.1).setFbit ho.2
  · exact (h1.setFld ho.1).setFld ho.2

theorem Touches.count {ks cs bs : List Nat} {s₀ s : State} (h : Touches ks cs bs s₀ s) {c : Ctr} {i : Nat} (hk : c.key i ∈ cs ∨ keyBlk (c.key i) ∈ bs)
    (ho : ∀ k ∈ c.ovfKeys i, k ∈ ks ∨ keyBlk k ∈ bs) : Touches ks cs bs s₀ (s.count c i) := h.countBy hk ho

theorem keyBlk_mem {f : Fld} {i : Nat} {ks bs : List Nat} (hf : f.blk < 32) (hb : f.blk ∈ bs) :
    f.key i ∈ ks ∨ keyBlk (f.key i) ∈ bs := .inr (by rw [keyBlk_key f i, Nat.mod_eq_of_lt hf]; exact hb)

theorem Touches.log {ks cs bs : List Nat} {s₀ s : State} (h : Touches ks cs bs s₀ s) (e : ElogSt) (p : PartSt) :
    Touches ks cs bs s₀ { s with elog := e, part := p } := h.trans ⟨fun _ _ _ => rfl, fun _ _ _ => rfl, rfl⟩

theorem Touches.imsicPend {ks cs bs : List Nat} {s₀ s : State} (h : Touches ks cs bs s₀ s) (c f i : Nat) :
    Touches ks cs bs s₀ (s.imsicPend c f i) := h.log _ _

theorem Touches.holdIdent {ks cs bs : List Nat} {s₀ s : State} (h : Touches ks cs bs s₀ s) {p : Nat} (hb : 14 ∈ bs) (i : Nat) :
    Touches ks cs bs s₀ (s.holdIdent p i) := by
  unfold State.holdIdent
  exact Touches.ite (h.setFbit (keyBlk_mem (by decide) hb)) (h.setFbit (keyBlk_mem (by decide) hb))

theorem Touches.routeIdent {ks cs bs : List Nat} {s₀ s : State} (h : Touches ks cs bs s₀ s) {p : Nat} (hb : 14 ∈ bs) (i : Nat) :
    Touches ks cs bs s₀ (s.routeIdent p i) := by
  unfold State.routeIdent
  exact Touches.ite (h.imsicPend _ _ _) (h.holdIdent hb _)

theorem Touches.raiseIdent {ks cs bs : List Nat} {s₀ s : State} (h : Touches ks cs bs s₀ s) {p : Nat} (hb : 14 ∈ bs) (h0 : 0 ∈ bs)
    (i : Nat) : Touches ks cs bs s₀ (s.raiseIdent p i) := by
  have hc : ∀ {t : State}, Touches ks cs bs s₀ t → Touches ks cs bs s₀ (t.count C.PART_IRQ_UNROUTED) := fun k =>
    k.count (.inr hb) (fun x hx => by
      have : keyBlk x = 14 := by revert x; decide
      exact .inr (this ▸ hb))
  unfold State.raiseIdent
  refine Touches.ite (h.routeIdent hb _) ?_
  have h1 := (hc (h.holdIdent (p := p) hb i)).setFlag (f := F.PART_FLT_IRQ_UNROUTED) (b := true) (i := 0) (keyBlk_mem (by decide) hb)
  refine Touches.ite ?_ h1
  have h2 : Touches ks cs bs s₀ _ := (h1.count (c := C.SYS_INTERRUPTS_SENT) (i := 0) (.inr h0) (fun x hx => by
      have : keyBlk x = 0 := by revert x; decide
      exact .inr (this ▸ h0))).routeIdent (p := 0) hb partIdent
  exact Touches.ite h2 (hc h2)

theorem Touches.blockIrq {ks cs bs : List Nat} {s₀ s : State} (h : Touches ks cs bs s₀ s) (hb : 14 ∈ bs) (h0 : 0 ∈ bs) (b : Nat) :
    Touches ks cs bs s₀ (s.blockIrq b) := by
  unfold State.blockIrq
  refine Touches.ite h (Touches.raiseIdent (Touches.count (c := C.SYS_INTERRUPTS_SENT) (i := 0) (h.log _ _) (.inr h0) (fun x hx => ?_)) hb h0 _)
  have : keyBlk x = 0 := by revert x; decide
  exact .inr (this ▸ h0)

theorem Touches.setFlt {ks cs bs : List Nat} {s₀ s : State} (h : Touches ks cs bs s₀ s) (hb : 14 ∈ bs) (h0 : 0 ∈ bs) {f : Fld}
    (k : f.key 0 ∈ ks ∨ keyBlk (f.key 0) ∈ bs) : Touches ks cs bs s₀ (s.setFlt f) := by
  unfold State.setFlt
  exact Touches.ite h (Touches.ite ((h.setFlag k).blockIrq hb h0 _) (h.setFlag k))

theorem Touches.setFltBit {ks cs bs : List Nat} {s₀ s : State} (h : Touches ks cs bs s₀ s) (hb : 14 ∈ bs) (h0 : 0 ∈ bs) {f : Fld} {n : Nat}
    (k : f.key 0 ∈ ks ∨ keyBlk (f.key 0) ∈ bs) : Touches ks cs bs s₀ (s.setFltBit f n) := by
  unfold State.setFltBit
  exact Touches.ite h (Touches.ite ((h.setFbit k).blockIrq hb h0 _) (h.setFbit k))

/-- What offering an event to the log touches: its side of the machine, and ELOG's registers and counters. -/
theorem Touches.offerEvent {ks cs bs : List Nat} {s₀ s : State} (h : Touches ks cs bs s₀ s) (hb : ∀ b ∈ logBlks, b ∈ bs) (e : Event) :
    Touches ks cs bs s₀ (s.offerEvent e) := by
  have h11 : 11 ∈ bs := hb 11 (by decide)
  unfold State.offerEvent
  refine Touches.ite (h.count (.inr h11) fun x hx => .inr ?_) (h.log _ _)
  have : keyBlk x = 11 := by revert x; decide
  exact this ▸ h11

theorem Touches.event {ks cs bs : List Nat} {s₀ s : State} (h : Touches ks cs bs s₀ s) (hb : ∀ b ∈ logBlks, b ∈ bs) (blk code part p0 p1 p2 : Nat) :
    Touches ks cs bs s₀ (s.event blk code part p0 p1 p2) := h.offerEvent hb _

/-- A field that is not touched reads as before. -/
theorem Touches.fld {ks cs bs : List Nat} {s t : State} (h : Touches ks cs bs s t) {f : Fld} {i : Nat} (hk : f.key i ∉ ks) (hb : keyBlk (f.key i) ∉ bs) :
    t.fld f i = s.fld f i := by
  unfold State.fld sparseGet; rw [h.1 _ hk hb]

theorem Touches.flag {ks cs bs : List Nat} {s t : State} (h : Touches ks cs bs s t) {f : Fld} {i : Nat} (hk : f.key i ∉ ks) (hb : keyBlk (f.key i) ∉ bs) :
    t.flag f i = s.flag f i := by
  unfold State.flag; rw [h.fld hk hb]

/-- A counter that is not touched stands. -/
theorem Touches.ctr {ks cs bs : List Nat} {s t : State} (h : Touches ks cs bs s t) {c : Ctr} {i : Nat} (hk : c.key i ∉ cs) (hb : keyBlk (c.key i) ∉ bs) :
    t.ctr c i = s.ctr c i := by
  unfold State.ctr sparseGet; rw [h.2.1 _ hk hb]

theorem Touches.mono {ks ks' cs cs' bs bs' : List Nat} {s t : State} (h : Touches ks cs bs s t) (hk : ∀ x ∈ ks, x ∈ ks') (hc : ∀ x ∈ cs, x ∈ cs')
    (hb : ∀ x ∈ bs, x ∈ bs') : Touches ks' cs' bs' s t :=
  ⟨fun x y z => h.1 x (fun e => y (hk x e)) (fun e => z (hb _ e)), fun x y z => h.2.1 x (fun e => y (hc x e)) (fun e => z (hb _ e)), h.2.2⟩

/-- An event record touches the log's side only. -/
theorem event_touches (s : State) (blk code part p0 p1 p2 : Nat) : Touches [] [] logBlks s (s.event blk code part p0 p1 p2) :=
  (Touches.refl _ _ _ _).event (fun _ h => h) _ _ _ _ _ _

/-- A register field outside SYS, ELOG and PART reads as before an event record. -/
theorem fld_event (s : State) (blk code part p0 p1 p2 : Nat) (f : Fld) (i : Nat) (hf : keyBlk (f.key i) ∉ logBlks) :
    (s.event blk code part p0 p1 p2).fld f i = s.fld f i := (event_touches s blk code part p0 p1 p2).fld (by simp) hf

/-! ## Fields and counters read through the shared operations -/

theorem fld_setFlag_other (s : State) {f g : Fld} (b : Bool) (i j : Nat) (h : g.key j ≠ f.key i) : (s.setFlag f b i).fld g j = s.fld g j :=
  fld_setFld_other s _ i j h

theorem flag_setFld_other (s : State) {f g : Fld} (v i j : Nat) (h : g.key j ≠ f.key i) : (s.setFld f v i).flag g j = s.flag g j := by
  unfold State.flag; rw [fld_setFld_other s v i j h]

theorem flag_setFlag_other (s : State) {f g : Fld} (b : Bool) (i j : Nat) (h : g.key j ≠ f.key i) : (s.setFlag f b i).flag g j = s.flag g j :=
  flag_setFld_other s _ i j h

theorem fld_countBy_other (s : State) (c : Ctr) (n i : Nat) {g : Fld} {j : Nat} (h : g.key j ∉ c.ovfKeys i) : (s.countBy c n i).fld g j = s.fld g j :=
  Touches.fld (ks := c.ovfKeys i) (cs := [c.key i]) (bs := []) ((Touches.refl _ _ _ s).countBy (.inl (by simp)) (fun _ hk => .inl hk)) h (by simp)

theorem fld_count_other (s : State) (c : Ctr) (i : Nat) {g : Fld} {j : Nat} (h : g.key j ∉ c.ovfKeys i) : (s.count c i).fld g j = s.fld g j :=
  fld_countBy_other s c 1 i h

theorem flag_count_other (s : State) (c : Ctr) (i : Nat) {g : Fld} {j : Nat} (h : g.key j ∉ c.ovfKeys i) : (s.count c i).flag g j = s.flag g j := by
  unfold State.flag; rw [fld_count_other s c i h]

theorem setFlt_touches (s : State) (f : Fld) : Touches [f.key 0] [] [0, 14] s (s.setFlt f) :=
  (Touches.refl _ _ _ s).setFlt (by simp) (by simp) (.inl (by simp))

theorem setFltBit_touches (s : State) (f : Fld) (n : Nat) : Touches [f.key 0] [] [0, 14] s (s.setFltBit f n) :=
  (Touches.refl _ _ _ s).setFltBit (by simp) (by simp) (.inl (by simp))

theorem fld_setFlt_other (s : State) {f g : Fld} {j : Nat} (h : g.key j ≠ f.key 0) (hb : keyBlk (g.key j) ∉ [0, 14]) :
    (s.setFlt f).fld g j = s.fld g j := (setFlt_touches s f).fld (by simpa using h) hb

theorem flag_setFlt_other (s : State) {f g : Fld} {j : Nat} (h : g.key j ≠ f.key 0) (hb : keyBlk (g.key j) ∉ [0, 14]) :
    (s.setFlt f).flag g j = s.flag g j := by unfold State.flag; rw [fld_setFlt_other s h hb]

theorem ctr_setFlt_other (s : State) (f : Fld) {c : Ctr} {j : Nat} (hb : keyBlk (c.key j) ∉ [0, 14]) : (s.setFlt f).ctr c j = s.ctr c j :=
  (setFlt_touches s f).ctr (by simp) hb

/-- An interrupt leaves every field outside SYS and PART as it was. -/
theorem fld_blockIrq (s : State) (b : Nat) {g : Fld} {j : Nat} (hb : keyBlk (g.key j) ∉ [0, 14]) : (s.blockIrq b).fld g j = s.fld g j :=
  Touches.fld (ks := []) (cs := []) ((Touches.refl _ _ _ s).blockIrq (by simp) (by simp) b) (by simp) hb

/-- A flag of a block's FLT register is set. -/
theorem flag_setFlt_same (s : State) {f : Fld} (hw : f.width = 1) (hb : keyBlk (f.key 0) ∉ [0, 14]) : (s.setFlt f).flag f = true := by
  have h1 : (s.setFlag f true).flag f = true := flag_setFlag_same s f true 0 hw
  unfold State.setFlt
  by_cases hf : s.flag f = true
  · rw [if_pos hf]; exact hf
  · rw [if_neg hf]
    dsimp only
    split
    · unfold State.flag at h1 ⊢; rw [fld_blockIrq _ _ hb]; exact h1
    · exact h1

theorem ctr_event (s : State) (blk code part p0 p1 p2 : Nat) (c : Ctr) (i : Nat) (hf : keyBlk (c.key i) ∉ logBlks) :
    (s.event blk code part p0 p1 p2).ctr c i = s.ctr c i := (event_touches s blk code part p0 p1 p2).ctr (by simp) hf

/-- What a touched state keeps of the rest: every part but registers, counters, the event queue and PART's. -/
theorem Touches.rest {ks cs bs : List Nat} {s t : State} (h : Touches ks cs bs s t) :
    t = { s with regs := t.regs, cnts := t.cnts, elog := t.elog, part := t.part } := by
  have e := h.2.2
  cases s; cases t
  simp only [State.mk.injEq] at e ⊢
  simp_all

theorem Touches.mem {ks cs bs : List Nat} {s t : State} (h : Touches ks cs bs s t) : t.mem = s.mem := by rw [h.rest]
theorem Touches.time {ks cs bs : List Nat} {s t : State} (h : Touches ks cs bs s t) : t.time = s.time := by rw [h.rest]

theorem count_touches (s : State) (c : Ctr) (i : Nat) : Touches (c.ovfKeys i) [c.key i] [] s (s.count c i) :=
  (Touches.refl _ _ _ s).count (.inl (by simp)) (fun _ hk => .inl hk)

/-! ## Mailboxes -/

/-- A mailbox command that starts sets BUSY, clears VALID and ERR, and leaves every other field as it was. -/
theorem fld_mbxStart_other (s : State) (blk : Nat) (r : MbxRun) {g : Fld} {j : Nat} (hv : g.key j ≠ (mbxValid blk).key 0)
    (he : g.key j ≠ (mbxErr blk).key 0) (hb : g.key j ≠ (mbxBusy blk).key 0) : (s.mbxStart blk r).fld g j = s.fld g j := by
  have e : (s.mbxStart blk r).fld g j = (((s.setFlag (mbxValid blk) false).setFlag (mbxErr blk) false).setFlag (mbxBusy blk) true).fld g j := by
    unfold State.mbxStart State.fld; rfl
  rw [e, fld_setFlag_other _ _ _ _ hb, fld_setFlag_other _ _ _ _ he, fld_setFlag_other _ _ _ _ hv]

/-- The operand words stand while a mailbox command is in progress. -/
@[simp] theorem mbxD_mbxStart (s : State) (blk j b : Nat) (r : MbxRun) : (s.mbxStart b r).mbxD blk j = s.mbxD blk j := by
  have h : ∀ x, x = 31 ∨ x = 30 ∨ x = 29 → (mbxData blk j).key 0 ≠ (⟨b, 0, 0x0030, 4, x, 1, .ro, 0⟩ : Fld).key 0 := by
    intro x hx; unfold mbxData Fld.key blkKey; simp only; omega
  exact fld_mbxStart_other s b r (h 31 (by simp)) (h 29 (by simp)) (h 30 (by simp))

theorem flag_mbxStart_busy (s : State) (blk : Nat) (r : MbxRun) : (s.mbxStart blk r).flag (mbxBusy blk) = true := by
  have e : (s.mbxStart blk r).flag (mbxBusy blk) = (((s.setFlag (mbxValid blk) false).setFlag (mbxErr blk) false).setFlag (mbxBusy blk) true).flag (mbxBusy blk) := by
    unfold State.mbxStart State.flag State.fld; rfl
  rw [e]; exact flag_setFlag_same _ _ _ _ rfl

end Sys2Proof.Machine
end

