-- ==== Sys2Proof/Laws/Frames.lean ====
section
/-! SUPPORT. What counting, flags, interrupts, event records and open roundings leave as it was, part by part. -/

set_option Elab.async false

namespace Sys2Proof.Machine

theorem Touches.of_count (s : State) (c : Ctr) (n i : Nat) : Touches (c.ovfKeys i) [c.key i] [] s (s.countBy c n i) :=
  (Touches.refl _ _ _ s).countBy (.inl (by simp)) (fun _ hk => .inl hk)

theorem Touches.of_blockIrq (s : State) (b : Nat) : Touches [] [] [0, 14] s (s.blockIrq b) :=
  (Touches.refl _ _ _ s).blockIrq (by simp) (by simp) b

theorem Touches.of_offer (s : State) (e : Event) : Touches [] [] logBlks s (s.offerEvent e) := (Touches.refl _ _ _ _).offerEvent (fun _ h => h) _

/-! State.countBy -/

@[simp] theorem State.countBy_aonRegs (s : State) (c : Ctr) (n i : Nat) : (s.countBy c n i).aonRegs = s.aonRegs := by rw [(Touches.of_count s c n i).rest]
@[simp] theorem State.countBy_bank (s : State) (c : Ctr) (n i : Nat) : (s.countBy c n i).bank = s.bank := by rw [(Touches.of_count s c n i).rest]
@[simp] theorem State.countBy_mbx (s : State) (c : Ctr) (n i : Nat) : (s.countBy c n i).mbx = s.mbx := by rw [(Touches.of_count s c n i).rest]
@[simp] theorem State.countBy_mem (s : State) (c : Ctr) (n i : Nat) : (s.countBy c n i).mem = s.mem := by rw [(Touches.of_count s c n i).rest]
@[simp] theorem State.countBy_time (s : State) (c : Ctr) (n i : Nat) : (s.countBy c n i).time = s.time := by rw [(Touches.of_count s c n i).rest]
@[simp] theorem State.countBy_tide (s : State) (c : Ctr) (n i : Nat) : (s.countBy c n i).tide = s.tide := by rw [(Touches.of_count s c n i).rest]
@[simp] theorem State.countBy_lane (s : State) (c : Ctr) (n i : Nat) : (s.countBy c n i).lane = s.lane := by rw [(Touches.of_count s c n i).rest]
@[simp] theorem State.countBy_gate (s : State) (c : Ctr) (n i : Nat) : (s.countBy c n i).gate = s.gate := by rw [(Touches.of_count s c n i).rest]
@[simp] theorem State.countBy_fab (s : State) (c : Ctr) (n i : Nat) : (s.countBy c n i).fab = s.fab := by rw [(Touches.of_count s c n i).rest]
@[simp] theorem State.countBy_svi (s : State) (c : Ctr) (n i : Nat) : (s.countBy c n i).svi = s.svi := by rw [(Touches.of_count s c n i).rest]
@[simp] theorem State.countBy_fdc (s : State) (c : Ctr) (n i : Nat) : (s.countBy c n i).fdc = s.fdc := by rw [(Touches.of_count s c n i).rest]
@[simp] theorem State.countBy_goose (s : State) (c : Ctr) (n i : Nat) : (s.countBy c n i).goose = s.goose := by rw [(Touches.of_count s c n i).rest]
@[simp] theorem State.countBy_twin (s : State) (c : Ctr) (n i : Nat) : (s.countBy c n i).twin = s.twin := by rw [(Touches.of_count s c n i).rest]
@[simp] theorem State.countBy_swc (s : State) (c : Ctr) (n i : Nat) : (s.countBy c n i).swc = s.swc := by rw [(Touches.of_count s c n i).rest]
@[simp] theorem State.countBy_port (s : State) (c : Ctr) (n i : Nat) : (s.countBy c n i).port = s.port := by rw [(Touches.of_count s c n i).rest]
@[simp] theorem State.countBy_drec (s : State) (c : Ctr) (n i : Nat) : (s.countBy c n i).drec = s.drec := by rw [(Touches.of_count s c n i).rest]
@[simp] theorem State.countBy_keys (s : State) (c : Ctr) (n i : Nat) : (s.countBy c n i).keys = s.keys := by rw [(Touches.of_count s c n i).rest]
@[simp] theorem State.countBy_clk (s : State) (c : Ctr) (n i : Nat) : (s.countBy c n i).clk = s.clk := by rw [(Touches.of_count s c n i).rest]
@[simp] theorem State.countBy_aon (s : State) (c : Ctr) (n i : Nat) : (s.countBy c n i).aon = s.aon := by rw [(Touches.of_count s c n i).rest]
@[simp] theorem State.countBy_boot (s : State) (c : Ctr) (n i : Nat) : (s.countBy c n i).boot = s.boot := by rw [(Touches.of_count s c n i).rest]
@[simp] theorem State.countBy_core (s : State) (c : Ctr) (n i : Nat) : (s.countBy c n i).core = s.core := by rw [(Touches.of_count s c n i).rest]
@[simp] theorem State.countBy_snap (s : State) (c : Ctr) (n i : Nat) : (s.countBy c n i).snap = s.snap := by rw [(Touches.of_count s c n i).rest]
@[simp] theorem State.countBy_freeCtr (s : State) (c : Ctr) (n i : Nat) : (s.countBy c n i).freeCtr = s.freeCtr := by rw [(Touches.of_count s c n i).rest]
@[simp] theorem State.countBy_pending (s : State) (c : Ctr) (n i : Nat) : (s.countBy c n i).pending = s.pending := by rw [(Touches.of_count s c n i).rest]
@[simp] theorem State.countBy_elog (s : State) (c : Ctr) (n i : Nat) : (s.countBy c n i).elog = s.elog := by
  unfold State.countBy State.setOvf; dsimp only; cases c.inst <;> cases c.how <;> split <;> rfl
@[simp] theorem State.countBy_part (s : State) (c : Ctr) (n i : Nat) : (s.countBy c n i).part = s.part := by
  unfold State.countBy State.setOvf; dsimp only; cases c.inst <;> cases c.how <;> split <;> rfl

/-! State.count -/

@[simp] theorem State.count_aonRegs (s : State) (c : Ctr) (i : Nat) : (s.count c i).aonRegs = s.aonRegs := by rw [(count_touches s c i).rest]
@[simp] theorem State.count_bank (s : State) (c : Ctr) (i : Nat) : (s.count c i).bank = s.bank := by rw [(count_touches s c i).rest]
@[simp] theorem State.count_mbx (s : State) (c : Ctr) (i : Nat) : (s.count c i).mbx = s.mbx := by rw [(count_touches s c i).rest]
@[simp] theorem State.count_mem (s : State) (c : Ctr) (i : Nat) : (s.count c i).mem = s.mem := by rw [(count_touches s c i).rest]
@[simp] theorem State.count_time (s : State) (c : Ctr) (i : Nat) : (s.count c i).time = s.time := by rw [(count_touches s c i).rest]
@[simp] theorem State.count_tide (s : State) (c : Ctr) (i : Nat) : (s.count c i).tide = s.tide := by rw [(count_touches s c i).rest]
@[simp] theorem State.count_lane (s : State) (c : Ctr) (i : Nat) : (s.count c i).lane = s.lane := by rw [(count_touches s c i).rest]
@[simp] theorem State.count_gate (s : State) (c : Ctr) (i : Nat) : (s.count c i).gate = s.gate := by rw [(count_touches s c i).rest]
@[simp] theorem State.count_fab (s : State) (c : Ctr) (i : Nat) : (s.count c i).fab = s.fab := by rw [(count_touches s c i).rest]
@[simp] theorem State.count_svi (s : State) (c : Ctr) (i : Nat) : (s.count c i).svi = s.svi := by rw [(count_touches s c i).rest]
@[simp] theorem State.count_fdc (s : State) (c : Ctr) (i : Nat) : (s.count c i).fdc = s.fdc := by rw [(count_touches s c i).rest]
@[simp] theorem State.count_goose (s : State) (c : Ctr) (i : Nat) : (s.count c i).goose = s.goose := by rw [(count_touches s c i).rest]
@[simp] theorem State.count_twin (s : State) (c : Ctr) (i : Nat) : (s.count c i).twin = s.twin := by rw [(count_touches s c i).rest]
@[simp] theorem State.count_swc (s : State) (c : Ctr) (i : Nat) : (s.count c i).swc = s.swc := by rw [(count_touches s c i).rest]
@[simp] theorem State.count_port (s : State) (c : Ctr) (i : Nat) : (s.count c i).port = s.port := by rw [(count_touches s c i).rest]
@[simp] theorem State.count_drec (s : State) (c : Ctr) (i : Nat) : (s.count c i).drec = s.drec := by rw [(count_touches s c i).rest]
@[simp] theorem State.count_keys (s : State) (c : Ctr) (i : Nat) : (s.count c i).keys = s.keys := by rw [(count_touches s c i).rest]
@[simp] theorem State.count_clk (s : State) (c : Ctr) (i : Nat) : (s.count c i).clk = s.clk := by rw [(count_touches s c i).rest]
@[simp] theorem State.count_aon (s : State) (c : Ctr) (i : Nat) : (s.count c i).aon = s.aon := by rw [(count_touches s c i).rest]
@[simp] theorem State.count_boot (s : State) (c : Ctr) (i : Nat) : (s.count c i).boot = s.boot := by rw [(count_touches s c i).rest]
@[simp] theorem State.count_core (s : State) (c : Ctr) (i : Nat) : (s.count c i).core = s.core := by rw [(count_touches s c i).rest]
@[simp] theorem State.count_snap (s : State) (c : Ctr) (i : Nat) : (s.count c i).snap = s.snap := by rw [(count_touches s c i).rest]
@[simp] theorem State.count_freeCtr (s : State) (c : Ctr) (i : Nat) : (s.count c i).freeCtr = s.freeCtr := by rw [(count_touches s c i).rest]
@[simp] theorem State.count_pending (s : State) (c : Ctr) (i : Nat) : (s.count c i).pending = s.pending := by rw [(count_touches s c i).rest]
@[simp] theorem State.count_elog (s : State) (c : Ctr) (i : Nat) : (s.count c i).elog = s.elog := by unfold State.count; simp
@[simp] theorem State.count_part (s : State) (c : Ctr) (i : Nat) : (s.count c i).part = s.part := by unfold State.count; simp

/-! State.setFlt -/

@[simp] theorem State.setFlt_aonRegs (s : State) (f : Fld) : (s.setFlt f).aonRegs = s.aonRegs := by rw [(setFlt_touches s f).rest]
@[simp] theorem State.setFlt_bank (s : State) (f : Fld) : (s.setFlt f).bank = s.bank := by rw [(setFlt_touches s f).rest]
@[simp] theorem State.setFlt_mbx (s : State) (f : Fld) : (s.setFlt f).mbx = s.mbx := by rw [(setFlt_touches s f).rest]
@[simp] theorem State.setFlt_mem (s : State) (f : Fld) : (s.setFlt f).mem = s.mem := by rw [(setFlt_touches s f).rest]
@[simp] theorem State.setFlt_time (s : State) (f : Fld) : (s.setFlt f).time = s.time := by rw [(setFlt_touches s f).rest]
@[simp] theorem State.setFlt_tide (s : State) (f : Fld) : (s.setFlt f).tide = s.tide := by rw [(setFlt_touches s f).rest]
@[simp] theorem State.setFlt_lane (s : State) (f : Fld) : (s.setFlt f).lane = s.lane := by rw [(setFlt_touches s f).rest]
@[simp] theorem State.setFlt_gate (s : State) (f : Fld) : (s.setFlt f).gate = s.gate := by rw [(setFlt_touches s f).rest]
@[simp] theorem State.setFlt_fab (s : State) (f : Fld) : (s.setFlt f).fab = s.fab := by rw [(setFlt_touches s f).rest]
@[simp] theorem State.setFlt_svi (s : State) (f : Fld) : (s.setFlt f).svi = s.svi := by rw [(setFlt_touches s f).rest]
@[simp] theorem State.setFlt_fdc (s : State) (f : Fld) : (s.setFlt f).fdc = s.fdc := by rw [(setFlt_touches s f).rest]
@[simp] theorem State.setFlt_goose (s : State) (f : Fld) : (s.setFlt f).goose = s.goose := by rw [(setFlt_touches s f).rest]
@[simp] theorem State.setFlt_twin (s : State) (f : Fld) : (s.setFlt f).twin = s.twin := by rw [(setFlt_touches s f).rest]
@[simp] theorem State.setFlt_swc (s : State) (f : Fld) : (s.setFlt f).swc = s.swc := by rw [(setFlt_touches s f).rest]
@[simp] theorem State.setFlt_port (s : State) (f : Fld) : (s.setFlt f).port = s.port := by rw [(setFlt_touches s f).rest]
@[simp] theorem State.setFlt_drec (s : State) (f : Fld) : (s.setFlt f).drec = s.drec := by rw [(setFlt_touches s f).rest]
@[simp] theorem State.setFlt_keys (s : State) (f : Fld) : (s.setFlt f).keys = s.keys := by rw [(setFlt_touches s f).rest]
@[simp] theorem State.setFlt_clk (s : State) (f : Fld) : (s.setFlt f).clk = s.clk := by rw [(setFlt_touches s f).rest]
@[simp] theorem State.setFlt_aon (s : State) (f : Fld) : (s.setFlt f).aon = s.aon := by rw [(setFlt_touches s f).rest]
@[simp] theorem State.setFlt_boot (s : State) (f : Fld) : (s.setFlt f).boot = s.boot := by rw [(setFlt_touches s f).rest]
@[simp] theorem State.setFlt_core (s : State) (f : Fld) : (s.setFlt f).core = s.core := by rw [(setFlt_touches s f).rest]
@[simp] theorem State.setFlt_snap (s : State) (f : Fld) : (s.setFlt f).snap = s.snap := by rw [(setFlt_touches s f).rest]
@[simp] theorem State.setFlt_freeCtr (s : State) (f : Fld) : (s.setFlt f).freeCtr = s.freeCtr := by rw [(setFlt_touches s f).rest]
@[simp] theorem State.setFlt_pending (s : State) (f : Fld) : (s.setFlt f).pending = s.pending := by rw [(setFlt_touches s f).rest]

/-! State.setFltBit -/

@[simp] theorem State.setFltBit_aonRegs (s : State) (f : Fld) (n : Nat) : (s.setFltBit f n).aonRegs = s.aonRegs := by rw [(setFltBit_touches s f n).rest]
@[simp] theorem State.setFltBit_bank (s : State) (f : Fld) (n : Nat) : (s.setFltBit f n).bank = s.bank := by rw [(setFltBit_touches s f n).rest]
@[simp] theorem State.setFltBit_mbx (s : State) (f : Fld) (n : Nat) : (s.setFltBit f n).mbx = s.mbx := by rw [(setFltBit_touches s f n).rest]
@[simp] theorem State.setFltBit_mem (s : State) (f : Fld) (n : Nat) : (s.setFltBit f n).mem = s.mem := by rw [(setFltBit_touches s f n).rest]
@[simp] theorem State.setFltBit_time (s : State) (f : Fld) (n : Nat) : (s.setFltBit f n).time = s.time := by rw [(setFltBit_touches s f n).rest]
@[simp] theorem State.setFltBit_tide (s : State) (f : Fld) (n : Nat) : (s.setFltBit f n).tide = s.tide := by rw [(setFltBit_touches s f n).rest]
@[simp] theorem State.setFltBit_lane (s : State) (f : Fld) (n : Nat) : (s.setFltBit f n).lane = s.lane := by rw [(setFltBit_touches s f n).rest]
@[simp] theorem State.setFltBit_gate (s : State) (f : Fld) (n : Nat) : (s.setFltBit f n).gate = s.gate := by rw [(setFltBit_touches s f n).rest]
@[simp] theorem State.setFltBit_fab (s : State) (f : Fld) (n : Nat) : (s.setFltBit f n).fab = s.fab := by rw [(setFltBit_touches s f n).rest]
@[simp] theorem State.setFltBit_svi (s : State) (f : Fld) (n : Nat) : (s.setFltBit f n).svi = s.svi := by rw [(setFltBit_touches s f n).rest]
@[simp] theorem State.setFltBit_fdc (s : State) (f : Fld) (n : Nat) : (s.setFltBit f n).fdc = s.fdc := by rw [(setFltBit_touches s f n).rest]
@[simp] theorem State.setFltBit_goose (s : State) (f : Fld) (n : Nat) : (s.setFltBit f n).goose = s.goose := by rw [(setFltBit_touches s f n).rest]
@[simp] theorem State.setFltBit_twin (s : State) (f : Fld) (n : Nat) : (s.setFltBit f n).twin = s.twin := by rw [(setFltBit_touches s f n).rest]
@[simp] theorem State.setFltBit_swc (s : State) (f : Fld) (n : Nat) : (s.setFltBit f n).swc = s.swc := by rw [(setFltBit_touches s f n).rest]
@[simp] theorem State.setFltBit_port (s : State) (f : Fld) (n : Nat) : (s.setFltBit f n).port = s.port := by rw [(setFltBit_touches s f n).rest]
@[simp] theorem State.setFltBit_drec (s : State) (f : Fld) (n : Nat) : (s.setFltBit f n).drec = s.drec := by rw [(setFltBit_touches s f n).rest]
@[simp] theorem State.setFltBit_keys (s : State) (f : Fld) (n : Nat) : (s.setFltBit f n).keys = s.keys := by rw [(setFltBit_touches s f n).rest]
@[simp] theorem State.setFltBit_clk (s : State) (f : Fld) (n : Nat) : (s.setFltBit f n).clk = s.clk := by rw [(setFltBit_touches s f n).rest]
@[simp] theorem State.setFltBit_aon (s : State) (f : Fld) (n : Nat) : (s.setFltBit f n).aon = s.aon := by rw [(setFltBit_touches s f n).rest]
@[simp] theorem State.setFltBit_boot (s : State) (f : Fld) (n : Nat) : (s.setFltBit f n).boot = s.boot := by rw [(setFltBit_touches s f n).rest]
@[simp] theorem State.setFltBit_core (s : State) (f : Fld) (n : Nat) : (s.setFltBit f n).core = s.core := by rw [(setFltBit_touches s f n).rest]
@[simp] theorem State.setFltBit_snap (s : State) (f : Fld) (n : Nat) : (s.setFltBit f n).snap = s.snap := by rw [(setFltBit_touches s f n).rest]
@[simp] theorem State.setFltBit_freeCtr (s : State) (f : Fld) (n : Nat) : (s.setFltBit f n).freeCtr = s.freeCtr := by rw [(setFltBit_touches s f n).rest]
@[simp] theorem State.setFltBit_pending (s : State) (f : Fld) (n : Nat) : (s.setFltBit f n).pending = s.pending := by rw [(setFltBit_touches s f n).rest]

/-! State.blockIrq -/

@[simp] theorem State.blockIrq_aonRegs (s : State) (b : Nat) : (s.blockIrq b).aonRegs = s.aonRegs := by rw [(Touches.of_blockIrq s b).rest]
@[simp] theorem State.blockIrq_bank (s : State) (b : Nat) : (s.blockIrq b).bank = s.bank := by rw [(Touches.of_blockIrq s b).rest]
@[simp] theorem State.blockIrq_mbx (s : State) (b : Nat) : (s.blockIrq b).mbx = s.mbx := by rw [(Touches.of_blockIrq s b).rest]
@[simp] theorem State.blockIrq_mem (s : State) (b : Nat) : (s.blockIrq b).mem = s.mem := by rw [(Touches.of_blockIrq s b).rest]
@[simp] theorem State.blockIrq_time (s : State) (b : Nat) : (s.blockIrq b).time = s.time := by rw [(Touches.of_blockIrq s b).rest]
@[simp] theorem State.blockIrq_tide (s : State) (b : Nat) : (s.blockIrq b).tide = s.tide := by rw [(Touches.of_blockIrq s b).rest]
@[simp] theorem State.blockIrq_lane (s : State) (b : Nat) : (s.blockIrq b).lane = s.lane := by rw [(Touches.of_blockIrq s b).rest]
@[simp] theorem State.blockIrq_gate (s : State) (b : Nat) : (s.blockIrq b).gate = s.gate := by rw [(Touches.of_blockIrq s b).rest]
@[simp] theorem State.blockIrq_fab (s : State) (b : Nat) : (s.blockIrq b).fab = s.fab := by rw [(Touches.of_blockIrq s b).rest]
@[simp] theorem State.blockIrq_svi (s : State) (b : Nat) : (s.blockIrq b).svi = s.svi := by rw [(Touches.of_blockIrq s b).rest]
@[simp] theorem State.blockIrq_fdc (s : State) (b : Nat) : (s.blockIrq b).fdc = s.fdc := by rw [(Touches.of_blockIrq s b).rest]
@[simp] theorem State.blockIrq_goose (s : State) (b : Nat) : (s.blockIrq b).goose = s.goose := by rw [(Touches.of_blockIrq s b).rest]
@[simp] theorem State.blockIrq_twin (s : State) (b : Nat) : (s.blockIrq b).twin = s.twin := by rw [(Touches.of_blockIrq s b).rest]
@[simp] theorem State.blockIrq_swc (s : State) (b : Nat) : (s.blockIrq b).swc = s.swc := by rw [(Touches.of_blockIrq s b).rest]
@[simp] theorem State.blockIrq_port (s : State) (b : Nat) : (s.blockIrq b).port = s.port := by rw [(Touches.of_blockIrq s b).rest]
@[simp] theorem State.blockIrq_drec (s : State) (b : Nat) : (s.blockIrq b).drec = s.drec := by rw [(Touches.of_blockIrq s b).rest]
@[simp] theorem State.blockIrq_keys (s : State) (b : Nat) : (s.blockIrq b).keys = s.keys := by rw [(Touches.of_blockIrq s b).rest]
@[simp] theorem State.blockIrq_clk (s : State) (b : Nat) : (s.blockIrq b).clk = s.clk := by rw [(Touches.of_blockIrq s b).rest]
@[simp] theorem State.blockIrq_aon (s : State) (b : Nat) : (s.blockIrq b).aon = s.aon := by rw [(Touches.of_blockIrq s b).rest]
@[simp] theorem State.blockIrq_boot (s : State) (b : Nat) : (s.blockIrq b).boot = s.boot := by rw [(Touches.of_blockIrq s b).rest]
@[simp] theorem State.blockIrq_core (s : State) (b : Nat) : (s.blockIrq b).core = s.core := by rw [(Touches.of_blockIrq s b).rest]
@[simp] theorem State.blockIrq_snap (s : State) (b : Nat) : (s.blockIrq b).snap = s.snap := by rw [(Touches.of_blockIrq s b).rest]
@[simp] theorem State.blockIrq_freeCtr (s : State) (b : Nat) : (s.blockIrq b).freeCtr = s.freeCtr := by rw [(Touches.of_blockIrq s b).rest]
@[simp] theorem State.blockIrq_pending (s : State) (b : Nat) : (s.blockIrq b).pending = s.pending := by rw [(Touches.of_blockIrq s b).rest]

/-! State.offerEvent -/

@[simp] theorem State.offerEvent_aonRegs (s : State) (e : Event) : (s.offerEvent e).aonRegs = s.aonRegs := by rw [(Touches.of_offer s e).rest]
@[simp] theorem State.offerEvent_bank (s : State) (e : Event) : (s.offerEvent e).bank = s.bank := by rw [(Touches.of_offer s e).rest]
@[simp] theorem State.offerEvent_mbx (s : State) (e : Event) : (s.offerEvent e).mbx = s.mbx := by rw [(Touches.of_offer s e).rest]
@[simp] theorem State.offerEvent_mem (s : State) (e : Event) : (s.offerEvent e).mem = s.mem := by rw [(Touches.of_offer s e).rest]
@[simp] theorem State.offerEvent_time (s : State) (e : Event) : (s.offerEvent e).time = s.time := by rw [(Touches.of_offer s e).rest]
@[simp] theorem State.offerEvent_tide (s : State) (e : Event) : (s.offerEvent e).tide = s.tide := by rw [(Touches.of_offer s e).rest]
@[simp] theorem State.offerEvent_lane (s : State) (e : Event) : (s.offerEvent e).lane = s.lane := by rw [(Touches.of_offer s e).rest]
@[simp] theorem State.offerEvent_gate (s : State) (e : Event) : (s.offerEvent e).gate = s.gate := by rw [(Touches.of_offer s e).rest]
@[simp] theorem State.offerEvent_fab (s : State) (e : Event) : (s.offerEvent e).fab = s.fab := by rw [(Touches.of_offer s e).rest]
@[simp] theorem State.offerEvent_svi (s : State) (e : Event) : (s.offerEvent e).svi = s.svi := by rw [(Touches.of_offer s e).rest]
@[simp] theorem State.offerEvent_fdc (s : State) (e : Event) : (s.offerEvent e).fdc = s.fdc := by rw [(Touches.of_offer s e).rest]
@[simp] theorem State.offerEvent_goose (s : State) (e : Event) : (s.offerEvent e).goose = s.goose := by rw [(Touches.of_offer s e).rest]
@[simp] theorem State.offerEvent_twin (s : State) (e : Event) : (s.offerEvent e).twin = s.twin := by rw [(Touches.of_offer s e).rest]
@[simp] theorem State.offerEvent_swc (s : State) (e : Event) : (s.offerEvent e).swc = s.swc := by rw [(Touches.of_offer s e).rest]
@[simp] theorem State.offerEvent_port (s : State) (e : Event) : (s.offerEvent e).port = s.port := by rw [(Touches.of_offer s e).rest]
@[simp] theorem State.offerEvent_drec (s : State) (e : Event) : (s.offerEvent e).drec = s.drec := by rw [(Touches.of_offer s e).rest]
@[simp] theorem State.offerEvent_keys (s : State) (e : Event) : (s.offerEvent e).keys = s.keys := by rw [(Touches.of_offer s e).rest]
@[simp] theorem State.offerEvent_clk (s : State) (e : Event) : (s.offerEvent e).clk = s.clk := by rw [(Touches.of_offer s e).rest]
@[simp] theorem State.offerEvent_aon (s : State) (e : Event) : (s.offerEvent e).aon = s.aon := by rw [(Touches.of_offer s e).rest]
@[simp] theorem State.offerEvent_boot (s : State) (e : Event) : (s.offerEvent e).boot = s.boot := by rw [(Touches.of_offer s e).rest]
@[simp] theorem State.offerEvent_core (s : State) (e : Event) : (s.offerEvent e).core = s.core := by rw [(Touches.of_offer s e).rest]
@[simp] theorem State.offerEvent_snap (s : State) (e : Event) : (s.offerEvent e).snap = s.snap := by rw [(Touches.of_offer s e).rest]
@[simp] theorem State.offerEvent_freeCtr (s : State) (e : Event) : (s.offerEvent e).freeCtr = s.freeCtr := by rw [(Touches.of_offer s e).rest]
@[simp] theorem State.offerEvent_pending (s : State) (e : Event) : (s.offerEvent e).pending = s.pending := by rw [(Touches.of_offer s e).rest]

/-! State.event -/

@[simp] theorem State.event_aonRegs (s : State) (blk code part p0 p1 p2 : Nat) : (s.event blk code part p0 p1 p2).aonRegs = s.aonRegs := by rw [(event_touches s blk code part p0 p1 p2).rest]
@[simp] theorem State.event_bank (s : State) (blk code part p0 p1 p2 : Nat) : (s.event blk code part p0 p1 p2).bank = s.bank := by rw [(event_touches s blk code part p0 p1 p2).rest]
@[simp] theorem State.event_mbx (s : State) (blk code part p0 p1 p2 : Nat) : (s.event blk code part p0 p1 p2).mbx = s.mbx := by rw [(event_touches s blk code part p0 p1 p2).rest]
@[simp] theorem State.event_mem (s : State) (blk code part p0 p1 p2 : Nat) : (s.event blk code part p0 p1 p2).mem = s.mem := by rw [(event_touches s blk code part p0 p1 p2).rest]
@[simp] theorem State.event_time (s : State) (blk code part p0 p1 p2 : Nat) : (s.event blk code part p0 p1 p2).time = s.time := by rw [(event_touches s blk code part p0 p1 p2).rest]
@[simp] theorem State.event_tide (s : State) (blk code part p0 p1 p2 : Nat) : (s.event blk code part p0 p1 p2).tide = s.tide := by rw [(event_touches s blk code part p0 p1 p2).rest]
@[simp] theorem State.event_lane (s : State) (blk code part p0 p1 p2 : Nat) : (s.event blk code part p0 p1 p2).lane = s.lane := by rw [(event_touches s blk code part p0 p1 p2).rest]
@[simp] theorem State.event_gate (s : State) (blk code part p0 p1 p2 : Nat) : (s.event blk code part p0 p1 p2).gate = s.gate := by rw [(event_touches s blk code part p0 p1 p2).rest]
@[simp] theorem State.event_fab (s : State) (blk code part p0 p1 p2 : Nat) : (s.event blk code part p0 p1 p2).fab = s.fab := by rw [(event_touches s blk code part p0 p1 p2).rest]
@[simp] theorem State.event_svi (s : State) (blk code part p0 p1 p2 : Nat) : (s.event blk code part p0 p1 p2).svi = s.svi := by rw [(event_touches s blk code part p0 p1 p2).rest]
@[simp] theorem State.event_fdc (s : State) (blk code part p0 p1 p2 : Nat) : (s.event blk code part p0 p1 p2).fdc = s.fdc := by rw [(event_touches s blk code part p0 p1 p2).rest]
@[simp] theorem State.event_goose (s : State) (blk code part p0 p1 p2 : Nat) : (s.event blk code part p0 p1 p2).goose = s.goose := by rw [(event_touches s blk code part p0 p1 p2).rest]
@[simp] theorem State.event_twin (s : State) (blk code part p0 p1 p2 : Nat) : (s.event blk code part p0 p1 p2).twin = s.twin := by rw [(event_touches s blk code part p0 p1 p2).rest]
@[simp] theorem State.event_swc (s : State) (blk code part p0 p1 p2 : Nat) : (s.event blk code part p0 p1 p2).swc = s.swc := by rw [(event_touches s blk code part p0 p1 p2).rest]
@[simp] theorem State.event_port (s : State) (blk code part p0 p1 p2 : Nat) : (s.event blk code part p0 p1 p2).port = s.port := by rw [(event_touches s blk code part p0 p1 p2).rest]
@[simp] theorem State.event_drec (s : State) (blk code part p0 p1 p2 : Nat) : (s.event blk code part p0 p1 p2).drec = s.drec := by rw [(event_touches s blk code part p0 p1 p2).rest]
@[simp] theorem State.event_keys (s : State) (blk code part p0 p1 p2 : Nat) : (s.event blk code part p0 p1 p2).keys = s.keys := by rw [(event_touches s blk code part p0 p1 p2).rest]
@[simp] theorem State.event_clk (s : State) (blk code part p0 p1 p2 : Nat) : (s.event blk code part p0 p1 p2).clk = s.clk := by rw [(event_touches s blk code part p0 p1 p2).rest]
@[simp] theorem State.event_aon (s : State) (blk code part p0 p1 p2 : Nat) : (s.event blk code part p0 p1 p2).aon = s.aon := by rw [(event_touches s blk code part p0 p1 p2).rest]
@[simp] theorem State.event_boot (s : State) (blk code part p0 p1 p2 : Nat) : (s.event blk code part p0 p1 p2).boot = s.boot := by rw [(event_touches s blk code part p0 p1 p2).rest]
@[simp] theorem State.event_core (s : State) (blk code part p0 p1 p2 : Nat) : (s.event blk code part p0 p1 p2).core = s.core := by rw [(event_touches s blk code part p0 p1 p2).rest]
@[simp] theorem State.event_snap (s : State) (blk code part p0 p1 p2 : Nat) : (s.event blk code part p0 p1 p2).snap = s.snap := by rw [(event_touches s blk code part p0 p1 p2).rest]
@[simp] theorem State.event_freeCtr (s : State) (blk code part p0 p1 p2 : Nat) : (s.event blk code part p0 p1 p2).freeCtr = s.freeCtr := by rw [(event_touches s blk code part p0 p1 p2).rest]
@[simp] theorem State.event_pending (s : State) (blk code part p0 p1 p2 : Nat) : (s.event blk code part p0 p1 p2).pending = s.pending := by rw [(event_touches s blk code part p0 p1 p2).rest]

/-! State.openRound -/

@[simp] theorem State.openRound_regs (s : State) (n : Int) (d : Nat) : (s.openRound n d).2.regs = s.regs := by unfold State.openRound; split <;> rfl
@[simp] theorem State.openRound_aonRegs (s : State) (n : Int) (d : Nat) : (s.openRound n d).2.aonRegs = s.aonRegs := by unfold State.openRound; split <;> rfl
@[simp] theorem State.openRound_cnts (s : State) (n : Int) (d : Nat) : (s.openRound n d).2.cnts = s.cnts := by unfold State.openRound; split <;> rfl
@[simp] theorem State.openRound_bank (s : State) (n : Int) (d : Nat) : (s.openRound n d).2.bank = s.bank := by unfold State.openRound; split <;> rfl
@[simp] theorem State.openRound_mbx (s : State) (n : Int) (d : Nat) : (s.openRound n d).2.mbx = s.mbx := by unfold State.openRound; split <;> rfl
@[simp] theorem State.openRound_mem (s : State) (n : Int) (d : Nat) : (s.openRound n d).2.mem = s.mem := by unfold State.openRound; split <;> rfl
@[simp] theorem State.openRound_time (s : State) (n : Int) (d : Nat) : (s.openRound n d).2.time = s.time := by unfold State.openRound; split <;> rfl
@[simp] theorem State.openRound_elog (s : State) (n : Int) (d : Nat) : (s.openRound n d).2.elog = s.elog := by unfold State.openRound; split <;> rfl
@[simp] theorem State.openRound_part (s : State) (n : Int) (d : Nat) : (s.openRound n d).2.part = s.part := by unfold State.openRound; split <;> rfl
@[simp] theorem State.openRound_tide (s : State) (n : Int) (d : Nat) : (s.openRound n d).2.tide = s.tide := by unfold State.openRound; split <;> rfl
@[simp] theorem State.openRound_lane (s : State) (n : Int) (d : Nat) : (s.openRound n d).2.lane = s.lane := by unfold State.openRound; split <;> rfl
@[simp] theorem State.openRound_gate (s : State) (n : Int) (d : Nat) : (s.openRound n d).2.gate = s.gate := by unfold State.openRound; split <;> rfl
@[simp] theorem State.openRound_fab (s : State) (n : Int) (d : Nat) : (s.openRound n d).2.fab = s.fab := by unfold State.openRound; split <;> rfl
@[simp] theorem State.openRound_svi (s : State) (n : Int) (d : Nat) : (s.openRound n d).2.svi = s.svi := by unfold State.openRound; split <;> rfl
@[simp] theorem State.openRound_fdc (s : State) (n : Int) (d : Nat) : (s.openRound n d).2.fdc = s.fdc := by unfold State.openRound; split <;> rfl
@[simp] theorem State.openRound_goose (s : State) (n : Int) (d : Nat) : (s.openRound n d).2.goose = s.goose := by unfold State.openRound; split <;> rfl
@[simp] theorem State.openRound_twin (s : State) (n : Int) (d : Nat) : (s.openRound n d).2.twin = s.twin := by unfold State.openRound; split <;> rfl
@[simp] theorem State.openRound_swc (s : State) (n : Int) (d : Nat) : (s.openRound n d).2.swc = s.swc := by unfold State.openRound; split <;> rfl
@[simp] theorem State.openRound_port (s : State) (n : Int) (d : Nat) : (s.openRound n d).2.port = s.port := by unfold State.openRound; split <;> rfl
@[simp] theorem State.openRound_drec (s : State) (n : Int) (d : Nat) : (s.openRound n d).2.drec = s.drec := by unfold State.openRound; split <;> rfl
@[simp] theorem State.openRound_keys (s : State) (n : Int) (d : Nat) : (s.openRound n d).2.keys = s.keys := by unfold State.openRound; split <;> rfl
@[simp] theorem State.openRound_clk (s : State) (n : Int) (d : Nat) : (s.openRound n d).2.clk = s.clk := by unfold State.openRound; split <;> rfl
@[simp] theorem State.openRound_aon (s : State) (n : Int) (d : Nat) : (s.openRound n d).2.aon = s.aon := by unfold State.openRound; split <;> rfl
@[simp] theorem State.openRound_boot (s : State) (n : Int) (d : Nat) : (s.openRound n d).2.boot = s.boot := by unfold State.openRound; split <;> rfl
@[simp] theorem State.openRound_core (s : State) (n : Int) (d : Nat) : (s.openRound n d).2.core = s.core := by unfold State.openRound; split <;> rfl
@[simp] theorem State.openRound_snap (s : State) (n : Int) (d : Nat) : (s.openRound n d).2.snap = s.snap := by unfold State.openRound; split <;> rfl
@[simp] theorem State.openRound_pending (s : State) (n : Int) (d : Nat) : (s.openRound n d).2.pending = s.pending := by unfold State.openRound; split <;> rfl

end Sys2Proof.Machine
end

