-- ==== Sys2Proof/Laws/Kept.lean ====
section
/-! SUPPORT. What nothing in the machine does: it never adds a command to the queue or takes one from it, never leaves a sound state,
never undoes a burned fuse, and never touches a part of the machine outside the set of parts stated for it. `Kept μ s t` says so of a step
from `s` to `t` and the set of parts `μ`; each function of the machine has one lemma that carries `Kept` through it. -/

set_option Elab.async false

namespace Sys2Proof.Machine

theorem Fuses.Kept.refl (f : Fuses) : Fuses.Kept f f := ⟨Nat.le_refl _, fun _ h => h, id, List.suffix_rfl⟩

theorem Fuses.Kept.trans {a b c : Fuses} (h : Fuses.Kept a b) (k : Fuses.Kept b c) : Fuses.Kept a c :=
  ⟨Nat.le_trans h.1 k.1, fun x e => k.2.1 x (h.2.1 x e), fun e => k.2.2.1 (h.2.2.1 e), h.2.2.2.trans k.2.2.2⟩

/-- The parts of one set are all in another. -/
structure Within (a μ : Nat) : Prop where
  holds : a &&& μ = a

theorem Within.sub {a b μ : Nat} (h : Within a μ) (k : b &&& a = b) : Within b μ := ⟨by rw [← k, Nat.and_assoc, h.holds]⟩

theorem Within.trans {a b μ : Nat} (h : Within a b) (k : Within b μ) : Within a μ :=
  ⟨by rw [← h.holds, Nat.and_assoc, k.holds]⟩

theorem Within.bit {a μ i : Nat} (h : Within a μ) (k : μ.testBit i = false) : a.testBit i = false := by
  rw [← h.holds, Nat.testBit_and, k, Bool.and_false]

theorem Within.testBit {μ i : Nat} (h : Within (2 ^ i) μ) : μ.testBit i = true := by
  have := congrArg (Nat.testBit · i) h.holds
  simpa [Nat.testBit_and, Nat.testBit_two_pow_self] using this

theorem Within.part {μ i : Nat} {p : Part} (h : Within (2 ^ i) μ) (k : μ.testBit p.bit = false) : p.bit ≠ i := by
  intro e
  rw [e, h.testBit] at k
  exact absurd k (by decide)

/-- The set of parts that a write of a register field of a block touches. -/
def blkBits (b : Nat) : Nat := 2 ^ (32 + b % 32)

/-- The set of parts that a count touches: the counters of its block, and the overflow flags of its group. -/
def Ctr.bits (c : Ctr) : Nat := 2 ^ (64 + c.blk % 32) ||| blkBits c.ovf.blk ||| (match c.inst with | some f => blkBits f.blk | none => 0)

theorem Within.ovf {c : Ctr} {μ : Nat} (h : Within c.bits μ) : Within (blkBits c.ovf.blk) μ :=
  h.sub (by unfold Ctr.bits; apply Nat.eq_of_testBit_eq; intro i; simp only [Nat.testBit_and, Nat.testBit_or]; cases (blkBits c.ovf.blk).testBit i <;> simp)

theorem Within.inst {c : Ctr} {μ : Nat} (h : Within c.bits μ) {f : Fld} (e : c.inst = some f) : Within (blkBits f.blk) μ :=
  h.sub (by
    unfold Ctr.bits; rw [e]; apply Nat.eq_of_testBit_eq; intro i
    simp only [Nat.testBit_and, Nat.testBit_or]; cases (blkBits f.blk).testBit i <;> simp)

theorem SameBut.refl (μ : Nat) (s : State) : SameBut μ s s := by
  intro p _; cases p <;> first | rfl | exact fun _ _ => rfl

theorem SameBut.trans {μ : Nat} {a b c : State} (h : SameBut μ a b) (k : SameBut μ b c) : SameBut μ a c := by
  intro p hp
  have h := h p hp
  have k := k p hp
  cases p <;> first | exact Eq.trans k h | exact fun x e => (k x e).trans (h x e)

theorem SameBut.mono {a μ : Nat} {s t : State} (h : SameBut a s t) (k : Within a μ) : SameBut μ s t := fun p hp => h p (k.bit hp)

/-- From `s` to `t` the queue is the same, soundness is kept, no fuse is undone, and what lies outside a set of parts is the same. -/
def Kept (μ : Nat) (s t : State) : Prop :=
  t.pending = s.pending ∧ (s.Sound → t.Sound) ∧ Fuses.Kept s.keys.fuses t.keys.fuses ∧ SameBut μ s t

/-- `Kept` of a state that may be absent. -/
def KeptO (μ : Nat) (s : State) : Option State → Prop
  | none => True
  | some t => Kept μ s t

/-- `Kept` of the state of a pair that may be absent. -/
def KeptP {α : Type} (μ : Nat) (s : State) : Option (α × State) → Prop
  | none => True
  | some p => Kept μ s p.2

/-- `Kept` of a next state, if the outcome is one. -/
def KeptN (μ : Nat) (s : State) : Host.Outcome State Fault Refusal → Prop
  | .next t => Kept μ s t
  | _ => True

theorem Kept.refl {μ : Nat} (s : State) : Kept μ s s := ⟨rfl, id, Fuses.Kept.refl _, SameBut.refl _ _⟩

theorem Kept.trans {μ : Nat} {a b c : State} (h : Kept μ a b) (k : Kept μ b c) : Kept μ a c :=
  ⟨k.1.trans h.1, fun x => k.2.1 (h.2.1 x), h.2.2.1.trans k.2.2.1, h.2.2.2.trans k.2.2.2⟩

/-- An update that touches parts of a set, and neither the queue nor the fuses nor what soundness is about. -/
theorem Kept.upd {a μ : Nat} {s₀ s t : State} (h : Kept μ s₀ s) (hm : Within a μ) (hf : SameBut a s t) (hp : t.pending = s.pending := by rfl)
    (hr : t.regs = s.regs := by rfl) (hc : t.cnts = s.cnts := by rfl) (hw : t.mem = s.mem := by rfl)
    (hk : t.keys.fuses = s.keys.fuses := by rfl) : Kept μ s₀ t :=
  h.trans ⟨hp, fun x => by unfold State.Sound at *; rw [hr, hc, hw]; exact x, by rw [hk]; exact Fuses.Kept.refl _, hf.mono hm⟩

theorem Kept.upd_1 {μ : Nat} {s₀ s : State} (h : Kept μ s₀ s) {aonRegs} (hm : Within 0x1 μ) :
    Kept μ s₀ ⟨s.regs, aonRegs, s.cnts, s.bank, s.mbx, s.mem, s.time, s.elog, s.part, s.tide, s.lane, s.gate, s.fab, s.svi, s.fdc, s.goose, s.twin, s.swc, s.port, s.drec, s.keys, s.clk, s.aon, s.boot, s.core, s.snap, s.freeCtr, s.pending⟩ :=
  h.upd hm (by intro p hp; cases p <;> first | rfl | exact fun _ _ => rfl | exact absurd hp (by decide))

theorem Kept.upd_4 {μ : Nat} {s₀ s : State} (h : Kept μ s₀ s) {mbx} (hm : Within 0x4 μ) :
    Kept μ s₀ ⟨s.regs, s.aonRegs, s.cnts, s.bank, mbx, s.mem, s.time, s.elog, s.part, s.tide, s.lane, s.gate, s.fab, s.svi, s.fdc, s.goose, s.twin, s.swc, s.port, s.drec, s.keys, s.clk, s.aon, s.boot, s.core, s.snap, s.freeCtr, s.pending⟩ :=
  h.upd hm (by intro p hp; cases p <;> first | rfl | exact fun _ _ => rfl | exact absurd hp (by decide))

theorem Kept.upd_10 {μ : Nat} {s₀ s : State} (h : Kept μ s₀ s) {time} (hm : Within 0x10 μ) :
    Kept μ s₀ ⟨s.regs, s.aonRegs, s.cnts, s.bank, s.mbx, s.mem, time, s.elog, s.part, s.tide, s.lane, s.gate, s.fab, s.svi, s.fdc, s.goose, s.twin, s.swc, s.port, s.drec, s.keys, s.clk, s.aon, s.boot, s.core, s.snap, s.freeCtr, s.pending⟩ :=
  h.upd hm (by intro p hp; cases p <;> first | rfl | exact fun _ _ => rfl | exact absurd hp (by decide))

theorem Kept.upd_20 {μ : Nat} {s₀ s : State} (h : Kept μ s₀ s) {elog} (hm : Within 0x20 μ) :
    Kept μ s₀ ⟨s.regs, s.aonRegs, s.cnts, s.bank, s.mbx, s.mem, s.time, elog, s.part, s.tide, s.lane, s.gate, s.fab, s.svi, s.fdc, s.goose, s.twin, s.swc, s.port, s.drec, s.keys, s.clk, s.aon, s.boot, s.core, s.snap, s.freeCtr, s.pending⟩ :=
  h.upd hm (by intro p hp; cases p <;> first | rfl | exact fun _ _ => rfl | exact absurd hp (by decide))

theorem Kept.upd_40 {μ : Nat} {s₀ s : State} (h : Kept μ s₀ s) {part} (hm : Within 0x40 μ) :
    Kept μ s₀ ⟨s.regs, s.aonRegs, s.cnts, s.bank, s.mbx, s.mem, s.time, s.elog, part, s.tide, s.lane, s.gate, s.fab, s.svi, s.fdc, s.goose, s.twin, s.swc, s.port, s.drec, s.keys, s.clk, s.aon, s.boot, s.core, s.snap, s.freeCtr, s.pending⟩ :=
  h.upd hm (by intro p hp; cases p <;> first | rfl | exact fun _ _ => rfl | exact absurd hp (by decide))

theorem Kept.upd_80 {μ : Nat} {s₀ s : State} (h : Kept μ s₀ s) {tide} (hm : Within 0x80 μ) :
    Kept μ s₀ ⟨s.regs, s.aonRegs, s.cnts, s.bank, s.mbx, s.mem, s.time, s.elog, s.part, tide, s.lane, s.gate, s.fab, s.svi, s.fdc, s.goose, s.twin, s.swc, s.port, s.drec, s.keys, s.clk, s.aon, s.boot, s.core, s.snap, s.freeCtr, s.pending⟩ :=
  h.upd hm (by intro p hp; cases p <;> first | rfl | exact fun _ _ => rfl | exact absurd hp (by decide))

theorem Kept.upd_100 {μ : Nat} {s₀ s : State} (h : Kept μ s₀ s) {lane} (hm : Within 0x100 μ) :
    Kept μ s₀ ⟨s.regs, s.aonRegs, s.cnts, s.bank, s.mbx, s.mem, s.time, s.elog, s.part, s.tide, lane, s.gate, s.fab, s.svi, s.fdc, s.goose, s.twin, s.swc, s.port, s.drec, s.keys, s.clk, s.aon, s.boot, s.core, s.snap, s.freeCtr, s.pending⟩ :=
  h.upd hm (by intro p hp; cases p <;> first | rfl | exact fun _ _ => rfl | exact absurd hp (by decide))

theorem Kept.upd_200 {μ : Nat} {s₀ s : State} (h : Kept μ s₀ s) {gate} (hm : Within 0x200 μ) :
    Kept μ s₀ ⟨s.regs, s.aonRegs, s.cnts, s.bank, s.mbx, s.mem, s.time, s.elog, s.part, s.tide, s.lane, gate, s.fab, s.svi, s.fdc, s.goose, s.twin, s.swc, s.port, s.drec, s.keys, s.clk, s.aon, s.boot, s.core, s.snap, s.freeCtr, s.pending⟩ :=
  h.upd hm (by intro p hp; cases p <;> first | rfl | exact fun _ _ => rfl | exact absurd hp (by decide))

theorem Kept.upd_210 {μ : Nat} {s₀ s : State} (h : Kept μ s₀ s) {time gate} (hm : Within 0x210 μ) :
    Kept μ s₀ ⟨s.regs, s.aonRegs, s.cnts, s.bank, s.mbx, s.mem, time, s.elog, s.part, s.tide, s.lane, gate, s.fab, s.svi, s.fdc, s.goose, s.twin, s.swc, s.port, s.drec, s.keys, s.clk, s.aon, s.boot, s.core, s.snap, s.freeCtr, s.pending⟩ :=
  h.upd hm (by intro p hp; cases p <;> first | rfl | exact fun _ _ => rfl | exact absurd hp (by decide))

theorem Kept.upd_400 {μ : Nat} {s₀ s : State} (h : Kept μ s₀ s) {fab} (hm : Within 0x400 μ) :
    Kept μ s₀ ⟨s.regs, s.aonRegs, s.cnts, s.bank, s.mbx, s.mem, s.time, s.elog, s.part, s.tide, s.lane, s.gate, fab, s.svi, s.fdc, s.goose, s.twin, s.swc, s.port, s.drec, s.keys, s.clk, s.aon, s.boot, s.core, s.snap, s.freeCtr, s.pending⟩ :=
  h.upd hm (by intro p hp; cases p <;> first | rfl | exact fun _ _ => rfl | exact absurd hp (by decide))

theorem Kept.upd_800 {μ : Nat} {s₀ s : State} (h : Kept μ s₀ s) {svi} (hm : Within 0x800 μ) :
    Kept μ s₀ ⟨s.regs, s.aonRegs, s.cnts, s.bank, s.mbx, s.mem, s.time, s.elog, s.part, s.tide, s.lane, s.gate, s.fab, svi, s.fdc, s.goose, s.twin, s.swc, s.port, s.drec, s.keys, s.clk, s.aon, s.boot, s.core, s.snap, s.freeCtr, s.pending⟩ :=
  h.upd hm (by intro p hp; cases p <;> first | rfl | exact fun _ _ => rfl | exact absurd hp (by decide))

theorem Kept.upd_1000 {μ : Nat} {s₀ s : State} (h : Kept μ s₀ s) {fdc} (hm : Within 0x1000 μ) :
    Kept μ s₀ ⟨s.regs, s.aonRegs, s.cnts, s.bank, s.mbx, s.mem, s.time, s.elog, s.part, s.tide, s.lane, s.gate, s.fab, s.svi, fdc, s.goose, s.twin, s.swc, s.port, s.drec, s.keys, s.clk, s.aon, s.boot, s.core, s.snap, s.freeCtr, s.pending⟩ :=
  h.upd hm (by intro p hp; cases p <;> first | rfl | exact fun _ _ => rfl | exact absurd hp (by decide))

theorem Kept.upd_2000 {μ : Nat} {s₀ s : State} (h : Kept μ s₀ s) {goose} (hm : Within 0x2000 μ) :
    Kept μ s₀ ⟨s.regs, s.aonRegs, s.cnts, s.bank, s.mbx, s.mem, s.time, s.elog, s.part, s.tide, s.lane, s.gate, s.fab, s.svi, s.fdc, goose, s.twin, s.swc, s.port, s.drec, s.keys, s.clk, s.aon, s.boot, s.core, s.snap, s.freeCtr, s.pending⟩ :=
  h.upd hm (by intro p hp; cases p <;> first | rfl | exact fun _ _ => rfl | exact absurd hp (by decide))

theorem Kept.upd_4000 {μ : Nat} {s₀ s : State} (h : Kept μ s₀ s) {twin} (hm : Within 0x4000 μ) :
    Kept μ s₀ ⟨s.regs, s.aonRegs, s.cnts, s.bank, s.mbx, s.mem, s.time, s.elog, s.part, s.tide, s.lane, s.gate, s.fab, s.svi, s.fdc, s.goose, twin, s.swc, s.port, s.drec, s.keys, s.clk, s.aon, s.boot, s.core, s.snap, s.freeCtr, s.pending⟩ :=
  h.upd hm (by intro p hp; cases p <;> first | rfl | exact fun _ _ => rfl | exact absurd hp (by decide))

theorem Kept.upd_8000 {μ : Nat} {s₀ s : State} (h : Kept μ s₀ s) {swc} (hm : Within 0x8000 μ) :
    Kept μ s₀ ⟨s.regs, s.aonRegs, s.cnts, s.bank, s.mbx, s.mem, s.time, s.elog, s.part, s.tide, s.lane, s.gate, s.fab, s.svi, s.fdc, s.goose, s.twin, swc, s.port, s.drec, s.keys, s.clk, s.aon, s.boot, s.core, s.snap, s.freeCtr, s.pending⟩ :=
  h.upd hm (by intro p hp; cases p <;> first | rfl | exact fun _ _ => rfl | exact absurd hp (by decide))

theorem Kept.upd_10000 {μ : Nat} {s₀ s : State} (h : Kept μ s₀ s) {port} (hm : Within 0x10000 μ) :
    Kept μ s₀ ⟨s.regs, s.aonRegs, s.cnts, s.bank, s.mbx, s.mem, s.time, s.elog, s.part, s.tide, s.lane, s.gate, s.fab, s.svi, s.fdc, s.goose, s.twin, s.swc, port, s.drec, s.keys, s.clk, s.aon, s.boot, s.core, s.snap, s.freeCtr, s.pending⟩ :=
  h.upd hm (by intro p hp; cases p <;> first | rfl | exact fun _ _ => rfl | exact absurd hp (by decide))

theorem Kept.upd_20000 {μ : Nat} {s₀ s : State} (h : Kept μ s₀ s) {drec} (hm : Within 0x20000 μ) :
    Kept μ s₀ ⟨s.regs, s.aonRegs, s.cnts, s.bank, s.mbx, s.mem, s.time, s.elog, s.part, s.tide, s.lane, s.gate, s.fab, s.svi, s.fdc, s.goose, s.twin, s.swc, s.port, drec, s.keys, s.clk, s.aon, s.boot, s.core, s.snap, s.freeCtr, s.pending⟩ :=
  h.upd hm (by intro p hp; cases p <;> first | rfl | exact fun _ _ => rfl | exact absurd hp (by decide))

theorem Kept.upd_40000 {μ : Nat} {s₀ s : State} (h : Kept μ s₀ s) {k1 k2 k3 k4 k5 k6} (hm : Within 0x40000 μ) :
    Kept μ s₀ ⟨s.regs, s.aonRegs, s.cnts, s.bank, s.mbx, s.mem, s.time, s.elog, s.part, s.tide, s.lane, s.gate, s.fab, s.svi, s.fdc, s.goose, s.twin, s.swc, s.port, s.drec, ⟨k1, k2, k3, s.keys.fuses, k4, k5, k6⟩, s.clk, s.aon, s.boot, s.core, s.snap, s.freeCtr, s.pending⟩ :=
  h.upd hm (by intro p hp; cases p <;> first | rfl | exact fun _ _ => rfl | exact absurd hp (by decide))

theorem Kept.upd_80000 {μ : Nat} {s₀ s : State} (h : Kept μ s₀ s) {clk} (hm : Within 0x80000 μ) :
    Kept μ s₀ ⟨s.regs, s.aonRegs, s.cnts, s.bank, s.mbx, s.mem, s.time, s.elog, s.part, s.tide, s.lane, s.gate, s.fab, s.svi, s.fdc, s.goose, s.twin, s.swc, s.port, s.drec, s.keys, clk, s.aon, s.boot, s.core, s.snap, s.freeCtr, s.pending⟩ :=
  h.upd hm (by intro p hp; cases p <;> first | rfl | exact fun _ _ => rfl | exact absurd hp (by decide))

theorem Kept.upd_80010 {μ : Nat} {s₀ s : State} (h : Kept μ s₀ s) {time clk} (hm : Within 0x80010 μ) :
    Kept μ s₀ ⟨s.regs, s.aonRegs, s.cnts, s.bank, s.mbx, s.mem, time, s.elog, s.part, s.tide, s.lane, s.gate, s.fab, s.svi, s.fdc, s.goose, s.twin, s.swc, s.port, s.drec, s.keys, clk, s.aon, s.boot, s.core, s.snap, s.freeCtr, s.pending⟩ :=
  h.upd hm (by intro p hp; cases p <;> first | rfl | exact fun _ _ => rfl | exact absurd hp (by decide))

theorem Kept.upd_80200 {μ : Nat} {s₀ s : State} (h : Kept μ s₀ s) {gate clk} (hm : Within 0x80200 μ) :
    Kept μ s₀ ⟨s.regs, s.aonRegs, s.cnts, s.bank, s.mbx, s.mem, s.time, s.elog, s.part, s.tide, s.lane, gate, s.fab, s.svi, s.fdc, s.goose, s.twin, s.swc, s.port, s.drec, s.keys, clk, s.aon, s.boot, s.core, s.snap, s.freeCtr, s.pending⟩ :=
  h.upd hm (by intro p hp; cases p <;> first | rfl | exact fun _ _ => rfl | exact absurd hp (by decide))

theorem Kept.upd_80002 {μ : Nat} {s₀ s : State} (h : Kept μ s₀ s) {bank clk} (hm : Within 0x80002 μ) :
    Kept μ s₀ ⟨s.regs, s.aonRegs, s.cnts, bank, s.mbx, s.mem, s.time, s.elog, s.part, s.tide, s.lane, s.gate, s.fab, s.svi, s.fdc, s.goose, s.twin, s.swc, s.port, s.drec, s.keys, clk, s.aon, s.boot, s.core, s.snap, s.freeCtr, s.pending⟩ :=
  h.upd hm (by intro p hp; cases p <;> first | rfl | exact fun _ _ => rfl | exact absurd hp (by decide))

theorem Kept.upd_84010 {μ : Nat} {s₀ s : State} (h : Kept μ s₀ s) {time twin clk} (hm : Within 0x84010 μ) :
    Kept μ s₀ ⟨s.regs, s.aonRegs, s.cnts, s.bank, s.mbx, s.mem, time, s.elog, s.part, s.tide, s.lane, s.gate, s.fab, s.svi, s.fdc, s.goose, twin, s.swc, s.port, s.drec, s.keys, clk, s.aon, s.boot, s.core, s.snap, s.freeCtr, s.pending⟩ :=
  h.upd hm (by intro p hp; cases p <;> first | rfl | exact fun _ _ => rfl | exact absurd hp (by decide))

theorem Kept.upd_90000 {μ : Nat} {s₀ s : State} (h : Kept μ s₀ s) {port clk} (hm : Within 0x90000 μ) :
    Kept μ s₀ ⟨s.regs, s.aonRegs, s.cnts, s.bank, s.mbx, s.mem, s.time, s.elog, s.part, s.tide, s.lane, s.gate, s.fab, s.svi, s.fdc, s.goose, s.twin, s.swc, port, s.drec, s.keys, clk, s.aon, s.boot, s.core, s.snap, s.freeCtr, s.pending⟩ :=
  h.upd hm (by intro p hp; cases p <;> first | rfl | exact fun _ _ => rfl | exact absurd hp (by decide))

theorem Kept.upd_100000 {μ : Nat} {s₀ s : State} (h : Kept μ s₀ s) {aon} (hm : Within 0x100000 μ) :
    Kept μ s₀ ⟨s.regs, s.aonRegs, s.cnts, s.bank, s.mbx, s.mem, s.time, s.elog, s.part, s.tide, s.lane, s.gate, s.fab, s.svi, s.fdc, s.goose, s.twin, s.swc, s.port, s.drec, s.keys, s.clk, aon, s.boot, s.core, s.snap, s.freeCtr, s.pending⟩ :=
  h.upd hm (by intro p hp; cases p <;> first | rfl | exact fun _ _ => rfl | exact absurd hp (by decide))

theorem Kept.upd_100001 {μ : Nat} {s₀ s : State} (h : Kept μ s₀ s) {aonRegs aon} (hm : Within 0x100001 μ) :
    Kept μ s₀ ⟨s.regs, aonRegs, s.cnts, s.bank, s.mbx, s.mem, s.time, s.elog, s.part, s.tide, s.lane, s.gate, s.fab, s.svi, s.fdc, s.goose, s.twin, s.swc, s.port, s.drec, s.keys, s.clk, aon, s.boot, s.core, s.snap, s.freeCtr, s.pending⟩ :=
  h.upd hm (by intro p hp; cases p <;> first | rfl | exact fun _ _ => rfl | exact absurd hp (by decide))

theorem Kept.upd_140000 {μ : Nat} {s₀ s : State} (h : Kept μ s₀ s) {k1 k2 k3 k4 k5 k6 aon} (hm : Within 0x140000 μ) :
    Kept μ s₀ ⟨s.regs, s.aonRegs, s.cnts, s.bank, s.mbx, s.mem, s.time, s.elog, s.part, s.tide, s.lane, s.gate, s.fab, s.svi, s.fdc, s.goose, s.twin, s.swc, s.port, s.drec, ⟨k1, k2, k3, s.keys.fuses, k4, k5, k6⟩, s.clk, aon, s.boot, s.core, s.snap, s.freeCtr, s.pending⟩ :=
  h.upd hm (by intro p hp; cases p <;> first | rfl | exact fun _ _ => rfl | exact absurd hp (by decide))

theorem Kept.upd_180000 {μ : Nat} {s₀ s : State} (h : Kept μ s₀ s) {clk aon} (hm : Within 0x180000 μ) :
    Kept μ s₀ ⟨s.regs, s.aonRegs, s.cnts, s.bank, s.mbx, s.mem, s.time, s.elog, s.part, s.tide, s.lane, s.gate, s.fab, s.svi, s.fdc, s.goose, s.twin, s.swc, s.port, s.drec, s.keys, clk, aon, s.boot, s.core, s.snap, s.freeCtr, s.pending⟩ :=
  h.upd hm (by intro p hp; cases p <;> first | rfl | exact fun _ _ => rfl | exact absurd hp (by decide))

theorem Kept.upd_200000 {μ : Nat} {s₀ s : State} (h : Kept μ s₀ s) {boot} (hm : Within 0x200000 μ) :
    Kept μ s₀ ⟨s.regs, s.aonRegs, s.cnts, s.bank, s.mbx, s.mem, s.time, s.elog, s.part, s.tide, s.lane, s.gate, s.fab, s.svi, s.fdc, s.goose, s.twin, s.swc, s.port, s.drec, s.keys, s.clk, s.aon, boot, s.core, s.snap, s.freeCtr, s.pending⟩ :=
  h.upd hm (by intro p hp; cases p <;> first | rfl | exact fun _ _ => rfl | exact absurd hp (by decide))

theorem Kept.upd_400000 {μ : Nat} {s₀ s : State} (h : Kept μ s₀ s) {core} (hm : Within 0x400000 μ) :
    Kept μ s₀ ⟨s.regs, s.aonRegs, s.cnts, s.bank, s.mbx, s.mem, s.time, s.elog, s.part, s.tide, s.lane, s.gate, s.fab, s.svi, s.fdc, s.goose, s.twin, s.swc, s.port, s.drec, s.keys, s.clk, s.aon, s.boot, core, s.snap, s.freeCtr, s.pending⟩ :=
  h.upd hm (by intro p hp; cases p <;> first | rfl | exact fun _ _ => rfl | exact absurd hp (by decide))

theorem Kept.upd_880002 {μ : Nat} {s₀ s : State} (h : Kept μ s₀ s) {bank clk snap} (hm : Within 0x880002 μ) :
    Kept μ s₀ ⟨s.regs, s.aonRegs, s.cnts, bank, s.mbx, s.mem, s.time, s.elog, s.part, s.tide, s.lane, s.gate, s.fab, s.svi, s.fdc, s.goose, s.twin, s.swc, s.port, s.drec, s.keys, clk, s.aon, s.boot, s.core, snap, s.freeCtr, s.pending⟩ :=
  h.upd hm (by intro p hp; cases p <;> first | rfl | exact fun _ _ => rfl | exact absurd hp (by decide))

theorem Kept.upd_1000000 {μ : Nat} {s₀ s : State} (h : Kept μ s₀ s) {freeCtr} (hm : Within 0x1000000 μ) :
    Kept μ s₀ ⟨s.regs, s.aonRegs, s.cnts, s.bank, s.mbx, s.mem, s.time, s.elog, s.part, s.tide, s.lane, s.gate, s.fab, s.svi, s.fdc, s.goose, s.twin, s.swc, s.port, s.drec, s.keys, s.clk, s.aon, s.boot, s.core, s.snap, freeCtr, s.pending⟩ :=
  h.upd hm (by intro p hp; cases p <;> first | rfl | exact fun _ _ => rfl | exact absurd hp (by decide))

theorem Kept.upd_1200000 {μ : Nat} {s₀ s : State} (h : Kept μ s₀ s) {boot freeCtr} (hm : Within 0x1200000 μ) :
    Kept μ s₀ ⟨s.regs, s.aonRegs, s.cnts, s.bank, s.mbx, s.mem, s.time, s.elog, s.part, s.tide, s.lane, s.gate, s.fab, s.svi, s.fdc, s.goose, s.twin, s.swc, s.port, s.drec, s.keys, s.clk, s.aon, boot, s.core, s.snap, freeCtr, s.pending⟩ :=
  h.upd hm (by intro p hp; cases p <;> first | rfl | exact fun _ _ => rfl | exact absurd hp (by decide))


theorem Fld.el_blk (f : Fld) (j : Nat) : (f.el j).blk = f.blk := rfl
theorem Ctr.cls_bits (c : Ctr) (k : Nat) : (c.cls k).bits = c.bits := rfl
theorem Fld.ien_blk (f : Fld) : f.ien.blk = f.blk := rfl

/-- The counters are dropped in part. -/
theorem Kept.dropCnts {μ : Nat} {s₀ s : State} (h : Kept μ s₀ s) (p : Nat × Nat → Bool)
    (hm : Within 0xffffffff0000000000000000 μ) : Kept μ s₀ { s with cnts := s.cnts.filter p } :=
  h.trans ⟨rfl, fun x => ⟨x.1, x.2.1, by
    have h := x.2.2
    simp only [countersBounded, List.all_eq_true] at h ⊢
    exact fun x hx => h x ((List.mem_filter.1 hx).1)⟩, Fuses.Kept.refl _, fun p hp => by
    have hb := hm.bit hp
    cases p with
    | ctrs b =>
      have h : ∀ r, r < 32 → (0xffffffff0000000000000000).testBit (64 + r) = true := by decide
      exact absurd ((h _ (Nat.mod_lt b (by decide))).symm.trans hb) (by decide)
    | regs b => exact fun _ _ => rfl
    | _ => rfl⟩

theorem blkBits_within (b : Nat) : Within (blkBits b) 0xffffffff00000000 := by
  have h : ∀ r, r < 32 → 2 ^ (32 + r) &&& 0xffffffff00000000 = 2 ^ (32 + r) := by decide
  exact ⟨h _ (Nat.mod_lt _ (by decide))⟩

/-- A write of a memory byte. -/
theorem Kept.setMemByte {μ : Nat} {s₀ s : State} (h : Kept μ s₀ s) (a v : Nat) (hm : Within 8 μ) :
    Kept μ s₀ (s.setMemByte a v) :=
  h.trans ⟨rfl, fun x => ⟨sparseWf_set _ _ x.1, x.2⟩, Fuses.Kept.refl _, fun p hp => by
    have := Within.part (i := 3) hm hp
    cases p <;> first | rfl | exact fun _ _ => rfl | exact absurd rfl this⟩

/-- A write of a register field. -/
theorem Kept.setFld {μ : Nat} {s₀ s : State} (h : Kept μ s₀ s) (f : Fld) (v i : Nat)
    (hm : Within (blkBits f.blk) μ) : Kept μ s₀ (s.setFld f v i) :=
  h.trans ⟨rfl, fun x => ⟨x.1, risingFrom_set _ _ x.2.1, x.2.2⟩, Fuses.Kept.refl _, fun p hp => by
    have hn := Within.part hm hp
    cases p with
    | regs b =>
      intro k hk
      have hne : k ≠ f.key i := by
        intro e
        rw [e, keyBlk_key] at hk
        apply hn
        show 32 + b % 32 = _
        omega
      show sparseFind k (sparseSet _ _ _ _) = _
      unfold sparseSet
      split
      · exact sparseFind_del_other hne _
      · exact sparseFind_put_other hne _ _
    | ctrs b => exact fun _ _ => rfl
    | _ => rfl⟩

/-- A counter is given a value that it may hold. -/
theorem Kept.setCnt {μ : Nat} {s₀ s : State} (h : Kept μ s₀ s) (c : Ctr) (v i : Nat) (hv : v ≤ ctrMax) (hm : Within c.bits μ) :
    Kept μ s₀ { s with cnts := sparseSet 0 s.cnts (c.key i) v } :=
  h.trans ⟨rfl, fun x => ⟨x.1, x.2.1, countersBounded_set hv _ x.2.2⟩, Fuses.Kept.refl _, fun p hp => by
    have hn : p.bit ≠ 64 + c.blk % 32 := by
      intro e
      have h1 := hm.bit hp
      rw [e] at h1
      simp [Ctr.bits, Nat.testBit_or, Nat.testBit_two_pow_self] at h1
    cases p with
    | ctrs b =>
      intro k hk
      have hne : k ≠ c.key i := by
        intro e
        rw [e, ctrBlk_key] at hk
        apply hn
        show 64 + b % 32 = _
        omega
      show sparseFind k (sparseSet _ _ _ _) = _
      unfold sparseSet
      split
      · exact sparseFind_del_other hne _
      · exact sparseFind_put_other hne _ _
    | regs b => exact fun _ _ => rfl
    | _ => rfl⟩

theorem Kept.ite {μ : Nat} {s₀ : State} {c : Prop} [Decidable c] {s t : State} (h : Kept μ s₀ s) (k : Kept μ s₀ t) : Kept μ s₀ (if c then s else t) := by
  split <;> assumption

theorem Kept.ite2 {α : Type} {μ : Nat} {s₀ : State} {c : Prop} [Decidable c] {s t : α × State} (h : Kept μ s₀ s.2) (k : Kept μ s₀ t.2) :
    Kept μ s₀ (if c then s else t).2 := by
  split <;> assumption

theorem Kept.ite22 {α β : Type} {μ : Nat} {s₀ : State} {c : Prop} [Decidable c] {s t : α × β × State} (h : Kept μ s₀ s.2.2) (k : Kept μ s₀ t.2.2) :
    Kept μ s₀ (if c then s else t).2.2 := by
  split <;> assumption

theorem KeptO.ite {μ : Nat} {s₀ : State} {c : Prop} [Decidable c] {s t : Option State} (h : KeptO μ s₀ s) (k : KeptO μ s₀ t) :
    KeptO μ s₀ (if c then s else t) := by
  split <;> assumption

theorem KeptP.ite {α : Type} {μ : Nat} {s₀ : State} {c : Prop} [Decidable c] {s t : Option (α × State)} (h : KeptP μ s₀ s) (k : KeptP μ s₀ t) :
    KeptP μ s₀ (if c then s else t) := by
  split <;> assumption

theorem KeptN.ite {μ : Nat} {s₀ : State} {c : Prop} [Decidable c] {s t : Host.Outcome State Fault Refusal} (h : KeptN μ s₀ s) (k : KeptN μ s₀ t) :
    KeptN μ s₀ (if c then s else t) := by
  split <;> assumption

theorem Kept.foldl {α : Type} {μ : Nat} {s₀ s : State} {f : State → α → State} (h : Kept μ s₀ s) (k : ∀ t a, Kept μ s₀ t → Kept μ s₀ (f t a)) (l : List α) :
    Kept μ s₀ (l.foldl f s) := by
  induction l generalizing s with
  | nil => exact h
  | cons a l ih => exact ih (k s a h)

theorem Kept.foldl_pair {α β : Type} {μ : Nat} {s₀ : State} {p : β × State} {f : β × State → α → β × State} (h : Kept μ s₀ p.2)
    (k : ∀ q a, Kept μ s₀ q.2 → Kept μ s₀ (f q a).2) (l : List α) : Kept μ s₀ (l.foldl f p).2 := by
  induction l generalizing p with
  | nil => exact h
  | cons a l ih => exact ih (k p a h)

theorem Kept.foldl_triple {α β γ : Type} {μ : Nat} {s₀ : State} {p : β × γ × State} {f : β × γ × State → α → β × γ × State} (h : Kept μ s₀ p.2.2)
    (k : ∀ q a, Kept μ s₀ q.2.2 → Kept μ s₀ (f q a).2.2) (l : List α) : Kept μ s₀ (l.foldl f p).2.2 := by
  induction l generalizing p with
  | nil => exact h
  | cons a l ih => exact ih (k p a h)

theorem Kept.of_pair {α : Type} {μ : Nat} {s₀ t : State} {p : α × State} {a : α} (e : p = (a, t)) (h : Kept μ s₀ p.2) : Kept μ s₀ t := by
  rw [e] at h; exact h

theorem Kept.of_triple {α β : Type} {μ : Nat} {s₀ t : State} {p : α × β × State} {a : α} {b : β} (e : p = (a, b, t)) (h : Kept μ s₀ p.2.2) : Kept μ s₀ t := by
  rw [e] at h; exact h

theorem Kept.of_some {μ : Nat} {s₀ t : State} {o : Option State} (e : o = some t) (h : KeptO μ s₀ o) : Kept μ s₀ t := by
  rw [e] at h; exact h

theorem Kept.of_somePair {α : Type} {μ : Nat} {s₀ t : State} {o : Option (α × State)} {a : α} (e : o = some (a, t)) (h : KeptP μ s₀ o) : Kept μ s₀ t := by
  rw [e] at h; exact h

theorem Kept.of_someVar {α : Type} {μ : Nat} {s₀ : State} {o : Option (α × State)} {p : α × State} (e : o = some p) (h : KeptP μ s₀ o) : Kept μ s₀ p.2 := by
  rw [e] at h; exact h

theorem Kept.of_next {μ : Nat} {s₀ t : State} {o : Host.Outcome State Fault Refusal} (e : o = .next t) (h : KeptN μ s₀ o) : Kept μ s₀ t := by
  rw [e] at h; exact h

/-- An update of the fuses that undoes none. -/
theorem Kept.fuses {μ : Nat} {s₀ s : State} (h : Kept μ s₀ s) {f : Fuses} (k : Fuses.Kept s.keys.fuses f)
    (hm : Within 0x40000 μ) : Kept μ s₀ { s with keys := { s.keys with fuses := f } } :=
  h.trans ⟨rfl, id, k, fun p hp => by
    have := Within.part (i := 18) hm hp
    cases p <;> first | rfl | exact fun _ _ => rfl | exact absurd rfl this⟩

theorem KeptP.getD {α : Type} {μ : Nat} {s₀ : State} {o : Option (α × State)} {p : α × State} (h : KeptP μ s₀ o) (k : Kept μ s₀ p.2) : Kept μ s₀ (o.getD p).2 := by
  cases o
  · exact k
  · exact h

theorem KeptO.none {μ : Nat} {s₀ : State} : KeptO μ s₀ none := True.intro

theorem KeptO.some {μ : Nat} {s₀ t : State} (h : Kept μ s₀ t) : KeptO μ s₀ (some t) := h

theorem KeptO.bind {α : Type} {μ : Nat} {s₀ : State} {o : Option α} {f : α → Option State} (k : ∀ a, KeptO μ s₀ (f a)) : KeptO μ s₀ (o.bind f) := by
  cases o
  · exact True.intro
  · exact k _

theorem KeptO.getD {μ : Nat} {s₀ t : State} {o : Option State} (h : KeptO μ s₀ o) (k : Kept μ s₀ t) : Kept μ s₀ (o.getD t) := by
  cases o
  · exact k
  · exact h

theorem KeptP.none {α : Type} {μ : Nat} {s₀ : State} : KeptP μ s₀ (none : Option (α × State)) := True.intro

theorem KeptP.some {α : Type} {μ : Nat} {s₀ : State} {p : α × State} (h : Kept μ s₀ p.2) : KeptP μ s₀ (some p) := h

theorem KeptP.pair {α : Type} {μ : Nat} {s₀ : State} {a : α} {t : State} (h : Kept μ s₀ t) : KeptP μ s₀ (Option.some (a, t)) := h

theorem KeptN.next {μ : Nat} {s₀ t : State} (h : Kept μ s₀ t) : KeptN μ s₀ (.next t) := h

theorem Kept.live {μ : Nat} {s₀ s : State} (h : Kept μ s₀ s) {f : State → State} (k : ∀ t, Kept μ s₀ t → Kept μ s₀ (f t)) : Kept μ s₀ (s.live f) := by
  unfold State.live; split
  · exact h
  · exact k s h

/-- A list of updates each of which touches what is stated. -/
theorem Kept.foldl_mem {α : Type} {μ : Nat} {s₀ s : State} {f : State → α → State} (l : List α) (h : Kept μ s₀ s)
    (k : ∀ t a, a ∈ l → Kept μ s₀ t → Kept μ s₀ (f t a)) : Kept μ s₀ (l.foldl f s) := by
  induction l generalizing s with
  | nil => exact h
  | cons a l ih => exact ih (k s a (by simp) h) (fun t b hb => k t b (by simp [hb]))

theorem Within.iteF {c : Prop} [Decidable c] {f g : Fld} {μ : Nat} (h : Within (blkBits f.blk) μ) (k : Within (blkBits g.blk) μ) :
    Within (blkBits (if c then f else g).blk) μ := by split <;> assumption

theorem Within.iteC {c : Prop} [Decidable c] {f g : Ctr} {μ : Nat} (h : Within f.bits μ) (k : Within g.bits μ) :
    Within (if c then f else g).bits μ := by split <;> assumption

end Sys2Proof.Machine
end

