-- ==== Sys2Proof/Laws/KeptOps.lean ====
section
/-! SUPPORT. Each function of Machine/Ops.lean keeps what `Kept` says. -/

set_option Elab.async false

namespace Sys2Proof.Machine

theorem State_setFlag_kept {μ : Nat} {s₀ : State} {s : State} (hs : Kept μ s₀ s) (f : Fld) (b : Bool) (i : Nat)
    (hb1 : Within (blkBits f.blk) μ) :
    Kept μ s₀ (State.setFlag s f b i) := by
  unfold State.setFlag; exact (Kept.setFld hs _ _ _ (by exact hb1))

theorem State_setSfld_kept {μ : Nat} {s₀ : State} {s : State} (hs : Kept μ s₀ s) (f : Fld) (v : Int) (i : Nat)
    (hb1 : Within (blkBits f.blk) μ) :
    Kept μ s₀ (State.setSfld s f v i) := by
  unfold State.setSfld; exact (Kept.setFld hs _ _ _ (by exact hb1))

theorem State_setFbit_kept {μ : Nat} {s₀ : State} {s : State} (hs : Kept μ s₀ s) (f : Fld) (k : Nat) (b : Bool) (i : Nat)
    (hb1 : Within (blkBits f.blk) μ) :
    Kept μ s₀ (State.setFbit s f k b i) := by
  unfold State.setFbit; exact (Kept.setFld hs _ _ _ (by exact hb1))

theorem State_setOvf_kept {μ : Nat} {s₀ : State} {s : State} (hs : Kept μ s₀ s) (c : Ctr) (i : Nat)
    (hb1 : Within (c.bits) μ) :
    Kept μ s₀ (State.setOvf s c i) := by
  unfold State.setOvf
  have h1 : ∀ {t : State} (k : Nat) (f : Fld), c.inst = some f → Kept μ s₀ t → Kept μ s₀ (t.setFld f k i) := fun k f e h => Kept.setFld h _ _ _ (hb1.inst e)
  have h2 : ∀ {t : State} (f : Fld) (v j : Nat), f.blk = c.ovf.blk → Kept μ s₀ t → Kept μ s₀ (t.setFld f v j) := fun f v j e h => Kept.setFld h _ _ _ (e ▸ hb1.ovf)
  cases hc : c.inst <;> cases c.how
  · exact h2 _ _ _ rfl hs
  · exact h2 _ _ _ rfl hs
  · exact h2 _ _ _ rfl hs
  · exact h2 _ _ _ rfl (h1 _ _ hc hs)
  · exact h2 _ _ _ rfl (h1 _ _ hc hs)
  · exact h2 _ _ _ rfl (h1 _ _ hc hs)

theorem State_countBy_kept {μ : Nat} {s₀ : State} {s : State} (hs : Kept μ s₀ s) (c : Ctr) (n : Nat) (i : Nat)
    (hb1 : Within (c.bits) μ) :
    Kept μ s₀ (State.countBy s c n i) := by
  unfold State.countBy; dsimp only
  split
  · exact hs.setCnt _ _ _ ‹_› hb1
  · exact State_setOvf_kept (hs.setCnt c ctrMax i (Nat.le_refl _) hb1) _ _ (by exact hb1)

theorem State_count_kept {μ : Nat} {s₀ : State} {s : State} (hs : Kept μ s₀ s) (c : Ctr) (i : Nat)
    (hb1 : Within (c.bits) μ) :
    Kept μ s₀ (State.count s c i) := by
  unfold State.count; exact (State_countBy_kept hs _ _ _ (by exact hb1))

theorem State_takeFree_kept {μ : Nat} {s₀ : State} {s : State} (hs : Kept μ s₀ s)
    (hm : Within 0x1000000 μ) :
    Kept μ s₀ (State.takeFree s).2 := by
  unfold State.takeFree; exact (Kept.upd_1000000 hs (hm.sub rfl))

theorem State_takeOctets_kept {μ : Nat} {s₀ : State} {s : State} (hs : Kept μ s₀ s) (a2 : Nat)
    (hm : Within 0x1000000 μ) :
    Kept μ s₀ (State.takeOctets s a2).2 := by
  unfold State.takeOctets; (try dsimp only); split; (· exact hs); (· exact (State_takeOctets_kept (State_takeFree_kept hs (hm.sub rfl)) _ hm))

theorem State_openRound_kept {μ : Nat} {s₀ : State} {s : State} (hs : Kept μ s₀ s) (n : Int) (d : Nat)
    (hm : Within 0x1000000 μ) :
    Kept μ s₀ (State.openRound s n d).2 := by
  unfold State.openRound; exact (Kept.ite2 hs (State_takeFree_kept hs (hm.sub rfl)))

theorem State_imsicPend_kept {μ : Nat} {s₀ : State} {s : State} (hs : Kept μ s₀ s) (core : Nat) (file : Nat) (ident : Nat)
    (hm : Within 0x40 μ) :
    Kept μ s₀ (State.imsicPend s core file ident) := by
  unfold State.imsicPend; exact (Kept.upd_40 hs (hm.sub rfl))

theorem State_holdIdent_kept {μ : Nat} {s₀ : State} {s : State} (hs : Kept μ s₀ s) (p : Nat) (ident : Nat)
    (hm : Within 0x400000000000 μ) :
    Kept μ s₀ (State.holdIdent s p ident) := by
  unfold State.holdIdent; exact (Kept.ite (State_setFbit_kept hs _ _ _ _ (hm.sub rfl)) (State_setFbit_kept hs _ _ _ _ (hm.sub rfl)))

theorem State_routeIdent_kept {μ : Nat} {s₀ : State} {s : State} (hs : Kept μ s₀ s) (p : Nat) (ident : Nat)
    (hm : Within 0x400000000040 μ) :
    Kept μ s₀ (State.routeIdent s p ident) := by
  unfold State.routeIdent; exact (Kept.ite (State_imsicPend_kept hs _ _ _ (hm.sub rfl)) (State_holdIdent_kept hs _ _ (hm.sub rfl)))

theorem State_raiseIdent_kept {μ : Nat} {s₀ : State} {s : State} (hs : Kept μ s₀ s) (p : Nat) (ident : Nat)
    (hm : Within 0x40010000400100000040 μ) :
    Kept μ s₀ (State.raiseIdent s p ident) := by
  unfold State.raiseIdent
  exact (Kept.ite (State_routeIdent_kept hs _ _ (hm.sub rfl)) (Kept.ite (Kept.ite (State_routeIdent_kept (State_count_kept (State_setFlag_kept (State_count_kept (State_holdIdent_kept hs _ _ (hm.sub rfl)) _ _ (hm.sub rfl)) _ _ _ (hm.sub rfl)) _ _ (hm.sub rfl)) _ _ (hm.sub rfl)) (State_count_kept (State_routeIdent_kept (State_count_kept (State_setFlag_kept (State_count_kept (State_holdIdent_kept hs _ _ (hm.sub rfl)) _ _ (hm.sub rfl)) _ _ _ (hm.sub rfl)) _ _ (hm.sub rfl)) _ _ (hm.sub rfl)) _ _ (hm.sub rfl))) (State_setFlag_kept (State_count_kept (State_holdIdent_kept hs _ _ (hm.sub rfl)) _ _ (hm.sub rfl)) _ _ _ (hm.sub rfl))))

theorem State_blockIrq_kept {μ : Nat} {s₀ : State} {s : State} (hs : Kept μ s₀ s) (blk : Nat)
    (hm : Within 0x40010000400100000040 μ) :
    Kept μ s₀ (State.blockIrq s blk) := by
  unfold State.blockIrq
  exact (Kept.ite hs (State_raiseIdent_kept (State_count_kept (Kept.upd_40 hs (hm.sub rfl)) _ _ (hm.sub rfl)) _ _ (hm.sub rfl)))

theorem State_setFlt_kept {μ : Nat} {s₀ : State} {s : State} (hs : Kept μ s₀ s) (f : Fld)
    (hb1 : Within (blkBits f.blk) μ)
    (hm : Within 0x40010000400100000040 μ) :
    Kept μ s₀ (State.setFlt s f) := by
  unfold State.setFlt
  exact (Kept.ite hs (Kept.ite (State_blockIrq_kept (State_setFlag_kept hs _ _ _ (by exact hb1)) _ (hm.sub rfl)) (State_setFlag_kept hs _ _ _ (by exact hb1))))

theorem State_setFltBit_kept {μ : Nat} {s₀ : State} {s : State} (hs : Kept μ s₀ s) (f : Fld) (k : Nat)
    (hb1 : Within (blkBits f.blk) μ)
    (hm : Within 0x40010000400100000040 μ) :
    Kept μ s₀ (State.setFltBit s f k) := by
  unfold State.setFltBit
  exact (Kept.ite hs (Kept.ite (State_blockIrq_kept (State_setFbit_kept hs _ _ _ _ (by exact hb1)) _ (hm.sub rfl)) (State_setFbit_kept hs _ _ _ _ (by exact hb1))))

theorem State_setPartBit_kept {μ : Nat} {s₀ : State} {s : State} (hs : Kept μ s₀ s) (f : Fld) (p : Nat) (b : Bool)
    (hb1 : Within (blkBits f.blk) μ) :
    Kept μ s₀ (State.setPartBit s f p b) := by
  unfold State.setPartBit; exact (State_setFbit_kept hs _ _ _ _ (by exact hb1))

theorem State_offerEvent_kept {μ : Nat} {s₀ : State} {s : State} (hs : Kept μ s₀ s) (e : Event)
    (hm : Within 0x8000000080000000020 μ) :
    Kept μ s₀ (State.offerEvent s e) := by
  unfold State.offerEvent; exact (Kept.ite (State_count_kept hs _ _ (hm.sub rfl)) (Kept.upd_20 hs (hm.sub rfl)))

theorem State_event_kept {μ : Nat} {s₀ : State} {s : State} (hs : Kept μ s₀ s) (blk : Nat) (code : Nat) (part : Nat) (p0 : Nat) (p1 : Nat) (p2 : Nat)
    (hm : Within 0x8000000080000000020 μ) :
    Kept μ s₀ (State.event s blk code part p0 p1 p2) := by
  unfold State.event; exact (State_offerEvent_kept hs _ (hm.sub rfl))

theorem State_busError_kept {μ : Nat} {s₀ : State} {s : State} (hs : Kept μ s₀ s) (kind : Nat) (init : Nat) (tag : Nat) (addr : Nat) (write : Bool)
    (hm : Within 0x48010000480100000060 μ) :
    Kept μ s₀ (State.busError s kind init tag addr write) := by
  unfold State.busError
  exact (Kept.setFld (Kept.ite (State_count_kept hs _ _ (hm.sub rfl)) (State_event_kept (State_setFlt_kept (Kept.setFld (Kept.setFld (State_setFlag_kept (Kept.setFld (Kept.setFld (Kept.setFld (State_setFlag_kept (State_count_kept hs _ _ (hm.sub rfl)) _ _ _ (hm.sub rfl)) _ _ _ (hm.sub rfl)) _ _ _ (hm.sub rfl)) _ _ _ (hm.sub rfl)) _ _ _ (hm.sub rfl)) _ _ _ (hm.sub rfl)) _ _ _ (hm.sub rfl)) _ (hm.sub rfl) (hm.sub rfl)) _ _ _ _ _ _ (hm.sub rfl))) _ _ _ (hm.sub rfl))

theorem State_lockViolation_kept {μ : Nat} {s₀ : State} {s : State} (hs : Kept μ s₀ s) (tag : Nat) (addr : Nat) (value : Nat)
    (hm : Within 0x48010000480100000060 μ) :
    Kept μ s₀ (State.lockViolation s tag addr value) := by
  unfold State.lockViolation
  exact (Kept.setFld (Kept.ite (State_count_kept hs _ _ (hm.sub rfl)) (State_event_kept (State_setFlt_kept (Kept.setFld (Kept.setFld (State_setFlag_kept (State_count_kept hs _ _ (hm.sub rfl)) _ _ _ (hm.sub rfl)) _ _ _ (hm.sub rfl)) _ _ _ (hm.sub rfl)) _ (hm.sub rfl) (hm.sub rfl)) _ _ _ _ _ _ (hm.sub rfl))) _ _ _ (hm.sub rfl))

theorem State_rowLocked_kept {μ : Nat} {s₀ : State} {s : State} (hs : Kept μ s₀ s) (blk : Nat) (off : Nat) (v : Nat)
    (hm : Within 0x48010000480100000060 μ) :
    Kept μ s₀ (State.rowLocked s blk off v) := by
  unfold State.rowLocked; exact (State_lockViolation_kept hs _ _ _ (hm.sub rfl))

theorem State_mbxRefuseBusy_kept {μ : Nat} {s₀ : State} {s : State} (hs : Kept μ s₀ s) (blk : Nat)
    (hb1 : Within (blkBits blk) μ) :
    Kept μ s₀ (State.mbxRefuseBusy s blk) := by
  unfold State.mbxRefuseBusy; exact (State_setFlag_kept hs _ _ _ (by exact hb1))

theorem State_mbxRefuse_kept {μ : Nat} {s₀ : State} {s : State} (hs : Kept μ s₀ s) (blk : Nat)
    (hb1 : Within (blkBits blk) μ) :
    Kept μ s₀ (State.mbxRefuse s blk) := by
  unfold State.mbxRefuse
  exact (State_setFlag_kept (State_setFlag_kept (State_setFlag_kept hs _ _ _ (by exact hb1)) _ _ _ (by exact hb1)) _ _ _ (by exact hb1))

theorem State_mbxStart_kept {μ : Nat} {s₀ : State} {s : State} (hs : Kept μ s₀ s) (blk : Nat) (r : MbxRun)
    (hb1 : Within (blkBits blk) μ)
    (hm : Within 0x4 μ) :
    Kept μ s₀ (State.mbxStart s blk r) := by
  unfold State.mbxStart
  exact (Kept.upd_4 (State_setFlag_kept (State_setFlag_kept (State_setFlag_kept hs _ _ _ (by exact hb1)) _ _ _ (by exact hb1)) _ _ _ (by exact hb1)) (hm.sub rfl))

theorem State_mbxEnd_kept {μ : Nat} {s₀ : State} {s : State} (hs : Kept μ s₀ s) (blk : Nat)
    (hb1 : Within (blkBits blk) μ)
    (hm : Within 0x4 μ) :
    Kept μ s₀ (State.mbxEnd s blk) := by
  unfold State.mbxEnd
  (try dsimp only)
  split
  · exact hs
  · exact (Kept.ite (State_setFlag_kept (Kept.setFld (Kept.setFld (Kept.setFld (Kept.setFld (State_setFlag_kept (Kept.upd_4 hs (hm.sub rfl)) _ _ _ (by exact hb1)) _ _ _ (by exact hb1)) _ _ _ (by exact hb1)) _ _ _ (by exact hb1)) _ _ _ (by exact hb1)) _ _ _ (by exact hb1)) (State_setFlag_kept (State_setFlag_kept (Kept.upd_4 hs (hm.sub rfl)) _ _ _ (by exact hb1)) _ _ _ (by exact hb1)))

end Sys2Proof.Machine
end

