-- ==== Sys2Proof/Laws/KeptLaneBase.lean ====
section
/-! SUPPORT. Each function of Machine/LaneBase.lean keeps what `Kept` says. -/

set_option Elab.async false

namespace Sys2Proof.Machine

theorem State_setPair_kept {μ : Nat} {s₀ : State} {s : State} (hs : Kept μ s₀ s) (n : Nat) (p : LanePair)
    (hm : Within 0x100 μ) :
    Kept μ s₀ (State.setPair s n p) := by
  unfold State.setPair; exact (Kept.upd_100 hs (hm.sub rfl))

theorem State_setLpart_kept {μ : Nat} {s₀ : State} {s : State} (hs : Kept μ s₀ s) (p : Nat) (v : LanePart)
    (hm : Within 0x100 μ) :
    Kept μ s₀ (State.setLpart s p v) := by
  unfold State.setLpart; exact (Kept.upd_100 hs (hm.sub rfl))

theorem markOutcome_kept {μ : Nat} {s₀ : State} {s : State} (hs : Kept μ s₀ s) (p : Nat) (st : Nat)
    (hm : Within 0x100 μ) :
    Kept μ s₀ (markOutcome s p st) := by
  unfold markOutcome; exact (State_setLpart_kept hs _ _ (hm.sub rfl))

theorem clearMeasure_kept {μ : Nat} {s₀ : State} {s : State} (hs : Kept μ s₀ s) (p : Nat)
    (hm : Within 0x800000000000 μ) :
    Kept μ s₀ (clearMeasure s p) := by
  unfold clearMeasure; exact (State_setFlag_kept (State_setFlag_kept hs _ _ _ (hm.sub rfl)) _ _ _ (hm.sub rfl))

theorem clearMeasured_kept {μ : Nat} {s₀ : State} {s : State} (hs : Kept μ s₀ s) (t : Nat) (off : Nat) (n : Nat)
    (hm : Within 0x800000000000 μ) :
    Kept μ s₀ (clearMeasured s t off n) := by
  unfold clearMeasured; exact (Kept.foldl hs (fun _ _ hz0 => (Kept.ite (clearMeasure_kept hz0 _ (hm.sub rfl)) hz0)) _)

theorem laneCeCount_kept {μ : Nat} {s₀ : State} {s : State} (hs : Kept μ s₀ s) (t : Nat) (n : Nat)
    (hm : Within 0x40410000404100000040 μ) :
    Kept μ s₀ (laneCeCount s t n) := by
  unfold laneCeCount
  exact (Kept.ite hs (State_setFlt_kept (State_countBy_kept (State_countBy_kept hs _ _ _ (hm.sub rfl)) _ _ _ (hm.sub rfl)) _ (hm.sub rfl) (hm.sub rfl)))

theorem laneSound_kept {μ : Nat} {s₀ : State} {s : State} (hs : Kept μ s₀ s) (a : Nat) (n : Nat)
    (hm : Within 0x100 μ) :
    Kept μ s₀ (laneSound s a n) := by
  unfold laneSound; exact (Kept.upd_100 hs (hm.sub rfl))

theorem State_setGrp_kept {μ : Nat} {s₀ : State} {s : State} (hs : Kept μ s₀ s) (g : Nat) (v : TideGrp)
    (hm : Within 0x80 μ) :
    Kept μ s₀ (State.setGrp s g v) := by
  unfold State.setGrp; exact (Kept.upd_80 hs (hm.sub rfl))

theorem laneUsed_kept {μ : Nat} {s₀ : State} {s : State} (hs : Kept μ s₀ s) (n : Nat) (used : Nat)
    (hm : Within 0x4000000100 μ) :
    Kept μ s₀ (laneUsed s n used) := by
  unfold laneUsed
  exact (State_setLpart_kept (Kept.ite (Kept.setFld (Kept.setFld hs _ _ _ (hm.sub (b := blkBits 6) rfl)) _ _ _ (hm.sub (b := blkBits 6) rfl)) (Kept.setFld hs _ _ _ (hm.sub (b := blkBits 6) rfl))) _ _ (hm.sub rfl))

theorem laneStop_kept {μ : Nat} {s₀ : State} {s : State} (hs : Kept μ s₀ s) (n : Nat) (used : Nat)
    (hm : Within 0x4000000100 μ) :
    Kept μ s₀ (laneStop s n used) := by
  unfold laneStop; exact (State_setPair_kept (laneUsed_kept hs _ _ (hm.sub rfl)) _ _ (hm.sub rfl))

theorem laneHaltRun_kept {μ : Nat} {s₀ : State} {s : State} (hs : Kept μ s₀ s) (n : Nat)
    (hm : Within 0x4000000100 μ) :
    Kept μ s₀ (laneHaltRun s n) := by
  unfold laneHaltRun; exact (laneStop_kept hs _ _ (hm.sub rfl))

theorem laneReset_kept {μ : Nat} {s₀ : State} {s : State} (hs : Kept μ s₀ s) (p : Nat)
    (hm : Within 0x40410000404100000140 μ) :
    Kept μ s₀ (laneReset s p) := by
  unfold laneReset
  exact (Kept.ite (State_setLpart_kept (State_setFlag_kept (Kept.foldl hs (fun _ _ hz0 => (Kept.ite (laneHaltRun_kept hz0 _ (hm.sub rfl)) hz0)) _) _ _ _ (hm.sub rfl)) _ _ (hm.sub rfl)) (Kept.ite (State_setFlt_kept (State_count_kept (State_setLpart_kept (State_setLpart_kept (State_setFlag_kept (Kept.foldl hs (fun _ _ hz0 => (Kept.ite (laneHaltRun_kept hz0 _ (hm.sub rfl)) hz0)) _) _ _ _ (hm.sub rfl)) _ _ (hm.sub rfl)) _ _ (hm.sub rfl)) _ _ (hm.sub rfl)) _ (hm.sub rfl) (hm.sub rfl)) (State_setLpart_kept (State_setLpart_kept (State_setFlag_kept (Kept.foldl hs (fun _ _ hz0 => (Kept.ite (laneHaltRun_kept hz0 _ (hm.sub rfl)) hz0)) _) _ _ _ (hm.sub rfl)) _ _ (hm.sub rfl)) _ _ (hm.sub rfl))))

theorem joinSettleOne_kept {μ : Nat} {s₀ : State} {s : State} (hs : Kept μ s₀ s) (p : Nat)
    (hm : Within 0x40410000404100000140 μ) :
    Kept μ s₀ (joinSettleOne s p) := by
  unfold joinSettleOne; exact (Kept.ite (Kept.ite hs (laneReset_kept hs _ (hm.sub rfl))) (Kept.ite (State_setFlag_kept hs _ _ _ (hm.sub rfl)) hs))

theorem joinSettle_kept {μ : Nat} {s₀ : State} {s : State} (hs : Kept μ s₀ s)
    (hm : Within 0x40410000404100000140 μ) :
    Kept μ s₀ (joinSettle s) := by
  unfold joinSettle; exact (Kept.foldl hs (fun _ _ h => joinSettleOne_kept h _ (hm.sub rfl)) _)

end Sys2Proof.Machine
end

