-- ==== Sys2Proof/Laws/KeptDrecBase.lean ====
section
/-! SUPPORT. Each function of Machine/DrecBase.lean keeps what `Kept` says. -/

set_option Elab.async false

namespace Sys2Proof.Machine

theorem drecReleased_kept {μ : Nat} {s₀ : State} {s : State} (hs : Kept μ s₀ s) (c : Nat) (t : Nat) (rate : Nat)
    (hm : Within 0x44010000440100020040 μ) :
    Kept μ s₀ (drecReleased s c t rate) := by
  unfold drecReleased
  exact (Kept.ite hs (Kept.ite (Kept.upd_20000 (State_setFlt_kept (State_countBy_kept hs _ _ _ (hm.sub rfl)) _ (hm.sub rfl) (hm.sub rfl)) (hm.sub rfl)) hs))

end Sys2Proof.Machine
end

