-- ==== Sys2Proof/Laws/KeptSvi.lean ====
section
/-! SUPPORT. Each function of Machine/Svi.lean keeps what `Kept` says. -/

set_option Elab.async false

namespace Sys2Proof.Machine

theorem State_setStream_kept {μ : Nat} {s₀ : State} {s : State} (hs : Kept μ s₀ s) (n : Nat) (v : SviStream)
    (hm : Within 0x800 μ) :
    Kept μ s₀ (State.setStream s n v) := by
  unfold State.setStream; exact (Kept.upd_800 hs (hm.sub rfl))

theorem setStreamState_kept {μ : Nat} {s₀ : State} {s : State} (hs : Kept μ s₀ s) (n : Nat) (st : Nat) (byEn : Bool)
    (hm : Within 0x48010000481100000060 μ) :
    Kept μ s₀ (setStreamState s n st byEn) := by
  unfold setStreamState
  exact (Kept.ite hs (Kept.ite (State_setFlt_kept (State_setFlag_kept (Kept.ite (Kept.setFld hs _ _ _ (hm.sub rfl)) (State_event_kept (Kept.setFld hs _ _ _ (hm.sub rfl)) _ _ _ _ _ _ (hm.sub rfl))) _ _ _ (hm.sub rfl)) _ (hm.sub rfl) (hm.sub rfl)) (Kept.ite (Kept.setFld hs _ _ _ (hm.sub rfl)) (State_event_kept (Kept.setFld hs _ _ _ (hm.sub rfl)) _ _ _ _ _ _ (hm.sub rfl)))))

theorem streamFlt_kept {μ : Nat} {s₀ : State} {s : State} (hs : Kept μ s₀ s) (n : Nat) (f : Fld) (dev : Fld)
    (hb1 : Within (blkBits dev.blk) μ)
    (hb2 : Within (blkBits f.blk) μ)
    (hm : Within 0x40010000400100000040 μ) :
    Kept μ s₀ (streamFlt s n f dev) := by
  unfold streamFlt; exact (State_setFlt_kept (State_setFlag_kept hs _ _ _ (by exact hb2)) _ (by exact hb1) (hm.sub rfl))

theorem enLater_kept {μ : Nat} {s₀ : State} {s : State} (hs : Kept μ s₀ s) (n : Nat) (v : Bool)
    (hm : Within 0x800 μ) :
    Kept μ s₀ (enLater s n v) := by
  unfold enLater; exact (Kept.upd_800 hs (hm.sub rfl))

theorem streamEnable_kept {μ : Nat} {s₀ : State} {s : State} (hs : Kept μ s₀ s) (n : Nat)
    (hm : Within 0x48010000481100000860 μ) :
    Kept μ s₀ (streamEnable s n) := by
  unfold streamEnable
  exact (Kept.ite hs (Kept.ite (State_rowLocked_kept hs _ _ _ (hm.sub rfl)) (Kept.ite (streamFlt_kept hs _ _ _ (hm.sub rfl) (hm.sub rfl) (hm.sub rfl)) (enLater_kept (State_setFlag_kept hs _ _ _ (hm.sub rfl)) _ _ (hm.sub rfl)))))

theorem execStreamEnable_kept {μ : Nat} {s₀ : State} {s : State} (hs : Kept μ s₀ s) (n : Nat)
    (hm : Within 0x48010000481100000860 μ) :
    KeptN μ s₀ (execStreamEnable n s) := by
  unfold execStreamEnable; exact (KeptN.next (Kept.live hs (fun _ hz0 => (streamEnable_kept hz0 _ (hm.sub rfl)))))

theorem streamDisable_kept {μ : Nat} {s₀ : State} {s : State} (hs : Kept μ s₀ s) (n : Nat)
    (hm : Within 0x48010000481100000860 μ) :
    Kept μ s₀ (streamDisable s n) := by
  unfold streamDisable
  exact (Kept.ite hs (Kept.ite (State_rowLocked_kept hs _ _ _ (hm.sub rfl)) (enLater_kept (State_setFlag_kept hs _ _ _ (hm.sub rfl)) _ _ (hm.sub rfl))))

theorem execStreamDisable_kept {μ : Nat} {s₀ : State} {s : State} (hs : Kept μ s₀ s) (n : Nat)
    (hm : Within 0x48010000481100000860 μ) :
    KeptN μ s₀ (execStreamDisable n s) := by
  unfold execStreamDisable; exact (KeptN.next (Kept.live hs (fun _ hz0 => (streamDisable_kept hz0 _ (hm.sub rfl)))))

theorem enApply_kept {μ : Nat} {s₀ : State} {s : State} (hs : Kept μ s₀ s) (n : Nat) (v : Bool)
    (hm : Within 0x48010000481100000860 μ) :
    Kept μ s₀ (enApply s n v) := by
  unfold enApply
  exact (Kept.ite (Kept.ite (setStreamState_kept (State_setStream_kept hs _ _ (hm.sub rfl)) _ _ _ (hm.sub rfl)) hs) (setStreamState_kept (State_setFlag_kept (State_setStream_kept hs _ _ (hm.sub rfl)) _ _ _ (hm.sub rfl)) _ _ _ (hm.sub rfl)))

theorem sviSettle_kept {μ : Nat} {s₀ : State} {s : State} (hs : Kept μ s₀ s)
    (hm : Within 0x48010000481100000860 μ) :
    Kept μ s₀ (sviSettle s) := by
  unfold sviSettle; exact (Kept.ite hs (Kept.foldl (Kept.upd_800 hs (hm.sub rfl)) (fun _ _ hz0 => (enApply_kept hz0 _ _ (hm.sub rfl))) _))

theorem scaleWrite_kept {μ : Nat} {s₀ : State} {s : State} (hs : Kept μ s₀ s) (k : Nat) (v : Nat)
    (hm : Within 0x1000000800 μ) :
    Kept μ s₀ (scaleWrite s k v) := by
  unfold scaleWrite; exact (Kept.setFld (Kept.upd_800 hs (hm.sub rfl)) _ _ _ (hm.sub (b := blkBits 4) rfl))

theorem convertValue_kept {μ : Nat} {s₀ : State} {s : State} (hs : Kept μ s₀ s) (n : Nat) (v : Nat) (a : Nat) (raw : Nat)
    (hm : Within 0x1000000 μ) :
    Kept μ s₀ (convertValue s n v a raw).2 := by
  unfold convertValue; exact (Kept.ite2 hs (Kept.ite2 hs (Kept.ite2 hs (State_takeFree_kept hs (hm.sub rfl)))))

theorem convertAll_kept {μ : Nat} {s₀ : State} {s : State} (hs : Kept μ s₀ s) (n : Nat) (a : Nat) (nval : Nat) (data : List Nat)
    (hm : Within 0x1000000 μ) :
    Kept μ s₀ (convertAll s n a nval data).2 := by
  exact Kept.foldl_pair (p := ([], s)) hs (fun _ _ h => by dsimp only; exact convertValue_kept h _ _ _ _ (hm.sub rfl)) _

theorem placeSample_kept {μ : Nat} {s₀ : State} {s : State} (hs : Kept μ s₀ s) (n : Nat) (a : Nat) (wire : Nat) (kbps : Nat) (x : SviSample)
    (hm : Within 0x40110000401100000840 μ) :
    Kept μ s₀ (placeSample s n a wire kbps x).2 := by
  unfold placeSample
  exact (Kept.ite2 (streamFlt_kept (State_count_kept hs _ _ (hm.sub rfl)) _ _ _ (hm.sub rfl) (hm.sub rfl) (hm.sub rfl)) (Kept.ite2 (State_setFlag_kept (State_count_kept hs _ _ (hm.sub rfl)) _ _ _ (hm.sub rfl)) (by (try dsimp only); split; (· exact (Kept.ite (State_count_kept hs _ _ (hm.sub rfl)) (streamFlt_kept (State_count_kept (State_count_kept hs _ _ (hm.sub rfl)) _ _ (hm.sub rfl)) _ _ _ (hm.sub rfl) (hm.sub rfl) (hm.sub rfl)))); (· exact (State_setStream_kept (State_count_kept (Kept.ite (State_count_kept hs _ _ (hm.sub rfl)) hs) _ _ (hm.sub rfl)) _ _ (hm.sub rfl))))))

theorem placeAll_kept {μ : Nat} {s₀ : State} {s : State} (hs : Kept μ s₀ s) (n : Nat) (a : Nat) (wire : Nat) (kbps : Nat) (xs : List SviSample)
    (hm : Within 0x40110000401100000840 μ) :
    Kept μ s₀ (placeAll s n a wire kbps xs).2 := by
  exact Kept.foldl_pair (p := (0, s)) hs (fun _ _ h => by dsimp only; exact placeSample_kept h _ _ _ _ _ (hm.sub rfl)) _

theorem estSamples_kept {μ : Nat} {s₀ : State} {s : State} (hs : Kept μ s₀ s) (n : Nat) (a : Nat) (st : SviStream) (xs : List SviSample)
    (hm : Within 0x1000000 μ) :
    Kept μ s₀ (estSamples s n a st xs).2 := by
  unfold estSamples; exact (Kept.ite2 hs (State_openRound_kept hs _ _ (hm.sub rfl)))

theorem endStepWait_kept {μ : Nat} {s₀ : State} {s : State} (hs : Kept μ s₀ s) (n : Nat)
    (hm : Within 0x1000000800 μ) :
    Kept μ s₀ (endStepWait s n) := by
  unfold endStepWait; exact (State_setFlag_kept (State_setStream_kept hs _ _ (hm.sub rfl)) _ _ _ (hm.sub rfl))

theorem enterStream_kept {μ : Nat} {s₀ : State} {s : State} (hs : Kept μ s₀ s) (n : Nat) (st : Nat)
    (hm : Within 0x48010000481100000860 μ) :
    Kept μ s₀ (enterStream s n st) := by
  unfold enterStream; exact (setStreamState_kept (Kept.ite (State_setStream_kept hs _ _ (hm.sub rfl)) hs) _ _ _ (hm.sub rfl))

theorem acceptFrame_kept {μ : Nat} {s₀ : State} {s : State} (hs : Kept μ s₀ s) (n : Nat) (a : Nat) (synch : Nat) (xs : List SviSample)
    (hm : Within 0x1001000800 μ) :
    Kept μ s₀ (acceptFrame s n a synch xs) := by
  unfold acceptFrame
  (try dsimp only)
  split
  · exact (Kept.setFld hs _ _ _ (hm.sub rfl))
  · exact (Kept.ite (State_setSfld_kept (State_openRound_kept (Kept.setFld hs _ _ _ (hm.sub rfl)) _ _ (hm.sub rfl)) _ _ _ (hm.sub rfl)) (State_setSfld_kept (State_setStream_kept (State_setSfld_kept (State_openRound_kept (Kept.setFld hs _ _ _ (hm.sub rfl)) _ _ (hm.sub rfl)) _ _ _ (hm.sub rfl)) _ _ (hm.sub rfl)) _ _ _ (hm.sub rfl)))

theorem placeFrame_kept {μ : Nat} {s₀ : State} {s : State} (hs : Kept μ s₀ s) (n : Nat) (a : Nat) (wire : Nat) (kbps : Nat) (glob : Bool) (synch : Nat) (xs : List SviSample)
    (hm : Within 0x48110000481101000860 μ) :
    Kept μ s₀ (placeFrame s n a wire kbps glob synch xs) := by
  unfold placeFrame
  exact (Kept.ite (State_count_kept hs _ _ (hm.sub rfl)) (Kept.ite (Kept.ite (Kept.ite (Kept.ite (placeAll_kept hs _ _ _ _ _ (hm.sub rfl)) (acceptFrame_kept (enterStream_kept (placeAll_kept hs _ _ _ _ _ (hm.sub rfl)) _ _ (hm.sub rfl)) _ _ _ _ (hm.sub rfl))) (Kept.ite (Kept.ite (placeAll_kept (endStepWait_kept hs _ (hm.sub rfl)) _ _ _ _ _ (hm.sub rfl)) (acceptFrame_kept (enterStream_kept (placeAll_kept (endStepWait_kept hs _ (hm.sub rfl)) _ _ _ _ _ (hm.sub rfl)) _ _ (hm.sub rfl)) _ _ _ _ (hm.sub rfl))) (Kept.ite (Kept.ite (placeAll_kept hs _ _ _ _ _ (hm.sub rfl)) (acceptFrame_kept (enterStream_kept (State_countBy_kept (placeAll_kept hs _ _ _ _ _ (hm.sub rfl)) _ _ _ (hm.sub rfl)) _ _ (hm.sub rfl)) _ _ _ _ (hm.sub rfl))) (Kept.ite (placeAll_kept hs _ _ _ _ _ (hm.sub rfl)) (acceptFrame_kept (enterStream_kept (placeAll_kept hs _ _ _ _ _ (hm.sub rfl)) _ _ (hm.sub rfl)) _ _ _ _ (hm.sub rfl)))))) (Kept.ite (placeAll_kept (estSamples_kept hs _ _ _ _ (hm.sub rfl)) _ _ _ _ _ (hm.sub rfl)) (acceptFrame_kept (enterStream_kept (Kept.ite (endStepWait_kept (State_setStream_kept (placeAll_kept (estSamples_kept hs _ _ _ _ (hm.sub rfl)) _ _ _ _ _ (hm.sub rfl)) _ _ (hm.sub rfl)) _ (hm.sub rfl)) (State_setStream_kept (placeAll_kept (estSamples_kept hs _ _ _ _ (hm.sub rfl)) _ _ _ _ _ (hm.sub rfl)) _ _ (hm.sub rfl))) _ _ (hm.sub rfl)) _ _ _ _ (hm.sub rfl)))) (Kept.ite (Kept.ite (Kept.ite (Kept.ite (placeAll_kept hs _ _ _ _ _ (hm.sub rfl)) (acceptFrame_kept (enterStream_kept (placeAll_kept hs _ _ _ _ _ (hm.sub rfl)) _ _ (hm.sub rfl)) _ _ _ _ (hm.sub rfl))) (Kept.ite (Kept.ite (placeAll_kept (endStepWait_kept hs _ (hm.sub rfl)) _ _ _ _ _ (hm.sub rfl)) (acceptFrame_kept (enterStream_kept (placeAll_kept (endStepWait_kept hs _ (hm.sub rfl)) _ _ _ _ _ (hm.sub rfl)) _ _ (hm.sub rfl)) _ _ _ _ (hm.sub rfl))) (Kept.ite (Kept.ite (placeAll_kept hs _ _ _ _ _ (hm.sub rfl)) (acceptFrame_kept (enterStream_kept (State_countBy_kept (placeAll_kept hs _ _ _ _ _ (hm.sub rfl)) _ _ _ (hm.sub rfl)) _ _ (hm.sub rfl)) _ _ _ _ (hm.sub rfl))) (Kept.ite (placeAll_kept hs _ _ _ _ _ (hm.sub rfl)) (acceptFrame_kept (enterStream_kept (placeAll_kept hs _ _ _ _ _ (hm.sub rfl)) _ _ (hm.sub rfl)) _ _ _ _ (hm.sub rfl)))))) (Kept.ite (placeAll_kept (estSamples_kept hs _ _ _ _ (hm.sub rfl)) _ _ _ _ _ (hm.sub rfl)) (acceptFrame_kept (enterStream_kept (Kept.ite (endStepWait_kept (State_setStream_kept (placeAll_kept (estSamples_kept hs _ _ _ _ (hm.sub rfl)) _ _ _ _ _ (hm.sub rfl)) _ _ (hm.sub rfl)) _ (hm.sub rfl)) (State_setStream_kept (placeAll_kept (estSamples_kept hs _ _ _ _ (hm.sub rfl)) _ _ _ _ _ (hm.sub rfl)) _ _ (hm.sub rfl))) _ _ (hm.sub rfl)) _ _ _ _ (hm.sub rfl)))) (Kept.ite (Kept.ite (placeAll_kept hs _ _ _ _ _ (hm.sub rfl)) (acceptFrame_kept (enterStream_kept (placeAll_kept hs _ _ _ _ _ (hm.sub rfl)) _ _ (hm.sub rfl)) _ _ _ _ (hm.sub rfl))) (Kept.ite (placeAll_kept (estSamples_kept hs _ _ _ _ (hm.sub rfl)) _ _ _ _ _ (hm.sub rfl)) (acceptFrame_kept (enterStream_kept (Kept.ite (endStepWait_kept (State_setStream_kept (placeAll_kept (estSamples_kept hs _ _ _ _ (hm.sub rfl)) _ _ _ _ _ (hm.sub rfl)) _ _ (hm.sub rfl)) _ (hm.sub rfl)) (State_setStream_kept (placeAll_kept (estSamples_kept hs _ _ _ _ (hm.sub rfl)) _ _ _ _ _ (hm.sub rfl)) _ _ (hm.sub rfl))) _ _ (hm.sub rfl)) _ _ _ _ (hm.sub rfl)))))))

theorem frameSamples_kept {μ : Nat} {s₀ : State} {s : State} (hs : Kept μ s₀ s) (n : Nat) (t : Nat) (nval : Nat) (unchk : Bool) (asdus : List SvAsdu)
    (hm : Within 0x1000000 μ) :
    Kept μ s₀ (frameSamples s n t nval unchk asdus).2 := by
  exact Kept.foldl_pair (p := ([], s)) hs (fun _ _ k => by dsimp only; exact convertAll_kept k _ _ _ _ (hm.sub rfl)) _

theorem streamFrame_kept {μ : Nat} {s₀ : State} {s : State} (hs : Kept μ s₀ s) (n : Nat) (r : RxFrame) (p : SvPdu)
    (hm : Within 0x48110000481101000860 μ) :
    Kept μ s₀ (streamFrame s n r p) := by
  unfold streamFrame
  exact (Kept.ite (streamFlt_kept (State_count_kept (State_count_kept hs _ _ (hm.sub rfl)) _ _ (hm.sub rfl)) _ _ _ (hm.sub rfl) (hm.sub rfl) (hm.sub rfl)) (Kept.ite (State_setFlag_kept (State_count_kept (State_count_kept hs _ _ (hm.sub rfl)) _ _ (hm.sub rfl)) _ _ _ (hm.sub rfl)) (Kept.ite (State_count_kept (State_count_kept hs _ _ (hm.sub rfl)) _ _ (hm.sub rfl)) (Kept.ite (streamFlt_kept (State_count_kept (State_count_kept hs _ _ (hm.sub rfl)) _ _ (hm.sub rfl)) _ _ _ (hm.sub rfl) (hm.sub rfl) (hm.sub rfl)) (placeFrame_kept (frameSamples_kept (Kept.ite (State_count_kept hs _ _ (hm.sub rfl)) (State_setFlag_kept (State_count_kept (State_count_kept hs _ _ (hm.sub rfl)) _ _ (hm.sub rfl)) _ _ _ (hm.sub rfl))) _ _ _ _ _ (hm.sub rfl)) _ _ _ _ _ _ _ (hm.sub rfl))))))

theorem svFrame_kept {μ : Nat} {s₀ : State} {s : State} (hs : Kept μ s₀ s) (r : RxFrame)
    (hm : Within 0x48110000481101000860 μ) :
    Kept μ s₀ (svFrame s r) := by
  unfold svFrame
  exact (Kept.ite (State_count_kept (sviSettle_kept (State_count_kept hs _ _ (hm.sub rfl)) (hm.sub rfl)) _ _ (hm.sub rfl)) (by (try dsimp only); split; (· exact (by (try dsimp only); split; (· exact (streamFrame_kept (sviSettle_kept (State_count_kept hs _ _ (hm.sub rfl)) (hm.sub rfl)) _ _ _ (hm.sub rfl))); (· exact (State_setFlt_kept (State_count_kept (sviSettle_kept (State_count_kept hs _ _ (hm.sub rfl)) (hm.sub rfl)) _ _ (hm.sub rfl)) _ (hm.sub rfl) (hm.sub rfl))))); (· exact (State_setFlt_kept (State_count_kept (sviSettle_kept (State_count_kept hs _ _ (hm.sub rfl)) (hm.sub rfl)) _ _ (hm.sub rfl)) _ (hm.sub rfl) (hm.sub rfl)))))

theorem svFrameRx_kept {μ : Nat} {s₀ : State} {s : State} (hs : Kept μ s₀ s)
    (hm : Within 0x48110000481101000860 μ) :
    Kept μ s₀ (svFrameRx s) := by
  unfold svFrameRx; (try dsimp only); split; (· exact hs); (· exact (svFrame_kept (Kept.upd_800 hs (hm.sub rfl)) _ (hm.sub rfl)))

theorem execSvFrameRx_kept {μ : Nat} {s₀ : State} {s : State} (hs : Kept μ s₀ s)
    (hm : Within 0x48110000481101000860 μ) :
    KeptN μ s₀ (execSvFrameRx s) := by
  unfold execSvFrameRx; exact (KeptN.next (Kept.live hs (fun _ hz0 => (svFrameRx_kept hz0 (hm.sub rfl)))))

theorem State_setFch_kept {μ : Nat} {s₀ : State} {s : State} (hs : Kept μ s₀ s) (c : Nat) (v : FdcCh)
    (hm : Within 0x1000 μ) :
    Kept μ s₀ (State.setFch s c v) := by
  unfold State.setFch; exact (Kept.upd_1000 hs (hm.sub rfl))

theorem fdcInput_kept {μ : Nat} {s₀ : State} {s : State} (hs : Kept μ s₀ s) (c : Nat) (x : RelVal)
    (hm : Within 0x44210000442100021840 μ) :
    Kept μ s₀ (fdcInput s c x) := by
  unfold fdcInput
  exact (Kept.ite (State_setFlt_kept (State_count_kept (drecReleased_kept (Kept.upd_800 hs (hm.sub rfl)) _ _ _ (hm.sub rfl)) _ _ (hm.sub rfl)) _ (hm.sub rfl) (hm.sub rfl)) (Kept.ite (State_setFlt_kept (State_setFlag_kept (State_count_kept (drecReleased_kept (Kept.upd_800 hs (hm.sub rfl)) _ _ _ (hm.sub rfl)) _ _ (hm.sub rfl)) _ _ _ (hm.sub rfl)) _ (hm.sub rfl) (hm.sub rfl)) (State_setFch_kept (drecReleased_kept (Kept.upd_800 hs (hm.sub rfl)) _ _ _ (hm.sub rfl)) _ _ (hm.sub rfl))))

theorem giveTide_kept {μ : Nat} {s₀ : State} {s : State} (hs : Kept μ s₀ s) (n : Nat) (g : Nat) (val : Nat → Nat × Nat)
    (hm : Within 0x80 μ) :
    Kept μ s₀ (giveTide s n g val) := by
  unfold giveTide; exact (Kept.foldl hs (fun _ _ hz0 => (Kept.ite (State_setGrp_kept hz0 _ _ (hm.sub rfl)) hz0)) _)

theorem releaseAt_kept {μ : Nat} {s₀ : State} {s : State} (hs : Kept μ s₀ s) (n : Nat) (k : Nat)
    (hm : Within 0x4c3100004c31000218e0 μ) :
    Kept μ s₀ (releaseAt s n k) := by
  unfold releaseAt
  exact (Kept.ite (State_setStream_kept (giveTide_kept (Kept.foldl hs (fun _ _ hz0 => (by (try dsimp only); split; (· exact (fdcInput_kept hz0 _ _ (hm.sub rfl))); (· exact hz0))) _) _ _ _ (hm.sub rfl)) _ _ (hm.sub rfl)) (Kept.ite (setStreamState_kept (Kept.ite (streamFlt_kept (State_count_kept (State_setStream_kept (giveTide_kept (Kept.foldl hs (fun _ _ hz0 => (by (try dsimp only); split; (· exact (fdcInput_kept hz0 _ _ (hm.sub rfl))); (· exact hz0))) _) _ _ _ (hm.sub rfl)) _ _ (hm.sub rfl)) _ _ (hm.sub rfl)) _ _ _ (hm.sub rfl) (hm.sub rfl) (hm.sub rfl)) (State_count_kept (State_setStream_kept (giveTide_kept (Kept.foldl hs (fun _ _ hz0 => (by (try dsimp only); split; (· exact (fdcInput_kept hz0 _ _ (hm.sub rfl))); (· exact hz0))) _) _ _ _ (hm.sub rfl)) _ _ (hm.sub rfl)) _ _ (hm.sub rfl))) _ _ _ (hm.sub rfl)) (Kept.ite (streamFlt_kept (State_count_kept (State_setStream_kept (giveTide_kept (Kept.foldl hs (fun _ _ hz0 => (by (try dsimp only); split; (· exact (fdcInput_kept hz0 _ _ (hm.sub rfl))); (· exact hz0))) _) _ _ _ (hm.sub rfl)) _ _ (hm.sub rfl)) _ _ (hm.sub rfl)) _ _ _ (hm.sub rfl) (hm.sub rfl) (hm.sub rfl)) (State_count_kept (State_setStream_kept (giveTide_kept (Kept.foldl hs (fun _ _ hz0 => (by (try dsimp only); split; (· exact (fdcInput_kept hz0 _ _ (hm.sub rfl))); (· exact hz0))) _) _ _ _ (hm.sub rfl)) _ _ (hm.sub rfl)) _ _ (hm.sub rfl)))))

theorem sampleRelease_kept {μ : Nat} {s₀ : State} {s : State} (hs : Kept μ s₀ s) (n : Nat)
    (hm : Within 0x4c3100004c31000218e0 μ) :
    Kept μ s₀ (sampleRelease s n) := by
  unfold sampleRelease
  exact (Kept.ite (sviSettle_kept hs (hm.sub rfl)) (Kept.ite (State_setStream_kept (sviSettle_kept hs (hm.sub rfl)) _ _ (hm.sub rfl)) (Kept.ite (sviSettle_kept hs (hm.sub rfl)) (Kept.ite (releaseAt_kept (sviSettle_kept hs (hm.sub rfl)) _ _ (hm.sub rfl)) (sviSettle_kept hs (hm.sub rfl))))))

theorem execSampleRelease_kept {μ : Nat} {s₀ : State} {s : State} (hs : Kept μ s₀ s) (n : Nat)
    (hm : Within 0x4c3100004c31000218e0 μ) :
    KeptN μ s₀ (execSampleRelease n s) := by
  unfold execSampleRelease; exact (KeptN.next (Kept.live hs (fun _ hz0 => (sampleRelease_kept hz0 _ (hm.sub rfl)))))

theorem streamStep_kept {μ : Nat} {s₀ : State} {s : State} (hs : Kept μ s₀ s) (d : Int) (n : Nat)
    (hm : Within 0x1000000800 μ) :
    Kept μ s₀ (streamStep s d n) := by
  unfold streamStep
  exact (Kept.ite (State_setFlag_kept (State_setStream_kept hs _ _ (hm.sub rfl)) _ _ _ (hm.sub rfl)) (State_setStream_kept hs _ _ (hm.sub rfl)))

theorem sviStep_kept {μ : Nat} {s₀ : State} {s : State} (hs : Kept μ s₀ s) (d : Int) (ep : Nat)
    (hm : Within 0x1000000800 μ) :
    Kept μ s₀ (sviStep s d ep) := by
  unfold sviStep; exact (Kept.foldl (Kept.upd_800 hs (hm.sub rfl)) (fun _ _ hz0 => (streamStep_kept hz0 _ _ (hm.sub rfl))) _)

theorem stepGuardExpiry_kept {μ : Nat} {s₀ : State} {s : State} (hs : Kept μ s₀ s) (n : Nat)
    (hm : Within 0x48010000481100000860 μ) :
    Kept μ s₀ (stepGuardExpiry s n) := by
  unfold stepGuardExpiry
  (try dsimp only)
  split
  · exact hs
  · exact (Kept.ite hs (State_event_kept (streamFlt_kept (endStepWait_kept hs _ (hm.sub rfl)) _ _ _ (hm.sub rfl) (hm.sub rfl) (hm.sub rfl)) _ _ _ _ _ _ (hm.sub rfl)))

theorem execStepGuardExpiry_kept {μ : Nat} {s₀ : State} {s : State} (hs : Kept μ s₀ s) (n : Nat)
    (hm : Within 0x48010000481100000860 μ) :
    KeptN μ s₀ (execStepGuardExpiry n s) := by
  unfold execStepGuardExpiry; exact (KeptN.next (Kept.live hs (fun _ hz0 => (stepGuardExpiry_kept hz0 _ (hm.sub rfl)))))

theorem clrTmax_kept {μ : Nat} {s₀ : State} {s : State} (hs : Kept μ s₀ s)
    (hm : Within 0x1000000800 μ) :
    Kept μ s₀ (clrTmax s) := by
  unfold clrTmax; (try dsimp only); split; (· exact (Kept.setFld (State_setStream_kept hs _ _ (hm.sub rfl)) _ _ _ (hm.sub rfl))); (· exact hs)

theorem execClrTmax_kept {μ : Nat} {s₀ : State} {s : State} (hs : Kept μ s₀ s)
    (hm : Within 0x1000000800 μ) :
    KeptN μ s₀ (execClrTmax s) := by
  unfold execClrTmax; exact (KeptN.next (Kept.live hs (fun _ hz0 => (clrTmax_kept hz0 (hm.sub rfl)))))

theorem estRestart_kept {μ : Nat} {s₀ : State} {s : State} (hs : Kept μ s₀ s)
    (hm : Within 0x800 μ) :
    Kept μ s₀ (estRestart s) := by
  unfold estRestart; (try dsimp only); split; (· exact (Kept.ite (State_setStream_kept hs _ _ (hm.sub rfl)) hs)); (· exact hs)

theorem execEstRestart_kept {μ : Nat} {s₀ : State} {s : State} (hs : Kept μ s₀ s)
    (hm : Within 0x800 μ) :
    KeptN μ s₀ (execEstRestart s) := by
  unfold execEstRestart; exact (KeptN.next (Kept.live hs (fun _ hz0 => (estRestart_kept hz0 (hm.sub rfl)))))

theorem adepthWrite_kept {μ : Nat} {s₀ : State} {s : State} (hs : Kept μ s₀ s) (tag : Nat) (g : Nat) (v : Nat)
    (hm : Within 0x48010000481100000060 μ) :
    Kept μ s₀ (adepthWrite s tag g v) := by
  unfold adepthWrite
  exact (Kept.ite hs (Kept.ite (Kept.ite hs (State_lockViolation_kept hs _ _ _ (hm.sub rfl))) (Kept.ite (State_setFlt_kept hs _ (hm.sub rfl) (hm.sub rfl)) (Kept.setFld hs _ _ _ (hm.sub (b := blkBits 4) rfl)))))

theorem execAdepthWrite_kept {μ : Nat} {s₀ : State} {s : State} (hs : Kept μ s₀ s) (g : Nat) (v : Nat)
    (hm : Within 0x48010000481100000060 μ) :
    KeptN μ s₀ (execAdepthWrite g v s) := by
  unfold execAdepthWrite; exact (KeptN.next (Kept.live hs (fun _ hz0 => (adepthWrite_kept hz0 _ _ _ (hm.sub rfl)))))

theorem fingerprintComplete_kept {μ : Nat} {s₀ : State} {s : State} (hs : Kept μ s₀ s) (p : Nat)
    (hm : Within 0x100000001000000800 μ) :
    Kept μ s₀ (fingerprintComplete s p) := by
  unfold fingerprintComplete
  (try dsimp only)
  split
  · exact hs
  · exact (Kept.ite hs (by (try dsimp only); split; (· exact hs); (· exact (Kept.ite hs (State_count_kept (Kept.upd_800 (Kept.foldl hs (fun _ _ hz2 => (Kept.setFld hz2 _ _ _ (hm.sub (b := blkBits 4) rfl))) _) (hm.sub rfl)) _ _ (hm.sub rfl))))))

end Sys2Proof.Machine
end

