-- ==== Sys2Proof/Laws/KeptRallyBase.lean ====
section
/-! SUPPORT. Each function of Machine/RallyBase.lean keeps what `Kept` says. -/

set_option Elab.async false

namespace Sys2Proof.Machine

theorem sendRally_kept {μ : Nat} {s₀ : State} {s : State} (hs : Kept μ s₀ s) (typ : Nat) (words : List Nat)
    (hm : Within 0x4000 μ) :
    Kept μ s₀ (sendRally s typ words) := by
  unfold sendRally; exact (Kept.ite (Kept.upd_4000 hs (hm.sub rfl)) hs)

theorem rallyHand_kept {μ : Nat} {s₀ : State} {s : State} (hs : Kept μ s₀ s) (f : Nat × List Nat)
    (hm : Within 0x2000000020000004000 μ) :
    Kept μ s₀ (rallyHand s f) := by
  unfold rallyHand; exact (Kept.ite hs (State_count_kept (Kept.upd_4000 hs (hm.sub rfl)) _ _ (hm.sub rfl)))

theorem rallyEdge_kept {μ : Nat} {s₀ : State} {s : State} (hs : Kept μ s₀ s)
    (hm : Within 0x2000000020000004000 μ) :
    Kept μ s₀ (rallyEdge s) := by
  unfold rallyEdge; exact (Kept.ite hs (Kept.foldl (Kept.upd_4000 hs (hm.sub rfl)) (fun _ _ h => rallyHand_kept h _ (hm.sub rfl)) _))

theorem sendCtrl_kept {μ : Nat} {s₀ : State} {s : State} (hs : Kept μ s₀ s) (kind : Nat) (arg : Nat)
    (hm : Within 0x4000 μ) :
    Kept μ s₀ (sendCtrl s kind arg) := by
  unfold sendCtrl; exact (sendRally_kept hs _ _ (hm.sub rfl))

theorem State_setResolved_kept {μ : Nat} {s₀ : State} {s : State} (hs : Kept μ s₀ s) (p : Nat) (v : Nat)
    (hm : Within 0x4000 μ) :
    Kept μ s₀ (State.setResolved s p v) := by
  unfold State.setResolved; exact (Kept.upd_4000 hs (hm.sub rfl))

theorem State_setRgrp_kept {μ : Nat} {s₀ : State} {s : State} (hs : Kept μ s₀ s) (g : Nat) (v : RallyGrp)
    (hm : Within 0x4000 μ) :
    Kept μ s₀ (State.setRgrp s g v) := by
  unfold State.setRgrp; exact (Kept.upd_4000 hs (hm.sub rfl))

theorem rallyUnalign_kept {μ : Nat} {s₀ : State} {s : State} (hs : Kept μ s₀ s) (g : Nat)
    (hm : Within 0x20000004000 μ) :
    Kept μ s₀ (rallyUnalign s g) := by
  unfold rallyUnalign; exact (Kept.ite hs (Kept.setFld (Kept.setFld (State_setRgrp_kept hs _ _ (hm.sub rfl)) _ _ _ (hm.sub rfl)) _ _ _ (hm.sub rfl)))

end Sys2Proof.Machine
end

