-- ==== Sys2Proof/Laws/KeptSwcBase.lean ====
section
/-! SUPPORT. Each function of Machine/SwcBase.lean keeps what `Kept` says. -/

set_option Elab.async false

namespace Sys2Proof.Machine

theorem State_setPortCh_kept {μ : Nat} {s₀ : State} {s : State} (hs : Kept μ s₀ s) (p : Nat) (v : PortCh)
    (hm : Within 0x10000 μ) :
    Kept μ s₀ (State.setPortCh s p v) := by
  unfold State.setPortCh; exact (Kept.upd_10000 hs (hm.sub rfl))

theorem State_setSwq_kept {μ : Nat} {s₀ : State} {s : State} (hs : Kept μ s₀ s) (e : Nat) (c : Nat) (l : List SwCopy)
    (hm : Within 0x8000 μ) :
    Kept μ s₀ (State.setSwq s e c l) := by
  unfold State.setSwq; exact (Kept.upd_8000 hs (hm.sub rfl))

theorem swpFlt_kept {μ : Nat} {s₀ : State} {s : State} (hs : Kept μ s₀ s) (e : Nat) (f : Fld) (dev : Fld)
    (hb1 : Within (blkBits dev.blk) μ)
    (hb2 : Within (blkBits f.blk) μ)
    (hm : Within 0x40010000400100000040 μ) :
    Kept μ s₀ (swpFlt s e f dev) := by
  unfold swpFlt; exact (State_setFlt_kept (State_setFlag_kept hs _ _ _ (by exact hb2)) _ (by exact hb1) (hm.sub rfl))

theorem queueCopy_kept {μ : Nat} {s₀ : State} {s : State} (hs : Kept μ s₀ s) (e : Nat) (x : SwCopy)
    (hm : Within 0x60010000600100008040 μ) :
    Kept μ s₀ (queueCopy s e x).2 := by
  unfold queueCopy
  exact (Kept.ite2 (swpFlt_kept (State_count_kept hs _ _ (by rw [Ctr.cls_bits]; exact hm.sub rfl)) _ _ _ (hm.sub rfl) (hm.sub rfl) (hm.sub rfl)) (Kept.ite2 (State_count_kept (State_setSwq_kept hs _ _ _ (hm.sub rfl)) _ _ (by rw [Ctr.cls_bits]; exact hm.sub rfl)) (Kept.ite2 (State_count_kept (State_setSwq_kept hs _ _ _ (hm.sub rfl)) _ _ (by rw [Ctr.cls_bits]; exact hm.sub rfl)) (swpFlt_kept (State_count_kept hs _ _ (by rw [Ctr.cls_bits]; exact hm.sub rfl)) _ _ _ (hm.sub rfl) (hm.sub rfl) (hm.sub rfl)))))

theorem swcPortFlush_kept {μ : Nat} {s₀ : State} {s : State} (hs : Kept μ s₀ s) (p : Nat)
    (hm : Within 0x20000000200000008000 μ) :
    Kept μ s₀ (swcPortFlush s p) := by
  unfold swcPortFlush
  exact (State_setFlag_kept (Kept.foldl hs (fun _ _ hz0 => (Kept.ite hz0 (State_setFlag_kept (State_countBy_kept (State_setSwq_kept hz0 _ _ _ (hm.sub rfl)) _ _ _ (by rw [Ctr.cls_bits]; exact hm.sub rfl)) _ _ _ (hm.sub rfl)))) _) _ _ _ (hm.sub rfl))

theorem State_setDeficit_kept {μ : Nat} {s₀ : State} {s : State} (hs : Kept μ s₀ s) (e : Nat) (c : Nat) (v : Nat)
    (hm : Within 0x8000 μ) :
    Kept μ s₀ (State.setDeficit s e c v) := by
  unfold State.setDeficit; exact (Kept.upd_8000 hs (hm.sub rfl))

theorem State_setTurn_kept {μ : Nat} {s₀ : State} {s : State} (hs : Kept μ s₀ s) (e : Nat) (v : Nat)
    (hm : Within 0x8000 μ) :
    Kept μ s₀ (State.setTurn s e v) := by
  unfold State.setTurn; exact (Kept.upd_8000 hs (hm.sub rfl))

theorem drrPick_kept {μ : Nat} {s₀ : State} {s : State} (hs : Kept μ s₀ s) (e : Nat) (n : Nat) (a4 : Nat)
    (hm : Within 0x8000 μ) :
    KeptP μ s₀ (drrPick s e n a4) := by
  unfold drrPick
  (try dsimp only)
  split
  · exact KeptP.none
  · exact (by (try dsimp only); split; (· exact (drrPick_kept (State_setTurn_kept (State_setDeficit_kept hs _ _ _ (hm.sub rfl)) _ _ (hm.sub rfl)) _ _ _ hm)); (· exact (KeptP.ite (KeptP.some (State_setDeficit_kept (Kept.ite hs (State_setTurn_kept (State_setDeficit_kept hs _ _ _ (hm.sub rfl)) _ _ (hm.sub rfl))) _ _ _ (hm.sub rfl))) (drrPick_kept (State_setTurn_kept (Kept.ite hs (State_setTurn_kept (State_setDeficit_kept hs _ _ _ (hm.sub rfl)) _ _ (hm.sub rfl))) _ _ (hm.sub rfl)) _ _ _ hm))))

theorem pickClass_kept {μ : Nat} {s₀ : State} {s : State} (hs : Kept μ s₀ s) (e : Nat)
    (hm : Within 0x8000 μ) :
    KeptP μ s₀ (pickClass s e) := by
  unfold pickClass; (try dsimp only); split; (· exact (KeptP.some hs)); (· exact (KeptP.ite (drrPick_kept hs _ _ _ (hm.sub rfl)) KeptP.none))

theorem takeCopy_kept {μ : Nat} {s₀ : State} {s : State} (hs : Kept μ s₀ s) (e : Nat)
    (hm : Within 0x20000000200000008000 μ) :
    KeptP μ s₀ (takeCopy s e) := by
  unfold takeCopy
  (try dsimp only)
  split
  · exact KeptP.none
  · exact (by (try dsimp only); split; (· exact KeptP.none); (· exact (KeptP.some (State_count_kept (State_setSwq_kept (Kept.of_somePair ‹_› (pickClass_kept hs _ (hm.sub rfl))) _ _ _ (hm.sub rfl)) _ _ (by rw [Ctr.cls_bits]; exact hm.sub rfl)))))

end Sys2Proof.Machine
end

