-- ==== Sys2Proof/Laws/KeptTime.lean ====
section
/-! SUPPORT. Each function of Machine/Time.lean keeps what `Kept` says. -/

set_option Elab.async false

namespace Sys2Proof.Machine

theorem utcofsApply_kept {μ : Nat} {s₀ : State} {s : State} (hs : Kept μ s₀ s)
    (hm : Within 0x10 μ) :
    Kept μ s₀ (utcofsApply s) := by
  unfold utcofsApply; (try dsimp only); split; (· exact (Kept.ite (Kept.upd_10 hs (hm.sub rfl)) hs)); (· exact hs)

theorem execUtcofsApply_kept {μ : Nat} {s₀ : State} {s : State} (hs : Kept μ s₀ s)
    (hm : Within 0x10 μ) :
    KeptN μ s₀ (execUtcofsApply s) := by
  unfold execUtcofsApply; exact (KeptN.next (Kept.live hs (fun _ hz0 => (utcofsApply_kept hz0 (hm.sub rfl)))))

theorem State_setTout_kept {μ : Nat} {s₀ : State} {s : State} (hs : Kept μ s₀ s) (n : Nat) (t : ToutSt)
    (hm : Within 0x10 μ) :
    Kept μ s₀ (State.setTout s n t) := by
  unfold State.setTout; exact (Kept.upd_10 hs (hm.sub rfl))

theorem toutStep_kept {μ : Nat} {s₀ : State} {s : State} (hs : Kept μ s₀ s) (old : Nat) (new : Nat) (n : Nat)
    (hm : Within 0x40000000400000010 μ) :
    Kept μ s₀ (toutStep old new s n) := by
  unfold toutStep
  exact (Kept.ite hs (Kept.ite (Kept.ite (State_setTout_kept hs _ _ (hm.sub rfl)) hs) (Kept.ite (Kept.ite (State_setTout_kept hs _ _ (hm.sub rfl)) (State_setFlag_kept (State_countBy_kept (State_setTout_kept hs _ _ (hm.sub rfl)) _ _ _ (hm.sub rfl)) _ _ _ (hm.sub rfl))) hs)))

theorem stepTime_kept {μ : Nat} {s₀ : State} {s : State} (hs : Kept μ s₀ s) (amount : Int)
    (hm : Within 0x40000000400000010 μ) :
    Kept μ s₀ (stepTime s amount) := by
  unfold stepTime
  exact (Kept.foldl (Kept.setFld (Kept.upd_10 hs (hm.sub rfl)) _ _ _ (hm.sub rfl)) (fun _ _ h => toutStep_kept h _ _ _ (hm.sub rfl)) _)

theorem setTq_kept {μ : Nat} {s₀ : State} {s : State} (hs : Kept μ s₀ s) (v : Nat)
    (hm : Within 0x400000010 μ) :
    Kept μ s₀ (setTq s v) := by
  unfold setTq; exact (Kept.upd_10 (Kept.setFld hs _ _ _ (hm.sub rfl)) (hm.sub rfl))

theorem setDisc_kept {μ : Nat} {s₀ : State} {s : State} (hs : Kept μ s₀ s) (st : Nat)
    (hm : Within 0x400000010 μ) :
    Kept μ s₀ (setDisc s st) := by
  unfold setDisc; exact (setTq_kept (Kept.setFld hs _ _ _ (hm.sub rfl)) _ (hm.sub rfl))

theorem setFadj_kept {μ : Nat} {s₀ : State} {s : State} (hs : Kept μ s₀ s) (v : Int)
    (hm : Within 0x400000000 μ) :
    Kept μ s₀ (setFadj s v) := by
  unfold setFadj; exact (State_setSfld_kept hs _ _ _ (hm.sub rfl))

theorem applyFadjSet_kept {μ : Nat} {s₀ : State} {s : State} (hs : Kept μ s₀ s)
    (hm : Within 0x400000000 μ) :
    Kept μ s₀ (applyFadjSet s) := by
  unfold applyFadjSet; exact (setFadj_kept hs _ (hm.sub rfl))

theorem recordLocked_kept {μ : Nat} {s₀ : State} {s : State} (hs : Kept μ s₀ s) (v : Int)
    (hm : Within 0x10 μ) :
    Kept μ s₀ (recordLocked s v) := by
  unfold recordLocked; exact (Kept.upd_10 hs (hm.sub rfl))

theorem servo_kept {μ : Nat} {s₀ : State} {s : State} (hs : Kept μ s₀ s) (offset : Int)
    (hm : Within 0x40010000400500000050 μ) :
    Kept μ s₀ (servo s offset) := by
  unfold servo
  exact (Kept.ite (State_setFlt_kept (setFadj_kept (Kept.upd_10 hs (hm.sub rfl)) _ (hm.sub rfl)) _ (hm.sub rfl) (hm.sub rfl)) (setFadj_kept (Kept.upd_10 hs (hm.sub rfl)) _ (hm.sub rfl)))

theorem servoRun_kept {μ : Nat} {s₀ : State} {s : State} (hs : Kept μ s₀ s) (offset : Int)
    (hm : Within 0x40010000400500000050 μ) :
    Kept μ s₀ (servoRun s offset) := by
  unfold servoRun; exact (Kept.ite (recordLocked_kept (servo_kept hs _ (hm.sub rfl)) _ (hm.sub rfl)) (servo_kept hs _ (hm.sub rfl)))

theorem enterLocked_kept {μ : Nat} {s₀ : State} {s : State} (hs : Kept μ s₀ s)
    (hm : Within 0x400000010 μ) :
    Kept μ s₀ (enterLocked s) := by
  unfold enterLocked; exact (Kept.upd_10 (recordLocked_kept (setDisc_kept hs _ (hm.sub rfl)) _ (hm.sub rfl)) (hm.sub rfl))

theorem enterAcquire_kept {μ : Nat} {s₀ : State} {s : State} (hs : Kept μ s₀ s)
    (hm : Within 0x400000010 μ) :
    Kept μ s₀ (enterAcquire s) := by
  unfold enterAcquire; exact (Kept.upd_10 (setDisc_kept hs _ (hm.sub rfl)) (hm.sub rfl))

theorem stepBack_kept {μ : Nat} {s₀ : State} {s : State} (hs : Kept μ s₀ s) (offset : Int)
    (hm : Within 0x40000000400000010 μ) :
    Kept μ s₀ (stepBack s offset) := by
  unfold stepBack; exact (Kept.upd_10 (stepTime_kept hs _ (hm.sub rfl)) (hm.sub rfl))

theorem enterHoldover_kept {μ : Nat} {s₀ : State} {s : State} (hs : Kept μ s₀ s)
    (hm : Within 0x40000000400000010 μ) :
    Kept μ s₀ (enterHoldover s) := by
  unfold enterHoldover
  exact (State_count_kept (Kept.upd_10 (setFadj_kept (setDisc_kept hs _ (hm.sub rfl)) _ (hm.sub rfl)) (hm.sub rfl)) _ _ (hm.sub rfl))

theorem restartLoss_kept {μ : Nat} {s₀ : State} {s : State} (hs : Kept μ s₀ s)
    (hm : Within 0x10 μ) :
    Kept μ s₀ (restartLoss s) := by
  unfold restartLoss; exact (Kept.upd_10 hs (hm.sub rfl))

theorem fromFreerun_kept {μ : Nat} {s₀ : State} {s : State} (hs : Kept μ s₀ s) (offset : Int)
    (hm : Within 0x40050000400500000050 μ) :
    Kept μ s₀ (fromFreerun s offset) := by
  unfold fromFreerun
  exact (Kept.ite (stepBack_kept (enterAcquire_kept hs (hm.sub rfl)) _ (hm.sub rfl)) (servoRun_kept (enterAcquire_kept hs (hm.sub rfl)) _ (hm.sub rfl)))

theorem inAcquire_kept {μ : Nat} {s₀ : State} {s : State} (hs : Kept μ s₀ s) (offset : Int)
    (hm : Within 0x40050000400500000050 μ) :
    Kept μ s₀ (inAcquire s offset) := by
  unfold inAcquire
  exact (Kept.ite (stepBack_kept (Kept.upd_10 hs (hm.sub rfl)) _ (hm.sub rfl)) (Kept.ite (Kept.ite (servoRun_kept (enterLocked_kept (Kept.upd_10 hs (hm.sub rfl)) (hm.sub rfl)) _ (hm.sub rfl)) (servoRun_kept (Kept.upd_10 hs (hm.sub rfl)) _ (hm.sub rfl))) (servoRun_kept (Kept.upd_10 hs (hm.sub rfl)) _ (hm.sub rfl))))

theorem inLocked_kept {μ : Nat} {s₀ : State} {s : State} (hs : Kept μ s₀ s) (offset : Int)
    (hm : Within 0x40050000400500000050 μ) :
    Kept μ s₀ (inLocked s offset) := by
  unfold inLocked
  exact (Kept.ite (Kept.ite (Kept.ite (stepBack_kept (enterAcquire_kept (State_count_kept (Kept.upd_10 hs (hm.sub rfl)) _ _ (hm.sub rfl)) (hm.sub rfl)) _ (hm.sub rfl)) (servoRun_kept (enterAcquire_kept (State_count_kept (Kept.upd_10 hs (hm.sub rfl)) _ _ (hm.sub rfl)) (hm.sub rfl)) _ (hm.sub rfl))) (State_setFlt_kept (State_count_kept (Kept.upd_10 hs (hm.sub rfl)) _ _ (hm.sub rfl)) _ (hm.sub rfl) (hm.sub rfl))) (Kept.ite (servoRun_kept (Kept.upd_10 (Kept.upd_10 hs (hm.sub rfl)) (hm.sub rfl)) _ (hm.sub rfl)) (Kept.ite (servoRun_kept (enterAcquire_kept (Kept.upd_10 (Kept.upd_10 hs (hm.sub rfl)) (hm.sub rfl)) (hm.sub rfl)) _ (hm.sub rfl)) (servoRun_kept (Kept.upd_10 (Kept.upd_10 hs (hm.sub rfl)) (hm.sub rfl)) _ (hm.sub rfl)))))

theorem inHoldover_kept {μ : Nat} {s₀ : State} {s : State} (hs : Kept μ s₀ s) (offset : Int)
    (hm : Within 0x40050000400500000050 μ) :
    Kept μ s₀ (inHoldover s offset) := by
  unfold inHoldover
  exact (Kept.ite (servoRun_kept (Kept.upd_10 (enterLocked_kept hs (hm.sub rfl)) (hm.sub rfl)) _ (hm.sub rfl)) (fromFreerun_kept hs _ (hm.sub rfl)))

theorem disciplineOffset_kept {μ : Nat} {s₀ : State} {s : State} (hs : Kept μ s₀ s) (offset : Int)
    (hm : Within 0x40050000400500000050 μ) :
    Kept μ s₀ (disciplineOffset s offset) := by
  unfold disciplineOffset
  exact (Kept.ite (fromFreerun_kept (restartLoss_kept (State_setSfld_kept (State_count_kept hs _ _ (hm.sub rfl)) _ _ _ (hm.sub rfl)) (hm.sub rfl)) _ (hm.sub rfl)) (Kept.ite (inAcquire_kept (restartLoss_kept (State_setSfld_kept (State_count_kept hs _ _ (hm.sub rfl)) _ _ _ (hm.sub rfl)) (hm.sub rfl)) _ (hm.sub rfl)) (Kept.ite (inLocked_kept (restartLoss_kept (State_setSfld_kept (State_count_kept hs _ _ (hm.sub rfl)) _ _ _ (hm.sub rfl)) (hm.sub rfl)) _ (hm.sub rfl)) (inHoldover_kept (restartLoss_kept (State_setSfld_kept (State_count_kept hs _ _ (hm.sub rfl)) _ _ _ (hm.sub rfl)) (hm.sub rfl)) _ (hm.sub rfl)))))

theorem timeCtrlWrite_kept {μ : Nat} {s₀ : State} {s : State} (hs : Kept μ s₀ s) (v : Nat)
    (hm : Within 0x400000010 μ) :
    Kept μ s₀ (timeCtrlWrite s v) := by
  unfold timeCtrlWrite
  exact (Kept.ite (Kept.setFld (Kept.setFld (Kept.setFld (Kept.setFld (Kept.setFld hs _ _ _ (hm.sub rfl)) _ _ _ (hm.sub rfl)) _ _ _ (hm.sub rfl)) _ _ _ (hm.sub rfl)) _ _ _ (hm.sub rfl)) (Kept.upd_10 (Kept.ite (applyFadjSet_kept (setDisc_kept (Kept.setFld (Kept.setFld (Kept.setFld (Kept.setFld (Kept.setFld hs _ _ _ (hm.sub rfl)) _ _ _ (hm.sub rfl)) _ _ _ (hm.sub rfl)) _ _ _ (hm.sub rfl)) _ _ _ (hm.sub rfl)) _ (hm.sub rfl)) (hm.sub rfl)) (setDisc_kept (Kept.setFld (Kept.setFld (Kept.setFld (Kept.setFld (Kept.setFld hs _ _ _ (hm.sub rfl)) _ _ _ (hm.sub rfl)) _ _ _ (hm.sub rfl)) _ _ _ (hm.sub rfl)) _ _ _ (hm.sub rfl)) _ (hm.sub rfl))) (hm.sub rfl)))

theorem execTimeCtrlWrite_kept {μ : Nat} {s₀ : State} {s : State} (hs : Kept μ s₀ s) (v : Nat)
    (hm : Within 0x400000010 μ) :
    KeptN μ s₀ (execTimeCtrlWrite v s) := by
  unfold execTimeCtrlWrite; exact (KeptN.next (Kept.live hs (fun _ hz0 => (timeCtrlWrite_kept hz0 _ (hm.sub rfl)))))

theorem psUnits_kept {μ : Nat} {s₀ : State} {s : State} (hs : Kept μ s₀ s) (ps : Int)
    (hm : Within 0x1000000 μ) :
    Kept μ s₀ (psUnits s ps).2 := by
  unfold psUnits; exact (State_openRound_kept hs _ _ (hm.sub rfl))

theorem ingressStamp_kept {μ : Nat} {s₀ : State} {s : State} (hs : Kept μ s₀ s) (p : Nat) (st : Stamp)
    (hm : Within 0x1000000 μ) :
    Kept μ s₀ (ingressStamp s p st).2 := by
  unfold ingressStamp; exact (psUnits_kept hs _ (hm.sub rfl))

theorem syncRx_kept {μ : Nat} {s₀ : State} {s : State} (hs : Kept μ s₀ s) (port : Nat) (m : PtpMsg) (rx : Stamp) (fu : Option (PtpMsg × Stamp))
    (hm : Within 0x40050000400501000050 μ) :
    Kept μ s₀ (syncRx s port m rx fu) := by
  unfold syncRx
  exact (Kept.ite (by (try dsimp only); split; (· exact (disciplineOffset_kept (ingressStamp_kept hs _ _ (hm.sub rfl)) _ (hm.sub rfl))); (· exact (disciplineOffset_kept (ingressStamp_kept hs _ _ (hm.sub rfl)) _ (hm.sub rfl)))) hs)

theorem execSyncRx_kept {μ : Nat} {s₀ : State} {s : State} (hs : Kept μ s₀ s) (port : Nat) (m : PtpMsg) (rx : Stamp) (fu : Option (PtpMsg × Stamp))
    (hm : Within 0x40050000400501000050 μ) :
    KeptN μ s₀ (execSyncRx port m rx fu s) := by
  unfold execSyncRx; exact (KeptN.next (Kept.live hs (fun _ hz0 => (syncRx_kept hz0 _ _ _ _ (hm.sub rfl)))))

theorem ppsEdge_kept {μ : Nat} {s₀ : State} {s : State} (hs : Kept μ s₀ s) (st : Stamp)
    (hm : Within 0x40050000400500000050 μ) :
    Kept μ s₀ (ppsEdge s st) := by
  unfold ppsEdge; exact (Kept.ite (disciplineOffset_kept hs _ (hm.sub rfl)) hs)

theorem execPpsEdge_kept {μ : Nat} {s₀ : State} {s : State} (hs : Kept μ s₀ s) (st : Stamp)
    (hm : Within 0x40050000400500000050 μ) :
    KeptN μ s₀ (execPpsEdge st s) := by
  unfold execPpsEdge; exact (KeptN.next (Kept.live hs (fun _ hz0 => (ppsEdge_kept hz0 _ (hm.sub rfl)))))

theorem lockedLost_kept {μ : Nat} {s₀ : State} {s : State} (hs : Kept μ s₀ s)
    (hm : Within 0x40050000400500000050 μ) :
    Kept μ s₀ (lockedLost s) := by
  unfold lockedLost; exact (State_setFlt_kept (enterHoldover_kept hs (hm.sub rfl)) _ (hm.sub rfl) (hm.sub rfl))

theorem syncLossTimer_kept {μ : Nat} {s₀ : State} {s : State} (hs : Kept μ s₀ s)
    (hm : Within 0x40050000400500000050 μ) :
    Kept μ s₀ (syncLossTimer s) := by
  unfold syncLossTimer
  (try dsimp only)
  split
  · exact hs
  · exact (Kept.ite hs (Kept.ite (Kept.ite (enterHoldover_kept (Kept.upd_10 hs (hm.sub rfl)) (hm.sub rfl)) (setDisc_kept (Kept.upd_10 hs (hm.sub rfl)) _ (hm.sub rfl))) (Kept.ite (lockedLost_kept (Kept.upd_10 hs (hm.sub rfl)) (hm.sub rfl)) (Kept.upd_10 hs (hm.sub rfl)))))

theorem execSyncLossTimer_kept {μ : Nat} {s₀ : State} {s : State} (hs : Kept μ s₀ s)
    (hm : Within 0x40050000400500000050 μ) :
    KeptN μ s₀ (execSyncLossTimer s) := by
  unfold execSyncLossTimer; exact (KeptN.next (Kept.live hs (fun _ hz0 => (syncLossTimer_kept hz0 (hm.sub rfl)))))

theorem slaveLost_kept {μ : Nat} {s₀ : State} {s : State} (hs : Kept μ s₀ s) (port : Nat)
    (hm : Within 0x40050000400500000050 μ) :
    Kept μ s₀ (slaveLost s port) := by
  unfold slaveLost; exact (Kept.ite (lockedLost_kept hs (hm.sub rfl)) hs)

theorem holdLimitReached_kept {μ : Nat} {s₀ : State} {s : State} (hs : Kept μ s₀ s)
    (hm : Within 0x40010000400500000050 μ) :
    Kept μ s₀ (holdLimitReached s) := by
  unfold holdLimitReached
  (try dsimp only)
  split
  · exact hs
  · exact (Kept.ite hs (State_setFlt_kept (setTq_kept (Kept.upd_10 hs (hm.sub rfl)) _ (hm.sub rfl)) _ (hm.sub rfl) (hm.sub rfl)))

theorem execHoldLimitReached_kept {μ : Nat} {s₀ : State} {s : State} (hs : Kept μ s₀ s)
    (hm : Within 0x40010000400500000050 μ) :
    KeptN μ s₀ (execHoldLimitReached s) := by
  unfold execHoldLimitReached; exact (KeptN.next (Kept.live hs (fun _ hz0 => (holdLimitReached_kept hz0 (hm.sub rfl)))))

theorem toutArm_kept {μ : Nat} {s₀ : State} {s : State} (hs : Kept μ s₀ s) (n : Nat) (arm : Bool)
    (hm : Within 0x400000010 μ) :
    Kept μ s₀ (toutArm s n arm) := by
  unfold toutArm
  exact (Kept.ite hs (Kept.ite (Kept.ite (State_setFlag_kept hs _ _ _ (hm.sub rfl)) (State_setFlag_kept (State_setTout_kept hs _ _ (hm.sub rfl)) _ _ _ (hm.sub rfl))) (State_setFlag_kept (State_setTout_kept hs _ _ (hm.sub rfl)) _ _ _ (hm.sub rfl))))

theorem execToutArm_kept {μ : Nat} {s₀ : State} {s : State} (hs : Kept μ s₀ s) (n : Nat) (arm : Bool)
    (hm : Within 0x400000010 μ) :
    KeptN μ s₀ (execToutArm n arm s) := by
  unfold execToutArm; exact (KeptN.next (Kept.live hs (fun _ hz0 => (toutArm_kept hz0 _ _ (hm.sub rfl)))))

theorem toutPulseStart_kept {μ : Nat} {s₀ : State} {s : State} (hs : Kept μ s₀ s) (n : Nat)
    (hm : Within 0x40050000400500000050 μ) :
    Kept μ s₀ (toutPulseStart s n) := by
  unfold toutPulseStart
  exact (Kept.ite hs (Kept.ite (State_setFlag_kept (State_count_kept (State_setTout_kept (Kept.ite (State_setFlag_kept hs _ _ _ (hm.sub rfl)) hs) _ _ (hm.sub rfl)) _ _ (hm.sub rfl)) _ _ _ (hm.sub rfl)) (Kept.ite (State_setFlt_kept (State_setFlag_kept (State_count_kept (State_setTout_kept hs _ _ (hm.sub rfl)) _ _ (hm.sub rfl)) _ _ _ (hm.sub rfl)) _ (hm.sub rfl) (hm.sub rfl)) (State_count_kept (State_setTout_kept hs _ _ (hm.sub rfl)) _ _ (hm.sub rfl)))))

theorem execToutPulseStart_kept {μ : Nat} {s₀ : State} {s : State} (hs : Kept μ s₀ s) (n : Nat)
    (hm : Within 0x40050000400500000050 μ) :
    KeptN μ s₀ (execToutPulseStart n s) := by
  unfold execToutPulseStart; exact (KeptN.next (Kept.live hs (fun _ hz0 => (toutPulseStart_kept hz0 _ (hm.sub rfl)))))

theorem toutPulseEnd_kept {μ : Nat} {s₀ : State} {s : State} (hs : Kept μ s₀ s) (n : Nat)
    (hm : Within 0x400000010 μ) :
    Kept μ s₀ (toutPulseEnd s n) := by
  unfold toutPulseEnd
  (try dsimp only)
  split
  · exact (Kept.ite (State_setFlag_kept (State_setTout_kept hs _ _ (hm.sub rfl)) _ _ _ (hm.sub rfl)) hs)
  · exact hs

theorem execToutPulseEnd_kept {μ : Nat} {s₀ : State} {s : State} (hs : Kept μ s₀ s) (n : Nat)
    (hm : Within 0x400000010 μ) :
    KeptN μ s₀ (execToutPulseEnd n s) := by
  unfold execToutPulseEnd; exact (KeptN.next (Kept.live hs (fun _ hz0 => (toutPulseEnd_kept hz0 _ (hm.sub rfl)))))

theorem State_setTin_kept {μ : Nat} {s₀ : State} {s : State} (hs : Kept μ s₀ s) (n : Nat) (t : TinSt)
    (hm : Within 0x400000010 μ) :
    Kept μ s₀ (State.setTin s n t) := by
  unfold State.setTin; exact (Kept.setFld (Kept.upd_10 hs (hm.sub rfl)) _ _ _ (hm.sub rfl))

theorem tinCapture_kept {μ : Nat} {s₀ : State} {s : State} (hs : Kept μ s₀ s) (n : Nat) (rising : Bool) (sub : Nat)
    (hm : Within 0x40050000400500000050 μ) :
    Kept μ s₀ (tinCapture s n rising sub) := by
  unfold tinCapture
  exact (Kept.ite hs (Kept.ite (State_count_kept (Kept.ite (State_setFlt_kept (State_setFlag_kept (Kept.ite (State_setFlag_kept hs _ _ _ (hm.sub rfl)) hs) _ _ _ (hm.sub rfl)) _ (hm.sub rfl) (hm.sub rfl)) (Kept.ite (State_setFlag_kept hs _ _ _ (hm.sub rfl)) hs)) _ _ (hm.sub rfl)) (State_count_kept (State_setTin_kept hs _ _ (hm.sub rfl)) _ _ (hm.sub rfl))))

theorem execTinCapture_kept {μ : Nat} {s₀ : State} {s : State} (hs : Kept μ s₀ s) (n : Nat) (rising : Bool) (sub : Nat)
    (hm : Within 0x40050000400500000050 μ) :
    KeptN μ s₀ (execTinCapture n rising sub s) := by
  unfold execTinCapture; exact (KeptN.next (Kept.live hs (fun _ hz0 => (tinCapture_kept hz0 _ _ _ (hm.sub rfl)))))

theorem timeMbx_kept {μ : Nat} {s₀ : State} {s : State} (hs : Kept μ s₀ s) (f : State → State) (kf : ∀ t , Kept μ s₀ t → Kept μ s₀ (f t ))
    (hm : Within 0x400000000 μ) :
    Kept μ s₀ (timeMbx s f) := by
  unfold timeMbx; exact (Kept.ite (State_mbxRefuseBusy_kept hs _ (hm.sub rfl)) (kf _ hs))

theorem stepSampled_kept {μ : Nat} {s₀ : State} {s : State} (hs : Kept μ s₀ s) (amount : Int)
    (hm : Within 0x40000000400000010 μ) :
    Kept μ s₀ (stepSampled s amount) := by
  unfold stepSampled; exact (Kept.ite (stepTime_kept hs _ (hm.sub rfl)) (Kept.upd_10 hs (hm.sub rfl)))

theorem stepDue_kept {μ : Nat} {s₀ : State} {s : State} (hs : Kept μ s₀ s)
    (hm : Within 0x40000000400000010 μ) :
    Kept μ s₀ (stepDue s) := by
  unfold stepDue; (try dsimp only); split; (· exact (stepTime_kept (Kept.upd_10 hs (hm.sub rfl)) _ (hm.sub rfl))); (· exact hs)

theorem readNow_kept {μ : Nat} {s₀ : State} {s : State} (hs : Kept μ s₀ s)
    (hm : Within 0x400000004 μ) :
    Kept μ s₀ (readNow s) := by
  unfold readNow; exact (timeMbx_kept hs _ (fun _ hz0 => (State_mbxStart_kept hz0 _ _ (hm.sub rfl) (hm.sub rfl))) (hm.sub rfl))

theorem execReadNow_kept {μ : Nat} {s₀ : State} {s : State} (hs : Kept μ s₀ s)
    (hm : Within 0x400000004 μ) :
    KeptN μ s₀ (execReadNow s) := by
  unfold execReadNow; exact (KeptN.next (Kept.live hs (fun _ hz0 => (readNow_kept hz0 (hm.sub rfl)))))

theorem setAbs_kept {μ : Nat} {s₀ : State} {s : State} (hs : Kept μ s₀ s)
    (hm : Within 0x40000000400000014 μ) :
    Kept μ s₀ (setAbs s) := by
  unfold setAbs
  exact (timeMbx_kept hs _ (fun _ hz0 => (Kept.ite (State_mbxRefuse_kept hz0 _ (hm.sub rfl)) (stepSampled_kept (State_mbxStart_kept hz0 _ _ (hm.sub rfl) (hm.sub rfl)) _ (hm.sub rfl)))) (hm.sub rfl))

theorem execSetAbs_kept {μ : Nat} {s₀ : State} {s : State} (hs : Kept μ s₀ s)
    (hm : Within 0x40000000400000014 μ) :
    KeptN μ s₀ (execSetAbs s) := by
  unfold execSetAbs; exact (KeptN.next (Kept.live hs (fun _ hz0 => (setAbs_kept hz0 (hm.sub rfl)))))

theorem stepRel_kept {μ : Nat} {s₀ : State} {s : State} (hs : Kept μ s₀ s)
    (hm : Within 0x40000000400000014 μ) :
    Kept μ s₀ (stepRel s) := by
  unfold stepRel
  exact (timeMbx_kept hs _ (fun _ hz0 => (Kept.ite (State_mbxRefuse_kept hz0 _ (hm.sub rfl)) (stepSampled_kept (State_mbxStart_kept hz0 _ _ (hm.sub rfl) (hm.sub rfl)) _ (hm.sub rfl)))) (hm.sub rfl))

theorem execStepRel_kept {μ : Nat} {s₀ : State} {s : State} (hs : Kept μ s₀ s)
    (hm : Within 0x40000000400000014 μ) :
    KeptN μ s₀ (execStepRel s) := by
  unfold execStepRel; exact (KeptN.next (Kept.live hs (fun _ hz0 => (stepRel_kept hz0 (hm.sub rfl)))))

theorem loadTout_kept {μ : Nat} {s₀ : State} {s : State} (hs : Kept μ s₀ s)
    (hm : Within 0x400000014 μ) :
    Kept μ s₀ (loadTout s) := by
  unfold loadTout
  exact (timeMbx_kept hs _ (fun _ hz0 => (Kept.ite (State_mbxRefuse_kept hz0 _ (hm.sub rfl)) (State_setTout_kept (State_mbxStart_kept hz0 _ _ (hm.sub rfl) (hm.sub rfl)) _ _ (hm.sub rfl)))) (hm.sub rfl))

theorem execLoadTout_kept {μ : Nat} {s₀ : State} {s : State} (hs : Kept μ s₀ s)
    (hm : Within 0x400000014 μ) :
    KeptN μ s₀ (execLoadTout s) := by
  unfold execLoadTout; exact (KeptN.next (Kept.live hs (fun _ hz0 => (loadTout_kept hz0 (hm.sub rfl)))))

theorem popTin_kept {μ : Nat} {s₀ : State} {s : State} (hs : Kept μ s₀ s)
    (hm : Within 0x401000014 μ) :
    Kept μ s₀ (popTin s) := by
  unfold popTin
  exact (timeMbx_kept hs _ (fun _ hz0 => (Kept.ite (State_mbxRefuse_kept hz0 _ (hm.sub rfl)) (by (try dsimp only); split; (· exact (State_mbxStart_kept (State_takeFree_kept (State_takeFree_kept (State_takeFree_kept (State_takeFree_kept hz0 (hm.sub rfl)) (hm.sub rfl)) (hm.sub rfl)) (hm.sub rfl)) _ _ (hm.sub rfl) (hm.sub rfl))); (· exact (State_mbxStart_kept (State_setTin_kept hz0 _ _ (hm.sub rfl)) _ _ (hm.sub rfl) (hm.sub rfl)))))) (hm.sub rfl))

theorem execPopTin_kept {μ : Nat} {s₀ : State} {s : State} (hs : Kept μ s₀ s)
    (hm : Within 0x401000014 μ) :
    KeptN μ s₀ (execPopTin s) := by
  unfold execPopTin; exact (KeptN.next (Kept.live hs (fun _ hz0 => (popTin_kept hz0 (hm.sub rfl)))))

end Sys2Proof.Machine
end

