-- ==== Sys2Proof/Laws/KeptPtp.lean ====
section
/-! SUPPORT. Each function of Machine/Ptp.lean keeps what `Kept` says. -/

set_option Elab.async false

namespace Sys2Proof.Machine

theorem State_setPtpPort_kept {μ : Nat} {s₀ : State} {s : State} (hs : Kept μ s₀ s) (p : Nat) (v : PtpPort)
    (hm : Within 0x10 μ) :
    Kept μ s₀ (State.setPtpPort s p v) := by
  unfold State.setPtpPort; exact (Kept.upd_10 hs (hm.sub rfl))

theorem egressStamp_kept {μ : Nat} {s₀ : State} {s : State} (hs : Kept μ s₀ s) (p : Nat)
    (hm : Within 0x1000000 μ) :
    Kept μ s₀ (egressStamp s p).2 := by
  unfold egressStamp; exact (psUnits_kept (State_takeFree_kept hs (hm.sub rfl)) _ (hm.sub rfl))

theorem syncCorrection_kept {μ : Nat} {s₀ : State} {s : State} (hs : Kept μ s₀ s) (p : Nat) (i : Nat) (rx : Stamp)
    (hm : Within 0x40000000401000000 μ) :
    Kept μ s₀ (syncCorrection s p i rx).2 := by
  unfold syncCorrection
  exact (Kept.ite2 (psUnits_kept (egressStamp_kept hs _ (hm.sub rfl)) _ (hm.sub rfl)) (State_count_kept (egressStamp_kept hs _ (hm.sub rfl)) _ _ (hm.sub rfl)))

theorem addCorr_kept {μ : Nat} {s₀ : State} {s : State} (hs : Kept μ s₀ s) (p : Nat) (m : PtpMsg) (c : Int)
    (hm : Within 0x40000000400000000 μ) :
    Kept μ s₀ (addCorr s p m c).2 := by
  unfold addCorr; exact (Kept.ite2 (State_count_kept hs _ _ (hm.sub rfl)) hs)

theorem recordCorr_kept {μ : Nat} {s₀ : State} {s : State} (hs : Kept μ s₀ s) (p : Nat) (r : CorrRec)
    (hm : Within 0x40000000400000010 μ) :
    Kept μ s₀ (recordCorr s p r) := by
  unfold recordCorr
  exact (Kept.ite (State_setPtpPort_kept hs _ _ (hm.sub rfl)) (State_count_kept (State_setPtpPort_kept hs _ _ (hm.sub rfl)) _ _ (hm.sub rfl)))

theorem egressPtp_kept {μ : Nat} {s₀ : State} {s : State} (hs : Kept μ s₀ s) (p : Nat) (x : SwCopy) (m : PtpMsg)
    (hm : Within 0x40000000401000010 μ) :
    Kept μ s₀ (egressPtp s p x m).2 := by
  unfold egressPtp
  exact (Kept.ite2 (State_count_kept (addCorr_kept (syncCorrection_kept hs _ _ _ (hm.sub rfl)) _ _ _ (hm.sub rfl)) _ _ (hm.sub rfl)) (Kept.ite2 (recordCorr_kept (syncCorrection_kept hs _ _ _ (hm.sub rfl)) _ _ (hm.sub rfl)) (Kept.ite2 (by (try dsimp only); split; (· exact (Kept.ite2 (State_count_kept hs _ _ (hm.sub rfl)) (State_count_kept (addCorr_kept (State_setPtpPort_kept hs _ _ (hm.sub rfl)) _ _ _ (hm.sub rfl)) _ _ (hm.sub rfl)))); (· exact (State_count_kept hs _ _ (hm.sub rfl)))) hs)))

theorem egressFrame_kept {μ : Nat} {s₀ : State} {s : State} (hs : Kept μ s₀ s) (p : Nat) (x : SwCopy)
    (hm : Within 0x40000000401000010 μ) :
    Kept μ s₀ (egressFrame s p x).2 := by
  unfold egressFrame; (try dsimp only); split; (· exact (Kept.ite2 (egressPtp_kept hs _ _ _ (hm.sub rfl)) hs)); (· exact hs)

end Sys2Proof.Machine
end

