-- ==== Sys2Proof/Laws/KeptPort.lean ====
section
/-! SUPPORT. Each function of Machine/Port.lean keeps what `Kept` says. -/

set_option Elab.async false

namespace Sys2Proof.Machine

theorem portFlt_kept {μ : Nat} {s₀ : State} {s : State} (hs : Kept μ s₀ s) (p : Nat) (f : Fld) (dev : Fld)
    (hb1 : Within (blkBits dev.blk) μ)
    (hb2 : Within (blkBits f.blk) μ)
    (hm : Within 0x40010000400100000040 μ) :
    Kept μ s₀ (portFlt s p f dev) := by
  unfold portFlt; exact (State_setFlt_kept (State_setFlag_kept hs _ _ _ (by exact hb2)) _ (by exact hb1) (hm.sub rfl))

theorem setLink_kept {μ : Nat} {s₀ : State} {s : State} (hs : Kept μ s₀ s) (p : Nat) (st : Nat)
    (hm : Within 0x100000000000 μ) :
    Kept μ s₀ (setLink s p st) := by
  unfold setLink; exact (Kept.setFld hs _ _ _ (hm.sub rfl))

theorem loadThr_kept {μ : Nat} {s₀ : State} {s : State} (hs : Kept μ s₀ s) (p : Nat)
    (hm : Within 0x100000000000 μ) :
    Kept μ s₀ (loadThr s p) := by
  unfold loadThr; exact (Kept.setFld hs _ _ _ (hm.sub rfl))

theorem enterDown_kept {μ : Nat} {s₀ : State} {s : State} (hs : Kept μ s₀ s) (p : Nat)
    (hm : Within 0x78050000780500018070 μ) :
    Kept μ s₀ (enterDown s p) := by
  unfold enterDown
  exact (swcPortFlush_kept (portFlt_kept (State_event_kept (State_count_kept (State_countBy_kept (setLink_kept (State_setPortCh_kept (Kept.ite (slaveLost_kept hs _ (hm.sub rfl)) hs) _ _ (hm.sub rfl)) _ _ (hm.sub rfl)) _ _ _ (hm.sub rfl)) _ _ (hm.sub rfl)) _ _ _ _ _ _ (hm.sub rfl)) _ _ _ (hm.sub rfl) (hm.sub rfl) (hm.sub rfl)) _ (hm.sub rfl))

theorem enterUp_kept {μ : Nat} {s₀ : State} {s : State} (hs : Kept μ s₀ s) (p : Nat)
    (hm : Within 0x58010000580100010060 μ) :
    Kept μ s₀ (enterUp s p) := by
  unfold enterUp
  exact (portFlt_kept (State_event_kept (State_count_kept (State_setFlag_kept (loadThr_kept (setLink_kept (State_setPortCh_kept hs _ _ (hm.sub rfl)) _ _ (hm.sub rfl)) _ (hm.sub rfl)) _ _ _ (hm.sub rfl)) _ _ (hm.sub rfl)) _ _ _ _ _ _ (hm.sub rfl)) _ _ _ (hm.sub rfl) (hm.sub rfl) (hm.sub rfl))

theorem portFlap_kept {μ : Nat} {s₀ : State} {s : State} (hs : Kept μ s₀ s) (p : Nat)
    (hm : Within 0x50010000500100000040 μ) :
    Kept μ s₀ (portFlap s p) := by
  unfold portFlap; exact (portFlt_kept (State_count_kept hs _ _ (hm.sub rfl)) _ _ _ (hm.sub rfl) (hm.sub rfl) (hm.sub rfl))

theorem linkSettle_kept {μ : Nat} {s₀ : State} {s : State} (hs : Kept μ s₀ s) (p : Nat) (atOnce : Bool)
    (hm : Within 0x78050000780500018070 μ) :
    Kept μ s₀ (linkSettle s p atOnce) := by
  unfold linkSettle
  exact (Kept.ite (setLink_kept (State_setPortCh_kept hs _ _ (hm.sub rfl)) _ _ (hm.sub rfl)) (Kept.ite (portFlap_kept (State_setFlag_kept (State_setPortCh_kept (setLink_kept hs _ _ (hm.sub rfl)) _ _ (hm.sub rfl)) _ _ _ (hm.sub rfl)) _ (hm.sub rfl)) (Kept.ite (Kept.ite (enterDown_kept hs _ (hm.sub rfl)) (slaveLost_kept (setLink_kept (State_setPortCh_kept hs _ _ (hm.sub rfl)) _ _ (hm.sub rfl)) _ (hm.sub rfl))) (Kept.ite (portFlap_kept (loadThr_kept (State_setPortCh_kept (setLink_kept hs _ _ (hm.sub rfl)) _ _ (hm.sub rfl)) _ (hm.sub rfl)) _ (hm.sub rfl)) (Kept.ite (enterDown_kept hs _ (hm.sub rfl)) hs)))))

theorem portEnable_kept {μ : Nat} {s₀ : State} {s : State} (hs : Kept μ s₀ s) (p : Nat)
    (hm : Within 0x78050000780500018070 μ) :
    Kept μ s₀ (portEnable s p) := by
  unfold portEnable
  exact (Kept.ite hs (Kept.ite (portFlt_kept hs _ _ _ (hm.sub rfl) (hm.sub rfl) (hm.sub rfl)) (linkSettle_kept (Kept.setFld (State_setPortCh_kept (Kept.setFld (State_setFlag_kept (loadThr_kept (setLink_kept (State_setFlag_kept hs _ _ _ (hm.sub rfl)) _ _ (hm.sub rfl)) _ (hm.sub rfl)) _ _ _ (hm.sub rfl)) _ _ _ (hm.sub rfl)) _ _ (hm.sub rfl)) _ _ _ (hm.sub rfl)) _ _ (hm.sub rfl))))

theorem execPortEnable_kept {μ : Nat} {s₀ : State} {s : State} (hs : Kept μ s₀ s) (p : Nat)
    (hm : Within 0x78050000780500018070 μ) :
    KeptN μ s₀ (execPortEnable p s) := by
  unfold execPortEnable; exact (KeptN.next (Kept.live hs (fun _ hz0 => (portEnable_kept hz0 _ (hm.sub rfl)))))

theorem portDisable_kept {μ : Nat} {s₀ : State} {s : State} (hs : Kept μ s₀ s) (p : Nat)
    (hm : Within 0x78050000780500018070 μ) :
    Kept μ s₀ (portDisable s p) := by
  unfold portDisable
  exact (Kept.ite hs (State_setFlag_kept (setLink_kept (State_setFlag_kept (State_setPortCh_kept (Kept.ite (enterDown_kept hs _ (hm.sub rfl)) (State_setPortCh_kept hs _ _ (hm.sub rfl))) _ _ (hm.sub rfl)) _ _ _ (hm.sub rfl)) _ _ (hm.sub rfl)) _ _ _ (hm.sub rfl)))

theorem execPortDisable_kept {μ : Nat} {s₀ : State} {s : State} (hs : Kept μ s₀ s) (p : Nat)
    (hm : Within 0x78050000780500018070 μ) :
    KeptN μ s₀ (execPortDisable p s) := by
  unfold execPortDisable; exact (KeptN.next (Kept.live hs (fun _ hz0 => (portDisable_kept hz0 _ (hm.sub rfl)))))

theorem portCondition_kept {μ : Nat} {s₀ : State} {s : State} (hs : Kept μ s₀ s) (p : Nat) (los : Bool) (pcs : Bool) (hiBer : Bool) (fec : Bool)
    (hm : Within 0x78050000780500018070 μ) :
    Kept μ s₀ (portCondition s p los pcs hiBer fec) := by
  unfold portCondition
  exact (Kept.ite hs (linkSettle_kept (State_setFlag_kept (State_setFlag_kept (State_setFlag_kept (State_setFlag_kept hs _ _ _ (hm.sub rfl)) _ _ _ (hm.sub rfl)) _ _ _ (hm.sub rfl)) _ _ _ (hm.sub rfl)) _ _ (hm.sub rfl)))

theorem execPortUpConditionChange_kept {μ : Nat} {s₀ : State} {s : State} (hs : Kept μ s₀ s) (p : Nat) (los : Bool) (pcs : Bool) (hiBer : Bool) (fec : Bool)
    (hm : Within 0x78050000780500018070 μ) :
    KeptN μ s₀ (execPortUpConditionChange p los pcs hiBer fec s) := by
  unfold execPortUpConditionChange; exact (KeptN.next (Kept.live hs (fun _ hz0 => (portCondition_kept hz0 _ _ _ _ _ (hm.sub rfl)))))

theorem upHoldExpiry_kept {μ : Nat} {s₀ : State} {s : State} (hs : Kept μ s₀ s) (p : Nat)
    (hm : Within 0x58010000580100010060 μ) :
    Kept μ s₀ (upHoldExpiry s p) := by
  unfold upHoldExpiry; exact (Kept.ite hs (Kept.ite (State_setFlag_kept hs _ _ _ (hm.sub rfl)) (enterUp_kept hs _ (hm.sub rfl))))

theorem execUpHoldExpiry_kept {μ : Nat} {s₀ : State} {s : State} (hs : Kept μ s₀ s) (p : Nat)
    (hm : Within 0x58010000580100010060 μ) :
    KeptN μ s₀ (execUpHoldExpiry p s) := by
  unfold execUpHoldExpiry; exact (KeptN.next (Kept.live hs (fun _ hz0 => (upHoldExpiry_kept hz0 _ (hm.sub rfl)))))

theorem downHoldExpiry_kept {μ : Nat} {s₀ : State} {s : State} (hs : Kept μ s₀ s) (p : Nat)
    (hm : Within 0x78050000780500018070 μ) :
    Kept μ s₀ (downHoldExpiry s p) := by
  unfold downHoldExpiry; exact (Kept.ite (enterDown_kept hs _ (hm.sub rfl)) hs)

theorem execDownHoldExpiry_kept {μ : Nat} {s₀ : State} {s : State} (hs : Kept μ s₀ s) (p : Nat)
    (hm : Within 0x78050000780500018070 μ) :
    KeptN μ s₀ (execDownHoldExpiry p s) := by
  unfold execDownHoldExpiry; exact (KeptN.next (Kept.live hs (fun _ hz0 => (downHoldExpiry_kept hz0 _ (hm.sub rfl)))))

theorem swcFlushComplete_kept {μ : Nat} {s₀ : State} {s : State} (hs : Kept μ s₀ s) (p : Nat)
    (hm : Within 0x58010000780100010060 μ) :
    Kept μ s₀ (swcFlushComplete s p) := by
  unfold swcFlushComplete
  exact (Kept.ite hs (Kept.ite (enterUp_kept (State_setFlag_kept hs _ _ _ (hm.sub rfl)) _ (hm.sub rfl)) (State_setFlag_kept hs _ _ _ (hm.sub rfl))))

theorem execSwcFlushComplete_kept {μ : Nat} {s₀ : State} {s : State} (hs : Kept μ s₀ s) (p : Nat)
    (hm : Within 0x58010000780100010060 μ) :
    KeptN μ s₀ (execSwcFlushComplete p s) := by
  unfold execSwcFlushComplete; exact (KeptN.next (Kept.live hs (fun _ hz0 => (swcFlushComplete_kept hz0 _ (hm.sub rfl)))))

theorem anComplete_kept {μ : Nat} {s₀ : State} {s : State} (hs : Kept μ s₀ s) (p : Nat) (lp : Nat)
    (hm : Within 0x78050000780500018070 μ) :
    Kept μ s₀ (anComplete s p lp) := by
  unfold anComplete
  exact (Kept.ite hs (Kept.ite (Kept.ite (linkSettle_kept (State_setFlag_kept (Kept.setFld hs _ _ _ (hm.sub rfl)) _ _ _ (hm.sub rfl)) _ _ (hm.sub rfl)) (linkSettle_kept (portFlt_kept (State_event_kept (State_count_kept (State_setFlag_kept (Kept.setFld hs _ _ _ (hm.sub rfl)) _ _ _ (hm.sub rfl)) _ _ (hm.sub rfl)) _ _ _ _ _ _ (hm.sub rfl)) _ _ _ (hm.sub rfl) (hm.sub rfl) (hm.sub rfl)) _ _ (hm.sub rfl))) (linkSettle_kept (State_setFlag_kept (Kept.setFld (State_setPortCh_kept (Kept.setFld hs _ _ _ (hm.sub rfl)) _ _ (hm.sub rfl)) _ _ _ (hm.sub rfl)) _ _ _ (hm.sub rfl)) _ _ (hm.sub rfl))))

theorem execAnComplete_kept {μ : Nat} {s₀ : State} {s : State} (hs : Kept μ s₀ s) (p : Nat) (lp : Nat)
    (hm : Within 0x78050000780500018070 μ) :
    KeptN μ s₀ (execAnComplete p lp s) := by
  unfold execAnComplete; exact (KeptN.next (Kept.live hs (fun _ hz0 => (anComplete_kept hz0 _ _ (hm.sub rfl)))))

theorem modabsChange_kept {μ : Nat} {s₀ : State} {s : State} (hs : Kept μ s₀ s) (p : Nat) (absent : Bool)
    (hm : Within 0x78050000780500018070 μ) :
    Kept μ s₀ (modabsChange s p absent) := by
  unfold modabsChange
  exact (Kept.ite hs (linkSettle_kept (portFlt_kept (State_event_kept (State_setFlag_kept hs _ _ _ (hm.sub rfl)) _ _ _ _ _ _ (hm.sub rfl)) _ _ _ (hm.sub rfl) (hm.sub rfl) (hm.sub rfl)) _ _ (hm.sub rfl)))

theorem execModabsChange_kept {μ : Nat} {s₀ : State} {s : State} (hs : Kept μ s₀ s) (p : Nat) (absent : Bool)
    (hm : Within 0x78050000780500018070 μ) :
    KeptN μ s₀ (execModabsChange p absent s) := by
  unfold execModabsChange; exact (KeptN.next (Kept.live hs (fun _ hz0 => (modabsChange_kept hz0 _ _ (hm.sub rfl)))))

theorem State_setI2cOut_kept {μ : Nat} {s₀ : State} {s : State} (hs : Kept μ s₀ s) (k : Nat) (l : List Nat)
    (hm : Within 0x10000 μ) :
    Kept μ s₀ (State.setI2cOut s k l) := by
  unfold State.setI2cOut; exact (Kept.upd_10000 hs (hm.sub rfl))

theorem i2cEnd_kept {μ : Nat} {s₀ : State} {s : State} (hs : Kept μ s₀ s) (k : Nat) (ok : Bool)
    (hm : Within 0x50010000500100000040 μ) :
    Kept μ s₀ (i2cEnd s k ok) := by
  unfold i2cEnd
  exact (Kept.ite (State_setFlag_kept (State_setFlag_kept (State_setFlag_kept hs _ _ _ (hm.sub (b := blkBits 12) rfl)) _ _ _ (hm.sub (b := blkBits 12) rfl)) _ _ _ (hm.sub (b := blkBits 12) rfl)) (State_setFlt_kept (State_count_kept (State_setFlag_kept (State_setFlag_kept (State_setFlag_kept hs _ _ _ (hm.sub (b := blkBits 12) rfl)) _ _ _ (hm.sub (b := blkBits 12) rfl)) _ _ _ (hm.sub (b := blkBits 12) rfl)) _ _ (hm.sub rfl)) _ (hm.sub rfl) (hm.sub rfl)))

theorem i2cCmd_kept {μ : Nat} {s₀ : State} {s : State} (hs : Kept μ s₀ s) (k : Nat) (v : Nat)
    (hm : Within 0x50010000500100010040 μ) :
    Kept μ s₀ (i2cCmd s k v) := by
  unfold i2cCmd; dsimp only
  refine Kept.ite hs (Kept.ite (State_setFlag_kept hs _ _ _ (hm.sub (b := blkBits 12) rfl)) ?_)
  have h : Kept μ s₀ ([F.PORT_I2C_CMD_WR, F.PORT_I2C_CMD_FAST, F.PORT_I2C_CMD_DEV, F.PORT_I2C_CMD_PORT, F.PORT_I2C_CMD_LEN,
      F.PORT_I2C_CMD_OFFSET].foldl (fun s f => s.setFld (f.el k) (v / 2 ^ f.lo)) s) :=
    Kept.foldl_mem _ hs (fun t f hf ht => Kept.setFld ht _ _ _ (hm.sub (by simp only [Fld.el_blk]; revert f; decide)))
  have h2 := State_count_kept (State_setFlag_kept (State_setFlag_kept h (F.PORT_I2C_STAT_DONE.el k) false 0 (hm.sub (b := blkBits 12) rfl)) (F.PORT_I2C_STAT_ERR.el k) false 0 (hm.sub (b := blkBits 12) rfl)) C.PORT_I2C_XFERS 0 (hm.sub rfl)
  exact Kept.ite h (Kept.ite (i2cEnd_kept h2 _ _ (hm.sub rfl)) (State_setFlag_kept (State_setI2cOut_kept h2 _ _ (hm.sub rfl)) _ _ _ (hm.sub (b := blkBits 12) rfl)))

theorem execI2cCmd_kept {μ : Nat} {s₀ : State} {s : State} (hs : Kept μ s₀ s) (k : Nat) (v : Nat)
    (hm : Within 0x50010000500100010040 μ) :
    KeptN μ s₀ (execI2cCmd k v s) := by
  unfold execI2cCmd; exact (KeptN.next (Kept.live hs (fun _ hz0 => (i2cCmd_kept hz0 _ _ (hm.sub rfl)))))

theorem i2cDone_kept {μ : Nat} {s₀ : State} {s : State} (hs : Kept μ s₀ s) (k : Nat) (ok : Bool) (data : List Nat)
    (hm : Within 0x50010000500100000040 μ) :
    Kept μ s₀ (i2cDone s k ok data) := by
  unfold i2cDone
  exact (Kept.ite hs (i2cEnd_kept (Kept.ite (Kept.setFld (Kept.setFld hs _ _ _ (hm.sub (b := blkBits 12) rfl)) _ _ _ (hm.sub (b := blkBits 12) rfl)) hs) _ _ (hm.sub rfl)))

theorem execI2cDone_kept {μ : Nat} {s₀ : State} {s : State} (hs : Kept μ s₀ s) (k : Nat) (ok : Bool) (data : List Nat)
    (hm : Within 0x50010000500100000040 μ) :
    KeptN μ s₀ (execI2cDone k ok data s) := by
  unfold execI2cDone; exact (KeptN.next (Kept.live hs (fun _ hz0 => (i2cDone_kept hz0 _ _ _ (hm.sub rfl)))))

theorem eqTxWrite_kept {μ : Nat} {s₀ : State} {s : State} (hs : Kept μ s₀ s) (p : Nat) (v : Nat)
    (hm : Within 0x48010000580100000060 μ) :
    Kept μ s₀ (eqTxWrite s p v) := by
  unfold eqTxWrite
  exact (Kept.ite hs (Kept.ite (State_rowLocked_kept hs _ _ _ (hm.sub rfl)) (Kept.ite (portFlt_kept hs _ _ _ (hm.sub rfl) (hm.sub rfl) (hm.sub rfl)) (Kept.setFld (Kept.setFld (Kept.setFld hs _ _ _ (hm.sub rfl)) _ _ _ (hm.sub rfl)) _ _ _ (hm.sub rfl)))))

theorem execEqTxWrite_kept {μ : Nat} {s₀ : State} {s : State} (hs : Kept μ s₀ s) (p : Nat) (v : Nat)
    (hm : Within 0x48010000580100000060 μ) :
    KeptN μ s₀ (execEqTxWrite p v s) := by
  unfold execEqTxWrite; exact (KeptN.next (Kept.live hs (fun _ hz0 => (eqTxWrite_kept hz0 _ _ (hm.sub rfl)))))

theorem portTxthrWrite_kept {μ : Nat} {s₀ : State} {s : State} (hs : Kept μ s₀ s) (p : Nat) (v : Nat)
    (hm : Within 0x48010000580100000060 μ) :
    Kept μ s₀ (portTxthrWrite s p v) := by
  unfold portTxthrWrite
  exact (Kept.ite hs (Kept.ite (State_rowLocked_kept hs _ _ _ (hm.sub rfl)) (loadThr_kept (Kept.setFld (Kept.setFld hs _ _ _ (hm.sub rfl)) _ _ _ (hm.sub rfl)) _ (hm.sub rfl))))

theorem execPortTxthrWrite_kept {μ : Nat} {s₀ : State} {s : State} (hs : Kept μ s₀ s) (p : Nat) (v : Nat)
    (hm : Within 0x48010000580100000060 μ) :
    KeptN μ s₀ (execPortTxthrWrite p v s) := by
  unfold execPortTxthrWrite; exact (KeptN.next (Kept.live hs (fun _ hz0 => (portTxthrWrite_kept hz0 _ _ (hm.sub rfl)))))

theorem portTestWrite_kept {μ : Nat} {s₀ : State} {s : State} (hs : Kept μ s₀ s) (p : Nat) (v : Nat)
    (hm : Within 0x78050000780500018070 μ) :
    Kept μ s₀ (portTestWrite s p v) := by
  unfold portTestWrite
  exact (Kept.ite hs (linkSettle_kept (Kept.ite (Kept.setFld (State_setFlag_kept (State_setFlag_kept (Kept.setFld hs _ _ _ (hm.sub rfl)) _ _ _ (hm.sub rfl)) _ _ _ (hm.sub rfl)) _ _ _ (hm.sub rfl)) (State_setFlag_kept (State_setFlag_kept (Kept.setFld hs _ _ _ (hm.sub rfl)) _ _ _ (hm.sub rfl)) _ _ _ (hm.sub rfl))) _ _ (hm.sub rfl)))

theorem execPortTestWrite_kept {μ : Nat} {s₀ : State} {s : State} (hs : Kept μ s₀ s) (p : Nat) (v : Nat)
    (hm : Within 0x78050000780500018070 μ) :
    KeptN μ s₀ (execPortTestWrite p v s) := by
  unfold execPortTestWrite; exact (KeptN.next (Kept.live hs (fun _ hz0 => (portTestWrite_kept hz0 _ _ (hm.sub rfl)))))

theorem swcReceive_kept {μ : Nat} {s₀ : State} {s : State} (hs : Kept μ s₀ s) (p : Nat) (x : InFrame)
    (hm : Within 0x60010000600100008040 μ) :
    Kept μ s₀ (swcReceive s p x) := by
  unfold swcReceive
  exact (Kept.ite (swpFlt_kept (State_count_kept hs _ _ (hm.sub rfl)) _ _ _ (hm.sub rfl) (hm.sub rfl) (hm.sub rfl)) (Kept.upd_8000 hs (hm.sub rfl)))

theorem rxCount_kept {μ : Nat} {s₀ : State} {s : State} (hs : Kept μ s₀ s) (p : Nat) (c : RxConds)
    (hm : Within 0x10000000100000000000 μ) :
    Kept μ s₀ (rxCount s p c) := by
  unfold rxCount
  exact (Kept.ite (State_count_kept (Kept.ite (State_count_kept (Kept.ite (State_count_kept (Kept.ite (State_count_kept (Kept.ite (State_count_kept (Kept.ite (State_count_kept hs _ _ (hm.sub rfl)) hs) _ _ (hm.sub rfl)) (Kept.ite (State_count_kept hs _ _ (hm.sub rfl)) hs)) _ _ (hm.sub rfl)) (Kept.ite (State_count_kept (Kept.ite (State_count_kept hs _ _ (hm.sub rfl)) hs) _ _ (hm.sub rfl)) (Kept.ite (State_count_kept hs _ _ (hm.sub rfl)) hs))) _ _ (hm.sub rfl)) (Kept.ite (State_count_kept (Kept.ite (State_count_kept (Kept.ite (State_count_kept hs _ _ (hm.sub rfl)) hs) _ _ (hm.sub rfl)) (Kept.ite (State_count_kept hs _ _ (hm.sub rfl)) hs)) _ _ (hm.sub rfl)) (Kept.ite (State_count_kept (Kept.ite (State_count_kept hs _ _ (hm.sub rfl)) hs) _ _ (hm.sub rfl)) (Kept.ite (State_count_kept hs _ _ (hm.sub rfl)) hs)))) _ _ (hm.sub rfl)) (Kept.ite (State_count_kept (Kept.ite (State_count_kept (Kept.ite (State_count_kept (Kept.ite (State_count_kept hs _ _ (hm.sub rfl)) hs) _ _ (hm.sub rfl)) (Kept.ite (State_count_kept hs _ _ (hm.sub rfl)) hs)) _ _ (hm.sub rfl)) (Kept.ite (State_count_kept (Kept.ite (State_count_kept hs _ _ (hm.sub rfl)) hs) _ _ (hm.sub rfl)) (Kept.ite (State_count_kept hs _ _ (hm.sub rfl)) hs))) _ _ (hm.sub rfl)) (Kept.ite (State_count_kept (Kept.ite (State_count_kept (Kept.ite (State_count_kept hs _ _ (hm.sub rfl)) hs) _ _ (hm.sub rfl)) (Kept.ite (State_count_kept hs _ _ (hm.sub rfl)) hs)) _ _ (hm.sub rfl)) (Kept.ite (State_count_kept (Kept.ite (State_count_kept hs _ _ (hm.sub rfl)) hs) _ _ (hm.sub rfl)) (Kept.ite (State_count_kept hs _ _ (hm.sub rfl)) hs))))) _ _ (hm.sub rfl)) (Kept.ite (State_count_kept (Kept.ite (State_count_kept (Kept.ite (State_count_kept (Kept.ite (State_count_kept (Kept.ite (State_count_kept hs _ _ (hm.sub rfl)) hs) _ _ (hm.sub rfl)) (Kept.ite (State_count_kept hs _ _ (hm.sub rfl)) hs)) _ _ (hm.sub rfl)) (Kept.ite (State_count_kept (Kept.ite (State_count_kept hs _ _ (hm.sub rfl)) hs) _ _ (hm.sub rfl)) (Kept.ite (State_count_kept hs _ _ (hm.sub rfl)) hs))) _ _ (hm.sub rfl)) (Kept.ite (State_count_kept (Kept.ite (State_count_kept (Kept.ite (State_count_kept hs _ _ (hm.sub rfl)) hs) _ _ (hm.sub rfl)) (Kept.ite (State_count_kept hs _ _ (hm.sub rfl)) hs)) _ _ (hm.sub rfl)) (Kept.ite (State_count_kept (Kept.ite (State_count_kept hs _ _ (hm.sub rfl)) hs) _ _ (hm.sub rfl)) (Kept.ite (State_count_kept hs _ _ (hm.sub rfl)) hs)))) _ _ (hm.sub rfl)) (Kept.ite (State_count_kept (Kept.ite (State_count_kept (Kept.ite (State_count_kept (Kept.ite (State_count_kept hs _ _ (hm.sub rfl)) hs) _ _ (hm.sub rfl)) (Kept.ite (State_count_kept hs _ _ (hm.sub rfl)) hs)) _ _ (hm.sub rfl)) (Kept.ite (State_count_kept (Kept.ite (State_count_kept hs _ _ (hm.sub rfl)) hs) _ _ (hm.sub rfl)) (Kept.ite (State_count_kept hs _ _ (hm.sub rfl)) hs))) _ _ (hm.sub rfl)) (Kept.ite (State_count_kept (Kept.ite (State_count_kept (Kept.ite (State_count_kept hs _ _ (hm.sub rfl)) hs) _ _ (hm.sub rfl)) (Kept.ite (State_count_kept hs _ _ (hm.sub rfl)) hs)) _ _ (hm.sub rfl)) (Kept.ite (State_count_kept (Kept.ite (State_count_kept hs _ _ (hm.sub rfl)) hs) _ _ (hm.sub rfl)) (Kept.ite (State_count_kept hs _ _ (hm.sub rfl)) hs))))))

theorem countTaken_kept {μ : Nat} {s₀ : State} {s : State} (hs : Kept μ s₀ s) (p : Nat) (a3 : MacKind)
    (hm : Within 0x10000000100000000000 μ) :
    Kept μ s₀ (countTaken s p a3) := by
  unfold countTaken
  (try dsimp only)
  split
  · exact (State_count_kept hs _ _ (hm.sub rfl))
  · exact (State_count_kept hs _ _ (hm.sub rfl))
  · exact hs

theorem rxCut_kept {μ : Nat} {s₀ : State} {s : State} (hs : Kept μ s₀ s) (f : Frame) (c : RxConds) (max : Nat)
    (hm : Within 0x1000000 μ) :
    Kept μ s₀ (rxCut s f c max).2 := by
  unfold rxCut; exact (Kept.ite2 hs (Kept.ite2 (State_takeOctets_kept hs _ (hm.sub rfl)) hs))

theorem macRx_kept {μ : Nat} {s₀ : State} {s : State} (hs : Kept μ s₀ s) (p : Nat) (f : Frame) (st : Stamp) (fcs : Bool) (code : Bool) (lenMis : Bool) (shortPre : Bool)
    (hm : Within 0x70010000700101008040 μ) :
    Kept μ s₀ (macRx s p f st fcs code lenMis shortPre) := by
  unfold macRx
  exact (Kept.ite hs (Kept.ite (Kept.ite (State_count_kept (State_count_kept (Kept.ite (portFlt_kept (rxCount_kept hs _ _ (hm.sub rfl)) _ _ _ (hm.sub rfl) (hm.sub rfl) (hm.sub rfl)) (rxCount_kept hs _ _ (hm.sub rfl))) _ _ (hm.sub rfl)) _ _ (hm.sub rfl)) (State_count_kept (Kept.ite (portFlt_kept (rxCount_kept hs _ _ (hm.sub rfl)) _ _ _ (hm.sub rfl) (hm.sub rfl) (hm.sub rfl)) (rxCount_kept hs _ _ (hm.sub rfl))) _ _ (hm.sub rfl))) (by (try dsimp only); split; (· exact (countTaken_kept (Kept.ite (State_count_kept (Kept.ite (Kept.ite (portFlt_kept (rxCount_kept hs _ _ (hm.sub rfl)) _ _ _ (hm.sub rfl) (hm.sub rfl) (hm.sub rfl)) (rxCount_kept hs _ _ (hm.sub rfl))) (State_countBy_kept (State_count_kept (Kept.ite (portFlt_kept (rxCount_kept hs _ _ (hm.sub rfl)) _ _ _ (hm.sub rfl) (hm.sub rfl) (hm.sub rfl)) (rxCount_kept hs _ _ (hm.sub rfl))) _ _ (hm.sub rfl)) _ _ _ (hm.sub rfl))) _ _ (hm.sub rfl)) (Kept.ite (Kept.ite (portFlt_kept (rxCount_kept hs _ _ (hm.sub rfl)) _ _ _ (hm.sub rfl) (hm.sub rfl) (hm.sub rfl)) (rxCount_kept hs _ _ (hm.sub rfl))) (State_countBy_kept (State_count_kept (Kept.ite (portFlt_kept (rxCount_kept hs _ _ (hm.sub rfl)) _ _ _ (hm.sub rfl) (hm.sub rfl) (hm.sub rfl)) (rxCount_kept hs _ _ (hm.sub rfl))) _ _ (hm.sub rfl)) _ _ _ (hm.sub rfl)))) _ _ (hm.sub rfl))); (· exact (Kept.ite (swcReceive_kept (Kept.ite (ingressStamp_kept (Kept.ite (portFlt_kept (rxCount_kept hs _ _ (hm.sub rfl)) _ _ _ (hm.sub rfl) (hm.sub rfl) (hm.sub rfl)) (rxCount_kept hs _ _ (hm.sub rfl))) _ _ (hm.sub rfl)) (State_countBy_kept (State_count_kept (ingressStamp_kept (Kept.ite (portFlt_kept (rxCount_kept hs _ _ (hm.sub rfl)) _ _ _ (hm.sub rfl) (hm.sub rfl) (hm.sub rfl)) (rxCount_kept hs _ _ (hm.sub rfl))) _ _ (hm.sub rfl)) _ _ (hm.sub rfl)) _ _ _ (hm.sub rfl))) _ _ (hm.sub rfl)) (Kept.ite (swcReceive_kept (rxCut_kept (State_count_kept (ingressStamp_kept (Kept.ite (portFlt_kept (rxCount_kept hs _ _ (hm.sub rfl)) _ _ _ (hm.sub rfl) (hm.sub rfl) (hm.sub rfl)) (rxCount_kept hs _ _ (hm.sub rfl))) _ _ (hm.sub rfl)) _ _ (hm.sub rfl)) _ _ _ (hm.sub rfl)) _ _ (hm.sub rfl)) (Kept.ite (State_count_kept (ingressStamp_kept (Kept.ite (portFlt_kept (rxCount_kept hs _ _ (hm.sub rfl)) _ _ _ (hm.sub rfl) (hm.sub rfl) (hm.sub rfl)) (rxCount_kept hs _ _ (hm.sub rfl))) _ _ (hm.sub rfl)) _ _ (hm.sub rfl)) (ingressStamp_kept (Kept.ite (portFlt_kept (rxCount_kept hs _ _ (hm.sub rfl)) _ _ _ (hm.sub rfl) (hm.sub rfl) (hm.sub rfl)) (rxCount_kept hs _ _ (hm.sub rfl))) _ _ (hm.sub rfl)))))))))

theorem execMacRxFrame_kept {μ : Nat} {s₀ : State} {s : State} (hs : Kept μ s₀ s) (p : Nat) (f : Frame) (st : Stamp) (fcs : Bool) (code : Bool) (lenMis : Bool) (shortPre : Bool)
    (hm : Within 0x70010000700101008040 μ) :
    KeptN μ s₀ (execMacRxFrame p f st fcs code lenMis shortPre s) := by
  unfold execMacRxFrame; exact (KeptN.next (Kept.live hs (fun _ hz0 => (macRx_kept hz0 _ _ _ _ _ _ _ (hm.sub rfl)))))

theorem launch_kept {μ : Nat} {s₀ : State} {s : State} (hs : Kept μ s₀ s) (p : Nat) (f : Frame) (x : Option SwCopy)
    (hm : Within 0x10000000100000010000 μ) :
    Kept μ s₀ (launch s p f x) := by
  unfold launch; exact (State_countBy_kept (State_count_kept (State_setPortCh_kept hs _ _ (hm.sub rfl)) _ _ (hm.sub rfl)) _ _ _ (hm.sub rfl))

theorem macTxStart_kept {μ : Nat} {s₀ : State} {s : State} (hs : Kept μ s₀ s) (p : Nat) (fill : Nat)
    (hm : Within 0x10040000100401010010 μ) :
    Kept μ s₀ (macTxStart s p fill) := by
  unfold macTxStart
  (try dsimp only)
  split
  · exact hs
  · exact (Kept.ite hs (launch_kept (egressFrame_kept (State_setPortCh_kept hs _ _ (hm.sub rfl)) _ _ (hm.sub rfl)) _ _ _ (hm.sub rfl)))

theorem execMacTxStart_kept {μ : Nat} {s₀ : State} {s : State} (hs : Kept μ s₀ s) (p : Nat) (fill : Nat)
    (hm : Within 0x10040000100401010010 μ) :
    KeptN μ s₀ (execMacTxStart p fill s) := by
  unfold execMacTxStart; exact (KeptN.next (Kept.live hs (fun _ hz0 => (macTxStart_kept hz0 _ _ (hm.sub rfl)))))

theorem startPtp_kept {μ : Nat} {s₀ : State} {s : State} (hs : Kept μ s₀ s) (p : Nat) (kind : PtpMsg → Bool)
    (hm : Within 0x10040000100401010010 μ) :
    Kept μ s₀ (startPtp s p kind) := by
  unfold startPtp
  (try dsimp only)
  split
  · exact (by (try dsimp only); split; (· exact (Kept.ite (macTxStart_kept hs _ _ (hm.sub rfl)) hs)); (· exact hs))
  · exact hs

theorem syncEgressCorrect_kept {μ : Nat} {s₀ : State} {s : State} (hs : Kept μ s₀ s) (p : Nat)
    (hm : Within 0x10040000100401010010 μ) :
    Kept μ s₀ (syncEgressCorrect s p) := by
  unfold syncEgressCorrect; exact (startPtp_kept hs _ _ (hm.sub rfl))

theorem execSyncEgressCorrect_kept {μ : Nat} {s₀ : State} {s : State} (hs : Kept μ s₀ s) (p : Nat)
    (hm : Within 0x10040000100401010010 μ) :
    KeptN μ s₀ (execSyncEgressCorrect p s) := by
  unfold execSyncEgressCorrect; exact (KeptN.next (Kept.live hs (fun _ hz0 => (syncEgressCorrect_kept hz0 _ (hm.sub rfl)))))

theorem twoStepSyncRecord_kept {μ : Nat} {s₀ : State} {s : State} (hs : Kept μ s₀ s) (p : Nat)
    (hm : Within 0x10040000100401010010 μ) :
    Kept μ s₀ (twoStepSyncRecord s p) := by
  unfold twoStepSyncRecord; exact (startPtp_kept hs _ _ (hm.sub rfl))

theorem execTwoStepSyncRecord_kept {μ : Nat} {s₀ : State} {s : State} (hs : Kept μ s₀ s) (p : Nat)
    (hm : Within 0x10040000100401010010 μ) :
    KeptN μ s₀ (execTwoStepSyncRecord p s) := by
  unfold execTwoStepSyncRecord; exact (KeptN.next (Kept.live hs (fun _ hz0 => (twoStepSyncRecord_kept hz0 _ (hm.sub rfl)))))

theorem followUpEgress_kept {μ : Nat} {s₀ : State} {s : State} (hs : Kept μ s₀ s) (p : Nat)
    (hm : Within 0x10040000100401010010 μ) :
    Kept μ s₀ (followUpEgress s p) := by
  unfold followUpEgress; exact (startPtp_kept hs _ _ (hm.sub rfl))

theorem execFollowUpEgress_kept {μ : Nat} {s₀ : State} {s : State} (hs : Kept μ s₀ s) (p : Nat)
    (hm : Within 0x10040000100401010010 μ) :
    KeptN μ s₀ (execFollowUpEgress p s) := by
  unfold execFollowUpEgress; exact (KeptN.next (Kept.live hs (fun _ hz0 => (followUpEgress_kept hz0 _ (hm.sub rfl)))))

theorem txCut_kept {μ : Nat} {s₀ : State} {s : State} (hs : Kept μ s₀ s) (p : Nat) (raise : Bool)
    (hm : Within 0x10000 μ) :
    Kept μ s₀ (txCut s p raise) := by
  unfold txCut; (try dsimp only); split; (· exact (Kept.ite hs (State_setPortCh_kept hs _ _ (hm.sub rfl)))); (· exact hs)

theorem underEnd_kept {μ : Nat} {s₀ : State} {s : State} (hs : Kept μ s₀ s) (p : Nat)
    (hm : Within 0x58010000580100010060 μ) :
    Kept μ s₀ (underEnd s p) := by
  unfold underEnd
  (try dsimp only)
  split
  · exact hs
  · exact (Kept.ite hs (portFlt_kept (Kept.ite (State_count_kept (Kept.setFld (State_setPortCh_kept hs _ _ (hm.sub rfl)) _ _ _ (hm.sub rfl)) _ _ (hm.sub rfl)) (State_event_kept (State_count_kept (Kept.setFld (State_setPortCh_kept hs _ _ (hm.sub rfl)) _ _ _ (hm.sub rfl)) _ _ (hm.sub rfl)) _ _ _ _ _ _ (hm.sub rfl))) _ _ _ (hm.sub rfl) (hm.sub rfl) (hm.sub rfl)))

theorem txUnderrun_kept {μ : Nat} {s₀ : State} {s : State} (hs : Kept μ s₀ s) (p : Nat)
    (hm : Within 0x10000 μ) :
    Kept μ s₀ (txUnderrun s p) := by
  unfold txUnderrun; exact (txCut_kept hs _ _ (hm.sub rfl))

theorem execTxUnderrun_kept {μ : Nat} {s₀ : State} {s : State} (hs : Kept μ s₀ s) (p : Nat)
    (hm : Within 0x10000 μ) :
    KeptN μ s₀ (execTxUnderrun p s) := by
  unfold execTxUnderrun; exact (KeptN.next (Kept.live hs (fun _ hz0 => (txUnderrun_kept hz0 _ (hm.sub rfl)))))

end Sys2Proof.Machine
end

