-- ==== Sys2Proof/Laws/KeptSwc.lean ====
section
/-! SUPPORT. Each function of Machine/Swc.lean keeps what `Kept` says. -/

set_option Elab.async false

namespace Sys2Proof.Machine

theorem pairEnable_kept {μ : Nat} {s₀ : State} {s : State} (hs : Kept μ s₀ s) (k : Nat)
    (hm : Within 0x48010000680100000060 μ) :
    Kept μ s₀ (pairEnable s k) := by
  unfold pairEnable
  exact (Kept.ite hs (Kept.ite (State_rowLocked_kept hs _ _ _ (hm.sub rfl)) (Kept.ite (State_setFlag_kept hs _ _ _ (hm.sub rfl)) (State_setFlt_kept (State_setFlag_kept hs _ _ _ (hm.sub rfl)) _ (hm.sub rfl) (hm.sub rfl)))))

theorem execPairEnable_kept {μ : Nat} {s₀ : State} {s : State} (hs : Kept μ s₀ s) (k : Nat)
    (hm : Within 0x48010000680100000060 μ) :
    KeptN μ s₀ (execPairEnable k s) := by
  unfold execPairEnable; exact (KeptN.next (Kept.live hs (fun _ hz0 => (pairEnable_kept hz0 _ (hm.sub rfl)))))

theorem State_setFdb_kept {μ : Nat} {s₀ : State} {s : State} (hs : Kept μ s₀ s) (i : Nat) (e : FdbEnt)
    (hm : Within 0x8000 μ) :
    Kept μ s₀ (State.setFdb s i e) := by
  unfold State.setFdb; exact (Kept.upd_8000 hs (hm.sub rfl))

theorem State_delFdb_kept {μ : Nat} {s₀ : State} {s : State} (hs : Kept μ s₀ s) (i : Nat)
    (hm : Within 0x8000 μ) :
    Kept μ s₀ (State.delFdb s i) := by
  unfold State.delFdb; exact (Kept.upd_8000 hs (hm.sub rfl))

theorem swcLearn_kept {μ : Nat} {s₀ : State} {s : State} (hs : Kept μ s₀ s) (p : Nat) (vid : Nat) (src : Nat)
    (hm : Within 0x68010000680100008060 μ) :
    Kept μ s₀ (swcLearn s p vid src) := by
  unfold swcLearn
  exact (Kept.ite hs (by (try dsimp only); split; (· exact (Kept.ite hs (State_setFdb_kept (Kept.ite hs (State_count_kept hs _ _ (hm.sub rfl))) _ _ (hm.sub rfl)))); (· exact (by (try dsimp only); split; (· exact (State_count_kept (State_setFdb_kept hs _ _ (hm.sub rfl)) _ _ (hm.sub rfl))); (· exact (State_setFlt_kept (Kept.ite (State_count_kept hs _ _ (hm.sub rfl)) (State_event_kept (State_count_kept hs _ _ (hm.sub rfl)) _ _ _ _ _ _ (hm.sub rfl))) _ (hm.sub rfl) (hm.sub rfl)))))))

theorem fdbAgeOut_kept {μ : Nat} {s₀ : State} {s : State} (hs : Kept μ s₀ s) (i : Nat)
    (hm : Within 0x20000000200000008000 μ) :
    Kept μ s₀ (fdbAgeOut s i) := by
  unfold fdbAgeOut
  (try dsimp only)
  split
  · exact (Kept.ite hs (State_count_kept (State_delFdb_kept hs _ (hm.sub rfl)) _ _ (hm.sub rfl)))
  · exact hs

theorem execFdbAgeOut_kept {μ : Nat} {s₀ : State} {s : State} (hs : Kept μ s₀ s) (i : Nat)
    (hm : Within 0x20000000200000008000 μ) :
    KeptN μ s₀ (execFdbAgeOut i s) := by
  unfold execFdbAgeOut; exact (KeptN.next (Kept.live hs (fun _ hz0 => (fdbAgeOut_kept hz0 _ (hm.sub rfl)))))

theorem flushFdbAll_kept {μ : Nat} {s₀ : State} {s : State} (hs : Kept μ s₀ s)
    (hm : Within 0x8000 μ) :
    Kept μ s₀ (flushFdbAll s) := by
  unfold flushFdbAll; exact (Kept.upd_8000 hs (hm.sub rfl))

theorem execFlushFdbAll_kept {μ : Nat} {s₀ : State} {s : State} (hs : Kept μ s₀ s)
    (hm : Within 0x8000 μ) :
    KeptN μ s₀ (execFlushFdbAll s) := by
  unfold execFlushFdbAll; exact (KeptN.next (Kept.live hs (fun _ hz0 => (flushFdbAll_kept hz0 (hm.sub rfl)))))

theorem flushFdbPort_kept {μ : Nat} {s₀ : State} {s : State} (hs : Kept μ s₀ s)
    (hm : Within 0x8000 μ) :
    Kept μ s₀ (flushFdbPort s) := by
  unfold flushFdbPort; exact (Kept.ite hs (Kept.upd_8000 hs (hm.sub rfl)))

theorem execFlushFdbPort_kept {μ : Nat} {s₀ : State} {s : State} (hs : Kept μ s₀ s)
    (hm : Within 0x8000 μ) :
    KeptN μ s₀ (execFlushFdbPort s) := by
  unfold execFlushFdbPort; exact (KeptN.next (Kept.live hs (fun _ hz0 => (flushFdbPort_kept hz0 (hm.sub rfl)))))

theorem State_setDd_kept {μ : Nat} {s₀ : State} {s : State} (hs : Kept μ s₀ s) (k : Nat) (l : List DdEnt)
    (hm : Within 0x8000 μ) :
    Kept μ s₀ (State.setDd s k l) := by
  unfold State.setDd; exact (Kept.upd_8000 hs (hm.sub rfl))

theorem ddPut_kept {μ : Nat} {s₀ : State} {s : State} (hs : Kept μ s₀ s) (k : Nat) (e : DdEnt)
    (hm : Within 0x60010000600100008040 μ) :
    Kept μ s₀ (ddPut s k e) := by
  unfold ddPut
  exact (Kept.ite (State_setDd_kept hs _ _ (hm.sub rfl)) (State_setFlt_kept (State_setFlag_kept (State_count_kept (State_setDd_kept hs _ _ (hm.sub rfl)) _ _ (hm.sub rfl)) _ _ _ (hm.sub rfl)) _ (hm.sub rfl) (hm.sub rfl)))

theorem ddEntryExpire_kept {μ : Nat} {s₀ : State} {s : State} (hs : Kept μ s₀ s) (k : Nat)
    (hm : Within 0x8000 μ) :
    Kept μ s₀ (ddEntryExpire s k) := by
  unfold ddEntryExpire; exact (Kept.ite hs (State_setDd_kept hs _ _ (hm.sub rfl)))

theorem execDdEntryExpire_kept {μ : Nat} {s₀ : State} {s : State} (hs : Kept μ s₀ s) (k : Nat)
    (hm : Within 0x8000 μ) :
    KeptN μ s₀ (execDdEntryExpire k s) := by
  unfold execDdEntryExpire; exact (KeptN.next (Kept.live hs (fun _ hz0 => (ddEntryExpire_kept hz0 _ (hm.sub rfl)))))

theorem admitCopy_kept {μ : Nat} {s₀ : State} {r : AdmCount × State} (hr : Kept μ s₀ r.2) (e : Nat) (x : SwCopy)
    (hm : Within 0x60010000600100008040 μ) :
    Kept μ s₀ (admitCopy r e x).2 := by
  unfold admitCopy; exact (queueCopy_kept hr _ _ (hm.sub rfl))

theorem admitPair_kept {μ : Nat} {s₀ : State} {r : AdmCount × State} (hr : Kept μ s₀ r.2) (a : AdmFrame) (v : VlanEnt) (mode : Nat) (seq : Nat) (e : Nat)
    (hm : Within 0x60010000600100008040 μ) :
    Kept μ s₀ (admitPair a v mode seq r e).2 := by
  unfold admitPair; exact (Kept.ite2 (State_count_kept hr _ _ (hm.sub rfl)) (admitCopy_kept hr _ _ (hm.sub rfl)))

theorem admitDest_kept {μ : Nat} {s₀ : State} {r : AdmCount × State} (hr : Kept μ s₀ r.2) (a : AdmFrame) (v : VlanEnt) (d : Nat)
    (hm : Within 0x60010000600100008040 μ) :
    Kept μ s₀ (admitDest a v r d).2 := by
  unfold admitDest
  exact (Kept.ite2 (admitCopy_kept hr _ _ (hm.sub rfl)) (Kept.ite2 (admitCopy_kept hr _ _ (hm.sub rfl)) (Kept.ite2 (admitPair_kept (admitPair_kept hr _ _ _ _ _ (hm.sub rfl)) _ _ _ _ _ (hm.sub rfl)) (Kept.ite (ddPut_kept (admitPair_kept (admitPair_kept hr _ _ _ _ _ (hm.sub rfl)) _ _ _ _ _ (hm.sub rfl)) _ _ (hm.sub rfl)) (State_count_kept (Kept.setFld (ddPut_kept (admitPair_kept (admitPair_kept hr _ _ _ _ _ (hm.sub rfl)) _ _ _ _ _ (hm.sub rfl)) _ _ (hm.sub rfl)) _ _ _ (hm.sub rfl)) _ _ (hm.sub rfl))))))

theorem admClose_kept {μ : Nat} {s₀ : State} {r : AdmCount × State} (hr : Kept μ s₀ r.2) (sp : Nat)
    (hm : Within 0x60010000600100000040 μ) :
    Kept μ s₀ (admClose sp r).2 := by
  unfold admClose
  exact (Kept.ite2 (State_count_kept hr _ _ (hm.sub rfl)) (Kept.ite2 (State_count_kept hr _ _ (hm.sub rfl)) (Kept.ite (State_count_kept hr _ _ (hm.sub rfl)) (State_setFlt_kept (State_count_kept (State_count_kept hr _ _ (hm.sub rfl)) _ _ (hm.sub rfl)) _ (hm.sub rfl) (hm.sub rfl)))))

theorem admitAll_kept {μ : Nat} {s₀ : State} {r : AdmCount × State} (hr : Kept μ s₀ r.2) (a : AdmFrame) (v : VlanEnt) (etype : Nat)
    (hm : Within 0x60010000600100008040 μ) :
    Kept μ s₀ (admitAll r a v etype).2 := by
  unfold admitAll; exact (Kept.foldl_pair hr (fun _ _ h => admitDest_kept h _ _ _ (hm.sub rfl)) _)

theorem swcAdmit_kept {μ : Nat} {s₀ : State} {s : State} (hs : Kept μ s₀ s) (sp : Nat) (f : Frame) (part : Nat) (cls : Nat) (pcp : Nat)
    (hm : Within 0x60010000600100008040 μ) :
    Kept μ s₀ (swcAdmit s sp f part cls pcp).2 := by
  unfold swcAdmit
  exact (Kept.ite2 hs (Kept.ite2 (State_setFlag_kept (State_count_kept (State_count_kept hs _ _ (hm.sub rfl)) _ _ (hm.sub rfl)) _ _ _ (hm.sub rfl)) (admClose_kept (admitAll_kept (State_count_kept hs _ _ (hm.sub rfl)) _ _ _ (hm.sub rfl)) _ (hm.sub rfl))))

theorem admitLater_kept {μ : Nat} {s₀ : State} {r : AdmCount × State} (hr : Kept μ s₀ r.2) (a : AdmFrame) (v : VlanEnt) (p : Nat)
    (hm : Within 0x60010000600100008040 μ) :
    Kept μ s₀ (admitLater r a v p).2 := by
  unfold admitLater
  exact (Kept.ite2 (admitDest_kept (State_count_kept hr _ _ (Within.iteC (hm.sub rfl) (hm.sub rfl))) _ _ _ (hm.sub rfl)) (State_count_kept hr _ _ (Within.iteC (hm.sub rfl) (hm.sub rfl))))

theorem closeLater_kept {μ : Nat} {s₀ : State} {r : AdmCount × State} (hr : Kept μ s₀ r.2) (sp : Nat)
    (hm : Within 0x60010000600100000040 μ) :
    Kept μ s₀ (closeLater sp r) := by
  unfold closeLater; exact (Kept.ite hr (admClose_kept hr _ (hm.sub rfl)))

theorem ringForward_kept {μ : Nat} {s₀ : State} {r : AdmCount × State} (hr : Kept μ s₀ r.2) (a : AdmFrame) (f : Frame) (p : Nat) (e : DdEnt)
    (hm : Within 0x60010000600100008040 μ) :
    Kept μ s₀ (ringForward r a f p e).2 := by
  unfold ringForward
  exact (Kept.ite2 hr (Kept.ite2 (State_count_kept hr _ _ (hm.sub rfl)) (Kept.ite (admitCopy_kept hr _ _ (hm.sub rfl)) (ddPut_kept (State_count_kept (admitCopy_kept hr _ _ (hm.sub rfl)) _ _ (hm.sub rfl)) _ _ (hm.sub rfl)))))

theorem prpFrame_kept {μ : Nat} {s₀ : State} {s : State} (hs : Kept μ s₀ s) (a : AdmFrame) (v : VlanEnt) (p : Nat) (t : PrpTrailer)
    (hm : Within 0x68010000680100008060 μ) :
    Kept μ s₀ (prpFrame s a v p t) := by
  unfold prpFrame
  (try dsimp only)
  split
  · exact (closeLater_kept (admitLater_kept (ddPut_kept hs _ _ (hm.sub rfl)) _ _ _ (hm.sub rfl)) _ (hm.sub rfl))
  · exact (admClose_kept (admitAll_kept (swcLearn_kept (ddPut_kept hs _ _ (hm.sub rfl)) _ _ _ (hm.sub rfl)) _ _ _ (hm.sub rfl)) _ (hm.sub rfl))

theorem hsrFrame_kept {μ : Nat} {s₀ : State} {s : State} (hs : Kept μ s₀ s) (a : AdmFrame) (v : VlanEnt) (p : Nat) (t : HsrTag)
    (hm : Within 0x68010000680100008060 μ) :
    Kept μ s₀ (hsrFrame s a v p t) := by
  unfold hsrFrame
  (try dsimp only)
  split
  · exact (Kept.ite (State_count_kept (ddPut_kept hs _ _ (hm.sub rfl)) _ _ (hm.sub rfl)) (closeLater_kept (ringForward_kept (admitLater_kept (ddPut_kept hs _ _ (hm.sub rfl)) _ _ _ (hm.sub rfl)) _ _ _ _ (hm.sub rfl)) _ (hm.sub rfl)))
  · exact (admClose_kept (ringForward_kept (admitAll_kept (swcLearn_kept (ddPut_kept hs _ _ (hm.sub rfl)) _ _ _ (hm.sub rfl)) _ _ _ (hm.sub rfl)) _ _ _ _ (hm.sub rfl)) _ (hm.sub rfl))

theorem physFrame_kept {μ : Nat} {s₀ : State} {s : State} (hs : Kept μ s₀ s) (a : AdmFrame) (v : VlanEnt) (p : Nat)
    (hm : Within 0x68010000680100008060 μ) :
    Kept μ s₀ (physFrame s a v p) := by
  unfold physFrame
  exact (Kept.ite (by (try dsimp only); split; (· exact (Kept.ite (prpFrame_kept hs _ _ _ _ (hm.sub rfl)) (admClose_kept (admitAll_kept (swcLearn_kept (State_setFlag_kept (State_count_kept hs _ _ (hm.sub rfl)) _ _ _ (hm.sub rfl)) _ _ _ (hm.sub rfl)) _ _ _ (hm.sub rfl)) _ (hm.sub rfl)))); (· exact (admClose_kept (admitAll_kept (swcLearn_kept hs _ _ _ (hm.sub rfl)) _ _ _ (hm.sub rfl)) _ (hm.sub rfl)))) (Kept.ite (by (try dsimp only); split; (· exact (hsrFrame_kept hs _ _ _ _ (hm.sub rfl))); (· exact (State_setFlag_kept (State_count_kept hs _ _ (hm.sub rfl)) _ _ _ (hm.sub rfl)))) (admClose_kept (admitAll_kept (swcLearn_kept hs _ _ _ (hm.sub rfl)) _ _ _ (hm.sub rfl)) _ (hm.sub rfl))))

theorem physAdmit_kept {μ : Nat} {s₀ : State} {s : State} (hs : Kept μ s₀ s) (p : Nat) (x : InFrame)
    (hm : Within 0x68010000680100008060 μ) :
    Kept μ s₀ (physAdmit s p x) := by
  unfold physAdmit
  exact (Kept.ite (State_count_kept hs _ _ (hm.sub rfl)) (Kept.ite (admClose_kept (admitDest_kept (State_count_kept hs _ _ (hm.sub rfl)) _ _ _ (hm.sub rfl)) _ (hm.sub rfl)) (Kept.ite (State_setFlag_kept (State_count_kept (State_count_kept hs _ _ (hm.sub rfl)) _ _ (hm.sub rfl)) _ _ _ (hm.sub rfl)) (physFrame_kept (State_count_kept hs _ _ (hm.sub rfl)) _ _ _ (hm.sub rfl)))))

theorem swcFrameAdmit_kept {μ : Nat} {s₀ : State} {s : State} (hs : Kept μ s₀ s) (sp : Nat)
    (hm : Within 0x68010000680100008060 μ) :
    Kept μ s₀ (swcFrameAdmit s sp) := by
  unfold swcFrameAdmit; (try dsimp only); split; (· exact hs); (· exact (physAdmit_kept (Kept.upd_8000 hs (hm.sub rfl)) _ _ (hm.sub rfl)))

theorem execSwcFrameAdmit_kept {μ : Nat} {s₀ : State} {s : State} (hs : Kept μ s₀ s) (sp : Nat)
    (hm : Within 0x68010000680100008060 μ) :
    KeptN μ s₀ (execSwcFrameAdmit sp s) := by
  unfold execSwcFrameAdmit; exact (KeptN.next (Kept.live hs (fun _ hz0 => (swcFrameAdmit_kept hz0 _ (hm.sub rfl)))))

theorem handCopy_kept {μ : Nat} {s₀ : State} {s : State} (hs : Kept μ s₀ s) (e : Nat) (x : SwCopy)
    (hm : Within 0x1a800 μ) :
    Kept μ s₀ (handCopy s e x) := by
  unfold handCopy
  exact (Kept.ite (State_setPortCh_kept hs _ _ (hm.sub rfl)) (Kept.ite (Kept.upd_800 hs (hm.sub rfl)) (Kept.ite (Kept.upd_2000 hs (hm.sub rfl)) (Kept.ite hs (Kept.upd_8000 hs (hm.sub rfl))))))

theorem cellUe_kept {μ : Nat} {s₀ : State} {s : State} (hs : Kept μ s₀ s) (e : Nat) (cls : Nat)
    (hm : Within 0x68010000680100000060 μ) :
    Kept μ s₀ (cellUe s e cls) := by
  unfold cellUe
  exact (State_event_kept (State_setFlt_kept (State_count_kept hs _ _ (hm.sub rfl)) _ (hm.sub rfl) (hm.sub rfl)) _ _ _ _ _ _ (hm.sub rfl))

theorem macCellUe_kept {μ : Nat} {s₀ : State} {s : State} (hs : Kept μ s₀ s) (e : Nat)
    (hm : Within 0x68010000680100010060 μ) :
    Kept μ s₀ (macCellUe s e) := by
  unfold macCellUe
  (try dsimp only)
  split
  · exact (Kept.ite (cellUe_kept (txCut_kept hs _ _ (hm.sub rfl)) _ _ (hm.sub rfl)) hs)
  · exact (cellUe_kept (State_setPortCh_kept hs _ _ (hm.sub rfl)) _ _ (hm.sub rfl))
  · exact hs

theorem swcTxCopy_kept {μ : Nat} {s₀ : State} {s : State} (hs : Kept μ s₀ s) (e : Nat) (ecc : Nat)
    (hm : Within 0x6801000068010001a860 μ) :
    Kept μ s₀ (swcTxCopy s e ecc) := by
  unfold swcTxCopy
  exact (Kept.ite hs (Kept.ite (macCellUe_kept hs _ (hm.sub rfl)) (Kept.ite hs (by (try dsimp only); split; (· exact hs); (· exact (Kept.ite (cellUe_kept (Kept.of_somePair ‹_› (takeCopy_kept hs _ (hm.sub rfl))) _ _ (hm.sub rfl)) (handCopy_kept (Kept.ite (State_setFlt_kept (State_count_kept (Kept.of_somePair ‹_› (takeCopy_kept hs _ (hm.sub rfl))) _ _ (hm.sub rfl)) _ (hm.sub rfl) (hm.sub rfl)) (Kept.of_somePair ‹_› (takeCopy_kept hs _ (hm.sub rfl)))) _ _ (hm.sub rfl))))))))

theorem execSwcTxCopy_kept {μ : Nat} {s₀ : State} {s : State} (hs : Kept μ s₀ s) (e : Nat) (ecc : Nat)
    (hm : Within 0x6801000068010001a860 μ) :
    KeptN μ s₀ (execSwcTxCopy e ecc s) := by
  unfold execSwcTxCopy; exact (KeptN.next (Kept.live hs (fun _ hz0 => (swcTxCopy_kept hz0 _ _ (hm.sub rfl)))))

theorem swcEnable_kept {μ : Nat} {s₀ : State} {s : State} (hs : Kept μ s₀ s)
    (hm : Within 0x40010000600100000040 μ) :
    Kept μ s₀ (swcEnable s) := by
  unfold swcEnable; exact (Kept.ite hs (Kept.ite (State_setFlt_kept hs _ (hm.sub rfl) (hm.sub rfl)) (State_setFlag_kept hs _ _ _ (hm.sub rfl))))

theorem swcEnableRow_kept {μ : Nat} {s₀ : State} {s : State} (hs : Kept μ s₀ s)
    (hm : Within 0x48010000680100000060 μ) :
    Kept μ s₀ (swcEnableRow s) := by
  unfold swcEnableRow; exact (Kept.ite (State_rowLocked_kept hs _ _ _ (hm.sub rfl)) (swcEnable_kept hs (hm.sub rfl)))

theorem execSwcEnable_kept {μ : Nat} {s₀ : State} {s : State} (hs : Kept μ s₀ s)
    (hm : Within 0x48010000680100000060 μ) :
    KeptN μ s₀ (execSwcEnable s) := by
  unfold execSwcEnable; exact (KeptN.next (Kept.live hs (fun _ hz0 => (swcEnableRow_kept hz0 (hm.sub rfl)))))

theorem ringEnable_kept {μ : Nat} {s₀ : State} {s : State} (hs : Kept μ s₀ s) (p : Nat) (rx : Bool) (tx : Bool)
    (hm : Within 0x40010000600100000040 μ) :
    Kept μ s₀ (ringEnable s p rx tx) := by
  unfold ringEnable
  exact (Kept.ite hs (Kept.ite (State_setFlt_kept (Kept.ite (State_setFlt_kept hs _ (hm.sub rfl) (hm.sub rfl)) (State_setFlag_kept hs _ _ _ (hm.sub rfl))) _ (hm.sub rfl) (hm.sub rfl)) (State_setFlag_kept (Kept.ite (State_setFlt_kept hs _ (hm.sub rfl) (hm.sub rfl)) (State_setFlag_kept hs _ _ _ (hm.sub rfl))) _ _ _ (hm.sub rfl))))

theorem execRingEnable_kept {μ : Nat} {s₀ : State} {s : State} (hs : Kept μ s₀ s) (p : Nat) (rx : Bool) (tx : Bool)
    (hm : Within 0x40010000600100000040 μ) :
    KeptN μ s₀ (execRingEnable p rx tx s) := by
  unfold execRingEnable; exact (KeptN.next (Kept.live hs (fun _ hz0 => (ringEnable_kept hz0 _ _ _ (hm.sub rfl)))))

theorem cpuTxTailWrite_kept {μ : Nat} {s₀ : State} {s : State} (hs : Kept μ s₀ s) (p : Nat) (v : Nat)
    (hm : Within 0x200000000000 μ) :
    Kept μ s₀ (cpuTxTailWrite s p v) := by
  unfold cpuTxTailWrite; exact (Kept.ite hs (Kept.setFld hs _ _ _ (hm.sub rfl)))

theorem execCpuTxTailWrite_kept {μ : Nat} {s₀ : State} {s : State} (hs : Kept μ s₀ s) (p : Nat) (v : Nat)
    (hm : Within 0x200000000000 μ) :
    KeptN μ s₀ (execCpuTxTailWrite p v s) := by
  unfold execCpuTxTailWrite; exact (KeptN.next (Kept.live hs (fun _ hz0 => (cpuTxTailWrite_kept hz0 _ _ (hm.sub rfl)))))

theorem swcMbx_kept {μ : Nat} {s₀ : State} {s : State} (hs : Kept μ s₀ s) (write : Bool) (f : State → State) (kf : ∀ t , Kept μ s₀ t → Kept μ s₀ (f t ))
    (hm : Within 0x200000000000 μ) :
    Kept μ s₀ (swcMbx s write f) := by
  unfold swcMbx; exact (Kept.ite (State_mbxRefuseBusy_kept hs _ (hm.sub rfl)) (Kept.ite (State_mbxRefuse_kept hs _ (hm.sub rfl)) (kf _ hs)))

theorem vlanRd_kept {μ : Nat} {s₀ : State} {s : State} (hs : Kept μ s₀ s)
    (hm : Within 0x200000000004 μ) :
    Kept μ s₀ (vlanRd s) := by
  unfold vlanRd; exact (swcMbx_kept hs _ _ (fun _ hz0 => (State_mbxStart_kept hz0 _ _ (hm.sub rfl) (hm.sub rfl))) (hm.sub rfl))

theorem execVlanRd_kept {μ : Nat} {s₀ : State} {s : State} (hs : Kept μ s₀ s)
    (hm : Within 0x200000000004 μ) :
    KeptN μ s₀ (execVlanRd s) := by
  unfold execVlanRd; exact (KeptN.next (Kept.live hs (fun _ hz0 => (vlanRd_kept hz0 (hm.sub rfl)))))

theorem vlanWr_kept {μ : Nat} {s₀ : State} {s : State} (hs : Kept μ s₀ s)
    (hm : Within 0x200000008004 μ) :
    Kept μ s₀ (vlanWr s) := by
  unfold vlanWr
  exact (swcMbx_kept hs _ _ (fun _ hz0 => (State_mbxStart_kept (Kept.upd_8000 hz0 (hm.sub rfl)) _ _ (hm.sub rfl) (hm.sub rfl))) (hm.sub rfl))

theorem execVlanWr_kept {μ : Nat} {s₀ : State} {s : State} (hs : Kept μ s₀ s)
    (hm : Within 0x200000008004 μ) :
    KeptN μ s₀ (execVlanWr s) := by
  unfold execVlanWr; exact (KeptN.next (Kept.live hs (fun _ hz0 => (vlanWr_kept hz0 (hm.sub rfl)))))

theorem fdbRd_kept {μ : Nat} {s₀ : State} {s : State} (hs : Kept μ s₀ s)
    (hm : Within 0x200000000004 μ) :
    Kept μ s₀ (fdbRd s) := by
  unfold fdbRd
  exact (swcMbx_kept hs _ _ (fun _ hz0 => (by (try dsimp only); split; (· exact (State_mbxStart_kept hz0 _ _ (hm.sub rfl) (hm.sub rfl))); (· exact (State_mbxRefuse_kept hz0 _ (hm.sub rfl))))) (hm.sub rfl))

theorem execFdbRd_kept {μ : Nat} {s₀ : State} {s : State} (hs : Kept μ s₀ s)
    (hm : Within 0x200000000004 μ) :
    KeptN μ s₀ (execFdbRd s) := by
  unfold execFdbRd; exact (KeptN.next (Kept.live hs (fun _ hz0 => (fdbRd_kept hz0 (hm.sub rfl)))))

theorem fdbWr_kept {μ : Nat} {s₀ : State} {s : State} (hs : Kept μ s₀ s)
    (hm : Within 0x200000008004 μ) :
    Kept μ s₀ (fdbWr s) := by
  unfold fdbWr
  exact (swcMbx_kept hs _ _ (fun _ hz0 => (by (try dsimp only); split; (· exact (State_mbxStart_kept (State_setFdb_kept hz0 _ _ (hm.sub rfl)) _ _ (hm.sub rfl) (hm.sub rfl))); (· exact (State_mbxRefuse_kept hz0 _ (hm.sub rfl))))) (hm.sub rfl))

theorem execFdbWr_kept {μ : Nat} {s₀ : State} {s : State} (hs : Kept μ s₀ s)
    (hm : Within 0x200000008004 μ) :
    KeptN μ s₀ (execFdbWr s) := by
  unfold execFdbWr; exact (KeptN.next (Kept.live hs (fun _ hz0 => (fdbWr_kept hz0 (hm.sub rfl)))))

theorem fdbDel_kept {μ : Nat} {s₀ : State} {s : State} (hs : Kept μ s₀ s)
    (hm : Within 0x200000008004 μ) :
    Kept μ s₀ (fdbDel s) := by
  unfold fdbDel
  exact (swcMbx_kept hs _ _ (fun _ hz0 => (by (try dsimp only); split; (· exact (State_mbxStart_kept (State_delFdb_kept hz0 _ (hm.sub rfl)) _ _ (hm.sub rfl) (hm.sub rfl))); (· exact (State_mbxRefuse_kept hz0 _ (hm.sub rfl))))) (hm.sub rfl))

theorem execFdbDel_kept {μ : Nat} {s₀ : State} {s : State} (hs : Kept μ s₀ s)
    (hm : Within 0x200000008004 μ) :
    KeptN μ s₀ (execFdbDel s) := by
  unfold execFdbDel; exact (KeptN.next (Kept.live hs (fun _ hz0 => (fdbDel_kept hz0 (hm.sub rfl)))))

theorem mcRd_kept {μ : Nat} {s₀ : State} {s : State} (hs : Kept μ s₀ s)
    (hm : Within 0x200000000004 μ) :
    Kept μ s₀ (mcRd s) := by
  unfold mcRd
  exact (swcMbx_kept hs _ _ (fun _ hz0 => (by (try dsimp only); split; (· exact (State_mbxStart_kept hz0 _ _ (hm.sub rfl) (hm.sub rfl))); (· exact (State_mbxStart_kept hz0 _ _ (hm.sub rfl) (hm.sub rfl))))) (hm.sub rfl))

theorem execMcRd_kept {μ : Nat} {s₀ : State} {s : State} (hs : Kept μ s₀ s)
    (hm : Within 0x200000000004 μ) :
    KeptN μ s₀ (execMcRd s) := by
  unfold execMcRd; exact (KeptN.next (Kept.live hs (fun _ hz0 => (mcRd_kept hz0 (hm.sub rfl)))))

theorem mcWr_kept {μ : Nat} {s₀ : State} {s : State} (hs : Kept μ s₀ s)
    (hm : Within 0x200000008004 μ) :
    Kept μ s₀ (mcWr s) := by
  unfold mcWr
  exact (swcMbx_kept hs _ _ (fun _ hz0 => (State_mbxStart_kept (Kept.upd_8000 hz0 (hm.sub rfl)) _ _ (hm.sub rfl) (hm.sub rfl))) (hm.sub rfl))

theorem execMcWr_kept {μ : Nat} {s₀ : State} {s : State} (hs : Kept μ s₀ s)
    (hm : Within 0x200000008004 μ) :
    KeptN μ s₀ (execMcWr s) := by
  unfold execMcWr; exact (KeptN.next (Kept.live hs (fun _ hz0 => (mcWr_kept hz0 (hm.sub rfl)))))

theorem fdbRdIndex_kept {μ : Nat} {s₀ : State} {s : State} (hs : Kept μ s₀ s)
    (hm : Within 0x200000000004 μ) :
    Kept μ s₀ (fdbRdIndex s) := by
  unfold fdbRdIndex
  exact (swcMbx_kept hs _ _ (fun _ hz0 => (by (try dsimp only); split; (· exact (State_mbxStart_kept hz0 _ _ (hm.sub rfl) (hm.sub rfl))); (· exact (State_mbxStart_kept hz0 _ _ (hm.sub rfl) (hm.sub rfl))))) (hm.sub rfl))

theorem execFdbRdIndex_kept {μ : Nat} {s₀ : State} {s : State} (hs : Kept μ s₀ s)
    (hm : Within 0x200000000004 μ) :
    KeptN μ s₀ (execFdbRdIndex s) := by
  unfold execFdbRdIndex; exact (KeptN.next (Kept.live hs (fun _ hz0 => (fdbRdIndex_kept hz0 (hm.sub rfl)))))

end Sys2Proof.Machine
end

