-- ==== Sys2Proof/Laws/KeptGoose.lean ====
section
/-! SUPPORT. Each function of Machine/Goose.lean keeps what `Kept` says. -/

set_option Elab.async false

namespace Sys2Proof.Machine

theorem State_setGblk_kept {μ : Nat} {s₀ : State} {s : State} (hs : Kept μ s₀ s) (b : Nat) (v : GBlk)
    (hm : Within 0x2000 μ) :
    Kept μ s₀ (State.setGblk s b v) := by
  unfold State.setGblk; exact (Kept.upd_2000 hs (hm.sub rfl))

theorem gbFlt_kept {μ : Nat} {s₀ : State} {s : State} (hs : Kept μ s₀ s) (b : Nat) (f : Fld) (dev : Fld)
    (hb1 : Within (blkBits dev.blk) μ)
    (hb2 : Within (blkBits f.blk) μ)
    (hm : Within 0x40010000400100000040 μ) :
    Kept μ s₀ (gbFlt s b f dev) := by
  unfold gbFlt; exact (State_setFlt_kept (State_setFlag_kept hs _ _ _ (by exact hb2)) _ (by exact hb1) (hm.sub rfl))

theorem gooseBlockEnable_kept {μ : Nat} {s₀ : State} {s : State} (hs : Kept μ s₀ s) (b : Nat)
    (hm : Within 0x40010000408100006040 μ) :
    Kept μ s₀ (gooseBlockEnable s b) := by
  unfold gooseBlockEnable
  exact (Kept.ite hs (Kept.ite (gbFlt_kept hs _ _ _ (hm.sub rfl) (hm.sub rfl) (hm.sub rfl)) (Kept.setFld (Kept.setFld (Kept.upd_4000 (State_setGblk_kept (State_setFlag_kept hs _ _ _ (hm.sub rfl)) _ _ (hm.sub rfl)) (hm.sub rfl)) _ _ _ (hm.sub rfl)) _ _ _ (hm.sub rfl))))

theorem execGooseBlockEnable_kept {μ : Nat} {s₀ : State} {s : State} (hs : Kept μ s₀ s) (b : Nat)
    (hm : Within 0x40010000408100006040 μ) :
    KeptN μ s₀ (execGooseBlockEnable b s) := by
  unfold execGooseBlockEnable; exact (KeptN.next (Kept.live hs (fun _ hz0 => (gooseBlockEnable_kept hz0 _ (hm.sub rfl)))))

theorem gooseBlockDisable_kept {μ : Nat} {s₀ : State} {s : State} (hs : Kept μ s₀ s) (b : Nat)
    (hm : Within 0x8000002000 μ) :
    Kept μ s₀ (gooseBlockDisable s b) := by
  unfold gooseBlockDisable; exact (Kept.ite hs (State_setFlag_kept (Kept.upd_2000 hs (hm.sub rfl)) _ _ _ (hm.sub rfl)))

theorem execGooseBlockDisable_kept {μ : Nat} {s₀ : State} {s : State} (hs : Kept μ s₀ s) (b : Nat)
    (hm : Within 0x8000002000 μ) :
    KeptN μ s₀ (execGooseBlockDisable b s) := by
  unfold execGooseBlockDisable; exact (KeptN.next (Kept.live hs (fun _ hz0 => (gooseBlockDisable_kept hz0 _ (hm.sub rfl)))))

theorem gbSign_kept {μ : Nat} {s₀ : State} {s : State} (hs : Kept μ s₀ s) (b : Nat) (p : GoosePdu)
    (hm : Within 0x1000000 μ) :
    Kept μ s₀ (gbSign s b p).2 := by
  unfold gbSign; exact (Kept.ite2 (State_takeFree_kept hs (hm.sub rfl)) hs)

theorem gbSend_kept {μ : Nat} {s₀ : State} {s : State} (hs : Kept μ s₀ s) (b : Nat) (v : GBlk)
    (hm : Within 0x60810000608101008040 μ) :
    Kept μ s₀ (gbSend s b v).2 := by
  unfold gbSend
  exact (Kept.ite2 hs (Kept.ite2 (gbFlt_kept (State_count_kept hs _ _ (hm.sub rfl)) _ _ _ (hm.sub rfl) (hm.sub rfl) (hm.sub rfl)) (by (try dsimp only); split; (· exact (gbFlt_kept (State_count_kept (Kept.of_pair ‹_› (swcAdmit_kept (Kept.ite2 (gbSign_kept hs _ _ (hm.sub rfl)) hs) _ _ _ _ _ (hm.sub rfl))) _ _ (hm.sub rfl)) _ _ _ (hm.sub rfl) (hm.sub rfl) (hm.sub rfl))); (· exact (State_count_kept (State_count_kept (Kept.of_pair ‹_› (swcAdmit_kept (Kept.ite2 (gbSign_kept hs _ _ (hm.sub rfl)) hs) _ _ _ _ _ (hm.sub rfl))) _ _ (hm.sub rfl)) _ _ (hm.sub rfl))))))

theorem gooseGseq_kept {μ : Nat} {s₀ : State} {s : State} (hs : Kept μ s₀ s) (bs : List Nat)
    (hm : Within 0x4000 μ) :
    Kept μ s₀ (gooseGseq s bs) := by
  unfold gooseGseq; exact (Kept.ite hs (sendRally_kept hs _ _ (hm.sub rfl)))

theorem gbDue_kept {μ : Nat} {s₀ : State} {s : State} (hs : Kept μ s₀ s) (b : Nat) (g : Option Nat)
    (hm : Within 0x2000 μ) :
    Kept μ s₀ (gbDue s b g) := by
  unfold gbDue; exact (Kept.upd_2000 hs (hm.sub rfl))

theorem gbTurn_kept {μ : Nat} {s₀ : State} {acc : List Nat × State} (hacc : Kept μ s₀ acc.2) (b : Nat)
    (hm : Within 0x6081000060810100a040 μ) :
    Kept μ s₀ (gbTurn acc b).2 := by
  unfold gbTurn; (try dsimp only); split; (· exact (State_setGblk_kept (gbSend_kept hacc _ _ (hm.sub rfl)) _ _ (hm.sub rfl))); (· exact hacc)

theorem gooseEdge_kept {μ : Nat} {s₀ : State} {s : State} (hs : Kept μ s₀ s)
    (hm : Within 0x6081000060810100e040 μ) :
    Kept μ s₀ (gooseEdge s) := by
  unfold gooseEdge
  exact (Kept.ite hs (gooseGseq_kept (Kept.foldl_pair (Kept.upd_2000 hs (hm.sub rfl)) (fun _ _ h => gbTurn_kept h _ (hm.sub rfl)) _) _ (hm.sub rfl)))

theorem gbFollow_kept {μ : Nat} {s₀ : State} {s : State} (hs : Kept μ s₀ s) (b : Nat)
    (hm : Within 0x8000000000 μ) :
    Kept μ s₀ (gbFollow s b) := by
  unfold gbFollow; (try dsimp only); split; (· exact (Kept.ite (Kept.setFld (Kept.setFld hs _ _ _ (hm.sub rfl)) _ _ _ (hm.sub rfl)) hs)); (· exact hs)

theorem gbNewState_kept {μ : Nat} {s₀ : State} {s : State} (hs : Kept μ s₀ s) (b : Nat) (data : List GEntry) (t : Nat × Nat × Nat) (st : Option Nat) (g : Option Nat)
    (hm : Within 0x800000008000002000 μ) :
    Kept μ s₀ (gbNewState s b data t st g) := by
  unfold gbNewState
  exact (Kept.ite (State_count_kept (State_setGblk_kept hs _ _ (hm.sub rfl)) _ _ (hm.sub rfl)) (Kept.setFld (Kept.setFld (gbDue_kept (State_count_kept (State_setGblk_kept hs _ _ (hm.sub rfl)) _ _ (hm.sub rfl)) _ _ (hm.sub rfl)) _ _ _ (hm.sub rfl)) _ _ _ (hm.sub rfl)))

theorem gbRetransmit_kept {μ : Nat} {s₀ : State} {s : State} (hs : Kept μ s₀ s) (b : Nat)
    (hm : Within 0x8000002000 μ) :
    Kept μ s₀ (gbRetransmit s b) := by
  unfold gbRetransmit
  (try dsimp only)
  split
  · exact (gbDue_kept (Kept.setFld (State_setGblk_kept hs _ _ (hm.sub rfl)) _ _ _ (hm.sub rfl)) _ _ (hm.sub rfl))
  · exact hs

theorem gooseRetransmit_kept {μ : Nat} {s₀ : State} {s : State} (hs : Kept μ s₀ s) (b : Nat)
    (hm : Within 0x8000002000 μ) :
    Kept μ s₀ (gooseRetransmit s b) := by
  unfold gooseRetransmit
  (try dsimp only)
  split
  · exact hs
  · exact (Kept.ite hs (Kept.foldl hs (fun _ _ h => gbRetransmit_kept h _ (hm.sub rfl)) _))

theorem execGooseRetransmit_kept {μ : Nat} {s₀ : State} {s : State} (hs : Kept μ s₀ s) (b : Nat)
    (hm : Within 0x8000002000 μ) :
    KeptN μ s₀ (execGooseRetransmit b s) := by
  unfold execGooseRetransmit; exact (KeptN.next (Kept.live hs (fun _ hz0 => (gooseRetransmit_kept hz0 _ (hm.sub rfl)))))

theorem gbEvaluate_kept {μ : Nat} {s₀ : State} {s : State} (hs : Kept μ s₀ s) (b : Nat) (g : Nat) (c : RallyPend) (r : OwnRec)
    (hm : Within 0x800000008000002000 μ) :
    Kept μ s₀ (gbEvaluate s b g c r) := by
  unfold gbEvaluate
  (try dsimp only)
  split
  · exact (gbFollow_kept hs _ (hm.sub rfl))
  · exact (Kept.ite (gbFollow_kept hs _ (hm.sub rfl)) (gbNewState_kept (gbFollow_kept hs _ (hm.sub rfl)) _ _ _ _ _ (hm.sub rfl)))

theorem gooseEvaluate_kept {μ : Nat} {s₀ : State} {s : State} (hs : Kept μ s₀ s) (g : Nat) (c : RallyPend) (shared : Bool)
    (hm : Within 0x800000008000002000 μ) :
    Kept μ s₀ (gooseEvaluate s g c shared) := by
  unfold gooseEvaluate
  exact (Kept.foldl hs (fun _ _ hz0 => (by (try dsimp only); split; (· exact (gbEvaluate_kept hz0 _ _ _ _ (hm.sub rfl))); (· exact hz0))) _)

theorem gbTakeover_kept {μ : Nat} {s₀ : State} {s : State} (hs : Kept μ s₀ s) (b : Nat)
    (hm : Within 0x800000008000002000 μ) :
    Kept μ s₀ (gbTakeover s b) := by
  unfold gbTakeover; (try dsimp only); split; (· exact (State_count_kept (gbNewState_kept hs _ _ _ _ _ (hm.sub rfl)) _ _ (hm.sub rfl))); (· exact hs)

theorem gooseTakeover_kept {μ : Nat} {s₀ : State} {s : State} (hs : Kept μ s₀ s)
    (hm : Within 0x48810000488100002060 μ) :
    Kept μ s₀ (gooseTakeover s) := by
  unfold gooseTakeover
  (try dsimp only)
  split
  · exact hs
  · exact (State_event_kept (Kept.foldl (State_setFlt_kept hs _ (hm.sub rfl) (hm.sub rfl)) (fun _ _ h => gbTakeover_kept h _ (hm.sub rfl)) _) _ _ _ _ _ _ (hm.sub rfl))

theorem gooseFollow_kept {μ : Nat} {s₀ : State} {s : State} (hs : Kept μ s₀ s)
    (hm : Within 0x2000 μ) :
    Kept μ s₀ (gooseFollow s) := by
  unfold gooseFollow
  exact (Kept.foldl hs (fun _ _ hz0 => (by (try dsimp only); split; (· exact (State_setGblk_kept hz0 _ _ (hm.sub rfl))); (· exact hz0))) _)

theorem gooseGseqRx_kept {μ : Nat} {s₀ : State} {s : State} (hs : Kept μ s₀ s) (b : Nat) (st : Nat) (sq : Nat)
    (hm : Within 0x8000004000 μ) :
    Kept μ s₀ (gooseGseqRx s b st sq) := by
  unfold gooseGseqRx; exact (Kept.ite hs (gbFollow_kept (Kept.upd_4000 hs (hm.sub rfl)) _ (hm.sub rfl)))

theorem republish_kept {μ : Nat} {s₀ : State} {s : State} (hs : Kept μ s₀ s)
    (hm : Within 0x2000 μ) :
    Kept μ s₀ (republish s) := by
  unfold republish; exact (Kept.ite hs (by (try dsimp only); split; (· exact (Kept.ite hs (State_setGblk_kept hs _ _ (hm.sub rfl)))); (· exact hs)))

theorem execRepublish_kept {μ : Nat} {s₀ : State} {s : State} (hs : Kept μ s₀ s)
    (hm : Within 0x2000 μ) :
    KeptN μ s₀ (execRepublish s) := by
  unfold execRepublish; exact (KeptN.next (Kept.live hs (fun _ hz0 => (republish_kept hz0 (hm.sub rfl)))))

theorem gbRepublish_kept {μ : Nat} {s₀ : State} {s : State} (hs : Kept μ s₀ s) (b : Nat)
    (hm : Within 0x800000008000002000 μ) :
    Kept μ s₀ (gbRepublish s b) := by
  unfold gbRepublish
  (try dsimp only)
  split
  · exact (Kept.ite hs (Kept.ite (State_setGblk_kept hs _ _ (hm.sub rfl)) (gbNewState_kept hs _ _ _ _ _ (hm.sub rfl))))
  · exact hs

theorem gooseBegin_kept {μ : Nat} {s₀ : State} {s : State} (hs : Kept μ s₀ s)
    (hm : Within 0x800000008000002000 μ) :
    Kept μ s₀ (gooseBegin s) := by
  unfold gooseBegin; exact (Kept.foldl hs (fun _ _ h => gbRepublish_kept h _ (hm.sub rfl)) _)

theorem State_setGsub_kept {μ : Nat} {s₀ : State} {s : State} (hs : Kept μ s₀ s) (i : Nat) (v : GSub)
    (hm : Within 0x2000 μ) :
    Kept μ s₀ (State.setGsub s i v) := by
  unfold State.setGsub; exact (Kept.upd_2000 hs (hm.sub rfl))

theorem gsFlt_kept {μ : Nat} {s₀ : State} {s : State} (hs : Kept μ s₀ s) (i : Nat) (f : Fld) (dev : Fld)
    (hb1 : Within (blkBits dev.blk) μ)
    (hb2 : Within (blkBits f.blk) μ)
    (hm : Within 0x40010000400100000040 μ) :
    Kept μ s₀ (gsFlt s i f dev) := by
  unfold gsFlt; exact (State_setFlt_kept (State_setFlag_kept hs _ _ _ (by exact hb2)) _ (by exact hb1) (hm.sub rfl))

theorem gsKeep_kept {μ : Nat} {s₀ : State} {s : State} (hs : Kept μ s₀ s) (i : Nat)
    (hm : Within 0x2000 μ) :
    Kept μ s₀ (gsKeep s i) := by
  unfold gsKeep; (try dsimp only); split; (· exact (Kept.ite hs (State_setGsub_kept hs _ _ (hm.sub rfl)))); (· exact hs)

theorem gsEnter_kept {μ : Nat} {s₀ : State} {s : State} (hs : Kept μ s₀ s) (i : Nat) (new : Nat)
    (hm : Within 0x8000000088000000020 μ) :
    Kept μ s₀ (gsEnter s i new) := by
  unfold gsEnter
  exact (Kept.ite hs (Kept.ite (State_event_kept (Kept.setFld hs _ _ _ (hm.sub rfl)) _ _ _ _ _ _ (hm.sub rfl)) (Kept.setFld hs _ _ _ (hm.sub rfl))))

theorem gooseSubEnable_kept {μ : Nat} {s₀ : State} {s : State} (hs : Kept μ s₀ s) (i : Nat)
    (hm : Within 0x48010000488100002060 μ) :
    Kept μ s₀ (gooseSubEnable s i) := by
  unfold gooseSubEnable
  exact (Kept.ite hs (Kept.ite (gsFlt_kept hs _ _ _ (hm.sub rfl) (hm.sub rfl) (hm.sub rfl)) (gsEnter_kept (State_setGsub_kept (State_setFlag_kept hs _ _ _ (hm.sub rfl)) _ _ (hm.sub rfl)) _ _ (hm.sub rfl))))

theorem execGooseSubEnable_kept {μ : Nat} {s₀ : State} {s : State} (hs : Kept μ s₀ s) (i : Nat)
    (hm : Within 0x48010000488100002060 μ) :
    KeptN μ s₀ (execGooseSubEnable i s) := by
  unfold execGooseSubEnable; exact (KeptN.next (Kept.live hs (fun _ hz0 => (gooseSubEnable_kept hz0 _ (hm.sub rfl)))))

theorem gooseSubDisable_kept {μ : Nat} {s₀ : State} {s : State} (hs : Kept μ s₀ s) (i : Nat)
    (hm : Within 0x8000000088000002020 μ) :
    Kept μ s₀ (gooseSubDisable s i) := by
  unfold gooseSubDisable; exact (Kept.ite hs (Kept.upd_2000 (gsEnter_kept (State_setFlag_kept hs _ _ _ (hm.sub rfl)) _ _ (hm.sub rfl)) (hm.sub rfl)))

theorem execGooseSubDisable_kept {μ : Nat} {s₀ : State} {s : State} (hs : Kept μ s₀ s) (i : Nat)
    (hm : Within 0x8000000088000002020 μ) :
    KeptN μ s₀ (execGooseSubDisable i s) := by
  unfold execGooseSubDisable; exact (KeptN.next (Kept.live hs (fun _ hz0 => (gooseSubDisable_kept hz0 _ (hm.sub rfl)))))

theorem gsWaitFor_kept {μ : Nat} {s₀ : State} {s : State} (hs : Kept μ s₀ s) (i : Nat) (u : GUpd)
    (hm : Within 0x2000 μ) :
    Kept μ s₀ (gsWaitFor s i u) := by
  unfold gsWaitFor; (try dsimp only); split; (· exact (State_setGsub_kept hs _ _ (hm.sub rfl))); (· exact hs)

theorem gsAccept_kept {μ : Nat} {s₀ : State} {s : State} (hs : Kept μ s₀ s) (i : Nat) (stamp : Stamp) (p : GoosePdu) (isNew : Bool) (unchk : Bool)
    (hm : Within 0x800000008000002000 μ) :
    Kept μ s₀ (gsAccept s i stamp p isNew unchk) := by
  unfold gsAccept
  exact (gsWaitFor_kept (State_count_kept (by (try dsimp only); split; (· exact (State_setGsub_kept (Kept.ite (State_setFlag_kept hs _ _ _ (hm.sub rfl)) hs) _ _ (hm.sub rfl))); (· exact (Kept.ite (State_setFlag_kept hs _ _ _ (hm.sub rfl)) hs))) _ _ (Within.iteC (hm.sub rfl) (hm.sub rfl))) _ _ (hm.sub rfl))

theorem gsJudge_kept {μ : Nat} {s₀ : State} {s : State} (hs : Kept μ s₀ s) (i : Nat) (stamp : Stamp) (p : GoosePdu) (unchk : Bool)
    (hm : Within 0x40810000408100002040 μ) :
    Kept μ s₀ (gsJudge s i stamp p unchk) := by
  unfold gsJudge
  (try dsimp only)
  split
  · exact (gsAccept_kept hs _ _ _ _ _ (hm.sub rfl))
  · exact (Kept.ite (Kept.ite (gsFlt_kept (State_count_kept hs _ _ (hm.sub rfl)) _ _ _ (hm.sub rfl) (hm.sub rfl) (hm.sub rfl)) (gsAccept_kept hs _ _ _ _ _ (hm.sub rfl))) (Kept.ite (Kept.ite (State_setFlt_kept (State_count_kept hs _ _ (hm.sub rfl)) _ (hm.sub rfl) (hm.sub rfl)) (gsAccept_kept hs _ _ _ _ _ (hm.sub rfl))) (State_count_kept hs _ _ (hm.sub rfl))))

theorem gsAuth_kept {μ : Nat} {s₀ : State} {s : State} (hs : Kept μ s₀ s) (i : Nat) (f : Frame) (stamp : Stamp) (p : GoosePdu)
    (hm : Within 0x40810000408100002040 μ) :
    Kept μ s₀ (gsAuth s i f stamp p) := by
  unfold gsAuth
  exact (Kept.ite (gsJudge_kept hs _ _ _ _ (hm.sub rfl)) (Kept.ite (gsJudge_kept hs _ _ _ _ (hm.sub rfl)) (Kept.ite (gsFlt_kept (State_count_kept hs _ _ (hm.sub rfl)) _ _ _ (hm.sub rfl) (hm.sub rfl) (hm.sub rfl)) (gsJudge_kept (State_setFlag_kept (State_count_kept hs _ _ (hm.sub rfl)) _ _ _ (hm.sub rfl)) _ _ _ _ (hm.sub rfl)))))

theorem gsFrame_kept {μ : Nat} {s₀ : State} {s : State} (hs : Kept μ s₀ s) (f : Frame) (stamp : Stamp) (p : GoosePdu) (i : Nat)
    (hm : Within 0x40810000408100002040 μ) :
    Kept μ s₀ (gsFrame s f stamp p i) := by
  unfold gsFrame
  exact (Kept.ite (State_count_kept (State_count_kept hs _ _ (hm.sub rfl)) _ _ (hm.sub rfl)) (Kept.ite (gsWaitFor_kept (State_count_kept (State_count_kept hs _ _ (hm.sub rfl)) _ _ (hm.sub rfl)) _ _ (hm.sub rfl)) (Kept.ite (gsWaitFor_kept (State_count_kept (State_count_kept hs _ _ (hm.sub rfl)) _ _ (hm.sub rfl)) _ _ (hm.sub rfl)) (Kept.ite (State_count_kept (State_count_kept hs _ _ (hm.sub rfl)) _ _ (hm.sub rfl)) (gsAuth_kept (State_count_kept hs _ _ (hm.sub rfl)) _ _ _ _ (hm.sub rfl))))))

theorem gooseFrameRx_kept {μ : Nat} {s₀ : State} {s : State} (hs : Kept μ s₀ s)
    (hm : Within 0x40810000408100002040 μ) :
    Kept μ s₀ (gooseFrameRx s) := by
  unfold gooseFrameRx
  (try dsimp only)
  split
  · exact hs
  · exact (Kept.ite (State_count_kept (State_count_kept (Kept.upd_2000 hs (hm.sub rfl)) _ _ (hm.sub rfl)) _ _ (hm.sub rfl)) (by (try dsimp only); split; (· exact (Kept.ite (State_count_kept (State_count_kept (Kept.upd_2000 hs (hm.sub rfl)) _ _ (hm.sub rfl)) _ _ (hm.sub rfl)) (Kept.foldl (State_count_kept (Kept.upd_2000 hs (hm.sub rfl)) _ _ (hm.sub rfl)) (fun _ _ hz2 => (gsFrame_kept hz2 _ _ _ _ (hm.sub rfl))) _))); (· exact (State_count_kept (State_count_kept (Kept.upd_2000 hs (hm.sub rfl)) _ _ (hm.sub rfl)) _ _ (hm.sub rfl)))))

theorem execGooseFrameRx_kept {μ : Nat} {s₀ : State} {s : State} (hs : Kept μ s₀ s)
    (hm : Within 0x40810000408100002040 μ) :
    KeptN μ s₀ (execGooseFrameRx s) := by
  unfold execGooseFrameRx; exact (KeptN.next (Kept.live hs (fun _ hz0 => (gooseFrameRx_kept hz0 (hm.sub rfl)))))

theorem gooseSubUpdate_kept {μ : Nat} {s₀ : State} {s : State} (hs : Kept μ s₀ s) (i : Nat)
    (hm : Within 0x48010000488100002060 μ) :
    Kept μ s₀ (gooseSubUpdate s i) := by
  unfold gooseSubUpdate
  (try dsimp only)
  split
  · exact hs
  · exact (by (try dsimp only); split; (· exact hs); (· exact (by (try dsimp only); split; (· exact (gsKeep_kept (State_setGsub_kept hs _ _ (hm.sub rfl)) _ (hm.sub rfl))); (· exact (Kept.ite (gsFlt_kept (gsEnter_kept (State_setGsub_kept (gsKeep_kept (State_setGsub_kept hs _ _ (hm.sub rfl)) _ (hm.sub rfl)) _ _ (hm.sub rfl)) _ _ (hm.sub rfl)) _ _ _ (hm.sub rfl) (hm.sub rfl) (hm.sub rfl)) (gsEnter_kept (State_setGsub_kept (gsKeep_kept (State_setGsub_kept hs _ _ (hm.sub rfl)) _ (hm.sub rfl)) _ _ (hm.sub rfl)) _ _ (hm.sub rfl)))))))

theorem execGooseSubUpdate_kept {μ : Nat} {s₀ : State} {s : State} (hs : Kept μ s₀ s) (i : Nat)
    (hm : Within 0x48010000488100002060 μ) :
    KeptN μ s₀ (execGooseSubUpdate i s) := by
  unfold execGooseSubUpdate; exact (KeptN.next (Kept.live hs (fun _ hz0 => (gooseSubUpdate_kept hz0 _ (hm.sub rfl)))))

theorem gooseSubExpiry_kept {μ : Nat} {s₀ : State} {s : State} (hs : Kept μ s₀ s) (i : Nat)
    (hm : Within 0x48810000488100002060 μ) :
    Kept μ s₀ (gooseSubExpiry s i) := by
  unfold gooseSubExpiry
  (try dsimp only)
  split
  · exact hs
  · exact (by (try dsimp only); split; (· exact hs); (· exact (Kept.ite hs (gsFlt_kept (State_count_kept (gsEnter_kept (gsKeep_kept hs _ (hm.sub rfl)) _ _ (hm.sub rfl)) _ _ (hm.sub rfl)) _ _ _ (hm.sub rfl) (hm.sub rfl) (hm.sub rfl)))))

theorem execGooseSubExpiry_kept {μ : Nat} {s₀ : State} {s : State} (hs : Kept μ s₀ s) (i : Nat)
    (hm : Within 0x48810000488100002060 μ) :
    KeptN μ s₀ (execGooseSubExpiry i s) := by
  unfold execGooseSubExpiry; exact (KeptN.next (Kept.live hs (fun _ hz0 => (gooseSubExpiry_kept hz0 _ (hm.sub rfl)))))

theorem clrSim_kept {μ : Nat} {s₀ : State} {s : State} (hs : Kept μ s₀ s)
    (hm : Within 0x8000000000 μ) :
    Kept μ s₀ (clrSim s) := by
  unfold clrSim; exact (Kept.ite (State_setFlag_kept hs _ _ _ (hm.sub rfl)) hs)

theorem execClrSim_kept {μ : Nat} {s₀ : State} {s : State} (hs : Kept μ s₀ s)
    (hm : Within 0x8000000000 μ) :
    KeptN μ s₀ (execClrSim s) := by
  unfold execClrSim; exact (KeptN.next (Kept.live hs (fun _ hz0 => (clrSim_kept hz0 (hm.sub rfl)))))

theorem gooseStep_kept {μ : Nat} {s₀ : State} {s : State} (hs : Kept μ s₀ s) (d : Int) (ep : Nat)
    (hm : Within 0x2000 μ) :
    Kept μ s₀ (gooseStep s d ep) := by
  unfold gooseStep; exact (Kept.upd_2000 hs (hm.sub rfl))

end Sys2Proof.Machine
end

