-- ==== Sys2Proof/Laws/KeptPdelay.lean ====
section
/-! SUPPORT. Each function of Machine/Pdelay.lean keeps what `Kept` says. -/

set_option Elab.async false

namespace Sys2Proof.Machine

theorem launchOob_kept {μ : Nat} {s₀ : State} {s : State} (hs : Kept μ s₀ s) (p : Nat) (x : OobMsg)
    (hm : Within 0x10040000100401010010 μ) :
    Kept μ s₀ (launchOob s p x) := by
  unfold launchOob
  (try dsimp only)
  split
  · exact (State_count_kept (launch_kept hs _ _ _ (hm.sub rfl)) _ _ (hm.sub rfl))
  · exact (launch_kept (State_count_kept (State_setPtpPort_kept (egressStamp_kept hs _ (hm.sub rfl)) _ _ (hm.sub rfl)) _ _ (hm.sub rfl)) _ _ _ (hm.sub rfl))
  · exact (launch_kept (Kept.ite (State_setPortCh_kept (egressStamp_kept hs _ (hm.sub rfl)) _ _ (hm.sub rfl)) (egressStamp_kept hs _ (hm.sub rfl))) _ _ _ (hm.sub rfl))
  · exact (launch_kept hs _ _ _ (hm.sub rfl))

theorem oobNext_kept {μ : Nat} {s₀ : State} {s : State} (hs : Kept μ s₀ s) (p : Nat)
    (hm : Within 0x10040000100401010010 μ) :
    Kept μ s₀ (oobNext s p) := by
  unfold oobNext
  (try dsimp only)
  split
  · exact hs
  · exact (Kept.ite (State_setPortCh_kept hs _ _ (hm.sub rfl)) (Kept.ite hs (launchOob_kept (State_setPortCh_kept hs _ _ (hm.sub rfl)) _ _ (hm.sub rfl))))

theorem sendOob_kept {μ : Nat} {s₀ : State} {s : State} (hs : Kept μ s₀ s) (p : Nat) (x : OobMsg)
    (hm : Within 0x10040000100401010010 μ) :
    Kept μ s₀ (sendOob s p x) := by
  unfold sendOob; exact (oobNext_kept (State_setPortCh_kept hs _ _ (hm.sub rfl)) _ (hm.sub rfl))

theorem portTick_kept {μ : Nat} {s₀ : State} {s : State} (hs : Kept μ s₀ s)
    (hm : Within 0x58050000580501010070 μ) :
    Kept μ s₀ (portTick s) := by
  unfold portTick; exact (Kept.foldl hs (fun _ _ hz0 => (oobNext_kept (underEnd_kept hz0 _ (hm.sub rfl)) _ (hm.sub rfl))) _)

theorem pdelayReqRx_kept {μ : Nat} {s₀ : State} {s : State} (hs : Kept μ s₀ s) (p : Nat) (m : PtpMsg) (rx : Stamp)
    (hm : Within 0x10040000100401010010 μ) :
    Kept μ s₀ (pdelayReqRx s p m rx) := by
  unfold pdelayReqRx; split
  · exact hs
  · have h := ingressStamp_kept hs p rx (hm.sub rfl)
    generalize ingressStamp s p rx = q at h ⊢
    exact sendOob_kept h _ _ (hm.sub rfl)

theorem execPdelayReqRx_kept {μ : Nat} {s₀ : State} {s : State} (hs : Kept μ s₀ s) (port : Nat) (m : PtpMsg) (rx : Stamp)
    (hm : Within 0x10040000100401010010 μ) :
    KeptN μ s₀ (execPdelayReqRx port m rx s) := by
  unfold execPdelayReqRx; exact (KeptN.next (Kept.live hs (fun _ hz0 => (pdelayReqRx_kept hz0 _ _ _ (hm.sub rfl)))))

theorem pdLost_kept {μ : Nat} {s₀ : State} {s : State} (hs : Kept μ s₀ s) (p : Nat)
    (hm : Within 0x40050000400500000050 μ) :
    Kept μ s₀ (pdLost s p) := by
  unfold pdLost
  exact (slaveLost_kept (State_setFlt_kept (State_setFlag_kept (State_setFlag_kept hs _ _ _ (hm.sub rfl)) _ _ _ (hm.sub rfl)) _ (hm.sub rfl) (hm.sub rfl)) _ (hm.sub rfl))

theorem pdelayReqTx_kept {μ : Nat} {s₀ : State} {s : State} (hs : Kept μ s₀ s) (p : Nat)
    (hm : Within 0x50050000500501010050 μ) :
    Kept μ s₀ (pdelayReqTx s p) := by
  unfold pdelayReqTx
  exact (Kept.ite hs (sendOob_kept (State_setPtpPort_kept (Kept.ite (pdLost_kept hs _ (hm.sub rfl)) hs) _ _ (hm.sub rfl)) _ _ (hm.sub rfl)))

theorem execPdelayReqTx_kept {μ : Nat} {s₀ : State} {s : State} (hs : Kept μ s₀ s) (port : Nat)
    (hm : Within 0x50050000500501010050 μ) :
    KeptN μ s₀ (execPdelayReqTx port s) := by
  unfold execPdelayReqTx; exact (KeptN.next (Kept.live hs (fun _ hz0 => (pdelayReqTx_kept hz0 _ (hm.sub rfl)))))

theorem pdelayRespRx_kept {μ : Nat} {s₀ : State} {s : State} (hs : Kept μ s₀ s) (p : Nat) (m : PtpMsg) (rx : Stamp) (fu : Option PtpMsg)
    (hm : Within 0x40000000401000010 μ) :
    Kept μ s₀ (pdelayRespRx s p m rx fu) := by
  unfold pdelayRespRx
  exact (Kept.ite hs (by (try dsimp only); split; (· exact (State_count_kept hs _ _ (hm.sub rfl))); (· exact (Kept.ite (State_count_kept hs _ _ (hm.sub rfl)) (by (try dsimp only); split; (· exact (ingressStamp_kept (State_count_kept hs _ _ (hm.sub rfl)) _ _ (hm.sub rfl))); (· exact (Kept.ite (State_setPtpPort_kept (ingressStamp_kept (State_count_kept hs _ _ (hm.sub rfl)) _ _ (hm.sub rfl)) _ _ (hm.sub rfl)) (State_setFlag_kept (Kept.setFld (State_setPtpPort_kept (State_openRound_kept (ingressStamp_kept (State_count_kept hs _ _ (hm.sub rfl)) _ _ (hm.sub rfl)) _ _ (hm.sub rfl)) _ _ (hm.sub rfl)) _ _ _ (hm.sub rfl)) _ _ _ (hm.sub rfl)))))))))

theorem execPdelayRespRx_kept {μ : Nat} {s₀ : State} {s : State} (hs : Kept μ s₀ s) (port : Nat) (m : PtpMsg) (rx : Stamp) (fu : Option PtpMsg)
    (hm : Within 0x40000000401000010 μ) :
    KeptN μ s₀ (execPdelayRespRx port m rx fu s) := by
  unfold execPdelayRespRx; exact (KeptN.next (Kept.live hs (fun _ hz0 => (pdelayRespRx_kept hz0 _ _ _ _ (hm.sub rfl)))))

end Sys2Proof.Machine
end

