-- ==== Sys2Proof/Laws/KeptGateSafe.lean ====
section
/-! SUPPORT. Each function of Machine/GateSafe.lean keeps what `Kept` says. -/

set_option Elab.async false

namespace Sys2Proof.Machine

theorem State_setGch_kept {μ : Nat} {s₀ : State} {s : State} (hs : Kept μ s₀ s) (n : Nat) (c : GateCh)
    (hm : Within 0x200 μ) :
    Kept μ s₀ (State.setGch s n c) := by
  unfold State.setGch; exact (Kept.upd_200 hs (hm.sub rfl))

theorem setGateState_kept {μ : Nat} {s₀ : State} {s : State} (hs : Kept μ s₀ s) (n : Nat) (st : Nat)
    (hm : Within 0x10000000000 μ) :
    Kept μ s₀ (setGateState s n st) := by
  unfold setGateState; exact (State_setFbit_kept (Kept.setFld hs _ _ _ (hm.sub rfl)) _ _ _ _ (hm.sub rfl))

theorem lowerCause_kept {μ : Nat} {s₀ : State} {s : State} (hs : Kept μ s₀ s) (n : Nat) (cause : Nat)
    (hm : Within 0x10000000020 μ) :
    Kept μ s₀ (lowerCause s n cause) := by
  unfold lowerCause; exact (Kept.ite (Kept.setFld (Kept.upd_20 hs (hm.sub rfl)) _ _ _ (hm.sub rfl)) hs)

theorem enterSafe_kept {μ : Nat} {s₀ : State} {s : State} (hs : Kept μ s₀ s) (n : Nat) (cause : Nat)
    (hm : Within 0x49010000490100000260 μ) :
    Kept μ s₀ (enterSafe s n cause) := by
  unfold enterSafe
  exact (Kept.ite hs (Kept.ite (lowerCause_kept hs _ _ (hm.sub rfl)) (State_setFlt_kept (State_event_kept (State_count_kept (State_setFlag_kept (Kept.setFld (setGateState_kept (State_setGch_kept hs _ _ (hm.sub rfl)) _ _ (hm.sub rfl)) _ _ _ (hm.sub rfl)) _ _ _ (hm.sub rfl)) _ _ (hm.sub rfl)) _ _ _ _ _ _ (hm.sub rfl)) _ (hm.sub rfl) (hm.sub rfl))))

theorem gateOwnerReset_kept {μ : Nat} {s₀ : State} {s : State} (hs : Kept μ s₀ s) (p : Nat)
    (hm : Within 0x49010000490100000260 μ) :
    Kept μ s₀ (gateOwnerReset s p) := by
  unfold gateOwnerReset; exact (Kept.ite hs (Kept.foldl hs (fun _ _ hz0 => (Kept.ite (enterSafe_kept hz0 _ _ (hm.sub rfl)) hz0)) _))

end Sys2Proof.Machine
end

