-- ==== Sys2Proof/Laws/KeptPartition.lean ====
section
/-! SUPPORT. Each function of Machine/Partition.lean keeps what `Kept` says. -/

set_option Elab.async false

namespace Sys2Proof.Machine

theorem State_setPres_kept {μ : Nat} {s₀ : State} {s : State} (hs : Kept μ s₀ s) (p : Nat) (r : PartRes)
    (hm : Within 0x40 μ) :
    Kept μ s₀ (State.setPres s p r) := by
  unfold State.setPres; exact (Kept.upd_40 hs (hm.sub rfl))

theorem partSettle_kept {μ : Nat} {s₀ : State} {s : State} (hs : Kept μ s₀ s) (p : Nat)
    (hm : Within 0x494100004b4100000360 μ) :
    Kept μ s₀ (partSettle s p) := by
  unfold partSettle
  exact (Kept.ite (Kept.setFld hs _ _ _ (hm.sub rfl)) (Kept.ite (gateOwnerReset_kept (laneReset_kept (State_setFlag_kept (Kept.setFld (State_setPres_kept (State_event_kept (State_count_kept (State_count_kept (State_setPartBit_kept (State_setFlag_kept (Kept.setFld hs _ _ _ (hm.sub rfl)) _ _ _ (hm.sub rfl)) _ _ _ (hm.sub rfl)) _ _ (hm.sub rfl)) _ _ (hm.sub rfl)) _ _ _ _ _ _ (hm.sub rfl)) _ _ (hm.sub rfl)) _ _ _ (hm.sub rfl)) _ _ _ (hm.sub rfl)) _ (hm.sub rfl)) _ (hm.sub rfl)) (Kept.ite (Kept.upd_40 (Kept.setFld hs _ _ _ (hm.sub rfl)) (hm.sub rfl)) (Kept.setFld hs _ _ _ (hm.sub rfl)))))

theorem partLeave_kept {μ : Nat} {s₀ : State} {s : State} (hs : Kept μ s₀ s) (p : Nat)
    (hm : Within 0x494100004b4100000360 μ) :
    Kept μ s₀ (partLeave s p) := by
  unfold partLeave
  exact (Kept.ite (State_raiseIdent_kept (State_setPres_kept (State_setFlag_kept (Kept.setFld (State_event_kept (State_setPartBit_kept (State_setFlag_kept hs _ _ _ (hm.sub rfl)) _ _ _ (hm.sub rfl)) _ _ _ _ _ _ (hm.sub rfl)) _ _ _ (hm.sub rfl)) _ _ _ (hm.sub rfl)) _ _ (hm.sub rfl)) _ _ (hm.sub rfl)) hs)

theorem partEdge_kept {μ : Nat} {s₀ : State} {s : State} (hs : Kept μ s₀ s)
    (hm : Within 0x494100004b4100000360 μ) :
    Kept μ s₀ (partEdge s) := by
  unfold partEdge; exact (Kept.foldl (Kept.upd_40 hs (hm.sub rfl)) (fun _ _ hz0 => (partLeave_kept hz0 _ (hm.sub rfl))) _)

theorem partPulse_kept {μ : Nat} {s₀ : State} {s : State} (hs : Kept μ s₀ s) (p : Nat) (cause : Nat)
    (hm : Within 0x494100004b4100000360 μ) :
    Kept μ s₀ (partPulse s p cause) := by
  unfold partPulse
  exact (Kept.ite (State_setFlt_kept hs _ (hm.sub rfl) (hm.sub rfl)) (partSettle_kept (State_setPres_kept hs _ _ (hm.sub rfl)) _ (hm.sub rfl)))

theorem watchdogAct_kept {μ : Nat} {s₀ : State} {s : State} (hs : Kept μ s₀ s) (p : Nat) (act : Nat) (cause : Nat)
    (hm : Within 0x494100004b4100000360 μ) :
    Kept μ s₀ (watchdogAct s p act cause) := by
  unfold watchdogAct
  exact (Kept.ite hs (Kept.ite (partPulse_kept hs _ _ (hm.sub rfl)) (partSettle_kept (State_setPres_kept hs _ _ (hm.sub rfl)) _ (hm.sub rfl))))

theorem execPulse_kept {μ : Nat} {s₀ : State} {s : State} (hs : Kept μ s₀ s) (p : Nat)
    (hm : Within 0x494100004b4100000360 μ) :
    KeptN μ s₀ (execPulse p s) := by
  unfold execPulse; exact (KeptN.next (Kept.live hs (fun _ hz0 => (partPulse_kept hz0 _ _ (hm.sub rfl)))))

theorem holdWrite_kept {μ : Nat} {s₀ : State} {s : State} (hs : Kept μ s₀ s) (p : Nat) (v : Bool)
    (hm : Within 0x494100004b4100000360 μ) :
    Kept μ s₀ (holdWrite s p v) := by
  unfold holdWrite
  exact (Kept.ite hs (Kept.ite (Kept.ite (State_setFlt_kept hs _ (hm.sub rfl) (hm.sub rfl)) hs) (partSettle_kept (State_setFlag_kept (Kept.ite (State_setPres_kept hs _ _ (hm.sub rfl)) hs) _ _ _ (hm.sub rfl)) _ (hm.sub rfl))))

theorem execHoldWrite_kept {μ : Nat} {s₀ : State} {s : State} (hs : Kept μ s₀ s) (p : Nat) (v : Bool)
    (hm : Within 0x494100004b4100000360 μ) :
    KeptN μ s₀ (execHoldWrite p v s) := by
  unfold execHoldWrite; exact (KeptN.next (Kept.live hs (fun _ hz0 => (holdWrite_kept hz0 _ _ (hm.sub rfl)))))

theorem resetPulseEnd_kept {μ : Nat} {s₀ : State} {s : State} (hs : Kept μ s₀ s) (p : Nat)
    (hm : Within 0x494100004b4100000360 μ) :
    Kept μ s₀ (resetPulseEnd s p) := by
  unfold resetPulseEnd
  (try dsimp only)
  split
  · exact (Kept.ite (partSettle_kept (State_setPres_kept hs _ _ (hm.sub rfl)) _ (hm.sub rfl)) hs)
  · exact hs

theorem execResetPulseEnd_kept {μ : Nat} {s₀ : State} {s : State} (hs : Kept μ s₀ s) (p : Nat)
    (hm : Within 0x494100004b4100000360 μ) :
    KeptN μ s₀ (execResetPulseEnd p s) := by
  unfold execResetPulseEnd; exact (KeptN.next (Kept.live hs (fun _ hz0 => (resetPulseEnd_kept hz0 _ (hm.sub rfl)))))

theorem wdRestart_kept {μ : Nat} {s₀ : State} {s : State} (hs : Kept μ s₀ s) (p : Nat)
    (hm : Within 0x40 μ) :
    Kept μ s₀ (wdRestart s p) := by
  unfold wdRestart; exact (Kept.ite hs (State_setPres_kept hs _ _ (hm.sub rfl)))

theorem wdKick_kept {μ : Nat} {s₀ : State} {s : State} (hs : Kept μ s₀ s) (p : Nat)
    (hm : Within 0x40 μ) :
    Kept μ s₀ (wdKick s p) := by
  unfold wdKick; exact (Kept.ite hs (wdRestart_kept hs _ (hm.sub rfl)))

theorem execWdKick_kept {μ : Nat} {s₀ : State} {s : State} (hs : Kept μ s₀ s) (p : Nat)
    (hm : Within 0x40 μ) :
    KeptN μ s₀ (execWdKick p s) := by
  unfold execWdKick; exact (KeptN.next (Kept.live hs (fun _ hz0 => (wdKick_kept hz0 _ (hm.sub rfl)))))

theorem wdWarn_kept {μ : Nat} {s₀ : State} {s : State} (hs : Kept μ s₀ s) (p : Nat)
    (hm : Within 0x48010000480100000060 μ) :
    Kept μ s₀ (wdWarn s p) := by
  unfold wdWarn
  (try dsimp only)
  split
  · exact hs
  · exact (Kept.ite hs (State_raiseIdent_kept (State_setFlt_kept (State_event_kept (State_count_kept (State_setFlag_kept (State_setPres_kept hs _ _ (hm.sub rfl)) _ _ _ (hm.sub rfl)) _ _ (hm.sub rfl)) _ _ _ _ _ _ (hm.sub rfl)) _ (hm.sub rfl) (hm.sub rfl)) _ _ (hm.sub rfl)))

theorem execWdWarn_kept {μ : Nat} {s₀ : State} {s : State} (hs : Kept μ s₀ s) (p : Nat)
    (hm : Within 0x48010000480100000060 μ) :
    KeptN μ s₀ (execWdWarn p s) := by
  unfold execWdWarn; exact (KeptN.next (Kept.live hs (fun _ hz0 => (wdWarn_kept hz0 _ (hm.sub rfl)))))

theorem wdExpiry_kept {μ : Nat} {s₀ : State} {s : State} (hs : Kept μ s₀ s) (p : Nat)
    (hm : Within 0x494100004b4100000360 μ) :
    Kept μ s₀ (wdExpiry s p) := by
  unfold wdExpiry
  (try dsimp only)
  split
  · exact hs
  · exact (Kept.ite hs (watchdogAct_kept (State_setFlt_kept (State_event_kept (State_count_kept (State_setFlag_kept (State_setPres_kept hs _ _ (hm.sub rfl)) _ _ _ (hm.sub rfl)) _ _ (hm.sub rfl)) _ _ _ _ _ _ (hm.sub rfl)) _ (hm.sub rfl) (hm.sub rfl)) _ _ _ (hm.sub rfl)))

theorem execWdExpiry_kept {μ : Nat} {s₀ : State} {s : State} (hs : Kept μ s₀ s) (p : Nat)
    (hm : Within 0x494100004b4100000360 μ) :
    KeptN μ s₀ (execWdExpiry p s) := by
  unfold execWdExpiry; exact (KeptN.next (Kept.live hs (fun _ hz0 => (wdExpiry_kept hz0 _ (hm.sub rfl)))))

theorem writeAct_kept {μ : Nat} {s₀ : State} {s : State} (hs : Kept μ s₀ s) (f : Fld) (p : Nat) (v : Nat)
    (hb1 : Within (blkBits f.blk) μ)
    (hm : Within 0x40010000400100000040 μ) :
    Kept μ s₀ (writeAct s f p v) := by
  unfold writeAct; exact (Kept.ite (Kept.ite hs (State_setFlt_kept hs _ (hm.sub rfl) (hm.sub rfl))) (Kept.setFld hs _ _ _ (by exact hb1)))

theorem wdConfigWrite_kept {μ : Nat} {s₀ : State} {s : State} (hs : Kept μ s₀ s) (p : Nat) (lane : Bool) (v : Nat)
    (hm : Within 0x494100004b4100000360 μ) :
    Kept μ s₀ (wdConfigWrite s p lane v) := by
  unfold wdConfigWrite
  exact (Kept.ite hs (Kept.ite (Kept.ite (State_rowLocked_kept hs _ _ _ (hm.sub rfl)) (partSettle_kept (State_setPres_kept (Kept.setFld (Kept.setFld (writeAct_kept hs _ _ _ (hm.sub rfl) (hm.sub rfl)) _ _ _ (hm.sub rfl)) _ _ _ (hm.sub rfl)) _ _ (hm.sub rfl)) _ (hm.sub rfl))) (Kept.ite (State_rowLocked_kept hs _ _ _ (hm.sub rfl)) (Kept.ite (State_setFlt_kept hs _ (hm.sub rfl) (hm.sub rfl)) (wdRestart_kept (partSettle_kept (State_setPres_kept (Kept.setFld (Kept.setFld (writeAct_kept hs _ _ _ (hm.sub rfl) (hm.sub rfl)) _ _ _ (hm.sub rfl)) _ _ _ (hm.sub rfl)) _ _ (hm.sub rfl)) _ (hm.sub rfl)) _ (hm.sub rfl))))))

theorem execWdConfigWrite_kept {μ : Nat} {s₀ : State} {s : State} (hs : Kept μ s₀ s) (p : Nat) (lane : Bool) (v : Nat)
    (hm : Within 0x494100004b4100000360 μ) :
    KeptN μ s₀ (execWdConfigWrite p lane v s) := by
  unfold execWdConfigWrite; exact (KeptN.next (Kept.live hs (fun _ hz0 => (wdConfigWrite_kept hz0 _ _ _ (hm.sub rfl)))))

theorem lwdFire_kept {μ : Nat} {s₀ : State} {s : State} (hs : Kept μ s₀ s) (p : Nat) (win : Nat)
    (hm : Within 0x494100004b4100000360 μ) :
    Kept μ s₀ (lwdFire s p win) := by
  unfold lwdFire
  exact (watchdogAct_kept (State_raiseIdent_kept (State_setFlt_kept (State_event_kept (State_count_kept (State_setFlag_kept (Kept.setFld hs _ _ _ (hm.sub rfl)) _ _ _ (hm.sub rfl)) _ _ (hm.sub rfl)) _ _ _ _ _ _ (hm.sub rfl)) _ (hm.sub rfl) (hm.sub rfl)) _ _ (hm.sub rfl)) _ _ _ (hm.sub rfl))

theorem lwdExpiry_kept {μ : Nat} {s₀ : State} {s : State} (hs : Kept μ s₀ s) (p : Nat) (win : Nat)
    (hm : Within 0x494100004b4100000360 μ) :
    Kept μ s₀ (lwdExpiry s p win) := by
  unfold lwdExpiry; exact (Kept.ite hs (lwdFire_kept hs _ _ (hm.sub rfl)))

theorem execLwdExpiry_kept {μ : Nat} {s₀ : State} {s : State} (hs : Kept μ s₀ s) (p : Nat) (win : Nat)
    (hm : Within 0x494100004b4100000360 μ) :
    KeptN μ s₀ (execLwdExpiry p win s) := by
  unfold execLwdExpiry; exact (KeptN.next (Kept.live hs (fun _ hz0 => (lwdExpiry_kept hz0 _ _ (hm.sub rfl)))))

theorem lwdStatus_kept {μ : Nat} {s₀ : State} {s : State} (hs : Kept μ s₀ s) (p : Nat) (st : Nat)
    (hm : Within 0x400000000000 μ) :
    Kept μ s₀ (lwdStatus s p st) := by
  unfold lwdStatus; exact (Kept.ite hs (Kept.ite (Kept.setFld hs _ _ _ (hm.sub rfl)) (Kept.ite (Kept.setFld hs _ _ _ (hm.sub rfl)) hs)))

theorem dwdKick_kept {μ : Nat} {s₀ : State} {s : State} (hs : Kept μ s₀ s) (v : Nat)
    (hm : Within 0x40 μ) :
    Kept μ s₀ (dwdKick s v) := by
  unfold dwdKick; exact (Kept.ite (Kept.upd_40 hs (hm.sub rfl)) (Kept.ite (Kept.upd_40 hs (hm.sub rfl)) (Kept.upd_40 hs (hm.sub rfl))))

theorem execDwdKick_kept {μ : Nat} {s₀ : State} {s : State} (hs : Kept μ s₀ s) (v : Nat)
    (hm : Within 0x40 μ) :
    KeptN μ s₀ (execDwdKick v s) := by
  unfold execDwdKick; exact (KeptN.next (Kept.live hs (fun _ hz0 => (dwdKick_kept hz0 _ (hm.sub rfl)))))

theorem dwdWarn_kept {μ : Nat} {s₀ : State} {s : State} (hs : Kept μ s₀ s)
    (hm : Within 0x48010000480100000060 μ) :
    Kept μ s₀ (dwdWarn s) := by
  unfold dwdWarn
  exact (Kept.ite hs (State_setFlt_kept (State_event_kept (State_count_kept (Kept.upd_40 hs (hm.sub rfl)) _ _ (hm.sub rfl)) _ _ _ _ _ _ (hm.sub rfl)) _ (hm.sub rfl) (hm.sub rfl)))

theorem execDwdWarn_kept {μ : Nat} {s₀ : State} {s : State} (hs : Kept μ s₀ s)
    (hm : Within 0x48010000480100000060 μ) :
    KeptN μ s₀ (execDwdWarn s) := by
  unfold execDwdWarn; exact (KeptN.next (Kept.live hs (fun _ hz0 => (dwdWarn_kept hz0 (hm.sub rfl)))))

end Sys2Proof.Machine
end

