-- ==== Sys2Proof/Laws/KeptFabric.lean ====
section
/-! SUPPORT. Each function of Machine/Fabric.lean keeps what `Kept` says. -/

set_option Elab.async false

namespace Sys2Proof.Machine

theorem State_setMemBytes_kept {μ : Nat} {s₀ : State} {s : State} (hs : Kept μ s₀ s) (a : Nat) (a3 : List Nat)
    (hm : Within 0x8 μ) :
    Kept μ s₀ (State.setMemBytes s a a3) := by
  unfold State.setMemBytes; (try dsimp only); split; (· exact hs); (· exact (State_setMemBytes_kept (Kept.setMemByte hs _ _ (hm.sub rfl)) _ _ hm))

theorem State_setPlane_kept {μ : Nat} {s₀ : State} {s : State} (hs : Kept μ s₀ s) (c : Nat) (slot : Nat) (e : Nat × Nat)
    (hm : Within 0x400 μ) :
    Kept μ s₀ (State.setPlane s c slot e) := by
  unfold State.setPlane; exact (Kept.upd_400 hs (hm.sub rfl))

theorem readPlaneAs_kept {μ : Nat} {s₀ : State} {s : State} (hs : Kept μ s₀ s) (c : Nat) (slot : Nat) (e : Nat × Nat)
    (hm : Within 0x40210000402100000040 μ) :
    Kept μ s₀ (readPlaneAs s c slot e).2 := by
  unfold readPlaneAs
  exact (Kept.ite2 (State_setFlt_kept (State_count_kept hs _ _ (hm.sub rfl)) _ (hm.sub rfl) (hm.sub rfl)) (Kept.ite2 (State_setFlt_kept (State_count_kept hs _ _ (hm.sub rfl)) _ (hm.sub rfl) (hm.sub rfl)) hs))

theorem readPlane_kept {μ : Nat} {s₀ : State} {s : State} (hs : Kept μ s₀ s) (c : Nat) (slot : Nat)
    (hm : Within 0x40210000402100000040 μ) :
    Kept μ s₀ (readPlane s c slot).2 := by
  unfold readPlane; exact (readPlaneAs_kept hs _ _ _ (hm.sub rfl))

theorem countBytes_kept {μ : Nat} {s₀ : State} {s : State} (hs : Kept μ s₀ s) (tag : Nat) (n : Nat) (write : Bool)
    (hm : Within 0x40000000400000000000 μ) :
    Kept μ s₀ (countBytes s tag n write) := by
  unfold countBytes; exact (State_countBy_kept hs _ _ _ (Within.iteC (hm.sub rfl) (hm.sub rfl)))

theorem useBytes_kept {μ : Nat} {s₀ : State} {s : State} (hs : Kept μ s₀ s) (tag : Nat) (n : Nat) (write : Bool)
    (hm : Within 0x40000000400000000400 μ) :
    Kept μ s₀ (useBytes s tag n write) := by
  unfold useBytes; exact (Kept.upd_400 (countBytes_kept hs _ _ _ (hm.sub rfl)) (hm.sub rfl))

theorem eccCe_kept {μ : Nat} {s₀ : State} {s : State} (hs : Kept μ s₀ s) (b : Nat)
    (hm : Within 0x10000000100000000 μ) :
    Kept μ s₀ (eccCe s b) := by
  unfold eccCe; exact (State_count_kept hs _ _ (Within.iteC (hm.sub rfl) (hm.sub rfl)))

theorem eccUe_kept {μ : Nat} {s₀ : State} {s : State} (hs : Kept μ s₀ s) (tag : Nat) (a : Nat) (b : Nat)
    (hm : Within 0x48010000480100000060 μ) :
    Kept μ s₀ (eccUe s tag a b) := by
  unfold eccUe
  exact (State_event_kept (State_setFlt_kept (State_count_kept hs _ _ (Within.iteC (hm.sub rfl) (hm.sub rfl))) _ (hm.sub rfl) (hm.sub rfl)) _ _ _ _ _ _ (hm.sub rfl))

theorem eccRead_kept {μ : Nat} {s₀ : State} {s : State} (hs : Kept μ s₀ s) (init : Nat) (tag : Nat) (a : Nat) (n : Nat)
    (hm : Within 0x48010000480100000060 μ) :
    Kept μ s₀ (eccRead s init tag a n).2 := by
  unfold eccRead
  exact (Kept.ite2 (Kept.foldl hs (fun _ _ h => eccCe_kept h _ (hm.sub rfl)) _) (State_busError_kept (Kept.foldl (Kept.foldl hs (fun _ _ h => eccCe_kept h _ (hm.sub rfl)) _) (fun _ _ hz0 => (eccUe_kept hz0 _ _ _ (hm.sub rfl))) _) _ _ _ _ _ (hm.sub rfl)))

theorem eccWrite_kept {μ : Nat} {s₀ : State} {s : State} (hs : Kept μ s₀ s) (a : Nat) (n : Nat)
    (hm : Within 0x400 μ) :
    Kept μ s₀ (eccWrite s a n) := by
  unfold eccWrite; exact (Kept.upd_400 hs (hm.sub rfl))

theorem planeBytes_kept {μ : Nat} {s₀ : State} {s : State} (hs : Kept μ s₀ s) (a : Nat) (n : Nat)
    (hm : Within 0x40210000402100000040 μ) :
    Kept μ s₀ (planeBytes s a n).2 := by
  exact Kept.foldl_pair (p := ([], s)) hs (fun _ _ h => by dsimp only; exact readPlane_kept h _ _ (hm.sub rfl)) _

theorem lpddrRead_kept {μ : Nat} {s₀ : State} {p : Bool × State} (hp : Kept μ s₀ p.2) (tag : Nat) (a : Nat) (n : Nat)
    (hm : Within 0x40000000400000000400 μ) :
    Kept μ s₀ (lpddrRead tag a n p).2 := by
  unfold lpddrRead; exact (Kept.ite2 (useBytes_kept hp _ _ _ (hm.sub rfl)) hp)

theorem memRead_kept {μ : Nat} {s₀ : State} {s : State} (hs : Kept μ s₀ s) (init : Nat) (tag : Nat) (a : Nat) (n : Nat)
    (hm : Within 0x48610000486101000460 μ) :
    Kept μ s₀ (memRead s init tag a n).2 := by
  unfold memRead
  (try dsimp only)
  split
  · exact hs
  · exact (countBytes_kept (planeBytes_kept hs _ _ (hm.sub rfl)) _ _ _ (hm.sub rfl))
  · exact (Kept.ite2 (countBytes_kept (laneCeCount_kept hs _ _ (hm.sub rfl)) _ _ _ (hm.sub rfl)) (countBytes_kept (State_takeFree_kept (State_countBy_kept (State_setFlt_kept (State_countBy_kept (laneCeCount_kept hs _ _ (hm.sub rfl)) _ _ _ (hm.sub rfl)) _ (hm.sub rfl) (hm.sub rfl)) _ _ _ (hm.sub rfl)) (hm.sub rfl)) _ _ _ (hm.sub rfl)))
  · exact (Kept.ite2 (State_busError_kept hs _ _ _ _ _ (hm.sub rfl)) (lpddrRead_kept (eccRead_kept hs _ _ _ _ (hm.sub rfl)) _ _ _ (hm.sub rfl)))
  · exact (State_busError_kept hs _ _ _ _ _ (hm.sub rfl))
  · exact (State_busError_kept hs _ _ _ _ _ (hm.sub rfl))

theorem dropResv_kept {μ : Nat} {s₀ : State} {s : State} (hs : Kept μ s₀ s) (a : Nat) (n : Nat)
    (hm : Within 0x400000 μ) :
    Kept μ s₀ (dropResv s a n) := by
  unfold dropResv; exact (Kept.ite (Kept.upd_400000 hs (hm.sub rfl)) hs)

theorem memWrite_kept {μ : Nat} {s₀ : State} {s : State} (hs : Kept μ s₀ s) (init : Nat) (tag : Nat) (a : Nat) (l : List Nat)
    (hm : Within 0x48410000c84100400568 μ) :
    Kept μ s₀ (memWrite s init tag a l).2 := by
  unfold memWrite
  (try dsimp only)
  split
  · exact (State_busError_kept hs _ _ _ _ _ (hm.sub rfl))
  · exact (State_busError_kept hs _ _ _ _ _ (hm.sub rfl))
  · exact (Kept.ite2 (State_setFlt_kept (State_count_kept (State_busError_kept hs _ _ _ _ _ (hm.sub rfl)) _ _ (hm.sub rfl)) _ (hm.sub rfl) (hm.sub rfl)) (countBytes_kept (laneSound_kept (clearMeasured_kept (State_setMemBytes_kept hs _ _ (hm.sub rfl)) _ _ _ (hm.sub rfl)) _ _ (hm.sub rfl)) _ _ _ (hm.sub rfl)))
  · exact (Kept.ite2 (State_busError_kept hs _ _ _ _ _ (hm.sub rfl)) (useBytes_kept (eccWrite_kept (dropResv_kept (State_setMemBytes_kept hs _ _ (hm.sub rfl)) _ _ (hm.sub rfl)) _ _ (hm.sub rfl)) _ _ _ (hm.sub rfl)))
  · exact (State_busError_kept hs _ _ _ _ _ (hm.sub rfl))
  · exact (State_busError_kept hs _ _ _ _ _ (hm.sub rfl))

theorem bwViolation_kept {μ : Nat} {s₀ : State} {s : State} (hs : Kept μ s₀ s) (init : Nat) (p : Nat) (kind : Nat) (a : Nat)
    (hm : Within 0x494100004b4100000360 μ) :
    Kept μ s₀ (bwViolation s init p kind a) := by
  unfold bwViolation
  exact (Kept.ite (partPulse_kept (Kept.ite (State_event_kept (State_setFlt_kept (State_setFlag_kept (Kept.ite (State_setPartBit_kept (State_count_kept (State_count_kept hs _ _ (hm.sub rfl)) _ _ (hm.sub rfl)) _ _ _ (hm.sub rfl)) (Kept.setFld (Kept.setFld (Kept.setFld (Kept.setFld (State_setPartBit_kept (State_count_kept (State_count_kept hs _ _ (hm.sub rfl)) _ _ (hm.sub rfl)) _ _ _ (hm.sub rfl)) _ _ _ (hm.sub rfl)) _ _ _ (hm.sub rfl)) _ _ _ (hm.sub rfl)) _ _ _ (hm.sub rfl))) _ _ _ (hm.sub rfl)) _ (hm.sub rfl) (hm.sub rfl)) _ _ _ _ _ _ (hm.sub rfl)) (State_setFlt_kept (State_setFlag_kept (Kept.ite (State_setPartBit_kept (State_count_kept (State_count_kept hs _ _ (hm.sub rfl)) _ _ (hm.sub rfl)) _ _ _ (hm.sub rfl)) (Kept.setFld (Kept.setFld (Kept.setFld (Kept.setFld (State_setPartBit_kept (State_count_kept (State_count_kept hs _ _ (hm.sub rfl)) _ _ (hm.sub rfl)) _ _ _ (hm.sub rfl)) _ _ _ (hm.sub rfl)) _ _ _ (hm.sub rfl)) _ _ _ (hm.sub rfl)) _ _ _ (hm.sub rfl))) _ _ _ (hm.sub rfl)) _ (hm.sub rfl) (hm.sub rfl))) _ _ (hm.sub rfl)) (Kept.ite (State_event_kept (State_setFlt_kept (State_setFlag_kept (Kept.ite (State_setPartBit_kept (State_count_kept (State_count_kept hs _ _ (hm.sub rfl)) _ _ (hm.sub rfl)) _ _ _ (hm.sub rfl)) (Kept.setFld (Kept.setFld (Kept.setFld (Kept.setFld (State_setPartBit_kept (State_count_kept (State_count_kept hs _ _ (hm.sub rfl)) _ _ (hm.sub rfl)) _ _ _ (hm.sub rfl)) _ _ _ (hm.sub rfl)) _ _ _ (hm.sub rfl)) _ _ _ (hm.sub rfl)) _ _ _ (hm.sub rfl))) _ _ _ (hm.sub rfl)) _ (hm.sub rfl) (hm.sub rfl)) _ _ _ _ _ _ (hm.sub rfl)) (State_setFlt_kept (State_setFlag_kept (Kept.ite (State_setPartBit_kept (State_count_kept (State_count_kept hs _ _ (hm.sub rfl)) _ _ (hm.sub rfl)) _ _ _ (hm.sub rfl)) (Kept.setFld (Kept.setFld (Kept.setFld (Kept.setFld (State_setPartBit_kept (State_count_kept (State_count_kept hs _ _ (hm.sub rfl)) _ _ (hm.sub rfl)) _ _ _ (hm.sub rfl)) _ _ _ (hm.sub rfl)) _ _ _ (hm.sub rfl)) _ _ _ (hm.sub rfl)) _ _ _ (hm.sub rfl))) _ _ _ (hm.sub rfl)) _ (hm.sub rfl) (hm.sub rfl))))

theorem bwAdmit_kept {μ : Nat} {s₀ : State} {s : State} (hs : Kept μ s₀ s) (init : Nat) (p : Nat) (kind : Nat) (a : Nat) (n : Nat)
    (hm : Within 0x494100004b4100000360 μ) :
    Kept μ s₀ (bwAdmit s init p kind a n).2 := by
  unfold bwAdmit
  exact (Kept.ite2 (State_setFlt_kept (State_setFlag_kept (State_count_kept hs _ _ (hm.sub rfl)) _ _ _ (hm.sub rfl)) _ (hm.sub rfl) (hm.sub rfl)) (Kept.ite2 hs (bwViolation_kept hs _ _ _ _ (hm.sub rfl))))

theorem dmaRead_kept {μ : Nat} {s₀ : State} {s : State} (hs : Kept μ s₀ s) (init : Nat) (tag : Nat) (a : Nat) (n : Nat)
    (hm : Within 0x496100004b6101000760 μ) :
    Kept μ s₀ (dmaRead s init tag a n).2 := by
  unfold dmaRead
  exact (Kept.ite2 (memRead_kept (bwAdmit_kept hs _ _ _ _ _ (hm.sub rfl)) _ _ _ _ (hm.sub rfl)) (bwAdmit_kept hs _ _ _ _ _ (hm.sub rfl)))

theorem dmaWrite_kept {μ : Nat} {s₀ : State} {s : State} (hs : Kept μ s₀ s) (init : Nat) (tag : Nat) (a : Nat) (l : List Nat)
    (hm : Within 0x49410000cb4100400768 μ) :
    Kept μ s₀ (dmaWrite s init tag a l).2 := by
  unfold dmaWrite
  exact (Kept.ite2 (memWrite_kept (bwAdmit_kept hs _ _ _ _ _ (hm.sub rfl)) _ _ _ _ (hm.sub rfl)) (bwAdmit_kept hs _ _ _ _ _ (hm.sub rfl)))

theorem memRetrain_kept {μ : Nat} {s₀ : State} {s : State} (hs : Kept μ s₀ s) (mcb : Bool) (ok : Bool)
    (hm : Within 0x48010000480100000460 μ) :
    Kept μ s₀ (memRetrain s mcb ok) := by
  unfold memRetrain
  exact (Kept.ite (Kept.upd_400 hs (hm.sub rfl)) (Kept.ite (Kept.upd_400 hs (hm.sub rfl)) (Kept.ite hs (State_event_kept (State_setFlt_kept (State_setFlag_kept hs _ _ _ (Within.iteF (hm.sub rfl) (hm.sub rfl))) _ (hm.sub rfl) (hm.sub rfl)) _ _ _ _ _ _ (hm.sub rfl)))))

theorem execMemRetrain_kept {μ : Nat} {s₀ : State} {s : State} (hs : Kept μ s₀ s) (mcb : Bool) (ok : Bool)
    (hm : Within 0x48010000480100000460 μ) :
    KeptN μ s₀ (execMemRetrain mcb ok s) := by
  unfold execMemRetrain; exact (KeptN.next (Kept.live hs (fun _ hz0 => (memRetrain_kept hz0 _ _ (hm.sub rfl)))))

end Sys2Proof.Machine
end

