-- ==== Sys2Proof/Laws/KeptTideMap.lean ====
section
/-! SUPPORT. Each function of Machine/TideMap.lean keeps what `Kept` says. -/

set_option Elab.async false

namespace Sys2Proof.Machine

theorem tideMbx_kept {μ : Nat} {s₀ : State} {s : State} (hs : Kept μ s₀ s) (cmd : Nat) (f : State → Nat → Option (Nat × Nat × Bool))
    (hm : Within 0x800000004 μ) :
    Kept μ s₀ (tideMbx s cmd f) := by
  unfold tideMbx
  exact (Kept.ite (State_mbxRefuseBusy_kept hs _ (hm.sub rfl)) (Kept.ite (State_mbxRefuse_kept hs _ (hm.sub rfl)) (by (try dsimp only); split; (· exact (State_mbxStart_kept hs _ _ (hm.sub rfl) (hm.sub rfl))); (· exact (State_mbxRefuse_kept hs _ (hm.sub rfl))))))

theorem readLive_kept {μ : Nat} {s₀ : State} {s : State} (hs : Kept μ s₀ s)
    (hm : Within 0x800000004 μ) :
    Kept μ s₀ (readLive s) := by
  unfold readLive; exact (tideMbx_kept hs _ _ (hm.sub rfl))

theorem execReadLive_kept {μ : Nat} {s₀ : State} {s : State} (hs : Kept μ s₀ s)
    (hm : Within 0x800000004 μ) :
    KeptN μ s₀ (execReadLive s) := by
  unfold execReadLive; exact (KeptN.next (Kept.live hs (fun _ hz0 => (readLive_kept hz0 (hm.sub rfl)))))

theorem timeToAngCmd_kept {μ : Nat} {s₀ : State} {s : State} (hs : Kept μ s₀ s)
    (hm : Within 0x800000004 μ) :
    Kept μ s₀ (timeToAngCmd s) := by
  unfold timeToAngCmd; exact (tideMbx_kept hs _ _ (hm.sub rfl))

theorem execTimeToAng_kept {μ : Nat} {s₀ : State} {s : State} (hs : Kept μ s₀ s)
    (hm : Within 0x800000004 μ) :
    KeptN μ s₀ (execTimeToAng s) := by
  unfold execTimeToAng; exact (KeptN.next (Kept.live hs (fun _ hz0 => (timeToAngCmd_kept hz0 (hm.sub rfl)))))

theorem angToTimeCmd_kept {μ : Nat} {s₀ : State} {s : State} (hs : Kept μ s₀ s)
    (hm : Within 0x800000004 μ) :
    Kept μ s₀ (angToTimeCmd s) := by
  unfold angToTimeCmd; exact (tideMbx_kept hs _ _ (hm.sub rfl))

theorem execAngToTime_kept {μ : Nat} {s₀ : State} {s : State} (hs : Kept μ s₀ s)
    (hm : Within 0x800000004 μ) :
    KeptN μ s₀ (execAngToTime s) := by
  unfold execAngToTime; exact (KeptN.next (Kept.live hs (fun _ hz0 => (angToTimeCmd_kept hz0 (hm.sub rfl)))))

end Sys2Proof.Machine
end

