-- ==== Sys2Proof/Laws/KeptFdc.lean ====
section
/-! SUPPORT. Each function of Machine/Fdc.lean keeps what `Kept` says. -/

set_option Elab.async false

namespace Sys2Proof.Machine

theorem setChState_kept {μ : Nat} {s₀ : State} {s : State} (hs : Kept μ s₀ s) (c : Nat) (st : Nat)
    (hm : Within 0x2000000000 μ) :
    Kept μ s₀ (setChState s c st) := by
  unfold setChState; exact (Kept.setFld hs _ _ _ (hm.sub rfl))

theorem dropHistory_kept {μ : Nat} {s₀ : State} {s : State} (hs : Kept μ s₀ s) (c : Nat)
    (hm : Within 0x1000 μ) :
    Kept μ s₀ (dropHistory s c) := by
  unfold dropHistory; exact (State_setFch_kept hs _ _ (hm.sub rfl))

theorem unbindOne_kept {μ : Nat} {s₀ : State} {s : State} (hs : Kept μ s₀ s) (c : Nat)
    (hm : Within 0x2000001000 μ) :
    Kept μ s₀ (unbindOne s c) := by
  unfold unbindOne; exact (Kept.ite hs (setChState_kept (dropHistory_kept hs _ (hm.sub rfl)) _ _ (hm.sub rfl)))

theorem unbind_kept {μ : Nat} {s₀ : State} {s : State} (hs : Kept μ s₀ s) (c : Nat)
    (hm : Within 0x2000001000 μ) :
    Kept μ s₀ (unbind s c) := by
  unfold unbind; exact (Kept.foldl (unbindOne_kept hs _ (hm.sub rfl)) (fun _ _ h => unbindOne_kept h _ (hm.sub rfl)) _)

theorem resetOne_kept {μ : Nat} {s₀ : State} {s : State} (hs : Kept μ s₀ s) (c : Nat)
    (hm : Within 0x200000002000001000 μ) :
    Kept μ s₀ (resetOne s c) := by
  unfold resetOne
  exact (State_setFlag_kept (State_count_kept (State_count_kept (setChState_kept (dropHistory_kept hs _ (hm.sub rfl)) _ _ (hm.sub rfl)) _ _ (hm.sub rfl)) _ _ (hm.sub rfl)) _ _ _ (hm.sub rfl))

theorem voidRing_kept {μ : Nat} {s₀ : State} {s : State} (hs : Kept μ s₀ s) (c : Nat)
    (hm : Within 0x400 μ) :
    Kept μ s₀ (voidRing s c) := by
  unfold voidRing; exact (Kept.upd_400 hs (hm.sub rfl))

theorem bindOne_kept {μ : Nat} {s₀ : State} {s : State} (hs : Kept μ s₀ s) (c : Nat) (t : Nat) (x : RelVal)
    (hm : Within 0x2000001400 μ) :
    Kept μ s₀ (bindOne s c t x) := by
  unfold bindOne
  exact (State_setFch_kept (voidRing_kept (Kept.setFld (Kept.setFld hs _ _ _ (hm.sub rfl)) _ _ _ (hm.sub rfl)) _ (hm.sub rfl)) _ _ (hm.sub rfl))

theorem bind_kept {μ : Nat} {s₀ : State} {s : State} (hs : Kept μ s₀ s) (c : Nat) (x : RelVal)
    (hm : Within 0x40210000402100001440 μ) :
    Kept μ s₀ (bind s c x) := by
  unfold bind
  exact (Kept.ite (Kept.foldl (resetOne_kept (Kept.setFld (bindOne_kept hs _ _ _ (hm.sub rfl)) _ _ _ (hm.sub rfl)) _ (hm.sub rfl)) (fun _ _ hz0 => (resetOne_kept (bindOne_kept hz0 _ _ _ (hm.sub rfl)) _ (hm.sub rfl))) _) (State_setFlt_kept (State_setFlag_kept (setChState_kept (dropHistory_kept (Kept.foldl (Kept.setFld (bindOne_kept hs _ _ _ (hm.sub rfl)) _ _ _ (hm.sub rfl)) (fun _ _ h => unbindOne_kept h _ (hm.sub rfl)) _) _ (hm.sub rfl)) _ _ (hm.sub rfl)) _ _ _ (hm.sub rfl)) _ (hm.sub rfl) (hm.sub rfl)))

theorem takeInput_kept {μ : Nat} {s₀ : State} {s : State} (hs : Kept μ s₀ s) (c : Nat) (x : RelVal)
    (hm : Within 0x2000001000 μ) :
    Kept μ s₀ (takeInput s c x) := by
  unfold takeInput
  exact (Kept.ite (Kept.ite (setChState_kept (State_setFch_kept hs _ _ (hm.sub rfl)) _ _ (hm.sub rfl)) (State_setFch_kept hs _ _ (hm.sub rfl))) (Kept.ite (State_setFch_kept hs _ _ (hm.sub rfl)) (State_setFch_kept hs _ _ (hm.sub rfl))))

theorem resetWith_kept {μ : Nat} {s₀ : State} {s : State} (hs : Kept μ s₀ s) (c : Nat)
    (hm : Within 0x200000002000001000 μ) :
    Kept μ s₀ (resetWith s c) := by
  unfold resetWith; exact (Kept.foldl (resetOne_kept hs _ (hm.sub rfl)) (fun _ _ h => resetOne_kept h _ (hm.sub rfl)) _)

theorem slotValue_kept {μ : Nat} {s₀ : State} {s : State} (hs : Kept μ s₀ s) (c : Nat) (x : RelVal)
    (hm : Within 0x40210000402100001440 μ) :
    Kept μ s₀ (slotValue s c x) := by
  unfold slotValue
  exact (Kept.foldl (takeInput_kept (State_setFch_kept (Kept.ite (bind_kept hs _ _ (hm.sub rfl)) (Kept.ite (resetWith_kept hs _ (hm.sub rfl)) hs)) _ _ (hm.sub rfl)) _ _ (hm.sub rfl)) (fun _ _ hz0 => (takeInput_kept hz0 _ _ (hm.sub rfl))) _)

theorem rmsSources_kept {μ : Nat} {s₀ : State} {s : State} (hs : Kept μ s₀ s) (src : Nat) (m : Nat) (n : Nat)
    (hm : Within 0x40210000402100000040 μ) :
    Kept μ s₀ (rmsSources s src m n).2 := by
  exact Kept.foldl_pair (p := ([], s)) hs (fun _ _ h => by dsimp only; exact readPlane_kept h _ _ (hm.sub rfl)) _

theorem writeEntry_kept {μ : Nat} {s₀ : State} {s : State} (hs : Kept μ s₀ s) (c : Nat) (m : Nat) (v : Nat) (q : Nat) (past : Bool)
    (hm : Within 0x40210000402100001440 μ) :
    Kept μ s₀ (writeEntry s c m v q past) := by
  unfold writeEntry
  exact (Kept.ite (setChState_kept (State_setFch_kept (Kept.ite (State_count_kept (Kept.ite (State_setFlt_kept (State_setFlag_kept (State_count_kept (State_count_kept (Kept.setFld (State_count_kept (State_count_kept (State_setPlane_kept hs _ _ _ (hm.sub rfl)) _ _ (hm.sub rfl)) _ _ (hm.sub rfl)) _ _ _ (hm.sub rfl)) _ _ (hm.sub rfl)) _ _ (hm.sub rfl)) _ _ _ (hm.sub rfl)) _ (hm.sub rfl) (hm.sub rfl)) (Kept.setFld (State_count_kept (State_count_kept (State_setPlane_kept hs _ _ _ (hm.sub rfl)) _ _ (hm.sub rfl)) _ _ (hm.sub rfl)) _ _ _ (hm.sub rfl))) _ _ (hm.sub rfl)) (Kept.ite (State_setFlt_kept (State_setFlag_kept (State_count_kept (State_count_kept (Kept.setFld (State_count_kept (State_count_kept (State_setPlane_kept hs _ _ _ (hm.sub rfl)) _ _ (hm.sub rfl)) _ _ (hm.sub rfl)) _ _ _ (hm.sub rfl)) _ _ (hm.sub rfl)) _ _ (hm.sub rfl)) _ _ _ (hm.sub rfl)) _ (hm.sub rfl) (hm.sub rfl)) (Kept.setFld (State_count_kept (State_count_kept (State_setPlane_kept hs _ _ _ (hm.sub rfl)) _ _ (hm.sub rfl)) _ _ (hm.sub rfl)) _ _ _ (hm.sub rfl)))) _ _ (hm.sub rfl)) _ _ (hm.sub rfl)) (State_setFch_kept (Kept.ite (State_count_kept (Kept.ite (State_setFlt_kept (State_setFlag_kept (State_count_kept (State_count_kept (Kept.setFld (State_count_kept (State_count_kept (State_setPlane_kept hs _ _ _ (hm.sub rfl)) _ _ (hm.sub rfl)) _ _ (hm.sub rfl)) _ _ _ (hm.sub rfl)) _ _ (hm.sub rfl)) _ _ (hm.sub rfl)) _ _ _ (hm.sub rfl)) _ (hm.sub rfl) (hm.sub rfl)) (Kept.setFld (State_count_kept (State_count_kept (State_setPlane_kept hs _ _ _ (hm.sub rfl)) _ _ (hm.sub rfl)) _ _ (hm.sub rfl)) _ _ _ (hm.sub rfl))) _ _ (hm.sub rfl)) (Kept.ite (State_setFlt_kept (State_setFlag_kept (State_count_kept (State_count_kept (Kept.setFld (State_count_kept (State_count_kept (State_setPlane_kept hs _ _ _ (hm.sub rfl)) _ _ (hm.sub rfl)) _ _ (hm.sub rfl)) _ _ _ (hm.sub rfl)) _ _ (hm.sub rfl)) _ _ (hm.sub rfl)) _ _ _ (hm.sub rfl)) _ (hm.sub rfl) (hm.sub rfl)) (Kept.setFld (State_count_kept (State_count_kept (State_setPlane_kept hs _ _ _ (hm.sub rfl)) _ _ (hm.sub rfl)) _ _ (hm.sub rfl)) _ _ _ (hm.sub rfl)))) _ _ (hm.sub rfl)))

theorem rmsNext_kept {μ : Nat} {s₀ : State} {s : State} (hs : Kept μ s₀ s) (c : Nat) (m : Nat)
    (hm : Within 0x40210000402100001440 μ) :
    KeptO μ s₀ (rmsNext s c m) := by
  unfold rmsNext; exact (KeptO.ite KeptO.none (KeptO.some (writeEntry_kept (rmsSources_kept hs _ _ _ (hm.sub rfl)) _ _ _ _ _ (hm.sub rfl))))

theorem peakNext_kept {μ : Nat} {s₀ : State} {s : State} (hs : Kept μ s₀ s) (c : Nat) (m : Nat) (t : Nat)
    (hm : Within 0x40210000402100001440 μ) :
    Kept μ s₀ (peakNext s c m t) := by
  unfold peakNext
  exact (Kept.ite (writeEntry_kept hs _ _ _ _ _ (hm.sub rfl)) (writeEntry_kept (State_setFch_kept hs _ _ (hm.sub rfl)) _ _ _ _ _ (hm.sub rfl)))

theorem entryNow_kept {μ : Nat} {s₀ : State} {s : State} (hs : Kept μ s₀ s) (c : Nat) (m : Nat) (tns : Nat)
    (hm : Within 0x40210000402100001440 μ) :
    KeptO μ s₀ (entryNow s c m tns) := by
  unfold entryNow
  exact (KeptO.ite KeptO.none (KeptO.ite (KeptO.some (writeEntry_kept hs _ _ _ _ _ (hm.sub rfl))) (KeptO.ite (KeptO.some (writeEntry_kept hs _ _ _ _ _ (hm.sub rfl))) (KeptO.ite (rmsNext_kept hs _ _ (hm.sub rfl)) (KeptO.some (peakNext_kept hs _ _ _ (hm.sub rfl)))))))

theorem nextEntry_kept {μ : Nat} {s₀ : State} {s : State} (hs : Kept μ s₀ s) (c : Nat)
    (hm : Within 0x40210000402100001440 μ) :
    KeptO μ s₀ (nextEntry s c) := by
  exact KeptO.bind fun t => entryNow_kept hs _ _ t (hm.sub rfl)

theorem slotEntries_kept {μ : Nat} {s₀ : State} {s : State} (hs : Kept μ s₀ s) (c : Nat) (a3 : Nat)
    (hm : Within 0x40210000402100001440 μ) :
    Kept μ s₀ (slotEntries s c a3) := by
  induction a3 generalizing s with
  | zero => exact hs
  | succ n ih => exact ih (KeptO.getD (nextEntry_kept hs _ (hm.sub rfl)) hs)

theorem slotInputs_kept {μ : Nat} {s₀ : State} {s : State} (hs : Kept μ s₀ s) (g : Nat) (c : Nat)
    (hm : Within 0x40210000402100001440 μ) :
    Kept μ s₀ (slotInputs s g c) := by
  unfold slotInputs
  exact (Kept.foldl (Kept.ite (resetWith_kept (State_setFch_kept hs _ _ (hm.sub rfl)) _ (hm.sub rfl)) (State_setFch_kept hs _ _ (hm.sub rfl))) (fun _ _ hz0 => (slotValue_kept hz0 _ _ (hm.sub rfl))) _)

theorem slotDetector_kept {μ : Nat} {s₀ : State} {s : State} (hs : Kept μ s₀ s) (g : Nat) (c : Nat)
    (hm : Within 0x200000002000001000 μ) :
    Kept μ s₀ (slotDetector s g c) := by
  unfold slotDetector
  exact (Kept.ite (Kept.ite (resetOne_kept hs _ (hm.sub rfl)) hs) (Kept.foldl (Kept.ite (resetOne_kept hs _ (hm.sub rfl)) hs) (fun _ _ hz0 => (takeInput_kept hz0 _ _ (hm.sub rfl))) _))

theorem sweepSlot_kept {μ : Nat} {s₀ : State} {s : State} (hs : Kept μ s₀ s) (depth : Nat) (g : Nat) (c : Nat)
    (hm : Within 0x40210000402100001440 μ) :
    Kept μ s₀ (sweepSlot s depth g c) := by
  unfold sweepSlot
  exact (Kept.ite (slotEntries_kept (Kept.ite (slotInputs_kept hs _ _ (hm.sub rfl)) (slotDetector_kept hs _ _ (hm.sub rfl))) _ _ (hm.sub rfl)) (Kept.ite (slotInputs_kept hs _ _ (hm.sub rfl)) (slotDetector_kept hs _ _ (hm.sub rfl))))

theorem fdcSweep_kept {μ : Nat} {s₀ : State} {s : State} (hs : Kept μ s₀ s) (depth : Nat)
    (hm : Within 0x40210000402100001440 μ) :
    Kept μ s₀ (fdcSweep s depth) := by
  unfold fdcSweep
  exact (Kept.ite hs (Kept.ite hs (Kept.foldl (Kept.ite (State_setFlt_kept (State_count_kept (State_count_kept (Kept.upd_1000 hs (hm.sub rfl)) _ _ (hm.sub rfl)) _ _ (hm.sub rfl)) _ (hm.sub rfl) (hm.sub rfl)) (State_count_kept (Kept.upd_1000 hs (hm.sub rfl)) _ _ (hm.sub rfl))) (fun _ _ hz0 => (sweepSlot_kept hz0 _ _ _ (hm.sub rfl))) _)))

theorem execFdcSweep_kept {μ : Nat} {s₀ : State} {s : State} (hs : Kept μ s₀ s) (depth : Nat)
    (hm : Within 0x40210000402100001440 μ) :
    KeptN μ s₀ (execFdcSweep depth s) := by
  unfold execFdcSweep; exact (KeptN.next (Kept.live hs (fun _ hz0 => (fdcSweep_kept hz0 _ (hm.sub rfl)))))

theorem fdcChannelEnable_kept {μ : Nat} {s₀ : State} {s : State} (hs : Kept μ s₀ s) (c : Nat)
    (hm : Within 0x48010000482100001060 μ) :
    Kept μ s₀ (fdcChannelEnable s c) := by
  unfold fdcChannelEnable
  exact (Kept.ite hs (Kept.ite (State_rowLocked_kept hs _ _ _ (hm.sub rfl)) (Kept.ite (State_setFlt_kept (State_setFlag_kept hs _ _ _ (hm.sub rfl)) _ (hm.sub rfl) (hm.sub rfl)) (setChState_kept (State_setFch_kept (State_setFlag_kept hs _ _ _ (hm.sub rfl)) _ _ (hm.sub rfl)) _ _ (hm.sub rfl)))))

theorem execFdcChannelEnable_kept {μ : Nat} {s₀ : State} {s : State} (hs : Kept μ s₀ s) (c : Nat)
    (hm : Within 0x48010000482100001060 μ) :
    KeptN μ s₀ (execFdcChannelEnable c s) := by
  unfold execFdcChannelEnable; exact (KeptN.next (Kept.live hs (fun _ hz0 => (fdcChannelEnable_kept hz0 _ (hm.sub rfl)))))

theorem fdcChannelDisable_kept {μ : Nat} {s₀ : State} {s : State} (hs : Kept μ s₀ s) (c : Nat)
    (hm : Within 0x48010000482100001060 μ) :
    Kept μ s₀ (fdcChannelDisable s c) := by
  unfold fdcChannelDisable
  exact (Kept.ite hs (Kept.ite (State_rowLocked_kept hs _ _ _ (hm.sub rfl)) (Kept.ite (Kept.foldl (setChState_kept (State_setFch_kept (State_setFlag_kept hs _ _ _ (hm.sub rfl)) _ _ (hm.sub rfl)) _ _ (hm.sub rfl)) (fun _ _ h => unbindOne_kept h _ (hm.sub rfl)) _) (setChState_kept (State_setFch_kept (State_setFlag_kept hs _ _ _ (hm.sub rfl)) _ _ (hm.sub rfl)) _ _ (hm.sub rfl)))))

theorem execFdcChannelDisable_kept {μ : Nat} {s₀ : State} {s : State} (hs : Kept μ s₀ s) (c : Nat)
    (hm : Within 0x48010000482100001060 μ) :
    KeptN μ s₀ (execFdcChannelDisable c s) := by
  unfold execFdcChannelDisable; exact (KeptN.next (Kept.live hs (fun _ hz0 => (fdcChannelDisable_kept hz0 _ (hm.sub rfl)))))

theorem fdcDisable_kept {μ : Nat} {s₀ : State} {s : State} (hs : Kept μ s₀ s)
    (hm : Within 0x2000001000 μ) :
    Kept μ s₀ (fdcDisable s) := by
  unfold fdcDisable
  exact (Kept.foldl (State_setFlag_kept hs _ _ _ (hm.sub rfl)) (fun _ _ hz0 => (unbindOne_kept (State_setFch_kept hz0 _ _ (hm.sub rfl)) _ (hm.sub rfl))) _)

theorem fdcDisableRow_kept {μ : Nat} {s₀ : State} {s : State} (hs : Kept μ s₀ s)
    (hm : Within 0x48010000482100001060 μ) :
    Kept μ s₀ (fdcDisableRow s) := by
  unfold fdcDisableRow; exact (Kept.ite (State_rowLocked_kept hs _ _ _ (hm.sub rfl)) (fdcDisable_kept hs (hm.sub rfl)))

theorem execFdcDisable_kept {μ : Nat} {s₀ : State} {s : State} (hs : Kept μ s₀ s)
    (hm : Within 0x48010000482100001060 μ) :
    KeptN μ s₀ (execFdcDisable s) := by
  unfold execFdcDisable; exact (KeptN.next (Kept.live hs (fun _ hz0 => (fdcDisableRow_kept hz0 (hm.sub rfl)))))

theorem fdcGroupOff_kept {μ : Nat} {s₀ : State} {s : State} (hs : Kept μ s₀ s) (g : Nat)
    (hm : Within 0x2000001000 μ) :
    Kept μ s₀ (fdcGroupOff s g) := by
  unfold fdcGroupOff; exact (Kept.foldl hs (fun _ _ h => unbindOne_kept h _ (hm.sub rfl)) _)

theorem fdcGroupOn_kept {μ : Nat} {s₀ : State} {s : State} (hs : Kept μ s₀ s) (g : Nat)
    (hm : Within 0x1000 μ) :
    Kept μ s₀ (fdcGroupOn s g) := by
  unfold fdcGroupOn; exact (Kept.foldl hs (fun _ _ hz0 => (State_setFch_kept hz0 _ _ (hm.sub rfl))) _)

theorem fdcStep_kept {μ : Nat} {s₀ : State} {s : State} (hs : Kept μ s₀ s) (d : Int)
    (hm : Within 0x1000 μ) :
    Kept μ s₀ (fdcStep s d) := by
  unfold fdcStep; exact (Kept.upd_1000 hs (hm.sub rfl))

theorem requestReset_kept {μ : Nat} {s₀ : State} {s : State} (hs : Kept μ s₀ s) (c : Nat)
    (hm : Within 0x1000 μ) :
    Kept μ s₀ (requestReset s c) := by
  unfold requestReset; exact (Kept.ite (State_setFch_kept hs _ _ (hm.sub rfl)) hs)

theorem syncResetChannel_kept {μ : Nat} {s₀ : State} {s : State} (hs : Kept μ s₀ s)
    (hm : Within 0x1000 μ) :
    Kept μ s₀ (syncResetChannel s) := by
  unfold syncResetChannel; exact (requestReset_kept hs _ (hm.sub rfl))

theorem execSyncResetChannel_kept {μ : Nat} {s₀ : State} {s : State} (hs : Kept μ s₀ s)
    (hm : Within 0x1000 μ) :
    KeptN μ s₀ (execSyncResetChannel s) := by
  unfold execSyncResetChannel; exact (KeptN.next (Kept.live hs (fun _ hz0 => (syncResetChannel_kept hz0 (hm.sub rfl)))))

theorem syncResetGroup_kept {μ : Nat} {s₀ : State} {s : State} (hs : Kept μ s₀ s) (g : Nat)
    (hm : Within 0x1000 μ) :
    Kept μ s₀ (syncResetGroup s g) := by
  unfold syncResetGroup; exact (Kept.foldl hs (fun _ _ h => requestReset_kept h _ (hm.sub rfl)) _)

theorem execSyncResetGroup_kept {μ : Nat} {s₀ : State} {s : State} (hs : Kept μ s₀ s) (g : Nat)
    (hm : Within 0x1000 μ) :
    KeptN μ s₀ (execSyncResetGroup g s) := by
  unfold execSyncResetGroup; exact (KeptN.next (Kept.live hs (fun _ hz0 => (syncResetGroup_kept hz0 _ (hm.sub rfl)))))

end Sys2Proof.Machine
end

