-- ==== Sys2Proof/Laws/KeptGate.lean ====
section
/-! SUPPORT. Each function of Machine/Gate.lean keeps what `Kept` says. -/

set_option Elab.async false

namespace Sys2Proof.Machine

theorem gateFlt_kept {μ : Nat} {s₀ : State} {s : State} (hs : Kept μ s₀ s) (n : Nat) (f : Fld) (dev : Fld)
    (hb1 : Within (blkBits dev.blk) μ)
    (hb2 : Within (blkBits f.blk) μ)
    (hm : Within 0x40010000400100000040 μ) :
    Kept μ s₀ (gateFlt s n f dev) := by
  unfold gateFlt; exact (State_setFlt_kept (State_setFlag_kept hs _ _ _ (by exact hb2)) _ (by exact hb1) (hm.sub rfl))

theorem gateReloadAt_kept {μ : Nat} {s₀ : State} {s : State} (hs : Kept μ s₀ s) (n : Nat) (r : Nat)
    (hm : Within 0x40010000410100000240 μ) :
    Kept μ s₀ (gateReloadAt s n r) := by
  unfold gateReloadAt
  exact (State_setFlag_kept (State_setGch_kept (by (try dsimp only); split; (· exact (Kept.ite (by (try dsimp only); split; (· exact (Kept.ite (Kept.setFld hs _ _ _ (hm.sub rfl)) hs)); (· exact hs)) (Kept.ite (gateFlt_kept (Kept.setFld (by (try dsimp only); split; (· exact (Kept.ite (Kept.setFld hs _ _ _ (hm.sub rfl)) hs)); (· exact hs)) _ _ _ (hm.sub rfl)) _ _ _ (hm.sub rfl) (hm.sub rfl) (hm.sub rfl)) (Kept.setFld (by (try dsimp only); split; (· exact (Kept.ite (Kept.setFld hs _ _ _ (hm.sub rfl)) hs)); (· exact hs)) _ _ _ (hm.sub rfl))))); (· exact (by (try dsimp only); split; (· exact (Kept.ite (Kept.setFld hs _ _ _ (hm.sub rfl)) hs)); (· exact hs)))) _ _ (hm.sub rfl)) _ _ _ (hm.sub rfl))

theorem startPeriod_kept {μ : Nat} {s₀ : State} {s : State} (hs : Kept μ s₀ s) (n : Nat) (r : Nat)
    (hm : Within 0x41010000410100000240 μ) :
    Kept μ s₀ (startPeriod s n r) := by
  unfold startPeriod; exact (State_setGch_kept (State_count_kept (gateReloadAt_kept hs _ _ (hm.sub rfl)) _ _ (hm.sub rfl)) _ _ (hm.sub rfl))

theorem gateReload_kept {μ : Nat} {s₀ : State} {s : State} (hs : Kept μ s₀ s) (n : Nat)
    (hm : Within 0x41010000410100000240 μ) :
    Kept μ s₀ (gateReload s n) := by
  unfold gateReload; exact (Kept.ite (startPeriod_kept hs _ _ (hm.sub rfl)) hs)

theorem execGateReload_kept {μ : Nat} {s₀ : State} {s : State} (hs : Kept μ s₀ s) (n : Nat)
    (hm : Within 0x41010000410100000240 μ) :
    KeptN μ s₀ (execGateReload n s) := by
  unfold execGateReload; exact (KeptN.next (Kept.live hs (fun _ hz0 => (gateReload_kept hz0 _ (hm.sub rfl)))))

theorem gateDutyEnd_kept {μ : Nat} {s₀ : State} {s : State} (hs : Kept μ s₀ s) (n : Nat)
    (hm : Within 0x200 μ) :
    Kept μ s₀ (gateDutyEnd s n) := by
  unfold gateDutyEnd; exact (Kept.ite (State_setGch_kept hs _ _ (hm.sub rfl)) hs)

theorem execGateDutyEnd_kept {μ : Nat} {s₀ : State} {s : State} (hs : Kept μ s₀ s) (n : Nat)
    (hm : Within 0x200 μ) :
    KeptN μ s₀ (execGateDutyEnd n s) := by
  unfold execGateDutyEnd; exact (KeptN.next (Kept.live hs (fun _ hz0 => (gateDutyEnd_kept hz0 _ (hm.sub rfl)))))

theorem gateRefreshStart_kept {μ : Nat} {s₀ : State} {s : State} (hs : Kept μ s₀ s) (n : Nat)
    (hm : Within 0x1000000010000000200 μ) :
    Kept μ s₀ (gateRefreshStart s n) := by
  unfold gateRefreshStart; exact (Kept.ite (State_setGch_kept (State_count_kept hs _ _ (hm.sub rfl)) _ _ (hm.sub rfl)) hs)

theorem execGateRefreshStart_kept {μ : Nat} {s₀ : State} {s : State} (hs : Kept μ s₀ s) (n : Nat)
    (hm : Within 0x1000000010000000200 μ) :
    KeptN μ s₀ (execGateRefreshStart n s) := by
  unfold execGateRefreshStart; exact (KeptN.next (Kept.live hs (fun _ hz0 => (gateRefreshStart_kept hz0 _ (hm.sub rfl)))))

theorem gateRefreshEnd_kept {μ : Nat} {s₀ : State} {s : State} (hs : Kept μ s₀ s) (n : Nat)
    (hm : Within 0x200 μ) :
    Kept μ s₀ (gateRefreshEnd s n) := by
  unfold gateRefreshEnd; (try dsimp only); split; (· exact (Kept.ite (State_setGch_kept hs _ _ (hm.sub rfl)) hs)); (· exact hs)

theorem execGateRefreshEnd_kept {μ : Nat} {s₀ : State} {s : State} (hs : Kept μ s₀ s) (n : Nat)
    (hm : Within 0x200 μ) :
    KeptN μ s₀ (execGateRefreshEnd n s) := by
  unfold execGateRefreshEnd; exact (KeptN.next (Kept.live hs (fun _ hz0 => (gateRefreshEnd_kept hz0 _ (hm.sub rfl)))))

theorem gateCommit_kept {μ : Nat} {s₀ : State} {s : State} (hs : Kept μ s₀ s) (n : Nat)
    (hm : Within 0x41010000410100000240 μ) :
    Kept μ s₀ (gateCommit s n) := by
  unfold gateCommit
  exact (Kept.ite hs (Kept.ite (gateFlt_kept (State_count_kept hs _ _ (hm.sub rfl)) _ _ _ (hm.sub rfl) (hm.sub rfl) (hm.sub rfl)) (State_count_kept (State_setFlag_kept (State_setFlag_kept (State_setFlag_kept (State_setGch_kept hs _ _ (hm.sub rfl)) _ _ _ (hm.sub rfl)) _ _ _ (hm.sub rfl)) _ _ _ (hm.sub rfl)) _ _ (hm.sub rfl))))

theorem execGateCommit_kept {μ : Nat} {s₀ : State} {s : State} (hs : Kept μ s₀ s) (n : Nat)
    (hm : Within 0x41010000410100000240 μ) :
    KeptN μ s₀ (execGateCommit n s) := by
  unfold execGateCommit; exact (KeptN.next (Kept.live hs (fun _ hz0 => (gateCommit_kept hz0 _ (hm.sub rfl)))))

theorem startPulse_kept {μ : Nat} {s₀ : State} {s : State} (hs : Kept μ s₀ s) (n : Nat) (t : Nat)
    (hm : Within 0x40010000410100000240 μ) :
    Kept μ s₀ (startPulse s n t) := by
  unfold startPulse; exact (setGateState_kept (State_setGch_kept (gateReloadAt_kept hs _ _ (hm.sub rfl)) _ _ (hm.sub rfl)) _ _ (hm.sub rfl))

theorem endPulse_kept {μ : Nat} {s₀ : State} {s : State} (hs : Kept μ s₀ s) (n : Nat)
    (hm : Within 0x1000000010000000200 μ) :
    Kept μ s₀ (endPulse s n) := by
  unfold endPulse; exact (State_count_kept (setGateState_kept (State_setGch_kept hs _ _ (hm.sub rfl)) _ _ (hm.sub rfl)) _ _ (hm.sub rfl))

theorem gatePulseEnd_kept {μ : Nat} {s₀ : State} {s : State} (hs : Kept μ s₀ s) (n : Nat)
    (hm : Within 0x1000000010000000200 μ) :
    Kept μ s₀ (gatePulseEnd s n) := by
  unfold gatePulseEnd; (try dsimp only); split; (· exact (Kept.ite (endPulse_kept hs _ (hm.sub rfl)) hs)); (· exact hs)

theorem execGatePulseEnd_kept {μ : Nat} {s₀ : State} {s : State} (hs : Kept μ s₀ s) (n : Nat)
    (hm : Within 0x1000000010000000200 μ) :
    KeptN μ s₀ (execGatePulseEnd n s) := by
  unfold execGatePulseEnd; exact (KeptN.next (Kept.live hs (fun _ hz0 => (gatePulseEnd_kept hz0 _ (hm.sub rfl)))))

theorem gateArm_kept {μ : Nat} {s₀ : State} {s : State} (hs : Kept μ s₀ s) (n : Nat) (t : Nat) (ang : Nat)
    (hm : Within 0x49010000490100000260 μ) :
    Kept μ s₀ (gateArm s n t ang) := by
  unfold gateArm
  (try dsimp only)
  split
  · exact (State_count_kept (setGateState_kept (State_setGch_kept hs _ _ (hm.sub rfl)) _ _ (hm.sub rfl)) _ _ (hm.sub rfl))
  · exact (State_event_kept (gateFlt_kept (State_count_kept hs _ _ (hm.sub rfl)) _ _ _ (hm.sub rfl) (hm.sub rfl) (hm.sub rfl)) _ _ _ _ _ _ (hm.sub rfl))

theorem gateCancel_kept {μ : Nat} {s₀ : State} {s : State} (hs : Kept μ s₀ s) (n : Nat) (cause : Nat)
    (hm : Within 0x49010000490100000260 μ) :
    Kept μ s₀ (gateCancel s n cause) := by
  unfold gateCancel
  exact (State_event_kept (gateFlt_kept (State_count_kept (setGateState_kept (State_setGch_kept hs _ _ (hm.sub rfl)) _ _ (hm.sub rfl)) _ _ (hm.sub rfl)) _ _ _ (hm.sub rfl) (hm.sub rfl) (hm.sub rfl)) _ _ _ _ _ _ (hm.sub rfl))

theorem gateReconvert_kept {μ : Nat} {s₀ : State} {s : State} (hs : Kept μ s₀ s) (g : Nat)
    (hm : Within 0x49010000490100000260 μ) :
    Kept μ s₀ (gateReconvert s g) := by
  unfold gateReconvert
  exact (Kept.foldl hs (fun _ _ hz0 => (Kept.ite (Kept.ite (gateCancel_kept hz0 _ _ (hm.sub rfl)) (Kept.ite hz0 (by (try dsimp only); split; (· exact (gateCancel_kept hz0 _ _ (hm.sub rfl))); (· exact (State_setGch_kept hz0 _ _ (hm.sub rfl)))))) hz0)) _)

theorem gateStep_kept {μ : Nat} {s₀ : State} {s : State} (hs : Kept μ s₀ s) (d : Int)
    (hm : Within 0x200 μ) :
    Kept μ s₀ (gateStep s d) := by
  unfold gateStep; exact (Kept.foldl hs (fun _ _ hz0 => (Kept.ite (State_setGch_kept hz0 _ _ (hm.sub rfl)) hz0)) _)

theorem gateInstantFixed_kept {μ : Nat} {s₀ : State} {s : State} (hs : Kept μ s₀ s) (n : Nat)
    (hm : Within 0x200 μ) :
    Kept μ s₀ (gateInstantFixed s n) := by
  unfold gateInstantFixed; exact (Kept.ite (State_setGch_kept hs _ _ (hm.sub rfl)) hs)

theorem execGateInstantFixed_kept {μ : Nat} {s₀ : State} {s : State} (hs : Kept μ s₀ s) (n : Nat)
    (hm : Within 0x200 μ) :
    KeptN μ s₀ (execGateInstantFixed n s) := by
  unfold execGateInstantFixed; exact (KeptN.next (Kept.live hs (fun _ hz0 => (gateInstantFixed_kept hz0 _ (hm.sub rfl)))))

theorem gateScheduledRise_kept {μ : Nat} {s₀ : State} {s : State} (hs : Kept μ s₀ s) (n : Nat)
    (hm : Within 0x40010000410100000240 μ) :
    Kept μ s₀ (gateScheduledRise s n) := by
  unfold gateScheduledRise; exact (Kept.ite (startPulse_kept hs _ _ (hm.sub rfl)) hs)

theorem execGateScheduledRise_kept {μ : Nat} {s₀ : State} {s : State} (hs : Kept μ s₀ s) (n : Nat)
    (hm : Within 0x40010000410100000240 μ) :
    KeptN μ s₀ (execGateScheduledRise n s) := by
  unfold execGateScheduledRise; exact (KeptN.next (Kept.live hs (fun _ hz0 => (gateScheduledRise_kept hz0 _ (hm.sub rfl)))))

theorem gateCommand_kept {μ : Nat} {s₀ : State} {s : State} (hs : Kept μ s₀ s) (n : Nat) (t : Nat) (tdev : Nat) (ang : Nat) (prev : Bool) (cmd : Bool)
    (hm : Within 0x49010000490100000260 μ) :
    Kept μ s₀ (gateCommand s n t tdev ang prev cmd) := by
  unfold gateCommand
  exact (Kept.ite (Kept.ite (Kept.ite (startPeriod_kept (setGateState_kept (State_setGch_kept hs _ _ (hm.sub rfl)) _ _ (hm.sub rfl)) _ _ (hm.sub rfl)) hs) (Kept.ite (Kept.ite (startPulse_kept hs _ _ (hm.sub rfl)) (gateArm_kept hs _ _ _ (hm.sub rfl))) hs)) (Kept.ite (Kept.ite hs (setGateState_kept (State_setGch_kept hs _ _ (hm.sub rfl)) _ _ (hm.sub rfl))) (Kept.ite (Kept.ite (State_count_kept hs _ _ (hm.sub rfl)) (Kept.ite (setGateState_kept (State_setGch_kept hs _ _ (hm.sub rfl)) _ _ (hm.sub rfl)) hs)) (Kept.ite (Kept.ite (State_count_kept hs _ _ (hm.sub rfl)) (Kept.ite (endPulse_kept hs _ (hm.sub rfl)) hs)) hs))))

theorem dutyWord_kept {μ : Nat} {s₀ : State} {s : State} (hs : Kept μ s₀ s) (n : Nat) (r : GateRec)
    (hm : Within 0x10000000200 μ) :
    Kept μ s₀ (dutyWord s n r) := by
  unfold dutyWord; exact (Kept.ite (State_setFlag_kept (State_setGch_kept hs _ _ (hm.sub rfl)) _ _ _ (hm.sub rfl)) hs)

theorem gateTrigger_kept {μ : Nat} {s₀ : State} {s : State} (hs : Kept μ s₀ s) (n : Nat)
    (hm : Within 0x49010000490100000260 μ) :
    Kept μ s₀ (gateTrigger s n) := by
  unfold gateTrigger
  (try dsimp only)
  split
  · exact hs
  · exact (Kept.ite hs (Kept.ite (dutyWord_kept (Kept.ite (enterSafe_kept (State_setGch_kept hs _ _ (hm.sub rfl)) _ _ (hm.sub rfl)) (State_setGch_kept hs _ _ (hm.sub rfl))) _ _ (hm.sub rfl)) (gateCommand_kept (dutyWord_kept (Kept.ite (enterSafe_kept (State_setGch_kept hs _ _ (hm.sub rfl)) _ _ (hm.sub rfl)) (State_setGch_kept hs _ _ (hm.sub rfl))) _ _ (hm.sub rfl)) _ _ _ _ _ _ (hm.sub rfl))))

theorem execGateTrigger_kept {μ : Nat} {s₀ : State} {s : State} (hs : Kept μ s₀ s) (n : Nat)
    (hm : Within 0x49010000490100000260 μ) :
    KeptN μ s₀ (execGateTrigger n s) := by
  unfold execGateTrigger; exact (KeptN.next (Kept.live hs (fun _ hz0 => (gateTrigger_kept hz0 _ (hm.sub rfl)))))

theorem gateRecord_kept {μ : Nat} {s₀ : State} {s : State} (hs : Kept μ s₀ s) (n : Nat) (ob : Nat → Bool) (duty : Nat) (ang : Nat) (committed : Bool)
    (hm : Within 0x200 μ) :
    Kept μ s₀ (gateRecord s n ob duty ang committed) := by
  unfold gateRecord; exact (Kept.ite hs (State_setGch_kept hs _ _ (hm.sub rfl)))

theorem gateEnable_kept {μ : Nat} {s₀ : State} {s : State} (hs : Kept μ s₀ s) (n : Nat)
    (hm : Within 0x49010000490100000260 μ) :
    Kept μ s₀ (gateEnable s n) := by
  unfold gateEnable
  exact (Kept.ite hs (Kept.ite (gateFlt_kept hs _ _ _ (hm.sub rfl) (hm.sub rfl) (hm.sub rfl)) (Kept.ite (enterSafe_kept (setGateState_kept (State_setGch_kept (State_setFlag_kept (State_setFlag_kept (Kept.setFld (Kept.setFld (State_setFlag_kept (State_setFlag_kept hs _ _ _ (hm.sub rfl)) _ _ _ (hm.sub rfl)) _ _ _ (hm.sub rfl)) _ _ _ (hm.sub rfl)) _ _ _ (hm.sub rfl)) _ _ _ (hm.sub rfl)) _ _ (hm.sub rfl)) _ _ (hm.sub rfl)) _ _ (hm.sub rfl)) (Kept.ite (enterSafe_kept (setGateState_kept (State_setGch_kept (State_setFlag_kept (State_setFlag_kept (Kept.setFld (Kept.setFld (State_setFlag_kept (State_setFlag_kept hs _ _ _ (hm.sub rfl)) _ _ _ (hm.sub rfl)) _ _ _ (hm.sub rfl)) _ _ _ (hm.sub rfl)) _ _ _ (hm.sub rfl)) _ _ _ (hm.sub rfl)) _ _ (hm.sub rfl)) _ _ (hm.sub rfl)) _ _ (hm.sub rfl)) (setGateState_kept (State_setGch_kept (State_setFlag_kept (State_setFlag_kept (Kept.setFld (Kept.setFld (State_setFlag_kept (State_setFlag_kept hs _ _ _ (hm.sub rfl)) _ _ _ (hm.sub rfl)) _ _ _ (hm.sub rfl)) _ _ _ (hm.sub rfl)) _ _ _ (hm.sub rfl)) _ _ _ (hm.sub rfl)) _ _ (hm.sub rfl)) _ _ (hm.sub rfl))))))

theorem execGateChannelEnable_kept {μ : Nat} {s₀ : State} {s : State} (hs : Kept μ s₀ s) (n : Nat)
    (hm : Within 0x49010000490100000260 μ) :
    KeptN μ s₀ (execGateChannelEnable n s) := by
  unfold execGateChannelEnable; exact (KeptN.next (Kept.live hs (fun _ hz0 => (gateEnable_kept hz0 _ (hm.sub rfl)))))

theorem gateDisable_kept {μ : Nat} {s₀ : State} {s : State} (hs : Kept μ s₀ s) (n : Nat)
    (hm : Within 0x10000000200 μ) :
    Kept μ s₀ (gateDisable s n) := by
  unfold gateDisable
  exact (Kept.ite hs (setGateState_kept (State_setGch_kept (State_setFlag_kept (State_setFlag_kept hs _ _ _ (hm.sub rfl)) _ _ _ (hm.sub rfl)) _ _ (hm.sub rfl)) _ _ (hm.sub rfl)))

theorem execGateChannelDisable_kept {μ : Nat} {s₀ : State} {s : State} (hs : Kept μ s₀ s) (n : Nat)
    (hm : Within 0x10000000200 μ) :
    KeptN μ s₀ (execGateChannelDisable n s) := by
  unfold execGateChannelDisable; exact (KeptN.next (Kept.live hs (fun _ hz0 => (gateDisable_kept hz0 _ (hm.sub rfl)))))

theorem safeNAssert_kept {μ : Nat} {s₀ : State} {s : State} (hs : Kept μ s₀ s) (k : Nat) (widthNs : Nat)
    (hm : Within 0x49010000490101000260 μ) :
    Kept μ s₀ (safeNAssert s k widthNs) := by
  unfold safeNAssert
  exact (Kept.ite hs (Kept.ite (Kept.foldl (State_setFbit_kept hs _ _ _ _ (hm.sub rfl)) (fun _ _ hz0 => (Kept.ite (enterSafe_kept hz0 _ _ (hm.sub rfl)) hz0)) _) (Kept.ite (Kept.foldl (State_setFbit_kept (State_takeFree_kept hs (hm.sub rfl)) _ _ _ _ (hm.sub rfl)) (fun _ _ hz0 => (Kept.ite (enterSafe_kept hz0 _ _ (hm.sub rfl)) hz0)) _) (State_takeFree_kept hs (hm.sub rfl)))))

theorem execSafeNAssert_kept {μ : Nat} {s₀ : State} {s : State} (hs : Kept μ s₀ s) (k : Nat) (widthNs : Nat)
    (hm : Within 0x49010000490101000260 μ) :
    KeptN μ s₀ (execSafeNAssert k widthNs s) := by
  unfold execSafeNAssert; exact (KeptN.next (Kept.live hs (fun _ hz0 => (safeNAssert_kept hz0 _ _ (hm.sub rfl)))))

theorem safeNRelease_kept {μ : Nat} {s₀ : State} {s : State} (hs : Kept μ s₀ s) (k : Nat)
    (hm : Within 0x10000000000 μ) :
    Kept μ s₀ (safeNRelease s k) := by
  unfold safeNRelease; exact (Kept.ite hs (State_setFbit_kept hs _ _ _ _ (hm.sub rfl)))

theorem execSafeNRelease_kept {μ : Nat} {s₀ : State} {s : State} (hs : Kept μ s₀ s) (k : Nat)
    (hm : Within 0x10000000000 μ) :
    KeptN μ s₀ (execSafeNRelease k s) := by
  unfold execSafeNRelease; exact (KeptN.next (Kept.live hs (fun _ hz0 => (safeNRelease_kept hz0 _ (hm.sub rfl)))))

theorem gateFreeze_kept {μ : Nat} {s₀ : State} {s : State} (hs : Kept μ s₀ s)
    (hm : Within 0x49010000490100000260 μ) :
    Kept μ s₀ (gateFreeze s) := by
  unfold gateFreeze
  exact (Kept.ite hs (State_count_kept (State_setFlt_kept (State_setFlag_kept (Kept.foldl hs (fun _ _ hz0 => (Kept.ite (gateCancel_kept hz0 _ _ (hm.sub rfl)) hz0)) _) _ _ _ (hm.sub rfl)) _ (hm.sub rfl) (hm.sub rfl)) _ _ (hm.sub rfl)))

theorem execGateFreeze_kept {μ : Nat} {s₀ : State} {s : State} (hs : Kept μ s₀ s)
    (hm : Within 0x49010000490100000260 μ) :
    KeptN μ s₀ (execGateFreeze s) := by
  unfold execGateFreeze; exact (KeptN.next (Kept.live hs (fun _ hz0 => (gateFreeze_kept hz0 (hm.sub rfl)))))

theorem gateUnfreeze_kept {μ : Nat} {s₀ : State} {s : State} (hs : Kept μ s₀ s)
    (hm : Within 0x10000000000 μ) :
    Kept μ s₀ (gateUnfreeze s) := by
  unfold gateUnfreeze; exact (State_setFlag_kept hs _ _ _ (hm.sub rfl))

theorem execGateUnfreeze_kept {μ : Nat} {s₀ : State} {s : State} (hs : Kept μ s₀ s)
    (hm : Within 0x10000000000 μ) :
    KeptN μ s₀ (execGateUnfreeze s) := by
  unfold execGateUnfreeze; exact (KeptN.next (Kept.live hs (fun _ hz0 => (gateUnfreeze_kept hz0 (hm.sub rfl)))))

theorem pwmClockReturn_kept {μ : Nat} {s₀ : State} {s : State} (hs : Kept μ s₀ s)
    (hm : Within 0x49010000490100000260 μ) :
    Kept μ s₀ (pwmClockReturn s) := by
  unfold pwmClockReturn
  exact (Kept.ite hs (State_count_kept (State_setFlt_kept (Kept.foldl (Kept.upd_200 hs (hm.sub rfl)) (fun _ _ hz0 => (enterSafe_kept hz0 _ _ (hm.sub rfl))) _) _ (hm.sub rfl) (hm.sub rfl)) _ _ (hm.sub rfl)))

theorem execPwmClockReturn_kept {μ : Nat} {s₀ : State} {s : State} (hs : Kept μ s₀ s)
    (hm : Within 0x49010000490100000260 μ) :
    KeptN μ s₀ (execPwmClockReturn s) := by
  unfold execPwmClockReturn; exact (KeptN.next (Kept.live hs (fun _ hz0 => (pwmClockReturn_kept hz0 (hm.sub rfl)))))

theorem gateCalibration_kept {μ : Nat} {s₀ : State} {s : State} (hs : Kept μ s₀ s) (ok : Bool)
    (hm : Within 0x41010000410100000040 μ) :
    Kept μ s₀ (gateCalibration s ok) := by
  unfold gateCalibration
  exact (Kept.ite (State_setFlag_kept hs _ _ _ (hm.sub rfl)) (State_count_kept (State_setFlt_kept hs _ (hm.sub rfl) (hm.sub rfl)) _ _ (hm.sub rfl)))

theorem execGateCalibration_kept {μ : Nat} {s₀ : State} {s : State} (hs : Kept μ s₀ s) (ok : Bool)
    (hm : Within 0x41010000410100000040 μ) :
    KeptN μ s₀ (execGateCalibration ok s) := by
  unfold execGateCalibration; exact (KeptN.next (Kept.live hs (fun _ hz0 => (gateCalibration_kept hz0 _ (hm.sub rfl)))))

theorem readSched_kept {μ : Nat} {s₀ : State} {s : State} (hs : Kept μ s₀ s)
    (hm : Within 0x10000000004 μ) :
    Kept μ s₀ (readSched s) := by
  unfold readSched
  exact (Kept.ite (State_mbxRefuseBusy_kept hs _ (hm.sub rfl)) (Kept.ite (State_mbxRefuse_kept hs _ (hm.sub rfl)) (State_mbxStart_kept hs _ _ (hm.sub rfl) (hm.sub rfl))))

theorem execReadSched_kept {μ : Nat} {s₀ : State} {s : State} (hs : Kept μ s₀ s)
    (hm : Within 0x10000000004 μ) :
    KeptN μ s₀ (execReadSched s) := by
  unfold execReadSched; exact (KeptN.next (Kept.live hs (fun _ hz0 => (readSched_kept hz0 (hm.sub rfl)))))

end Sys2Proof.Machine
end

