-- ==== Sys2Proof/Laws/KeptTide.lean ====
section
/-! SUPPORT. Each function of Machine/Tide.lean keeps what `Kept` says. -/

set_option Elab.async false

namespace Sys2Proof.Machine

theorem grpFlt_kept {μ : Nat} {s₀ : State} {s : State} (hs : Kept μ s₀ s) (g : Nat) (f : Fld)
    (hb1 : Within (blkBits f.blk) μ)
    (hm : Within 0x40010000400100000040 μ) :
    Kept μ s₀ (grpFlt s g f) := by
  unfold grpFlt
  exact (Kept.ite (State_blockIrq_kept (State_setFlag_kept hs _ _ _ (by exact hb1)) _ (hm.sub rfl)) (State_setFlag_kept hs _ _ _ (by exact hb1)))

theorem grpEnter_kept {μ : Nat} {s₀ : State} {s : State} (hs : Kept μ s₀ s) (g : Nat) (new : Nat) (byEnable : Bool)
    (hm : Within 0x48090000480900000060 μ) :
    Kept μ s₀ (grpEnter s g new byEnable) := by
  unfold grpEnter
  exact (Kept.ite hs (Kept.ite (Kept.ite (State_count_kept (State_event_kept (Kept.setFld hs _ _ _ (hm.sub rfl)) _ _ _ _ _ _ (hm.sub rfl)) _ _ (hm.sub rfl)) (grpFlt_kept (State_count_kept (State_event_kept (Kept.setFld hs _ _ _ (hm.sub rfl)) _ _ _ _ _ _ (hm.sub rfl)) _ _ (hm.sub rfl)) _ _ (hm.sub rfl) (hm.sub rfl))) (Kept.ite (grpFlt_kept (State_event_kept (Kept.setFld hs _ _ _ (hm.sub rfl)) _ _ _ _ _ _ (hm.sub rfl)) _ _ (hm.sub rfl) (hm.sub rfl)) (Kept.ite (grpFlt_kept (State_count_kept (State_event_kept (Kept.setFld hs _ _ _ (hm.sub rfl)) _ _ _ _ _ _ (hm.sub rfl)) _ _ (hm.sub rfl)) _ _ (hm.sub rfl) (hm.sub rfl)) (Kept.ite (grpFlt_kept (State_count_kept (State_event_kept (Kept.setFld hs _ _ _ (hm.sub rfl)) _ _ _ _ _ _ (hm.sub rfl)) _ _ (hm.sub rfl)) _ _ (hm.sub rfl) (hm.sub rfl)) (State_event_kept (Kept.setFld hs _ _ _ (hm.sub rfl)) _ _ _ _ _ _ (hm.sub rfl)))))))

theorem startTables_kept {μ : Nat} {s₀ : State} {s : State} (hs : Kept μ s₀ s) (g : Nat)
    (hm : Within 0x800000000 μ) :
    Kept μ s₀ (startTables s g) := by
  unfold startTables
  exact (Kept.foldl hs (fun _ _ hz0 => (by (try dsimp only); split; (· exact (Kept.setFld hz0 _ _ _ (hm.sub rfl))); (· exact (Kept.ite hz0 (Kept.setFld (Kept.setFld hz0 _ _ _ (hm.sub rfl)) _ _ _ (hm.sub rfl)))))) _)

theorem stopTables_kept {μ : Nat} {s₀ : State} {s : State} (hs : Kept μ s₀ s) (g : Nat)
    (hm : Within 0x800000000 μ) :
    Kept μ s₀ (stopTables s g) := by
  unfold stopTables; exact (Kept.foldl hs (fun _ _ hz0 => (Kept.ite (Kept.setFld (Kept.setFld hz0 _ _ _ (hm.sub rfl)) _ _ _ (hm.sub rfl)) hz0)) _)

theorem enableRefuse_kept {μ : Nat} {s₀ : State} {s : State} (hs : Kept μ s₀ s) (g : Nat)
    (hm : Within 0x40010000c04900000040 μ) :
    Kept μ s₀ (enableRefuse s g) := by
  unfold enableRefuse
  exact (Kept.ite (State_setFlt_kept (Kept.ite (State_setFlt_kept (State_setFlt_kept hs _ (hm.sub rfl) (hm.sub rfl)) _ (hm.sub rfl) (hm.sub rfl)) (State_setFlt_kept hs _ (hm.sub rfl) (hm.sub rfl))) _ (hm.sub rfl) (hm.sub rfl)) (Kept.ite (State_setFlt_kept (State_setFlt_kept hs _ (hm.sub rfl) (hm.sub rfl)) _ (hm.sub rfl) (hm.sub rfl)) (State_setFlt_kept hs _ (hm.sub rfl) (hm.sub rfl))))

theorem releasesRestart_kept {μ : Nat} {s₀ : State} {s : State} (hs : Kept μ s₀ s) (g : Nat)
    (hm : Within 0x800 μ) :
    Kept μ s₀ (releasesRestart s g) := by
  unfold releasesRestart; exact (Kept.foldl hs (fun _ _ hz0 => (Kept.ite (State_setStream_kept hz0 _ _ (hm.sub rfl)) hz0)) _)

theorem groupEnable_kept {μ : Nat} {s₀ : State} {s : State} (hs : Kept μ s₀ s) (g : Nat)
    (hm : Within 0x48490000c849000019e0 μ) :
    Kept μ s₀ (groupEnable s g) := by
  unfold groupEnable
  exact (Kept.ite hs (Kept.ite (enableRefuse_kept hs _ (hm.sub rfl)) (joinSettle_kept (grpEnter_kept (Kept.setFld (Kept.setFld (Kept.setFld (State_setFlag_kept (State_setFlag_kept (State_setFlag_kept (State_setFlag_kept (Kept.setFld (fdcGroupOn_kept (releasesRestart_kept (startTables_kept (Kept.foldl (State_setGrp_kept (State_setFbit_kept hs _ _ _ _ (hm.sub rfl)) _ _ (hm.sub rfl)) (fun _ _ hz0 => (State_setLpart_kept hz0 _ _ (hm.sub rfl))) _) _ (hm.sub rfl)) _ (hm.sub rfl)) _ (hm.sub rfl)) _ _ _ (hm.sub rfl)) _ _ _ (hm.sub rfl)) _ _ _ (hm.sub rfl)) _ _ _ (hm.sub rfl)) _ _ _ (hm.sub rfl)) _ _ _ (hm.sub rfl)) _ _ _ (hm.sub rfl)) _ _ _ (hm.sub rfl)) _ _ _ (hm.sub rfl)) (hm.sub rfl))))

theorem execGroupEnable_kept {μ : Nat} {s₀ : State} {s : State} (hs : Kept μ s₀ s) (g : Nat)
    (hm : Within 0x48490000c849000019e0 μ) :
    KeptN μ s₀ (execGroupEnable g s) := by
  unfold execGroupEnable; exact (KeptN.next (Kept.live hs (fun _ hz0 => (groupEnable_kept hz0 _ (hm.sub rfl)))))

theorem groupDrained_kept {μ : Nat} {s₀ : State} {s : State} (hs : Kept μ s₀ s) (g : Nat)
    (hm : Within 0x404100004049000001c0 μ) :
    Kept μ s₀ (groupDrained s g) := by
  unfold groupDrained
  exact (Kept.ite (State_setGrp_kept hs _ _ (hm.sub rfl)) (joinSettle_kept (stopTables_kept (State_setGrp_kept hs _ _ (hm.sub rfl)) _ (hm.sub rfl)) (hm.sub rfl)))

theorem groupDisable_kept {μ : Nat} {s₀ : State} {s : State} (hs : Kept μ s₀ s) (g : Nat)
    (hm : Within 0x494900004b69000053e0 μ) :
    Kept μ s₀ (groupDisable s g) := by
  unfold groupDisable
  exact (Kept.ite hs (Kept.ite (groupDrained_kept (rallyUnalign_kept (gateReconvert_kept (fdcGroupOff_kept (State_setGrp_kept (grpEnter_kept (State_setFbit_kept hs _ _ _ _ (hm.sub rfl)) _ _ _ (hm.sub rfl)) _ _ (hm.sub rfl)) _ (hm.sub rfl)) _ (hm.sub rfl)) _ (hm.sub rfl)) _ (hm.sub rfl)) (rallyUnalign_kept (gateReconvert_kept (fdcGroupOff_kept (State_setGrp_kept (grpEnter_kept (State_setFbit_kept hs _ _ _ _ (hm.sub rfl)) _ _ _ (hm.sub rfl)) _ _ (hm.sub rfl)) _ (hm.sub rfl)) _ (hm.sub rfl)) _ (hm.sub rfl))))

theorem execGroupDisable_kept {μ : Nat} {s₀ : State} {s : State} (hs : Kept μ s₀ s) (g : Nat)
    (hm : Within 0x494900004b69000053e0 μ) :
    KeptN μ s₀ (execGroupDisable g s) := by
  unfold execGroupDisable; exact (KeptN.next (Kept.live hs (fun _ hz0 => (groupDisable_kept hz0 _ (hm.sub rfl)))))

theorem evalBegin_kept {μ : Nat} {s₀ : State} {s : State} (hs : Kept μ s₀ s) (g : Nat) (new : Nat)
    (hm : Within 0x800000080 μ) :
    Kept μ s₀ (evalBegin s g new) := by
  unfold evalBegin
  exact (Kept.ite (State_setGrp_kept (by (try dsimp only); split; (· exact (State_setFlag_kept hs _ _ _ (hm.sub rfl))); (· exact hs)) _ _ (hm.sub rfl)) (by (try dsimp only); split; (· exact (State_setFlag_kept hs _ _ _ (hm.sub rfl))); (· exact hs)))

theorem evalReport_kept {μ : Nat} {s₀ : State} {s : State} (hs : Kept μ s₀ s) (g : Nat) (v : EvalVals) (old : Nat) (new : Nat) (expired : Bool) (clamped : Bool) (words : List Nat)
    (hm : Within 0x40090000400900000040 μ) :
    Kept μ s₀ (evalReport s g v old new expired clamped words) := by
  unfold evalReport
  exact (Kept.setFld (Kept.setFld (Kept.setFld (State_setFlag_kept (State_setFlag_kept (State_setFlag_kept (Kept.ite (grpFlt_kept (State_count_kept (Kept.ite (grpFlt_kept (State_count_kept (Kept.ite (Kept.setFld hs _ _ _ (hm.sub rfl)) hs) _ _ (hm.sub rfl)) _ _ (hm.sub rfl) (hm.sub rfl)) (Kept.ite (Kept.setFld hs _ _ _ (hm.sub rfl)) hs)) _ _ (hm.sub rfl)) _ _ (hm.sub rfl) (hm.sub rfl)) (Kept.ite (grpFlt_kept (State_count_kept (Kept.ite (Kept.setFld hs _ _ _ (hm.sub rfl)) hs) _ _ (hm.sub rfl)) _ _ (hm.sub rfl) (hm.sub rfl)) (Kept.ite (Kept.setFld hs _ _ _ (hm.sub rfl)) hs))) _ _ _ (hm.sub rfl)) _ _ _ (hm.sub rfl)) _ _ _ (hm.sub rfl)) _ _ _ (hm.sub rfl)) _ _ _ (hm.sub rfl)) _ _ _ (hm.sub rfl))

theorem tideEvaluate_kept {μ : Nat} {s₀ : State} {s : State} (hs : Kept μ s₀ s) (g : Nat)
    (hm : Within 0x490900004909000002e0 μ) :
    Kept μ s₀ (tideEvaluate s g) := by
  unfold tideEvaluate
  exact (gateReconvert_kept (grpEnter_kept (evalReport_kept (State_setGrp_kept (evalBegin_kept hs _ _ (hm.sub rfl)) _ _ (hm.sub rfl)) _ _ _ _ _ _ _ (hm.sub rfl)) _ _ _ (hm.sub rfl)) _ (hm.sub rfl))

theorem tideEvaluation_kept {μ : Nat} {s₀ : State} {s : State} (hs : Kept μ s₀ s) (g : Nat)
    (hm : Within 0x490900004909000002e0 μ) :
    Kept μ s₀ (tideEvaluation s g) := by
  unfold tideEvaluation; exact (Kept.ite hs (tideEvaluate_kept hs _ (hm.sub rfl)))

theorem execTideEvaluation_kept {μ : Nat} {s₀ : State} {s : State} (hs : Kept μ s₀ s) (g : Nat)
    (hm : Within 0x490900004909000002e0 μ) :
    KeptN μ s₀ (execTideEvaluation g s) := by
  unfold execTideEvaluation; exact (KeptN.next (Kept.live hs (fun _ hz0 => (tideEvaluation_kept hz0 _ (hm.sub rfl)))))

theorem tideCommand_kept {μ : Nat} {s₀ : State} {s : State} (hs : Kept μ s₀ s) (g : Nat) (c : Nat)
    (hm : Within 0x80 μ) :
    Kept μ s₀ (tideCommand s g c) := by
  unfold tideCommand; exact (Kept.ite hs (State_setGrp_kept hs _ _ (hm.sub rfl)))

theorem execResync_kept {μ : Nat} {s₀ : State} {s : State} (hs : Kept μ s₀ s) (g : Nat)
    (hm : Within 0x80 μ) :
    KeptN μ s₀ (execResync g s) := by
  unfold execResync; exact (KeptN.next (Kept.live hs (fun _ hz0 => (tideCommand_kept hz0 _ _ (hm.sub rfl)))))

theorem execForceFreerun_kept {μ : Nat} {s₀ : State} {s : State} (hs : Kept μ s₀ s) (g : Nat)
    (hm : Within 0x80 μ) :
    KeptN μ s₀ (execForceFreerun g s) := by
  unfold execForceFreerun; exact (KeptN.next (Kept.live hs (fun _ hz0 => (tideCommand_kept hz0 _ _ (hm.sub rfl)))))

theorem tideStep_kept {μ : Nat} {s₀ : State} {s : State} (hs : Kept μ s₀ s) (d : Int)
    (hm : Within 0x80 μ) :
    Kept μ s₀ (tideStep s d) := by
  unfold tideStep; exact (Kept.upd_80 hs (hm.sub rfl))

end Sys2Proof.Machine
end

