-- ==== Sys2Proof/Laws/KeptRally.lean ====
section
/-! SUPPORT. Each function of Machine/Rally.lean keeps what `Kept` says. -/

set_option Elab.async false

namespace Sys2Proof.Machine

theorem setRole_kept {μ : Nat} {s₀ : State} {s : State} (hs : Kept μ s₀ s) (lead : Bool)
    (hm : Within 0x4a8100004a8100002060 μ) :
    Kept μ s₀ (setRole s lead) := by
  unfold setRole
  exact (Kept.ite hs (Kept.ite (gooseTakeover_kept (State_event_kept (State_setFlt_kept (State_count_kept (State_setFlag_kept hs _ _ _ (hm.sub rfl)) _ _ (hm.sub rfl)) _ (hm.sub rfl) (hm.sub rfl)) _ _ _ _ _ _ (hm.sub rfl)) (hm.sub rfl)) (gooseFollow_kept (State_event_kept (State_setFlt_kept (State_count_kept (State_setFlag_kept hs _ _ _ (hm.sub rfl)) _ _ (hm.sub rfl)) _ (hm.sub rfl) (hm.sub rfl)) _ _ _ _ _ _ (hm.sub rfl)) (hm.sub rfl))))

theorem decideRole_kept {μ : Nat} {s₀ : State} {s : State} (hs : Kept μ s₀ s)
    (hm : Within 0x4a8100004a8100002060 μ) :
    Kept μ s₀ (decideRole s) := by
  unfold decideRole; exact (Kept.ite hs (setRole_kept hs _ (hm.sub rfl)))

theorem resolveOwn_kept {μ : Nat} {s₀ : State} {s : State} (hs : Kept μ s₀ s) (r : OwnRec)
    (hm : Within 0x4000 μ) :
    Kept μ s₀ (resolveOwn s r) := by
  unfold resolveOwn; exact (Kept.ite hs (State_setResolved_kept hs _ _ (hm.sub rfl)))

theorem resolveShared_kept {μ : Nat} {s₀ : State} {s : State} (hs : Kept μ s₀ s) (r : OwnRec) (peer : Option PeerRec) (fpd : Bool)
    (hm : Within 0x2000000020000004000 μ) :
    Kept μ s₀ (resolveShared s r peer fpd).2 := by
  unfold resolveShared
  exact (Kept.ite2 hs (Kept.ite (State_count_kept (Kept.setFld (State_setFlag_kept (State_setFlag_kept (State_setResolved_kept hs _ _ (hm.sub rfl)) _ _ _ (hm.sub rfl)) _ _ _ (hm.sub rfl)) _ _ _ (hm.sub rfl)) _ _ (hm.sub rfl)) (Kept.setFld (State_setFlag_kept (State_setFlag_kept (State_setResolved_kept hs _ _ (hm.sub rfl)) _ _ _ (hm.sub rfl)) _ _ _ (hm.sub rfl)) _ _ _ (hm.sub rfl))))

theorem classed_kept {μ : Nat} {s₀ : State} {s : State} (hs : Kept μ s₀ s) (p : Nat) (n : Nat) (cls : Nat)
    (hm : Within 0x4a0100004a0100000060 μ) :
    Kept μ s₀ (classed s p n cls) := by
  unfold classed
  exact (State_setFlt_kept (State_setPartBit_kept (Kept.ite (State_count_kept (Kept.setFld hs _ _ _ (hm.sub rfl)) _ _ (Within.iteC (hm.sub rfl) (hm.sub rfl))) (State_event_kept (State_count_kept (Kept.setFld hs _ _ _ (hm.sub rfl)) _ _ (Within.iteC (hm.sub rfl) (hm.sub rfl))) _ _ _ _ _ _ (hm.sub rfl))) _ _ _ (Within.iteF (hm.sub rfl) (hm.sub rfl))) _ (Within.iteF (hm.sub rfl) (hm.sub rfl)) (hm.sub rfl))

theorem classifyPart_kept {μ : Nat} {s₀ : State} {s : State} (hs : Kept μ s₀ s) (c : RallyPend) (es : List PeerRec) (r : OwnRec)
    (hm : Within 0x4a0100004a0100000060 μ) :
    Kept μ s₀ (classifyPart s c es r) := by
  unfold classifyPart
  (try dsimp only)
  split
  · exact hs
  · exact (Kept.ite hs (Kept.ite (classed_kept (Kept.ite (State_count_kept (State_setFlag_kept (by (try dsimp only); split; (· exact (Kept.foldl (Kept.setFld hs _ _ _ (hm.sub rfl)) (fun _ _ hz2 => (Kept.setFld hz2 _ _ _ (hm.sub (b := blkBits 9) rfl))) _)); (· exact (Kept.setFld hs _ _ _ (hm.sub rfl)))) _ _ _ (hm.sub rfl)) _ _ (hm.sub rfl)) (State_setFlag_kept (by (try dsimp only); split; (· exact (Kept.foldl (Kept.setFld hs _ _ _ (hm.sub rfl)) (fun _ _ hz2 => (Kept.setFld hz2 _ _ _ (hm.sub (b := blkBits 9) rfl))) _)); (· exact (Kept.setFld hs _ _ _ (hm.sub rfl)))) _ _ _ (hm.sub rfl))) _ _ _ (hm.sub rfl)) (Kept.ite (State_count_kept (State_setFlag_kept (by (try dsimp only); split; (· exact (Kept.foldl (Kept.setFld hs _ _ _ (hm.sub rfl)) (fun _ _ hz2 => (Kept.setFld hz2 _ _ _ (hm.sub (b := blkBits 9) rfl))) _)); (· exact (Kept.setFld hs _ _ _ (hm.sub rfl)))) _ _ _ (hm.sub rfl)) _ _ (hm.sub rfl)) (State_setFlag_kept (by (try dsimp only); split; (· exact (Kept.foldl (Kept.setFld hs _ _ _ (hm.sub rfl)) (fun _ _ hz2 => (Kept.setFld hz2 _ _ _ (hm.sub (b := blkBits 9) rfl))) _)); (· exact (Kept.setFld hs _ _ _ (hm.sub rfl)))) _ _ _ (hm.sub rfl)))))

theorem classifyAll_kept {μ : Nat} {s₀ : State} {s : State} (hs : Kept μ s₀ s) (c : RallyPend) (es : List PeerRec)
    (hm : Within 0x4a0100004a0100000060 μ) :
    Kept μ s₀ (classifyAll s c es) := by
  unfold classifyAll; exact (Kept.foldl hs (fun _ _ hz0 => (classifyPart_kept hz0 _ _ _ (hm.sub rfl))) _)

theorem deliverGate_kept {μ : Nat} {s₀ : State} {s : State} (hs : Kept μ s₀ s) (c : RallyPend) (shared : Bool) (n : Nat)
    (hm : Within 0x200 μ) :
    Kept μ s₀ (deliverGate s c shared n) := by
  unfold deliverGate; (try dsimp only); split; (· exact (Kept.ite (gateRecord_kept hs _ _ _ _ _ (hm.sub rfl)) hs)); (· exact hs)

theorem deliver_kept {μ : Nat} {s₀ : State} {s : State} (hs : Kept μ s₀ s) (g : Nat) (c : RallyPend) (shared : Bool)
    (hm : Within 0x800000008000002200 μ) :
    Kept μ s₀ (deliver s g c shared) := by
  unfold deliver; exact (Kept.foldl (gooseEvaluate_kept hs _ _ _ (hm.sub rfl)) (fun _ _ hz0 => (deliverGate_kept hz0 _ _ _ (hm.sub rfl))) _)

theorem resolveCommit_kept {μ : Nat} {s₀ : State} {s : State} (hs : Kept μ s₀ s) (g : Nat) (c : RallyPend)
    (hm : Within 0x4a8100004a8100006260 μ) :
    Kept μ s₀ (resolveCommit s g c) := by
  unfold resolveCommit; extract_lets es
  generalize hp : List.foldl _ (false, s) c.recs = p
  have h : Kept μ s₀ p.2 := by
    rw [← hp]; exact Kept.foldl_pair (p := (false, s)) hs (fun _ _ h => by dsimp only; exact resolveShared_kept h _ _ _ (hm.sub rfl)) _
  clear hp; clear_value es
  obtain ⟨fell, t⟩ := p
  have h2 := Kept.ite (c := (fell && c.aligned) = true) (State_count_kept h C.TWIN_G_FALLBACK_WINDOWS g (hm.sub rfl)) h
  refine deliver_kept (Kept.setFld (Kept.setFld ?_ _ _ _ (hm.sub rfl)) _ _ _ (hm.sub rfl)) _ _ _ (hm.sub rfl)
  cases es
  · exact h2
  · exact classifyAll_kept h2 _ _ (hm.sub rfl)

theorem setPend_kept {μ : Nat} {s₀ : State} {s : State} (hs : Kept μ s₀ s) (g : Nat) (c : RallyPend)
    (hm : Within 0x4000 μ) :
    Kept μ s₀ (setPend s g c) := by
  unfold setPend; exact (State_setRgrp_kept hs _ _ (hm.sub rfl))

theorem inTime_kept {μ : Nat} {s₀ : State} {s : State} (hs : Kept μ s₀ s) (g : Nat) (c : RallyPend)
    (hm : Within 0x20000000000 μ) :
    Kept μ s₀ (inTime s g c) := by
  unfold inTime
  exact (Kept.ite hs (Kept.ite (Kept.setFld hs _ _ _ (hm.sub rfl)) (Kept.ite (Kept.setFld (Kept.setFld hs _ _ _ (hm.sub rfl)) _ _ _ (hm.sub rfl)) (Kept.setFld hs _ _ _ (hm.sub rfl)))))

theorem missed_kept {μ : Nat} {s₀ : State} {s : State} (hs : Kept μ s₀ s) (g : Nat) (c : RallyPend)
    (hm : Within 0x4a0100004a0100004060 μ) :
    Kept μ s₀ (missed s g c) := by
  unfold missed
  exact (Kept.ite (State_count_kept hs _ _ (hm.sub rfl)) (Kept.ite (Kept.setFld (State_count_kept hs _ _ (hm.sub rfl)) _ _ _ (hm.sub rfl)) (Kept.ite (rallyUnalign_kept (State_event_kept (State_count_kept (State_setFlt_kept (State_count_kept hs _ _ (hm.sub rfl)) _ (hm.sub rfl) (hm.sub rfl)) _ _ (hm.sub rfl)) _ _ _ _ _ _ (hm.sub rfl)) _ (hm.sub rfl)) (Kept.setFld (State_count_kept hs _ _ (hm.sub rfl)) _ _ _ (hm.sub rfl)))))

theorem closePend_kept {μ : Nat} {s₀ : State} {s : State} (hs : Kept μ s₀ s) (g : Nat) (c : RallyPend)
    (hm : Within 0x4a8100004a8100006260 μ) :
    Kept μ s₀ (closePend s g c) := by
  unfold closePend
  exact (Kept.ite (missed_kept (Kept.ite (setPend_kept hs _ _ (hm.sub rfl)) (resolveCommit_kept (setPend_kept hs _ _ (hm.sub rfl)) _ _ (hm.sub rfl))) _ _ (hm.sub rfl)) (Kept.ite (setPend_kept hs _ _ (hm.sub rfl)) (resolveCommit_kept (setPend_kept hs _ _ (hm.sub rfl)) _ _ (hm.sub rfl))))

theorem rallyCommit_kept {μ : Nat} {s₀ : State} {s : State} (hs : Kept μ s₀ s) (g : Nat) (c : RallyPend)
    (hm : Within 0x4a8100004a8100006260 μ) :
    Kept μ s₀ (rallyCommit s g c) := by
  unfold rallyCommit
  exact (Kept.ite (resolveCommit_kept (sendRally_kept (deliver_kept (Kept.foldl hs (fun _ _ h => resolveOwn_kept h _ (hm.sub rfl)) _) _ _ _ (hm.sub rfl)) _ _ (hm.sub rfl)) _ _ (hm.sub rfl)) (Kept.ite (resolveCommit_kept (Kept.ite (inTime_kept (State_count_kept (State_setRgrp_kept (sendRally_kept (deliver_kept (Kept.foldl hs (fun _ _ h => resolveOwn_kept h _ (hm.sub rfl)) _) _ _ _ (hm.sub rfl)) _ _ (hm.sub rfl)) _ _ (hm.sub rfl)) _ _ (hm.sub rfl)) _ _ (hm.sub rfl)) (State_setRgrp_kept (sendRally_kept (deliver_kept (Kept.foldl hs (fun _ _ h => resolveOwn_kept h _ (hm.sub rfl)) _) _ _ _ (hm.sub rfl)) _ _ (hm.sub rfl)) _ _ (hm.sub rfl))) _ _ (hm.sub rfl)) (Kept.ite (inTime_kept (State_count_kept (State_setRgrp_kept (sendRally_kept (deliver_kept (Kept.foldl hs (fun _ _ h => resolveOwn_kept h _ (hm.sub rfl)) _) _ _ _ (hm.sub rfl)) _ _ (hm.sub rfl)) _ _ (hm.sub rfl)) _ _ (hm.sub rfl)) _ _ (hm.sub rfl)) (State_setRgrp_kept (sendRally_kept (deliver_kept (Kept.foldl hs (fun _ _ h => resolveOwn_kept h _ (hm.sub rfl)) _) _ _ _ (hm.sub rfl)) _ _ (hm.sub rfl)) _ _ (hm.sub rfl)))))

theorem rallyResolve_kept {μ : Nat} {s₀ : State} {s : State} (hs : Kept μ s₀ s) (g : Nat)
    (hm : Within 0x4a8100004a8100006260 μ) :
    Kept μ s₀ (rallyResolve s g) := by
  unfold rallyResolve; (try dsimp only); split; (· exact (closePend_kept hs _ _ (hm.sub rfl))); (· exact hs)

theorem execRallyResolve_kept {μ : Nat} {s₀ : State} {s : State} (hs : Kept μ s₀ s) (g : Nat)
    (hm : Within 0x4a8100004a8100006260 μ) :
    KeptN μ s₀ (execRallyResolve g s) := by
  unfold execRallyResolve; exact (KeptN.next (Kept.live hs (fun _ hz0 => (rallyResolve_kept hz0 _ (hm.sub rfl)))))

theorem resolveWaiting_kept {μ : Nat} {s₀ : State} {s : State} (hs : Kept μ s₀ s)
    (hm : Within 0x4a8100004a8100006260 μ) :
    Kept μ s₀ (resolveWaiting s) := by
  unfold resolveWaiting
  exact (Kept.foldl hs (fun _ _ hz0 => (Kept.foldl hz0 (fun _ _ hz1 => (Kept.ite hz1 (Kept.ite (setPend_kept hz1 _ _ (hm.sub rfl)) (resolveCommit_kept (setPend_kept hz1 _ _ (hm.sub rfl)) _ _ (hm.sub rfl))))) _)) _)

theorem wakeStop_kept {μ : Nat} {s₀ : State} {s : State} (hs : Kept μ s₀ s)
    (hm : Within 0x4000 μ) :
    Kept μ s₀ (wakeStop s) := by
  unfold wakeStop; exact (Kept.upd_4000 hs (hm.sub rfl))

theorem setPair_kept {μ : Nat} {s₀ : State} {s : State} (hs : Kept μ s₀ s) (new : Nat)
    (hm : Within 0x4a8100004a8100006260 μ) :
    Kept μ s₀ (setPair s new) := by
  unfold setPair
  exact (Kept.ite hs (Kept.ite (decideRole_kept (wakeStop_kept (Kept.ite (Kept.upd_4000 (Kept.ite (Kept.upd_4000 (Kept.ite (Kept.ite (Kept.upd_4000 (State_setFlag_kept (Kept.ite (Kept.upd_4000 (resolveWaiting_kept (Kept.upd_4000 (State_event_kept (Kept.setFld hs _ _ _ (hm.sub rfl)) _ _ _ _ _ _ (hm.sub rfl)) (hm.sub rfl)) (hm.sub rfl)) (hm.sub rfl)) (Kept.upd_4000 (State_event_kept (Kept.setFld hs _ _ _ (hm.sub rfl)) _ _ _ _ _ _ (hm.sub rfl)) (hm.sub rfl))) _ _ _ (hm.sub rfl)) (hm.sub rfl)) (Kept.ite (Kept.upd_4000 (resolveWaiting_kept (Kept.upd_4000 (State_event_kept (Kept.setFld hs _ _ _ (hm.sub rfl)) _ _ _ _ _ _ (hm.sub rfl)) (hm.sub rfl)) (hm.sub rfl)) (hm.sub rfl)) (Kept.upd_4000 (State_event_kept (Kept.setFld hs _ _ _ (hm.sub rfl)) _ _ _ _ _ _ (hm.sub rfl)) (hm.sub rfl)))) (Kept.foldl (Kept.ite (Kept.upd_4000 (State_setFlag_kept (Kept.ite (Kept.upd_4000 (resolveWaiting_kept (Kept.upd_4000 (State_event_kept (Kept.setFld hs _ _ _ (hm.sub rfl)) _ _ _ _ _ _ (hm.sub rfl)) (hm.sub rfl)) (hm.sub rfl)) (hm.sub rfl)) (Kept.upd_4000 (State_event_kept (Kept.setFld hs _ _ _ (hm.sub rfl)) _ _ _ _ _ _ (hm.sub rfl)) (hm.sub rfl))) _ _ _ (hm.sub rfl)) (hm.sub rfl)) (Kept.ite (Kept.upd_4000 (resolveWaiting_kept (Kept.upd_4000 (State_event_kept (Kept.setFld hs _ _ _ (hm.sub rfl)) _ _ _ _ _ _ (hm.sub rfl)) (hm.sub rfl)) (hm.sub rfl)) (hm.sub rfl)) (Kept.upd_4000 (State_event_kept (Kept.setFld hs _ _ _ (hm.sub rfl)) _ _ _ _ _ _ (hm.sub rfl)) (hm.sub rfl)))) (fun _ _ h => rallyUnalign_kept h _ (hm.sub rfl)) _)) (hm.sub rfl)) (Kept.ite (Kept.ite (Kept.upd_4000 (State_setFlag_kept (Kept.ite (Kept.upd_4000 (resolveWaiting_kept (Kept.upd_4000 (State_event_kept (Kept.setFld hs _ _ _ (hm.sub rfl)) _ _ _ _ _ _ (hm.sub rfl)) (hm.sub rfl)) (hm.sub rfl)) (hm.sub rfl)) (Kept.upd_4000 (State_event_kept (Kept.setFld hs _ _ _ (hm.sub rfl)) _ _ _ _ _ _ (hm.sub rfl)) (hm.sub rfl))) _ _ _ (hm.sub rfl)) (hm.sub rfl)) (Kept.ite (Kept.upd_4000 (resolveWaiting_kept (Kept.upd_4000 (State_event_kept (Kept.setFld hs _ _ _ (hm.sub rfl)) _ _ _ _ _ _ (hm.sub rfl)) (hm.sub rfl)) (hm.sub rfl)) (hm.sub rfl)) (Kept.upd_4000 (State_event_kept (Kept.setFld hs _ _ _ (hm.sub rfl)) _ _ _ _ _ _ (hm.sub rfl)) (hm.sub rfl)))) (Kept.foldl (Kept.ite (Kept.upd_4000 (State_setFlag_kept (Kept.ite (Kept.upd_4000 (resolveWaiting_kept (Kept.upd_4000 (State_event_kept (Kept.setFld hs _ _ _ (hm.sub rfl)) _ _ _ _ _ _ (hm.sub rfl)) (hm.sub rfl)) (hm.sub rfl)) (hm.sub rfl)) (Kept.upd_4000 (State_event_kept (Kept.setFld hs _ _ _ (hm.sub rfl)) _ _ _ _ _ _ (hm.sub rfl)) (hm.sub rfl))) _ _ _ (hm.sub rfl)) (hm.sub rfl)) (Kept.ite (Kept.upd_4000 (resolveWaiting_kept (Kept.upd_4000 (State_event_kept (Kept.setFld hs _ _ _ (hm.sub rfl)) _ _ _ _ _ _ (hm.sub rfl)) (hm.sub rfl)) (hm.sub rfl)) (hm.sub rfl)) (Kept.upd_4000 (State_event_kept (Kept.setFld hs _ _ _ (hm.sub rfl)) _ _ _ _ _ _ (hm.sub rfl)) (hm.sub rfl)))) (fun _ _ h => rallyUnalign_kept h _ (hm.sub rfl)) _))) (hm.sub rfl)) (Kept.ite (Kept.upd_4000 (Kept.ite (Kept.ite (Kept.upd_4000 (State_setFlag_kept (Kept.ite (Kept.upd_4000 (resolveWaiting_kept (Kept.upd_4000 (State_event_kept (Kept.setFld hs _ _ _ (hm.sub rfl)) _ _ _ _ _ _ (hm.sub rfl)) (hm.sub rfl)) (hm.sub rfl)) (hm.sub rfl)) (Kept.upd_4000 (State_event_kept (Kept.setFld hs _ _ _ (hm.sub rfl)) _ _ _ _ _ _ (hm.sub rfl)) (hm.sub rfl))) _ _ _ (hm.sub rfl)) (hm.sub rfl)) (Kept.ite (Kept.upd_4000 (resolveWaiting_kept (Kept.upd_4000 (State_event_kept (Kept.setFld hs _ _ _ (hm.sub rfl)) _ _ _ _ _ _ (hm.sub rfl)) (hm.sub rfl)) (hm.sub rfl)) (hm.sub rfl)) (Kept.upd_4000 (State_event_kept (Kept.setFld hs _ _ _ (hm.sub rfl)) _ _ _ _ _ _ (hm.sub rfl)) (hm.sub rfl)))) (Kept.foldl (Kept.ite (Kept.upd_4000 (State_setFlag_kept (Kept.ite (Kept.upd_4000 (resolveWaiting_kept (Kept.upd_4000 (State_event_kept (Kept.setFld hs _ _ _ (hm.sub rfl)) _ _ _ _ _ _ (hm.sub rfl)) (hm.sub rfl)) (hm.sub rfl)) (hm.sub rfl)) (Kept.upd_4000 (State_event_kept (Kept.setFld hs _ _ _ (hm.sub rfl)) _ _ _ _ _ _ (hm.sub rfl)) (hm.sub rfl))) _ _ _ (hm.sub rfl)) (hm.sub rfl)) (Kept.ite (Kept.upd_4000 (resolveWaiting_kept (Kept.upd_4000 (State_event_kept (Kept.setFld hs _ _ _ (hm.sub rfl)) _ _ _ _ _ _ (hm.sub rfl)) (hm.sub rfl)) (hm.sub rfl)) (hm.sub rfl)) (Kept.upd_4000 (State_event_kept (Kept.setFld hs _ _ _ (hm.sub rfl)) _ _ _ _ _ _ (hm.sub rfl)) (hm.sub rfl)))) (fun _ _ h => rallyUnalign_kept h _ (hm.sub rfl)) _)) (hm.sub rfl)) (Kept.ite (Kept.ite (Kept.upd_4000 (State_setFlag_kept (Kept.ite (Kept.upd_4000 (resolveWaiting_kept (Kept.upd_4000 (State_event_kept (Kept.setFld hs _ _ _ (hm.sub rfl)) _ _ _ _ _ _ (hm.sub rfl)) (hm.sub rfl)) (hm.sub rfl)) (hm.sub rfl)) (Kept.upd_4000 (State_event_kept (Kept.setFld hs _ _ _ (hm.sub rfl)) _ _ _ _ _ _ (hm.sub rfl)) (hm.sub rfl))) _ _ _ (hm.sub rfl)) (hm.sub rfl)) (Kept.ite (Kept.upd_4000 (resolveWaiting_kept (Kept.upd_4000 (State_event_kept (Kept.setFld hs _ _ _ (hm.sub rfl)) _ _ _ _ _ _ (hm.sub rfl)) (hm.sub rfl)) (hm.sub rfl)) (hm.sub rfl)) (Kept.upd_4000 (State_event_kept (Kept.setFld hs _ _ _ (hm.sub rfl)) _ _ _ _ _ _ (hm.sub rfl)) (hm.sub rfl)))) (Kept.foldl (Kept.ite (Kept.upd_4000 (State_setFlag_kept (Kept.ite (Kept.upd_4000 (resolveWaiting_kept (Kept.upd_4000 (State_event_kept (Kept.setFld hs _ _ _ (hm.sub rfl)) _ _ _ _ _ _ (hm.sub rfl)) (hm.sub rfl)) (hm.sub rfl)) (hm.sub rfl)) (Kept.upd_4000 (State_event_kept (Kept.setFld hs _ _ _ (hm.sub rfl)) _ _ _ _ _ _ (hm.sub rfl)) (hm.sub rfl))) _ _ _ (hm.sub rfl)) (hm.sub rfl)) (Kept.ite (Kept.upd_4000 (resolveWaiting_kept (Kept.upd_4000 (State_event_kept (Kept.setFld hs _ _ _ (hm.sub rfl)) _ _ _ _ _ _ (hm.sub rfl)) (hm.sub rfl)) (hm.sub rfl)) (hm.sub rfl)) (Kept.upd_4000 (State_event_kept (Kept.setFld hs _ _ _ (hm.sub rfl)) _ _ _ _ _ _ (hm.sub rfl)) (hm.sub rfl)))) (fun _ _ h => rallyUnalign_kept h _ (hm.sub rfl)) _)))) (hm.sub rfl)) (hm.sub rfl)) (setRole_kept (Kept.ite (Kept.upd_4000 (Kept.ite (Kept.upd_4000 (Kept.ite (Kept.ite (Kept.upd_4000 (State_setFlag_kept (Kept.ite (Kept.upd_4000 (resolveWaiting_kept (Kept.upd_4000 (State_event_kept (Kept.setFld hs _ _ _ (hm.sub rfl)) _ _ _ _ _ _ (hm.sub rfl)) (hm.sub rfl)) (hm.sub rfl)) (hm.sub rfl)) (Kept.upd_4000 (State_event_kept (Kept.setFld hs _ _ _ (hm.sub rfl)) _ _ _ _ _ _ (hm.sub rfl)) (hm.sub rfl))) _ _ _ (hm.sub rfl)) (hm.sub rfl)) (Kept.ite (Kept.upd_4000 (resolveWaiting_kept (Kept.upd_4000 (State_event_kept (Kept.setFld hs _ _ _ (hm.sub rfl)) _ _ _ _ _ _ (hm.sub rfl)) (hm.sub rfl)) (hm.sub rfl)) (hm.sub rfl)) (Kept.upd_4000 (State_event_kept (Kept.setFld hs _ _ _ (hm.sub rfl)) _ _ _ _ _ _ (hm.sub rfl)) (hm.sub rfl)))) (Kept.foldl (Kept.ite (Kept.upd_4000 (State_setFlag_kept (Kept.ite (Kept.upd_4000 (resolveWaiting_kept (Kept.upd_4000 (State_event_kept (Kept.setFld hs _ _ _ (hm.sub rfl)) _ _ _ _ _ _ (hm.sub rfl)) (hm.sub rfl)) (hm.sub rfl)) (hm.sub rfl)) (Kept.upd_4000 (State_event_kept (Kept.setFld hs _ _ _ (hm.sub rfl)) _ _ _ _ _ _ (hm.sub rfl)) (hm.sub rfl))) _ _ _ (hm.sub rfl)) (hm.sub rfl)) (Kept.ite (Kept.upd_4000 (resolveWaiting_kept (Kept.upd_4000 (State_event_kept (Kept.setFld hs _ _ _ (hm.sub rfl)) _ _ _ _ _ _ (hm.sub rfl)) (hm.sub rfl)) (hm.sub rfl)) (hm.sub rfl)) (Kept.upd_4000 (State_event_kept (Kept.setFld hs _ _ _ (hm.sub rfl)) _ _ _ _ _ _ (hm.sub rfl)) (hm.sub rfl)))) (fun _ _ h => rallyUnalign_kept h _ (hm.sub rfl)) _)) (hm.sub rfl)) (Kept.ite (Kept.ite (Kept.upd_4000 (State_setFlag_kept (Kept.ite (Kept.upd_4000 (resolveWaiting_kept (Kept.upd_4000 (State_event_kept (Kept.setFld hs _ _ _ (hm.sub rfl)) _ _ _ _ _ _ (hm.sub rfl)) (hm.sub rfl)) (hm.sub rfl)) (hm.sub rfl)) (Kept.upd_4000 (State_event_kept (Kept.setFld hs _ _ _ (hm.sub rfl)) _ _ _ _ _ _ (hm.sub rfl)) (hm.sub rfl))) _ _ _ (hm.sub rfl)) (hm.sub rfl)) (Kept.ite (Kept.upd_4000 (resolveWaiting_kept (Kept.upd_4000 (State_event_kept (Kept.setFld hs _ _ _ (hm.sub rfl)) _ _ _ _ _ _ (hm.sub rfl)) (hm.sub rfl)) (hm.sub rfl)) (hm.sub rfl)) (Kept.upd_4000 (State_event_kept (Kept.setFld hs _ _ _ (hm.sub rfl)) _ _ _ _ _ _ (hm.sub rfl)) (hm.sub rfl)))) (Kept.foldl (Kept.ite (Kept.upd_4000 (State_setFlag_kept (Kept.ite (Kept.upd_4000 (resolveWaiting_kept (Kept.upd_4000 (State_event_kept (Kept.setFld hs _ _ _ (hm.sub rfl)) _ _ _ _ _ _ (hm.sub rfl)) (hm.sub rfl)) (hm.sub rfl)) (hm.sub rfl)) (Kept.upd_4000 (State_event_kept (Kept.setFld hs _ _ _ (hm.sub rfl)) _ _ _ _ _ _ (hm.sub rfl)) (hm.sub rfl))) _ _ _ (hm.sub rfl)) (hm.sub rfl)) (Kept.ite (Kept.upd_4000 (resolveWaiting_kept (Kept.upd_4000 (State_event_kept (Kept.setFld hs _ _ _ (hm.sub rfl)) _ _ _ _ _ _ (hm.sub rfl)) (hm.sub rfl)) (hm.sub rfl)) (hm.sub rfl)) (Kept.upd_4000 (State_event_kept (Kept.setFld hs _ _ _ (hm.sub rfl)) _ _ _ _ _ _ (hm.sub rfl)) (hm.sub rfl)))) (fun _ _ h => rallyUnalign_kept h _ (hm.sub rfl)) _))) (hm.sub rfl)) (Kept.ite (Kept.upd_4000 (Kept.ite (Kept.ite (Kept.upd_4000 (State_setFlag_kept (Kept.ite (Kept.upd_4000 (resolveWaiting_kept (Kept.upd_4000 (State_event_kept (Kept.setFld hs _ _ _ (hm.sub rfl)) _ _ _ _ _ _ (hm.sub rfl)) (hm.sub rfl)) (hm.sub rfl)) (hm.sub rfl)) (Kept.upd_4000 (State_event_kept (Kept.setFld hs _ _ _ (hm.sub rfl)) _ _ _ _ _ _ (hm.sub rfl)) (hm.sub rfl))) _ _ _ (hm.sub rfl)) (hm.sub rfl)) (Kept.ite (Kept.upd_4000 (resolveWaiting_kept (Kept.upd_4000 (State_event_kept (Kept.setFld hs _ _ _ (hm.sub rfl)) _ _ _ _ _ _ (hm.sub rfl)) (hm.sub rfl)) (hm.sub rfl)) (hm.sub rfl)) (Kept.upd_4000 (State_event_kept (Kept.setFld hs _ _ _ (hm.sub rfl)) _ _ _ _ _ _ (hm.sub rfl)) (hm.sub rfl)))) (Kept.foldl (Kept.ite (Kept.upd_4000 (State_setFlag_kept (Kept.ite (Kept.upd_4000 (resolveWaiting_kept (Kept.upd_4000 (State_event_kept (Kept.setFld hs _ _ _ (hm.sub rfl)) _ _ _ _ _ _ (hm.sub rfl)) (hm.sub rfl)) (hm.sub rfl)) (hm.sub rfl)) (Kept.upd_4000 (State_event_kept (Kept.setFld hs _ _ _ (hm.sub rfl)) _ _ _ _ _ _ (hm.sub rfl)) (hm.sub rfl))) _ _ _ (hm.sub rfl)) (hm.sub rfl)) (Kept.ite (Kept.upd_4000 (resolveWaiting_kept (Kept.upd_4000 (State_event_kept (Kept.setFld hs _ _ _ (hm.sub rfl)) _ _ _ _ _ _ (hm.sub rfl)) (hm.sub rfl)) (hm.sub rfl)) (hm.sub rfl)) (Kept.upd_4000 (State_event_kept (Kept.setFld hs _ _ _ (hm.sub rfl)) _ _ _ _ _ _ (hm.sub rfl)) (hm.sub rfl)))) (fun _ _ h => rallyUnalign_kept h _ (hm.sub rfl)) _)) (hm.sub rfl)) (Kept.ite (Kept.ite (Kept.upd_4000 (State_setFlag_kept (Kept.ite (Kept.upd_4000 (resolveWaiting_kept (Kept.upd_4000 (State_event_kept (Kept.setFld hs _ _ _ (hm.sub rfl)) _ _ _ _ _ _ (hm.sub rfl)) (hm.sub rfl)) (hm.sub rfl)) (hm.sub rfl)) (Kept.upd_4000 (State_event_kept (Kept.setFld hs _ _ _ (hm.sub rfl)) _ _ _ _ _ _ (hm.sub rfl)) (hm.sub rfl))) _ _ _ (hm.sub rfl)) (hm.sub rfl)) (Kept.ite (Kept.upd_4000 (resolveWaiting_kept (Kept.upd_4000 (State_event_kept (Kept.setFld hs _ _ _ (hm.sub rfl)) _ _ _ _ _ _ (hm.sub rfl)) (hm.sub rfl)) (hm.sub rfl)) (hm.sub rfl)) (Kept.upd_4000 (State_event_kept (Kept.setFld hs _ _ _ (hm.sub rfl)) _ _ _ _ _ _ (hm.sub rfl)) (hm.sub rfl)))) (Kept.foldl (Kept.ite (Kept.upd_4000 (State_setFlag_kept (Kept.ite (Kept.upd_4000 (resolveWaiting_kept (Kept.upd_4000 (State_event_kept (Kept.setFld hs _ _ _ (hm.sub rfl)) _ _ _ _ _ _ (hm.sub rfl)) (hm.sub rfl)) (hm.sub rfl)) (hm.sub rfl)) (Kept.upd_4000 (State_event_kept (Kept.setFld hs _ _ _ (hm.sub rfl)) _ _ _ _ _ _ (hm.sub rfl)) (hm.sub rfl))) _ _ _ (hm.sub rfl)) (hm.sub rfl)) (Kept.ite (Kept.upd_4000 (resolveWaiting_kept (Kept.upd_4000 (State_event_kept (Kept.setFld hs _ _ _ (hm.sub rfl)) _ _ _ _ _ _ (hm.sub rfl)) (hm.sub rfl)) (hm.sub rfl)) (hm.sub rfl)) (Kept.upd_4000 (State_event_kept (Kept.setFld hs _ _ _ (hm.sub rfl)) _ _ _ _ _ _ (hm.sub rfl)) (hm.sub rfl)))) (fun _ _ h => rallyUnalign_kept h _ (hm.sub rfl)) _)))) _ (hm.sub rfl))))

theorem pairLost_kept {μ : Nat} {s₀ : State} {s : State} (hs : Kept μ s₀ s)
    (hm : Within 0x4a8100004a8100006260 μ) :
    Kept μ s₀ (pairLost s) := by
  unfold pairLost; exact (setPair_kept (State_count_kept (State_setFlt_kept hs _ (hm.sub rfl) (hm.sub rfl)) _ _ (hm.sub rfl)) _ (hm.sub rfl))

theorem sendHello_kept {μ : Nat} {s₀ : State} {s : State} (hs : Kept μ s₀ s)
    (hm : Within 0x4000 μ) :
    Kept μ s₀ (sendHello s) := by
  unfold sendHello; exact (sendRally_kept hs _ _ (hm.sub rfl))

theorem helloTx_kept {μ : Nat} {s₀ : State} {s : State} (hs : Kept μ s₀ s)
    (hm : Within 0x4000 μ) :
    Kept μ s₀ (helloTx s) := by
  unfold helloTx; exact (Kept.ite hs (sendHello_kept (Kept.upd_4000 hs (hm.sub rfl)) (hm.sub rfl)))

theorem execHelloTx_kept {μ : Nat} {s₀ : State} {s : State} (hs : Kept μ s₀ s)
    (hm : Within 0x4000 μ) :
    KeptN μ s₀ (execHelloTx s) := by
  unfold execHelloTx; exact (KeptN.next (Kept.live hs (fun _ hz0 => (helloTx_kept hz0 (hm.sub rfl)))))

theorem twinEnable_kept {μ : Nat} {s₀ : State} {s : State} (hs : Kept μ s₀ s)
    (hm : Within 0x4ac100004ac100006360 μ) :
    Kept μ s₀ (twinEnable s) := by
  unfold twinEnable
  exact (Kept.ite hs (Kept.ite (State_setFlt_kept hs _ (hm.sub rfl) (hm.sub rfl)) (sendHello_kept (setPair_kept (joinSettle_kept (Kept.upd_4000 (State_setFlag_kept hs _ _ _ (hm.sub rfl)) (hm.sub rfl)) (hm.sub rfl)) _ (hm.sub rfl)) (hm.sub rfl))))

theorem twinEnableRow_kept {μ : Nat} {s₀ : State} {s : State} (hs : Kept μ s₀ s)
    (hm : Within 0x4ac100004ac100006360 μ) :
    Kept μ s₀ (twinEnableRow s) := by
  unfold twinEnableRow; exact (Kept.ite (State_rowLocked_kept hs _ _ _ (hm.sub rfl)) (twinEnable_kept hs (hm.sub rfl)))

theorem execTwinEnable_kept {μ : Nat} {s₀ : State} {s : State} (hs : Kept μ s₀ s)
    (hm : Within 0x4ac100004ac100006360 μ) :
    KeptN μ s₀ (execTwinEnable s) := by
  unfold execTwinEnable; exact (KeptN.next (Kept.live hs (fun _ hz0 => (twinEnableRow_kept hz0 (hm.sub rfl)))))

theorem twinDisable_kept {μ : Nat} {s₀ : State} {s : State} (hs : Kept μ s₀ s)
    (hm : Within 0x4a8100004a8100006260 μ) :
    Kept μ s₀ (twinDisable s) := by
  unfold twinDisable; exact (Kept.ite hs (setPair_kept (State_setFlag_kept hs _ _ _ (hm.sub rfl)) _ (hm.sub rfl)))

theorem twinDisableRow_kept {μ : Nat} {s₀ : State} {s : State} (hs : Kept μ s₀ s)
    (hm : Within 0x4a8100004a8100006260 μ) :
    Kept μ s₀ (twinDisableRow s) := by
  unfold twinDisableRow; exact (Kept.ite (State_rowLocked_kept hs _ _ _ (hm.sub rfl)) (twinDisable_kept hs (hm.sub rfl)))

theorem execTwinDisable_kept {μ : Nat} {s₀ : State} {s : State} (hs : Kept μ s₀ s)
    (hm : Within 0x4a8100004a8100006260 μ) :
    KeptN μ s₀ (execTwinDisable s) := by
  unfold execTwinDisable; exact (KeptN.next (Kept.live hs (fun _ hz0 => (twinDisableRow_kept hz0 (hm.sub rfl)))))

theorem laneRefresh_kept {μ : Nat} {s₀ : State} {s : State} (hs : Kept μ s₀ s)
    (hm : Within 0x4a8100004a8100006260 μ) :
    Kept μ s₀ (laneRefresh s) := by
  unfold laneRefresh
  exact (Kept.ite (pairLost_kept (Kept.setFld hs _ _ _ (hm.sub rfl)) (hm.sub rfl)) (Kept.ite (sendHello_kept (Kept.setFld hs _ _ _ (hm.sub rfl)) (hm.sub rfl)) (Kept.setFld hs _ _ _ (hm.sub rfl))))

theorem twinLaneDown_kept {μ : Nat} {s₀ : State} {s : State} (hs : Kept μ s₀ s) (lane : Nat)
    (hm : Within 0x4a8100004a8100006260 μ) :
    Kept μ s₀ (twinLaneDown s lane) := by
  unfold twinLaneDown
  exact (Kept.ite hs (laneRefresh_kept (Kept.upd_4000 (Kept.ite (State_count_kept (State_setFlt_kept hs _ (hm.sub rfl) (hm.sub rfl)) _ _ (hm.sub rfl)) hs) (hm.sub rfl)) (hm.sub rfl)))

theorem execTwinLaneDown_kept {μ : Nat} {s₀ : State} {s : State} (hs : Kept μ s₀ s) (lane : Nat)
    (hm : Within 0x4a8100004a8100006260 μ) :
    KeptN μ s₀ (execTwinLaneDown lane s) := by
  unfold execTwinLaneDown; exact (KeptN.next (Kept.live hs (fun _ hz0 => (twinLaneDown_kept hz0 _ (hm.sub rfl)))))

theorem twinLaneUp_kept {μ : Nat} {s₀ : State} {s : State} (hs : Kept μ s₀ s) (lane : Nat)
    (hm : Within 0x4a8100004a8100006260 μ) :
    Kept μ s₀ (twinLaneUp s lane) := by
  unfold twinLaneUp; exact (Kept.ite hs (laneRefresh_kept (Kept.upd_4000 hs (hm.sub rfl)) (hm.sub rfl)))

theorem execTwinLaneUp_kept {μ : Nat} {s₀ : State} {s : State} (hs : Kept μ s₀ s) (lane : Nat)
    (hm : Within 0x4a8100004a8100006260 μ) :
    KeptN μ s₀ (execTwinLaneUp lane s) := by
  unfold execTwinLaneUp; exact (KeptN.next (Kept.live hs (fun _ hz0 => (twinLaneUp_kept hz0 _ (hm.sub rfl)))))

theorem crcErr_kept {μ : Nat} {s₀ : State} {s : State} (hs : Kept μ s₀ s) (lane : Nat) (ownSide : Bool)
    (hm : Within 0x42010000420100000040 μ) :
    Kept μ s₀ (crcErr s lane ownSide) := by
  unfold crcErr
  exact (Kept.ite (State_setFlt_kept (State_setFlt_kept (State_count_kept hs _ _ (Within.iteC (hm.sub rfl) (hm.sub rfl))) _ (hm.sub rfl) (hm.sub rfl)) _ (hm.sub rfl) (hm.sub rfl)) (State_setFlt_kept (State_count_kept hs _ _ (Within.iteC (hm.sub rfl) (hm.sub rfl))) _ (hm.sub rfl) (hm.sub rfl)))

theorem execRallyCopyDiscard_kept {μ : Nat} {s₀ : State} {s : State} (hs : Kept μ s₀ s) (lane : Nat) (ownSide : Bool)
    (hm : Within 0x42010000420100000040 μ) :
    KeptN μ s₀ (execRallyCopyDiscard lane ownSide s) := by
  unfold execRallyCopyDiscard; exact (KeptN.next (Kept.live hs (fun _ hz0 => (crcErr_kept hz0 _ _ (hm.sub rfl)))))

theorem rallyAccept_kept {μ : Nat} {s₀ : State} {s : State} (hs : Kept μ s₀ s) (h : RallyHdr) (hello : Bool)
    (hm : Within 0x42010000420100004040 μ) :
    Kept μ s₀ (rallyAccept s h hello).2 := by
  unfold rallyAccept
  exact (Kept.ite2 (crcErr_kept hs _ _ (hm.sub rfl)) (by (try dsimp only); split; (· exact (Kept.ite2 (State_count_kept (Kept.upd_4000 hs (hm.sub rfl)) _ _ (hm.sub rfl)) (State_count_kept hs _ _ (hm.sub rfl)))); (· exact (Kept.ite2 (State_count_kept (Kept.upd_4000 hs (hm.sub rfl)) _ _ (hm.sub rfl)) (State_count_kept hs _ _ (hm.sub rfl))))))

theorem onCopy_kept {μ : Nat} {s₀ : State} {s : State} (hs : Kept μ s₀ s) (h : RallyHdr) (hello : Bool) (f : State → State) (kf : ∀ t , Kept μ s₀ t → Kept μ s₀ (f t ))
    (hm : Within 0x42010000420100004040 μ) :
    Kept μ s₀ (onCopy s h hello f) := by
  unfold onCopy
  (try dsimp only)
  split
  · exact (kf _ (Kept.of_pair ‹_› (rallyAccept_kept hs _ _ (hm.sub rfl))))
  · exact (Kept.of_pair ‹_› (rallyAccept_kept hs _ _ (hm.sub rfl)))

theorem alignGroup_kept {μ : Nat} {s₀ : State} {s : State} (hs : Kept μ s₀ s) (w : List Nat) (g : Nat)
    (hm : Within 0x40010000420100004040 μ) :
    Kept μ s₀ (alignGroup s w g) := by
  unfold alignGroup
  exact (Kept.ite (rallyUnalign_kept hs _ (hm.sub rfl)) (Kept.ite hs (by (try dsimp only); split; (· exact hs); (· exact (Kept.ite (Kept.setFld (Kept.setFld (State_setSfld_kept hs _ _ _ (hm.sub rfl)) _ _ _ (hm.sub rfl)) _ _ _ (hm.sub rfl)) (State_setFlt_kept hs _ (hm.sub rfl) (hm.sub rfl)))))))

theorem helloRx_kept {μ : Nat} {s₀ : State} {s : State} (hs : Kept μ s₀ s) (h : RallyHdr) (w : List Nat)
    (hm : Within 0x4a8100004a8100006260 μ) :
    Kept μ s₀ (helloRx s h w) := by
  unfold helloRx
  exact (onCopy_kept hs _ _ _ (fun _ hz0 => (Kept.ite hz0 (Kept.ite (Kept.ite (State_setFlt_kept (Kept.upd_4000 (Kept.ite (Kept.upd_4000 (setPair_kept hz0 _ (hm.sub rfl)) (hm.sub rfl)) hz0) (hm.sub rfl)) _ (Within.iteF (hm.sub rfl) (hm.sub rfl)) (hm.sub rfl)) (State_event_kept (Kept.upd_4000 (State_setFlt_kept (Kept.upd_4000 (Kept.ite (Kept.upd_4000 (setPair_kept hz0 _ (hm.sub rfl)) (hm.sub rfl)) hz0) (hm.sub rfl)) _ (Within.iteF (hm.sub rfl) (hm.sub rfl)) (hm.sub rfl)) (hm.sub rfl)) _ _ _ _ _ _ (hm.sub rfl))) (Kept.foldl (Kept.ite (setPair_kept (Kept.upd_4000 (Kept.ite (Kept.upd_4000 (setPair_kept hz0 _ (hm.sub rfl)) (hm.sub rfl)) hz0) (hm.sub rfl)) _ (hm.sub rfl)) (decideRole_kept (Kept.upd_4000 (Kept.ite (Kept.upd_4000 (setPair_kept hz0 _ (hm.sub rfl)) (hm.sub rfl)) hz0) (hm.sub rfl)) (hm.sub rfl))) (fun _ _ hz1 => (alignGroup_kept hz1 _ _ (hm.sub rfl))) _)))) (hm.sub rfl))

theorem execHelloRx_kept {μ : Nat} {s₀ : State} {s : State} (hs : Kept μ s₀ s) (h : RallyHdr) (w : List Nat)
    (hm : Within 0x4a8100004a8100006260 μ) :
    KeptN μ s₀ (execHelloRx h w s) := by
  unfold execHelloRx; exact (KeptN.next (Kept.live hs (fun _ hz0 => (helloRx_kept hz0 _ _ (hm.sub rfl)))))

theorem fprintRx_kept {μ : Nat} {s₀ : State} {s : State} (hs : Kept μ s₀ s) (h : RallyHdr) (w : List Nat)
    (hm : Within 0x42010000420100004040 μ) :
    Kept μ s₀ (fprintRx s h w) := by
  unfold fprintRx; exact (onCopy_kept hs _ _ _ (fun _ hz0 => (State_setRgrp_kept hz0 _ _ (hm.sub rfl))) (hm.sub rfl))

theorem execFprintRx_kept {μ : Nat} {s₀ : State} {s : State} (hs : Kept μ s₀ s) (h : RallyHdr) (w : List Nat)
    (hm : Within 0x42010000420100004040 μ) :
    KeptN μ s₀ (execFprintRx h w s) := by
  unfold execFprintRx; exact (KeptN.next (Kept.live hs (fun _ hz0 => (fprintRx_kept hz0 _ _ (hm.sub rfl)))))

theorem commitRx_kept {μ : Nat} {s₀ : State} {s : State} (hs : Kept μ s₀ s) (h : RallyHdr) (w : List Nat)
    (hm : Within 0x4a8100004a8100006260 μ) :
    Kept μ s₀ (commitRx s h w) := by
  unfold commitRx
  exact (onCopy_kept hs _ _ _ (fun _ hz0 => (by (try dsimp only); split; (· exact (by (try dsimp only); split; (· exact (closePend_kept (State_setRgrp_kept hz0 _ _ (hm.sub rfl)) _ _ (hm.sub rfl))); (· exact (State_setRgrp_kept hz0 _ _ (hm.sub rfl))))); (· exact (Kept.ite (Kept.ite (classifyAll_kept (State_count_kept (setPend_kept (State_count_kept (by (try dsimp only); split; (· exact (closePend_kept (State_setRgrp_kept hz0 _ _ (hm.sub rfl)) _ _ (hm.sub rfl))); (· exact (State_setRgrp_kept hz0 _ _ (hm.sub rfl)))) _ _ (hm.sub rfl)) _ _ (hm.sub rfl)) _ _ (hm.sub rfl)) _ _ (hm.sub rfl)) (State_count_kept (setPend_kept (State_count_kept (by (try dsimp only); split; (· exact (closePend_kept (State_setRgrp_kept hz0 _ _ (hm.sub rfl)) _ _ (hm.sub rfl))); (· exact (State_setRgrp_kept hz0 _ _ (hm.sub rfl)))) _ _ (hm.sub rfl)) _ _ (hm.sub rfl)) _ _ (hm.sub rfl))) (Kept.ite (inTime_kept (setPend_kept (State_count_kept (by (try dsimp only); split; (· exact (closePend_kept (State_setRgrp_kept hz0 _ _ (hm.sub rfl)) _ _ (hm.sub rfl))); (· exact (State_setRgrp_kept hz0 _ _ (hm.sub rfl)))) _ _ (hm.sub rfl)) _ _ (hm.sub rfl)) _ _ (hm.sub rfl)) (resolveCommit_kept (inTime_kept (setPend_kept (State_count_kept (by (try dsimp only); split; (· exact (closePend_kept (State_setRgrp_kept hz0 _ _ (hm.sub rfl)) _ _ (hm.sub rfl))); (· exact (State_setRgrp_kept hz0 _ _ (hm.sub rfl)))) _ _ (hm.sub rfl)) _ _ (hm.sub rfl)) _ _ (hm.sub rfl)) _ _ (hm.sub rfl))))))) (hm.sub rfl))

theorem execCommitRx_kept {μ : Nat} {s₀ : State} {s : State} (hs : Kept μ s₀ s) (h : RallyHdr) (w : List Nat)
    (hm : Within 0x4a8100004a8100006260 μ) :
    KeptN μ s₀ (execCommitRx h w s) := by
  unfold execCommitRx; exact (KeptN.next (Kept.live hs (fun _ hz0 => (commitRx_kept hz0 _ _ (hm.sub rfl)))))

theorem gseqRx_kept {μ : Nat} {s₀ : State} {s : State} (hs : Kept μ s₀ s) (h : RallyHdr) (w : List Nat)
    (hm : Within 0x42010000428100004040 μ) :
    Kept μ s₀ (gseqRx s h w) := by
  unfold gseqRx
  exact (onCopy_kept hs _ _ _ (fun _ hz0 => (Kept.foldl hz0 (fun _ _ hz1 => (gooseGseqRx_kept hz1 _ _ _ (hm.sub rfl))) _)) (hm.sub rfl))

theorem execGseqRx_kept {μ : Nat} {s₀ : State} {s : State} (hs : Kept μ s₀ s) (h : RallyHdr) (w : List Nat)
    (hm : Within 0x42010000428100004040 μ) :
    KeptN μ s₀ (execGseqRx h w s) := by
  unfold execGseqRx; exact (KeptN.next (Kept.live hs (fun _ hz0 => (gseqRx_kept hz0 _ _ (hm.sub rfl)))))

theorem yieldRx_kept {μ : Nat} {s₀ : State} {s : State} (hs : Kept μ s₀ s) (h : RallyHdr)
    (hm : Within 0x4a8100004a8100006060 μ) :
    Kept μ s₀ (yieldRx s h) := by
  unfold yieldRx
  exact (onCopy_kept hs _ _ _ (fun _ hz0 => (Kept.ite (setRole_kept (Kept.upd_4000 hz0 (hm.sub rfl)) _ (hm.sub rfl)) (Kept.upd_4000 hz0 (hm.sub rfl)))) (hm.sub rfl))

theorem execYieldRx_kept {μ : Nat} {s₀ : State} {s : State} (hs : Kept μ s₀ s) (h : RallyHdr)
    (hm : Within 0x4a8100004a8100006060 μ) :
    KeptN μ s₀ (execYieldRx h s) := by
  unfold execYieldRx; exact (KeptN.next (Kept.live hs (fun _ hz0 => (yieldRx_kept hz0 _ (hm.sub rfl)))))

theorem pairLinkTimeout_kept {μ : Nat} {s₀ : State} {s : State} (hs : Kept μ s₀ s)
    (hm : Within 0x4a8100004a8100006260 μ) :
    Kept μ s₀ (pairLinkTimeout s) := by
  unfold pairLinkTimeout; exact (Kept.ite (pairLost_kept hs (hm.sub rfl)) hs)

theorem execPairLinkTimeout_kept {μ : Nat} {s₀ : State} {s : State} (hs : Kept μ s₀ s)
    (hm : Within 0x4a8100004a8100006260 μ) :
    KeptN μ s₀ (execPairLinkTimeout s) := by
  unfold execPairLinkTimeout; exact (KeptN.next (Kept.live hs (fun _ hz0 => (pairLinkTimeout_kept hz0 (hm.sub rfl)))))

theorem twinRefuse_kept {μ : Nat} {s₀ : State} {s : State} (hs : Kept μ s₀ s)
    (hm : Within 0x40010000420100000040 μ) :
    Kept μ s₀ (twinRefuse s) := by
  unfold twinRefuse; exact (State_setFlt_kept hs _ (hm.sub rfl) (hm.sub rfl))

theorem twinYield_kept {μ : Nat} {s₀ : State} {s : State} (hs : Kept μ s₀ s)
    (hm : Within 0x4a8100004a8100006060 μ) :
    Kept μ s₀ (twinYield s) := by
  unfold twinYield
  exact (Kept.ite (twinRefuse_kept hs (hm.sub rfl)) (sendCtrl_kept (setRole_kept (State_setFlag_kept hs _ _ _ (hm.sub rfl)) _ (hm.sub rfl)) _ _ (hm.sub rfl)))

theorem execYield_kept {μ : Nat} {s₀ : State} {s : State} (hs : Kept μ s₀ s)
    (hm : Within 0x4a8100004a8100006060 μ) :
    KeptN μ s₀ (execYield s) := by
  unfold execYield; exact (KeptN.next (Kept.live hs (fun _ hz0 => (twinYield_kept hz0 (hm.sub rfl)))))

theorem execRealign_kept {μ : Nat} {s₀ : State} {s : State} (hs : Kept μ s₀ s) (g : Nat)
    (hm : Within 0x20000004000 μ) :
    KeptN μ s₀ (execRealign g s) := by
  unfold execRealign; exact (KeptN.next (Kept.live hs (fun _ hz0 => (Kept.ite hz0 (rallyUnalign_kept hz0 _ (hm.sub rfl))))))

theorem execClrRmax_kept {μ : Nat} {s₀ : State} {s : State} (hs : Kept μ s₀ s) (g : Nat)
    (hm : Within 0x20000000000 μ) :
    KeptN μ s₀ (execClrRmax g s) := by
  unfold execClrRmax; exact (KeptN.next (Kept.live hs (fun _ hz0 => (Kept.ite hz0 (Kept.setFld hz0 _ _ _ (hm.sub rfl))))))

theorem wakeStart_kept {μ : Nat} {s₀ : State} {s : State} (hs : Kept μ s₀ s)
    (hm : Within 0x2000000020000004000 μ) :
    Kept μ s₀ (wakeStart s) := by
  unfold wakeStart; exact (Kept.ite hs (State_count_kept (Kept.upd_4000 hs (hm.sub rfl)) _ _ (hm.sub rfl)))

theorem execWake_kept {μ : Nat} {s₀ : State} {s : State} (hs : Kept μ s₀ s)
    (hm : Within 0x42010000420100004040 μ) :
    KeptN μ s₀ (execWake s) := by
  unfold execWake; exact (KeptN.next (Kept.live hs (fun _ hz0 => (Kept.ite (twinRefuse_kept hz0 (hm.sub rfl)) (wakeStart_kept hz0 (hm.sub rfl))))))

theorem wakeFrameTx_kept {μ : Nat} {s₀ : State} {s : State} (hs : Kept μ s₀ s)
    (hm : Within 0x10040000100401014010 μ) :
    Kept μ s₀ (wakeFrameTx s) := by
  unfold wakeFrameTx
  (try dsimp only)
  split
  · exact hs
  · exact (Kept.ite hs (Kept.ite (sendOob_kept (Kept.upd_4000 hs (hm.sub rfl)) _ _ (hm.sub rfl)) (Kept.upd_4000 hs (hm.sub rfl))))

theorem execWakeFrameTx_kept {μ : Nat} {s₀ : State} {s : State} (hs : Kept μ s₀ s)
    (hm : Within 0x10040000100401014010 μ) :
    KeptN μ s₀ (execWakeFrameTx s) := by
  unfold execWakeFrameTx; exact (KeptN.next (Kept.live hs (fun _ hz0 => (wakeFrameTx_kept hz0 (hm.sub rfl)))))

theorem wakeTimeout_kept {μ : Nat} {s₀ : State} {s : State} (hs : Kept μ s₀ s)
    (hm : Within 0x480100004a0100004060 μ) :
    Kept μ s₀ (wakeTimeout s) := by
  unfold wakeTimeout
  exact (Kept.ite hs (State_event_kept (State_setFlt_kept (wakeStop_kept hs (hm.sub rfl)) _ (hm.sub rfl) (hm.sub rfl)) _ _ _ _ _ _ (hm.sub rfl)))

theorem execWakeTimeout_kept {μ : Nat} {s₀ : State} {s : State} (hs : Kept μ s₀ s)
    (hm : Within 0x480100004a0100004060 μ) :
    KeptN μ s₀ (execWakeTimeout s) := by
  unfold execWakeTimeout; exact (KeptN.next (Kept.live hs (fun _ hz0 => (wakeTimeout_kept hz0 (hm.sub rfl)))))

theorem execResetPartner_kept {μ : Nat} {s₀ : State} {s : State} (hs : Kept μ s₀ s)
    (hm : Within 0x42010000420100004040 μ) :
    KeptN μ s₀ (execResetPartner s) := by
  unfold execResetPartner
  exact (KeptN.next (Kept.live hs (fun _ hz0 => (Kept.ite (twinRefuse_kept hz0 (hm.sub rfl)) (sendCtrl_kept (State_count_kept hz0 _ _ (hm.sub rfl)) _ _ (hm.sub rfl))))))

theorem resetReqRx_kept {μ : Nat} {s₀ : State} {s : State} (hs : Kept μ s₀ s) (h : RallyHdr)
    (hm : Within 0x4a0100004a0100004060 μ) :
    Kept μ s₀ (resetReqRx s h) := by
  unfold resetReqRx
  exact (onCopy_kept hs _ _ _ (fun _ hz0 => (Kept.ite (Kept.upd_4000 (State_event_kept (State_count_kept hz0 _ _ (hm.sub rfl)) _ _ _ _ _ _ (hm.sub rfl)) (hm.sub rfl)) (sendCtrl_kept (State_count_kept (State_setFlt_kept (State_count_kept hz0 _ _ (hm.sub rfl)) _ (hm.sub rfl) (hm.sub rfl)) _ _ (hm.sub rfl)) _ _ (hm.sub rfl)))) (hm.sub rfl))

theorem execResetReqRx_kept {μ : Nat} {s₀ : State} {s : State} (hs : Kept μ s₀ s) (h : RallyHdr)
    (hm : Within 0x4a0100004a0100004060 μ) :
    KeptN μ s₀ (execResetReqRx h s) := by
  unfold execResetReqRx; exact (KeptN.next (Kept.live hs (fun _ hz0 => (resetReqRx_kept hz0 _ (hm.sub rfl)))))

theorem execResetNakRx_kept {μ : Nat} {s₀ : State} {s : State} (hs : Kept μ s₀ s) (h : RallyHdr)
    (hm : Within 0x42010000420100004040 μ) :
    KeptN μ s₀ (execResetNakRx h s) := by
  unfold execResetNakRx
  exact (KeptN.next (Kept.live hs (fun _ hz0 => (onCopy_kept hz0 _ _ _ (fun _ hz1 => (State_setFlt_kept hz1 _ (hm.sub rfl) (hm.sub rfl))) (hm.sub rfl)))))

theorem xferTimeout_kept {μ : Nat} {s₀ : State} {s : State} (hs : Kept μ s₀ s)
    (hm : Within 0x40410000424100004140 μ) :
    Kept μ s₀ (xferTimeout s) := by
  unfold xferTimeout
  (try dsimp only)
  split
  · exact hs
  · exact (Kept.ite hs (joinSettle_kept (Kept.ite (State_setFlt_kept (Kept.upd_4000 hs (hm.sub rfl)) _ (hm.sub rfl) (hm.sub rfl)) (Kept.upd_4000 hs (hm.sub rfl))) (hm.sub rfl)))

theorem execXferTimeout_kept {μ : Nat} {s₀ : State} {s : State} (hs : Kept μ s₀ s)
    (hm : Within 0x40410000424100004140 μ) :
    KeptN μ s₀ (execXferTimeout s) := by
  unfold execXferTimeout; exact (KeptN.next (Kept.live hs (fun _ hz0 => (xferTimeout_kept hz0 (hm.sub rfl)))))

theorem xferFrameTx_kept {μ : Nat} {s₀ : State} {s : State} (hs : Kept μ s₀ s)
    (hm : Within 0x4000 μ) :
    Kept μ s₀ (xferFrameTx s) := by
  unfold xferFrameTx; (try dsimp only); split; (· exact hs); (· exact (Kept.ite hs (sendRally_kept (Kept.upd_4000 hs (hm.sub rfl)) _ _ (hm.sub rfl))))

theorem execXferFrameTx_kept {μ : Nat} {s₀ : State} {s : State} (hs : Kept μ s₀ s)
    (hm : Within 0x4000 μ) :
    KeptN μ s₀ (execXferFrameTx s) := by
  unfold execXferFrameTx; exact (KeptN.next (Kept.live hs (fun _ hz0 => (xferFrameTx_kept hz0 (hm.sub rfl)))))

theorem xferRefuse_kept {μ : Nat} {s₀ : State} {s : State} (hs : Kept μ s₀ s) (p : Nat)
    (hm : Within 0x40410000424100004140 μ) :
    Kept μ s₀ (xferRefuse s p) := by
  unfold xferRefuse
  (try dsimp only)
  split
  · exact (sendCtrl_kept hs _ _ (hm.sub rfl))
  · exact (Kept.ite (Kept.upd_4000 (sendCtrl_kept hs _ _ (hm.sub rfl)) (hm.sub rfl)) (joinSettle_kept (State_setFlt_kept (Kept.upd_4000 (sendCtrl_kept hs _ _ (hm.sub rfl)) (hm.sub rfl)) _ (hm.sub rfl) (hm.sub rfl)) (hm.sub rfl)))

theorem xferComplete_kept {μ : Nat} {s₀ : State} {s : State} (hs : Kept μ s₀ s) (p : Nat) (crc : Nat) (img : Option XferImg)
    (hm : Within 0x40410000424100004140 μ) :
    Kept μ s₀ (xferComplete s p crc img) := by
  unfold xferComplete
  (try dsimp only)
  split
  · exact (Kept.ite (Kept.upd_4000 (Kept.upd_4000 hs (hm.sub rfl)) (hm.sub rfl)) (xferRefuse_kept (Kept.upd_4000 hs (hm.sub rfl)) _ (hm.sub rfl)))
  · exact (xferRefuse_kept (Kept.upd_4000 hs (hm.sub rfl)) _ (hm.sub rfl))

theorem xferRx_kept {μ : Nat} {s₀ : State} {s : State} (hs : Kept μ s₀ s) (h : RallyHdr) (w : List Nat)
    (hm : Within 0x42410000424100004140 μ) :
    Kept μ s₀ (xferRx s h w) := by
  unfold xferRx
  exact (onCopy_kept hs _ _ _ (fun _ hz0 => (Kept.ite hz0 (Kept.ite (Kept.upd_4000 hz0 (hm.sub rfl)) (xferComplete_kept hz0 _ _ _ (hm.sub rfl))))) (hm.sub rfl))

theorem execXferRx_kept {μ : Nat} {s₀ : State} {s : State} (hs : Kept μ s₀ s) (h : RallyHdr) (w : List Nat)
    (hm : Within 0x42410000424100004140 μ) :
    KeptN μ s₀ (execXferRx h w s) := by
  unfold execXferRx; exact (KeptN.next (Kept.live hs (fun _ hz0 => (xferRx_kept hz0 _ _ (hm.sub rfl)))))

theorem xferNext_kept {μ : Nat} {s₀ : State} {s : State} (hs : Kept μ s₀ s) (p : Nat)
    (hm : Within 0x4000 μ) :
    Kept μ s₀ (xferNext s p) := by
  unfold xferNext; exact (Kept.upd_4000 hs (hm.sub rfl))

theorem xferAckRx_kept {μ : Nat} {s₀ : State} {s : State} (hs : Kept μ s₀ s) (h : RallyHdr) (p : Nat)
    (hm : Within 0x42010000420100004040 μ) :
    Kept μ s₀ (xferAckRx s h p) := by
  unfold xferAckRx; exact (onCopy_kept hs _ _ _ (fun _ hz0 => (Kept.ite (xferNext_kept hz0 _ (hm.sub rfl)) hz0)) (hm.sub rfl))

theorem execXferAckRx_kept {μ : Nat} {s₀ : State} {s : State} (hs : Kept μ s₀ s) (h : RallyHdr) (p : Nat)
    (hm : Within 0x42010000420100004040 μ) :
    KeptN μ s₀ (execXferAckRx h p s) := by
  unfold execXferAckRx; exact (KeptN.next (Kept.live hs (fun _ hz0 => (xferAckRx_kept hz0 _ _ (hm.sub rfl)))))

theorem xferNakRx_kept {μ : Nat} {s₀ : State} {s : State} (hs : Kept μ s₀ s) (h : RallyHdr) (p : Nat)
    (hm : Within 0x42010000420100004040 μ) :
    Kept μ s₀ (xferNakRx s h p) := by
  unfold xferNakRx
  exact (onCopy_kept hs _ _ _ (fun _ hz0 => (Kept.ite hz0 (Kept.ite (xferNext_kept hz0 _ (hm.sub rfl)) (Kept.upd_4000 hz0 (hm.sub rfl))))) (hm.sub rfl))

theorem execXferNakRx_kept {μ : Nat} {s₀ : State} {s : State} (hs : Kept μ s₀ s) (h : RallyHdr) (p : Nat)
    (hm : Within 0x42010000420100004040 μ) :
    KeptN μ s₀ (execXferNakRx h p s) := by
  unfold execXferNakRx; exact (KeptN.next (Kept.live hs (fun _ hz0 => (xferNakRx_kept hz0 _ _ (hm.sub rfl)))))

theorem rallyPrints_kept {μ : Nat} {s₀ : State} {s : State} (hs : Kept μ s₀ s) (g : Nat) (w : Nat)
    (hm : Within 0x4000 μ) :
    Kept μ s₀ (rallyPrints s g w) := by
  unfold rallyPrints; exact (Kept.ite (sendRally_kept hs _ _ (hm.sub rfl)) hs)

theorem fingerprintHand_kept {μ : Nat} {s₀ : State} {s : State} (hs : Kept μ s₀ s) (p : Nat)
    (hm : Within 0x100000001000004800 μ) :
    Kept μ s₀ (fingerprintHand s p) := by
  unfold fingerprintHand
  (try dsimp only)
  split
  · exact (Kept.ite (fingerprintComplete_kept hs _ (hm.sub rfl)) (rallyPrints_kept (fingerprintComplete_kept hs _ (hm.sub rfl)) _ _ (hm.sub rfl)))
  · exact (fingerprintComplete_kept hs _ (hm.sub rfl))

theorem execFingerprintComplete_kept {μ : Nat} {s₀ : State} {s : State} (hs : Kept μ s₀ s) (p : Nat)
    (hm : Within 0x100000001000004800 μ) :
    KeptN μ s₀ (execFingerprintComplete p s) := by
  unfold execFingerprintComplete; exact (KeptN.next (Kept.live hs (fun _ hz0 => (fingerprintHand_kept hz0 _ (hm.sub rfl)))))

end Sys2Proof.Machine
end

