-- ==== Sys2Proof/Laws/KeptDrec.lean ====
section
/-! SUPPORT. Each function of Machine/Drec.lean keeps what `Kept` says. -/

set_option Elab.async false

namespace Sys2Proof.Machine

theorem ringWrite_kept {μ : Nat} {s₀ : State} {s : State} (hs : Kept μ s₀ s) (base : Nat) (d : Nat) (off : Nat) (l : List Nat)
    (hm : Within 0x49410000cb4100400768 μ) :
    Kept μ s₀ (ringWrite s base d off l).2 := by
  exact Kept.foldl_pair (p := (true, s)) hs (fun _ _ h => by dsimp only; exact dmaWrite_kept h _ _ _ _ (hm.sub rfl)) _

theorem wordsWrite_kept {μ : Nat} {s₀ : State} {s : State} (hs : Kept μ s₀ s) (a : Nat) (l : List Nat)
    (hm : Within 0x49410000cb4100400768 μ) :
    Kept μ s₀ (wordsWrite s a l).2 := by
  unfold wordsWrite; exact (ringWrite_kept hs _ _ _ _ (hm.sub rfl))

theorem fitField_kept {μ : Nat} {s₀ : State} {s : State} (hs : Kept μ s₀ s) (w : Nat) (v : Nat)
    (hm : Within 0x1000000 μ) :
    Kept μ s₀ (fitField s w v).2 := by
  unfold fitField; exact (Kept.ite2 hs (State_takeFree_kept hs (hm.sub rfl)))

theorem setSlot_kept {μ : Nat} {s₀ : State} {s : State} (hs : Kept μ s₀ s) (k : Nat) (st : Nat)
    (hm : Within 0x40000000000 μ) :
    Kept μ s₀ (setSlot s k st) := by
  unfold setSlot; exact (Kept.setFld hs _ _ _ (hm.sub rfl))

theorem setDrec_kept {μ : Nat} {s₀ : State} {s : State} (hs : Kept μ s₀ s) (st : Nat)
    (hm : Within 0x40000000000 μ) :
    Kept μ s₀ (setDrec s st) := by
  unfold setDrec; exact (Kept.setFld hs _ _ _ (hm.sub rfl))

theorem clearValid_kept {μ : Nat} {s₀ : State} {s : State} (hs : Kept μ s₀ s) (k : Nat)
    (hm : Within 0x49410000cb4100400768 μ) :
    Kept μ s₀ (clearValid s k).2 := by
  unfold clearValid; exact (Kept.ite2 (dmaWrite_kept hs _ _ _ _ (hm.sub rfl)) hs)

theorem rearmGap_kept {μ : Nat} {s₀ : State} {s : State} (hs : Kept μ s₀ s)
    (hm : Within 0x1000000 μ) :
    Kept μ s₀ (rearmGap s).2 := by
  unfold rearmGap; exact (Kept.ite2 (fitField_kept hs _ _ (hm.sub rfl)) (State_takeFree_kept hs (hm.sub rfl)))

theorem armSlot_kept {μ : Nat} {s₀ : State} {s : State} (hs : Kept μ s₀ s) (k : Nat) (overw : Bool)
    (hm : Within 0x4d410000cf4101420768 μ) :
    Kept μ s₀ (armSlot s k overw) := by
  unfold armSlot
  exact (Kept.upd_20000 (Kept.setFld (setDrec_kept (setSlot_kept (rearmGap_kept (clearValid_kept (Kept.ite (State_setFlt_kept (State_count_kept hs _ _ (hm.sub rfl)) _ (hm.sub rfl) (hm.sub rfl)) hs) _ (hm.sub rfl)) (hm.sub rfl)) _ _ (hm.sub rfl)) _ (hm.sub rfl)) _ _ _ (hm.sub rfl)) (hm.sub rfl))

theorem armNext_kept {μ : Nat} {s₀ : State} {s : State} (hs : Kept μ s₀ s)
    (hm : Within 0x4d410000cf4101420768 μ) :
    Kept μ s₀ (armNext s) := by
  unfold armNext
  (try dsimp only)
  split
  · exact (armSlot_kept hs _ _ (hm.sub rfl))
  · exact (State_setFlt_kept (setDrec_kept (Kept.upd_20000 hs (hm.sub rfl)) _ (hm.sub rfl)) _ (hm.sub rfl) (hm.sub rfl))

theorem nextSlotArmed_kept {μ : Nat} {s₀ : State} {s : State} (hs : Kept μ s₀ s)
    (hm : Within 0x4d410000cf4101420768 μ) :
    Kept μ s₀ (nextSlotArmed s) := by
  unfold nextSlotArmed
  exact (Kept.ite (armNext_kept hs (hm.sub rfl)) (Kept.ite (by (try dsimp only); split; (· exact (armSlot_kept hs _ _ (hm.sub rfl))); (· exact hs)) hs))

theorem execDrecNextSlotArmed_kept {μ : Nat} {s₀ : State} {s : State} (hs : Kept μ s₀ s)
    (hm : Within 0x4d410000cf4101420768 μ) :
    KeptN μ s₀ (execDrecNextSlotArmed s) := by
  unfold execDrecNextSlotArmed; exact (KeptN.next (Kept.live hs (fun _ hz0 => (nextSlotArmed_kept hz0 (hm.sub rfl)))))

theorem writeConfig_kept {μ : Nat} {s₀ : State} {s : State} (hs : Kept μ s₀ s)
    (hm : Within 0x49410000cb4100400768 μ) :
    Kept μ s₀ (writeConfig s) := by
  unfold writeConfig; exact (wordsWrite_kept (wordsWrite_kept hs _ _ (hm.sub rfl)) _ _ (hm.sub rfl))

theorem drecEnable_kept {μ : Nat} {s₀ : State} {s : State} (hs : Kept μ s₀ s)
    (hm : Within 0x4d410000cf4101420768 μ) :
    Kept μ s₀ (drecEnable s) := by
  unfold drecEnable
  exact (Kept.ite hs (Kept.ite (Kept.ite (State_setFlt_kept (Kept.ite (State_setFlt_kept hs _ (hm.sub rfl) (hm.sub rfl)) hs) _ (hm.sub rfl) (hm.sub rfl)) (Kept.ite (State_setFlt_kept hs _ (hm.sub rfl) (hm.sub rfl)) hs)) (armNext_kept (Kept.upd_20000 (writeConfig_kept (State_setFlag_kept hs _ _ _ (hm.sub rfl)) (hm.sub rfl)) (hm.sub rfl)) (hm.sub rfl))))

theorem execDrecEnable_kept {μ : Nat} {s₀ : State} {s : State} (hs : Kept μ s₀ s)
    (hm : Within 0x4d410000cf4101420768 μ) :
    KeptN μ s₀ (execDrecEnable s) := by
  unfold execDrecEnable; exact (KeptN.next (Kept.live hs (fun _ hz0 => (drecEnable_kept hz0 (hm.sub rfl)))))

theorem drecDisable_kept {μ : Nat} {s₀ : State} {s : State} (hs : Kept μ s₀ s)
    (hm : Within 0x44010000440100020040 μ) :
    Kept μ s₀ (drecDisable s) := by
  unfold drecDisable
  exact (Kept.ite hs (by (try dsimp only); split; (· exact (Kept.upd_20000 (setDrec_kept (State_setFlag_kept hs _ _ _ (hm.sub rfl)) _ (hm.sub rfl)) (hm.sub rfl))); (· exact (Kept.ite (Kept.upd_20000 (setSlot_kept (State_setFlt_kept (State_count_kept (Kept.upd_20000 (setDrec_kept (State_setFlag_kept hs _ _ _ (hm.sub rfl)) _ (hm.sub rfl)) (hm.sub rfl)) _ _ (hm.sub rfl)) _ (hm.sub rfl) (hm.sub rfl)) _ _ (hm.sub rfl)) (hm.sub rfl)) (setSlot_kept (Kept.upd_20000 (setDrec_kept (State_setFlag_kept hs _ _ _ (hm.sub rfl)) _ (hm.sub rfl)) (hm.sub rfl)) _ _ (hm.sub rfl))))))

theorem execDrecDisable_kept {μ : Nat} {s₀ : State} {s : State} (hs : Kept μ s₀ s)
    (hm : Within 0x44010000440100020040 μ) :
    KeptN μ s₀ (execDrecDisable s) := by
  unfold execDrecDisable; exact (KeptN.next (Kept.live hs (fun _ hz0 => (drecDisable_kept hz0 (hm.sub rfl)))))

theorem freeSlot_kept {μ : Nat} {s₀ : State} {s : State} (hs : Kept μ s₀ s) (k : Nat)
    (hm : Within 0x40000020000 μ) :
    Kept μ s₀ (freeSlot s k) := by
  unfold freeSlot; exact (Kept.ite hs (Kept.upd_20000 (setSlot_kept hs _ _ (hm.sub rfl)) (hm.sub rfl)))

theorem drecFree_kept {μ : Nat} {s₀ : State} {s : State} (hs : Kept μ s₀ s)
    (hm : Within 0x40000020000 μ) :
    Kept μ s₀ (drecFree s) := by
  unfold drecFree; exact (Kept.ite (freeSlot_kept hs _ (hm.sub rfl)) hs)

theorem execFree_kept {μ : Nat} {s₀ : State} {s : State} (hs : Kept μ s₀ s)
    (hm : Within 0x40000020000 μ) :
    KeptN μ s₀ (execFree s) := by
  unfold execFree; exact (KeptN.next (Kept.live hs (fun _ hz0 => (drecFree_kept hz0 (hm.sub rfl)))))

theorem execFreeAll_kept {μ : Nat} {s₀ : State} {s : State} (hs : Kept μ s₀ s)
    (hm : Within 0x40000020000 μ) :
    KeptN μ s₀ (execFreeAll s) := by
  unfold execFreeAll; exact (KeptN.next (Kept.live hs (fun _ hz0 => (Kept.foldl hz0 (fun _ _ h => freeSlot_kept h _ (hm.sub rfl)) _))))

theorem unitEnable_kept {μ : Nat} {s₀ : State} {s : State} (hs : Kept μ s₀ s) (u : Nat)
    (hm : Within 0x40010000440100020040 μ) :
    Kept μ s₀ (unitEnable s u) := by
  unfold unitEnable
  exact (Kept.ite hs (Kept.ite (State_setFlt_kept (State_setFlag_kept hs _ _ _ (hm.sub rfl)) _ (hm.sub rfl) (hm.sub rfl)) (Kept.upd_20000 (State_setFlag_kept hs _ _ _ (hm.sub rfl)) (hm.sub rfl))))

theorem execDrecUnitEnable_kept {μ : Nat} {s₀ : State} {s : State} (hs : Kept μ s₀ s) (u : Nat)
    (hm : Within 0x40010000440100020040 μ) :
    KeptN μ s₀ (execDrecUnitEnable u s) := by
  unfold execDrecUnitEnable; exact (KeptN.next (Kept.live hs (fun _ hz0 => (unitEnable_kept hz0 _ (hm.sub rfl)))))

theorem drecTrigger_kept {μ : Nat} {s₀ : State} {s : State} (hs : Kept μ s₀ s) (u : Nat) (tag : Nat)
    (hm : Within 0x20000 μ) :
    Kept μ s₀ (drecTrigger s u tag) := by
  unfold drecTrigger; exact (Kept.ite hs (Kept.upd_20000 hs (hm.sub rfl)))

theorem execTrigger_kept {μ : Nat} {s₀ : State} {s : State} (hs : Kept μ s₀ s) (u : Nat) (tag : Nat)
    (hm : Within 0x20000 μ) :
    KeptN μ s₀ (execTrigger u tag s) := by
  unfold execTrigger; exact (KeptN.next (Kept.live hs (fun _ hz0 => (drecTrigger_kept hz0 _ _ (hm.sub rfl)))))

theorem hystCond_kept {μ : Nat} {s₀ : State} {s : State} (hs : Kept μ s₀ s) (u : Nat) (x : Q) (prev : Bool)
    (hm : Within 0x1000000 μ) :
    Kept μ s₀ (hystCond s u x prev).2 := by
  unfold hystCond; exact (Kept.ite2 hs (Kept.ite2 hs (State_takeFree_kept hs (hm.sub rfl))))

theorem unitCond_kept {μ : Nat} {s₀ : State} {s : State} (hs : Kept μ s₀ s) (u : Nat) (h : List DrecTick)
    (hm : Within 0x1000000 μ) :
    Kept μ s₀ (unitCond s u h).2 := by
  unfold unitCond
  exact (Kept.ite2 (Kept.ite2 hs (hystCond_kept hs _ _ _ (hm.sub rfl))) (Kept.ite2 (Kept.ite2 hs (Kept.ite2 (State_takeFree_kept hs (hm.sub rfl)) (hystCond_kept hs _ _ _ (hm.sub rfl)))) (Kept.ite2 (by (try dsimp only); split; (· exact hs); (· exact hs); (· exact hs); (· exact (State_takeFree_kept hs (hm.sub rfl)))) (Kept.ite2 hs hs))))

theorem patternCond_kept {μ : Nat} {s₀ : State} {s : State} (hs : Kept μ s₀ s) (u : Nat) (v : Nat)
    (hm : Within 0x1000000 μ) :
    Kept μ s₀ (patternCond s u v).2 := by
  unfold patternCond; (try dsimp only); split; (· exact hs); (· exact hs); (· exact (State_takeFree_kept hs (hm.sub rfl)))

theorem allConds_kept {μ : Nat} {s₀ : State} {s : State} (hs : Kept μ s₀ s) (h : List DrecTick)
    (hm : Within 0x1000000 μ) :
    Kept μ s₀ (allConds s h).2 := by
  unfold allConds
  generalize hp : List.foldl _ (0, s) (List.range 32) = p
  have h1 : Kept μ s₀ p.2 := by
    rw [← hp]
    exact Kept.foldl_pair (p := (0, s)) hs (fun _ _ k => by dsimp only; split <;> first | exact k | exact unitCond_kept k _ _ (hm.sub rfl)) _
  obtain ⟨m, t⟩ := p
  exact Kept.foldl_pair (p := (m, t)) h1 (fun _ _ k => by dsimp only; split <;> first | exact k | exact patternCond_kept k _ _ (hm.sub rfl)) _

theorem binarySample_kept {μ : Nat} {s₀ : State} {s : State} (hs : Kept μ s₀ s)
    (hm : Within 0x20000 μ) :
    Kept μ s₀ (binarySample s) := by
  unfold binarySample; (try dsimp only); split; (· exact hs); (· exact (Kept.ite hs (Kept.upd_20000 hs (hm.sub rfl))))

theorem execDrecBinarySample_kept {μ : Nat} {s₀ : State} {s : State} (hs : Kept μ s₀ s)
    (hm : Within 0x20000 μ) :
    KeptN μ s₀ (execDrecBinarySample s) := by
  unfold execDrecBinarySample; exact (KeptN.next (Kept.live hs (fun _ hz0 => (binarySample_kept hz0 (hm.sub rfl)))))

theorem putRecord_kept {μ : Nat} {s₀ : State} {s : State} (hs : Kept μ s₀ s) (g : DrecSeg) (l : List Nat)
    (hm : Within 0x49410000cb4100400768 μ) :
    Kept μ s₀ (putRecord s g l).2.2 := by
  unfold putRecord; exact (ringWrite_kept hs _ _ _ _ (hm.sub rfl))

theorem startSegment_kept {μ : Nat} {s₀ : State} {s : State} (hs : Kept μ s₀ s) (g : DrecSeg) (p : DrecPend) (fired : List Nat)
    (hm : Within 0x4000000040001020000 μ) :
    Kept μ s₀ (startSegment s g p fired).2 := by
  unfold startSegment
  exact (State_count_kept (Kept.setFld (setDrec_kept (setSlot_kept (Kept.upd_20000 (by (try dsimp only); split; (· exact (by (try dsimp only); split; (· exact hs); (· exact (fitField_kept hs _ _ (hm.sub rfl))))); (· exact (State_takeFree_kept (by (try dsimp only); split; (· exact hs); (· exact (fitField_kept hs _ _ (hm.sub rfl)))) (hm.sub rfl)))) (hm.sub rfl)) _ _ (hm.sub rfl)) _ (hm.sub rfl)) _ _ _ (hm.sub rfl)) _ _ (hm.sub rfl))

theorem renumber_kept {μ : Nat} {s₀ : State} {s : State} (hs : Kept μ s₀ s) (g : DrecSeg)
    (hm : Within 0x49410000cb4100400768 μ) :
    Kept μ s₀ (renumber s g) := by
  unfold renumber; exact (Kept.foldl hs (fun _ _ hz0 => (Kept.ite hz0 (ringWrite_kept hz0 _ _ _ _ (hm.sub rfl)))) _)

theorem addLater_kept {μ : Nat} {s₀ : State} {s : State} (hs : Kept μ s₀ s) (t : SegTrig) (fired : List Nat)
    (hm : Within 0x4000000040001000000 μ) :
    Kept μ s₀ (addLater s t fired).2 := by
  unfold addLater; exact (Kept.foldl (fitField_kept hs _ _ (hm.sub rfl)) (fun _ _ hz0 => (State_count_kept hz0 _ _ (hm.sub rfl))) _)

theorem putWindows_kept {μ : Nat} {s₀ : State} {s : State} (hs : Kept μ s₀ s) (g : DrecSeg) (wins : List (List Nat))
    (hm : Within 0x49410000cb4100400768 μ) :
    Kept μ s₀ (putWindows s g wins).2.2 := by
  unfold putWindows; split
  · exact hs
  · exact Kept.foldl_triple (p := (true, g, s)) hs (fun _ _ k => by dsimp only; exact putRecord_kept k _ _ (hm.sub rfl)) _

theorem loseTick_kept {μ : Nat} {s₀ : State} {s : State} (hs : Kept μ s₀ s) (lost : Bool)
    (hm : Within 0x44010000440100000040 μ) :
    Kept μ s₀ (loseTick lost s) := by
  unfold loseTick; exact (Kept.ite (State_setFlt_kept (State_count_kept hs _ _ (hm.sub rfl)) _ (hm.sub rfl) (hm.sub rfl)) hs)

theorem storeTick_kept {μ : Nat} {s₀ : State} {s : State} (hs : Kept μ s₀ s) (g : DrecSeg) (p : DrecPend) (t : DrecTick) (fired : List Nat) (wins : List (List Nat))
    (hm : Within 0x4d410000cf4100420768 μ) :
    Kept μ s₀ (storeTick s g p t fired wins).2 := by
  unfold storeTick
  exact (Kept.ite2 (loseTick_kept (Kept.upd_20000 hs (hm.sub rfl)) _ (hm.sub rfl)) (loseTick_kept (Kept.upd_20000 (putRecord_kept (putWindows_kept (Kept.upd_20000 hs (hm.sub rfl)) _ _ (hm.sub rfl)) _ _ (hm.sub rfl)) (hm.sub rfl)) _ (hm.sub rfl)))

theorem endSegment_kept {μ : Nat} {s₀ : State} {s : State} (hs : Kept μ s₀ s) (g : DrecSeg)
    (hm : Within 0x40010000440100020040 μ) :
    Kept μ s₀ (endSegment s g) := by
  unfold endSegment; dsimp only; split
  · exact setDrec_kept (Kept.upd_20000 (setSlot_kept hs _ _ (hm.sub rfl)) (hm.sub rfl)) _ (hm.sub rfl)
  · exact State_setFlt_kept (setDrec_kept (Kept.upd_20000 (setSlot_kept hs _ _ (hm.sub rfl)) (hm.sub rfl)) _ (hm.sub rfl)) _ (hm.sub rfl) (hm.sub rfl)

theorem missedFires_kept {μ : Nat} {s₀ : State} {s : State} (hs : Kept μ s₀ s) (fired : List Nat)
    (hm : Within 0x44010000440100000040 μ) :
    Kept μ s₀ (missedFires s fired) := by
  unfold missedFires
  exact (Kept.ite hs (Kept.foldl (State_setFlt_kept hs _ (hm.sub rfl) (hm.sub rfl)) (fun _ _ hz0 => (State_count_kept (State_count_kept hz0 _ _ (hm.sub rfl)) _ _ (hm.sub rfl))) _))

theorem recordTick_kept {μ : Nat} {s₀ : State} {s : State} (hs : Kept μ s₀ s) (p : DrecPend) (t : DrecTick) (fired : List Nat) (wins : List (List Nat))
    (hm : Within 0x4d410000cf4101420768 μ) :
    Kept μ s₀ (recordTick s p t fired wins) := by
  unfold recordTick
  (try dsimp only)
  split
  · exact (missedFires_kept hs _ (hm.sub rfl))
  · exact (by (try dsimp only); split; (· exact (Kept.upd_20000 (storeTick_kept (by (try dsimp only); split; (· exact (Kept.ite2 hs (renumber_kept (startSegment_kept hs _ _ _ (hm.sub rfl)) _ (hm.sub rfl)))); (· exact (addLater_kept hs _ _ (hm.sub rfl)))) _ _ _ _ _ (hm.sub rfl)) (hm.sub rfl))); (· exact (Kept.ite (endSegment_kept (storeTick_kept (by (try dsimp only); split; (· exact (Kept.ite2 hs (renumber_kept (startSegment_kept hs _ _ _ (hm.sub rfl)) _ (hm.sub rfl)))); (· exact (addLater_kept hs _ _ (hm.sub rfl)))) _ _ _ _ _ (hm.sub rfl)) _ (hm.sub rfl)) (Kept.upd_20000 (storeTick_kept (by (try dsimp only); split; (· exact (Kept.ite2 hs (renumber_kept (startSegment_kept hs _ _ _ (hm.sub rfl)) _ (hm.sub rfl)))); (· exact (addLater_kept hs _ _ (hm.sub rfl)))) _ _ _ _ _ (hm.sub rfl)) (hm.sub rfl)))))

theorem assembleTick_kept {μ : Nat} {s₀ : State} {s : State} (hs : Kept μ s₀ s) (p : DrecPend)
    (hm : Within 0x4d410000cf4101420768 μ) :
    Kept μ s₀ (assembleTick s p) := by
  unfold assembleTick
  exact (Kept.upd_20000 (Kept.foldl (recordTick_kept (Kept.foldl (allConds_kept (State_countBy_kept (State_count_kept (Kept.upd_20000 (nextSlotArmed_kept hs (hm.sub rfl)) (hm.sub rfl)) _ _ (hm.sub rfl)) _ _ _ (hm.sub rfl)) _ (hm.sub rfl)) (fun _ _ hz0 => (State_count_kept hz0 _ _ (hm.sub rfl))) _) _ _ _ _ (hm.sub rfl)) (fun _ _ hz0 => (State_setFlag_kept hz0 _ _ _ (hm.sub rfl))) _) (hm.sub rfl))

theorem tickAssemble_kept {μ : Nat} {s₀ : State} {s : State} (hs : Kept μ s₀ s) (drained : Nat)
    (hm : Within 0x4d410000cf4101420768 μ) :
    Kept μ s₀ (tickAssemble s drained) := by
  unfold tickAssemble
  (try dsimp only)
  split
  · exact hs
  · exact (Kept.ite hs (assembleTick_kept (Kept.upd_20000 hs (hm.sub rfl)) _ (hm.sub rfl)))

theorem execDrecTickAssemble_kept {μ : Nat} {s₀ : State} {s : State} (hs : Kept μ s₀ s) (drained : Nat)
    (hm : Within 0x4d410000cf4101420768 μ) :
    KeptN μ s₀ (execDrecTickAssemble drained s) := by
  unfold execDrecTickAssemble; exact (KeptN.next (Kept.live hs (fun _ hz0 => (tickAssemble_kept hz0 _ (hm.sub rfl)))))

theorem slotDone_kept {μ : Nat} {s₀ : State} {s : State} (hs : Kept μ s₀ s)
    (hm : Within 0x4d410000cf4100420768 μ) :
    Kept μ s₀ (slotDone s) := by
  unfold slotDone
  (try dsimp only)
  split
  · exact hs
  · exact (by (try dsimp only); split; (· exact (setSlot_kept (State_setFlt_kept (State_count_kept (Kept.upd_20000 hs (hm.sub rfl)) _ _ (hm.sub rfl)) _ (hm.sub rfl) (hm.sub rfl)) _ _ (hm.sub rfl))); (· exact (Kept.ite (wordsWrite_kept (wordsWrite_kept (setSlot_kept (State_setFlt_kept (State_count_kept (Kept.upd_20000 hs (hm.sub rfl)) _ _ (hm.sub rfl)) _ (hm.sub rfl) (hm.sub rfl)) _ _ (hm.sub rfl)) _ _ (hm.sub rfl)) _ _ (hm.sub rfl)) (wordsWrite_kept (setSlot_kept (State_setFlt_kept (State_count_kept (Kept.upd_20000 hs (hm.sub rfl)) _ _ (hm.sub rfl)) _ (hm.sub rfl) (hm.sub rfl)) _ _ (hm.sub rfl)) _ _ (hm.sub rfl)))))

theorem execDrecSlotDone_kept {μ : Nat} {s₀ : State} {s : State} (hs : Kept μ s₀ s)
    (hm : Within 0x4d410000cf4100420768 μ) :
    KeptN μ s₀ (execDrecSlotDone s) := by
  unfold execDrecSlotDone; exact (KeptN.next (Kept.live hs (fun _ hz0 => (slotDone_kept hz0 (hm.sub rfl)))))

theorem drecStep_kept {μ : Nat} {s₀ : State} {s : State} (hs : Kept μ s₀ s) (ns : Int) (d : Int)
    (hm : Within 0x20000 μ) :
    Kept μ s₀ (drecStep s ns d) := by
  unfold drecStep; exact (Kept.ite hs (Kept.upd_20000 hs (hm.sub rfl)))

end Sys2Proof.Machine
end

