-- ==== Sys2Proof/Laws/KeptClocks.lean ====
section
/-! SUPPORT. Each function of Machine/Clocks.lean keeps what `Kept` says. -/

set_option Elab.async false

namespace Sys2Proof.Machine

theorem State_setSh_kept {μ : Nat} {s₀ : State} {s : State} (hs : Kept μ s₀ s) (f : Fld) (v : Nat)
    (hb1 : Within (blkBits f.blk) μ)
    (hm : Within 0x1 μ) :
    Kept μ s₀ (State.setSh s f v) := by
  unfold State.setSh; exact (Kept.setFld (Kept.upd_1 hs (hm.sub rfl)) _ _ _ (by exact hb1))

theorem risingFrom_foldl_set (v k : Fld → Nat) (l : List Fld) {m : Sparse Nat} (hm : risingFrom 0 m = true) :
    risingFrom 0 (l.foldl (fun m f => sparseSet f.rst m (k f) (v f)) m) = true := by
  induction l generalizing m with
  | nil => exact hm
  | cons f l ih => exact ih (risingFrom_set _ _ hm)

theorem risingFrom_regsAtReset : risingFrom 0 regsAtReset = true :=
  risingFrom_foldl_set (fun _ => 1) (fun f => f.key 0) _ (risingFrom_set _ _ (m := []) rfl)

theorem deviceReset_kept {μ : Nat} {s₀ : State} {s : State} (hs : Kept μ s₀ s)
    (hm : Within 0xffffffffffffffff01f7fffe μ) :
    Kept μ s₀ (deviceReset s) := by
  refine hs.trans ⟨rfl, fun _ => ⟨?_, ?_, ?_⟩, Fuses.Kept.refl _, fun p hp => ?_⟩
  · show Memory.wf [] = true; rfl
  · exact risingFrom_foldl_set (fun f => sparseGet f.rst s.aonRegs (f.key 0)) (fun f => f.key 0) _ risingFrom_regsAtReset
  · show countersBounded [] = true; rfl
  · have hb := hm.bit hp
    have h : ∀ r, r < 32 → (0xffffffffffffffff01f7fffe).testBit (32 + r) = true ∧ (0xffffffffffffffff01f7fffe).testBit (64 + r) = true := by decide
    cases p with
    | regs b => exact absurd ((h _ (Nat.mod_lt b (by decide))).1.symm.trans hb) (by decide)
    | ctrs b => exact absurd ((h _ (Nat.mod_lt b (by decide))).2.symm.trans hb) (by decide)
    | aonRegs => rfl
    | clk => rfl
    | _ => exact absurd hb (by decide)

theorem armRelease_kept {μ : Nat} {s₀ : State} {s : State} (hs : Kept μ s₀ s)
    (hm : Within 0x80000 μ) :
    Kept μ s₀ (armRelease s) := by
  unfold armRelease; exact (Kept.upd_80000 hs (hm.sub rfl))

theorem assertReset_kept {μ : Nat} {s₀ : State} {s : State} (hs : Kept μ s₀ s) (cause : Nat)
    (hm : Within 0xffffffffffffffff01ffffff μ) :
    Kept μ s₀ (assertReset s cause) := by
  unfold assertReset
  exact (armRelease_kept (State_setSh_kept (Kept.upd_80000 (Kept.ite hs (deviceReset_kept hs (hm.sub rfl))) (hm.sub rfl)) _ _ (hm.sub rfl) (hm.sub rfl)) (hm.sub rfl))

theorem causeEnds_kept {μ : Nat} {s₀ : State} {s : State} (hs : Kept μ s₀ s)
    (hm : Within 0x80000 μ) :
    Kept μ s₀ (causeEnds s) := by
  unfold causeEnds; exact (Kept.ite (armRelease_kept hs (hm.sub rfl)) hs)

theorem softwareReset_kept {μ : Nat} {s₀ : State} {s : State} (hs : Kept μ s₀ s) (v : Nat)
    (hm : Within 0xffffffffffffffff01ffffff μ) :
    Kept μ s₀ (softwareReset s v) := by
  unfold softwareReset; exact (Kept.ite (assertReset_kept hs _ (hm.sub rfl)) hs)

theorem execSoftwareReset_kept {μ : Nat} {s₀ : State} {s : State} (hs : Kept μ s₀ s) (v : Nat)
    (hm : Within 0xffffffffffffffff01ffffff μ) :
    KeptN μ s₀ (execSoftwareReset v s) := by
  unfold execSoftwareReset; exact (KeptN.next (Kept.live hs (fun _ hz0 => (softwareReset_kept hz0 _ (hm.sub rfl)))))

theorem resetPin_kept {μ : Nat} {s₀ : State} {s : State} (hs : Kept μ s₀ s) (level : Bool) (ns : Nat)
    (hm : Within 0xffffffffffffffff01ffffff μ) :
    Kept μ s₀ (resetPin s level ns) := by
  unfold resetPin
  exact (Kept.ite (Kept.ite (causeEnds_kept (Kept.upd_80000 hs (hm.sub rfl)) (hm.sub rfl)) hs) (Kept.ite (assertReset_kept (Kept.upd_80000 hs (hm.sub rfl)) _ (hm.sub rfl)) (Kept.ite hs (Kept.ite (assertReset_kept (Kept.upd_80000 (State_takeFree_kept hs (hm.sub rfl)) (hm.sub rfl)) _ (hm.sub rfl)) (State_takeFree_kept hs (hm.sub rfl))))))

theorem execResetPin_kept {μ : Nat} {s₀ : State} {s : State} (hs : Kept μ s₀ s) (level : Bool) (ns : Nat)
    (hm : Within 0xffffffffffffffff01ffffff μ) :
    KeptN μ s₀ (execResetPin level ns s) := by
  unfold execResetPin; exact (KeptN.next (resetPin_kept hs _ _ (hm.sub rfl)))

theorem powerOnReset_kept {μ : Nat} {s₀ : State} {s : State} (hs : Kept μ s₀ s) (low : Bool)
    (hm : Within 0xffffffffffffffff01ffffff μ) :
    Kept μ s₀ (powerOnReset s low) := by
  unfold powerOnReset
  exact (Kept.ite (assertReset_kept (Kept.upd_80000 hs (hm.sub rfl)) _ (hm.sub rfl)) (Kept.ite (causeEnds_kept (Kept.upd_80000 hs (hm.sub rfl)) (hm.sub rfl)) hs))

theorem execPowerOnReset_kept {μ : Nat} {s₀ : State} {s : State} (hs : Kept μ s₀ s) (low : Bool)
    (hm : Within 0xffffffffffffffff01ffffff μ) :
    KeptN μ s₀ (execPowerOnReset low s) := by
  unfold execPowerOnReset; exact (KeptN.next (powerOnReset_kept hs _ (hm.sub rfl)))

theorem refLost_kept {μ : Nat} {s₀ : State} {s : State} (hs : Kept μ s₀ s)
    (hm : Within 0xffffffffffffffff01ffffff μ) :
    Kept μ s₀ (refLost s) := by
  unfold refLost; exact (assertReset_kept (Kept.upd_80000 hs (hm.sub rfl)) _ (hm.sub rfl))

theorem execRefLost_kept {μ : Nat} {s₀ : State} {s : State} (hs : Kept μ s₀ s)
    (hm : Within 0xffffffffffffffff01ffffff μ) :
    KeptN μ s₀ (execRefLost s) := by
  unfold execRefLost; exact (KeptN.next (refLost_kept hs (hm.sub rfl)))

theorem refReturn_kept {μ : Nat} {s₀ : State} {s : State} (hs : Kept μ s₀ s)
    (hm : Within 0x80000 μ) :
    Kept μ s₀ (refReturn s) := by
  unfold refReturn; exact (Kept.ite (causeEnds_kept (Kept.upd_80000 hs (hm.sub rfl)) (hm.sub rfl)) hs)

theorem execRefReturn_kept {μ : Nat} {s₀ : State} {s : State} (hs : Kept μ s₀ s)
    (hm : Within 0x80000 μ) :
    KeptN μ s₀ (execRefReturn s) := by
  unfold execRefReturn; exact (KeptN.next (refReturn_kept hs (hm.sub rfl)))

theorem vbatLoss_kept {μ : Nat} {s₀ : State} {s : State} (hs : Kept μ s₀ s)
    (hm : Within 0x3800100100001 μ) :
    Kept μ s₀ (vbatLoss s) := by
  have h : Kept μ s₀ (shFields.foldl (fun s f => s.setFld f f.rst) s) :=
    Kept.foldl_mem _ hs (fun t f hf ht => Kept.setFld ht _ _ _ (hm.sub (by revert f; decide)))
  have h2 := State_setFlag_kept h F.AON_WPEND_WPEND false 0 (hm.sub (b := blkBits 16) rfl)
  unfold vbatLoss
  generalize (shFields.foldl (fun s f => s.setFld f f.rst) s).setFlag F.AON_WPEND_WPEND false 0 = t at h2 ⊢
  exact Kept.upd_100001 h2 (hm.sub rfl)

theorem execVbatLoss_kept {μ : Nat} {s₀ : State} {s : State} (hs : Kept μ s₀ s)
    (hm : Within 0x3800100100001 μ) :
    KeptN μ s₀ (execVbatLoss s) := by
  unfold execVbatLoss; exact (KeptN.next (vbatLoss_kept hs (hm.sub rfl)))

theorem testReset_kept {μ : Nat} {s₀ : State} {s : State} (hs : Kept μ s₀ s)
    (hm : Within 0x400000 μ) :
    Kept μ s₀ (testReset s) := by
  unfold testReset; exact (Kept.upd_400000 hs (hm.sub rfl))

theorem execTestReset_kept {μ : Nat} {s₀ : State} {s : State} (hs : Kept μ s₀ s)
    (hm : Within 0x400000 μ) :
    KeptN μ s₀ (execTestReset s) := by
  unfold execTestReset; exact (KeptN.next (testReset_kept hs (hm.sub rfl)))

theorem keysRelease_kept {μ : Nat} {s₀ : State} {s : State} (hs : Kept μ s₀ s)
    (hm : Within 0x800001140000 μ) :
    Kept μ s₀ (keysRelease s) := by
  unfold keysRelease
  have h0 : Kept μ s₀ { s with keys := { s.keys with lifecycle := s.keys.fuses.lifecycle } } := Kept.upd_40000 hs (hm.sub rfl)
  generalize { s with keys := { s.keys with lifecycle := s.keys.fuses.lifecycle } } = a at h0 ⊢
  have h1 := Kept.ite (c := (a.aon.saltOk && a.aon.confOk) = true) h0 (State_setFlag_kept h0 F.KEYS_STAT_VBAT_LOST true 0 (hm.sub rfl))
  dsimp only
  generalize (if (a.aon.saltOk && a.aon.confOk) = true then a else a.setFlag F.KEYS_STAT_VBAT_LOST true) = b at h1 ⊢
  have h2 : Kept μ s₀ (if b.aon.saltOk = true then b else { (b.takeOctets 32).2 with aon := { (b.takeOctets 32).2.aon with salt := (b.takeOctets 32).1, saltOk := true } }) :=
    Kept.ite h1 (Kept.upd_100000 (State_takeOctets_kept h1 32 (hm.sub rfl)) (hm.sub rfl))
  generalize (if b.aon.saltOk = true then b else { (b.takeOctets 32).2 with aon := { (b.takeOctets 32).2.aon with salt := (b.takeOctets 32).1, saltOk := true } }) = c at h2 ⊢
  exact Kept.setFld (Kept.ite (Kept.upd_100000 h2 (hm.sub rfl)) h2) _ _ _ (hm.sub rfl)

theorem resetRelease_kept {μ : Nat} {s₀ : State} {s : State} (hs : Kept μ s₀ s) (sideB : Bool) (solo : Bool)
    (hm : Within 0x40010001c001011c4050 μ) :
    Kept μ s₀ (resetRelease s sideB solo) := by
  unfold resetRelease
  (try dsimp only)
  split
  · exact hs
  · exact (Kept.ite hs (keysRelease_kept (Kept.ite (Kept.upd_84010 hs (hm.sub rfl)) (State_setFlt_kept (Kept.upd_84010 hs (hm.sub rfl)) _ (hm.sub rfl) (hm.sub rfl))) (hm.sub rfl)))

theorem execResetRelease_kept {μ : Nat} {s₀ : State} {s : State} (hs : Kept μ s₀ s) (sideB : Bool) (solo : Bool)
    (hm : Within 0x40010001c001011c4050 μ) :
    KeptN μ s₀ (execResetRelease sideB solo s) := by
  unfold execResetRelease; exact (KeptN.next (resetRelease_kept hs _ _ (hm.sub rfl)))

theorem serdesDown_kept {μ : Nat} {s₀ : State} {s : State} (hs : Kept μ s₀ s) (pll : Nat) (unit : Nat)
    (hm : Within 0x7a8500007a850001e270 μ) :
    Kept μ s₀ (serdesDown s pll unit) := by
  unfold serdesDown; exact (Kept.ite (portCondition_kept hs _ _ _ _ _ (hm.sub rfl)) (twinLaneDown_kept hs _ (hm.sub rfl)))

theorem pllLockLost_kept {μ : Nat} {s₀ : State} {s : State} (hs : Kept μ s₀ s) (pll : Nat) (unit : Nat)
    (hm : Within 0xffffffffffffffff01ffffff μ) :
    Kept μ s₀ (pllLockLost s pll unit) := by
  unfold pllLockLost
  exact (Kept.ite hs (Kept.ite (State_event_kept (State_setFltBit_kept (State_setFbit_kept (Kept.upd_80000 hs (hm.sub rfl)) _ _ _ _ (hm.sub rfl)) _ _ (hm.sub rfl) (hm.sub rfl)) _ _ _ _ _ _ (hm.sub rfl)) (Kept.ite (Kept.upd_80200 (State_event_kept (State_setFltBit_kept (State_setFbit_kept (Kept.upd_80000 hs (hm.sub rfl)) _ _ _ _ (hm.sub rfl)) _ _ (hm.sub rfl) (hm.sub rfl)) _ _ _ _ _ _ (hm.sub rfl)) (hm.sub rfl)) (Kept.ite (serdesDown_kept (State_event_kept (State_setFltBit_kept (State_setFbit_kept (Kept.upd_80000 hs (hm.sub rfl)) _ _ _ _ (hm.sub rfl)) _ _ (hm.sub rfl) (hm.sub rfl)) _ _ _ _ _ _ (hm.sub rfl)) _ _ (hm.sub rfl)) (assertReset_kept (State_event_kept (State_setFltBit_kept (State_setFbit_kept (Kept.upd_80000 hs (hm.sub rfl)) _ _ _ _ (hm.sub rfl)) _ _ (hm.sub rfl) (hm.sub rfl)) _ _ _ _ _ _ (hm.sub rfl)) _ (hm.sub rfl))))))

theorem execPllLockLost_kept {μ : Nat} {s₀ : State} {s : State} (hs : Kept μ s₀ s) (pll : Nat) (unit : Nat)
    (hm : Within 0xffffffffffffffff01ffffff μ) :
    KeptN μ s₀ (execPllLockLost pll unit s) := by
  unfold execPllLockLost; exact (KeptN.next (Kept.live hs (fun _ hz0 => (pllLockLost_kept hz0 _ _ (hm.sub rfl)))))

theorem pllRelock_kept {μ : Nat} {s₀ : State} {s : State} (hs : Kept μ s₀ s) (pll : Nat) (unit : Nat) (refs : Nat) (before : Nat)
    (hm : Within 0x60000000600080010 μ) :
    Kept μ s₀ (pllRelock s pll unit refs before) := by
  unfold pllRelock
  refine Kept.ite hs ?_
  have h : Kept μ s₀ (if pllGroupLocked { s with clk := { s.clk with lost := s.clk.lost.filter (· ≠ (pll, unit)) } } pll then
      State.setFbit { s with clk := { s.clk with lost := s.clk.lost.filter (· ≠ (pll, unit)) } } F.CLK_STAT_LOCKED pll true
      else { s with clk := { s.clk with lost := s.clk.lost.filter (· ≠ (pll, unit)) } }) := (Kept.ite (State_setFbit_kept (Kept.upd_80000 hs (hm.sub rfl)) _ _ _ _ (hm.sub rfl)) (Kept.upd_80000 hs (hm.sub rfl)))
  exact (Kept.ite h (Kept.ite (State_count_kept h _ _ (hm.sub rfl)) (Kept.ite (stepTime_kept (State_count_kept (Kept.upd_80000 h (hm.sub rfl)) _ _ (hm.sub rfl)) _ (hm.sub rfl)) (Kept.ite (State_count_kept h _ _ (hm.sub rfl)) h))))

theorem execPllRelock_kept {μ : Nat} {s₀ : State} {s : State} (hs : Kept μ s₀ s) (pll : Nat) (unit : Nat) (refs : Nat) (before : Nat)
    (hm : Within 0x60000000600080010 μ) :
    KeptN μ s₀ (execPllRelock pll unit refs before s) := by
  unfold execPllRelock; exact (KeptN.next (Kept.live hs (fun _ hz0 => (pllRelock_kept hz0 _ _ _ _ (hm.sub rfl)))))

theorem endStepCmd_kept {μ : Nat} {s₀ : State} {s : State} (hs : Kept μ s₀ s)
    (hm : Within 0x400000004 μ) :
    Kept μ s₀ (endStepCmd s) := by
  unfold endStepCmd; (try dsimp only); split; (· exact (Kept.ite (State_mbxEnd_kept hs _ (hm.sub rfl) (hm.sub rfl)) hs)); (· exact hs)

theorem stepNotice_kept {μ : Nat} {s₀ : State} {s : State} (hs : Kept μ s₀ s)
    (hm : Within 0x48050000481500023af4 μ) :
    Kept μ s₀ (stepNotice s) := by
  unfold stepNotice
  (try dsimp only)
  split
  · exact hs
  · exact (Kept.ite hs (drecStep_kept (gooseStep_kept (gateStep_kept (fdcStep_kept (tideStep_kept (sviStep_kept (State_setFlt_kept (State_event_kept (State_count_kept (endStepCmd_kept (Kept.upd_10 hs (hm.sub rfl)) (hm.sub rfl)) _ _ (hm.sub rfl)) _ _ _ _ _ _ (hm.sub rfl)) _ (hm.sub rfl) (hm.sub rfl)) _ _ (hm.sub rfl)) _ (hm.sub rfl)) _ (hm.sub rfl)) _ (hm.sub rfl)) _ _ (hm.sub rfl)) _ _ (hm.sub rfl)))

theorem execStepNotice_kept {μ : Nat} {s₀ : State} {s : State} (hs : Kept μ s₀ s)
    (hm : Within 0x48050000481500023af4 μ) :
    KeptN μ s₀ (execStepNotice s) := by
  unfold execStepNotice; exact (KeptN.next (Kept.live hs (fun _ h => stepNotice_kept h (hm.sub rfl))))

theorem secIncrement_kept {μ : Nat} {s₀ : State} {s : State} (hs : Kept μ s₀ s)
    (hm : Within 0x100010 μ) :
    Kept μ s₀ (secIncrement s) := by
  unfold secIncrement; exact (Kept.ite hs (Kept.ite (Kept.upd_100000 (Kept.upd_10 hs (hm.sub rfl)) (hm.sub rfl)) (Kept.upd_10 hs (hm.sub rfl))))

theorem execSecIncrement_kept {μ : Nat} {s₀ : State} {s : State} (hs : Kept μ s₀ s)
    (hm : Within 0x100010 μ) :
    KeptN μ s₀ (execSecIncrement s) := by
  unfold execSecIncrement; exact (KeptN.next (Kept.live hs (fun _ h => secIncrement_kept h (hm.sub rfl))))

theorem readSec_kept {μ : Nat} {s₀ : State} {s : State} (hs : Kept μ s₀ s)
    (hm : Within 0x1000000000004 μ) :
    Kept μ s₀ (readSec s) := by
  unfold readSec; exact (Kept.ite (State_mbxRefuseBusy_kept hs _ (hm.sub rfl)) (State_mbxStart_kept hs _ _ (hm.sub rfl) (hm.sub rfl)))

theorem execReadSec_kept {μ : Nat} {s₀ : State} {s : State} (hs : Kept μ s₀ s)
    (hm : Within 0x1000000000004 μ) :
    KeptN μ s₀ (execReadSec s) := by
  unfold execReadSec; exact (KeptN.next (Kept.live hs (fun _ h => readSec_kept h (hm.sub rfl))))

theorem aonSettle_kept {μ : Nat} {s₀ : State} {s : State} (hs : Kept μ s₀ s)
    (hm : Within 0x1000000000000 μ) :
    Kept μ s₀ (aonSettle s) := by
  unfold aonSettle; exact (State_setFlag_kept hs _ _ _ (hm.sub rfl))

theorem aonEnqueue_kept {μ : Nat} {s₀ : State} {s : State} (hs : Kept μ s₀ s) (addr : Nat) (v : Nat)
    (hm : Within 0x40010001400100100040 μ) :
    Kept μ s₀ (aonEnqueue s addr v).2 := by
  unfold aonEnqueue
  exact (Kept.ite2 (State_setFlt_kept hs _ (hm.sub rfl) (hm.sub rfl)) (aonSettle_kept (Kept.upd_100000 hs (hm.sub rfl)) (hm.sub rfl)))

theorem lowPowerEnter_kept {μ : Nat} {s₀ : State} {s : State} (hs : Kept μ s₀ s)
    (hm : Within 0xffffffffffffffff01fffffe μ) :
    Kept μ s₀ (lowPowerEnter s) := by
  unfold lowPowerEnter; exact (Kept.upd_90000 (deviceReset_kept hs (hm.sub rfl)) (hm.sub rfl))

theorem aonApply_kept {μ : Nat} {s₀ : State} {s : State} (hs : Kept μ s₀ s) (addr : Nat) (v : Nat)
    (hm : Within 0xffffffffffffffff01ffffff μ) :
    Kept μ s₀ (aonApply s addr v) := by
  unfold aonApply
  exact (Kept.ite (State_setSh_kept hs _ _ (hm.sub rfl) (hm.sub rfl)) (Kept.ite (Kept.ite (lowPowerEnter_kept hs (hm.sub rfl)) hs) (Kept.ite (State_setSh_kept hs _ _ (hm.sub (b := blkBits 16) rfl) (hm.sub rfl)) (Kept.ite (State_setSh_kept (State_setSh_kept hs _ _ (hm.sub rfl) (hm.sub rfl)) _ _ (hm.sub rfl) (hm.sub rfl)) hs))))

theorem aonWriteApply_kept {μ : Nat} {s₀ : State} {s : State} (hs : Kept μ s₀ s)
    (hm : Within 0xffffffffffffffff01ffffff μ) :
    Kept μ s₀ (aonWriteApply s) := by
  unfold aonWriteApply
  (try dsimp only)
  split
  · exact hs
  · exact (aonApply_kept (State_setSh_kept (aonSettle_kept (Kept.upd_100000 hs (hm.sub rfl)) (hm.sub rfl)) _ _ (hm.sub rfl) (hm.sub rfl)) _ _ (hm.sub rfl))

theorem execAonWriteApply_kept {μ : Nat} {s₀ : State} {s : State} (hs : Kept μ s₀ s)
    (hm : Within 0xffffffffffffffff01ffffff μ) :
    KeptN μ s₀ (execAonWriteApply s) := by
  unfold execAonWriteApply; exact (KeptN.next (aonWriteApply_kept hs (hm.sub rfl)))

theorem lowPowerDue_kept {μ : Nat} {s₀ : State} {s : State} (hs : Kept μ s₀ s)
    (hm : Within 0xffffffffffffffff01ffffff μ) :
    Kept μ s₀ (lowPowerDue s) := by
  unfold lowPowerDue; (try dsimp only); split; (· exact (Kept.ite (aonWriteApply_kept hs (hm.sub rfl)) hs)); (· exact hs)

theorem execLowPowerEnter_kept {μ : Nat} {s₀ : State} {s : State} (hs : Kept μ s₀ s)
    (hm : Within 0xffffffffffffffff01ffffff μ) :
    KeptN μ s₀ (execLowPowerEnter s) := by
  unfold execLowPowerEnter; exact (KeptN.next (lowPowerDue_kept hs (hm.sub rfl)))

theorem wakeDetect_kept {μ : Nat} {s₀ : State} {s : State} (hs : Kept μ s₀ s) (f : Frame) (fcsOk : Bool)
    (hm : Within 0x80000 μ) :
    Kept μ s₀ (wakeDetect s f fcsOk) := by
  unfold wakeDetect; exact (Kept.ite (Kept.upd_80000 hs (hm.sub rfl)) hs)

theorem execWakeFrameDetect_kept {μ : Nat} {s₀ : State} {s : State} (hs : Kept μ s₀ s) (f : Frame) (fcsOk : Bool)
    (hm : Within 0x80000 μ) :
    KeptN μ s₀ (execWakeFrameDetect f fcsOk s) := by
  unfold execWakeFrameDetect; exact (KeptN.next (wakeDetect_kept hs _ _ (hm.sub rfl)))

theorem lowPowerWake_kept {μ : Nat} {s₀ : State} {s : State} (hs : Kept μ s₀ s)
    (hm : Within 0xffffffffffffffff01ffffff μ) :
    Kept μ s₀ (lowPowerWake s) := by
  unfold lowPowerWake; exact (Kept.ite hs (assertReset_kept (Kept.upd_80000 hs (hm.sub rfl)) _ (hm.sub rfl)))

theorem execLowPowerWake_kept {μ : Nat} {s₀ : State} {s : State} (hs : Kept μ s₀ s)
    (hm : Within 0xffffffffffffffff01ffffff μ) :
    KeptN μ s₀ (execLowPowerWake s) := by
  unfold execLowPowerWake; exact (KeptN.next (lowPowerWake_kept hs (hm.sub rfl)))

theorem dwdExpiry_kept {μ : Nat} {s₀ : State} {s : State} (hs : Kept μ s₀ s)
    (hm : Within 0xffffffffffffffff01ffffff μ) :
    Kept μ s₀ (dwdExpiry s) := by
  unfold dwdExpiry; exact (Kept.ite hs (assertReset_kept hs _ (hm.sub rfl)))

theorem execDwdExpiry_kept {μ : Nat} {s₀ : State} {s : State} (hs : Kept μ s₀ s)
    (hm : Within 0xffffffffffffffff01ffffff μ) :
    KeptN μ s₀ (execDwdExpiry s) := by
  unfold execDwdExpiry; exact (KeptN.next (Kept.live hs (fun _ h => dwdExpiry_kept h (hm.sub rfl))))

theorem partnerResetFire_kept {μ : Nat} {s₀ : State} {s : State} (hs : Kept μ s₀ s)
    (hm : Within 0xffffffffffffffff01ffffff μ) :
    Kept μ s₀ (partnerResetFire s) := by
  unfold partnerResetFire; (try dsimp only); split; (· exact (Kept.ite (assertReset_kept hs _ (hm.sub rfl)) hs)); (· exact hs)

theorem execPartnerResetFire_kept {μ : Nat} {s₀ : State} {s : State} (hs : Kept μ s₀ s)
    (hm : Within 0xffffffffffffffff01ffffff μ) :
    KeptN μ s₀ (execPartnerResetFire s) := by
  unfold execPartnerResetFire; exact (KeptN.next (Kept.live hs (fun _ h => partnerResetFire_kept h (hm.sub rfl))))

end Sys2Proof.Machine
end

