-- ==== Sys2Proof/Laws/KeptKeys.lean ====
section
/-! SUPPORT. Each function of Machine/Keys.lean keeps what `Kept` says. -/

set_option Elab.async false

namespace Sys2Proof.Machine

theorem setWords_kept {μ : Nat} {s₀ : State} {s : State} (hs : Kept μ s₀ s) (f : Fld) (l : List Nat)
    (hb1 : Within (blkBits f.blk) μ) :
    Kept μ s₀ (setWords s f l) := by
  unfold setWords; exact (Kept.foldl hs (fun _ _ hz0 => (Kept.setFld hz0 _ _ _ (by exact hb1))) _)

theorem idReady_kept {μ : Nat} {s₀ : State} {s : State} (hs : Kept μ s₀ s)
    (hm : Within 0x820000000000 μ) :
    Kept μ s₀ (idReady s) := by
  unfold idReady
  exact (Kept.ite hs (State_setFlag_kept (Kept.setFld (setWords_kept (setWords_kept (setWords_kept hs _ _ (hm.sub rfl)) _ _ (hm.sub rfl)) _ _ (hm.sub rfl)) _ _ _ (hm.sub rfl)) _ _ _ (hm.sub rfl)))

theorem execIdReady_kept {μ : Nat} {s₀ : State} {s : State} (hs : Kept μ s₀ s)
    (hm : Within 0x820000000000 μ) :
    KeptN μ s₀ (execIdReady s) := by
  unfold execIdReady; exact (KeptN.next (Kept.live hs (fun _ h => idReady_kept h (hm.sub rfl))))

theorem putSlot_kept {μ : Nat} {s₀ : State} {s : State} (hs : Kept μ s₀ s) (i : Nat) (k : KeySlot)
    (hm : Within 0x800000040000 μ) :
    Kept μ s₀ (putSlot s i k) := by
  unfold putSlot; exact (State_setFlag_kept (Kept.upd_40000 hs (hm.sub rfl)) _ _ _ (hm.sub rfl))

theorem orphan_kept {μ : Nat} {s₀ : State} {s : State} (hs : Kept μ s₀ s) (a : Nat)
    (hm : Within 0xc0010000c00100040040 μ) :
    Kept μ s₀ (orphan s a).2 := by
  unfold orphan
  exact (Kept.ite (Kept.foldl hs (fun _ _ hz0 => (putSlot_kept hz0 _ _ (hm.sub rfl))) _) (State_setFlt_kept (State_countBy_kept (Kept.foldl hs (fun _ _ hz0 => (putSlot_kept hz0 _ _ (hm.sub rfl))) _) _ _ _ (hm.sub rfl)) _ (hm.sub rfl) (hm.sub rfl)))

theorem slotBad_kept {μ : Nat} {s₀ : State} {s : State} (hs : Kept μ s₀ s) (i : Nat)
    (hm : Within 0xc8010000c80100040060 μ) :
    Kept μ s₀ (slotBad s i) := by
  unfold slotBad
  exact (State_event_kept (State_setFlt_kept (State_count_kept (orphan_kept (putSlot_kept hs _ _ (hm.sub rfl)) _ (hm.sub rfl)) _ _ (hm.sub rfl)) _ (hm.sub rfl) (hm.sub rfl)) _ _ _ _ _ _ (hm.sub rfl))

theorem keysScrub_kept {μ : Nat} {s₀ : State} {s : State} (hs : Kept μ s₀ s) (ecc : List Nat)
    (hm : Within 0xc8010000c80100040060 μ) :
    Kept μ s₀ (keysScrub s ecc) := by
  unfold keysScrub; exact (Kept.foldl hs (fun _ _ h => slotBad_kept h _ (hm.sub rfl)) _)

theorem execKeysScrub_kept {μ : Nat} {s₀ : State} {s : State} (hs : Kept μ s₀ s) (ecc : List Nat)
    (hm : Within 0xc8010000c80100040060 μ) :
    KeptN μ s₀ (execKeysScrub ecc s) := by
  unfold execKeysScrub; exact (KeptN.next (Kept.live hs (fun _ hz0 => (keysScrub_kept hz0 _ (hm.sub rfl)))))

theorem openCause_kept {μ : Nat} {s₀ : State} {s : State} (hs : Kept μ s₀ s)
    (hm : Within 0x1000000 μ) :
    Kept μ s₀ (openCause s).2 := by
  unfold openCause; exact (State_takeFree_kept hs (hm.sub rfl))

theorem keysResult_kept {μ : Nat} {s₀ : State} {s : State} (hs : Kept μ s₀ s) (cause : Nat) (d2 : Nat)
    (hm : Within 0x800000000000 μ) :
    Kept μ s₀ (keysResult s cause d2) := by
  unfold keysResult
  exact (Kept.setFld (Kept.setFld (Kept.setFld (Kept.setFld hs _ _ _ (hm.sub rfl)) _ _ _ (hm.sub rfl)) _ _ _ (hm.sub rfl)) _ _ _ (hm.sub rfl))

theorem keysRefuse_kept {μ : Nat} {s₀ : State} {s : State} (hs : Kept μ s₀ s) (cause : Nat)
    (hm : Within 0x40010000c00100040040 μ) :
    Kept μ s₀ (keysRefuse s cause) := by
  unfold keysRefuse
  exact (State_setFlt_kept (keysResult_kept (State_mbxRefuse_kept (Kept.upd_40000 hs (hm.sub rfl)) _ (hm.sub rfl)) _ _ (hm.sub rfl)) _ (hm.sub rfl) (hm.sub rfl))

theorem keysDone_kept {μ : Nat} {s₀ : State} {s : State} (hs : Kept μ s₀ s) (d2 : Nat)
    (hm : Within 0x800000040000 μ) :
    Kept μ s₀ (keysDone s d2) := by
  unfold keysDone
  exact (State_setFlag_kept (State_setFlag_kept (keysResult_kept (Kept.upd_40000 hs (hm.sub rfl)) _ _ (hm.sub rfl)) _ _ _ (hm.sub rfl)) _ _ _ (hm.sub rfl))

theorem keysBegin_kept {μ : Nat} {s₀ : State} {s : State} (hs : Kept μ s₀ s) (cmd : Nat) (cause : Nat) (wait : Bool) (data : List Nat)
    (hm : Within 0x800000040000 μ) :
    Kept μ s₀ (keysBegin s cmd cause wait data) := by
  unfold keysBegin
  exact (Kept.upd_40000 (State_setFlag_kept (State_setFlag_kept (State_setFlag_kept hs _ _ _ (hm.sub rfl)) _ _ _ (hm.sub rfl)) _ _ _ (hm.sub rfl)) (hm.sub rfl))

theorem keysCmd_kept {μ : Nat} {s₀ : State} {s : State} (hs : Kept μ s₀ s) (permitted : Bool) (f : State → State) (kf : ∀ t , Kept μ s₀ t → Kept μ s₀ (f t ))
    (hm : Within 0x40010000c00100040040 μ) :
    Kept μ s₀ (keysCmd s permitted f) := by
  unfold keysCmd
  exact (Kept.ite (State_setFlt_kept (State_mbxRefuseBusy_kept hs _ (hm.sub rfl)) _ (hm.sub rfl) (hm.sub rfl)) (Kept.ite (keysRefuse_kept hs _ (hm.sub rfl)) (kf _ hs)))

theorem engineRead_kept {μ : Nat} {s₀ : State} {a3 : State} (ha3 : Kept μ s₀ a3) (init : Nat) (a2 : Nat) (a4 : Nat) (a5 : Nat)
    (hm : Within 0x496100004b6101000760 μ) :
    Kept μ s₀ (engineRead init a2 a3 a4 a5).2 := by
  unfold engineRead
  (try dsimp only)
  split
  · exact ha3
  · exact (Kept.ite2 ha3 (by (try dsimp only); split; (· exact (Kept.of_pair ‹_› (dmaRead_kept ha3 _ _ _ _ (hm.sub rfl)))); (· exact (by (try dsimp only); split; (· exact (Kept.of_pair ‹_› (engineRead_kept (Kept.of_pair ‹_› (dmaRead_kept ha3 _ _ _ _ (hm.sub rfl))) _ _ _ _ hm))); (· exact (Kept.of_pair ‹_› (engineRead_kept (Kept.of_pair ‹_› (dmaRead_kept ha3 _ _ _ _ (hm.sub rfl))) _ _ _ _ hm)))))))

theorem engineWrite_kept {μ : Nat} {s₀ : State} {a3 : State} (ha3 : Kept μ s₀ a3) (init : Nat) (a2 : Nat) (a4 : Nat) (a5 : List Nat)
    (hm : Within 0x49410000cb4100400768 μ) :
    Kept μ s₀ (engineWrite init a2 a3 a4 a5).2 := by
  unfold engineWrite
  (try dsimp only)
  split
  · exact ha3
  · exact (Kept.ite2 ha3 (by (try dsimp only); split; (· exact (Kept.of_pair ‹_› (dmaWrite_kept ha3 _ _ _ _ (hm.sub rfl)))); (· exact (engineWrite_kept (Kept.of_pair ‹_› (dmaWrite_kept ha3 _ _ _ _ (hm.sub rfl))) _ _ _ _ hm))))

theorem keysRead_kept {μ : Nat} {s₀ : State} {s : State} (hs : Kept μ s₀ s) (n : Nat)
    (hm : Within 0x496100004b6101000760 μ) :
    Kept μ s₀ (keysRead s n).2 := by
  unfold keysRead; exact (Kept.ite2 (engineRead_kept hs _ _ _ _ (hm.sub rfl)) hs)

theorem keysWrite_kept {μ : Nat} {s₀ : State} {s : State} (hs : Kept μ s₀ s) (a : Nat) (l : List Nat)
    (hm : Within 0x49410000cb4100400768 μ) :
    Kept μ s₀ (keysWrite s a l).2 := by
  unfold keysWrite; exact (Kept.ite2 (engineWrite_kept hs _ _ _ _ (hm.sub rfl)) hs)

theorem operandRead_kept {μ : Nat} {s₀ : State} {a2 : Option (List Nat) × State} (ha2 : Kept μ s₀ a2.2) (f : State → List Nat → State) (kf : ∀ t x0, Kept μ s₀ t → Kept μ s₀ (f t x0))
    (hm : Within 0x40010000c00100040040 μ) :
    Kept μ s₀ (operandRead f a2) := by
  obtain ⟨o, t⟩ := a2
  cases o
  · exact keysRefuse_kept ha2 _ (hm.sub rfl)
  · exact kf _ _ ha2

theorem withOperand_kept {μ : Nat} {s₀ : State} {s : State} (hs : Kept μ s₀ s) (n : Nat) (f : State → List Nat → State) (kf : ∀ t x0, Kept μ s₀ t → Kept μ s₀ (f t x0))
    (hm : Within 0x49610000cb6101040760 μ) :
    Kept μ s₀ (withOperand s n f) := by
  unfold withOperand; exact (operandRead_kept (keysRead_kept hs _ (hm.sub rfl)) _ kf (hm.sub rfl))

theorem msgRefused_kept {μ : Nat} {s₀ : State} {s : State} (hs : Kept μ s₀ s) (m : List Nat) (cause : Nat)
    (hm : Within 0xc8010000c80100000060 μ) :
    Kept μ s₀ (msgRefused s m cause) := by
  unfold msgRefused
  exact (State_event_kept (State_setFlt_kept (State_count_kept hs _ _ (hm.sub rfl)) _ (hm.sub rfl) (hm.sub rfl)) _ _ _ _ _ _ (hm.sub rfl))

theorem applyBegin_kept {μ : Nat} {s₀ : State} {s : State} (hs : Kept μ s₀ s) (pair : Bool)
    (hm : Within 0xc9610000cb6101040760 μ) :
    Kept μ s₀ (applyBegin s pair) := by
  unfold applyBegin
  exact (withOperand_kept (Kept.upd_40000 hs (hm.sub rfl)) _ _ (fun _ _ hz0 => (Kept.ite (keysBegin_kept hz0 _ _ _ _ (hm.sub rfl)) (keysBegin_kept (msgRefused_kept hz0 _ _ (hm.sub rfl)) _ _ _ _ (hm.sub rfl)))) (hm.sub rfl))

theorem execApply_kept {μ : Nat} {s₀ : State} {s : State} (hs : Kept μ s₀ s)
    (hm : Within 0xc9610000cb6101040760 μ) :
    KeptN μ s₀ (execApply s) := by
  unfold execApply
  exact (KeptN.next (Kept.live hs (fun _ hz0 => (keysCmd_kept hz0 _ _ (fun _ hz1 => (applyBegin_kept hz1 _ (hm.sub rfl))) (hm.sub rfl)))))

theorem execApprove_kept {μ : Nat} {s₀ : State} {s : State} (hs : Kept μ s₀ s)
    (hm : Within 0xc9610000cb6101040760 μ) :
    KeptN μ s₀ (execApprove s) := by
  unfold execApprove
  exact (KeptN.next (Kept.live hs (fun _ hz0 => (keysCmd_kept hz0 _ _ (fun _ hz1 => (applyBegin_kept hz1 _ (hm.sub rfl))) (hm.sub rfl)))))

theorem burnLifecycle_kept {μ : Nat} {s₀ : State} {s : State} (hs : Kept μ s₀ s) (lc : Nat)
    (hm : Within 0x8000000880000040020 μ) :
    Kept μ s₀ (burnLifecycle s lc) := by
  have h := Kept.fuses (f := { s.keys.fuses with lifecycle := max lc s.keys.fuses.lifecycle }) hs
    ⟨Nat.le_max_right _ _, fun _ h => h, id, List.suffix_rfl⟩ (hm.sub rfl)
  unfold burnLifecycle
  exact State_event_kept (Kept.setFld h _ _ _ (hm.sub rfl)) _ _ _ _ _ _ (hm.sub rfl)

theorem keyWrite_kept {μ : Nat} {s₀ : State} {s : State} (hs : Kept μ s₀ s) (m : List Nat)
    (hm : Within 0xc0010000c00100040040 μ) :
    Kept μ s₀ (keyWrite s m).2 := by
  unfold keyWrite; exact (putSlot_kept (orphan_kept hs _ (hm.sub rfl)) _ _ (hm.sub rfl))

theorem keyInvalidate_kept {μ : Nat} {s₀ : State} {s : State} (hs : Kept μ s₀ s) (m : List Nat)
    (hm : Within 0xc0010000c00100040040 μ) :
    Kept μ s₀ (keyInvalidate s m).2 := by
  unfold keyInvalidate; exact (putSlot_kept (orphan_kept hs _ (hm.sub rfl)) _ _ (hm.sub rfl))

theorem bumpCounter_kept {μ : Nat} {s₀ : State} {s : State} (hs : Kept μ s₀ s)
    (hm : Within 0x800000000000 μ) :
    Kept μ s₀ (bumpCounter s) := by
  unfold bumpCounter; exact (State_setFlag_kept (Kept.setFld hs _ _ _ (hm.sub rfl)) _ _ _ (hm.sub rfl))

theorem msgEffect_kept {μ : Nat} {s₀ : State} {s : State} (hs : Kept μ s₀ s) (m : List Nat)
    (hm : Within 0xc8010000c80101040060 μ) :
    Kept μ s₀ (msgEffect s m) := by
  have h1 : Kept μ s₀ (if msgKind m = kmWrite then keyWrite s m else if msgKind m = kmInvalidate then keyInvalidate s m
      else (0, burnLifecycle s lcDecommissioned)).2 := Kept.ite2 (keyWrite_kept hs _ (hm.sub rfl)) (Kept.ite2 (keyInvalidate_kept hs _ (hm.sub rfl)) (burnLifecycle_kept hs _ (hm.sub rfl)))
  unfold msgEffect; dsimp only
  generalize (if msgKind m = kmWrite then keyWrite s m else if msgKind m = kmInvalidate then keyInvalidate s m
      else (0, burnLifecycle s lcDecommissioned)) = p at h1 ⊢
  have h2 : Kept μ s₀ (if msgKind m = kmLifecycle then p.2.takeFree else ((msgBody m).getD 0 0, p.2)).2 := Kept.ite2 (State_takeFree_kept h1 (hm.sub rfl)) h1
  generalize (if msgKind m = kmLifecycle then p.2.takeFree else ((msgBody m).getD 0 0, p.2)) = q at h2 ⊢
  have h3 := fun a b c d e f => State_event_kept (bumpCounter_kept (State_count_kept h2 C.KEYS_MSG_APPLIED 0 (hm.sub rfl)) (hm.sub rfl)) a b c d e f (hm.sub rfl)
  exact Kept.ite (h3 _ _ _ _ _ _) (State_event_kept (h3 _ _ _ _ _ _) _ _ _ _ _ _ (hm.sub rfl))

theorem pairEffect_kept {μ : Nat} {s₀ : State} {s : State} (hs : Kept μ s₀ s) (d : List Nat)
    (hm : Within 0x88000000880000040020 μ) :
    Kept μ s₀ (pairEffect s d) := by
  unfold pairEffect
  exact (State_event_kept (Kept.ite (State_setFlag_kept (Kept.upd_40000 (bumpCounter_kept (State_count_kept hs _ _ (hm.sub rfl)) (hm.sub rfl)) (hm.sub rfl)) _ _ _ (hm.sub rfl)) (Kept.ite (State_setFlag_kept (Kept.upd_40000 (bumpCounter_kept (State_count_kept hs _ _ (hm.sub rfl)) (hm.sub rfl)) (hm.sub rfl)) _ _ _ (hm.sub rfl)) (Kept.upd_40000 (bumpCounter_kept (State_count_kept hs _ _ (hm.sub rfl)) (hm.sub rfl)) (hm.sub rfl)))) _ _ _ _ _ _ (hm.sub rfl))

theorem keysApplyEdge_kept {μ : Nat} {s₀ : State} {s : State} (hs : Kept μ s₀ s)
    (hm : Within 0xc8010000c80101040060 μ) :
    Kept μ s₀ (keysApplyEdge s) := by
  unfold keysApplyEdge
  (try dsimp only)
  split
  · exact hs
  · exact (Kept.ite hs (Kept.ite (msgRefused_kept (Kept.upd_40000 hs (hm.sub rfl)) _ _ (hm.sub rfl)) (Kept.ite (pairEffect_kept (Kept.upd_40000 hs (hm.sub rfl)) _ (hm.sub rfl)) (msgEffect_kept (Kept.upd_40000 hs (hm.sub rfl)) _ (hm.sub rfl)))))

theorem execKeysApplyEdge_kept {μ : Nat} {s₀ : State} {s : State} (hs : Kept μ s₀ s)
    (hm : Within 0xc8010000c80101040060 μ) :
    KeptN μ s₀ (execKeysApplyEdge s) := by
  unfold execKeysApplyEdge; exact (KeptN.next (Kept.live hs (fun _ h => keysApplyEdge_kept h (hm.sub rfl))))

theorem attestBegin_kept {μ : Nat} {s₀ : State} {s : State} (hs : Kept μ s₀ s)
    (hm : Within 0x49610000cb6101040760 μ) :
    Kept μ s₀ (attestBegin s) := by
  unfold attestBegin
  exact (Kept.ite (keysRefuse_kept hs _ (hm.sub rfl)) (withOperand_kept hs _ _ (fun _ _ hz0 => (keysBegin_kept hz0 _ _ _ _ (hm.sub rfl))) (hm.sub rfl)))

theorem execAttest_kept {μ : Nat} {s₀ : State} {s : State} (hs : Kept μ s₀ s)
    (hm : Within 0x49610000cb6101040760 μ) :
    KeptN μ s₀ (execAttest s) := by
  unfold execAttest; exact (KeptN.next (Kept.live hs (fun _ hz0 => (keysCmd_kept hz0 _ _ (fun _ h => attestBegin_kept h (hm.sub rfl)) (hm.sub rfl)))))

theorem measureRead_kept {μ : Nat} {s₀ : State} {s : State} (hs : Kept μ s₀ s) (t : Nat) (off : Nat) (n : Nat)
    (hm : Within 0x496100004b6101000760 μ) :
    Kept μ s₀ (measureRead s t off n).2 := by
  unfold measureRead; exact (engineRead_kept hs _ _ _ _ (hm.sub rfl))

theorem measure_kept {μ : Nat} {s₀ : State} {s : State} (hs : Kept μ s₀ s) (p : Nat)
    (hm : Within 0xc9610000cb6101000760 μ) :
    Kept μ s₀ (measure s p).2 := by
  unfold measure
  (try dsimp only)
  split
  · exact hs
  · exact (by (try dsimp only); split; (· exact (Kept.of_pair ‹_› (measureRead_kept hs _ _ _ (hm.sub rfl)))); (· exact (by (try dsimp only); split; (· exact (Kept.of_pair ‹_› (Kept.ite2 (measureRead_kept (Kept.of_pair ‹_› (measureRead_kept hs _ _ _ (hm.sub rfl))) _ _ _ (hm.sub rfl)) (Kept.of_pair ‹_› (measureRead_kept hs _ _ _ (hm.sub rfl)))))); (· exact (Kept.ite (State_count_kept (State_setFlag_kept (State_setFlag_kept (Kept.of_pair ‹_› (Kept.ite2 (measureRead_kept (Kept.of_pair ‹_› (measureRead_kept hs _ _ _ (hm.sub rfl))) _ _ _ (hm.sub rfl)) (Kept.of_pair ‹_› (measureRead_kept hs _ _ _ (hm.sub rfl))))) _ _ _ (hm.sub rfl)) _ _ _ (hm.sub rfl)) _ _ (hm.sub rfl)) (State_count_kept (State_count_kept (State_setFlag_kept (State_setFlag_kept (Kept.of_pair ‹_› (Kept.ite2 (measureRead_kept (Kept.of_pair ‹_› (measureRead_kept hs _ _ _ (hm.sub rfl))) _ _ _ (hm.sub rfl)) (Kept.of_pair ‹_› (measureRead_kept hs _ _ _ (hm.sub rfl))))) _ _ _ (hm.sub rfl)) _ _ _ (hm.sub rfl)) _ _ (hm.sub rfl)) _ _ (hm.sub rfl)))))))

theorem execMeasure_kept {μ : Nat} {s₀ : State} {s : State} (hs : Kept μ s₀ s)
    (hm : Within 0x40010000c00100040040 μ) :
    KeptN μ s₀ (execMeasure s) := by
  unfold execMeasure
  exact (KeptN.next (Kept.live hs (fun _ hz0 => (keysCmd_kept hz0 _ _ (fun _ hz1 => (keysBegin_kept hz1 _ _ _ _ (hm.sub rfl))) (hm.sub rfl)))))

theorem loadSlots_kept {μ : Nat} {s₀ : State} {s : State} (hs : Kept μ s₀ s) (l : List Nat)
    (hm : Within 0x40000 μ) :
    Kept μ s₀ (loadSlots s l) := by
  unfold loadSlots; exact (Kept.foldl hs (fun _ _ hz0 => (Kept.ite hz0 (Kept.upd_40000 hz0 (hm.sub rfl)))) _)

theorem loadRecs_kept {μ : Nat} {s₀ : State} {s : State} (hs : Kept μ s₀ s) (l : List Nat)
    (hm : Within 0x40000 μ) :
    Kept μ s₀ (loadRecs s l) := by
  unfold loadRecs; exact (Kept.foldl hs (fun _ _ hz0 => (Kept.ite hz0 (Kept.upd_40000 hz0 (hm.sub rfl)))) _)

theorem importImage_kept {μ : Nat} {s₀ : State} {s : State} (hs : Kept μ s₀ s) (d : List Nat)
    (hm : Within 0xc8010000c80100140061 μ) :
    Kept μ s₀ (importImage s d).2 := by
  unfold importImage
  exact (Kept.ite2 (State_event_kept (State_setFlt_kept (Kept.upd_40000 hs (hm.sub rfl)) _ (hm.sub rfl) (hm.sub rfl)) _ _ _ _ _ _ (hm.sub rfl)) (State_event_kept (Kept.foldl (State_setFlag_kept (State_count_kept (Kept.upd_100000 (State_setFlag_kept (State_setSh_kept (Kept.setFld (by (try dsimp only); split; (· exact (loadSlots_kept (loadRecs_kept (loadSlots_kept (Kept.upd_40000 (Kept.upd_40000 hs (hm.sub rfl)) (hm.sub rfl)) _ (hm.sub rfl)) _ (hm.sub rfl)) _ (hm.sub rfl))); (· exact (State_setFlag_kept (loadRecs_kept (loadSlots_kept (Kept.upd_40000 (Kept.upd_40000 hs (hm.sub rfl)) (hm.sub rfl)) _ (hm.sub rfl)) _ (hm.sub rfl)) _ _ _ (hm.sub rfl)))) _ _ _ (hm.sub rfl)) _ _ (hm.sub rfl) (hm.sub rfl)) _ _ _ (hm.sub rfl)) (hm.sub rfl)) _ _ (hm.sub rfl)) _ _ _ (hm.sub rfl)) (fun _ _ h => slotBad_kept h _ (hm.sub rfl)) _) _ _ _ _ _ _ (hm.sub rfl)))

theorem execKeysExport_kept {μ : Nat} {s₀ : State} {s : State} (hs : Kept μ s₀ s)
    (hm : Within 0x40010000c00100040040 μ) :
    KeptN μ s₀ (execKeysExport s) := by
  unfold execKeysExport
  exact (KeptN.next (Kept.live hs (fun _ hz0 => (keysCmd_kept hz0 _ _ (fun _ hz1 => (keysBegin_kept hz1 _ _ _ _ (hm.sub rfl))) (hm.sub rfl)))))

theorem confirmBegin_kept {μ : Nat} {s₀ : State} {s : State} (hs : Kept μ s₀ s)
    (hm : Within 0x40010000c00100040040 μ) :
    Kept μ s₀ (confirmBegin s) := by
  unfold confirmBegin; exact (Kept.ite (keysBegin_kept hs _ _ _ _ (hm.sub rfl)) (keysRefuse_kept hs _ (hm.sub rfl)))

theorem execConfirm_kept {μ : Nat} {s₀ : State} {s : State} (hs : Kept μ s₀ s)
    (hm : Within 0x40010000c00100040040 μ) :
    KeptN μ s₀ (execConfirm s) := by
  unfold execConfirm
  exact (KeptN.next (Kept.live hs (fun _ hz0 => (keysCmd_kept hz0 _ _ (fun _ h => confirmBegin_kept h (hm.sub rfl)) (hm.sub rfl)))))

theorem execImport_kept {μ : Nat} {s₀ : State} {s : State} (hs : Kept μ s₀ s)
    (hm : Within 0x49610000cb6101040760 μ) :
    KeptN μ s₀ (execImport s) := by
  unfold execImport
  exact (KeptN.next (Kept.live hs (fun _ hz0 => (keysCmd_kept hz0 _ _ (fun _ hz1 => (withOperand_kept hz1 _ _ (fun _ _ hz2 => (keysBegin_kept hz2 _ _ _ _ (hm.sub rfl))) (hm.sub rfl))) (hm.sub rfl)))))

theorem commitBegin_kept {μ : Nat} {s₀ : State} {s : State} (hs : Kept μ s₀ s)
    (hm : Within 0x40010000c00101040040 μ) :
    Kept μ s₀ (commitBegin s) := by
  unfold commitBegin; exact (Kept.ite (keysRefuse_kept (openCause_kept hs (hm.sub rfl)) _ (hm.sub rfl)) (keysBegin_kept hs _ _ _ _ (hm.sub rfl)))

theorem execCommit_kept {μ : Nat} {s₀ : State} {s : State} (hs : Kept μ s₀ s)
    (hm : Within 0x40010000c00101040040 μ) :
    KeptN μ s₀ (execCommit s) := by
  unfold execCommit; exact (KeptN.next (Kept.live hs (fun _ hz0 => (keysCmd_kept hz0 _ _ (fun _ h => commitBegin_kept h (hm.sub rfl)) (hm.sub rfl)))))

theorem rootInstall_kept {μ : Nat} {s₀ : State} {s : State} (hs : Kept μ s₀ s) (pset : Nat) (key : List Nat)
    (hm : Within 0xc8010000c80100040060 μ) :
    Kept μ s₀ (rootInstall s pset key) := by
  unfold rootInstall
  exact (Kept.ite (putSlot_kept (orphan_kept hs _ (hm.sub rfl)) _ _ (hm.sub rfl)) (State_event_kept (putSlot_kept (orphan_kept hs _ (hm.sub rfl)) _ _ (hm.sub rfl)) _ _ _ _ _ _ (hm.sub rfl)))

theorem rootCause_kept {μ : Nat} {s₀ : State} {s : State} (hs : Kept μ s₀ s) (pset : Nat) (key : List Nat)
    (hm : Within 0x1000000 μ) :
    Kept μ s₀ (rootCause s pset key).2 := by
  unfold rootCause; exact (Kept.ite2 hs (Kept.ite2 hs (openCause_kept hs (hm.sub rfl))))

theorem rootBegin_kept {μ : Nat} {s₀ : State} {s : State} (hs : Kept μ s₀ s)
    (hm : Within 0x49610000cb6101040760 μ) :
    Kept μ s₀ (rootBegin s) := by
  unfold rootBegin
  exact (withOperand_kept hs _ _ (fun _ _ hz0 => (Kept.ite (keysBegin_kept (rootCause_kept hz0 _ _ (hm.sub rfl)) _ _ _ _ (hm.sub rfl)) (keysRefuse_kept (rootCause_kept hz0 _ _ (hm.sub rfl)) _ (hm.sub rfl)))) (hm.sub rfl))

theorem execRootInstall_kept {μ : Nat} {s₀ : State} {s : State} (hs : Kept μ s₀ s)
    (hm : Within 0x49610000cb6101040760 μ) :
    KeptN μ s₀ (execRootInstall s) := by
  unfold execRootInstall
  exact (KeptN.next (Kept.live hs (fun _ hz0 => (keysCmd_kept hz0 _ _ (fun _ h => rootBegin_kept h (hm.sub rfl)) (hm.sub rfl)))))

theorem execBurnRoot_kept {μ : Nat} {s₀ : State} {s : State} (hs : Kept μ s₀ s)
    (hm : Within 0x49610000cb6101040760 μ) :
    KeptN μ s₀ (execBurnRoot s) := by
  unfold execBurnRoot
  exact (KeptN.next (Kept.live hs (fun _ hz0 => (keysCmd_kept hz0 _ _ (fun _ hz1 => (withOperand_kept hz1 _ _ (fun _ _ hz2 => (keysBegin_kept hz2 _ _ _ _ (hm.sub rfl))) (hm.sub rfl))) (hm.sub rfl)))))

theorem execLcDevelop_kept {μ : Nat} {s₀ : State} {s : State} (hs : Kept μ s₀ s)
    (hm : Within 0x40010000c00100040040 μ) :
    KeptN μ s₀ (execLcDevelop s) := by
  unfold execLcDevelop
  exact (KeptN.next (Kept.live hs (fun _ hz0 => (keysCmd_kept hz0 _ _ (fun _ hz1 => (keysBegin_kept hz1 _ _ _ _ (hm.sub rfl))) (hm.sub rfl)))))

theorem execLcSeal_kept {μ : Nat} {s₀ : State} {s : State} (hs : Kept μ s₀ s)
    (hm : Within 0x40010000c00100040040 μ) :
    KeptN μ s₀ (execLcSeal s) := by
  unfold execLcSeal
  exact (KeptN.next (Kept.live hs (fun _ hz0 => (keysCmd_kept hz0 _ _ (fun _ hz1 => (keysBegin_kept hz1 _ _ _ _ (hm.sub rfl))) (hm.sub rfl)))))

theorem execLcDecommission_kept {μ : Nat} {s₀ : State} {s : State} (hs : Kept μ s₀ s)
    (hm : Within 0x40010000c00100040040 μ) :
    KeptN μ s₀ (execLcDecommission s) := by
  unfold execLcDecommission
  exact (KeptN.next (Kept.live hs (fun _ hz0 => (keysCmd_kept hz0 _ _ (fun _ hz1 => (keysBegin_kept hz1 _ _ _ _ (hm.sub rfl))) (hm.sub rfl)))))

theorem execExportKtk_kept {μ : Nat} {s₀ : State} {s : State} (hs : Kept μ s₀ s)
    (hm : Within 0x40010000c00100040040 μ) :
    KeptN μ s₀ (execExportKtk s) := by
  unfold execExportKtk
  exact (KeptN.next (Kept.live hs (fun _ hz0 => (keysCmd_kept hz0 _ _ (fun _ hz1 => (keysBegin_kept hz1 _ _ _ _ (hm.sub rfl))) (hm.sub rfl)))))

theorem withOutput_kept {μ : Nat} {s₀ : State} {s : State} (hs : Kept μ s₀ s) (a : Nat) (l : List Nat) (f : State → State) (kf : ∀ t , Kept μ s₀ t → Kept μ s₀ (f t ))
    (hm : Within 0x49410000cb4100440768 μ) :
    Kept μ s₀ (withOutput s a l f) := by
  unfold withOutput
  (try dsimp only)
  split
  · exact (keysRefuse_kept (Kept.of_pair ‹_› (keysWrite_kept hs _ _ (hm.sub rfl))) _ (hm.sub rfl))
  · exact (keysDone_kept (kf _ (Kept.of_pair ‹_› (keysWrite_kept hs _ _ (hm.sub rfl)))) _ (hm.sub rfl))

theorem State_setFuses_kept {μ : Nat} {s₀ s : State} (hs : Kept μ s₀ s) {f : Fuses} (k : Fuses.Kept s.keys.fuses f)
    (hm : Within 0x40000 μ) : Kept μ s₀ (State.setFuses s f) :=
  hs.fuses k hm

theorem burnFloor_kept {μ : Nat} {s₀ : State} {s : State} (hs : Kept μ s₀ s)
    (hm : Within 0x40000 μ) :
    Kept μ s₀ (burnFloor s) := by
  exact hs.fuses ⟨Nat.le_refl _, fun _ h => h, id, List.suffix_cons _ _⟩ (hm.sub rfl)

theorem burnRoot_kept {μ : Nat} {s₀ : State} {s : State} (hs : Kept μ s₀ s) (h : List Nat)
    (hm : Within 0x40000 μ) :
    Kept μ s₀ (burnRoot s h) := by
  exact hs.fuses ⟨Nat.le_refl _, fun x e => by rw [e]; rfl, id, List.suffix_rfl⟩ (hm.sub rfl)

theorem burnTransport_kept {μ : Nat} {s₀ : State} {s : State} (hs : Kept μ s₀ s)
    (hm : Within 0x40000 μ) :
    Kept μ s₀ (burnTransport s) := by
  exact hs.fuses ⟨Nat.le_refl _, fun _ h => h, fun _ => rfl, List.suffix_rfl⟩ (hm.sub rfl)

theorem keysEnd_kept {μ : Nat} {s₀ : State} {s : State} (hs : Kept μ s₀ s)
    (hm : Within 0xc9610000cb6101540769 μ) :
    Kept μ s₀ (keysEnd s) := by
  unfold keysEnd
  (try dsimp only)
  split
  · exact hs
  · exact (Kept.ite hs (Kept.ite (keysRefuse_kept hs _ (hm.sub rfl)) (by (try dsimp only); split; (· exact (withOutput_kept hs _ _ _ (fun _ hz2 => (State_count_kept hz2 _ _ (hm.sub rfl))) (hm.sub rfl))); (· exact (Kept.ite (keysDone_kept (measure_kept hs _ (hm.sub rfl)) _ (hm.sub rfl)) (keysRefuse_kept (measure_kept hs _ (hm.sub rfl)) _ (hm.sub rfl)))); (· exact (withOutput_kept (State_takeOctets_kept hs _ (hm.sub rfl)) _ _ _ (fun _ hz2 => (State_setFlag_kept (State_count_kept hz2 _ _ (hm.sub rfl)) _ _ _ (hm.sub rfl))) (hm.sub rfl))); (· exact (keysDone_kept (State_count_kept (State_setSh_kept (Kept.upd_100000 hs (hm.sub rfl)) _ _ (hm.sub rfl) (hm.sub rfl)) _ _ (hm.sub rfl)) _ (hm.sub rfl))); (· exact (Kept.ite (keysDone_kept (importImage_kept hs _ (hm.sub rfl)) _ (hm.sub rfl)) (keysRefuse_kept (importImage_kept hs _ (hm.sub rfl)) _ (hm.sub rfl)))); (· exact (keysDone_kept (burnFloor_kept hs (hm.sub rfl)) _ (hm.sub rfl))); (· exact (keysDone_kept (rootInstall_kept hs _ _ (hm.sub rfl)) _ (hm.sub rfl))); (· exact (keysDone_kept (burnRoot_kept hs _ (hm.sub rfl)) _ (hm.sub rfl))); (· exact (keysDone_kept (burnLifecycle_kept hs _ (hm.sub rfl)) _ (hm.sub rfl))); (· exact (keysDone_kept (burnLifecycle_kept hs _ (hm.sub rfl)) _ (hm.sub rfl))); (· exact (keysDone_kept (burnLifecycle_kept hs _ (hm.sub rfl)) _ (hm.sub rfl))); (· exact (withOutput_kept hs _ _ _ (fun _ h => burnTransport_kept h (hm.sub rfl)) (hm.sub rfl))); (· exact (keysDone_kept hs _ (hm.sub rfl))))))

theorem tamperDetect_kept {μ : Nat} {s₀ : State} {s : State} (hs : Kept μ s₀ s) (levels : Nat)
    (hm : Within 0x800001140001 μ) :
    Kept μ s₀ (tamperDetect s levels) := by
  unfold tamperDetect; extract_lets a low
  have ha : Kept μ s₀ a := State_setSh_kept hs _ _ (hm.sub rfl) (hm.sub rfl)
  have h := State_takeOctets_kept ha 32 (hm.sub rfl)
  split
  · exact ha
  · exact State_setSh_kept (Kept.upd_140000 h (hm.sub rfl)) _ _ (hm.sub rfl) (hm.sub rfl)

theorem execTamperDetect_kept {μ : Nat} {s₀ : State} {s : State} (hs : Kept μ s₀ s) (levels : Nat)
    (hm : Within 0x800001140001 μ) :
    KeptN μ s₀ (execTamperDetect levels s) := by
  unfold execTamperDetect; exact (KeptN.next (tamperDetect_kept hs _ (hm.sub rfl)))

theorem zeroisation_kept {μ : Nat} {s₀ : State} {s : State} (hs : Kept μ s₀ s)
    (hm : Within 0xc8010000c80100040060 μ) :
    Kept μ s₀ (zeroisation s) := by
  unfold zeroisation
  exact (Kept.ite hs (by (try dsimp only); split; (· exact (Kept.ite (State_event_kept (State_setFlt_kept (State_count_kept (Kept.foldl (Kept.upd_40000 hs (hm.sub rfl)) (fun _ _ hz1 => (putSlot_kept hz1 _ _ (hm.sub rfl))) _) _ _ (hm.sub rfl)) _ (hm.sub rfl) (hm.sub rfl)) _ _ _ _ _ _ (hm.sub rfl)) (keysRefuse_kept (State_event_kept (State_setFlt_kept (State_count_kept (Kept.foldl (Kept.upd_40000 hs (hm.sub rfl)) (fun _ _ hz1 => (putSlot_kept hz1 _ _ (hm.sub rfl))) _) _ _ (hm.sub rfl)) _ (hm.sub rfl) (hm.sub rfl)) _ _ _ _ _ _ (hm.sub rfl)) _ (hm.sub rfl)))); (· exact (State_event_kept (State_setFlt_kept (State_count_kept (Kept.foldl (Kept.upd_40000 hs (hm.sub rfl)) (fun _ _ hz1 => (putSlot_kept hz1 _ _ (hm.sub rfl))) _) _ _ (hm.sub rfl)) _ (hm.sub rfl) (hm.sub rfl)) _ _ _ _ _ _ (hm.sub rfl)))))

end Sys2Proof.Machine
end

