-- ==== Sys2Proof/Laws/KeptBootOps.lean ====
section
/-! SUPPORT. Each function of Machine/BootOps.lean keeps what `Kept` says. -/

set_option Elab.async false

namespace Sys2Proof.Machine

theorem flashErase_kept {μ : Nat} {s₀ : State} {s : State} (hs : Kept μ s₀ s) (a : Nat) (n : Nat)
    (hm : Within 0x200000 μ) :
    Kept μ s₀ (flashErase s a n) := by
  unfold flashErase; exact (Kept.upd_200000 hs (hm.sub rfl))

theorem flashProg_kept {μ : Nat} {s₀ : State} {s : State} (hs : Kept μ s₀ s) (a : Nat) (l : List Nat)
    (hm : Within 0x200000 μ) :
    Kept μ s₀ (flashProg s a l) := by
  unfold flashProg; exact (Kept.upd_200000 hs (hm.sub rfl))

theorem bootMbx_kept {μ : Nat} {s₀ : State} {s : State} (hs : Kept μ s₀ s) (refused : Bool) (op : FlashOp)
    (hm : Within 0x40010002400100200044 μ) :
    Kept μ s₀ (bootMbx s refused op) := by
  unfold bootMbx
  exact (Kept.ite (State_setFlt_kept (State_mbxRefuseBusy_kept hs _ (hm.sub rfl)) _ (hm.sub rfl) (hm.sub rfl)) (Kept.ite (State_setFlt_kept (State_mbxRefuse_kept hs _ (hm.sub rfl)) _ (hm.sub rfl) (hm.sub rfl)) (Kept.upd_200000 (State_mbxStart_kept hs _ _ (hm.sub rfl) (hm.sub rfl)) (hm.sub rfl))))

theorem flashMemBad_kept {μ : Nat} {s₀ : State} {s : State} (hs : Kept μ s₀ s) (kind : Nat) (o : FlashOp)
    (hm : Within 0x494100004b4100000360 μ) :
    Kept μ s₀ (flashMemBad s kind o).2 := by
  unfold flashMemBad; exact (Kept.ite2 hs (Kept.ite2 hs (bwAdmit_kept hs _ _ _ _ _ (hm.sub rfl))))

theorem flashCmd_kept {μ : Nat} {s₀ : State} {s : State} (hs : Kept μ s₀ s) (kind : Nat) (bad : Bool) (o : FlashOp)
    (hm : Within 0x494100024b4100200364 μ) :
    Kept μ s₀ (flashCmd s kind bad o) := by
  unfold flashCmd; exact (Kept.ite (bootMbx_kept hs _ _ (hm.sub rfl)) (bootMbx_kept (flashMemBad_kept hs _ _ (hm.sub rfl)) _ _ (hm.sub rfl)))

theorem flashReadCmd_kept {μ : Nat} {s₀ : State} {s : State} (hs : Kept μ s₀ s)
    (hm : Within 0x494100024b4100200364 μ) :
    Kept μ s₀ (flashReadCmd s) := by
  unfold flashReadCmd; exact (flashCmd_kept hs _ _ _ (hm.sub rfl))

theorem execFlashRead_kept {μ : Nat} {s₀ : State} {s : State} (hs : Kept μ s₀ s)
    (hm : Within 0x494100024b4100200364 μ) :
    KeptN μ s₀ (execFlashRead s) := by
  unfold execFlashRead; exact (KeptN.next (Kept.live hs (fun _ h => flashReadCmd_kept h (hm.sub rfl))))

theorem flashEraseCmd_kept {μ : Nat} {s₀ : State} {s : State} (hs : Kept μ s₀ s)
    (hm : Within 0x40010002400100200044 μ) :
    Kept μ s₀ (flashEraseCmd s) := by
  unfold flashEraseCmd; exact (bootMbx_kept hs _ _ (hm.sub rfl))

theorem execFlashErase_kept {μ : Nat} {s₀ : State} {s : State} (hs : Kept μ s₀ s)
    (hm : Within 0x40010002400100200044 μ) :
    KeptN μ s₀ (execFlashErase s) := by
  unfold execFlashErase; exact (KeptN.next (Kept.live hs (fun _ h => flashEraseCmd_kept h (hm.sub rfl))))

theorem flashProgCmd_kept {μ : Nat} {s₀ : State} {s : State} (hs : Kept μ s₀ s)
    (hm : Within 0x494100024b4100200364 μ) :
    Kept μ s₀ (flashProgCmd s) := by
  unfold flashProgCmd; exact (flashCmd_kept hs _ _ _ (hm.sub rfl))

theorem execFlashProg_kept {μ : Nat} {s₀ : State} {s : State} (hs : Kept μ s₀ s)
    (hm : Within 0x494100024b4100200364 μ) :
    KeptN μ s₀ (execFlashProg s) := by
  unfold execFlashProg; exact (KeptN.next (Kept.live hs (fun _ h => flashProgCmd_kept h (hm.sub rfl))))

theorem bootConfirmCmd_kept {μ : Nat} {s₀ : State} {s : State} (hs : Kept μ s₀ s)
    (hm : Within 0x40010002400100200044 μ) :
    Kept μ s₀ (bootConfirmCmd s) := by
  unfold bootConfirmCmd; exact (bootMbx_kept hs _ _ (hm.sub rfl))

theorem execBootConfirm_kept {μ : Nat} {s₀ : State} {s : State} (hs : Kept μ s₀ s)
    (hm : Within 0x40010002400100200044 μ) :
    KeptN μ s₀ (execBootConfirm s) := by
  unfold execBootConfirm; exact (KeptN.next (Kept.live hs (fun _ h => bootConfirmCmd_kept h (hm.sub rfl))))

theorem setTrialCmd_kept {μ : Nat} {s₀ : State} {s : State} (hs : Kept μ s₀ s)
    (hm : Within 0x40010002400100200044 μ) :
    Kept μ s₀ (setTrialCmd s) := by
  unfold setTrialCmd; exact (bootMbx_kept hs _ _ (hm.sub rfl))

theorem execSetTrial_kept {μ : Nat} {s₀ : State} {s : State} (hs : Kept μ s₀ s)
    (hm : Within 0x40010002400100200044 μ) :
    KeptN μ s₀ (execSetTrial s) := by
  unfold execSetTrial; exact (KeptN.next (Kept.live hs (fun _ h => setTrialCmd_kept h (hm.sub rfl))))

theorem forceRecoveryCmd_kept {μ : Nat} {s₀ : State} {s : State} (hs : Kept μ s₀ s)
    (hm : Within 0x40010002400100200044 μ) :
    Kept μ s₀ (forceRecoveryCmd s) := by
  unfold forceRecoveryCmd; exact (bootMbx_kept hs _ _ (hm.sub rfl))

theorem execForceRecovery_kept {μ : Nat} {s₀ : State} {s : State} (hs : Kept μ s₀ s)
    (hm : Within 0x40010002400100200044 μ) :
    KeptN μ s₀ (execForceRecovery s) := by
  unfold execForceRecovery; exact (KeptN.next (Kept.live hs (fun _ h => forceRecoveryCmd_kept h (hm.sub rfl))))

theorem setBad_kept {μ : Nat} {s₀ : State} {s : State} (hs : Kept μ s₀ s) (slot : Nat) (v : Bool)
    (hm : Within 0x1000000000001 μ) :
    Kept μ s₀ (setBad s slot v) := by
  unfold setBad; exact (State_setSh_kept hs _ _ (hm.sub rfl) (hm.sub rfl))

theorem clearBadIn_kept {μ : Nat} {s₀ : State} {s : State} (hs : Kept μ s₀ s) (a : Nat) (n : Nat)
    (hm : Within 0x1000000000001 μ) :
    Kept μ s₀ (clearBadIn s a n) := by
  unfold clearBadIn; exact (Kept.foldl hs (fun _ _ hz0 => (Kept.ite (setBad_kept hz0 _ _ (hm.sub rfl)) hz0)) _)

theorem bootFail_kept {μ : Nat} {s₀ : State} {s : State} (hs : Kept μ s₀ s)
    (hm : Within 0x2000000000004 μ) :
    Kept μ s₀ (bootFail s) := by
  unfold bootFail
  exact (State_mbxEnd_kept (by (try dsimp only); split; (· exact (Kept.upd_4 hs (hm.sub rfl))); (· exact hs)) _ (hm.sub rfl) (hm.sub rfl))

theorem bootCmdEnd_kept {μ : Nat} {s₀ : State} {s : State} (hs : Kept μ s₀ s) (o : FlashOp)
    (hm : Within 0x49610003cb610160076d μ) :
    Kept μ s₀ (bootCmdEnd s o) := by
  unfold bootCmdEnd
  exact (Kept.ite (by (try dsimp only); split; (· exact (State_mbxEnd_kept (Kept.of_pair ‹_› (engineWrite_kept hs _ _ _ _ (hm.sub rfl))) _ (hm.sub rfl) (hm.sub rfl))); (· exact (bootFail_kept (Kept.of_pair ‹_› (engineWrite_kept hs _ _ _ _ (hm.sub rfl))) (hm.sub rfl)))) (Kept.ite (State_mbxEnd_kept (flashErase_kept hs _ _ (hm.sub rfl)) _ (hm.sub rfl) (hm.sub rfl)) (Kept.ite (by (try dsimp only); split; (· exact (bootFail_kept (Kept.of_pair ‹_› (engineRead_kept hs _ _ _ _ (hm.sub rfl))) (hm.sub rfl))); (· exact (Kept.ite (State_mbxEnd_kept (clearBadIn_kept (flashProg_kept (Kept.of_pair ‹_› (engineRead_kept hs _ _ _ _ (hm.sub rfl))) _ _ (hm.sub rfl)) _ _ (hm.sub rfl)) _ (hm.sub rfl) (hm.sub rfl)) (bootFail_kept (flashProg_kept (Kept.of_pair ‹_› (engineRead_kept hs _ _ _ _ (hm.sub rfl))) _ _ (hm.sub rfl)) (hm.sub rfl))))) (Kept.ite (State_mbxEnd_kept (State_event_kept (setBad_kept (State_setSh_kept (State_setSh_kept hs _ _ (hm.sub rfl) (hm.sub rfl)) _ _ (hm.sub rfl) (hm.sub rfl)) _ _ (hm.sub rfl)) _ _ _ _ _ _ (hm.sub rfl)) _ (hm.sub rfl) (hm.sub rfl)) (Kept.ite (State_mbxEnd_kept (State_setSh_kept hs _ _ (hm.sub rfl) (hm.sub rfl)) _ (hm.sub rfl) (hm.sub rfl)) (State_mbxEnd_kept (State_setSh_kept hs _ _ (hm.sub rfl) (hm.sub rfl)) _ (hm.sub rfl) (hm.sub rfl)))))))

theorem flashOpTimeout_kept {μ : Nat} {s₀ : State} {s : State} (hs : Kept μ s₀ s)
    (hm : Within 0x4001000240010120004c μ) :
    Kept μ s₀ (flashOpTimeout s) := by
  unfold flashOpTimeout
  (try dsimp only)
  split
  · exact hs
  · exact (Kept.ite hs (State_setFlt_kept (bootFail_kept (Kept.ite (State_setMemBytes_kept (Kept.upd_1200000 hs (hm.sub rfl)) _ _ (hm.sub rfl)) (Kept.upd_1200000 hs (hm.sub rfl))) (hm.sub rfl)) _ (hm.sub rfl) (hm.sub rfl)))

theorem execFlashOpTimeout_kept {μ : Nat} {s₀ : State} {s : State} (hs : Kept μ s₀ s)
    (hm : Within 0x4001000240010120004c μ) :
    KeptN μ s₀ (execFlashOpTimeout s) := by
  unfold execFlashOpTimeout; exact (KeptN.next (Kept.live hs (fun _ h => flashOpTimeout_kept h (hm.sub rfl))))

theorem enterRecovery_kept {μ : Nat} {s₀ : State} {s : State} (hs : Kept μ s₀ s)
    (hm : Within 0x78050003780500018071 μ) :
    Kept μ s₀ (enterRecovery s) := by
  unfold enterRecovery
  exact (portEnable_kept (Kept.setFld (Kept.setFld (State_setFlag_kept (Kept.setFld (Kept.setFld (State_setSh_kept (State_event_kept (Kept.setFld hs _ _ _ (hm.sub rfl)) _ _ _ _ _ _ (hm.sub rfl)) _ _ (hm.sub rfl) (hm.sub rfl)) _ _ _ (hm.sub rfl)) _ _ _ (hm.sub rfl)) _ _ _ (hm.sub rfl)) _ _ _ (hm.sub rfl)) _ _ _ (hm.sub rfl)) _ (hm.sub rfl))

theorem recoveryReply_kept {μ : Nat} {s₀ : State} {s : State} (hs : Kept μ s₀ s) (f : Frame) (m : RecMsg) (status : Nat) (data : List Nat)
    (hm : Within 0x200000 μ) :
    Kept μ s₀ (recoveryReply s f m status data) := by
  unfold recoveryReply; exact (Kept.upd_200000 hs (hm.sub rfl))

theorem recoveryOp_kept {μ : Nat} {s₀ : State} {s : State} (hs : Kept μ s₀ s) (f : Frame) (fcsOk : Bool) (op : Nat) (g : State → RecMsg → State) (kg : ∀ t x0, Kept μ s₀ t → Kept μ s₀ (g t x0))
    (hm : Within 0x200000 μ) :
    Kept μ s₀ (recoveryOp s f fcsOk op g) := by
  unfold recoveryOp; (try dsimp only); split; (· exact hs); (· exact (Kept.ite (recoveryReply_kept hs _ _ _ _ (hm.sub rfl)) (kg _ _ hs)))

theorem recoveryEnd_kept {μ : Nat} {s₀ : State} {s : State} (hs : Kept μ s₀ s) (status : Nat)
    (hm : Within 0x200000 μ) :
    Kept μ s₀ (recoveryEnd s status) := by
  unfold recoveryEnd
  (try dsimp only)
  split
  · exact (by (try dsimp only); split; (· exact (recoveryReply_kept (Kept.upd_200000 hs (hm.sub rfl)) _ _ _ _ (hm.sub rfl))); (· exact (Kept.upd_200000 hs (hm.sub rfl))))
  · exact hs

theorem execInfo_kept {μ : Nat} {s₀ : State} {s : State} (hs : Kept μ s₀ s) (f : Frame) (fcsOk : Bool)
    (hm : Within 0x200000 μ) :
    KeptN μ s₀ (execInfo f fcsOk s) := by
  unfold execInfo
  exact (KeptN.next (Kept.live hs (fun _ hz0 => (recoveryOp_kept hz0 _ _ _ _ (fun _ _ hz1 => (recoveryReply_kept hz1 _ _ _ _ (hm.sub rfl))) (hm.sub rfl)))))

theorem recoveryStage_kept {μ : Nat} {s₀ : State} {s : State} (hs : Kept μ s₀ s) (f : Frame) (m : RecMsg)
    (hm : Within 0x49410000cb4100600768 μ) :
    Kept μ s₀ (recoveryStage s f m) := by
  unfold recoveryStage; split
  · exact recoveryReply_kept hs _ _ _ _ (hm.sub rfl)
  · have h := engineWrite_kept hs initBoot (m.data.length / 64 + 1) (stageBundle s + m.arg0) m.data (hm.sub rfl)
    generalize engineWrite initBoot (m.data.length / 64 + 1) s (stageBundle s + m.arg0) m.data = p at h ⊢
    obtain ⟨ok, t⟩ := p
    exact recoveryReply_kept h _ _ _ _ (hm.sub rfl)

theorem execStage_kept {μ : Nat} {s₀ : State} {s : State} (hs : Kept μ s₀ s) (f : Frame) (fcsOk : Bool)
    (hm : Within 0x49410000cb4100600768 μ) :
    KeptN μ s₀ (execStage f fcsOk s) := by
  unfold execStage
  exact (KeptN.next (Kept.live hs (fun _ hz0 => (recoveryOp_kept hz0 _ _ _ _ (fun _ _ hz1 => (recoveryStage_kept hz1 _ _ (hm.sub rfl))) (hm.sub rfl)))))

theorem recoveryKeys_kept {μ : Nat} {s₀ : State} {s : State} (hs : Kept μ s₀ s) (f : Frame) (m : RecMsg) (cmd : State → State) (kcmd : ∀ t , Kept μ s₀ t → Kept μ s₀ (cmd t ))
    (hm : Within 0x200000 μ) :
    Kept μ s₀ (recoveryKeys s f m cmd) := by
  unfold recoveryKeys
  exact (Kept.ite (recoveryReply_kept hs _ _ _ _ (hm.sub rfl)) (Kept.ite (Kept.upd_200000 (kcmd _ hs) (hm.sub rfl)) (recoveryReply_kept (kcmd _ hs) _ _ _ _ (hm.sub rfl))))

theorem keysOperand_kept {μ : Nat} {s₀ : State} {s : State} (hs : Kept μ s₀ s) (a : Nat) (len : Nat) (arg : Nat)
    (hm : Within 0x800000000000 μ) :
    Kept μ s₀ (keysOperand s a len arg) := by
  unfold keysOperand
  exact (Kept.setFld (Kept.setFld (Kept.setFld (Kept.setFld hs _ _ _ (hm.sub rfl)) _ _ _ (hm.sub rfl)) _ _ _ (hm.sub rfl)) _ _ _ (hm.sub rfl))

theorem recoveryApply_kept {μ : Nat} {s₀ : State} {s : State} (hs : Kept μ s₀ s) (f : Frame) (m : RecMsg) (pair : Bool)
    (hm : Within 0xc9610000cb6101240760 μ) :
    Kept μ s₀ (recoveryApply s f m pair) := by
  unfold recoveryApply
  exact (Kept.ite (recoveryReply_kept hs _ _ _ _ (hm.sub rfl)) (recoveryKeys_kept hs _ _ _ (fun _ hz0 => (keysCmd_kept (keysOperand_kept hz0 _ _ _ (hm.sub rfl)) _ _ (fun _ hz1 => (applyBegin_kept hz1 _ (hm.sub rfl))) (hm.sub rfl))) (hm.sub rfl)))

theorem execKeymsg_kept {μ : Nat} {s₀ : State} {s : State} (hs : Kept μ s₀ s) (f : Frame) (fcsOk : Bool)
    (hm : Within 0xc9610000cb6101240760 μ) :
    KeptN μ s₀ (execKeymsg f fcsOk s) := by
  unfold execKeymsg
  exact (KeptN.next (Kept.live hs (fun _ hz0 => (recoveryOp_kept hz0 _ _ _ _ (fun _ _ hz1 => (recoveryApply_kept hz1 _ _ _ (hm.sub rfl))) (hm.sub rfl)))))

theorem execRecoveryApprove_kept {μ : Nat} {s₀ : State} {s : State} (hs : Kept μ s₀ s) (f : Frame) (fcsOk : Bool)
    (hm : Within 0xc9610000cb6101240760 μ) :
    KeptN μ s₀ (execRecoveryApprove f fcsOk s) := by
  unfold execRecoveryApprove
  exact (KeptN.next (Kept.live hs (fun _ hz0 => (recoveryOp_kept hz0 _ _ _ _ (fun _ _ hz1 => (recoveryApply_kept hz1 _ _ _ (hm.sub rfl))) (hm.sub rfl)))))

theorem recoveryRoot_kept {μ : Nat} {s₀ : State} {s : State} (hs : Kept μ s₀ s) (f : Frame) (m : RecMsg)
    (hm : Within 0x40010000c00101240040 μ) :
    Kept μ s₀ (recoveryRoot s f m) := by
  unfold recoveryRoot
  exact (recoveryKeys_kept hs _ _ _ (fun _ hz0 => (keysCmd_kept (keysOperand_kept hz0 _ _ _ (hm.sub rfl)) _ _ (fun _ hz1 => (Kept.ite (keysBegin_kept (rootCause_kept hz1 _ _ (hm.sub rfl)) _ _ _ _ (hm.sub rfl)) (keysRefuse_kept (rootCause_kept hz1 _ _ (hm.sub rfl)) _ (hm.sub rfl)))) (hm.sub rfl))) (hm.sub rfl))

theorem execRoot_kept {μ : Nat} {s₀ : State} {s : State} (hs : Kept μ s₀ s) (f : Frame) (fcsOk : Bool)
    (hm : Within 0x40010000c00101240040 μ) :
    KeptN μ s₀ (execRoot f fcsOk s) := by
  unfold execRoot
  exact (KeptN.next (Kept.live hs (fun _ hz0 => (recoveryOp_kept hz0 _ _ _ _ (fun _ _ hz1 => (recoveryRoot_kept hz1 _ _ (hm.sub rfl))) (hm.sub rfl)))))

theorem recoverySave_kept {μ : Nat} {s₀ : State} {s : State} (hs : Kept μ s₀ s) (f : Frame) (m : RecMsg)
    (hm : Within 0x40010000c00100240040 μ) :
    Kept μ s₀ (recoverySave s f m) := by
  unfold recoverySave
  exact (recoveryKeys_kept hs _ _ _ (fun _ hz0 => (keysCmd_kept (keysOperand_kept hz0 _ _ _ (hm.sub rfl)) _ _ (fun _ hz1 => (keysBegin_kept hz1 _ _ _ _ (hm.sub rfl))) (hm.sub rfl))) (hm.sub rfl))

theorem execSaveStore_kept {μ : Nat} {s₀ : State} {s : State} (hs : Kept μ s₀ s) (f : Frame) (fcsOk : Bool)
    (hm : Within 0x40010000c00100240040 μ) :
    KeptN μ s₀ (execSaveStore f fcsOk s) := by
  unfold execSaveStore
  exact (KeptN.next (Kept.live hs (fun _ hz0 => (recoveryOp_kept hz0 _ _ _ _ (fun _ _ hz1 => (recoverySave_kept hz1 _ _ (hm.sub rfl))) (hm.sub rfl)))))

theorem recoveryProgram_kept {μ : Nat} {s₀ : State} {s : State} (hs : Kept μ s₀ s) (f : Frame) (m : RecMsg)
    (hm : Within 0x496100004b6101200760 μ) :
    Kept μ s₀ (recoveryProgram s f m) := by
  unfold recoveryProgram
  exact (Kept.ite (recoveryReply_kept hs _ _ _ _ (hm.sub rfl)) (by (try dsimp only); split; (· exact (recoveryReply_kept (Kept.of_pair ‹_› (engineRead_kept hs _ _ _ _ (hm.sub rfl))) _ _ _ _ (hm.sub rfl))); (· exact (Kept.ite (recoveryReply_kept (Kept.of_pair ‹_› (engineRead_kept hs _ _ _ _ (hm.sub rfl))) _ _ _ _ (hm.sub rfl)) (Kept.ite (recoveryReply_kept (Kept.of_pair ‹_› (engineRead_kept hs _ _ _ _ (hm.sub rfl))) _ _ _ _ (hm.sub rfl)) (Kept.upd_200000 (Kept.of_pair ‹_› (engineRead_kept hs _ _ _ _ (hm.sub rfl))) (hm.sub rfl)))))))

theorem execProgram_kept {μ : Nat} {s₀ : State} {s : State} (hs : Kept μ s₀ s) (f : Frame) (fcsOk : Bool)
    (hm : Within 0x496100004b6101200760 μ) :
    KeptN μ s₀ (execProgram f fcsOk s) := by
  unfold execProgram
  exact (KeptN.next (Kept.live hs (fun _ hz0 => (recoveryOp_kept hz0 _ _ _ _ (fun _ _ hz1 => (recoveryProgram_kept hz1 _ _ (hm.sub rfl))) (hm.sub rfl)))))

theorem recoveryReboot_kept {μ : Nat} {s₀ : State} {s : State} (hs : Kept μ s₀ s) (f : Frame) (m : RecMsg)
    (hm : Within 0xffffffffffffffff01ffffff μ) :
    Kept μ s₀ (recoveryReboot s f m) := by
  unfold recoveryReboot; exact (Kept.upd_200000 (assertReset_kept (recoveryReply_kept hs _ _ _ _ (hm.sub rfl)) _ (hm.sub rfl)) (hm.sub rfl))

theorem execReboot_kept {μ : Nat} {s₀ : State} {s : State} (hs : Kept μ s₀ s) (f : Frame) (fcsOk : Bool)
    (hm : Within 0xffffffffffffffff01ffffff μ) :
    KeptN μ s₀ (execReboot f fcsOk s) := by
  unfold execReboot
  exact (KeptN.next (Kept.live hs (fun _ hz0 => (recoveryOp_kept hz0 _ _ _ _ (fun _ _ hz1 => (recoveryReboot_kept hz1 _ _ (hm.sub rfl))) (hm.sub rfl)))))

theorem programEnd_kept {μ : Nat} {s₀ : State} {s : State} (hs : Kept μ s₀ s) (o : FlashOp)
    (hm : Within 0x496100014b6101200761 μ) :
    Kept μ s₀ (programEnd s o) := by
  unfold programEnd
  (try dsimp only)
  split
  · exact (recoveryEnd_kept (Kept.of_pair ‹_› (engineRead_kept hs _ _ _ _ (hm.sub rfl))) _ (hm.sub rfl))
  · exact (Kept.ite (recoveryEnd_kept (setBad_kept (flashProg_kept (flashErase_kept (Kept.of_pair ‹_› (engineRead_kept hs _ _ _ _ (hm.sub rfl))) _ _ (hm.sub rfl)) _ _ (hm.sub rfl)) _ _ (hm.sub rfl)) _ (hm.sub rfl)) (recoveryEnd_kept (flashProg_kept (flashErase_kept (Kept.of_pair ‹_› (engineRead_kept hs _ _ _ _ (hm.sub rfl))) _ _ (hm.sub rfl)) _ _ (hm.sub rfl)) _ (hm.sub rfl)))

theorem storeTarget_kept {μ : Nat} {s₀ : State} {s : State} (hs : Kept μ s₀ s)
    (hm : Within 0x1000000 μ) :
    Kept μ s₀ (storeTarget s).2 := by
  unfold storeTarget
  (try dsimp only)
  split
  · exact (Kept.ite2 hs hs)
  · exact hs
  · exact hs
  · exact (State_takeFree_kept hs (hm.sub rfl))

theorem saveProgram_kept {μ : Nat} {s₀ : State} {s : State} (hs : Kept μ s₀ s)
    (hm : Within 0x200000 μ) :
    Kept μ s₀ (saveProgram s) := by
  unfold saveProgram; exact (Kept.upd_200000 hs (hm.sub rfl))

theorem saveEnd_kept {μ : Nat} {s₀ : State} {s : State} (hs : Kept μ s₀ s) (o : FlashOp)
    (hm : Within 0x49610000cb6101240760 μ) :
    Kept μ s₀ (saveEnd s o) := by
  unfold saveEnd
  (try dsimp only)
  split
  · exact (recoveryEnd_kept (Kept.of_pair ‹_› (engineRead_kept hs _ _ _ _ (hm.sub rfl))) _ (hm.sub rfl))
  · exact (Kept.ite (recoveryEnd_kept (flashProg_kept (flashErase_kept (storeTarget_kept (Kept.of_pair ‹_› (engineRead_kept hs _ _ _ _ (hm.sub rfl))) (hm.sub rfl)) _ _ (hm.sub rfl)) _ _ (hm.sub rfl)) _ (hm.sub rfl)) (Kept.ite (recoveryEnd_kept (flashProg_kept (flashErase_kept (storeTarget_kept (Kept.of_pair ‹_› (engineRead_kept hs _ _ _ _ (hm.sub rfl))) (hm.sub rfl)) _ _ (hm.sub rfl)) _ _ (hm.sub rfl)) _ (hm.sub rfl)) (Kept.ite (keysCmd_kept (flashProg_kept (flashErase_kept (storeTarget_kept (Kept.of_pair ‹_› (engineRead_kept hs _ _ _ _ (hm.sub rfl))) (hm.sub rfl)) _ _ (hm.sub rfl)) _ _ (hm.sub rfl)) _ _ (fun _ h => confirmBegin_kept h (hm.sub rfl)) (hm.sub rfl)) (recoveryEnd_kept (keysCmd_kept (flashProg_kept (flashErase_kept (storeTarget_kept (Kept.of_pair ‹_› (engineRead_kept hs _ _ _ _ (hm.sub rfl))) (hm.sub rfl)) _ _ (hm.sub rfl)) _ _ (hm.sub rfl)) _ _ (fun _ h => confirmBegin_kept h (hm.sub rfl)) (hm.sub rfl)) _ (hm.sub rfl)))))

theorem bootEnd_kept {μ : Nat} {s₀ : State} {s : State} (hs : Kept μ s₀ s)
    (hm : Within 0x49610003cb610164076d μ) :
    Kept μ s₀ (bootEnd s) := by
  unfold bootEnd
  (try dsimp only)
  split
  · exact hs
  · exact (Kept.ite hs (Kept.ite (programEnd_kept (Kept.upd_200000 hs (hm.sub rfl)) _ (hm.sub rfl)) (Kept.ite (saveEnd_kept (Kept.upd_200000 hs (hm.sub rfl)) _ (hm.sub rfl)) (bootCmdEnd_kept (Kept.upd_200000 hs (hm.sub rfl)) _ (hm.sub rfl)))))

theorem recoveryKeysEnd_kept {μ : Nat} {s₀ : State} {s : State} (hs : Kept μ s₀ s) (cmd : Nat)
    (hm : Within 0x200000 μ) :
    Kept μ s₀ (recoveryKeysEnd s cmd) := by
  unfold recoveryKeysEnd
  exact (Kept.ite hs (Kept.ite (Kept.ite (saveProgram_kept hs (hm.sub rfl)) (recoveryEnd_kept hs _ (hm.sub rfl))) (recoveryEnd_kept hs _ (hm.sub rfl))))

theorem zeroise_kept {μ : Nat} {s₀ : State} {s : State} (hs : Kept μ s₀ s)
    (hm : Within 0xc8010000c80100240060 μ) :
    Kept μ s₀ (zeroise s) := by
  unfold zeroise
  (try dsimp only)
  split
  · exact (zeroisation_kept hs (hm.sub rfl))
  · exact (Kept.ite (zeroisation_kept hs (hm.sub rfl)) (recoveryKeysEnd_kept (zeroisation_kept hs (hm.sub rfl)) _ (hm.sub rfl)))

theorem execZeroisation_kept {μ : Nat} {s₀ : State} {s : State} (hs : Kept μ s₀ s)
    (hm : Within 0xc8010000c80100240060 μ) :
    KeptN μ s₀ (execZeroisation s) := by
  unfold execZeroisation; exact (KeptN.next (Kept.live hs (fun _ h => zeroise_kept h (hm.sub rfl))))

theorem mailboxComplete_kept {μ : Nat} {s₀ : State} {s : State} (hs : Kept μ s₀ s) (blk : Nat)
    (hb1 : Within (blkBits blk) μ)
    (hm : Within 0xc9610003cb610174076d μ) :
    Kept μ s₀ (mailboxComplete s blk) := by
  unfold mailboxComplete
  exact (Kept.ite (by (try dsimp only); split; (· exact hs); (· exact (Kept.ite (keysEnd_kept hs (hm.sub rfl)) (recoveryKeysEnd_kept (keysEnd_kept hs (hm.sub rfl)) _ (hm.sub rfl))))) (Kept.ite (bootEnd_kept hs (hm.sub rfl)) (State_mbxEnd_kept hs _ (by exact hb1) (hm.sub rfl))))

theorem execMailboxComplete_kept {μ : Nat} {s₀ : State} {s : State} (hs : Kept μ s₀ s) (blk : Nat)
    (hb1 : Within (blkBits blk) μ)
    (hm : Within 0xc9610003cb610174076d μ) :
    KeptN μ s₀ (execMailboxComplete blk s) := by
  unfold execMailboxComplete; exact (KeptN.next (Kept.live hs (fun _ hz0 => (mailboxComplete_kept hz0 _ (by exact hb1) (hm.sub rfl)))))

end Sys2Proof.Machine
end

