-- ==== Sys2Proof/Laws/KeptPaging.lean ====
section
/-! SUPPORT. Each function of Machine/Paging.lean keeps what `Kept` says. -/

set_option Elab.async false

namespace Sys2Proof.Machine

theorem walkLevels_kept {μ : Nat} {s₀ : State} {a6 : State} (ha6 : Kept μ s₀ a6) (rd : State → Nat → PteRes × State) (krd : ∀ t x0, Kept μ s₀ t → Kept μ s₀ (rd t x0).2) (leaf : Nat → Bool) (va : Nat) (a4 : Nat) (a5 : Bool) (a7 : Nat) :
    Kept μ s₀ (walkLevels rd leaf va a4 a5 a6 a7).2 := by
  induction a4 generalizing a5 a6 a7 with
  | zero => exact ha6
  | succ l ih =>
    have h := krd _ (a7 + va / 2 ^ (12 + 9 * l) % 2 ^ (if a5 then 11 else 9) * 8) ha6
    unfold walkLevels; dsimp only
    split <;> rename_i e <;> rw [e] at h
    · exact h
    · exact h
    · split
      · exact h
      · exact ih h _ _

theorem walk_kept {μ : Nat} {s₀ : State} {s : State} (hs : Kept μ s₀ s) (rd : State → Nat → PteRes × State) (krd : ∀ t x0, Kept μ s₀ t → Kept μ s₀ (rd t x0).2) (leaf : Nat → Bool) (c : PageCfg) (root : Nat) (va : Nat) :
    Kept μ s₀ (walk rd leaf c root va s).2 := by
  unfold walk; exact (Kept.ite2 (walkLevels_kept hs _ krd _ _ _ _ _) hs)

theorem readPte_kept {μ : Nat} {s₀ : State} {s : State} (hs : Kept μ s₀ s) (init : Nat) (tag : Nat) (pa : Nat)
    (hm : Within 0x496100004b6101000760 μ) :
    Kept μ s₀ (readPte init tag s pa).2 := by
  unfold readPte
  (try dsimp only)
  split
  · exact (Kept.of_pair ‹_› (dmaRead_kept hs _ _ _ _ (hm.sub rfl)))
  · exact (Kept.of_pair ‹_› (dmaRead_kept hs _ _ _ _ (hm.sub rfl)))

end Sys2Proof.Machine
end

