-- ==== Sys2Proof/Laws/KeptIommu.lean ====
section
/-! SUPPORT. Each function of Machine/Iommu.lean keeps what `Kept` says. -/

set_option Elab.async false

namespace Sys2Proof.Machine

theorem State_setIow_kept {μ : Nat} {s₀ : State} {s : State} (hs : Kept μ s₀ s) (off : Nat) (v : Nat)
    (hm : Within 0x400000 μ) :
    Kept μ s₀ (State.setIow s off v) := by
  unfold State.setIow; exact (Kept.upd_400000 hs (hm.sub rfl))

theorem queueCsr_kept {μ : Nat} {s₀ : State} {s : State} (hs : Kept μ s₀ s) (csr : Nat) (idx : Nat) (w1c : Nat) (v : Nat)
    (hm : Within 0x400000 μ) :
    Kept μ s₀ (queueCsr s csr idx w1c v) := by
  unfold queueCsr
  exact (Kept.ite (State_setIow_kept (State_setIow_kept hs _ _ (hm.sub rfl)) _ _ (hm.sub rfl)) (State_setIow_kept hs _ _ (hm.sub rfl)))

theorem iommuWrite_kept {μ : Nat} {s₀ : State} {s : State} (hs : Kept μ s₀ s) (off : Nat) (v : Nat)
    (hm : Within 0x400000 μ) :
    Kept μ s₀ (iommuWrite s off v) := by
  unfold iommuWrite
  exact (Kept.ite (State_setIow_kept hs _ _ (hm.sub rfl)) (Kept.ite (State_setIow_kept hs _ _ (hm.sub rfl)) (Kept.ite (State_setIow_kept hs _ _ (hm.sub rfl)) (Kept.ite (State_setIow_kept hs _ _ (hm.sub rfl)) (Kept.ite (State_setIow_kept hs _ _ (hm.sub rfl)) (Kept.ite (queueCsr_kept hs _ _ _ _ (hm.sub rfl)) (Kept.ite (queueCsr_kept hs _ _ _ _ (hm.sub rfl)) (Kept.ite (State_setIow_kept hs _ _ (hm.sub rfl)) (Kept.ite (State_setIow_kept hs _ _ (hm.sub rfl)) (Kept.ite (State_setIow_kept hs _ _ (hm.sub rfl)) hs))))))))))

theorem State_orIow_kept {μ : Nat} {s₀ : State} {s : State} (hs : Kept μ s₀ s) (off : Nat) (m : Nat)
    (hm : Within 0x400000 μ) :
    Kept μ s₀ (State.orIow s off m) := by
  unfold State.orIow; exact (State_setIow_kept hs _ _ (hm.sub rfl))

theorem ioReport_kept {μ : Nat} {s₀ : State} {s : State} (hs : Kept μ s₀ s) (f : IoFault)
    (hm : Within 0x49410000cb4100400768 μ) :
    Kept μ s₀ (ioReport s f) := by
  unfold ioReport
  exact (Kept.ite hs (Kept.ite (Kept.ite (State_orIow_kept (State_orIow_kept hs _ _ (hm.sub rfl)) _ _ (hm.sub rfl)) (State_orIow_kept hs _ _ (hm.sub rfl))) (by (try dsimp only); split; (· exact (Kept.ite (State_orIow_kept (State_setIow_kept (Kept.of_pair ‹_› (dmaWrite_kept hs _ _ _ _ (hm.sub rfl))) _ _ (hm.sub rfl)) _ _ (hm.sub rfl)) (State_setIow_kept (Kept.of_pair ‹_› (dmaWrite_kept hs _ _ _ _ (hm.sub rfl))) _ _ (hm.sub rfl)))); (· exact (Kept.ite (State_orIow_kept (State_orIow_kept (Kept.of_pair ‹_› (dmaWrite_kept hs _ _ _ _ (hm.sub rfl))) _ _ (hm.sub rfl)) _ _ (hm.sub rfl)) (State_orIow_kept (Kept.of_pair ‹_› (dmaWrite_kept hs _ _ _ _ (hm.sub rfl))) _ _ (hm.sub rfl)))))))

theorem ioContext_kept {μ : Nat} {s₀ : State} {s : State} (hs : Kept μ s₀ s) (dev : Nat)
    (hm : Within 0x496100004b6101000760 μ) :
    Kept μ s₀ (ioContext s dev).2 := by
  unfold ioContext
  (try dsimp only)
  split
  · exact (Kept.of_pair ‹_› (dmaRead_kept hs _ _ _ _ (hm.sub rfl)))
  · exact (Kept.of_pair ‹_› (dmaRead_kept hs _ _ _ _ (hm.sub rfl)))

theorem ioGstage_kept {μ : Nat} {s₀ : State} {s : State} (hs : Kept μ s₀ s) (gatp : Nat) (k : AccKind) (gpa : Nat)
    (hm : Within 0x496100004b6101000760 μ) :
    Kept μ s₀ (ioGstage gatp k gpa s).2 := by
  unfold ioGstage; (try dsimp only); split; (· exact hs); (· exact (walk_kept hs _ (fun _ _ h => readPte_kept h _ _ _ (hm.sub rfl)) _ _ _ _))

theorem ioPte_kept {μ : Nat} {s₀ : State} {s : State} (hs : Kept μ s₀ s) (gatp : Nat) (gpa : Nat)
    (hm : Within 0x496100004b6101000760 μ) :
    Kept μ s₀ (ioPte gatp s gpa).2 := by
  unfold ioPte
  (try dsimp only)
  split
  · exact (readPte_kept (Kept.of_pair ‹_› (ioGstage_kept hs _ _ _ (hm.sub rfl))) _ _ _ (hm.sub rfl))
  · exact (Kept.of_pair ‹_› (ioGstage_kept hs _ _ _ (hm.sub rfl)))
  · exact (Kept.of_pair ‹_› (ioGstage_kept hs _ _ _ (hm.sub rfl)))

theorem ioStages_kept {μ : Nat} {s₀ : State} {s : State} (hs : Kept μ s₀ s) (gatp : Nat) (fsc : Nat) (write : Bool) (iova : Nat)
    (hm : Within 0x496100004b6101000760 μ) :
    Kept μ s₀ (ioStages gatp fsc write iova s).2 := by
  unfold ioStages
  (try dsimp only)
  split
  · exact (Kept.of_pair ‹_› (by (try dsimp only); split; (· exact hs); (· exact (walk_kept hs _ (fun _ _ h => ioPte_kept h _ _ (hm.sub rfl)) _ _ _ _))))
  · exact (Kept.of_pair ‹_› (by (try dsimp only); split; (· exact hs); (· exact (walk_kept hs _ (fun _ _ h => ioPte_kept h _ _ (hm.sub rfl)) _ _ _ _))))
  · exact (Kept.of_pair ‹_› (by (try dsimp only); split; (· exact hs); (· exact (walk_kept hs _ (fun _ _ h => ioPte_kept h _ _ (hm.sub rfl)) _ _ _ _))))
  · exact (by (try dsimp only); split; (· exact (Kept.of_pair ‹_› (ioGstage_kept (Kept.of_pair ‹_› (by (try dsimp only); split; (· exact hs); (· exact (walk_kept hs _ (fun _ _ h => ioPte_kept h _ _ (hm.sub rfl)) _ _ _ _)))) _ _ _ (hm.sub rfl)))); (· exact (Kept.of_pair ‹_› (ioGstage_kept (Kept.of_pair ‹_› (by (try dsimp only); split; (· exact hs); (· exact (walk_kept hs _ (fun _ _ h => ioPte_kept h _ _ (hm.sub rfl)) _ _ _ _)))) _ _ _ (hm.sub rfl)))); (· exact (Kept.of_pair ‹_› (ioGstage_kept (Kept.of_pair ‹_› (by (try dsimp only); split; (· exact hs); (· exact (walk_kept hs _ (fun _ _ h => ioPte_kept h _ _ (hm.sub rfl)) _ _ _ _)))) _ _ _ (hm.sub rfl)))))

theorem ioTranslate_kept {μ : Nat} {s₀ : State} {s : State} (hs : Kept μ s₀ s) (dev : Nat) (write : Bool) (iova : Nat)
    (hm : Within 0x496100004b6101000760 μ) :
    Kept μ s₀ (ioTranslate s dev write iova).2 := by
  unfold ioTranslate
  exact (Kept.ite2 hs (Kept.ite2 hs (by (try dsimp only); split; (· exact (Kept.of_pair ‹_› (ioContext_kept hs _ (hm.sub rfl)))); (· exact (Kept.ite2 (Kept.of_pair ‹_› (ioContext_kept hs _ (hm.sub rfl))) (Kept.ite2 (Kept.of_pair ‹_› (ioContext_kept hs _ (hm.sub rfl))) (ioStages_kept (Kept.of_pair ‹_› (ioContext_kept hs _ (hm.sub rfl))) _ _ _ _ (hm.sub rfl))))))))

theorem ioAccess_kept {μ : Nat} {s₀ : State} {s : State} (hs : Kept μ s₀ s) (dev : Nat) (write : Bool) (iova : Nat)
    (hm : Within 0x49610000cb6101400768 μ) :
    Kept μ s₀ (ioAccess s dev write iova).2 := by
  unfold ioAccess
  (try dsimp only)
  split
  · exact (Kept.of_pair ‹_› (ioTranslate_kept hs _ _ _ (hm.sub rfl)))
  · exact (ioReport_kept (Kept.of_pair ‹_› (ioTranslate_kept hs _ _ _ (hm.sub rfl))) _ (hm.sub rfl))

theorem cmdStop_kept {μ : Nat} {s₀ : State} {s : State} (hs : Kept μ s₀ s) (bit : Nat)
    (hm : Within 0x400000 μ) :
    Kept μ s₀ (cmdStop s bit) := by
  unfold cmdStop; exact (Kept.ite (State_orIow_kept (State_orIow_kept hs _ _ (hm.sub rfl)) _ _ (hm.sub rfl)) (State_orIow_kept hs _ _ (hm.sub rfl)))

theorem cmdNext_kept {μ : Nat} {s₀ : State} {s : State} (hs : Kept μ s₀ s)
    (hm : Within 0x400000 μ) :
    Kept μ s₀ (cmdNext s) := by
  unfold cmdNext; exact (State_setIow_kept hs _ _ (hm.sub rfl))

theorem iommuRun_kept {μ : Nat} {s₀ : State} {s : State} (hs : Kept μ s₀ s) (w0 : Nat) (w1 : Nat)
    (hm : Within 0x49410000cb4100400768 μ) :
    Kept μ s₀ (iommuRun s w0 w1) := by
  unfold iommuRun
  exact (Kept.ite (cmdNext_kept hs (hm.sub rfl)) (Kept.ite (cmdNext_kept hs (hm.sub rfl)) (Kept.ite (Kept.ite (by (try dsimp only); split; (· exact (cmdNext_kept (Kept.of_pair ‹_› (dmaWrite_kept hs _ _ _ _ (hm.sub rfl))) (hm.sub rfl))); (· exact (cmdStop_kept (Kept.of_pair ‹_› (dmaWrite_kept hs _ _ _ _ (hm.sub rfl))) _ (hm.sub rfl)))) (cmdNext_kept hs (hm.sub rfl))) (cmdStop_kept hs _ (hm.sub rfl)))))

theorem iommuCommand_kept {μ : Nat} {s₀ : State} {s : State} (hs : Kept μ s₀ s)
    (hm : Within 0x49610000cb6101400768 μ) :
    Kept μ s₀ (iommuCommand s) := by
  unfold iommuCommand
  exact (Kept.ite hs (by (try dsimp only); split; (· exact (cmdStop_kept (Kept.of_pair ‹_› (dmaRead_kept hs _ _ _ _ (hm.sub rfl))) _ (hm.sub rfl))); (· exact (iommuRun_kept (Kept.of_pair ‹_› (dmaRead_kept hs _ _ _ _ (hm.sub rfl))) _ _ (hm.sub rfl)))))

theorem execIommuCommand_kept {μ : Nat} {s₀ : State} {s : State} (hs : Kept μ s₀ s)
    (hm : Within 0x49610000cb6101400768 μ) :
    KeptN μ s₀ (execIommuCommand s) := by
  unfold execIommuCommand; exact (KeptN.next (Kept.live hs (fun _ h => iommuCommand_kept h (hm.sub rfl))))

end Sys2Proof.Machine
end

