-- ==== Sys2Proof/Laws/KeptCpuPort.lean ====
section
/-! SUPPORT. Each function of Machine/CpuPort.lean keeps what `Kept` says. -/

set_option Elab.async false

namespace Sys2Proof.Machine

theorem ringRead_kept {μ : Nat} {s₀ : State} {a3 : State} (ha3 : Kept μ s₀ a3) (p : Nat) (a2 : Nat) (a4 : Nat) (a5 : Nat)
    (hm : Within 0x49610000cb6101400768 μ) :
    Kept μ s₀ (ringRead p a2 a3 a4 a5).2 := by
  unfold ringRead
  (try dsimp only)
  split
  · exact ha3
  · exact (Kept.ite2 ha3 (by (try dsimp only); split; (· exact (Kept.of_pair ‹_› (ioAccess_kept ha3 _ _ _ (hm.sub rfl)))); (· exact (by (try dsimp only); split; (· exact (Kept.of_pair ‹_› (dmaRead_kept (Kept.of_pair ‹_› (ioAccess_kept ha3 _ _ _ (hm.sub rfl))) _ _ _ _ (hm.sub rfl)))); (· exact (by (try dsimp only); split; (· exact (Kept.of_pair ‹_› (ringRead_kept (Kept.of_pair ‹_› (dmaRead_kept (Kept.of_pair ‹_› (ioAccess_kept ha3 _ _ _ (hm.sub rfl))) _ _ _ _ (hm.sub rfl))) _ _ _ _ hm))); (· exact (Kept.of_pair ‹_› (ringRead_kept (Kept.of_pair ‹_› (dmaRead_kept (Kept.of_pair ‹_› (ioAccess_kept ha3 _ _ _ (hm.sub rfl))) _ _ _ _ (hm.sub rfl))) _ _ _ _ hm)))))))))

theorem ringPut_kept {μ : Nat} {s₀ : State} {a3 : State} (ha3 : Kept μ s₀ a3) (p : Nat) (a2 : Nat) (a4 : Nat) (a5 : List Nat)
    (hm : Within 0x49610000cb6101400768 μ) :
    Kept μ s₀ (ringPut p a2 a3 a4 a5).2 := by
  unfold ringPut
  (try dsimp only)
  split
  · exact ha3
  · exact (Kept.ite2 ha3 (by (try dsimp only); split; (· exact (Kept.of_pair ‹_› (ioAccess_kept ha3 _ _ _ (hm.sub rfl)))); (· exact (by (try dsimp only); split; (· exact (Kept.of_pair ‹_› (dmaWrite_kept (Kept.of_pair ‹_› (ioAccess_kept ha3 _ _ _ (hm.sub rfl))) _ _ _ _ (hm.sub rfl)))); (· exact (ringPut_kept (Kept.of_pair ‹_› (dmaWrite_kept (Kept.of_pair ‹_› (ioAccess_kept ha3 _ _ _ (hm.sub rfl))) _ _ _ _ (hm.sub rfl))) _ _ _ _ hm))))))

theorem rxFull_kept {μ : Nat} {s₀ : State} {s : State} (hs : Kept μ s₀ s) (p : Nat)
    (hm : Within 0x60010000600100000040 μ) :
    Kept μ s₀ (rxFull s p) := by
  unfold rxFull; exact (State_setFlt_kept (State_setFlag_kept (State_count_kept hs _ _ (hm.sub rfl)) _ _ _ (hm.sub rfl)) _ (hm.sub rfl) (hm.sub rfl))

theorem rxDeliver_kept {μ : Nat} {s₀ : State} {s : State} (hs : Kept μ s₀ s) (p : Nat) (x : SwCopy)
    (hm : Within 0x69610000eb6101400768 μ) :
    Kept μ s₀ (rxDeliver s p x) := by
  unfold rxDeliver
  (try dsimp only)
  split
  · exact (Kept.of_pair ‹_› (ringRead_kept hs _ _ _ _ (hm.sub rfl)))
  · exact (Kept.ite (rxFull_kept (Kept.of_pair ‹_› (ringRead_kept hs _ _ _ _ (hm.sub rfl))) _ (hm.sub rfl)) (by (try dsimp only); split; (· exact (Kept.of_pair ‹_› (ringPut_kept (Kept.of_pair ‹_› (ringRead_kept hs _ _ _ _ (hm.sub rfl))) _ _ _ _ (hm.sub rfl)))); (· exact (by (try dsimp only); split; (· exact (Kept.of_pair ‹_› (ringPut_kept (Kept.of_pair ‹_› (ringPut_kept (Kept.of_pair ‹_› (ringRead_kept hs _ _ _ _ (hm.sub rfl))) _ _ _ _ (hm.sub rfl))) _ _ _ _ (hm.sub rfl)))); (· exact (Kept.ite (State_raiseIdent_kept (State_count_kept (Kept.setFld (Kept.of_pair ‹_› (ringPut_kept (Kept.of_pair ‹_› (ringPut_kept (Kept.of_pair ‹_› (ringRead_kept hs _ _ _ _ (hm.sub rfl))) _ _ _ _ (hm.sub rfl))) _ _ _ _ (hm.sub rfl))) _ _ _ (hm.sub rfl)) _ _ (hm.sub rfl)) _ _ (hm.sub rfl)) (State_count_kept (Kept.setFld (Kept.of_pair ‹_› (ringPut_kept (Kept.of_pair ‹_› (ringPut_kept (Kept.of_pair ‹_› (ringRead_kept hs _ _ _ _ (hm.sub rfl))) _ _ _ _ (hm.sub rfl))) _ _ _ _ (hm.sub rfl))) _ _ _ (hm.sub rfl)) _ _ (hm.sub rfl))))))))

theorem cpuRxDeliver_kept {μ : Nat} {s₀ : State} {s : State} (hs : Kept μ s₀ s)
    (hm : Within 0x69610000eb6101408768 μ) :
    Kept μ s₀ (cpuRxDeliver s) := by
  unfold cpuRxDeliver
  (try dsimp only)
  split
  · exact hs
  · exact (Kept.ite (State_count_kept (Kept.upd_8000 hs (hm.sub rfl)) _ _ (hm.sub rfl)) (Kept.ite (rxFull_kept (Kept.upd_8000 hs (hm.sub rfl)) _ (hm.sub rfl)) (rxDeliver_kept (Kept.upd_8000 hs (hm.sub rfl)) _ _ (hm.sub rfl))))

theorem execCpuRxDeliver_kept {μ : Nat} {s₀ : State} {s : State} (hs : Kept μ s₀ s)
    (hm : Within 0x69610000eb6101408768 μ) :
    KeptN μ s₀ (execCpuRxDeliver s) := by
  unfold execCpuRxDeliver; exact (KeptN.next (Kept.live hs (fun _ h => cpuRxDeliver_kept h (hm.sub rfl))))

theorem txRefuse_kept {μ : Nat} {s₀ : State} {s : State} (hs : Kept μ s₀ s) (p : Nat) (status : Nat)
    (hm : Within 0x60010000600100000040 μ) :
    Kept μ s₀ (txRefuse s p status).2 := by
  unfold txRefuse
  exact (Kept.ite (State_setFlag_kept (State_count_kept (State_setFlt_kept (State_setFlag_kept (State_count_kept hs _ _ (hm.sub rfl)) _ _ _ (hm.sub rfl)) _ (hm.sub rfl) (hm.sub rfl)) _ _ (hm.sub rfl)) _ _ _ (hm.sub rfl)) (State_setFlt_kept (State_setFlag_kept (State_count_kept hs _ _ (hm.sub rfl)) _ _ _ (hm.sub rfl)) _ (hm.sub rfl) (hm.sub rfl)))

theorem txRaw_kept {μ : Nat} {s₀ : State} {s : State} (hs : Kept μ s₀ s) (f : Frame) (port : Nat) (cls : Nat) (pcp : Nat)
    (hm : Within 0x60010000600100008040 μ) :
    Kept μ s₀ (txRaw s f port cls pcp).2 := by
  unfold txRaw
  exact (Kept.ite2 hs (by (try dsimp only); split; (· exact (State_count_kept (Kept.of_pair ‹_› (queueCopy_kept (State_count_kept hs _ _ (hm.sub rfl)) _ _ (hm.sub rfl))) _ _ (hm.sub rfl))); (· exact (State_count_kept (Kept.of_pair ‹_› (queueCopy_kept (State_count_kept hs _ _ (hm.sub rfl)) _ _ (hm.sub rfl))) _ _ (hm.sub rfl)))))

theorem txFrame_kept {μ : Nat} {s₀ : State} {s : State} (hs : Kept μ s₀ s) (p : Nat) (t2 : Nat) (l : List Nat)
    (hm : Within 0x60010000600100008040 μ) :
    Kept μ s₀ (txFrame s p t2 l).2 := by
  unfold txFrame
  exact (Kept.ite2 (txRefuse_kept hs _ _ (hm.sub rfl)) (Kept.ite2 (txRefuse_kept hs _ _ (hm.sub rfl)) (Kept.ite2 (txRefuse_kept hs _ _ (hm.sub rfl)) (Kept.ite2 (txRefuse_kept hs _ _ (hm.sub rfl)) (Kept.ite2 (txRaw_kept hs _ _ _ _ (hm.sub rfl)) (by (try dsimp only); split; (· exact (Kept.of_pair ‹_› (swcAdmit_kept hs _ _ _ _ _ (hm.sub rfl)))); (· exact (Kept.of_pair ‹_› (swcAdmit_kept hs _ _ _ _ _ (hm.sub rfl))))))))))

theorem txOne_kept {μ : Nat} {s₀ : State} {s : State} (hs : Kept μ s₀ s) (p : Nat)
    (hm : Within 0x69610000eb6101408768 μ) :
    Kept μ s₀ (txOne s p) := by
  unfold txOne
  exact (Kept.ite (State_raiseIdent_kept (Kept.ite (State_count_kept (Kept.setFld (ringPut_kept (by (try dsimp only); split; (· exact (Kept.of_pair ‹_› (ringRead_kept hs _ _ _ _ (hm.sub rfl)))); (· exact (Kept.ite2 (txRefuse_kept (Kept.of_pair ‹_› (ringRead_kept hs _ _ _ _ (hm.sub rfl))) _ _ (hm.sub rfl)) (by (try dsimp only); split; (· exact (Kept.of_pair ‹_› (ringRead_kept (Kept.of_pair ‹_› (ringRead_kept hs _ _ _ _ (hm.sub rfl))) _ _ _ _ (hm.sub rfl)))); (· exact (txFrame_kept (Kept.of_pair ‹_› (ringRead_kept (Kept.of_pair ‹_› (ringRead_kept hs _ _ _ _ (hm.sub rfl))) _ _ _ _ (hm.sub rfl))) _ _ _ (hm.sub rfl))))))) _ _ _ _ (hm.sub rfl)) _ _ _ (hm.sub rfl)) _ _ (hm.sub rfl)) (Kept.setFld (ringPut_kept (by (try dsimp only); split; (· exact (Kept.of_pair ‹_› (ringRead_kept hs _ _ _ _ (hm.sub rfl)))); (· exact (Kept.ite2 (txRefuse_kept (Kept.of_pair ‹_› (ringRead_kept hs _ _ _ _ (hm.sub rfl))) _ _ (hm.sub rfl)) (by (try dsimp only); split; (· exact (Kept.of_pair ‹_› (ringRead_kept (Kept.of_pair ‹_› (ringRead_kept hs _ _ _ _ (hm.sub rfl))) _ _ _ _ (hm.sub rfl)))); (· exact (txFrame_kept (Kept.of_pair ‹_› (ringRead_kept (Kept.of_pair ‹_› (ringRead_kept hs _ _ _ _ (hm.sub rfl))) _ _ _ _ (hm.sub rfl))) _ _ _ (hm.sub rfl))))))) _ _ _ _ (hm.sub rfl)) _ _ _ (hm.sub rfl))) _ _ (hm.sub rfl)) (Kept.ite (State_count_kept (Kept.setFld (ringPut_kept (by (try dsimp only); split; (· exact (Kept.of_pair ‹_› (ringRead_kept hs _ _ _ _ (hm.sub rfl)))); (· exact (Kept.ite2 (txRefuse_kept (Kept.of_pair ‹_› (ringRead_kept hs _ _ _ _ (hm.sub rfl))) _ _ (hm.sub rfl)) (by (try dsimp only); split; (· exact (Kept.of_pair ‹_› (ringRead_kept (Kept.of_pair ‹_› (ringRead_kept hs _ _ _ _ (hm.sub rfl))) _ _ _ _ (hm.sub rfl)))); (· exact (txFrame_kept (Kept.of_pair ‹_› (ringRead_kept (Kept.of_pair ‹_› (ringRead_kept hs _ _ _ _ (hm.sub rfl))) _ _ _ _ (hm.sub rfl))) _ _ _ (hm.sub rfl))))))) _ _ _ _ (hm.sub rfl)) _ _ _ (hm.sub rfl)) _ _ (hm.sub rfl)) (Kept.setFld (ringPut_kept (by (try dsimp only); split; (· exact (Kept.of_pair ‹_› (ringRead_kept hs _ _ _ _ (hm.sub rfl)))); (· exact (Kept.ite2 (txRefuse_kept (Kept.of_pair ‹_› (ringRead_kept hs _ _ _ _ (hm.sub rfl))) _ _ (hm.sub rfl)) (by (try dsimp only); split; (· exact (Kept.of_pair ‹_› (ringRead_kept (Kept.of_pair ‹_› (ringRead_kept hs _ _ _ _ (hm.sub rfl))) _ _ _ _ (hm.sub rfl)))); (· exact (txFrame_kept (Kept.of_pair ‹_› (ringRead_kept (Kept.of_pair ‹_› (ringRead_kept hs _ _ _ _ (hm.sub rfl))) _ _ _ _ (hm.sub rfl))) _ _ _ (hm.sub rfl))))))) _ _ _ _ (hm.sub rfl)) _ _ _ (hm.sub rfl))))

theorem cpuTxFrame_kept {μ : Nat} {s₀ : State} {s : State} (hs : Kept μ s₀ s)
    (hm : Within 0x69610000eb6101408768 μ) :
    Kept μ s₀ (cpuTxFrame s) := by
  unfold cpuTxFrame; (try dsimp only); split; (· exact (txOne_kept (Kept.upd_8000 hs (hm.sub rfl)) _ (hm.sub rfl))); (· exact hs)

theorem execCpuTxFrame_kept {μ : Nat} {s₀ : State} {s : State} (hs : Kept μ s₀ s)
    (hm : Within 0x69610000eb6101408768 μ) :
    KeptN μ s₀ (execCpuTxFrame s) := by
  unfold execCpuTxFrame; exact (KeptN.next (Kept.live hs (fun _ h => cpuTxFrame_kept h (hm.sub rfl))))

end Sys2Proof.Machine
end

