-- ==== Sys2Proof/Laws/KeptElog.lean ====
section
/-! SUPPORT. Each function of Machine/Elog.lean keeps what `Kept` says. -/

set_option Elab.async false

namespace Sys2Proof.Machine

theorem setElogWord_kept {μ : Nat} {s₀ : State} {s : State} (hs : Kept μ s₀ s) (slot : Nat) (w : Nat) (v : Nat)
    (hm : Within 0x20 μ) :
    Kept μ s₀ (setElogWord s slot w v) := by
  unfold setElogWord; exact (Kept.upd_20 hs (hm.sub rfl))

theorem elogTick_kept {μ : Nat} {s₀ : State} {s : State} (hs : Kept μ s₀ s)
    (hm : Within 0x20 μ) :
    Kept μ s₀ (elogTick s) := by
  unfold elogTick
  (try dsimp only)
  split
  · exact hs
  · exact (by (try dsimp only); split; (· exact (Kept.upd_20 hs (hm.sub rfl))); (· exact (Kept.upd_20 (setElogWord_kept hs _ _ _ (hm.sub rfl)) (hm.sub rfl))))

theorem startRecord_kept {μ : Nat} {s₀ : State} {s : State} (hs : Kept μ s₀ s) (e : Event)
    (hm : Within 0x8000000080000000020 μ) :
    Kept μ s₀ (startRecord s e) := by
  unfold startRecord
  exact (State_count_kept (Kept.setFld (Kept.setFld (Kept.upd_20 (setElogWord_kept hs _ _ _ (hm.sub rfl)) (hm.sub rfl)) _ _ _ (hm.sub rfl)) _ _ _ (hm.sub rfl)) _ _ (hm.sub rfl))

theorem fullRecordWrite_kept {μ : Nat} {s₀ : State} {s : State} (hs : Kept μ s₀ s)
    (hm : Within 0x8000000080000000020 μ) :
    Kept μ s₀ (fullRecordWrite s) := by
  unfold fullRecordWrite
  (try dsimp only)
  split
  · exact hs
  · exact (Kept.ite hs (startRecord_kept (Kept.upd_20 hs (hm.sub rfl)) _ (hm.sub rfl)))

theorem headRecordWrite_kept {μ : Nat} {s₀ : State} {s : State} (hs : Kept μ s₀ s)
    (hm : Within 0x8000000080000000020 μ) :
    Kept μ s₀ (headRecordWrite s) := by
  unfold headRecordWrite
  (try dsimp only)
  split
  · exact (fullRecordWrite_kept hs (hm.sub rfl))
  · exact (Kept.ite hs (startRecord_kept (Kept.upd_20 hs (hm.sub rfl)) _ (hm.sub rfl)))

theorem elogRecordWrite_kept {μ : Nat} {s₀ : State} {s : State} (hs : Kept μ s₀ s)
    (hm : Within 0x8000000080000000020 μ) :
    Kept μ s₀ (elogRecordWrite s) := by
  unfold elogRecordWrite
  exact (Kept.ite hs (by (try dsimp only); split; (· exact (headRecordWrite_kept hs (hm.sub rfl))); (· exact (Kept.ite (fullRecordWrite_kept hs (hm.sub rfl)) (Kept.ite (headRecordWrite_kept hs (hm.sub rfl)) (Kept.upd_20 (headRecordWrite_kept hs (hm.sub rfl)) (hm.sub rfl)))))))

theorem execElogRecordWrite_kept {μ : Nat} {s₀ : State} {s : State} (hs : Kept μ s₀ s)
    (hm : Within 0x8000000080000000020 μ) :
    KeptN μ s₀ (execElogRecordWrite s) := by
  unfold execElogRecordWrite; exact (KeptN.next (Kept.live hs (fun _ hz0 => (elogRecordWrite_kept hz0 (hm.sub rfl)))))

theorem refuseFull_kept {μ : Nat} {s₀ : State} {s : State} (hs : Kept μ s₀ s)
    (hm : Within 0x8000000080000000020 μ) :
    Kept μ s₀ (refuseFull s) := by
  unfold refuseFull; exact (Kept.upd_20 (State_count_kept hs _ _ (hm.sub rfl)) (hm.sub rfl))

theorem acceptEvent_kept {μ : Nat} {s₀ : State} {s : State} (hs : Kept μ s₀ s) (e : Event)
    (hm : Within 0x48010000480100000060 μ) :
    Kept μ s₀ (acceptEvent s e) := by
  unfold acceptEvent
  exact (Kept.ite (refuseFull_kept hs (hm.sub rfl)) (Kept.ite (State_setFlt_kept (State_setFlag_kept (refuseFull_kept (Kept.upd_20 hs (hm.sub rfl)) (hm.sub rfl)) _ _ _ (hm.sub rfl)) _ (hm.sub rfl) (hm.sub rfl)) (Kept.ite (State_setFlt_kept (State_count_kept (Kept.upd_20 hs (hm.sub rfl)) _ _ (hm.sub rfl)) _ (hm.sub rfl) (hm.sub rfl)) (Kept.ite (State_count_kept (Kept.upd_20 hs (hm.sub rfl)) _ _ (hm.sub rfl)) (Kept.upd_20 hs (hm.sub rfl))))))

theorem elogEdge_kept {μ : Nat} {s₀ : State} {s : State} (hs : Kept μ s₀ s)
    (hm : Within 0x48010000480100000060 μ) :
    Kept μ s₀ (elogEdge s) := by
  unfold elogEdge; exact (Kept.foldl (Kept.upd_20 hs (hm.sub rfl)) (fun _ _ h => acceptEvent_kept h _ (hm.sub rfl)) _)

theorem swRefused_kept {μ : Nat} {s₀ : State} {s : State} (hs : Kept μ s₀ s) (init : Nat) (tag : Nat)
    (hm : Within 0x48010000480100000060 μ) :
    Kept μ s₀ (swRefused s init tag) := by
  unfold swRefused
  exact (State_busError_kept (State_setFlt_kept (State_count_kept hs _ _ (hm.sub rfl)) _ (hm.sub rfl) (hm.sub rfl)) _ _ _ _ _ (hm.sub rfl))

theorem swCode_kept {μ : Nat} {s₀ : State} {s : State} (hs : Kept μ s₀ s) (init : Nat) (tag : Nat) (code : Nat)
    (hm : Within 0x48010000480100000060 μ) :
    Kept μ s₀ (swCode s init tag code).2 := by
  unfold swCode
  exact (Kept.ite2 (swRefused_kept hs _ _ (hm.sub rfl)) (Kept.ite2 (swRefused_kept (State_offerEvent_kept hs _ (hm.sub rfl)) _ _ (hm.sub rfl)) (State_offerEvent_kept hs _ (hm.sub rfl))))

theorem elogSwCodeWrite_kept {μ : Nat} {s₀ : State} {s : State} (hs : Kept μ s₀ s) (tag : Nat) (code : Nat)
    (hm : Within 0x494100004b4100000360 μ) :
    Kept μ s₀ (elogSwCodeWrite s tag code) := by
  unfold elogSwCodeWrite
  exact (Kept.ite (swCode_kept (bwAdmit_kept hs _ _ _ _ _ (hm.sub rfl)) _ _ _ (hm.sub rfl)) (bwAdmit_kept hs _ _ _ _ _ (hm.sub rfl)))

theorem execElogSwCodeWrite_kept {μ : Nat} {s₀ : State} {s : State} (hs : Kept μ s₀ s) (tag : Nat) (code : Nat)
    (hm : Within 0x494100004b4100000360 μ) :
    KeptN μ s₀ (execElogSwCodeWrite tag code s) := by
  unfold execElogSwCodeWrite; exact (KeptN.next (Kept.live hs (fun _ hz0 => (elogSwCodeWrite_kept hz0 _ _ (hm.sub rfl)))))

theorem elogRdIdx_kept {μ : Nat} {s₀ : State} {s : State} (hs : Kept μ s₀ s) (v : Nat)
    (hm : Within 0x80000000000 μ) :
    Kept μ s₀ (elogRdIdx s v) := by
  unfold elogRdIdx; exact (State_setFlag_kept (Kept.setFld hs _ _ _ (hm.sub rfl)) _ _ _ (hm.sub rfl))

theorem execElogRdIdxWrite_kept {μ : Nat} {s₀ : State} {s : State} (hs : Kept μ s₀ s) (v : Nat)
    (hm : Within 0x80000000000 μ) :
    KeptN μ s₀ (execElogRdIdxWrite v s) := by
  unfold execElogRdIdxWrite; exact (KeptN.next (Kept.live hs (fun _ hz0 => (elogRdIdx_kept hz0 _ (hm.sub rfl)))))

theorem readElog_kept {μ : Nat} {s₀ : State} {s : State} (hs : Kept μ s₀ s) (slot : Nat) (w : Nat)
    (hm : Within 0x48010000480100000040 μ) :
    Kept μ s₀ (readElog s slot w).2 := by
  unfold readElog
  exact (Kept.ite2 (State_setFlt_kept (State_count_kept hs _ _ (hm.sub rfl)) _ (hm.sub rfl) (hm.sub rfl)) (Kept.ite (State_count_kept hs _ _ (hm.sub rfl)) hs))

theorem elogRd_kept {μ : Nat} {s₀ : State} {s : State} (hs : Kept μ s₀ s) (w : Nat)
    (hm : Within 0x48010000480100000040 μ) :
    Kept μ s₀ (elogRd s w).2 := by
  unfold elogRd; exact (Kept.ite (State_setFlag_kept (readElog_kept hs _ _ (hm.sub rfl)) _ _ _ (hm.sub rfl)) (readElog_kept hs _ _ (hm.sub rfl)))

theorem elogClear_kept {μ : Nat} {s₀ : State} {s : State} (hs : Kept μ s₀ s)
    (hm : Within 0x40010000480100000060 μ) :
    Kept μ s₀ (elogClear s) := by
  unfold elogClear
  exact (Kept.ite (State_setFlt_kept hs _ (hm.sub rfl) (hm.sub rfl)) (State_setFlag_kept (Kept.upd_20 hs (hm.sub rfl)) _ _ _ (hm.sub rfl)))

theorem execClear_kept {μ : Nat} {s₀ : State} {s : State} (hs : Kept μ s₀ s)
    (hm : Within 0x40010000480100000060 μ) :
    KeptN μ s₀ (execClear s) := by
  unfold execClear; exact (KeptN.next (Kept.live hs (fun _ hz0 => (elogClear_kept hz0 (hm.sub rfl)))))

theorem elogClearDone_kept {μ : Nat} {s₀ : State} {s : State} (hs : Kept μ s₀ s)
    (hm : Within 0x8000000080001000020 μ) :
    Kept μ s₀ (elogClearDone s) := by
  unfold elogClearDone
  (try dsimp only)
  split
  · exact hs
  · exact (Kept.ite hs (startRecord_kept (State_count_kept (State_setFlag_kept (State_setFlag_kept (Kept.setFld (Kept.upd_20 (Kept.ite2 (State_takeFree_kept hs (hm.sub rfl)) hs) (hm.sub rfl)) _ _ _ (hm.sub rfl)) _ _ _ (hm.sub rfl)) _ _ _ (hm.sub rfl)) _ _ (hm.sub rfl)) _ (hm.sub rfl)))

theorem execElogClearDone_kept {μ : Nat} {s₀ : State} {s : State} (hs : Kept μ s₀ s)
    (hm : Within 0x8000000080001000020 μ) :
    KeptN μ s₀ (execElogClearDone s) := by
  unfold execElogClearDone; exact (KeptN.next (Kept.live hs (fun _ hz0 => (elogClearDone_kept hz0 (hm.sub rfl)))))

theorem elogExport_kept {μ : Nat} {s₀ : State} {s : State} (hs : Kept μ s₀ s)
    (hm : Within 0x40010000480100000060 μ) :
    Kept μ s₀ (elogExport s) := by
  unfold elogExport
  exact (Kept.ite (State_setFlt_kept hs _ (hm.sub rfl) (hm.sub rfl)) (State_setFlag_kept (Kept.upd_20 hs (hm.sub rfl)) _ _ _ (hm.sub rfl)))

theorem execExportLog_kept {μ : Nat} {s₀ : State} {s : State} (hs : Kept μ s₀ s)
    (hm : Within 0x40010000480100000060 μ) :
    KeptN μ s₀ (execExportLog s) := by
  unfold execExportLog; exact (KeptN.next (Kept.live hs (fun _ hz0 => (elogExport_kept hz0 (hm.sub rfl)))))

theorem exportSlot_kept {μ : Nat} {s₀ : State} {s : State} (hs : Kept μ s₀ s) (slot : Nat) (addr : Nat)
    (hm : Within 0x49410000cb4100400768 μ) :
    Kept μ s₀ (exportSlot s slot addr).2 := by
  unfold exportSlot
  generalize hp : List.foldl _ ([], s) (List.range 8) = p
  have h : Kept μ s₀ p.2 := by
    rw [← hp]; exact Kept.foldl_pair (p := ([], s)) hs (fun _ _ h => by dsimp only; exact readElog_kept h _ _ (hm.sub rfl)) _
  obtain ⟨l, t⟩ := p
  exact dmaWrite_kept h _ _ _ _ (hm.sub rfl)

theorem exportSlots_kept {μ : Nat} {s₀ : State} {s : State} (hs : Kept μ s₀ s) (slot : Nat) (addr : Nat) (a4 : Nat)
    (hm : Within 0x49410000cb4100400768 μ) :
    Kept μ s₀ (exportSlots s slot addr a4).2 := by
  induction a4 generalizing s slot addr with
  | zero => exact hs
  | succ n ih =>
    have h := exportSlot_kept hs slot addr (hm.sub rfl)
    unfold exportSlots
    generalize exportSlot s slot addr = p at h ⊢
    obtain ⟨ok, t⟩ := p
    dsimp only; split
    · exact ih h _ _
    · exact h

theorem elogExportDone_kept {μ : Nat} {s₀ : State} {s : State} (hs : Kept μ s₀ s)
    (hm : Within 0x49410000cb4100400768 μ) :
    Kept μ s₀ (elogExportDone s) := by
  unfold elogExportDone
  (try dsimp only)
  split
  · exact hs
  · exact (Kept.ite (State_count_kept (State_setFlag_kept (Kept.upd_20 (exportSlots_kept hs _ _ _ (hm.sub rfl)) (hm.sub rfl)) _ _ _ (hm.sub rfl)) _ _ (hm.sub rfl)) (State_setFlt_kept (State_setFlag_kept (Kept.upd_20 (exportSlots_kept hs _ _ _ (hm.sub rfl)) (hm.sub rfl)) _ _ _ (hm.sub rfl)) _ (hm.sub rfl) (hm.sub rfl)))

theorem execElogExportDone_kept {μ : Nat} {s₀ : State} {s : State} (hs : Kept μ s₀ s)
    (hm : Within 0x49410000cb4100400768 μ) :
    KeptN μ s₀ (execElogExportDone s) := by
  unfold execElogExportDone; exact (KeptN.next (Kept.live hs (fun _ hz0 => (elogExportDone_kept hz0 (hm.sub rfl)))))

end Sys2Proof.Machine
end

