-- ==== Sys2Proof/Laws/KeptLaneIsa.lean ====
section
/-! SUPPORT. Each function of Machine/LaneIsa.lean keeps what `Kept` says. -/

set_option Elab.async false

namespace Sys2Proof.Machine

theorem partLate_kept {μ : Nat} {s₀ : State} {s : State} (hs : Kept μ s₀ s) (g : Nat) (w : Nat) (p : Nat) (debug : Bool)
    (hm : Within 0x48090000484900000160 μ) :
    Kept μ s₀ (partLate s g w p debug) := by
  unfold partLate
  exact (Kept.ite (State_setFlt_kept (State_setLpart_kept (markOutcome_kept (State_count_kept (State_setFlt_kept (State_setPartBit_kept (Kept.ite hs (State_event_kept hs _ _ _ _ _ _ (hm.sub rfl))) _ _ _ (hm.sub rfl)) _ (hm.sub rfl) (hm.sub rfl)) _ _ (hm.sub rfl)) _ _ (hm.sub rfl)) _ _ (hm.sub rfl)) _ (hm.sub rfl) (hm.sub rfl)) (State_setLpart_kept (markOutcome_kept (State_count_kept (State_setFlt_kept (State_setPartBit_kept (Kept.ite hs (State_event_kept hs _ _ _ _ _ _ (hm.sub rfl))) _ _ _ (hm.sub rfl)) _ (hm.sub rfl) (hm.sub rfl)) _ _ (hm.sub rfl)) _ _ (hm.sub rfl)) _ _ (hm.sub rfl)))

theorem laneLate_kept {μ : Nat} {s₀ : State} {s : State} (hs : Kept μ s₀ s) (n : Nat)
    (hm : Within 0x48090000484900000160 μ) :
    Kept μ s₀ (laneLate s n) := by
  unfold laneLate; exact (laneStop_kept (partLate_kept hs _ _ _ _ (hm.sub rfl)) _ _ (hm.sub rfl))

theorem laneFault_kept {μ : Nat} {s₀ : State} {s : State} (hs : Kept μ s₀ s) (n : Nat) (cause : Nat) (tval : Nat)
    (hm : Within 0x48410000484100000160 μ) :
    Kept μ s₀ (laneFault s n cause tval) := by
  unfold laneFault
  exact (laneStop_kept (markOutcome_kept (State_setLpart_kept (Kept.setFld (Kept.setFld (Kept.setFld (State_count_kept (State_setFlt_kept (State_setPartBit_kept (Kept.ite hs (State_event_kept hs _ _ _ _ _ _ (hm.sub rfl))) _ _ _ (hm.sub rfl)) _ (hm.sub rfl) (hm.sub rfl)) _ _ (hm.sub rfl)) _ _ _ (hm.sub rfl)) _ _ _ (hm.sub rfl)) _ _ _ (hm.sub rfl)) _ _ (hm.sub rfl)) _ _ (hm.sub rfl)) _ _ (hm.sub rfl))

theorem snapWord_kept {μ : Nat} {s₀ : State} {s : State} (hs : Kept μ s₀ s) (w : LaneWin) (off : Nat)
    (hm : Within 0x40210000402100000040 μ) :
    Kept μ s₀ (snapWord s w off).2 := by
  unfold snapWord; (try dsimp only); split; (· exact hs); (· exact (Kept.ite2 (readPlaneAs_kept hs _ _ _ (hm.sub rfl)) hs))

theorem viewWord_kept {μ : Nat} {s₀ : State} {s : State} (hs : Kept μ s₀ s) (g : Nat) (off : Nat)
    (hm : Within 0x40210000402100000040 μ) :
    Kept μ s₀ (viewWord s g off).2 := by
  unfold viewWord; (try dsimp only); split; (· exact (snapWord_kept hs _ _ (hm.sub rfl))); (· exact hs)

theorem laneUeCount_kept {μ : Nat} {s₀ : State} {s : State} (hs : Kept μ s₀ s) (t : Nat) (n : Nat)
    (hm : Within 0x40410000404100000040 μ) :
    Kept μ s₀ (laneUeCount s t n) := by
  unfold laneUeCount
  exact (State_setFlt_kept (State_countBy_kept (State_countBy_kept hs _ _ _ (hm.sub rfl)) _ _ _ (hm.sub rfl)) _ (hm.sub rfl) (hm.sub rfl))

theorem laneLoad_kept {μ : Nat} {s₀ : State} {s : State} (hs : Kept μ s₀ s) (k : Nat) (a : Nat) (n : Nat)
    (hm : Within 0x40610000406100000040 μ) :
    Kept μ s₀ (laneLoad s k a n).2 := by
  unfold laneLoad
  (try dsimp only)
  split
  · exact (Kept.ite2 (laneCeCount_kept hs _ _ (hm.sub rfl)) (laneUeCount_kept (laneCeCount_kept hs _ _ (hm.sub rfl)) _ _ (hm.sub rfl)))
  · exact (Kept.ite2 (laneCeCount_kept hs _ _ (hm.sub rfl)) (laneUeCount_kept (laneCeCount_kept hs _ _ (hm.sub rfl)) _ _ (hm.sub rfl)))
  · exact hs
  · exact hs
  · exact hs
  · exact hs
  · exact (viewWord_kept hs _ _ (hm.sub rfl))
  · exact hs

theorem laneMemWrite_kept {μ : Nat} {s₀ : State} {s : State} (hs : Kept μ s₀ s) (a : Nat) (l : List Nat)
    (hm : Within 0x108 μ) :
    Kept μ s₀ (laneMemWrite s a l) := by
  unfold laneMemWrite; exact (laneSound_kept (State_setMemBytes_kept hs _ _ (hm.sub rfl)) _ _ (hm.sub rfl))

theorem laneStore_kept {μ : Nat} {s₀ : State} {s : State} (hs : Kept μ s₀ s) (k : Nat) (a : Nat) (l : List Nat)
    (hm : Within 0x108 μ) :
    KeptO μ s₀ (laneStore s k a l) := by
  unfold laneStore
  (try dsimp only)
  split
  · exact (KeptO.some (laneMemWrite_kept hs _ _ (hm.sub rfl)))
  · exact (KeptO.some (State_setPair_kept hs _ _ (hm.sub rfl)))
  · exact KeptO.none

theorem laneDone_kept {μ : Nat} {s₀ : State} {s : State} (hs : Kept μ s₀ s) (n : Nat) (operand : Nat) (issue : Nat)
    (hm : Within 0x4000000100 μ) :
    Kept μ s₀ (laneDone s n operand issue) := by
  unfold laneDone; exact (laneStop_kept (markOutcome_kept (State_setLpart_kept hs _ _ (hm.sub rfl)) _ _ (hm.sub rfl)) _ _ (hm.sub rfl))

theorem laneExec_kept {μ : Nat} {s₀ : State} {s : State} (hs : Kept μ s₀ s) (n : Nat) (issue : Nat) (len : Nat) (iw : Nat) (op : RvOp)
    (hm : Within 0x48610000486100000168 μ) :
    Kept μ s₀ (laneExec s n issue len iw op) := by
  unfold laneExec
  (try dsimp only)
  split
  · exact (State_setPair_kept hs _ _ (hm.sub rfl))
  · exact (State_setPair_kept hs _ _ (hm.sub rfl))
  · exact (State_setPair_kept hs _ _ (hm.sub rfl))
  · exact (State_setPair_kept hs _ _ (hm.sub rfl))
  · exact (Kept.ite (State_setPair_kept hs _ _ (hm.sub rfl)) (State_setPair_kept hs _ _ (hm.sub rfl)))
  · exact (Kept.ite (laneFault_kept hs _ _ _ (hm.sub rfl)) (by (try dsimp only); split; (· exact (laneFault_kept (Kept.of_pair ‹_› (laneLoad_kept hs _ _ _ (hm.sub rfl))) _ _ _ (hm.sub rfl))); (· exact (State_setPair_kept (Kept.of_pair ‹_› (laneLoad_kept hs _ _ _ (hm.sub rfl))) _ _ (hm.sub rfl)))))
  · exact (Kept.ite (laneFault_kept hs _ _ _ (hm.sub rfl)) (by (try dsimp only); split; (· exact (laneFault_kept hs _ _ _ (hm.sub rfl))); (· exact (State_setPair_kept (Kept.of_some ‹_› (laneStore_kept hs _ _ _ (hm.sub rfl))) _ _ (hm.sub rfl)))))
  · exact (State_setPair_kept hs _ _ (hm.sub rfl))
  · exact (State_setPair_kept hs _ _ (hm.sub rfl))
  · exact (State_setPair_kept hs _ _ (hm.sub rfl))
  · exact (by (try dsimp only); split; (· exact (laneFault_kept hs _ _ _ (hm.sub rfl))); (· exact (by (try dsimp only); split; (· exact (State_setPair_kept hs _ _ (hm.sub rfl))); (· exact (Kept.ite (laneFault_kept hs _ _ _ (hm.sub rfl)) (State_setPair_kept hs _ _ (hm.sub rfl)))))))
  · exact (Kept.ite (laneFault_kept hs _ _ _ (hm.sub rfl)) (by (try dsimp only); split; (· exact (laneFault_kept (Kept.of_pair ‹_› (laneLoad_kept hs _ _ _ (hm.sub rfl))) _ _ _ (hm.sub rfl))); (· exact (State_setPair_kept (Kept.of_pair ‹_› (laneLoad_kept hs _ _ _ (hm.sub rfl))) _ _ (hm.sub rfl)))))
  · exact (Kept.ite (laneFault_kept hs _ _ _ (hm.sub rfl)) (by (try dsimp only); split; (· exact (laneFault_kept hs _ _ _ (hm.sub rfl))); (· exact (State_setPair_kept (Kept.of_some ‹_› (laneStore_kept hs _ _ _ (hm.sub rfl))) _ _ (hm.sub rfl)))))
  · exact (by (try dsimp only); split; (· exact (laneFault_kept hs _ _ _ (hm.sub rfl))); (· exact (State_setPair_kept hs _ _ (hm.sub rfl))))
  · exact (by (try dsimp only); split; (· exact (laneFault_kept hs _ _ _ (hm.sub rfl))); (· exact (by (try dsimp only); split; (· exact (State_setPair_kept hs _ _ (hm.sub rfl))); (· exact (State_setPair_kept hs _ _ (hm.sub rfl))); (· exact (State_setPair_kept hs _ _ (hm.sub rfl))); (· exact (State_setPair_kept hs _ _ (hm.sub rfl))); (· exact (State_setPair_kept hs _ _ (hm.sub rfl))); (· exact (State_setPair_kept hs _ _ (hm.sub rfl))); (· exact (State_setPair_kept hs _ _ (hm.sub rfl))))))
  · exact (Kept.ite (laneFault_kept hs _ _ _ (hm.sub rfl)) (Kept.ite (laneDone_kept (State_setPair_kept hs _ _ (hm.sub rfl)) _ _ _ (hm.sub rfl)) (State_setPair_kept hs _ _ (hm.sub rfl))))
  · exact (Kept.ite (State_setPair_kept hs _ _ (hm.sub rfl)) (laneFault_kept hs _ _ _ (hm.sub rfl)))
  · exact (laneFault_kept hs _ _ _ (hm.sub rfl))

theorem laneIssue_kept {μ : Nat} {s₀ : State} {s : State} (hs : Kept μ s₀ s) (n : Nat) (len : Nat) (iw : Nat) (op : RvOp)
    (hm : Within 0x48690000486900000168 μ) :
    Kept μ s₀ (laneIssue s n len iw op) := by
  unfold laneIssue; exact (Kept.ite (laneLate_kept hs _ (hm.sub rfl)) (laneExec_kept hs _ _ _ _ _ (hm.sub rfl)))

theorem laneFetch_kept {μ : Nat} {s₀ : State} {s : State} (hs : Kept μ s₀ s) (n : Nat) (trig : Bool)
    (hm : Within 0x48690000486900000168 μ) :
    Kept μ s₀ (laneFetch s n trig) := by
  unfold laneFetch
  (try dsimp only)
  split
  · exact (laneFault_kept hs _ _ _ (hm.sub rfl))
  · exact (Kept.ite (Kept.ite (laneFault_kept (laneUeCount_kept (laneCeCount_kept hs _ _ (hm.sub rfl)) _ _ (hm.sub rfl)) _ _ _ (hm.sub rfl)) (Kept.ite (State_setPair_kept (laneCeCount_kept hs _ _ (hm.sub rfl)) _ _ (hm.sub rfl)) (laneIssue_kept (laneCeCount_kept hs _ _ (hm.sub rfl)) _ _ _ _ (hm.sub rfl)))) (by (try dsimp only); split; (· exact (laneFault_kept hs _ _ _ (hm.sub rfl))); (· exact (Kept.ite (laneFault_kept (laneUeCount_kept (laneCeCount_kept hs _ _ (hm.sub rfl)) _ _ (hm.sub rfl)) _ _ _ (hm.sub rfl)) (Kept.ite (State_setPair_kept (laneCeCount_kept hs _ _ (hm.sub rfl)) _ _ (hm.sub rfl)) (laneIssue_kept (laneCeCount_kept hs _ _ (hm.sub rfl)) _ _ _ _ (hm.sub rfl)))))))

theorem laneInstruction_kept {μ : Nat} {s₀ : State} {s : State} (hs : Kept μ s₀ s) (n : Nat)
    (hm : Within 0x48690000486900000168 μ) :
    Kept μ s₀ (laneInstruction s n) := by
  unfold laneInstruction; exact (Kept.ite (laneFetch_kept hs _ _ (hm.sub rfl)) hs)

theorem execLaneInstruction_kept {μ : Nat} {s₀ : State} {s : State} (hs : Kept μ s₀ s) (n : Nat)
    (hm : Within 0x48690000486900000168 μ) :
    KeptN μ s₀ (execLaneInstruction n s) := by
  unfold execLaneInstruction; exact (KeptN.next (Kept.live hs (fun _ hz0 => (laneInstruction_kept hz0 _ (hm.sub rfl)))))

theorem laneP_kept {μ : Nat} {s₀ : State} {s : State} (hs : Kept μ s₀ s) (n : Nat) (f7 : Nat) (f3 : Nat) (rd : Nat) (rs1 : Nat) (rs2 : Nat)
    (hm : Within 0x48690000486900000168 μ) :
    Kept μ s₀ (laneP s n f7 f3 rd rs1 rs2) := by
  unfold laneP; exact (Kept.ite (laneIssue_kept hs _ _ _ _ (hm.sub rfl)) hs)

theorem execPxCmul_kept {μ : Nat} {s₀ : State} {s : State} (hs : Kept μ s₀ s) (n : Nat) (rd : Nat) (rs1 : Nat) (rs2 : Nat)
    (hm : Within 0x48690000486900000168 μ) :
    KeptN μ s₀ (execPxCmul n rd rs1 rs2 s) := by
  unfold execPxCmul; exact (KeptN.next (Kept.live hs (fun _ hz0 => (laneP_kept hz0 _ _ _ _ _ _ (hm.sub rfl)))))

theorem execPxCmulc_kept {μ : Nat} {s₀ : State} {s : State} (hs : Kept μ s₀ s) (n : Nat) (rd : Nat) (rs1 : Nat) (rs2 : Nat)
    (hm : Within 0x48690000486900000168 μ) :
    KeptN μ s₀ (execPxCmulc n rd rs1 rs2 s) := by
  unfold execPxCmulc; exact (KeptN.next (Kept.live hs (fun _ hz0 => (laneP_kept hz0 _ _ _ _ _ _ (hm.sub rfl)))))

theorem execPxCmac_kept {μ : Nat} {s₀ : State} {s : State} (hs : Kept μ s₀ s) (n : Nat) (rd : Nat) (rs1 : Nat) (rs2 : Nat)
    (hm : Within 0x48690000486900000168 μ) :
    KeptN μ s₀ (execPxCmac n rd rs1 rs2 s) := by
  unfold execPxCmac; exact (KeptN.next (Kept.live hs (fun _ hz0 => (laneP_kept hz0 _ _ _ _ _ _ (hm.sub rfl)))))

theorem execPxCadd_kept {μ : Nat} {s₀ : State} {s : State} (hs : Kept μ s₀ s) (n : Nat) (rd : Nat) (rs1 : Nat) (rs2 : Nat)
    (hm : Within 0x48690000486900000168 μ) :
    KeptN μ s₀ (execPxCadd n rd rs1 rs2 s) := by
  unfold execPxCadd; exact (KeptN.next (Kept.live hs (fun _ hz0 => (laneP_kept hz0 _ _ _ _ _ _ (hm.sub rfl)))))

theorem execPxCsub_kept {μ : Nat} {s₀ : State} {s : State} (hs : Kept μ s₀ s) (n : Nat) (rd : Nat) (rs1 : Nat) (rs2 : Nat)
    (hm : Within 0x48690000486900000168 μ) :
    KeptN μ s₀ (execPxCsub n rd rs1 rs2 s) := by
  unfold execPxCsub; exact (KeptN.next (Kept.live hs (fun _ hz0 => (laneP_kept hz0 _ _ _ _ _ _ (hm.sub rfl)))))

theorem execPxCscl_kept {μ : Nat} {s₀ : State} {s : State} (hs : Kept μ s₀ s) (n : Nat) (rd : Nat) (rs1 : Nat) (rs2 : Nat)
    (hm : Within 0x48690000486900000168 μ) :
    KeptN μ s₀ (execPxCscl n rd rs1 rs2 s) := by
  unfold execPxCscl; exact (KeptN.next (Kept.live hs (fun _ hz0 => (laneP_kept hz0 _ _ _ _ _ _ (hm.sub rfl)))))

theorem execPxCabs2_kept {μ : Nat} {s₀ : State} {s : State} (hs : Kept μ s₀ s) (n : Nat) (rd : Nat) (rs1 : Nat)
    (hm : Within 0x48690000486900000168 μ) :
    KeptN μ s₀ (execPxCabs2 n rd rs1 s) := by
  unfold execPxCabs2; exact (KeptN.next (Kept.live hs (fun _ hz0 => (laneP_kept hz0 _ _ _ _ _ _ (hm.sub rfl)))))

theorem execPxCabs_kept {μ : Nat} {s₀ : State} {s : State} (hs : Kept μ s₀ s) (n : Nat) (rd : Nat) (rs1 : Nat)
    (hm : Within 0x48690000486900000168 μ) :
    KeptN μ s₀ (execPxCabs n rd rs1 s) := by
  unfold execPxCabs; exact (KeptN.next (Kept.live hs (fun _ hz0 => (laneP_kept hz0 _ _ _ _ _ _ (hm.sub rfl)))))

theorem execPxCarg_kept {μ : Nat} {s₀ : State} {s : State} (hs : Kept μ s₀ s) (n : Nat) (rd : Nat) (rs1 : Nat)
    (hm : Within 0x48690000486900000168 μ) :
    KeptN μ s₀ (execPxCarg n rd rs1 s) := by
  unfold execPxCarg; exact (KeptN.next (Kept.live hs (fun _ hz0 => (laneP_kept hz0 _ _ _ _ _ _ (hm.sub rfl)))))

theorem execPxCis_kept {μ : Nat} {s₀ : State} {s : State} (hs : Kept μ s₀ s) (n : Nat) (rd : Nat) (rs1 : Nat)
    (hm : Within 0x48690000486900000168 μ) :
    KeptN μ s₀ (execPxCis n rd rs1 s) := by
  unfold execPxCis; exact (KeptN.next (Kept.live hs (fun _ hz0 => (laneP_kept hz0 _ _ _ _ _ _ (hm.sub rfl)))))

theorem execPxRot_kept {μ : Nat} {s₀ : State} {s : State} (hs : Kept μ s₀ s) (n : Nat) (rd : Nat) (rs1 : Nat) (rs2 : Nat)
    (hm : Within 0x48690000486900000168 μ) :
    KeptN μ s₀ (execPxRot n rd rs1 rs2 s) := by
  unfold execPxRot; exact (KeptN.next (Kept.live hs (fun _ hz0 => (laneP_kept hz0 _ _ _ _ _ _ (hm.sub rfl)))))

theorem execPxDfta_kept {μ : Nat} {s₀ : State} {s : State} (hs : Kept μ s₀ s) (n : Nat) (rd : Nat) (rs1 : Nat) (rs2 : Nat)
    (hm : Within 0x48690000486900000168 μ) :
    KeptN μ s₀ (execPxDfta n rd rs1 rs2 s) := by
  unfold execPxDfta; exact (KeptN.next (Kept.live hs (fun _ hz0 => (laneP_kept hz0 _ _ _ _ _ _ (hm.sub rfl)))))

theorem execPxQchk_kept {μ : Nat} {s₀ : State} {s : State} (hs : Kept μ s₀ s) (n : Nat) (rd : Nat) (rs1 : Nat) (rs2 : Nat)
    (hm : Within 0x48690000486900000168 μ) :
    KeptN μ s₀ (execPxQchk n rd rs1 rs2 s) := by
  unfold execPxQchk; exact (KeptN.next (Kept.live hs (fun _ hz0 => (laneP_kept hz0 _ _ _ _ _ _ (hm.sub rfl)))))

theorem execPxDone_kept {μ : Nat} {s₀ : State} {s : State} (hs : Kept μ s₀ s) (n : Nat) (rs1 : Nat)
    (hm : Within 0x48690000486900000168 μ) :
    KeptN μ s₀ (execPxDone n rs1 s) := by
  unfold execPxDone; exact (KeptN.next (Kept.live hs (fun _ hz0 => (laneP_kept hz0 _ _ _ _ _ _ (hm.sub rfl)))))

theorem partitionLate_kept {μ : Nat} {s₀ : State} {s : State} (hs : Kept μ s₀ s) (n : Nat)
    (hm : Within 0x48090000484900000160 μ) :
    Kept μ s₀ (partitionLate s n) := by
  unfold partitionLate; exact (Kept.ite hs (Kept.ite (laneLate_kept (State_setPair_kept hs _ _ (hm.sub rfl)) _ (hm.sub rfl)) hs))

theorem execPartitionLate_kept {μ : Nat} {s₀ : State} {s : State} (hs : Kept μ s₀ s) (n : Nat)
    (hm : Within 0x48090000484900000160 μ) :
    KeptN μ s₀ (execPartitionLate n s) := by
  unfold execPartitionLate; exact (KeptN.next (Kept.live hs (fun _ hz0 => (partitionLate_kept hz0 _ (hm.sub rfl)))))

theorem laneDebugHalt_kept {μ : Nat} {s₀ : State} {s : State} (hs : Kept μ s₀ s) (n : Nat)
    (hm : Within 0x100 μ) :
    Kept μ s₀ (laneDebugHalt s n) := by
  unfold laneDebugHalt; exact (Kept.ite hs (State_setPair_kept hs _ _ (hm.sub rfl)))

theorem execLaneDebugHalt_kept {μ : Nat} {s₀ : State} {s : State} (hs : Kept μ s₀ s) (n : Nat)
    (hm : Within 0x100 μ) :
    KeptN μ s₀ (execLaneDebugHalt n s) := by
  unfold execLaneDebugHalt; exact (KeptN.next (Kept.live hs (fun _ hz0 => (laneDebugHalt_kept hz0 _ (hm.sub rfl)))))

theorem laneDebugResume_kept {μ : Nat} {s₀ : State} {s : State} (hs : Kept μ s₀ s) (n : Nat)
    (hm : Within 0x48090000484900000160 μ) :
    Kept μ s₀ (laneDebugResume s n) := by
  unfold laneDebugResume
  exact (Kept.ite hs (Kept.ite (State_setPair_kept hs _ _ (hm.sub rfl)) (Kept.ite (State_setPair_kept (partitionLate_kept hs _ (hm.sub rfl)) _ _ (hm.sub rfl)) (State_setPair_kept hs _ _ (hm.sub rfl)))))

theorem execLaneDebugResume_kept {μ : Nat} {s₀ : State} {s : State} (hs : Kept μ s₀ s) (n : Nat)
    (hm : Within 0x48090000484900000160 μ) :
    KeptN μ s₀ (execLaneDebugResume n s) := by
  unfold execLaneDebugResume; exact (KeptN.next (Kept.live hs (fun _ hz0 => (laneDebugResume_kept hz0 _ (hm.sub rfl)))))

theorem laneDebugStep_kept {μ : Nat} {s₀ : State} {s : State} (hs : Kept μ s₀ s) (n : Nat)
    (hm : Within 0x48690000486900000168 μ) :
    Kept μ s₀ (laneDebugStep s n) := by
  unfold laneDebugStep
  exact (Kept.ite hs (State_setPair_kept (laneFetch_kept (State_setPair_kept hs _ _ (hm.sub rfl)) _ _ (hm.sub rfl)) _ _ (hm.sub rfl)))

theorem execLaneDebugStep_kept {μ : Nat} {s₀ : State} {s : State} (hs : Kept μ s₀ s) (n : Nat)
    (hm : Within 0x48690000486900000168 μ) :
    KeptN μ s₀ (execLaneDebugStep n s) := by
  unfold execLaneDebugStep; exact (KeptN.next (Kept.live hs (fun _ hz0 => (laneDebugStep_kept hz0 _ (hm.sub rfl)))))

theorem vectorLatch_kept {μ : Nat} {s₀ : State} {s : State} (hs : Kept μ s₀ s)
    (hm : Within 0x100 μ) :
    Kept μ s₀ (vectorLatch s) := by
  unfold vectorLatch; exact (Kept.ite (Kept.upd_100 hs (hm.sub rfl)) hs)

theorem execVectorLatchRead_kept {μ : Nat} {s₀ : State} {s : State} (hs : Kept μ s₀ s)
    (hm : Within 0x100 μ) :
    KeptN μ s₀ (execVectorLatchRead s) := by
  unfold execVectorLatchRead; exact (KeptN.next (Kept.live hs (fun _ hz0 => (vectorLatch_kept hz0 (hm.sub rfl)))))

theorem clrUsed_kept {μ : Nat} {s₀ : State} {s : State} (hs : Kept μ s₀ s)
    (hm : Within 0x4000000000 μ) :
    Kept μ s₀ (clrUsed s) := by
  unfold clrUsed; exact (Kept.ite (Kept.foldl hs (fun _ _ hz0 => (Kept.setFld hz0 _ _ _ (hm.sub (b := blkBits 6) rfl))) _) hs)

theorem execClrUsed_kept {μ : Nat} {s₀ : State} {s : State} (hs : Kept μ s₀ s)
    (hm : Within 0x4000000000 μ) :
    KeptN μ s₀ (execClrUsed s) := by
  unfold execClrUsed; exact (KeptN.next (Kept.live hs (fun _ hz0 => (clrUsed_kept hz0 (hm.sub rfl)))))

end Sys2Proof.Machine
end

