-- ==== Sys2Proof/Laws/KeptWindows.lean ====
section
/-! SUPPORT. Each function of Machine/Windows.lean keeps what `Kept` says. -/

set_option Elab.async false

namespace Sys2Proof.Machine

theorem spareBegin_kept {μ : Nat} {s₀ : State} {s : State} (hs : Kept μ s₀ s) (t : Nat)
    (hm : Within 0x80 μ) :
    Kept μ s₀ (spareBegin s t) := by
  unfold spareBegin; (try dsimp only); split; (· exact (Kept.ite (Kept.upd_80 hs (hm.sub rfl)) hs)); (· exact hs)

theorem slotDrop_kept {μ : Nat} {s₀ : State} {s : State} (hs : Kept μ s₀ s) (p : Nat)
    (hm : Within 0x80000000800000100 μ) :
    Kept μ s₀ (slotDrop s p) := by
  unfold slotDrop
  exact (Kept.ite hs (State_count_kept (State_setLpart_kept (markOutcome_kept hs _ _ (hm.sub rfl)) _ _ (hm.sub rfl)) _ _ (hm.sub rfl)))

theorem slotOpen_kept {μ : Nat} {s₀ : State} {s : State} (hs : Kept μ s₀ s) (g : Nat) (w : Nat) (t : Nat) (p : Nat)
    (hm : Within 0x48090000484900000160 μ) :
    Kept μ s₀ (slotOpen s g w t p).2 := by
  unfold slotOpen
  exact (Kept.ite2 (slotDrop_kept hs _ (hm.sub rfl)) (Kept.ite2 (State_setLpart_kept (markOutcome_kept hs _ _ (hm.sub rfl)) _ _ (hm.sub rfl)) (Kept.ite2 (partLate_kept hs _ _ _ _ (hm.sub rfl)) hs)))

theorem windowStart_kept {μ : Nat} {s₀ : State} {s : State} (hs : Kept μ s₀ s) (g : Nat) (w : TideWin)
    (hm : Within 0x80000000800000080 μ) :
    Kept μ s₀ (windowStart s g w) := by
  unfold windowStart
  exact (State_count_kept (Kept.foldl (Kept.foldl (Kept.setFld (Kept.setFld (State_setGrp_kept hs _ _ (hm.sub rfl)) _ _ _ (hm.sub rfl)) _ _ _ (hm.sub rfl)) (fun _ _ h => spareBegin_kept h _ (hm.sub rfl)) _) (fun _ _ hz0 => (Kept.ite hz0 (State_count_kept hz0 _ _ (hm.sub rfl)))) _) _ _ (hm.sub rfl))

theorem bankCopy_kept {μ : Nat} {s₀ : State} {s : State} (hs : Kept μ s₀ s) (t : Nat) (r : SlotRegions) (toWorking : Bool)
    (hm : Within 0x40410000404100000148 μ) :
    Kept μ s₀ (bankCopy s t r toWorking) := by
  unfold bankCopy
  exact (Kept.upd_100 (laneMemWrite_kept (Kept.ite (laneCeCount_kept hs _ _ (hm.sub rfl)) (laneUeCount_kept (laneCeCount_kept hs _ _ (hm.sub rfl)) _ _ (hm.sub rfl))) _ _ (hm.sub rfl)) (hm.sub rfl))

theorem bankZero_kept {μ : Nat} {s₀ : State} {s : State} (hs : Kept μ s₀ s) (t : Nat) (r : SlotRegions)
    (hm : Within 0x108 μ) :
    Kept μ s₀ (bankZero s t r) := by
  unfold bankZero; exact (laneMemWrite_kept hs _ _ (hm.sub rfl))

theorem slotPreamble_kept {μ : Nat} {s₀ : State} {s : State} (hs : Kept μ s₀ s) (w : LaneWin) (m : Nat) (e : LaneSlot)
    (hm : Within 0x40490000404900000148 μ) :
    Kept μ s₀ (slotPreamble s w m e) := by
  unfold slotPreamble
  exact (State_count_kept (Kept.setFld (State_setLpart_kept (Kept.ite (bankZero_kept (State_setPair_kept hs _ _ (hm.sub rfl)) _ _ (hm.sub rfl)) (bankCopy_kept (State_setPair_kept hs _ _ (hm.sub rfl)) _ _ _ (hm.sub rfl))) _ _ (hm.sub rfl)) _ _ _ (hm.sub rfl)) _ _ (hm.sub rfl))

theorem slotMark_kept {μ : Nat} {s₀ : State} {s : State} (hs : Kept μ s₀ s) (g : Nat) (p : Nat)
    (hm : Within 0x80 μ) :
    Kept μ s₀ (slotMark s g p) := by
  unfold slotMark; exact (State_setGrp_kept hs _ _ (hm.sub rfl))

theorem slotBegin_kept {μ : Nat} {s₀ : State} {s : State} (hs : Kept μ s₀ s) (g : Nat) (w : LaneWin) (e : LaneSlot)
    (hm : Within 0x484900004849000001e8 μ) :
    Kept μ s₀ (slotBegin s g w e) := by
  unfold slotBegin
  exact (Kept.ite (slotOpen_kept (slotMark_kept hs _ _ (hm.sub rfl)) _ _ _ _ (hm.sub rfl)) (slotPreamble_kept (Kept.ite (laneLate_kept (slotOpen_kept (slotMark_kept hs _ _ (hm.sub rfl)) _ _ _ _ (hm.sub rfl)) _ (hm.sub rfl)) (slotOpen_kept (slotMark_kept hs _ _ (hm.sub rfl)) _ _ _ _ (hm.sub rfl))) _ _ _ (hm.sub rfl)))

theorem slotStartCmd_kept {μ : Nat} {s₀ : State} {s : State} (hs : Kept μ s₀ s) (t : Nat) (j : Nat)
    (hm : Within 0x484900004849000001e8 μ) :
    Kept μ s₀ (slotStartCmd s t j) := by
  unfold slotStartCmd
  (try dsimp only)
  split
  · exact hs
  · exact (by (try dsimp only); split; (· exact hs); (· exact (by (try dsimp only); split; (· exact hs); (· exact (Kept.ite hs (slotBegin_kept hs _ _ _ (hm.sub rfl)))))))

theorem execSlotStart_kept {μ : Nat} {s₀ : State} {s : State} (hs : Kept μ s₀ s) (t : Nat) (j : Nat)
    (hm : Within 0x484900004849000001e8 μ) :
    KeptN μ s₀ (execSlotStart t j s) := by
  unfold execSlotStart; exact (KeptN.next (Kept.live hs (fun _ hz0 => (slotStartCmd_kept hz0 _ _ (hm.sub rfl)))))

theorem slotClose_kept {μ : Nat} {s₀ : State} {s : State} (hs : Kept μ s₀ s) (g : Nat) (w : LaneWin) (e : LaneSlot)
    (hm : Within 0x48090000484900000160 μ) :
    Kept μ s₀ (slotClose s g w e) := by
  unfold slotClose
  (try dsimp only)
  split
  · exact (Kept.ite (laneLate_kept hs _ (hm.sub rfl)) (Kept.ite hs (Kept.ite (partLate_kept (slotOpen_kept hs _ _ _ _ (hm.sub rfl)) _ _ _ _ (hm.sub rfl)) (slotOpen_kept hs _ _ _ _ (hm.sub rfl)))))
  · exact (Kept.ite hs (slotDrop_kept hs _ (hm.sub rfl)))

theorem commitPart_kept {μ : Nat} {s₀ : State} {s : State} (hs : Kept μ s₀ s) (w : LaneWin) (e : LaneSlot)
    (hm : Within 0x40410000404100000148 μ) :
    Kept μ s₀ (commitPart s w e) := by
  unfold commitPart
  exact (Kept.ite (Kept.setFld hs _ _ _ (hm.sub rfl)) (lwdStatus_kept (Kept.ite (Kept.setFld (State_count_kept (State_count_kept (State_setLpart_kept (Kept.ite (bankCopy_kept (Kept.setFld hs _ _ _ (hm.sub rfl)) _ _ _ (hm.sub rfl)) (Kept.setFld hs _ _ _ (hm.sub rfl))) _ _ (hm.sub rfl)) _ _ (hm.sub rfl)) _ _ (hm.sub rfl)) _ _ _ (hm.sub rfl)) (Kept.ite (State_count_kept (State_setLpart_kept (Kept.ite (bankCopy_kept (Kept.setFld hs _ _ _ (hm.sub rfl)) _ _ _ (hm.sub rfl)) (Kept.setFld hs _ _ _ (hm.sub rfl))) _ _ (hm.sub rfl)) _ _ (hm.sub rfl)) (State_setLpart_kept (Kept.ite (bankCopy_kept (Kept.setFld hs _ _ _ (hm.sub rfl)) _ _ _ (hm.sub rfl)) (Kept.setFld hs _ _ _ (hm.sub rfl))) _ _ (hm.sub rfl)))) _ _ (hm.sub rfl)))

theorem takeImage_kept {μ : Nat} {s₀ : State} {s : State} (hs : Kept μ s₀ s) (g : Nat) (w : LaneWin) (recs : List OwnRec)
    (hm : Within 0x4000 μ) :
    Kept μ s₀ (takeImage s g w recs) := by
  unfold takeImage
  exact (Kept.ite hs (by (try dsimp only); split; (· exact hs); (· exact (by (try dsimp only); split; (· exact (Kept.upd_4000 hs (hm.sub rfl))); (· exact hs)))))

theorem installImage_kept {μ : Nat} {s₀ : State} {s : State} (hs : Kept μ s₀ s) (p : Nat)
    (hm : Within 0x42410000424100004148 μ) :
    Kept μ s₀ (installImage s p) := by
  unfold installImage
  (try dsimp only)
  split
  · exact (sendCtrl_kept (State_count_kept (joinSettle_kept (Kept.upd_4000 (State_setFlag_kept (State_setLpart_kept (laneMemWrite_kept (State_setResolved_kept hs _ _ (hm.sub rfl)) _ _ (hm.sub rfl)) _ _ (hm.sub rfl)) _ _ _ (hm.sub rfl)) (hm.sub rfl)) (hm.sub rfl)) _ _ (hm.sub rfl)) _ _ (hm.sub rfl))
  · exact hs

theorem windowCommit_kept {μ : Nat} {s₀ : State} {s : State} (hs : Kept μ s₀ s) (g : Nat)
    (hm : Within 0x4ac900004ac9000063e8 μ) :
    Kept μ s₀ (windowCommit s g) := by
  unfold windowCommit
  (try dsimp only)
  split
  · exact hs
  · exact (Kept.ite (groupDrained_kept (Kept.foldl (takeImage_kept (rallyCommit_kept (Kept.foldl (Kept.foldl hs (fun _ _ hz1 => (slotClose_kept hz1 _ _ _ (hm.sub rfl))) _) (fun _ _ hz1 => (commitPart_kept hz1 _ _ (hm.sub rfl))) _) _ _ (hm.sub rfl)) _ _ _ (hm.sub rfl)) (fun _ _ hz1 => (installImage_kept hz1 _ (hm.sub rfl))) _) _ (hm.sub rfl)) (State_setGrp_kept (Kept.foldl (takeImage_kept (rallyCommit_kept (Kept.foldl (Kept.foldl hs (fun _ _ hz1 => (slotClose_kept hz1 _ _ _ (hm.sub rfl))) _) (fun _ _ hz1 => (commitPart_kept hz1 _ _ (hm.sub rfl))) _) _ _ (hm.sub rfl)) _ _ _ (hm.sub rfl)) (fun _ _ hz1 => (installImage_kept hz1 _ (hm.sub rfl))) _) _ _ (hm.sub rfl)))

theorem commitUpTo_kept {μ : Nat} {s₀ : State} {s : State} (hs : Kept μ s₀ s) (g : Nat)
    (hm : Within 0x4ac900004ac9000063e8 μ) :
    Kept μ s₀ (commitUpTo s g) := by
  unfold commitUpTo; exact (Kept.foldl hs (fun _ _ hz0 => (Kept.ite (windowCommit_kept hz0 _ (hm.sub rfl)) hz0)) _)

theorem windowCommitCmd_kept {μ : Nat} {s₀ : State} {s : State} (hs : Kept μ s₀ s) (g : Nat)
    (hm : Within 0x4ac900004ac9000063e8 μ) :
    Kept μ s₀ (windowCommitCmd s g) := by
  unfold windowCommitCmd; exact (Kept.ite (commitUpTo_kept hs _ (hm.sub rfl)) hs)

theorem execWindowCommit_kept {μ : Nat} {s₀ : State} {s : State} (hs : Kept μ s₀ s) (g : Nat)
    (hm : Within 0x4ac900004ac9000063e8 μ) :
    KeptN μ s₀ (execWindowCommit g s) := by
  unfold execWindowCommit; exact (KeptN.next (Kept.live hs (fun _ hz0 => (windowCommitCmd_kept hz0 _ (hm.sub rfl)))))

theorem laneWindowStart_kept {μ : Nat} {s₀ : State} {s : State} (hs : Kept μ s₀ s) (g : Nat)
    (hm : Within 0x4ac900004ac9000063e8 μ) :
    Kept μ s₀ (laneWindowStart s g) := by
  unfold laneWindowStart
  (try dsimp only)
  split
  · exact hs
  · exact (Kept.ite (windowCommitCmd_kept hs _ (hm.sub rfl)) (windowStart_kept (windowCommitCmd_kept hs _ (hm.sub rfl)) _ _ (hm.sub rfl)))

theorem execLaneWindowStart_kept {μ : Nat} {s₀ : State} {s : State} (hs : Kept μ s₀ s) (g : Nat)
    (hm : Within 0x4ac900004ac9000063e8 μ) :
    KeptN μ s₀ (execLaneWindowStart g s) := by
  unfold execLaneWindowStart; exact (KeptN.next (Kept.live hs (fun _ hz0 => (laneWindowStart_kept hz0 _ (hm.sub rfl)))))

theorem pairFail_kept {μ : Nat} {s₀ : State} {s : State} (hs : Kept μ s₀ s) (n : Nat)
    (hm : Within 0x800000000 μ) :
    Kept μ s₀ (pairFail s n) := by
  unfold pairFail; exact (Kept.setFld (Kept.setFld hs _ _ _ (hm.sub rfl)) _ _ _ (hm.sub rfl))

theorem lastSpare_kept {μ : Nat} {s₀ : State} {s : State} (hs : Kept μ s₀ s)
    (hm : Within 0x2000000020000004000 μ) :
    Kept μ s₀ (lastSpare s) := by
  unfold lastSpare; exact (Kept.ite (wakeStart_kept hs (hm.sub rfl)) hs)

theorem runDrop_kept {μ : Nat} {s₀ : State} {s : State} (hs : Kept μ s₀ s) (n : Nat) (t : Nat)
    (hm : Within 0x80000004800000108 μ) :
    Kept μ s₀ (runDrop s n t) := by
  unfold runDrop
  exact (slotDrop_kept (laneHaltRun_kept (Kept.ite (State_setLpart_kept (Kept.upd_100 (laneMemWrite_kept hs _ _ (hm.sub rfl)) (hm.sub rfl)) _ _ (hm.sub rfl)) hs) _ (hm.sub rfl)) _ (hm.sub rfl))

theorem tableDrop_kept {μ : Nat} {s₀ : State} {s : State} (hs : Kept μ s₀ s) (n : Nat) (t : Nat) (w : LaneWin)
    (hm : Within 0x80000004800000108 μ) :
    Kept μ s₀ (tableDrop s n t w).2 := by
  unfold tableDrop; exact (Kept.foldl (Kept.ite (runDrop_kept hs _ _ (hm.sub rfl)) hs) (fun _ _ hz0 => (slotDrop_kept hz0 _ (hm.sub rfl))) _)

theorem pairMismatch_kept {μ : Nat} {s₀ : State} {s : State} (hs : Kept μ s₀ s) (n : Nat) (t : Nat)
    (hm : Within 0x400900004009000000c0 μ) :
    Kept μ s₀ (pairMismatch s n t) := by
  unfold pairMismatch
  exact (Kept.upd_80 (State_count_kept (State_setFlt_kept (State_setFlag_kept (pairFail_kept hs _ (hm.sub rfl)) _ _ _ (hm.sub rfl)) _ (hm.sub rfl) (hm.sub rfl)) _ _ (hm.sub rfl)) (hm.sub rfl))

theorem failoverRecord_kept {μ : Nat} {s₀ : State} {s : State} (hs : Kept μ s₀ s) (f : PairFail)
    (hm : Within 0x8000000080000000020 μ) :
    Kept μ s₀ (failoverRecord s f) := by
  unfold failoverRecord
  (try dsimp only)
  split
  · exact (State_event_kept hs _ _ _ _ _ _ (hm.sub rfl))
  · exact (State_event_kept hs _ _ _ _ _ _ (hm.sub rfl))

theorem failoverRewrite_kept {μ : Nat} {s₀ : State} {s : State} (hs : Kept μ s₀ s) (f : PairFail)
    (hm : Within 0x20 μ) :
    Kept μ s₀ (failoverRewrite s f) := by
  unfold failoverRewrite; exact (Kept.upd_20 hs (hm.sub rfl))

theorem failKeep_kept {μ : Nat} {s₀ : State} {s : State} (hs : Kept μ s₀ s) (f : PairFail)
    (hm : Within 0x80 μ) :
    Kept μ s₀ (failKeep s f) := by
  unfold failKeep; exact (Kept.upd_80 hs (hm.sub rfl))

theorem spareTake_kept {μ : Nat} {s₀ : State} {s : State} (hs : Kept μ s₀ s) (t : Nat) (m : Nat)
    (hm : Within 0x42010000420900004140 μ) :
    Kept μ s₀ (spareTake s t m) := by
  unfold spareTake
  exact (lastSpare_kept (State_setFlt_kept (State_setPair_kept (Kept.setFld (Kept.setFld hs _ _ _ (hm.sub rfl)) _ _ _ (hm.sub rfl)) _ _ (hm.sub rfl)) _ (hm.sub rfl) (hm.sub rfl)) (hm.sub rfl))

theorem noSpare_kept {μ : Nat} {s₀ : State} {s : State} (hs : Kept μ s₀ s)
    (hm : Within 0x42010000420900004040 μ) :
    Kept μ s₀ (noSpare s) := by
  unfold noSpare
  exact (Kept.ite (wakeStart_kept (State_setFlt_kept hs _ (hm.sub rfl) (hm.sub rfl)) (hm.sub rfl)) (State_setFlt_kept hs _ (hm.sub rfl) (hm.sub rfl)))

theorem spareGive_kept {μ : Nat} {s₀ : State} {s : State} (hs : Kept μ s₀ s) (f : PairFail) (record : State → PairFail → State) (krecord : ∀ t x0, Kept μ s₀ t → Kept μ s₀ (record t x0))
    (hm : Within 0x420100004209000041c0 μ) :
    Kept μ s₀ (spareGive s f record) := by
  unfold spareGive
  exact (failKeep_kept (krecord _ _ (by (try dsimp only); split; (· exact (spareTake_kept hs _ _ (hm.sub rfl))); (· exact (noSpare_kept hs (hm.sub rfl))))) _ (hm.sub rfl))

theorem spareBack_kept {μ : Nat} {s₀ : State} {s : State} (hs : Kept μ s₀ s) (f : PairFail)
    (hm : Within 0x800000100 μ) :
    Kept μ s₀ (spareBack s f) := by
  unfold spareBack
  (try dsimp only)
  split
  · exact (State_setPair_kept (Kept.setFld (Kept.setFld hs _ _ _ (hm.sub rfl)) _ _ _ (hm.sub rfl)) _ _ (hm.sub rfl))
  · exact hs

theorem spareAssign_kept {μ : Nat} {s₀ : State} {s : State} (hs : Kept μ s₀ s) (n : Nat) (t : Nat) (part : Nat)
    (hm : Within 0x4a0100004a09000041e0 μ) :
    Kept μ s₀ (spareAssign s n t part) := by
  unfold spareAssign
  exact (Kept.foldl (spareGive_kept (Kept.foldl hs (fun _ _ h => spareBack_kept h _ (hm.sub rfl)) _) _ _ (fun _ _ h => failoverRecord_kept h _ (hm.sub rfl)) (hm.sub rfl)) (fun _ _ hz0 => (spareGive_kept hz0 _ _ (fun _ _ h => failoverRewrite_kept h _ (hm.sub rfl)) (hm.sub rfl))) _)

theorem mismatchOn_kept {μ : Nat} {s₀ : State} {s : State} (hs : Kept μ s₀ s) (n : Nat) (t : Nat)
    (hm : Within 0x4a0900004a49000041e8 μ) :
    Kept μ s₀ (mismatchOn s n t) := by
  unfold mismatchOn
  (try dsimp only)
  split
  · exact (spareAssign_kept (pairMismatch_kept (tableDrop_kept hs _ _ _ (hm.sub rfl)) _ _ (hm.sub rfl)) _ _ _ (hm.sub rfl))
  · exact (spareAssign_kept (pairMismatch_kept hs _ _ (hm.sub rfl)) _ _ _ (hm.sub rfl))

theorem selftestFail_kept {μ : Nat} {s₀ : State} {s : State} (hs : Kept μ s₀ s) (n : Nat)
    (hm : Within 0x4a4100004a4900004060 μ) :
    Kept μ s₀ (selftestFail s n) := by
  unfold selftestFail
  exact (Kept.ite hs (lastSpare_kept (State_event_kept (State_setFlt_kept (State_count_kept (State_setFlt_kept (pairFail_kept hs _ (hm.sub rfl)) _ (hm.sub rfl) (hm.sub rfl)) _ _ (hm.sub rfl)) _ (hm.sub rfl) (hm.sub rfl)) _ _ _ _ _ _ (hm.sub rfl)) (hm.sub rfl)))

theorem lockstepMismatch_kept {μ : Nat} {s₀ : State} {s : State} (hs : Kept μ s₀ s) (n : Nat)
    (hm : Within 0x4a4900004a49000041e8 μ) :
    Kept μ s₀ (lockstepMismatch s n) := by
  unfold lockstepMismatch; exact (Kept.ite hs (Kept.ite (selftestFail_kept hs _ (hm.sub rfl)) (mismatchOn_kept hs _ _ (hm.sub rfl))))

theorem execLockstepMismatch_kept {μ : Nat} {s₀ : State} {s : State} (hs : Kept μ s₀ s) (n : Nat)
    (hm : Within 0x4a4900004a49000041e8 μ) :
    KeptN μ s₀ (execLockstepMismatch n s) := by
  unfold execLockstepMismatch; exact (KeptN.next (Kept.live hs (fun _ hz0 => (lockstepMismatch_kept hz0 _ (hm.sub rfl)))))

theorem spareAttachDone_kept {μ : Nat} {s₀ : State} {s : State} (hs : Kept μ s₀ s) (n : Nat)
    (hm : Within 0x100 μ) :
    Kept μ s₀ (spareAttachDone s n) := by
  unfold spareAttachDone; exact (Kept.ite hs (State_setPair_kept hs _ _ (hm.sub rfl)))

theorem execSpareAttachDone_kept {μ : Nat} {s₀ : State} {s : State} (hs : Kept μ s₀ s) (n : Nat)
    (hm : Within 0x100 μ) :
    KeptN μ s₀ (execSpareAttachDone n s) := by
  unfold execSpareAttachDone; exact (KeptN.next (Kept.live hs (fun _ hz0 => (spareAttachDone_kept hz0 _ (hm.sub rfl)))))

theorem execSpareSelftestFail_kept {μ : Nat} {s₀ : State} {s : State} (hs : Kept μ s₀ s) (n : Nat)
    (hm : Within 0x4a4100004a4900004060 μ) :
    KeptN μ s₀ (execSpareSelftestFail n s) := by
  unfold execSpareSelftestFail; exact (KeptN.next (Kept.live hs (fun _ hz0 => (selftestFail_kept hz0 _ (hm.sub rfl)))))

end Sys2Proof.Machine
end

