-- ==== Sys2Proof/Laws/KeptRegMap.lean ====
section
/-! SUPPORT. Each function of Machine/RegMap.lean keeps what `Kept` says. -/

set_option Elab.async false

namespace Sys2Proof.Machine

theorem withReserved_kept {μ : Nat} {s₀ : State} {s : State} (hs : Kept μ s₀ s) (r : RegDesc) (v : Nat)
    (hm : Within 0x1000000 μ) :
    Kept μ s₀ (withReserved s r v).2 := by
  unfold withReserved; exact (Kept.ite2 (State_takeFree_kept hs (hm.sub rfl)) hs)

theorem doorbellWrite_kept {μ : Nat} {s₀ : State} {s : State} (hs : Kept μ s₀ s) (tag : Nat) (off : Nat) (v : Nat)
    (hm : Within 0x200000000040 μ) :
    Kept μ s₀ (doorbellWrite s tag off v) := by
  unfold doorbellWrite; exact (Kept.ite (wdKick_kept hs _ (hm.sub rfl)) (Kept.ite (cpuTxTailWrite_kept hs _ _ (hm.sub rfl)) hs))

theorem regRead_kept {μ : Nat} {s₀ : State} {s : State} (hs : Kept μ s₀ s) (tag : Nat) (blk : Nat) (off : Nat)
    (hm : Within 0x48010000480101000140 μ) :
    Kept μ s₀ (regRead s tag blk off).2 := by
  unfold regRead
  exact (Kept.ite2 (Kept.ite2 hs (Kept.ite2 hs hs)) (by (try dsimp only); split; (· exact hs); (· exact (by (try dsimp only); split; (· exact (Kept.ite2 hs hs)); (· exact (Kept.ite2 (elogRd_kept hs _ (hm.sub rfl)) (withReserved_kept (Kept.ite (vectorLatch_kept hs (hm.sub rfl)) hs) _ _ (hm.sub rfl))))))))

end Sys2Proof.Machine
end

