-- ==== Sys2Proof/Laws/KeptSnapshot.lean ====
section
/-! SUPPORT. Each function of Machine/Snapshot.lean keeps what `Kept` says. -/

set_option Elab.async false

namespace Sys2Proof.Machine

theorem snapshot_kept {μ : Nat} {s₀ : State} {s : State} (hs : Kept μ s₀ s)
    (hm : Within 0x10000000100880002 μ) :
    Kept μ s₀ (snapshot s) := by
  unfold snapshot; exact (Kept.upd_880002 (Kept.setFld (State_count_kept hs _ _ (hm.sub rfl)) _ _ _ (hm.sub rfl)) (hm.sub rfl))

theorem execSnapshot_kept {μ : Nat} {s₀ : State} {s : State} (hs : Kept μ s₀ s)
    (hm : Within 0x10000000100880002 μ) :
    KeptN μ s₀ (execSnapshot s) := by
  unfold execSnapshot; exact (KeptN.next (Kept.live hs (fun _ h => snapshot_kept h (hm.sub rfl))))

theorem snapshotClear_kept {μ : Nat} {s₀ : State} {s : State} (hs : Kept μ s₀ s)
    (hm : Within 0xffffffff0000000100880002 μ) :
    Kept μ s₀ (snapshotClear s) := by
  unfold snapshotClear
  exact Kept.upd_80000 ((snapshot_kept hs (hm.sub rfl)).dropCnts _ (hm.sub rfl)) (hm.sub rfl)

theorem execSnapshotClear_kept {μ : Nat} {s₀ : State} {s : State} (hs : Kept μ s₀ s)
    (hm : Within 0xffffffff0000000100880002 μ) :
    KeptN μ s₀ (execSnapshotClear s) := by
  unfold execSnapshotClear; exact (KeptN.next (Kept.live hs (fun _ h => snapshotClear_kept h (hm.sub rfl))))

theorem snapEnd_kept {μ : Nat} {s₀ : State} {s : State} (hs : Kept μ s₀ s)
    (hm : Within 0xffffffff0000000000080002 μ) :
    Kept μ s₀ (snapEnd s) := by
  unfold snapEnd
  split
  · exact hs
  · exact Kept.upd_80002 (hs.dropCnts _ (hm.sub rfl)) (hm.sub rfl)

theorem readSnapTime_kept {μ : Nat} {s₀ : State} {s : State} (hs : Kept μ s₀ s)
    (hm : Within 0x100000004 μ) :
    Kept μ s₀ (readSnapTime s) := by
  unfold readSnapTime
  exact (Kept.ite (State_mbxRefuseBusy_kept hs _ (hm.sub rfl)) (by (try dsimp only); split; (· exact (State_mbxRefuse_kept hs _ (hm.sub rfl))); (· exact (State_mbxStart_kept hs _ _ (hm.sub rfl) (hm.sub rfl)))))

theorem execReadSnapTime_kept {μ : Nat} {s₀ : State} {s : State} (hs : Kept μ s₀ s)
    (hm : Within 0x100000004 μ) :
    KeptN μ s₀ (execReadSnapTime s) := by
  unfold execReadSnapTime; exact (KeptN.next (Kept.live hs (fun _ h => readSnapTime_kept h (hm.sub rfl))))

end Sys2Proof.Machine
end

