-- ==== Sys2Proof/Laws/KeptRegWrite.lean ====
section
/-! SUPPORT. Each function of Machine/RegWrite.lean keeps what `Kept` says. -/

set_option Elab.async false

namespace Sys2Proof.Machine

theorem writeField_kept {μ : Nat} {s₀ : State} {s : State} (hs : Kept μ s₀ s) (f : Fld) (i : Nat) (v : Nat)
    (hb1 : Within (blkBits f.blk) μ) :
    Kept μ s₀ (writeField s f i v) := by
  unfold writeField
  (try dsimp only)
  split
  · exact (Kept.ite hs (Kept.setFld hs _ _ _ (by exact hb1)))
  · exact (Kept.ite hs (Kept.setFld hs _ _ _ (by exact hb1)))
  · exact (Kept.setFld hs _ _ _ (by exact hb1))
  · exact hs

theorem writeFields_kept {μ : Nat} {s₀ : State} {s : State} (hs : Kept μ s₀ s) (r : RegDesc) (i : Nat) (j : Nat) (v : Nat) (but : List Fld)
    (hm : Within 0xffffffff00000000 μ) :
    Kept μ s₀ (writeFields s r i j v but) := by
  unfold writeFields
  exact Kept.foldl hs (fun _ f h => writeField_kept h _ _ _ ((blkBits_within f.blk).trans hm)) _

theorem writeIen_kept {μ : Nat} {s₀ : State} {s : State} (hs : Kept μ s₀ s) (r : RegDesc) (v : Nat)
    (hm : Within 0x4001ffffffff00000040 μ) :
    Kept μ s₀ (writeIen s r v) := by
  unfold writeIen
  exact (Kept.ite (State_blockIrq_kept (writeFields_kept hs _ _ _ _ _ (hm.sub rfl)) _ (hm.sub rfl)) (writeFields_kept hs _ _ _ _ _ (hm.sub rfl)))

theorem mbxOther_kept {μ : Nat} {s₀ : State} {s : State} (hs : Kept μ s₀ s) (blk : Nat)
    (hb1 : Within (blkBits blk) μ) :
    Kept μ s₀ (mbxOther s blk) := by
  unfold mbxOther; exact (Kept.ite (State_mbxRefuseBusy_kept hs _ (by exact hb1)) (State_mbxRefuse_kept hs _ (by exact hb1)))

theorem timeCmd_kept {μ : Nat} {s₀ : State} {s : State} (hs : Kept μ s₀ s) (c : Nat)
    (hm : Within 0x40000000401000014 μ) :
    Kept μ s₀ (timeCmd s c) := by
  unfold timeCmd
  (try dsimp only)
  split
  · exact (readNow_kept hs (hm.sub rfl))
  · exact (setAbs_kept hs (hm.sub rfl))
  · exact (stepRel_kept hs (hm.sub rfl))
  · exact (loadTout_kept hs (hm.sub rfl))
  · exact (popTin_kept hs (hm.sub rfl))
  · exact (mbxOther_kept hs _ (hm.sub rfl))

theorem tideMbxCmd_kept {μ : Nat} {s₀ : State} {s : State} (hs : Kept μ s₀ s) (c : Nat)
    (hm : Within 0x800000004 μ) :
    Kept μ s₀ (tideMbxCmd s c) := by
  unfold tideMbxCmd
  (try dsimp only)
  split
  · exact (readLive_kept hs (hm.sub rfl))
  · exact (timeToAngCmd_kept hs (hm.sub rfl))
  · exact (angToTimeCmd_kept hs (hm.sub rfl))
  · exact (mbxOther_kept hs _ (hm.sub rfl))

theorem swcMbxCmd_kept {μ : Nat} {s₀ : State} {s : State} (hs : Kept μ s₀ s) (c : Nat)
    (hm : Within 0x200000008004 μ) :
    Kept μ s₀ (swcMbxCmd s c) := by
  unfold swcMbxCmd
  (try dsimp only)
  split
  · exact (vlanRd_kept hs (hm.sub rfl))
  · exact (vlanWr_kept hs (hm.sub rfl))
  · exact (fdbRd_kept hs (hm.sub rfl))
  · exact (fdbWr_kept hs (hm.sub rfl))
  · exact (fdbDel_kept hs (hm.sub rfl))
  · exact (mcRd_kept hs (hm.sub rfl))
  · exact (mcWr_kept hs (hm.sub rfl))
  · exact (fdbRdIndex_kept hs (hm.sub rfl))
  · exact (mbxOther_kept hs _ (hm.sub rfl))

theorem nextOr_kept {μ : Nat} {s₀ : State} {s : State} {o : Host.Outcome State Fault Refusal} (hs : Kept μ s₀ s) (ho : KeptN μ s₀ o) :
    Kept μ s₀ (nextOr s o) := by
  cases o <;> first | exact ho | exact hs

theorem keysMbxCmd_kept {μ : Nat} {s₀ : State} {s : State} (hs : Kept μ s₀ s) (c : Nat)
    (hm : Within 0xc9610000cb6101040760 μ) :
    Kept μ s₀ (keysMbxCmd s c) := by
  unfold keysMbxCmd
  (try dsimp only)
  split
  · exact (nextOr_kept hs (execApply_kept hs (hm.sub rfl)))
  · exact (nextOr_kept hs (execApprove_kept hs (hm.sub rfl)))
  · exact (nextOr_kept hs (execAttest_kept hs (hm.sub rfl)))
  · exact (nextOr_kept hs (execMeasure_kept hs (hm.sub rfl)))
  · exact (nextOr_kept hs (execKeysExport_kept hs (hm.sub rfl)))
  · exact (nextOr_kept hs (execConfirm_kept hs (hm.sub rfl)))
  · exact (nextOr_kept hs (execImport_kept hs (hm.sub rfl)))
  · exact (nextOr_kept hs (execCommit_kept hs (hm.sub rfl)))
  · exact (nextOr_kept hs (execRootInstall_kept hs (hm.sub rfl)))
  · exact (nextOr_kept hs (execBurnRoot_kept hs (hm.sub rfl)))
  · exact (nextOr_kept hs (execLcDevelop_kept hs (hm.sub rfl)))
  · exact (nextOr_kept hs (execLcSeal_kept hs (hm.sub rfl)))
  · exact (nextOr_kept hs (execLcDecommission_kept hs (hm.sub rfl)))
  · exact (nextOr_kept hs (execExportKtk_kept hs (hm.sub rfl)))
  · exact (Kept.ite (State_setFlt_kept (State_mbxRefuseBusy_kept hs _ (hm.sub rfl)) _ (hm.sub rfl) (hm.sub rfl)) (keysRefuse_kept (openCause_kept hs (hm.sub rfl)) _ (hm.sub rfl)))

theorem bootMbxCmd_kept {μ : Nat} {s₀ : State} {s : State} (hs : Kept μ s₀ s) (c : Nat)
    (hm : Within 0x494100024b4100200364 μ) :
    Kept μ s₀ (bootMbxCmd s c) := by
  unfold bootMbxCmd
  (try dsimp only)
  split
  · exact (flashReadCmd_kept hs (hm.sub rfl))
  · exact (flashEraseCmd_kept hs (hm.sub rfl))
  · exact (flashProgCmd_kept hs (hm.sub rfl))
  · exact (bootConfirmCmd_kept hs (hm.sub rfl))
  · exact (setTrialCmd_kept hs (hm.sub rfl))
  · exact (forceRecoveryCmd_kept hs (hm.sub rfl))
  · exact (bootMbx_kept hs _ _ (hm.sub rfl))

theorem mbxCmd_kept {μ : Nat} {s₀ : State} {s : State} (hs : Kept μ s₀ s) (blk : Nat) (c : Nat)
    (hm : Within 0xc9650003eb6d01248774 μ) :
    Kept μ s₀ (mbxCmd s blk c) := by
  unfold mbxCmd
  (try dsimp only)
  split
  · exact (Kept.ite (readSnapTime_kept hs (hm.sub rfl)) (mbxOther_kept hs _ (hm.sub rfl)))
  · exact (timeCmd_kept hs _ (hm.sub rfl))
  · exact (tideMbxCmd_kept hs _ (hm.sub rfl))
  · exact (Kept.ite (readSched_kept hs (hm.sub rfl)) (mbxOther_kept hs _ (hm.sub rfl)))
  · exact (swcMbxCmd_kept hs _ (hm.sub rfl))
  · exact (keysMbxCmd_kept hs _ (hm.sub rfl))
  · exact (Kept.ite (readSec_kept hs (hm.sub rfl)) (mbxOther_kept hs _ (hm.sub rfl)))
  · exact (bootMbxCmd_kept hs _ (hm.sub rfl))
  · exact hs

theorem blockCmd_kept {μ : Nat} {s₀ : State} {s : State} (hs : Kept μ s₀ s) (blk : Nat) (tag : Nat) (c : Nat) (a : Nat)
    (hm : Within 0x4bc100004fd10002fbe0 μ) :
    Kept μ s₀ (blockCmd s blk tag c a) := by
  unfold blockCmd
  (try dsimp only)
  split
  · exact (tideCommand_kept hs _ _ (hm.sub rfl))
  · exact (tideCommand_kept hs _ _ (hm.sub rfl))
  · exact (clrTmax_kept hs (hm.sub rfl))
  · exact (estRestart_kept hs (hm.sub rfl))
  · exact (syncResetChannel_kept hs (hm.sub rfl))
  · exact (syncResetGroup_kept hs _ (hm.sub rfl))
  · exact (clrUsed_kept hs (hm.sub rfl))
  · exact (republish_kept hs (hm.sub rfl))
  · exact (clrSim_kept hs (hm.sub rfl))
  · exact (Kept.ite (twinRefuse_kept hs (hm.sub rfl)) (wakeStart_kept hs (hm.sub rfl)))
  · exact (twinYield_kept hs (hm.sub rfl))
  · exact (Kept.ite (twinRefuse_kept hs (hm.sub rfl)) (sendCtrl_kept (State_count_kept hs _ _ (hm.sub rfl)) _ _ (hm.sub rfl)))
  · exact (rallyUnalign_kept hs _ (hm.sub rfl))
  · exact (Kept.setFld hs _ _ _ (hm.sub rfl))
  · exact (drecTrigger_kept hs _ _ (hm.sub rfl))
  · exact (drecFree_kept hs (hm.sub rfl))
  · exact (Kept.foldl hs (fun _ _ h => freeSlot_kept h _ (hm.sub rfl)) _)
  · exact (elogClear_kept hs (hm.sub rfl))
  · exact (elogExport_kept hs (hm.sub rfl))
  · exact (flushFdbAll_kept hs (hm.sub rfl))
  · exact (flushFdbPort_kept hs (hm.sub rfl))
  · exact (partPulse_kept hs _ _ (hm.sub rfl))
  · exact hs

theorem writeEn_kept {μ : Nat} {s₀ : State} {s : State} (hs : Kept μ s₀ s) (f : Fld) (i : Nat) (v : Nat) (on : State → State) (kon : ∀ t , Kept μ s₀ t → Kept μ s₀ (on t )) (off : State → State) (koff : ∀ t , Kept μ s₀ t → Kept μ s₀ (off t )) :
    Kept μ s₀ (writeEn s f i v on off) := by
  unfold writeEn; exact (Kept.ite (kon _ hs) (Kept.ite (koff _ hs) hs))

theorem writeGen_kept {μ : Nat} {s₀ : State} {s : State} (hs : Kept μ s₀ s) (v : Nat)
    (hm : Within 0x49490000cb6900005be0 μ) :
    Kept μ s₀ (writeGen s v) := by
  unfold writeGen
  exact (Kept.foldl hs (fun _ _ hz0 => (Kept.ite (groupEnable_kept hz0 _ (hm.sub rfl)) (Kept.ite (groupDisable_kept hz0 _ (hm.sub rfl)) hz0))) _)

theorem writeRoute_kept {μ : Nat} {s₀ : State} {s : State} (hs : Kept μ s₀ s) (p : Nat) (v : Nat)
    (hm : Within 0x4801ffffffff00000060 μ) :
    Kept μ s₀ (writeRoute s p v) := by
  unfold writeRoute
  exact (Kept.ite hs (Kept.ite (State_rowLocked_kept hs _ _ _ (hm.sub rfl)) (Kept.ite (State_setFlt_kept hs _ (hm.sub rfl) (hm.sub rfl)) (Kept.ite (Kept.foldl (Kept.setFld (Kept.setFld (writeFields_kept hs _ _ _ _ _ (hm.sub rfl)) _ _ _ (hm.sub rfl)) _ _ _ (hm.sub rfl)) (fun _ _ hz0 => (State_routeIdent_kept hz0 _ _ (hm.sub rfl))) _) (writeFields_kept hs _ _ _ _ _ (hm.sub rfl))))))

theorem execIrqRouteEnable_kept {μ : Nat} {s₀ : State} {s : State} (hs : Kept μ s₀ s) (p : Nat) (v : Nat)
    (hm : Within 0x4801ffffffff00000060 μ) :
    KeptN μ s₀ (execIrqRouteEnable p v s) := by
  unfold execIrqRouteEnable; exact (KeptN.next (Kept.live hs (fun _ hz0 => (writeRoute_kept hz0 _ _ (hm.sub rfl)))))

theorem writeCur_kept {μ : Nat} {s₀ : State} {s : State} (hs : Kept μ s₀ s) (k : Nat) (v : Nat)
    (hm : Within 0x400000000000 μ) :
    Kept μ s₀ (writeCur s k v) := by
  unfold writeCur; exact (Kept.ite hs (Kept.setFld hs _ _ _ (hm.sub (b := blkBits 14) rfl)))

theorem sviCtlFields_kept {μ : Nat} {s₀ : State} {s : State} {s' : State} (hs : Kept μ s₀ s) (hs' : Kept μ s₀ s') (n : Nat)
    (hm : Within 0x800 μ) :
    Kept μ s₀ (sviCtlFields s s' n) := by
  unfold sviCtlFields; exact (Kept.ite hs' (State_setStream_kept hs' _ _ (hm.sub rfl)))

theorem writeBw_kept {μ : Nat} {s₀ : State} {s : State} (hs : Kept μ s₀ s) (p : Nat) (v : Nat)
    (hm : Within 0x4001ffffffff00000040 μ) :
    Kept μ s₀ (writeBw s p v) := by
  unfold writeBw
  exact (Kept.ite (State_setFlt_kept (writeFields_kept hs _ _ _ _ _ (hm.sub rfl)) _ (hm.sub rfl) (hm.sub rfl)) (Kept.setFld (writeFields_kept hs _ _ _ _ _ (hm.sub rfl)) _ _ _ (hm.sub rfl)))

theorem writeSlots_kept {μ : Nat} {s₀ : State} {s : State} (hs : Kept μ s₀ s) (p : Nat) (v : Nat)
    (hm : Within 0x4001ffffffff00000040 μ) :
    Kept μ s₀ (writeSlots s p v) := by
  unfold writeSlots; exact (Kept.ite (State_setFlt_kept hs _ (hm.sub rfl) (hm.sub rfl)) (writeFields_kept hs _ _ _ _ _ (hm.sub rfl)))

theorem writePartCtl_kept {μ : Nat} {s₀ : State} {s : State} (hs : Kept μ s₀ s) (p : Nat) (v : Nat)
    (hm : Within 0x4941ffffffff00000360 μ) :
    Kept μ s₀ (writePartCtl s p v) := by
  unfold writePartCtl
  exact (Kept.ite (Kept.ite (State_setFlt_kept (writeFields_kept hs _ _ _ _ _ (hm.sub rfl)) _ (hm.sub rfl) (hm.sub rfl)) (writeFields_kept hs _ _ _ _ _ (hm.sub rfl))) (holdWrite_kept (writeFields_kept hs _ _ _ _ _ (hm.sub rfl)) _ _ (hm.sub rfl)))

theorem writeDwd_kept {μ : Nat} {s₀ : State} {s : State} (hs : Kept μ s₀ s) (v : Nat)
    (hm : Within 0xffffffff00000040 μ) :
    Kept μ s₀ (writeDwd s v) := by
  unfold writeDwd
  exact (Kept.ite (Kept.upd_40 (writeFields_kept hs _ _ _ _ _ (hm.sub rfl)) (hm.sub rfl)) (writeFields_kept hs _ _ _ _ _ (hm.sub rfl)))

theorem clearCapture_kept {μ : Nat} {s₀ : State} {s : State} (hs : Kept μ s₀ s) (valid count : Fld)
    (hb1 : Within (blkBits count.blk) μ) :
    Kept μ s₀ (clearCapture s valid count) := by
  unfold clearCapture; exact (Kept.ite hs (Kept.setFld hs _ _ _ hb1))

theorem writeUtcofs_kept {μ : Nat} {s₀ : State} {s : State} (hs : Kept μ s₀ s) (v : Nat)
    (hm : Within 0xffffffff00000010 μ) :
    Kept μ s₀ (writeUtcofs s v) := by
  unfold writeUtcofs; exact (Kept.upd_10 (writeFields_kept hs _ _ _ _ _ (hm.sub rfl)) (hm.sub rfl))

theorem writeSlotReg_kept {μ : Nat} {s₀ : State} {s : State} (hs : Kept μ s₀ s) (r : RegDesc) (i : Nat) (j : Nat) (v : Nat)
    (hm : Within 0xffffffff00000000 μ) :
    Kept μ s₀ (writeSlotReg s r i j v) := by
  unfold writeSlotReg
  exact (Kept.ite (writeFields_kept (Kept.ite hs (clearMeasure_kept hs _ (hm.sub rfl))) _ _ _ _ _ (hm.sub rfl)) (clearMeasure_kept (writeFields_kept (Kept.ite hs (clearMeasure_kept hs _ (hm.sub rfl))) _ _ _ _ _ (hm.sub rfl)) _ (hm.sub rfl)))

theorem roleWritten_kept {μ : Nat} {s₀ : State} {s : State} {s' : State} (hs : Kept μ s₀ s) (hs' : Kept μ s₀ s')
    (hm : Within 0x2000000020000004000 μ) :
    Kept μ s₀ (roleWritten s s') := by
  unfold roleWritten; exact (Kept.ite hs' (lastSpare_kept hs' (hm.sub rfl)))

theorem twinCtrlWrite_kept {μ : Nat} {s₀ : State} {s : State} (hs : Kept μ s₀ s) (v : Nat)
    (hm : Within 0x4ac100004ac100006360 μ) :
    Kept μ s₀ (twinCtrlWrite s v) := by
  unfold twinCtrlWrite
  exact (joinSettle_kept (laneRefresh_kept (writeEn_kept hs _ _ _ _ (fun _ hz0 => (twinEnable_kept hz0 (hm.sub rfl))) _ (fun _ hz0 => (twinDisable_kept hz0 (hm.sub rfl)))) (hm.sub rfl)) (hm.sub rfl))

theorem writeOwnHigh_kept {μ : Nat} {s₀ : State} {s : State} (hs : Kept μ s₀ s) (init : Nat) (tag : Nat) (r : RegDesc) (i : Nat) (j : Nat) (v : Nat)
    (hm : Within 0x7fc5ffffffff0143fff8 μ) :
    KeptP μ s₀ (writeOwnHigh s init tag r i j v) := by
  unfold writeOwnHigh
  (try dsimp only)
  split
  · exact (KeptP.ite (KeptP.pair (twinCtrlWrite_kept (writeFields_kept hs _ _ _ _ _ (hm.sub rfl)) _ (hm.sub rfl))) (KeptP.ite (KeptP.some (blockCmd_kept hs _ _ _ _ (hm.sub rfl))) KeptP.none))
  · exact (KeptP.ite (KeptP.some (writeEn_kept (writeFields_kept hs _ _ _ _ _ (hm.sub rfl)) _ _ _ _ (fun _ h => drecEnable_kept h (hm.sub rfl)) _ (fun _ h => drecDisable_kept h (hm.sub rfl)))) (KeptP.ite (KeptP.some (blockCmd_kept hs _ _ _ _ (hm.sub rfl))) (KeptP.ite (KeptP.some (writeEn_kept (writeFields_kept hs _ _ _ _ _ (hm.sub rfl)) _ _ _ _ (fun _ hz1 => (unitEnable_kept hz1 _ (hm.sub rfl))) _ (fun _ hz1 => (State_setFlag_kept hz1 _ _ _ (hm.sub rfl))))) KeptP.none)))
  · exact (KeptP.ite (KeptP.some (blockCmd_kept hs _ _ _ _ (hm.sub rfl))) (KeptP.ite (KeptP.some (elogRdIdx_kept hs _ (hm.sub rfl))) (KeptP.ite (KeptP.some (swCode_kept hs _ _ _ (hm.sub rfl))) KeptP.none)))
  · exact (KeptP.ite (KeptP.some (i2cCmd_kept hs _ _ (hm.sub rfl))) (KeptP.ite (KeptP.some (writeEn_kept (writeFields_kept hs _ _ _ _ _ (hm.sub rfl)) _ _ _ _ (fun _ hz1 => (portEnable_kept hz1 _ (hm.sub rfl))) _ (fun _ hz1 => (portDisable_kept hz1 _ (hm.sub rfl))))) (KeptP.ite (KeptP.some (eqTxWrite_kept hs _ _ (hm.sub rfl))) (KeptP.ite (KeptP.some (portTxthrWrite_kept hs _ _ (hm.sub rfl))) (KeptP.ite (KeptP.some (portTestWrite_kept hs _ _ (hm.sub rfl))) KeptP.none)))))
  · exact (KeptP.ite (KeptP.some (writeEn_kept (writeFields_kept hs _ _ _ _ _ (hm.sub rfl)) _ _ _ _ (fun _ h => swcEnable_kept h (hm.sub rfl)) _ (fun _ hz1 => (State_setFlag_kept hz1 _ _ _ (hm.sub rfl))))) (KeptP.ite (KeptP.some (blockCmd_kept hs _ _ _ _ (hm.sub rfl))) (KeptP.ite (KeptP.some (writeEn_kept (writeFields_kept hs _ _ _ _ _ (hm.sub rfl)) _ _ _ _ (fun _ hz1 => (pairEnable_kept hz1 _ (hm.sub rfl))) _ (fun _ hz1 => (State_setFlag_kept hz1 _ _ _ (hm.sub rfl))))) (KeptP.ite (KeptP.some (ringEnable_kept (writeFields_kept hs _ _ _ _ _ (hm.sub rfl)) _ _ _ (hm.sub rfl))) KeptP.none))))
  · exact (KeptP.ite (KeptP.some (blockCmd_kept hs _ _ _ _ (hm.sub rfl))) (KeptP.ite (KeptP.some (dwdKick_kept hs _ (hm.sub rfl))) (KeptP.ite (KeptP.some (writeDwd_kept hs _ (hm.sub rfl))) (KeptP.ite (KeptP.some (writeCur_kept hs _ _ (hm.sub rfl))) (KeptP.ite (KeptP.some (writePartCtl_kept hs _ _ (hm.sub rfl))) (KeptP.ite (KeptP.some (wdConfigWrite_kept hs _ _ _ (hm.sub rfl))) (KeptP.ite (KeptP.some (wdConfigWrite_kept hs _ _ _ (hm.sub rfl))) (KeptP.ite (KeptP.some (writeBw_kept hs _ _ (hm.sub rfl))) (KeptP.ite (KeptP.some (writeSlots_kept hs _ _ (hm.sub rfl))) (KeptP.ite (KeptP.some (writeRoute_kept hs _ _ (hm.sub rfl))) KeptP.none))))))))))
  · exact KeptP.none

theorem writeOwn_kept {μ : Nat} {s₀ : State} {s : State} (hs : Kept μ s₀ s) (init : Nat) (tag : Nat) (r : RegDesc) (i : Nat) (j : Nat) (v : Nat)
    (hm : Within 0xffffffffffffffff01ffffff μ) :
    KeptP μ s₀ (writeOwn s init tag r i j v) := by
  unfold writeOwn
  exact (KeptP.ite (KeptP.some (mbxCmd_kept hs _ _ (hm.sub rfl))) (KeptP.ite (KeptP.ite (KeptP.some hs) KeptP.none) (KeptP.ite (KeptP.some (writeIen_kept hs _ _ (hm.sub rfl))) (KeptP.ite (KeptP.some (writeSlotReg_kept hs _ _ _ _ (hm.sub rfl))) (by (try dsimp only); split; (· exact (KeptP.ite (KeptP.some (Kept.ite (Kept.ite (snapshotClear_kept hs (hm.sub rfl)) (snapshot_kept hs (hm.sub rfl))) hs)) (KeptP.ite (KeptP.some (clearCapture_kept (writeFields_kept hs _ _ _ _ _ (hm.sub rfl)) _ _ (hm.sub rfl))) (KeptP.ite (KeptP.some (clearCapture_kept (writeFields_kept hs _ _ _ _ _ (hm.sub rfl)) _ _ (hm.sub rfl))) KeptP.none)))); (· exact (KeptP.ite (KeptP.some (softwareReset_kept hs _ (hm.sub rfl))) KeptP.none)); (· exact (KeptP.ite (KeptP.some (timeCtrlWrite_kept hs _ (hm.sub rfl))) (KeptP.ite (KeptP.some (Kept.ite (applyFadjSet_kept (writeFields_kept hs _ _ _ _ _ (hm.sub rfl)) (hm.sub rfl)) (writeFields_kept hs _ _ _ _ _ (hm.sub rfl)))) (KeptP.ite (KeptP.some (writeUtcofs_kept hs _ (hm.sub rfl))) (KeptP.ite (KeptP.some (toutArm_kept (writeFields_kept hs _ _ _ _ _ (hm.sub rfl)) _ _ (hm.sub rfl))) KeptP.none))))); (· exact (KeptP.ite (KeptP.some (writeGen_kept (writeFields_kept hs _ _ _ _ _ (hm.sub rfl)) _ (hm.sub rfl))) (KeptP.ite (KeptP.some (roleWritten_kept hs (writeFields_kept hs _ _ _ _ _ (hm.sub rfl)) (hm.sub rfl))) (KeptP.ite (KeptP.some (blockCmd_kept hs _ _ _ _ (hm.sub rfl))) KeptP.none)))); (· exact (KeptP.ite (KeptP.some (adepthWrite_kept hs _ _ _ (hm.sub rfl))) (KeptP.ite (KeptP.some (scaleWrite_kept hs _ _ (hm.sub rfl))) (KeptP.ite (KeptP.some (scaleWrite_kept hs _ _ (hm.sub rfl))) (KeptP.ite (KeptP.some (blockCmd_kept hs _ _ _ _ (hm.sub rfl))) (KeptP.ite (KeptP.some (writeEn_kept (sviCtlFields_kept hs (writeFields_kept hs _ _ _ _ _ (hm.sub rfl)) _ (hm.sub rfl)) _ _ _ _ (fun _ hz1 => (streamEnable_kept hz1 _ (hm.sub rfl))) _ (fun _ hz1 => (streamDisable_kept hz1 _ (hm.sub rfl))))) KeptP.none)))))); (· exact (KeptP.ite (KeptP.some (writeEn_kept (writeFields_kept hs _ _ _ _ _ (hm.sub rfl)) _ _ _ _ (fun _ hz1 => (State_setFlag_kept hz1 _ _ _ (hm.sub rfl))) _ (fun _ h => fdcDisable_kept h (hm.sub rfl)))) (KeptP.ite (KeptP.some (blockCmd_kept hs _ _ _ _ (hm.sub rfl))) (KeptP.ite (KeptP.some (writeEn_kept (writeFields_kept hs _ _ _ _ _ (hm.sub rfl)) _ _ _ _ (fun _ hz1 => (fdcChannelEnable_kept hz1 _ (hm.sub rfl))) _ (fun _ hz1 => (fdcChannelDisable_kept hz1 _ (hm.sub rfl))))) KeptP.none)))); (· exact (KeptP.ite (KeptP.some (blockCmd_kept hs _ _ _ _ (hm.sub rfl))) KeptP.none)); (· exact (KeptP.ite (KeptP.some (blockCmd_kept hs _ _ _ _ (hm.sub rfl))) (KeptP.ite (KeptP.some (writeEn_kept (writeFields_kept hs _ _ _ _ _ (hm.sub rfl)) _ _ _ _ (fun _ hz1 => (gooseBlockEnable_kept hz1 _ (hm.sub rfl))) _ (fun _ hz1 => (gooseBlockDisable_kept hz1 _ (hm.sub rfl))))) (KeptP.ite (KeptP.some (writeEn_kept (Kept.ite (writeFields_kept hs _ _ _ _ _ (hm.sub rfl)) (State_setFlag_kept (writeFields_kept hs _ _ _ _ _ (hm.sub rfl)) _ _ _ (hm.sub rfl))) _ _ _ _ (fun _ hz1 => (gooseSubEnable_kept hz1 _ (hm.sub rfl))) _ (fun _ hz1 => (gooseSubDisable_kept hz1 _ (hm.sub rfl))))) KeptP.none)))); (· exact (KeptP.ite (KeptP.some (writeEn_kept (writeFields_kept hs _ _ _ _ _ (hm.sub rfl)) _ _ _ _ (fun _ hz1 => (gateEnable_kept hz1 _ (hm.sub rfl))) _ (fun _ hz1 => (gateDisable_kept hz1 _ (hm.sub rfl))))) (KeptP.ite (KeptP.some (State_setFlag_kept (writeFields_kept hs _ _ _ _ _ (hm.sub rfl)) _ _ _ (hm.sub rfl))) (KeptP.ite (KeptP.some (State_setFlag_kept (writeFields_kept hs _ _ _ _ _ (hm.sub rfl)) _ _ _ (hm.sub rfl))) (KeptP.ite (KeptP.some (Kept.ite (gateCommit_kept hs _ (hm.sub rfl)) hs)) KeptP.none))))); (· exact (writeOwnHigh_kept hs _ _ _ _ _ _ (hm.sub rfl))))))))

theorem writeShadow_kept {μ : Nat} {s₀ : State} {s : State} (hs : Kept μ s₀ s) (init : Nat) (tag : Nat) (addr : Nat) (r : RegDesc) (v : Nat)
    (hm : Within 0x48010001480100100060 μ) :
    KeptP μ s₀ (writeShadow s init tag addr r v) := by
  unfold writeShadow
  exact (KeptP.ite (KeptP.some (Kept.ite2 (aonEnqueue_kept hs _ _ (hm.sub rfl)) (State_busError_kept (aonEnqueue_kept hs _ _ (hm.sub rfl)) _ _ _ _ _ (hm.sub rfl)))) KeptP.none)

theorem writeReg_kept {μ : Nat} {s₀ : State} {s : State} (hs : Kept μ s₀ s) (init : Nat) (tag : Nat) (addr : Nat) (r : RegDesc) (i : Nat) (j : Nat) (v : Nat)
    (hm : Within 0xffffffffffffffff01ffffff μ) :
    Kept μ s₀ (writeReg s init tag addr r i j v).2 := by
  unfold writeReg; split
  · exact State_lockViolation_kept hs _ _ _ (hm.sub rfl)
  · split
    · exact Kept.of_someVar ‹_› (writeShadow_kept hs _ _ _ _ _ (hm.sub rfl))
    · exact KeptP.getD (writeOwn_kept hs _ _ _ _ _ _ (hm.sub rfl)) (writeFields_kept hs _ _ _ _ _ (hm.sub rfl))

theorem regWriteAt_kept {μ : Nat} {s₀ : State} {s : State} (hs : Kept μ s₀ s) (init : Nat) (tag : Nat) (blk : Nat) (off : Nat) (v : Nat) (a7 : Option (Nat × Nat))
    (hm : Within 0xffffffffffffffff01ffffff μ) :
    Kept μ s₀ (regWriteAt s init tag blk off v a7).2 := by
  unfold regWriteAt
  (try dsimp only)
  split
  · exact hs
  · exact (by (try dsimp only); split; (· exact hs); (· exact (writeReg_kept hs _ _ _ _ _ _ _ (hm.sub rfl))))

theorem partPageWrite_kept {μ : Nat} {s₀ : State} {s : State} (hs : Kept μ s₀ s) (tag : Nat) (off : Nat) (v : Nat)
    (hm : Within 0x200000400040 μ) :
    Kept μ s₀ (partPageWrite s tag off v).2 := by
  have h1 := iommuWrite_kept hs (off - 0x8000) v (hm.sub rfl)
  have h2 := doorbellWrite_kept hs tag (off - 0xC000) v (hm.sub rfl)
  unfold partPageWrite
  generalize iommuWrite s (off - 0x8000) v = a at h1 ⊢
  generalize doorbellWrite s tag (off - 0xC000) v = b at h2 ⊢
  exact Kept.ite2 (s := (true, a)) h1 (Kept.ite2 (s := (true, b)) (t := (true, s)) h2 hs)

theorem regWrite_kept {μ : Nat} {s₀ : State} {s : State} (hs : Kept μ s₀ s) (init : Nat) (tag : Nat) (blk : Nat) (off : Nat) (v : Nat)
    (hm : Within 0xffffffffffffffff01ffffff μ) :
    Kept μ s₀ (regWrite s init tag blk off v).2 := by
  unfold regWrite; exact (Kept.ite2 (partPageWrite_kept hs _ _ _ (hm.sub rfl)) (regWriteAt_kept hs _ _ _ _ _ _ (hm.sub rfl)))

theorem someFst_kept {μ : Nat} {s₀ : State} {p : Nat × State} (hp : Kept μ s₀ p.2) :
    Kept μ s₀ (someFst p).2 := by
  unfold someFst; exact hp

theorem admittedRead_kept {μ : Nat} {s₀ : State} {p : Bool × State} (hp : Kept μ s₀ p.2) (init : Nat) (tag : Nat) (a : Nat)
    (hm : Within 0x48010000480101000160 μ) :
    Kept μ s₀ (admittedRead init tag a p).2 := by
  unfold admittedRead
  exact (Kept.ite2 hp (Kept.ite2 (someFst_kept (regRead_kept hp _ _ _ (hm.sub rfl))) (State_busError_kept hp _ _ _ _ _ (hm.sub rfl))))

theorem busReadWord_kept {μ : Nat} {s₀ : State} {s : State} (hs : Kept μ s₀ s) (init : Nat) (tag : Nat) (a : Nat)
    (hm : Within 0x494100004b4101000360 μ) :
    Kept μ s₀ (busReadWord s init tag a).2 := by
  unfold busReadWord; exact (admittedRead_kept (bwAdmit_kept hs _ _ _ _ _ (hm.sub rfl)) _ _ _ (hm.sub rfl))

theorem busWriteWord_kept {μ : Nat} {s₀ : State} {s : State} (hs : Kept μ s₀ s) (init : Nat) (tag : Nat) (a : Nat) (v : Nat)
    (hm : Within 0xffffffffffffffff01ffffff μ) :
    Kept μ s₀ (busWriteWord s init tag a v).2 := by
  unfold busWriteWord
  exact (Kept.ite2 (bwAdmit_kept hs _ _ _ _ _ (hm.sub rfl)) (Kept.ite2 (State_busError_kept (bwAdmit_kept hs _ _ _ _ _ (hm.sub rfl)) _ _ _ _ _ (hm.sub rfl)) (regWrite_kept (bwAdmit_kept hs _ _ _ _ _ (hm.sub rfl)) _ _ _ _ _ (hm.sub rfl))))

theorem busWriteWords_kept {μ : Nat} {s₀ : State} {s : State} (hs : Kept μ s₀ s) (init : Nat) (tag : Nat) (a4 : Nat) (a5 : List Nat)
    (hm : Within 0xffffffffffffffff01ffffff μ) :
    Kept μ s₀ (busWriteWords s init tag a4 a5).2 := by
  unfold busWriteWords; (try dsimp only); split; (· exact hs); (· exact (busWriteWords_kept (busWriteWord_kept hs _ _ _ _ (hm.sub rfl)) _ _ _ _ hm))

theorem busReadWords_kept {μ : Nat} {s₀ : State} {s : State} (hs : Kept μ s₀ s) (init : Nat) (tag : Nat) (a : Nat) (a5 : Nat)
    (hm : Within 0x494100004b4101000360 μ) :
    Kept μ s₀ (busReadWords s init tag a a5).2 := by
  unfold busReadWords; (try dsimp only); split; (· exact hs); (· exact (busReadWords_kept (busReadWord_kept hs _ _ _ (hm.sub rfl)) _ _ _ _ hm))

theorem busWrite_kept {μ : Nat} {s₀ : State} {s : State} (hs : Kept μ s₀ s) (init : Nat) (tag : Nat) (a : Nat) (l : List Nat)
    (hm : Within 0xffffffffffffffff01ffffff μ) :
    Kept μ s₀ (busWrite s init tag a l).2 := by
  unfold busWrite
  (try dsimp only)
  split
  · exact (Kept.ite (State_busError_kept (bwAdmit_kept hs _ _ _ _ _ (hm.sub rfl)) _ _ _ _ _ (hm.sub rfl)) (bwAdmit_kept hs _ _ _ _ _ (hm.sub rfl)))
  · exact (busWriteWords_kept hs _ _ _ _ (hm.sub rfl))

theorem busRead_kept {μ : Nat} {s₀ : State} {s : State} (hs : Kept μ s₀ s) (init : Nat) (tag : Nat) (a : Nat) (n : Nat)
    (hm : Within 0x494100004b4101000360 μ) :
    Kept μ s₀ (busRead s init tag a n).2 := by
  unfold busRead
  (try dsimp only)
  split
  · exact (Kept.ite (State_busError_kept (bwAdmit_kept hs _ _ _ _ _ (hm.sub rfl)) _ _ _ _ _ (hm.sub rfl)) (bwAdmit_kept hs _ _ _ _ _ (hm.sub rfl)))
  · exact (busReadWords_kept hs _ _ _ _ (hm.sub rfl))

end Sys2Proof.Machine
end

