-- ==== Sys2Proof/Laws/KeptAccess.lean ====
section
/-! SUPPORT. Each function of Machine/Access.lean keeps what `Kept` says. -/

set_option Elab.async false

namespace Sys2Proof.Machine

theorem cacheUe_kept {μ : Nat} {s₀ : State} {s : State} (hs : Kept μ s₀ s) (addr : Nat) (cause : Nat) (core : Nat)
    (hm : Within 0x48010000480100000060 μ) :
    Kept μ s₀ (cacheUe s addr cause core) := by
  unfold cacheUe; exact (State_event_kept (State_setFlt_kept hs _ (hm.sub rfl) (hm.sub rfl)) _ _ _ _ _ _ (hm.sub rfl))

theorem lineWriteback_kept {μ : Nat} {s₀ : State} {s : State} (hs : Kept μ s₀ s) (core : Nat) (addr : Nat)
    (hm : Within 0x48010000480100000460 μ) :
    Kept μ s₀ (lineWriteback s core addr) := by
  unfold lineWriteback; exact (cacheUe_kept (Kept.ite (Kept.upd_400 hs (hm.sub rfl)) hs) _ _ _ (hm.sub rfl))

theorem fabRead_kept {μ : Nat} {s₀ : State} {s : State} (hs : Kept μ s₀ s) (init : Nat) (tag : Nat) (kind : Nat) (a : Nat) (n : Nat)
    (hm : Within 0x496100004b6101000760 μ) :
    Kept μ s₀ (fabRead s init tag kind a n).2 := by
  unfold fabRead
  exact (Kept.ite2 (busRead_kept hs _ _ _ _ (hm.sub rfl)) (Kept.ite2 (memRead_kept (bwAdmit_kept hs _ _ _ _ _ (hm.sub rfl)) _ _ _ _ (hm.sub rfl)) (bwAdmit_kept hs _ _ _ _ _ (hm.sub rfl))))

theorem fabWrite_kept {μ : Nat} {s₀ : State} {s : State} (hs : Kept μ s₀ s) (init : Nat) (tag : Nat) (a : Nat) (l : List Nat)
    (hm : Within 0xffffffffffffffff01ffffff μ) :
    Kept μ s₀ (fabWrite s init tag a l).2 := by
  unfold fabWrite; exact (Kept.ite2 (busWrite_kept hs _ _ _ _ (hm.sub rfl)) (dmaWrite_kept hs _ _ _ _ (hm.sub rfl)))

theorem fabricDo_kept {μ : Nat} {s₀ : State} {s : State} (hs : Kept μ s₀ s) (r : FabReq)
    (hm : Within 0x48610000c86101400568 μ) :
    Kept μ s₀ (fabricDo s r).2 := by
  unfold fabricDo; dsimp only
  split
  · exact memWrite_kept hs r.init r.tag r.addr r.data (hm.sub rfl)
  · split
    · dsimp only; exact cacheUe_kept (State_busError_kept hs 7 r.init r.tag r.addr false (hm.sub rfl)) r.addr 2 _ (hm.sub rfl)
    · exact memRead_kept hs _ _ _ _ (hm.sub rfl)

theorem fabricRegs_kept {μ : Nat} {s₀ : State} {s : State} (hs : Kept μ s₀ s) (r : FabReq)
    (hm : Within 0xffffffffffffffff01ffffff μ) :
    Kept μ s₀ (fabricRegs s r).2 := by
  unfold fabricRegs; exact (Kept.ite2 (busWrite_kept hs _ _ _ _ (hm.sub rfl)) (busRead_kept hs _ _ _ _ (hm.sub rfl)))

theorem fabricEnd_kept {μ : Nat} {s₀ : State} {x : Option (List Nat) × State} (hx : Kept μ s₀ x.2)
    (hm : Within 0x400 μ) :
    Kept μ s₀ (fabricEnd x) := by
  unfold fabricEnd; exact (Kept.upd_400 hx (hm.sub rfl))

theorem fabricAdmitted_kept {μ : Nat} {s₀ : State} {s : State} (hs : Kept μ s₀ s) (r : FabReq)
    (hm : Within 0x48610000c86101400568 μ) :
    Kept μ s₀ (fabricAdmitted s r) := by
  unfold fabricAdmitted; exact (Kept.ite (Kept.upd_400 hs (hm.sub rfl)) (fabricEnd_kept (fabricDo_kept hs _ (hm.sub rfl)) (hm.sub rfl)))

theorem fabricAccess_kept {μ : Nat} {s₀ : State} {s : State} (hs : Kept μ s₀ s) (r : FabReq)
    (hm : Within 0xffffffffffffffff01ffffff μ) :
    Kept μ s₀ (fabricAccess s r) := by
  unfold fabricAccess
  exact (Kept.ite hs (Kept.ite (fabricEnd_kept (fabricRegs_kept hs _ (hm.sub rfl)) (hm.sub rfl)) (Kept.ite (Kept.upd_400 hs (hm.sub rfl)) (Kept.ite (fabricAdmitted_kept (bwAdmit_kept hs _ _ _ _ _ (hm.sub rfl)) _ (hm.sub rfl)) (fabricEnd_kept (bwAdmit_kept hs _ _ _ _ _ (hm.sub rfl)) (hm.sub rfl))))))

theorem serveWaiting_kept {μ : Nat} {s₀ : State} {a2 : State} (ha2 : Kept μ s₀ a2) (a1 : Nat)
    (hm : Within 0x48610000c86101400568 μ) :
    Kept μ s₀ (serveWaiting a1 a2) := by
  unfold serveWaiting
  (try dsimp only)
  split
  · exact ha2
  · exact (by (try dsimp only); split; (· exact ha2); (· exact (serveWaiting_kept (fabricEnd_kept (fabricDo_kept (Kept.upd_400 ha2 (hm.sub rfl)) _ (hm.sub rfl)) (hm.sub rfl)) _ hm)))

theorem qosPeriod_kept {μ : Nat} {s₀ : State} {s : State} (hs : Kept μ s₀ s)
    (hm : Within 0xffffffffffffffff01ffffff μ) :
    Kept μ s₀ (qosPeriod s) := by
  unfold qosPeriod
  exact (Kept.foldl (Kept.upd_400 (serveWaiting_kept (Kept.upd_400 hs (hm.sub rfl)) _ (hm.sub rfl)) (hm.sub rfl)) (fun _ _ h => fabricAccess_kept h _ (hm.sub rfl)) _)

theorem execQosPeriodStart_kept {μ : Nat} {s₀ : State} {s : State} (hs : Kept μ s₀ s)
    (hm : Within 0xffffffffffffffff01ffffff μ) :
    KeptN μ s₀ (execQosPeriodStart s) := by
  unfold execQosPeriodStart; exact (KeptN.next (Kept.live hs (fun _ h => qosPeriod_kept h (hm.sub rfl))))

end Sys2Proof.Machine
end

