-- ==== Sys2Proof/Laws/KeptBoot.lean ====
section
/-! SUPPORT. Each function of Machine/Boot.lean keeps what `Kept` says. -/

set_option Elab.async false

namespace Sys2Proof.Machine

theorem memInit_kept {μ : Nat} {s₀ : State} {s : State} (hs : Kept μ s₀ s) (mcb : Bool) (ranks : List Nat)
    (hm : Within 0x48010000480100000060 μ) :
    Kept μ s₀ (memInit s mcb ranks) := by
  unfold memInit
  exact (Kept.ite (State_event_kept (State_setFlt_kept (State_setFlag_kept hs _ _ _ (Within.iteF (hm.sub rfl) (hm.sub rfl))) _ (hm.sub rfl) (hm.sub rfl)) _ _ _ _ _ _ (hm.sub rfl)) (Kept.setFld (Kept.setFld (State_setFlag_kept hs _ _ _ (Within.iteF (hm.sub rfl) (hm.sub rfl))) _ _ _ (Within.iteF (hm.sub rfl) (hm.sub rfl))) _ _ _ (Within.iteF (hm.sub rfl) (hm.sub rfl))))

theorem stageStores_kept {μ : Nat} {s₀ : State} {s : State} (hs : Kept μ s₀ s)
    (hm : Within 0x49410000cb4100400768 μ) :
    Kept μ s₀ (stageStores s) := by
  unfold stageStores; exact (Kept.foldl hs (fun _ _ hz0 => (engineWrite_kept hz0 _ _ _ _ (hm.sub rfl))) _)

theorem setCause_kept {μ : Nat} {s₀ : State} {s : State} (hs : Kept μ s₀ s) (slot : Nat) (c : Nat)
    (hm : Within 0x2000000000000 μ) :
    Kept μ s₀ (setCause s slot c) := by
  unfold setCause; exact (Kept.setFld hs _ _ _ (Within.iteF (hm.sub rfl) (hm.sub rfl)))

theorem bootNext_kept {μ : Nat} {s₀ : State} {s : State} (hs : Kept μ s₀ s) (a2 : List Nat)
    (hm : Within 0x78050003780500218071 μ) :
    Kept μ s₀ (bootNext s a2) := by
  unfold bootNext
  (try dsimp only)
  split
  · exact (enterRecovery_kept (Kept.upd_200000 hs (hm.sub rfl)) (hm.sub rfl))
  · exact (Kept.ite (bootNext_kept (setCause_kept hs _ _ (hm.sub rfl)) _ hm) (Kept.upd_200000 (Kept.setFld hs _ _ _ (hm.sub rfl)) (hm.sub rfl)))

theorem bootChoose_kept {μ : Nat} {s₀ : State} {s : State} (hs : Kept μ s₀ s)
    (hm : Within 0x78050003780500218071 μ) :
    Kept μ s₀ (bootChoose s) := by
  unfold bootChoose
  exact (Kept.ite (enterRecovery_kept (State_setSh_kept (Kept.ite hs (State_setSh_kept (State_setSh_kept (State_setSh_kept (State_setSh_kept hs _ _ (hm.sub rfl) (hm.sub rfl)) _ _ (hm.sub rfl) (hm.sub rfl)) _ _ (hm.sub rfl) (hm.sub rfl)) _ _ (hm.sub rfl) (hm.sub rfl))) _ _ (hm.sub rfl) (hm.sub rfl)) (hm.sub rfl)) (bootNext_kept (Kept.upd_200000 (State_setSh_kept (Kept.ite (State_event_kept (State_setFlt_kept (State_setSh_kept (Kept.ite hs (State_setSh_kept (State_setSh_kept (State_setSh_kept (State_setSh_kept hs _ _ (hm.sub rfl) (hm.sub rfl)) _ _ (hm.sub rfl) (hm.sub rfl)) _ _ (hm.sub rfl) (hm.sub rfl)) _ _ (hm.sub rfl) (hm.sub rfl))) _ _ (hm.sub rfl) (hm.sub rfl)) _ (hm.sub rfl) (hm.sub rfl)) _ _ _ _ _ _ (hm.sub rfl)) (Kept.ite hs (State_setSh_kept (State_setSh_kept (State_setSh_kept (State_setSh_kept hs _ _ (hm.sub rfl) (hm.sub rfl)) _ _ (hm.sub rfl) (hm.sub rfl)) _ _ (hm.sub rfl) (hm.sub rfl)) _ _ (hm.sub rfl) (hm.sub rfl)))) _ _ (hm.sub rfl) (hm.sub rfl)) (hm.sub rfl)) _ (hm.sub rfl)))

theorem bootInitDone_kept {μ : Nat} {s₀ : State} {s : State} (hs : Kept μ s₀ s) (dens : Option Nat) (ranksA : List Nat) (ranksB : List Nat)
    (hm : Within 0x79450003fb4700618779 μ) :
    Kept μ s₀ (bootInitDone s dens ranksA ranksB) := by
  unfold bootInitDone
  exact (Kept.ite hs (by (try dsimp only); split; (· exact (Kept.setFld (memInit_kept (memInit_kept (Kept.setFld hs _ _ _ (hm.sub rfl)) _ _ (hm.sub rfl)) _ _ (hm.sub rfl)) _ _ _ (hm.sub rfl))); (· exact (Kept.ite (Kept.setFld (memInit_kept (memInit_kept (Kept.setFld hs _ _ _ (hm.sub rfl)) _ _ (hm.sub rfl)) _ _ (hm.sub rfl)) _ _ _ (hm.sub rfl)) (bootChoose_kept (stageStores_kept (Kept.upd_200000 (Kept.upd_200000 (memInit_kept (memInit_kept (Kept.setFld hs _ _ _ (hm.sub rfl)) _ _ (hm.sub rfl)) _ _ (hm.sub rfl)) (hm.sub rfl)) (hm.sub rfl)) (hm.sub rfl)) (hm.sub rfl))))))

theorem execBootInitDone_kept {μ : Nat} {s₀ : State} {s : State} (hs : Kept μ s₀ s) (dens : Option Nat) (ranksA : List Nat) (trainedA : Bool) (ranksB : List Nat) (trainedB : Bool)
    (hm : Within 0x79450003fb4700618779 μ) :
    KeptN μ s₀ (execBootInitDone dens ranksA trainedA ranksB trainedB s) := by
  unfold execBootInitDone; exact (KeptN.next (Kept.live hs (fun _ hz0 => (bootInitDone_kept hz0 _ _ _ (hm.sub rfl)))))

theorem bootReject_kept {μ : Nat} {s₀ : State} {s : State} (hs : Kept μ s₀ s) (c : Nat) (inLoad : Bool)
    (hm : Within 0x78050003780500218071 μ) :
    Kept μ s₀ (bootReject s c inLoad) := by
  unfold bootReject
  exact (bootNext_kept (Kept.ite (State_setFlag_kept (Kept.ite (State_setFlt_kept (State_event_kept (setCause_kept hs _ _ (hm.sub rfl)) _ _ _ _ _ _ (hm.sub rfl)) _ (hm.sub rfl) (hm.sub rfl)) (State_event_kept (setCause_kept hs _ _ (hm.sub rfl)) _ _ _ _ _ _ (hm.sub rfl))) _ _ _ (hm.sub rfl)) (Kept.ite (State_setFlt_kept (State_event_kept (setCause_kept hs _ _ (hm.sub rfl)) _ _ _ _ _ _ (hm.sub rfl)) _ (hm.sub rfl) (hm.sub rfl)) (State_event_kept (setCause_kept hs _ _ (hm.sub rfl)) _ _ _ _ _ _ (hm.sub rfl)))) _ (hm.sub rfl))

theorem offerStore_kept {μ : Nat} {s₀ : State} {s : State} (hs : Kept μ s₀ s) (a2 : List Nat)
    (hm : Within 0xc9610000cb6101140761 μ) :
    Kept μ s₀ (offerStore s a2) := by
  unfold offerStore
  (try dsimp only)
  split
  · exact hs
  · exact (Kept.ite hs (by (try dsimp only); split; (· exact (offerStore_kept (Kept.of_pair ‹_› (engineRead_kept hs _ _ _ _ (hm.sub rfl))) _ hm)); (· exact (Kept.ite (importImage_kept (Kept.of_pair ‹_› (engineRead_kept hs _ _ _ _ (hm.sub rfl))) _ (hm.sub rfl)) (offerStore_kept (importImage_kept (Kept.of_pair ‹_› (engineRead_kept hs _ _ _ _ (hm.sub rfl))) _ (hm.sub rfl)) _ hm)))))

theorem bootRoot_kept {μ : Nat} {s₀ : State} {s : State} (hs : Kept μ s₀ s)
    (hm : Within 0xc8010000c80101040060 μ) :
    Kept μ s₀ (bootRoot s) := by
  unfold bootRoot
  exact (Kept.ite hs (Kept.ite (rootInstall_kept (rootCause_kept hs _ _ (hm.sub rfl)) _ _ (hm.sub rfl)) (rootCause_kept hs _ _ (hm.sub rfl))))

theorem bootKeys_kept {μ : Nat} {s₀ : State} {s : State} (hs : Kept μ s₀ s)
    (hm : Within 0xc9610000cb6101140761 μ) :
    Kept μ s₀ (bootKeys s) := by
  unfold bootKeys; exact (bootRoot_kept (offerStore_kept hs _ (hm.sub rfl)) (hm.sub rfl))

theorem bootAccept_kept {μ : Nat} {s₀ : State} {s : State} (hs : Kept μ s₀ s) (b : List Nat) (unapproved : Bool)
    (hm : Within 0x2000000200000 μ) :
    Kept μ s₀ (bootAccept s b unapproved) := by
  unfold bootAccept
  exact (Kept.upd_200000 (Kept.setFld (State_setFlag_kept (Kept.setFld (setWords_kept (setCause_kept hs _ _ (hm.sub rfl)) _ _ (hm.sub rfl)) _ _ _ (hm.sub rfl)) _ _ _ (hm.sub rfl)) _ _ _ (hm.sub rfl)) (hm.sub rfl))

theorem bootSlotLoaded_kept {μ : Nat} {s₀ : State} {s : State} (hs : Kept μ s₀ s) (readErr : Bool)
    (hm : Within 0xf9650003fb6501758779 μ) :
    Kept μ s₀ (bootSlotLoaded s readErr) := by
  unfold bootSlotLoaded; extract_lets k head b
  refine Kept.ite hs (Kept.ite (bootReject_kept hs _ _ (hm.sub rfl)) (Kept.ite (bootReject_kept hs _ _ (hm.sub rfl)) (Kept.ite (bootReject_kept hs _ _ (hm.sub rfl)) ?_)))
  have h := engineWrite_kept hs initBoot (b.length / 64 + 1) (stageBundle s) b (hm.sub rfl)
  generalize engineWrite initBoot (b.length / 64 + 1) s (stageBundle s) b = p at h ⊢
  obtain ⟨ok, t⟩ := p
  dsimp only
  refine Kept.ite (bootReject_kept h _ _ (hm.sub rfl)) ?_
  have h1 := bootKeys_kept (Kept.setFld h F.BOOT_STAT_STATE bsVerify 0 (hm.sub rfl)) (hm.sub rfl)
  split
  · exact bootAccept_kept h1 _ _ (hm.sub rfl)
  · exact bootReject_kept h1 _ _ (hm.sub rfl)

theorem execBootSlotLoaded_kept {μ : Nat} {s₀ : State} {s : State} (hs : Kept μ s₀ s) (readErr : Bool)
    (hm : Within 0xf9650003fb6501758779 μ) :
    KeptN μ s₀ (execBootSlotLoaded readErr s) := by
  unfold execBootSlotLoaded; exact (KeptN.next (Kept.live hs (fun _ hz0 => (bootSlotLoaded_kept hz0 _ (hm.sub rfl)))))

theorem applyEntry_kept {μ : Nat} {s₀ : State} {s : State} (hs : Kept μ s₀ s) (e : List Nat)
    (hm : Within 0xffffffffffffffff01ffffff μ) :
    Kept μ s₀ (applyEntry s e).2 := by
  unfold applyEntry
  exact (Kept.ite2 (busWriteWord_kept (Kept.foldl hs (fun _ _ hz0 => (Kept.foldl hz0 (fun _ _ hz1 => (measure_kept hz1 _ (hm.sub rfl))) _)) _) _ _ _ _ (hm.sub rfl)) (Kept.ite2 (busWriteWord_kept (Kept.foldl hs (fun _ _ hz0 => (Kept.foldl hz0 (fun _ _ hz1 => (measure_kept hz1 _ (hm.sub rfl))) _)) _) _ _ _ _ (hm.sub rfl)) (by (try dsimp only); split; (· exact (Kept.of_pair ‹_› (busReadWord_kept (busWriteWord_kept (Kept.foldl hs (fun _ _ hz1 => (Kept.foldl hz1 (fun _ _ hz2 => (measure_kept hz2 _ (hm.sub rfl))) _)) _) _ _ _ _ (hm.sub rfl)) _ _ _ (hm.sub rfl)))); (· exact (Kept.of_pair ‹_› (busReadWord_kept (busWriteWord_kept (Kept.foldl hs (fun _ _ hz1 => (Kept.foldl hz1 (fun _ _ hz2 => (measure_kept hz2 _ (hm.sub rfl))) _)) _) _ _ _ _ (hm.sub rfl)) _ _ _ (hm.sub rfl)))))))

theorem applyRegs_kept {μ : Nat} {s₀ : State} {s : State} (hs : Kept μ s₀ s) (a : Nat) (a3 : Nat)
    (hm : Within 0xffffffffffffffff01ffffff μ) :
    Kept μ s₀ (applyRegs s a a3).2 := by
  unfold applyRegs
  (try dsimp only)
  split
  · exact hs
  · exact (by (try dsimp only); split; (· exact (Kept.of_pair ‹_› (dmaRead_kept hs _ _ _ _ (hm.sub rfl)))); (· exact (by (try dsimp only); split; (· exact (Kept.of_pair ‹_› (applyEntry_kept (Kept.of_pair ‹_› (dmaRead_kept hs _ _ _ _ (hm.sub rfl))) _ (hm.sub rfl)))); (· exact (applyRegs_kept (Kept.of_pair ‹_› (applyEntry_kept (Kept.of_pair ‹_› (dmaRead_kept hs _ _ _ _ (hm.sub rfl))) _ (hm.sub rfl))) _ _ hm)))))

theorem applySection_kept {μ : Nat} {s₀ : State} {s : State} (hs : Kept μ s₀ s) (x : BootSec)
    (hm : Within 0xffffffffffffffff01ffffff μ) :
    Kept μ s₀ (applySection s x).2 := by
  unfold applySection
  exact (Kept.ite2 (applyRegs_kept hs _ _ (hm.sub rfl)) (Kept.ite2 (by (try dsimp only); split; (· exact (Kept.of_pair ‹_› (engineRead_kept hs _ _ _ _ (hm.sub rfl)))); (· exact (engineWrite_kept (Kept.of_pair ‹_› (engineRead_kept hs _ _ _ _ (hm.sub rfl))) _ _ _ _ (hm.sub rfl)))) hs))

theorem applySections_kept {μ : Nat} {s₀ : State} {s : State} (hs : Kept μ s₀ s) (a2 : List BootSec)
    (hm : Within 0xffffffffffffffff01ffffff μ) :
    Kept μ s₀ (applySections s a2).2 := by
  unfold applySections
  (try dsimp only)
  split
  · exact hs
  · exact (by (try dsimp only); split; (· exact (Kept.of_pair ‹_› (applySection_kept hs _ (hm.sub rfl)))); (· exact (applySections_kept (Kept.of_pair ‹_› (applySection_kept hs _ (hm.sub rfl))) _ hm)))

theorem State_setCpu_kept {μ : Nat} {s₀ : State} {s : State} (hs : Kept μ s₀ s) (k : Nat) (c : CoreSt)
    (hm : Within 0x400000 μ) :
    Kept μ s₀ (State.setCpu s k c) := by
  unfold State.setCpu; exact (Kept.upd_400000 hs (hm.sub rfl))

theorem releaseCore_kept {μ : Nat} {s₀ : State} {s : State} (hs : Kept μ s₀ s)
    (hm : Within 0x1600000 μ) :
    Kept μ s₀ (releaseCore s) := by
  unfold releaseCore; split
  · exact hs
  · exact (State_setCpu_kept (State_takeFree_kept (Kept.upd_200000 hs (hm.sub rfl)) (hm.sub rfl)) _ _ (hm.sub rfl))

theorem bootReady_kept {μ : Nat} {s₀ : State} {s : State} (hs : Kept μ s₀ s) (h : List Nat)
    (hm : Within 0x80000030a0001600021 μ) :
    Kept μ s₀ (bootReady s h) := by
  unfold bootReady
  exact (releaseCore_kept (Kept.upd_200000 (State_event_kept (State_setSh_kept (Kept.ite (State_setSh_kept (Kept.setFld (Kept.setFld (State_openRound_kept (Kept.setFld (State_setFlag_kept (Kept.setFld hs _ _ _ (hm.sub rfl)) _ _ _ (hm.sub rfl)) _ _ _ (hm.sub rfl)) _ _ (hm.sub rfl)) _ _ _ (hm.sub rfl)) _ _ _ (hm.sub rfl)) _ _ (hm.sub rfl) (hm.sub rfl)) (Kept.setFld (Kept.setFld (State_openRound_kept (Kept.setFld (State_setFlag_kept (Kept.setFld hs _ _ _ (hm.sub rfl)) _ _ _ (hm.sub rfl)) _ _ _ (hm.sub rfl)) _ _ (hm.sub rfl)) _ _ _ (hm.sub rfl)) _ _ _ (hm.sub rfl))) _ _ (hm.sub rfl) (hm.sub rfl)) _ _ _ _ _ _ (hm.sub rfl)) (hm.sub rfl)) (hm.sub rfl))

theorem bootApplyFail_kept {μ : Nat} {s₀ : State} {s : State} (hs : Kept μ s₀ s)
    (hm : Within 0xffffffffffffffff01ffffff μ) :
    Kept μ s₀ (bootApplyFail s) := by
  unfold bootApplyFail; exact (Kept.ite hs (assertReset_kept (setBad_kept hs _ _ (hm.sub rfl)) _ (hm.sub rfl)))

theorem bootApplyDone_kept {μ : Nat} {s₀ : State} {s : State} (hs : Kept μ s₀ s)
    (hm : Within 0xffffffffffffffff01ffffff μ) :
    Kept μ s₀ (bootApplyDone s) := by
  unfold bootApplyDone
  exact (Kept.ite hs (by (try dsimp only); split; (· exact (bootApplyFail_kept (Kept.of_pair ‹_› (engineRead_kept hs _ _ _ _ (hm.sub rfl))) (hm.sub rfl))); (· exact (by (try dsimp only); split; (· exact (bootReady_kept (Kept.of_pair ‹_› (applySections_kept (Kept.of_pair ‹_› (engineRead_kept hs _ _ _ _ (hm.sub rfl))) _ (hm.sub rfl))) _ (hm.sub rfl))); (· exact (bootApplyFail_kept (Kept.of_pair ‹_› (applySections_kept (Kept.of_pair ‹_› (engineRead_kept hs _ _ _ _ (hm.sub rfl))) _ (hm.sub rfl))) (hm.sub rfl)))))))

theorem execBootApplyDone_kept {μ : Nat} {s₀ : State} {s : State} (hs : Kept μ s₀ s)
    (hm : Within 0xffffffffffffffff01ffffff μ) :
    KeptN μ s₀ (execBootApplyDone s) := by
  unfold execBootApplyDone; exact (KeptN.next (Kept.live hs (fun _ h => bootApplyDone_kept h (hm.sub rfl))))

end Sys2Proof.Machine
end

