-- ==== Sys2Proof/Laws/KeptCpuCsr.lean ====
section
/-! SUPPORT. Each function of Machine/CpuCsr.lean keeps what `Kept` says. -/

set_option Elab.async false

namespace Sys2Proof.Machine

theorem setCoreFile_kept {μ : Nat} {s₀ : State} {s : State} (hs : Kept μ s₀ s) (k : Nat) (g : Nat) (f : ImsicFile)
    (hm : Within 0x40 μ) :
    Kept μ s₀ (setCoreFile s k g f) := by
  unfold setCoreFile; exact (Kept.upd_40 hs (hm.sub rfl))

theorem csrRead_kept {μ : Nat} {s₀ : State} {s : State} (hs : Kept μ s₀ s) (k : Nat) (num : Nat)
    (hm : Within 0x1000000 μ) :
    Kept μ s₀ (csrRead s k num).2 := by
  unfold csrRead; exact (Kept.ite2 (State_takeFree_kept hs (hm.sub rfl)) (Kept.ite2 hs hs))

theorem csrPut_kept {μ : Nat} {s₀ : State} {s : State} (hs : Kept μ s₀ s) (k : Nat) (num : Nat) (v : Nat)
    (hm : Within 0x400040 μ) :
    Kept μ s₀ (csrPut s k num v) := by
  unfold csrPut
  exact (Kept.ite (by (try dsimp only); split; (· exact (setCoreFile_kept hs _ _ _ (hm.sub rfl))); (· exact hs)) (Kept.ite (Kept.ite hs (by (try dsimp only); split; (· exact (setCoreFile_kept hs _ _ _ (hm.sub rfl))); (· exact hs))) (State_setCpu_kept hs _ _ (hm.sub rfl))))

end Sys2Proof.Machine
end

