-- ==== Sys2Proof/Laws/KeptCpuMem.lean ====
section
/-! SUPPORT. Each function of Machine/CpuMem.lean keeps what `Kept` says. -/

set_option Elab.async false

namespace Sys2Proof.Machine

theorem cpuGstage_kept {μ : Nat} {s₀ : State} {s : State} (hs : Kept μ s₀ s) (c : CoreSt) (leaf : Nat → Bool) (gpa : Nat)
    (hm : Within 0x496100004b6101000760 μ) :
    Kept μ s₀ (cpuGstage c leaf gpa s).2 := by
  unfold cpuGstage; (try dsimp only); split; (· exact hs); (· exact (walk_kept hs _ (fun _ _ h => readPte_kept h _ _ _ (hm.sub rfl)) _ _ _ _))

theorem cpuGuestPte_kept {μ : Nat} {s₀ : State} {s : State} (hs : Kept μ s₀ s) (c : CoreSt) (gpa : Nat)
    (hm : Within 0x496100004b6101000760 μ) :
    Kept μ s₀ (cpuGuestPte c s gpa).2 := by
  unfold cpuGuestPte
  (try dsimp only)
  split
  · exact (readPte_kept (Kept.of_pair ‹_› (cpuGstage_kept hs _ _ _ (hm.sub rfl))) _ _ _ (hm.sub rfl))
  · exact (Kept.of_pair ‹_› (cpuGstage_kept hs _ _ _ (hm.sub rfl)))
  · exact (Kept.of_pair ‹_› (cpuGstage_kept hs _ _ _ (hm.sub rfl)))

theorem cpuTranslate_kept {μ : Nat} {s₀ : State} {s : State} (hs : Kept μ s₀ s) (k : Nat) (a : CpuAcc) (va : Nat)
    (hm : Within 0x496100004b6101000760 μ) :
    Kept μ s₀ (cpuTranslate s k a va).2 := by
  unfold cpuTranslate
  exact (Kept.ite2 hs (Kept.ite2 (by (try dsimp only); split; (· exact hs); (· exact (by (try dsimp only); split; (· exact (Kept.of_pair ‹_› (walk_kept hs _ (fun _ _ h => readPte_kept h _ _ _ (hm.sub rfl)) _ _ _ _))); (· exact (Kept.of_pair ‹_› (walk_kept hs _ (fun _ _ h => readPte_kept h _ _ _ (hm.sub rfl)) _ _ _ _))); (· exact (Kept.of_pair ‹_› (walk_kept hs _ (fun _ _ h => readPte_kept h _ _ _ (hm.sub rfl)) _ _ _ _)))))) (by (try dsimp only); split; (· exact (Kept.of_pair ‹_› (by (try dsimp only); split; (· exact hs); (· exact (walk_kept hs _ (fun _ _ h => cpuGuestPte_kept h _ _ (hm.sub rfl)) _ _ _ _))))); (· exact (Kept.of_pair ‹_› (by (try dsimp only); split; (· exact hs); (· exact (walk_kept hs _ (fun _ _ h => cpuGuestPte_kept h _ _ (hm.sub rfl)) _ _ _ _))))); (· exact (Kept.of_pair ‹_› (by (try dsimp only); split; (· exact hs); (· exact (walk_kept hs _ (fun _ _ h => cpuGuestPte_kept h _ _ (hm.sub rfl)) _ _ _ _))))); (· exact (by (try dsimp only); split; (· exact (Kept.of_pair ‹_› (cpuGstage_kept (Kept.of_pair ‹_› (by (try dsimp only); split; (· exact hs); (· exact (walk_kept hs _ (fun _ _ h => cpuGuestPte_kept h _ _ (hm.sub rfl)) _ _ _ _)))) _ _ _ (hm.sub rfl)))); (· exact (Kept.of_pair ‹_› (cpuGstage_kept (Kept.of_pair ‹_› (by (try dsimp only); split; (· exact hs); (· exact (walk_kept hs _ (fun _ _ h => cpuGuestPte_kept h _ _ (hm.sub rfl)) _ _ _ _)))) _ _ _ (hm.sub rfl)))); (· exact (Kept.of_pair ‹_› (cpuGstage_kept (Kept.of_pair ‹_› (by (try dsimp only); split; (· exact hs); (· exact (walk_kept hs _ (fun _ _ h => cpuGuestPte_kept h _ _ (hm.sub rfl)) _ _ _ _)))) _ _ _ (hm.sub rfl)))))))))

theorem cpuPlaces_kept {μ : Nat} {s₀ : State} {s : State} (hs : Kept μ s₀ s) (k : Nat) (a : CpuAcc) (va : Nat) (n : Nat)
    (hm : Within 0x496100004b6101000760 μ) :
    Kept μ s₀ (cpuPlaces s k a va n).2 := by
  unfold cpuPlaces
  (try dsimp only)
  split
  · exact (Kept.of_pair ‹_› (cpuTranslate_kept hs _ _ _ (hm.sub rfl)))
  · exact (Kept.ite2 (Kept.of_pair ‹_› (cpuTranslate_kept hs _ _ _ (hm.sub rfl))) (by (try dsimp only); split; (· exact (Kept.of_pair ‹_› (cpuTranslate_kept (Kept.of_pair ‹_› (cpuTranslate_kept hs _ _ _ (hm.sub rfl))) _ _ _ (hm.sub rfl)))); (· exact (Kept.of_pair ‹_› (cpuTranslate_kept (Kept.of_pair ‹_› (cpuTranslate_kept hs _ _ _ (hm.sub rfl))) _ _ _ (hm.sub rfl))))))

theorem cpuReadParts_kept {μ : Nat} {s₀ : State} {s : State} (hs : Kept μ s₀ s) (tag : Nat) (kind : Nat) (a4 : List (Nat × Nat))
    (hm : Within 0x496100004b6101000760 μ) :
    Kept μ s₀ (cpuReadParts s tag kind a4).2 := by
  unfold cpuReadParts
  (try dsimp only)
  split
  · exact hs
  · exact (Kept.ite2 hs (by (try dsimp only); split; (· exact (Kept.of_pair ‹_› (fabRead_kept hs _ _ _ _ _ (hm.sub rfl)))); (· exact (by (try dsimp only); split; (· exact (Kept.of_pair ‹_› (cpuReadParts_kept (Kept.of_pair ‹_› (fabRead_kept hs _ _ _ _ _ (hm.sub rfl))) _ _ _ hm))); (· exact (Kept.of_pair ‹_› (cpuReadParts_kept (Kept.of_pair ‹_› (fabRead_kept hs _ _ _ _ _ (hm.sub rfl))) _ _ _ hm)))))))

theorem cpuWriteParts_kept {μ : Nat} {s₀ : State} {s : State} (hs : Kept μ s₀ s) (tag : Nat) (l : List Nat) (a4 : List (Nat × Nat))
    (hm : Within 0xffffffffffffffff01ffffff μ) :
    Kept μ s₀ (cpuWriteParts s tag l a4).2 := by
  unfold cpuWriteParts
  (try dsimp only)
  split
  · exact hs
  · exact (Kept.ite2 hs (by (try dsimp only); split; (· exact (Kept.of_pair ‹_› (fabWrite_kept hs _ _ _ _ (hm.sub rfl)))); (· exact (cpuWriteParts_kept (Kept.of_pair ‹_› (fabWrite_kept hs _ _ _ _ (hm.sub rfl))) _ _ _ hm))))

theorem cpuLoad_kept {μ : Nat} {s₀ : State} {s : State} (hs : Kept μ s₀ s) (k : Nat) (a : CpuAcc) (va : Nat) (n : Nat)
    (hm : Within 0x496100004b6101000760 μ) :
    Kept μ s₀ (cpuLoad s k a va n).2 := by
  unfold cpuLoad
  (try dsimp only)
  split
  · exact (Kept.of_pair ‹_› (cpuPlaces_kept hs _ _ _ _ (hm.sub rfl)))
  · exact (by (try dsimp only); split; (· exact (Kept.of_pair ‹_› (cpuReadParts_kept (Kept.of_pair ‹_› (cpuPlaces_kept hs _ _ _ _ (hm.sub rfl))) _ _ _ (hm.sub rfl)))); (· exact (Kept.of_pair ‹_› (cpuReadParts_kept (Kept.of_pair ‹_› (cpuPlaces_kept hs _ _ _ _ (hm.sub rfl))) _ _ _ (hm.sub rfl)))))

theorem cpuStore_kept {μ : Nat} {s₀ : State} {s : State} (hs : Kept μ s₀ s) (k : Nat) (a : CpuAcc) (va : Nat) (l : List Nat)
    (hm : Within 0xffffffffffffffff01ffffff μ) :
    Kept μ s₀ (cpuStore s k a va l).2 := by
  unfold cpuStore
  (try dsimp only)
  split
  · exact (Kept.of_pair ‹_› (cpuPlaces_kept hs _ _ _ _ (hm.sub rfl)))
  · exact (by (try dsimp only); split; (· exact (Kept.of_pair ‹_› (cpuWriteParts_kept (Kept.of_pair ‹_› (cpuPlaces_kept hs _ _ _ _ (hm.sub rfl))) _ _ _ (hm.sub rfl)))); (· exact (Kept.of_pair ‹_› (cpuWriteParts_kept (Kept.of_pair ‹_› (cpuPlaces_kept hs _ _ _ _ (hm.sub rfl))) _ _ _ (hm.sub rfl)))))

end Sys2Proof.Machine
end

