-- ==== Sys2Proof/Laws/KeptCpu.lean ====
section
/-! SUPPORT. Each function of Machine/Cpu.lean keeps what `Kept` says. -/

set_option Elab.async false

namespace Sys2Proof.Machine

theorem cpuRetire_kept {μ : Nat} {s₀ : State} {s : State} (hs : Kept μ s₀ s) (k : Nat) (next : Nat) (f : CoreSt → CoreSt)
    (hm : Within 0x400000 μ) :
    Kept μ s₀ (cpuRetire s k next f) := by
  unfold cpuRetire; exact (Kept.ite hs (State_setCpu_kept hs _ _ (hm.sub rfl)))

theorem cpuReturn_kept {μ : Nat} {s₀ : State} {s : State} (hs : Kept μ s₀ s) (k : Nat) (f : CoreSt → CoreSt)
    (hm : Within 0x400000 μ) :
    Kept μ s₀ (cpuReturn s k f) := by
  unfold cpuReturn; exact (cpuRetire_kept hs _ _ _ (hm.sub rfl))

theorem cpuTrap_kept {μ : Nat} {s₀ : State} {s : State} (hs : Kept μ s₀ s) (k : Nat) (t : CpuTrap)
    (hm : Within 0x400000 μ) :
    Kept μ s₀ (cpuTrap s k t) := by
  unfold cpuTrap; exact (Kept.ite hs (State_setCpu_kept hs _ _ (hm.sub rfl)))

theorem cpuLoadTo_kept {μ : Nat} {s₀ : State} {s : State} (hs : Kept μ s₀ s) (k : Nat) (next : Nat) (a : CpuAcc) (ue : Bool) (va : Nat) (n : Nat) (f : List Nat → CoreSt → CoreSt)
    (hm : Within 0x496100004b6101400760 μ) :
    Kept μ s₀ (cpuLoadTo s k next a ue va n f) := by
  unfold cpuLoadTo
  exact (Kept.ite (cpuTrap_kept hs _ _ (hm.sub rfl)) (by (try dsimp only); split; (· exact (cpuTrap_kept (Kept.of_pair ‹_› (cpuLoad_kept hs _ _ _ _ (hm.sub rfl))) _ _ (hm.sub rfl))); (· exact (cpuRetire_kept (Kept.of_pair ‹_› (cpuLoad_kept hs _ _ _ _ (hm.sub rfl))) _ _ _ (hm.sub rfl)))))

theorem cpuStoreFrom_kept {μ : Nat} {s₀ : State} {s : State} (hs : Kept μ s₀ s) (k : Nat) (next : Nat) (a : CpuAcc) (va : Nat) (n : Nat) (v : Nat)
    (hm : Within 0xffffffffffffffff01ffffff μ) :
    Kept μ s₀ (cpuStoreFrom s k next a va n v) := by
  unfold cpuStoreFrom
  (try dsimp only)
  split
  · exact (cpuTrap_kept (Kept.of_pair ‹_› (cpuStore_kept hs _ _ _ _ (hm.sub rfl))) _ _ (hm.sub rfl))
  · exact (cpuRetire_kept (Kept.of_pair ‹_› (cpuStore_kept hs _ _ _ _ (hm.sub rfl))) _ _ _ (hm.sub rfl))

theorem amoPlace_kept {μ : Nat} {s₀ : State} {s : State} (hs : Kept μ s₀ s) (k : Nat) (a : CpuAcc) (va : Nat) (n : Nat)
    (hm : Within 0x496100004b6101000760 μ) :
    Kept μ s₀ (amoPlace s k a va n).2 := by
  unfold amoPlace
  exact (Kept.ite2 hs (by (try dsimp only); split; (· exact (Kept.of_pair ‹_› (cpuTranslate_kept hs _ _ _ (hm.sub rfl)))); (· exact (Kept.ite2 (Kept.of_pair ‹_› (cpuTranslate_kept hs _ _ _ (hm.sub rfl))) (Kept.of_pair ‹_› (cpuTranslate_kept hs _ _ _ (hm.sub rfl)))))))

theorem cpuLr_kept {μ : Nat} {s₀ : State} {s : State} (hs : Kept μ s₀ s) (k : Nat) (next : Nat) (ue : Bool) (rd : Nat) (va : Nat) (n : Nat)
    (hm : Within 0x496100004b6101400760 μ) :
    Kept μ s₀ (cpuLr s k next ue rd va n) := by
  unfold cpuLr
  (try dsimp only)
  split
  · exact (cpuTrap_kept (Kept.of_pair ‹_› (amoPlace_kept hs _ _ _ _ (hm.sub rfl))) _ _ (hm.sub rfl))
  · exact (Kept.ite (cpuTrap_kept (Kept.of_pair ‹_› (amoPlace_kept hs _ _ _ _ (hm.sub rfl))) _ _ (hm.sub rfl)) (by (try dsimp only); split; (· exact (cpuTrap_kept (Kept.of_pair ‹_› (fabRead_kept (Kept.of_pair ‹_› (amoPlace_kept hs _ _ _ _ (hm.sub rfl))) _ _ _ _ _ (hm.sub rfl))) _ _ (hm.sub rfl))); (· exact (cpuRetire_kept (Kept.of_pair ‹_› (fabRead_kept (Kept.of_pair ‹_› (amoPlace_kept hs _ _ _ _ (hm.sub rfl))) _ _ _ _ _ (hm.sub rfl))) _ _ _ (hm.sub rfl)))))

theorem cpuSc_kept {μ : Nat} {s₀ : State} {s : State} (hs : Kept μ s₀ s) (k : Nat) (next : Nat) (rd : Nat) (va : Nat) (n : Nat) (v : Nat)
    (hm : Within 0xffffffffffffffff01ffffff μ) :
    Kept μ s₀ (cpuSc s k next rd va n v) := by
  unfold cpuSc
  (try dsimp only)
  split
  · exact (cpuTrap_kept (Kept.of_pair ‹_› (amoPlace_kept hs _ _ _ _ (hm.sub rfl))) _ _ (hm.sub rfl))
  · exact (Kept.ite (by (try dsimp only); split; (· exact (cpuTrap_kept (Kept.of_pair ‹_› (fabWrite_kept (Kept.of_pair ‹_› (amoPlace_kept hs _ _ _ _ (hm.sub rfl))) _ _ _ _ (hm.sub rfl))) _ _ (hm.sub rfl))); (· exact (cpuRetire_kept (Kept.of_pair ‹_› (fabWrite_kept (Kept.of_pair ‹_› (amoPlace_kept hs _ _ _ _ (hm.sub rfl))) _ _ _ _ (hm.sub rfl))) _ _ _ (hm.sub rfl)))) (cpuRetire_kept (Kept.of_pair ‹_› (amoPlace_kept hs _ _ _ _ (hm.sub rfl))) _ _ _ (hm.sub rfl)))

theorem cpuAmo_kept {μ : Nat} {s₀ : State} {s : State} (hs : Kept μ s₀ s) (k : Nat) (next : Nat) (ue : Bool) (f5 : Nat) (rd : Nat) (va : Nat) (n : Nat) (v : Nat)
    (hm : Within 0xffffffffffffffff01ffffff μ) :
    Kept μ s₀ (cpuAmo s k next ue f5 rd va n v) := by
  unfold cpuAmo
  (try dsimp only)
  split
  · exact (cpuTrap_kept (Kept.of_pair ‹_› (amoPlace_kept hs _ _ _ _ (hm.sub rfl))) _ _ (hm.sub rfl))
  · exact (Kept.ite (cpuTrap_kept (Kept.of_pair ‹_› (amoPlace_kept hs _ _ _ _ (hm.sub rfl))) _ _ (hm.sub rfl)) (by (try dsimp only); split; (· exact (cpuTrap_kept (Kept.of_pair ‹_› (fabRead_kept (Kept.of_pair ‹_› (amoPlace_kept hs _ _ _ _ (hm.sub rfl))) _ _ _ _ _ (hm.sub rfl))) _ _ (hm.sub rfl))); (· exact (by (try dsimp only); split; (· exact (cpuTrap_kept (Kept.of_pair ‹_› (fabWrite_kept (Kept.of_pair ‹_› (fabRead_kept (Kept.of_pair ‹_› (amoPlace_kept hs _ _ _ _ (hm.sub rfl))) _ _ _ _ _ (hm.sub rfl))) _ _ _ _ (hm.sub rfl))) _ _ (hm.sub rfl))); (· exact (cpuRetire_kept (Kept.of_pair ‹_› (fabWrite_kept (Kept.of_pair ‹_› (fabRead_kept (Kept.of_pair ‹_› (amoPlace_kept hs _ _ _ _ (hm.sub rfl))) _ _ _ _ _ (hm.sub rfl))) _ _ _ _ (hm.sub rfl))) _ _ _ (hm.sub rfl)))))))

theorem cpuCsr_kept {μ : Nat} {s₀ : State} {s : State} (hs : Kept μ s₀ s) (k : Nat) (next : Nat) (iw : Nat) (f3 : Nat) (rd : Nat) (rs1 : Nat) (num : Nat)
    (hm : Within 0x1400040 μ) :
    Kept μ s₀ (cpuCsr s k next iw f3 rd rs1 num) := by
  unfold cpuCsr
  (try dsimp only)
  split
  · exact (cpuTrap_kept hs _ _ (hm.sub rfl))
  · exact (cpuRetire_kept (by (try dsimp only); split; (· exact (csrPut_kept (csrRead_kept hs _ _ (hm.sub rfl)) _ _ _ (hm.sub rfl))); (· exact (csrRead_kept hs _ _ (hm.sub rfl)))) _ _ _ (hm.sub rfl))

theorem cpuExec_kept {μ : Nat} {s₀ : State} {s : State} (hs : Kept μ s₀ s) (k : Nat) (len : Nat) (iw : Nat) (op : RvOp) (ue : Bool)
    (hm : Within 0xffffffffffffffff01ffffff μ) :
    Kept μ s₀ (cpuExec s k len iw op ue) := by
  unfold cpuExec
  (try dsimp only)
  split
  · exact (cpuRetire_kept hs _ _ _ (hm.sub rfl))
  · exact (cpuRetire_kept hs _ _ _ (hm.sub rfl))
  · exact (cpuRetire_kept hs _ _ _ (hm.sub rfl))
  · exact (cpuRetire_kept hs _ _ _ (hm.sub rfl))
  · exact (cpuRetire_kept hs _ _ _ (hm.sub rfl))
  · exact (cpuLoadTo_kept hs _ _ _ _ _ _ _ (hm.sub rfl))
  · exact (cpuStoreFrom_kept hs _ _ _ _ _ _ (hm.sub rfl))
  · exact (cpuRetire_kept hs _ _ _ (hm.sub rfl))
  · exact (cpuRetire_kept hs _ _ _ (hm.sub rfl))
  · exact (cpuRetire_kept hs _ _ _ (hm.sub rfl))
  · exact (cpuRetire_kept hs _ _ _ (hm.sub rfl))
  · exact (cpuTrap_kept hs _ _ (hm.sub rfl))
  · exact (cpuTrap_kept hs _ _ (hm.sub rfl))
  · exact (cpuCsr_kept hs _ _ _ _ _ _ _ (hm.sub rfl))
  · exact (Kept.ite (cpuLr_kept hs _ _ _ _ _ _ (hm.sub rfl)) (Kept.ite (cpuSc_kept hs _ _ _ _ _ _ (hm.sub rfl)) (cpuAmo_kept hs _ _ _ _ _ _ _ _ (hm.sub rfl))))
  · exact (Kept.ite (cpuTrap_kept hs _ _ (hm.sub rfl)) (cpuLoadTo_kept hs _ _ _ _ _ _ _ (hm.sub rfl)))
  · exact (Kept.ite (cpuTrap_kept hs _ _ (hm.sub rfl)) (cpuStoreFrom_kept hs _ _ _ _ _ _ (hm.sub rfl)))
  · exact (Kept.ite (cpuTrap_kept hs _ _ (hm.sub rfl)) (by (try dsimp only); split; (· exact (cpuTrap_kept hs _ _ (hm.sub rfl))); (· exact (cpuRetire_kept hs _ _ _ (hm.sub rfl)))))
  · exact (Kept.ite (cpuTrap_kept hs _ _ (hm.sub rfl)) (by (try dsimp only); split; (· exact (cpuTrap_kept hs _ _ (hm.sub rfl))); (· exact (cpuRetire_kept hs _ _ _ (hm.sub rfl)))))
  · exact (cpuTrap_kept hs _ _ (hm.sub rfl))
  · exact (Kept.ite (cpuReturn_kept hs _ _ (hm.sub rfl)) (cpuTrap_kept hs _ _ (hm.sub rfl)))
  · exact (by (try dsimp only); split; (· exact (cpuTrap_kept hs _ _ (hm.sub rfl))); (· exact (cpuReturn_kept hs _ _ (hm.sub rfl))))
  · exact (by (try dsimp only); split; (· exact (cpuTrap_kept hs _ _ (hm.sub rfl))); (· exact (cpuRetire_kept hs _ _ _ (hm.sub rfl))))
  · exact (by (try dsimp only); split; (· exact (cpuTrap_kept hs _ _ (hm.sub rfl))); (· exact (cpuRetire_kept hs _ _ _ (hm.sub rfl))))
  · exact (by (try dsimp only); split; (· exact (cpuTrap_kept hs _ _ (hm.sub rfl))); (· exact (cpuRetire_kept hs _ _ _ (hm.sub rfl))))
  · exact (by (try dsimp only); split; (· exact (cpuTrap_kept hs _ _ (hm.sub rfl))); (· exact (Kept.ite (cpuTrap_kept hs _ _ (hm.sub rfl)) (cpuRetire_kept hs _ _ _ (hm.sub rfl)))))
  · exact (by (try dsimp only); split; (· exact (cpuTrap_kept hs _ _ (hm.sub rfl))); (· exact (cpuLoadTo_kept hs _ _ _ _ _ _ _ (hm.sub rfl))))
  · exact (by (try dsimp only); split; (· exact (cpuTrap_kept hs _ _ (hm.sub rfl))); (· exact (cpuStoreFrom_kept hs _ _ _ _ _ _ (hm.sub rfl))))
  · exact (cpuTrap_kept hs _ _ (hm.sub rfl))

theorem cpuFetch_kept {μ : Nat} {s₀ : State} {s : State} (hs : Kept μ s₀ s) (k : Nat) (ue : Nat)
    (hm : Within 0xffffffffffffffff01ffffff μ) :
    Kept μ s₀ (cpuFetch s k ue) := by
  unfold cpuFetch
  exact (Kept.ite (cpuTrap_kept hs _ _ (hm.sub rfl)) (by (try dsimp only); split; (· exact (cpuTrap_kept (Kept.of_pair ‹_› (cpuLoad_kept hs _ _ _ _ (hm.sub rfl))) _ _ (hm.sub rfl))); (· exact (Kept.ite (cpuExec_kept (Kept.of_pair ‹_› (cpuLoad_kept hs _ _ _ _ (hm.sub rfl))) _ _ _ _ _ (hm.sub rfl)) (by (try dsimp only); split; (· exact (cpuTrap_kept (Kept.of_pair ‹_› (cpuLoad_kept (Kept.of_pair ‹_› (cpuLoad_kept hs _ _ _ _ (hm.sub rfl))) _ _ _ _ (hm.sub rfl))) _ _ (hm.sub rfl))); (· exact (cpuExec_kept (Kept.of_pair ‹_› (cpuLoad_kept (Kept.of_pair ‹_› (cpuLoad_kept hs _ _ _ _ (hm.sub rfl))) _ _ _ _ (hm.sub rfl))) _ _ _ _ _ (hm.sub rfl))))))))

theorem cpuStep_kept {μ : Nat} {s₀ : State} {s : State} (hs : Kept μ s₀ s) (k : Nat) (ue : Nat)
    (hm : Within 0xffffffffffffffff01ffffff μ) :
    Kept μ s₀ (cpuStep s k ue) := by
  unfold cpuStep
  exact (Kept.ite hs (by (try dsimp only); split; (· exact (State_setCpu_kept hs _ _ (hm.sub rfl))); (· exact (Kept.ite (Kept.ite (cpuFetch_kept (State_setCpu_kept hs _ _ (hm.sub rfl)) _ _ (hm.sub rfl)) hs) (cpuFetch_kept hs _ _ (hm.sub rfl))))))

theorem coreInstruction_kept {μ : Nat} {s₀ : State} {s : State} (hs : Kept μ s₀ s) (k : Nat) (ue : Nat) (evict : List (Nat × Nat))
    (hm : Within 0xffffffffffffffff01ffffff μ) :
    Kept μ s₀ (coreInstruction s k ue evict) := by
  unfold coreInstruction; exact (cpuStep_kept (Kept.foldl hs (fun _ _ hz0 => (lineWriteback_kept hz0 _ _ (hm.sub rfl))) _) _ _ (hm.sub rfl))

theorem execCoreInstruction_kept {μ : Nat} {s₀ : State} {s : State} (hs : Kept μ s₀ s) (k : Nat) (ue : Nat) (evict : List (Nat × Nat))
    (hm : Within 0xffffffffffffffff01ffffff μ) :
    KeptN μ s₀ (execCoreInstruction k ue evict s) := by
  unfold execCoreInstruction; exact (KeptN.next (Kept.live hs (fun _ hz0 => (coreInstruction_kept hz0 _ _ _ (hm.sub rfl)))))

end Sys2Proof.Machine
end

