-- ==== Sys2Proof/Laws/KeptJtag.lean ====
section
/-! SUPPORT. Each function of Machine/Jtag.lean keeps what `Kept` says. -/

set_option Elab.async false

namespace Sys2Proof.Machine

theorem State_jtagShift_kept {μ : Nat} {s₀ : State} {s : State} (hs : Kept μ s₀ s) (l : List Nat)
    (hm : Within 0x400000 μ) :
    Kept μ s₀ (State.jtagShift s l) := by
  unfold State.jtagShift; exact (Kept.upd_400000 hs (hm.sub rfl))

theorem State_jtagInstr_kept {μ : Nat} {s₀ : State} {s : State} (hs : Kept μ s₀ s) (ir : Nat)
    (hm : Within 0x400000 μ) :
    Kept μ s₀ (State.jtagInstr s ir) := by
  unfold State.jtagInstr; exact (Kept.upd_400000 hs (hm.sub rfl))

theorem boundaryScan_kept {μ : Nat} {s₀ : State} {s : State} (hs : Kept μ s₀ s) (ir : Nat) (levels : List (Nat × Bool))
    (hm : Within 0x1400000 μ) :
    Kept μ s₀ (boundaryScan s ir levels) := by
  unfold boundaryScan; exact (Kept.upd_400000 (State_jtagShift_kept (State_takeFree_kept hs (hm.sub rfl)) _ (hm.sub rfl)) (hm.sub rfl))

theorem whenDebug_kept {μ : Nat} {s₀ : State} {s : State} {t : State} (hs : Kept μ s₀ s) (ht : Kept μ s₀ t) :
    Kept μ s₀ (whenDebug s t) := by
  unfold whenDebug; exact (Kept.ite ht hs)

theorem setHalt_kept {μ : Nat} {s₀ : State} {s : State} (hs : Kept μ s₀ s) (k : Nat) (b : Bool)
    (hm : Within 0x400000 μ) :
    Kept μ s₀ (setHalt s k b) := by
  unfold setHalt; exact (Kept.ite hs (Kept.upd_400000 hs (hm.sub rfl)))

theorem jtagCoreRead_kept {μ : Nat} {s₀ : State} {s : State} (hs : Kept μ s₀ s) (k : Nat) (r : Nat)
    (hm : Within 0x1400000 μ) :
    Kept μ s₀ (jtagCoreRead s k r) := by
  unfold jtagCoreRead
  exact (Kept.ite (State_jtagShift_kept hs _ (hm.sub rfl)) (Kept.ite (State_jtagShift_kept hs _ (hm.sub rfl)) (Kept.ite (State_jtagShift_kept hs _ (hm.sub rfl)) (Kept.ite (State_jtagShift_kept (csrRead_kept hs _ _ (hm.sub rfl)) _ (hm.sub rfl)) hs))))

theorem jtagCoreWrite_kept {μ : Nat} {s₀ : State} {s : State} (hs : Kept μ s₀ s) (k : Nat) (r : Nat) (v : Nat)
    (hm : Within 0x400040 μ) :
    Kept μ s₀ (jtagCoreWrite s k r v) := by
  unfold jtagCoreWrite
  exact (Kept.ite (State_setCpu_kept hs _ _ (hm.sub rfl)) (Kept.ite (State_setCpu_kept hs _ _ (hm.sub rfl)) (Kept.ite (State_setCpu_kept hs _ _ (hm.sub rfl)) (Kept.ite (csrPut_kept hs _ _ _ (hm.sub rfl)) hs))))

theorem jtagGot_kept {μ : Nat} {s₀ : State} {x : Option (List Nat) × State} (hx : Kept μ s₀ x.2)
    (hm : Within 0x400000 μ) :
    Kept μ s₀ (jtagGot x) := by
  unfold jtagGot; exact (State_jtagShift_kept hx _ (hm.sub rfl))

theorem jtagLaneRead_kept {μ : Nat} {s₀ : State} {s : State} (hs : Kept μ s₀ s) (a : Nat) (n : Nat)
    (hm : Within 0x40410000404101400040 μ) :
    Kept μ s₀ (jtagLaneRead s a n) := by
  unfold jtagLaneRead
  (try dsimp only)
  split
  · exact hs
  · exact (Kept.ite hs (Kept.ite (State_jtagShift_kept (laneCeCount_kept hs _ _ (hm.sub rfl)) _ (hm.sub rfl)) (State_jtagShift_kept (State_takeFree_kept (laneUeCount_kept (laneCeCount_kept hs _ _ (hm.sub rfl)) _ _ (hm.sub rfl)) (hm.sub rfl)) _ (hm.sub rfl))))

theorem jtagLaneWrite_kept {μ : Nat} {s₀ : State} {s : State} (hs : Kept μ s₀ s) (a : Nat) (l : List Nat)
    (hm : Within 0x800000000108 μ) :
    Kept μ s₀ (jtagLaneWrite s a l) := by
  unfold jtagLaneWrite
  (try dsimp only)
  split
  · exact hs
  · exact (Kept.ite (clearMeasured_kept (laneMemWrite_kept hs _ _ (hm.sub rfl)) _ _ _ (hm.sub rfl)) hs)

theorem whenHalted_kept {μ : Nat} {s₀ : State} {s : State} {t : State} (hs : Kept μ s₀ s) (ht : Kept μ s₀ t) (n : Nat) :
    Kept μ s₀ (whenHalted s n t) := by
  unfold whenHalted; exact (Kept.ite (whenDebug_kept hs ht) hs)

theorem jtagLaneReg_kept {μ : Nat} {s₀ : State} {s : State} (hs : Kept μ s₀ s) (n : Nat) (r : Nat)
    (hm : Within 0x400000 μ) :
    Kept μ s₀ (jtagLaneReg s n r) := by
  unfold jtagLaneReg
  exact (Kept.ite (State_jtagShift_kept hs _ (hm.sub rfl)) (Kept.ite (State_jtagShift_kept hs _ (hm.sub rfl)) (Kept.ite (State_jtagShift_kept hs _ (hm.sub rfl)) (Kept.ite (State_jtagShift_kept hs _ (hm.sub rfl)) hs))))

theorem jtagLaneView_kept {μ : Nat} {s₀ : State} {s : State} (hs : Kept μ s₀ s) (n : Nat) (off : Nat)
    (hm : Within 0x40210000402100400040 μ) :
    Kept μ s₀ (jtagLaneView s n off) := by
  unfold jtagLaneView; exact (State_jtagShift_kept (viewWord_kept hs _ _ (hm.sub rfl)) _ (hm.sub rfl))

theorem jtagTriggers_kept {μ : Nat} {s₀ : State} {s : State} (hs : Kept μ s₀ s) (n : Nat) (trigs : List (Bool × Nat))
    (hm : Within 0x100 μ) :
    Kept μ s₀ (jtagTriggers s n trigs) := by
  unfold jtagTriggers; exact (Kept.ite hs (State_setPair_kept hs _ _ (hm.sub rfl)))

theorem jtagDo_kept {μ : Nat} {s₀ : State} {s : State} (hs : Kept μ s₀ s) (a2 : JtagOp)
    (hm : Within 0xffffffffffffffff01ffffff μ) :
    Kept μ s₀ (jtagDo s a2) := by
  unfold jtagDo
  (try dsimp only)
  split
  · exact (State_jtagShift_kept (State_jtagInstr_kept hs _ (hm.sub rfl)) _ (hm.sub rfl))
  · exact (State_jtagShift_kept (State_jtagInstr_kept hs _ (hm.sub rfl)) _ (hm.sub rfl))
  · exact (boundaryScan_kept hs _ _ (hm.sub rfl))
  · exact (Kept.ite hs (boundaryScan_kept hs _ _ (hm.sub rfl)))
  · exact (Kept.ite hs (boundaryScan_kept hs _ _ (hm.sub rfl)))
  · exact hs
  · exact (whenDebug_kept hs (setHalt_kept hs _ _ (hm.sub rfl)))
  · exact (whenDebug_kept hs (setHalt_kept hs _ _ (hm.sub rfl)))
  · exact (Kept.ite (whenDebug_kept hs (jtagCoreRead_kept hs _ _ (hm.sub rfl))) hs)
  · exact (Kept.ite (whenDebug_kept hs (jtagCoreWrite_kept hs _ _ _ (hm.sub rfl))) hs)
  · exact (Kept.ite (whenDebug_kept hs (jtagGot_kept (fabRead_kept hs _ _ _ _ _ (hm.sub rfl)) (hm.sub rfl))) hs)
  · exact (Kept.ite (whenDebug_kept hs (fabWrite_kept hs _ _ _ _ (hm.sub rfl))) hs)
  · exact (Kept.ite hs (whenDebug_kept hs (jtagGot_kept (fabRead_kept hs _ _ _ _ _ (hm.sub rfl)) (hm.sub rfl))))
  · exact (Kept.ite hs (whenDebug_kept hs (fabWrite_kept hs _ _ _ _ (hm.sub rfl))))
  · exact (jtagLaneRead_kept hs _ _ (hm.sub rfl))
  · exact (jtagLaneWrite_kept hs _ _ (hm.sub rfl))
  · exact (whenDebug_kept hs (jtagTriggers_kept hs _ _ (hm.sub rfl)))
  · exact (whenHalted_kept hs (jtagLaneReg_kept hs _ _ (hm.sub rfl)) _)
  · exact (whenHalted_kept hs (jtagLaneView_kept hs _ _ (hm.sub rfl)) _)
  · exact (whenHalted_kept hs (State_jtagShift_kept hs _ (hm.sub rfl)) _)

theorem execJtagInstruction_kept {μ : Nat} {s₀ : State} {s : State} (hs : Kept μ s₀ s) (op : JtagOp)
    (hm : Within 0xffffffffffffffff01ffffff μ) :
    KeptN μ s₀ (execJtagInstruction op s) := by
  unfold execJtagInstruction; exact (KeptN.ite True.intro (KeptN.next (jtagDo_kept hs _ (hm.sub rfl))))

end Sys2Proof.Machine
end

