-- ==== Sys2Proof/Laws/KeptSource.lean ====
section
/-! SUPPORT. Each function of Machine/Source.lean keeps what `Kept` says. -/

set_option Elab.async false

namespace Sys2Proof.Machine

theorem execFabricAccess_kept {μ : Nat} {s₀ : State} {s : State} (hs : Kept μ s₀ s) (init : Nat) (src : Nat) (kind : Nat) (addr : Nat) (data : List Nat) (ue : Option Nat)
    (hm : Within 0xffffffffffffffff01ffffff μ) :
    KeptN μ s₀ (execFabricAccess init src kind addr data ue s) := by
  unfold execFabricAccess; exact (KeptN.next (Kept.live hs (fun _ hz0 => (fabricAccess_kept hz0 _ (hm.sub rfl)))))

theorem registerWrite_kept {μ : Nat} {s₀ : State} {s : State} (hs : Kept μ s₀ s) (init : Nat) (src : Nat) (addr : Nat) (size : Nat) (v : Nat)
    (hm : Within 0xffffffffffffffff01ffffff μ) :
    Kept μ s₀ (registerWrite s init src addr size v) := by
  unfold registerWrite; exact (fabWrite_kept hs _ _ _ _ (hm.sub rfl))

theorem execRegisterWrite_kept {μ : Nat} {s₀ : State} {s : State} (hs : Kept μ s₀ s) (init : Nat) (src : Nat) (addr : Nat) (size : Nat) (v : Nat)
    (hm : Within 0xffffffffffffffff01ffffff μ) :
    KeptN μ s₀ (execRegisterWrite init src addr size v s) := by
  unfold execRegisterWrite; exact (KeptN.next (Kept.live hs (fun _ hz0 => (registerWrite_kept hz0 _ _ _ _ _ (hm.sub rfl)))))

theorem execCurWrite_kept {μ : Nat} {s₀ : State} {s : State} (hs : Kept μ s₀ s) (k : CurSel) (v : Nat)
    (hm : Within 0xffffffffffffffff01ffffff μ) :
    KeptN μ s₀ (execCurWrite k v s) := by
  unfold execCurWrite; exact (KeptN.next (Kept.live hs (fun _ hz0 => (Kept.ite hz0 (registerWrite_kept hz0 _ _ _ _ _ (hm.sub rfl))))))

end Sys2Proof.Machine
end

