-- ==== Sys2Proof/Laws/KeptDispatch.lean ====
section
/-! SUPPORT. Each function of Machine/Dispatch.lean keeps what `Kept` says. -/

set_option Elab.async false

namespace Sys2Proof.Machine

theorem exec_kept {μ : Nat} {s₀ : State} {s : State} (hs : Kept μ s₀ s) (i : Sys2Proof.Instr)
    (hm : Within 0xffffffffffffffff01ffffff μ) :
    KeptN μ s₀ (exec i s) := by
  unfold exec
  (try dsimp only)
  split
  · exact (execUtcofsApply_kept hs (hm.sub rfl))
  · exact (execTimeCtrlWrite_kept hs _ (hm.sub rfl))
  · exact (execSyncRx_kept hs _ _ _ _ (hm.sub rfl))
  · exact (execPpsEdge_kept hs _ (hm.sub rfl))
  · exact (execSyncLossTimer_kept hs (hm.sub rfl))
  · exact (execHoldLimitReached_kept hs (hm.sub rfl))
  · exact (execStepNotice_kept hs (hm.sub rfl))
  · exact (execPdelayReqRx_kept hs _ _ _ (hm.sub rfl))
  · exact (execPdelayReqTx_kept hs _ (hm.sub rfl))
  · exact (execPdelayRespRx_kept hs _ _ _ _ (hm.sub rfl))
  · exact (execSyncEgressCorrect_kept hs _ (hm.sub rfl))
  · exact (execTwoStepSyncRecord_kept hs _ (hm.sub rfl))
  · exact (execFollowUpEgress_kept hs _ (hm.sub rfl))
  · exact (execToutArm_kept hs _ _ (hm.sub rfl))
  · exact (execToutPulseStart_kept hs _ (hm.sub rfl))
  · exact (execToutPulseEnd_kept hs _ (hm.sub rfl))
  · exact (execTinCapture_kept hs _ _ _ (hm.sub rfl))
  · exact (execReadNow_kept hs (hm.sub rfl))
  · exact (execSetAbs_kept hs (hm.sub rfl))
  · exact (execStepRel_kept hs (hm.sub rfl))
  · exact (execLoadTout_kept hs (hm.sub rfl))
  · exact (execPopTin_kept hs (hm.sub rfl))
  · exact (execMailboxComplete_kept hs _ ((blkBits_within _).trans (hm.sub rfl)) (hm.sub rfl))
  · exact (execGroupEnable_kept hs _ (hm.sub rfl))
  · exact (execGroupDisable_kept hs _ (hm.sub rfl))
  · exact (execTideEvaluation_kept hs _ (hm.sub rfl))
  · exact (execResync_kept hs _ (hm.sub rfl))
  · exact (execForceFreerun_kept hs _ (hm.sub rfl))
  · exact (execLaneWindowStart_kept hs _ (hm.sub rfl))
  · exact (execSlotStart_kept hs _ _ (hm.sub rfl))
  · exact (execPartitionLate_kept hs _ (hm.sub rfl))
  · exact (execWindowCommit_kept hs _ (hm.sub rfl))
  · exact (execLockstepMismatch_kept hs _ (hm.sub rfl))
  · exact (execSpareAttachDone_kept hs _ (hm.sub rfl))
  · exact (execSpareSelftestFail_kept hs _ (hm.sub rfl))
  · exact (execReadLive_kept hs (hm.sub rfl))
  · exact (execTimeToAng_kept hs (hm.sub rfl))
  · exact (execAngToTime_kept hs (hm.sub rfl))
  · exact (execSvFrameRx_kept hs (hm.sub rfl))
  · exact (execStreamEnable_kept hs _ (hm.sub rfl))
  · exact (execStreamDisable_kept hs _ (hm.sub rfl))
  · exact (execSampleRelease_kept hs _ (hm.sub rfl))
  · exact (execFingerprintComplete_kept hs _ (hm.sub rfl))
  · exact (execStepGuardExpiry_kept hs _ (hm.sub rfl))
  · exact (execClrTmax_kept hs (hm.sub rfl))
  · exact (execEstRestart_kept hs (hm.sub rfl))
  · exact (execAdepthWrite_kept hs _ _ (hm.sub rfl))
  · exact (execFdcSweep_kept hs _ (hm.sub rfl))
  · exact (execFdcChannelEnable_kept hs _ (hm.sub rfl))
  · exact (execFdcChannelDisable_kept hs _ (hm.sub rfl))
  · exact (execFdcDisable_kept hs (hm.sub rfl))
  · exact (execSyncResetChannel_kept hs (hm.sub rfl))
  · exact (execSyncResetGroup_kept hs _ (hm.sub rfl))
  · exact (execLaneInstruction_kept hs _ (hm.sub rfl))
  · exact (execPxCmul_kept hs _ _ _ _ (hm.sub rfl))
  · exact (execPxCmulc_kept hs _ _ _ _ (hm.sub rfl))
  · exact (execPxCmac_kept hs _ _ _ _ (hm.sub rfl))
  · exact (execPxCadd_kept hs _ _ _ _ (hm.sub rfl))
  · exact (execPxCsub_kept hs _ _ _ _ (hm.sub rfl))
  · exact (execPxCscl_kept hs _ _ _ _ (hm.sub rfl))
  · exact (execPxCabs2_kept hs _ _ _ (hm.sub rfl))
  · exact (execPxCabs_kept hs _ _ _ (hm.sub rfl))
  · exact (execPxCarg_kept hs _ _ _ (hm.sub rfl))
  · exact (execPxCis_kept hs _ _ _ (hm.sub rfl))
  · exact (execPxRot_kept hs _ _ _ _ (hm.sub rfl))
  · exact (execPxDfta_kept hs _ _ _ _ (hm.sub rfl))
  · exact (execPxQchk_kept hs _ _ _ _ (hm.sub rfl))
  · exact (execPxDone_kept hs _ _ (hm.sub rfl))
  · exact (execVectorLatchRead_kept hs (hm.sub rfl))
  · exact (execClrUsed_kept hs (hm.sub rfl))
  · exact (execLaneDebugHalt_kept hs _ (hm.sub rfl))
  · exact (execLaneDebugResume_kept hs _ (hm.sub rfl))
  · exact (execLaneDebugStep_kept hs _ (hm.sub rfl))
  · exact (execGooseRetransmit_kept hs _ (hm.sub rfl))
  · exact (execGooseBlockEnable_kept hs _ (hm.sub rfl))
  · exact (execGooseBlockDisable_kept hs _ (hm.sub rfl))
  · exact (execGooseSubEnable_kept hs _ (hm.sub rfl))
  · exact (execGooseSubDisable_kept hs _ (hm.sub rfl))
  · exact (execGooseFrameRx_kept hs (hm.sub rfl))
  · exact (execGooseSubUpdate_kept hs _ (hm.sub rfl))
  · exact (execGooseSubExpiry_kept hs _ (hm.sub rfl))
  · exact (execRepublish_kept hs (hm.sub rfl))
  · exact (execClrSim_kept hs (hm.sub rfl))
  · exact (execGateTrigger_kept hs _ (hm.sub rfl))
  · exact (execGateChannelEnable_kept hs _ (hm.sub rfl))
  · exact (execGateChannelDisable_kept hs _ (hm.sub rfl))
  · exact (execGateCommit_kept hs _ (hm.sub rfl))
  · exact (execGateReload_kept hs _ (hm.sub rfl))
  · exact (execGateDutyEnd_kept hs _ (hm.sub rfl))
  · exact (execGateRefreshStart_kept hs _ (hm.sub rfl))
  · exact (execGateRefreshEnd_kept hs _ (hm.sub rfl))
  · exact (execGateInstantFixed_kept hs _ (hm.sub rfl))
  · exact (execGateScheduledRise_kept hs _ (hm.sub rfl))
  · exact (execGatePulseEnd_kept hs _ (hm.sub rfl))
  · exact (execSafeNAssert_kept hs _ _ (hm.sub rfl))
  · exact (execGateFreeze_kept hs (hm.sub rfl))
  · exact (execGateUnfreeze_kept hs (hm.sub rfl))
  · exact (execPwmClockReturn_kept hs (hm.sub rfl))
  · exact (execGateCalibration_kept hs _ (hm.sub rfl))
  · exact (execReadSched_kept hs (hm.sub rfl))
  · exact (execTwinLaneDown_kept hs _ (hm.sub rfl))
  · exact (execTwinLaneUp_kept hs _ (hm.sub rfl))
  · exact (execTwinEnable_kept hs (hm.sub rfl))
  · exact (execTwinDisable_kept hs (hm.sub rfl))
  · exact (execHelloTx_kept hs (hm.sub rfl))
  · exact (execHelloRx_kept hs _ _ (hm.sub rfl))
  · exact (execFprintRx_kept hs _ _ (hm.sub rfl))
  · exact (execCommitRx_kept hs _ _ (hm.sub rfl))
  · exact (execGseqRx_kept hs _ _ (hm.sub rfl))
  · exact (execXferRx_kept hs _ _ (hm.sub rfl))
  · exact (execYieldRx_kept hs _ (hm.sub rfl))
  · exact (execResetReqRx_kept hs _ (hm.sub rfl))
  · exact (execResetNakRx_kept hs _ (hm.sub rfl))
  · exact (execXferAckRx_kept hs _ _ (hm.sub rfl))
  · exact (execXferNakRx_kept hs _ _ (hm.sub rfl))
  · exact (execXferFrameTx_kept hs (hm.sub rfl))
  · exact (execPairLinkTimeout_kept hs (hm.sub rfl))
  · exact (execRallyResolve_kept hs _ (hm.sub rfl))
  · exact (execXferTimeout_kept hs (hm.sub rfl))
  · exact (execWake_kept hs (hm.sub rfl))
  · exact (execYield_kept hs (hm.sub rfl))
  · exact (execResetPartner_kept hs (hm.sub rfl))
  · exact (execRealign_kept hs _ (hm.sub rfl))
  · exact (execClrRmax_kept hs _ (hm.sub rfl))
  · exact (execWakeFrameTx_kept hs (hm.sub rfl))
  · exact (execWakeTimeout_kept hs (hm.sub rfl))
  · exact (execPartnerResetFire_kept hs (hm.sub rfl))
  · exact (execDrecBinarySample_kept hs (hm.sub rfl))
  · exact (execDrecTickAssemble_kept hs _ (hm.sub rfl))
  · exact (execDrecEnable_kept hs (hm.sub rfl))
  · exact (execDrecDisable_kept hs (hm.sub rfl))
  · exact (execDrecUnitEnable_kept hs _ (hm.sub rfl))
  · exact (execTrigger_kept hs _ _ (hm.sub rfl))
  · exact (execFree_kept hs (hm.sub rfl))
  · exact (execFreeAll_kept hs (hm.sub rfl))
  · exact (execDrecNextSlotArmed_kept hs (hm.sub rfl))
  · exact (execDrecSlotDone_kept hs (hm.sub rfl))
  · exact (execElogRecordWrite_kept hs (hm.sub rfl))
  · exact (execElogSwCodeWrite_kept hs _ _ (hm.sub rfl))
  · exact (execElogRdIdxWrite_kept hs _ (hm.sub rfl))
  · exact (execClear_kept hs (hm.sub rfl))
  · exact (execElogClearDone_kept hs (hm.sub rfl))
  · exact (execExportLog_kept hs (hm.sub rfl))
  · exact (execElogExportDone_kept hs (hm.sub rfl))
  · exact (execPortEnable_kept hs _ (hm.sub rfl))
  · exact (execPortDisable_kept hs _ (hm.sub rfl))
  · exact (execPortUpConditionChange_kept hs _ _ _ _ _ (hm.sub rfl))
  · exact (execUpHoldExpiry_kept hs _ (hm.sub rfl))
  · exact (execDownHoldExpiry_kept hs _ (hm.sub rfl))
  · exact (execAnComplete_kept hs _ _ (hm.sub rfl))
  · exact (execModabsChange_kept hs _ _ (hm.sub rfl))
  · exact (execI2cCmd_kept hs _ _ (hm.sub rfl))
  · exact (execI2cDone_kept hs _ _ _ (hm.sub rfl))
  · exact (execEqTxWrite_kept hs _ _ (hm.sub rfl))
  · exact (execPortTxthrWrite_kept hs _ _ (hm.sub rfl))
  · exact (execPortTestWrite_kept hs _ _ (hm.sub rfl))
  · exact (execMacRxFrame_kept hs _ _ _ _ _ _ _ (hm.sub rfl))
  · exact (execMacTxStart_kept hs _ _ (hm.sub rfl))
  · exact (execTxUnderrun_kept hs _ (hm.sub rfl))
  · exact (execWakeFrameDetect_kept hs _ _ (hm.sub rfl))
  · exact (execSwcFrameAdmit_kept hs _ (hm.sub rfl))
  · exact (execSwcTxCopy_kept hs _ _ (hm.sub rfl))
  · exact (execSwcFlushComplete_kept hs _ (hm.sub rfl))
  · exact (execFdbAgeOut_kept hs _ (hm.sub rfl))
  · exact (execDdEntryExpire_kept hs _ (hm.sub rfl))
  · exact (execCpuRxDeliver_kept hs (hm.sub rfl))
  · exact (execCpuTxTailWrite_kept hs _ _ (hm.sub rfl))
  · exact (execCpuTxFrame_kept hs (hm.sub rfl))
  · exact (execFlushFdbAll_kept hs (hm.sub rfl))
  · exact (execFlushFdbPort_kept hs (hm.sub rfl))
  · exact (execVlanRd_kept hs (hm.sub rfl))
  · exact (execVlanWr_kept hs (hm.sub rfl))
  · exact (execFdbRd_kept hs (hm.sub rfl))
  · exact (execFdbWr_kept hs (hm.sub rfl))
  · exact (execFdbDel_kept hs (hm.sub rfl))
  · exact (execMcRd_kept hs (hm.sub rfl))
  · exact (execMcWr_kept hs (hm.sub rfl))
  · exact (execFdbRdIndex_kept hs (hm.sub rfl))
  · exact (execSwcEnable_kept hs (hm.sub rfl))
  · exact (execPairEnable_kept hs _ (hm.sub rfl))
  · exact (execRingEnable_kept hs _ _ _ (hm.sub rfl))
  · exact (execFabricAccess_kept hs _ _ _ _ _ _ (hm.sub rfl))
  · exact (execCoreInstruction_kept hs _ _ _ (hm.sub rfl))
  · exact (execCurWrite_kept hs _ _ (hm.sub rfl))
  · exact (execIrqRouteEnable_kept hs _ _ (hm.sub rfl))
  · exact (execIommuCommand_kept hs (hm.sub rfl))
  · exact (execPulse_kept hs _ (hm.sub rfl))
  · exact (execHoldWrite_kept hs _ _ (hm.sub rfl))
  · exact (execResetPulseEnd_kept hs _ (hm.sub rfl))
  · exact (execWdKick_kept hs _ (hm.sub rfl))
  · exact (execWdWarn_kept hs _ (hm.sub rfl))
  · exact (execWdExpiry_kept hs _ (hm.sub rfl))
  · exact (execWdConfigWrite_kept hs _ _ _ (hm.sub rfl))
  · exact (execLwdExpiry_kept hs _ _ (hm.sub rfl))
  · exact (execDwdKick_kept hs _ (hm.sub rfl))
  · exact (execDwdWarn_kept hs (hm.sub rfl))
  · exact (execDwdExpiry_kept hs (hm.sub rfl))
  · exact (execQosPeriodStart_kept hs (hm.sub rfl))
  · exact (execApply_kept hs (hm.sub rfl))
  · exact (execApprove_kept hs (hm.sub rfl))
  · exact (execAttest_kept hs (hm.sub rfl))
  · exact (execMeasure_kept hs (hm.sub rfl))
  · exact (execKeysExport_kept hs (hm.sub rfl))
  · exact (execConfirm_kept hs (hm.sub rfl))
  · exact (execImport_kept hs (hm.sub rfl))
  · exact (execCommit_kept hs (hm.sub rfl))
  · exact (execRootInstall_kept hs (hm.sub rfl))
  · exact (execBurnRoot_kept hs (hm.sub rfl))
  · exact (execLcDevelop_kept hs (hm.sub rfl))
  · exact (execLcSeal_kept hs (hm.sub rfl))
  · exact (execLcDecommission_kept hs (hm.sub rfl))
  · exact (execExportKtk_kept hs (hm.sub rfl))
  · exact (execKeysApplyEdge_kept hs (hm.sub rfl))
  · exact (execKeysScrub_kept hs _ (hm.sub rfl))
  · exact (execIdReady_kept hs (hm.sub rfl))
  · exact (execTamperDetect_kept hs _ (hm.sub rfl))
  · exact (execZeroisation_kept hs (hm.sub rfl))
  · exact (execSnapshot_kept hs (hm.sub rfl))
  · exact (execSnapshotClear_kept hs (hm.sub rfl))
  · exact (execReadSnapTime_kept hs (hm.sub rfl))
  · exact (execAonWriteApply_kept hs (hm.sub rfl))
  · exact (execRegisterWrite_kept hs _ _ _ _ _ (hm.sub rfl))
  · exact (execMemRetrain_kept hs _ _ (hm.sub rfl))
  · exact (execPllLockLost_kept hs _ _ (hm.sub rfl))
  · exact (execPllRelock_kept hs _ _ _ _ (hm.sub rfl))
  · exact (execRefLost_kept hs (hm.sub rfl))
  · exact (execRefReturn_kept hs (hm.sub rfl))
  · exact (execResetPin_kept hs _ _ (hm.sub rfl))
  · exact (execSoftwareReset_kept hs _ (hm.sub rfl))
  · exact (execResetRelease_kept hs _ _ (hm.sub rfl))
  · exact (execPowerOnReset_kept hs _ (hm.sub rfl))
  · exact (execVbatLoss_kept hs (hm.sub rfl))
  · exact (execTestReset_kept hs (hm.sub rfl))
  · exact (execBootInitDone_kept hs _ _ _ _ _ (hm.sub rfl))
  · exact (execBootSlotLoaded_kept hs _ (hm.sub rfl))
  · exact (execBootApplyDone_kept hs (hm.sub rfl))
  · exact (execFlashRead_kept hs (hm.sub rfl))
  · exact (execFlashErase_kept hs (hm.sub rfl))
  · exact (execFlashProg_kept hs (hm.sub rfl))
  · exact (execBootConfirm_kept hs (hm.sub rfl))
  · exact (execSetTrial_kept hs (hm.sub rfl))
  · exact (execForceRecovery_kept hs (hm.sub rfl))
  · exact (execFlashOpTimeout_kept hs (hm.sub rfl))
  · exact (execInfo_kept hs _ _ (hm.sub rfl))
  · exact (execStage_kept hs _ _ (hm.sub rfl))
  · exact (execKeymsg_kept hs _ _ (hm.sub rfl))
  · exact (execRecoveryApprove_kept hs _ _ (hm.sub rfl))
  · exact (execRoot_kept hs _ _ (hm.sub rfl))
  · exact (execSaveStore_kept hs _ _ (hm.sub rfl))
  · exact (execProgram_kept hs _ _ (hm.sub rfl))
  · exact (execReboot_kept hs _ _ (hm.sub rfl))
  · exact (execLowPowerEnter_kept hs (hm.sub rfl))
  · exact (execLowPowerWake_kept hs (hm.sub rfl))
  · exact (execReadSec_kept hs (hm.sub rfl))
  · exact (execSecIncrement_kept hs (hm.sub rfl))
  · exact (execJtagInstruction_kept hs _ (hm.sub rfl))
  · exact (execRallyCopyDiscard_kept hs _ _ (hm.sub rfl))
  · exact (execSafeNRelease_kept hs _ (hm.sub rfl))

end Sys2Proof.Machine
end

