-- ==== Sys2Proof/Laws/KeptTick.lean ====
section
/-! SUPPORT. Each function of Machine/Tick.lean keeps what `Kept` says. -/

set_option Elab.async false

namespace Sys2Proof.Machine

theorem tbcEdge_kept {μ : Nat} {s₀ : State} {s : State} (hs : Kept μ s₀ s)
    (hm : Within 0x40000000400000210 μ) :
    Kept μ s₀ (tbcEdge s) := by
  unfold tbcEdge; exact (stepDue_kept (Kept.upd_210 hs (hm.sub rfl)) (hm.sub rfl))

theorem tbcEdges_kept {μ : Nat} {s₀ : State} {a2 : State} (ha2 : Kept μ s₀ a2) (a1 : Nat)
    (hm : Within 0x40000000400000210 μ) :
    Kept μ s₀ (tbcEdges a1 a2) := by
  induction a1 generalizing a2 with
  | zero => exact ha2
  | succ n ih => exact ih (tbcEdge_kept ha2 (hm.sub rfl))

theorem tbcTick_kept {μ : Nat} {s₀ : State} {s : State} (hs : Kept μ s₀ s)
    (hm : Within 0x40000000400000210 μ) :
    Kept μ s₀ (tbcTick s) := by
  unfold tbcTick; exact (Kept.ite hs (tbcEdges_kept (Kept.upd_10 hs (hm.sub rfl)) _ (hm.sub rfl)))

theorem sysEnd_kept {μ : Nat} {s₀ : State} {s : State} (hs : Kept μ s₀ s)
    (hm : Within 0xffffffff00006bc10108e362 μ) :
    Kept μ s₀ (sysEnd s) := by
  unfold sysEnd
  exact (snapEnd_kept (elogEdge_kept (rallyEdge_kept (gooseEdge_kept (partEdge_kept hs (hm.sub rfl)) (hm.sub rfl)) (hm.sub rfl)) (hm.sub rfl)) (hm.sub rfl))

theorem sysBegin_kept {μ : Nat} {s₀ : State} {s : State} (hs : Kept μ s₀ s)
    (hm : Within 0x80010 μ) :
    Kept μ s₀ (sysBegin s) := by
  unfold sysBegin; exact (Kept.upd_80010 hs (hm.sub rfl))

theorem sysTick_kept {μ : Nat} {s₀ : State} {s : State} (hs : Kept μ s₀ s)
    (hm : Within 0x58850000589501692870 μ) :
    Kept μ s₀ (sysTick s) := by
  unfold sysTick
  exact (releaseCore_kept (portTick_kept (gooseBegin_kept (sviSettle_kept (elogTick_kept (sysBegin_kept hs (hm.sub rfl)) (hm.sub rfl)) (hm.sub rfl)) (hm.sub rfl)) (hm.sub rfl)) (hm.sub rfl))

theorem tick_kept {μ : Nat} {s₀ : State} {s : State} (hs : Kept μ s₀ s)
    (hm : Within 0xffffffff00007bd50179eb72 μ) :
    Kept μ s₀ (tick s) := by
  unfold tick
  exact (Kept.live (Kept.upd_180000 hs (hm.sub rfl)) (fun _ hz0 => (sysTick_kept (tbcTick_kept (sysEnd_kept hz0 (hm.sub rfl)) (hm.sub rfl)) (hm.sub rfl))))

end Sys2Proof.Machine
end

