-- ==== Sys2Proof/Laws/Parts.lean ====
section
/-! SUPPORT. Each part of the state that is held per instance: what is read back where it was written, and what stands elsewhere. -/

set_option Elab.async false

namespace Sys2Proof.Machine

@[simp] theorem tout_setTout_same (s : State) (n : Nat) (t : ToutSt) : (s.setTout n t).tout n = t := sparseGet_set_self _ _ _ _

theorem tout_setTout_other (s : State) {n j : Nat} (t : ToutSt) (h : j ≠ n) : (s.setTout n t).tout j = s.tout j := sparseGet_set_other _ _ _ h _

@[simp] theorem gch_setGch_same (s : State) (n : Nat) (c : GateCh) : (s.setGch n c).gch n = c := sparseGet_set_self _ _ _ _

theorem gch_setGch_other (s : State) {n j : Nat} (c : GateCh) (h : j ≠ n) : (s.setGch n c).gch j = s.gch j := sparseGet_set_other _ _ _ h _

@[simp] theorem grp_setGrp_same (s : State) (g : Nat) (v : TideGrp) : (s.setGrp g v).grp g = v := sparseGet_set_self _ _ _ _

theorem grp_setGrp_other (s : State) {g j : Nat} (v : TideGrp) (h : j ≠ g) : (s.setGrp g v).grp j = s.grp j := sparseGet_set_other _ _ _ h _

@[simp] theorem pair_setPair_same (s : State) (n : Nat) (p : LanePair) : (s.setPair n p).pair n = p := sparseGet_set_self _ _ _ _

theorem pair_setPair_other (s : State) {n j : Nat} (p : LanePair) (h : j ≠ n) : (s.setPair n p).pair j = s.pair j := sparseGet_set_other _ _ _ h _

@[simp] theorem lpart_setLpart_same (s : State) (p : Nat) (v : LanePart) : (s.setLpart p v).lpart p = v := sparseGet_set_self _ _ _ _

theorem lpart_setLpart_other (s : State) {p j : Nat} (v : LanePart) (h : j ≠ p) : (s.setLpart p v).lpart j = s.lpart j := sparseGet_set_other _ _ _ h _

@[simp] theorem pres_setPres_same (s : State) (p : Nat) (r : PartRes) : (s.setPres p r).pres p = r := sparseGet_set_self _ _ _ _

theorem pres_setPres_other (s : State) {p j : Nat} (r : PartRes) (h : j ≠ p) : (s.setPres p r).pres j = s.pres j := sparseGet_set_other _ _ _ h _

@[simp] theorem ptpPort_setPtpPort_same (s : State) (p : Nat) (v : PtpPort) : (s.setPtpPort p v).ptpPort p = v := sparseGet_set_self _ _ _ _

theorem ptpPort_setPtpPort_other (s : State) {p j : Nat} (v : PtpPort) (h : j ≠ p) : (s.setPtpPort p v).ptpPort j = s.ptpPort j := sparseGet_set_other _ _ _ h _

@[simp] theorem rgrp_setRgrp_same (s : State) (g : Nat) (v : RallyGrp) : (s.setRgrp g v).rgrp g = v := sparseGet_set_self _ _ _ _

theorem rgrp_setRgrp_other (s : State) {g j : Nat} (v : RallyGrp) (h : j ≠ g) : (s.setRgrp g v).rgrp j = s.rgrp j := sparseGet_set_other _ _ _ h _

@[simp] theorem stream_setStream_same (s : State) (n : Nat) (v : SviStream) : (s.setStream n v).stream n = v := sparseGet_set_self _ _ _ _

theorem stream_setStream_other (s : State) {n j : Nat} (v : SviStream) (h : j ≠ n) : (s.setStream n v).stream j = s.stream j := sparseGet_set_other _ _ _ h _

@[simp] theorem fch_setFch_same (s : State) (c : Nat) (v : FdcCh) : (s.setFch c v).fch c = v := sparseGet_set_self _ _ _ _

theorem fch_setFch_other (s : State) {c j : Nat} (v : FdcCh) (h : j ≠ c) : (s.setFch c v).fch j = s.fch j := sparseGet_set_other _ _ _ h _

@[simp] theorem ddTab_setDd_same (s : State) (k : Nat) (l : (List DdEnt)) : (s.setDd k l).ddTab k = l := sparseGet_set_self _ _ _ _

theorem ddTab_setDd_other (s : State) {k j : Nat} (l : (List DdEnt)) (h : j ≠ k) : (s.setDd k l).ddTab j = s.ddTab j := sparseGet_set_other _ _ _ h _

@[simp] theorem portCh_setPortCh_same (s : State) (p : Nat) (v : PortCh) : (s.setPortCh p v).portCh p = v := sparseGet_set_self _ _ _ _

theorem portCh_setPortCh_other (s : State) {p j : Nat} (v : PortCh) (h : j ≠ p) : (s.setPortCh p v).portCh j = s.portCh j := sparseGet_set_other _ _ _ h _

@[simp] theorem cpu_setCpu_same (s : State) (k : Nat) (c : CoreSt) : (s.setCpu k c).cpu k = c := sparseGet_put_self _ _ _ _

theorem cpu_setCpu_other (s : State) {k j : Nat} (c : CoreSt) (h : j ≠ k) : (s.setCpu k c).cpu j = s.cpu j := sparseGet_put_other _ _ h _

@[simp] theorem gblk_setGblk_same (s : State) (b : Nat) (v : GBlk) : (s.setGblk b v).gblk b = some v := sparseFind_put_self _ _ _

theorem gblk_setGblk_other (s : State) {b j : Nat} (v : GBlk) (h : j ≠ b) : (s.setGblk b v).gblk j = s.gblk j := sparseFind_put_other h _ _

@[simp] theorem gsub_setGsub_same (s : State) (i : Nat) (v : GSub) : (s.setGsub i v).gsub i = some v := sparseFind_put_self _ _ _

theorem gsub_setGsub_other (s : State) {i j : Nat} (v : GSub) (h : j ≠ i) : (s.setGsub i v).gsub j = s.gsub j := sparseFind_put_other h _ _

@[simp] theorem tin_setTin_same (s : State) (n : Nat) (t : TinSt) : (s.setTin n t).tin n = t := sparseGet_set_self _ _ _ _

theorem tin_setTin_other (s : State) {n j : Nat} (t : TinSt) (h : j ≠ n) : (s.setTin n t).tin j = s.tin j := sparseGet_set_other _ _ _ h _

/-- A byte of memory reads as the byte last written there. -/
@[simp] theorem memByte_setMemByte_same (s : State) (a v : Nat) : (s.setMemByte a v).memByte a = v % 256 := by
  unfold State.memByte State.setMemByte; rw [sparseGet_set_self]; simp

/-- A write of a byte leaves every other byte as it was. -/
theorem memByte_setMemByte_other (s : State) {a b : Nat} (v : Nat) (h : b ≠ a) : (s.setMemByte a v).memByte b = s.memByte b := by
  unfold State.memByte State.setMemByte; rw [sparseGet_set_other _ _ _ h]

end Sys2Proof.Machine
end

