-- ==== Sys2Proof/Laws/Reads.lean ====
section
/-! SUPPORT. What a register field, a counter or a part of the machine reads as after an operation that does not concern it: the side conditions are
about the fields alone, so that `decide` closes them whatever the instances. -/

set_option Elab.async false

namespace Sys2Proof.Machine

theorem Within.refl (a : Nat) : Within a a := ⟨Nat.and_self a⟩

/-! ## From a set of parts -/

theorem SameBut.fld {μ : Nat} {s t : State} (h : SameBut μ s t) {f : Fld} {i : Nat} (hb : μ.testBit (32 + f.blk % 32) = false) : t.fld f i = s.fld f i := by
  have h1 := h (.regs (f.blk % 32)) (by show μ.testBit (32 + f.blk % 32 % 32) = false; rw [Nat.mod_mod]; exact hb)
  unfold State.fld sparseGet
  rw [h1 _ (keyBlk_key f i)]

theorem SameBut.flag {μ : Nat} {s t : State} (h : SameBut μ s t) {f : Fld} {i : Nat} (hb : μ.testBit (32 + f.blk % 32) = false) : t.flag f i = s.flag f i := by
  unfold State.flag; rw [h.fld hb]

theorem SameBut.ctr {μ : Nat} {s t : State} (h : SameBut μ s t) {c : Ctr} {i : Nat} (hb : μ.testBit (64 + c.blk % 32) = false) : t.ctr c i = s.ctr c i := by
  have h1 := h (.ctrs (c.blk % 32)) (by show μ.testBit (64 + c.blk % 32 % 32) = false; rw [Nat.mod_mod]; exact hb)
  unfold State.ctr sparseGet
  rw [h1 _ (ctrBlk_key c i)]

theorem Kept.same {μ : Nat} {s t : State} (h : Kept μ s t) : SameBut μ s t := h.2.2.2

theorem Kept.fld {μ : Nat} {s t : State} (h : Kept μ s t) {f : Fld} {i : Nat} (hb : μ.testBit (32 + f.blk % 32) = false) : t.fld f i = s.fld f i :=
  h.same.fld hb

theorem Kept.flag {μ : Nat} {s t : State} (h : Kept μ s t) {f : Fld} {i : Nat} (hb : μ.testBit (32 + f.blk % 32) = false) : t.flag f i = s.flag f i :=
  h.same.flag hb

theorem Kept.ctr {μ : Nat} {s t : State} (h : Kept μ s t) {c : Ctr} {i : Nat} (hb : μ.testBit (64 + c.blk % 32) = false) : t.ctr c i = s.ctr c i :=
  h.same.ctr hb

theorem Kept.mem {μ : Nat} {s t : State} (h : Kept μ s t) (hb : μ.testBit 3 = false) : t.mem = s.mem := h.same .mem hb

theorem Kept.time {μ : Nat} {s t : State} (h : Kept μ s t) (hb : μ.testBit 4 = false) : t.time = s.time := h.same .time hb

/-! ## Fields apart -/

/-- A counter whose overflow flags lie apart from a field. -/
def Ctr.apart (c : Ctr) (g : Fld) : Bool := g.apart c.ovf && (match c.inst with | some f => g.apart f | none => true)

theorem fld_setFbit_apart (s : State) {f g : Fld} (k : Nat) (b : Bool) (i j : Nat) (h : g.apart f = true) : (s.setFbit f k b i).fld g j = s.fld g j :=
  fld_setFld_apart s _ i j h

theorem fld_countBy_apart (s : State) {c : Ctr} {g : Fld} (n i j : Nat) (h : c.apart g = true) : (s.countBy c n i).fld g j = s.fld g j := by
  simp only [Ctr.apart, Bool.and_eq_true] at h
  unfold State.countBy
  dsimp only
  split
  · rfl
  · unfold State.setOvf
    cases hc : c.inst <;> rw [hc] at h <;> cases c.how <;> dsimp only <;>
      first
      | exact fld_setFld_apart _ _ _ _ h.1
      | exact fld_setFbit_apart _ _ _ _ _ h.1
      | exact (fld_setFld_apart _ _ _ _ h.1).trans (fld_setFld_apart _ _ _ _ h.2)
      | exact (fld_setFbit_apart _ _ _ _ _ h.1).trans (fld_setFld_apart _ _ _ _ h.2)

theorem fld_count_apart (s : State) {c : Ctr} {g : Fld} (i j : Nat) (h : c.apart g = true) : (s.count c i).fld g j = s.fld g j :=
  fld_countBy_apart s 1 i j h

theorem fld_event_apart (s : State) (blk code part p0 p1 p2 : Nat) {g : Fld} (j : Nat) (h : logBlks.contains (g.blk % 32) = false) :
    (s.event blk code part p0 p1 p2).fld g j = s.fld g j :=
  fld_event _ _ _ _ _ _ _ _ _ (by rw [keyBlk_key]; simpa using h)

theorem fld_blockIrq_apart (s : State) (b : Nat) {g : Fld} (j : Nat) (h : [0, 14].contains (g.blk % 32) = false) : (s.blockIrq b).fld g j = s.fld g j :=
  fld_blockIrq _ _ (by rw [keyBlk_key]; simpa using h)

theorem fld_setFlt_apart (s : State) {f g : Fld} (j : Nat) (h : g.apart f = true) (hb : [0, 14].contains (g.blk % 32) = false) :
    (s.setFlt f).fld g j = s.fld g j :=
  fld_setFlt_other _ (Fld.apart_key h j 0) (by rw [keyBlk_key]; simpa using hb)

theorem fld_setFltBit_apart (s : State) {f g : Fld} (k j : Nat) (h : g.apart f = true) (hb : [0, 14].contains (g.blk % 32) = false) :
    (s.setFltBit f k).fld g j = s.fld g j :=
  (setFltBit_touches s f k).fld (by simpa using Fld.apart_key h j 0) (by rw [keyBlk_key]; simpa using hb)

theorem ctr_event_apart (s : State) (blk code part p0 p1 p2 : Nat) {c : Ctr} (j : Nat) (h : logBlks.contains (c.blk % 32) = false) :
    (s.event blk code part p0 p1 p2).ctr c j = s.ctr c j :=
  ctr_event _ _ _ _ _ _ _ _ _ (by rw [ctrBlk_key]; simpa using h)

theorem ctr_setFlt_apart (s : State) (f : Fld) {c : Ctr} (j : Nat) (h : [0, 14].contains (c.blk % 32) = false) : (s.setFlt f).ctr c j = s.ctr c j :=
  ctr_setFlt_other _ _ (by rw [ctrBlk_key]; simpa using h)

theorem ctr_blockIrq_apart (s : State) (b : Nat) {c : Ctr} (j : Nat) (h : [0, 14].contains (c.blk % 32) = false) : (s.blockIrq b).ctr c j = s.ctr c j :=
  Touches.ctr (ks := []) (cs := []) (bs := [0, 14]) ((Touches.refl _ _ _ s).blockIrq (by simp) (by simp) b) (by simp) (by rw [ctrBlk_key]; simpa using h)

/-- Counters of different kinds of bank or offset. -/
def Ctr.off_ne (c d : Ctr) : Bool :=
  (decide (c.blk % 32 ≠ d.blk % 32) || decide (c.kind % 8 ≠ d.kind % 8)
    || (decide (c.kind ≠ 0) && decide (d.kind ≠ 0) && decide (c.off < 65536) && decide (d.off < 65536) && decide (c.off ≠ d.off)))

theorem Ctr.off_ne_key {c d : Ctr} (h : c.off_ne d = true) (i j : Nat) : c.key i ≠ d.key j := by
  simp only [Ctr.off_ne, Bool.or_eq_true, Bool.and_eq_true, decide_eq_true_eq] at h
  unfold Ctr.key blkKey
  rcases h with (h | h) | h
  · omega
  · omega
  · rw [if_neg h.1.1.1.1, if_neg h.1.1.1.2]; omega

theorem ctr_count_apart (s : State) {c d : Ctr} (i j : Nat) (h : d.off_ne c = true) : (s.count c i).ctr d j = s.ctr d j :=
  ctr_count_other s (Ctr.off_ne_key h j i)

/-! ## Other parts -/

theorem SameBut.part {μ : Nat} {s t : State} (h : SameBut μ s t) (p : Part) (hp : μ.testBit p.bit = false) : p.Same s t := h p hp

end Sys2Proof.Machine
end

