-- ==== Sys2Proof/Machine/Balls.lean ====
section
/-! DEFINITION. The state of each ball (R528, R530): what the machine shows of itself at the package. -/

namespace Sys2Proof.Machine

/-- The signal balls of R528, instances by number; the balls of a bus whose states are one stand as one. -/
inductive Ball where
  | gateH (n : Nat) | gateL (n : Nat)
  | portTxdis (p : Nat) | portI2csel (p : Nat) | portModabs (p : Nat) | portLos (p : Nat)
  | i2c (k : Nat)
  | tout (n : Nat) | tin (n : Nat) | safeN (k : Nat)
  | xspiResetN | xspiCsN | xspiOther
  | memResetN (mcb : Bool) | memOther (mcb : Bool)
  | portTx (p : Nat) | portRx (p : Nat) | twinTx (lane : Nat) | twinRx (lane : Nat)
  | twinSide | twinSolo | resetN
  | tck | trstN | tms | tdi | tdo
  deriving DecidableEq, Repr

/-- A state of R530: a level that the device drives, high impedance with or without a pull, an input, an open-drain ball that is released, an
interface that its protocol drives, a transmitter in electrical idle, or a part that is powered down. -/
inductive BallState where
  | low | high
  | hiZ | hiZPullUp | hiZPullDown
  | input | inputPullUp | inputPullDown | notSampled
  | released | openDrain
  | protocol | idle | off
  deriving DecidableEq, Repr

/-- A driven level, or high impedance. -/
def BallState.ofLevel : Option Bool → BallState
  | none => .hiZ
  | some true => .high
  | some false => .low

/-- TOUT_n: pulled down while power-on reset or the low-power mode lasts, low in another device reset, else the level of its channel (R73). -/
def toutState (s : State) (n : Nat) : BallState :=
  if s.clk.por || s.clk.lowPower then .hiZPullDown else if s.clk.held then .low else .ofLevel (some (toutBall s n))

/-- A ball that is one thing in device reset, another in the low-power mode, and a third after reset release. -/
def byMode (s : State) (reset saving run : BallState) : BallState := if s.clk.lowPower then saving else if s.clk.held then reset else run

/-- A SerDes transmitter, or a receiver, runs as its port or twin lane is enabled. -/
def serdesState (s : State) (reset : BallState) (en : Bool) : BallState := byMode s reset .off (if en then .protocol else .off)

/-- A twin lane is powered while LANE_EN selects it, unless TWIN_SOLO is set or the device is in RECOVERY (R287, R288, R521). -/
def twinPowered (s : State) (l : Nat) : Bool := s.fbit F.TWIN_CTRL_LANE_EN l && !s.twin.solo && !s.recovering

/-- The state of a ball (R530). -/
def ballState (s : State) : Ball → BallState
  | .gateH n => .ofLevel (gateBallH s n)
  | .gateL n => .ofLevel (gateBallL s n)
  | .portTxdis p => .ofLevel (portTxdis s p)
  | .portI2csel p => if s.clk.held || portI2csel s p then .hiZ else .low
  | .portModabs _ => byMode s .input .notSampled .input
  | .portLos _ => byMode s .input .notSampled .input
  | .i2c _ => byMode s .released .released .openDrain
  | .tout n => toutState s n
  | .tin _ => byMode s .input .notSampled .input
  | .safeN _ => .input
  | .xspiResetN => byMode s .low .low .high
  | .xspiCsN => byMode s .hiZPullUp .hiZPullUp .protocol
  | .xspiOther => byMode s .hiZ .hiZ .protocol
  | .memResetN _ => byMode s .low .low .protocol
  | .memOther _ => byMode s .hiZ .hiZ .protocol
  | .portTx p => serdesState s .idle (s.flag F.PORT_P_CTL_EN p)
  | .portRx p =>
    if s.clk.lowPower && decide (p = 7) && decide (s.port.wakeRate ≠ 0) then .protocol else serdesState s .off (s.flag F.PORT_P_CTL_EN p)
  | .twinTx l => serdesState s .idle (twinPowered s l)
  | .twinRx l => serdesState s .off (twinPowered s l)
  | .twinSide => byMode s .inputPullDown .inputPullDown .input
  | .twinSolo => byMode s .inputPullDown .inputPullDown .input
  | .resetN => .input
  | .tck => .inputPullDown
  | .trstN => .inputPullDown
  | .tms => .inputPullUp
  | .tdi => .inputPullUp
  | .tdo => if s.core.jtagOut.isEmpty then .hiZ else .protocol

end Sys2Proof.Machine
end

