-- ==== Sys2Proof/WellFormed.lean ====
section
/-! DEFINITION. The well-formed commands: every index names an instance the DX512 has, every value fits its field, and every frame its format. A command that is not
well-formed names nothing the chip has; `exec` is total on it all the same. -/

namespace Sys2Proof.Machine

/-- A time-stamp: EPOCH of 16 bits and a TQ. -/
def Stamp.wf (x : Stamp) : Bool := decide (x.epoch < 65536) && decide (x.tq < 4)

/-- A PTP message: the widths of its fields. -/
def PtpMsg.wf (m : PtpMsg) : Bool :=
  decide (m.msgType < 16) && decide (m.domain < 256) && decide (m.srcId < 2 ^ 80) && decide (m.seq < 65536) && decide (m.tsSec < 2 ^ 48)
    && decide (m.tsNs < 1000000000) && decide (m.reqId < 2 ^ 80) && m.rest.all fun v => decide (v < 256)

/-- The position of a Rally frame on the lanes. -/
def RallyHdr.wf (h : RallyHdr) : Bool := decide (h.lane < 2) && decide (h.seq < 2 ^ 32)

def VTag.wf (t : VTag) : Bool := decide (t.pcp < 8) && decide (t.vid < 4096)

def HsrTag.wf (t : HsrTag) : Bool := decide (t.path < 16) && decide (t.size < 4096) && decide (t.seq < 65536)

def PrpTrailer.wf (t : PrpTrailer) : Bool := decide (t.seq < 65536) && decide (t.lan < 16) && decide (t.size < 4096)

/-- An Ethernet frame: its addresses, tags and EtherType fit, and its PTP message does. -/
def Frame.wf (f : Frame) : Bool :=
  decide (f.dst < 2 ^ 48) && decide (f.src < 2 ^ 48) && decide (f.etype < 65536) && f.tag.all VTag.wf && f.hsr.all HsrTag.wf
    && f.prp.all PrpTrailer.wf && (match f.payload with | .ptp m => m.wf | _ => true)

/-- Octets and 32-bit words. -/
def octets (l : List Nat) : Bool := l.all fun v => decide (v < 256)
def words (l : List Nat) : Bool := l.all fun v => decide (v < 2 ^ 32)

/-- The number of a transaction's source: a core of the eight, or a partition's ring. -/
def sourceNum (init src : Nat) : Bool := decide (src < if init = 0 then 8 else 128)

/-- The capacities in GiB of a channel's ranks: up to four, and 2 to 16 GiB in all where there is any (R29). -/
def rankList (l : List Nat) : Bool :=
  decide (l.length ≤ 4) && l.all (fun c => decide (0 < c)) && (l.isEmpty || decide (2 ≤ l.foldl (· + ·) 0 ∧ l.foldl (· + ·) 0 ≤ 16))

/-- The size of a register access in octets. -/
def accessSize (n : Nat) : Bool := n = 1 || n = 2 || n = 4 || n = 8

/-- A JTAG operation: the core, pair and addresses that it names. -/
def JtagOp.wf : JtagOp → Bool
  | .coreHalt k => decide (k < 8)
  | .coreResume k => decide (k < 8)
  | .coreRead k r => decide (k < 8) && decide (r < 0x2000)
  | .coreWrite k r v => decide (k < 8) && decide (r < 0x2000) && decide (v < 2 ^ 64)
  | .coreLoad k a _ => decide (k < 8) && decide (a < 2 ^ 36)
  | .coreStore k a l => decide (k < 8) && decide (a < 2 ^ 36) && octets l
  | .fabRead a _ => decide (a < 2 ^ 36)
  | .fabWrite a l => decide (a < 2 ^ 36) && octets l
  | .laneRead a _ => decide (a < 2 ^ 36)
  | .laneWrite a l => decide (a < 2 ^ 36) && octets l
  | .laneTriggers n t => decide (n < 24) && decide (t.length ≤ 4)
  | .laneReg n r => decide (n < 24) && decide (r < 66)
  | .laneView n off => decide (n < 24) && decide (off < 0x1000000)
  | .laneStaging n => decide (n < 24)
  | .idcode | .bypass | .preload _ | .extest _ | .intest _ | .testScan => true

end Sys2Proof.Machine

namespace Sys2Proof

open Sys2Proof.Machine

/-- Is a command well-formed? -/
def Instr.wf (i : Instr) : Bool :=
  match i with
  | .utcofsApply => true
  | .timeCtrlWrite v => decide (v < 2 ^ 32)
  | .syncRx port m rx fu => decide (port < 8) && m.wf && rx.wf && (fu.all fun x => x.1.wf && x.2.wf)
  | .ppsEdge st => st.wf
  | .syncLossTimer => true
  | .holdLimitReached => true
  | .stepNotice => true
  | .pdelayReqRx port m rx => decide (port < 8) && m.wf && rx.wf
  | .pdelayReqTx port => decide (port < 8)
  | .pdelayRespRx port m rx fu => decide (port < 8) && m.wf && rx.wf && fu.all PtpMsg.wf
  | .syncEgressCorrect port => decide (port < 8)
  | .twoStepSyncRecord port => decide (port < 8)
  | .followUpEgress port => decide (port < 8)
  | .toutArm n _ => decide (n < 8)
  | .toutPulseStart n => decide (n < 8)
  | .toutPulseEnd n => decide (n < 8)
  | .tinCapture n _ sub => decide (n < 8) && decide (sub < 65536)
  | .readNow => true
  | .setAbs => true
  | .stepRel => true
  | .loadTout => true
  | .popTin => true
  | .mailboxComplete blk => decide (blk < 18)
  | .groupEnable g => decide (g < 8)
  | .groupDisable g => decide (g < 8)
  | .tideEvaluation g => decide (g < 8)
  | .resync g => decide (g < 8)
  | .forceFreerun g => decide (g < 8)
  | .laneWindowStart g => decide (g < 8)
  | .slotStart t j => decide (t < 24) && decide (j < 16)
  | .partitionLate n => decide (n < 24)
  | .windowCommit g => decide (g < 8)
  | .lockstepMismatch n => decide (n < 24)
  | .spareAttachDone n => decide (n < 24)
  | .spareSelftestFail n => decide (n < 24)
  | .readLive => true
  | .timeToAng => true
  | .angToTime => true
  | .svFrameRx => true
  | .streamEnable n => decide (n < 512)
  | .streamDisable n => decide (n < 512)
  | .sampleRelease n => decide (n < 512)
  | .fingerprintComplete p => decide (p < 128)
  | .stepGuardExpiry n => decide (n < 512)
  | .clrTmax => true
  | .estRestart => true
  | .adepthWrite g v => decide (g < 8) && decide (v < 2 ^ 32)
  | .fdcSweep _ => true
  | .fdcChannelEnable c => decide (c < 8192)
  | .fdcChannelDisable c => decide (c < 8192)
  | .fdcDisable => true
  | .syncResetChannel => true
  | .syncResetGroup g => decide (g < 8)
  | .laneInstruction n => decide (n < 24)
  | .pxCmul n rd rs1 rs2 => decide (n < 24) && decide (rd < 32) && decide (rs1 < 32) && decide (rs2 < 32)
  | .pxCmulc n rd rs1 rs2 => decide (n < 24) && decide (rd < 32) && decide (rs1 < 32) && decide (rs2 < 32)
  | .pxCmac n rd rs1 rs2 => decide (n < 24) && decide (rd < 32) && decide (rs1 < 32) && decide (rs2 < 32)
  | .pxCadd n rd rs1 rs2 => decide (n < 24) && decide (rd < 32) && decide (rs1 < 32) && decide (rs2 < 32)
  | .pxCsub n rd rs1 rs2 => decide (n < 24) && decide (rd < 32) && decide (rs1 < 32) && decide (rs2 < 32)
  | .pxCscl n rd rs1 rs2 => decide (n < 24) && decide (rd < 32) && decide (rs1 < 32) && decide (rs2 < 32)
  | .pxCabs2 n rd rs1 => decide (n < 24) && decide (rd < 32) && decide (rs1 < 32)
  | .pxCabs n rd rs1 => decide (n < 24) && decide (rd < 32) && decide (rs1 < 32)
  | .pxCarg n rd rs1 => decide (n < 24) && decide (rd < 32) && decide (rs1 < 32)
  | .pxCis n rd rs1 => decide (n < 24) && decide (rd < 32) && decide (rs1 < 32)
  | .pxRot n rd rs1 rs2 => decide (n < 24) && decide (rd < 32) && decide (rs1 < 32) && decide (rs2 < 32)
  | .pxDfta n rd rs1 rs2 => decide (n < 24) && decide (rd < 32) && decide (rs1 < 32) && decide (rs2 < 32)
  | .pxQchk n rd rs1 rs2 => decide (n < 24) && decide (rd < 32) && decide (rs1 < 32) && decide (rs2 < 32)
  | .pxDone n rs1 => decide (n < 24) && decide (rs1 < 32)
  | .vectorLatchRead => true
  | .clrUsed => true
  | .laneDebugHalt n => decide (n < 24)
  | .laneDebugResume n => decide (n < 24)
  | .laneDebugStep n => decide (n < 24)
  | .gooseRetransmit b => decide (b < 512)
  | .gooseBlockEnable b => decide (b < 512)
  | .gooseBlockDisable b => decide (b < 512)
  | .gooseSubEnable sub => decide (sub < 1024)
  | .gooseSubDisable sub => decide (sub < 1024)
  | .gooseFrameRx => true
  | .gooseSubUpdate sub => decide (sub < 1024)
  | .gooseSubExpiry sub => decide (sub < 1024)
  | .republish => true
  | .clrSim => true
  | .gateTrigger n => decide (n < 24)
  | .gateChannelEnable n => decide (n < 24)
  | .gateChannelDisable n => decide (n < 24)
  | .gateCommit n => decide (n < 24)
  | .gateReload n => decide (n < 24)
  | .gateDutyEnd n => decide (n < 24)
  | .gateRefreshStart n => decide (n < 24)
  | .gateRefreshEnd n => decide (n < 24)
  | .gateInstantFixed n => decide (n < 24)
  | .gateScheduledRise n => decide (n < 24)
  | .gatePulseEnd n => decide (n < 24)
  | .safeNAssert k _ => decide (k < 4)
  | .gateFreeze => true
  | .gateUnfreeze => true
  | .pwmClockReturn => true
  | .gateCalibration _ => true
  | .readSched => true
  | .twinLaneDown lane => decide (lane < 2)
  | .twinLaneUp lane => decide (lane < 2)
  | .twinEnable => true
  | .twinDisable => true
  | .helloTx => true
  | .helloRx h w => h.wf && words w
  | .fprintRx h w => h.wf && words w
  | .commitRx h w => h.wf && words w
  | .gseqRx h w => h.wf && words w
  | .xferRx h w => h.wf && words w
  | .yieldRx h => h.wf
  | .resetReqRx h => h.wf
  | .resetNakRx h => h.wf
  | .xferAckRx h p => h.wf && decide (p < 128)
  | .xferNakRx h p => h.wf && decide (p < 128)
  | .xferFrameTx => true
  | .pairLinkTimeout => true
  | .rallyResolve g => decide (g < 8)
  | .xferTimeout => true
  | .wake => true
  | .yield => true
  | .resetPartner => true
  | .realign g => decide (g < 8)
  | .clrRmax g => decide (g < 8)
  | .wakeFrameTx => true
  | .wakeTimeout => true
  | .partnerResetFire => true
  | .drecBinarySample => true
  | .drecTickAssemble _ => true
  | .drecEnable => true
  | .drecDisable => true
  | .drecUnitEnable u => decide (u < 32)
  | .trigger u tag => decide (u < 32) && decide (tag < 128)
  | .free => true
  | .freeAll => true
  | .drecNextSlotArmed => true
  | .drecSlotDone => true
  | .elogRecordWrite => true
  | .elogSwCodeWrite tag code => decide (tag < 128) && decide (code < 2 ^ 32)
  | .elogRdIdxWrite v => decide (v < 2 ^ 32)
  | .clear => true
  | .elogClearDone => true
  | .exportLog => true
  | .elogExportDone => true
  | .portEnable p => decide (p < 8)
  | .portDisable p => decide (p < 8)
  | .portUpConditionChange p _ _ _ _ => decide (p < 8)
  | .upHoldExpiry p => decide (p < 8)
  | .downHoldExpiry p => decide (p < 8)
  | .anComplete p lp => decide (p < 8) && decide (lp < 65536)
  | .modabsChange p _ => decide (p < 8)
  | .i2cCmd k v => decide (k < 2) && decide (v < 2 ^ 32)
  | .i2cDone k _ data => decide (k < 2) && octets data
  | .eqTxWrite p v => decide (p < 8) && decide (v < 2 ^ 32)
  | .portTxthrWrite p v => decide (p < 8) && decide (v < 2 ^ 32)
  | .portTestWrite p v => decide (p < 8) && decide (v < 2 ^ 32)
  | .macRxFrame p f st _ _ _ _ => decide (p < 8) && f.wf && st.wf
  | .macTxStart p _ => decide (p < 8)
  | .txUnderrun p => decide (p < 8)
  | .wakeFrameDetect f _ => f.wf
  | .swcFrameAdmit sp => decide (sp < 12)
  | .swcTxCopy e ecc => decide (e < 12) && decide (ecc < 4)
  | .swcFlushComplete p => decide (p < 8)
  | .fdbAgeOut idx => decide (idx < 16384)
  | .ddEntryExpire k => decide (k < 4)
  | .cpuRxDeliver => true
  | .cpuTxTailWrite p v => decide (p < 128) && decide (v < 2 ^ 32)
  | .cpuTxFrame => true
  | .flushFdbAll => true
  | .flushFdbPort => true
  | .vlanRd => true
  | .vlanWr => true
  | .fdbRd => true
  | .fdbWr => true
  | .fdbDel => true
  | .mcRd => true
  | .mcWr => true
  | .fdbRdIndex => true
  | .swcEnable => true
  | .pairEnable k => decide (k < 4)
  | .ringEnable p _ _ => decide (p < 128)
  | .fabricAccess init src kind addr data ue => decide (init < 8) && sourceNum init src && decide (kind < 3) && decide (addr < 2 ^ 36) && octets data && (ue.all fun c => decide (c < 256))
  | .coreInstruction k ue evict => decide (k < 8) && decide (ue < 3) && (evict.all fun e => decide (e.1 < 256) && decide (e.2 < 2 ^ 36))
  | .curWrite k v => decide (k.writer < 8) && decide (k.core < 8) && decide (v < 2 ^ 32)
  | .irqRouteEnable p v => decide (p < 128) && decide (v < 2 ^ 32)
  | .iommuCommand => true
  | .pulse p => decide (p < 128)
  | .holdWrite p _ => decide (p < 128)
  | .resetPulseEnd p => decide (p < 128)
  | .wdKick p => decide (p < 128)
  | .wdWarn p => decide (p < 128)
  | .wdExpiry p => decide (p < 128)
  | .wdConfigWrite p _ v => decide (p < 128) && decide (v < 2 ^ 32)
  | .lwdExpiry p _ => decide (p < 128)
  | .dwdKick v => decide (v < 2 ^ 32)
  | .dwdWarn => true
  | .dwdExpiry => true
  | .qosPeriodStart => true
  | .apply => true
  | .approve => true
  | .attest => true
  | .measure => true
  | .keysExport => true
  | .confirm => true
  | .import => true
  | .commit => true
  | .rootInstall => true
  | .burnRoot => true
  | .lcDevelop => true
  | .lcSeal => true
  | .lcDecommission => true
  | .exportKtk => true
  | .keysApplyEdge => true
  | .keysScrub ecc => ecc.all fun i => decide (i < 256)
  | .idReady => true
  | .tamperDetect levels => decide (levels < 4)
  | .zeroisation => true
  | .snapshot => true
  | .snapshotClear => true
  | .readSnapTime => true
  | .aonWriteApply => true
  | .registerWrite init src addr size v => decide (init < 8) && sourceNum init src && decide (addr < 2 ^ 32) && accessSize size && decide (v < 2 ^ 64)
  | .memRetrain _ _ => true
  | .pllLockLost pll unit => decide (pll < 8) && decide (unit < 8) && (decide (6 ≤ pll) || decide (unit = 0))
  | .pllRelock pll unit _ _ => decide (pll < 8) && decide (unit < 8) && (decide (6 ≤ pll) || decide (unit = 0))
  | .refLost => true
  | .refReturn => true
  | .resetPin _ _ => true
  | .softwareReset v => decide (v < 2 ^ 32)
  | .resetRelease _ _ => true
  | .powerOnReset _ => true
  | .vbatLoss => true
  | .testReset => true
  | .bootInitDone _ ranksA _ ranksB _ => rankList ranksA && rankList ranksB
  | .bootSlotLoaded _ => true
  | .bootApplyDone => true
  | .flashRead => true
  | .flashErase => true
  | .flashProg => true
  | .bootConfirm => true
  | .setTrial => true
  | .forceRecovery => true
  | .flashOpTimeout => true
  | .info f _ => f.wf
  | .stage f _ => f.wf
  | .keymsg f _ => f.wf
  | .recoveryApprove f _ => f.wf
  | .root f _ => f.wf
  | .saveStore f _ => f.wf
  | .program f _ => f.wf
  | .reboot f _ => f.wf
  | .lowPowerEnter => true
  | .lowPowerWake => true
  | .readSec => true
  | .secIncrement => true
  | .jtagInstruction op => op.wf
  | .rallyCopyDiscard lane _ => decide (lane < 2)
  | .safeNRelease k => decide (k < 4)

end Sys2Proof
end

