-- ==== Sys2Proof/Tests/Slice0.lean ====
section
/-! SUPPORT. The model's own tests: well-formedness, single steps, and a state and operands that meet the hypotheses of each statement. The expected values are
hand calculations from the rules that the statements name. -/

set_option Elab.async false

namespace Sys2Proof.Tests

open Sys2Proof Sys2Proof.Machine

/-- A state some of whose fields are set: field, index, value. -/
def st (l : List (Fld × Nat × Nat)) : State := l.foldl (fun s x => s.setFld x.1 x.2.2 x.2.1) State.reset

/-! ## Well-formedness: each check refuses a term that fails it -/

def okStamp : Stamp := { t := 0, tbc := 0, epoch := 0, tq := 3 }
def ptpMsg (ty : Nat) (two : Bool) : PtpMsg := { msgType := ty, domain := 0, twoStep := two, corr := 0, srcId := 1, seq := 5, tsSec := 0, tsNs := 0, reqId := 0, rest := [] }
def frame (ety : Nat) (p : Payload) : Frame := { dst := 1, src := 2, tag := none, hsr := none, prp := [], etype := ety, payload := p, len := 64 }

theorem test_wf_index : (Instr.toutArm 7 true).wf = true ∧ (Instr.toutArm 8 true).wf = false ∧ (Instr.streamEnable 512).wf = false ∧ (Instr.fdcChannelEnable 8192).wf = false
    ∧ (Instr.gooseBlockEnable 512).wf = false ∧ (Instr.gooseSubEnable 1024).wf = false ∧ (Instr.gateTrigger 24).wf = false ∧ (Instr.fdbAgeOut 16384).wf = false
    ∧ (Instr.mailboxComplete 18).wf = false ∧ (Instr.pulse 128).wf = false ∧ (Instr.swcFrameAdmit 12).wf = false := by decide +kernel
theorem test_wf_stamp : (Instr.ppsEdge okStamp).wf = true ∧ (Instr.ppsEdge { okStamp with epoch := 65536 }).wf = false ∧ (Instr.ppsEdge { okStamp with tq := 4 }).wf = false := by decide +kernel
theorem test_wf_ptp : (Instr.syncRx 0 (ptpMsg 0 false) okStamp none).wf = true ∧ (Instr.syncRx 8 (ptpMsg 0 false) okStamp none).wf = false ∧ (Instr.syncRx 0 (ptpMsg 16 false) okStamp none).wf = false
    ∧ (Instr.syncRx 0 { ptpMsg 0 false with tsNs := 1000000000 } okStamp none).wf = false ∧ (Instr.syncRx 0 { ptpMsg 0 false with rest := [256] } okStamp none).wf = false
    ∧ (Instr.pdelayRespRx 0 (ptpMsg 3 true) okStamp (some (ptpMsg 16 false))).wf = false := by decide +kernel
theorem test_wf_frame : (Instr.info (frame 0x88B6 (.raw [])) true).wf = true ∧ (Instr.info { frame 0 (.raw []) with dst := 2 ^ 48 } true).wf = false
    ∧ (Instr.info { frame 0 (.raw []) with tag := some ⟨8, false, 0⟩ } true).wf = false ∧ (Instr.info { frame 0 (.raw []) with tag := some ⟨0, false, 4096⟩ } true).wf = false
    ∧ (Instr.info (frame 65536 (.raw [])) true).wf = false := by decide +kernel
theorem test_wf_register : (Instr.pxCmul 0 31 0 0).wf = true ∧ (Instr.pxCmul 0 32 0 0).wf = false ∧ (Instr.pxDone 24 0).wf = false ∧ (Instr.laneInstruction 24).wf = false := by decide +kernel
theorem test_wf_access : (Instr.registerWrite 0 7 0x40000000 4 0).wf = true ∧ (Instr.registerWrite 8 0 0 4 0).wf = false ∧ (Instr.registerWrite 0 8 0 4 0).wf = false
    ∧ (Instr.registerWrite 0 0 0 3 0).wf = false ∧ (Instr.registerWrite 0 0 (2 ^ 32) 4 0).wf = false ∧ (Instr.fabricAccess 1 127 3 0 [0] none).wf = false
    ∧ (Instr.fabricAccess 1 127 0 0 [256] none).wf = false := by decide +kernel
theorem test_wf_ranks : (Instr.bootInitDone none [1, 1] true [] false).wf = true ∧ (Instr.bootInitDone none [1] true [] false).wf = false ∧ (Instr.bootInitDone none [16, 1] true [] false).wf = false
    ∧ (Instr.bootInitDone none [1, 1, 1, 1, 1] true [] false).wf = false := by decide +kernel
theorem test_wf_rally : (Instr.yieldRx ⟨1, false, 0⟩).wf = true ∧ (Instr.yieldRx ⟨2, false, 0⟩).wf = false
    ∧ (Instr.helloRx ⟨0, false, 2 ^ 32⟩ []).wf = false ∧ (Instr.helloRx ⟨0, false, 0⟩ [2 ^ 32]).wf = false := by decide +kernel
theorem test_wf_jtag : (Instr.jtagInstruction (.coreHalt 8)).wf = false ∧ (Instr.jtagInstruction (.laneReg 0 66)).wf = false ∧ (Instr.jtagInstruction (.fabWrite 0 [256])).wf = false
    ∧ (Instr.jtagInstruction .idcode).wf = true ∧ (Instr.keysScrub [256]).wf = false ∧ (Instr.tamperDetect 4).wf = false := by decide +kernel
theorem test_no_word_spells_a_command : decodeTableWord 32 0 = none ∧ State.reset.withFetchWord 32 0 = State.reset := ⟨rfl, rfl⟩

/-! ## Witnesses: the queue, time, Tide and lane windows -/

/-- A state with its time base set. -/
def tm (s : State) (f : TimeSt → TimeSt) : State := { s with time := f s.time }

theorem witness_StepRunsTheFrontCommand : ({ State.reset with pending := [.readNow] } : State).pending = .readNow :: [] := rfl
theorem witness_IdleStepIsOneNanosecond : State.reset.pending = [] ∧ State.reset.clk.held = false ∧ State.reset.clk.tbcStop = false := by decide +kernel
theorem witness_idle_held : (assertReset State.reset causeSw).pending = [] ∧ (assertReset State.reset causeSw).clk.held = true := ⟨rfl, rfl⟩
theorem witness_QueueIsFirstInFirstOut : ∃ t, step { State.reset with pending := [.clrTmax, .readNow] } = .next t := ⟨_, rfl⟩
theorem witness_EveryStepKeepsSoundness : ({ State.reset with pending := [.readNow] } : State).Sound ∧ ∃ t, step { State.reset with pending := [.readNow] } = .next t :=
  ⟨⟨rfl, by decide, rfl⟩, _, rfl⟩
theorem witness_NoStepUndoesAFuse : ∃ t, step State.reset = .next t := ⟨_, rfl⟩
theorem witness_CommandsTouchOnlyTheirParts : (∃ t, exec .readNow State.reset = .next t) ∧ Part.mem ∉ touched .readNow := ⟨⟨_, rfl⟩, by decide⟩
theorem witness_CountersSaturate : 0 + 5 ≤ ctrMax ∧ ctrMax < ctrMax + 1 ∧ C.SYS_SNAPSHOTS.how = .device ∧ C.SYS_SNAPSHOTS.inst = none ∧ C.SYS_SNAPSHOTS.ovf.width = 1 := by decide +kernel
theorem witness_MemoryReadsWhatWasWritten : 1 < [7, 8].length ∧ 0x801 = 0x800 + 1 ∧ (0x7FF < 0x800 ∨ 0x800 + 2 ≤ 0x7FF) ∧ (0x802 < 0x800 ∨ 0x800 + 2 ≤ 0x802) := by decide +kernel
theorem witness_ResetHoldsEveryBlock : (assertReset State.reset causeSw).clk.held = true := rfl

theorem witness_TimeSourceAndUtcOffset :
    (let s := tm State.reset fun t => { t with utcPend := some 37, utcDue := true }; s.clk.held = false ∧ s.time.utcPend = some 37 ∧ s.time.utcDue = true)
    ∧ (let s := State.reset; effSource (bitsOf 0x80 9 8) = effSource (s.fld F.TIME_CTRL_SRC) ∧ effSource (bitsOf 0x100 9 8) ≠ effSource (s.fld F.TIME_CTRL_SRC) ∧ effSource (bitsOf 0x100 9 8) ≠ 0)
    ∧ (let s := st [(F.TIME_CTRL_SRC, 0, 1)]; effSource (bitsOf 0 9 8) ≠ effSource (s.fld F.TIME_CTRL_SRC) ∧ effSource (bitsOf 0 9 8) = 0) := by decide +kernel

/-- A port 3 that a slave uses, with a valid peer delay. -/
def slave : State :=
  st [(F.TIME_CTRL_SRC, 0, 1), (F.TIME_CTRL_SLAVE_PORT, 0, 3), (F.TIME_P_STAT_PD_VALID, 3, 1), (F.TIME_P_MLD_MLD, 3, 100)]
theorem witness_OffsetsReachTheDiscipline :
    (slave.clk.held = false ∧ effSource (slave.fld F.TIME_CTRL_SRC) = 1 ∧ (ptpMsg 0 false).twoStep = false ∧ syncUsable slave 3 (ptpMsg 0 false) { okStamp with tq := 0 } none = true)
    ∧ (ptpMsg 0 true).twoStep = true ∧ syncUsable slave 3 (ptpMsg 0 true) okStamp (some (ptpMsg 8 false, okStamp)) = true
    ∧ (let s := st [(F.TIME_CTRL_SRC, 0, 2)]; effSource (s.fld F.TIME_CTRL_SRC) = 2 ∧ okStamp.epoch = s.fld F.TIME_STAT_EPOCH) := by decide +kernel

theorem witness_SourceLossAndHoldLimit :
    (let s := tm (st [(F.TIME_STAT_STATE, 0, 2)]) fun t => { t with lossAt := some 0 }; s.clk.held = false ∧ 0 ≤ s.time.tbc ∧ s.time.lossAt = some 0 ∧ s.fld F.TIME_STAT_STATE = 2)
    ∧ (let s := tm (st [(F.TIME_STAT_STATE, 0, 1)]) fun t => { t with lossAt := some 0 }; s.time.lossAt = some 0 ∧ s.fld F.TIME_STAT_STATE = 1 ∧ s.time.everLocked = false)
    ∧ (let s := tm (st [(F.TIME_STAT_STATE, 0, 3)]) fun t => { t with holdAt := some 0 }; s.time.holdAt = some 0 ∧ s.fld F.TIME_STAT_STATE = 3) := by decide +kernel

/-- A TOUT channel 0 in a mode, with its start loaded. -/
def touts (mode : Nat) (start : Option Nat) : State :=
  let s := st [(F.TIME_TOUT_CTRL_MODE, 0, mode), (F.TIME_TOUT_WIDTH_VAL, 0, 100), (F.TIME_TOUT_PERIOD_VAL, 0, 1000), (F.TIME_TOUT_CTRL_MIN_TQ, 0, 3)]
  s.setTout 0 { s.tout 0 with start := start }
/-- The channel armed, its instant come. -/
def toutDue (mode per : Nat) : State :=
  let s := (touts mode (some 0)).setFlag F.TIME_TOUT_CTRL_ARM true 0
  s.setTout 0 { s.tout 0 with per := per, next := 0 }
theorem witness_PulsesAndCaptures :
    (let s := touts 1 (some 5000); s.clk.held = false ∧ (s.tout 0).start = some 5000 ∧ s.flag F.TIME_TOUT_CTRL_ARM 0 = false ∧ toutArmRefused s 0 = false ∧ s.fld F.TIME_TOUT_CTRL_MODE 0 = 1)
    ∧ (let s := touts 2 (some 5000); toutArmRefused s 0 = false ∧ s.fld F.TIME_TOUT_CTRL_MODE 0 = 2)
    ∧ (let s := toutDue 2 1000; s.flag F.TIME_TOUT_CTRL_ARM 0 = true ∧ (s.tout 0).fired = false ∧ (s.tout 0).next ≤ s.devNs ∧ s.fld F.TIME_STAT_TQ ≤ s.fld F.TIME_TOUT_CTRL_MIN_TQ 0 ∧ s.fld F.TIME_TOUT_PERIOD_VAL 0 = (s.tout 0).per ∧ 0 < (s.tout 0).per)
    ∧ (let s := toutDue 2 999; s.fld F.TIME_TOUT_PERIOD_VAL 0 ≠ (s.tout 0).per ∧ 0 < s.fld F.TIME_TOUT_PERIOD_VAL 0)
    ∧ (let s := toutDue 1 1000; s.fld F.TIME_TOUT_CTRL_MODE 0 = 1 ∧ (s.tout 0).late = false)
    ∧ (let s := State.reset.setTout 0 { State.reset.tout 0 with pulseEnd := some 0 }; (s.tout 0).pulseEnd = some 0 ∧ 0 ≤ s.time.tbc)
    ∧ (let s := st [(F.TIME_TIN_CTRL_EDGE, 7, 1)]; bitOf (s.fld F.TIME_TIN_CTRL_EDGE 7) (if true then 0 else 1) = true ∧ 65535 < 65536 ∧ (s.tin 7).last = none ∧ (s.tin 7).fifo.length < 16) := by decide +kernel

theorem witness_TimeMailboxCommands :
    (State.reset.flag (mbxBusy 2) = false ∧ State.reset.time.phase = 0 ∧ effSource (State.reset.fld F.TIME_CTRL_SRC) = 0)
    ∧ (let s := tm State.reset fun t => { t with phase := 1 }; s.time.phase ≠ 0 ∧ s.devNs + 1 < 2 ^ 48 * 1000000000)
    ∧ (st [(F.TIME_SEL_KIND, 0, 1)]).fld F.TIME_SEL_KIND = 1
    ∧ (let s := (st [(F.TIME_SEL_KIND, 0, 2)]).setTin 0 { fifo := [⟨okStamp, true⟩], last := none }; s.fld F.TIME_SEL_KIND = 2 ∧ (s.tin (s.fld F.TIME_SEL_INDEX)).fifo = ⟨okStamp, true⟩ :: [])
    ∧ (let s := State.reset.mbxStart 2 (mbxEcho State.reset 2 3); 2 ≠ 15 ∧ 2 ≠ 17 ∧ sparseFind 2 s.mbx = some (mbxEcho State.reset 2 3) ∧ (mbxEcho State.reset 2 3).ok = true) := by decide +kernel

theorem witness_StepNoticeAndSecondsOfAon :
    (let s := tm State.reset fun t => { t with notices := [(-5, 1, 0)], sys := 1 }; s.clk.held = false ∧ s.time.notices = (-5, 1, 0) :: [] ∧ 0 < s.time.sys ∧ sparseFind 2 s.mbx = none)
    ∧ (let s := tm (State.reset.mbxStart 2 (mbxEcho State.reset 2 2)) fun t => { t with notices := [(5, 1, 0)], sys := 1 }; (sparseFind 2 s.mbx).map MbxRun.cmd = some 2)
    ∧ (let s := tm (st [(F.TIME_STAT_STATE, 0, 2)]) fun t => { t with secDue := true }; s.time.secDue = true ∧ s.fld F.TIME_STAT_STATE = 2) := by decide +kernel

/-- A running port 3 with a SwCopy in its FIFO, and what it carries. -/
def copyOf (m : PtpMsg) : SwCopy :=
  { frame := { frame 0x88F7 (.ptp m) with dst := 0x011B19000000 }, inPort := 2, stamp := okStamp, wire := 84, cells := 1, pool := false, part := 0, cls := 7, vid := 1, pcp := 6, flags := 0 }
def tcPort (m : PtpMsg) : State :=
  let s := st [(F.TIME_P_CTRL_TC_EN, 3, 1), (F.TIME_P_CTRL_PDELAY_EN, 3, 1), (F.PORT_P_STAT_LINK, 3, 3), (F.TIME_P_CTRL_PDELAY_MAX, 3, 1000)]
  s.setPortCh 3 { s.portCh 3 with fifo := some (copyOf m) }
def corrOne : CorrRec := { ingress := 2, domain := 0, srcId := 1, seq := 5, corr := 7, syncTbc := 0 }
def pdResp : PtpMsg := { ptpMsg 3 false with reqId := portId (tcPort (ptpMsg 0 false)) 3, seq := 9 }
theorem witness_PeerDelayMeasured :
    (let s := st [(F.TIME_P_CTRL_PDELAY_EN, 3, 1), (F.PORT_P_STAT_LINK, 3, 3)];
      s.clk.held = false ∧ 3 < 8 ∧ s.flag F.TIME_P_CTRL_PDELAY_EN 3 = true ∧ oobReady s 3 = true ∧ (ptpMsg 2 false).msgType = 2 ∧ (s.ptpPort 3).nextReq = none ∧ s.flag F.TIME_P_STAT_PD_VALID 3 = false
        ∧ (s.portCh 3).oob = [] ∧ (s.portCh 3).txEnd ≤ s.time.sys ∧ s.flag F.TIME_P_CTRL_RESP_TWO_STEP 3 = false)
    ∧ (let s := (tcPort (ptpMsg 0 false)).setPtpPort 3 { State.reset.ptpPort 3 with outstanding := some (9, okStamp) };
      pdResp.msgType = 3 ∧ pdResp.twoStep = false ∧ (s.ptpPort 3).outstanding = some (pdResp.seq, okStamp) ∧ pdResp.reqId = portId s 3 ∧ s.ctr C.TIME_P_PDRESP_RX 3 < ctrMax
        ∧ (0 : Int) ≤ (Stamp.t { okStamp with t := 1000 * 65536 }) - okStamp.t - pdResp.corr ∧ ((1000 * 65536 : Nat) : Int) ≤ (s.fld F.TIME_P_CTRL_PDELAY_MAX 3 : Int) * 131072
        ∧ (Stamp.epoch { okStamp with t := 1000 * 65536 }) = okStamp.epoch ∧ s.flag F.TIME_P_STAT_PD_VALID 3 = false ∧ s.sfld F.TIME_P_RXTRIM_TRIM 3 = 0) := by decide +kernel
theorem witness_TransparentClock :
    (let m := ptpMsg 0 false; let s := tcPort m
      s.clk.held = false ∧ (s.portCh 3).fifo = some (copyOf m) ∧ ptpOf (copyOf m).frame = some m ∧ s.flag F.TIME_P_CTRL_TC_EN 3 = true ∧ (copyOf m).inPort < 8 ∧ (s.portCh 3).txEnd ≤ s.time.sys ∧ m.msgType = 0 ∧ m.twoStep = false)
    ∧ (let m := ptpMsg 0 true; let s := tcPort m; ptpOf (copyOf m).frame = some m ∧ m.twoStep = true ∧ (s.ptpPort 3).recs.length < 32)
    ∧ (let m := ptpMsg 8 false; let s := (tcPort m).setPtpPort 3 { State.reset.ptpPort 3 with recs := [corrOne] }
      ptpOf (copyOf m).frame = some m ∧ m.msgType = 8 ∧ (s.ptpPort 3).recs = [corrOne] ∧ corrOne.ingress = (copyOf m).inPort ∧ corrOne.domain = m.domain ∧ corrOne.srcId = m.srcId ∧ corrOne.seq = m.seq
        ∧ (copyOf m).stamp.tbc / 65536 ≤ corrOne.syncTbc + 100000000) := by decide +kernel

/-- A group 0 whose enable passes its checks: its reference stream is enabled, single-phase. -/
def grpOk : State := (st [(F.TIDE_G_CFG_REF_MODE, 0, 0), (F.SVI_S_CTL_EN, 0, 1), (F.SVI_S_CTL_NVAL, 0, 8)])
/-- The group in FREERUN from device time 0. -/
def grpOn : State := ((grpOk.setFbit F.TIDE_CTRL_GEN 0 true).setFld F.TIDE_G_STAT_STATE gtFreerun).setGrp 0 { TideGrp.reset with b := 0 }
theorem witness_grpOk : enableRefused grpOk 0 = false := by decide +kernel
theorem witness_GroupStartsAtAngleZero : grpOk.clk.held = false ∧ grpOk.recovering = false ∧ 0 < 8 ∧ grpEn grpOk 0 = false ∧ enableRefused grpOk 0 = false :=
  ⟨by decide +kernel, by decide +kernel, by decide, by decide +kernel, witness_grpOk⟩
theorem witness_WindowNumberAndBoundary : State.reset.fld F.TIDE_G_CFG_WPC 0 = 2 ∧ (st [(F.TIDE_G_CFG_WPC, 0, 0)]).fld F.TIDE_G_CFG_WPC 0 = 0 ∧ (st [(F.TIDE_G_CFG_WPC, 0, 1)]).fld F.TIDE_G_CFG_WPC 0 = 1
    ∧ (st [(F.TIDE_G_CFG_WPC, 7, 3)]).fld F.TIDE_G_CFG_WPC 7 = 3 ∧ winAngle 96 1 ≤ winAngle 96 1 ∧ winAngle 96 1 < winAngle 96 2 := by decide +kernel
theorem test_window_one_of_96 : winAngle 96 1 = 44739243 ∧ winOf 96 44739242 = 0 ∧ winOf 96 44739243 = 1 := by decide +kernel
theorem witness_GroupEnableAndDisable :
    (State.reset.recovering = false ∧ grpEn State.reset 0 = false ∧ enableRefused State.reset 0 = true) ∧ (grpEn grpOk 0 = false ∧ enableRefused grpOk 0 = false ∧ grpState grpOk 0 = gtOff)
    ∧ (grpEn grpOn 0 = true ∧ grpState grpOn 0 ≠ gtOff ∧ (grpOn.grp 0).cur = none ∧ grpOn.recovering = false) :=
  ⟨by decide +kernel, ⟨by decide +kernel, witness_grpOk, by decide +kernel⟩, by decide +kernel⟩
/-- The group at D after its first boundary, with and without the microsecond's grace. -/
def grpAt (ns : Nat) : State := tm grpOn fun t => { t with sec := 0, ns := ns }
theorem witness_TideEvaluationFixesAWindow :
    (grpOn.devT < (grpOn.grp 0).b + adepth grpOn 0 * 65536 ∧ grpEn grpOn 0 = true)
    ∧ (let s := grpAt 1001000; (s.grp 0).b + adepth s 0 * 65536 + 65536000 ≤ s.devT ∧ grpEn s 0 = true ∧ (tideNext s 0 (evalVals s 0)).1 < 8) := by decide +kernel

theorem witness_TideMailboxConverts :
    grpOn.clk.held = false ∧ grpOn.flag (mbxBusy 3) = false ∧ grpOn.fld F.TIDE_SEL_KIND = 0 ∧ grpOn.fld F.TIDE_SEL_INDEX = 0 ∧ timeToAng grpOn 0 grpOn.devT = some (0, false)
    ∧ timeToAng grpOk 0 grpOk.devT = none ∧ (0 : Nat) = (grpOn.mbxD 3 0 % 65536 * 2 ^ 32 + grpOn.mbxD 3 1) * 1000000000 + grpOn.mbxD 3 2 % 2 ^ 30
    ∧ (0 : Nat) = nearestCyc (0 / 2 ^ 32) (grpOn.mbxD 3 0 / 65536 % 65536) * 2 ^ 32 + grpOn.mbxD 3 3 ∧ angToTime grpOn 0 0 = some (0, false) := by decide +kernel

/-- Window 0 of group 0, and the slot 0 of table 0 for partition 1. -/
def win0 : TideWin := { n := 0, x := 0, b := 0, inc := 1000000, f := ⟨50, 1⟩ }
def slot0 : LaneSlot := { tab := 0, idx := 0, part := 1, start := 0, budget := 1000, runs := true }
def laneWin0 : LaneWin :=
  { n := 0, map := win0, start := 0, stop := 1000, edge := 0, tq := 0, d1 := 0, d2 := 0, d3 := 0, d4 := 0, d5 := 0, d6 := 0, goose := [], chans := [], plane := [],
    slots := [slot0], workEnd := 10000, opened := [] }
/-- Pair 0 runs table 0, partition 1 in its slot 0. -/
def laneSt (g : TideGrp → TideGrp) : State :=
  let s := st [(F.TIDE_CTRL_GEN, 0, 1), (F.TIDE_P_CFG_ROLE, 0, 1), (F.TIDE_P_STAT_TABLE, 0, 0), (F.TIDE_P_STAT_RUN, 0, 1)]
  let s := (List.range 24).foldl (fun s n => if n = 0 then s else s.setFld F.TIDE_P_STAT_TABLE noTable n) s
  s.setGrp 0 (g (s.grp 0))
theorem witness_LaneWindowsRun :
    (let s := tm (laneSt fun g => { g with wins := [win0] }) fun t => { t with ns := 5000000 }; s.clk.held = false ∧ windowDue s 0 = some win0 ∧ (s.grp 0).cur = none)
    ∧ (let s := laneSt fun g => { g with cur := some laneWin0 };
      (List.range 8).find? (fun g => ((s.grp g).cur.bind fun w => slotIn w 0 0).isSome) = some 0 ∧ (s.grp 0).cur = some laneWin0 ∧ slotIn laneWin0 0 0 = some slot0 ∧ slotOpened laneWin0 1 = false
        ∧ slot0.start ≤ laneElapsed s laneWin0 ∧ s.devT < laneWin0.stop ∧ s.keys.lifecycle ≠ lcDecommissioned ∧ (s.lpart 1).outcome = 0 ∧ tableDead s 0 = false ∧ slotHeld s 1 = false
        ∧ pairOfTable s 0 = some 0 ∧ (s.pair 0).run = false ∧ (s.pair 0).halted = false ∧ commitDue s 0 = false)
    ∧ (let s := tm (laneSt fun g => { g with cur := some laneWin0 }) fun t => { t with ns := 1 }; commitDue s 0 = true) := by decide +kernel
theorem witness_CommitTakesThePendingVector :
    (let s := State.reset.setLpart 1 { State.reset.lpart 1 with outcome := wsCommitted, pendVec := some [7] }; slot0.part = 1 ∧ slot0.tab < 24 ∧ slot0.runs = true ∧ (s.lpart 1).outcome = wsCommitted ∧ (s.lpart 1).pendVec = some [7])
    ∧ (State.reset.lpart 1).outcome ≠ wsCommitted ∧ (State.reset.lpart 1).outcome ≠ wsHeld := by decide +kernel

/-- Pair 0 runs table 0; pair 1 is a spare or not. -/
def pairs (role : Nat) : State := tm ((laneSt id).setFld F.TIDE_P_CFG_ROLE role 1) fun t => { t with sys := 1 }
theorem witness_LockstepFailover :
    (let s := pairs 2; s.tide.failEdge ≠ s.time.sys ∧ s.fld F.TIDE_P_STAT_TABLE 0 = 0 ∧ (0 : Nat) ≠ noTable ∧ s.fld F.TIDE_P_STAT_RUN 0 = 1 ∧ idleSpares s = 1 :: [])
    ∧ (let s := pairs 0; s.tide.failEdge ≠ s.time.sys ∧ s.fld F.TIDE_P_STAT_TABLE 0 = 0 ∧ s.fld F.TIDE_P_STAT_RUN 0 = 1 ∧ idleSpares s = [])
    ∧ (((pairs 2).setPair 1 { (pairs 2).pair 1 with attachAt := some 5 }).pair 1).attachAt.isSome
    ∧ (let s := (pairs 2).setFlag F.LANE_CTRL_SPARE_TEST true; 1 ∈ idleSpares s ∧ s.flag F.LANE_CTRL_SPARE_TEST = true) := by decide +kernel
theorem test_nearest_cycle_tie_is_higher : nearestCyc 32768 0 = 65536 := by decide +kernel

/-! ## Witnesses: streams and the filter chain -/

/-- Stream 0 set up so that its enable passes its checks, with a state. -/
def strOk (l : List (Fld × Nat × Nat)) : State :=
  (st ([(F.SVI_S_CTL_NASDU, 0, 1), (F.SVI_S_CTL_NVAL, 0, 1), (F.SVI_S_SVID_LEN_LEN, 0, 1), (F.SVI_S_CTL_SYNC, 0, 0)] ++ l))
/-- A frame's PDU with one ASDU, of svID octet 0, and the frame as Estuary's port receives it. -/
def asdu : SvAsdu := { svId := [0], smpCnt := 0, confRev := 1, smpSynch := 2, smpRate := none, smpMod := none, seqData := [0, 0, 0, 0, 0, 0, 0, 0] }
def svPdu : SvPdu := { appId := 16384, sim := false, noAsdu := 1, asdus := [asdu], parses := true, ext := none }
def rx (ety : Nat) (p : Payload) : RxFrame := { frame := { frame ety p with dst := 1154490826752 }, stamp := okStamp, port := 0, kbps := 1000000, wire := 64, tag := 0 }
def svIn (s : State) : State := { s with svi := { s.svi with inbox := [rx 0x88BA (.sv svPdu)] } }
/-- Stream 0 in SYNCED, its next release the given instant. -/
def strSynced (k : Nat) : State :=
  let s := strOk [(F.SVI_S_STAT_STATE, 0, 2)]
  s.setStream 0 { s.stream 0 with next := some k }
def sample (i : Nat) : SviSample := { inst := i, idx := 0, cnt := 0, vals := [0], quals := [0], data := [], unchk := false, est := false, regrid := false }
theorem witness_StreamEnablesAndLimits :
    (let s := st [(F.SVI_CTRL_LOCK, 0, 1)]; s.clk.held = false ∧ s.flag F.SVI_CTRL_LOCK = true ∧ streamEn s 0 = false) ∧ streamEn (st [(F.SVI_CTRL_LOCK, 0, 1), (F.SVI_S_CTL_EN, 0, 1)]) 0 = true
    ∧ (let s := State.reset; s.flag F.SVI_CTRL_LOCK = false ∧ streamEn s 0 = false ∧ streamRefused s 0 = true)
    ∧ (let s := strOk []; s.flag F.SVI_CTRL_LOCK = false ∧ streamEn s 0 = false ∧ streamRefused s 0 = false)
    ∧ (let s := strOk [(F.SVI_S_CTL_EN, 0, 1)]; s.flag F.SVI_CTRL_LOCK = false ∧ streamEn s 0 = true)
    ∧ (let s := State.reset.setStream 511 { State.reset.stream 511 with stepEnd := some 0 }; (s.stream 511).stepEnd = some 0 ∧ 0 ≤ s.time.sys)
    ∧ State.reset.fld F.SVI_SEL_KIND = 0 ∧ State.reset.fld F.SVI_SEL_INDEX = 0
    ∧ (let s := st [(F.TIDE_CTRL_GEN, 0, 1)]; grpEn s 0 = true ∧ 100000 ≠ adepth s 0)
    ∧ (let s := State.reset; grpEn s 7 = false ∧ (List.range 512).all (fun m => !(streamEn s m && streamGroup s m == 7)) = true ∧ 99999 < 100000 ∧ 4000000 < 4000001) := by decide +kernel
theorem witness_SampledValueFrames :
    (let s := svIn State.reset; s.clk.held = false ∧ s.svi.enWait = [] ∧ s.svi.inbox = rx 0x88BA (.sv svPdu) :: [] ∧ s.flag F.SVI_CTRL_EN = false)
    ∧ (let s := svIn (st [(F.SVI_CTRL_EN, 0, 1)]); s.flag F.SVI_CTRL_EN = true ∧ (List.range 512).all (fun n => !frameMatches s (rx 0x88BA (.sv svPdu)).frame svPdu n) = true)
    ∧ (let s := svIn (strOk [(F.SVI_CTRL_EN, 0, 1), (F.SVI_S_STAT_STATE, 0, 1)]); (List.range 512).find? (frameMatches s (rx 0x88BA (.sv svPdu)).frame svPdu) = some 0 ∧ frameBad s svPdu 0 = false
        ∧ (svPdu.asdus.all fun x => decide (x.confRev = s.fld F.SVI_S_CONFREV_CONFREV 0)) = true ∧ svPdu.sim = s.flag F.SVI_S_CTL_SIM 0 ∧ s.fld F.SVI_S_CTL_AUTH 0 = 0)
    ∧ (let s := (laneSt fun g => { g with wins := [win0] }).setFlag (F.TIDE_P_SLOT_CTL_EN.el 0) true 0; s.svi.enWait = [] ∧ slotOf s 0 = some (0, 0) ∧ s.fld F.TIDE_P_CFG_GROUP 0 = 0 ∧ grpEn s 0 = true
        ∧ fpNext s 0 (s.grp 0).wins (fun n => slotRuns s 0 0 n) = some win0 ∧ s.devT < win0.b + (adepth s 0 + 3000) * 65536)
    ∧ (let s := tm (laneSt id) fun t => { t with ns := 5000000 }; win0.b + (adepth s 0 + 3000) * 65536 ≤ s.devT) := by decide +kernel
theorem witness_SamplesArePlacedAndReleased :
    (let s := State.reset; sampleLate s 0 (10 ^ 12) 10000 1000000 0 = true ∧ sampleLate s 0 0 10000 1000000 (10 ^ 11) = false ∧ sampleEarly s 0 0 (10 ^ 11) = true
      ∧ sampleLate s 0 0 10000 1000000 0 = false ∧ sampleEarly s 0 0 0 = false)
    ∧ (let s := (strSynced 0).setStream 0 { (strSynced 0).stream 0 with held := [sample 0] }; (s.stream 0).held = [sample 0] ∧ (sample 0).inst = 0)
    ∧ (placeSample State.reset 0 0 10000 1000000 (sample 0)).1 = true
    ∧ (let s := tm (strSynced 0) fun t => { t with ns := 5000000 }; s.svi.enWait = [] ∧ streamReleases s 0 = true ∧ (s.stream 0).next = some 0 ∧ adepth s (streamGroup s 0) * 65536 ≤ s.devT
      ∧ 0 ≤ gridAt (streamRate s 0) (s.devT - adepth s (streamGroup s 0) * 65536) ∧ gridAt (streamRate s 0) (s.devT - adepth s (streamGroup s 0) * 65536) < 1000) := by decide +kernel

/-- Channel 0 bound in mode FILTER and enabled, the chain on. -/
def chOn (stt : Nat) : State := st [(F.FDC_CTRL_EN, 0, 1), (F.FDC_C_CTL_EN, 0, 1), (F.FDC_C_STAT_STATE, 0, stt)]
theorem witness_FilterChannelEnables :
    (let s := st [(F.FDC_CTRL_LOCK, 0, 1)]; s.clk.held = false ∧ s.flag F.FDC_CTRL_LOCK = true ∧ s.flag F.FDC_C_CTL_EN 8191 = false)
    ∧ (let s := (chOn 2).setFlag F.FDC_CTRL_LOCK true; s.flag F.FDC_CTRL_LOCK = true ∧ s.flag F.FDC_C_CTL_EN 0 = true ∧ s.flag F.FDC_CTRL_EN = true)
    ∧ (let s := st [(F.FDC_C_CTL_MODE, 5, 2)]; s.flag F.FDC_CTRL_LOCK = false ∧ s.flag F.FDC_C_CTL_EN 5 = false ∧ chRefused s 5 = true)
    ∧ (State.reset.flag F.FDC_C_CTL_EN 0 = false ∧ chRefused State.reset 0 = false)
    ∧ (let s := st [(F.FDC_C_CTL_MODE, 5, 2), (F.FDC_C_CTL_EN, 5, 1)]; s.flag F.FDC_C_CTL_EN 5 = true ∧ s.fld F.FDC_C_CTL_MODE 5 ≠ 0)
    ∧ (let s := chOn 2; s.flag F.FDC_C_CTL_EN 0 = true ∧ s.fld F.FDC_C_CTL_MODE 0 = 0 ∧ 1 < s.fld F.FDC_C_STAT_STATE 0 ∧ s.fld F.FDC_SEL_INDEX = 0)
    ∧ State.reset.fld F.FDC_C_STAT_STATE 0 ≤ 1 := by decide +kernel
theorem witness_FilterSweepRunsEverySlot :
    (let s := tm (chOn 2) fun t => { t with ns := 5000000 }; let d := adepth s 0; s.clk.held = false ∧ s.flag F.FDC_CTRL_EN = true ∧ [0] = (enabledChans s).filter (inSweep s d) ∧ (d + 2000) * 65536 ≤ s.devT
      ∧ nextSweep s d (gridAt 14400 (s.devT - (d + 2000) * 65536)) [0] ≤ gridAt 14400 (s.devT - (d + 2000) * 65536) ∧ s.fdc.busy ≤ gridInst 14400 0 + (d + 2000) * 65536)
    ∧ (let s := tm (chOn 2) fun t => { t with ns := 5000000 }; let d := adepth s 0; let s := { s with fdc := { s.fdc with swept := [(d, 10 ^ 6)], busy := 10 ^ 15 } };
      gridAt 14400 (s.devT - (d + 2000) * 65536) < nextSweep s d (gridAt 14400 (s.devT - (d + 2000) * 65536)) [0] ∧ gridInst 14400 0 + (d + 2000) * 65536 < s.fdc.busy)
    ∧ (let s := chOn 2; s.fld F.FDC_C_CTL_MODE 0 = 0 ∧ 1 < (slotInputs s 0 0).fld F.FDC_C_STAT_STATE 0 ∧ adepth (slotInputs s 0 0) (chGroup (slotInputs s 0 0) 0) = adepth s 0) := by decide +kernel
theorem test_grid_instant_rounds : gridInst 14400 1 = (10 ^ 9 * 65536 + 7200) / 14400 ∨ gridInst 14400 1 = 10 ^ 9 * 65536 / 14400 := by decide +kernel

/-! ## Witnesses: lanes, GOOSE and gates -/

/-- Pair 0 executes the window of group 0 with a PC and a limit. -/
def laneUp (pc limit : Nat) : State :=
  let s := tm (laneSt fun g => { g with cur := some laneWin0 }) fun t => { t with sys := 10000 }
  s.setPair 0 { s.pair 0 with run := true, part := 1, pc := BitVec.ofNat 32 pc, limit := limit, regs := { (s.pair 0).regs with codeBase := 0, codeSize := 16, dataBase := 0, dataSize := 16 } }
theorem witness_PhasorInstructionsCompute :
    (let s := laneUp 0 1000; s.clk.held = false ∧ laneRuns s 0 = true ∧ 2 % 2 = 0 ∧ 4 % 2 = 0 ∧ 6 % 2 = 0 ∧ [(0, 0), (1, 0), (2, 0), (3, 0), (4, 0), (5, 0), (0x11, 3), (0x20, 4)].all (fun f => decide (issueAt (s.pair 0) (.px f.1 f.2 2 4 6) < (s.pair 0).limit)) = true)
    ∧ (let s := laneUp 0 1000; [(8, 0), (9, 0), (0x0A, 1), (0x10, 2)].all (fun f => decide (issueAt (s.pair 0) (.px f.1 f.2 2 4 0) < (s.pair 0).limit)) = true
      ∧ issueAt (s.pair 0) (.px 0x12 3 2 4 6) < (s.pair 0).limit ∧ issueAt (s.pair 0) (.px 0 0 1 4 6) < (s.pair 0).limit) := by decide +kernel
theorem witness_WindowRunsEnd :
    (let s := laneUp 0 1000; s.clk.held = false ∧ (s.pair 0).part = 1 ∧ laneRuns s 0 = true ∧ issueAt (s.pair 0) (.px 0x7F 7 0 31 0) < (s.pair 0).limit)
    ∧ (let s := laneUp 0 0; (s.pair 0).run = true ∧ (s.pair 0).limit ≤ max (s.pair 0).cycle (laneClock s 0))
    ∧ (let s := laneUp 0 100000; max (s.pair 0).cycle (laneClock s 0) < (s.pair 0).limit) := by decide +kernel
/-- The word of ADDI x1, x0, 5 (imm 5 in bits 31 to 20, rs1 0, funct3 0, rd 1, opcode 0x13), stored at the pair's PC 0. -/
def addiAt0 : State := let s := laneUp 0 1000; laneMemWrite s (lanePhys 0 0) [0x93, 0x00, 0x50, 0x00]
theorem witness_LaneInstructionsExecute :
    (let s := addiAt0; let p := lanePhys 0 0; s.clk.held = false ∧ laneRuns s 0 = true ∧ laneLoc (pairTable s 0) (s.pair 0).regs (s.pair 0).pc.toNat = .code p
      ∧ laneLoc (pairTable s 0) (s.pair 0).regs ((s.pair 0).pc.toNat + 2) = .code (lanePhys 0 2) ∧ ofOctetsLE (s.memBytes p 2) % 4 = 3 ∧ laneUe s p 4 = 0 ∧ laneCe s p 4 = 0
      ∧ laneTriggered s 0 (decode32 .lane (ofOctetsLE (s.memBytes p 4))) = false ∧ issueAt (s.pair 0) (decode32 .lane (ofOctetsLE (s.memBytes p 4))) < (s.pair 0).limit)
    ∧ (let s := laneUp 0x30000 1000; laneLoc (pairTable s 0) (s.pair 0).regs (s.pair 0).pc.toNat = .none ∧ laneRuns s 0 = true)
    ∧ (let s := laneUp 0 1000; let c := s.pair 0; c.getX 0 = c.getX 1 ∧ 0x40000 % 4 = 0 ∧ laneLoc (pairTable s 0) c.regs 0x40000 = .data (lanePhys 0 0x40000) ∧ laneUe s (lanePhys 0 0x40000) 4 = 0
      ∧ laneCe s (lanePhys 0 0x40000) 4 = 0 ∧ laneLoc (pairTable s 0) c.regs 0x44000 = .none)
    ∧ (let c := (laneUp 0 1000).pair 0; (c.setX 1 5).getX 1 ≠ (c.setX 1 5).getX 0 ∧ (((c.setX 1 0x40000).getX 1 : Int) + 0) % 2 ^ 32 = 0x40000) := by decide +kernel
theorem test_addi_word : decode32 .lane 0x00500093 = .aluImm .add false 1 0 5 := by decide +kernel
theorem witness_LaneDebugAndLatches :
    (let s := (laneUp 0 100000); let s := s.setPair 0 { s.pair 0 with halted := true }; s.keys.lifecycle ≤ 1 ∧ (s.pair 0).halted = true ∧ (s.pair 0).run = true ∧ max (s.pair 0).cycle (laneClock s 0) < (s.pair 0).limit ∧ pairExecutes s 0 = true)
    ∧ (let s := State.reset.setPair 23 { State.reset.pair 23 with halted := true }; (s.pair 23).halted = true ∧ (s.pair 23).run = false)
    ∧ (let s : State := { State.reset with keys := { State.reset.keys with lifecycle := 2 } }; 1 < s.keys.lifecycle)
    ∧ (let s := st [(F.LANE_SEL_KIND, 0, 1), (F.LANE_SEL_INDEX, 0, 1)]; s.fld F.LANE_SEL_KIND = 1 ∧ s.fld F.LANE_SEL_INDEX = 1) ∧ (State.reset.fld F.LANE_SEL_KIND = 0 ∧ State.reset.fld F.LANE_SEL_INDEX = 0) := by decide +kernel

/-- Publish block 0 and subscription 0 set up so that their enables pass their checks. -/
def gooseOk : State :=
  st [(F.GOOSE_CTRL_EN, 0, 1), (F.GOOSE_B_CTL_OWNER, 0, 1), (F.GOOSE_B_CTL_NENT, 0, 1), (F.GOOSE_B_LEN_GOCB_LEN, 0, 1), (F.GOOSE_B_LEN_DATSET_LEN, 0, 1), (F.GOOSE_B_LEN_GOID_LEN, 0, 1),
    (F.GOOSE_S_CTL_LEN, 0, 1), (F.GOOSE_S_CTL_NENT, 0, 1)]
def blk (due : Option Nat) : GBlk := { data := none, tSec := 0, tFrac := 0, tQual := 0, k := 0, due := due, repub := false }
def pdu : GoosePdu := { appId := State.reset.fld F.GOOSE_S_ID_APPID, simHdr := false, gocbRef := [0], tal := 2000, datSet := [], goId := [], tSec := 0, tFrac := 0, tQual := 0, stNum := 1, sqNum := 0, simPdu := false, test := false,
                        confRev := 0, ndsCom := false, numEntries := 0, entries := [], parses := true, ext := none }
def gRx : RxFrame := { rx 0x88B8 (.goose pdu) with frame := { frame 0x88B8 (.goose pdu) with dst := State.reset.fld F.GOOSE_S_DA_HI_DA * 2 ^ 32 + State.reset.fld F.GOOSE_S_DA_LO_DA } }
def gsub (e : Option Int) (m : Bool) : GSub := { GSub.reset with upd := [{ due := 0, mism := m, pdu := pdu, isNew := true, unchk := false, expiry := 0 }], expiry := e }
theorem witness_GooseBlocksPublish :
    (State.reset.clk.held = false ∧ State.reset.flag F.GOOSE_B_CTL_EN 0 = false ∧ gbRefused State.reset 0 = true) ∧ (gooseOk.flag F.GOOSE_B_CTL_EN 0 = false ∧ gbRefused gooseOk 0 = false ∧ gbSilent gooseOk 0 = false)
    ∧ (gooseOk.setFlag F.GOOSE_B_CTL_EN true 511).flag F.GOOSE_B_CTL_EN 511 = true
    ∧ (let s := gooseOk.setGblk 0 (blk (some 0)); s.gblk 0 = some (blk (some 0)) ∧ 0 ≤ s.time.sys ∧ gbIsDue s 0 = false ∧ s.fld F.GOOSE_SEL_KIND = 0 ∧ s.fld F.GOOSE_SEL_INDEX = 0)
    ∧ (let s := gooseOk.setGblk 0 (blk (some 1)); s.time.sys < 1)
    ∧ (let s := gooseOk.setGblk 0 (blk (some 0)); gbIsDue { s with goose := { s.goose with out := [(0, none)] } } 0 = true)
    ∧ (let s := st [(F.GOOSE_B_CTL_MODE, 0, 1), (F.TWIN_STAT_LEADER, 0, 0)]; gbSilent s 0 = true) := by decide +kernel
theorem witness_GooseSubscriptions :
    (State.reset.flag F.GOOSE_S_CTL_EN 1023 = false ∧ gsRefused State.reset 1023 = true) ∧ (gooseOk.flag F.GOOSE_S_CTL_EN 0 = false ∧ gsRefused gooseOk 0 = false)
    ∧ (gooseOk.setFlag F.GOOSE_S_CTL_EN true 0).flag F.GOOSE_S_CTL_EN 0 = true
    ∧ (let s : State := { gooseOk with goose := { gooseOk.goose with inbox := [gRx], subs := [(0, GSub.reset)] } }; s.goose.inbox = gRx :: [] ∧ s.flag F.GOOSE_CTRL_EN = true ∧ gRx.frame.payload = .goose pdu
      ∧ (s.goose.subs.map Prod.fst).filter (fun i => gsMatches s i gRx.frame pdu) = [0])
    ∧ (({ gooseOk with goose := { gooseOk.goose with inbox := [gRx] } } : State).goose.subs.map Prod.fst).filter (fun i => gsMatches gooseOk i gRx.frame pdu) = [] ∧ State.reset.flag F.GOOSE_CTRL_EN = false
    ∧ (∀ m : Bool, let s := gooseOk.setGsub 0 (gsub none m); s.gsub 0 = some (gsub none m) ∧ ((gsub none m).upd.find? (fun u => decide (u.due ≤ (s.devT : Int)))).map GUpd.mism = some m)
    ∧ (let s := (gooseOk.setGsub 0 (gsub (some 0) true)).setFld F.GOOSE_S_STAT_STATE 2; (gsub (some 0) true).expiry = some 0 ∧ s.fld F.GOOSE_S_STAT_STATE 0 = 2 ∧ (0 : Int) ≤ s.devT)
    ∧ (gooseOk.devT : Int) < 1 ∧ (st [(F.GOOSE_SEL_KIND, 0, 1)]).fld F.GOOSE_SEL_KIND = 1 := by decide +kernel

/-- Gate channel 0 set up so that its enable passes its checks, with a state and a mode. -/
def gateSt (stt mode : Nat) (f : GateCh → GateCh) : State :=
  let s := st [(F.GATE_STAT_CAL_DONE, 0, 1), (F.GATE_C_CTL_OWNER, 0, 1), (F.GATE_C_PERIOD_STG_VAL, 0, 3200), (F.GATE_C_PERIOD_VAL, 0, 3200), (F.GATE_C_DUTY_VAL, 0, 100), (F.GATE_STAT_SAFE_N, 0, 15), (F.GATE_C_STAT_STATE, 0, stt),
    (F.GATE_C_CTL_MODE, 0, mode), (F.GATE_C_CTL_REFRESH_EN, 0, 1), (F.GATE_C_REFRESH_INTERVAL, 0, 1), (F.GATE_C_REFRESH_WIDTH, 0, 16000)]
  let s := s.setGch 0 (f (s.gch 0))
  { s with gate := { s.gate with cnt := 10 ^ 6, pwm := 10 ^ 6 } }
def rec0 (at' : Nat) : GateRec := { at_ := at', edge := 0, cmd := true, trip := false, duty := 0, ang := 0, committed := true }
theorem witness_GateChannelsAreSetUp :
    (let s := State.reset; s.clk.held = false ∧ s.recovering = false ∧ s.flag F.GATE_C_CTL_EN 23 = false ∧ gateEnableBad s 23 = true) ∧ stagedBad (st [(F.GATE_C_PERIOD_STG_VAL, 23, 3199)]) 23 = true
    ∧ (let s := gateSt 0 0 id; s.recovering = false ∧ s.flag F.GATE_C_CTL_EN 0 = false ∧ gateEnableBad s 0 = false ∧ safeBallLow s 0 = false ∧ partHeld s (s.fld F.GATE_C_CTL_OWNER 0) = false
      ∧ stagedBad s 0 = false ∧ s.flag F.GATE_C_CTL_PAIRED 0 = false ∧ s.flag (mbxBusy 8) = false ∧ s.fld F.GATE_SEL_INDEX = 0 ∧ s.fld F.GATE_C_STAT_STATE 0 ≠ 3)
    ∧ (gateSt 3 2 id).fld F.GATE_C_STAT_STATE 0 = 3 := by decide +kernel
theorem witness_GateChannelsActInTime :
    (let s := gateSt 1 0 fun c => { c with recs := [rec0 0] }; (s.gch 0).recs = rec0 0 :: [] ∧ s.gate.stopped = false ∧ (rec0 0).at_ ≤ s.gate.pwm ∧ (rec0 0).trip = false ∧ s.flag F.GATE_C_SRC_DUTY_OW_EN 0 = false ∧ gateFrozen s = false
      ∧ s.fld F.GATE_C_STAT_STATE 0 = 1 ∧ s.fld F.GATE_C_CTL_MODE 0 = 0 ∧ s.gate.pwm < (rec0 (10 ^ 7)).at_)
    ∧ (let s := gateSt 1 1 id; s.fld F.GATE_C_STAT_STATE 0 = 1 ∧ s.fld F.GATE_C_CTL_MODE 0 = 1)
    ∧ (let s := gateSt 2 0 fun c => { c with raw := true, since := 0, refreshEnd := none }; gateLive s = true ∧ s.fld F.GATE_C_STAT_STATE 0 = 2 ∧ (s.gch 0).rk + s.fld F.GATE_C_PERIOD_VAL 0 ≤ s.gate.cnt
      ∧ s.fld F.GATE_C_DUTY_VAL 0 < s.fld F.GATE_C_PERIOD_VAL 0 ∧ (s.gch 0).raw = true ∧ (s.gch 0).rk + s.fld F.GATE_C_DUTY_VAL 0 ≤ s.gate.cnt
      ∧ (s.gch 0).since + s.fld F.GATE_C_REFRESH_INTERVAL 0 * 32000 ≤ s.gate.cnt ∧ s.flag F.GATE_C_CTL_REFRESH_EN 0 = true ∧ (s.gch 0).sig = true)
    ∧ (let s := gateSt 2 0 fun c => { c with rk := 10 ^ 6, refreshEnd := some 5 }; s.gate.cnt < (s.gch 0).rk + s.fld F.GATE_C_PERIOD_VAL 0 ∧ (s.gch 0).refreshEnd = some 5 ∧ 5 ≤ s.gate.cnt)
    ∧ (let s := gateSt 3 2 id; s.fld F.GATE_C_STAT_STATE 0 = 3 ∧ (s.gch 0).sched ≤ dev32 s + 320000 ∧ gateLive s = true ∧ (s.gch 0).sched ≤ dev32 s)
    ∧ (let s := gateSt 3 2 fun c => { c with sched := 10 ^ 12 }; dev32 s + 320000 < (s.gch 0).sched ∧ (s.gch 0).fixed = false ∧ dev32 s < (s.gch 0).sched)
    ∧ (let s := gateSt 4 2 fun c => { c with pulseEnd := some 5 }; s.fld F.GATE_C_STAT_STATE 0 = 4 ∧ (s.gch 0).pulseEnd = some 5 ∧ gateLive s = true ∧ 5 ≤ s.gate.cnt ∧ s.gate.cnt < 10 ^ 7) := by decide +kernel
theorem witness_GateSafeStates :
    (let s := gateSt 2 0 id; s.clk.held = false ∧ s.fld F.GATE_C_STAT_STATE 0 ≠ 0 ∧ s.fld F.GATE_C_STAT_STATE 0 ≠ 5 ∧ s.fld F.GATE_STAT_FROZEN = 0 ∧ s.keys.lifecycle ≤ 1 ∧ s.gate.stopped = false ∧ 19 < 20 ∧ 50 ≤ 50)
    ∧ 1 < (2 : Nat) ∧ (let s := gateSt 2 0 id; ({ s with gate := { s.gate with stopped := true } } : State).gate.stopped = true) := by decide +kernel

/-! ## Witnesses: twins, recorder, event log and ports -/

/-- The twin in a pair state, with a received reference. -/
def tw (pair : Nat) (r : Option Nat) : State :=
  let s := st [(F.TWIN_STAT_PAIR, 0, pair), (F.TWIN_STAT_LANE_UP, 0, 3)]
  { s with twin := { s.twin with rxRef := r } }
def hdr5 : RallyHdr := { lane := 0, side := true, seq := 5 }
/-- Partition 0 in slot 0 of table 0 of the enabled group 0, the partner asked for its image. -/
def joining : State := ((laneSt id).setFlag (F.TIDE_P_SLOT_CTL_EN.el 0) true 0).setFlag F.TWIN_CTRL_XFER_REQ true
def rpend : RallyPend := { n := 0, edge := 0, ns := 0, tq := 0, bn := 0, recs := [], pn := 0, aligned := true, epoch := 0, resolved := false, closed := false, got := none, pfp := none }
theorem witness_RallyCopiesAreJudged :
    (({ hdr5 with side := false }).side = State.reset.twin.sideB ∧ hdr5.side ≠ State.reset.twin.sideB ∧ State.reset.twin.rxRef = none)
    ∧ (let s := tw 3 (some 5); s.twin.rxRef = some 5 ∧ (hdr5.seq + 2 ^ 32 - 5) % 2 ^ 32 = 0) ∧ 2 ^ 31 ≤ (hdr5.seq + 2 ^ 32 - 6) % 2 ^ 32
    ∧ (let s := tw 3 (some 4); hdr5.side ≠ s.twin.sideB ∧ s.twin.rxRef = some 4 ∧ 1 ≤ (hdr5.seq + 2 ^ 32 - 4) % 2 ^ 32 ∧ (hdr5.seq + 2 ^ 32 - 4) % 2 ^ 32 < 2 ^ 31 ∧ s.fld F.TWIN_STAT_PAIR = 3)
    ∧ (let v : RallyGrp := { (State.reset.rgrp 0) with pend := [rpend] }; v.pend.find? (fun c => c.pn = 0 && c.got.isNone) = some rpend ∧ v.pend.find? (fun c => c.pn = 1 && c.got.isNone) = none
      ∧ State.reset.time.sys ≤ rallyDeadline (State.reset.setRgrp 0 v) rpend ∧ rpend.closed = false ∧ rpend.resolved = false)
    ∧ joinHeld joining 0 = true ∧ bitOf (([0, 0, 0] : List Nat).getD 0 0) 0 = false
    ∧ (let s := tm ((tw 3 (some 4)).setFlag F.TWIN_CTRL_ACCEPT_RST true) fun t => { t with sys := 10 ^ 10 }; s.flag F.TWIN_CTRL_ACCEPT_RST = true ∧ 10000000000 ≤ s.time.sys)
    ∧ State.reset.flag F.TWIN_CTRL_ACCEPT_RST = false
    ∧ ((some { part := 2, n := 0, data := [], pos := 0 } : Option XferImg).any (fun i => i.part = 2) = true ∧ State.reset.twin.refusals < 2) := by decide +kernel
theorem witness_RallyPairForms :
    (let s := State.reset; s.flag F.TWIN_CTRL_EN = false ∧ s.recovering = false ∧ s.flag F.TWIN_CTRL_LOCK = false ∧ s.twin.solo = false) ∧ (st [(F.TWIN_CTRL_LOCK, 0, 1)]).flag F.TWIN_CTRL_LOCK = true
    ∧ (let s := st [(F.TWIN_CTRL_EN, 0, 1)]; s.flag F.TWIN_CTRL_EN = true ∧ s.flag F.TWIN_CTRL_LOCK = false)
    ∧ (let s := tw 1 none; s.fld F.TWIN_STAT_PAIR ≠ 0 ∧ s.twin.helloAt ≤ s.time.sys ∧ bitOf (s.fld F.TWIN_STAT_LANE_UP) 1 = true ∧ hdr5.side ≠ s.twin.sideB ∧ s.fld F.TWIN_STAT_PAIR = 1
        ∧ s.flag F.TWIN_STAT_LEADER = true ∧ s.twin.rxRef = none ∧ helloCheck s hdr5 [0, s.fld F.TWIN_BUNDLE_TAG_VAL, 0] = 0)
    ∧ State.reset.time.sys < 1
    ∧ (let s := tm (tw 3 none) fun t => { t with sys := 10 ^ 6 }; s.fld F.TWIN_STAT_PAIR = 3 ∧ s.twin.lastRx + max 2 (s.fld F.TWIN_LINK_HELLO_LOSS) * 50000 ≤ s.time.sys)
    ∧ (let s := tw 3 none; s.time.sys < s.twin.lastRx + max 2 (s.fld F.TWIN_LINK_HELLO_LOSS) * 50000 ∧ s.fld F.TWIN_STAT_LANE_UP ≠ 0)
    ∧ ((tw 3 none).setFlag F.TWIN_STAT_LEADER false).flag F.TWIN_STAT_LEADER = false := by decide +kernel
/-- A paired twin whose partner asks for the image of partition 0, aligned. -/
def sending : State :=
  let s := ((joining.setFld F.TWIN_STAT_PAIR 3).setFld F.TWIN_STAT_LANE_UP 3).setFld F.TWIN_G_STAT_ALIGN 2
  { s with twin := { s.twin with peerXfer := true, sendImg := some { part := 0, n := 0, data := [1, 2, 3, 4], pos := 0 } } }
theorem witness_RallyResolvesAndTransfers :
    (let s := tm (State.reset.setRgrp 0 { State.reset.rgrp 0 with pend := [rpend] }) fun t => { t with sys := 10 ^ 6 }; (s.rgrp 0).pend.find? (fun c => !c.closed && decide (rallyDeadline s c ≤ s.time.sys)) = some rpend ∧ rpend.resolved = false ∧ rpend.got = none)
    ∧ (let s := State.reset.setRgrp 0 { State.reset.rgrp 0 with pend := [rpend] }; s.time.sys < rallyDeadline s rpend) ∧ ({ rpend with resolved := true, got := some [] } : RallyPend).got.isSome
    ∧ (xferOpen sending 0 = true ∧ xferOpen joining 0 = false ∧ rallyOpen sending = true ∧ [1, 2, 3, 4].length ≤ 0 + 1024 ∧ 0 < [1, 2, 3, 4].length)
    ∧ (let s : State := { joining with twin := { joining.twin with join := some { until_ := 0, ended := false, done := [], naks := [] } } }; s.flag F.TWIN_CTRL_XFER_REQ = true ∧ 0 ≤ s.time.sys
      ∧ (∃ j, s.twin.join = some j ∧ j.ended = false ∧ ((List.range 8).any fun g => grpEn s g && (groupSlots s g).any fun (n, k) => !j.done.contains (slotPart s n k)) = true))
    ∧ ((List.range 8).any fun g => grpEn State.reset g && (groupSlots State.reset g).any fun (n, k) => !([] : List Nat).contains (slotPart State.reset n k)) = false
    ∧ (sending.fld F.TWIN_STAT_PAIR = 3 ∧ State.reset.fld F.TWIN_STAT_PAIR ≠ 3 ∧ State.reset.twin.wakeAt = none)
    ∧ (let s := (st [(F.PORT_P_STAT_LINK, 7, 3)]); oobReady s (s.fld F.TWIN_WAKE_WAKE_PORT) = true ∧ oobReady State.reset (State.reset.fld F.TWIN_WAKE_WAKE_PORT) = false)
    ∧ (State.reset.twin.wakeEnd ≤ State.reset.time.sys ∧ State.reset.time.sys < 1) := ⟨by decide +kernel, by decide +kernel, rfl, by decide +kernel, ⟨by decide +kernel, by decide +kernel, ⟨_, rfl, rfl, by decide +kernel⟩⟩, by decide +kernel⟩

/-- A recorder whose enable passes its checks, but for what the list changes. -/
def drecOk (l : List (Fld × Nat × Nat)) : State :=
  st ([(F.SYS_MEM_MCA_SIZE, 0, 4), (F.DREC_NCH_NA, 0, 1), (F.DREC_NSEG_NSEG, 0, 1), (F.DREC_CARVE_SIZE_VAL, 0, 16), (F.DREC_PRE_VAL, 0, 0), (F.DREC_POST_VAL, 0, 1)] ++ l)
def seg (t : Option SegTrig) : DrecSeg := { slot := 0, ticks := [], next := 0, rearm := 0, refused := false, trunc := false, trig := t }
def segTrig : SegTrig := { seq := 0, cause := 0, later := 0, laterCnt := 0, part := 0, primary := 0, pre := 0, dead := 0, chained := false, sec := 0, epoch := 0, tqns := 0, utc := 0, left := 1 }
theorem witness_RecorderRuns :
    (State.reset.flag F.DREC_CTRL_EN = false ∧ drecCfgBad State.reset = true ∧ drecCapBad (drecOk []) = false ∧ drecCfgBad (drecOk [(F.DREC_NSEG_NSEG, 0, 0)]) = true ∧ drecCfgBad (drecOk []) = false)
    ∧ drecCfgBad (drecOk [(F.DREC_POST_VAL, 0, 0)]) = false ∧ drecCapBad (drecOk [(F.DREC_POST_VAL, 0, 0)]) = true
    ∧ ((drecOk [(F.DREC_CTRL_EN, 0, 1)]).flag F.DREC_CTRL_EN = true ∧ State.reset.drec.seg = none ∧ (seg none).trig = none ∧ (seg (some segTrig)).trig.isSome)
    ∧ (State.reset.devT < 1 ∧ 0 ≤ State.reset.devT ∧ ({ inst := 0, tq := 0, utc := 0, bits := 0 } : DrecPend).inst + 0 * 65536 ≤ State.reset.devT)
    ∧ (let s := drecOk [(F.DREC_STAT_STATE, 0, 3)]; s.drec.arming = false ∧ s.fld F.DREC_STAT_STATE = 3 ∧ nextSlot s = some (0, false))
    ∧ (unitBad State.reset 0 = true ∧ unitBad (st [(F.DREC_U_CTL_TYPE, 31, 4)]) 31 = false ∧ State.reset.flag F.DREC_U_CTL_EN 31 = false)
    ∧ (let s := st [(F.DREC_U_CTL_TYPE, 0, 4), (F.DREC_U_CTL_EN, 0, 1)]; s.flag F.DREC_U_CTL_EN 0 = true ∧ s.fld F.DREC_U_CTL_TYPE 0 = 4)
    ∧ (let s := drecOk [(F.DREC_SEL_KIND, 0, 3), (F.DREC_G_STAT_STATE, 0, 4)]; s.fld F.DREC_SEL_KIND = 3 ∧ 0 < s.fld F.DREC_NSEG_NSEG ∧ s.fld F.DREC_G_STAT_STATE 0 = 4)
    ∧ State.reset.fld F.DREC_G_STAT_STATE 0 ≠ 4 := by decide +kernel

def ev0 : Event := { edge := 0, src := 1, code := 2, part := 0, sec := 0, ns := 0, tq := 3, epoch := 0, p0 := 0, p1 := 0, p2 := 0, sw := false, gap := false }
def logSt (f : ElogSt → ElogSt) (l : List (Fld × Nat × Nat)) : State := let s := st l; { s with elog := f s.elog }
theorem witness_EventLogRecords :
    (let s := logSt (fun e => { e with queue := [ev0] }) []; s.elog.writing = none ∧ s.elog.clearing = none ∧ s.elog.queue = ev0 :: [] ∧ s.time.sys < ev0.edge + 2 ∧ ev0.edge + 2 ≤ (tm s fun t => { t with sys := 2 }).time.sys)
    ∧ (let s := st [(F.ELOG_CTRL_SW_EN, 0, 1)]; (bwAdmit s initCore 0 kindWrite 0x400B008C 4).1 = true ∧ (bwAdmit s initCore 0 kindWrite 0x400B008C 4).2.flag F.ELOG_CTRL_SW_EN = true ∧ s.flag F.ELOG_CTRL_SW_EN = true ∧ elogFull s = false)
    ∧ ((st [(F.ELOG_CTRL_SW_EN, 0, 0)]).flag F.ELOG_CTRL_SW_EN = false ∧ elogBusy State.reset = false)
    ∧ (let s := logSt (fun e => { e with clearing := some { before := 0, refused := 0, event := ev0 } }) [(F.ELOG_WRPTR_WRPTR, 0, 5)]; elogBusy s = true ∧ s.elog.full = none ∧ s.elog.writing = none ∧ s.fld F.ELOG_WRPTR_WRPTR = 5)
    ∧ (let s := st [(F.SYS_MEM_MCA_SIZE, 0, 4), (F.ELOG_EXP_CNT_CNT, 0, 1), (F.ELOG_EXP_ADDR_HI_ADDR, 0, 8)]; elogBusy s = false ∧ s.fld F.ELOG_EXP_FIRST_FIRST = 0 ∧ s.fld F.ELOG_EXP_CNT_CNT = 1
      ∧ s.fld F.ELOG_EXP_ADDR_HI_ADDR * 2 ^ 32 + s.fld F.ELOG_EXP_ADDR_LO_ADDR = lpddrBase ∧ 0 + 1 ≤ elogSlots ∧ lpddrBase % 32 = 0 ∧ lpddrBase + 1 * 32 ≤ lpddrBase + lpddrSize s)
    ∧ (exportSlots State.reset 0 lpddrBase 0).1 = true ∧ (exportSlots State.reset 0 lpddrBase 1).1 = false := by decide +kernel

/-- Port 3 in a link state with settings. -/
def pt (lk : Nat) (l : List (Fld × Nat × Nat)) : State := st ([(F.PORT_P_STAT_LINK, 3, lk), (F.PORT_P_CTL_EN, 3, 1)] ++ l)
def held (lk : Nat) (l : List (Fld × Nat × Nat)) (e : Nat) : State := let s := pt lk l; s.setPortCh 3 { s.portCh 3 with holdAt := some e }
theorem witness_LinkOfAPort :
    (State.reset.recovering = false ∧ State.reset.flag F.PORT_P_CTL_EN 3 = false ∧ portRefused (st [(F.PORT_P_CTL_FEC, 3, 3)]) 3 = true ∧ portRefused State.reset 3 = false ∧ (pt 3 []).flag F.PORT_P_CTL_EN 3 = true)
    ∧ (let s := pt 1 []; s.flag F.PORT_P_STAT_MODABS 3 ≠ !(s.flag F.PORT_P_STAT_MODABS 3))
    ∧ (let s := pt 1 [(F.PORT_P_CTL_AN_EN, 3, 1), (F.PORT_P_CTL_MODE, 3, 2)]; s.fld F.PORT_P_STAT_LINK 3 ≠ 0 ∧ s.flag F.PORT_P_CTL_AN_EN 3 = true ∧ s.fld F.PORT_P_CTL_MODE 3 = 2 ∧ bitOf 32 5 = true ∧ bitOf 0 5 = false)
    ∧ (pt 1 [(F.PORT_P_CTL_MODE, 3, 3)]).fld F.PORT_P_CTL_MODE 3 = 3
    ∧ (let s := held 2 [] 0; (s.portCh 3).holdAt = some 0 ∧ 0 ≤ s.time.sys ∧ s.fld F.PORT_P_STAT_LINK 3 = 2 ∧ s.flag F.SWC_P_STAT_FLUSHING 3 = false)
    ∧ (held 2 [(F.SWC_P_STAT_FLUSHING, 3, 1)] 0).flag F.SWC_P_STAT_FLUSHING 3 = true ∧ (held 4 [] 0).fld F.PORT_P_STAT_LINK 3 = 4 ∧ (held 4 [] 1).time.sys < 1
    ∧ (let s := pt 1 [(F.PORT_P_STAT_PCS_LOCK, 3, 1), (F.PORT_P_STAT_MODABS, 3, 0), (F.PORT_P_STAT_LOS, 3, 0), (F.PORT_P_STAT_HI_BER, 3, 0)]; s.fld F.PORT_P_STAT_LINK 3 = 1 ∧ upCondition s 3 = true)
    ∧ (let s := pt 3 [(F.PORT_P_LINK_DOWN_HOLD, 3, 1)]; s.fld F.PORT_P_STAT_LINK 3 = 3 ∧ upCondition s 3 = false ∧ 1 ≤ s.fld F.PORT_P_LINK_DOWN_HOLD 3) := by decide +kernel
theorem witness_PathsOfAPort :
    (let s := st [(F.PORT_P_STAT_MODABS, 0, 0)]; s.flag (F.PORT_I2C_STAT_BUSY.el 0) = false ∧ bitOf (2 ^ 31) 31 = true ∧ s.flag F.PORT_P_STAT_MODABS (4 * 0 + s.fld (F.PORT_I2C_CMD_PORT.el 0)) = false)
    ∧ (let s := st [(F.PORT_I2C_STAT_BUSY.el 1, 0, 1), (F.PORT_I2C_CMD_WR.el 1, 0, 1)]; s.flag (F.PORT_I2C_STAT_BUSY.el 1) = true ∧ s.flag (F.PORT_I2C_CMD_WR.el 1) = true)
    ∧ (let s := st [(F.PORT_I2C_STAT_BUSY.el 1, 0, 1), (F.PORT_I2C_CMD_LEN.el 1, 0, 7)]; s.flag (F.PORT_I2C_CMD_WR.el 1) = false ∧ s.fld (F.PORT_I2C_CMD_LEN.el 1) = 7)
    ∧ (State.reset.flag F.PORT_CTRL_LOCK = false ∧ bitsOf 0x1F3F1F 20 16 + bitsOf 0x1F3F1F 13 8 + bitsOf 0x1F3F1F 4 0 > 64 ∧ bitsOf 0 20 16 + bitsOf 0 13 8 + bitsOf 0 4 0 ≤ 64)
    ∧ (let s := pt 3 []; let f := frame 0x0800 (.raw []); s.fld F.PORT_P_STAT_LINK 3 ≠ 0 ∧ 64 ≤ f.len ∧ f.len ≤ s.fld F.PORT_P_CTL_MAX_LEN 3 ∧ macTakes s f = none ∧ s.flag F.PORT_P_CTL_DELIVER_BAD 3 = false)
    ∧ (let f := { frame 0x8808 (.raw []) with len := 13 }; f.hsr = none ∧ f.etype = 0x8808 ∧ f.len < 14)
    ∧ (let s := pt 3 []; let s := s.setPortCh 3 { s.portCh 3 with fifo := some (copyOf (ptpMsg 0 false)) }; (s.portCh 3).txEnd ≤ s.time.sys ∧ startLevel s 3 (copyOf (ptpMsg 0 false)).frame.len ≤ 10000)
    ∧ (let s := pt 3 []; let s := s.setPortCh 3 { s.portCh 3 with txing := some (copyOf (ptpMsg 0 false)), sent := some (frame 0 (.raw [])), under := none, txEnd := 10 ^ 9 }; (s.portCh 3).under = none ∧ lineBusy s 3 = true)
    ∧ (let s : State := { State.reset with clk := { State.reset.clk with lowPower := true }, port := { State.reset.port with wakeRate := 1 } }; s.clk.lowPower = true ∧ s.port.wakeRate ≠ 0 ∧ s.clk.wakeBy = 0) := by decide +kernel

/-! ## Witnesses: the switch core, partitions, the fabric and the cores -/

/-- A switch core whose state is set after fields are. -/
def sw (l : List (Fld × Nat × Nat)) (f : SwcSt → SwcSt) : State := let s := st l; { s with swc := f s.swc }
def fdbEnt (v : Bool) : FdbEnt := { static := v, addr := 5, vid := 0, port := 3, last := 0 }
/-- Key (5, VLAN 0) stands in the first way of its bucket. -/
def fdbSt (v : Bool) : State := sw [(F.SWC_CTRL_AGE_TIME, 0, 1)] fun w => { w with fdb := [(fdbBucket 5 0 * 4, fdbEnt v)] }
theorem witness_fdb_found (v : Bool) : fdbFind (fdbSt v) 5 0 = some (fdbBucket 5 0 * 4, fdbEnt v) := by simp [fdbFind, fdbSt, sw, sparseFind, fdbEnt, List.range_succ]
theorem witness_SwitchTables :
    (let s := State.reset; s.clk.held = false ∧ s.flag (mbxBusy 13) = false ∧ fdbFind s 0 0 = none ∧ (fdbPlace s 0 0).isSome ∧ s.flag F.SWC_CTRL_LOCK = false ∧ (st [(F.SWC_CTRL_LOCK, 0, 1)]).flag F.SWC_CTRL_LOCK = true
      ∧ sparseFind (bitsOf (s.mbxD 13 1) 29 16) s.swc.fdb = none ∧ bitOf (s.mbxD 13 0) 31 = false ∧ bitOf ((st [(mbxData 13 0, 0, 2 ^ 31)]).mbxD 13 0) 31 = true)
    ∧ (let s := sw [] fun w => { w with mc := [(0, { vid := 0, addr := 5, mask := 1 })], fdb := [(0, fdbEnt false)] }; sparseFind (bitsOf (s.mbxD 13 0) 25 16) s.swc.mc = some { vid := 0, addr := 5, mask := 1 } ∧ sparseFind 0 s.swc.fdb = some (fdbEnt false))
    ∧ (st [(mbxBusy 13, 0, 1)]).flag (mbxBusy 13) = true
    ∧ (let s := tm (fdbSt false) fun t => { t with sys := 10 ^ 9 }; s.fld F.SWC_CTRL_AGE_TIME ≠ 0 ∧ (fdbEnt false).static = false ∧ (fdbEnt false).last + s.fld F.SWC_CTRL_AGE_TIME * 1000000000 ≤ s.time.sys)
    ∧ (fdbSt false).time.sys < (fdbEnt false).last + (fdbSt false).fld F.SWC_CTRL_AGE_TIME * 1000000000 ∧ State.reset.fld F.SWC_SEL_KIND = 0
    ∧ (let s := State.reset; s.flag F.SWC_CTRL_EN = false ∧ s.recovering = false ∧ ((List.range 12).all fun e => (List.range 8).all fun c => decide (qMin s e c ≤ qMax s e c) && decide (qMax s e c ≤ 64896)) = true ∧ sumMin s ≤ 60800)
    ∧ (let s := st [(F.SWC_P_Q_MAX.el 7, 11, 0), (F.SWC_P_Q_MIN.el 7, 11, 1)]; qMax s 11 7 < qMin s 11 7)
    ∧ (let s := st [(F.SWC_R_CTL_MODE, 3, 2)]; s.flag F.SWC_R_CTL_EN 3 = false ∧ s.fld F.SWC_R_CTL_MODE 3 = 2 ∧ portSa s 6 = portSa s 7)
    ∧ (let s := st [(F.PORT_P_SA_LO_SA, 6, 1)]; portSa s 6 ≠ portSa s 7)
    ∧ (let s := st [(F.SWC_T_RX_RING_SIZE_LOG, 127, 4)]; 4 ≤ s.fld F.SWC_T_RX_RING_SIZE_LOG 127 ∧ s.fld F.SWC_T_RX_RING_SIZE_LOG 127 ≤ 12)
    ∧ (let s := st [(F.SWC_T_RX_RING_SIZE_LOG, 127, 13)]; s.flag F.SWC_T_CTL_RX_EN 127 = false ∧ 12 < s.fld F.SWC_T_RX_RING_SIZE_LOG 127) := by decide +kernel

def inFrame : InFrame := { frame := frame 0x0800 (.raw []), stamp := okStamp, wire := 64, flags := 0, bad := false }
/-- A frame waits at port 3; VLAN 0 has the given members. -/
def swIn (en m : Nat) : State := sw [(F.SWC_CTRL_EN, 0, en), (F.SWC_P_CTL_PVID, 3, 0)] fun w => { w with inq := [(3, [inFrame])], vlans := [(0, { VlanEnt.reset with valid := true, member := m })] }
/-- A copy waits in class 7 of a switch port. -/
def swOut (e : Nat) : State := sw [(F.PORT_P_STAT_LINK, 3, 3)] fun w => { w with queues := [(e * 8 + 7, [copyOf (ptpMsg 0 false)])] }
/-- Octets of words, least significant first. -/
def words (l : List Nat) : List Nat := l.flatMap (octetsLE 4)
def cells (a : Nat) (l : List Nat) : List (Nat × BitVec 8) := ((List.range l.length).zip l).filterMap fun (i, v) => if v = 0 then none else some (a + i, BitVec.ofNat 8 v)
/-- Partition 0's rings at the start of LPDDR, with descriptor 0 as given. -/
def ringSt (d : List Nat) : State :=
  let s := sw [(F.SYS_MEM_MCA_SIZE, 0, 4), (F.SWC_T_CTL_RX_EN, 0, 1), (F.SWC_T_CTL_TX_EN, 0, 1), (F.SWC_T_RX_BASE_HI_ADDR, 0, 8), (F.SWC_T_TX_BASE_HI_ADDR, 0, 8), (F.SWC_T_RX_RING_SIZE_LOG, 0, 4), (F.SWC_T_TX_RING_SIZE_LOG, 0, 4),
    (F.SWC_T_TX_RING_TAIL, 0, 1)] fun w => { w with cpuIn := [copyOf (ptpMsg 0 false)], txTurn := 127 }
  { s with mem := cells lpddrBase (words d) }
theorem witness_SwitchTraffic :
    (let s := swIn 1 8; s.clk.held = false ∧ sparseGet [] s.swc.inq 3 = inFrame :: [] ∧ s.flag F.SWC_CTRL_EN = true ∧ inFrame.bad = false ∧ pairMode s 3 = 0 ∧ (s.vlan (frameVid s 3 inFrame.frame)).valid = true ∧ bitOf (s.vlan (frameVid s 3 inFrame.frame)).member 3 = true)
    ∧ (let s := swIn 1 0; bitOf (s.vlan (frameVid s 3 inFrame.frame)).member 3 = false ∧ ptpOf inFrame.frame = none) ∧ (swIn 0 0).flag F.SWC_CTRL_EN = false
    ∧ ([3, 8, 9, 10].all fun e => decide (((swOut e).portCh e).fifo = none) && portTakes (swOut e) e && decide (((swOut e).portCh e).txEnd ≤ (swOut e).time.sys) && (takeCopy (swOut e) e).isSome) = true
    ∧ (let s := st [(F.SWC_P_STAT_FLUSHING, 3, 1), (F.PORT_P_STAT_LINK, 3, 1)]; s.flag F.SWC_P_STAT_FLUSHING 3 = true ∧ s.fld F.PORT_P_STAT_LINK 3 ≠ 2)
    ∧ (let s := (held 2 [(F.SWC_P_STAT_FLUSHING, 3, 1)] 0); s.fld F.PORT_P_STAT_LINK 3 = 2 ∧ (s.portCh 3).holdAt = some 0 ∧ 0 ≤ s.time.sys)
    ∧ (let s := ringSt []; s.swc.cpuIn = [copyOf (ptpMsg 0 false)] ∧ partHeld s 0 = false ∧ s.flag F.SWC_T_CTL_RX_EN 0 = true ∧ State.reset.flag F.SWC_T_CTL_RX_EN 0 = false ∧ partHeld (st [(F.PART_T_STAT_HELD, 0, 1)]) 0 = true)
    ∧ (let s := ringSt [0x1000, 8, 2 ^ 31, 0]; (ringRead 0 2 s (rxBase s 0 + s.fld F.SWC_T_RX_RING_HEAD 0 * 32) 32).1 = some (words [0x1000, 8, 2 ^ 31, 0, 0, 0, 0, 0]) ∧ bitOf (leWord (words [0x1000, 8, 2 ^ 31, 0, 0, 0, 0, 0]) 2) 31 = true
      ∧ (ringPut 0 1 s (8 * 2 ^ 32 + 0x1000) []).1 = true ∧ (ringPut 0 2 s (rxBase s 0 + 8) (words [0, 0, 0, 0])).1 = true ∧ s.flag F.SWC_T_CTL_RX_IEN 0 = false)
    ∧ (let s := ringSt [0x1000, 8, 14, 0]; ((List.range 128).map fun i => (s.swc.txTurn + 1 + i) % 128).find? (txReady s) = some 0 ∧ (ringRead 0 2 s (txBase s 0 + s.fld F.SWC_T_TX_RING_HEAD 0 * 32) 32).1 = some (words [0x1000, 8, 14, 0, 0, 0, 0, 0])
      ∧ 14 ≤ leWord (words [0x1000, 8, 14, 0, 0, 0, 0, 0]) 2 % 2 ^ 14 ∧ leWord (words [0x1000, 8, 14, 0, 0, 0, 0, 0]) 2 % 2 ^ 14 ≤ 9212 ∧ (ringRead 0 2 s (8 * 2 ^ 32 + 0x1000) 14).1 = some (List.replicate 14 0) ∧ s.flag F.SWC_T_CTL_TX_IEN 0 = false)
    ∧ ((List.range 128).map fun i => (State.reset.swc.txTurn + 1 + i) % 128).find? (txReady State.reset) = none := by decide +kernel
/-- A partition 5 with reset sources and a watchdog. -/
def pres (l : List (Fld × Nat × Nat)) (sys : Nat) (f : PartRes → PartRes) : State := let s := tm (st l) fun t => { t with sys := sys }; s.setPres 5 (f (s.pres 5))
def wd (act sys : Nat) : State := pres [(F.PART_T_WD_TIMEOUT, 5, 10), (F.PART_T_WD_WARN, 5, 5), (F.PART_T_WD_ACT, 5, act)] sys fun r => { r with wdFrom := some 0, warned := false }
theorem witness_PartitionsAndWatchdogs :
    (let s := State.reset; s.clk.held = false ∧ partSources s 5 = 0 ∧ partHeld s 5 = false) ∧ (let s := st [(F.PART_T_CTL_HOLD, 127, 1), (F.PART_T_STAT_HELD, 127, 1)]; partSources s 127 ≠ 0 ∧ s.flag F.PART_T_STAT_HELD 127 = true)
    ∧ (let s := st [(F.PART_T_STAT_HELD, 5, 1)]; partSources s 5 = 0 ∧ s.flag F.PART_T_STAT_HELD 5 = true)
    ∧ (let s := wd 0 0; s.fld F.PART_T_WD_TIMEOUT 5 ≠ 0 ∧ wdCount s 5 = some 0 ∧ 0 < s.fld F.PART_T_WD_TIMEOUT 5 ∧ 0 < s.fld F.PART_T_WD_WARN 5)
    ∧ ([0, 1, 2].all fun a => decide (wdCount (wd a (10 * msCycles)) 5 = some 10) && decide ((wd a (10 * msCycles)).fld F.PART_T_WD_ACT 5 = a) && decide ((wd a (10 * msCycles)).fld F.PART_T_WD_WARN 5 ≤ 10) && !((wd a (10 * msCycles)).pres 5).warned) = true
    ∧ (State.reset.flag F.PART_CTRL_LOCK = false ∧ 0 % 65536 = 0 ∧ bitsOf (5 * 65536 + 10) 29 16 < (5 * 65536 + 10) % 65536 ∧ (10 * 65536 + 10) % 65536 ≤ bitsOf (10 * 65536 + 10) 29 16)
    ∧ (let s := st [(F.PART_T_LWD_LIMIT, 5, 3), (F.PART_T_STAT_LWD_COUNT, 5, 3)]; s.fld F.PART_T_LWD_LIMIT 5 ≠ 0 ∧ s.fld F.PART_T_LWD_LIMIT 5 ≤ s.fld F.PART_T_STAT_LWD_COUNT 5 ∧ partHeld s 5 = false)
    ∧ (let s := pres [] 0 fun r => { r with pulseEnd := some 0 }; (s.pres 5).pulseEnd = some 0 ∧ 0 ≤ s.time.sys) ∧ (let s := pres [] 0 fun r => { r with pulseEnd := some 1 }; s.time.sys < 1)
    ∧ ({ State.reset with part := { State.reset.part with kickStep := true } } : State).part.kickStep = true
    ∧ (let s := st [(F.PART_DWD_CTL_EN, 0, 1), (F.PART_DWD_CTL_TIMEOUT, 0, 1)]; s.flag F.PART_DWD_CTL_EN = true ∧ 10000000 = max 1 (s.fld F.PART_DWD_CTL_TIMEOUT) * 10000000 ∧ s.part.dwdWarned = false ∧ s.time.sys < s.part.dwdAt + 10000000 / 2
      ∧ s.part.dwdAt + 10000000 ≤ (tm s fun t => { t with sys := 10000000 }).time.sys) := by decide +kernel

/-- Channel A of 4 GiB, with memory. -/
def dram (m : List (Nat × BitVec 8)) : State := { st [(F.SYS_MEM_MCA_SIZE, 0, 4), (F.CLK_STAT_LOCKED, 0, 1)] with mem := m }
/-- Core 0 runs at the start of LPDDR, in machine mode, where the word stands. -/
def coreAt (w : Nat) : State := let s := dram (cells lpddrBase (octetsLE 4 w)); s.setCpu 0 { s.cpu 0 with run := true, pc := BitVec.ofNat 64 lpddrBase, priv := 3 }
/-- The two halves of the word that core 0 fetches. -/
def cpuFirst (s : State) : Nat × Nat :=
  let pc := (s.cpu 0).pc.toNat
  match cpuLoad s 0 (s.cpu 0).fetchAcc pc 2 with
  | (.ok lo, a) => match cpuLoad a 0 (s.cpu 0).fetchAcc (pc + 2) 2 with
    | (.ok hi, _) => (ofOctetsLE lo, ofOctetsLE hi)
    | _ => (0, 0)
  | _ => (0, 0)
theorem witness_FabricAndCores :
    (let s := dram []; s.clk.held = false ∧ [1, 2] ≠ [] ∧ inRegs lpddrBase = false ∧ fabSlotFree s initCore 0 = true ∧ partHeld s 0 = false ∧ bwPermits s 0 kindRead lpddrBase 2 = true ∧ bwPermits s 0 kindWrite lpddrBase 2 = true ∧ regionOf s lpddrBase = .lpddr
      ∧ capUsed s 0 = false ∧ bwPermits s 5 kindRead lpddrBase 2 = false ∧ sourceTag s initCore 0 = 0)
    ∧ (let r : FabReq := { init := initCore, tag := 0, kind := kindRead, addr := lpddrBase, data := [0], ue := none }; let s := (st [(F.PART_T_SLOTS_SLOT_MAX, 0, 1)]); fabSlotFree { s with fab := { s.fab with waiting := [r] } } initCore 0 = false)
    ∧ (let s := st [(F.PART_T_BW_CAP, 0, 1)]; capUsed { s with fab := { s.fab with used := [(0, 100)] } } 0 = true) ∧ (State.reset.fab.waiting = [] ∧ State.reset.fab.stalled = [])
    ∧ (let r : FabReq := { init := initCore, tag := 0, kind := kindRead, addr := lpddrBase, data := [0], ue := none }; let s := dram []; (fabricDo { s with fab := { s.fab with used := [], waiting := [], turn := r.tag } } r).2.fab.stalled = [])
    ∧ ((State.reset.cpu 0).txTag = 0 ∧ partHeld State.reset 0 = false) ∧ (({ State.reset.cpu 0 with virt := true, tag := 5 } : CoreSt).txTag ≠ 0)
    ∧ ((writeFields State.reset R.PART_T_IRQ 127 0 0).flag F.PART_T_IRQ_EN 127 = false ∧ (writeFields State.reset R.PART_T_IRQ 127 0 (2 ^ 31)).flag F.PART_T_IRQ_EN 127 = true ∧ State.reset.flag F.PART_CTRL_LOCK = false)
    ∧ (let s := (((dram (cells lpddrBase (words [1, 0, 0, 0]))).setIow ioCqcsr (2 ^ 16)).setIow ioCqt 1).setIow ioCqb (lpddrBase / 4096 % 2 ^ 22 * 1024); let s := s.setIow (ioCqb + 4) (lpddrBase / 4096 / 2 ^ 22);
      s.iow ioCqcsr / 2 ^ 16 % 2 = 1 ∧ s.iow ioCqcsr / 2 ^ 8 % 8 = 0 ∧ s.iow ioCqh ≠ s.iow ioCqt ∧ (dmaRead s initOther 0 (queueBase s ioCqb + s.iow ioCqh * 16) 16).1 = some (words [1, 0, 0, 0]) ∧ ofOctetsLE (words [1, 0]) % 128 = 1 ∧ bitsOf (ofOctetsLE (words [1, 0])) 9 7 ≤ 1)
    ∧ (ofOctetsLE (words [2 + 2 ^ 10, 9]) % 128 = 2 ∧ bitsOf (ofOctetsLE (words [2 + 2 ^ 10, 9])) 9 7 = 0 ∧ bitOf (ofOctetsLE (words [2 + 2 ^ 10, 9])) 11 = false ∧ bitOf (ofOctetsLE (words [2 + 2 ^ 10, 9])) 10 = true ∧ (dmaWrite (dram []) initOther 0 lpddrBase (octetsLE 4 9)).1 = true)
    ∧ ([0x000010B7, 0x002081B3, 0x00208463, 0x00000073, 0x30200073].all fun w => let s := coreAt w; cpuRuns s 0 && (coreIrq s 0).isNone && !(s.cpu 0).wfi && decide ((cpuFirst s).1 % 4 = 3) && decide ((cpuFirst s).1 + (cpuFirst s).2 * 2 ^ 16 = w)) = true
    ∧ decide (decode32 .core 0x000010B7 = .lui 1 0x1000) ∧ decide (decode32 .core 0x002081B3 = .alu .add false 3 1 2) ∧ decide (decode32 .core 0x00208463 = .branch 0 1 2 8) ∧ decide (decode32 .core 0x00000073 = .ecall) ∧ decide (decode32 .core 0x30200073 = .mret)
    ∧ cpuRuns State.reset 7 = false
    ∧ (let s := State.reset; bitOf ({ s with fab := { s.fab with retrain := 1 } } : State).fab.retrain 0 = true ∧ s.flag F.SYS_MEM_MCA_FAILED = false ∧ bitOf s.fab.retrain 0 = false) := by decide +kernel

/-! ## Witnesses: keys, clocks, boot, recovery and JTAG -/

theorem shaRound_length (v : List Nat) (kw : Nat × Nat) : (shaRound v kw).length = v.length := by
  unfold shaRound; split <;> simp
theorem shaBlock_length (h blk : List Nat) : (shaBlock h blk).length = h.length := by
  unfold shaBlock
  have : ∀ (l : List (Nat × Nat)) (v : List Nat), (l.foldl shaRound v).length = v.length := by
    intro l; induction l with
    | nil => intro v; rfl
    | cons a l ih => intro v; rw [List.foldl_cons, ih, shaRound_length]
  simp [this]
theorem sha256_length (m : List Nat) : (sha256 m).length = 32 := by
  have h8 : ∀ (l : List (List Nat)) (v : List Nat), (l.foldl shaBlock v).length = v.length := by
    intro l; induction l with
    | nil => intro v; rfl
    | cons a l ih => intro v; rw [List.foldl_cons, ih, shaBlock_length]
  unfold sha256
  rw [List.length_flatMap, List.map_congr_left (g := fun _ => 4) (by intro a _; rfl), List.map_const', List.sum_replicate_nat, h8]; rfl
theorem deviceId_length (s : State) : (deviceId s).length = 16 := by unfold deviceId; simp [sha256_length]
theorem list16 {d : List Nat} (h : d.length = 16) : ∃ a b c e f g i j k l m n o p q r, d = [a, b, c, e, f, g, i, j, k, l, m, n, o, p, q, r] := by
  match d, h with
  | [a, b, c, e, f, g, i, j, k, l, m, n, o, p, q, r], _ => exact ⟨a, b, c, e, f, g, i, j, k, l, m, n, o, p, q, r, rfl⟩

def keySl (use parent : Nat) : KeySlot := { KeySlot.reset with st := ksValid, typ := 1, use := use, parent := parent }
/-- A device with its identity, the root key in slot 0 and a child of it in slot 1. -/
def keyed : State := let s := st [(F.KEYS_STAT_ID_READY, 0, 1)]; { s with keys := { s.keys with slots := [(0, keySl 1 0), (1, keySl 0 0)] } }
/-- A KEY_INVALIDATE of slot 1 for a device, with a signature. -/
def invalidate (dev sig : List Nat) : List Nat :=
  [0x44, 0x58, 0x4B, 0x4D, 1, 2, 1, 0] ++ dev ++ ([0, 0, 0, 0, 0, 0, 0, 0, 0, 0, 0, 4] ++ [0, 0, 0, 0, 0, 0, 0, 0, 0, 0, 0, 0, 0, 0, 0, 0, 0, 0, 0, 0, 0, 0, 0, 0, 0, 0, 0, 0] ++ [1, 0, 0, 0] ++ sig)
/-- The message is accepted where the free verification accepts its signature; without the check of the signature it is. -/
theorem witness_judge (sig : List Nat) (hs : sig.length = 7856) :
    judge keyed (invalidate (deviceId keyed) sig) false false = 0
    ∧ (Config.slhVerify 1 [] (signInput ((invalidate (deviceId keyed) sig).take 68)) ((invalidate (deviceId keyed) sig).drop 68) = true → judge keyed (invalidate (deviceId keyed) sig) false true = 0) := by
  obtain ⟨a, b, c, e, f, g, i, j, k, l, m, n, o, p, q, r, hd⟩ := list16 (deviceId_length keyed)
  have h1 : keyed.flag F.KEYS_STAT_ID_READY = true := by decide +kernel
  have h2 : msgFormat (invalidate (deviceId keyed) sig) false = true := by
    rw [hd]
    have hl : (invalidate [a, b, c, e, f, g, i, j, k, l, m, n, o, p, q, r] sig).length = 7924 := by
      simp only [invalidate, List.length_append, List.length_cons, List.length_nil, hs]
    have g : ∀ x, x = invalidate [a, b, c, e, f, g, i, j, k, l, m, n, o, p, q, r] sig → x.take 4 = [0x44, 0x58, 0x4B, 0x4D] ∧ x.getD 4 0 = 1 ∧ msgKind x = 2 ∧ msgPset x = 1 ∧ msgRole x = 0 ∧ msgBodyLen x = 4 := by
      rintro x rfl; exact ⟨rfl, rfl, rfl, rfl, rfl, rfl⟩
    have g := g _ rfl
    simp only [msgFormat, bodyLenOk, msgLen, hl, g]; simp [kmWrite, kmApproval, psetS, sigLen]
  have h3 : ((invalidate (deviceId keyed) sig).drop 8).take 16 = deviceId keyed := by rw [hd]; rfl
  have h4 : keyCounter keyed = 0 ∧ counterConf keyed = 0 := by decide +kernel
  have h5 : msgCounter (invalidate (deviceId keyed) sig) = 0 ∧ msgSigner (invalidate (deviceId keyed) sig) = 0 ∧ msgPset (invalidate (deviceId keyed) sig) = 1 ∧ msgKind (invalidate (deviceId keyed) sig) = 2
      ∧ msgBodyLen (invalidate (deviceId keyed) sig) = 4 ∧ (msgBody (invalidate (deviceId keyed) sig)).getD 0 0 = 1 := by rw [hd]; exact ⟨rfl, rfl, rfl, rfl, rfl, rfl⟩
  have h6 : keyed.keySlot 0 = keySl 1 0 ∧ keyed.keySlot 1 = keySl 0 0 := ⟨rfl, rfl⟩
  have hu : usePermits (keySl 1 0) (invalidate (deviceId keyed) sig) = true := by unfold usePermits; rw [h5.2.2.2.1]; rfl
  have hp : msgPermitted keyed (invalidate (deviceId keyed) sig) = true := by
    simp only [msgPermitted, h5.2.2.2.1, h5.2.2.2.2.2, h5.2.1, h6.2]; rfl
  constructor
  · simp only [judge, h1, h2, h3, h4.1, h4.2, h5.1, h5.2.1, h5.2.2.1, h5.2.2.2.1, h6.1, hu, hp]; simp [keySl, ksValid, kmWrite]
  · intro hv
    simp only [judge, h1, h2, h3, h4.1, h4.2, h5.1, h5.2.1, h5.2.2.1, h5.2.2.2.1, h5.2.2.2.2.1, h6.1, hu, hp, show (keySl 1 0).mat = [] from rfl, hv]; simp [keySl, ksValid, kmWrite]

/-- The signers of approvals: slot 1 for role 1 and slot 2 for role 2, with identifiers of their own. -/
def approvers : State :=
  let s := st [(F.KEYS_STAT_ID_READY, 0, 1)]
  { s with keys := { s.keys with slots := [(0, keySl 1 0), (1, { keySl 2 0 with id := 1 }), (2, { keySl 4 0 with id := 2 })] } }
/-- An APPROVAL of a bundle in slot 0 by a role and its signer. -/
def approval (dev sig : List Nat) (role signer : Nat) : List Nat :=
  [0x44, 0x58, 0x4B, 0x4D, 1, 3, 1, role] ++ dev ++ ([0, 0, 0, 0, signer, 0, 0, 0, 0, 0, 0, 40] ++ [0, 0, 0, 0, 0, 0, 0, 0, 0, 0, 0, 0, 0, 0, 0, 0, 0, 0, 0, 0, 0, 0, 0, 0, 0, 0, 0, 0] ++ (([3, 0, 0, 0] ++ List.replicate 36 0) ++ sig))
theorem approval_length {dev sig : List Nat} (hd : dev.length = 16) (hs : sig.length = 7856) (role signer : Nat) : (approval dev sig role signer).length = 7960 := by
  simp only [approval, List.length_append, List.length_cons, List.length_nil, List.length_replicate, hs, hd]
theorem approval_fields (dev sig : List Nat) (hd : dev.length = 16) (role signer : Nat) :
    let x := approval dev sig role signer
    x.take 4 = [0x44, 0x58, 0x4B, 0x4D] ∧ x.getD 4 0 = 1 ∧ msgKind x = 3 ∧ msgPset x = 1 ∧ msgRole x = role ∧ msgCounter x = 0 ∧ msgSigner x = signer ∧ msgBodyLen x = 40 ∧ (x.drop 8).take 16 = dev
      ∧ msgBody x = [3, 0, 0, 0] ++ List.replicate 36 0 := by
  obtain ⟨a, b, c, e, f, g, i, j, k, l, m, n, o, p, q, r, rfl⟩ := list16 hd
  exact ⟨rfl, rfl, rfl, rfl, rfl, rfl, rfl, rfl, rfl, rfl⟩
theorem judge_approval (sig : List Nat) (hs : sig.length = 7856) (role signer : Nat) (hr : role = 1 ∧ signer = 1 ∨ role = 2 ∧ signer = 2) :
    judge approvers (approval (deviceId approvers) sig role signer) true false = 0 := by
  obtain ⟨f1, f2, f3, f4, f5, f6, f7, f8, f9, f10⟩ := approval_fields (deviceId approvers) sig (deviceId_length _) role signer
  have h1 : approvers.flag F.KEYS_STAT_ID_READY = true := by decide +kernel
  have h4 : keyCounter approvers = 0 ∧ counterConf approvers = 0 := by decide +kernel
  have hb : msgFormat (approval (deviceId approvers) sig role signer) true = true := by
    simp only [msgFormat, bodyLenOk, msgLen, approval_length (deviceId_length _) hs, f1, f2, f3, f4, f5, f8]
    rcases hr with ⟨rfl, rfl⟩ | ⟨rfl, rfl⟩ <;> simp [kmWrite, kmApproval, psetS, sigLen]
  rcases hr with ⟨rfl, rfl⟩ | ⟨rfl, rfl⟩
  · have hk : approvers.keySlot 1 = { keySl 2 0 with id := 1 } := rfl
    simp only [judge, h1, hb, f3, f4, f5, f6, f7, f9, h4.1, h4.2, hk, usePermits, msgPermitted]
    simp [keySl, ksValid, kmWrite, kmInvalidate, kmLifecycle, kmApproval, bitOf, show Nat.testBit 2 1 = true from rfl]
  · have hk : approvers.keySlot 2 = { keySl 4 0 with id := 2 } := rfl
    simp only [judge, h1, hb, f3, f4, f5, f6, f7, f9, h4.1, h4.2, hk, usePermits, msgPermitted]
    simp [keySl, ksValid, kmWrite, kmInvalidate, kmLifecycle, kmApproval, bitOf, show Nat.testBit 4 2 = true from rfl]
theorem witness_judgePair (sig pad : List Nat) (hs : sig.length = 7856) (hp : pad.length = 40) :
    judgePair approvers (approval (deviceId approvers) sig 1 1 ++ pad ++ approval (deviceId approvers) sig 2 2) false = 0 := by
  have hl := approval_length (deviceId_length approvers) hs 1 1
  have ha : pairMsgs (approval (deviceId approvers) sig 1 1 ++ pad ++ approval (deviceId approvers) sig 2 2) = (approval (deviceId approvers) sig 1 1, approval (deviceId approvers) sig 2 2) := by
    have h40 : msgBodyLen (approval (deviceId approvers) sig 1 1 ++ pad ++ approval (deviceId approvers) sig 2 2) = 40 ∧ msgPset (approval (deviceId approvers) sig 1 1 ++ pad ++ approval (deviceId approvers) sig 2 2) = 1 := by
      obtain ⟨a, b, c, e, f, g, i, j, k, l, m, n, o, p, q, r, hd⟩ := list16 (deviceId_length approvers)
      rw [hd]; exact ⟨rfl, rfl⟩
    simp only [pairMsgs, h40]
    rw [List.append_assoc, show 64 + 40 + sigLen 1 = (approval (deviceId approvers) sig 1 1).length by rw [hl]; rfl, List.take_left, ← List.append_assoc,
      show roundUp (approval (deviceId approvers) sig 1 1).length 64 = (approval (deviceId approvers) sig 1 1 ++ pad).length by rw [List.length_append, hl, hp]; rfl, List.drop_left]
  obtain ⟨-, -, -, -, f5, f6, f7, -, -, f10⟩ := approval_fields (deviceId approvers) sig (deviceId_length _) 1 1
  obtain ⟨-, -, -, -, g5, g6, g7, -, -, g10⟩ := approval_fields (deviceId approvers) sig (deviceId_length _) 2 2
  simp only [judgePair, ha, judge_approval sig hs 1 1 (.inl ⟨rfl, rfl⟩), judge_approval sig hs 2 2 (.inr ⟨rfl, rfl⟩), f5, f6, f7, f10, g5, g6, g7, g10]
  decide +kernel

/-- KEYS with its operand in LPDDR, of which nothing is written: it reads zeros. -/
def keysSt (l : List (Fld × Nat × Nat)) : State := st ([(F.SYS_MEM_MCA_SIZE, 0, 4), (F.KEYS_ADDR_HI_ADDR, 0, 8), (F.KEYS_LEN_LEN, 0, 32), (F.KEYS_ARG_ARG, 0, 1)] ++ l)
def lc (n : Nat) (s : State) : State := { s with keys := { s.keys with lifecycle := n } }
theorem witness_KeysCommandsBegin :
    (State.reset.clk.held = false ∧ State.reset.flag (mbxBusy 15) = false ∧ (st [(mbxBusy 15, 0, 1)]).flag (mbxBusy 15) = true ∧ (lc 3 State.reset).keys.lifecycle = 3 ∧ State.reset.keys.lifecycle ≠ 3)
    ∧ (let s := keysSt []; let s := { s with keys := { s.keys with used := true } }; s.fld F.KEYS_LEN_LEN ≤ 40960 ∧ (keysRead s (s.fld F.KEYS_LEN_LEN)).1 = some (List.replicate 32 0) ∧ judge s (List.replicate 32 0) false true ≠ 0)
    ∧ (let s := st [(F.KEYS_ADDR_HI_ADDR, 0, 7)]; let s := { s with keys := { s.keys with used := true } }; (keysRead s (min (s.fld F.KEYS_LEN_LEN) 40960)).1 = none)
    ∧ (let s := keysSt [(F.KEYS_STAT_ID_READY, 0, 1)]; s.flag F.KEYS_STAT_ID_READY = true ∧ s.fld F.KEYS_ARG_ARG = 1 ∧ (keysRead s 32).1.isSome)
    ∧ ((st [(F.KEYS_STAT_EXPORTED, 0, 1)]).flag F.KEYS_STAT_EXPORTED = true ∧ State.reset.flag F.KEYS_STAT_EXPORTED = false ∧ (st [(F.KEYS_STAT_IMPORTED, 0, 1)]).flag F.KEYS_STAT_IMPORTED = true ∧ State.reset.flag F.KEYS_STAT_IMPORTED = false)
    ∧ (State.reset.keys.used = false ∧ inLpddr (keysSt []) (keysAddr (keysSt [])) 65536 = true)
    ∧ (keyCounter State.reset = counterConf State.reset ∧ State.reset.keys.fuses.floors.length < 64 ∧ State.reset.keys.fuses.floors.head? ≠ some (counterConf State.reset) ∧ keyCounter (st [(F.KEYS_COUNTER_VAL, 0, 1)]) ≠ counterConf (st [(F.KEYS_COUNTER_VAL, 0, 1)]))
    ∧ (let s := keysSt []; let s := { s with keys := { s.keys with fuses := { s.keys.fuses with rootHash := some (sha256 (1 :: List.replicate 32 0)) } } }; s.keys.fuses.rootHash.isSome = true ∧ (keysRead s 32).1 = some (List.replicate 32 0) ∧ s.fld F.KEYS_ARG_ARG = 1)
    ∧ (State.reset.flag F.KEYS_CTRL_LOCK = false ∧ State.reset.keys.lifecycle ≤ 1 ∧ State.reset.keys.fuses.rootHash = none ∧ State.reset.fld F.KEYS_STAT_LC_PEND = 7 ∧ State.reset.keys.lifecycle = 0 ∧ State.reset.keys.fuses.ktk = false ∧ (st [(F.KEYS_CTRL_LOCK, 0, 1)]).flag F.KEYS_CTRL_LOCK = true) := by decide +kernel
def krun (cmd : Nat) (w : Bool) (s : State) : State := { s with keys := { s.keys with run := some { cmd := cmd, addr := 0, arg := 0, wait := w, cause := 0, data := [] }, zeroDue := true } }
theorem witness_KeysEffects :
    (let s := krun 1 true State.reset; s.clk.held = false ∧ (s.keys.run.map KeysRun.wait) = some true ∧ (s.keys.run.map KeysRun.cmd) = some 1 ∧ judge s [] false false ≠ 0 ∧ s.keys.zeroDue = true)
    ∧ (State.reset.keys.lifecycle ≠ 3 ∧ State.reset.flag F.KEYS_STAT_ID_READY = false)
    ∧ ([6, 8, 9, 10, 12, 13].all fun c => let s := krun c false State.reset; decide (s.keys.run.map KeysRun.cmd = some c) && decide (s.keys.run.map KeysRun.cause = some 0) && s.boot.req.isNone && s.keys.fuses.rootHash.isNone) = true
    ∧ ((State.reset.setSh F.KEYS_TAMP_LEVEL 3).aonFld F.KEYS_TAMP_EN &&& (3 - 3 % 4) = 0)
    ∧ (let s := (State.reset.setSh F.KEYS_TAMP_EN 3).setSh F.KEYS_TAMP_LEVEL 2; s.aonFld F.KEYS_TAMP_EN &&& (3 - 2 % 4) ≠ 0)
    ∧ slotSecret 4 = true ∧ slotSecret 1 = false := by decide +kernel

/-- A state whose clocks are set. -/
def ck (f : ClkSt → ClkSt) : State := { State.reset with clk := f State.reset.clk }
theorem witness_ClocksAndResets :
    (State.reset.clk.held = false ∧ causePersists (ck fun c => { c with por := true }) = true ∧ causePersists State.reset = false ∧ State.reset.clk.pinLow = false ∧ State.reset.clk.lowPower = false)
    ∧ (let s := ck fun c => { c with pinLow := true, held := true }; s.clk.pinLow = true ∧ s.clk.held = true) ∧ (let s := ck fun c => { c with por := true, held := true }; s.clk.por = true ∧ s.clk.held = true)
    ∧ (let s := ck fun c => { c with refLost := true, held := true }; s.clk.refLost = true ∧ s.clk.held = true)
    ∧ (let s := ck fun c => { c with releaseAt := some 5, held := true, ns := 5 }; s.clk.releaseAt = some 5 ∧ s.clk.held = true ∧ 5 ≤ s.clk.ns ∧ State.reset.clk.ns < 5)
    ∧ (State.reset.aonFlag F.AON_STAT_VALID = false ∧ (State.reset.setSh F.AON_STAT_VALID 1).aonFlag F.AON_STAT_VALID = true)
    ∧ (let s : State := { State.reset with aon := { State.reset.aon with queue := [(0x40100050 + 4 * 3, 7)] } }; s.aon.queue = (0x4010005C, 7) :: []) ∧ State.reset.aon.queue = [] ∧ 0x4C500001 / 65536 = 0x4C50 ∧ 0x4C500001 % 2 = 1
    ∧ ([1, 2, 3].all fun w => let s := ck fun c => { c with lowPower := true, wakeBy := w }; s.clk.lowPower && decide (s.clk.wakeBy = w)) = true
    ∧ (0xD5120000 / 65536 = 0xD512 ∧ State.reset.clk.lost.contains (7, 1) = false ∧ (ck fun c => { c with lost := [(5, 0)] }).clk.lost = [(5, 0)] ∧ (let c := (ck fun c => { c with ns := 205, stopNs := 90 }).clk; 3 = c.ns / 40 - c.stopNs / 40 ∧ 10 = c.stopNs % 40 ∧ 4 ≠ c.ns / 40 - c.stopNs / 40) ∧ State.reset.flag (mbxBusy 16) = false ∧ (st [(mbxBusy 16, 0, 1)]).flag (mbxBusy 16) = true) := by decide +kernel
theorem witness_ResetPinFree : ∃ v a, State.reset.takeFree = (v, a) := ⟨_, _, rfl⟩
theorem witness_RegistersAndSnapshots :
    (State.reset.clk.held = false ∧ State.reset.flag (mbxBusy 0) = false ∧ State.reset.snap = none ∧ (st [(mbxBusy 0, 0, 1)]).flag (mbxBusy 0) = true ∧ ({ State.reset with snap := some okStamp } : State).snap = some okStamp)
    ∧ (inRegs 0x4011FFFC = true ∧ 0x4011FFFC % 4 = 0 ∧ inRegs 0x40000000 = true ∧ 0x40000001 % 4 ≠ 0 ∧ partHeld State.reset (State.reset.cpu 0).txTag = false ∧ (State.reset.cpu 0).txTag = 0)
    ∧ (({ State.reset.cpu 0 with virt := true, tag := 5 } : CoreSt).txTag = 5 ∧ bwPermits State.reset 5 kindWrite 0x40020020 4 = false)
    ∧ (let s := st [(F.FDC_CTRL_LOCK, 0, 1)]; s.flag F.FDC_CTRL_LOCK = true ∧ 1 % 2 ≠ s.fld F.FDC_CTRL_EN) := by decide +kernel

/-- A device with both channels of 1 GiB ranks in a boot state, with a flash whose octets are listed. -/
def bt (stt : Nat) (fl : List (Nat × Nat)) : State :=
  let s := st [(F.SYS_MEM_MCA_SIZE, 0, 4), (F.BOOT_STAT_STATE, 0, stt)]
  { s with boot := { s.boot with flash := fl, size := 64 * 2 ^ 20, dir := { s.boot.dir with slot0 := 0x100000, slot1 := 0x2000000 } } }
/-- Octets of a word in flash, least significant first. -/
def fl (a w : Nat) : List (Nat × Nat) := (List.range 4).map fun i => (a + i, w / 256 ^ i % 256)
/-- The header of a bundle without sections, of 4,096 octets, but for its CRC. -/
def bundleHead (crc : Nat) : List (Nat × Nat) :=
  fl 0x100000 0x47534C31 ++ fl 0x100004 0x01000000 ++ fl 0x100008 4096 ++ fl 0x100014 0x44580512 ++ fl 0x10001C crc

theorem witness_BootSequence :
    (State.reset.clk.held = false ∧ (bt 1 []).fld F.BOOT_STAT_STATE ≠ 0 ∧ State.reset.fld F.BOOT_STAT_STATE = 0 ∧ rankSum [1] ≠ 0 ∧ rankSum [] = 0 ∧ State.reset.clk.lost = [] ∧ (ck fun c => { c with lost := [(0, 0)] }).clk.lost ≠ []
      ∧ ({ State.reset with boot := { State.reset.boot with release := [(7, 64, 9)] } } : State).boot.release = (7, 64, 9) :: [])
    ∧ (let s := State.reset.setSh F.AON_STAT_VALID 1; s.aonFlag F.AON_STAT_VALID = true ∧ s.aonFlag F.AON_BOOT_FORCE_RECOV = false ∧ s.aonFlag F.AON_BOOT_TRIED = false ∧ (s.setSh F.AON_BOOT_FORCE_RECOV 1).aonFlag F.AON_BOOT_FORCE_RECOV = true)
    ∧ (bitOf (State.reset.aonFld F.AON_BOOT_BAD) 1 = false ∧ bitOf ((State.reset.setSh F.AON_BOOT_BAD 2).aonFld F.AON_BOOT_BAD) 1 = true)
    ∧ (let s := bt 1 []; s.fld F.BOOT_STAT_STATE = 1 ∧ s.boot.slot = 0 ∧ headerBad (flashBytes s (slotBase s 0) 32) (flashSpan s 0) = true)
    ∧ (sparseFind (recKey 3 0) State.reset.keys.recs = none ∧ State.reset.keys.lifecycle ≤ 1 ∧ 2 ≤ (lc 2 State.reset).keys.lifecycle ∧ (lc 2 State.reset).keys.lifecycle ≤ 3)
    ∧ (let s : State := { State.reset with keys := { State.reset.keys with recs := [(recKey 3 1, { size := 4, digest := [], cnt := 0 })] } }; (sparseFind (recKey 3 1) s.keys.recs).isSome ∧ recAgrees s 3 1 [0, 0, 0, 0] = false)
    ∧ (let s := bt 3 []; s.fld F.BOOT_STAT_STATE = 3 ∧ (engineRead initBoot 64 s (stageBundle s) 64).1.isSome ∧ (applySections s []).1 = true ∧ (applySections s [{ typ := 1, core := 0, dest := 0, off := 0, len := 12 }]).1 = false
      ∧ (applySections s [{ typ := 1, core := 0, dest := 0, off := 0, len := 12 }]).2.clk.held = false) := by decide +kernel
/-- A bundle in slot 0 whose header and sections pass. -/
def goodBundle : State := bt 1 (bundleHead 3610329042)
theorem sparseGet_above {α : Type} (d : α) (l : Sparse α) (k : Nat) (h : ∀ e ∈ l, e.1 < k) : sparseGet d l k = d := by
  have : sparseFind k l = none := by
    induction l with
    | nil => rfl
    | cons e l ih =>
      have he := h e (List.mem_cons_self ..)
      simp only [sparseFind, show ¬ k = e.1 by omega, if_false]
      exact ih fun x hx => h x (List.mem_cons_of_mem _ hx)
  simp [sparseGet, this]
/-- Past the header's words the flash is erased. -/
theorem goodBundle_erased (a : Nat) (h : 0x100020 ≤ a) (h2 : a < 64 * 2 ^ 20) : flashByte goodBundle a = 255 := by
  have hs : goodBundle.boot.size = 64 * 2 ^ 20 := rfl
  have ht : goodBundle.boot.torn = [] := rfl
  have hg : sparseGet 0xFF goodBundle.boot.flash a = 0xFF := sparseGet_above _ _ _ fun e he => by
    have hm : ∀ x ∈ goodBundle.boot.flash, x.1 < 0x100020 := by decide +kernel
    exact Nat.lt_of_lt_of_le (hm e he) h
  unfold flashByte
  rw [hs, if_neg (by omega), ht]; simp [sparseFind, hg]
def headWords : List Nat := [49, 76, 83, 71, 0, 0, 0, 1, 0, 16, 0, 0, 255, 255, 255, 255, 255, 255, 255, 255, 18, 5, 88, 68, 255, 255, 255, 255, 210, 63, 49, 215]
theorem goodBundle_head : flashBytes goodBundle 0x100000 4096 = headWords ++ List.replicate 4064 255 := by
  have hr : List.range 4096 = List.range 32 ++ (List.range 4064).map (32 + ·) := by
    have h := List.range_add (n := 32) (m := 4064); simpa only [Nat.reduceAdd] using h
  have ha : (List.range 32).map (fun i => flashByte goodBundle (0x100000 + i)) = headWords := by decide +kernel
  have hb : (List.range 4064).map (fun i => flashByte goodBundle (0x100000 + (32 + i))) = List.replicate 4064 255 := by
    rw [List.map_congr_left (g := fun _ => 255) (by
      intro i hi; have := List.mem_range.mp hi
      exact goodBundle_erased _ (by omega) (by omega)), List.map_const', List.length_range]
  unfold flashBytes
  rw [hr, List.map_append, List.map_map, ha, ← hb]; rfl
/-- A CRC advanced over erased octets. -/
def overErased (n c : Nat) : Nat := (List.replicate n 255).foldl (crcStep 0x82F63B78) c
theorem overErased_add (n m c : Nat) : overErased (n + m) c = overErased m (overErased n c) := by
  unfold overErased; rw [← List.replicate_append_replicate, List.foldl_append]
theorem erased0 : overErased 254 96864784 = 1800992323 := by decide +kernel
theorem erased1 : overErased 254 1800992323 = 3206926883 := by decide +kernel
theorem erased2 : overErased 254 3206926883 = 3604175956 := by decide +kernel
theorem erased3 : overErased 254 3604175956 = 2338045491 := by decide +kernel
theorem erased4 : overErased 254 2338045491 = 2879238946 := by decide +kernel
theorem erased5 : overErased 254 2879238946 = 1492016529 := by decide +kernel
theorem erased6 : overErased 254 1492016529 = 3207626648 := by decide +kernel
theorem erased7 : overErased 254 3207626648 = 2769797697 := by decide +kernel
theorem erased8 : overErased 254 2769797697 = 333483283 := by decide +kernel
theorem erased9 : overErased 254 333483283 = 3060581836 := by decide +kernel
theorem erased10 : overErased 254 3060581836 = 1516331094 := by decide +kernel
theorem erased11 : overErased 254 1516331094 = 1496507548 := by decide +kernel
theorem erased12 : overErased 254 1496507548 = 22120242 := by decide +kernel
theorem erased13 : overErased 254 22120242 = 794452541 := by decide +kernel
theorem erased14 : overErased 254 794452541 = 347898357 := by decide +kernel
theorem erased15 : overErased 254 347898357 = 684638253 := by decide +kernel
theorem bundle_erased15 : overErased 254 347898357 = 684638253 := erased15
theorem bundle_erased14 : overErased 508 794452541 = 684638253 := (overErased_add 254 254 794452541).trans ((congrArg (overErased 254) erased14).trans bundle_erased15)
theorem bundle_erased13 : overErased 762 22120242 = 684638253 := (overErased_add 254 508 22120242).trans ((congrArg (overErased 508) erased13).trans bundle_erased14)
theorem bundle_erased12 : overErased 1016 1496507548 = 684638253 := (overErased_add 254 762 1496507548).trans ((congrArg (overErased 762) erased12).trans bundle_erased13)
theorem bundle_erased11 : overErased 1270 1516331094 = 684638253 := (overErased_add 254 1016 1516331094).trans ((congrArg (overErased 1016) erased11).trans bundle_erased12)
theorem bundle_erased10 : overErased 1524 3060581836 = 684638253 := (overErased_add 254 1270 3060581836).trans ((congrArg (overErased 1270) erased10).trans bundle_erased11)
theorem bundle_erased9 : overErased 1778 333483283 = 684638253 := (overErased_add 254 1524 333483283).trans ((congrArg (overErased 1524) erased9).trans bundle_erased10)
theorem bundle_erased8 : overErased 2032 2769797697 = 684638253 := (overErased_add 254 1778 2769797697).trans ((congrArg (overErased 1778) erased8).trans bundle_erased9)
theorem bundle_erased7 : overErased 2286 3207626648 = 684638253 := (overErased_add 254 2032 3207626648).trans ((congrArg (overErased 2032) erased7).trans bundle_erased8)
theorem bundle_erased6 : overErased 2540 1492016529 = 684638253 := (overErased_add 254 2286 1492016529).trans ((congrArg (overErased 2286) erased6).trans bundle_erased7)
theorem bundle_erased5 : overErased 2794 2879238946 = 684638253 := (overErased_add 254 2540 2879238946).trans ((congrArg (overErased 2540) erased5).trans bundle_erased6)
theorem bundle_erased4 : overErased 3048 2338045491 = 684638253 := (overErased_add 254 2794 2338045491).trans ((congrArg (overErased 2794) erased4).trans bundle_erased5)
theorem bundle_erased3 : overErased 3302 3604175956 = 684638253 := (overErased_add 254 3048 3604175956).trans ((congrArg (overErased 3048) erased3).trans bundle_erased4)
theorem bundle_erased2 : overErased 3556 3206926883 = 684638253 := (overErased_add 254 3302 3206926883).trans ((congrArg (overErased 3302) erased2).trans bundle_erased3)
theorem bundle_erased1 : overErased 3810 1800992323 = 684638253 := (overErased_add 254 3556 1800992323).trans ((congrArg (overErased 3556) erased1).trans bundle_erased2)
theorem bundle_erased0 : overErased 4064 96864784 = 684638253 := (overErased_add 254 3810 96864784).trans ((congrArg (overErased 3810) erased0).trans bundle_erased1)
theorem bundle_crc (l : List Nat) (h : l = headWords.take 28 ++ [0, 0, 0, 0]) : crc32c (l ++ List.replicate 4064 255) = 3610329042 := by
  have h0 : l.foldl (crcStep 0x82F63B78) 0xFFFFFFFF = 96864784 := by rw [h]; decide +kernel
  unfold crc32c
  rw [List.foldl_append, h0, show List.foldl (crcStep 0x82F63B78) 96864784 (List.replicate 4064 255) = 684638253 from bundle_erased0]; decide
theorem witness_boot_header : headerBad (flashBytes goodBundle 0x100000 4096) (flashSpan goodBundle 0) = false ∧ leAt (flashBytes goodBundle 0x100000 4096) 2 = 4096
    ∧ sectionsBad goodBundle (flashBytes goodBundle 0x100000 4096) = false := by
  rw [goodBundle_head]
  generalize hr : List.replicate 4064 255 = r
  have hc : crc32c ((headWords ++ r).take 28 ++ [0, 0, 0, 0] ++ ((headWords ++ r).drop 32).take 4064) = leAt (headWords ++ r) 7 := by
    rw [show (headWords ++ r).drop 32 = r from rfl, show (headWords ++ r).take 28 = headWords.take 28 from rfl, show r.take 4064 = r by rw [← hr, List.take_replicate]; rfl, ← hr]
    exact bundle_crc _ rfl
  have hs : flashSpan goodBundle 0 = 32505856 := by decide +kernel
  refine ⟨?_, rfl, ?_⟩
  · unfold headerBad; rw [hc, hs]; simp only [show leAt (headWords ++ r) 0 = 0x47534C31 from rfl, show leAt (headWords ++ r) 1 = 0x01000000 from rfl, show leAt (headWords ++ r) 5 = 0x44580512 from rfl,
      show leAt (headWords ++ r) 2 = 4096 from rfl]; simp [mib]
  · unfold sectionsBad; simp only [bundleSecs, show leAt (headWords ++ r) 1 = 0x01000000 from rfl]; rfl

/-- A device in READY with 4 GiB, mailbox operands and a flash of 64 MiB. -/
def fm (l : List (Fld × Nat × Nat)) : State :=
  let s := st ([(F.SYS_MEM_MCA_SIZE, 0, 4), (F.BOOT_STAT_STATE, 0, 4)] ++ l)
  { s with boot := { s.boot with size := 64 * 2 ^ 20 } }
/-- The same with a flash operation in progress. -/
def fop (cmd ns : Nat) : State :=
  let s := fm []
  { s with clk := { s.clk with ns := ns }, boot := { s.boot with op := some { cmd := cmd, off := 0, len := 65536, addr := lpddrBase, start := 0 } } }
theorem witness_FlashCommands :
    ((fm []).clk.held = false ∧ (fm [(mbxBusy 17, 0, 1)]).flag (mbxBusy 17) = true ∧ (fm []).flag (mbxBusy 17) = false ∧ 2 % 4 ≠ 0 ∧ 256 % 4 = 0 ∧ 256 ≠ 0)
    ∧ (inLpddr (fm []) 0 4 = false ∧ inLpddr (fm []) lpddrBase 256 = true ∧ partHeld (fm []) 0 = false ∧ bwPermits (fm []) 0 kindWrite lpddrBase 256 = true ∧ bwPermits (fm []) 0 kindRead lpddrBase 256 = true)
    ∧ (65536 % 65536 = 0 ∧ meetsRunning (fm []) 0 65536 = false ∧ 256 % 65536 ≠ 0 ∧ 1 % 256 ≠ 0
      ∧ (let s := { fm [] with boot := { (fm []).boot with bundle := 4096 } }; meetsRunning s (slotBase s 0) 65536 = true))
    ∧ ((fm []).fld F.BOOT_STAT_STATE = 4 ∧ State.reset.fld F.BOOT_STAT_STATE ≠ 4 ∧ (fm []).flag F.AON_BOOT_TRIED = false ∧ (fm [(F.AON_BOOT_TRIED, 0, 1)]).flag F.AON_BOOT_TRIED = true)
    ∧ ([1, 2, 3, 4, 5, 6].all fun c => decide ((fop c 0).boot.op.map (fun o => (o.cmd, o.start)) = some (c, 0)) && decide ((fop c 0).clk.ns < 4000000000) && decide (0 + 4000000000 ≤ (fop c 4000000000).clk.ns)) = true
    ∧ (65536 ≤ 65540 ∧ 65540 < 65536 + 65536 ∧ 65540 < (fm []).boot.size ∧ 0 < 65536 ∧ 0 / 256 < 65536 / 256) := by decide +kernel
theorem witness_StepOfDeviceTime : ∃ t, t = stepTime State.reset (-5) := ⟨_, rfl⟩

def recMsg (op a0 a1 : Nat) (d : List Nat) : RecMsg := { op := op, token := 1, arg0 := a0, arg1 := a1, data := d }
def recFrame (s : State) (m : RecMsg) : Frame := { frame 0x88B6 (.recovery m) with dst := 2 ^ 48 - 1, tag := some ⟨0, false, s.boot.dir.vid⟩ }
/-- A device in RECOVERY with 4 GiB. -/
def rec0' : State := keysSt [(F.BOOT_STAT_STATE, 0, 5)]
theorem witness_recoveryTakes (m : RecMsg) : recoveryTakes rec0' (recFrame rec0' m) true = true ∧ recoveryTakes rec0' (recFrame rec0' m) false = false := by
  have h : decide (bootState rec0' = bsRecovery) = true := by decide +kernel
  constructor
  · simp [recoveryTakes, recFrame, frame, h]
  · simp [recoveryTakes]
theorem witness_RecoveryAndJtag :
    (let s := rec0'; s.clk.held = false ∧ s.boot.req.isSome = false
      ∧ ({ s with boot := { s.boot with req := some (recFrame s (recMsg 1 0 0 [])) } } : State).boot.req.isSome = true ∧ ([] : List Nat).length ≤ 1024)
    ∧ (0x4000000 < 0x4000000 + [0, 0, 0, 0].length ∧ 0x3FFFFFC + [0, 0, 0, 0].length ≤ 0x4000000 ∧ 0x3FFFFFC % 4 = 0 ∧ (engineWrite initBoot (4 / 64 + 1) rec0' (stageBundle rec0' + 0x3FFFFFC) [1, 2, 3, 4]).1 = true)
    ∧ (0x3FFFFC0 % 64 = 0 ∧ 0x3FFFFC0 + 64 ≤ 0x4000000 ∧ rec0'.flag (mbxBusy 15) = false ∧ (keysCmd (keysOperand rec0' (stageBundle rec0') 64 0) true (fun s => applyBegin s false)).flag (mbxBusy 15) = true ∧ (st [(mbxBusy 15, 0, 1)]).flag (mbxBusy 15) = true)
    ∧ (let s : State := { rec0' with keys := { rec0'.keys with fuses := { rec0'.keys.fuses with rootHash := some (sha256 (1 :: List.replicate 32 0)) } } }; s.keys.lifecycle ≠ 3 ∧ fitOctets 32 [] = List.replicate 32 0 ∧ s.keys.fuses.rootHash = some (sha256 (1 :: fitOctets 32 [])))
    ∧ ((engineRead initBoot (64 / 64 + 1) rec0' (stageBundle rec0') 64).1 = some (List.replicate 64 0) ∧ recAgrees rec0' 3 1 (List.replicate 64 0) = false)
    ∧ (let s : State := { rec0' with keys := { rec0'.keys with recs := [(recKey 3 1, { size := 64, digest := sha256 (List.replicate 64 0), cnt := 0 })] } }; recAgrees s 3 1 (List.replicate 64 0) = true ∧ bundleForm s (List.replicate 64 0) (flashSpan s 1) ≠ 0)
    ∧ ((lc 2 State.reset).keys.lifecycle = 2 ∧ State.reset.keys.lifecycle ≠ 2 ∧ debugOpen (lc 2 State.reset) = false ∧ debugOpen State.reset = true ∧ coreHalted { State.reset with core := { State.reset.core with jtagHalt := 1 } } 0 = true)
    ∧ (laneAt State.reset laneBase 4 = some 0 ∧ laneMemOpen State.reset 0 = true ∧ laneMemOpen (lc 2 State.reset) 0 = false ∧ laneUe State.reset laneBase 4 = 0 ∧ (State.reset.setPair 0 { State.reset.pair 0 with halted := true } |>.pair 0).halted = true) := by decide +kernel

/-! ## Worked examples of the spec -/

/-- 06_protection_lanes.md, after R213: PX.CMUL f2, f4, f6 and PX.DONE x0. -/
theorem test_px_words : decode32 .lane 0x0062010B = .px 0 0 2 4 6 ∧ decode32 .lane 0xFE00700B = .px 0x7F 7 0 0 0 := by decide +kernel
/-- 03_angle_scheduler.md, the traction supply: INC at 16.7 Hz. -/
theorem test_inc_of_16_7_hertz : incOf ⟨167, 10⟩ = 300840455 := by decide +kernel
/-- 10_disturbance_recorder.md, the capacity at the example site: TB, WB, SLOT and C. -/
theorem test_recorder_capacity :
    (let s := st [(F.DREC_NCH_NA, 0, 1024), (F.DREC_NCH_NB, 0, 512), (F.DREC_RED_RED_EN, 0, 1), (F.DREC_CARVE_SIZE_VAL, 0, 8192), (F.DREC_NSEG_NSEG, 0, 16), (F.TIDE_G_CFG_WPC, 0, 2), (F.TIDE_G_FLIM_FMAX, 0, 6300)];
      drecTb s = 8272 ∧ drecWb s = 28832 ∧ slotLen s = 536805376 ∧ drecCap s = 26336) := by decide +kernel
/-- 01_architecture.md, the plane: channel 3,679 starts at 0x1000_0000 + 3,679 × 2,048. -/
theorem test_plane_region : regionOf State.reset (0x10000000 + 3679 * 2048) = .plane ∧ regionOf State.reset 0x20000 = .none := by decide +kernel
/-- A register reads its reset value at reset: PERIOD_STG of a gate is 0x18_6A00 (08_gate_pulses.md). -/
theorem test_reset_value : State.reset.fld F.GATE_C_PERIOD_STG_VAL 23 = 0x186A00 := by decide +kernel

end Sys2Proof.Tests
end

section
/-! PROOFS. Memory by its bytes (R22, log entry 7): a write of octets from an address upward. -/

namespace Sys2Proof.Machine

theorem setMemBytes_cons (s : State) (a v : Nat) (l : List Nat) :
    s.setMemBytes a (v :: l) = (s.setMemByte a v).setMemBytes (a + 1) l := rfl

theorem memByte_setMemBytes_outside (s : State) {a b : Nat} {l : List Nat} (h : b < a ∨ a + l.length ≤ b) :
    (s.setMemBytes a l).memByte b = s.memByte b := by
  induction l generalizing s a with
  | nil => rfl
  | cons v l ih =>
    rw [List.length_cons] at h
    rw [setMemBytes_cons, ih _ (by omega), memByte_setMemByte_other _ _ (by omega)]

theorem memByte_setMemBytes_inside (s : State) {a j : Nat} {l : List Nat} (h : j < l.length) :
    (s.setMemBytes a l).memByte (a + j) = l.getD j 0 % 256 := by
  induction l generalizing s a j with
  | nil => simp at h
  | cons v l ih =>
    rw [setMemBytes_cons]
    cases j with
    | zero => rw [memByte_setMemBytes_outside _ (.inl (by omega))]; simp
    | succ j =>
      rw [List.length_cons] at h
      rw [show a + (j + 1) = a + 1 + j by omega, ih _ (by omega), List.getD_cons_succ]

/-- Only the memory changes. -/
theorem setMemBytes_frame (s : State) (a : Nat) (l : List Nat) : { s.setMemBytes a l with mem := s.mem } = s := by
  induction l generalizing s a with
  | nil => rfl
  | cons v l ih =>
    have hrest := ih (s.setMemByte a v) (a + 1)
    calc { s.setMemBytes a (v :: l) with mem := s.mem }
        = { { (s.setMemByte a v).setMemBytes (a + 1) l with mem := (s.setMemByte a v).mem } with mem := s.mem } := rfl
      _ = { s.setMemByte a v with mem := s.mem } := by rw [hrest]
      _ = s := rfl

/-- Settles O10: the octets written, the octets elsewhere, and the rest of the state. -/
theorem memoryReadsWhatWasWritten : Obligations.MemoryReadsWhatWasWritten := by
  intro s a l b
  refine ⟨?_, memByte_setMemBytes_outside s, setMemBytes_frame s a l⟩
  rintro j hj rfl
  exact memByte_setMemBytes_inside s hj

end Sys2Proof.Machine
end

section
/-! PROOFS. Transactions of the fabric (R36 to R38, R412, R418), the bandwidth periods (R431), the retraining of a channel (R30) and the route of a
partition's interrupts (R424). -/

namespace Sys2Proof.Machine

/-! ## Breakwater -/

theorem bwAdmit_of_permits {s : State} {init p kind a n : Nat} (hheld : partHeld s p = false) (hok : bwPermits s p kind a n = true) :
    bwAdmit s init p kind a n = (true, s) := by
  simp [bwAdmit, hheld, hok]

theorem bwAdmit_of_not_permits {s : State} {init p kind a n : Nat} (hheld : partHeld s p = false) (hno : bwPermits s p kind a n = false) :
    bwAdmit s init p kind a n = (false, bwViolation s init p kind a) := by
  simp [bwAdmit, hheld, hno]

/-! ## One transaction -/

section
variable {s : State} {r : FabReq}

theorem fabricAccess_of_no_slot (hdata : r.data ≠ []) (hregs : inRegs r.addr = false) (hslot : fabSlotFree s r.init r.tag = false) :
    fabricAccess s r = { s with fab := { s.fab with stalled := s.fab.stalled ++ [r] } } := by
  simp [fabricAccess, hdata, hregs, hslot]

theorem fabricAccess_of_permits (hdata : r.data ≠ []) (hregs : inRegs r.addr = false) (hslot : fabSlotFree s r.init r.tag = true)
    (hheld : partHeld s r.tag = false) (hok : bwPermits s r.tag r.kind r.addr r.data.length = true) :
    fabricAccess s r = fabricAdmitted s r := by
  simp [fabricAccess, hdata, hregs, hslot, bwAdmit_of_permits hheld hok]

theorem fabricAccess_of_not_permits (hdata : r.data ≠ []) (hregs : inRegs r.addr = false) (hslot : fabSlotFree s r.init r.tag = true)
    (hheld : partHeld s r.tag = false) (hno : bwPermits s r.tag r.kind r.addr r.data.length = false) :
    fabricAccess s r = fabricEnd (none, bwViolation s r.init r.tag r.kind r.addr) := by
  simp [fabricAccess, hdata, hregs, hslot, bwAdmit_of_not_permits hheld hno]

theorem fabricAdmitted_of_cap_used (hmem : regionOf s r.addr = .lpddr) (hcap : capUsed s r.tag = true) :
    fabricAdmitted s r = { s with fab := { s.fab with waiting := s.fab.waiting ++ [r] } } := by
  simp [fabricAdmitted, hmem, hcap]

theorem fabricAdmitted_of_cap_left (h : regionOf s r.addr ≠ .lpddr ∨ capUsed s r.tag = false) :
    fabricAdmitted s r = fabricEnd (fabricDo s r) := by
  rcases h with h | h <;> simp [fabricAdmitted, h]

/-- A core's read is its caches' own matter, so only a device engine's read meets the cache line that `ue` names. -/
theorem lineUe_of_core_or_none (h : r.init = initCore ∨ r.ue = none) : r.lineUe s = none := by
  rcases h with h | h <;> simp [FabReq.lineUe, h]

theorem fabricDo_read (hkind : r.kind = kindRead) (hue : r.init = initCore ∨ r.ue = none) :
    fabricDo s r = memRead s r.init r.tag r.addr r.data.length := by
  simp [fabricDo, hkind, kindRead, kindWrite, lineUe_of_core_or_none hue]

theorem fabricDo_write {ok : Bool} {t : State} (hkind : r.kind = kindWrite) (hw : memWrite s r.init r.tag r.addr r.data = (ok, t)) :
    fabricDo s r = (if ok then some [] else none, t) := by
  simp [fabricDo, hkind, hw]

/-- A write reads nothing, and is in error where memory has not taken it. -/
theorem fabricEnd_write (ok : Bool) (t : State) :
    fabricEnd (if ok then some [] else none, t) = { t with fab := { t.fab with lastRead := [], lastError := !ok } } := by
  cases ok <;> rfl

end

/-! ## A period of the memory arbiter -/

theorem capUsed_of_nothing_used {s : State} (h : s.fab.used = []) (p : Nat) : capUsed s p = false := by
  simp only [capUsed, h, sparseGet, sparseFind, Bool.and_eq_false_iff, decide_eq_false_iff_not]
  omega

theorem pickReq_single {s : State} {r : FabReq} (h : capUsed s r.tag = false) : pickReq s [r] = some (r, []) := by
  simp [pickReq, h]

theorem qosPeriod_of_none_waiting {s : State} (hw : s.fab.waiting = []) (hst : s.fab.stalled = []) :
    qosPeriod s = { s with fab := { s.fab with used := [] } } := by
  simp [qosPeriod, serveWaiting, hw, hst]

/-- The one request that waits is served and its result kept. -/
theorem serveWaiting_single {s t : State} {r : FabReq} {l : Option (List Nat)} (hw : s.fab.waiting = [r]) (hcap : capUsed s r.tag = false)
    (hdo : fabricDo { s with fab := { s.fab with waiting := [], turn := r.tag } } r = (l, t)) : serveWaiting 1 s = fabricEnd (l, t) := by
  simp only [serveWaiting, hw, pickReq_single hcap, hdo]

theorem qosPeriod_of_one_waiting {s t : State} {r : FabReq} {l : Option (List Nat)} (hw : s.fab.waiting = [r])
    (hdo : fabricDo { s with fab := { s.fab with used := [], waiting := [], turn := r.tag } } r = (l, t)) (hst : t.fab.stalled = []) :
    qosPeriod s = { t with fab := { t.fab with lastRead := l.getD [], lastError := l.isNone, stalled := [] } } := by
  have hserved : serveWaiting s.fab.waiting.length { s with fab := { s.fab with used := [] } } = fabricEnd (l, t) := by
    rw [hw]
    exact serveWaiting_single hw (capUsed_of_nothing_used rfl _) hdo
  have hnone : (fabricEnd (l, t)).fab.stalled = [] := hst
  simp only [qosPeriod, hserved, hnone, List.foldl_nil]
  rfl

/-! ## Retraining -/

theorem memRetrain_first_failure {s : State} (h : bitOf s.fab.retrain 0 = false) :
    memRetrain s false false = { s with fab := { s.fab with retrain := s.fab.retrain + 1 } } := by
  simp [memRetrain, ofBit, h]

theorem memRetrain_second_failure {s : State} (h : bitOf s.fab.retrain 0 = true) (hf : s.flag F.SYS_MEM_MCA_FAILED = false) :
    memRetrain s false false = ((s.setFlag F.SYS_MEM_MCA_FAILED true).setFlt F.SYS_FLT_MEM_FAIL).event 0 0x0004 0 0 2 := by
  simp [memRetrain, ofBit, h, hf]

theorem memRetrain_success_again {s : State} (h : bitOf s.fab.retrain 0 = false) : memRetrain s false true = s := by
  simp [memRetrain, ofBit, h]

/-! ## Interrupt routes -/

section
variable {s a : State} {p v : Nat} (hp : 0 < p) (hcount : p < partCount) (hlock : s.flag F.PART_CTRL_LOCK = false)
  (ha : a = writeFields s R.PART_T_IRQ p 0 v)
include hp hcount hlock ha

theorem writeRoute_of_disabled (hoff : a.flag F.PART_T_IRQ_EN p = false) : writeRoute s p v = a := by
  have hopen : routeRefused p v = false := by simp [routeRefused, show p ≠ 0 by omega]
  simp [writeRoute, Nat.not_le.mpr hcount, hlock, hopen, ← ha, hoff]

theorem writeRoute_of_enabled (hon : a.flag F.PART_T_IRQ_EN p = true) :
    writeRoute s p v
      = (heldIdents a p).foldl (fun s k => s.routeIdent p k) ((a.setFld F.PART_T_IPEND_PEND_BLK 0 p).setFld F.PART_T_IPEND_PEND 0 p) := by
  have hopen : routeRefused p v = false := by simp [routeRefused, show p ≠ 0 by omega]
  simp [writeRoute, Nat.not_le.mpr hcount, hlock, hopen, ← ha, hon]

end

end Sys2Proof.Machine
end

section
/-! PROOFS. A core's write of PART_CPU_k_CUR over the register bus (R35, R412, R422). -/

namespace Sys2Proof.Machine

/-! ## Words of the register bus -/

theorem leAt_octetsLE (v : Nat) : leAt (octetsLE 4 v) 0 = v % 2 ^ 32 := by
  simp [leAt, octetsLE, octetsBE, ofOctetsLE, ofOctetsBE]
  omega

theorem busWrite_word (s : State) (init tag v : Nat) {a : Nat} (ha : a % 4 = 0) :
    (busWrite s init tag a (octetsLE 4 v)).2 = (busWriteWord s init tag a (v % 2 ^ 32)).2 := by
  have hlen : (octetsLE 4 v).length = 4 := rfl
  simp [busWrite, busBad, busWriteWords, hlen, ha, leAt_octetsLE]

theorem busWriteWord_of_permits {s : State} {init tag a : Nat} (v : Nat) (hheld : partHeld s tag = false) (hok : bwPermits s tag kindWrite a 4 = true)
    (hregs : inRegs a = true) : busWriteWord s init tag a v = regWrite s init tag ((a - regBase) / 0x10000) (a % 0x10000) v := by
  simp [busWriteWord, bwAdmit_of_permits hheld hok, hregs]

theorem busWriteWord_of_not_permits {s : State} {init tag a : Nat} (v : Nat) (hheld : partHeld s tag = false) (hno : bwPermits s tag kindWrite a 4 = false) :
    busWriteWord s init tag a v = (false, bwViolation s init tag kindWrite a) := by
  simp [busWriteWord, bwAdmit_of_not_permits hheld hno]

/-! ## The CUR registers -/

theorem regAt_cpuCur : ∀ k < 8, regAt 14 0 (0x60 + 4 * k) = some R.PART_CPU_CUR := by decide

/-- PART_CTRL.LOCK leaves the CUR registers open (R437). -/
theorem lockBars_cpuCur (s : State) (i j v : Nat) : lockBars s R.PART_CPU_CUR i j v = false := by
  have hblock : blockLocked s F.PART_CPU_CUR_GUEST = false := by
    have : F.PART_CPU_CUR_GUEST.isOne (lockOpen 14) = true := by decide
    show (s.flag F.PART_CTRL_LOCK && !F.PART_CPU_CUR_GUEST.isOne (lockOpen 14)) = false
    simp [this]
  have hinst : instLocked s F.PART_CPU_CUR_GUEST i j = false := by
    have : F.PART_CPU_CUR_GUEST.isOne [F.PART_DWD_CTL_TIMEOUT] = false := by decide
    show (F.PART_CPU_CUR_GUEST.isOne [F.PART_DWD_CTL_TIMEOUT] && s.flag F.PART_DWD_CTL_EN) = false
    simp [this]
  have hfield : fieldLocked s F.PART_CPU_CUR_GUEST i j = false := by
    show (blockLocked s F.PART_CPU_CUR_GUEST || instLocked s F.PART_CPU_CUR_GUEST i j) = false
    simp [hblock, hinst]
  simp [lockBars, R.PART_CPU_CUR, hfield]

theorem writeReg_cpuCur (s : State) (init tag addr i j v : Nat) :
    writeReg s init tag addr R.PART_CPU_CUR i j v = (true, writeCur s j v) := by
  have hshadow : writeShadow s init tag addr R.PART_CPU_CUR v = none := rfl
  have hown : writeOwn s init tag R.PART_CPU_CUR i j v = some (true, writeCur s j v) := rfl
  simp [writeReg, lockBars_cpuCur, hshadow, hown]

theorem regWrite_cpuCur (s : State) (init tag v : Nat) {k : Nat} (hk : k < 8) :
    regWrite s init tag 14 (0x60 + 4 * k) v = (true, s.setFld (F.PART_CPU_CUR_GUEST.el k) (v % 2 ^ 32)) := by
  have hpage : ¬ 0x8000 ≤ 0x60 + 4 * k := by omega
  have hplace : placeOf s 14 (0x60 + 4 * k) = some (0, 0) := by simp [placeOf, show ¬ 0x200 ≤ 0x60 + 4 * k by omega]
  have hindex : R.PART_CPU_CUR.index (0x60 + 4 * k) = k := by
    show (0x60 + 4 * k - 0x60) / 4 = k
    omega
  simp [regWrite, hpage, hplace, regWriteAt, regAt_cpuCur k hk, writeReg_cpuCur, hindex, writeCur, Nat.not_le.mpr hk]

theorem inRegs_cpuCur {k : Nat} (hk : k < 8) : inRegs (0x400E0060 + 4 * k) = true := by
  have hlow : regBase ≤ 0x400E0060 + 4 * k := by unfold regBase; omega
  have hhigh : 0x400E0060 + 4 * k < regEnd := by unfold regEnd; omega
  simp [inRegs, hlow, hhigh]

/-- The registers that a guest may reach are elsewhere (R412). -/
theorem bwPermits_cpuCur (s : State) (p : Nat) {k : Nat} (hk : k < 8) : bwPermits s p kindWrite (0x400E0060 + 4 * k) 4 = decide (p = 0) := by
  have hguest : guestReg (0x400E0060 + 4 * k) = false := by simp [guestReg]; omega
  simp [bwPermits, inRegs_cpuCur hk, hguest]

/-- CUR_WRITE is one word written by the tag that the writing core carries. -/
theorem exec_curWrite_word {s : State} (hlive : s.clk.held = false) (w v : Nat) {k : Nat} (hk : k < 8) :
    exec (.curWrite ⟨w, k⟩ v) s = .next (busWriteWord s initCore (s.cpu w).txTag (0x400E0060 + 4 * k) (v % 2 ^ 32)).2 := by
  have haddr : (0x400E0060 + 4 * k) % 2 ^ 36 = 0x400E0060 + 4 * k := by omega
  have hword := busWrite_word s initCore (s.cpu w).txTag v (a := 0x400E0060 + 4 * k) (by omega)
  simp only [exec_curWrite, execCurWrite, live_of_not_held hlive, Nat.not_le.mpr hk, if_false, registerWrite, haddr, fabWrite, inRegs_cpuCur hk, if_true,
    sourceTag, hword]

theorem exec_curWrite_of_host {s : State} (hlive : s.clk.held = false) {w k : Nat} (v : Nat) (hk : k < 8) (htag : (s.cpu w).txTag = 0)
    (hheld : partHeld s 0 = false) : exec (.curWrite ⟨w, k⟩ v) s = .next (s.setFld (F.PART_CPU_CUR_GUEST.el k) (v % 2 ^ 32)) := by
  have hblk : (0x400E0060 + 4 * k - regBase) / 0x10000 = 14 := by unfold regBase; omega
  have hoff : (0x400E0060 + 4 * k) % 0x10000 = 0x60 + 4 * k := by omega
  rw [exec_curWrite_word hlive w v hk, htag, busWriteWord_of_permits _ hheld (by simp [bwPermits_cpuCur s 0 hk]) (inRegs_cpuCur hk), hblk, hoff,
    regWrite_cpuCur s _ _ _ hk, Nat.mod_mod]

theorem exec_curWrite_of_guest {s : State} (hlive : s.clk.held = false) {w k : Nat} (v : Nat) (hk : k < 8) (htag : (s.cpu w).txTag ≠ 0)
    (hheld : partHeld s (s.cpu w).txTag = false) :
    exec (.curWrite ⟨w, k⟩ v) s = .next (bwViolation s initCore (s.cpu w).txTag kindWrite (0x400E0060 + 4 * k)) := by
  rw [exec_curWrite_word hlive w v hk, busWriteWord_of_not_permits _ hheld (by simp [bwPermits_cpuCur s _ hk, htag])]

end Sys2Proof.Machine
end

section
/-! PROOFS. The IOMMU's command queue (R425, log entry 40) and one instruction of an application core (R419, log entry 41). -/

namespace Sys2Proof.Machine

/-! ## The command queue -/

theorem iommuCommand_of_command {s a : State} {l : List Nat} (hon : s.iow ioCqcsr / 2 ^ 16 % 2 = 1) (herr : s.iow ioCqcsr / 2 ^ 8 % 8 = 0)
    (hne : s.iow ioCqh ≠ s.iow ioCqt) (hread : dmaRead s initOther 0 (queueBase s ioCqb + s.iow ioCqh * 16) 16 = (some l, a)) :
    iommuCommand s = iommuRun a (ofOctetsLE (l.take 8)) (ofOctetsLE (l.drop 8)) := by
  unfold iommuCommand
  simp only [hon, herr, hne, hread]
  rfl

theorem iommuRun_invalidate {s : State} {w0 : Nat} (w1 : Nat) (hop : w0 % 128 = 1) (hf : bitsOf w0 9 7 ≤ 1) : iommuRun s w0 w1 = cmdNext s := by
  simp [iommuRun, hop, hf]

theorem iommuRun_fence_writes {s b : State} {w0 w1 : Nat} (hop : w0 % 128 = 2) (hf : bitsOf w0 9 7 = 0) (hpr : bitOf w0 11 = false)
    (hav : bitOf w0 10 = true) (hw : dmaWrite s initOther 0 (w1 % 2 ^ 62 * 4) (octetsLE 4 (w0 / 2 ^ 32)) = (true, b)) :
    iommuRun s w0 w1 = cmdNext b := by
  have hfence : (decide (w0 % 128 = 2) && decide (bitsOf w0 9 7 = 0) && !bitOf w0 11) = true := by simp [hop, hf, hpr]
  have hinval (f : Bool) : (decide (w0 % 128 = 1) && f) = false := by simp [hop]
  have hdir (f : Bool) : (decide (w0 % 128 = 3) && f) = false := by simp [hop]
  simp only [iommuRun, hfence, hinval, hdir, hav, hw, if_true, Bool.false_eq_true, if_false]

theorem iommuRun_illegal {s : State} {w0 : Nat} (w1 : Nat) (hop : 4 ≤ w0 % 128) : iommuRun s w0 w1 = cmdStop s 10 := by
  simp [iommuRun, show w0 % 128 ≠ 1 by omega, show w0 % 128 ≠ 2 by omega, show w0 % 128 ≠ 3 by omega]

/-! ## The step of a core -/

section
variable {s : State} {k : Nat}

theorem cpuStep_of_not_runs (ue : Nat) (h : cpuRuns s k = false) : cpuStep s k ue = s := by
  simp [cpuStep, h]

theorem cpuStep_of_irq {c : CoreSt} (ue : Nat) (hruns : cpuRuns s k = true) (hirq : coreIrq s k = some c) : cpuStep s k ue = s.setCpu k c := by
  simp [cpuStep, hruns, hirq]

theorem cpuStep_fetches (ue : Nat) (hruns : cpuRuns s k = true) (hirq : coreIrq s k = none) (hwfi : (s.cpu k).wfi = false) :
    cpuStep s k ue = cpuFetch s k ue := by
  simp [cpuStep, hruns, hirq, hwfi]

/-- An instruction of 32 bits is fetched in two halves. -/
theorem cpuFetch_of_two_halves {a b : State} {lo hi : List Nat} (hlo : cpuLoad s k (s.cpu k).fetchAcc (s.cpu k).pc.toNat 2 = (.ok lo, a))
    (hlong : ofOctetsLE lo % 4 = 3) (hhi : cpuLoad a k (s.cpu k).fetchAcc (((s.cpu k).pc.toNat + 2) % 2 ^ 64) 2 = (.ok hi, b)) :
    cpuFetch s k 0 = cpuExec b k 4 (ofOctetsLE lo + ofOctetsLE hi * 2 ^ 16) (decode32 .core (ofOctetsLE lo + ofOctetsLE hi * 2 ^ 16)) false := by
  simp only [cpuFetch, hlo, hlong, hhi]
  rfl

/-! ## Retiring and trapping -/

@[simp] theorem csrBit_setX (c : CoreSt) (r v num i : Nat) : (c.setX r v).csrBit num i = c.csrBit num i := by
  unfold CoreSt.setX
  split <;> rfl

theorem cpuRetire_of_not_counting {f : CoreSt → CoreSt} (next : Nat) (hlive : s.clk.held = false)
    (hinh : (f (s.cpu k)).csrBit csrMcountinhibit 2 = true) :
    cpuRetire s k next f = s.setCpu k { f (s.cpu k) with pc := BitVec.ofNat 64 next } := by
  simp [cpuRetire, hlive, hinh]

theorem cpuTrap_of_live (t : CpuTrap) (hlive : s.clk.held = false) : cpuTrap s k t = s.setCpu k ((s.cpu k).except t) := by
  simp [cpuTrap, hlive]

/-- M mode delegates nothing. -/
theorem except_of_machine {c : CoreSt} (t : CpuTrap) (h : c.priv = 3) : c.except t = c.trapM t false := by
  simp [CoreSt.except, h]

/-! ## Instructions -/

theorem cpuExec_lui (len iw rd : Nat) (imm : Int) :
    cpuExec s k len iw (.lui rd imm) false = cpuRetire s k (((s.cpu k).pc.toNat + len) % 2 ^ 64) fun c => c.setX rd (unsigned 64 imm) := rfl

theorem cpuExec_alu (len iw : Nat) (op : RvAlu) (word : Bool) (rd x y : Nat) :
    cpuExec s k len iw (.alu op word rd x y) false = cpuRetire s k (((s.cpu k).pc.toNat + len) % 2 ^ 64)
      fun c => c.setX rd (aluResult 64 op word ((s.cpu k).getX x) ((s.cpu k).getX y)) := rfl

theorem cpuExec_branch (len iw f3 x y : Nat) (off : Int) :
    cpuExec s k len iw (.branch f3 x y off) false = cpuRetire s k
      (if branchTaken 64 f3 ((s.cpu k).getX x) ((s.cpu k).getX y) then unsigned 64 ((s.cpu k).pc.toNat + off)
        else ((s.cpu k).pc.toNat + len) % 2 ^ 64) id := rfl

theorem cpuExec_ecall_of_machine (len iw : Nat) (hlive : s.clk.held = false) (hm : (s.cpu k).priv = 3) :
    cpuExec s k len iw .ecall false = s.setCpu k ((s.cpu k).trapM (CpuTrap.plain 11 0) false) := by
  have hcause : ecallCause (s.cpu k) = 11 := by simp [ecallCause, hm]
  show cpuTrap s k (CpuTrap.plain (ecallCause (s.cpu k)) 0) = _
  rw [hcause, cpuTrap_of_live _ hlive, except_of_machine _ hm]

theorem cpuExec_mret_of_lower (len iw : Nat) (hlive : s.clk.held = false) (hm : (s.cpu k).priv ≠ 3) :
    cpuExec s k len iw .mret false = s.setCpu k ((s.cpu k).except (CpuTrap.plain trapIllegal iw)) := by
  rw [← cpuTrap_of_live _ hlive]
  exact if_neg hm

end

/-- CORE_INSTRUCTION with no line written back before it and no error is one step of the core. -/
theorem exec_coreInstruction_plain {s : State} (hlive : s.clk.held = false) (k : Nat) :
    exec (.coreInstruction k 0 []) s = .next (cpuStep s k 0) := by
  simp only [exec_coreInstruction, execCoreInstruction, live_of_not_held hlive]
  rfl

end Sys2Proof.Machine
end

section
/-! PROOFS. What the fabric and the cores do. -/

namespace Sys2Proof.Machine

/-- Settles O53: each command is the lemma about its own operation, taken at a device out of reset. -/
theorem fabricAndCores : Obligations.FabricAndCores := by
  intro s hlive
  refine ⟨?access, ?period, ?periodOne, ?curHost, ?curGuest, ?route, ?iommu, ?instruction, ?irq, ?idle, ?second, ?first⟩
  case access =>
    intro init src kind addr data ue r hr hdata hregs
    have hexec : exec (.fabricAccess init src kind addr data ue) s = .next (fabricAccess s r) := by
      rw [hr, exec_fabricAccess, execFabricAccess, live_of_not_held hlive]
    have hne : r.data ≠ [] := by simpa [hr] using hdata
    have hlen : r.data.length = data.length := by simp [hr]
    obtain ⟨hinit, hkindr, huer⟩ : r.init = init ∧ r.kind = kind ∧ r.ue = ue := by simp [hr]
    rw [hexec, ← hinit, ← hkindr, ← huer, ← hlen]
    refine ⟨?_, ?_, ?_⟩
    · intro hslot
      rw [fabricAccess_of_no_slot hne hregs hslot]
    · intro hslot hheld hok
      rw [fabricAccess_of_permits hne hregs hslot hheld hok]
      refine ⟨?_, ?_, ?_⟩
      · intro hmem hcap
        rw [fabricAdmitted_of_cap_used hmem hcap]
      · intro l t hkind hcap hue hread
        rw [fabricAdmitted_of_cap_left hcap, fabricDo_read hkind hue, hread, fabricEnd]
      · intro ok t hkind hcap hwrite
        rw [fabricAdmitted_of_cap_left hcap, fabricDo_write hkind hwrite, fabricEnd_write]
    · rintro t hslot hheld hno rfl
      rw [fabricAccess_of_not_permits hne hregs hslot hheld hno]
      rfl
  case period =>
    intro hw hst
    rw [exec_qosPeriodStart, execQosPeriodStart, live_of_not_held hlive, qosPeriod_of_none_waiting hw hst]
  case periodOne =>
    intro r l t hw hdo hst
    rw [exec_qosPeriodStart, execQosPeriodStart, live_of_not_held hlive, qosPeriod_of_one_waiting hw hdo hst]
  case curHost => exact fun w k v => exec_curWrite_of_host hlive v
  case curGuest => exact fun w k v => exec_curWrite_of_guest hlive v
  case route =>
    intro p v a l hp hcount hlock ha
    rw [exec_irqRouteEnable, execIrqRouteEnable, live_of_not_held hlive]
    refine ⟨fun hoff => ?_, ?_⟩
    · rw [writeRoute_of_disabled hp hcount hlock ha hoff]
    · rintro hon rfl
      rw [writeRoute_of_enabled hp hcount hlock ha hon]
  case iommu =>
    rintro l a w0 w1 hon herr hne hread rfl rfl
    rw [exec_iommuCommand, execIommuCommand, live_of_not_held hlive, iommuCommand_of_command hon herr hne hread]
    refine ⟨fun hop hf => ?_, fun b hop hf hpr hav hw => ?_, fun hop => ?_⟩
    · rw [iommuRun_invalidate _ hop hf, cmdNext]
    · rw [iommuRun_fence_writes hop hf hpr hav hw, cmdNext]
    · rw [iommuRun_illegal _ hop]
  case instruction =>
    rintro k lo hi a b w pc hruns hirq hwfi rfl hlo hlong hhi rfl hb
    rw [exec_coreInstruction_plain hlive, cpuStep_fetches 0 hruns hirq hwfi, cpuFetch_of_two_halves hlo hlong hhi]
    refine ⟨?_, ?_, ?_, ?_, ?_⟩
    · intro rd imm hop hinh
      rw [hop, cpuExec_lui, cpuRetire_of_not_counting _ hb (by rw [csrBit_setX, hinh])]
    · intro op word rd x y hop
      rw [hop, cpuExec_alu]
    · intro f3 x y off hop
      rw [hop, cpuExec_branch]
    · intro hop hm
      rw [hop, cpuExec_ecall_of_machine _ _ hb hm]
    · intro hop hu
      rw [hop, cpuExec_mret_of_lower _ _ hb (by rw [hu]; decide), trapIllegal]
  case irq =>
    intro k c hruns hirq
    rw [exec_coreInstruction_plain hlive, cpuStep_of_irq 0 hruns hirq]
  case idle =>
    intro k hruns
    rw [exec_coreInstruction_plain hlive, cpuStep_of_not_runs 0 hruns]
  case second =>
    intro h hf
    rw [exec_memRetrain, execMemRetrain, live_of_not_held hlive, memRetrain_second_failure h hf]
  case first =>
    intro h
    simp only [exec_memRetrain, execMemRetrain, live_of_not_held hlive, memRetrain_first_failure h, memRetrain_success_again h, and_self]

end Sys2Proof.Machine
end

section
/-! PROOFS. The boot sequence (R29, R509 to R517): the end of INIT, the choice of a slot, its load and verdict, its sections, and the release of the cores. -/

namespace Sys2Proof.Machine

/-! ## INIT -/

section
variable {s : State}

theorem bootInitDone_ignored (h : s.fld F.BOOT_STAT_STATE ≠ 0 ∨ s.clk.lost ≠ []) (d : Option Nat) (x y : List Nat) : bootInitDone s d x y = s := by
  rcases h with h | h <;> simp [bootInitDone, bootState, bsInit, h]

section
variable (hinit : s.fld F.BOOT_STAT_STATE = 0) (hlock : s.clk.lost = []) {a : State} {x y : List Nat}
  (ha : a = memInit (memInit (s.setFld F.CLK_STAT_LOCKED 0xFF) false x) true y)
include hinit hlock ha

theorem bootInitDone_of_no_flash : bootInitDone s none x y = a.setFld F.BOOT_STAT_STATE 6 := by
  simp [bootInitDone, bootState, bsInit, bsFailed, hinit, hlock, ha]

theorem bootInitDone_of_no_memory (d : Nat) (hx : rankSum x = 0) (hy : rankSum y = 0) :
    bootInitDone s (some d) x y = a.setFld F.BOOT_STAT_STATE 6 := by
  simp [bootInitDone, bootState, bsInit, bsFailed, hinit, hlock, hx, hy, ha]

theorem bootInitDone_chooses {b : State} {d : Nat} (hmem : rankSum x ≠ 0 ∨ rankSum y ≠ 0)
    (hb : b = { a with boot := { a.boot with size := d } }) :
    bootInitDone s (some d) x y = bootChoose (stageStores { b with boot := { b.boot with dir := flashDirRead b } }) := by
  have hsome : ¬ (rankSum x = 0 ∧ rankSum y = 0) :=
    fun hnone => hmem.elim (· hnone.1) (· hnone.2)
  subst hb ha
  simp [bootInitDone, bootState, bsInit, hinit, hlock, hsome]

end

/-- A channel that has trained shows its ranks and their sum (R29). -/
theorem memInit_of_trained {ranks : List Nat} (h : rankSum ranks ≠ 0) :
    memInit s false ranks
      = ((s.setFlag F.SYS_MEM_MCA_TRAINED true).setFld F.SYS_MEM_MCA_RANKS ranks.length).setFld F.SYS_MEM_MCA_SIZE (min 16 (rankSum ranks)) := by
  simp [memInit, h]

theorem memInit_of_untrained {ranks : List Nat} (h : rankSum ranks = 0) :
    memInit s true ranks = ((s.setFlag F.SYS_MEM_MCB_FAILED true).setFlt F.SYS_FLT_MEM_FAIL).event 0 0x0004 0 1 1 := by
  simp [memInit, h, ofBit]

/-! ## The choice of a slot -/

theorem bootChoose_of_force_recovery (hvalid : s.aonFlag F.AON_STAT_VALID = true) (hforce : s.aonFlag F.AON_BOOT_FORCE_RECOV = true) :
    bootChoose s = enterRecovery (s.setSh F.AON_BOOT_FORCE_RECOV 0) := by
  simp [bootChoose, hvalid, hforce]

/-- The slot tried first is the preferred one, or the other in a trial. -/
theorem bootChoose_tries_both (hvalid : s.aonFlag F.AON_STAT_VALID = true) (hforce : s.aonFlag F.AON_BOOT_FORCE_RECOV = false)
    (htried : s.aonFlag F.AON_BOOT_TRIED = false) {f : Nat} {b : State}
    (hf : f = if s.aonFlag F.AON_BOOT_TRIAL then 1 - s.aonFld F.AON_BOOT_PREF else s.aonFld F.AON_BOOT_PREF) (hb : b = s.setSh F.AON_BOOT_TRIAL 0) :
    bootChoose s = bootNext { b with boot := { b.boot with first := f, wasTrial := s.aonFlag F.AON_BOOT_TRIAL } } [f, 1 - f] := by
  subst hf hb
  simp [bootChoose, hvalid, hforce, htried]

theorem bootNext_of_bad {k : Nat} (l : List Nat) (h : bitOf (s.aonFld F.AON_BOOT_BAD) k = true) :
    bootNext s (k :: l) = bootNext (setCause s k 8) l := by
  simp [bootNext, slotIsBad, h]

theorem bootNext_of_good {k : Nat} (l : List Nat) (h : bitOf (s.aonFld F.AON_BOOT_BAD) k = false) :
    bootNext s (k :: l)
      = { s.setFld F.BOOT_STAT_STATE 1 with boot := { (s.setFld F.BOOT_STAT_STATE 1).boot with slot := k, left := l } } := by
  simp [bootNext, slotIsBad, h, bsLoad]

/-! ## LOAD and VERIFY -/

theorem bootSlotLoaded_ignored (h : s.fld F.BOOT_STAT_STATE ≠ 1) (readErr : Bool) : bootSlotLoaded s readErr = s := by
  simp [bootSlotLoaded, bootState, bsLoad, h]

section
variable (hload : s.fld F.BOOT_STAT_STATE = 1)
include hload

theorem bootSlotLoaded_of_read_error : bootSlotLoaded s true = bootReject s 2 true := by
  simp [bootSlotLoaded, bootState, bsLoad, hload]

section
variable {head : List Nat} (hhead : head = flashBytes s (slotBase s s.boot.slot) 4096)
include hhead

theorem bootSlotLoaded_of_bad_header (hbad : headerBad head (flashSpan s s.boot.slot) = true) : bootSlotLoaded s false = bootReject s 3 true := by
  simp only [bootSlotLoaded, bootState, bsLoad, hload, ← hhead, hbad, ne_eq, not_true_eq_false, if_false, if_true, Bool.false_eq_true]

section
variable (hgood : headerBad head (flashSpan s s.boot.slot) = false) {b : List Nat}
  (hb : b = flashBytes s (slotBase s s.boot.slot) (leAt head 2))
include hgood hb

theorem bootSlotLoaded_of_bad_sections (hsecs : sectionsBad s b = true) : bootSlotLoaded s false = bootReject s 4 true := by
  simp only [bootSlotLoaded, bootState, bsLoad, hload, ← hhead, hgood, ← hb, hsecs, ne_eq, not_true_eq_false, if_false, if_true, Bool.false_eq_true]

section
variable (hsecs : sectionsBad s b = false) {e a : State} (hstage : engineWrite initBoot (b.length / 64 + 1) s (stageBundle s) b = (true, e))
  (ha : a = bootKeys (e.setFld F.BOOT_STAT_STATE 2))
include hsecs hstage ha

theorem bootSlotLoaded_of_accepted {un : Bool} (hv : bootVerdict a s.boot.slot b = (0, un)) : bootSlotLoaded s false = bootAccept a b un := by
  simp only [bootSlotLoaded, bootState, bsLoad, bsVerify, hload, ← hhead, hgood, ← hb, hsecs, hstage, ← ha, hv, ne_eq, not_true_eq_false, if_false,
    Bool.false_eq_true, Bool.not_true]

theorem bootSlotLoaded_of_rejected {c : Nat} {un : Bool} (hc : c ≠ 0) (hv : bootVerdict a s.boot.slot b = (c, un)) :
    bootSlotLoaded s false = bootReject a c false := by
  cases c with
  | zero => exact absurd rfl hc
  | succ c =>
    simp only [bootSlotLoaded, bootState, bsLoad, bsVerify, hload, ← hhead, hgood, ← hb, hsecs, hstage, ← ha, hv, ne_eq, not_true_eq_false, if_false,
      Bool.false_eq_true, Bool.not_true]

end
end
end
end

/-! ## The verdict -/

theorem bootVerdict_of_no_record {k : Nat} (b : List Nat) (h : sparseFind (recKey 3 k) s.keys.recs = none) :
    bootVerdict s k b = if s.keys.lifecycle = 2 ∨ s.keys.lifecycle = 3 then (5, false) else (0, true) := by
  simp only [bootVerdict, h, Bool.or_eq_true, decide_eq_true_eq]
  rfl

theorem bootVerdict_of_record {k : Nat} (b : List Nat) (h : (sparseFind (recKey 3 k) s.keys.recs).isSome) :
    bootVerdict s k b = (if recAgrees s 3 k b then 0 else 6, false) := by
  obtain ⟨r, hr⟩ := Option.isSome_iff_exists.mp h
  simp only [bootVerdict, hr]
  split <;> rfl

/-! ## APPLY -/

theorem bootApplyDone_ignored (h : s.fld F.BOOT_STAT_STATE ≠ 3) : bootApplyDone s = s := by
  simp [bootApplyDone, bootState, bsApply, h]

section
variable (happly : s.fld F.BOOT_STAT_STATE = 3) {h : List Nat} {e a : State} (hread : engineRead initBoot 64 s (stageBundle s) 4096 = (some h, e))
include happly hread

theorem bootApplyDone_of_applied (hsecs : applySections e (bundleSecs h) = (true, a)) : bootApplyDone s = bootReady a h := by
  simp [bootApplyDone, bootState, bsApply, happly, hread, hsecs]

theorem bootApplyDone_of_failed (hsecs : applySections e (bundleSecs h) = (false, a)) (hlive : a.clk.held = false) :
    bootApplyDone s = assertReset (setBad a a.boot.slot true) causeBootFail := by
  simp [bootApplyDone, bootState, bsApply, happly, hread, hsecs, bootApplyFail, hlive]

end

/-! ## READY -/

/-- A core as READY releases it: in M mode at its DEST, a0 and a1 at SW1 and the device tree (R511, R517). -/
def releasedCore (dest sw1 dt : Nat) : CoreSt :=
  { CoreSt.reset with
    pc := BitVec.ofNat 64 dest, x := (CoreSt.reset.x.set 10 (BitVec.ofNat 64 sw1)).set 11 (BitVec.ofNat 64 dt), run := true }

theorem releasedCore_a0 (dest sw1 dt : Nat) : (releasedCore dest sw1 dt).x[10]? = some (BitVec.ofNat 64 sw1) := rfl

theorem releaseCore_of_cons {k dest sw1 : Nat} {rest : List (Nat × Nat × Nat)} (h : s.boot.release = (k, dest, sw1) :: rest) :
    releaseCore s = (State.takeFree { s with boot := { s.boot with release := rest } }).2.setCpu k
      (releasedCore dest sw1 (Config.freeValue s.freeCtr)) := by
  simp only [releaseCore, h]
  rfl

theorem releaseCore_releases {k dest sw1 : Nat} {rest : List (Nat × Nat × Nat)} (h : s.boot.release = (k, dest, sw1) :: rest) :
    (releaseCore s).boot.release = rest ∧ (releaseCore s).cpu k = releasedCore dest sw1 (Config.freeValue s.freeCtr)
      ∧ ∀ j, j ≠ k → (releaseCore s).cpu j = s.cpu j := by
  rw [releaseCore_of_cons h]
  exact ⟨rfl, cpu_setCpu_same _ _ _, fun j hj => cpu_setCpu_other _ _ hj⟩

end

/-- Settles O58: each phase of the boot is the lemma about its own operation. -/
theorem bootSequence : Obligations.BootSequence := by
  intro s hlive
  refine ⟨?ignored, ?init, fun _ => memInit_of_trained, fun _ => memInit_of_untrained, ?choose, ?next, rfl, ?load, ?notLoad, ?verdict, ?apply, ?notApply, ?ready⟩
  case ignored =>
    intro h d ra ta rb tb
    rw [exec_bootInitDone, execBootInitDone, live_of_not_held hlive, bootInitDone_ignored h]
  case init =>
    rintro hinit hlock ra ta rb tb x y a rfl rfl ha
    simp only [exec_bootInitDone, execBootInitDone, live_of_not_held hlive, trainedRanks]
    refine ⟨?_, fun d hx hy => ?_, fun d b hmem hb => ?_⟩
    · rw [bootInitDone_of_no_flash hinit hlock ha]
    · rw [bootInitDone_of_no_memory hinit hlock ha d hx hy]
    · rw [bootInitDone_chooses hinit hlock ha hmem hb]
  case choose =>
    intro hvalid
    exact ⟨bootChoose_of_force_recovery hvalid, fun hforce htried f b hf hb => bootChoose_tries_both hvalid hforce htried hf hb⟩
  case next =>
    intro k l
    refine ⟨bootNext_of_bad l, ?_⟩
    rintro h b rfl
    exact bootNext_of_good l h
  case load =>
    rintro hload k head b rfl hhead hb
    simp only [exec_bootSlotLoaded, execBootSlotLoaded, live_of_not_held hlive]
    refine ⟨?_, fun hbad => ?_, fun hgood hsecs => ?_, ?_⟩
    · rw [bootSlotLoaded_of_read_error hload]
    · rw [bootSlotLoaded_of_bad_header hload hhead hbad]
    · rw [bootSlotLoaded_of_bad_sections hload hhead hgood hb hsecs]
    · intro e a hgood hsecs hstage ha
      refine ⟨fun un hv => ?_, fun c un hc hv => ?_⟩
      · rw [bootSlotLoaded_of_accepted hload hhead hgood hb hsecs hstage ha hv]
      · rw [bootSlotLoaded_of_rejected hload hhead hgood hb hsecs hstage ha hc hv]
  case notLoad =>
    intro h r
    rw [exec_bootSlotLoaded, execBootSlotLoaded, live_of_not_held hlive, bootSlotLoaded_ignored h]
  case verdict =>
    intro k b
    refine ⟨fun h hl hu => ?_, fun h hl => ?_, fun r h => bootVerdict_of_record b (by rw [h]; rfl)⟩
    · rw [bootVerdict_of_no_record b h, if_pos (by omega)]
    · rw [bootVerdict_of_no_record b h, if_neg (by omega)]
  case apply =>
    intro happly h e hread
    simp only [exec_bootApplyDone, execBootApplyDone, live_of_not_held hlive]
    refine ⟨fun a hsecs => ?_, fun a hsecs ha => ?_⟩
    · rw [bootApplyDone_of_applied happly hread hsecs]
    · rw [bootApplyDone_of_failed happly hread hsecs ha]
  case notApply =>
    intro h
    rw [exec_bootApplyDone, execBootApplyDone, live_of_not_held hlive, bootApplyDone_ignored h]
  case ready =>
    intro k d w rest h
    obtain ⟨hrest, hcore, hothers⟩ := releaseCore_releases h
    rw [hcore]
    exact ⟨hrest, rfl, rfl, rfl, releasedCore_a0 .., hothers⟩

end Sys2Proof.Machine
end

section
/-! PROOFS. The enables, limits and commands of sampled-value streams (R124, R135 to R138, R148, R154). -/

namespace Sys2Proof.Machine

/-! ## Reading a stream -/

theorem stream_of_svi {s t : State} (h : t.svi = s.svi) (n : Nat) : t.stream n = s.stream n := by
  unfold State.stream
  rw [h]

theorem flag_setFlt_apart (s : State) {f g : Fld} (j : Nat) (h : g.apart f = true) (hb : [0, 14].contains (g.blk % 32) = false) :
    (s.setFlt f).flag g j = s.flag g j := by
  unfold State.flag
  rw [fld_setFlt_apart s j h hb]

theorem flag_event_apart (s : State) (blk code part p0 p1 p2 : Nat) {g : Fld} (j : Nat) (h : logBlks.contains (g.blk % 32) = false) :
    (s.event blk code part p0 p1 p2).flag g j = s.flag g j := by
  unfold State.flag
  rw [fld_event_apart s _ _ _ _ _ _ j h]

/-! ## A flag of a stream with its device flag -/

section
variable (s : State) (n : Nat) {f dev : Fld}

@[simp] theorem streamFlt_svi : (streamFlt s n f dev).svi = s.svi := by simp [streamFlt]

@[simp] theorem streamFlt_mem : (streamFlt s n f dev).mem = s.mem := by simp [streamFlt]

theorem fld_streamFlt_apart {g : Fld} (j : Nat) (hf : g.apart f = true) (hdev : g.apart dev = true) (hb : [0, 14].contains (g.blk % 32) = false) :
    (streamFlt s n f dev).fld g j = s.fld g j := by
  rw [streamFlt, fld_setFlt_apart _ _ hdev hb, fld_setFlag_apart _ _ _ _ hf]

theorem flag_streamFlt_apart {g : Fld} (j : Nat) (hf : g.apart f = true) (hdev : g.apart dev = true) (hb : [0, 14].contains (g.blk % 32) = false) :
    (streamFlt s n f dev).flag g j = s.flag g j := by
  unfold State.flag
  rw [fld_streamFlt_apart s n j hf hdev hb]

theorem flag_streamFlt_stream (hw : f.width = 1) (hdev : f.apart dev = true) (hb : [0, 14].contains (f.blk % 32) = false) :
    (streamFlt s n f dev).flag f n = true := by
  rw [streamFlt, flag_setFlt_apart _ _ hdev hb, flag_setFlag_same _ _ _ _ hw]

theorem flag_streamFlt_dev (hw : dev.width = 1) (hb : [0, 14].contains (dev.blk % 32) = false) : (streamFlt s n f dev).flag dev = true :=
  flag_setFlt_same _ hw (by rw [keyBlk_key]; simpa using hb)

end

/-! ## Enables -/

section
variable {s : State} {n : Nat} (hn : n < 512)
include hn

theorem streamEnable_of_locked (hoff : streamEn s n = false) (hlock : s.flag F.SVI_CTRL_LOCK = true) :
    streamEnable s n = s.lockViolation 0 0x40040200 0x80000000 := by
  simp [streamEnable, sviStreams, Nat.not_le.mpr hn, hoff, hlock, State.rowLocked]

theorem streamEnable_of_refused (hoff : streamEn s n = false) (hlock : s.flag F.SVI_CTRL_LOCK = false) (hbad : streamRefused s n = true) :
    streamEnable s n = streamFlt s n F.SVI_S_FLT_CFG_REFUSED F.SVI_FLT_CFG_ERR := by
  simp [streamEnable, sviStreams, Nat.not_le.mpr hn, hoff, hlock, hbad]

theorem streamEnable_of_accepted (hoff : streamEn s n = false) (hlock : s.flag F.SVI_CTRL_LOCK = false) (hok : streamRefused s n = false) :
    streamEnable s n = enLater (s.setFlag F.SVI_S_CTL_EN true n) n true := by
  simp [streamEnable, sviStreams, Nat.not_le.mpr hn, hoff, hlock, hok]

theorem streamDisable_of_locked (hon : streamEn s n = true) (hlock : s.flag F.SVI_CTRL_LOCK = true) :
    streamDisable s n = s.lockViolation 0 0x40040200 0 := by
  simp [streamDisable, sviStreams, Nat.not_le.mpr hn, hon, hlock, State.rowLocked]

theorem streamDisable_of_open (hon : streamEn s n = true) (hlock : s.flag F.SVI_CTRL_LOCK = false) :
    streamDisable s n = enLater (s.setFlag F.SVI_S_CTL_EN false n) n false := by
  simp [streamDisable, sviStreams, Nat.not_le.mpr hn, hon, hlock]

end

/-- A refusal is seen in the flags alone. -/
theorem streamFlt_refused (s : State) (n : Nat) :
    (streamFlt s n F.SVI_S_FLT_CFG_REFUSED F.SVI_FLT_CFG_ERR).flag F.SVI_S_FLT_CFG_REFUSED n = true
      ∧ (streamFlt s n F.SVI_S_FLT_CFG_REFUSED F.SVI_FLT_CFG_ERR).flag F.SVI_FLT_CFG_ERR = true
      ∧ streamEn (streamFlt s n F.SVI_S_FLT_CFG_REFUSED F.SVI_FLT_CFG_ERR) n = streamEn s n :=
  ⟨flag_streamFlt_stream s n rfl (by decide) (by decide), flag_streamFlt_dev s n rfl (by decide),
    flag_streamFlt_apart s n n (by decide) (by decide) (by decide)⟩

/-- A written EN reads back at once and waits for the stream's next grid instant; the stream's state stands (R148). -/
theorem enLater_setEn (s : State) (n : Nat) (b : Bool) :
    streamEn (enLater (s.setFlag F.SVI_S_CTL_EN b n) n b) n = b
      ∧ (enLater (s.setFlag F.SVI_S_CTL_EN b n) n b).svi.enWait
          = s.svi.enWait ++ [(n, gridInst (streamRate s n) (gridAt (streamRate s n) s.devT + 1), b)]
      ∧ (enLater (s.setFlag F.SVI_S_CTL_EN b n) n b).svi.streams = s.svi.streams
      ∧ streamState (enLater (s.setFlag F.SVI_S_CTL_EN b n) n b) n = streamState s n
      ∧ (enLater (s.setFlag F.SVI_S_CTL_EN b n) n b).mem = s.mem := by
  have hrate : streamRate (s.setFlag F.SVI_S_CTL_EN b n) n = streamRate s n := by
    unfold streamRate
    rw [flag_setFlag_apart _ _ _ _ (by decide)]
  refine ⟨flag_setFlag_same s _ b n rfl, ?_, rfl, fld_setFlag_apart s b n n (by decide), rfl⟩
  simp only [enLater, hrate]
  rfl

/-! ## The end of STEP_WAIT -/

theorem stepGuardExpiry_of_due {s : State} {n e : Nat} (hend : (s.stream n).stepEnd = some e) (hdue : e ≤ s.time.sys) :
    stepGuardExpiry s n = (streamFlt (endStepWait s n) n F.SVI_S_FLT_STEP_TIMEOUT F.SVI_FLT_STEP_TIMEOUT).event 4 0x0402 0 n := by
  simp [stepGuardExpiry, hend, Nat.not_lt.mpr hdue]

theorem stream_endStepWait (s : State) (n : Nat) : (endStepWait s n).stream n = { s.stream n with stepEnd := none, stepAmt := 0 } :=
  stream_setStream_same s n _

theorem flag_endStepWait (s : State) (n : Nat) : (endStepWait s n).flag F.SVI_S_STAT_STEP_WAIT n = false :=
  flag_setFlag_same _ _ false n rfl

theorem streamState_endStepWait (s : State) (n : Nat) : streamState (endStepWait s n) n = streamState s n :=
  fld_setFlag_apart _ _ n n (by decide)

/-- STEP_GUARD runs out: STEP_WAIT is over and the time-out is flagged; the samples held and the stream's state stand (R137). -/
theorem stepGuardExpiry_ends_wait {s : State} {n e : Nat} (hend : (s.stream n).stepEnd = some e) (hdue : e ≤ s.time.sys) :
    ((stepGuardExpiry s n).stream n).stepEnd = none ∧ (stepGuardExpiry s n).flag F.SVI_S_STAT_STEP_WAIT n = false
      ∧ (stepGuardExpiry s n).flag F.SVI_S_FLT_STEP_TIMEOUT n = true ∧ (stepGuardExpiry s n).flag F.SVI_FLT_STEP_TIMEOUT = true
      ∧ ((stepGuardExpiry s n).stream n).held = (s.stream n).held ∧ streamState (stepGuardExpiry s n) n = streamState s n
      ∧ (stepGuardExpiry s n).mem = s.mem := by
  have hstream : (stepGuardExpiry s n).stream n = { s.stream n with stepEnd := none, stepAmt := 0 } := by
    rw [stepGuardExpiry_of_due hend hdue, ← stream_endStepWait]
    exact stream_of_svi (by simp) n
  rw [hstream, stepGuardExpiry_of_due hend hdue]
  refine ⟨rfl, ?wait, ?streamFlag, ?deviceFlag, rfl, ?state, ?mem⟩
  case wait =>
    rw [flag_event_apart _ _ _ _ _ _ _ _ (by decide), flag_streamFlt_apart _ _ _ (by decide) (by decide) (by decide), flag_endStepWait]
  case streamFlag =>
    rw [flag_event_apart _ _ _ _ _ _ _ _ (by decide), flag_streamFlt_stream _ _ rfl (by decide) (by decide)]
  case deviceFlag =>
    rw [flag_event_apart _ _ _ _ _ _ _ _ (by decide), flag_streamFlt_dev _ _ rfl (by decide)]
  case state =>
    rw [streamState, fld_event_apart _ _ _ _ _ _ _ _ (by decide), fld_streamFlt_apart _ _ _ (by decide) (by decide) (by decide)]
    exact streamState_endStepWait s n
  case mem =>
    rw [State.event_mem, streamFlt_mem]
    rfl

/-! ## Commands on the selected stream -/

theorem selStream_of_sel {s : State} {n : Nat} (hkind : s.fld F.SVI_SEL_KIND = 0) (hindex : s.fld F.SVI_SEL_INDEX = n) : selStream s = some n := by
  simp [selStream, hkind, hindex]

theorem clrTmax_of_sel {s : State} {n : Nat} (h : selStream s = some n) :
    clrTmax s = (s.setStream n { s.stream n with tmaxSet := false }).setFld F.SVI_S_TMAX_VAL 0 n := by
  simp only [clrTmax, h]

theorem estRestart_of_sel {s : State} {n : Nat} (h : selStream s = some n) :
    estRestart s = if streamState s n = ssEstimated then s.setStream n { s.stream n with fresh := true } else s := by
  simp only [estRestart, h]

/-! ## The alignment depth -/

section
variable {s : State} {g v : Nat} (tag : Nat) (hg : g < 8) (hv : v < 2 ^ 22)
include hg hv

theorem adepthWrite_of_busy
    (hbusy : grpEn s g = true ∨ s.flag F.SVI_CTRL_LOCK = true ∨ ∃ m, m < 512 ∧ streamEn s m = true ∧ streamGroup s m = g) (hne : v ≠ adepth s g) :
    adepthWrite s tag g v = s.lockViolation tag (0x40040020 + 4 * g) v := by
  have hany : (grpEn s g || s.flag F.SVI_CTRL_LOCK || (List.range sviStreams).any fun n => streamEn s n && decide (streamGroup s n = g)) = true := by
    simpa [sviStreams, or_assoc] using hbusy
  simp only [adepthWrite, Nat.not_le.mpr hg, Nat.mod_eq_of_lt hv, hany, hne, if_false, if_true]

theorem adepthWrite_of_idle (hgrp : grpEn s g = false) (hlock : s.flag F.SVI_CTRL_LOCK = false)
    (hidle : ∀ m, m < 512 → ¬ (streamEn s m = true ∧ streamGroup s m = g)) :
    adepthWrite s tag g v = if v < 100000 ∨ 4000000 < v then s.setFlt F.SVI_FLT_CFG_ERR else s.setFld (F.SVI_ADEPTH_D.el g) v := by
  have hnone : ((List.range sviStreams).any fun n => streamEn s n && decide (streamGroup s n = g)) = false := by
    simpa [sviStreams] using hidle
  simp only [adepthWrite, Nat.not_le.mpr hg, Nat.mod_eq_of_lt hv, hgrp, hlock, hnone, Bool.or_self, Bool.false_eq_true, if_false, Bool.or_eq_true,
    decide_eq_true_eq]

end

/-- Settles O29: each command is the lemma about its own operation, taken at a device out of reset. -/
theorem streamEnablesAndLimits : Obligations.StreamEnablesAndLimits := by
  intro s n hlive hn
  simp only [exec_streamEnable, execStreamEnable, exec_streamDisable, execStreamDisable, exec_stepGuardExpiry, execStepGuardExpiry, exec_clrTmax,
    execClrTmax, exec_estRestart, execEstRestart, exec_adepthWrite, execAdepthWrite, live_of_not_held hlive]
  refine ⟨?locked, ?refused, ?accepted, ?disabled, ?stepEnd, ?clrTmax, ?estRestart, ?adepth⟩
  case locked =>
    intro hlock
    exact ⟨fun hoff => by rw [streamEnable_of_locked hn hoff hlock], fun hon => by rw [streamDisable_of_locked hn hon hlock]⟩
  case refused =>
    intro hlock hoff hbad
    obtain ⟨hrefused, herr, hen⟩ := streamFlt_refused s n
    rw [streamEnable_of_refused hn hoff hlock hbad]
    exact ⟨_, rfl, hrefused, herr, hen.trans hoff, streamFlt_svi s n, streamFlt_mem s n⟩
  case accepted =>
    intro hlock hoff hok
    rw [streamEnable_of_accepted hn hoff hlock hok]
    exact ⟨_, rfl, enLater_setEn s n true⟩
  case disabled =>
    intro hlock hon
    rw [streamDisable_of_open hn hon hlock]
    exact ⟨_, rfl, enLater_setEn s n false⟩
  case stepEnd => exact fun e hend hdue => ⟨_, rfl, stepGuardExpiry_ends_wait hend hdue⟩
  case clrTmax =>
    intro hkind hindex
    rw [clrTmax_of_sel (selStream_of_sel hkind hindex)]
    refine ⟨_, rfl, fld_setFld_same .., ?_, rfl⟩
    rw [stream_of_svi (State.setFld_svi _ _ _ _) n, stream_setStream_same]
  case estRestart =>
    intro hkind hindex
    rw [estRestart_of_sel (selStream_of_sel hkind hindex)]
  case adepth =>
    intro g v hg hv
    exact ⟨fun hbusy hne => by rw [adepthWrite_of_busy 0 hg hv hbusy hne],
      fun hgrp hlock hidle => by rw [adepthWrite_of_idle 0 hg hv hgrp hlock hidle]⟩

end Sys2Proof.Machine
end

section
/-! PROOFS. The frames of sampled-value streams and the fingerprints of windows (R117, R121, R122, R153). -/

namespace Sys2Proof.Machine

/-! ## A frame taken from the SVI port -/

/-- The state in which the frame at the head of the SVI port, before `rest`, has been taken and counted. -/
def frameTaken (s : State) (rest : List RxFrame) : State := ({ s with svi := { s.svi with inbox := rest } }).count C.SVI_FRAMES_IN

section
variable (s : State) (rest : List RxFrame)

theorem frameTaken_svi : (frameTaken s rest).svi = { s.svi with inbox := rest } := State.count_svi _ _ _

theorem frameTaken_mem : (frameTaken s rest).mem = s.mem := State.count_mem _ _ _

theorem ctr_frameTaken : (frameTaken s rest).ctr C.SVI_FRAMES_IN = min ctrMax (s.ctr C.SVI_FRAMES_IN + 1) := ctr_count_same _ _ _

theorem ctr_frameTaken_other {c : Ctr} (h : c.key 0 ≠ C.SVI_FRAMES_IN.key 0) : (frameTaken s rest).ctr c = s.ctr c := ctr_count_other _ h

theorem fld_frameTaken {g : Fld} (j : Nat) (h : C.SVI_FRAMES_IN.apart g = true) : (frameTaken s rest).fld g j = s.fld g j :=
  fld_count_apart _ _ _ h

theorem flag_frameTaken {g : Fld} (j : Nat) (h : C.SVI_FRAMES_IN.apart g = true) : (frameTaken s rest).flag g j = s.flag g j := by
  unfold State.flag
  rw [fld_frameTaken s rest j h]

/-- The overflow flag of FRAMES_IN lies outside the stream windows. -/
theorem fld_frameTaken_window {g : Fld} (j : Nat) (h : g.kind = 1) : (frameTaken s rest).fld g j = s.fld g j :=
  fld_frameTaken s rest j (by simp [Ctr.apart, Fld.apart, C.SVI_FRAMES_IN, F.SVI_CNTOVF_DEV_OVF, h])

end

/-- Whether a frame matches an entry depends on the entry's own registers alone (R121). -/
theorem frameMatches_congr {s t : State} (h : ∀ (g : Fld) (j : Nat), g.kind = 1 → t.fld g j = s.fld g j) (f : Frame) (p : SvPdu) (n : Nat) :
    frameMatches t f p n = frameMatches s f p n := by
  have hflag (g : Fld) (j : Nat) (hg : g.kind = 1) : t.flag g j = s.flag g j := by
    unfold State.flag
    rw [h g j hg]
  have hvid : sviVid t n = sviVid s n := by
    unfold sviVid
    rw [h _ _ rfl]
    exact List.map_congr_left fun i _ => by rw [h _ _ rfl]
  unfold frameMatches streamState streamDa
  rw [hvid, h F.SVI_S_STAT_STATE n rfl, h F.SVI_S_DA_HI_DA n rfl, h F.SVI_S_DA_LO_DA n rfl, h F.SVI_S_ID_APPID n rfl, h F.SVI_S_ID_VID n rfl,
    hflag F.SVI_S_CTL_VID_EN n rfl]

theorem frameMatches_frameTaken (s : State) (rest : List RxFrame) (f : Frame) (p : SvPdu) :
    frameMatches (frameTaken s rest) f p = frameMatches s f p :=
  funext fun n => frameMatches_congr (fun _ j hg => fld_frameTaken_window s rest j hg) f p n

/-! ## How the frame is judged -/

theorem sviSettle_of_none_waiting {s : State} (h : s.svi.enWait = []) : sviSettle s = s := by
  simp [sviSettle, h]

section
variable {s : State} {r : RxFrame} {rest : List RxFrame} (hwait : s.svi.enWait = []) (hhead : s.svi.inbox = r :: rest)
include hwait

/-- With no EN write waiting, the frame is judged at the state that has counted it. -/
theorem sviSettle_frameTaken :
    sviSettle (({ s with svi := { s.svi with inbox := rest } }).count C.SVI_FRAMES_IN) = frameTaken s rest :=
  sviSettle_of_none_waiting (by rw [State.count_svi]; exact hwait)

include hhead

theorem svFrameRx_of_off (hoff : s.flag F.SVI_CTRL_EN = false) : svFrameRx s = (frameTaken s rest).count C.SVI_DISABLED_DROP := by
  have hen : (frameTaken s rest).flag F.SVI_CTRL_EN = false := by rw [flag_frameTaken s rest 0 (by decide), hoff]
  simp only [svFrameRx, hhead, svFrame, sviSettle_frameTaken hwait, hen, Bool.not_false, if_true]

section
variable {p : SvPdu} (hon : s.flag F.SVI_CTRL_EN = true) (hsv : r.frame.payload = .sv p)
include hon hsv

theorem svFrameRx_of_unmatched (hnone : r.frame.etype ≠ 0x88BA ∨ ∀ n, n < 512 → frameMatches s r.frame p n = false) :
    svFrameRx s = ((frameTaken s rest).count C.SVI_UNMATCHED).setFlt F.SVI_FLT_UNMATCHED := by
  have hen : (frameTaken s rest).flag F.SVI_CTRL_EN = true := by rw [flag_frameTaken s rest 0 (by decide), hon]
  have hfind : (if r.frame.etype = 0x88BA then (List.range sviStreams).find? (frameMatches s r.frame p) else none) = none := by
    rcases hnone with htype | hno
    · rw [if_neg htype]
    · have : (List.range sviStreams).find? (frameMatches s r.frame p) = none := by simpa [sviStreams] using hno
      rw [this, ite_self]
  simp only [svFrameRx, hhead, svFrame, sviSettle_frameTaken hwait, hen, hsv, frameMatches_frameTaken, hfind, Bool.not_true, Bool.false_eq_true, if_false]

theorem svFrameRx_of_match {n : Nat} (htype : r.frame.etype = 0x88BA) (hfind : (List.range 512).find? (frameMatches s r.frame p) = some n) :
    svFrameRx s = streamFrame (frameTaken s rest) n r p := by
  have hen : (frameTaken s rest).flag F.SVI_CTRL_EN = true := by rw [flag_frameTaken s rest 0 (by decide), hon]
  simp only [svFrameRx, hhead, svFrame, sviSettle_frameTaken hwait, hen, hsv, frameMatches_frameTaken, htype, sviStreams, hfind, Bool.not_true,
    Bool.false_eq_true, if_false, if_true]

end
end

/-! ## A frame of a matched stream -/

/-- A frame that counts, parses, has its entry's confRev and simulation, and needs no authentication has its samples placed. -/
theorem streamFrame_of_unauthenticated {s b : State} {n : Nat} {r : RxFrame} {p : SvPdu} (hb : b = s.count C.SVI_S_FRAMES n) (hgood : frameBad b p n = false)
    (hrev : ∀ x ∈ p.asdus, x.confRev = b.fld F.SVI_S_CONFREV_CONFREV n) (hsim : p.sim = b.flag F.SVI_S_CTL_SIM n) (hauth : b.fld F.SVI_S_CTL_AUTH n = 0) :
    streamFrame s n r p =
      placeFrame (frameSamples b n r.stamp.t (b.fld F.SVI_S_CTL_NVAL n) true p.asdus).2 n r.stamp.t ((r.wire + 20) * 8) r.kbps
        (p.asdus.all fun x => decide (x.smpSynch = 2)) ((p.asdus.getLast?.map SvAsdu.smpSynch).getD 0)
        (frameSamples b n r.stamp.t (b.fld F.SVI_S_CTL_NVAL n) true p.asdus).1 := by
  have hany : (p.asdus.any fun x => decide (x.confRev ≠ b.fld F.SVI_S_CONFREV_CONFREV n)) = false := by simpa using hrev
  simp only [streamFrame, ← hb, hgood, hany, hsim, hauth, bne_self_eq_false, decide_true, Bool.true_or, Bool.or_true, Bool.not_true, Bool.false_and,
    Bool.false_eq_true, if_false, if_true]

/-- Counting a stream's frame leaves every field but the overflow flags of its two counters. -/
theorem fld_count_frameTaken (s : State) (rest : List RxFrame) (n : Nat) {g : Fld} (j : Nat) (hin : C.SVI_FRAMES_IN.apart g = true)
    (hstream : C.SVI_S_FRAMES.apart g = true) : ((frameTaken s rest).count C.SVI_S_FRAMES n).fld g j = s.fld g j := by
  rw [fld_count_apart _ _ _ hstream, fld_frameTaken s rest j hin]

/-- Whether a frame has a format error depends on the entry's RATE, NASDU and NVAL alone (R119). -/
theorem frameBad_congr {s t : State} {n : Nat} (hrate : t.fld F.SVI_S_CTL_RATE n = s.fld F.SVI_S_CTL_RATE n)
    (hnasdu : t.fld F.SVI_S_CTL_NASDU n = s.fld F.SVI_S_CTL_NASDU n) (hnval : t.fld F.SVI_S_CTL_NVAL n = s.fld F.SVI_S_CTL_NVAL n) (p : SvPdu) :
    frameBad t p n = frameBad s p n := by
  unfold frameBad streamRate State.flag
  rw [hrate, hnasdu, hnval]

/-! ## Fingerprints -/

/-- A fingerprint of partition `p` in its registers SVI_P_FP0 to SVI_P_FP3. -/
def showFp (s : State) (p : Nat) (fp : List Nat) : State :=
  (List.range 4).foldl (fun s i => s.setFld (F.SVI_P_FP_FP.el i) (fp.getD i 0) p) s

/-- A fingerprint kept as the newest of its partition and counted. -/
def keepFp (s : State) (p : Nat) (fp : List Nat) : State :=
  ({ s with svi := { s.svi with fps := sparsePut p ((fp :: s.fps p).take 64) s.svi.fps } }).count C.SVI_FINGERPRINTS

theorem key_fp_ne {i j : Nat} (h : j ≠ i) (p : Nat) : (F.SVI_P_FP_FP.el j).key p ≠ (F.SVI_P_FP_FP.el i).key p := by
  simp only [Fld.key, Fld.el, blkKey, F.SVI_P_FP_FP]
  omega

/-- Of the words written one after another each reads back, however many follow it. -/
theorem fld_foldl_setFp (s : State) (p : Nat) (v : Nat → Nat) {i k : Nat} (hi : i < k) :
    ((List.range k).foldl (fun s i => s.setFld (F.SVI_P_FP_FP.el i) (v i) p) s).fld (F.SVI_P_FP_FP.el i) p = v i % 2 ^ 32 := by
  induction k with
  | zero => omega
  | succ k ih =>
    rw [List.range_succ, List.foldl_append, List.foldl_cons, List.foldl_nil]
    by_cases hik : i = k
    · rw [hik, fld_setFld_same]
      rfl
    · rw [fld_setFld_other _ _ _ _ (key_fp_ne hik p), ih (by omega)]

theorem fld_showFp (s : State) (p : Nat) (fp : List Nat) {i : Nat} (hi : i < 4) :
    (showFp s p fp).fld (F.SVI_P_FP_FP.el i) p = fp.getD i 0 % 2 ^ 32 := fld_foldl_setFp s p (fp.getD · 0) hi

theorem fps_keepFp (s : State) (p : Nat) (fp : List Nat) : (keepFp s p fp).fps p = (fp :: s.fps p).take 64 := by
  rw [State.fps, keepFp, State.count_svi]
  exact sparseGet_put_self _ _ _ _

theorem fld_keepFp (s : State) (p : Nat) (fp : List Nat) (i : Nat) :
    (keepFp s p fp).fld (F.SVI_P_FP_FP.el i) p = s.fld (F.SVI_P_FP_FP.el i) p :=
  fld_count_apart _ _ _ (by simp [Ctr.apart, Fld.apart, Fld.el, C.SVI_FINGERPRINTS, F.SVI_CNTOVF_DEV_OVF, F.SVI_P_FP_FP])

theorem ctr_keepFp (s : State) (p : Nat) (fp : List Nat) :
    (keepFp s p fp).ctr C.SVI_FINGERPRINTS = min ctrMax (s.ctr C.SVI_FINGERPRINTS + 1) := ctr_count_same _ _ _

theorem mem_keepFp (s : State) (p : Nat) (fp : List Nat) : (keepFp s p fp).mem = s.mem := State.count_mem _ _ _

/-- A fingerprint shown and kept stands in its registers and at the head of its partition's list, and is counted (R153). -/
theorem keepFp_showFp (s : State) (p : Nat) (fp : List Nat) :
    (keepFp (showFp s p fp) p fp).fps p = (fp :: s.fps p).take 64
      ∧ (∀ i, i < 4 → (keepFp (showFp s p fp) p fp).fld (F.SVI_P_FP_FP.el i) p = fp.getD i 0 % 2 ^ 32)
      ∧ (keepFp (showFp s p fp) p fp).ctr C.SVI_FINGERPRINTS = min ctrMax (s.ctr C.SVI_FINGERPRINTS + 1)
      ∧ (keepFp (showFp s p fp) p fp).mem = s.mem := by
  refine ⟨fps_keepFp _ p fp, fun i hi => ?_, ctr_keepFp _ p fp, mem_keepFp _ p fp⟩
  rw [fld_keepFp, fld_showFp s p fp hi]

section
variable {s : State} {p tb j g : Nat} {w : TideWin} (hslot : slotOf s p = some (tb, j)) (hgrp : s.fld F.TIDE_P_CFG_GROUP tb = g) (hon : grpEn s g = true)
  (hnext : fpNext s p (s.grp g).wins (fun n => slotRuns s tb j n) = some w)
include hslot hgrp hon hnext

theorem fingerprintComplete_of_early (hearly : s.devT < w.b + (adepth s g + 3000) * 65536) : fingerprintComplete s p = s := by
  simp only [fingerprintComplete, hslot, hgrp, hon, hnext, hearly, Bool.not_true, Bool.false_eq_true, if_false, if_true]

theorem fingerprintComplete_of_due (hdue : w.b + (adepth s g + 3000) * 65536 ≤ s.devT) :
    fingerprintComplete s p =
      keepFp (showFp s p (fingerprint s p g w.n (fpFrom s tb j g w) w.b)) p (fingerprint s p g w.n (fpFrom s tb j g w) w.b) := by
  simp only [fingerprintComplete, hslot, hgrp, hon, hnext, Nat.not_lt.mpr hdue, Bool.not_true, Bool.false_eq_true, if_false, keepFp, showFp]

end

/-! ## Rally's part of a fingerprint -/

/-- A frame for Rally is put among those to send and nothing else changes. -/
theorem sendRally_twin (s : State) (typ : Nat) (words : List Nat) : ∃ x, sendRally s typ words = { s with twin := x } := by
  unfold sendRally
  split
  · exact ⟨_, rfl⟩
  · exact ⟨s.twin, rfl⟩

theorem rallyPrints_twin (s : State) (g w : Nat) : ∃ x, rallyPrints s g w = { s with twin := x } := by
  simp only [rallyPrints]
  split
  · exact sendRally_twin s _ _
  · exact ⟨s.twin, rfl⟩

/-- Handing a fingerprint over changes nothing outside Rally. -/
theorem fingerprintHand_twin (s : State) (p : Nat) : ∃ x, fingerprintHand s p = { fingerprintComplete s p with twin := x } := by
  simp only [fingerprintHand]
  split
  · split
    · exact ⟨(fingerprintComplete s p).twin, rfl⟩
    · exact rallyPrints_twin _ _ _
  · exact ⟨(fingerprintComplete s p).twin, rfl⟩

/-- Without a new fingerprint nothing is handed over. -/
theorem fingerprintHand_of_unchanged {s : State} {p : Nat} (h : fingerprintComplete s p = s) : fingerprintHand s p = s := by
  simp only [fingerprintHand, h]
  split
  · rename_i hhead _
    rw [if_pos hhead]
  · rfl

/-- Settles O30: a frame goes the way of its own lemma, and so does a fingerprint. -/
theorem sampledValueFrames : Obligations.SampledValueFrames := by
  intro s hlive hwait
  simp only [exec_svFrameRx, execSvFrameRx, exec_fingerprintComplete, execFingerprintComplete, live_of_not_held hlive]
  refine ⟨?off, ?unmatched, ?placed, ?fingerprint⟩
  case off =>
    intro r rest hhead hoff
    rw [svFrameRx_of_off hwait hhead hoff]
    refine ⟨_, rfl, ?_, ?_, ?_, ?_, ?_⟩
    · rw [State.count_svi, frameTaken_svi]
    · rw [State.count_svi, frameTaken_svi]
    · rw [ctr_count_other _ (by decide), ctr_frameTaken]
    · rw [ctr_count_same, ctr_frameTaken_other s rest (by decide)]
    · rw [State.count_mem, frameTaken_mem]
  case unmatched =>
    intro r p rest hhead hon hsv hnone
    rw [svFrameRx_of_unmatched hwait hhead hon hsv hnone]
    refine ⟨_, rfl, ?_, ?_, flag_setFlt_same _ rfl (by decide), ?_, ?_⟩
    · rw [State.setFlt_svi, State.count_svi, frameTaken_svi]
    · rw [State.setFlt_svi, State.count_svi, frameTaken_svi]
    · rw [ctr_setFlt_apart _ _ _ (by decide), ctr_count_same, ctr_frameTaken_other s rest (by decide)]
    · rw [State.setFlt_mem, State.count_mem, frameTaken_mem]
  case placed =>
    rintro r p n rest b q hhead hon hsv htype hfind hgood hrev hsim hauth hb rfl
    have hb : b = (frameTaken s rest).count C.SVI_S_FRAMES n := hb
    have hfld (g : Fld) (hin : C.SVI_FRAMES_IN.apart g = true) (hstream : C.SVI_S_FRAMES.apart g = true) : b.fld g n = s.fld g n := by
      rw [hb, fld_count_frameTaken s rest n n hin hstream]
    have hnval := hfld F.SVI_S_CTL_NVAL (by decide) (by decide)
    have hconf := hfld F.SVI_S_CONFREV_CONFREV (by decide) (by decide)
    have hauthb := hfld F.SVI_S_CTL_AUTH (by decide) (by decide)
    have hsimb : b.flag F.SVI_S_CTL_SIM n = s.flag F.SVI_S_CTL_SIM n := by
      rw [State.flag, State.flag, hfld F.SVI_S_CTL_SIM (by decide) (by decide)]
    have hbad : frameBad b p n = frameBad s p n :=
      frameBad_congr (hfld F.SVI_S_CTL_RATE (by decide) (by decide)) (hfld F.SVI_S_CTL_NASDU (by decide) (by decide)) hnval p
    rw [svFrameRx_of_match hwait hhead hon hsv htype hfind, ← hnval,
      streamFrame_of_unauthenticated hb (hbad.trans hgood) (by rwa [hconf]) (hsim.trans hsimb.symm) (hauthb.trans hauth)]
  case fingerprint =>
    intro p tb j g w hslot hgrp hon hnext
    refine ⟨fun hearly => ?_, fun hdue => ?_⟩
    · rw [fingerprintHand_of_unchanged (fingerprintComplete_of_early hslot hgrp hon hnext hearly)]
    · obtain ⟨x, hx⟩ := fingerprintHand_twin s p
      rw [hx, fingerprintComplete_of_due hslot hgrp hon hnext hdue]
      exact ⟨_, rfl, keepFp_showFp s p _⟩

end Sys2Proof.Machine
end

section
/-! PROOFS. The enables, disables and synchronising resets of the filter chain (R157 to R159, R177, R178, R184). -/

namespace Sys2Proof.Machine

/-! ## Enables and disables of a channel -/

/-- Channel `c` with EN at `on` and in state `st`, with nothing of its past (R157, R177). -/
def chSwitched (s : State) (c : Nat) (on : Bool) (st : Nat) : State := setChState ((s.setFlag F.FDC_C_CTL_EN on c).setFch c FdcCh.reset) c st

theorem chMode_chSwitched (s : State) (c : Nat) (on : Bool) (st : Nat) : chMode (chSwitched s c on st) c = chMode s c := by
  calc chMode (chSwitched s c on st) c
      = ((s.setFlag F.FDC_C_CTL_EN on c).setFch c FdcCh.reset).fld F.FDC_C_CTL_MODE c := fld_setFld_apart _ _ _ _ (by decide)
    _ = chMode s c := fld_setFlag_apart _ _ _ _ (by decide)

section
variable {s : State} {c : Nat} (hc : c < 8192)
include hc

theorem fdcChannelEnable_of_locked (hoff : chEn s c = false) (hlock : s.flag F.FDC_CTRL_LOCK = true) :
    fdcChannelEnable s c = s.lockViolation 0 0x40050200 0x80000000 := by
  simp [fdcChannelEnable, fdcChans, Nat.not_le.mpr hc, hoff, hlock, State.rowLocked]

theorem fdcChannelEnable_of_refused (hoff : chEn s c = false) (hlock : s.flag F.FDC_CTRL_LOCK = false) (hbad : chRefused s c = true) :
    fdcChannelEnable s c = (s.setFlag F.FDC_C_FLT_CFG_REFUSED true c).setFlt F.FDC_FLT_CFG_ERR := by
  simp [fdcChannelEnable, fdcChans, Nat.not_le.mpr hc, hoff, hlock, hbad]

theorem fdcChannelEnable_of_accepted (hoff : chEn s c = false) (hlock : s.flag F.FDC_CTRL_LOCK = false) (hok : chRefused s c = false) :
    fdcChannelEnable s c = chSwitched s c true fcUnbound := by
  simp [fdcChannelEnable, fdcChans, Nat.not_le.mpr hc, hoff, hlock, hok, chSwitched]

theorem fdcChannelDisable_of_locked (hon : chEn s c = true) (hlock : s.flag F.FDC_CTRL_LOCK = true) :
    fdcChannelDisable s c = s.lockViolation 0 0x40050200 0 := by
  simp [fdcChannelDisable, fdcChans, Nat.not_le.mpr hc, hon, hlock, State.rowLocked]

theorem fdcChannelDisable_of_open (hon : chEn s c = true) (hlock : s.flag F.FDC_CTRL_LOCK = false) :
    fdcChannelDisable s c =
      if chMode s c = fmFilter then (detectorsOf s c).foldl unbindOne (chSwitched s c false fcOff) else chSwitched s c false fcOff := by
  simp only [fdcChannelDisable, fdcChans, Nat.not_le.mpr hc, hon, hlock, decide_false, Bool.not_true, Bool.or_self, Bool.false_eq_true, if_false]
  rw [← chMode_chSwitched s c false fcOff]
  rfl

end

/-! ## The disable of the chain -/

theorem fdcDisableRow_of_locked {s : State} (hon : s.flag F.FDC_CTRL_EN = true) (hlock : s.flag F.FDC_CTRL_LOCK = true) :
    fdcDisableRow s = s.lockViolation 0 0x40050000 0 := by
  simp [fdcDisableRow, hon, hlock, State.rowLocked]

/-- EN of the chain is no channel's EN. -/
theorem enabledChans_setFlag_ctrl (s : State) (b : Bool) : enabledChans (s.setFlag F.FDC_CTRL_EN b) = enabledChans s :=
  List.filter_congr fun k _ => flag_setFlag_apart s b 0 k (by decide)

theorem fdcDisableRow_of_open {s : State} (hlock : s.flag F.FDC_CTRL_LOCK = false) :
    fdcDisableRow s =
      (enabledChans s).foldl (fun s k => unbindOne (s.setFch k { s.fch k with inq := [] }) k) (s.setFlag F.FDC_CTRL_EN false) := by
  simp only [fdcDisableRow, hlock, Bool.false_and, Bool.false_eq_true, if_false, fdcDisable, enabledChans_setFlag_ctrl]

/-! ## Unbinding and synchronising resets -/

theorem chBound_iff (s : State) (c : Nat) : chBound s c = true ↔ 1 < s.fld F.FDC_C_STAT_STATE c := decide_eq_true_iff

/-- A channel that is OFF or UNBOUND has no binding to leave. -/
theorem unbindOne_of_not_bound {s : State} {c : Nat} (h : s.fld F.FDC_C_STAT_STATE c ≤ 1) : unbindOne s c = s := by
  have hst : chState s c = fcOff ∨ chState s c = fcUnbound := Nat.le_one_iff_eq_zero_or_eq_one.mp h
  simp only [unbindOne, Bool.or_eq_true, decide_eq_true_eq, if_pos hst]

theorem unbindOne_of_bound {s : State} {c : Nat} (h : 1 < s.fld F.FDC_C_STAT_STATE c) : unbindOne s c = setChState (dropHistory s c) c fcUnbound := by
  have hst : ¬ (chState s c = fcOff ∨ chState s c = fcUnbound) := fun hle => absurd (Nat.le_one_iff_eq_zero_or_eq_one.mpr hle) (Nat.not_le.mpr h)
  simp only [unbindOne, Bool.or_eq_true, decide_eq_true_eq, if_neg hst]

theorem requestReset_of_bound {s : State} {c : Nat} (h : 1 < s.fld F.FDC_C_STAT_STATE c) :
    requestReset s c = s.setFch c { s.fch c with resetReq := true } :=
  if_pos ((chBound_iff s c).mpr h)

theorem syncResetGroup_eq (s : State) (g : Nat) :
    syncResetGroup s g = ((List.range 8192).filter fun k => chEn s k && (chBound s k && decide (chGroup s k = g))).foldl requestReset s := by
  simp only [syncResetGroup, enabledChans, fdcChans, List.filter_filter, Bool.and_comm]

/-- Settles O32: each command is the lemma about its own operation, taken at a device out of reset. -/
theorem filterChannelEnables : Obligations.FilterChannelEnables := by
  intro s c hlive hc
  simp only [exec_fdcChannelEnable, execFdcChannelEnable, exec_fdcChannelDisable, execFdcChannelDisable, exec_fdcDisable, execFdcDisable,
    exec_syncResetChannel, execSyncResetChannel, exec_syncResetGroup, execSyncResetGroup, live_of_not_held hlive]
  refine ⟨?locked, ?unlocked, unbindOne_of_not_bound, unbindOne_of_bound, ?resetOne, ?resetGroup⟩
  case locked =>
    intro hlock
    exact ⟨fun hoff => by rw [fdcChannelEnable_of_locked hc hoff hlock], fun hon => by rw [fdcChannelDisable_of_locked hc hon hlock],
      fun hon => by rw [fdcDisableRow_of_locked hon hlock]⟩
  case unlocked =>
    intro hlock
    refine ⟨fun hoff hbad => by rw [fdcChannelEnable_of_refused hc hoff hlock hbad], fun hoff hok => ?accepted, fun hon => ?disabled, ?chainOff⟩
    case accepted =>
      rw [fdcChannelEnable_of_accepted hc hoff hlock hok]
      rfl
    case disabled =>
      rintro _ rfl
      rw [fdcChannelDisable_of_open hc hon hlock]
      exact ⟨fun hdetector => congrArg _ (if_neg hdetector), fun hfilter => congrArg _ (if_pos hfilter)⟩
    case chainOff =>
      rintro _ rfl
      rw [fdcDisableRow_of_open hlock]
      rfl
  case resetOne =>
    rintro rfl hbound
    rw [syncResetChannel, requestReset_of_bound hbound]
  case resetGroup =>
    intro g
    rw [syncResetGroup_eq]
    rfl

end Sys2Proof.Machine
end

section
/-! PROOFS. The sweeps of the filter chain (R179 to R181). -/

namespace Sys2Proof.Machine

/-! ## A sweep -/

/-- The state in which the sweep of instant `k` of a depth, due at `due` over a set of `n` channels, has been begun and counted: it starts once the sweep
before it has ended (R180). -/
def sweepBegun (s : State) (depth k due n : Nat) : State :=
  ({ s with fdc := { s.fdc with swept := sparsePut depth k s.fdc.swept, busy := max due s.fdc.busy + (640 + 4 * n) * 65536 } }).count C.FDC_SWEEPS

section
variable {s : State} {depth k : Nat} {set : List Nat} (hon : s.flag F.FDC_CTRL_EN = true) (hset : set = (enabledChans s).filter (inSweep s depth))
  (hne : set ≠ []) (hlead : (depth + 2000) * 65536 ≤ s.devT) (hk : k = nextSweep s depth (gridAt 14400 (s.devT - (depth + 2000) * 65536)) set)
include hon hset hne hlead hk

/-- With the chain on and a set to sweep, a sweep turns on whether its instant has been released. -/
theorem fdcSweep_of_on :
    fdcSweep s depth =
      if gridAt 14400 (s.devT - (depth + 2000) * 65536) < k then s
      else set.foldl (fun s c => sweepSlot s depth (gridInst 14400 k) c)
        (if gridInst 14400 k + (depth + 2000) * 65536 < s.fdc.busy
          then ((sweepBegun s depth k (gridInst 14400 k + (depth + 2000) * 65536) set.length).count C.FDC_SWEEP_WAITS).setFlt F.FDC_FLT_SWEEP_WAIT
          else sweepBegun s depth k (gridInst 14400 k + (depth + 2000) * 65536) set.length) := by
  have hguard : (!s.flag F.FDC_CTRL_EN || decide (s.devT < (depth + 2000) * 65536) || set.isEmpty) = false := by
    simp [hon, Nat.not_lt.mpr hlead, hne]
  simp only [fdcSweep, ← hset, ← hk, hguard, Bool.false_eq_true, if_false, decide_eq_true_eq, sweepBegun]

theorem fdcSweep_of_early (hearly : gridAt 14400 (s.devT - (depth + 2000) * 65536) < k) : fdcSweep s depth = s := by
  rw [fdcSweep_of_on hon hset hne hlead hk, if_pos hearly]

section
variable (hdue : k ≤ gridAt 14400 (s.devT - (depth + 2000) * 65536))
include hdue

theorem fdcSweep_of_waiting (hwait : gridInst 14400 k + (depth + 2000) * 65536 < s.fdc.busy) :
    fdcSweep s depth = set.foldl (fun s c => sweepSlot s depth (gridInst 14400 k) c)
      (((sweepBegun s depth k (gridInst 14400 k + (depth + 2000) * 65536) set.length).count C.FDC_SWEEP_WAITS).setFlt F.FDC_FLT_SWEEP_WAIT) := by
  rw [fdcSweep_of_on hon hset hne hlead hk, if_neg (Nat.not_lt.mpr hdue), if_pos hwait]

theorem fdcSweep_of_free (hfree : s.fdc.busy ≤ gridInst 14400 k + (depth + 2000) * 65536) :
    fdcSweep s depth = set.foldl (fun s c => sweepSlot s depth (gridInst 14400 k) c)
      (sweepBegun s depth k (gridInst 14400 k + (depth + 2000) * 65536) set.length) := by
  rw [fdcSweep_of_on hon hset hne hlead hk, if_neg (Nat.not_lt.mpr hdue), if_neg (Nat.not_lt.mpr hfree)]

end

end

/-- The slot of a FILTER channel that its inputs leave bound at the sweep's depth computes up to four entries (R180). -/
theorem sweepSlot_of_filter {s : State} {depth g c : Nat} (hmode : chMode s c = fmFilter) (hbound : chBound (slotInputs s g c) c = true)
    (hdepth : adepth (slotInputs s g c) (chGroup (slotInputs s g c) c) = depth) : sweepSlot s depth g c = slotEntries (slotInputs s g c) c 4 := by
  simp only [sweepSlot, hmode, hbound, hdepth, if_true, decide_true, Bool.and_self]

/-- Settles O33: a sweep before its time does nothing, one that is due runs its slots, and a slot runs its entries. -/
theorem filterSweepRunsEverySlot : Obligations.FilterSweepRunsEverySlot := by
  rintro s depth set k _ hlive hon hset hne hlead hk rfl
  simp only [exec_fdcSweep, execFdcSweep, live_of_not_held hlive]
  refine ⟨fun hearly => ?early, ?due, fun c hmode hbound hdepth => sweepSlot_of_filter hmode ((chBound_iff _ c).mpr hbound) hdepth⟩
  case early => rw [fdcSweep_of_early hon hset hne hlead hk hearly]
  case due =>
    rintro hdue _ b rfl hwaits hidle
    rcases Nat.lt_or_ge (gridInst 14400 k + (depth + 2000) * 65536) s.fdc.busy with hwait | hfree
    · rw [fdcSweep_of_waiting hon hset hne hlead hk hdue hwait, hwaits hwait]
      rfl
    · rw [fdcSweep_of_free hon hset hne hlead hk hdue hfree, hidle hfree]
      rfl

end Sys2Proof.Machine
end

section
/-! PROOFS. The phasor instructions of a lane (R193, R213 to R216). -/

namespace Sys2Proof.Machine

/-! ## What a phasor instruction does -/

theorem laneIssue_of_below {s : State} {n : Nat} {op : RvOp} (len iw : Nat) (hon : issueAt (s.pair n) op < (s.pair n).limit) :
    laneIssue s n len iw op = laneExec s n (issueAt (s.pair n) op) len iw op :=
  if_neg (Nat.not_le.mpr hon)

theorem laneExec_px_of_valid {f7 f3 rd a b : Nat} (s : State) (n i len iw : Nat) (hvalid : pxValid f7 f3 rd a b = true) (hdone : f3 ≠ 7) :
    laneExec s n i len iw (.px f7 f3 rd a b) =
      s.setPair n (((s.pair n).pxExec f7 f3 rd a b).retire (.px f7 f3 rd a b) i (RvOp.px f7 f3 rd a b).cost (pxDests f7 f3 rd)
        (((s.pair n).pc.toNat + len) % 2 ^ 32)) := by
  simp only [laneExec, hvalid, hdone, Bool.not_true, Bool.false_eq_true, if_false]

theorem laneExec_px_of_invalid {f7 f3 rd a b : Nat} (s : State) (n i len iw : Nat) (hvalid : pxValid f7 f3 rd a b = false) :
    laneExec s n i len iw (.px f7 f3 rd a b) = laneFault s n causeIllegal iw := by
  simp only [laneExec, hvalid, Bool.not_false, if_true]

section
variable {s : State} {n rd a b : Nat} (hruns : laneRuns s n = true) (hrd : rd < 32) (ha : a < 32) (hb : b < 32)
include hruns hrd ha hb

/-- A phasor instruction of a pair that executes issues as the word that encodes it (R213). -/
theorem laneP_of_runs (f7 f3 : Nat) :
    laneP s n f7 f3 rd a b = laneIssue s n 4 (f7 * 2 ^ 25 + b * 2 ^ 20 + a * 2 ^ 15 + f3 * 2 ^ 12 + rd * 2 ^ 7 + 0x0B) (.px f7 f3 rd a b) := by
  simp only [laneP, Nat.mod_eq_of_lt hrd, Nat.mod_eq_of_lt ha, Nat.mod_eq_of_lt hb, hruns, if_true]

/-- A command whose meaning is a phasor instruction of the table, within the run's limit: its result, its cost and its next instruction (R193, R213). -/
theorem exec_px_of_valid {c : Instr} {f7 f3 : Nat} {r : LanePair} {cost : Nat × Nat} {dests : List Nat}
    (hexec : exec c s = .next (s.live fun s => laneP s n f7 f3 rd a b)) (hlive : s.clk.held = false)
    (hon : issueAt (s.pair n) (.px f7 f3 rd a b) < (s.pair n).limit) (hvalid : pxValid f7 f3 rd a b = true) (hdone : f3 ≠ 7)
    (hr : (s.pair n).pxExec f7 f3 rd a b = r) (hcost : (RvOp.px f7 f3 rd a b).cost = cost) (hdests : pxDests f7 f3 rd = dests) :
    exec c s = .next (s.setPair n (r.retire (.px f7 f3 rd a b) (issueAt (s.pair n) (.px f7 f3 rd a b)) cost dests
      (((s.pair n).pc.toNat + 4) % 2 ^ 32))) := by
  rw [hexec, live_of_not_held hlive, laneP_of_runs hruns hrd ha hb, laneIssue_of_below _ _ hon, laneExec_px_of_valid _ _ _ _ _ hvalid hdone,
    hr, hcost, hdests]

/-- A command whose meaning is a phasor instruction that the table does not have faults as illegal (R206, R213). -/
theorem exec_px_of_invalid {c : Instr} {f7 f3 : Nat} (hexec : exec c s = .next (s.live fun s => laneP s n f7 f3 rd a b)) (hlive : s.clk.held = false)
    (hon : issueAt (s.pair n) (.px f7 f3 rd a b) < (s.pair n).limit) (hvalid : pxValid f7 f3 rd a b = false) :
    exec c s = .next (laneFault s n causeIllegal (f7 * 2 ^ 25 + b * 2 ^ 20 + a * 2 ^ 15 + f3 * 2 ^ 12 + rd * 2 ^ 7 + 0x0B)) := by
  rw [hexec, live_of_not_held hlive, laneP_of_runs hruns hrd ha hb, laneIssue_of_below _ _ hon, laneExec_px_of_invalid _ _ _ _ _ hvalid]

end

/-- The result of PX.CABS (R214). -/
theorem pxExec_cabs (c : LanePair) (rd a b : Nat) :
    c.pxExec 9 0 rd a b = (c.setF rd (pxAbs (c.getF a) (c.getF (a + 1))).1).flags (pxAbs (c.getF a) (c.getF (a + 1))).2 := by
  simp [LanePair.pxExec]

/-! ## Which phasor instructions the table has (R213) -/

section
variable {rd a b : Nat}

theorem pxValid_product {f7 : Nat} (hf : f7 < 5) (hrd : rd % 2 = 0) (ha : a % 2 = 0) (hb : b % 2 = 0) : pxValid f7 0 rd a b = true := by
  simp [pxValid, hf, hrd, ha, hb]

theorem pxValid_cmul_of_odd (hodd : rd % 2 = 1 ∨ a % 2 = 1 ∨ b % 2 = 1) : pxValid 0 0 rd a b = false := by
  rcases hodd with h | h | h <;> simp [pxValid, h]

theorem pxValid_cscl (hrd : rd % 2 = 0) (ha : a % 2 = 0) : pxValid 5 0 rd a b = true := by simp [pxValid, hrd, ha]

theorem pxValid_rot (hrd : rd % 2 = 0) (ha : a % 2 = 0) : pxValid 0x11 3 rd a b = true := by simp [pxValid, hrd, ha]

theorem pxValid_cabs {f7 : Nat} (hf : f7 = 8 ∨ f7 = 9) (ha : a % 2 = 0) : pxValid f7 0 rd a 0 = true := by
  rcases hf with rfl | rfl <;> simp [pxValid, ha]

theorem pxValid_carg (ha : a % 2 = 0) : pxValid 0x0A 1 rd a 0 = true := by simp [pxValid, ha]

theorem pxValid_cis (hrd : rd % 2 = 0) : pxValid 0x10 2 rd a 0 = true := by simp [pxValid, hrd]

theorem pxValid_dfta (hrd : rd % 2 = 0) : pxValid 0x12 3 rd a b = true := by simp [pxValid, hrd]

theorem pxValid_qchk : pxValid 0x20 4 rd a b = true := by simp [pxValid]

end

/-- Settles O34: each instruction of the table, with even registers where phasors stand, computes its entry; PX.CMUL with an odd one faults. -/
theorem phasorInstructionsCompute : Obligations.PhasorInstructionsCompute := by
  intro s n rd a b hlive hruns hrd ha hb
  refine ⟨fun erd ea eb => ?products, fun erd ea => ⟨fun on => ?cscl, fun on => ?rot⟩, fun ea => ⟨fun on => ?cabs2, fun on => ?cabs, fun on => ?carg⟩,
    fun erd => ⟨fun on => ?cis, fun on => ?dfta⟩, fun on => ?qchk, fun on hodd => ?odd⟩
  case products =>
    have hvalid {f7 : Nat} (hf : f7 < 5) : pxValid f7 0 rd a b = true := pxValid_product hf erd ea eb
    refine ⟨?_, ?_, ?_, ?_, ?_⟩ <;> exact fun on => exec_px_of_valid hruns hrd ha hb rfl hlive on (hvalid (by decide)) (by decide) rfl rfl rfl
  case cscl => exact exec_px_of_valid hruns hrd ha hb rfl hlive on (pxValid_cscl erd ea) (by decide) rfl rfl rfl
  case rot => exact exec_px_of_valid hruns hrd ha hb rfl hlive on (pxValid_rot erd ea) (by decide) rfl rfl rfl
  case cabs2 => exact exec_px_of_valid hruns hrd ha (by decide) rfl hlive on (pxValid_cabs (.inl rfl) ea) (by decide) rfl rfl rfl
  case cabs => exact exec_px_of_valid hruns hrd ha (by decide) rfl hlive on (pxValid_cabs (.inr rfl) ea) (by decide) (pxExec_cabs _ _ _ _) rfl rfl
  case carg => exact exec_px_of_valid hruns hrd ha (by decide) rfl hlive on (pxValid_carg ea) (by decide) rfl rfl rfl
  case cis => exact exec_px_of_valid hruns hrd ha (by decide) rfl hlive on (pxValid_cis erd) (by decide) rfl rfl rfl
  case dfta => exact exec_px_of_valid hruns hrd ha hb rfl hlive on (pxValid_dfta erd) (by decide) rfl rfl rfl
  case qchk => exact exec_px_of_valid hruns hrd ha hb rfl hlive on pxValid_qchk (by decide) rfl rfl rfl
  case odd =>
    rw [exec_px_of_invalid hruns hrd ha hb rfl hlive on (pxValid_cmul_of_odd hodd)]
    simp [causeIllegal]

end Sys2Proof.Machine
end

section
/-! PROOFS. The RISC-V instructions of a lane: fetch, issue and execution (R187, R190 to R193). -/

namespace Sys2Proof.Machine

theorem unsigned_word (v : Int) : unsigned 32 v = (v % 2 ^ 32).toNat := rfl

theorem aluResult_add (x y : Nat) : aluResult 32 .add false x y = (x + y) % 2 ^ 32 := rfl

theorem laneCeCount_of_none (s : State) (t : Nat) : laneCeCount s t 0 = s := rfl

/-! ## Fetch -/

section
variable {s : State} {n p : Nat} {trig : Bool}

theorem laneInstruction_of_runs (hruns : laneRuns s n = true) : laneInstruction s n = laneFetch s n true := by
  rw [laneInstruction, if_pos hruns]

/-- A PC outside the code region faults the pair. -/
theorem laneFetch_of_none (hpc : laneLoc (pairTable s n) (s.pair n).regs (s.pair n).pc.toNat = .none) :
    laneFetch s n trig = laneFault s n causeFetch (s.pair n).pc.toNat := by
  simp only [laneFetch, hpc]

/-- A word of four octets without ECC errors, both halves of it in the code region, is decoded and issued unless a trigger stops the pair. -/
theorem laneFetch_of_word {q : Nat} (hpc : laneLoc (pairTable s n) (s.pair n).regs (s.pair n).pc.toNat = .code p)
    (hpc2 : laneLoc (pairTable s n) (s.pair n).regs ((s.pair n).pc.toNat + 2) = .code q) (hlong : ofOctetsLE (s.memBytes p 2) % 4 = 3)
    (hue : laneUe s p 4 = 0) (hce : laneCe s p 4 = 0) (htrig : laneTriggered s n (decode32 .lane (ofOctetsLE (s.memBytes p 4))) = false) :
    laneFetch s n trig = laneIssue s n 4 (ofOctetsLE (s.memBytes p 4)) (decode32 .lane (ofOctetsLE (s.memBytes p 4))) := by
  simp only [laneFetch, hpc, hpc2, hlong, hue, hce, htrig, laneCeCount_of_none, ne_eq, not_true_eq_false, if_false, Bool.and_false, Bool.false_eq_true]

end

/-! ## Loads and stores -/

section
variable {s : State} {n a p : Nat}

theorem laneLoad_data {k : Nat} (hloc : laneLoc (pairTable s n) (s.pair n).regs a = .data p) (hue : laneUe s p k = 0) (hce : laneCe s p k = 0) :
    laneLoad s n a k = (.ok (s.memBytes p k), s) := by
  simp only [laneLoad, hloc, hue, hce, laneCeCount_of_none, if_true]

theorem laneStore_data (l : List Nat) (hloc : laneLoc (pairTable s n) (s.pair n).regs a = .data p) : laneStore s n a l = some (laneMemWrite s p l) := by
  simp only [laneStore, hloc]

theorem laneStore_none (l : List Nat) (hloc : laneLoc (pairTable s n) (s.pair n).regs a = .none) : laneStore s n a l = none := by
  simp only [laneStore, hloc]

/-- A store to memory leaves the pairs as they are. -/
theorem pair_laneMemWrite (s : State) (p : Nat) (l : List Nat) (n : Nat) : (laneMemWrite s p l).pair n = s.pair n := by
  have hframe := congrArg State.lane (setMemBytes_frame s p l)
  have hlane : (s.setMemBytes p l).lane = s.lane := hframe
  simp only [laneMemWrite, laneSound, State.pair, hlane]

end

/-! ## Execution -/

section
variable (s : State) (n i w : Nat)

theorem laneExec_add (rd a b : Nat) :
    laneExec s n i 4 w (.alu .add false rd a b) =
      s.setPair n (((s.pair n).setX rd (((s.pair n).getX a + (s.pair n).getX b) % 2 ^ 32)).retire (.alu .add false rd a b) i (1, 1) [rd]
        (((s.pair n).pc.toNat + 4) % 2 ^ 32)) := by
  simp only [laneExec, RvOp.cost, aluResult_add]

theorem laneExec_jal (rd : Nat) (off : Int) :
    laneExec s n i 4 w (.jal rd off) =
      s.setPair n (((s.pair n).setX rd (((s.pair n).pc.toNat + 4) % 2 ^ 32)).retire (.jal rd off) i (2, 1) [rd]
        ((((s.pair n).pc.toNat : Int) + off) % 2 ^ 32).toNat) := by
  simp only [laneExec, unsigned_word]

variable {a b : Nat} {off : Int}

theorem laneExec_beq_taken (heq : (s.pair n).getX a = (s.pair n).getX b) :
    laneExec s n i 4 w (.branch 0 a b off) =
      s.setPair n ((s.pair n).retire (.branch 0 a b off) i (2, 1) [] ((((s.pair n).pc.toNat : Int) + off) % 2 ^ 32).toNat) := by
  simp only [laneExec, branchTaken, heq, decide_true, if_true, unsigned_word]

theorem laneExec_beq_not_taken (hne : (s.pair n).getX a ≠ (s.pair n).getX b) :
    laneExec s n i 4 w (.branch 0 a b off) =
      s.setPair n ((s.pair n).retire (.branch 0 a b off) i (1, 1) [] (((s.pair n).pc.toNat + 4) % 2 ^ 32)) := by
  simp only [laneExec, branchTaken, hne, decide_false, Bool.false_eq_true, if_false, RvOp.cost]

variable {p x : Nat} (hx : x = ((((s.pair n).getX a : Int) + off) % 2 ^ 32).toNat) (halign : x % 4 = 0)
include hx halign

theorem laneExec_flw (rd : Nat) (hloc : laneLoc (pairTable s n) (s.pair n).regs x = .data p) (hue : laneUe s p 4 = 0) (hce : laneCe s p 4 = 0) :
    laneExec s n i 4 w (.fload false rd a off) =
      s.setPair n (((s.pair n).setF rd (ofOctetsLE (s.memBytes p 4))).retire (.fload false rd a off) i (1, 2) [32 + rd]
        (((s.pair n).pc.toNat + 4) % 2 ^ 32)) := by
  simp only [laneExec, unsigned_word, ← hx, halign, laneLoad_data hloc hue hce, hloc, LaneLoc.loadCost, ne_eq, not_true_eq_false, if_false]

theorem laneExec_sw_data (hloc : laneLoc (pairTable s n) (s.pair n).regs x = .data p) :
    laneExec s n i 4 w (.store 2 a b off) =
      (laneMemWrite s p (octetsLE 4 ((s.pair n).getX b))).setPair n
        ((s.pair n).retire (.store 2 a b off) i (1, 1) [] (((s.pair n).pc.toNat + 4) % 2 ^ 32)) := by
  simp only [laneExec, unsigned_word, ← hx, Nat.reducePow, halign, laneStore_data _ hloc, pair_laneMemWrite, ne_eq, not_true_eq_false, if_false]

theorem laneExec_sw_none (hloc : laneLoc (pairTable s n) (s.pair n).regs x = .none) :
    laneExec s n i 4 w (.store 2 a b off) = laneFault s n causeStore x := by
  simp only [laneExec, unsigned_word, ← hx, Nat.reducePow, halign, laneStore_none _ hloc, ne_eq, not_true_eq_false, if_false]

end

/-- Settles O36: fetch, decode and issue at the PC, and the result, cost and next instruction of each class. -/
theorem laneInstructionsExecute : Obligations.LaneInstructionsExecute := by
  intro s n hlive
  simp only [exec_laneInstruction, execLaneInstruction, live_of_not_held hlive]
  refine ⟨?fetch, fun hpc hruns => ?outside, fun i w => ⟨laneExec_add s n i w, laneExec_jal s n i w, fun a b off => laneExec_beq_taken s n i w,
    fun a b off => laneExec_beq_not_taken s n i w, fun rd a off x p hx halign => laneExec_flw s n i w hx halign rd,
    fun a b off x p hx halign => laneExec_sw_data s n i w hx halign, fun a b off x hx halign => laneExec_sw_none s n i w hx halign⟩⟩
  case fetch =>
    rintro p q _ _ hruns hpc hpc2 hlong rfl rfl hue hce htrig hon
    rw [laneInstruction_of_runs hruns, laneFetch_of_word hpc hpc2 hlong hue hce htrig, laneIssue_of_below _ _ hon]
  case outside => rw [laneInstruction_of_runs hruns, laneFetch_of_none hpc, causeFetch]

end Sys2Proof.Machine
end

section
/-! PROOFS. The debug of a lane (R218, R219) and its registers with effects (R196, R205). -/

namespace Sys2Proof.Machine

/-! ## Debug -/

section
variable {s : State} {n : Nat}

theorem laneDebuggable_iff (s : State) : laneDebuggable s = true ↔ s.keys.lifecycle ≤ 1 := decide_eq_true_iff

theorem laneDebug_of_closed (hclosed : 1 < s.keys.lifecycle) :
    laneDebugHalt s n = s ∧ laneDebugResume s n = s ∧ laneDebugStep s n = s := by
  have hno : laneDebuggable s = false := Bool.eq_false_iff.mpr fun h => Nat.not_le.mpr hclosed ((laneDebuggable_iff s).mp h)
  simp [laneDebugHalt, laneDebugResume, laneDebugStep, hno]

variable (hn : n < 24) (hopen : s.keys.lifecycle ≤ 1)
include hn hopen

/-- Neither bar of a debug command stands: the pair exists and the lifecycle state admits debug. -/
theorem laneDebug_admitted : (decide (lanePairs ≤ n) || !laneDebuggable s) = false := by
  have hpair : ¬ lanePairs ≤ n := Nat.not_le.mpr hn
  simp only [hpair, (laneDebuggable_iff s).mpr hopen, decide_false, Bool.not_true, Bool.or_self]

theorem laneDebugHalt_of_open : laneDebugHalt s n = s.setPair n { s.pair n with halted := true, debugger := true } := by
  simp only [laneDebugHalt, laneDebug_admitted hn hopen, Bool.false_eq_true, if_false]

variable (hhalt : (s.pair n).halted = true)
include hhalt

theorem laneDebugResume_of_idle (hidle : (s.pair n).run = false) : laneDebugResume s n = s.setPair n { s.pair n with resume := true } := by
  simp only [laneDebugResume, laneDebug_admitted hn hopen, hhalt, hidle, Bool.not_true, Bool.not_false, Bool.or_self, Bool.false_eq_true, if_false, if_true]

theorem laneDebugResume_of_in_time (hrun : (s.pair n).run = true) (hin : max (s.pair n).cycle (laneClock s n) < (s.pair n).limit) :
    laneDebugResume s n = s.setPair n { s.pair n with halted := false, cycle := max (s.pair n).cycle (laneClock s n) } := by
  simp only [laneDebugResume, laneDebug_admitted hn hopen, hhalt, hrun, Nat.not_le.mpr hin, Bool.not_true, Bool.or_self, Bool.false_eq_true, if_false]

theorem laneDebugStep_of_executing (hexec : pairExecutes s n = true) {t : State}
    (ht : t = laneFetch (s.setPair n { s.pair n with cycle := max (s.pair n).cycle (laneClock s n) }) n false) :
    laneDebugStep s n = t.setPair n { t.pair n with halted := true } := by
  rw [ht]
  exact if_neg (by simp [laneDebug_admitted hn hopen, hhalt, hexec])

end

/-! ## Registers with effects -/

theorem vectorLatch_of_selected {s : State} {p : Nat} (hkind : s.fld F.LANE_SEL_KIND = 1) (hindex : s.fld F.LANE_SEL_INDEX = p) (hp : 1 ≤ p) :
    vectorLatch s = { s with lane := { s.lane with latch := (s.lpart p).vec } } := by
  simp [vectorLatch, hkind, hindex, hp]

theorem clrUsed_of_selected {s : State} {n : Nat} (hn : n < 24) (hkind : s.fld F.LANE_SEL_KIND = 0) (hindex : s.fld F.LANE_SEL_INDEX = n) :
    clrUsed s = (List.range 16).foldl (fun s j => s.setFld (F.LANE_P_SLOT_USED_MAX_USED_MAX.el j) 0 n) s := by
  simp [clrUsed, hkind, hindex, lanePairs, laneSlots, hn]

theorem key_usedMax_ne {i j : Nat} (h : j ≠ i) (n : Nat) :
    (F.LANE_P_SLOT_USED_MAX_USED_MAX.el j).key n ≠ (F.LANE_P_SLOT_USED_MAX_USED_MAX.el i).key n := by
  simp only [Fld.key, Fld.el, blkKey, F.LANE_P_SLOT_USED_MAX_USED_MAX]
  omega

/-- Clearing the slots below `k` leaves each of them 0 and changes no more than registers. -/
theorem clearUsedMax (s : State) (n k : Nat) :
    let t := (List.range k).foldl (fun s j => s.setFld (F.LANE_P_SLOT_USED_MAX_USED_MAX.el j) 0 n) s
    (∀ j, j < k → t.fld (F.LANE_P_SLOT_USED_MAX_USED_MAX.el j) n = 0) ∧ t.lane = s.lane ∧ t.mem = s.mem := by
  induction k with
  | zero => exact ⟨fun j hj => absurd hj (Nat.not_lt_zero j), rfl, rfl⟩
  | succ k ih =>
    obtain ⟨hcleared, hlane, hmem⟩ := ih
    rw [List.range_succ, List.foldl_append, List.foldl_cons, List.foldl_nil]
    refine ⟨fun j hj => ?_, hlane, hmem⟩
    rcases Nat.lt_succ_iff_lt_or_eq.mp hj with hlt | rfl
    · rw [fld_setFld_other _ _ _ _ (key_usedMax_ne (Nat.ne_of_lt hlt) n), hcleared j hlt]
    · rw [fld_setFld_same, Nat.zero_mod]

/-- Settles O37: what each debug command does where the lifecycle admits it and elsewhere, the latch and CLR_USED. -/
theorem laneDebugAndLatches : Obligations.LaneDebugAndLatches := by
  intro s n hlive hn
  simp only [exec_laneDebugHalt, execLaneDebugHalt, exec_laneDebugResume, execLaneDebugResume, exec_laneDebugStep, execLaneDebugStep, exec_vectorLatchRead,
    execVectorLatchRead, exec_clrUsed, execClrUsed, live_of_not_held hlive]
  refine ⟨fun hopen => ⟨?halt, fun hhalt hidle => ?waits, fun hhalt hrun hin => ?goesOn, fun hhalt hexec t ht => ?step⟩, fun hclosed => ?closed,
    fun p hkind hindex hp => ?latch, fun hkind hindex => ?clear⟩
  case halt => rw [laneDebugHalt_of_open hn hopen]
  case waits => rw [laneDebugResume_of_idle hn hopen hhalt hidle]
  case goesOn => rw [laneDebugResume_of_in_time hn hopen hhalt hrun hin]
  case step => rw [laneDebugStep_of_executing hn hopen hhalt hexec ht]
  case closed =>
    obtain ⟨hh, hr, hs⟩ := laneDebug_of_closed (n := n) hclosed
    rw [hh, hr, hs]
    exact ⟨rfl, rfl, rfl⟩
  case latch =>
    rw [vectorLatch_of_selected hkind hindex hp]
    exact ⟨_, rfl, rfl, rfl⟩
  case clear =>
    rw [clrUsed_of_selected hn hkind hindex]
    exact ⟨_, rfl, clearUsedMax s n 16⟩

end Sys2Proof.Machine
end

section
/-! PROOFS. The recovery requests that BOOT takes from PORT_7 (R521 to R524). -/

namespace Sys2Proof.Machine

/-! ## A command of KEYS on behalf of a request -/

theorem keysCmd_of_permitted {s : State} (g : State → State) (hidle : s.flag (mbxBusy 15) = false) (hlc : s.keys.lifecycle ≠ 3) :
    keysCmd s true g = g s := by
  simp only [keysCmd, blkKeys, hidle, lcDecommissioned, hlc, decide_false, Bool.not_true, Bool.or_self, Bool.false_eq_true, if_false]

theorem flag_keysOperand_busy (s : State) (a len arg : Nat) : (keysOperand s a len arg).flag (mbxBusy 15) = s.flag (mbxBusy 15) := by
  have hapart : [F.KEYS_ADDR_HI_ADDR, F.KEYS_ADDR_LO_ADDR, F.KEYS_LEN_LEN, F.KEYS_ARG_ARG].all (mbxBusy 15).apart = true := by decide
  simp only [List.all_cons, List.all_nil, Bool.and_eq_true] at hapart
  obtain ⟨hhi, hlo, hl, harg, -⟩ := hapart
  rw [keysOperand, flag_setFld_apart _ _ _ _ harg, flag_setFld_apart _ _ _ _ hl, flag_setFld_apart _ _ _ _ hlo, flag_setFld_apart _ _ _ _ hhi]

theorem keysOperand_keys (s : State) (a len arg : Nat) : (keysOperand s a len arg).keys = s.keys := rfl

/-- On the operand registers that BOOT has set, a permitted command runs as on the registers before. -/
theorem keysCmd_keysOperand {s : State} (a len arg : Nat) (g : State → State) (hidle : s.flag (mbxBusy 15) = false) (hlc : s.keys.lifecycle ≠ 3) :
    keysCmd (keysOperand s a len arg) true g = g (keysOperand s a len arg) :=
  keysCmd_of_permitted g (by rw [flag_keysOperand_busy, hidle]) (by rwa [keysOperand_keys])

/-- A command of KEYS that begins sets BUSY. -/
theorem flag_keysBegin_busy (s : State) (cmd cause : Nat) (wait : Bool) (data : List Nat) : (keysBegin s cmd cause wait data).flag (mbxBusy 15) = true :=
  flag_setFlag_same _ (mbxBusy 15) true 0 rfl

theorem rootCause_of_root {s : State} {pset : Nat} {key : List Nat} (hset : pset = 1 ∨ pset = 2)
    (hroot : s.keys.fuses.rootHash = some (sha256 (pset :: key))) : rootCause s pset key = (0, s) := by
  rcases hset with rfl | rfl <;> simp [rootCause, hroot, psetS, psetF]

section
variable {s : State} {f : Frame} {m : RecMsg}

theorem recoveryKeys_of_busy (cmd : State → State) (hbusy : s.flag (mbxBusy 15) = true) :
    recoveryKeys s f m cmd = recoveryReply s f m 0x10C [] := if_pos hbusy

variable (hidle : s.flag (mbxBusy 15) = false)
include hidle

theorem recoveryKeys_of_begun {a : State} {cmd : State → State} (hcmd : cmd s = a) (hbegun : a.flag (mbxBusy 15) = true) :
    recoveryKeys s f m cmd = { a with boot := { a.boot with req := some f } } := by
  simp only [recoveryKeys, blkKeys, hidle, hcmd, hbegun, Bool.false_eq_true, if_false, if_true]

theorem recoveryKeys_of_refused {a : State} {cmd : State → State} (hcmd : cmd s = a) (href : a.flag (mbxBusy 15) = false) :
    recoveryKeys s f m cmd = recoveryReply a f m (0x100 + a.mbxD 15 0) [] := by
  simp only [recoveryKeys, blkKeys, hidle, hcmd, href, Bool.false_eq_true, if_false, keysStatus]

/-- ROOT with the key of the root hash begins ROOT_INSTALL (R451, R523). -/
theorem recoveryRoot_of_root {k : List Nat} {a : State} (hlc : s.keys.lifecycle ≠ 3) (hk : k = fitOctets 32 m.data) (hset : m.arg0 = 1 ∨ m.arg0 = 2)
    (hroot : s.keys.fuses.rootHash = some (sha256 (m.arg0 :: k))) (ha : a = keysBegin (keysOperand s (stageStore s 0) 32 m.arg0) 9 0 false k) :
    recoveryRoot s f m = { a with boot := { a.boot with req := some f } } := by
  have hsome : s.keys.fuses.rootHash.isSome = true := by rw [hroot, Option.isSome_some]
  have hcause : rootCause (keysOperand s (stageStore s 0) 32 m.arg0) m.arg0 k = (0, keysOperand s (stageStore s 0) 32 m.arg0) :=
    rootCause_of_root hset (by rwa [keysOperand_keys])
  rw [recoveryRoot]
  refine recoveryKeys_of_begun hidle ?_ (by rw [ha, flag_keysBegin_busy])
  rw [hsome, keysCmd_keysOperand _ _ _ _ hidle hlc, ← hk]
  simp only [hcause, if_true, ha]

/-- SAVE_STORE begins the KEYS command that writes the sealed key store image (R467, R523). -/
theorem recoverySave_begins {a : State} (hlc : s.keys.lifecycle ≠ 3) (ha : a = keysBegin (keysOperand s (stageStore s 0) 0 0) 5 0 false []) :
    recoverySave s f m = { a with boot := { a.boot with req := some f } } := by
  rw [recoverySave]
  exact recoveryKeys_of_begun hidle (by rw [keysCmd_keysOperand _ _ _ _ hidle hlc, ha]) (by rw [ha, flag_keysBegin_busy])

end

/-! ## What each request does -/

/-- The 64 MiB in which a bundle is staged. -/
theorem stagedLimit_eq : 64 * mib = 0x4000000 := rfl

section
variable {s a : State} {f : Frame} {m : RecMsg}

theorem recoveryStage_of_bad (hbad : 0x4000000 < m.arg0 + m.data.length ∨ m.arg0 % 4 ≠ 0 ∨ m.data.length % 4 ≠ 0) :
    recoveryStage s f m = recoveryReply s f m 2 [] :=
  if_pos (by simpa only [Bool.or_eq_true, decide_eq_true_eq, or_assoc, ← stagedLimit_eq] using hbad)

theorem recoveryStage_of_written (hfit : m.arg0 + m.data.length ≤ 0x4000000) (hoff : m.arg0 % 4 = 0) (hlen : m.data.length % 4 = 0)
    (hw : engineWrite initBoot (m.data.length / 64 + 1) s (stageBundle s + m.arg0) m.data = (true, a)) :
    recoveryStage s f m = recoveryReply a f m 0 [] := by
  have hfit' : ¬ 64 * mib < m.arg0 + m.data.length := Nat.not_lt.mpr hfit
  simp only [recoveryStage, hfit', hoff, hlen, hw, ne_eq, not_true_eq_false, decide_false, Bool.or_self, Bool.false_eq_true, if_false, if_true]

theorem recoveryApply_of_placed {pair : Bool} (hoff : m.arg0 % 64 = 0) (hfit : m.arg0 + m.arg1 ≤ 0x4000000) :
    recoveryApply s f m pair =
      recoveryKeys s f m fun s => keysCmd (keysOperand s (stageBundle s + m.arg0) m.arg1 0) true fun s => applyBegin s pair := by
  have hfit' : ¬ 64 * mib < m.arg0 + m.arg1 := Nat.not_lt.mpr hfit
  simp only [recoveryApply, hoff, hfit', ne_eq, not_true_eq_false, decide_false, Bool.or_self, Bool.false_eq_true, if_false]

theorem recoveryProgram_of_out_of_range (hbad : 1 < m.arg0 ∨ 0x4000000 < m.arg1) : recoveryProgram s f m = recoveryReply s f m 3 [] :=
  if_pos (by simpa only [Bool.or_eq_true, decide_eq_true_eq, ← stagedLimit_eq] using hbad)

section
variable {b : List Nat} (hslot : m.arg0 ≤ 1) (hsize : m.arg1 ≤ 0x4000000)
  (hread : engineRead initBoot (m.arg1 / 64 + 1) s (stageBundle s) m.arg1 = (some b, a))
include hslot hsize hread

/-- PROGRAM of octets that have been read turns on their approval and their form (R524). -/
theorem recoveryProgram_of_read :
    recoveryProgram s f m =
      if !recAgrees a 3 m.arg0 b then recoveryReply a f m 3 []
      else if bundleForm a b (flashSpan a m.arg0) ≠ 0 then recoveryReply a f m 4 []
      else { a with boot := { a.boot with
              req := some f,
              op := some { cmd := 0x10, off := slotBase a m.arg0, len := roundUp m.arg1 65536, addr := stageBundle a, start := a.clk.ns } } } := by
  have hslot' : ¬ 1 < m.arg0 := Nat.not_lt.mpr hslot
  have hsize' : ¬ 64 * mib < m.arg1 := Nat.not_lt.mpr hsize
  have hguard : (decide (1 < m.arg0) || decide (64 * mib < m.arg1)) = false := by simp only [hslot', hsize', decide_false, Bool.or_self]
  rw [recoveryProgram, if_neg (Bool.eq_false_iff.mp hguard), hread]
  rfl

theorem recoveryProgram_of_not_approved (hno : recAgrees a 3 m.arg0 b = false) : recoveryProgram s f m = recoveryReply a f m 3 [] := by
  rw [recoveryProgram_of_read hslot hsize hread, hno, Bool.not_false, if_pos rfl]

variable (hok : recAgrees a 3 m.arg0 b = true)
include hok

theorem recoveryProgram_of_bad_form (hform : bundleForm a b (flashSpan a m.arg0) ≠ 0) : recoveryProgram s f m = recoveryReply a f m 4 [] := by
  rw [recoveryProgram_of_read hslot hsize hread, hok, Bool.not_true, if_neg Bool.false_ne_true, if_pos hform]

theorem recoveryProgram_begins (hform : bundleForm a b (flashSpan a m.arg0) = 0) :
    recoveryProgram s f m = { a with boot := { a.boot with
      req := some f,
      op := some { cmd := 0x10, off := slotBase a m.arg0, len := roundUp m.arg1 65536, addr := stageBundle a, start := a.clk.ns } } } := by
  rw [recoveryProgram_of_read hslot hsize hread, hok, Bool.not_true, if_neg Bool.false_ne_true, if_neg (not_not_intro hform)]

end

/-- A device reset holds the device and notes its cause in the AON domain (R505, R506). -/
theorem assertReset_sets_cause (s : State) {cause : Nat} (hc : cause < 9) :
    (assertReset s cause).clk.held = true ∧ bitOf ((assertReset s cause).aonFld F.AON_RST_CAUSE_CAUSE) cause = true := by
  refine ⟨rfl, ?_⟩
  have hfld : ∀ t : State, (armRelease (t.setSh F.AON_RST_CAUSE_CAUSE (t.aonFld F.AON_RST_CAUSE_CAUSE ||| 2 ^ cause))).aonFld F.AON_RST_CAUSE_CAUSE
      = (t.aonFld F.AON_RST_CAUSE_CAUSE ||| 2 ^ cause) % 2 ^ 9 := fun t => sparseGet_set_self _ _ _ _
  rw [assertReset, hfld, bitOf, Nat.testBit_mod_two_pow, Nat.testBit_or, Nat.testBit_two_pow_self, Bool.or_true, Bool.and_true]
  exact decide_eq_true hc

/-- REBOOT replies, then asserts device reset with cause SW (R523). -/
theorem recoveryReboot_resets (s : State) (f : Frame) (m : RecMsg) :
    (recoveryReboot s f m).clk.held = true ∧ bitOf ((recoveryReboot s f m).aonFld F.AON_RST_CAUSE_CAUSE) 5 = true
      ∧ (recoveryReboot s f m).boot.reply = (recoveryReply s f m 0 []).boot.reply := by
  obtain ⟨hheld, hcause⟩ := assertReset_sets_cause (recoveryReply s f m 0 []) (cause := 5) (by decide)
  exact ⟨hheld, hcause, rfl⟩

end

/-! ## Which requests BOOT handles -/

section
variable {i : Instr} {s : State} {f : Frame} {c : Bool} {op : Nat} {g : State → RecMsg → State}
  (hexec : exec i s = .next (s.live fun s => recoveryOp s f c op g)) (hlive : s.clk.held = false)
include hexec hlive

/-- A frame that BOOT does not take does nothing (R522). -/
theorem exec_request_of_not_taken (hno : recoveryTakes s f c = false) : exec i s = .next s := by
  simp only [hexec, live_of_not_held hlive, recoveryOp, recoveryReq, hno, Bool.not_false, if_true]

variable {m : RecMsg} (htakes : recoveryTakes s f c = true) (hpay : f.payload = .recovery m) (hlen : m.data.length ≤ 1024)
include htakes hpay hlen

/-- A request while another is in progress is answered BUSY (R523). -/
theorem exec_request_of_busy (hbusy : s.boot.req.isSome = true) (hop : m.op = op) : exec i s = .next (recoveryReply s f m 1 []) := by
  simp [hexec, live_of_not_held hlive, recoveryOp, recoveryReq, htakes, hpay, hop, hlen, hbusy]

/-- A request while no other is in progress is handled. -/
theorem exec_request_of_free {t : State} (hfree : s.boot.req.isSome = false) (hop : m.op = op) (hg : g s m = t) : exec i s = .next t := by
  simp [hexec, live_of_not_held hlive, recoveryOp, recoveryReq, htakes, hpay, hop, hlen, hfree, hg]

end

end Sys2Proof.Machine
end

section
/-! PROOFS. What JTAG does, as the lifecycle state permits (R218, R441, R462), and recovery and JTAG together. -/

namespace Sys2Proof.Machine

/-! ## Where debug is permitted -/

section
variable {s : State}

/-- Every operation but a design-for-test scan goes on as `jtagDo` says. -/
theorem exec_jtag {op : JtagOp} {t : State} (h : jtagDo s op = t) (hop : op ≠ .testScan := by nofun) : exec (.jtagInstruction op) s = .next t := by
  simp [execJtagInstruction, hop, h]

theorem exec_testScan_of_closed (hlc : s.keys.lifecycle = 1 ∨ s.keys.lifecycle = 2) : exec (.jtagInstruction .testScan) s = .next s := by
  have hclosed : testOpen s = false := by rcases hlc with h | h <;> simp [testOpen, h, lcManufacture, lcDecommissioned]
  simp [execJtagInstruction, hclosed, jtagDo]

theorem whenDebug_of_open (hopen : debugOpen s = true) (t : State) : whenDebug s t = t := if_pos hopen

theorem whenDebug_of_closed (hclosed : debugOpen s = false) (t : State) : whenDebug s t = s := if_neg (Bool.eq_false_iff.mp hclosed)

theorem whenHalted_of_open {n : Nat} (hopen : debugOpen s = true) (hn : n < 24) (hhalt : (s.pair n).halted = true) (t : State) : whenHalted s n t = t := by
  have hpair : n < lanePairs := hn
  simp only [whenHalted, hpair, hhalt, decide_true, Bool.and_self, if_true, whenDebug_of_open hopen]

end

/-! ## The boundary register -/

theorem boundaryScan_of_free {s a : State} {v : Nat} (ir : Nat) (l : List (Nat × Bool)) (h : s.takeFree = (v, a)) :
    boundaryScan s ir l = { a with core := { a.core with jtagOut := [v], jtagIr := ir, jtagBsr := l } } := by
  rw [boundaryScan, h]
  rfl

/-! ## The halt of a core -/

theorem testBit_putBits_one (v k : Nat) (b : Bool) : (putBits v k 1 (ofBit b)).testBit k = b := by
  have hsplit : v = v / 2 ^ k / 2 * 2 * 2 ^ k + v / 2 ^ k % 2 * 2 ^ k + v % 2 ^ k := by
    rw [← Nat.add_mul, Nat.div_add_mod', Nat.div_add_mod']
  have hput : putBits v k 1 (ofBit b) = v % 2 ^ k + (v / 2 ^ k / 2 * 2 + ofBit b) * 2 ^ k := by
    have hbit : ofBit b % 2 ^ 1 = ofBit b := by cases b <;> rfl
    rw [putBits, bitsOf, hbit, show k + 1 - 1 - k + 1 = 1 by omega, Nat.shiftRight_eq_div_pow, Nat.pow_one, Nat.add_mul]
    omega
  rw [Nat.testBit_eq_decide_div_mod_eq, hput, Nat.add_mul_div_right _ _ (Nat.two_pow_pos k), Nat.div_eq_of_lt (Nat.mod_lt _ (Nat.two_pow_pos k))]
  cases b <;> simp [ofBit]

theorem coreHalted_setHalt (s : State) {k : Nat} (hk : k < 8) (b : Bool) : coreHalted (setHalt s k b) k = b := by
  simp only [coreHalted, setHalt, Nat.not_le.mpr hk, if_false, hk, decide_true, Bool.true_and, bitOf, testBit_putBits_one]

theorem setHalt_mem (s : State) (k : Nat) (b : Bool) : (setHalt s k b).mem = s.mem := by
  rw [setHalt]
  split <;> rfl

/-! ## Registers of cores and pairs -/

theorem jtagCoreRead_x (s : State) (k : Nat) {r : Nat} (hr : r < 32) : jtagCoreRead s k r = s.jtagShift [(s.cpu k).getX r] := if_pos hr

theorem jtagCoreRead_pc (s : State) (k : Nat) : jtagCoreRead s k 64 = s.jtagShift [(s.cpu k).pc.toNat] := rfl

theorem jtagCoreWrite_x (s : State) (k v : Nat) {r : Nat} (hr : r < 32) : jtagCoreWrite s k r v = s.setCpu k ((s.cpu k).setX r v) := if_pos hr

theorem jtagLaneReg_x (s : State) (n : Nat) {r : Nat} (hr : r < 32) : jtagLaneReg s n r = s.jtagShift [(s.pair n).getX r] := if_pos hr

theorem jtagLaneReg_pc (s : State) (n : Nat) : jtagLaneReg s n 64 = s.jtagShift [(s.pair n).pc.toNat] := rfl

theorem jtagLaneView_of_word {s a : State} {n off w : Nat} (h : viewWord s (pairGroup s n) (off / 4 * 4 % 0x1000000) = (w, a)) :
    jtagLaneView s n off = a.jtagShift [w] := by
  rw [jtagLaneView, h]

/-! ## Lane memories (R218, R462) -/

section
variable {s : State} {a n t : Nat} (hat : laneAt s a n = some t)
include hat

theorem jtagLaneRead_of_closed (hclosed : laneMemOpen s t = false) : jtagLaneRead s a n = s := by
  simp only [jtagLaneRead, hat, hclosed, Bool.not_false, if_true]

theorem jtagLaneRead_of_open (hopen : laneMemOpen s t = true) (hue : laneUe s a n = 0) {b : State} (hb : b = laneCeCount s t (laneCe s a n)) :
    jtagLaneRead s a n = b.jtagShift (b.memBytes a n) := by
  simp only [jtagLaneRead, hat, hopen, hue, ← hb, Bool.not_true, Bool.false_eq_true, if_false, if_true]

variable {l : List Nat} (hl : l.length = n)
include hl

theorem jtagLaneWrite_of_closed (hclosed : laneMemOpen s t = false) : jtagLaneWrite s a l = s := by
  simp only [jtagLaneWrite, hl, hat, hclosed, Bool.false_eq_true, if_false]

theorem jtagLaneWrite_of_open (hopen : laneMemOpen s t = true) :
    jtagLaneWrite s a l = clearMeasured (laneMemWrite s a l) t (a % 0x100000) n := by
  simp only [jtagLaneWrite, hl, hat, hopen, if_true]

end

/-! ## The operations -/

/-- Where debug is not permitted no operation on cores or the fabric has an effect (R441). -/
theorem jtagDo_of_closed {s : State} (hclosed : debugOpen s = false) (k r v a n : Nat) (l : List Nat) :
    jtagDo s (.coreHalt k) = s ∧ jtagDo s (.coreResume k) = s ∧ jtagDo s (.coreRead k r) = s ∧ jtagDo s (.coreWrite k r v) = s
      ∧ jtagDo s (.coreLoad k a n) = s ∧ jtagDo s (.coreStore k a l) = s ∧ jtagDo s (.fabRead a n) = s ∧ jtagDo s (.fabWrite a l) = s := by
  simp only [jtagDo, whenDebug_of_closed hclosed, ite_self, and_self]

section
variable {s : State} (hopen : debugOpen s = true)
include hopen

theorem jtagDo_coreHalt (k : Nat) : jtagDo s (.coreHalt k) = setHalt s k true := whenDebug_of_open hopen _

theorem jtagDo_coreResume (k : Nat) : jtagDo s (.coreResume k) = setHalt s k false := whenDebug_of_open hopen _

theorem jtagDo_laneTriggers {n : Nat} (hn : n < 24) (g : List (Bool × Nat)) :
    jtagDo s (.laneTriggers n g) = s.setPair n { s.pair n with trigs := (g.take 4).map fun t => { onData := t.1, addr := t.2 % 2 ^ 32 } } := by
  have hpair : ¬ lanePairs ≤ n := Nat.not_le.mpr hn
  simp only [jtagDo, whenDebug_of_open hopen, jtagTriggers, hpair, if_false]

theorem jtagDo_fabRead (a : Nat) {n : Nat} (hn : n ≠ 0) :
    jtagDo s (.fabRead a n) = jtagGot (fabRead s initJtag 0 kindRead (a % 2 ^ 36) n) := by
  simp only [jtagDo, hn, if_false, whenDebug_of_open hopen]

theorem jtagDo_fabWrite (a : Nat) {l : List Nat} (hl : l ≠ []) : jtagDo s (.fabWrite a l) = (fabWrite s initJtag 0 (a % 2 ^ 36) l).2 := by
  simp only [jtagDo, hl, if_false, whenDebug_of_open hopen]

section
variable {k : Nat} (hhalt : coreHalted s k = true)
include hhalt

theorem jtagDo_coreRead (r : Nat) : jtagDo s (.coreRead k r) = jtagCoreRead s k r := by
  simp only [jtagDo, hhalt, if_true, whenDebug_of_open hopen]

theorem jtagDo_coreWrite (r v : Nat) : jtagDo s (.coreWrite k r v) = jtagCoreWrite s k r v := by
  simp only [jtagDo, hhalt, if_true, whenDebug_of_open hopen]

theorem jtagDo_coreLoad (a : Nat) {n : Nat} (hn : n ≠ 0) :
    jtagDo s (.coreLoad k a n) = jtagGot (fabRead s initCore (s.cpu k).txTag kindRead (a % 2 ^ 36) n) := by
  simp only [jtagDo, hhalt, hn, ne_eq, not_false_eq_true, decide_true, Bool.and_self, if_true, whenDebug_of_open hopen]

theorem jtagDo_coreStore (a : Nat) {l : List Nat} (hl : l ≠ []) :
    jtagDo s (.coreStore k a l) = (fabWrite s initCore (s.cpu k).txTag (a % 2 ^ 36) l).2 := by
  simp only [jtagDo, hhalt, hl, ne_eq, not_false_eq_true, decide_true, Bool.and_self, if_true, whenDebug_of_open hopen]

end

end

/-- Settles O60: every recovery request by whether BOOT takes it, is busy, and its operands; every JTAG operation by where it is permitted. -/
theorem recoveryAndJtag : Obligations.RecoveryAndJtag := by
  intro s
  refine ⟨fun hlive => ⟨fun f c hno => ?notTaken, fun f c m htakes hpay hlen => ⟨fun hbusy => ?busy, fun hfree => ?free⟩, fun f m st d => ?reply⟩,
    exec_jtag rfl, exec_jtag rfl, fun l v a hfree => ⟨?preload, fun hsealed => ?sealed, fun hnot => ?scan⟩, exec_testScan_of_closed,
    fun hclosed k r v a n l => ?closed, fun hopen => ⟨fun k hk => ⟨?halt, ?resume, fun hhalt => ?core⟩, fun a n hn => exec_jtag (jtagDo_fabRead hopen a hn),
      fun a l hl => exec_jtag (jtagDo_fabWrite hopen a hl), fun n hn => ⟨fun g => exec_jtag (jtagDo_laneTriggers hopen hn g), fun hhalt => ?pair⟩⟩,
    fun a n t hat => ⟨fun hclosed => exec_jtag (jtagLaneRead_of_closed hat hclosed), fun hmem hue b hb => exec_jtag (jtagLaneRead_of_open hat hmem hue hb),
      fun l hl => ⟨fun hclosed => exec_jtag (jtagLaneWrite_of_closed hat hl hclosed), fun hmem => exec_jtag (jtagLaneWrite_of_open hat hl hmem)⟩⟩⟩
  case notTaken =>
    refine ⟨?_, ?_, ?_, ?_, ?_, ?_, ?_, ?_⟩ <;> exact exec_request_of_not_taken rfl hlive hno
  case busy =>
    refine ⟨?_, ?_, ?_⟩ <;> exact exec_request_of_busy rfl hlive htakes hpay hlen hbusy
  case free =>
    refine ⟨fun hop => ?info, fun hop hbad => ?stageBad, fun a hop hfit hoff hfour hw => ?staged, fun a pair hop hoff hfit hidle ha => ?apply,
      fun hbusy => ⟨fun hop => ?rootBusy, fun hop => ?saveBusy⟩, fun k a hop hidle hlc hk hset hroot ha => ?root, fun a hop hidle hlc ha => ?save,
      fun hop hbad => ?programBad, fun b a hop hslot hsize hread => ⟨fun hno => ?notApproved, fun hok hform => ?badForm, fun hok hform => ?programs⟩,
      fun hop => ?reboot⟩
    case info => exact exec_request_of_free rfl hlive htakes hpay hlen hfree hop rfl
    case stageBad => exact exec_request_of_free rfl hlive htakes hpay hlen hfree hop (recoveryStage_of_bad hbad)
    case staged => exact exec_request_of_free rfl hlive htakes hpay hlen hfree hop (recoveryStage_of_written hfit hoff hfour hw)
    case apply =>
      have hexec : exec (if pair then .recoveryApprove f c else .keymsg f c) s = .next (recoveryApply s f m pair) := by
        cases pair
        · exact exec_request_of_free rfl hlive htakes hpay hlen hfree hop rfl
        · exact exec_request_of_free rfl hlive htakes hpay hlen hfree hop rfl
      rw [hexec, recoveryApply_of_placed hoff hfit]
      exact ⟨fun hbegun => by rw [recoveryKeys_of_begun hidle ha hbegun], fun href => by rw [recoveryKeys_of_refused hidle ha href]⟩
    case rootBusy => exact exec_request_of_free rfl hlive htakes hpay hlen hfree hop (recoveryKeys_of_busy _ hbusy)
    case saveBusy => exact exec_request_of_free rfl hlive htakes hpay hlen hfree hop (recoveryKeys_of_busy _ hbusy)
    case root => exact exec_request_of_free rfl hlive htakes hpay hlen hfree hop (recoveryRoot_of_root hidle hlc hk hset hroot ha)
    case save => exact exec_request_of_free rfl hlive htakes hpay hlen hfree hop (recoverySave_begins hidle hlc ha)
    case programBad => exact exec_request_of_free rfl hlive htakes hpay hlen hfree hop (recoveryProgram_of_out_of_range hbad)
    case notApproved => exact exec_request_of_free rfl hlive htakes hpay hlen hfree hop (recoveryProgram_of_not_approved hslot hsize hread hno)
    case badForm => exact exec_request_of_free rfl hlive htakes hpay hlen hfree hop (recoveryProgram_of_bad_form hslot hsize hread hok hform)
    case programs => exact exec_request_of_free rfl hlive htakes hpay hlen hfree hop (recoveryProgram_begins hslot hsize hread hok hform)
    case reboot => exact ⟨_, exec_request_of_free rfl hlive htakes hpay hlen hfree hop rfl, recoveryReboot_resets s f m⟩
  case reply => exact ⟨_, rfl, rfl, rfl, rfl⟩
  case preload => exact exec_jtag (boundaryScan_of_free _ l hfree)
  case sealed => exact ⟨exec_jtag (if_pos hsealed), exec_jtag (if_pos hsealed)⟩
  case scan =>
    exact ⟨exec_jtag ((if_neg hnot).trans (boundaryScan_of_free _ l hfree)), exec_jtag ((if_neg hnot).trans (boundaryScan_of_free _ l hfree))⟩
  case closed =>
    obtain ⟨hhalt, hresume, hread, hwrite, hload, hstore, hfabRead, hfabWrite⟩ := jtagDo_of_closed hclosed k r v a n l
    exact ⟨exec_jtag hhalt, exec_jtag hresume, exec_jtag hread, exec_jtag hwrite, exec_jtag hload, exec_jtag hstore, exec_jtag hfabRead, exec_jtag hfabWrite⟩
  case halt => exact ⟨_, exec_jtag (jtagDo_coreHalt hopen k), coreHalted_setHalt s hk true, setHalt_mem s k true⟩
  case resume => exact ⟨_, exec_jtag (jtagDo_coreResume hopen k), coreHalted_setHalt s hk false, setHalt_mem s k false⟩
  case core =>
    exact ⟨fun r hr => exec_jtag ((jtagDo_coreRead hopen hhalt r).trans (jtagCoreRead_x s k hr)),
      fun r v hr => exec_jtag ((jtagDo_coreWrite hopen hhalt r v).trans (jtagCoreWrite_x s k v hr)),
      exec_jtag ((jtagDo_coreRead hopen hhalt 64).trans (jtagCoreRead_pc s k)), fun a n hn => exec_jtag (jtagDo_coreLoad hopen hhalt a hn),
      fun a l hl => exec_jtag (jtagDo_coreStore hopen hhalt a hl)⟩
  case pair =>
    have hshown (t : State) : whenHalted s n t = t := whenHalted_of_open hopen hn hhalt t
    exact ⟨exec_jtag (hshown _), exec_jtag ((hshown _).trans (jtagLaneReg_pc s n)), fun r hr => exec_jtag ((hshown _).trans (jtagLaneReg_x s n hr)),
      fun off w a hview => exec_jtag ((hshown _).trans (jtagLaneView_of_word hview))⟩

end Sys2Proof.Machine
end

section
/-! PROOFS. The publish blocks of the GOOSE engine: enables and disables, new states, retransmissions and REPUBLISH (R223, R227, R228, R230, R231, R554). -/

namespace Sys2Proof.Machine

theorem gblk_of_goose {s t : State} (h : t.goose = s.goose) (b : Nat) : t.gblk b = s.gblk b := by
  unfold State.gblk
  rw [h]

/-! ## Enables and disables -/

/-- The state in which a block's enable has been accepted. -/
def blockStarted (s : State) (b : Nat) : State :=
  let s := (s.setFlag F.GOOSE_B_CTL_EN true b).setGblk b GBlk.reset
  ({ s with twin := { s.twin with gseq := sparseDel b s.twin.gseq } }.setFld F.GOOSE_B_STNUM_VAL 0 b).setFld F.GOOSE_B_SQNUM_VAL 0 b

section
variable {s : State} {b : Nat} (hb : b < 512)
include hb

theorem gooseBlockEnable_of_refused (hoff : s.flag F.GOOSE_B_CTL_EN b = false) (hbad : gbRefused s b = true) :
    gooseBlockEnable s b = gbFlt s b F.GOOSE_B_FLT_CFG_REFUSED F.GOOSE_FLT_CFG_ERR := by
  simp [gooseBlockEnable, gooseBlocks, Nat.not_le.mpr hb, hoff, hbad]

theorem gooseBlockEnable_of_accepted (hoff : s.flag F.GOOSE_B_CTL_EN b = false) (hok : gbRefused s b = false) :
    gooseBlockEnable s b = blockStarted s b := by
  simp [gooseBlockEnable, gooseBlocks, Nat.not_le.mpr hb, hoff, hok, blockStarted]

theorem gooseBlockDisable_of_enabled (hon : s.flag F.GOOSE_B_CTL_EN b = true) :
    gooseBlockDisable s b = ({ s with goose := { s.goose with blocks := sparseDel b s.goose.blocks } }).setFlag F.GOOSE_B_CTL_EN false b := by
  simp [gooseBlockDisable, gooseBlocks, Nat.not_le.mpr hb, hon]

end

/-- A block that starts is enabled, has no dataset, and both its numbers are 0 (R227). -/
theorem blockStarted_spec (s : State) (b : Nat) :
    (blockStarted s b).flag F.GOOSE_B_CTL_EN b = true ∧ (blockStarted s b).gblk b = some GBlk.reset
      ∧ (blockStarted s b).fld F.GOOSE_B_STNUM_VAL b = 0 ∧ (blockStarted s b).fld F.GOOSE_B_SQNUM_VAL b = 0 ∧ (blockStarted s b).mem = s.mem := by
  refine ⟨?enabled, gblk_setGblk_same (s.setFlag F.GOOSE_B_CTL_EN true b) b GBlk.reset, ?stNum, fld_setFld_same .., rfl⟩
  case enabled =>
    rw [blockStarted, flag_setFld_apart _ _ _ _ (by decide), flag_setFld_apart _ _ _ _ (by decide)]
    exact flag_setFlag_same s _ true b rfl
  case stNum =>
    rw [blockStarted, fld_setFld_apart _ _ _ _ (by decide)]
    exact fld_setFld_same ..

/-! ## New states -/

/-- Whether this twin keeps a block off the network depends on the block's MODE and the twin's role alone (R237). -/
theorem gbSilent_congr {s t : State} {b : Nat} (hmode : t.fld F.GOOSE_B_CTL_MODE b = s.fld F.GOOSE_B_CTL_MODE b)
    (hrole : t.fld F.TWIN_STAT_LEADER = s.fld F.TWIN_STAT_LEADER) : gbSilent t b = gbSilent s b := by
  unfold gbSilent gbLeader isLeader State.flag
  rw [hmode, hrole]

/-- A block's record replaced and its new state counted. -/
def newStateCounted (s : State) (b : Nat) (v : GBlk) : State := (s.setGblk b v).count C.GOOSE_B_STATES b

/-- The overflow flag of a block's counters lies apart from its other fields. -/
theorem fld_newStateCounted (s : State) (b : Nat) (v : GBlk) {g : Fld} (j : Nat) (h : C.GOOSE_B_STATES.apart g = true) :
    (newStateCounted s b v).fld g j = s.fld g j :=
  fld_count_apart (s.setGblk b v) b j h

theorem newStateCounted_goose (s : State) (b : Nat) (v : GBlk) : (newStateCounted s b v).goose = (s.setGblk b v).goose :=
  State.count_goose ..

theorem ctr_newStateCounted (s : State) (b : Nat) (v : GBlk) :
    (newStateCounted s b v).ctr C.GOOSE_B_STATES b = min ctrMax (s.ctr C.GOOSE_B_STATES b + 1) :=
  ctr_count_same (s.setGblk b v) _ b

/-- A block that this twin sends takes its stNum, clears its sqNum and has its frame due at this edge (R228, R231). -/
theorem gbNewState_of_sent {s : State} {b : Nat} (d : List GEntry) (t : Nat × Nat × Nat) (st g : Option Nat) (hsent : gbSilent s b = false) :
    gbNewState s b d t st g =
      ((gbDue (newStateCounted s b { data := some d, tSec := t.1, tFrac := t.2.1, tQual := t.2.2, k := 0, due := some s.time.sys, repub := false }) b g).setFld
        F.GOOSE_B_STNUM_VAL (st.getD (gnInc (s.fld F.GOOSE_B_STNUM_VAL b))) b).setFld F.GOOSE_B_SQNUM_VAL 0 b := by
  have hcounted (v : GBlk) : gbSilent (newStateCounted s b v) b = false := by
    rw [gbSilent_congr (fld_newStateCounted s b v b (by decide)) (fld_newStateCounted s b v 0 (by decide)), hsent]
  have hstNum (v : GBlk) : (newStateCounted s b v).fld F.GOOSE_B_STNUM_VAL b = s.fld F.GOOSE_B_STNUM_VAL b := fld_newStateCounted s b v b (by decide)
  simp only [newStateCounted] at hcounted hstNum ⊢
  simp only [gbNewState, hsent, hcounted, hstNum, Bool.false_eq_true, if_false]

/-- What a new state shows of a block that this twin sends. -/
theorem gbNewState_spec {s : State} {b : Nat} (d : List GEntry) (t : Nat × Nat × Nat) (st g : Option Nat) (hsent : gbSilent s b = false) :
    (gbNewState s b d t st g).fld F.GOOSE_B_SQNUM_VAL b = 0
      ∧ (gbNewState s b d t st g).fld F.GOOSE_B_STNUM_VAL b = st.getD (gnInc (s.fld F.GOOSE_B_STNUM_VAL b)) % 2 ^ 32
      ∧ (gbNewState s b d t st g).gblk b
          = some { data := some d, tSec := t.1, tFrac := t.2.1, tQual := t.2.2, k := 0, due := some s.time.sys, repub := false }
      ∧ (gbNewState s b d t st g).goose.out = s.goose.out.filter (fun e => e.1 ≠ b) ++ [(b, g)]
      ∧ (gbNewState s b d t st g).ctr C.GOOSE_B_STATES b = min ctrMax (s.ctr C.GOOSE_B_STATES b + 1) := by
  rw [gbNewState_of_sent d t st g hsent]
  refine ⟨fld_setFld_same .., ?stNum, ?block, ?out, ctr_newStateCounted s b _⟩
  case stNum =>
    rw [fld_setFld_apart _ _ _ _ (by decide)]
    exact fld_setFld_same ..
  case block =>
    show (newStateCounted s b _).gblk b = _
    rw [gblk_of_goose (newStateCounted_goose s b _), gblk_setGblk_same]
  case out =>
    show (newStateCounted s b _).goose.out.filter _ ++ _ = _
    rw [newStateCounted_goose]
    rfl

/-! ## Retransmissions -/

theorem gbRetransmit_of_enabled {s : State} {b : Nat} {v : GBlk} (hv : s.gblk b = some v) :
    gbRetransmit s b = gbDue ((s.setGblk b { v with k := v.k + 1 }).setFld F.GOOSE_B_SQNUM_VAL (gnInc (s.fld F.GOOSE_B_SQNUM_VAL b)) b) b none := by
  simp only [gbRetransmit, hv]

/-- A retransmission steps the schedule and sqNum, leaves stNum, and makes the block's frame due (R228, R230). -/
theorem gbRetransmit_spec {s : State} {b : Nat} {v : GBlk} (hv : s.gblk b = some v) :
    (gbRetransmit s b).gblk b = some { v with k := v.k + 1 }
      ∧ (gbRetransmit s b).fld F.GOOSE_B_SQNUM_VAL b = gnInc (s.fld F.GOOSE_B_SQNUM_VAL b) % 2 ^ 32
      ∧ (gbRetransmit s b).fld F.GOOSE_B_STNUM_VAL b = s.fld F.GOOSE_B_STNUM_VAL b
      ∧ (gbRetransmit s b).goose.out = s.goose.out.filter (fun e => e.1 ≠ b) ++ [(b, none)] := by
  rw [gbRetransmit_of_enabled hv]
  exact ⟨gblk_setGblk_same s b _, fld_setFld_same (s.setGblk b _) .., fld_setFld_apart (s.setGblk b _) _ _ _ (by decide), rfl⟩

section
variable {s : State} {b e : Nat} {v : GBlk} (hv : s.gblk b = some v) (hdue : v.due = some e)
include hv hdue

theorem gooseRetransmit_of_early (hearly : s.time.sys < e) : gooseRetransmit s b = s := by
  simp only [gooseRetransmit, hv, Option.bind_some, hdue, hearly, decide_true, Bool.true_or, if_true]

/-- A block whose frame is due already, for a new state, is not sent again at the edge (R231). -/
theorem gooseRetransmit_of_frame_due (hframe : gbIsDue s b = true) : gooseRetransmit s b = s := by
  simp only [gooseRetransmit, hv, Option.bind_some, hdue, hframe, Bool.or_true, if_true]

theorem gooseRetransmit_of_due (hlate : e ≤ s.time.sys) (hno : gbIsDue s b = false) :
    gooseRetransmit s b =
      ((enabledBlocks s).filter fun c => decide ((s.gblk c).bind GBlk.due = some e) && !gbIsDue s c).foldl gbRetransmit s := by
  simp only [gooseRetransmit, hv, Option.bind_some, hdue, Nat.not_lt.mpr hlate, hno, decide_false, Bool.or_self, Bool.false_eq_true, if_false]

end

/-! ## REPUBLISH -/

theorem republish_of_sel {s : State} {b : Nat} {v : GBlk} (hkind : s.fld F.GOOSE_SEL_KIND = 0) (hindex : s.fld F.GOOSE_SEL_INDEX = b)
    (hv : s.gblk b = some v) : republish s = if gbSilent s b then s else s.setGblk b { v with repub := true } := by
  simp only [republish, hkind, hindex, hv, ne_eq, not_true_eq_false, if_false]

/-- Settles O38: each command on a block is the lemma about its own operation, taken at a device out of reset. -/
theorem gooseBlocksPublish : Obligations.GooseBlocksPublish := by
  intro s b hlive hb
  simp only [exec_gooseBlockEnable, execGooseBlockEnable, exec_gooseBlockDisable, execGooseBlockDisable, exec_gooseRetransmit, execGooseRetransmit,
    exec_republish, execRepublish, live_of_not_held hlive]
  refine ⟨?refused, ?accepted, ?disabled, ?newState, ?retransmit, ?sent, ?republish⟩
  case refused =>
    intro hoff hbad
    rw [gooseBlockEnable_of_refused hb hoff hbad]
    rfl
  case accepted =>
    intro hoff hok
    rw [gooseBlockEnable_of_accepted hb hoff hok]
    exact ⟨_, rfl, blockStarted_spec s b⟩
  case disabled =>
    intro hon
    rw [gooseBlockDisable_of_enabled hb hon]
    exact ⟨_, rfl, flag_setFlag_same _ _ false b rfl, rfl, rfl, rfl⟩
  case newState =>
    rintro d t st g u hsent rfl
    exact gbNewState_spec d t st g hsent
  case retransmit =>
    intro v e hv hdue
    exact ⟨fun hearly => by rw [gooseRetransmit_of_early hv hdue hearly], fun hframe => by rw [gooseRetransmit_of_frame_due hv hdue hframe],
      fun hlate hno => by rw [gooseRetransmit_of_due hv hdue hlate hno]⟩
  case sent =>
    rintro v t hv rfl
    exact gbRetransmit_spec hv
  case republish =>
    intro v hkind hindex hv
    rw [republish_of_sel hkind hindex hv]
    exact ⟨fun hsent => by rw [if_neg (by simp [hsent])], fun hsilent => by rw [if_pos hsilent]⟩

end Sys2Proof.Machine
end

section
/-! PROOFS. GOOSE subscriptions: enables and disables, frames, updates, expiry and CLR_SIM (R241 to R251). -/

namespace Sys2Proof.Machine

theorem gsub_of_goose {s t : State} (h : t.goose = s.goose) (i : Nat) : t.gsub i = s.gsub i := by
  unfold State.gsub
  rw [h]

/-- A subscription's flags are set as a stream's are: its own, then that of the device. -/
theorem gsFlt_eq_streamFlt (s : State) (i : Nat) (f dev : Fld) : gsFlt s i f dev = streamFlt s i f dev := rfl

section
variable (s : State) (i : Nat) (f dev : Fld)

@[simp] theorem gsFlt_goose : (gsFlt s i f dev).goose = s.goose := by simp [gsFlt]

@[simp] theorem gsFlt_mem : (gsFlt s i f dev).mem = s.mem := by rw [gsFlt_eq_streamFlt, streamFlt_mem]

theorem ctr_gsFlt_apart {c : Ctr} (j : Nat) (h : [0, 14].contains (c.blk % 32) = false) : (gsFlt s i f dev).ctr c j = s.ctr c j :=
  ctr_setFlt_apart (s.setFlag f true i) dev j h

end

/-! ## A change of state (R249) -/

section
variable (s : State) (i new : Nat)

/-- A change of state touches the state's own field and, where it is recorded, the event log. -/
theorem gsEnter_touches : Touches [F.GOOSE_S_STAT_STATE.key i] [] logBlks s (gsEnter s i new) := by
  unfold gsEnter
  have hset : Touches [F.GOOSE_S_STAT_STATE.key i] [] logBlks s (s.setFld F.GOOSE_S_STAT_STATE new i) :=
    (Touches.refl _ _ _ s).setFld (.inl (List.mem_singleton_self _))
  exact Touches.ite (Touches.refl _ _ _ s) (Touches.ite (hset.event (fun _ h => h) _ _ _ _ _ _) hset)

@[simp] theorem gsEnter_mem : (gsEnter s i new).mem = s.mem := (gsEnter_touches s i new).mem

@[simp] theorem gsEnter_goose : (gsEnter s i new).goose = s.goose := by rw [(gsEnter_touches s i new).rest]

theorem fld_gsEnter_apart {g : Fld} (j : Nat) (h : g.apart F.GOOSE_S_STAT_STATE = true) (hb : logBlks.contains (g.blk % 32) = false) :
    (gsEnter s i new).fld g j = s.fld g j :=
  (gsEnter_touches s i new).fld (by simpa using Fld.apart_key h j i) (by rw [keyBlk_key]; simpa using hb)

theorem flag_gsEnter_apart {g : Fld} (j : Nat) (h : g.apart F.GOOSE_S_STAT_STATE = true) (hb : logBlks.contains (g.blk % 32) = false) :
    (gsEnter s i new).flag g j = s.flag g j := by
  unfold State.flag
  rw [fld_gsEnter_apart s i new j h hb]

theorem ctr_gsEnter_apart {c : Ctr} (j : Nat) (hb : logBlks.contains (c.blk % 32) = false) : (gsEnter s i new).ctr c j = s.ctr c j :=
  (gsEnter_touches s i new).ctr (by simp) (by rw [ctrBlk_key]; simpa using hb)

theorem gsState_gsEnter (hnew : new < 8) : gsState (gsEnter s i new) i = new := by
  have hset : (s.setFld F.GOOSE_S_STAT_STATE new i).fld F.GOOSE_S_STAT_STATE i = new := by
    rw [fld_setFld_same]
    exact Nat.mod_eq_of_lt hnew
  unfold gsEnter
  dsimp only
  split
  case isTrue hold => exact hold
  case isFalse =>
    split
    · exact (fld_event_apart _ _ _ _ _ _ _ _ (by decide)).trans hset
    · exact hset

end

/-! ## Keeping the record (R199) -/

/-- Keeping the record changes the GOOSE engine's side of the machine alone. -/
theorem gsKeep_goose_only (s : State) (i : Nat) : ∃ x, gsKeep s i = { s with goose := x } := by
  unfold gsKeep
  split
  · split
    · exact ⟨s.goose, rfl⟩
    · exact ⟨_, rfl⟩
  · exact ⟨s.goose, rfl⟩

theorem gsKeep_cnts (s : State) (i : Nat) : (gsKeep s i).cnts = s.cnts := by
  obtain ⟨x, hx⟩ := gsKeep_goose_only s i
  rw [hx]

@[simp] theorem gsKeep_mem (s : State) (i : Nat) : (gsKeep s i).mem = s.mem := by
  obtain ⟨x, hx⟩ := gsKeep_goose_only s i
  rw [hx]

/-- Of a subscription only the record kept and its edge change. -/
theorem gsub_gsKeep {s : State} {i : Nat} {v : GSub} (hv : s.gsub i = some v) :
    ∃ edge rec, (gsKeep s i).gsub i = some { v with oldEdge := edge, old := rec } := by
  simp only [gsKeep, hv]
  split
  · exact ⟨v.oldEdge, v.old, hv⟩
  · exact ⟨_, _, gsub_setGsub_same s i _⟩

/-! ## Enables and disables -/

/-- The state in which a subscription's enable has been accepted, before it enters WAIT: its record as a window starting now sees it is kept. -/
def subEnabled (s : State) (i : Nat) : State :=
  (s.setFlag F.GOOSE_S_CTL_EN true i).setGsub i { GSub.reset with oldEdge := s.time.sys, old := gsRecord s i }

section
variable {s : State} {i : Nat} (hi : i < 1024)
include hi

theorem gooseSubEnable_of_refused (hoff : s.flag F.GOOSE_S_CTL_EN i = false) (hbad : gsRefused s i = true) :
    gooseSubEnable s i = gsFlt s i F.GOOSE_S_FLT_CFG_REFUSED F.GOOSE_FLT_CFG_ERR := by
  simp [gooseSubEnable, gooseSubs, Nat.not_le.mpr hi, hoff, hbad]

theorem gooseSubEnable_of_accepted (hoff : s.flag F.GOOSE_S_CTL_EN i = false) (hok : gsRefused s i = false) :
    gooseSubEnable s i = gsEnter (subEnabled s i) i subWait := by
  simp [gooseSubEnable, gooseSubs, Nat.not_le.mpr hi, hoff, hok, subEnabled]

theorem gooseSubDisable_of_enabled (hon : s.flag F.GOOSE_S_CTL_EN i = true) :
    gooseSubDisable s i = { gsEnter (s.setFlag F.GOOSE_S_CTL_EN false i) i subDisabled with
      goose := { s.goose with subs := sparseDel i s.goose.subs } } := by
  simp [gooseSubDisable, gooseSubs, Nat.not_le.mpr hi, hon]

end

/-- A subscription that enters WAIT after its enable holds nothing yet (R242, R249). -/
theorem subEnabled_waits (s : State) (i : Nat) :
    (gsEnter (subEnabled s i) i subWait).flag F.GOOSE_S_CTL_EN i = true ∧ gsState (gsEnter (subEnabled s i) i subWait) i = 1
      ∧ (gsEnter (subEnabled s i) i subWait).gsub i = some { GSub.reset with oldEdge := s.time.sys, old := gsRecord s i }
      ∧ (gsEnter (subEnabled s i) i subWait).mem = s.mem := by
  refine ⟨?enabled, gsState_gsEnter _ i subWait (by decide), ?record, gsEnter_mem _ i _⟩
  case enabled =>
    rw [flag_gsEnter_apart _ _ _ _ (by decide) (by decide)]
    exact flag_setFlag_same s _ true i rfl
  case record => rw [gsub_of_goose (gsEnter_goose _ i _), subEnabled, gsub_setGsub_same]

/-- A disabled subscription stands in DISABLED without a record. -/
theorem gooseSubDisable_spec {s : State} {i : Nat} (hi : i < 1024) (hon : s.flag F.GOOSE_S_CTL_EN i = true) :
    (gooseSubDisable s i).flag F.GOOSE_S_CTL_EN i = false ∧ gsState (gooseSubDisable s i) i = 0
      ∧ (gooseSubDisable s i).goose.subs = sparseDel i s.goose.subs ∧ (gooseSubDisable s i).mem = s.mem := by
  rw [gooseSubDisable_of_enabled hi hon]
  have hoff : (gsEnter (s.setFlag F.GOOSE_S_CTL_EN false i) i subDisabled).flag F.GOOSE_S_CTL_EN i = false := by
    rw [flag_gsEnter_apart _ _ _ _ (by decide) (by decide), flag_setFlag_same s _ false i rfl]
  exact ⟨hoff, gsState_gsEnter _ i subDisabled (by decide), rfl, gsEnter_mem _ i _⟩

/-! ## Frames -/

/-- The state in which the frame at the head of the GOOSE port, before `rest`, has been taken and counted. -/
def gooseFrameTaken (s : State) (rest : List RxFrame) : State := ({ s with goose := { s.goose with inbox := rest } }).count C.GOOSE_FRAMES_RX

section
variable (s : State) (rest : List RxFrame)

theorem gooseFrameTaken_subs : (gooseFrameTaken s rest).goose.subs = s.goose.subs := by rw [gooseFrameTaken, State.count_goose]

theorem fld_gooseFrameTaken {g : Fld} (j : Nat) (h : C.GOOSE_FRAMES_RX.apart g = true) : (gooseFrameTaken s rest).fld g j = s.fld g j :=
  fld_count_apart _ _ _ h

/-- The overflow flag of FRAMES_RX lies outside the subscription windows. -/
theorem fld_gooseFrameTaken_window {g : Fld} (j : Nat) (h : g.kind = 2) : (gooseFrameTaken s rest).fld g j = s.fld g j :=
  fld_gooseFrameTaken s rest j (by simp [Ctr.apart, Fld.apart, C.GOOSE_FRAMES_RX, F.GOOSE_CNTOVF_DEV_OVF, h])

theorem gooseEn_gooseFrameTaken : gooseEn (gooseFrameTaken s rest) = s.flag F.GOOSE_CTRL_EN := by
  unfold gooseEn State.flag
  rw [fld_gooseFrameTaken s rest 0 (by decide)]

end

/-- Whether a frame matches a subscription depends on the subscription's own registers alone (R241). -/
theorem gsMatches_congr {s t : State} (h : ∀ (g : Fld) (j : Nat), g.kind = 2 → t.fld g j = s.fld g j) (i : Nat) (f : Frame) (p : GoosePdu) :
    gsMatches t i f p = gsMatches s i f p := by
  have hgocb (w : Nat) : t.fld (F.GOOSE_S_GOCB_GOCB.el w) i = s.fld (F.GOOSE_S_GOCB_GOCB.el w) i := h _ i rfl
  unfold gsMatches State.flag
  simp only [hgocb, h F.GOOSE_S_CTL_LEN i rfl, h F.GOOSE_S_DA_HI_DA i rfl, h F.GOOSE_S_DA_LO_DA i rfl, h F.GOOSE_S_ID_APPID i rfl,
    h F.GOOSE_S_CTL_VID_EN i rfl, h F.GOOSE_S_ID_VID i rfl]

theorem gsMatches_gooseFrameTaken (s : State) (rest : List RxFrame) (i : Nat) (f : Frame) (p : GoosePdu) :
    gsMatches (gooseFrameTaken s rest) i f p = gsMatches s i f p :=
  gsMatches_congr (fun _ j hg => fld_gooseFrameTaken_window s rest j hg) i f p

section
variable {s : State} {r : RxFrame} {rest : List RxFrame} (hhead : s.goose.inbox = r :: rest)
include hhead

theorem gooseFrameRx_of_off (hoff : s.flag F.GOOSE_CTRL_EN = false) : gooseFrameRx s = (gooseFrameTaken s rest).count C.GOOSE_DISABLED_DROP := by
  have hen : gooseEn (gooseFrameTaken s rest) = false := by rw [gooseEn_gooseFrameTaken, hoff]
  simp only [gooseFrameTaken] at hen ⊢
  simp only [gooseFrameRx, hhead, hen, Bool.not_false, if_true]

/-- With the engine enabled the frame is processed for each enabled subscription that it matches, in turn. -/
theorem gooseFrameRx_of_on {p : GoosePdu} {l : List Nat} (hon : s.flag F.GOOSE_CTRL_EN = true) (hgoose : r.frame.payload = .goose p)
    (hl : l = (s.goose.subs.map Prod.fst).filter fun i => gsMatches s i r.frame p) :
    gooseFrameRx s = if l.isEmpty then (gooseFrameTaken s rest).count C.GOOSE_UNMATCHED
      else l.foldl (fun s i => gsFrame s r.frame r.stamp p i) (gooseFrameTaken s rest) := by
  have hen : gooseEn (gooseFrameTaken s rest) = true := by rw [gooseEn_gooseFrameTaken, hon]
  have hmatched : ((gooseFrameTaken s rest).goose.subs.map Prod.fst).filter (fun i => gsMatches (gooseFrameTaken s rest) i r.frame p) = l := by
    simp only [gooseFrameTaken_subs, gsMatches_gooseFrameTaken, hl]
  simp only [gooseFrameTaken] at hen hmatched ⊢
  simp only [gooseFrameRx, hhead, hen, hgoose, hmatched, Bool.not_true, Bool.false_eq_true, if_false]

end

/-! ## Update edges (R247, R250) -/

/-- The state in which a waiting frame of a subscription has reached its update edge: the frame waits no more, and the record is kept. -/
def updTaken (s : State) (i : Nat) (v : GSub) (u : GUpd) : State := gsKeep (s.setGsub i { v with upd := v.upd.erase u }) i

theorem gsub_updTaken (s : State) (i : Nat) (v : GSub) (u : GUpd) :
    ∃ edge rec, (updTaken s i v u).gsub i = some { v with upd := v.upd.erase u, oldEdge := edge, old := rec } :=
  gsub_gsKeep (gsub_setGsub_same s i _)

theorem updTaken_mem (s : State) (i : Nat) (v : GSub) (u : GUpd) : (updTaken s i v u).mem = s.mem := gsKeep_mem _ i

/-- A state that a subscription enters with a new record shows both. -/
theorem gsEnter_setGsub (s : State) (i : Nat) (w : GSub) {new : Nat} (hnew : new < 8) :
    gsState (gsEnter (s.setGsub i w) i new) i = new ∧ (gsEnter (s.setGsub i w) i new).gsub i = some w ∧ (gsEnter (s.setGsub i w) i new).mem = s.mem :=
  ⟨gsState_gsEnter _ i new hnew, by rw [gsub_of_goose (gsEnter_goose _ i _), gsub_setGsub_same], gsEnter_mem _ i _⟩

/-- A subscription's flags leave its state, its record and the memories, and show the event that set them. -/
theorem gsFlt_spec (s : State) (i : Nat) {f dev : Fld} (hf : F.GOOSE_S_STAT_STATE.apart f = true) (hdev : F.GOOSE_S_STAT_STATE.apart dev = true)
    (hfd : f.apart dev = true) (hfw : f.width = 1) (hdw : dev.width = 1) (hfb : f.blk = 7) (hdb : dev.blk = 7) :
    gsState (gsFlt s i f dev) i = gsState s i ∧ (gsFlt s i f dev).gsub i = s.gsub i ∧ (gsFlt s i f dev).flag f i = true
      ∧ (gsFlt s i f dev).flag dev = true ∧ (gsFlt s i f dev).mem = s.mem := by
  refine ⟨?state, gsub_of_goose (gsFlt_goose s i f dev) i, ?own, ?device, gsFlt_mem s i f dev⟩
  case state =>
    rw [gsState, gsFlt_eq_streamFlt]
    exact fld_streamFlt_apart s i i hf hdev (by decide)
  case own =>
    rw [gsFlt_eq_streamFlt]
    exact flag_streamFlt_stream s i hfw hfd (by rw [hfb]; decide)
  case device =>
    rw [gsFlt_eq_streamFlt]
    exact flag_streamFlt_dev s i hdw (by rw [hdb]; decide)

section
variable {s : State} {i : Nat} {v w : GSub} {u : GUpd} (hv : s.gsub i = some v) (hdue : v.upd.find? (fun u => decide (u.due ≤ (s.devT : Int))) = some u)
  (hw : (updTaken s i v u).gsub i = some w)
include hv hdue hw

theorem gooseSubUpdate_of_accepted (hok : u.mism = false) :
    gooseSubUpdate s i = gsEnter ((updTaken s i v u).setGsub i (gsTake (updTaken s i v u) i u w)) i subValid := by
  simp only [updTaken] at hw ⊢
  simp only [gooseSubUpdate, hv, hdue, hw, hok, Bool.false_eq_true, if_false]

theorem gooseSubUpdate_of_mismatch (hmism : u.mism = true) :
    gooseSubUpdate s i =
      gsFlt (gsEnter ((updTaken s i v u).setGsub i { w with expiry := none }) i subMismatch) i F.GOOSE_S_FLT_MISMATCH F.GOOSE_FLT_MISMATCH := by
  simp only [updTaken] at hw ⊢
  simp only [gooseSubUpdate, hv, hdue, hw, hmism, if_true]

/-- At its update edge an accepted frame's values are in the record and the state is VALID. -/
theorem gooseSubUpdate_takes (hok : u.mism = false) :
    gsState (gooseSubUpdate s i) i = 2 ∧ (gooseSubUpdate s i).gsub i = some (gsTake (updTaken s i v u) i u w) ∧ (gooseSubUpdate s i).mem = s.mem := by
  rw [gooseSubUpdate_of_accepted hv hdue hw hok, ← updTaken_mem s i v u]
  exact gsEnter_setGsub _ i _ (by decide)

/-- At its update edge a frame that mismatches leaves the subscription in MISMATCH, flagged and without an expiry. -/
theorem gooseSubUpdate_mismatches (hmism : u.mism = true) :
    gsState (gooseSubUpdate s i) i = 4 ∧ (gooseSubUpdate s i).gsub i = some { w with expiry := none }
      ∧ (gooseSubUpdate s i).flag F.GOOSE_S_FLT_MISMATCH i = true ∧ (gooseSubUpdate s i).flag F.GOOSE_FLT_MISMATCH = true
      ∧ (gooseSubUpdate s i).mem = s.mem := by
  rw [gooseSubUpdate_of_mismatch hv hdue hw hmism, ← updTaken_mem s i v u]
  obtain ⟨hstate, hrecord, hmem⟩ := gsEnter_setGsub (updTaken s i v u) i { w with expiry := none } (new := subMismatch) (by decide)
  obtain ⟨hstateKept, hrecordKept, hown, hdev, hmemKept⟩ :=
    gsFlt_spec (gsEnter ((updTaken s i v u).setGsub i { w with expiry := none }) i subMismatch) i (f := F.GOOSE_S_FLT_MISMATCH)
      (dev := F.GOOSE_FLT_MISMATCH) (by decide) (by decide) (by decide) rfl rfl rfl rfl
  exact ⟨hstateKept.trans hstate, hrecordKept.trans hrecord, hown, hdev, hmemKept.trans hmem⟩

end

/-! ## Expiry (R248) -/

section
variable {s : State} {i : Nat} {v : GSub} {e : Int} (hv : s.gsub i = some v) (hexp : v.expiry = some e)
include hv hexp

theorem gooseSubExpiry_of_early (hearly : (s.devT : Int) < e) : gooseSubExpiry s i = s := by
  simp only [gooseSubExpiry, hv, hexp, hearly, decide_true, Bool.or_true, if_true]

theorem gooseSubExpiry_of_due (hvalid : gsState s i = 2) (hdue : e ≤ (s.devT : Int)) :
    gooseSubExpiry s i = gsFlt ((gsEnter (gsKeep s i) i subStale).count C.GOOSE_S_STALES i) i F.GOOSE_S_FLT_STALE F.GOOSE_FLT_STALE := by
  simp only [gooseSubExpiry, hv, hexp, hvalid, subValid, Int.not_lt.mpr hdue, ne_eq, not_true_eq_false, decide_false, Bool.or_self, Bool.false_eq_true,
    if_false]

end

/-- The entry to STALE is counted once. -/
theorem ctr_staleCounted (s : State) (i : Nat) :
    ((gsEnter (gsKeep s i) i subStale).count C.GOOSE_S_STALES i).ctr C.GOOSE_S_STALES i = min ctrMax (s.ctr C.GOOSE_S_STALES i + 1) := by
  rw [ctr_count_same, ctr_gsEnter_apart _ _ _ _ (by decide), State.ctr, gsKeep_cnts]
  rfl

theorem gsState_staleCounted (s : State) (i : Nat) : gsState ((gsEnter (gsKeep s i) i subStale).count C.GOOSE_S_STALES i) i = 3 :=
  (fld_count_apart _ _ _ (by decide)).trans (gsState_gsEnter _ i subStale (by decide))

/-- A VALID subscription at its expiry is STALE, counted and flagged. -/
theorem gooseSubExpiry_stales {s : State} {i : Nat} {v : GSub} {e : Int} (hv : s.gsub i = some v) (hexp : v.expiry = some e) (hvalid : gsState s i = 2)
    (hdue : e ≤ (s.devT : Int)) :
    gsState (gooseSubExpiry s i) i = 3 ∧ (gooseSubExpiry s i).ctr C.GOOSE_S_STALES i = min ctrMax (s.ctr C.GOOSE_S_STALES i + 1)
      ∧ (gooseSubExpiry s i).flag F.GOOSE_S_FLT_STALE i = true ∧ (gooseSubExpiry s i).flag F.GOOSE_FLT_STALE = true ∧ (gooseSubExpiry s i).mem = s.mem := by
  rw [gooseSubExpiry_of_due hv hexp hvalid hdue]
  obtain ⟨hstate, -, hown, hdev, hmem⟩ := gsFlt_spec ((gsEnter (gsKeep s i) i subStale).count C.GOOSE_S_STALES i) i
    (f := F.GOOSE_S_FLT_STALE) (dev := F.GOOSE_FLT_STALE) (by decide) (by decide) (by decide) rfl rfl rfl rfl
  refine ⟨hstate.trans (gsState_staleCounted s i), ?counted, hown, hdev, ?mem⟩
  case counted => rw [ctr_gsFlt_apart _ _ _ _ _ (by decide), ctr_staleCounted]
  case mem => rw [hmem, State.count_mem, gsEnter_mem, gsKeep_mem]

/-! ## CLR_SIM (R244) -/

theorem clrSim_of_sel {s : State} {i : Nat} (hkind : s.fld F.GOOSE_SEL_KIND = 1) (hindex : s.fld F.GOOSE_SEL_INDEX = i) :
    clrSim s = s.setFlag F.GOOSE_S_STAT_SIM_LATCH false i := by
  simp only [clrSim, hkind, hindex, if_true]

/-- Settles O39: each command on a subscription is the lemma about its own operation, taken at a device out of reset. -/
theorem gooseSubscriptions : Obligations.GooseSubscriptions := by
  intro s i hlive hi
  simp only [exec_gooseSubEnable, execGooseSubEnable, exec_gooseSubDisable, execGooseSubDisable, exec_gooseFrameRx, execGooseFrameRx,
    exec_gooseSubUpdate, execGooseSubUpdate, exec_gooseSubExpiry, execGooseSubExpiry, exec_clrSim, execClrSim, live_of_not_held hlive]
  refine ⟨?refused, ?accepted, ?disabled, ?frame, ?update, ?expiry, ?clrSim⟩
  case refused =>
    intro hoff hbad
    rw [gooseSubEnable_of_refused hi hoff hbad]
    rfl
  case accepted =>
    intro hoff hok
    rw [gooseSubEnable_of_accepted hi hoff hok]
    obtain ⟨hen, hstate, hrecord, hmem⟩ := subEnabled_waits s i
    exact ⟨_, _, rfl, hen, hstate, hrecord, rfl, rfl, rfl, rfl, hmem⟩
  case disabled => exact fun hon => ⟨_, rfl, gooseSubDisable_spec hi hon⟩
  case frame =>
    rintro r rest a hhead rfl
    refine ⟨fun hoff => by rw [gooseFrameRx_of_off hhead hoff]; rfl, fun p l hon hgoose hl => ?_⟩
    rw [gooseFrameRx_of_on hhead hon hgoose hl]
    exact ⟨fun hnone => by rw [if_pos (by simp [hnone])]; rfl, fun hsome => by rw [if_neg (by simpa using hsome)]; rfl⟩
  case update =>
    intro v u hv hdue
    obtain ⟨edge, rec, hw⟩ := gsub_updTaken s i v u
    refine ⟨fun hok => ?taken, fun hmism => ?mismatch⟩
    case taken =>
      obtain ⟨hstate, hrecord, hmem⟩ := gooseSubUpdate_takes hv hdue hw hok
      exact ⟨_, _, rfl, hstate, hrecord, rfl, rfl, rfl, rfl, rfl, hmem⟩
    case mismatch =>
      obtain ⟨hstate, hrecord, hflags⟩ := gooseSubUpdate_mismatches hv hdue hw hmism
      exact ⟨_, _, rfl, hstate, hrecord, rfl, rfl, hflags⟩
  case expiry =>
    intro v e hv hexp
    exact ⟨fun hvalid hdue => ⟨_, rfl, gooseSubExpiry_stales hv hexp hvalid hdue⟩, fun hearly => by rw [gooseSubExpiry_of_early hv hexp hearly]⟩
  case clrSim => exact fun hkind hindex => by rw [clrSim_of_sel hkind hindex]

end Sys2Proof.Machine
end

section
/-! PROOFS. What the operations that gate channels share do: a channel's state and outputs, a reload, a period, a pulse, and the entry into SAFE
(R260, R261, R264 to R268, R270, R275, R277, R278). -/

namespace Sys2Proof.Machine

/-! ## Reading a channel -/

theorem gch_of_gate {s t : State} (h : t.gate = s.gate) (n : Nat) : t.gch n = s.gch n := by
  unfold State.gch
  rw [h]

theorem flag_count_apart (s : State) {c : Ctr} {g : Fld} (i j : Nat) (h : c.apart g = true) : (s.count c i).flag g j = s.flag g j := by
  unfold State.flag
  rw [fld_count_apart s i j h]

theorem gateOutH_of_resting {s : State} {n : Nat} (hrun : gateState s n ≠ gsRun) (hpulse : gateState s n ≠ gsPulse) : gateOutH s n = false := by
  simp [gateOutH, hrun, hpulse]

theorem gateOutL_of_resting {s : State} {n : Nat} (hrun : gateState s n ≠ gsRun) (hsafe : gateState s n ≠ gsSafe) : gateOutL s n = false := by
  simp [gateOutL, hrun, hsafe]

/-- Moving a channel's signal leaves its last reload as it was. -/
@[simp] theorem GateCh.sigAt_rk (c : GateCh) (raw : Bool) (e : Option Nat) (t : Nat) : (c.sigAt raw e t).rk = c.rk := by
  unfold GateCh.sigAt
  dsimp only
  split <;> rfl

/-! ## The state of a channel -/

section
variable (s : State) (n st : Nat)

@[simp] theorem setGateState_gate : (setGateState s n st).gate = s.gate := rfl

@[simp] theorem setGateState_mem : (setGateState s n st).mem = s.mem := rfl

@[simp] theorem setGateState_gch (j : Nat) : (setGateState s n st).gch j = s.gch j := rfl

@[simp] theorem ctr_setGateState (c : Ctr) (j : Nat) : (setGateState s n st).ctr c j = s.ctr c j := rfl

theorem fld_setGateState_apart {g : Fld} (j : Nat) (hst : g.apart F.GATE_C_STAT_STATE = true) (hmap : g.apart F.GATE_STAT_SAFE = true) :
    (setGateState s n st).fld g j = s.fld g j := by
  rw [setGateState, fld_setFbit_apart _ _ _ _ _ hmap, fld_setFld_apart _ _ _ _ hst]

theorem flag_setGateState_apart {g : Fld} (j : Nat) (hst : g.apart F.GATE_C_STAT_STATE = true) (hmap : g.apart F.GATE_STAT_SAFE = true) :
    (setGateState s n st).flag g j = s.flag g j := by
  unfold State.flag
  rw [fld_setGateState_apart s n st j hst hmap]

theorem gateState_setGateState (hst : st < 8) : gateState (setGateState s n st) n = st := by
  rw [gateState, setGateState, fld_setFbit_apart _ _ _ _ _ (by decide), fld_setFld_same]
  exact Nat.mod_eq_of_lt hst

end

/-! ## Reloads (R265, R268) -/

/-- The fields that a reload may change. -/
def reloadFlds : List Fld :=
  [F.GATE_C_PERIOD_VAL, F.GATE_C_DUTY_VAL, F.GATE_C_FLT_DUTY_CLAMP, F.GATE_FLT_DUTY_CLAMP, F.GATE_C_STAT_PEND]

/-- The keys of the active values and of the flags of a limited duty. -/
def reloadKeys (n : Nat) : List Nat :=
  [F.GATE_C_PERIOD_VAL.key n, F.GATE_C_DUTY_VAL.key n, F.GATE_C_FLT_DUTY_CLAMP.key n, F.GATE_FLT_DUTY_CLAMP.key 0]

section
variable (s : State) (n r : Nat)

/-- All that a reload can do: the active values and the flags of a limited duty change, then the channel's record and PEND. -/
theorem gateReloadAt_cases :
    ∃ a c b, Touches (reloadKeys n) [] [0, 14] s a ∧ gateReloadAt s n r = (a.setGch n c).setFlag F.GATE_C_STAT_PEND b n := by
  refine ⟨_, _, _, ?_, rfl⟩
  have hperiod : ∀ {t : State} (v : Nat), Touches (reloadKeys n) [] [0, 14] s t → Touches (reloadKeys n) [] [0, 14] s (t.setFld F.GATE_C_PERIOD_VAL v n) :=
    fun v ht => ht.setFld (.inl (by simp [reloadKeys]))
  have hduty : ∀ {t : State} (v : Nat), Touches (reloadKeys n) [] [0, 14] s t → Touches (reloadKeys n) [] [0, 14] s (t.setFld F.GATE_C_DUTY_VAL v n) :=
    fun v ht => ht.setFld (.inl (by simp [reloadKeys]))
  have hclamp : ∀ {t : State}, Touches (reloadKeys n) [] [0, 14] s t →
      Touches (reloadKeys n) [] [0, 14] s (gateFlt t n F.GATE_C_FLT_DUTY_CLAMP F.GATE_FLT_DUTY_CLAMP) :=
    fun ht => (ht.setFlag (.inl (by simp [reloadKeys]))).setFlt (by simp) (by simp) (.inl (by simp [reloadKeys]))
  have h0 := Touches.refl (reloadKeys n) [] [0, 14] s
  cases (s.gch n).pendP with
  | none =>
    cases (s.gch n).pendD with
    | none => exact h0
    | some d => exact Touches.ite h0 (Touches.ite (hclamp (hduty _ h0)) (hduty _ h0))
  | some p =>
    have h1 := Touches.ite (c := decide (p.2 < sysOfCnt s r) = true) (hperiod p.1 h0) h0
    cases (s.gch n).pendD with
    | none => exact h1
    | some d => exact Touches.ite h1 (Touches.ite (hclamp (hduty _ h1)) (hduty _ h1))

theorem fld_gateReloadAt_apart {g : Fld} (j : Nat) (h : reloadFlds.all g.apart = true) (hb : [0, 14].contains (g.blk % 32) = false) :
    (gateReloadAt s n r).fld g j = s.fld g j := by
  obtain ⟨a, c, b, ha, heq⟩ := gateReloadAt_cases s n r
  simp only [reloadFlds, List.all_cons, List.all_nil, Bool.and_true, Bool.and_eq_true] at h
  obtain ⟨hperiod, hduty, hown, hdev, hpend⟩ := h
  have hkeys : g.key j ∉ reloadKeys n := by
    simp [reloadKeys, Fld.apart_key hperiod, Fld.apart_key hduty, Fld.apart_key hown, Fld.apart_key hdev]
  rw [heq, fld_setFlag_apart _ _ _ _ hpend, fld_of_regs (State.setGch_regs a n c)]
  exact ha.fld hkeys (by rw [keyBlk_key]; simpa using hb)

theorem flag_gateReloadAt_apart {g : Fld} (j : Nat) (h : reloadFlds.all g.apart = true) (hb : [0, 14].contains (g.blk % 32) = false) :
    (gateReloadAt s n r).flag g j = s.flag g j := by
  unfold State.flag
  rw [fld_gateReloadAt_apart s n r j h hb]

theorem ctr_gateReloadAt_apart {c : Ctr} (j : Nat) (hb : [0, 14].contains (c.blk % 32) = false) : (gateReloadAt s n r).ctr c j = s.ctr c j := by
  obtain ⟨a, _, _, ha, heq⟩ := gateReloadAt_cases s n r
  rw [heq]
  exact ha.ctr (by simp) (by rw [ctrBlk_key]; simpa using hb)

end

/-! ## Periods and pulses (R264, R266, R270, R275) -/

/-- A period starts: the channel's state stands, the reload is recorded and the period is counted. -/
theorem startPeriod_spec (s : State) (n r : Nat) :
    gateState (startPeriod s n r) n = gateState s n ∧ ((startPeriod s n r).gch n).rk = r
      ∧ (startPeriod s n r).ctr C.GATE_C_PERIODS n = min ctrMax (s.ctr C.GATE_C_PERIODS n + 1) := by
  refine ⟨?state, ?reload, ?counted⟩
  case state =>
    rw [startPeriod, gateState, fld_of_regs (State.setGch_regs _ _ _), fld_count_apart _ _ _ (by decide),
      fld_gateReloadAt_apart _ _ _ _ (by decide) (by decide)]
    rfl
  case reload => rw [startPeriod, gch_setGch_same, GateCh.sigAt_rk]
  case counted =>
    have hreload := ctr_gateReloadAt_apart s n r (c := C.GATE_C_PERIODS) n (by decide)
    exact (ctr_count_same _ _ _).trans (by rw [hreload])

/-- A pulse starts: the channel is in PULSE until the active DUTY has passed, or until its command ends under LATCH. -/
theorem startPulse_spec (s : State) (n t : Nat) :
    gateState (startPulse s n t) n = gsPulse
      ∧ ((startPulse s n t).gch n).pulseEnd
          = (if s.flag F.GATE_C_CTL_LATCH n then none else some (t + (startPulse s n t).fld F.GATE_C_DUTY_VAL n)) := by
  refine ⟨gateState_setGateState _ n gsPulse (by decide), ?_⟩
  have hduty : (startPulse s n t).fld F.GATE_C_DUTY_VAL n = (gateReloadAt s n t).fld F.GATE_C_DUTY_VAL n :=
    fld_setGateState_apart _ n gsPulse n (by decide) (by decide)
  rw [hduty, ← flag_gateReloadAt_apart s n t n (by decide) (by decide), startPulse, setGateState_gch, gch_setGch_same]

/-- A pulse ends: the channel is in IDLE with no pulse left, its high side off, and the pulse is counted. -/
theorem endPulse_spec (s : State) (n : Nat) :
    gateState (endPulse s n) n = gsIdle ∧ ((endPulse s n).gch n).pulseEnd = none ∧ gateOutH (endPulse s n) n = false
      ∧ (endPulse s n).ctr C.GATE_C_PULSES n = min ctrMax (s.ctr C.GATE_C_PULSES n + 1) ∧ (endPulse s n).mem = s.mem := by
  have hstate : gateState (endPulse s n) n = gsIdle :=
    (fld_count_apart _ n n (by decide)).trans (gateState_setGateState _ n gsIdle (by decide))
  refine ⟨hstate, ?ended, ?off, ?counted, ?mem⟩
  case ended => rw [endPulse, gch_of_gate (State.count_gate _ _ _), setGateState_gch, gch_setGch_same]
  case off => exact gateOutH_of_resting (by rw [hstate]; decide) (by rw [hstate]; decide)
  case counted => exact ctr_count_same _ _ _
  case mem => rw [endPulse, State.count_mem, setGateState_mem, State.setGch_mem]

/-! ## The entry into SAFE (R277, R278) -/

/-- A channel forced into SAFE with a record and a cause, its own flag set and the entry counted. -/
def safeForced (s : State) (n : Nat) (v : GateCh) (cause : Nat) : State :=
  (((setGateState (s.setGch n v) n gsSafe).setFld F.GATE_C_STAT_SAFE_CAUSE cause n).setFlag F.GATE_C_FLT_SAFE true n).count C.GATE_C_SAFE_ENTRIES n

section
variable (s : State) (n cause : Nat)

/-- A channel that is neither OFF nor SAFE is forced; the instant is kept, its records stand, and the entry is reported. -/
theorem enterSafe_forces (hoff : gateState s n ≠ gsOff) (hsafe : gateState s n ≠ gsSafe) :
    ∃ v p, v.safeAt = some s.gate.pwm ∧ v.recs = (s.gch n).recs
      ∧ enterSafe s n cause = ((safeForced s n v cause).event 8 0x0803 p n cause).setFlt F.GATE_FLT_SAFE := by
  refine ⟨_, _, ?instant, ?records, by rw [enterSafe, if_neg hoff, if_neg hsafe]; rfl⟩
  case instant => rfl
  case records => rfl

/-- What a forced channel shows: SAFE, its cause, its flag and the count of the entry. -/
theorem safeForced_spec (v : GateCh) (hcause : cause < 8) :
    gateState (safeForced s n v cause) n = gsSafe ∧ (safeForced s n v cause).fld F.GATE_C_STAT_SAFE_CAUSE n = cause
      ∧ (safeForced s n v cause).flag F.GATE_C_FLT_SAFE n = true
      ∧ (safeForced s n v cause).ctr C.GATE_C_SAFE_ENTRIES n = min ctrMax (s.ctr C.GATE_C_SAFE_ENTRIES n + 1)
      ∧ (safeForced s n v cause).gch n = v ∧ (safeForced s n v cause).mem = s.mem := by
  refine ⟨?state, ?cause, ?flag, ctr_count_same _ _ _, ?record, ?mem⟩
  case state =>
    rw [safeForced, gateState, fld_count_apart _ _ _ (by decide), fld_setFlag_apart _ _ _ _ (by decide), fld_setFld_apart _ _ _ _ (by decide)]
    exact gateState_setGateState _ n gsSafe (by decide)
  case cause =>
    rw [safeForced, fld_count_apart _ _ _ (by decide), fld_setFlag_apart _ _ _ _ (by decide), fld_setFld_same]
    exact Nat.mod_eq_of_lt hcause
  case flag => rw [safeForced, flag_count_apart _ _ _ (by decide), flag_setFlag_same _ _ _ _ rfl]
  case record => exact (gch_of_gate (State.count_gate _ _ _) n).trans (gch_setGch_same s n v)
  case mem => exact State.count_mem _ _ _

/-- The report of an entry into SAFE leaves every field but the device flag, every counter of GATE and the memory as they were. -/
theorem safeReport_spec (p : Nat) {t : State} (ht : t = (s.event 8 0x0803 p n cause).setFlt F.GATE_FLT_SAFE) :
    (∀ (g : Fld) (j : Nat), g.blk = 8 → g.apart F.GATE_FLT_SAFE = true → t.fld g j = s.fld g j)
      ∧ (∀ (c : Ctr) (j : Nat), c.blk = 8 → t.ctr c j = s.ctr c j) ∧ t.gate = s.gate ∧ t.flag F.GATE_FLT_SAFE = true ∧ t.mem = s.mem := by
  subst ht
  refine ⟨fun g j hblk hg => ?_, fun c j hblk => ?_, ?gate, flag_setFlt_same _ rfl (by decide), ?mem⟩
  · rw [fld_setFlt_apart _ _ hg (by rw [hblk]; decide), fld_event_apart _ _ _ _ _ _ _ _ (by rw [hblk]; decide)]
  · rw [ctr_setFlt_apart _ _ _ (by rw [hblk]; decide), ctr_event_apart _ _ _ _ _ _ _ _ (by rw [hblk]; decide)]
  case gate => rw [State.setFlt_gate, State.event_gate]
  case mem => rw [State.setFlt_mem, State.event_mem]

end

end Sys2Proof.Machine
end

section
/-! PROOFS. The set-up of gate channels: enables, disables, commits, the calibration and READ_SCHED (R255, R258, R265, R267, R275, R276). -/

namespace Sys2Proof.Machine

/-! ## Enables and disables -/

/-- A channel whose enable is accepted, before any force that stands is applied: driven and in IDLE, the staged pair active and no record waiting. -/
def gateEnabled (s : State) (n : Nat) : State :=
  let a := (s.setFlag F.GATE_C_CTL_EN true n).setFlag F.GATE_C_STAT_HIZ false n
  let b := (a.setFld F.GATE_C_PERIOD_VAL (a.fld F.GATE_C_PERIOD_STG_VAL n) n).setFld F.GATE_C_DUTY_VAL (a.fld F.GATE_C_DUTY_STG_VAL n) n
  let c := (b.setFlag F.GATE_C_STAT_STG_P false n).setFlag F.GATE_C_STAT_STG_D false n
  setGateState (c.setGch n { c.gch n with prevCmd := resolvedBit c (s.fld F.GATE_C_CTL_OWNER n) (c.fld F.GATE_C_SRC_CMD_BIT n), recs := [] }) n gsIdle

/-- The fields that an accepted enable writes. -/
def enabledFlds : List Fld :=
  [F.GATE_C_CTL_EN, F.GATE_C_STAT_HIZ, F.GATE_C_PERIOD_VAL, F.GATE_C_DUTY_VAL, F.GATE_C_STAT_STG_P, F.GATE_C_STAT_STG_D, F.GATE_C_STAT_STATE, F.GATE_STAT_SAFE]

section
variable (s : State) (n : Nat)

theorem fld_gateEnabled_apart {g : Fld} (j : Nat) (h : enabledFlds.all g.apart = true) : (gateEnabled s n).fld g j = s.fld g j := by
  simp only [enabledFlds, List.all_cons, List.all_nil, Bool.and_true, Bool.and_eq_true] at h
  obtain ⟨hen, hhiz, hperiod, hduty, hstgP, hstgD, hst, hmap⟩ := h
  rw [gateEnabled, fld_setGateState_apart _ _ _ _ hst hmap, fld_of_regs (State.setGch_regs _ _ _), fld_setFlag_apart _ _ _ _ hstgD,
    fld_setFlag_apart _ _ _ _ hstgP, fld_setFld_apart _ _ _ _ hduty, fld_setFld_apart _ _ _ _ hperiod, fld_setFlag_apart _ _ _ _ hhiz,
    fld_setFlag_apart _ _ _ _ hen]

theorem flag_gateEnabled_apart {g : Fld} (j : Nat) (h : enabledFlds.all g.apart = true) : (gateEnabled s n).flag g j = s.flag g j := by
  unfold State.flag
  rw [fld_gateEnabled_apart s n j h]

theorem gateEnabled_spec :
    (gateEnabled s n).flag F.GATE_C_CTL_EN n = true ∧ (gateEnabled s n).flag F.GATE_C_STAT_HIZ n = false ∧ gateState (gateEnabled s n) n = gsIdle
      ∧ (gateEnabled s n).fld F.GATE_C_PERIOD_VAL n = s.fld F.GATE_C_PERIOD_STG_VAL n % 2 ^ F.GATE_C_PERIOD_VAL.width
      ∧ (gateEnabled s n).fld F.GATE_C_DUTY_VAL n = s.fld F.GATE_C_DUTY_STG_VAL n % 2 ^ F.GATE_C_DUTY_VAL.width
      ∧ ((gateEnabled s n).gch n).recs = [] ∧ (gateEnabled s n).mem = s.mem := by
  refine ⟨?enable, ?driven, gateState_setGateState _ n gsIdle (by decide), ?period, ?duty, ?records, rfl⟩
  case enable =>
    simp (disch := decide) only [gateEnabled, flag_setGateState_apart, flag_of_regs (State.setGch_regs _ _ _), flag_setFlag_apart, flag_setFld_apart,
      flag_setFlag_same]
  case driven =>
    simp (disch := decide) only [gateEnabled, flag_setGateState_apart, flag_of_regs (State.setGch_regs _ _ _), flag_setFlag_apart, flag_setFld_apart,
      flag_setFlag_same]
  case period =>
    simp (disch := decide) only [gateEnabled, fld_setGateState_apart, fld_of_regs (State.setGch_regs _ _ _), fld_setFlag_apart, fld_setFld_apart,
      fld_setFld_same]
  case duty =>
    simp (disch := decide) only [gateEnabled, fld_setGateState_apart, fld_of_regs (State.setGch_regs _ _ _), fld_setFlag_apart, fld_setFld_same]
  case records => rw [gateEnabled, setGateState_gch, gch_setGch_same]

end

section
variable {s : State} {n : Nat} (hn : n < 24)
include hn

theorem gateEnable_of_refused (hrec : s.recovering = false) (hoff : s.flag F.GATE_C_CTL_EN n = false) (hbad : gateEnableBad s n = true) :
    gateEnable s n = gateFlt s n F.GATE_C_FLT_CFG_REFUSED F.GATE_FLT_CFG_ERR := by
  simp [gateEnable, gateChans, Nat.not_le.mpr hn, hrec, hoff, hbad]

/-- An accepted enable, with no masked SAFE_N ball low and no held owner that RST_SAFE names: neither force acts. -/
theorem gateEnable_of_accepted (hrec : s.recovering = false) (hoff : s.flag F.GATE_C_CTL_EN n = false) (hok : gateEnableBad s n = false)
    (hball : safeBallLow s n = false) (hheld : s.flag F.GATE_C_CTL_RST_SAFE n = true → partHeld s (s.fld F.GATE_C_CTL_OWNER n) = false) :
    gateEnable s n = gateEnabled s n := by
  have hball' : safeBallLow (gateEnabled s n) n = false := by
    rw [safeBallLow, fld_gateEnabled_apart s n n (by decide), fld_gateEnabled_apart s n 0 (by decide)]
    exact hball
  have hheld' : ((gateEnabled s n).flag F.GATE_C_CTL_RST_SAFE n && partHeld (gateEnabled s n) (s.fld F.GATE_C_CTL_OWNER n)) = false := by
    rw [partHeld, flag_gateEnabled_apart s n n (by decide), flag_gateEnabled_apart s n _ (by decide)]
    simpa [partHeld] using hheld
  have hguard : (decide (gateChans ≤ n) || s.flag F.GATE_C_CTL_EN n || s.recovering) = false := by
    simp [gateChans, Nat.not_le.mpr hn, hoff, hrec]
  calc gateEnable s n
      = (if safeBallLow (gateEnabled s n) n then enterSafe (gateEnabled s n) n safeCauseBall
         else if (gateEnabled s n).flag F.GATE_C_CTL_RST_SAFE n && partHeld (gateEnabled s n) (s.fld F.GATE_C_CTL_OWNER n) then
           enterSafe (gateEnabled s n) n safeCauseReset
         else gateEnabled s n) := by
        rw [gateEnable]
        simp only [hguard, hok, Bool.false_eq_true, if_false]
        rfl
    _ = gateEnabled s n := by rw [hball', hheld']; rfl

theorem gateDisable_eq :
    gateDisable s n = setGateState (((s.setFlag F.GATE_C_CTL_EN false n).setFlag F.GATE_C_STAT_PEND false n).setGch n GateCh.reset) n gsOff := by
  rw [gateDisable, if_neg (Nat.not_le.mpr hn : ¬ gateChans ≤ n)]

/-- A disabled channel is OFF with nothing pending and both outputs inactive. -/
theorem gateDisable_spec :
    (gateDisable s n).flag F.GATE_C_CTL_EN n = false ∧ gateState (gateDisable s n) n = gsOff ∧ (gateDisable s n).gch n = GateCh.reset
      ∧ gateOutH (gateDisable s n) n = false ∧ gateOutL (gateDisable s n) n = false ∧ (gateDisable s n).mem = s.mem := by
  have hstate : gateState (gateDisable s n) n = gsOff := by rw [gateDisable_eq hn, gateState_setGateState _ _ _ (by decide)]
  refine ⟨?enable, hstate, ?record, ?high, ?low, ?mem⟩
  case enable =>
    rw [gateDisable_eq hn, flag_setGateState_apart _ _ _ _ (by decide) (by decide), flag_of_regs (State.setGch_regs _ _ _),
      flag_setFlag_apart _ _ _ _ (by decide), flag_setFlag_same _ _ _ _ rfl]
  case record => rw [gateDisable_eq hn, setGateState_gch, gch_setGch_same]
  case high => exact gateOutH_of_resting (by rw [hstate]; decide) (by rw [hstate]; decide)
  case low => exact gateOutL_of_resting (by rw [hstate]; decide) (by rw [hstate]; decide)
  case mem => rw [gateDisable_eq hn]; rfl

/-! ## Commits -/

theorem gateCommit_of_refused (hbad : stagedBad s n = true) :
    gateCommit s n = gateFlt (s.count C.GATE_C_COMMIT_REFUSED n) n F.GATE_C_FLT_COMMIT_REFUSED F.GATE_FLT_COMMIT_REFUSED := by
  simp [gateCommit, gateChans, Nat.not_le.mpr hn, hbad]

end

/-- A commit that is accepted: the staged pair is pending from this edge, and neither value is staged any more. -/
def gateCommitted (s : State) (n : Nat) : State :=
  let a := s.setGch n { s.gch n with pendP := some (s.fld F.GATE_C_PERIOD_STG_VAL n, s.time.sys), pendD := some (s.fld F.GATE_C_DUTY_STG_VAL n, s.time.sys) }
  (((a.setFlag F.GATE_C_STAT_STG_P false n).setFlag F.GATE_C_STAT_STG_D false n).setFlag F.GATE_C_STAT_PEND true n).count C.GATE_C_COMMITS n

theorem gateCommit_of_accepted {s : State} {n : Nat} (hn : n < 24) (hok : stagedBad s n = false) (hsingle : s.flag F.GATE_C_CTL_PAIRED n = false) :
    gateCommit s n = gateCommitted s n := by
  simp [gateCommit, gateCommitted, gateChans, Nat.not_le.mpr hn, hok, hsingle]

theorem gateCommitted_spec (s : State) (n : Nat) :
    (gateCommitted s n).gch n
        = { s.gch n with pendP := some (s.fld F.GATE_C_PERIOD_STG_VAL n, s.time.sys), pendD := some (s.fld F.GATE_C_DUTY_STG_VAL n, s.time.sys) }
      ∧ (gateCommitted s n).flag F.GATE_C_STAT_PEND n = true ∧ (gateCommitted s n).flag F.GATE_C_STAT_STG_P n = false
      ∧ (gateCommitted s n).flag F.GATE_C_STAT_STG_D n = false ∧ (gateCommitted s n).fld F.GATE_C_PERIOD_VAL n = s.fld F.GATE_C_PERIOD_VAL n
      ∧ (gateCommitted s n).ctr C.GATE_C_COMMITS n = min ctrMax (s.ctr C.GATE_C_COMMITS n + 1) ∧ (gateCommitted s n).mem = s.mem := by
  refine ⟨?record, ?pending, ?period, ?duty, ?active, ctr_count_same _ _ _, State.count_mem _ _ _⟩
  case record => exact (gch_of_gate (State.count_gate _ _ _) n).trans (gch_setGch_same s n _)
  case pending => rw [gateCommitted, flag_count_apart _ _ _ (by decide), flag_setFlag_same _ _ _ _ rfl]
  case period =>
    rw [gateCommitted, flag_count_apart _ _ _ (by decide), flag_setFlag_apart _ _ _ _ (by decide), flag_setFlag_apart _ _ _ _ (by decide),
      flag_setFlag_same _ _ _ _ rfl]
  case duty => rw [gateCommitted, flag_count_apart _ _ _ (by decide), flag_setFlag_apart _ _ _ _ (by decide), flag_setFlag_same _ _ _ _ rfl]
  case active =>
    rw [gateCommitted, fld_count_apart _ _ _ (by decide), fld_setFlag_apart _ _ _ _ (by decide), fld_setFlag_apart _ _ _ _ (by decide),
      fld_setFlag_apart _ _ _ _ (by decide), fld_of_regs (State.setGch_regs _ _ _)]

/-! ## READ_SCHED -/

section
variable {s : State} {n : Nat} (hn : n < 24) (hidle : s.flag (mbxBusy 8) = false) (hindex : s.fld F.GATE_SEL_INDEX = n)
include hn hidle hindex

theorem readSched_of_waiting (hwait : gateState s n = gsWait) :
    readSched s = s.mbxStart 8 (timeLayout 1 ((s.gch n).sched * 2048) (s.fld F.TIME_STAT_TQ) 0 (s.fld F.TIME_STAT_EPOCH)) := by
  subst hindex
  simp [readSched, gateChans, hidle, Nat.not_le.mpr hn, hwait]

theorem readSched_of_not_waiting (hwait : gateState s n ≠ gsWait) : readSched s = s.mbxRefuse 8 := by
  subst hindex
  simp [readSched, hidle, hwait]

end

/-- Settles O40: each command on a channel is the lemma about its own operation, taken at a device out of reset. -/
theorem gateChannelsAreSetUp : Obligations.GateChannelsAreSetUp := by
  intro s n hlive hn
  simp only [exec_gateChannelEnable, execGateChannelEnable, exec_gateChannelDisable, execGateChannelDisable, exec_gateCommit, execGateCommit,
    exec_gateCalibration, execGateCalibration, exec_readSched, execReadSched, live_of_not_held hlive]
  refine ⟨?refused, ?accepted, ?disabled, ?commitRefused, ?committed, rfl, rfl, ?readSched⟩
  case refused =>
    intro hrec hoff hbad
    rw [gateEnable_of_refused hn hrec hoff hbad]
    rfl
  case accepted =>
    intro hrec hoff hok hball hheld
    rw [gateEnable_of_accepted hn hrec hoff hok hball hheld]
    exact ⟨_, rfl, gateEnabled_spec s n⟩
  case disabled => exact ⟨_, rfl, gateDisable_spec hn⟩
  case commitRefused =>
    intro hbad
    rw [gateCommit_of_refused hn hbad]
    rfl
  case committed =>
    intro hok hsingle
    rw [gateCommit_of_accepted hn hok hsingle]
    exact ⟨_, rfl, gateCommitted_spec s n⟩
  case readSched =>
    intro hidle hindex
    exact ⟨fun hwait => by rw [readSched_of_waiting hn hidle hindex hwait], fun hno => by rw [readSched_of_not_waiting hn hidle hindex hno]⟩

end Sys2Proof.Machine
end

section
/-! PROOFS. What gate channels do at their instants: records, periods, refreshes, scheduled rises and pulse ends (R263, R264, R268 to R275). -/

namespace Sys2Proof.Machine

/-! ## Records (R263, R268) -/

theorem dutyWord_of_off {s : State} {n : Nat} (r : GateRec) (hoff : s.flag F.GATE_C_SRC_DUTY_OW_EN n = false) : dutyWord s n r = s := by
  simp [dutyWord, hoff]

section
variable {s : State} {n : Nat} {r : GateRec} {rest : List GateRec} (hhead : (s.gch n).recs = r :: rest)
include hhead

theorem gateTrigger_of_early (hearly : s.gate.pwm < r.at_) : gateTrigger s n = s := by
  simp [gateTrigger, hhead, hearly]

/-- A record whose T has come, with no trip, no duty word and no freeze: its command acts as of T. -/
theorem gateTrigger_of_due (hclock : s.gate.stopped = false) (hdue : r.at_ ≤ s.gate.pwm) (htrip : r.trip = false)
    (hduty : s.flag F.GATE_C_SRC_DUTY_OW_EN n = false) (hfrozen : gateFrozen s = false) :
    gateTrigger s n = gateCommand (s.setGch n { s.gch n with recs := rest, prevCmd := r.cmd }) n (s.gate.cnt - (s.gate.pwm - r.at_))
      (dev32 s - (s.gate.pwm - r.at_)) (if s.flag F.GATE_C_SRC_ANG_OW_EN n then r.ang else s.fld F.GATE_C_ANG_ANG n) (s.gch n).prevCmd r.cmd := by
  have hword : ∀ v, dutyWord (s.setGch n v) n r = s.setGch n v :=
    fun v => dutyWord_of_off r ((flag_of_regs (State.setGch_regs s n v) _ _).trans hduty)
  have hfrozen' : ∀ v, gateFrozen (s.setGch n v) = false := fun v => (flag_of_regs (State.setGch_regs s n v) _ _).trans hfrozen
  simp only [gateTrigger, hhead, hclock, decide_eq_false (Nat.not_lt.mpr hdue), htrip, hword, hfrozen', Bool.or_self, Bool.and_false, Bool.false_eq_true,
    if_false]
  rfl

end

/-! ## Commands of an IDLE channel (R264, R270) -/

section
variable {s : State} {n : Nat} (hidle : gateState s n = gsIdle) (t d a : Nat)
include hidle

theorem gateCommand_of_continuous (p : Bool) (hmode : gateMode s n = gmContinuous) :
    gateCommand s n t d a p true = startPeriod (setGateState (s.setGch n { s.gch n with raw := false, refreshEnd := none, since := t }) n gsRun) n t := by
  simp [gateCommand, hidle, hmode]

theorem gateCommand_of_oneShot (hmode : gateMode s n = gmOneShot) : gateCommand s n t d a false true = startPulse s n t := by
  simp [gateCommand, hidle, hmode, gmOneShot, gmContinuous]

theorem gateCommand_of_cleared (p : Bool) : gateCommand s n t d a p false = s := by
  simp [gateCommand, hidle]

end

/-- The command of a CONTINUOUS channel in IDLE starts its periods. -/
theorem gateCommand_starts_periods {s : State} {n : Nat} (t d a : Nat) (p : Bool) (hidle : gateState s n = gsIdle) (hmode : gateMode s n = gmContinuous) :
    gateState (gateCommand s n t d a p true) n = gsRun ∧ ((gateCommand s n t d a p true).gch n).rk = t
      ∧ (gateCommand s n t d a p true).ctr C.GATE_C_PERIODS n = min ctrMax (s.ctr C.GATE_C_PERIODS n + 1) := by
  rw [gateCommand_of_continuous hidle t d a p hmode]
  obtain ⟨hstate, hreload, hcount⟩ :=
    startPeriod_spec (setGateState (s.setGch n { s.gch n with raw := false, refreshEnd := none, since := t }) n gsRun) n t
  exact ⟨hstate.trans (gateState_setGateState _ n gsRun (by decide)), hreload, hcount⟩

/-! ## RUN (R264, R269) -/

theorem gateReload_of_early {s : State} {n : Nat} (hearly : s.gate.cnt < (s.gch n).rk + s.fld F.GATE_C_PERIOD_VAL n) : gateReload s n = s := by
  simp [gateReload, Nat.not_le.mpr hearly]

section
variable {s : State} {n : Nat} (hrun : gateState s n = gsRun) (hlive : gateLive s = true)
include hrun hlive

theorem gateReload_of_due (hdue : (s.gch n).rk + s.fld F.GATE_C_PERIOD_VAL n ≤ s.gate.cnt) :
    gateReload s n = startPeriod s n ((s.gch n).rk + s.fld F.GATE_C_PERIOD_VAL n) := by
  simp [gateReload, hrun, hlive, hdue]

theorem gateDutyEnd_of_due (hraw : (s.gch n).raw = true) (hedge : s.fld F.GATE_C_DUTY_VAL n < s.fld F.GATE_C_PERIOD_VAL n)
    (hdue : (s.gch n).rk + s.fld F.GATE_C_DUTY_VAL n ≤ s.gate.cnt) :
    gateDutyEnd s n = s.setGch n ((s.gch n).sigAt false (s.gch n).refreshEnd ((s.gch n).rk + s.fld F.GATE_C_DUTY_VAL n)) := by
  simp [gateDutyEnd, hrun, hlive, hraw, hedge, hdue]

theorem gateRefreshStart_of_due {t : Nat} (ht : t = (s.gch n).since + s.fld F.GATE_C_REFRESH_INTERVAL n * 32000)
    (hon : s.flag F.GATE_C_CTL_REFRESH_EN n = true) (hsig : (s.gch n).sig = true) (hdue : t ≤ s.gate.cnt) :
    gateRefreshStart s n
      = (s.count C.GATE_C_REFRESHES n).setGch n ((s.gch n).sigAt (s.gch n).raw (some (t + s.fld F.GATE_C_REFRESH_WIDTH n)) t) := by
  subst ht
  simp [gateRefreshStart, hrun, hlive, hon, hsig, hdue]

theorem gateRefreshEnd_of_due {t : Nat} (hend : (s.gch n).refreshEnd = some t) (hdue : t ≤ s.gate.cnt) :
    gateRefreshEnd s n = s.setGch n ((s.gch n).sigAt (s.gch n).raw none t) := by
  simp [gateRefreshEnd, hend, hrun, hlive, hdue]

end

/-! ## Scheduled rises (R273, R275) -/

theorem gateInstantFixed_of_far {s : State} {n : Nat} (hfar : dev32 s + 320000 < (s.gch n).sched) (hfree : (s.gch n).fixed = false) :
    gateInstantFixed s n = s := by
  simp [gateInstantFixed, gateFixed, hfree, Nat.not_le.mpr hfar]

theorem gateScheduledRise_of_early {s : State} {n : Nat} (hearly : dev32 s < (s.gch n).sched) : gateScheduledRise s n = s := by
  simp [gateScheduledRise, Nat.not_le.mpr hearly]

section
variable {s : State} {n : Nat} (hwait : gateState s n = gsWait)
include hwait

theorem gateInstantFixed_of_near (hnear : (s.gch n).sched ≤ dev32 s + 320000) :
    gateInstantFixed s n = s.setGch n { s.gch n with fixed := true } := by
  simp [gateInstantFixed, gateFixed, hwait, hnear]

theorem gateScheduledRise_of_due (hlive : gateLive s = true) (hdue : (s.gch n).sched ≤ dev32 s) :
    gateScheduledRise s n = startPulse s n (s.gate.cnt - (dev32 s - (s.gch n).sched)) := by
  simp [gateScheduledRise, hwait, hlive, hdue]

end

/-! ## The end of a pulse (R270, R275) -/

section
variable {s : State} {n e : Nat} (hend : (s.gch n).pulseEnd = some e)
include hend

theorem gatePulseEnd_of_due (hpulse : gateState s n = gsPulse) (hlive : gateLive s = true) (hdue : e ≤ s.gate.cnt) : gatePulseEnd s n = endPulse s n := by
  simp [gatePulseEnd, hend, hpulse, hlive, hdue]

theorem gatePulseEnd_of_early (hearly : s.gate.cnt < e) : gatePulseEnd s n = s := by
  simp [gatePulseEnd, hend, Nat.not_le.mpr hearly]

end

/-- Settles O41: each event of a channel is the lemma about its own operation, at its instant and before it. -/
theorem gateChannelsActInTime : Obligations.GateChannelsActInTime := by
  intro s n hlive
  simp only [exec_gateTrigger, execGateTrigger, exec_gateReload, execGateReload, exec_gateDutyEnd, execGateDutyEnd, exec_gateRefreshStart,
    execGateRefreshStart, exec_gateRefreshEnd, execGateRefreshEnd, exec_gateInstantFixed, execGateInstantFixed, exec_gateScheduledRise,
    execGateScheduledRise, exec_gatePulseEnd, execGatePulseEnd, live_of_not_held hlive]
  refine ⟨?trigger, ?command, ?run, ?scheduled, ?pulseEnd⟩
  case trigger =>
    intro r rest hhead hclock
    refine ⟨fun hearly => by rw [gateTrigger_of_early hhead hearly], ?_⟩
    rintro hdue htrip hduty hfrozen _ _ rfl rfl
    rw [gateTrigger_of_due hhead hclock hdue htrip hduty hfrozen]
  case command =>
    intro t d a p u hidle _
    refine ⟨?continuous, ?oneShot, gateCommand_of_cleared hidle t d a p⟩
    case continuous =>
      rintro hmode rfl
      exact gateCommand_starts_periods t d a p hidle hmode
    case oneShot =>
      rintro hmode rfl
      rw [gateCommand_of_oneShot hidle t d a hmode]
      exact startPulse_spec s n t
  case run =>
    intro hgate hrun
    refine ⟨fun hdue => by rw [gateReload_of_due hrun hgate hdue], fun hearly => by rw [gateReload_of_early hearly], ?dutyEnd, ?refreshStart,
      fun t hend hdue => by rw [gateRefreshEnd_of_due hrun hgate hend hdue]⟩
    case dutyEnd =>
      rintro _ rfl hraw hedge hdue
      rw [gateDutyEnd_of_due hrun hgate hraw hedge hdue]
    case refreshStart =>
      intro t ht hon hsig hdue
      rw [gateRefreshStart_of_due hrun hgate ht hon hsig hdue]
  case scheduled =>
    intro hwait
    exact ⟨fun hnear => by rw [gateInstantFixed_of_near hwait hnear], fun hfar hfree => by rw [gateInstantFixed_of_far hfar hfree],
      fun hgate hdue => by rw [gateScheduledRise_of_due hwait hgate hdue], fun hearly => by rw [gateScheduledRise_of_early hearly]⟩
  case pulseEnd =>
    intro e hpulse hend _
    refine ⟨fun hgate hdue => ?_, fun hearly => by rw [gatePulseEnd_of_early hend hearly]⟩
    rw [gatePulseEnd_of_due hend hpulse hgate hdue]
    exact ⟨_, rfl, endPulse_spec s n⟩

end Sys2Proof.Machine
end

section
/-! PROOFS. SAFE, freeze and the stop of the PWM clock (R277 to R283). -/

namespace Sys2Proof.Machine

/-- The force of a SAFE_N ball that is low for 50 ns or more: every channel that masks it enters SAFE (R279). -/
theorem safeNAssert_of_long {s : State} {k w : Nat} (hk : k < 4) (hlong : 50 ≤ w) :
    safeNAssert s k w = (List.range gateChans).foldl (fun s n => if s.fbit F.GATE_C_CTL_SAFE_MASK k n then enterSafe s n safeCauseBall else s)
      (s.setFbit F.GATE_STAT_SAFE_N k false) := by
  have htaken : (decide (4 ≤ k) || decide (w < 20)) = false := by
    simp [Nat.not_le.mpr hk, show ¬ w < 20 by omega]
  simp only [safeNAssert, htaken, hlong, if_true, Bool.false_eq_true, if_false]

theorem safeNAssert_of_short (s : State) (k : Nat) {w : Nat} (hshort : w < 20) : safeNAssert s k w = s := by
  simp [safeNAssert, hshort]

theorem safeNRelease_of_ball (s : State) {k : Nat} (hk : k < 4) : safeNRelease s k = s.setFbit F.GATE_STAT_SAFE_N k true :=
  if_neg (Nat.not_le.mpr hk)

/-- An entry into SAFE: the high side is off at once, the cause and the instant are recorded, the entry is counted and flagged (R277, R278). -/
theorem enterSafe_spec {s : State} {n cause : Nat} (hoff : gateState s n ≠ gsOff) (hsafe : gateState s n ≠ gsSafe) (hcause : cause < 8) :
    gateState (enterSafe s n cause) n = gsSafe ∧ gateOutH (enterSafe s n cause) n = false
      ∧ (enterSafe s n cause).fld F.GATE_C_STAT_SAFE_CAUSE n = cause ∧ (enterSafe s n cause).flag F.GATE_C_FLT_SAFE n = true
      ∧ (enterSafe s n cause).flag F.GATE_FLT_SAFE = true
      ∧ (enterSafe s n cause).ctr C.GATE_C_SAFE_ENTRIES n = min ctrMax (s.ctr C.GATE_C_SAFE_ENTRIES n + 1)
      ∧ ((enterSafe s n cause).gch n).safeAt = some s.gate.pwm ∧ ((enterSafe s n cause).gch n).recs = (s.gch n).recs
      ∧ (enterSafe s n cause).mem = s.mem := by
  obtain ⟨v, p, hinstant, hrecords, heq⟩ := enterSafe_forces s n cause hoff hsafe
  obtain ⟨hstate, hcauseAt, hflag, hcount, hrecord, hmem⟩ := safeForced_spec s n cause v hcause
  obtain ⟨hfld, hctr, hgate, hdev, hmem'⟩ := safeReport_spec (safeForced s n v cause) n cause p heq
  have hstate' : gateState (enterSafe s n cause) n = gsSafe := (hfld F.GATE_C_STAT_STATE n rfl (by decide)).trans hstate
  have hrecord' : (enterSafe s n cause).gch n = v := (gch_of_gate hgate n).trans hrecord
  refine ⟨hstate', ?off, (hfld F.GATE_C_STAT_SAFE_CAUSE n rfl (by decide)).trans hcauseAt, ?flag, hdev, (hctr _ n rfl).trans hcount, ?instant, ?records,
    hmem'.trans hmem⟩
  case off => exact gateOutH_of_resting (by rw [hstate']; decide) (by rw [hstate']; decide)
  case flag =>
    rw [← hflag]
    unfold State.flag
    rw [hfld F.GATE_C_FLT_SAFE n rfl (by decide)]
  case instant => rw [hrecord', hinstant]
  case records => rw [hrecord', hrecords]

/-! ## Freeze and clock stop (R282, R283) -/

section
variable {s : State}

theorem gateFreeze_of_open (hrunning : gateFrozen s = false) (hlc : s.keys.lifecycle ≤ 1) :
    gateFreeze s = ((((List.range gateChans).foldl (fun s n => if gateState s n = gsWait then gateCancel s n 2 else s) s).setFlag
      F.GATE_STAT_FROZEN true).setFlt F.GATE_FLT_FROZEN).count C.GATE_FREEZES := by
  simp [gateFreeze, hrunning, Nat.not_lt.mpr hlc]

theorem gateFreeze_of_sealed (hlc : 1 < s.keys.lifecycle) : gateFreeze s = s := by
  simp [gateFreeze, hlc]

theorem pwmClockReturn_of_stopped (hstopped : s.gate.stopped = true) :
    pwmClockReturn s = (((List.range gateChans).foldl (fun s n => enterSafe s n safeCauseClock)
      { s with gate := { s.gate with stopped := false } }).setFlt F.GATE_FLT_CLK_STOP).count C.GATE_CLK_STOPS := by
  simp [pwmClockReturn, hstopped]

theorem pwmClockReturn_of_running (hclock : s.gate.stopped = false) : pwmClockReturn s = s := by
  simp [pwmClockReturn, hclock]

end

/-- Settles O42: each force, freeze and return of the clock is the lemma about its own operation, taken at a device out of reset. -/
theorem gateSafeStates : Obligations.GateSafeStates := by
  intro s hlive
  simp only [exec_safeNAssert, execSafeNAssert, exec_safeNRelease, execSafeNRelease, exec_gateFreeze, execGateFreeze, exec_gateUnfreeze, execGateUnfreeze,
    exec_pwmClockReturn, execPwmClockReturn, live_of_not_held hlive]
  refine ⟨?ball, ?entry, ?freeze, fun hlc => by rw [gateFreeze_of_sealed hlc], rfl, ?clockReturn, fun hclock => by rw [pwmClockReturn_of_running hclock]⟩
  case ball =>
    intro k w hk
    refine ⟨fun hshort => by rw [safeNAssert_of_short s k hshort], fun hlong => ?long, by rw [safeNRelease_of_ball s hk]⟩
    case long =>
      rw [safeNAssert_of_long hk hlong]
      rfl
  case entry =>
    rintro n c _ _ _ hcause hoff hsafe rfl
    exact enterSafe_spec hoff hsafe hcause
  case freeze =>
    intro hfrozen hlc
    have hrunning : gateFrozen s = false := by simp [gateFrozen, State.flag, hfrozen]
    rw [gateFreeze_of_open hrunning hlc]
    rfl
  case clockReturn =>
    intro hstopped
    rw [pwmClockReturn_of_stopped hstopped]
    rfl

end Sys2Proof.Machine
end

section
/-! PROOFS. How copies on the Rally lanes are judged, and what an accepted frame of each type does (R291, R294 to R298, R303, R305, R308, R309, R311, R553). -/

namespace Sys2Proof.Machine

/-! ## The judgement of a copy (R291) -/

/-- A copy of the other side whose SEQ is ahead of the reference. -/
def CopyAhead (s : State) (h : RallyHdr) : Prop :=
  h.side ≠ s.twin.sideB ∧ ∃ r, s.twin.rxRef = some r ∧ 1 ≤ (h.seq + 2 ^ 32 - r) % 2 ^ 32 ∧ (h.seq + 2 ^ 32 - r) % 2 ^ 32 < 2 ^ 31

/-- An accepted copy becomes the reference and is counted. -/
def copyTaken (s : State) (seq : Nat) : State :=
  ({ s with twin := { s.twin with lastRx := s.time.sys, rxRef := some seq } }).count C.TWIN_FRAMES_RX

section
variable {s : State} {h : RallyHdr} (f : State → State)

theorem onCopy_of_own_side (hown : h.side = s.twin.sideB) : onCopy s h false f = crcErr s h.lane true := by
  simp [onCopy, rallyAccept, hown]

theorem onCopy_of_no_reference (hside : h.side ≠ s.twin.sideB) (href : s.twin.rxRef = none) : onCopy s h false f = s.count C.TWIN_DUP_DISCARD := by
  simp [onCopy, rallyAccept, hside, href]

theorem onCopy_of_not_ahead {r : Nat} (hello : Bool) (hside : h.side ≠ s.twin.sideB) (href : s.twin.rxRef = some r)
    (hbehind : (h.seq + 2 ^ 32 - r) % 2 ^ 32 = 0 ∨ 2 ^ 31 ≤ (h.seq + 2 ^ 32 - r) % 2 ^ 32) : onCopy s h hello f = s.count C.TWIN_DUP_DISCARD := by
  have hno : ¬ (1 ≤ (h.seq + 2 ^ 32 - r) % 2 ^ 32 ∧ (h.seq + 2 ^ 32 - r) % 2 ^ 32 < 2 ^ 31) := by omega
  simp only [onCopy, rallyAccept, hside, href, decide_false, Bool.false_and, Bool.false_eq_true, if_false, ← Bool.decide_and, decide_eq_true_eq, if_neg hno]

theorem onCopy_of_ahead (hello : Bool) (hnew : CopyAhead s h) : onCopy s h hello f = f (copyTaken s h.seq) := by
  obtain ⟨hside, r, href, hahead⟩ := hnew
  simp only [onCopy, rallyAccept, hside, href, decide_false, Bool.false_and, Bool.false_eq_true, if_false, ← Bool.decide_and, decide_eq_true_eq, if_pos hahead,
    copyTaken]

/-- A HELLO needs no reference, and gives one when the pair is not OFF. -/
theorem onCopy_of_first_hello (hside : h.side ≠ s.twin.sideB) (href : s.twin.rxRef = none) (hon : pairState s ≠ prOff) :
    onCopy s h true f = f (copyTaken s h.seq) := by
  simp [onCopy, rallyAccept, hside, href, hon, copyTaken]

end

section
variable (s : State) (seq : Nat)

@[simp] theorem copyTaken_twin : (copyTaken s seq).twin = { s.twin with lastRx := s.time.sys, rxRef := some seq } := State.count_twin _ _ _

@[simp] theorem copyTaken_time : (copyTaken s seq).time = s.time := State.count_time _ _ _

@[simp] theorem copyTaken_mem : (copyTaken s seq).mem = s.mem := State.count_mem _ _ _

theorem fld_copyTaken {g : Fld} (j : Nat) (hg : C.TWIN_FRAMES_RX.apart g = true) : (copyTaken s seq).fld g j = s.fld g j :=
  fld_count_apart _ _ _ hg

theorem flag_copyTaken {g : Fld} (j : Nat) (hg : C.TWIN_FRAMES_RX.apart g = true) : (copyTaken s seq).flag g j = s.flag g j :=
  flag_count_apart _ _ _ hg

theorem pairState_copyTaken : pairState (copyTaken s seq) = pairState s := fld_copyTaken s seq 0 (by decide)

end

/-! ## COMMIT (R298) -/

/-- A group's record of the partner's commits with one more. -/
def peersNoted (v : RallyGrp) (pn : Nat) (es : List PeerRec) : RallyGrp := { v with peers := ((pn, es) :: v.peers).take rallyKeep }

section
variable {s b : State} {h : RallyHdr} {w : List Nat} {g : Nat} {v : RallyGrp}

/-- A commit that is closed or whose deadline has not passed is not late. -/
theorem no_commit_late (hdue : ∀ x ∈ v.pend, x.closed = true ∨ b.time.sys ≤ rallyDeadline b x) (pn : Nat) :
    (v.pend.find? fun c => c.pn = pn && c.got.isNone && (!c.closed && decide (rallyDeadline b c < b.time.sys))) = none := by
  rw [List.find?_eq_none]
  intro x hx
  rcases hdue x hx with hclosed | hearly
  · simp [hclosed]
  · simp [Nat.not_lt.mpr hearly]

variable (hnew : CopyAhead s h) (hg : g = bitsOf (w.getD 0 0) 26 24)
  (hv : v = peersNoted ((copyTaken s h.seq).rgrp g) (w.getD 1 0) (peerRecs w)) (hb : b = (copyTaken s h.seq).setRgrp g v)
  (hdue : ∀ x ∈ v.pend, x.closed = true ∨ b.time.sys ≤ rallyDeadline b x)
include hnew hg hv hb hdue

/-- A record of a window for which no commit waits is kept. -/
theorem commitRx_of_unmatched (hfind : v.pend.find? (fun c => c.pn = w.getD 1 0 && c.got.isNone) = none) : commitRx s h w = b := by
  have hpend : (b.rgrp g).pend = v.pend := by rw [hb, rgrp_setRgrp_same]
  rw [commitRx, onCopy_of_ahead _ _ hnew]
  dsimp only
  rw [← hg, show RallyGrp.mk _ _ _ _ = v from hv.symm, ← hb]
  simp only [hpend, no_commit_late hdue, hfind]

/-- A record resolves the commit of its window that waits for it. -/
theorem commitRx_of_waiting {c : RallyPend} (hfind : v.pend.find? (fun c => c.pn = w.getD 1 0 && c.got.isNone) = some c) (hopen : c.closed = false)
    (hwait : c.resolved = false) :
    commitRx s h w = resolveCommit (inTime (setPend (b.count C.TWIN_G_RECORDS g) g { c with got := some (peerRecs w), resolved := true }) g c) g
      { c with got := some (peerRecs w) } := by
  have hpend : (b.rgrp g).pend = v.pend := by rw [hb, rgrp_setRgrp_same]
  rw [commitRx, onCopy_of_ahead _ _ hnew]
  dsimp only
  rw [← hg, show RallyGrp.mk _ _ _ _ = v from hv.symm, ← hb]
  simp only [hpend, no_commit_late hdue, hfind, hopen, hwait, Bool.false_eq_true, if_false]

end

/-! ## The other types -/

section
variable {s : State} {h : RallyHdr} (hnew : CopyAhead s h)
include hnew

/-- The first part of an image begins it (R308). -/
theorem xferRx_of_first_part {w : List Nat} (hoff : w.getD 2 0 = 0) (hheld : joinHeld (copyTaken s h.seq) (bitsOf (w.getD 0 0) 30 24) = true)
    (hmore : bitOf (w.getD 0 0) 0 = false) :
    xferRx s h w = { copyTaken s h.seq with twin := { (copyTaken s h.seq).twin with
      rxImg := some { part := bitsOf (w.getD 0 0) 30 24, n := w.getD 1 0, data := (w.drop 4).flatMap (octetsBE 4), pos := 0 } } } := by
  rw [xferRx, onCopy_of_ahead _ _ hnew]
  simp only [hoff, hheld, hmore, Bool.not_true, Bool.not_false, Bool.false_eq_true, if_false, if_true]

/-- YIELD gives the lead to this twin of a pair (R296). -/
theorem yieldRx_of_ahead : yieldRx s h = if pairState s = prPaired then
      setRole { copyTaken s h.seq with twin := { (copyTaken s h.seq).twin with peerYielded := true } } true
    else { copyTaken s h.seq with twin := { (copyTaken s h.seq).twin with peerYielded := true } } := by
  rw [yieldRx, onCopy_of_ahead _ _ hnew, ← pairState_copyTaken s h.seq]
  rfl

/-- A RESET_REQ is refused while ACCEPT_RST is 0 (R311). -/
theorem resetReqRx_of_refused (hoff : s.flag F.TWIN_CTRL_ACCEPT_RST = false) :
    resetReqRx s h = sendCtrl ((((copyTaken s h.seq).count C.TWIN_RESET_REQ_RX).setFlt F.TWIN_FLT_RESET_REFUSED).count C.TWIN_RESET_REFUSED) 3 0 := by
  have hflag : ((copyTaken s h.seq).count C.TWIN_RESET_REQ_RX).flag F.TWIN_CTRL_ACCEPT_RST = false := by
    rw [flag_count_apart _ _ _ (by decide), flag_copyTaken _ _ _ (by decide), hoff]
  rw [resetReqRx, onCopy_of_ahead _ _ hnew]
  simp only [hflag, Bool.false_and, Bool.false_eq_true, if_false]

/-- A RESET_REQ that is accepted sets the reset 10 µs ahead, and an earlier one stands (R311). -/
theorem resetReqRx_of_accepted (hon : s.flag F.TWIN_CTRL_ACCEPT_RST = true) (hold : 10000000000 ≤ s.time.sys) :
    (resetReqRx s h).twin = { (copyTaken s h.seq).twin with resetAt := some (s.twin.resetAt.getD (s.time.sys + 10000)) }
      ∧ (resetReqRx s h).mem = s.mem := by
  have hflag : ((copyTaken s h.seq).count C.TWIN_RESET_REQ_RX).flag F.TWIN_CTRL_ACCEPT_RST = true := by
    rw [flag_count_apart _ _ _ (by decide), flag_copyTaken _ _ _ (by decide), hon]
  rw [resetReqRx, onCopy_of_ahead _ _ hnew]
  simp [hflag, hold]

section
variable {p : Nat} (himg : s.twin.sendImg.any (fun i => i.part = p) = true)
include himg

theorem xferAckRx_of_sent : xferAckRx s h p = xferNext (copyTaken s h.seq) p := by
  rw [xferAckRx, onCopy_of_ahead _ _ hnew, copyTaken_twin]
  exact if_pos himg

/-- After the third refusal of an image the sender goes on (R309). -/
theorem xferNakRx_of_last (hlast : 2 ≤ s.twin.refusals) : xferNakRx s h p = xferNext (copyTaken s h.seq) p := by
  rw [xferNakRx, onCopy_of_ahead _ _ hnew]
  simp only [copyTaken_twin, himg, hlast, Bool.not_true, Bool.false_eq_true, if_false, if_true]

theorem xferNakRx_of_retry (hfew : s.twin.refusals < 2) :
    xferNakRx s h p = { copyTaken s h.seq with twin := { (copyTaken s h.seq).twin with sendImg := none, refusals := s.twin.refusals + 1 } } := by
  rw [xferNakRx, onCopy_of_ahead _ _ hnew]
  simp only [copyTaken_twin, himg, Nat.not_le.mpr hfew, Bool.not_true, Bool.false_eq_true, if_false]

end
end

/-- Settles O43: a copy is judged by its side and its SEQ, and an accepted one acts by the lemma of its type. -/
theorem rallyCopiesAreJudged : Obligations.RallyCopiesAreJudged := by
  intro s h w hlive
  simp only [exec_rallyCopyDiscard, execRallyCopyDiscard, exec_fprintRx, execFprintRx, exec_commitRx, execCommitRx, exec_gseqRx, execGseqRx, exec_xferRx,
    execXferRx, exec_yieldRx, execYieldRx, exec_helloRx, execHelloRx, exec_resetReqRx, execResetReqRx, exec_resetNakRx, execResetNakRx, exec_xferAckRx,
    execXferAckRx, exec_xferNakRx, execXferNakRx, live_of_not_held hlive, Host.Outcome.next.injEq]
  refine ⟨fun _ => trivial, ?ownSide, ?noReference, ?behind, ?ahead⟩
  case ownSide =>
    intro hown
    exact ⟨onCopy_of_own_side _ hown, onCopy_of_own_side _ hown⟩
  case noReference =>
    intro hside href
    exact ⟨onCopy_of_no_reference _ hside href, onCopy_of_no_reference _ hside href⟩
  case behind =>
    intro r hside href hbehind
    exact ⟨onCopy_of_not_ahead _ false hside href hbehind, onCopy_of_not_ahead _ true hside href hbehind⟩
  case ahead =>
    intro r a hside href hpos hhalf ha
    obtain rfl : a = copyTaken s h.seq := ha
    have hnew : CopyAhead s h := ⟨hside, r, href, hpos, hhalf⟩
    refine ⟨?fprint, ?commit, onCopy_of_ahead _ false hnew, ?xfer, ?yieldUnpaired, ?yieldPaired, ?resetReq, onCopy_of_ahead _ false hnew, ?images⟩
    case fprint =>
      rintro g rfl
      exact onCopy_of_ahead _ false hnew
    case commit =>
      rintro g pn v hg rfl hv hdue
      exact ⟨commitRx_of_unmatched hnew hg hv rfl hdue, fun c hfind hopen hwait => commitRx_of_waiting hnew hg hv rfl hdue hfind hopen hwait⟩
    case xfer =>
      rintro p rfl hoff hheld hmore
      exact xferRx_of_first_part hnew hoff hheld hmore
    case yieldUnpaired =>
      intro hpair
      exact (yieldRx_of_ahead hnew).trans (if_neg hpair)
    case yieldPaired =>
      intro hpair
      exact (yieldRx_of_ahead hnew).trans (if_pos hpair)
    case resetReq =>
      rintro b rfl
      refine ⟨fun hon hold => ⟨_, rfl, ?_⟩, resetReqRx_of_refused hnew⟩
      simpa using resetReqRx_of_accepted hnew hon hold
    case images =>
      intro p himg
      exact ⟨xferAckRx_of_sent hnew himg, xferNakRx_of_retry hnew himg, xferNakRx_of_last hnew himg⟩

end Sys2Proof.Machine
end

section
/-! PROOFS. How the pair of twins forms, falls apart and changes its lead (R287, R288, R291, R292, R294 to R297). -/

namespace Sys2Proof.Machine

/-! ## The pair state and the lead -/

theorem pairState_of_regs {s t : State} (h : t.regs = s.regs) : pairState t = pairState s := fld_of_regs h _ _

theorem pairState_setRole (s : State) (lead : Bool) : pairState (setRole s lead) = pairState s := by
  have hnoted (t : State) (ht : t = (((s.setFlag F.TWIN_STAT_LEADER lead).count C.TWIN_ROLE_CHANGES).setFlt F.TWIN_FLT_ROLE_CHANGE).event blkTwin 0x0902 0
      (ofBit lead)) : pairState t = pairState s := by
    rw [ht, pairState, fld_event_apart _ _ _ _ _ _ _ _ (by decide), fld_setFlt_apart _ _ (by decide) (by decide), fld_count_apart _ _ _ (by decide),
      fld_setFlag_apart _ _ _ _ (by decide), pairState]
  unfold setRole
  split
  · rfl
  · dsimp only
    split
    · exact ((gooseTakeover_kept (Kept.refl _) (Within.refl _)).fld (by decide)).trans (hnoted _ rfl)
    · exact ((gooseFollow_kept (Kept.refl _) (Within.refl _)).fld (by decide)).trans (hnoted _ rfl)

theorem pairState_rallyUnalign (s : State) (g : Nat) : pairState (rallyUnalign s g) = pairState s := by
  unfold rallyUnalign
  split
  · rfl
  · rw [pairState, fld_setFld_apart _ _ _ _ (by decide), fld_setFld_apart _ _ _ _ (by decide), fld_of_regs (State.setRgrp_regs _ _ _), pairState]

theorem pairState_unalignAll (l : List Nat) (s : State) : pairState (l.foldl rallyUnalign s) = pairState s := by
  induction l generalizing s with
  | nil => rfl
  | cons g gs ih => exact (ih _).trans (pairState_rallyUnalign s g)

/-- From ALONE a pair enters PROBE with every group UNALIGNED (R294, R297). -/
theorem setPair_probe_of_alone {s e u : State} (halone : pairState s = prAlone)
    (he : e = (s.setFld F.TWIN_STAT_PAIR prProbe).event blkTwin 0x0901 0 prAlone prProbe)
    (hu : u = (List.range 8).foldl rallyUnalign { e with twin := { e.twin with lastRx := e.time.sys } }) :
    setPair s prProbe = setRole { u with twin := { u.twin with probeLogged := false } } true := by
  simp only [setPair, halone, ← he, ← hu, show prAlone ≠ prProbe by decide, show ¬ prProbe ≤ prAlone by decide, show prAlone ≠ prPaired by decide,
    show prProbe ≠ prPaired by decide, show prProbe ≠ prOff by decide, if_false, if_true]

theorem pairState_setPair_probe {s : State} (halone : pairState s = prAlone) : pairState (setPair s prProbe) = prProbe := by
  have hentered : pairState ((s.setFld F.TWIN_STAT_PAIR prProbe).event blkTwin 0x0901 0 prAlone prProbe) = prProbe := by
    rw [pairState, fld_event_apart _ _ _ _ _ _ _ _ (by decide), fld_setFld_same]
    rfl
  generalize he : (s.setFld F.TWIN_STAT_PAIR prProbe).event blkTwin 0x0901 0 prAlone prProbe = e at hentered
  obtain ⟨u, hu⟩ : ∃ u, u = (List.range 8).foldl rallyUnalign { e with twin := { e.twin with lastRx := e.time.sys } } := ⟨_, rfl⟩
  have hunaligned : pairState u = prProbe := by rw [hu, pairState_unalignAll, ← hentered]; rfl
  rw [setPair_probe_of_alone halone he.symm hu, pairState_setRole, ← hunaligned]
  rfl

/-! ## Enable and disable (R288, R294) -/

section
variable {s : State}

theorem twinEnableRow_of_locked (hoff : s.flag F.TWIN_CTRL_EN = false) (hlock : s.flag F.TWIN_CTRL_LOCK = true) :
    twinEnableRow s = s.lockViolation 0 0x40090000 1 := by
  simp only [twinEnableRow, hlock, hoff, Bool.not_false, Bool.and_self, if_true, State.rowLocked]

theorem twinEnableRow_of_solo (hoff : s.flag F.TWIN_CTRL_EN = false) (hrec : s.recovering = false) (hlock : s.flag F.TWIN_CTRL_LOCK = false)
    (hsolo : s.twin.solo = true) : twinEnableRow s = s.setFlt F.TWIN_FLT_CFG_ERR := by
  simp [twinEnableRow, twinEnable, hlock, hoff, hrec, hsolo]

/-- The enable of a module with a twin starts the joining, enters ALONE and sends a HELLO (R288, R294, R306). -/
theorem twinEnableRow_of_accepted {b : State} {j : JoinSt} (hoff : s.flag F.TWIN_CTRL_EN = false) (hrec : s.recovering = false)
    (hlock : s.flag F.TWIN_CTRL_LOCK = false) (hsolo : s.twin.solo = false)
    (hj : j = { until_ := s.time.sys + s.fld F.TWIN_XFER_XFER_TIMEOUT * 1000000, ended := false, done := (s.twin.join.map JoinSt.done).getD [],
                naks := (s.twin.join.map JoinSt.naks).getD [] })
    (hb : b = { s.setFlag F.TWIN_CTRL_EN true with twin := { s.twin with txSeq := 0, helloAt := s.time.sys + helloCycles, join := some j } }) :
    twinEnableRow s = sendHello (setPair (joinSettle b) prAlone) := by
  subst hb hj
  simp only [twinEnableRow, twinEnable, hlock, hoff, hrec, hsolo, Bool.or_self, Bool.false_and, Bool.false_eq_true, if_false, State.setFlag_twin,
    State.setFlag_time]

theorem twinDisableRow_of_enabled (hon : s.flag F.TWIN_CTRL_EN = true) (hlock : s.flag F.TWIN_CTRL_LOCK = false) :
    twinDisableRow s = setPair (s.setFlag F.TWIN_CTRL_EN false) prOff := by
  simp [twinDisableRow, twinDisable, hlock, hon]

/-! ## HELLO and the lanes (R288, R292) -/

theorem helloTx_of_due (hon : pairState s ≠ prOff) (hdue : s.twin.helloAt ≤ s.time.sys) :
    helloTx s = sendHello { s with twin := { s.twin with helloAt := s.twin.helloAt + helloCycles } } := by
  simp only [helloTx, hon, Nat.not_lt.mpr hdue, decide_false, Bool.or_self, Bool.false_eq_true, if_false]

theorem helloTx_of_early (hearly : s.time.sys < s.twin.helloAt) : helloTx s = s := by
  simp [helloTx, hearly]

theorem twinLaneUp_of_lane {l : Nat} (hl : l < 2) : twinLaneUp s l = laneRefresh { s with twin := { s.twin with locks := s.twin.locks ||| 2 ^ l } } :=
  if_neg (Nat.not_le.mpr hl)

/-- A lane that was up and loses its lock is flagged and counted (R288). -/
theorem twinLaneDown_of_up {a : State} {l : Nat} (hl : l < 2) (hup : bitOf (s.fld F.TWIN_STAT_LANE_UP) l = true)
    (ha : a = (s.setFlt F.TWIN_FLT_LANE_LOST).count C.TWIN_LANE_LOSSES) :
    twinLaneDown s l = laneRefresh { a with twin := { a.twin with locks := a.twin.locks &&& (3 - 2 ^ l) } } := by
  subst ha
  simp only [twinLaneDown, Nat.not_le.mpr hl, hup, if_false, if_true]

/-! ## A HELLO that makes the pair (R294) -/

/-- A HELLO that passes its checks takes ALONE through PROBE to PAIRED, and its groups are aligned. -/
theorem helloRx_of_alone {h : RallyHdr} {w : List Nat} {a b : State} (hside : h.side ≠ s.twin.sideB) (halone : pairState s = prAlone)
    (href : s.twin.rxRef = none) (ha : a = setPair (copyTaken s h.seq) prProbe)
    (hb : b = { a with twin := { a.twin with rxRef := some h.seq, peerTag := w.getD 0 0, peerPri := bitsOf (w.getD 2 0) 31 28,
                                             peerYielded := bitOf (w.getD 2 0) 26, peerXfer := bitOf (w.getD 2 0) 25, peerGen := w.getD 2 0 % 256 } })
    (hpass : helloCheck b h w = 0) :
    helloRx s h w = (List.range 8).foldl (fun s g => alignGroup s w g) (setPair b prPaired) := by
  have halone' : pairState (copyTaken s h.seq) = prAlone := (pairState_copyTaken s h.seq).trans halone
  have hprobe : pairState b = prProbe := by
    rw [pairState_of_regs (s := a) (by rw [hb]), ha]
    exact pairState_setPair_probe halone'
  have hon : pairState s ≠ prOff := by rw [halone]; decide
  rw [helloRx, onCopy_of_first_hello _ hside href hon]
  simp only [halone', show prAlone ≠ prOff by decide, if_true, if_false, copyTaken_twin, ← ha, ← hb, hprobe, hpass, ne_eq, not_true_eq_false, decide_true,
    decide_false, Bool.and_false, Bool.false_eq_true]

/-! ## The end of a pair and its lead (R294, R296) -/

theorem pairLinkTimeout_of_quiet (hpair : pairState s = prPaired)
    (hquiet : s.twin.lastRx + max 2 (s.fld F.TWIN_LINK_HELLO_LOSS) * helloCycles ≤ s.time.sys) : pairLinkTimeout s = pairLost s := by
  simp [pairLinkTimeout, hpair, hquiet]

theorem pairLinkTimeout_of_heard (hheard : s.time.sys < s.twin.lastRx + max 2 (s.fld F.TWIN_LINK_HELLO_LOSS) * helloCycles)
    (hlane : s.fld F.TWIN_STAT_LANE_UP ≠ 0) : pairLinkTimeout s = s := by
  simp [pairLinkTimeout, Nat.not_le.mpr hheard, hlane]

theorem twinYield_of_leader (hpair : pairState s = prPaired) (hlead : isLeader s = true) :
    twinYield s = sendCtrl (setRole (s.setFlag F.TWIN_STAT_YIELDED true) false) 1 0 := by
  simp [twinYield, hpair, hlead]

theorem twinYield_of_follower (hfollow : isLeader s = false) : twinYield s = s.setFlt F.TWIN_FLT_CMD_REFUSED := by
  simp [twinYield, hfollow, twinRefuse]

end

/-! ## REALIGN (R297) -/

theorem grpAlign_rallyUnalign (s : State) (g : Nat) : grpAlign (rallyUnalign s g) g = alUnaligned := by
  unfold rallyUnalign
  split
  case isTrue hun => exact hun
  case isFalse => rw [grpAlign, fld_setFld_apart _ _ _ _ (by decide), fld_setFld_same]; rfl

theorem rallyUnalign_mem (s : State) (g : Nat) : (rallyUnalign s g).mem = s.mem := by
  unfold rallyUnalign
  split <;> rfl

/-- Settles O44: each command and event of the pair has the effect that its own lemma gives. -/
theorem rallyPairForms : Obligations.RallyPairForms := by
  intro s hlive
  simp only [exec_twinEnable, execTwinEnable, exec_twinDisable, execTwinDisable, exec_helloTx, execHelloTx, exec_twinLaneUp, execTwinLaneUp,
    exec_twinLaneDown, execTwinLaneDown, exec_helloRx, execHelloRx, exec_pairLinkTimeout, execPairLinkTimeout, exec_yield, execYield, exec_realign,
    execRealign, exec_clrRmax, execClrRmax, live_of_not_held hlive, Host.Outcome.next.injEq]
  refine ⟨?enable, twinDisableRow_of_enabled, helloTx_of_due, helloTx_of_early, ?lanes, ?hello, ?paired, ?groups⟩
  case enable =>
    intro hoff hrec
    refine ⟨twinEnableRow_of_locked hoff, twinEnableRow_of_solo hoff hrec, ?_⟩
    intro hlock hsolo b j hj hb
    exact twinEnableRow_of_accepted hoff hrec hlock hsolo hj hb
  case lanes =>
    intro l hl
    exact ⟨twinLaneUp_of_lane hl, fun a hup ha => twinLaneDown_of_up hl hup ha⟩
  case hello =>
    intro h w a b hside halone _ href ha hb hpass
    obtain rfl : a = setPair (copyTaken s h.seq) prProbe := ha
    exact ⟨pairState_setPair_probe ((pairState_copyTaken s h.seq).trans halone), helloRx_of_alone hside halone href rfl hb hpass⟩
  case paired =>
    intro hpair
    exact ⟨pairLinkTimeout_of_quiet hpair, pairLinkTimeout_of_heard, twinYield_of_leader hpair, twinYield_of_follower⟩
  case groups =>
    intro g hg
    rw [if_neg (Nat.not_le.mpr hg), if_neg (Nat.not_le.mpr hg)]
    exact ⟨⟨_, rfl, grpAlign_rallyUnalign s g, rallyUnalign_mem s g⟩, rfl⟩

end Sys2Proof.Machine
end

section
/-! PROOFS. Resolution deadlines, images, wake frames and the commanded reset (R297, R298, R306 to R311). -/

namespace Sys2Proof.Machine

section
variable {s : State}

/-! ## Deadlines of commits (R297, R298) -/

theorem rallyResolve_of_due {g : Nat} {c : RallyPend}
    (hfind : (s.rgrp g).pend.find? (fun c => !c.closed && decide (rallyDeadline s c ≤ s.time.sys)) = some c) : rallyResolve s g = closePend s g c := by
  simp only [rallyResolve, hfind]

theorem rallyResolve_of_none_due {g : Nat} (hnone : ∀ c ∈ (s.rgrp g).pend, c.closed = true ∨ s.time.sys < rallyDeadline s c) : rallyResolve s g = s := by
  have hfind : (s.rgrp g).pend.find? (fun c => !c.closed && decide (rallyDeadline s c ≤ s.time.sys)) = none := by
    rw [List.find?_eq_none]
    intro c hc
    rcases hnone c hc with hclosed | hearly
    · simp [hclosed]
    · simp [Nat.not_le.mpr hearly]
  simp only [rallyResolve, hfind]

/-- A commit that its record has resolved is only closed. -/
theorem closePend_of_resolved (g : Nat) {c : RallyPend} (hdone : c.resolved = true) (hgot : c.got.isSome) :
    closePend s g c = setPend s g { c with resolved := true, closed := true } := by
  have hhas : c.got.isNone = false := by rw [Option.isNone_eq_false_iff, hgot]
  simp only [closePend, hdone, hhas, Bool.false_eq_true, if_false, if_true]

/-- A commit without a record is resolved by fallback and counts as missed. -/
theorem closePend_of_waiting (g : Nat) {c : RallyPend} (hwait : c.resolved = false) (hgot : c.got = none) :
    closePend s g c = missed (resolveCommit (setPend s g { c with resolved := true, closed := true }) g c) g c := by
  simp only [closePend, hwait, hgot, Option.isNone_none, Bool.false_eq_true, if_false, if_true]

/-! ## Sending an image (R307) -/

theorem sendRally_of_open (hopen : rallyOpen s = true) (typ : Nat) (words : List Nat) :
    sendRally s typ words = { s with twin := { s.twin with out := s.twin.out ++ [(typ, words)] } } := if_pos hopen

theorem sendRally_sendImg (s : State) (typ : Nat) (words : List Nat) : (sendRally s typ words).twin.sendImg = s.twin.sendImg := by
  unfold sendRally
  split <;> rfl

theorem sendRally_mem (s : State) (typ : Nat) (words : List Nat) : (sendRally s typ words).mem = s.mem := by
  obtain ⟨x, hx⟩ := sendRally_twin s typ words
  rw [hx]

/-- The last frame of an image: what is left of it, with its CRC. -/
def lastXferWords (i : XferImg) : List Nat :=
  [i.part * 2 ^ 24 + 1, i.n, i.pos, crc32c i.data]
    ++ (List.range ((i.data.drop i.pos).length / 4)).map fun k => ofOctetsBE (((i.data.drop i.pos).drop (4 * k)).take 4)

section
variable {i : XferImg} (himg : s.twin.sendImg = some i)
include himg

theorem xferFrameTx_of_shut (hshut : xferOpen s i.part = false) : xferFrameTx s = s := by
  simp [xferFrameTx, himg, hshut]

theorem xferFrameTx_of_last {a : State} (hopen : xferOpen s i.part = true) (hlast : i.data.length ≤ i.pos + 1024) (hmore : i.pos < i.data.length)
    (ha : a = { s with twin := { s.twin with sendImg := some { i with pos := i.data.length } } }) :
    xferFrameTx s = sendRally a rfXfer (lastXferWords i) := by
  have hchunk : (i.data.drop i.pos).take 1024 = i.data.drop i.pos := List.take_of_length_le (by rw [List.length_drop]; omega)
  have hend : i.pos + (i.data.drop i.pos).length = i.data.length := by rw [List.length_drop]; omega
  simp only [xferFrameTx, himg, hopen, Nat.not_le.mpr hmore, hlast, hchunk, hend, ← ha, lastXferWords, ofBit, Bool.not_true, decide_false, decide_true,
    Bool.or_self, Bool.false_eq_true, if_false, if_true]

end

/-! ## The end of a joining (R306) -/

/-- Does an enabled slot name a partition that is not installed? -/
def joinLacks (s : State) (j : JoinSt) : Bool :=
  (List.range 8).any fun g => grpEn s g && (groupSlots s g).any fun (n, k) => !j.done.contains (slotPart s n k)

section
variable {j : JoinSt} (hjoin : s.twin.join = some j)
include hjoin

theorem xferTimeout_of_early (hearly : s.time.sys < j.until_) : xferTimeout s = s := by
  simp [xferTimeout, hjoin, hearly]

/-- At XFER_TIMEOUT every partition is released, and those without an image set XFER_FAIL. -/
theorem xferTimeout_of_due {b : State} (hruns : j.ended = false) (hreq : s.flag F.TWIN_CTRL_XFER_REQ = true) (hdue : j.until_ ≤ s.time.sys)
    (hb : b = { s with twin := { s.twin with join := some { j with ended := true, done := List.range 128 }, rxImg := none, images := [] } }) :
    xferTimeout s = joinSettle (if joinLacks s j then b.setFlt F.TWIN_FLT_XFER_FAIL else b) := by
  simp only [xferTimeout, hjoin, hruns, hreq, Nat.not_lt.mpr hdue, ← hb, joinLacks, Bool.not_true, decide_false, Bool.or_self, Bool.false_eq_true, if_false] <;> rfl

end

/-! ## Wake frames (R310) -/

theorem wakeStart_of_none (hnone : s.twin.wakeAt = none) :
    wakeStart s = ({ s with twin := { s.twin with wakeAt := some (s.time.sys + 1), wakeEnd := s.time.sys + max 1 (s.fld F.TWIN_WAKE_WAKE_TIMEOUT) * 1000000 } }).count
      C.TWIN_WAKES := by
  simp [wakeStart, hnone]

section
variable {e : Nat} (hwake : s.twin.wakeAt = some e)
include hwake

theorem wakeFrameTx_of_early (hearly : s.time.sys < e) : wakeFrameTx s = s := by
  simp [wakeFrameTx, hwake, hearly]

/-- The wake frame that is due is sent when its port can, and the next falls due 1 ms after it. -/
theorem wakeFrameTx_of_due {a : State} {p : Nat} (hdue : e ≤ s.time.sys) (hp : p = s.fld F.TWIN_WAKE_WAKE_PORT)
    (ha : a = { s with twin := { s.twin with wakeAt := some (e + 1000000) } }) :
    wakeFrameTx s = if oobReady a p then sendOob a p (.wake (wakeFrame a p)) else a := by
  simp only [wakeFrameTx, hwake, Nat.not_lt.mpr hdue, if_false, ← ha, ← hp]

theorem wakeTimeout_of_due (hdue : s.twin.wakeEnd ≤ s.time.sys) :
    wakeTimeout s = ((wakeStop s).setFlt F.TWIN_FLT_WAKE_TIMEOUT).event blkTwin 0x0906 0 (s.fld F.TWIN_WAKE_WAKE_PORT) := by
  simp [wakeTimeout, hwake, Nat.not_lt.mpr hdue]

end

theorem wakeTimeout_of_early (hearly : s.time.sys < s.twin.wakeEnd) : wakeTimeout s = s := by
  simp [wakeTimeout, hearly]

/-! ## The commanded reset (R311) -/

section
variable {t : Nat} (hat : s.twin.resetAt = some t)
include hat

theorem partnerResetFire_of_early (hearly : s.time.sys < t) : partnerResetFire s = s := by
  simp [partnerResetFire, hat, Nat.not_le.mpr hearly]

theorem partnerResetFire_of_due (hdue : t ≤ s.time.sys) : partnerResetFire s = assertReset s causeTwin := by
  simp [partnerResetFire, hat, hdue]

end
end

/-- Settles O45: each deadline, frame and command acts by its own lemma, with both sides of each instant. -/
theorem rallyResolvesAndTransfers : Obligations.RallyResolvesAndTransfers := by
  intro s hlive
  simp only [exec_rallyResolve, execRallyResolve, exec_xferFrameTx, execXferFrameTx, exec_xferTimeout, execXferTimeout, exec_wake, execWake,
    exec_resetPartner, execResetPartner, exec_wakeFrameTx, execWakeFrameTx, exec_wakeTimeout, execWakeTimeout, exec_partnerResetFire,
    execPartnerResetFire, live_of_not_held hlive, Host.Outcome.next.injEq]
  refine ⟨?due, fun _ => rallyResolve_of_none_due, ?image, ?join, ?paired, ?unpaired, ?wake, ?reset⟩
  case due =>
    rintro g c hfind a rfl
    rw [rallyResolve_of_due hfind]
    exact ⟨closePend_of_resolved g, closePend_of_waiting g⟩
  case image =>
    intro i himg
    refine ⟨xferFrameTx_of_shut himg, fun hopen hlast hmore => ?_⟩
    obtain ⟨a, ha⟩ : ∃ a, a = { s with twin := { s.twin with sendImg := some { i with pos := i.data.length } } } := ⟨_, rfl⟩
    refine ⟨_, xferFrameTx_of_last himg hopen hlast hmore ha, ?_, ?_, fun hlanes => ?_⟩
    · rw [sendRally_sendImg, ha]
    · rw [sendRally_mem, ha]
    · have hlanes' : rallyOpen a = true := by rw [ha]; exact hlanes
      rw [sendRally_of_open hlanes', ha]
      rfl
  case join =>
    intro j hjoin hruns hreq
    refine ⟨xferTimeout_of_early hjoin, fun hdue b hb => ?_⟩
    rw [xferTimeout_of_due hjoin hruns hreq hdue hb]
    exact ⟨fun hlacks => congrArg joinSettle (if_pos hlacks), fun hall => congrArg joinSettle (if_neg (ne_true_of_eq_false hall))⟩
  case paired =>
    intro hpair
    exact ⟨if_pos hpair, if_neg fun hunpaired => hunpaired hpair⟩
  case unpaired =>
    intro hpair
    exact ⟨if_pos hpair, fun hnone => (if_neg hpair).trans (wakeStart_of_none hnone)⟩
  case wake =>
    intro e p hwake hp
    refine ⟨wakeFrameTx_of_early hwake, fun a hdue ha => ?_, wakeTimeout_of_early, fun hdue => ?_⟩
    · rw [wakeFrameTx_of_due hwake hdue hp ha]
      exact ⟨fun hready => if_pos hready, fun hbusy => if_neg (ne_true_of_eq_false hbusy)⟩
    · refine ⟨_, wakeTimeout_of_due hwake hdue, ?_, ?_, ?_⟩
      · rw [State.event_twin, State.setFlt_twin, wakeStop]
      · rw [flag_event_apart _ _ _ _ _ _ _ _ (by decide), flag_setFlt_same _ rfl (by decide)]
      · rw [State.event_mem, State.setFlt_mem, wakeStop]
  case reset =>
    intro t hat
    exact ⟨partnerResetFire_of_early hat, partnerResetFire_of_due hat⟩

end Sys2Proof.Machine
end

section
/-! PROOFS. The disturbance recorder: its enables, ticks, slots and trigger units (R313 to R315, R320 to R325, R329 to R331, R335). -/

namespace Sys2Proof.Machine

/-! ## Enable (R324, R331) -/

/-- The recorder of `b`, whose configuration record is written, once it starts: its ticks fall on the grid after now and are assembled `lt` ns
after their instants; nothing of an earlier recording is kept but the slots. -/
def drecStarted (b : State) (lt : Nat) : State :=
  { b with drec := { b.drec with lt := lt, next := some (tickAfter b.devT), pend := [], hist := [], cond := 2 ^ 32 - 1, seen := [], count := 0,
                                 lastAsm := 0, prevLast := none, arming := false, seg := none, steps := [], gap := false, staged := 0 } }

section
variable {s : State} (hoff : s.flag F.DREC_CTRL_EN = false)
include hoff

theorem drecEnable_of_cfgBad (hcfg : drecCfgBad s = true) (hcap : drecCapBad s = false) : drecEnable s = s.setFlt F.DREC_FLT_CFG_ERR := by
  simp [drecEnable, hoff, hcfg, hcap]

theorem drecEnable_of_capBad (hcfg : drecCfgBad s = false) (hcap : drecCapBad s = true) : drecEnable s = s.setFlt F.DREC_FLT_CAP_REFUSED := by
  simp [drecEnable, hoff, hcfg, hcap]

/-- An accepted enable writes the configuration record, starts the ticks and arms a slot. -/
theorem drecEnable_of_accepted (hcfg : drecCfgBad s = false) (hcap : drecCapBad s = false) :
    drecEnable s = armNext (drecStarted (writeConfig (s.setFlag F.DREC_CTRL_EN true)) (((List.range 8).map (adepth s)).foldl max 0 + 2000)) := by
  simp only [drecEnable, drecStarted, hoff, hcfg, hcap, Bool.or_self, Bool.false_eq_true, if_false]

end

/-! ## Disable (R324) -/

/-- The recorder once it is disabled, before the slot of the segment in progress is dealt with: OFF, with no tick to come and none sampled. -/
def drecStopped (s : State) : State :=
  let b := (s.setFlag F.DREC_CTRL_EN false).setFld F.DREC_STAT_STATE 0
  { b with drec := { b.drec with next := none, pend := [], seg := none, arming := false } }

section
variable {s : State} (hon : s.flag F.DREC_CTRL_EN = true)
include hon

theorem drecDisable_of_idle (hseg : s.drec.seg = none) : drecDisable s = drecStopped s := by
  simp [drecDisable, drecStopped, setDrec, drOff, hon, hseg]

/-- The slot of a segment without a trigger is FREE again. -/
theorem drecDisable_of_untriggered {g : DrecSeg} (hseg : s.drec.seg = some g) (htrig : g.trig = none) :
    drecDisable s = (drecStopped s).setFld F.DREC_G_STAT_STATE 0 g.slot := by
  simp [drecDisable, drecStopped, setDrec, drOff, setSlot, dsFree, hon, hseg, htrig]

/-- A triggered segment is truncated, counted and flushed. -/
theorem drecDisable_of_triggered {g : DrecSeg} {t : State} (hseg : s.drec.seg = some g) (htrig : g.trig.isSome)
    (ht : t = (((drecStopped s).count C.DREC_TRUNCATED).setFlt F.DREC_FLT_TRUNC).setFld F.DREC_G_STAT_STATE 3 g.slot) :
    drecDisable s = { t with drec := { t.drec with flush := t.drec.flush ++ [{ g with trunc := true }] } } := by
  simp only [drecDisable, drecStopped, setDrec, drOff, setSlot, dsFlushing, State.setFld_drec, State.setFlag_drec, hon, hseg, htrig, ht,
    Bool.not_true, Bool.false_eq_true, if_false, if_true]

end

/-! ## Ticks (R313 to R315) -/

theorem binarySample_of_early {s : State} {g : Nat} (hnext : s.drec.next = some g) (hearly : s.devT < g) : binarySample s = s := by
  simp [binarySample, hnext, hearly]

/-- A tick is sampled at the first edge at or after its instant: it waits for its assembly, the next falls due, and nothing else moves. -/
theorem binarySample_of_due {s : State} {g : Nat} (hnext : s.drec.next = some g) (hdue : g ≤ s.devT) :
    ∃ x, binarySample s = { s with drec := { s.drec with next := some (tickAfter g), pend := s.drec.pend ++ [x] } } ∧ x.inst = g
      ∧ x.tq = s.fld F.TIME_STAT_TQ := by
  simp only [binarySample, hnext, Nat.not_lt.mpr hdue, if_false]
  exact ⟨_, rfl, rfl, rfl⟩

section
variable {s : State} {p : DrecPend} {r : List DrecPend} (hpend : s.drec.pend = p :: r) (d : Nat)
include hpend

theorem tickAssemble_of_early (hearly : s.devT < p.inst + s.drec.lt * 65536) : tickAssemble s d = s := by
  simp only [tickAssemble, hpend, hearly, if_true]

theorem tickAssemble_of_due (hdue : p.inst + s.drec.lt * 65536 ≤ s.devT) :
    tickAssemble s d = assembleTick { s with drec := { s.drec with pend := r, staged := s.drec.staged - d } } p := by
  simp only [tickAssemble, hpend, Nat.not_lt.mpr hdue, if_false]

end

/-! ## Slots (R324, R325, R335) -/

theorem nextSlotArmed_of_arming {s : State} (harm : s.drec.arming = true) : nextSlotArmed s = armNext s := by
  simp only [nextSlotArmed, harm, if_true]

theorem nextSlotArmed_of_blocked {s : State} {k : Nat} {ov : Bool} (harm : s.drec.arming = false) (hblocked : s.fld F.DREC_STAT_STATE = 3)
    (hslot : nextSlot s = some (k, ov)) : nextSlotArmed s = armSlot s k ov := by
  simp only [nextSlotArmed, drecState, drBlocked, harm, hblocked, hslot, Bool.false_eq_true, if_false, if_true]

/-- An armed slot holds a segment that has no tick and no trigger. -/
theorem armSlot_seg (s : State) (k : Nat) (ov : Bool) :
    ∃ g, (armSlot s k ov).drec.seg = some g ∧ g.slot = k ∧ g.ticks = [] ∧ g.trig = none :=
  ⟨_, rfl, rfl, rfl, rfl⟩

/-- The machine in which a slot is armed: an overwrite is counted, VALID of the slot's header is cleared and REARM_NS is read. -/
def slotCleared (s : State) (k : Nat) (ov : Bool) : State :=
  (rearmGap (clearValid (if ov then (s.count C.DREC_OVERWRITES).setFlt F.DREC_FLT_OVERWRITE else s) k).2).2

theorem armSlot_regs (s : State) (k : Nat) (ov : Bool) :
    (armSlot s k ov).regs = ((setDrec (setSlot (slotCleared s k ov) k dsArmed) drArmed).setFld F.DREC_STAT_CUR k).regs := by
  rw [armSlot, slotCleared]

theorem fld_armSlot_state (s : State) (k : Nat) (ov : Bool) : (armSlot s k ov).fld F.DREC_STAT_STATE = 1 := by
  rw [fld_of_regs (armSlot_regs s k ov), fld_setFld_apart _ _ _ _ (by decide), setDrec, fld_setFld_same]
  rfl

theorem fld_armSlot_cur (s : State) (k : Nat) (ov : Bool) : (armSlot s k ov).fld F.DREC_STAT_CUR = k % 2 ^ F.DREC_STAT_CUR.width := by
  rw [fld_of_regs (armSlot_regs s k ov), fld_setFld_same]

/-- A slot whose records have all been written: DONE, with its segment counted and reported. -/
def slotFlushed (s : State) (g : DrecSeg) (r : List DrecSeg) : State :=
  ((({ s with drec := { s.drec with flush := r } }).count C.DREC_SEGMENTS).setFlt F.DREC_FLT_SEGMENT).setFld F.DREC_G_STAT_STATE 4 g.slot

/-- Without a trigger there is no header to write. -/
theorem slotDone_of_untriggered {s : State} {g : DrecSeg} {r : List DrecSeg} (hflush : s.drec.flush = g :: r) (htrig : g.trig = none) :
    slotDone s = slotFlushed s g r := by
  simp only [slotDone, slotFlushed, setSlot, dsDone, hflush, htrig]

theorem slotFlushed_spec (s : State) (g : DrecSeg) (r : List DrecSeg) :
    (slotFlushed s g r).drec.flush = r ∧ (slotFlushed s g r).fld F.DREC_G_STAT_STATE g.slot = 4
      ∧ (slotFlushed s g r).ctr C.DREC_SEGMENTS = min ctrMax (s.ctr C.DREC_SEGMENTS + 1) ∧ (slotFlushed s g r).flag F.DREC_FLT_SEGMENT = true
      ∧ (slotFlushed s g r).mem = s.mem := by
  refine ⟨?flush, ?state, ?counted, ?reported, ?mem⟩
  case flush => rw [slotFlushed, State.setFld_drec, State.setFlt_drec, State.count_drec]
  case state => rw [slotFlushed, fld_setFld_same]; rfl
  case counted => rw [slotFlushed, ctr_setFld, ctr_setFlt_apart _ _ _ (by decide), ctr_count_same]; rfl
  case reported => rw [slotFlushed, flag_setFld_apart _ _ _ _ (by decide), flag_setFlt_same _ rfl (by decide)]
  case mem => rw [slotFlushed, State.setFld_mem, State.setFlt_mem, State.count_mem]

theorem drecFree_of_selected {s : State} {k : Nat} (hkind : s.fld F.DREC_SEL_KIND = 3) (hindex : s.fld F.DREC_SEL_INDEX = k)
    (hk : k < s.fld F.DREC_NSEG_NSEG) : drecFree s = freeSlot s k := by
  simp [drecFree, hkind, hindex, hk]

/-- The edge at which a DONE slot is freed is kept with it. -/
theorem freeSlot_of_done {s : State} {k : Nat} (hdone : s.fld F.DREC_G_STAT_STATE k = 4) :
    freeSlot s k = { s.setFld F.DREC_G_STAT_STATE 0 k with drec := { s.drec with freed := sparsePut k s.time.sys s.drec.freed } } :=
  if_neg (not_not_intro hdone)

theorem freeSlot_of_done_spec {s : State} {k : Nat} (hdone : s.fld F.DREC_G_STAT_STATE k = 4) :
    (freeSlot s k).fld F.DREC_G_STAT_STATE k = 0 ∧ sparseFind k (freeSlot s k).drec.freed = some s.time.sys := by
  rw [freeSlot_of_done hdone]
  exact ⟨fld_setFld_same s F.DREC_G_STAT_STATE 0 k, sparseFind_put_self k s.time.sys s.drec.freed⟩

theorem freeSlot_of_not_done {s : State} {k : Nat} (hstate : s.fld F.DREC_G_STAT_STATE k ≠ 4) : freeSlot s k = s :=
  if_pos hstate

/-! ## Trigger units (R320 to R322, R329) -/

section
variable {s : State} {u : Nat} (hu : u < 32)
include hu

theorem unitEnable_of_refused (hoff : s.flag F.DREC_U_CTL_EN u = false) (hbad : unitBad s u = true) :
    unitEnable s u = (s.setFlag F.DREC_U_STAT_REFUSED true u).setFlt F.DREC_FLT_UNIT_REFUSED := by
  simp [unitEnable, unitEn, Nat.not_le.mpr hu, hoff, hbad]

/-- The condition of a unit counts as true until its first evaluation, so that it does not fire there (R321). -/
theorem unitEnable_of_accepted (hoff : s.flag F.DREC_U_CTL_EN u = false) (hok : unitBad s u = false) :
    unitEnable s u = { s.setFlag F.DREC_U_CTL_EN true u with drec := { s.drec with cond := s.drec.cond ||| 2 ^ u } } := by
  simp [unitEnable, unitEn, Nat.not_le.mpr hu, hoff, hok]

theorem drecTrigger_of_manual (tag : Nat) (hon : s.flag F.DREC_U_CTL_EN u = true) (htype : s.fld F.DREC_U_CTL_TYPE u = 4) :
    drecTrigger s u tag = { s with drec := { s.drec with manual := sparsePut u tag s.drec.manual } } := by
  simp [drecTrigger, unitEn, unitType, utManual, Nat.not_le.mpr hu, hon, htype]

end

/-- Settles O46: each enable, tick, slot and unit acts by its own lemma. -/
theorem recorderRuns : Obligations.RecorderRuns := by
  intro s hlive
  simp only [exec_drecEnable, execDrecEnable, exec_drecDisable, execDrecDisable, exec_drecBinarySample, execDrecBinarySample,
    exec_drecTickAssemble, execDrecTickAssemble, exec_drecNextSlotArmed, execDrecNextSlotArmed, exec_drecSlotDone, execDrecSlotDone,
    exec_drecUnitEnable, execDrecUnitEnable, exec_trigger, execTrigger, exec_free, execFree, exec_freeAll, execFreeAll,
    live_of_not_held hlive, Host.Outcome.next.injEq]
  refine ⟨drecEnable_of_cfgBad, drecEnable_of_capBad, ?enable, ?disable, ?sample, ?assemble, nextSlotArmed_of_arming,
    fun _ _ => nextSlotArmed_of_blocked, ?armed, ?flushed, ?unit, fun _ tag hu => drecTrigger_of_manual hu tag, ?free, rfl⟩
  case enable =>
    rintro hoff hcfg hcap b rfl
    exact drecEnable_of_accepted hoff hcfg hcap
  case disable =>
    rintro hon b rfl c rfl
    exact ⟨drecDisable_of_idle hon, fun _ => drecDisable_of_untriggered hon, fun _ _ => drecDisable_of_triggered hon⟩
  case sample =>
    intro g hnext
    refine ⟨binarySample_of_early hnext, fun hdue => ?_⟩
    obtain ⟨x, hsample, hinst, htq⟩ := binarySample_of_due hnext hdue
    exact ⟨_, x, hsample, rfl, rfl, hinst, htq, rfl⟩
  case assemble =>
    intro p r d hpend
    exact ⟨tickAssemble_of_early hpend d, tickAssemble_of_due hpend d⟩
  case armed =>
    rintro k ov t rfl
    obtain ⟨g, hseg, hslot, hticks, htrig⟩ := armSlot_seg s k ov
    exact ⟨g, hseg, hslot, hticks, htrig, rfl, fld_armSlot_state s k ov, fld_armSlot_cur s k ov⟩
  case flushed =>
    intro g r hflush htrig
    exact ⟨_, slotDone_of_untriggered hflush htrig, slotFlushed_spec s g r⟩
  case unit =>
    intro u hu hoff
    exact ⟨unitEnable_of_refused hu hoff, unitEnable_of_accepted hu hoff⟩
  case free =>
    intro k hkind hindex hk
    exact ⟨drecFree_of_selected hkind hindex hk, freeSlot_of_done_spec, freeSlot_of_not_done⟩

end Sys2Proof.Machine
end

section
/-! PROOFS. The event log: how its records are written, offered by software, read, cleared and copied out (R338 to R354). -/

namespace Sys2Proof.Machine

/-! ## A record starts (R340, R344) -/

section
variable (s : State) (e : Event)

/-- The log once a record starts: W0 stands in the slot at WRPTR, and W1 to W7 wait. -/
theorem startRecord_elog :
    (startRecord s e).elog = { s.elog with
      sram := sparseSet elogUnwritten s.elog.sram (s.fld F.ELOG_WRPTR_WRPTR)
        ((sparseGet elogUnwritten s.elog.sram (s.fld F.ELOG_WRPTR_WRPTR)).set 0 (s.fld F.ELOG_STAT_NEXT_SEQ * 65536 + e.code))
      writing := some { slot := s.fld F.ELOG_WRPTR_WRPTR, next := 1, words := (recordWords e (s.fld F.ELOG_STAT_NEXT_SEQ)).drop 1 } } := by
  rw [startRecord, State.count_elog]
  rfl

theorem startRecord_mem : (startRecord s e).mem = s.mem := by
  rw [startRecord, State.count_mem]
  rfl

/-- The slot at WRPTR keeps its words but for W0. -/
theorem slot_startRecord :
    sparseGet elogUnwritten (startRecord s e).elog.sram (s.fld F.ELOG_WRPTR_WRPTR)
      = (sparseGet elogUnwritten s.elog.sram (s.fld F.ELOG_WRPTR_WRPTR)).set 0 (s.fld F.ELOG_STAT_NEXT_SEQ * 65536 + e.code) := by
  rw [startRecord_elog, sparseGet_set_self]

theorem slot_startRecord_other {k : Nat} (hk : k ≠ s.fld F.ELOG_WRPTR_WRPTR) :
    sparseGet elogUnwritten (startRecord s e).elog.sram k = sparseGet elogUnwritten s.elog.sram k := by
  rw [startRecord_elog, sparseGet_set_other _ _ _ hk]

/-- A field apart from WRPTR, NEXT_SEQ and the overflow flag is left. -/
theorem flag_startRecord_apart {g : Fld} (j : Nat) (hptr : g.apart F.ELOG_WRPTR_WRPTR = true) (hseq : g.apart F.ELOG_STAT_NEXT_SEQ = true)
    (hovf : C.ELOG_RECORDS.apart g = true) : (startRecord s e).flag g j = s.flag g j := by
  rw [startRecord, flag_count_apart _ _ _ hovf, flag_setFld_apart _ _ _ _ hseq, flag_setFld_apart _ _ _ _ hptr]
  rfl

theorem fld_startRecord_wrptr :
    (startRecord s e).fld F.ELOG_WRPTR_WRPTR = (s.fld F.ELOG_WRPTR_WRPTR + 1) % 2 ^ F.ELOG_WRPTR_WRPTR.width := by
  rw [startRecord, fld_count_apart _ _ _ (by decide), fld_setFld_apart _ _ _ _ (by decide), fld_setFld_same]

theorem fld_startRecord_seq : (startRecord s e).fld F.ELOG_STAT_NEXT_SEQ = (s.fld F.ELOG_STAT_NEXT_SEQ + 1) % 65536 := by
  rw [startRecord, fld_count_apart _ _ _ (by decide), fld_setFld_same]
  rfl

theorem ctr_startRecord_records : (startRecord s e).ctr C.ELOG_RECORDS = min ctrMax (s.ctr C.ELOG_RECORDS + 1) := by
  rw [startRecord, ctr_count_same, ctr_setFld, ctr_setFld]
  rfl

theorem ctr_startRecord_other {c : Ctr} (h : c.key 0 ≠ C.ELOG_RECORDS.key 0) : (startRecord s e).ctr c = s.ctr c := by
  rw [startRecord, ctr_count_other _ h, ctr_setFld, ctr_setFld]
  rfl

end

/-! ## The next queued event (R344) -/

theorem eventYoung_iff (s : State) (e : Event) : eventYoung s e = true ↔ s.time.sys < e.edge + 2 := decide_eq_true_iff

theorem elogRecordWrite_of_writing {s : State} {w : RecordRun} (hwriting : s.elog.writing = some w) : elogRecordWrite s = s := by
  simp [elogRecordWrite, hwriting]

section
variable {s : State} {e : Event} {rest : List Event} (hidle : s.elog.writing = none) (hclear : s.elog.clearing = none)
  (hqueue : s.elog.queue = e :: rest)
include hidle hclear hqueue

theorem elogRecordWrite_of_head :
    elogRecordWrite s = if eventYoung s e then s else startRecord { s with elog := { s.elog with queue := rest } } e := by
  simp only [elogRecordWrite, headRecordWrite, hidle, hclear, hqueue, Option.isSome_none, Bool.false_eq_true, if_false]

theorem elogRecordWrite_of_young (hyoung : s.time.sys < e.edge + 2) : elogRecordWrite s = s := by
  rw [elogRecordWrite_of_head hidle hclear hqueue]
  exact if_pos ((eventYoung_iff s e).mpr hyoung)

theorem elogRecordWrite_of_old (hold : e.edge + 2 ≤ s.time.sys) :
    elogRecordWrite s = startRecord { s with elog := { s.elog with queue := rest } } e := by
  rw [elogRecordWrite_of_head hidle hclear hqueue]
  exact if_neg (by rw [eventYoung_iff]; omega)

end

/-! ## Software records (R347, R348) -/

/-- A write that Breakwater admits reaches the register under its own tag. -/
theorem elogSwCodeWrite_of_admitted {s b : State} {tag : Nat} (code : Nat) (htag : tag < 128)
    (hadmit : bwAdmit s initCore tag kindWrite 0x400B008C 4 = (true, b)) : elogSwCodeWrite s tag code = (swCode b initCore tag code).2 := by
  simp only [elogSwCodeWrite, Nat.mod_eq_of_lt htag, hadmit, if_true]

section
variable {s : State} {code : Nat} (init tag : Nat) (hcode : code < 65536)
include hcode

theorem swCode_of_accepted (hrange : 0x8000 ≤ code) (hen : s.flag F.ELOG_CTRL_SW_EN = true) (hroom : elogFull s = false) :
    swCode s init tag code = (true, s.offerEvent (s.mkEvent 0x80 code tag (swParam s tag 0) (swParam s tag 1) (swParam s tag 2) true)) := by
  simp [swCode, Nat.mod_eq_of_lt hcode, Nat.not_lt.mpr hrange, hen, hroom]

theorem swCode_of_refused (hbad : code < 0x8000 ∨ s.flag F.ELOG_CTRL_SW_EN = false) : swCode s init tag code = (false, swRefused s init tag) := by
  have hrefused : (decide (code < 0x8000) || !s.flag F.ELOG_CTRL_SW_EN) = true := by simpa using hbad
  simp only [swCode, Nat.mod_eq_of_lt hcode, hrefused, if_true]

end

/-! ## Clearing (R353, R354) -/

theorem elogClear_of_busy {s : State} (hbusy : elogBusy s = true) : elogClear s = s.setFlt F.ELOG_FLT_CMD_REFUSED :=
  if_pos hbusy

/-- The machine in which the clear `c` runs: CLEARING is set, and the slots of the new log are counted from the CLEARED record's. -/
def clearBegun (s : State) (c : ClearRun) : State :=
  ({ s with elog := { s.elog with clearing := some c, refusedFull := 0, gapNext := false, taken := 1 } }).setFlag F.ELOG_STAT_CLEARING true

/-- A clear starts behind the events that are queued. -/
theorem elogClear_of_idle {s : State} (hidle : elogBusy s = false) :
    ∃ c, c.before = s.elog.queue.length ∧ elogClear s = clearBegun s c :=
  ⟨_, rfl, if_neg (ne_true_of_eq_false hidle)⟩

theorem flag_clearBegun (s : State) (c : ClearRun) : (clearBegun s c).flag F.ELOG_STAT_CLEARING = true := by
  rw [clearBegun, flag_setFlag_same _ _ _ _ rfl]

/-- The machine at the end of a clear, before the CLEARED record: every slot is unwritten, WRPTR is 0, and the clear is counted. -/
def logWiped (s : State) : State :=
  (((({ s with elog := { s.elog with sram := [], faulty := [], single := [], clearing := none } }).setFld F.ELOG_WRPTR_WRPTR 0).setFlag
    F.ELOG_STAT_FULL false).setFlag F.ELOG_STAT_CLEARING false).count C.ELOG_CLEARS

/-- With the earlier events written, a clear that has records to wipe wipes them and starts the CLEARED record. -/
theorem elogClearDone_of_drained {s : State} {c : ClearRun} (hclear : s.elog.clearing = some c) (hbefore : c.before = 0) (hfull : s.elog.full = none)
    (hidle : s.elog.writing = none) (hptr : s.fld F.ELOG_WRPTR_WRPTR ≠ 0) :
    ∃ e : Event, e.code = c.event.code ∧ elogClearDone s = startRecord (logWiped s) e := by
  refine ⟨{ c.event with p0 := s.fld F.ELOG_WRPTR_WRPTR, p1 := (s.fld F.ELOG_STAT_NEXT_SEQ + 65535) % 65536 % 2 ^ 32, p2 := c.refused }, rfl, ?_⟩
  simp [elogClearDone, logWiped, hclear, hbefore, hfull, hidle, hptr]

section
variable (s : State)

theorem logWiped_elog : (logWiped s).elog = { s.elog with sram := [], faulty := [], single := [], clearing := none } := by
  rw [logWiped, State.count_elog]
  rfl

theorem logWiped_mem : (logWiped s).mem = s.mem := by
  rw [logWiped, State.count_mem]
  rfl

theorem fld_logWiped_wrptr : (logWiped s).fld F.ELOG_WRPTR_WRPTR = 0 := by
  rw [logWiped, fld_count_apart _ _ _ (by decide), fld_setFlag_apart _ _ _ _ (by decide), fld_setFlag_apart _ _ _ _ (by decide), fld_setFld_same]
  rfl

/-- A clear does not reset SEQ (R340). -/
theorem fld_logWiped_seq : (logWiped s).fld F.ELOG_STAT_NEXT_SEQ = s.fld F.ELOG_STAT_NEXT_SEQ := by
  rw [logWiped, fld_count_apart _ _ _ (by decide), fld_setFlag_apart _ _ _ _ (by decide), fld_setFlag_apart _ _ _ _ (by decide),
    fld_setFld_apart _ _ _ _ (by decide)]
  rfl

theorem flag_logWiped_clearing : (logWiped s).flag F.ELOG_STAT_CLEARING = false := by
  rw [logWiped, flag_count_apart _ _ _ (by decide), flag_setFlag_same _ _ _ _ rfl]

theorem flag_logWiped_full : (logWiped s).flag F.ELOG_STAT_FULL = false := by
  rw [logWiped, flag_count_apart _ _ _ (by decide), flag_setFlag_apart _ _ _ _ (by decide), flag_setFlag_same _ _ _ _ rfl]

theorem ctr_logWiped_clears : (logWiped s).ctr C.ELOG_CLEARS = min ctrMax (s.ctr C.ELOG_CLEARS + 1) := by
  rw [logWiped, ctr_count_same, ctr_setFlag, ctr_setFlag, ctr_setFld]
  rfl

/-- The CLEARED record is the only one left, and its W0 stands in slot 0. -/
theorem cleared_spec {t : State} (e : Event) (ht : t = startRecord (logWiped s) e) :
    t.elog.clearing = none ∧ t.flag F.ELOG_STAT_CLEARING = false ∧ t.flag F.ELOG_STAT_FULL = false ∧ t.fld F.ELOG_WRPTR_WRPTR = 1
      ∧ (∀ k, k ≠ 0 → sparseGet elogUnwritten t.elog.sram k = elogUnwritten) ∧ elogWord t 0 0 = s.fld F.ELOG_STAT_NEXT_SEQ * 65536 + e.code
      ∧ t.ctr C.ELOG_CLEARS = min ctrMax (s.ctr C.ELOG_CLEARS + 1) ∧ t.mem = s.mem := by
  subst ht
  have hptr := fld_logWiped_wrptr s
  refine ⟨?ended, ?clearing, ?full, ?wrptr, ?others, ?first, ?counted, ?mem⟩
  case ended => rw [startRecord_elog, logWiped_elog]
  case clearing => rw [flag_startRecord_apart _ _ _ (by decide) (by decide) (by decide), flag_logWiped_clearing]
  case full => rw [flag_startRecord_apart _ _ _ (by decide) (by decide) (by decide), flag_logWiped_full]
  case wrptr => rw [fld_startRecord_wrptr, hptr]; rfl
  case others =>
    intro k hk
    rw [slot_startRecord_other _ _ (by rwa [hptr]), logWiped_elog]
    rfl
  case first =>
    have hslot := slot_startRecord (logWiped s) e
    rw [hptr, fld_logWiped_seq, logWiped_elog] at hslot
    rw [elogWord, hslot]
    rfl
  case counted => rw [ctr_startRecord_other _ _ (by decide), ctr_logWiped_clears]
  case mem => rw [startRecord_mem, logWiped_mem]

end

/-! ## Exporting (R352, R354) -/

theorem elogExport_of_busy {s : State} (hbusy : elogBusy s = true) : elogExport s = s.setFlt F.ELOG_FLT_CMD_REFUSED := by
  simp [elogExport, hbusy]

/-- The machine in which the copy `x` runs. -/
def exportBegun (s : State) (x : ExportRun) : State :=
  ({ s with elog := { s.elog with exporting := some x } }).setFlag F.ELOG_STAT_EXPORTING true

theorem flag_exportBegun (s : State) (x : ExportRun) : (exportBegun s x).flag F.ELOG_STAT_EXPORTING = true := by
  rw [exportBegun, flag_setFlag_same _ _ _ _ rfl]

section
variable {s : State} {f n a : Nat} (hidle : elogBusy s = false) (hfirst : s.fld F.ELOG_EXP_FIRST_FIRST = f) (hcnt : s.fld F.ELOG_EXP_CNT_CNT = n)
  (haddr : s.fld F.ELOG_EXP_ADDR_HI_ADDR * 2 ^ 32 + s.fld F.ELOG_EXP_ADDR_LO_ADDR = a)
include hidle hfirst hcnt haddr

/-- While the log is idle, the checks of R354 decide whether EXPORT is accepted. -/
theorem elogExport_of_idle :
    elogExport s = if n = 0 ∨ elogSlots < f + n ∨ a % 32 ≠ 0 ∨ a < lpddrBase ∨ lpddrBase + lpddrSize s < a + n * 32
      then s.setFlt F.ELOG_FLT_CMD_REFUSED else exportBegun s { first := f, cnt := n, addr := a } := by
  simp only [elogExport, exportBegun, hidle, hfirst, hcnt, haddr, Bool.false_or, Bool.or_eq_true, decide_eq_true_eq, or_assoc]

theorem elogExport_of_admitted (hsome : 0 < n) (hslots : f + n ≤ elogSlots) (halign : a % 32 = 0) (hlow : lpddrBase ≤ a)
    (hhigh : a + n * 32 ≤ lpddrBase + lpddrSize s) : elogExport s = exportBegun s { first := f, cnt := n, addr := a } := by
  rw [elogExport_of_idle hidle hfirst hcnt haddr]
  exact if_neg (by omega)

theorem elogExport_of_refused (hbad : n = 0 ∨ elogSlots < f + n ∨ a % 32 ≠ 0 ∨ a < lpddrBase ∨ lpddrBase + lpddrSize s < a + n * 32) :
    elogExport s = s.setFlt F.ELOG_FLT_CMD_REFUSED := by
  rw [elogExport_of_idle hidle hfirst hcnt haddr]
  exact if_pos hbad

end

/-- A copy that ended in the machine `b` is counted when it was complete, and reported as an error otherwise. -/
theorem elogExportDone_of_copied {s b c : State} {x : ExportRun} {ok : Bool} (hexport : s.elog.exporting = some x)
    (hcopy : exportSlots s x.first x.addr x.cnt = (ok, b))
    (hc : c = ({ b with elog := { b.elog with exporting := none } }).setFlag F.ELOG_STAT_EXPORTING false) :
    elogExportDone s = if ok then c.count C.ELOG_EXPORTS else c.setFlt F.ELOG_FLT_EXP_ERR := by
  simp only [elogExportDone, hexport, hcopy, hc]

/-- Settles O47: each command on the log is the lemma about its own operation, taken at a device out of reset. -/
theorem eventLogRecords : Obligations.EventLogRecords := by
  intro s hlive
  simp only [exec_elogRecordWrite, execElogRecordWrite, exec_elogSwCodeWrite, execElogSwCodeWrite, exec_elogRdIdxWrite, execElogRdIdxWrite,
    exec_clear, execClear, exec_elogClearDone, execElogClearDone, exec_exportLog, execExportLog, exec_elogExportDone, execElogExportDone,
    live_of_not_held hlive, Host.Outcome.next.injEq]
  refine ⟨?record, fun _ => elogRecordWrite_of_writing, ?software, fun _ => rfl, fun hbusy => ⟨elogClear_of_busy hbusy, elogExport_of_busy hbusy⟩,
    ?clear, ?cleared, ?copy, ?copied⟩
  case record =>
    rintro e rest p hidle hclear hqueue rfl
    refine ⟨elogRecordWrite_of_young hidle hclear hqueue, fun hold => ⟨_, elogRecordWrite_of_old hidle hclear hqueue hold, ?_⟩⟩
    refine ⟨?_, slot_startRecord _ e, ?_, fld_startRecord_wrptr _ e, fld_startRecord_seq _ e, ctr_startRecord_records _ e, startRecord_mem _ e⟩
    · rw [startRecord_elog]
    · rw [startRecord_elog]; rfl
  case software =>
    intro tag code b htag hcode hadmit
    rw [elogSwCodeWrite_of_admitted code htag hadmit]
    constructor
    · intro hrange hen hroom
      rw [swCode_of_accepted initCore tag hcode hrange hen hroom]
      rfl
    · intro hbad
      rw [swCode_of_refused initCore tag hcode hbad]
      rfl
  case clear =>
    intro hidle
    obtain ⟨c, hbefore, hclear⟩ := elogClear_of_idle hidle
    exact ⟨_, c, hclear, flag_clearBegun s c, rfl, hbefore, rfl, rfl, rfl, rfl⟩
  case cleared =>
    rintro c n hclear hbefore hfull hidle rfl hptr
    obtain ⟨e, hcode, hdone⟩ := elogClearDone_of_drained hclear hbefore hfull hidle hptr
    rw [← hcode]
    exact ⟨_, hdone, cleared_spec s e rfl⟩
  case copy =>
    intro f n a hidle hfirst hcnt haddr
    refine ⟨fun hsome hslots halign hlow hhigh => ?_, elogExport_of_refused hidle hfirst hcnt haddr⟩
    exact ⟨_, elogExport_of_admitted hidle hfirst hcnt haddr hsome hslots halign hlow hhigh, rfl, flag_exportBegun _ _, rfl⟩
  case copied =>
    intro x ok b hexport hcopy c hc
    rw [elogExportDone_of_copied hexport hcopy hc]
    exact ⟨fun hok => if_pos hok, fun hno => if_neg (ne_true_of_eq_false hno)⟩

end Sys2Proof.Machine
end

section
/-! PROOFS. What holds of every step: the queue, soundness, the fuses (R438, R439, R489, R493) and the frame of every command. -/

namespace Sys2Proof.Machine

/-! ## Steps -/

/-- A step takes the front of the queue away; of the rest of the machine it keeps what nothing undoes. -/
theorem step_kept {s t : State} (h : step s = .next t) : Kept 0xffffffffffffffff01ffffff { s with pending := s.pending.tail } t := by
  rcases hq : s.pending with _ | ⟨c, rest⟩
  case nil =>
    rw [step_idle hq] at h
    obtain rfl := Host.Outcome.next.inj h
    rw [show ({ s with pending := [].tail } : State) = s by rw [List.tail_nil, ← hq]]
    exact tick_kept (.refl s) ⟨rfl⟩
  case cons =>
    rw [step_front hq] at h
    have hkept := exec_kept (.refl { s with pending := rest }) c (Within.refl _)
    rwa [h] at hkept

/-- Settles O1: the front command runs with the rest of the queue. -/
theorem stepRunsTheFrontCommand : Obligations.StepRunsTheFrontCommand := fun _ _ _ => step_front

/-- Settles O3: no step adds a command to what is left of the queue. -/
theorem queueIsFirstInFirstOut : Obligations.QueueIsFirstInFirstOut := fun _ _ h => (step_kept h).1

/-- Settles O4: soundness does not speak of the queue, and what a step does beside it keeps soundness. -/
theorem everyStepKeepsSoundness : Obligations.EveryStepKeepsSoundness := fun _ _ hsound h => (step_kept h).2.1 hsound

/-- Settles O6: what a step does beside the queue undoes no fuse. -/
theorem noStepUndoesAFuse : Obligations.NoStepUndoesAFuse := fun _ _ h => (step_kept h).2.2.1

/-- Settles O5: at reset nothing is listed, in memory, in the registers or in the counters. -/
theorem resetStateIsSound : Obligations.ResetStateIsSound := ⟨rfl, rfl, rfl⟩

/-! ## Every command -/

/-- Settles O7: a command's meaning is a next state; only the JTAG instructions make a case of the test scan. -/
theorem everyCommandButTheTestScanRuns : Obligations.EveryCommandButTheTestScanRuns := by
  intro c s
  cases c
  case jtagInstruction op =>
    rw [exec_jtagInstruction, execJtagInstruction]
    by_cases hscan : (op = .testScan && testOpen s) = true
    · obtain ⟨rfl, hopen⟩ : op = .testScan ∧ testOpen s = true := by simpa using hscan
      exact .inr ⟨rfl, hopen, if_pos hscan⟩
    · exact .inl ⟨_, if_neg hscan⟩
  all_goals exact .inl ⟨_, rfl⟩

/-- Settles O11: every command but those named acts through `State.live`. -/
theorem resetHoldsEveryBlock : Obligations.ResetHoldsEveryBlock := by
  intro c s hheld
  cases c
  case aonWriteApply | pllRelock | refLost | refReturn | resetPin | resetRelease | powerOnReset | vbatLoss | testReset | lowPowerEnter | lowPowerWake
      | wakeFrameDetect | tamperDetect | jtagInstruction => trivial
  all_goals exact congrArg Host.Outcome.next (live_of_held hheld _)

/-! ## Frames -/

/-- The bits of the parts of a list, as the sets of parts that `Kept` speaks of. -/
def partsMask (l : List Part) : Nat := l.foldr (fun p m => 2 ^ p.bit ||| m) 0

theorem testBit_partsMask (l : List Part) (i : Nat) : (partsMask l).testBit i = l.any fun p => decide (p.bit = i) := by
  induction l with
  | nil => exact Nat.zero_testBit i
  | cons p l ih => rw [List.any_cons, ← ih, ← Nat.testBit_two_pow, ← Nat.testBit_or]; rfl

/-- A part that the machine has: the blocks are numbered below 32. -/
def Part.held : Part → Bool
  | .regs b => decide (b < 32)
  | .ctrs b => decide (b < 32)
  | _ => true

/-- The part that stands at a bit. -/
def partAt (i : Nat) : Part := if 64 ≤ i then .ctrs (i - 64) else if 32 ≤ i then .regs (i - 32) else allParts.getD i .aonRegs

theorem partAt_bit {p : Part} (h : p.held = true) : partAt p.bit = p := by
  cases p
  case regs b =>
    have hb : b < 32 := of_decide_eq_true h
    have hbit : Part.bit (.regs b) = 32 + b := congrArg (32 + ·) (Nat.mod_eq_of_lt hb)
    rw [hbit, partAt, if_neg (by omega), if_pos (by omega), Nat.add_sub_cancel_left]
  case ctrs b =>
    have hbit : Part.bit (.ctrs b) = 64 + b := congrArg (64 + ·) (Nat.mod_eq_of_lt (of_decide_eq_true h))
    rw [hbit, partAt, if_pos (by omega), Nat.add_sub_cancel_left]
  all_goals rfl

theorem testBit_partsMask_of_not_mem {l : List Part} {p : Part} (hl : l.all Part.held = true) (hp : p.held = true) (hmem : p ∉ l) :
    (partsMask l).testBit p.bit = false := by
  rw [testBit_partsMask, List.any_eq_false]
  intro q hq hbit
  have hqp : q = p := by rw [← partAt_bit (List.all_eq_true.mp hl q hq), ← partAt_bit hp, of_decide_eq_true hbit]
  exact hmem (hqp ▸ hq)

/-- No register and no counter belongs to a block that the machine does not have. -/
theorem same_of_not_held {p : Part} (h : p.held = false) (s t : State) : p.Same s t := by
  have hkey (k : Nat) : keyBlk k < 32 := Nat.mod_lt _ (by decide)
  cases p
  case regs b => exact fun k hk => absurd (hkey k) (by rw [hk]; exact of_decide_eq_false h)
  case ctrs b => exact fun k hk => absurd (hkey k) (by rw [hk]; exact of_decide_eq_false h)
  all_goals cases h

theorem within_parts {m μ : Nat} (h : m &&& μ = m := by dsimp only [touched]; decide +kernel) : Within m μ := ⟨h⟩

theorem touched_mailboxComplete (blk : Nat) : touched (.mailboxComplete blk) = touched (.mailboxComplete (blk % 32)) := by
  simp only [touched, Nat.mod_mod]

theorem within_mailboxComplete (blk : Nat) :
    Within (blkBits blk) (partsMask (touched (.mailboxComplete blk)))
      ∧ Within 0xc9610003cb610174076d (partsMask (touched (.mailboxComplete blk))) := by
  have h : ∀ r, r < 32 → 2 ^ (32 + r) &&& partsMask (touched (.mailboxComplete r)) = 2 ^ (32 + r)
      ∧ 0xc9610003cb610174076d &&& partsMask (touched (.mailboxComplete r)) = 0xc9610003cb610174076d := by decide +kernel
  rw [touched_mailboxComplete]
  obtain ⟨hregs, hrest⟩ := h (blk % 32) (Nat.mod_lt _ (by decide))
  exact ⟨⟨hregs⟩, ⟨hrest⟩⟩

theorem touched_held (c : Sys2Proof.Instr) : (touched c).all Part.held = true := by
  cases c
  case mailboxComplete blk =>
    have h : ∀ r, r < 32 → (touched (.mailboxComplete r)).all Part.held = true := by decide +kernel
    rw [touched_mailboxComplete]
    exact h _ (Nat.mod_lt _ (by decide))
  all_goals
    dsimp only [touched]
    decide +kernel

/-- Each command keeps what lies outside its own list: the law of its meaning, whose set of parts is within the list's. The last alternative
is IMPORT, the name of which is a word of Lean's own. -/
theorem exec_touched (c : Sys2Proof.Instr) (s : State) : KeptN (partsMask (touched c)) s (exec c s) := by
  cases c with
  | utcofsApply => exact execUtcofsApply_kept (.refl s) within_parts
  | timeCtrlWrite => exact execTimeCtrlWrite_kept (.refl s) _ within_parts
  | syncRx => exact execSyncRx_kept (.refl s) _ _ _ _ within_parts
  | ppsEdge => exact execPpsEdge_kept (.refl s) _ within_parts
  | syncLossTimer => exact execSyncLossTimer_kept (.refl s) within_parts
  | holdLimitReached => exact execHoldLimitReached_kept (.refl s) within_parts
  | stepNotice => exact execStepNotice_kept (.refl s) within_parts
  | pdelayReqRx => exact execPdelayReqRx_kept (.refl s) _ _ _ within_parts
  | pdelayReqTx => exact execPdelayReqTx_kept (.refl s) _ within_parts
  | pdelayRespRx => exact execPdelayRespRx_kept (.refl s) _ _ _ _ within_parts
  | syncEgressCorrect => exact execSyncEgressCorrect_kept (.refl s) _ within_parts
  | twoStepSyncRecord => exact execTwoStepSyncRecord_kept (.refl s) _ within_parts
  | followUpEgress => exact execFollowUpEgress_kept (.refl s) _ within_parts
  | toutArm => exact execToutArm_kept (.refl s) _ _ within_parts
  | toutPulseStart => exact execToutPulseStart_kept (.refl s) _ within_parts
  | toutPulseEnd => exact execToutPulseEnd_kept (.refl s) _ within_parts
  | tinCapture => exact execTinCapture_kept (.refl s) _ _ _ within_parts
  | readNow => exact execReadNow_kept (.refl s) within_parts
  | setAbs => exact execSetAbs_kept (.refl s) within_parts
  | stepRel => exact execStepRel_kept (.refl s) within_parts
  | loadTout => exact execLoadTout_kept (.refl s) within_parts
  | popTin => exact execPopTin_kept (.refl s) within_parts
  | mailboxComplete blk =>
    exact execMailboxComplete_kept (.refl s) _ (within_mailboxComplete blk).1 (within_mailboxComplete blk).2
  | groupEnable => exact execGroupEnable_kept (.refl s) _ within_parts
  | groupDisable => exact execGroupDisable_kept (.refl s) _ within_parts
  | tideEvaluation => exact execTideEvaluation_kept (.refl s) _ within_parts
  | resync => exact execResync_kept (.refl s) _ within_parts
  | forceFreerun => exact execForceFreerun_kept (.refl s) _ within_parts
  | laneWindowStart => exact execLaneWindowStart_kept (.refl s) _ within_parts
  | slotStart => exact execSlotStart_kept (.refl s) _ _ within_parts
  | partitionLate => exact execPartitionLate_kept (.refl s) _ within_parts
  | windowCommit => exact execWindowCommit_kept (.refl s) _ within_parts
  | lockstepMismatch => exact execLockstepMismatch_kept (.refl s) _ within_parts
  | spareAttachDone => exact execSpareAttachDone_kept (.refl s) _ within_parts
  | spareSelftestFail => exact execSpareSelftestFail_kept (.refl s) _ within_parts
  | readLive => exact execReadLive_kept (.refl s) within_parts
  | timeToAng => exact execTimeToAng_kept (.refl s) within_parts
  | angToTime => exact execAngToTime_kept (.refl s) within_parts
  | svFrameRx => exact execSvFrameRx_kept (.refl s) within_parts
  | streamEnable => exact execStreamEnable_kept (.refl s) _ within_parts
  | streamDisable => exact execStreamDisable_kept (.refl s) _ within_parts
  | sampleRelease => exact execSampleRelease_kept (.refl s) _ within_parts
  | fingerprintComplete => exact execFingerprintComplete_kept (.refl s) _ within_parts
  | stepGuardExpiry => exact execStepGuardExpiry_kept (.refl s) _ within_parts
  | clrTmax => exact execClrTmax_kept (.refl s) within_parts
  | estRestart => exact execEstRestart_kept (.refl s) within_parts
  | adepthWrite => exact execAdepthWrite_kept (.refl s) _ _ within_parts
  | fdcSweep => exact execFdcSweep_kept (.refl s) _ within_parts
  | fdcChannelEnable => exact execFdcChannelEnable_kept (.refl s) _ within_parts
  | fdcChannelDisable => exact execFdcChannelDisable_kept (.refl s) _ within_parts
  | fdcDisable => exact execFdcDisable_kept (.refl s) within_parts
  | syncResetChannel => exact execSyncResetChannel_kept (.refl s) within_parts
  | syncResetGroup => exact execSyncResetGroup_kept (.refl s) _ within_parts
  | laneInstruction => exact execLaneInstruction_kept (.refl s) _ within_parts
  | pxCmul => exact execPxCmul_kept (.refl s) _ _ _ _ within_parts
  | pxCmulc => exact execPxCmulc_kept (.refl s) _ _ _ _ within_parts
  | pxCmac => exact execPxCmac_kept (.refl s) _ _ _ _ within_parts
  | pxCadd => exact execPxCadd_kept (.refl s) _ _ _ _ within_parts
  | pxCsub => exact execPxCsub_kept (.refl s) _ _ _ _ within_parts
  | pxCscl => exact execPxCscl_kept (.refl s) _ _ _ _ within_parts
  | pxCabs2 => exact execPxCabs2_kept (.refl s) _ _ _ within_parts
  | pxCabs => exact execPxCabs_kept (.refl s) _ _ _ within_parts
  | pxCarg => exact execPxCarg_kept (.refl s) _ _ _ within_parts
  | pxCis => exact execPxCis_kept (.refl s) _ _ _ within_parts
  | pxRot => exact execPxRot_kept (.refl s) _ _ _ _ within_parts
  | pxDfta => exact execPxDfta_kept (.refl s) _ _ _ _ within_parts
  | pxQchk => exact execPxQchk_kept (.refl s) _ _ _ _ within_parts
  | pxDone => exact execPxDone_kept (.refl s) _ _ within_parts
  | vectorLatchRead => exact execVectorLatchRead_kept (.refl s) within_parts
  | clrUsed => exact execClrUsed_kept (.refl s) within_parts
  | laneDebugHalt => exact execLaneDebugHalt_kept (.refl s) _ within_parts
  | laneDebugResume => exact execLaneDebugResume_kept (.refl s) _ within_parts
  | laneDebugStep => exact execLaneDebugStep_kept (.refl s) _ within_parts
  | gooseRetransmit => exact execGooseRetransmit_kept (.refl s) _ within_parts
  | gooseBlockEnable => exact execGooseBlockEnable_kept (.refl s) _ within_parts
  | gooseBlockDisable => exact execGooseBlockDisable_kept (.refl s) _ within_parts
  | gooseSubEnable => exact execGooseSubEnable_kept (.refl s) _ within_parts
  | gooseSubDisable => exact execGooseSubDisable_kept (.refl s) _ within_parts
  | gooseFrameRx => exact execGooseFrameRx_kept (.refl s) within_parts
  | gooseSubUpdate => exact execGooseSubUpdate_kept (.refl s) _ within_parts
  | gooseSubExpiry => exact execGooseSubExpiry_kept (.refl s) _ within_parts
  | republish => exact execRepublish_kept (.refl s) within_parts
  | clrSim => exact execClrSim_kept (.refl s) within_parts
  | gateTrigger => exact execGateTrigger_kept (.refl s) _ within_parts
  | gateChannelEnable => exact execGateChannelEnable_kept (.refl s) _ within_parts
  | gateChannelDisable => exact execGateChannelDisable_kept (.refl s) _ within_parts
  | gateCommit => exact execGateCommit_kept (.refl s) _ within_parts
  | gateReload => exact execGateReload_kept (.refl s) _ within_parts
  | gateDutyEnd => exact execGateDutyEnd_kept (.refl s) _ within_parts
  | gateRefreshStart => exact execGateRefreshStart_kept (.refl s) _ within_parts
  | gateRefreshEnd => exact execGateRefreshEnd_kept (.refl s) _ within_parts
  | gateInstantFixed => exact execGateInstantFixed_kept (.refl s) _ within_parts
  | gateScheduledRise => exact execGateScheduledRise_kept (.refl s) _ within_parts
  | gatePulseEnd => exact execGatePulseEnd_kept (.refl s) _ within_parts
  | safeNAssert => exact execSafeNAssert_kept (.refl s) _ _ within_parts
  | gateFreeze => exact execGateFreeze_kept (.refl s) within_parts
  | gateUnfreeze => exact execGateUnfreeze_kept (.refl s) within_parts
  | pwmClockReturn => exact execPwmClockReturn_kept (.refl s) within_parts
  | gateCalibration => exact execGateCalibration_kept (.refl s) _ within_parts
  | readSched => exact execReadSched_kept (.refl s) within_parts
  | twinLaneDown => exact execTwinLaneDown_kept (.refl s) _ within_parts
  | twinLaneUp => exact execTwinLaneUp_kept (.refl s) _ within_parts
  | twinEnable => exact execTwinEnable_kept (.refl s) within_parts
  | twinDisable => exact execTwinDisable_kept (.refl s) within_parts
  | helloTx => exact execHelloTx_kept (.refl s) within_parts
  | helloRx => exact execHelloRx_kept (.refl s) _ _ within_parts
  | fprintRx => exact execFprintRx_kept (.refl s) _ _ within_parts
  | commitRx => exact execCommitRx_kept (.refl s) _ _ within_parts
  | gseqRx => exact execGseqRx_kept (.refl s) _ _ within_parts
  | xferRx => exact execXferRx_kept (.refl s) _ _ within_parts
  | yieldRx => exact execYieldRx_kept (.refl s) _ within_parts
  | resetReqRx => exact execResetReqRx_kept (.refl s) _ within_parts
  | resetNakRx => exact execResetNakRx_kept (.refl s) _ within_parts
  | xferAckRx => exact execXferAckRx_kept (.refl s) _ _ within_parts
  | xferNakRx => exact execXferNakRx_kept (.refl s) _ _ within_parts
  | xferFrameTx => exact execXferFrameTx_kept (.refl s) within_parts
  | pairLinkTimeout => exact execPairLinkTimeout_kept (.refl s) within_parts
  | rallyResolve => exact execRallyResolve_kept (.refl s) _ within_parts
  | xferTimeout => exact execXferTimeout_kept (.refl s) within_parts
  | wake => exact execWake_kept (.refl s) within_parts
  | yield => exact execYield_kept (.refl s) within_parts
  | resetPartner => exact execResetPartner_kept (.refl s) within_parts
  | realign => exact execRealign_kept (.refl s) _ within_parts
  | clrRmax => exact execClrRmax_kept (.refl s) _ within_parts
  | wakeFrameTx => exact execWakeFrameTx_kept (.refl s) within_parts
  | wakeTimeout => exact execWakeTimeout_kept (.refl s) within_parts
  | partnerResetFire => exact execPartnerResetFire_kept (.refl s) within_parts
  | drecBinarySample => exact execDrecBinarySample_kept (.refl s) within_parts
  | drecTickAssemble => exact execDrecTickAssemble_kept (.refl s) _ within_parts
  | drecEnable => exact execDrecEnable_kept (.refl s) within_parts
  | drecDisable => exact execDrecDisable_kept (.refl s) within_parts
  | drecUnitEnable => exact execDrecUnitEnable_kept (.refl s) _ within_parts
  | trigger => exact execTrigger_kept (.refl s) _ _ within_parts
  | free => exact execFree_kept (.refl s) within_parts
  | freeAll => exact execFreeAll_kept (.refl s) within_parts
  | drecNextSlotArmed => exact execDrecNextSlotArmed_kept (.refl s) within_parts
  | drecSlotDone => exact execDrecSlotDone_kept (.refl s) within_parts
  | elogRecordWrite => exact execElogRecordWrite_kept (.refl s) within_parts
  | elogSwCodeWrite => exact execElogSwCodeWrite_kept (.refl s) _ _ within_parts
  | elogRdIdxWrite => exact execElogRdIdxWrite_kept (.refl s) _ within_parts
  | clear => exact execClear_kept (.refl s) within_parts
  | elogClearDone => exact execElogClearDone_kept (.refl s) within_parts
  | exportLog => exact execExportLog_kept (.refl s) within_parts
  | elogExportDone => exact execElogExportDone_kept (.refl s) within_parts
  | portEnable => exact execPortEnable_kept (.refl s) _ within_parts
  | portDisable => exact execPortDisable_kept (.refl s) _ within_parts
  | portUpConditionChange => exact execPortUpConditionChange_kept (.refl s) _ _ _ _ _ within_parts
  | upHoldExpiry => exact execUpHoldExpiry_kept (.refl s) _ within_parts
  | downHoldExpiry => exact execDownHoldExpiry_kept (.refl s) _ within_parts
  | anComplete => exact execAnComplete_kept (.refl s) _ _ within_parts
  | modabsChange => exact execModabsChange_kept (.refl s) _ _ within_parts
  | i2cCmd => exact execI2cCmd_kept (.refl s) _ _ within_parts
  | i2cDone => exact execI2cDone_kept (.refl s) _ _ _ within_parts
  | eqTxWrite => exact execEqTxWrite_kept (.refl s) _ _ within_parts
  | portTxthrWrite => exact execPortTxthrWrite_kept (.refl s) _ _ within_parts
  | portTestWrite => exact execPortTestWrite_kept (.refl s) _ _ within_parts
  | macRxFrame => exact execMacRxFrame_kept (.refl s) _ _ _ _ _ _ _ within_parts
  | macTxStart => exact execMacTxStart_kept (.refl s) _ _ within_parts
  | txUnderrun => exact execTxUnderrun_kept (.refl s) _ within_parts
  | wakeFrameDetect => exact execWakeFrameDetect_kept (.refl s) _ _ within_parts
  | swcFrameAdmit => exact execSwcFrameAdmit_kept (.refl s) _ within_parts
  | swcTxCopy => exact execSwcTxCopy_kept (.refl s) _ _ within_parts
  | swcFlushComplete => exact execSwcFlushComplete_kept (.refl s) _ within_parts
  | fdbAgeOut => exact execFdbAgeOut_kept (.refl s) _ within_parts
  | ddEntryExpire => exact execDdEntryExpire_kept (.refl s) _ within_parts
  | cpuRxDeliver => exact execCpuRxDeliver_kept (.refl s) within_parts
  | cpuTxTailWrite => exact execCpuTxTailWrite_kept (.refl s) _ _ within_parts
  | cpuTxFrame => exact execCpuTxFrame_kept (.refl s) within_parts
  | flushFdbAll => exact execFlushFdbAll_kept (.refl s) within_parts
  | flushFdbPort => exact execFlushFdbPort_kept (.refl s) within_parts
  | vlanRd => exact execVlanRd_kept (.refl s) within_parts
  | vlanWr => exact execVlanWr_kept (.refl s) within_parts
  | fdbRd => exact execFdbRd_kept (.refl s) within_parts
  | fdbWr => exact execFdbWr_kept (.refl s) within_parts
  | fdbDel => exact execFdbDel_kept (.refl s) within_parts
  | mcRd => exact execMcRd_kept (.refl s) within_parts
  | mcWr => exact execMcWr_kept (.refl s) within_parts
  | fdbRdIndex => exact execFdbRdIndex_kept (.refl s) within_parts
  | swcEnable => exact execSwcEnable_kept (.refl s) within_parts
  | pairEnable => exact execPairEnable_kept (.refl s) _ within_parts
  | ringEnable => exact execRingEnable_kept (.refl s) _ _ _ within_parts
  | fabricAccess => exact execFabricAccess_kept (.refl s) _ _ _ _ _ _ within_parts
  | coreInstruction => exact execCoreInstruction_kept (.refl s) _ _ _ within_parts
  | curWrite => exact execCurWrite_kept (.refl s) _ _ within_parts
  | irqRouteEnable => exact execIrqRouteEnable_kept (.refl s) _ _ within_parts
  | iommuCommand => exact execIommuCommand_kept (.refl s) within_parts
  | pulse => exact execPulse_kept (.refl s) _ within_parts
  | holdWrite => exact execHoldWrite_kept (.refl s) _ _ within_parts
  | resetPulseEnd => exact execResetPulseEnd_kept (.refl s) _ within_parts
  | wdKick => exact execWdKick_kept (.refl s) _ within_parts
  | wdWarn => exact execWdWarn_kept (.refl s) _ within_parts
  | wdExpiry => exact execWdExpiry_kept (.refl s) _ within_parts
  | wdConfigWrite => exact execWdConfigWrite_kept (.refl s) _ _ _ within_parts
  | lwdExpiry => exact execLwdExpiry_kept (.refl s) _ _ within_parts
  | dwdKick => exact execDwdKick_kept (.refl s) _ within_parts
  | dwdWarn => exact execDwdWarn_kept (.refl s) within_parts
  | dwdExpiry => exact execDwdExpiry_kept (.refl s) within_parts
  | qosPeriodStart => exact execQosPeriodStart_kept (.refl s) within_parts
  | apply => exact execApply_kept (.refl s) within_parts
  | approve => exact execApprove_kept (.refl s) within_parts
  | attest => exact execAttest_kept (.refl s) within_parts
  | measure => exact execMeasure_kept (.refl s) within_parts
  | keysExport => exact execKeysExport_kept (.refl s) within_parts
  | confirm => exact execConfirm_kept (.refl s) within_parts
  | commit => exact execCommit_kept (.refl s) within_parts
  | rootInstall => exact execRootInstall_kept (.refl s) within_parts
  | burnRoot => exact execBurnRoot_kept (.refl s) within_parts
  | lcDevelop => exact execLcDevelop_kept (.refl s) within_parts
  | lcSeal => exact execLcSeal_kept (.refl s) within_parts
  | lcDecommission => exact execLcDecommission_kept (.refl s) within_parts
  | exportKtk => exact execExportKtk_kept (.refl s) within_parts
  | keysApplyEdge => exact execKeysApplyEdge_kept (.refl s) within_parts
  | keysScrub => exact execKeysScrub_kept (.refl s) _ within_parts
  | idReady => exact execIdReady_kept (.refl s) within_parts
  | tamperDetect => exact execTamperDetect_kept (.refl s) _ within_parts
  | zeroisation => exact execZeroisation_kept (.refl s) within_parts
  | snapshot => exact execSnapshot_kept (.refl s) within_parts
  | snapshotClear => exact execSnapshotClear_kept (.refl s) within_parts
  | readSnapTime => exact execReadSnapTime_kept (.refl s) within_parts
  | aonWriteApply => exact execAonWriteApply_kept (.refl s) within_parts
  | registerWrite => exact execRegisterWrite_kept (.refl s) _ _ _ _ _ within_parts
  | memRetrain => exact execMemRetrain_kept (.refl s) _ _ within_parts
  | pllLockLost => exact execPllLockLost_kept (.refl s) _ _ within_parts
  | pllRelock => exact execPllRelock_kept (.refl s) _ _ _ _ within_parts
  | refLost => exact execRefLost_kept (.refl s) within_parts
  | refReturn => exact execRefReturn_kept (.refl s) within_parts
  | resetPin => exact execResetPin_kept (.refl s) _ _ within_parts
  | softwareReset => exact execSoftwareReset_kept (.refl s) _ within_parts
  | resetRelease => exact execResetRelease_kept (.refl s) _ _ within_parts
  | powerOnReset => exact execPowerOnReset_kept (.refl s) _ within_parts
  | vbatLoss => exact execVbatLoss_kept (.refl s) within_parts
  | testReset => exact execTestReset_kept (.refl s) within_parts
  | bootInitDone => exact execBootInitDone_kept (.refl s) _ _ _ _ _ within_parts
  | bootSlotLoaded => exact execBootSlotLoaded_kept (.refl s) _ within_parts
  | bootApplyDone => exact execBootApplyDone_kept (.refl s) within_parts
  | flashRead => exact execFlashRead_kept (.refl s) within_parts
  | flashErase => exact execFlashErase_kept (.refl s) within_parts
  | flashProg => exact execFlashProg_kept (.refl s) within_parts
  | bootConfirm => exact execBootConfirm_kept (.refl s) within_parts
  | setTrial => exact execSetTrial_kept (.refl s) within_parts
  | forceRecovery => exact execForceRecovery_kept (.refl s) within_parts
  | flashOpTimeout => exact execFlashOpTimeout_kept (.refl s) within_parts
  | info => exact execInfo_kept (.refl s) _ _ within_parts
  | stage => exact execStage_kept (.refl s) _ _ within_parts
  | keymsg => exact execKeymsg_kept (.refl s) _ _ within_parts
  | recoveryApprove => exact execRecoveryApprove_kept (.refl s) _ _ within_parts
  | root => exact execRoot_kept (.refl s) _ _ within_parts
  | saveStore => exact execSaveStore_kept (.refl s) _ _ within_parts
  | program => exact execProgram_kept (.refl s) _ _ within_parts
  | reboot => exact execReboot_kept (.refl s) _ _ within_parts
  | lowPowerEnter => exact execLowPowerEnter_kept (.refl s) within_parts
  | lowPowerWake => exact execLowPowerWake_kept (.refl s) within_parts
  | readSec => exact execReadSec_kept (.refl s) within_parts
  | secIncrement => exact execSecIncrement_kept (.refl s) within_parts
  | jtagInstruction => exact execJtagInstruction_kept (.refl s) _ within_parts
  | rallyCopyDiscard => exact execRallyCopyDiscard_kept (.refl s) _ _ within_parts
  | safeNRelease => exact execSafeNRelease_kept (.refl s) _ within_parts
  | _ => exact execImport_kept (.refl s) within_parts

/-- Settles O8: a part of the machine that is not in the list stands outside the set of parts that the command's law names. -/
theorem commandsTouchOnlyTheirParts : Obligations.CommandsTouchOnlyTheirParts := by
  intro c s t h p hmem
  have hkept := exec_touched c s
  rw [h] at hkept
  rcases hheld : p.held with _ | _
  · exact same_of_not_held hheld s t
  · exact hkept.same p (testBit_partsMask_of_not_mem (touched_held c) hheld hmem)

/-! ## Counters -/

/-- A count changes the counters and the registers of the overflow flags only. -/
theorem countBy_frame (s : State) (c : Ctr) (n i : Nat) : { s.countBy c n i with cnts := s.cnts, regs := s.regs } = s := by
  rw [(Touches.of_count s c n i).rest, State.countBy_elog, State.countBy_part]

theorem countBy_regs_of_le {s : State} {c : Ctr} {n i : Nat} (h : s.ctr c i + n ≤ ctrMax) : (s.countBy c n i).regs = s.regs := by
  rw [State.countBy, if_pos h]

theorem flag_setOvf_device (s : State) {c : Ctr} (i : Nat) (hhow : c.how = .device) (hinst : c.inst = none) (hwidth : c.ovf.width = 1) :
    (s.setOvf c i).flag c.ovf = true := by
  rw [State.setOvf, hhow, hinst]
  exact flag_setFlag_same s c.ovf true 0 hwidth

/-- Settles O9. -/
theorem countersSaturate : Obligations.CountersSaturate := by
  intro s c n i
  refine ⟨ctr_countBy_same s c n i, countBy_regs_of_le, fun hpass hhow hinst hwidth => ?_, countBy_frame s c n i⟩
  rw [State.countBy, if_neg (Nat.not_le.mpr hpass)]
  exact flag_setOvf_device _ i hhow hinst hwidth

end Sys2Proof.Machine
end

section
/-! PROOFS. The commands of KEYS (R439, R451, R455, R459, R461, R464, R466 to R469): what each begins with, and what refuses it. -/

namespace Sys2Proof.Machine

variable {s : State}

/-! ## Permission -/

theorem keysCmd_of_busy (p : Bool) (g : State → State) (hbusy : s.flag (mbxBusy 15) = true) :
    keysCmd s p g = (s.setFlag (mbxErr 15) true).setFlt F.KEYS_FLT_CMD_REFUSED := if_pos hbusy

theorem keysCmd_of_decommissioned (p : Bool) (g : State → State) (hidle : s.flag (mbxBusy 15) = false) (hlc : s.keys.lifecycle = 3) :
    keysCmd s p g = keysRefuse s 0x0B := by
  simp [keysCmd, blkKeys, hidle, lcDecommissioned, hlc, kcState]

theorem keysCmd_of_barred (g : State → State) (hidle : s.flag (mbxBusy 15) = false) : keysCmd s false g = keysRefuse s 0x0B := by
  simp [keysCmd, blkKeys, hidle, kcState]

/-! ## Operands -/

theorem withOperand_of_read {n : Nat} {d : List Nat} {a : State} (f : State → List Nat → State) (hread : keysRead s n = (some d, a)) :
    withOperand s n f = f a d := by rw [withOperand, hread]; rfl

theorem withOperand_of_unread {n : Nat} {a : State} (f : State → List Nat → State) (hread : keysRead s n = (none, a)) :
    withOperand s n f = keysRefuse a 0x0D := by rw [withOperand, hread]; rfl

/-! ## APPLY and APPROVE -/

/-- The machine once an APPLY or an APPROVE has been started (R464). -/
def keysUsed (s : State) : State := { s with keys := { s.keys with used := true } }

theorem applyBegin_of_unread {pair : Bool} {a : State} (hread : keysRead (keysUsed s) (min (s.fld F.KEYS_LEN_LEN) 40960) = (none, a)) :
    applyBegin s pair = keysRefuse a 0x0D :=
  withOperand_of_unread (s := keysUsed s) _ hread

section
variable {d : List Nat} {a : State} (hlen : s.fld F.KEYS_LEN_LEN ≤ 40960)
  (hread : keysRead (keysUsed s) (s.fld F.KEYS_LEN_LEN) = (some d, a)) (hstill : a.fld F.KEYS_LEN_LEN ≤ 40960)
include hlen hread hstill

theorem applyBegin_of_read (pair : Bool) :
    applyBegin s pair =
      let cause := if pair then judgePair a d true else judge a d false true
      let cmd := if pair then 2 else 1
      if cause = 0 then keysBegin a cmd 0 true d else keysBegin (msgRefused a d cause) cmd cause false d := by
  have hmin : keysRead (keysUsed s) (min (keysLen s) 40960) = (some d, a) := by rw [← hread]; exact congrArg _ (Nat.min_eq_left hlen)
  have hformat : ¬ 40960 < keysLen a := Nat.not_lt.mpr hstill
  unfold applyBegin
  refine (withOperand_of_read (s := keysUsed s) _ hmin).trans ?_
  simp only [if_neg hformat]

theorem applyBegin_of_accepted (hjudge : judge a d false true = 0) : applyBegin s false = keysBegin a 1 0 true d := by
  rw [applyBegin_of_read hlen hread hstill]
  exact if_pos hjudge

theorem applyBegin_of_refused (hjudge : judge a d false true ≠ 0) :
    applyBegin s false = keysBegin (msgRefused a d (judge a d false true)) 1 (judge a d false true) false d := by
  rw [applyBegin_of_read hlen hread hstill]
  exact if_neg hjudge

theorem applyBegin_of_accepted_pair (hjudge : judgePair a d true = 0) : applyBegin s true = keysBegin a 2 0 true d := by
  rw [applyBegin_of_read hlen hread hstill]
  exact if_pos hjudge

end

/-! ## The other commands -/

theorem attestBegin_of_read {p : Nat} {nonce : List Nat} {a : State} (hp : p = s.fld F.KEYS_ARG_ARG) (hset : p = 1 ∨ p = 2)
    (hread : keysRead s 32 = (some nonce, a)) : attestBegin s = keysBegin a 3 0 false (attReport a p nonce) := by
  subst hp
  have hknown : ¬ (s.fld F.KEYS_ARG_ARG ≠ psetS ∧ s.fld F.KEYS_ARG_ARG ≠ psetF) := fun h => hset.elim h.1 h.2
  simp only [attestBegin, Bool.and_eq_true, decide_eq_true_eq, if_neg hknown]
  exact withOperand_of_read _ hread

theorem confirmBegin_of_exported (h : s.flag F.KEYS_STAT_EXPORTED = true) : confirmBegin s = keysBegin s 6 0 false [] := if_pos h

theorem confirmBegin_of_not_exported (h : s.flag F.KEYS_STAT_EXPORTED = false) : confirmBegin s = keysRefuse s 0x0F :=
  if_neg (ne_true_of_eq_false h)

theorem commitBegin_of_new_count (h : s.keys.fuses.floors.head? ≠ some (counterConf s)) : commitBegin s = keysBegin s 8 0 false [] := if_neg h

theorem rootBegin_of_match {key : List Nat} {a : State} (hread : keysRead s 32 = (some key, a)) (hset : a.fld F.KEYS_ARG_ARG = 1 ∨ a.fld F.KEYS_ARG_ARG = 2)
    (hhash : a.keys.fuses.rootHash = some (sha256 (a.fld F.KEYS_ARG_ARG :: key))) : rootBegin s = keysBegin a 9 0 false key := by
  refine (withOperand_of_read _ hread).trans ?_
  simp only [rootCause_of_root hset hhash, if_true]

theorem fuseOpen_of_unlocked (hlock : s.flag F.KEYS_CTRL_LOCK = false) (hlc : s.keys.lifecycle ≤ 1) : fuseOpen s = true := by
  simp [fuseOpen, hlock, lcDevelop, hlc]

theorem fuseOpen_of_locked (hlock : s.flag F.KEYS_CTRL_LOCK = true) : fuseOpen s = false := by simp [fuseOpen, hlock]

/-- Settles O54: each command is `keysCmd` of its permission and of what it begins with. -/
theorem keysCommandsBegin : Obligations.KeysCommandsBegin := by
  intro s hlive
  simp only [exec_apply, execApply, exec_approve, execApprove, exec_attest, execAttest, exec_measure, execMeasure, exec_keysExport, execKeysExport,
    exec_confirm, execConfirm, exec_import, execImport, exec_commit, execCommit, exec_rootInstall, execRootInstall, exec_burnRoot, execBurnRoot,
    exec_lcDevelop, execLcDevelop, exec_lcSeal, execLcSeal, exec_lcDecommission, execLcDecommission, exec_exportKtk, execExportKtk,
    live_of_not_held hlive, Host.Outcome.next.injEq]
  refine ⟨fun _ _ _ _ => rfl, fun hbusy => ⟨keysCmd_of_busy _ _ hbusy, keysCmd_of_busy _ _ hbusy⟩,
    fun hidle hlc => ⟨keysCmd_of_decommissioned _ _ hidle hlc, keysCmd_of_decommissioned _ _ hidle hlc⟩, fun hidle hlc => ?_⟩
  have hpermitted (g : State → State) : keysCmd s true g = g s := keysCmd_of_permitted g hidle hlc
  have hbarred (g : State → State) : keysCmd s false g = keysRefuse s 0x0B := keysCmd_of_barred g hidle
  refine ⟨?apply, ?unread, ?attest, hpermitted _, hpermitted _, ?confirm, ?notExported, ?image, ?imported, ?commit, ?pending, ?root, ?fuses, ?locked, ?ktk⟩
  case apply =>
    intro d a hlen hread hstill
    refine ⟨fun h => ?_, ?_, fun h => ?_⟩
    · rw [hpermitted, applyBegin_of_accepted hlen hread hstill h]
    · rintro c rfl h
      rw [hpermitted, applyBegin_of_refused hlen hread hstill h]
      rfl
    · rw [hpermitted, applyBegin_of_accepted_pair hlen hread hstill h]
  case unread => exact fun a hread => (hpermitted _).trans (applyBegin_of_unread hread)
  case attest =>
    intro n a p hready hp hset hread
    rw [hready, hpermitted, attestBegin_of_read hp hset hread]
  case confirm => exact fun h => (hpermitted _).trans (confirmBegin_of_exported h)
  case notExported => exact fun h => (hpermitted _).trans (confirmBegin_of_not_exported h)
  case image =>
    intro d a hnew hunused hread
    rw [show importOpen s = true by simp [importOpen, hnew, hunused], hpermitted]
    exact withOperand_of_read _ hread
  case imported =>
    intro hdone
    rw [show importOpen s = false by simp [importOpen, hdone], hbarred]
  case commit =>
    intro hconf hroom hnew
    rw [decide_eq_true hconf, decide_eq_true hroom, Bool.and_true, hpermitted, commitBegin_of_new_count hnew]
  case pending =>
    intro hconf
    rw [decide_eq_false hconf, Bool.false_and, hbarred]
  case root =>
    intro k a hburned hread hset hhash
    rw [hburned, hpermitted, rootBegin_of_match hread hset hhash]
  case fuses =>
    intro hlock hlow
    have hopen := fuseOpen_of_unlocked hlock hlow
    refine ⟨fun hsh a hroot hread => ?_, fun hpend hzero => ?_, fun hpend hroot => ?_, ?_⟩
    · rw [hopen, hroot, Option.isNone_none, Bool.and_true, hpermitted]
      exact withOperand_of_read _ hread
    · rw [hopen, show lcIdle s = true from decide_eq_true hpend, decide_eq_true hzero, Bool.and_true, Bool.and_true, hpermitted]
    · rw [hopen, show lcIdle s = true from decide_eq_true hpend, hroot, Bool.and_true, Bool.and_true, hpermitted]
    · rw [hopen, hpermitted]
  case locked =>
    intro hlock
    simp only [fuseOpen_of_locked hlock, Bool.false_and, hbarred, and_self]
  case ktk =>
    intro hzero hktk
    rw [decide_eq_true hzero, hktk, Bool.not_false, Bool.and_true, hpermitted]

end Sys2Proof.Machine
end

section
/-! PROOFS. What KEYS does at an apply edge, at a completion, at a scrub and when it is tampered with (R439, R440, R444, R448, R449, R456, R460, R464,
R465, R469, R471, R472). -/

namespace Sys2Proof.Machine

variable {s : State}

/-! ## The apply edge -/

/-- The run in progress has been judged at its apply edge. -/
def runJudged (s : State) (r : KeysRun) (cause : Nat) : State :=
  { s with keys := { s.keys with run := some { r with wait := false, cause := cause } } }

section
variable {r : KeysRun} (hrun : s.keys.run = some r) (hwait : r.wait = true)
include hrun hwait

theorem keysApplyEdge_of_message_accepted (hcmd : r.cmd = 1) (hjudge : judge s r.data false false = 0) :
    keysApplyEdge s = msgEffect (runJudged s r 0) r.data := by
  simp [keysApplyEdge, hrun, hwait, hcmd, hjudge, runJudged]

theorem keysApplyEdge_of_pair_accepted (hcmd : r.cmd = 2) (hjudge : judgePair s r.data false = 0) :
    keysApplyEdge s = pairEffect (runJudged s r 0) r.data := by
  simp [keysApplyEdge, hrun, hwait, hcmd, hjudge, runJudged]

theorem keysApplyEdge_of_message_refused (hcmd : r.cmd = 1) (hjudge : judge s r.data false false ≠ 0) :
    keysApplyEdge s = msgRefused (runJudged s r (judge s r.data false false)) r.data (judge s r.data false false) := by
  simp [keysApplyEdge, hrun, hwait, hcmd, hjudge, runJudged]

end

/-! ## Identity -/

/-- The identity depends on the lifecycle state in force alone. -/
theorem deviceId_of_keys {t : State} (h : t.keys = s.keys) : deviceId t = deviceId s := by
  unfold deviceId idPublic idSeed keysClass
  rw [h]

theorem setWords_keys (s : State) (f : Fld) (l : List Nat) : (setWords s f l).keys = s.keys := by
  unfold setWords
  induction List.range (l.length / 4) generalizing s with
  | nil => rfl
  | cons i _ ih => exact ih _

theorem idReady_of_new (hlc : s.keys.lifecycle ≠ 3) (hnew : s.flag F.KEYS_STAT_ID_READY = false) :
    (idReady s).flag F.KEYS_STAT_ID_READY = true ∧ (idReady s).fld F.TWIN_OWN_TAG_VAL = ofOctetsBE ((deviceId s).take 4) % 2 ^ 32
      ∧ (idReady s).mem = s.mem := by
  refine ⟨?_, ?_, (idReady_kept (.refl s) (Within.refl _)).mem (by decide)⟩
  all_goals simp only [idReady, lcDecommissioned, hlc, hnew, decide_false, Bool.or_self, Bool.false_eq_true, if_false]
  · exact flag_setFlag_same _ _ _ _ rfl
  · have hid : ∀ {t : State}, t.keys = s.keys → deviceId t = deviceId s := deviceId_of_keys
    rw [fld_setFlag_apart _ _ _ _ (by decide), fld_setFld_same, hid (by simp only [setWords_keys])]
    exact congrArg (_ % 2 ^ ·) (show F.TWIN_OWN_TAG_VAL.width = 32 from rfl)

/-! ## Zeroisation -/

/-- A slot is erased. -/
def wipeSlot (s : State) (i : Nat) : State := putSlot s i { s.keySlot i with st := ksEmpty, mat := [] }

theorem keySlot_wipeSlot_same (s : State) (i : Nat) : (wipeSlot s i).keySlot i = { KeySlot.reset with gen := (s.keySlot i).gen } :=
  sparseGet_set_self _ _ _ _

theorem keySlot_wipeSlot_other (s : State) {i j : Nat} (h : j ≠ i) : (wipeSlot s i).keySlot j = s.keySlot j := sparseGet_set_other _ _ _ h _

theorem keySlot_foldl_wipeSlot_other {l : List Nat} {i : Nat} (s : State) (h : i ∉ l) : (l.foldl wipeSlot s).keySlot i = s.keySlot i := by
  induction l generalizing s with
  | nil => rfl
  | cons a l ih =>
    obtain ⟨ha, hl⟩ := not_or.mp (mt List.mem_cons.mpr h)
    rw [List.foldl_cons, ih _ hl, keySlot_wipeSlot_other s ha]

theorem keySlot_foldl_wipeSlot {l : List Nat} {i : Nat} (s : State) (h : i ∈ l) :
    ((l.foldl wipeSlot s).keySlot i).st = ksEmpty ∧ ((l.foldl wipeSlot s).keySlot i).mat = [] := by
  induction l generalizing s with
  | nil => cases h
  | cons a l ih =>
    rw [List.foldl_cons]
    by_cases hl : i ∈ l
    · exact ih _ hl
    · obtain rfl : i = a := (List.mem_cons.mp h).resolve_right hl
      rw [keySlot_foldl_wipeSlot_other _ hl, keySlot_wipeSlot_same]
      exact ⟨rfl, rfl⟩

/-- The secret slots of the store. -/
def secretSlots (s : State) : List Nat := (List.range keySlots).filter fun i => slotSecret (s.keySlot i).typ

theorem keysRefuse_slots (s : State) (c : Nat) : (keysRefuse s c).keys.slots = s.keys.slots := by
  unfold keysRefuse
  rw [State.setFlt_keys]
  rfl

theorem zeroisation_slots (hdue : s.keys.zeroDue = true) :
    (zeroisation s).keys.slots = ((secretSlots s).foldl wipeSlot { s with keys := { s.keys with zeroDue := false } }).keys.slots := by
  unfold zeroisation
  rw [hdue]
  simp only [Bool.not_true, Bool.false_eq_true, if_false]
  split
  · split
    · simp only [State.event_keys, State.setFlt_keys, State.count_keys]
      rfl
    · simp only [keysRefuse_slots, State.event_keys, State.setFlt_keys, State.count_keys]
      rfl
  · simp only [State.event_keys, State.setFlt_keys, State.count_keys]
    rfl

theorem recoveryKeysEnd_keys (s : State) (cmd : Nat) : (recoveryKeysEnd s cmd).keys = s.keys :=
  (recoveryKeysEnd_kept (.refl s) cmd (Within.refl _)).same .keys (by decide)

theorem zeroise_keys (s : State) : (zeroise s).keys = (zeroisation s).keys := by
  unfold zeroise
  dsimp only
  split
  · rfl
  · split
    · rfl
    · exact recoveryKeysEnd_keys _ _

theorem keySlot_zeroise (hdue : s.keys.zeroDue = true) (i : Nat) :
    (zeroise s).keySlot i = ((secretSlots s).foldl wipeSlot { s with keys := { s.keys with zeroDue := false } }).keySlot i := by
  unfold State.keySlot
  rw [zeroise_keys, zeroisation_slots hdue]

theorem zeroise_erases_secrets (hdue : s.keys.zeroDue = true) {i : Nat} (hi : i < 256) :
    (slotSecret (s.keySlot i).typ = true → ((zeroise s).keySlot i).st = ksEmpty ∧ ((zeroise s).keySlot i).mat = [])
      ∧ (slotSecret (s.keySlot i).typ = false → (zeroise s).keySlot i = s.keySlot i) := by
  have hmem : i ∈ secretSlots s ↔ slotSecret (s.keySlot i).typ = true := by
    rw [secretSlots, List.mem_filter]
    exact and_iff_right (List.mem_range.mpr hi)
  rw [keySlot_zeroise hdue]
  refine ⟨fun hsecret => keySlot_foldl_wipeSlot _ (hmem.mpr hsecret), fun hpublic => ?_⟩
  exact keySlot_foldl_wipeSlot_other _ (fun h => Bool.false_ne_true (hpublic.symm.trans (hmem.mp h)))

/-! ## Completion -/

/-- A command that completes leaves no run, and without a request of recovery nothing else follows. -/
theorem mailboxComplete_of_done {r : KeysRun} {t : State} {d : Nat} (hrun : s.keys.run = some r) (hend : keysEnd s = keysDone t d) (hreq : t.boot.req = none) :
    mailboxComplete s 15 = keysDone t d := by
  have hreq' : (keysDone t d).boot.req.isNone = true := congrArg Option.isNone hreq
  have hnone : (keysDone t d).keys.run.isSome = false := rfl
  simp only [mailboxComplete, blkKeys, hrun, hend, hnone, Bool.false_eq_true, if_false, recoveryKeysEnd, hreq', Bool.true_or, if_true]

section
variable {r : KeysRun} (hrun : s.keys.run = some r) (hwait : r.wait = false) (hcause : r.cause = 0)
include hrun hwait hcause

theorem keysEnd_of_confirm (hcmd : r.cmd = 6) : keysEnd s
    = keysDone (({ s with aon := { s.aon with confOk := true } }.setSh F.KEYS_COUNTER_CONF_VAL (keyCounter s)).count C.KEYS_CONFIRMS) 0 := by
  simp [keysEnd, hrun, hwait, hcause, hcmd]

theorem keysEnd_of_commit (hcmd : r.cmd = 8) : keysEnd s = keysDone (burnFloor s) 0 := by
  simp [keysEnd, hrun, hwait, hcause, hcmd]

theorem keysEnd_of_rootInstall (hcmd : r.cmd = 9) : keysEnd s = keysDone (rootInstall s r.arg r.data) 0 := by
  simp [keysEnd, hrun, hwait, hcause, hcmd]

theorem keysEnd_of_burnRoot (hcmd : r.cmd = 0xA) : keysEnd s = keysDone (burnRoot s r.data) 0 := by
  simp [keysEnd, hrun, hwait, hcause, hcmd]

theorem keysEnd_of_lcSeal (hcmd : r.cmd = 0xC) : keysEnd s = keysDone (burnLifecycle s 2) 0 := by
  simp [keysEnd, hrun, hwait, hcause, hcmd, lcSealed]

theorem keysEnd_of_lcDecommission (hcmd : r.cmd = 0xD) : keysEnd s = keysDone (burnLifecycle s 3) 0 := by
  simp [keysEnd, hrun, hwait, hcause, hcmd, lcDecommissioned]

end

theorem burnRoot_of_unburned (h : s.keys.fuses.rootHash = none) (l : List Nat) :
    burnRoot s l = { s with keys := { s.keys with fuses := { s.keys.fuses with rootHash := some l } } } := by
  rw [burnRoot, h]
  rfl

theorem rootInstall_boot (s : State) (pset : Nat) (key : List Nat) : (rootInstall s pset key).boot = s.boot :=
  (rootInstall_kept (.refl s) pset key (Within.refl _)).same .boot (by decide)

theorem burnLifecycle_boot (s : State) (lc : Nat) : (burnLifecycle s lc).boot = s.boot := State.event_boot _ _ _ _ _ _ _

/-! ## Tamper -/

theorem tamperDetect_of_high {lv : Nat} (h : (s.setSh F.KEYS_TAMP_LEVEL lv).aonFld F.KEYS_TAMP_EN &&& (3 - lv % 4) = 0) :
    tamperDetect s lv = s.setSh F.KEYS_TAMP_LEVEL lv := if_pos h

theorem tamperDetect_of_low {lv : Nat} {a b : State} {salt : List Nat} (ha : a = s.setSh F.KEYS_TAMP_LEVEL lv)
    (hlow : a.aonFld F.KEYS_TAMP_EN &&& (3 - lv % 4) ≠ 0) (hsalt : a.takeOctets 32 = (salt, b)) :
    tamperDetect s lv = ({ b with aon := { b.aon with salt := salt }, keys := { b.keys with zeroDue := !b.clk.held } } : State).setSh F.KEYS_TAMP_LATCH
      (b.aonFld F.KEYS_TAMP_LATCH ||| (a.aonFld F.KEYS_TAMP_EN &&& (3 - lv % 4))) := by
  subst ha
  simp only [tamperDetect, if_neg hlow, hsalt]
  rfl

/-- Settles O55: the apply edge judges again what waits for it; what ends, scrubs or erases is read off the slots it writes. -/
theorem keysEffects : Obligations.KeysEffects := by
  intro s
  simp only [exec_keysApplyEdge, execKeysApplyEdge, exec_keysScrub, execKeysScrub, exec_idReady, execIdReady, exec_zeroisation, execZeroisation,
    exec_mailboxComplete, execMailboxComplete, exec_tamperDetect, execTamperDetect, Host.Outcome.next.injEq]
  refine ⟨fun hlive => ?live, ?high, ?low⟩
  case live =>
    simp only [live_of_not_held hlive]
    refine ⟨?edge, fun _ => rfl, fun hlc hnew => ⟨_, rfl, idReady_of_new hlc hnew⟩, fun hdue => ⟨_, rfl, fun i hi => zeroise_erases_secrets hdue hi⟩, ?ends,
      fun _ => rfl⟩
    case edge =>
      rintro r a hrun hwait rfl
      refine ⟨keysApplyEdge_of_message_accepted hrun hwait, keysApplyEdge_of_pair_accepted hrun hwait, ?_⟩
      rintro c hcmd rfl hc
      exact keysApplyEdge_of_message_refused hrun hwait hcmd hc
    case ends =>
      intro r hrun hwait hcause hreq
      have hboot {t : State} (h : t.boot = s.boot) : t.boot.req = none := by rw [h, hreq]
      refine ⟨fun h => ?_, fun h => ?_, fun h => ?_, fun h hroot => ?_, fun h => ?_, fun h => ?_⟩
      · exact mailboxComplete_of_done hrun (keysEnd_of_confirm hrun hwait hcause h) (hboot (by simp))
      · exact mailboxComplete_of_done hrun (keysEnd_of_commit hrun hwait hcause h) hreq
      · exact mailboxComplete_of_done hrun (keysEnd_of_rootInstall hrun hwait hcause h) (hboot (rootInstall_boot _ _ _))
      · rw [← burnRoot_of_unburned hroot]
        exact mailboxComplete_of_done hrun (keysEnd_of_burnRoot hrun hwait hcause h) hreq
      · exact mailboxComplete_of_done hrun (keysEnd_of_lcSeal hrun hwait hcause h) (hboot (burnLifecycle_boot _ _))
      · exact mailboxComplete_of_done hrun (keysEnd_of_lcDecommission hrun hwait hcause h) (hboot (burnLifecycle_boot _ _))
  case high =>
    rintro lv l a hhigh rfl rfl
    exact tamperDetect_of_high hhigh
  case low =>
    rintro lv low a b salt ha rfl hlow hsalt
    exact tamperDetect_of_low ha hlow hsalt

end Sys2Proof.Machine
end

section
/-! PROOFS. The tables and the enables of the switch core (R380, R382, R385, R398, R405, R409, R410). -/

namespace Sys2Proof.Machine

variable {s : State}

/-! ## The SWC mailbox -/

theorem swcMbx_of_busy (hbusy : s.flag (mbxBusy 13) = true) (write : Bool) (f : State → State) : swcMbx s write f = s.setFlag (mbxErr 13) true :=
  if_pos hbusy

section
variable (hidle : s.flag (mbxBusy 13) = false)
include hidle

theorem swcMbx_read (f : State → State) : swcMbx s false f = f s := by simp [swcMbx, blkSwc, hidle]

theorem swcMbx_write (hlock : s.flag F.SWC_CTRL_LOCK = false) (f : State → State) : swcMbx s true f = f s := by
  simp [swcMbx, blkSwc, hidle, hlock]

theorem swcMbx_locked (hlock : s.flag F.SWC_CTRL_LOCK = true) (f : State → State) : swcMbx s true f = s.mbxRefuse 13 := by
  simp [swcMbx, blkSwc, hidle, hlock]

theorem fdbRd_of_entry {i : Nat} {e : FdbEnt} (h : fdbFind s (mbxAddr s) (s.mbxD 13 0 % 4096) = some (i, e)) :
    fdbRd s = s.mbxStart 13 (fdbWords s 3 0 e) := by
  rw [fdbRd, swcMbx_read hidle, blkSwc, h]

theorem fdbRd_of_none (h : fdbFind s (mbxAddr s) (s.mbxD 13 0 % 4096) = none) : fdbRd s = s.mbxRefuse 13 := by
  rw [fdbRd, swcMbx_read hidle, blkSwc, h]

theorem mcRd_of_entry {e : McEnt} (h : sparseFind (bitsOf (s.mbxD 13 0) 25 16) s.swc.mc = some e) :
    mcRd s = s.mbxStart 13 (swcRun 6 (2 ^ 31 + bitsOf (s.mbxD 13 0) 25 16 * 2 ^ 16 + e.vid) (e.addr / 2 ^ 32) (e.addr % 2 ^ 32) e.mask) := by
  simp only [mcRd, swcMbx_read hidle, blkSwc, h]

theorem fdbRdIndex_of_entry {e : FdbEnt} (h : sparseFind (bitsOf (s.mbxD 13 1) 29 16) s.swc.fdb = some e) :
    fdbRdIndex s = s.mbxStart 13 (fdbWords s 8 (bitsOf (s.mbxD 13 1) 29 16) e) := by
  simp only [fdbRdIndex, swcMbx_read hidle, blkSwc, h]

theorem fdbRdIndex_of_unused (h : sparseFind (bitsOf (s.mbxD 13 1) 29 16) s.swc.fdb = none) :
    fdbRdIndex s = s.mbxStart 13 (swcRun 8 0 (bitsOf (s.mbxD 13 1) 29 16 * 2 ^ 16) 0 0) := by
  simp only [fdbRdIndex, swcMbx_read hidle, blkSwc, h]

section
variable (hlock : s.flag F.SWC_CTRL_LOCK = false)
include hlock

theorem vlanWr_spec (e : VlanEnt)
    (he : e = { valid := bitOf (s.mbxD 13 0) 31, floodUc := bitOf (s.mbxD 13 0) 30, floodMc := bitOf (s.mbxD 13 0) 29, sv := bitOf (s.mbxD 13 0) 28,
                go := bitOf (s.mbxD 13 0) 27, loop := bitOf (s.mbxD 13 0) 26, owner := bitsOf (s.mbxD 13 0) 22 16, member := s.mbxD 13 1 % 4096,
                untag := s.mbxD 13 2 % 256 }) :
    (vlanWr s).vlan (s.mbxD 13 0 % 4096) = e ∧ (∀ v, v ≠ s.mbxD 13 0 % 4096 → (vlanWr s).vlan v = s.vlan v) ∧ (vlanWr s).mem = s.mem := by
  subst he
  rw [vlanWr, swcMbx_write hidle hlock]
  exact ⟨sparseGet_set_self _ _ _ _, fun v hv => sparseGet_set_other _ _ _ hv _, rfl⟩

theorem fdbWr_spec {i : Nat} (h : (∃ e, fdbFind s (mbxAddr s) (s.mbxD 13 0 % 4096) = some (i, e))
      ∨ (fdbFind s (mbxAddr s) (s.mbxD 13 0 % 4096) = none ∧ fdbPlace s (mbxAddr s) (s.mbxD 13 0 % 4096) = some i)) :
    sparseFind i (fdbWr s).swc.fdb
        = some { static := true, addr := mbxAddr s, vid := s.mbxD 13 0 % 4096, port := bitsOf (s.mbxD 13 0) 19 16, last := s.time.sys }
      ∧ (∀ k, k ≠ i → sparseFind k (fdbWr s).swc.fdb = sparseFind k s.swc.fdb) ∧ (fdbWr s).mem = s.mem := by
  have hwr : fdbWr s = (s.setFdb i
      { static := true, addr := mbxAddr s, vid := s.mbxD 13 0 % 4096, port := bitsOf (s.mbxD 13 0) 19 16, last := s.time.sys }).mbxStart 13 (swcEcho s 4) := by
    rcases h with ⟨e, hfind⟩ | ⟨hfind, hplace⟩
    · simp only [fdbWr, swcMbx_write hidle hlock, blkSwc, hfind]
    · simp only [fdbWr, swcMbx_write hidle hlock, blkSwc, hfind, hplace]
  rw [hwr]
  exact ⟨sparseFind_put_self _ _ _, fun k hk => sparseFind_put_other hk _ _, rfl⟩

theorem fdbDel_of_entry {i : Nat} {e : FdbEnt} (h : fdbFind s (mbxAddr s) (s.mbxD 13 0 % 4096) = some (i, e)) :
    fdbDel s = (s.delFdb i).mbxStart 13 (swcEcho s 5) := by
  simp only [fdbDel, swcMbx_write hidle hlock, blkSwc, h]

theorem mcWr_of_valid (hvalid : bitOf (s.mbxD 13 0) 31 = true) :
    sparseFind (bitsOf (s.mbxD 13 0) 25 16) (mcWr s).swc.mc = some { vid := s.mbxD 13 0 % 4096, addr := mbxAddr s, mask := s.mbxD 13 3 % 512 }
      ∧ (mcWr s).mem = s.mem := by
  simp only [mcWr, swcMbx_write hidle hlock, blkSwc, hvalid, if_true]
  exact ⟨sparseFind_put_self _ _ _, rfl⟩

theorem mcWr_of_unused (hvalid : bitOf (s.mbxD 13 0) 31 = false) :
    mcWr s = ({ s with swc := { s.swc with mc := sparseDel (bitsOf (s.mbxD 13 0) 25 16) s.swc.mc } }).mbxStart 13 (swcEcho s 7) := by
  simp only [mcWr, swcMbx_write hidle hlock, blkSwc, hvalid, Bool.false_eq_true, if_false]

end
end

/-! ## Ageing and flushes -/

section
variable {i : Nat} {e : FdbEnt} (hentry : sparseFind i s.swc.fdb = some e)
include hentry

theorem fdbAgeOut_of_aged (hlearned : e.static = false) (hage : s.fld F.SWC_CTRL_AGE_TIME ≠ 0)
    (hdue : e.last + s.fld F.SWC_CTRL_AGE_TIME * 1000000000 ≤ s.time.sys) : fdbAgeOut s i = (s.delFdb i).count C.SWC_AGED := by
  simp [fdbAgeOut, hentry, hlearned, hage, Nat.not_lt.mpr hdue]

theorem fdbAgeOut_of_fresh (hearly : s.time.sys < e.last + s.fld F.SWC_CTRL_AGE_TIME * 1000000000) : fdbAgeOut s i = s := by
  simp [fdbAgeOut, hentry, hearly]

end

theorem flushFdbPort_of_port (hkind : s.fld F.SWC_SEL_KIND = 0) :
    flushFdbPort s = { s with swc := { s.swc with
      fdb := s.swc.fdb.filter fun e => e.2.static || decide (canonPort s e.2.port ≠ canonPort s (s.fld F.SWC_SEL_INDEX)) } } :=
  if_neg (not_not_intro hkind)

theorem ddEntryExpire_of_pair {k : Nat} (hk : k < 4) : ddEntryExpire s k = s.setDd k (ddLive s k) := if_neg (by omega)

/-! ## Enables -/

/-- Does a limit of a queue fail the check of EN? -/
def limitBad (s : State) (e c : Nat) : Bool := decide (qMax s e c < qMin s e c) || decide (64896 < qMax s e c)

theorem limitBad_iff (e c : Nat) : limitBad s e c = true ↔ qMax s e c < qMin s e c ∨ 64896 < qMax s e c := by simp [limitBad]

theorem any_limitBad_iff : ((List.range 12).any fun e => (List.range 8).any (limitBad s e)) = true
    ↔ ∃ e c, e < 12 ∧ c < 8 ∧ (qMax s e c < qMin s e c ∨ 64896 < qMax s e c) := by
  simp only [List.any_eq_true, List.mem_range, limitBad_iff]
  exact ⟨fun ⟨e, he, c, hc, h⟩ => ⟨e, c, he, hc, h⟩, fun ⟨e, c, he, hc, h⟩ => ⟨e, he, c, hc, h⟩⟩

section
variable (hlock : s.flag F.SWC_CTRL_LOCK = false)
include hlock

theorem swcEnableRow_of_open (hoff : s.flag F.SWC_CTRL_EN = false) (hrec : s.recovering = false) :
    swcEnableRow s = if ((List.range 12).any fun e => (List.range 8).any (limitBad s e)) || decide (60800 < sumMin s)
      then s.setFlt F.SWC_FLT_CFG_ERR else s.setFlag F.SWC_CTRL_EN true := by
  rw [swcEnableRow, hlock, Bool.false_and, if_neg Bool.false_ne_true]
  exact if_neg (by simp [hoff, hrec])

theorem swcEnableRow_of_good (hoff : s.flag F.SWC_CTRL_EN = false) (hrec : s.recovering = false)
    (hlimits : ∀ e c, e < 12 → c < 8 → qMin s e c ≤ qMax s e c ∧ qMax s e c ≤ 64896) (hsum : sumMin s ≤ 60800) :
    swcEnableRow s = s.setFlag F.SWC_CTRL_EN true := by
  rw [swcEnableRow_of_open hlock hoff hrec, if_neg]
  rw [Bool.or_eq_true, any_limitBad_iff, decide_eq_true_eq]
  rintro (⟨e, c, he, hc, hbad⟩ | hbad)
  · obtain ⟨hmin, hmax⟩ := hlimits e c he hc
    omega
  · omega

theorem swcEnableRow_of_bad (hoff : s.flag F.SWC_CTRL_EN = false) (hrec : s.recovering = false)
    (hbad : (∃ e c, e < 12 ∧ c < 8 ∧ (qMax s e c < qMin s e c ∨ 64896 < qMax s e c)) ∨ 60800 < sumMin s) :
    swcEnableRow s = s.setFlt F.SWC_FLT_CFG_ERR := by
  rw [swcEnableRow_of_open hlock hoff hrec, if_pos]
  rwa [Bool.or_eq_true, any_limitBad_iff, decide_eq_true_eq]

section
variable {k : Nat} (hk : k < 4) (hoff : s.flag F.SWC_R_CTL_EN k = false)
include hk hoff

theorem pairEnable_of_open :
    pairEnable s k = if (s.fld F.SWC_R_CTL_MODE k = 1 ∨ s.fld F.SWC_R_CTL_MODE k = 2) ∧ portSa s (2 * k) = portSa s (2 * k + 1)
      then s.setFlag F.SWC_R_CTL_EN true k else (s.setFlag F.SWC_R_FLT_CFG_REFUSED true k).setFlt F.SWC_FLT_CFG_ERR := by
  rw [pairEnable, if_neg (by simp [hk, hoff]), hlock, if_neg Bool.false_ne_true]
  simp only [Bool.and_eq_true, Bool.or_eq_true, decide_eq_true_eq]
  rfl

theorem pairEnable_of_good (hmode : s.fld F.SWC_R_CTL_MODE k = 1 ∨ s.fld F.SWC_R_CTL_MODE k = 2) (hsa : portSa s (2 * k) = portSa s (2 * k + 1)) :
    pairEnable s k = s.setFlag F.SWC_R_CTL_EN true k := by
  rw [pairEnable_of_open hlock hk hoff, if_pos ⟨hmode, hsa⟩]

theorem pairEnable_of_bad (hbad : (s.fld F.SWC_R_CTL_MODE k ≠ 1 ∧ s.fld F.SWC_R_CTL_MODE k ≠ 2) ∨ portSa s (2 * k) ≠ portSa s (2 * k + 1)) :
    pairEnable s k = (s.setFlag F.SWC_R_FLT_CFG_REFUSED true k).setFlt F.SWC_FLT_CFG_ERR := by
  have hclosed : ¬ ((s.fld F.SWC_R_CTL_MODE k = 1 ∨ s.fld F.SWC_R_CTL_MODE k = 2) ∧ portSa s (2 * k) = portSa s (2 * k + 1)) := by
    rintro ⟨hmode, hsa⟩
    exact hbad.elim (fun hneither => hmode.elim hneither.1 hneither.2) fun hdiffer => hdiffer hsa
  rw [pairEnable_of_open hlock hk hoff, if_neg hclosed]

end
end

section
variable {p : Nat} (hp : p < 128)
include hp

theorem ringEnable_of_good (rx : Bool) (hlow : 4 ≤ s.fld F.SWC_T_RX_RING_SIZE_LOG p) (hhigh : s.fld F.SWC_T_RX_RING_SIZE_LOG p ≤ 12) :
    ringEnable s p rx false = (s.setFlag F.SWC_T_CTL_RX_EN rx p).setFlag F.SWC_T_CTL_TX_EN false p := by
  simp [ringEnable, Nat.not_le.mpr hp, Nat.not_lt.mpr hlow, Nat.not_lt.mpr hhigh]

theorem ringEnable_of_large (hoff : s.flag F.SWC_T_CTL_RX_EN p = false) (hlarge : 12 < s.fld F.SWC_T_RX_RING_SIZE_LOG p) :
    ringEnable s p true false = (s.setFlt F.SWC_FLT_CFG_ERR).setFlag F.SWC_T_CTL_TX_EN false p := by
  simp [ringEnable, Nat.not_le.mpr hp, hoff, hlarge]

end

/-- Settles O50: the mailbox commands of an idle mailbox, then ageing and flushes as filters of the tables, then the conditions of each enable. -/
theorem switchTables : Obligations.SwitchTables := by
  intro s hlive
  simp only [exec_vlanRd, execVlanRd, exec_fdbRd, execFdbRd, exec_mcRd, execMcRd, exec_fdbRdIndex, execFdbRdIndex, exec_vlanWr, execVlanWr, exec_fdbWr,
    execFdbWr, exec_fdbDel, execFdbDel, exec_mcWr, execMcWr, exec_fdbAgeOut, execFdbAgeOut, exec_flushFdbAll, execFlushFdbAll, exec_flushFdbPort,
    execFlushFdbPort, exec_ddEntryExpire, execDdEntryExpire, exec_swcEnable, execSwcEnable, exec_pairEnable, execPairEnable, exec_ringEnable,
    execRingEnable, live_of_not_held hlive, Host.Outcome.next.injEq]
  refine ⟨?mailbox, fun hbusy => ⟨swcMbx_of_busy hbusy _ _, swcMbx_of_busy hbusy _ _⟩, ?ageing, rfl, flushFdbPort_of_port, ?expire, ?enables, ?rings⟩
  case mailbox =>
    rintro d a hidle rfl rfl
    refine ⟨?_, fun i e h => ?_, fdbRd_of_none hidle, fun e => mcRd_of_entry hidle, ?_, ?_, fun hlock => ?_, fun hlock => ?writes⟩
    · rintro e rfl
      exact swcMbx_read hidle _
    · rw [fdbRd_of_entry hidle h, fdbWords, Nat.zero_mul, Nat.zero_add]
      rfl
    · rintro i e rfl
      exact fdbRdIndex_of_entry hidle
    · rintro i rfl
      exact fdbRdIndex_of_unused hidle
    · exact ⟨swcMbx_locked hidle hlock _, swcMbx_locked hidle hlock _, swcMbx_locked hidle hlock _, swcMbx_locked hidle hlock _⟩
    case writes =>
      exact ⟨⟨_, rfl, vlanWr_spec hidle hlock _ rfl⟩, fun i h => ⟨_, rfl, fdbWr_spec hidle hlock h⟩, fun i e => fdbDel_of_entry hidle hlock,
        fun hvalid => ⟨_, rfl, mcWr_of_valid hidle hlock hvalid⟩, mcWr_of_unused hidle hlock⟩
  case ageing => exact fun i e hentry hlearned => ⟨fdbAgeOut_of_aged hentry hlearned, fdbAgeOut_of_fresh hentry⟩
  case expire =>
    intro k hk
    refine ⟨_, rfl, ?_⟩
    rw [ddEntryExpire_of_pair hk]
    exact ⟨ddTab_setDd_same _ _ _, rfl⟩
  case enables =>
    intro hlock
    exact ⟨fun hoff hrec => ⟨swcEnableRow_of_good hlock hoff hrec, swcEnableRow_of_bad hlock hoff hrec⟩,
      fun k hk hoff => ⟨pairEnable_of_good hlock hk hoff, pairEnable_of_bad hlock hk hoff⟩⟩
  case rings => exact fun p rx hp => ⟨ringEnable_of_good hp rx, ringEnable_of_large hp⟩

end Sys2Proof.Machine
end

section
/-! PROOFS. The traffic of the switch core (R379, R382, R384 to R386, R394 to R396, R405 to R407, R430). -/

namespace Sys2Proof.Machine

variable {s : State}

/-! ## Admission -/

/-- The machine once the oldest frame of a port has been taken from its queue. -/
def inqTaken (s : State) (p : Nat) (l : List InFrame) : State := { s with swc := { s.swc with inq := sparseSet [] s.swc.inq p l } }

/-- The machine once that frame has been counted. -/
def frameCounted (s : State) (p : Nat) (l : List InFrame) : State := (inqTaken s p l).count C.SWC_FRAMES_IN

section
variable (p : Nat) (l : List InFrame)

theorem fld_frameCounted {g : Fld} (j : Nat) (h : C.SWC_FRAMES_IN.apart g = true) : (frameCounted s p l).fld g j = s.fld g j :=
  fld_count_apart _ 0 j h

theorem flag_frameCounted {g : Fld} (j : Nat) (h : C.SWC_FRAMES_IN.apart g = true) : (frameCounted s p l).flag g j = s.flag g j := by
  unfold State.flag
  rw [fld_frameCounted p l j h]

theorem pairMode_frameCounted (e : Nat) : pairMode (frameCounted s p l) e = pairMode s e := by
  rw [pairMode, flag_frameCounted p l _ (by decide), fld_frameCounted p l _ (by decide), pairMode]

theorem canonPort_frameCounted (e : Nat) : canonPort (frameCounted s p l) e = canonPort s e := by
  rw [canonPort, pairMode_frameCounted, canonPort]

theorem frameVid_frameCounted (e : Nat) (f : Frame) : frameVid (frameCounted s p l) e f = frameVid s e f := by
  unfold frameVid
  rw [canonPort_frameCounted, fld_frameCounted p l _ (by decide)]

theorem framePcp_frameCounted (e : Nat) (f : Frame) : framePcp (frameCounted s p l) e f = framePcp s e f := by
  unfold framePcp
  rw [fld_frameCounted p l _ (by decide)]

theorem pcpClass_frameCounted (e pcp : Nat) : pcpClass (frameCounted s p l) e pcp = pcpClass s e pcp := by
  rw [pcpClass, fld_frameCounted p l _ (by decide), pcpClass]

theorem vlan_frameCounted (v : Nat) : (frameCounted s p l).vlan v = s.vlan v := by
  unfold State.vlan
  rw [frameCounted, State.count_swc]
  rfl

end

section
variable {p : Nat} {x : InFrame} {l : List InFrame} (hhead : sparseGet [] s.swc.inq p = x :: l)
include hhead

theorem swcFrameAdmit_of_head : swcFrameAdmit s p = physAdmit (inqTaken s p l) p x := by
  rw [swcFrameAdmit, hhead]
  rfl

theorem swcFrameAdmit_of_disabled (hoff : s.flag F.SWC_CTRL_EN = false) : swcFrameAdmit s p = (inqTaken s p l).count C.SWC_DISABLED_DROP := by
  have hoff' : (inqTaken s p l).flag F.SWC_CTRL_EN = false := hoff
  rw [swcFrameAdmit_of_head hhead, physAdmit, hoff']
  rfl

section
variable (hon : s.flag F.SWC_CTRL_EN = true) (hgood : x.bad = false) (hplain : pairMode s p = 0)
include hon hgood hplain

theorem swcFrameAdmit_of_member (hvalid : (s.vlan (frameVid s p x.frame)).valid = true) (hmember : bitOf (s.vlan (frameVid s p x.frame)).member p = true) :
    swcFrameAdmit s p = (admClose p (admitAll (⟨0, 0⟩, swcLearn (frameCounted s p l) p (frameVid s p x.frame) x.frame.src)
      { sp := p, inPort := p, frame := x.frame, stamp := x.stamp, vid := frameVid s p x.frame, pcp := framePcp s p x.frame,
        cls := pcpClass s p (framePcp s p x.frame), part := (s.vlan (frameVid s p x.frame)).owner, flags := x.flags, wire := x.wire,
        cells := frameCells x.frame.len, seqIn := none }
      (s.vlan (frameVid s p x.frame)) (plainType x.frame))).2 := by
  have hon' : (inqTaken s p l).flag F.SWC_CTRL_EN = true := hon
  have hcanon : canonPort s p = p := if_pos hplain
  rw [swcFrameAdmit_of_head hhead, physAdmit, hon', ← frameCounted]
  simp only [frameVid_frameCounted, framePcp_frameCounted, pcpClass_frameCounted, vlan_frameCounted, canonPort_frameCounted, hcanon, hgood, hvalid, hmember,
    physFrame, pairMode_frameCounted, hplain, modePrp, modeHsr, Bool.not_true, Bool.or_self, Bool.false_and, Bool.false_eq_true, if_false, if_true,
    Nat.zero_ne_one, show ¬ (0 : Nat) = 2 by decide]
  rfl

theorem swcFrameAdmit_of_not_member (hmember : bitOf (s.vlan (frameVid s p x.frame)).member p = false) (hptp : ptpOf x.frame = none) :
    swcFrameAdmit s p = ((frameCounted s p l).count C.SWC_P_VLAN_DROP p).setFlag F.SWC_P_FLT_VLAN_DROP true p := by
  have hon' : (inqTaken s p l).flag F.SWC_CTRL_EN = true := hon
  have hcanon : canonPort s p = p := if_pos hplain
  rw [swcFrameAdmit_of_head hhead, physAdmit, hon', ← frameCounted]
  simp only [frameVid_frameCounted, vlan_frameCounted, canonPort_frameCounted, hcanon, hgood, hmember, hptp, Option.isNone_none,
    Bool.not_true, Bool.not_false, Bool.or_true, Bool.and_self, Bool.false_eq_true, if_false, if_true]

end
end

/-! ## Transmission -/

section
variable {e : Nat} {x : SwCopy} {t : State} (hfree : (s.portCh e).fifo = none) (htakes : portTakes s e = true)
  (hidle : (s.portCh e).txEnd ≤ s.time.sys) (htake : takeCopy s e = some (x, t))
include hfree htakes hidle htake

theorem swcTxCopy_of_copy (he : e < 12) : swcTxCopy s e 0 = handCopy t e x := by
  simp [swcTxCopy, Nat.not_le.mpr he, hfree, htakes, Nat.not_lt.mpr hidle, htake]

theorem swcTxCopy_of_double_error (he : e < 12) : swcTxCopy s e 2 = cellUe t e x.cls := by
  simp [swcTxCopy, Nat.not_le.mpr he, hfree, htakes, Nat.not_lt.mpr hidle, htake]

end

theorem handCopy_of_port (t : State) {e : Nat} (he : e < 8) (x : SwCopy) : handCopy t e x = t.setPortCh e { t.portCh e with fifo := some x } := if_pos he

/-! ## Flushes -/

section
variable {p : Nat} (hp : p < 8) (hflush : s.flag F.SWC_P_STAT_FLUSHING p = true)
include hp hflush

theorem swcFlushComplete_of_flushing : swcFlushComplete s p =
    if s.fld F.PORT_P_STAT_LINK p = 2 ∧ holdOver s p = true then enterUp (s.setFlag F.SWC_P_STAT_FLUSHING false p) p
    else s.setFlag F.SWC_P_STAT_FLUSHING false p := by
  have hlink : linkState (s.setFlag F.SWC_P_STAT_FLUSHING false p) p = s.fld F.PORT_P_STAT_LINK p := fld_setFlag_apart _ _ _ _ (by decide)
  have hhold : holdOver (s.setFlag F.SWC_P_STAT_FLUSHING false p) p = holdOver s p := rfl
  rw [swcFlushComplete, if_neg (by simp [portCount, Nat.not_le.mpr hp, hflush])]
  simp only [hlink, hhold, lkUpWait, Bool.and_eq_true, decide_eq_true_eq]

theorem swcFlushComplete_of_not_waiting (hlink : s.fld F.PORT_P_STAT_LINK p ≠ 2) : swcFlushComplete s p = s.setFlag F.SWC_P_STAT_FLUSHING false p := by
  rw [swcFlushComplete_of_flushing hp hflush, if_neg (fun h => hlink h.1)]

theorem swcFlushComplete_of_waiting {e : Nat} (hlink : s.fld F.PORT_P_STAT_LINK p = 2) (hhold : (s.portCh p).holdAt = some e) (hdue : e ≤ s.time.sys) :
    swcFlushComplete s p = enterUp (s.setFlag F.SWC_P_STAT_FLUSHING false p) p := by
  rw [swcFlushComplete_of_flushing hp hflush, if_pos ⟨hlink, by simp [holdOver, hhold, hdue]⟩]

end

/-! ## The receive rings -/

section
variable {x : SwCopy} {l : List SwCopy} {a : State} (hhead : s.swc.cpuIn = x :: l) (ha : a = { s with swc := { s.swc with cpuIn := l } })
include hhead ha

theorem cpuRxDeliver_of_head : cpuRxDeliver s = if partHeld a x.part then a.count C.SWC_T_RX_RING_FULL x.part
    else if !a.flag F.SWC_T_CTL_RX_EN x.part then rxFull a x.part else rxDeliver a x.part x := by
  rw [cpuRxDeliver, hhead, ha]

theorem cpuRxDeliver_of_held (hheld : partHeld a x.part = true) : cpuRxDeliver s = a.count C.SWC_T_RX_RING_FULL x.part := by
  rw [cpuRxDeliver_of_head hhead ha, if_pos hheld]

theorem cpuRxDeliver_of_disabled (hlive : partHeld a x.part = false) (hoff : s.flag F.SWC_T_CTL_RX_EN x.part = false) :
    cpuRxDeliver s = rxFull a x.part := by
  have hoff' : a.flag F.SWC_T_CTL_RX_EN x.part = false := by rw [ha]; exact hoff
  rw [cpuRxDeliver_of_head hhead ha, hlive, hoff']
  rfl

theorem cpuRxDeliver_of_enabled (hlive : partHeld a x.part = false) (hon : s.flag F.SWC_T_CTL_RX_EN x.part = true) :
    cpuRxDeliver s = rxDeliver a x.part x := by
  have hon' : a.flag F.SWC_T_CTL_RX_EN x.part = true := by rw [ha]; exact hon
  rw [cpuRxDeliver_of_head hhead ha, hlive, hon']
  rfl

end

/-- A receive descriptor has been filled: HEAD goes on and the frame is counted. -/
def rxFilled (e : State) (p h : Nat) : State :=
  (e.setFld F.SWC_T_RX_RING_HEAD (ringNext (e.fld F.SWC_T_RX_RING_SIZE_LOG p) h) p).count C.SWC_T_RX_FRAMES p

theorem rxFilled_spec (e : State) (p h : Nat) :
    (rxFilled e p h).fld F.SWC_T_RX_RING_HEAD p = (h + 1) % 2 ^ e.fld F.SWC_T_RX_RING_SIZE_LOG p % 2 ^ F.SWC_T_RX_RING_HEAD.width
      ∧ (rxFilled e p h).mem = e.mem := by
  rw [rxFilled, fld_count_apart _ _ _ (by decide), fld_setFld_same, State.count_mem]
  exact ⟨rfl, rfl⟩

theorem rxDeliver_of_filled {a b c e : State} {p h : Nat} {x : SwCopy} {d o : List Nat} (hh : h = a.fld F.SWC_T_RX_RING_HEAD p)
    (hread : ringRead p 2 a (rxBase a p + h * 32) 32 = (some d, b)) (hown : bitOf (leWord d 2) 31 = true) (ho : o = (copyOctets x).take (leWord d 2 % 2 ^ 14))
    (hput : ringPut p (o.length / 64 + 1) b (leWord d 1 % 16 * 2 ^ 32 + leWord d 0 / 64 * 64) o = (true, c))
    (hstat : ringPut p 2 c (rxBase a p + h * 32 + 8) (rxStatus x (leWord d 2) o.length (decide (leWord d 2 % 2 ^ 14 < (copyOctets x).length))) = (true, e))
    (hien : e.flag F.SWC_T_CTL_RX_IEN p = false) : rxDeliver a p x = rxFilled e p h := by
  have hien' : (rxFilled e p h).flag F.SWC_T_CTL_RX_IEN p = false := by
    unfold State.flag at *
    rwa [rxFilled, fld_count_apart _ _ _ (by decide), fld_setFld_apart _ _ _ _ (by decide)]
  subst hh ho
  unfold rxDeliver
  simp only [hread, hown, hput, hstat, Bool.not_true, Bool.false_eq_true, if_false]
  exact if_neg (by rw [← rxFilled, hien']; exact Bool.false_ne_true)

/-! ## The transmit rings -/

/-- A transmit descriptor has been answered: HEAD goes on, and a frame admitted is counted. -/
def txAnswered (f : State) (p h st : Nat) : State :=
  let t := f.setFld F.SWC_T_TX_RING_HEAD (ringNext (f.fld F.SWC_T_TX_RING_SIZE_LOG p) h) p
  if st = 0 then t.count C.SWC_T_TX_FRAMES p else t

theorem txAnswered_spec (f : State) (p h st : Nat) :
    (txAnswered f p h st).fld F.SWC_T_TX_RING_HEAD p = (h + 1) % 2 ^ f.fld F.SWC_T_TX_RING_SIZE_LOG p % 2 ^ F.SWC_T_TX_RING_HEAD.width
      ∧ (txAnswered f p h st).mem = f.mem
      ∧ (st = 0 → f.ctr C.SWC_T_TX_FRAMES p < ctrMax → (txAnswered f p h st).ctr C.SWC_T_TX_FRAMES p = f.ctr C.SWC_T_TX_FRAMES p + 1) := by
  unfold txAnswered
  by_cases hst : st = 0
  · simp only [if_pos hst]
    rw [fld_count_apart _ _ _ (by decide), fld_setFld_same, State.count_mem, ctr_count_same, ctr_setFld]
    exact ⟨rfl, rfl, fun _ hroom => Nat.min_eq_right hroom⟩
  · simp only [if_neg hst]
    exact ⟨fld_setFld_same _ _ _ _, rfl, fun h => absurd h hst⟩

theorem flag_txAnswered (f : State) (p h st : Nat) : (txAnswered f p h st).flag F.SWC_T_CTL_TX_IEN p = f.flag F.SWC_T_CTL_TX_IEN p := by
  unfold txAnswered State.flag
  by_cases hst : st = 0
  · simp only [if_pos hst]
    rw [fld_count_apart _ _ _ (by decide), fld_setFld_apart _ _ _ _ (by decide)]
  · simp only [if_neg hst]
    rw [fld_setFld_apart _ _ _ _ (by decide)]

theorem txOne_of_read {a b c e f : State} {p h st : Nat} {d o : List Nat} (hh : h = a.fld F.SWC_T_TX_RING_HEAD p)
    (hread : ringRead p 2 a (txBase a p + h * 32) 32 = (some d, b)) (hlow : 14 ≤ leWord d 2 % 2 ^ 14) (hhigh : leWord d 2 % 2 ^ 14 ≤ 9212)
    (hdata : ringRead p (leWord d 2 % 2 ^ 14 / 64 + 2) b (leWord d 1 % 16 * 2 ^ 32 + leWord d 0 / 64 * 64) (leWord d 2 % 2 ^ 14) = (some o, c))
    (htx : txFrame c p (leWord d 2) o = (st, e))
    (hput : f = (ringPut p 2 e (txBase a p + h * 32 + 12) (octetsLE 4 (2 ^ 31 + st) ++ stampWords e.stamp)).2)
    (hien : f.flag F.SWC_T_CTL_TX_IEN p = false) : txOne a p = txAnswered f p h st := by
  have hien' : (txAnswered f p h st).flag F.SWC_T_CTL_TX_IEN p = false := by rw [flag_txAnswered, hien]
  have hlen : ¬ (leWord d 2 % 2 ^ 14 < 14 ∨ 9212 < leWord d 2 % 2 ^ 14) := by omega
  subst hh hput
  unfold txOne
  simp only [hread, Bool.or_eq_true, decide_eq_true_eq, hlen, if_false, hdata, htx, txAdmitted]
  exact if_neg (by rw [← txAnswered, hien']; exact Bool.false_ne_true)

theorem cpuTxFrame_of_turn {p : Nat} (h : ((List.range 128).map fun i => (s.swc.txTurn + 1 + i) % 128).find? (txReady s) = some p) :
    cpuTxFrame s = txOne { s with swc := { s.swc with txTurn := p } } p := by
  simp only [cpuTxFrame, partCount, h]

theorem cpuTxFrame_of_none (h : ((List.range 128).map fun i => (s.swc.txTurn + 1 + i) % 128).find? (txReady s) = none) : cpuTxFrame s = s := by
  simp only [cpuTxFrame, partCount, h]

/-- Settles O51: a frame's entry, the hand-over of the copies, a flush and the two directions of a partition's rings, each by the lemma of its case. -/
theorem switchTraffic : Obligations.SwitchTraffic := by
  intro s hlive
  simp only [exec_swcFrameAdmit, execSwcFrameAdmit, exec_swcTxCopy, execSwcTxCopy, exec_swcFlushComplete, execSwcFlushComplete, exec_cpuTxTailWrite,
    execCpuTxTailWrite, exec_cpuRxDeliver, execCpuRxDeliver, exec_cpuTxFrame, execCpuTxFrame, live_of_not_held hlive, Host.Outcome.next.injEq]
  refine ⟨?entry, fun p x l hhead hoff => swcFrameAdmit_of_disabled hhead hoff, ?copies, ?flush, fun p v hp => if_neg (by omega), ?receive, ?transmit,
    cpuTxFrame_of_none⟩
  case entry =>
    rintro p x l a v - hhead hon hgood hplain rfl rfl
    exact ⟨swcFrameAdmit_of_member hhead hon hgood hplain, swcFrameAdmit_of_not_member hhead hon hgood hplain⟩
  case copies =>
    intro e x t hfree htakes hidle htake
    have hhand (he : e < 12) : swcTxCopy s e 0 = handCopy t e x := swcTxCopy_of_copy hfree htakes hidle htake he
    refine ⟨fun he => ?_, ?_, ?_, ?_, swcTxCopy_of_double_error hfree htakes hidle htake⟩
    · rw [hhand (by omega), handCopy_of_port t he]
    · rintro rfl
      rw [hhand (by decide)]
      rfl
    · rintro rfl
      rw [hhand (by decide)]
      rfl
    · rintro rfl
      rw [hhand (by decide)]
      rfl
  case flush =>
    exact fun p hp hflush => ⟨swcFlushComplete_of_not_waiting hp hflush, fun e => swcFlushComplete_of_waiting hp hflush⟩
  case receive =>
    rintro x l a p hhead rfl ha
    refine ⟨cpuRxDeliver_of_held hhead ha, cpuRxDeliver_of_disabled hhead ha, fun h d b o c e hheld hon hh hread hown ho hput hstat hien => ?_⟩
    have hh' : h = a.fld F.SWC_T_RX_RING_HEAD x.part := by rw [hh, ha]; rfl
    refine ⟨_, rfl, ?_⟩
    rw [cpuRxDeliver_of_enabled hhead ha hheld hon, rxDeliver_of_filled hh' hread hown ho hput hstat hien]
    exact rxFilled_spec e x.part h
  case transmit =>
    rintro p a h d b o c st e f hturn ha hh hread hlow hhigh hdata htx hput hien
    have hh' : h = a.fld F.SWC_T_TX_RING_HEAD p := by rw [hh, ha]; rfl
    refine ⟨_, rfl, ?_⟩
    rw [cpuTxFrame_of_turn hturn, ← ha, txOne_of_read hh' hread hlow hhigh hdata htx hput hien]
    exact txAnswered_spec f p h st

end Sys2Proof.Machine
end

section
/-! PROOFS. Partition resets and the watchdogs (R411, R427, R428, R434 to R437). -/

namespace Sys2Proof.Machine

variable {s : State} {p : Nat}

/-! ## Partition resets -/

theorem partHeld_setFld_sources (v : Nat) : partHeld (s.setFld F.PART_T_STAT_SOURCES v p) p = partHeld s p :=
  flag_setFld_apart _ _ _ _ (by decide)

theorem partSettle_of_idle (hsrc : partSources s p = 0) (hheld : partHeld s p = false) :
    partSettle s p = s.setFld F.PART_T_STAT_SOURCES 0 p := by
  rw [partSettle]
  simp [hsrc, partHeld_setFld_sources, hheld]

theorem partSettle_of_held (hsrc : partSources s p ≠ 0) (hheld : s.flag F.PART_T_STAT_HELD p = true) :
    partSettle s p = s.setFld F.PART_T_STAT_SOURCES (partSources s p) p := by
  have hheld' : partHeld s p = true := hheld
  rw [partSettle]
  simp [hsrc, partHeld_setFld_sources, hheld']

theorem partLeave_of_sources (hsrc : partSources s p ≠ 0) : partLeave s p = s := by
  rw [partLeave, if_neg (by simp [hsrc])]

/-- The lane watchdog's count is no part of the pairs' configuration. -/
theorem slotsOf_setFld_lwdCount (v : Nat) : slotsOf (s.setFld F.PART_T_STAT_LWD_COUNT v p) p = slotsOf s p := by
  have hrole (n : Nat) : pairRole (s.setFld F.PART_T_STAT_LWD_COUNT v p) n = pairRole s n := by
    rw [pairRole, pairRole, fld_setFld_apart _ _ _ _ (by decide)]
  have hen (n j : Nat) : slotEn (s.setFld F.PART_T_STAT_LWD_COUNT v p) n j = slotEn s n j := flag_setFld_apart _ _ _ _ rfl
  have hpart (n j : Nat) : slotPart (s.setFld F.PART_T_STAT_LWD_COUNT v p) n j = slotPart s n j := fld_setFld_apart _ _ _ _ rfl
  simp only [slotsOf, hrole, hen, hpart]

theorem partScheduled_setFld_lwdCount (v : Nat) : partScheduled (s.setFld F.PART_T_STAT_LWD_COUNT v p) p = partScheduled s p := by
  have hgroup (n : Nat) : (s.setFld F.PART_T_STAT_LWD_COUNT v p).fld F.TIDE_P_CFG_GROUP n = s.fld F.TIDE_P_CFG_GROUP n :=
    fld_setFld_apart _ _ _ _ (by decide)
  have hgen (g : Nat) : grpEn (s.setFld F.PART_T_STAT_LWD_COUNT v p) g = grpEn s g :=
    congrArg (fun x => bitOf x g) (fld_setFld_apart s (f := F.PART_T_STAT_LWD_COUNT) (g := F.TIDE_CTRL_GEN) v p 0 (by decide))
  simp only [partScheduled, slotsOf_setFld_lwdCount, hgroup, hgen]

theorem joinHeld_setFld_lwdCount (v : Nat) : joinHeld (s.setFld F.PART_T_STAT_LWD_COUNT v p) p = joinHeld s p := by
  have hreq : (s.setFld F.PART_T_STAT_LWD_COUNT v p).flag F.TWIN_CTRL_XFER_REQ = s.flag F.TWIN_CTRL_XFER_REQ :=
    flag_setFld_apart _ _ _ _ (by decide)
  rw [joinHeld, joinHeld, hreq, partScheduled_setFld_lwdCount]
  rfl

theorem partLeave_of_released {a b : State} (hsrc : partSources s p = 0) (hheld : s.flag F.PART_T_STAT_HELD p = true)
    (ha : a = ((((s.setFlag F.PART_T_STAT_HELD false p).setPartBit F.PART_RST_HELD p false).event 14 0x0E02 p).setFld F.PART_T_STAT_LWD_COUNT 0 p))
    (hb : b = a.setFlag F.LANE_T_STAT_RESET_HELD (joinHeld a p) p) :
    partLeave s p = (b.setPres p { b.pres p with wdFrom := some b.time.sys, warned := false }).raiseIdent p 36 := by
  rw [partLeave, if_pos (by simp [partHeld, hsrc, hheld]), hb, ha, joinHeld_setFld_lwdCount]

theorem holdWrite_zero : holdWrite s 0 true = s.setFlt F.PART_FLT_CFG_ERR := rfl

theorem partPulse_zero (cause : Nat) : partPulse s 0 cause = s.setFlt F.PART_FLT_CFG_ERR := rfl

section
variable (hpos : 0 < p) (hlt : p < 128)
include hpos hlt

theorem not_part_refused : ¬ ((decide (p = 0) || decide (partCount ≤ p)) = true) := by
  simp [partCount, Nat.ne_of_gt hpos, Nat.not_le.mpr hlt]

theorem partSettle_of_leaving {a : State} (hsrc : partSources s p = 0) (hheld : s.flag F.PART_T_STAT_HELD p = true)
    (ha : a = s.setFld F.PART_T_STAT_SOURCES 0 p) : partSettle s p = { a with part := { a.part with leaving := p :: a.part.leaving } } := by
  have hheld' : partHeld s p = true := hheld
  rw [partSettle, ha]
  simp only [hsrc, partHeld_setFld_sources, hheld']
  rw [if_neg (not_part_refused hpos hlt)]
  rfl

theorem partPulse_of_part (cause : Nat) : partPulse s p cause =
    partSettle (s.setPres p { s.pres p with
      pulseEnd := some (s.time.sys + max 1 (s.fld F.PART_T_CTL_PULSE_US p) * 1000),
      causes := (if (s.pres p).pulseEnd.isSome then (s.pres p).causes else 0) ||| 2 ^ cause }) p := by
  rw [partPulse, if_neg (not_part_refused hpos hlt)]

theorem holdWrite_on : holdWrite s p true =
    partSettle ((s.setPres p { s.pres p with wdHold := false, lwdHold := false }).setFlag F.PART_T_CTL_HOLD true p) p := by
  rw [holdWrite, if_neg (by simp [partCount, hlt]), if_neg (Nat.ne_of_gt hpos)]
  rfl

theorem holdWrite_off : holdWrite s p false = partSettle (s.setFlag F.PART_T_CTL_HOLD false p) p := by
  rw [holdWrite, if_neg (by simp [partCount, hlt]), if_neg (Nat.ne_of_gt hpos)]
  rfl

end

theorem resetPulseEnd_of_pulse {e : Nat} (hpulse : (s.pres p).pulseEnd = some e) : resetPulseEnd s p =
    if e ≤ s.time.sys then partSettle (s.setPres p { s.pres p with pulseEnd := none, causes := 0 }) p else s := by
  rw [resetPulseEnd, hpulse]

/-! ## The application watchdog -/

theorem watchdogAct_of_flag (cause : Nat) : watchdogAct s p 0 cause = s := rfl

theorem watchdogAct_of_pulse (hpos : 0 < p) (cause : Nat) : watchdogAct s p 1 cause = partPulse s p cause := by
  simp [watchdogAct, Nat.ne_of_gt hpos]

theorem watchdogAct_of_hold {act : Nat} (hpos : 0 < p) (hact : 2 ≤ act) :
    watchdogAct s p act 2 = partSettle (s.setPres p { s.pres p with wdHold := true }) p := by
  have h0 : act ≠ 0 := by omega
  have h1 : act ≠ 1 := by omega
  simp [watchdogAct, Nat.ne_of_gt hpos, h0, h1, srcWd]

theorem wdRestart_of_live (hpos : 0 < p) (hlt : p < 128) (hheld : partHeld s p = false) :
    wdRestart s p = s.setPres p { s.pres p with wdFrom := some s.time.sys, warned := false } := by
  rw [wdRestart, if_neg (by simp [partCount, Nat.ne_of_gt hpos, Nat.not_le.mpr hlt, hheld])]

section
variable {c : Nat} (hcount : wdCount s p = some c)
include hcount

theorem wdKick_of_late (hlate : s.fld F.PART_T_WD_TIMEOUT p ≤ c) : wdKick s p = s := by
  rw [wdKick, hcount, if_pos (by simp [hlate])]

theorem wdKick_of_timely (hpos : 0 < p) (hlt : p < 128) (htimely : c < s.fld F.PART_T_WD_TIMEOUT p) (hheld : partHeld s p = false) :
    wdKick s p = s.setPres p { s.pres p with wdFrom := some s.time.sys, warned := false } := by
  rw [wdKick, hcount, if_neg (by simp [htimely]), wdRestart_of_live hpos hlt hheld]

theorem wdWarn_of_early (hearly : c < s.fld F.PART_T_WD_WARN p) : wdWarn s p = s := by
  simp [wdWarn, hcount, hearly]

theorem wdWarn_of_due (hwarn : s.fld F.PART_T_WD_WARN p ≠ 0) (hdue : s.fld F.PART_T_WD_WARN p ≤ c) (hfirst : (s.pres p).warned = false) :
    wdWarn s p = ((((((s.setPres p { s.pres p with warned := true }).setFlag F.PART_T_FLT_WD_WARN true p).count C.PART_T_WD_WARNS p).event 14 0x0E04 p
      (s.fld F.PART_T_WD_WARN p)).setFlt F.PART_FLT_WD_WARN).raiseIdent p 34) := by
  simp only [wdWarn, hcount]
  rw [if_neg (by simp [hwarn, Nat.not_lt.mpr hdue, hfirst])]

theorem wdExpiry_of_early (hearly : c < s.fld F.PART_T_WD_TIMEOUT p) : wdExpiry s p = s := by
  simp [wdExpiry, hcount, hearly]

theorem wdExpiry_of_due {a : State} (hdue : s.fld F.PART_T_WD_TIMEOUT p ≤ c)
    (ha : a = ((((s.setPres p { s.pres p with wdFrom := none }).setFlag F.PART_T_FLT_WD_EXP true p).count C.PART_T_WD_EXPIRIES p).event 14 0x0E05 p
      (s.fld F.PART_T_WD_ACT p)).setFlt F.PART_FLT_WD_EXP) : wdExpiry s p = watchdogAct a p (s.fld F.PART_T_WD_ACT p) 2 := by
  simp only [wdExpiry, hcount]
  rw [if_neg (Nat.not_lt.mpr hdue), ha]
  rfl

end

/-! ## Writes of the watchdogs' registers and the lane watchdog -/

theorem writeAct_of_part (hpos : 0 < p) (f : Fld) (v : Nat) : writeAct s f p v = s.setFld f (bitsOf v 31 30) p :=
  if_neg (Nat.ne_of_gt hpos)

section
variable {v : Nat} (hpos : 0 < p) (hlt : p < 128) (hlock : s.flag F.PART_CTRL_LOCK = false)
include hlt hlock

theorem wdConfigWrite_of_bad (hnz : v % 65536 ≠ 0) (hwarn : v % 65536 ≤ bitsOf v 29 16) :
    wdConfigWrite s p false v = s.setFlt F.PART_FLT_CFG_ERR := by
  simp [wdConfigWrite, hlock, partCount, Nat.not_le.mpr hlt, hnz, hwarn]

include hpos

theorem wdConfigWrite_of_good {a : State} (hgood : v % 65536 = 0 ∨ bitsOf v 29 16 < v % 65536)
    (ha : a = ((s.setFld F.PART_T_WD_ACT (bitsOf v 31 30) p).setFld F.PART_T_WD_WARN (bitsOf v 29 16) p).setFld F.PART_T_WD_TIMEOUT (v % 65536) p) :
    wdConfigWrite s p false v = wdRestart (partSettle (a.setPres p { a.pres p with wdHold := false }) p) p := by
  have hnot : ¬ ((decide (v % 65536 ≠ 0) && decide (v % 65536 ≤ bitsOf v 29 16)) = true) := by
    rw [Bool.and_eq_true, decide_eq_true_eq, decide_eq_true_eq]
    omega
  rw [wdConfigWrite, if_neg (by simp [partCount, hlt]), if_neg (by decide), if_neg (by simp [hlock]), if_neg hnot, writeAct_of_part hpos, ha]

theorem wdConfigWrite_of_lane {a : State} (ha : a = (s.setFld F.PART_T_LWD_ACT (bitsOf v 31 30) p).setFld F.PART_T_LWD_LIMIT (v % 256) p) :
    wdConfigWrite s p true v = partSettle ((a.setFld F.PART_T_STAT_LWD_COUNT 0 p).setPres p { a.pres p with lwdHold := false }) p := by
  rw [wdConfigWrite, if_neg (by simp [partCount, hlt]), if_pos rfl, if_neg (by simp [hlock]), writeAct_of_part hpos, ha]

end

theorem lwdExpiry_of_limit {a : State} (win : Nat) (hlim : s.fld F.PART_T_LWD_LIMIT p ≠ 0)
    (hdue : s.fld F.PART_T_LWD_LIMIT p ≤ s.fld F.PART_T_STAT_LWD_COUNT p) (hheld : partHeld s p = false)
    (ha : a = (((((s.setFld F.PART_T_STAT_LWD_COUNT 0 p).setFlag F.PART_T_FLT_LWD_EXP true p).count C.PART_T_LWD_EXPIRIES p).event 14 0x0E06 p
      (s.fld F.PART_T_LWD_ACT p) win).setFlt F.PART_FLT_LWD_EXP).raiseIdent p 35) :
    lwdExpiry s p win = watchdogAct a p (s.fld F.PART_T_LWD_ACT p) 3 := by
  rw [lwdExpiry, if_neg (by simp [hlim, hheld, hdue]), lwdFire, ha]
  rfl

/-! ## The device watchdog -/

theorem dwdKick_of_first {v : Nat} (hv : v % 256 = 0x5A) : dwdKick s v = { s with part := { s.part with kickStep := true } } := if_pos hv

theorem dwdKick_of_second {v : Nat} (hv : v % 256 = 0xA5) (hstep : s.part.kickStep = true) :
    dwdKick s v = { s with part := { s.part with kickStep := false, dwdAt := s.time.sys, dwdWarned := false } } := by
  simp [dwdKick, hv, hstep]

theorem dwdKick_of_other {v : Nat} (h5a : v % 256 ≠ 0x5A) (ha5 : v % 256 ≠ 0xA5) :
    dwdKick s v = { s with part := { s.part with kickStep := false } } := by
  simp [dwdKick, h5a, ha5]

section
variable {n : Nat} (hen : s.flag F.PART_DWD_CTL_EN = true) (hn : n = max 1 (s.fld F.PART_DWD_CTL_TIMEOUT) * 10000000)

theorem dwdTimeout_eq : dwdTimeout s = max 1 (s.fld F.PART_DWD_CTL_TIMEOUT) * 10000000 := Nat.mul_assoc _ _ _

include hn

theorem dwdWarn_of_early (hearly : s.time.sys < s.part.dwdAt + n / 2) : dwdWarn s = s := by
  simp [dwdWarn, dwdTimeout_eq, ← hn, hearly]

theorem dwdExpiry_of_early (hearly : s.time.sys < s.part.dwdAt + n) : dwdExpiry s = s := by
  simp [dwdExpiry, dwdTimeout_eq, ← hn, hearly]

include hen

theorem dwdWarn_of_due (hfirst : s.part.dwdWarned = false) (hdue : s.part.dwdAt + n / 2 ≤ s.time.sys) : dwdWarn s =
    ((({ s with part := { s.part with dwdWarned := true } }).count C.PART_DWD_WARNINGS).event 14 0x0E07 0 (s.fld F.PART_DWD_CTL_TIMEOUT)).setFlt
      F.PART_FLT_DWD_WARN := by
  rw [dwdWarn, dwdTimeout_eq, ← hn, if_neg (by simp [hen, hfirst, Nat.not_lt.mpr hdue])]
  rfl

theorem dwdExpiry_of_due (hdue : s.part.dwdAt + n ≤ s.time.sys) : dwdExpiry s = assertReset s causeDwd := by
  rw [dwdExpiry, dwdTimeout_eq, ← hn, if_neg (by simp [hen, Nat.not_lt.mpr hdue])]

end

/-- Settles O52: `partSettle` and `partLeave` read the sources of a partition's reset; every command of the family reaches them through one change of those sources. -/
theorem partitionsAndWatchdogs : Obligations.PartitionsAndWatchdogs := by
  intro s hlive
  simp only [exec_pulse, execPulse, exec_holdWrite, execHoldWrite, exec_resetPulseEnd, execResetPulseEnd, exec_wdKick, execWdKick, exec_wdWarn, execWdWarn,
    exec_wdExpiry, execWdExpiry, exec_wdConfigWrite, execWdConfigWrite, exec_lwdExpiry, execLwdExpiry, exec_dwdKick, execDwdKick, exec_dwdWarn, execDwdWarn,
    exec_dwdExpiry, execDwdExpiry, live_of_not_held hlive, Host.Outcome.next.injEq]
  refine ⟨fun p hpos hlt => ⟨partPulse_of_part hpos hlt _, holdWrite_on hpos hlt, holdWrite_off hpos hlt, partSettle_of_idle, partSettle_of_held,
    fun a => partSettle_of_leaving hpos hlt, partLeave_of_sources, fun a b => partLeave_of_released, ?watchdog, ?config, ?lane⟩,
    partPulse_zero _, holdWrite_zero, ?pulseEnd, fun v => dwdKick_of_first, fun v => dwdKick_of_second, fun v => dwdKick_of_other, ?device⟩
  case watchdog =>
    intro c _ hcount
    refine ⟨wdKick_of_timely hcount hpos hlt, wdKick_of_late hcount, wdWarn_of_due hcount, wdWarn_of_early hcount, wdExpiry_of_early hcount, fun a hdue ha => ?_⟩
    rw [wdExpiry_of_due hcount hdue ha]
    refine ⟨fun hact => ?_, fun hact => ?_, fun hact => watchdogAct_of_hold hpos hact⟩
    · rw [hact, watchdogAct_of_flag]
    · rw [hact, watchdogAct_of_pulse hpos]
  case config => exact fun v a hlock => ⟨wdConfigWrite_of_good hpos hlt hlock, wdConfigWrite_of_bad hlt hlock, wdConfigWrite_of_lane hpos hlt hlock⟩
  case lane => exact fun win a => lwdExpiry_of_limit win
  case pulseEnd =>
    intro p e hpulse
    rw [resetPulseEnd_of_pulse hpulse]
    exact ⟨fun hearly => if_neg (Nat.not_le.mpr hearly), fun hdue => if_pos hdue⟩
  case device => exact fun n hen hn => ⟨dwdWarn_of_due hen hn, dwdWarn_of_early hn, dwdExpiry_of_due hen hn, dwdExpiry_of_early hn⟩

end Sys2Proof.Machine
end

section
/-! PROOFS. The counter snapshot and the writes of a register over the register bus (R412, R475, R477, R482, R490, R491). -/

namespace Sys2Proof.Machine

variable {s : State}

/-! ## The counter snapshot -/

theorem snapshot_cnts : (snapshot s).cnts = (s.count C.SYS_SNAPSHOTS).cnts := rfl

theorem snapshot_snap : (snapshot s).snap = some s.stamp := by
  have hfld (f : Fld) (hcount : C.SYS_SNAPSHOTS.apart f = true) (hseq : f.apart F.SYS_SNAP_SEQ_SEQ = true) (v : Nat) :
      ((s.count C.SYS_SNAPSHOTS).setFld F.SYS_SNAP_SEQ_SEQ v).fld f = s.fld f := by
    rw [fld_setFld_apart _ _ _ _ hseq, fld_count_apart _ _ _ hcount]
  show some (State.stamp ((s.count C.SYS_SNAPSHOTS).setFld F.SYS_SNAP_SEQ_SEQ _)) = some s.stamp
  simp only [State.stamp, State.devNs, State.setFld_time, State.count_time, hfld F.TIME_STAT_EPOCH (by decide) (by decide),
    hfld F.TIME_STAT_TQ (by decide) (by decide)]

theorem snapshot_mem : (snapshot s).mem = s.mem := State.count_mem _ _ _

theorem snapshot_seq : (snapshot s).fld F.SYS_SNAP_SEQ_SEQ = (s.fld F.SYS_SNAP_SEQ_SEQ + 1) % 2 ^ 32 := by
  show ((s.count C.SYS_SNAPSHOTS).setFld F.SYS_SNAP_SEQ_SEQ _).fld F.SYS_SNAP_SEQ_SEQ = _
  rw [fld_setFld_same, fld_count_apart _ _ _ (by decide)]
  rfl

theorem snapshot_mask : (snapshot s).fld F.SYS_SNAP_CLR_MASK = s.fld F.SYS_SNAP_CLR_MASK := by
  show ((s.count C.SYS_SNAPSHOTS).setFld F.SYS_SNAP_SEQ_SEQ _).fld F.SYS_SNAP_CLR_MASK = _
  rw [fld_setFld_apart _ _ _ _ (by decide), fld_count_apart _ _ _ (by decide)]

theorem snapshotClear_cnts :
    (snapshotClear s).cnts = (snapshot s).bank.filter (fun e => !bitOf (s.fld F.SYS_SNAP_CLR_MASK) (keyBlk e.1)) := by
  show (snapshot s).cnts.filter (fun e => !bitOf ((snapshot s).fld F.SYS_SNAP_CLR_MASK) (keyBlk e.1)) = _
  rw [snapshot_mask]
  rfl

theorem readSnapTime_of_busy (hbusy : s.flag (mbxBusy 0) = true) : readSnapTime s = s.mbxRefuseBusy 0 := if_pos hbusy

theorem readSnapTime_of_kept {t : Stamp} (hidle : s.flag (mbxBusy 0) = false) (hsnap : s.snap = some t) :
    readSnapTime s = s.mbxStart 0 (timeLayout 1 (t.t / 65536 * 65536) t.tq 0 t.epoch) := by
  simp [readSnapTime, hidle, hsnap]

theorem readSnapTime_of_none (hidle : s.flag (mbxBusy 0) = false) (hsnap : s.snap = none) : readSnapTime s = s.mbxRefuse 0 := by
  simp [readSnapTime, hidle, hsnap]

/-! ## A core's access to the register space -/

theorem length_octetsBE (n v : Nat) : (octetsBE n v).length = n := by
  induction n with
  | zero => rfl
  | succ n ih => rw [octetsBE, List.length_cons, ih]

theorem length_octetsLE (n v : Nat) : (octetsLE n v).length = n := by
  rw [octetsLE, List.length_reverse, length_octetsBE]

theorem mod_of_inRegs {a : Nat} (hregs : inRegs a = true) : a % 2 ^ 36 = a := by
  have hhigh : a < regEnd := by
    simp only [inRegs, Bool.and_eq_true, decide_eq_true_eq] at hregs
    exact hregs.2
  unfold regEnd at hhigh
  omega

/-- Tag 0 may reach every register (R412). -/
theorem bwPermits_regs_device (kind n : Nat) {a : Nat} (hregs : inRegs a = true) : bwPermits s 0 kind a n = true := by
  simp [bwPermits, hregs]

section
variable {src a : Nat} (v : Nat) (hregs : inRegs a = true)
include hregs

theorem registerWrite_eq_busWrite (n : Nat) :
    registerWrite s initCore src a n v = (busWrite s initCore (s.cpu src).txTag a (octetsLE n v)).2 := by
  rw [registerWrite, mod_of_inRegs hregs, fabWrite, if_pos hregs]
  rfl

section
variable (haligned : a % 4 = 0)
include haligned

theorem registerWrite_of_device (htag : (s.cpu src).txTag = 0) (hlive : partHeld s 0 = false) :
    registerWrite s initCore src a 4 v = (regWrite s initCore 0 ((a - 0x40000000) / 65536) (a % 65536) (v % 2 ^ 32)).2 := by
  rw [registerWrite_eq_busWrite v hregs, htag, busWrite_word _ _ _ _ haligned, busWriteWord_of_permits _ hlive (bwPermits_regs_device _ _ hregs) hregs]
  rfl

theorem registerWrite_of_guest (hlive : partHeld s (s.cpu src).txTag = false) (hno : bwPermits s (s.cpu src).txTag kindWrite a 4 = false) :
    registerWrite s initCore src a 4 v = bwViolation s initCore (s.cpu src).txTag kindWrite a := by
  rw [registerWrite_eq_busWrite v hregs, busWrite_word _ _ _ _ haligned, busWriteWord_of_not_permits _ hlive hno]

end

theorem registerWrite_of_bad {n k : Nat} (htag : (s.cpu src).txTag = 0) (hlive : partHeld s 0 = false) (hbad : busBad a n = some k) :
    registerWrite s initCore src a n v = s.busError k initCore 0 a true := by
  rw [registerWrite_eq_busWrite v hregs, htag, busWrite, length_octetsLE, hbad]
  simp [bwAdmit_of_permits hlive (bwPermits_regs_device (s := s) kindWrite n hregs)]

end

theorem busBad_of_misaligned {a : Nat} (ha : a % 4 ≠ 0) : busBad a 4 = some 1 := by
  simp [busBad, ha]

theorem busBad_of_narrow (a : Nat) : busBad a 2 = some 0 := rfl

/-! ## Two registers: TIME_HOLD and FDC_CTRL -/

theorem regAt_timeHold : regAt 2 0 0x20 = some R.TIME_HOLD := by decide

theorem regAt_fdcCtrl : regAt 5 0 0 = some R.FDC_CTRL := by decide

/-- No LOCK and no enable holds the fields of TIME_HOLD. -/
theorem lockBars_timeHold (i j v : Nat) : lockBars s R.TIME_HOLD i j v = false := by
  have hopen (f : Fld) (hblk : f.blk = 2) (hacc : f.acc = .rw) : fieldLocked s f i j = false := by
    simp [fieldLocked, hacc, blockLocked, instLocked, hblk]
  simp [lockBars, R.TIME_HOLD, hopen F.TIME_HOLD_HOLD_LIMIT rfl rfl, hopen F.TIME_HOLD_HOLD_AVG rfl rfl, hopen F.TIME_HOLD_SYNC_LOSS rfl rfl]

theorem writeFields_timeHold (v : Nat) : writeFields s R.TIME_HOLD 0 0 (v % 2 ^ 32) =
    ((s.setFld F.TIME_HOLD_HOLD_LIMIT (v / 65536 % 65536)).setFld F.TIME_HOLD_HOLD_AVG (v / 256 % 256)).setFld F.TIME_HOLD_SYNC_LOSS (v % 256) := by
  have hlimit : F.TIME_HOLD_HOLD_LIMIT.bitsIn (v % 2 ^ 32) = v / 65536 % 65536 := by
    show v % 2 ^ 32 / 2 ^ 16 % 2 ^ 16 = _
    omega
  have havg : F.TIME_HOLD_HOLD_AVG.bitsIn (v % 2 ^ 32) = v / 256 % 256 := by
    show v % 2 ^ 32 / 2 ^ 8 % 2 ^ 8 = _
    omega
  have hloss : F.TIME_HOLD_SYNC_LOSS.bitsIn (v % 2 ^ 32) = v % 256 := by
    show v % 2 ^ 32 / 2 ^ 0 % 2 ^ 8 = _
    omega
  rw [← hlimit, ← havg, ← hloss]
  rfl

theorem regWrite_timeHold (init tag v : Nat) : (regWrite s init tag 2 0x20 (v % 2 ^ 32)).2 =
    ((s.setFld F.TIME_HOLD_HOLD_LIMIT (v / 65536 % 65536)).setFld F.TIME_HOLD_HOLD_AVG (v / 256 % 256)).setFld F.TIME_HOLD_SYNC_LOSS (v % 256) := by
  have hplace : placeOf s 2 0x20 = some (0, 0) := rfl
  have hshadow (addr w : Nat) : writeShadow s init tag addr R.TIME_HOLD w = none := rfl
  simp only [regWrite, hplace, regWriteAt, regAt_timeHold, writeReg, lockBars_timeHold, hshadow, Nat.mod_mod]
  exact writeFields_timeHold v

/-- LOCK holds EN (R184), so a write that would change EN is barred. -/
theorem lockBars_fdcCtrl {v : Nat} (hlock : s.flag F.FDC_CTRL_LOCK = true) (hchange : v % 2 ≠ s.fld F.FDC_CTRL_EN) :
    lockBars s R.FDC_CTRL 0 0 v = true := by
  have hlocked : fieldLocked s F.FDC_CTRL_EN 0 0 = true := by
    have hone : F.FDC_CTRL_EN.isOne (lockOpen 5) = false := by decide
    show (s.flag F.FDC_CTRL_LOCK && !F.FDC_CTRL_EN.isOne (lockOpen 5) || instLocked s F.FDC_CTRL_EN 0 0) = true
    simp [hlock, hone]
  have hread : fieldRead s F.FDC_CTRL_EN 0 0 = s.fld F.FDC_CTRL_EN := rfl
  have hbits : F.FDC_CTRL_EN.bitsIn v ≠ s.fld F.FDC_CTRL_EN := by
    show v / 2 ^ 0 % 2 ^ 1 ≠ _
    simpa using hchange
  have hign : fieldIgnored s F.FDC_CTRL_EN = false := rfl
  simp [lockBars, R.FDC_CTRL, hlocked, hread, hbits, hign]

theorem regWrite_fdcCtrl_of_locked {v : Nat} (init tag : Nat) (hlock : s.flag F.FDC_CTRL_LOCK = true) (hchange : v % 2 ≠ s.fld F.FDC_CTRL_EN) :
    (regWrite s init tag 5 0 (v % 2 ^ 32)).2 = s.lockViolation tag 0x40050000 (v % 2 ^ 32) := by
  have hplace : placeOf s 5 0 = some (0, 0) := rfl
  have hchange' : v % 2 ^ 32 % 2 ≠ s.fld F.FDC_CTRL_EN := by omega
  simp only [regWrite, hplace, regWriteAt, regAt_fdcCtrl, writeReg, Nat.mod_mod]
  rw [if_neg (by decide), show R.FDC_CTRL.index 0 = 0 from rfl, if_pos (lockBars_fdcCtrl hlock hchange')]
  rfl

/-- Settles O57: the snapshot by its fields; a register write through the register bus, whose word, narrow and misaligned accesses are judged apart. -/
theorem registersAndSnapshots : Obligations.RegistersAndSnapshots := by
  intro s hlive
  simp only [exec_snapshot, execSnapshot, exec_snapshotClear, execSnapshotClear, exec_readSnapTime, execReadSnapTime, exec_registerWrite, execRegisterWrite,
    live_of_not_held hlive, Host.Outcome.next.injEq]
  refine ⟨⟨_, rfl, rfl, rfl, snapshot_seq, snapshot_snap, snapshot_mem⟩, ⟨_, rfl, rfl, snapshotClear_cnts, snapshot_snap, snapshot_mem⟩,
    fun hidle => ⟨fun t => readSnapTime_of_kept hidle, readSnapTime_of_none hidle⟩, readSnapTime_of_busy, ?access, ?registers⟩
  case access =>
    intro src addr v hregs hheld
    refine ⟨fun haligned htag => ?_, fun haligned _ => registerWrite_of_guest v hregs haligned hheld,
      fun ha htag => registerWrite_of_bad v hregs htag (htag ▸ hheld) (busBad_of_misaligned ha),
      fun htag => registerWrite_of_bad v hregs htag (htag ▸ hheld) (busBad_of_narrow addr)⟩
    exact registerWrite_of_device v hregs haligned htag (htag ▸ hheld)
  case registers =>
    intro src v htag hheld
    refine ⟨?_, fun hlock hchange => ?_⟩
    · exact (registerWrite_of_device v (by decide) (by decide) htag hheld).trans (regWrite_timeHold _ _ _)
    · exact (registerWrite_of_device v (by decide) (by decide) htag hheld).trans (regWrite_fdcCtrl_of_locked _ _ hlock hchange)

end Sys2Proof.Machine
end

section
/-! PROOFS. The commands of the BOOT mailbox and the flash (R507, R519, R520). -/

namespace Sys2Proof.Machine

variable {s : State}

/-! ## A command is written -/

theorem bootMbx_of_busy (hbusy : s.flag (mbxBusy 17) = true) (refused : Bool) (op : FlashOp) :
    bootMbx s refused op = (s.mbxRefuseBusy 17).setFlt F.BOOT_FLT_CMD_REFUSED := if_pos hbusy

theorem flashCmd_of_busy (hbusy : s.flag (mbxBusy 17) = true) (kind : Nat) (bad : Bool) (o : FlashOp) :
    flashCmd s kind bad o = (s.mbxRefuseBusy 17).setFlt F.BOOT_FLT_CMD_REFUSED := by
  rw [flashCmd, if_pos (by simp [blkBoot, hbusy]), bootMbx_of_busy hbusy]

/-- The state in which a command of the BOOT mailbox has begun. -/
def bootBegun (s : State) (op : FlashOp) : State :=
  let b := s.mbxStart 17 { cmd := op.cmd, ok := true, d0 := s.mbxD 17 0, d1 := s.mbxD 17 1, d2 := s.mbxD 17 2, d3 := s.mbxD 17 3 }
  { b with boot := { b.boot with op := some op } }

section
variable (hidle : s.flag (mbxBusy 17) = false)
include hidle

theorem bootMbx_of_idle (refused : Bool) (op : FlashOp) : bootMbx s refused op =
    if refused then (s.mbxRefuse 17).setFlt F.BOOT_FLT_CMD_REFUSED else bootBegun s op := by
  rw [bootMbx, if_neg (by simp [blkBoot, hidle])]
  rfl

theorem bootMbx_of_permitted {refused : Bool} (hok : refused = false) (op : FlashOp) : bootMbx s refused op = bootBegun s op := by
  rw [bootMbx_of_idle hidle, hok]
  rfl

theorem bootMbx_of_refused {refused : Bool} (hno : refused = true) (op : FlashOp) :
    bootMbx s refused op = (s.mbxRefuse 17).setFlt F.BOOT_FLT_CMD_REFUSED := by
  rw [bootMbx_of_idle hidle, hno]
  rfl

variable {kind : Nat} {bad : Bool} {o : FlashOp}

theorem flashCmd_of_bad (hbad : bad = true) : flashCmd s kind bad o = (s.mbxRefuse 17).setFlt F.BOOT_FLT_CMD_REFUSED := by
  rw [flashCmd, if_pos (by simp [hbad]), bootMbx_of_refused hidle hbad]

theorem flashCmd_of_outside (hgood : bad = false) (hlen : o.len ≠ 0) (hout : inLpddr s o.addr o.len = false) :
    flashCmd s kind bad o = (s.mbxRefuse 17).setFlt F.BOOT_FLT_CMD_REFUSED := by
  have hmem : flashMemBad s kind o = (true, s) := by simp [flashMemBad, hlen, hout]
  rw [flashCmd, if_neg (by simp [blkBoot, hidle, hgood]), hmem]
  exact bootMbx_of_refused hidle rfl o

theorem flashCmd_of_permitted (hgood : bad = false) (hlen : o.len ≠ 0) (hin : inLpddr s o.addr o.len = true) (hlive : partHeld s 0 = false)
    (hok : bwPermits s 0 kind o.addr o.len = true) : flashCmd s kind bad o = bootBegun s o := by
  have hmem : flashMemBad s kind o = (false, s) := by simp [flashMemBad, hlen, hin, bwAdmit_of_permits hlive hok]
  rw [flashCmd, if_neg (by simp [blkBoot, hidle, hgood]), hmem]
  exact bootMbx_of_permitted hidle rfl o

end

/-! ## The judgement of the operands -/

theorem operandsBad_iff {n off len : Nat} {meets : Bool} :
    (decide (off % n ≠ 0) || decide (len % n ≠ 0) || meets) = true ↔ off % n ≠ 0 ∨ len % n ≠ 0 ∨ meets = true := by
  simp [or_assoc]

theorem operandsGood {n off len : Nat} {meets : Bool} (hoff : off % n = 0) (hlen : len % n = 0) (hmeets : meets = false) :
    (decide (off % n ≠ 0) || decide (len % n ≠ 0) || meets) = false := by
  simp [hoff, hlen, hmeets]

/-! ## A command ends -/

section
variable {o : FlashOp} {a : State} (hop : s.boot.op = some o) (ha : a = { s with boot := { s.boot with op := none } })
include hop

theorem bootEnd_of_late (hcmd : o.cmd ≤ 3) (hlate : o.start + 4000000000 ≤ s.clk.ns) : bootEnd s = s := by
  simp [bootEnd, hop, hcmd, hlate]

include ha

/-- A command of the mailbox, none of recovery, is reported done. -/
theorem bootEnd_of_done (hcmd : o.cmd < 0x10) (hdone : 3 < o.cmd ∨ s.clk.ns < o.start + 4000000000) : bootEnd s = bootCmdEnd a o := by
  have hlate : ¬ ((decide (o.cmd ≤ 3) && decide (o.start + 4000000000 ≤ s.clk.ns)) = true) := by
    rw [Bool.and_eq_true, decide_eq_true_eq, decide_eq_true_eq]
    omega
  simp only [bootEnd, hop]
  rw [if_neg hlate, if_neg (by omega), if_neg (by omega), ha]

end

theorem bootCmdEnd_of_erase {a : State} {o : FlashOp} (hcmd : o.cmd = 2) : bootCmdEnd a o = (flashErase a o.off o.len).mbxEnd 17 := by
  rw [bootCmdEnd, hcmd]
  rfl

theorem bootCmdEnd_of_confirm {a : State} {o : FlashOp} (hcmd : o.cmd = 4) : bootCmdEnd a o =
    ((setBad ((a.setSh F.AON_BOOT_PREF (a.fld F.BOOT_STAT_SLOT)).setSh F.AON_BOOT_TRIED 0) (a.fld F.BOOT_STAT_SLOT) false).event 17 0x1105 0).mbxEnd 17 := by
  rw [bootCmdEnd, hcmd]
  rfl

theorem bootCmdEnd_of_trial {a : State} {o : FlashOp} (hcmd : o.cmd = 5) : bootCmdEnd a o = (a.setSh F.AON_BOOT_TRIAL 1).mbxEnd 17 := by
  rw [bootCmdEnd, hcmd]
  rfl

theorem bootCmdEnd_of_recovery {a : State} {o : FlashOp} (hcmd : o.cmd = 6) : bootCmdEnd a o = (a.setSh F.AON_BOOT_FORCE_RECOV 1).mbxEnd 17 := by
  rw [bootCmdEnd, hcmd]
  rfl

/-! ## An operation is not done within 4 s -/

theorem mbxEnd_mem (s : State) (blk : Nat) : (s.mbxEnd blk).mem = s.mem := by
  unfold State.mbxEnd
  split
  · rfl
  · dsimp only
    split <;> rfl

theorem mbxEnd_boot (s : State) (blk : Nat) : (s.mbxEnd blk).boot = s.boot := by
  unfold State.mbxEnd
  split
  · rfl
  · dsimp only
    split <;> rfl

theorem bootFail_mem (s : State) : (bootFail s).mem = s.mem := by
  rw [bootFail, mbxEnd_mem]
  split <;> rfl

theorem bootFail_boot (s : State) : (bootFail s).boot = s.boot := by
  rw [bootFail, mbxEnd_boot]
  split <;> rfl

section
variable {o : FlashOp} (hop : s.boot.op = some o)
include hop

theorem flashOpTimeout_of_early (hearly : s.clk.ns < o.start + 4000000000) : flashOpTimeout s = s := by
  simp [flashOpTimeout, hop, hearly]

/-- What a timed-out erase or programming leaves: the operation has ended, the pages it met are torn. -/
def flashTimedOut (s : State) : State :=
  { s with freeCtr := s.freeCtr + 1, boot := { s.boot with torn := flashTorn s, op := none } }

theorem flashOpTimeout_of_due (hcmd : o.cmd = 2 ∨ o.cmd = 3) (hdue : o.start + 4000000000 ≤ s.clk.ns) :
    flashOpTimeout s = (bootFail (flashTimedOut s)).setFlt F.BOOT_FLT_FLASH_ERR := by
  have hdue' : ¬ ((decide (3 < o.cmd) || decide (s.clk.ns < o.start + 4000000000)) = true) := by
    rw [Bool.or_eq_true, decide_eq_true_eq, decide_eq_true_eq]
    omega
  simp only [flashOpTimeout, hop]
  rw [if_neg hdue', if_neg (by omega)]
  rfl

theorem flashOpTimeout_spec (hcmd : o.cmd = 2 ∨ o.cmd = 3) (hdue : o.start + 4000000000 ≤ s.clk.ns) :
    (flashOpTimeout s).boot.op = none ∧ (flashOpTimeout s).flag F.BOOT_FLT_FLASH_ERR = true ∧ (flashOpTimeout s).mem = s.mem
      ∧ (flashOpTimeout s).boot.flash = s.boot.flash := by
  rw [flashOpTimeout_of_due hop hcmd hdue, State.setFlt_boot, State.setFlt_mem, bootFail_boot, bootFail_mem]
  exact ⟨rfl, flag_setFlt_same _ rfl (by decide), rfl, rfl⟩

end

/-! ## Erased octets -/

theorem sparseFind_filter {α : Type} (p : Nat → Bool) (k : Nat) (m : Sparse α) :
    sparseFind k (m.filter fun e => p e.1) = if p k then sparseFind k m else none := by
  induction m with
  | nil => simp [sparseFind]
  | cons e m ih =>
    obtain ⟨j, v⟩ := e
    by_cases hkj : k = j
    · subst hkj
      cases hk : p k <;> simp [sparseFind, hk, ih]
    · cases hj : p j <;> simp [sparseFind, hj, hkj, ih]

section
variable {off len x : Nat}

theorem sparseFind_flash_flashErase : sparseFind x (flashErase s off len).boot.flash =
    if (decide (x < off) || decide (off + len ≤ x)) = true then sparseFind x s.boot.flash else none :=
  sparseFind_filter (fun k => decide (k < off) || decide (off + len ≤ k)) x _

theorem sparseFind_torn_flashErase (page : Nat) : sparseFind page (flashErase s off len).boot.torn =
    if (decide (page < off / 256) || decide ((off + len) / 256 ≤ page)) = true then sparseFind page s.boot.torn else none :=
  sparseFind_filter (fun k => decide (k < off / 256) || decide ((off + len) / 256 ≤ k)) page _

theorem flashByte_flashErase_inside (hoff : off % 65536 = 0) (hlen : len % 65536 = 0) (hlow : off ≤ x) (hhigh : x < off + len) (hsize : x < s.boot.size) :
    flashByte (flashErase s off len) x = 0xFF := by
  have hpage : ¬ ((decide (x / 256 < off / 256) || decide ((off + len) / 256 ≤ x / 256)) = true) := by
    rw [Bool.or_eq_true, decide_eq_true_eq, decide_eq_true_eq]
    omega
  have htorn : sparseFind (x / 256) (flashErase s off len).boot.torn = none := by rw [sparseFind_torn_flashErase, if_neg hpage]
  have hflash : sparseFind x (flashErase s off len).boot.flash = none := by
    rw [sparseFind_flash_flashErase, if_neg (by simp [hlow, hhigh])]
  rw [flashByte, if_neg (show ¬ (flashErase s off len).boot.size ≤ x from Nat.not_le.mpr hsize), htorn]
  simp [sparseGet, hflash]

theorem flashByte_flashErase_below (hlow : x < off) (hpage : x / 256 < off / 256) : flashByte (flashErase s off len) x = flashByte s x := by
  have htorn : sparseFind (x / 256) (flashErase s off len).boot.torn = sparseFind (x / 256) s.boot.torn := by
    rw [sparseFind_torn_flashErase, if_pos (by simp [hpage])]
  have hflash : sparseGet 0xFF (flashErase s off len).boot.flash x = sparseGet 0xFF s.boot.flash x := by
    rw [sparseGet, sparseFind_flash_flashErase, if_pos (by simp [hlow]), sparseGet]
  rw [flashByte, flashByte, htorn, hflash]
  rfl

end

/-- Settles O59: each command is the mailbox's judgement of its operands; its end is read off the operation held, and an erase off the octets it drops. -/
theorem flashCommands : Obligations.FlashCommands := by
  intro s hlive
  simp only [exec_flashRead, execFlashRead, exec_flashErase, execFlashErase, exec_flashProg, execFlashProg, exec_bootConfirm, execBootConfirm, exec_setTrial,
    execSetTrial, exec_forceRecovery, execForceRecovery, exec_mailboxComplete, execMailboxComplete, exec_flashOpTimeout, execFlashOpTimeout,
    live_of_not_held hlive, Host.Outcome.next.injEq]
  refine ⟨?busy, ?idle, ?ends, fun off len x => flashByte_flashErase_inside, fun off len x => flashByte_flashErase_below⟩
  case busy =>
    rintro hbusy a rfl
    exact ⟨flashCmd_of_busy hbusy _ _ _, bootMbx_of_busy hbusy _ _, flashCmd_of_busy hbusy _ _ _, bootMbx_of_busy hbusy _ _, bootMbx_of_busy hbusy _ _,
      bootMbx_of_busy hbusy _ _⟩
  case idle =>
    rintro hidle off len addr rfl rfl rfl a b c rfl rfl rfl
    refine ⟨fun h => flashCmd_of_bad hidle (decide_eq_true h), fun h => flashCmd_of_outside (o := flashOperands s 1) hidle (decide_eq_false (not_not_intro h)),
      fun h => flashCmd_of_permitted (o := flashOperands s 1) hidle (decide_eq_false (not_not_intro h)), fun hoff hlen hmeets => bootMbx_of_permitted hidle (operandsGood hoff hlen hmeets) _,
      fun h => bootMbx_of_refused hidle (operandsBad_iff.mpr h) _, fun hoff hlen hmeets => flashCmd_of_permitted (o := flashOperands s 3) hidle (operandsGood hoff hlen hmeets),
      fun h => flashCmd_of_bad hidle (operandsBad_iff.mpr h), ?_, ?_, ?_, ?_, bootMbx_of_permitted hidle rfl _⟩
    · exact fun hready => bootMbx_of_permitted hidle (decide_eq_false (not_not_intro hready)) _
    · exact fun hnot => bootMbx_of_refused hidle (decide_eq_true hnot) _
    · exact fun hready htried => bootMbx_of_permitted hidle (by simp [bootState, bsReady, hready, htried]) _
    · exact fun hno => bootMbx_of_refused hidle (Bool.or_eq_true_iff.mpr (hno.imp_left fun hnot => decide_eq_true hnot)) _
  case ends =>
    rintro o a r hop ha rfl
    have hdone (hcmd : o.cmd < 0x10) (h : 3 < o.cmd ∨ s.clk.ns < o.start + 4000000000) : mailboxComplete s 17 = bootCmdEnd a o :=
      bootEnd_of_done hop ha hcmd h
    have hslot : a.fld F.BOOT_STAT_SLOT = s.fld F.BOOT_STAT_SLOT := by rw [ha]; rfl
    refine ⟨fun hcmd htime => ?_, fun hcmd => ?_, fun hcmd => ?_, fun hcmd => ?_, bootEnd_of_late hop,
      fun hcmd hdue => ⟨_, rfl, flashOpTimeout_spec hop hcmd hdue⟩, flashOpTimeout_of_early hop⟩
    · rw [hdone (by omega) (.inr htime), bootCmdEnd_of_erase hcmd]
    · rw [hdone (by omega) (.inl (by omega)), bootCmdEnd_of_confirm hcmd, hslot]
    · rw [hdone (by omega) (.inl (by omega)), bootCmdEnd_of_trial hcmd]
    · rw [hdone (by omega) (.inl (by omega)), bootCmdEnd_of_recovery hcmd]

end Sys2Proof.Machine
end

section
/-! PROOFS. A step of device time (R44, R54, R75, R76) and an idle step of the machine (R39, R48, log entry 2). -/

namespace Sys2Proof.Machine

/-! ## TOUT across a step -/

section
variable (old new : Nat)

/-- All that a step does to a timed output: its channel's state, and where instants were skipped their count and SKIP. -/
theorem toutStep_cases (s : State) (n : Nat) :
    toutStep old new s n = s ∨ (∃ t, toutStep old new s n = s.setTout n t)
      ∨ ∃ t k, toutStep old new s n = ((s.setTout n t).countBy C.TIME_TOUT_SKIPPED k n).setFlag F.TIME_TOUT_STAT_SKIP true n := by
  unfold toutStep
  dsimp only
  repeat' split
  all_goals first | exact .inl rfl | exact .inr (.inl ⟨_, rfl⟩) | exact .inr (.inr ⟨_, _, rfl⟩)

theorem toutStep_time (s : State) (n : Nat) : ∃ x, (toutStep old new s n).time = { s.time with touts := x } := by
  obtain h | ⟨t, h⟩ | ⟨t, k, h⟩ := toutStep_cases old new s n <;> rw [h]
  · exact ⟨_, rfl⟩
  · exact ⟨_, rfl⟩
  · rw [State.setFlag_time, State.countBy_time]
    exact ⟨_, rfl⟩

theorem fld_toutStep_apart (s : State) (n : Nat) {g : Fld} (j : Nat) (hskip : g.apart F.TIME_TOUT_STAT_SKIP = true)
    (hovf : C.TIME_TOUT_SKIPPED.apart g = true) : (toutStep old new s n).fld g j = s.fld g j := by
  obtain h | ⟨t, h⟩ | ⟨t, k, h⟩ := toutStep_cases old new s n <;> rw [h]
  · rfl
  · rw [fld_setFlag_apart _ _ _ _ hskip, fld_countBy_apart _ _ _ _ hovf]
    rfl

theorem foldl_toutStep_time (l : List Nat) (s : State) : ∃ x, (l.foldl (toutStep old new) s).time = { s.time with touts := x } := by
  induction l generalizing s with
  | nil => exact ⟨_, rfl⟩
  | cons n l ih =>
    obtain ⟨x, hx⟩ := toutStep_time old new s n
    obtain ⟨y, hy⟩ := ih (toutStep old new s n)
    exact ⟨y, by rw [List.foldl_cons, hy, hx]⟩

theorem fld_foldl_toutStep_apart (l : List Nat) (s : State) {g : Fld} (j : Nat) (hskip : g.apart F.TIME_TOUT_STAT_SKIP = true)
    (hovf : C.TIME_TOUT_SKIPPED.apart g = true) : (l.foldl (toutStep old new) s).fld g j = s.fld g j := by
  induction l generalizing s with
  | nil => rfl
  | cons n l ih => rw [List.foldl_cons, ih, fld_toutStep_apart old new s n j hskip hovf]

end

/-! ## A step of device time -/

section
variable (s : State) (d : Int)

/-- The time base after a step, but for the timed outputs, which move with it. -/
theorem stepTime_time :
    ∃ x, (stepTime s d).time = { s.time with
      sec := ((s.devNs : Int) + d).toNat / 1000000000 % 2 ^ 48
      ns := ((s.devNs : Int) + d).toNat % 1000000000
      notices := s.time.notices ++ [(d, (s.fld F.TIME_STAT_EPOCH + 1) % 65536, s.time.sys)]
      touts := x } := by
  unfold stepTime
  exact foldl_toutStep_time _ _ _ _

theorem fld_stepTime_epoch : (stepTime s d).fld F.TIME_STAT_EPOCH = (s.fld F.TIME_STAT_EPOCH + 1) % 65536 := by
  unfold stepTime
  rw [fld_foldl_toutStep_apart _ _ _ _ 0 (by decide) (by decide), fld_setFld_same]
  exact Nat.mod_mod _ _

end

/-- Settles O17: the step writes the time base, then moves the timed outputs, one by one. -/
theorem stepOfDeviceTime : Obligations.StepOfDeviceTime := by
  intro s d t ht
  obtain ⟨x, htime⟩ := stepTime_time s d
  have hmem : (stepTime s d).mem = s.mem := (stepTime_kept (.refl s) d (Within.refl _)).mem (by decide)
  rw [ht, htime]
  exact ⟨rfl, rfl, fld_stepTime_epoch s d, rfl, rfl, rfl, hmem⟩

/-! ## TBC edges -/

/-- A TBC edge counts in the running count and leaves the phase and the count of SYS edges. -/
theorem tbcEdge_time (s : State) :
    (tbcEdge s).time.tbc = s.time.tbc + 1 ∧ (tbcEdge s).time.phase = s.time.phase ∧ (tbcEdge s).time.sys = s.time.sys := by
  have htick : s.time.tick.tbc = s.time.tbc + 1 ∧ s.time.tick.phase = s.time.phase ∧ s.time.tick.sys = s.time.sys := by
    unfold TimeSt.tick
    split <;> exact ⟨rfl, rfl, rfl⟩
  unfold tbcEdge stepDue
  split
  case h_1 a _ =>
    obtain ⟨x, htime⟩ := stepTime_time _ a
    rw [htime]
    exact htick
  case h_2 => exact htick

theorem tbcEdges_time (n : Nat) (s : State) :
    (tbcEdges n s).time.tbc = s.time.tbc + n ∧ (tbcEdges n s).time.phase = s.time.phase ∧ (tbcEdges n s).time.sys = s.time.sys := by
  induction n generalizing s with
  | zero => exact ⟨rfl, rfl, rfl⟩
  | succ n ih =>
    obtain ⟨htbc, hphase, hsys⟩ := tbcEdge_time s
    obtain ⟨hrest, hphase', hsys'⟩ := ih (tbcEdge s)
    exact ⟨by rw [tbcEdges, hrest, htbc]; omega, hphase'.trans hphase, hsys'.trans hsys⟩

theorem tbcTick_of_stopped {s : State} (h : s.clk.tbcStop = true) : tbcTick s = s := if_pos h

/-- A nanosecond of a TBC that runs: the whole counts of the phase accumulator are its edges (R48). -/
theorem tbcTick_time_of_running {s : State} (h : s.clk.tbcStop = false) :
    (tbcTick s).time.tbc = s.time.tbc + ((s.time.phase : Int) + 2 ^ 38 + fadjOf s).toNat / 2 ^ 38
      ∧ (tbcTick s).time.phase = ((s.time.phase : Int) + 2 ^ 38 + fadjOf s).toNat % 2 ^ 38
      ∧ (tbcTick s).time.sys = s.time.sys := by
  rw [tbcTick, if_neg (ne_true_of_eq_false h)]
  exact tbcEdges_time _ _

/-! ## The SYS edge that ends and the one that begins -/

section
variable (s : State)

/-- Every part but the clocks. -/
def allButClk : Nat := 0xffffffffffffffff01f7ffff

/-- What the end of a SYS edge leaves: the time base with its registers, the AON domain, the queue, and of the clocks all but the snapshot under way. -/
theorem sysEnd_keeps : (sysEnd s).time = s.time ∧ fadjOf (sysEnd s) = fadjOf s ∧ (sysEnd s).aon = s.aon ∧ (sysEnd s).pending = s.pending
    ∧ (sysEnd s).clk.ns = s.clk.ns ∧ (sysEnd s).clk.tbcStop = s.clk.tbcStop := by
  have hkept := sysEnd_kept (.refl s) (Within.refl _)
  have hclk : (elogEdge (rallyEdge (gooseEdge (partEdge s)))).clk = s.clk :=
    (elogEdge_kept (rallyEdge_kept (gooseEdge_kept (partEdge_kept (.refl s) ⟨rfl⟩) ⟨rfl⟩) ⟨rfl⟩) (Within.mk rfl : Within _ allButClk)).same .clk
      (by decide)
  have hsnap (a : State) : (snapEnd a).clk.ns = a.clk.ns ∧ (snapEnd a).clk.tbcStop = a.clk.tbcStop := by
    unfold snapEnd
    split <;> exact ⟨rfl, rfl⟩
  obtain ⟨hns, hstop⟩ := hsnap (elogEdge (rallyEdge (gooseEdge (partEdge s))))
  exact ⟨hkept.time (by decide), congrArg (signed 32) (hkept.fld (by decide)), hkept.same .aon (by decide), hkept.1,
    hns.trans (congrArg ClkSt.ns hclk), hstop.trans (congrArg ClkSt.tbcStop hclk)⟩

theorem tbcTick_keeps : (tbcTick s).aon = s.aon ∧ (tbcTick s).clk = s.clk ∧ (tbcTick s).pending = s.pending := by
  have hkept := tbcTick_kept (.refl s) (Within.refl _)
  exact ⟨hkept.same .aon (by decide), hkept.same .clk (by decide), hkept.1⟩

end

/-! ## The ports' transmitters as a SYS edge begins -/

theorem launchOob_time (s : State) (p : Nat) (x : OobMsg) : ∃ y, (launchOob s p x).time = { s.time with ports := y } := by
  have hlaunch (s : State) (f : Frame) : (launch s p f none).time = s.time := (launch_kept (.refl s) p f none (Within.refl _)).time (by decide)
  have hstamp : (egressStamp s p).2.time = s.time := (egressStamp_kept (.refl s) p (Within.refl _)).time (by decide)
  cases x with
  | wake f => exact ⟨_, by rw [launchOob, State.count_time, hlaunch]⟩
  | pdReq m =>
    refine ⟨?_, ?_⟩
    case refine_2 => simp only [launchOob, hlaunch, State.count_time, State.setPtpPort, hstamp]; rfl
  | pdResp m rx => exact ⟨s.time.ports, by simp only [launchOob, hlaunch]; split <;> simp [hstamp]⟩
  | pdFollow m => exact ⟨_, by rw [launchOob, hlaunch]⟩

theorem oobNext_time (s : State) (p : Nat) : ∃ y, (oobNext s p).time = { s.time with ports := y } := by
  unfold oobNext
  dsimp only
  repeat' split
  all_goals first | exact ⟨_, rfl⟩ | exact launchOob_time _ _ _

/-- The ports' transmitters leave the time base, but for what the ports keep of peer delay. -/
theorem portTick_time (s : State) : ∃ y, (portTick s).time = { s.time with ports := y } := by
  unfold portTick
  induction s.port.ports.map Prod.fst generalizing s with
  | nil => exact ⟨_, rfl⟩
  | cons p l ih =>
    have hunder : (underEnd s p).time = s.time := (underEnd_kept (.refl s) p (Within.refl _)).time (by decide)
    obtain ⟨x, hx⟩ := oobNext_time (underEnd s p) p
    obtain ⟨y, hy⟩ := ih (oobNext (underEnd s p) p)
    exact ⟨y, by rw [List.foldl_cons, hy, hx, hunder]⟩

/-- As a SYS edge begins its count goes up by one; the rest of the time base stands but for what the ports keep of peer delay. -/
theorem sysTick_time (s : State) : ∃ y, (sysTick s).time = { s.time with sys := s.time.sys + 1, ports := y } := by
  have hgoose : (gooseBegin (sviSettle (elogTick (sysBegin s)))).time = (sysBegin s).time :=
    (gooseBegin_kept (sviSettle_kept (elogTick_kept (.refl _) ⟨rfl⟩) ⟨rfl⟩) (Within.mk rfl : Within _ 0xffffffffffffffff01ffffef)).time (by decide)
  obtain ⟨y, hy⟩ := portTick_time (gooseBegin (sviSettle (elogTick (sysBegin s))))
  refine ⟨y, ?_⟩
  rw [sysTick, (releaseCore_kept (.refl _) (Within.refl _)).time (by decide), hy, hgoose]
  rfl

theorem sysTick_keeps (s : State) : (sysTick s).aon = s.aon ∧ (sysTick s).clk.ns = s.clk.ns ∧ (sysTick s).pending = s.pending := by
  have hclk : (sysTick s).clk = (sysBegin s).clk :=
    (releaseCore_kept (portTick_kept (gooseBegin_kept (sviSettle_kept (elogTick_kept (.refl (sysBegin s)) ⟨rfl⟩) ⟨rfl⟩) ⟨rfl⟩) ⟨rfl⟩)
      (Within.mk rfl : Within _ allButClk)).same .clk (by decide)
  have hkept := sysTick_kept (.refl s) (Within.refl _)
  exact ⟨hkept.same .aon (by decide), (congrArg ClkSt.ns hclk).trans rfl, hkept.1⟩

/-! ## The nanosecond -/

/-- The AON domain's second advances by one nanosecond (R45). -/
theorem aonTick_advances (a : AonSt) :
    (aonTick a).sec * 1000000000 + (aonTick a).frac
      = if a.frac + 1 < 1000000000 then a.sec * 1000000000 + a.frac + 1 else (a.sec + 1) % 2 ^ 48 * 1000000000 := by
  unfold aonTick
  split
  · exact (Nat.add_assoc _ _ _).symm
  · exact Nat.add_zero _

/-- A nanosecond as the blocks in device reset see it. -/
def refTick (s : State) : State := { s with clk := { s.clk with ns := s.clk.ns + 1 }, aon := aonTick s.aon }

theorem tick_of_held {s : State} (h : s.clk.held = true) : tick s = refTick s := if_pos h

theorem tick_of_live {s : State} (h : s.clk.held = false) : tick s = sysTick (tbcTick (sysEnd (refTick s))) := if_neg (ne_true_of_eq_false h)

/-- Out of device reset a nanosecond is one SYS edge, and the TBC edges that the frequency adjustment gives, none while the TBC PLL has lost lock. -/
theorem tick_time_of_live {s : State} (h : s.clk.held = false) :
    (tick s).time.sys = s.time.sys + 1
      ∧ (s.clk.tbcStop = true → (tick s).time.tbc = s.time.tbc)
      ∧ (s.clk.tbcStop = false → (tick s).time.tbc = s.time.tbc + ((s.time.phase : Int) + 2 ^ 38 + fadjOf s).toNat / 2 ^ 38
          ∧ (tick s).time.phase = ((s.time.phase : Int) + 2 ^ 38 + fadjOf s).toNat % 2 ^ 38) := by
  obtain ⟨htime, hfadj, -, -, -, hstop⟩ := sysEnd_keeps (refTick s)
  obtain ⟨y, hy⟩ := sysTick_time (tbcTick (sysEnd (refTick s)))
  rw [tick_of_live h, hy]
  rcases hrun : s.clk.tbcStop with _ | _
  · obtain ⟨htbc, hphase, hsys⟩ := tbcTick_time_of_running (hstop.trans hrun)
    rw [htime, hfadj] at htbc hphase
    rw [htime] at hsys
    exact ⟨congrArg (· + 1) hsys, fun h => absurd h (by decide), fun _ => ⟨htbc, hphase⟩⟩
  · rw [tbcTick_of_stopped (hstop.trans hrun), htime]
    exact ⟨rfl, fun _ => rfl, fun h => absurd h (by decide)⟩

/-- Settles O2: a step with nothing waiting is `tick`. -/
theorem idleStepIsOneNanosecond : Obligations.IdleStepIsOneNanosecond := by
  intro s hidle
  refine ⟨tick s, step_idle hidle, ?_⟩
  rcases hheld : s.clk.held with _ | _
  case true =>
    rw [tick_of_held hheld]
    exact ⟨hidle, rfl, aonTick_advances s.aon, fun _ => rfl, fun h => absurd h (by decide)⟩
  case false =>
    obtain ⟨-, -, haon, hpending, hns, -⟩ := sysEnd_keeps (refTick s)
    obtain ⟨haon', hclk', hpending'⟩ := tbcTick_keeps (sysEnd (refTick s))
    obtain ⟨haon'', hns'', hpending''⟩ := sysTick_keeps (tbcTick (sysEnd (refTick s)))
    have hsame : (tick s).aon = aonTick s.aon := by rw [tick_of_live hheld, haon'', haon', haon]; rfl
    refine ⟨?_, ?_, ?_, fun h => absurd h (by decide), fun _ => tick_time_of_live hheld⟩
    · rw [tick_of_live hheld, hpending'', hpending', hpending]
      exact hidle
    · rw [tick_of_live hheld, hns'', hclk', hns]
      rfl
    · rw [hsame, aonTick_advances]

end Sys2Proof.Machine
end

section
/-! PROOFS. The discipline: its source, what reaches its servo, and the loss of its source (R43, R47, R49 to R51, R53, R555). -/

namespace Sys2Proof.Machine

/-! ## The UTC offset and the source (R43, R49) -/

theorem utcofsApply_of_due {s : State} {v : Nat} (hpend : s.time.utcPend = some v) (hdue : s.time.utcDue = true) :
    utcofsApply s = { s with time := { s.time with utcEff := v, utcPend := none, utcDue := false } } := by
  simp only [utcofsApply, hpend, hdue, if_true]

/-- The five fields that a write of TIME_CTRL sets. -/
def ctrlWritten (s : State) (v : Nat) : State :=
  ((((s.setFld F.TIME_CTRL_DOMAIN (bitsOf v 31 24)).setFld F.TIME_CTRL_SLAVE_PORT (bitsOf v 23 20)).setFld F.TIME_CTRL_LOG_SYNC
    (bitsOf v 19 16)).setFld F.TIME_CTRL_SRC (bitsOf v 9 8)).setFld F.TIME_CTRL_STEP_EN (v % 2)

/-- What a change of the effective source restarts (R49, R51). -/
def sourceChanged (s : State) : State :=
  { s with time := { s.time with srcFadj := some (fadjOf s), lossAt := none, holdAt := none, lockRun := 0, outRun := 0, outlierRun := 0 } }

section
variable (s : State) (v : Nat)

theorem fld_ctrlWritten_src : (ctrlWritten s v).fld F.TIME_CTRL_SRC = bitsOf v 9 8 := by
  rw [ctrlWritten, fld_setFld_apart _ _ _ _ (by decide), fld_setFld_same]
  exact Nat.mod_mod _ _

theorem timeCtrlWrite_of_same_source (h : effSource (bitsOf v 9 8) = effSource (s.fld F.TIME_CTRL_SRC)) : timeCtrlWrite s v = ctrlWritten s v := by
  rw [← fld_ctrlWritten_src s v] at h
  exact if_pos h

theorem timeCtrlWrite_of_new_source (h : effSource (bitsOf v 9 8) ≠ effSource (s.fld F.TIME_CTRL_SRC)) :
    timeCtrlWrite s v = sourceChanged (if effSource (bitsOf v 9 8) = 0 then applyFadjSet (setDisc (ctrlWritten s v) 0)
      else setDisc (ctrlWritten s v) 0) := by
  rw [← fld_ctrlWritten_src s v] at h ⊢
  exact if_neg h

theorem sfld_fadjSet_setDisc (st : Nat) :
    (setDisc (ctrlWritten s v) st).sfld F.TIME_FADJ_SET_FADJ_SET = s.sfld F.TIME_FADJ_SET_FADJ_SET := by
  have hfld : (setDisc (ctrlWritten s v) st).fld F.TIME_FADJ_SET_FADJ_SET = s.fld F.TIME_FADJ_SET_FADJ_SET := by
    refine (fld_setFld_apart _ _ _ _ (by decide)).trans ((fld_setFld_apart _ _ _ _ (by decide)).trans ?_)
    simp only [ctrlWritten, fld_setFld_apart _ _ _ _ (show F.TIME_FADJ_SET_FADJ_SET.apart F.TIME_CTRL_DOMAIN = true by decide),
      fld_setFld_apart _ _ _ _ (show F.TIME_FADJ_SET_FADJ_SET.apart F.TIME_CTRL_SLAVE_PORT = true by decide),
      fld_setFld_apart _ _ _ _ (show F.TIME_FADJ_SET_FADJ_SET.apart F.TIME_CTRL_LOG_SYNC = true by decide),
      fld_setFld_apart _ _ _ _ (show F.TIME_FADJ_SET_FADJ_SET.apart F.TIME_CTRL_SRC = true by decide),
      fld_setFld_apart _ _ _ _ (show F.TIME_FADJ_SET_FADJ_SET.apart F.TIME_CTRL_STEP_EN = true by decide)]
  exact congrArg (signed 32) hfld

end

/-- Settles O12: the write is its five fields, and after them the entry to FREERUN where the effective source is another. -/
theorem timeSourceAndUtcOffset : Obligations.TimeSourceAndUtcOffset := by
  intro s hlive
  simp only [exec_utcofsApply, execUtcofsApply, exec_timeCtrlWrite, execTimeCtrlWrite, live_of_not_held hlive]
  refine ⟨fun v hpend hdue => by rw [utcofsApply_of_due hpend hdue], fun v a ha => ?_⟩
  replace ha : a = ctrlWritten s v := ha
  rw [ha]
  refine ⟨fun hsame => by rw [timeCtrlWrite_of_same_source s v hsame], fun hnew hsoft => ?_, fun hnew hother => ?_⟩
  · rw [timeCtrlWrite_of_new_source s v hnew, if_pos hsoft]
    refine ⟨_, rfl, ?_, rfl⟩
    rw [← sfld_fadjSet_setDisc s v 0]
    rfl
  · rw [timeCtrlWrite_of_new_source s v hnew, if_neg hother]
    exact ⟨_, rfl, rfl, rfl⟩

/-! ## Offsets for the servo (R50, R555) -/

section
variable {s : State} {port : Nat} {m : PtpMsg} {st : Stamp} {trim : Int} {a : State} (hsrc : effSource (s.fld F.TIME_CTRL_SRC) = 1)
  (htrim : s.openRound (s.sfld F.TIME_P_RXTRIM_TRIM port * 65536) 1000 = (trim, a))

include htrim in
theorem ingressStamp_eq : ingressStamp s port st = (st.moved trim, a) := by
  rw [ingressStamp, psUnits, htrim]

include htrim in
/-- Only the use of a free value can tell the machine apart that has taken a trim into account. -/
theorem syncOffset_of_trimmed (t1 t2 : Nat) (corr : Int) : syncOffset a port t1 t2 corr = syncOffset s port t1 t2 corr := by
  have hregs : a.regs = s.regs := by
    have h := State.openRound_regs s (s.sfld F.TIME_P_RXTRIM_TRIM port * 65536) 1000
    rwa [htrim] at h
  simp only [syncOffset, State.sfld, fld_of_regs hregs]

include hsrc htrim

theorem syncRx_of_one_step (fu : Option (PtpMsg × Stamp)) (hone : m.twoStep = false) (huse : syncUsable s port m st fu = true) :
    syncRx s port m st fu = disciplineOffset a (syncOffset s port (m.tsSec * 1000000000 + m.tsNs) (st.moved trim).t m.corr) := by
  rw [← syncOffset_of_trimmed htrim]
  simp [syncRx, hsrc, huse, ingressStamp_eq htrim, hone]

theorem syncRx_of_two_step {f : PtpMsg} {frx : Stamp} (htwo : m.twoStep = true) (huse : syncUsable s port m st (some (f, frx)) = true) :
    syncRx s port m st (some (f, frx))
      = disciplineOffset a (syncOffset s port (f.tsSec * 1000000000 + f.tsNs) (st.moved trim).t (m.corr + f.corr)) := by
  rw [← syncOffset_of_trimmed htrim]
  simp [syncRx, hsrc, huse, ingressStamp_eq htrim, htwo]

end

/-- A pulse per second is off by its place in its second, taken within half a second. -/
theorem ppsEdge_of_current {s : State} {st : Stamp} (hsrc : effSource (s.fld F.TIME_CTRL_SRC) = 2) (hep : st.epoch = s.fld F.TIME_STAT_EPOCH) :
    ppsEdge s st = disciplineOffset s
      (if st.t / 65536 % 1000000000 < 500000000 then ((st.t / 65536 % 1000000000 : Nat) : Int)
        else ((st.t / 65536 % 1000000000 : Nat) : Int) - 1000000000) := by
  have hhalf : ((st.t / 65536 % 1000000000 : Nat) : Int) < 500000000 ↔ st.t / 65536 % 1000000000 < 500000000 := by omega
  simp only [ppsEdge, hsrc, hep, decide_true, Bool.and_self, if_true, hhalf]

/-- Settles O13. -/
theorem offsetsReachTheDiscipline : Obligations.OffsetsReachTheDiscipline := by
  intro s hlive
  simp only [exec_syncRx, execSyncRx, exec_ppsEdge, execPpsEdge, live_of_not_held hlive]
  refine ⟨fun hsrc port m st => ?_, fun hsrc st hep => by rw [ppsEdge_of_current hsrc hep]⟩
  rcases htrim : s.openRound (s.sfld F.TIME_P_RXTRIM_TRIM port * 65536) 1000 with ⟨trim, a⟩
  exact ⟨trim, a, _, rfl, rfl, fun hone fu huse => by rw [syncRx_of_one_step hsrc htrim fu hone huse]; rfl,
    fun htwo f frx huse => by rw [syncRx_of_two_step hsrc htrim htwo huse]; rfl⟩

/-! ## The loss of the source (R47, R51, R53) -/

section
variable {s : State} {d : Nat} (hdue : d ≤ s.time.tbc)
include hdue

theorem syncLossTimer_of_locked (hloss : s.time.lossAt = some d) (hst : s.fld F.TIME_STAT_STATE = 2) :
    syncLossTimer s = lockedLost { s with time := { s.time with lossAt := none } } := by
  simp only [syncLossTimer, hloss, if_neg (Nat.not_lt.mpr hdue)]
  exact (if_neg (show s.fld F.TIME_STAT_STATE ≠ 1 by rw [hst]; decide)).trans (if_pos hst)

theorem syncLossTimer_of_acquire (hloss : s.time.lossAt = some d) (hst : s.fld F.TIME_STAT_STATE = 1) (hnever : s.time.everLocked = false) :
    syncLossTimer s = setDisc { s with time := { s.time with lossAt := none } } discFreerun := by
  simp only [syncLossTimer, hloss, if_neg (Nat.not_lt.mpr hdue)]
  exact (if_pos hst).trans (if_neg (ne_true_of_eq_false hnever))

theorem holdLimitReached_of_holdover (hhold : s.time.holdAt = some d) (hst : s.fld F.TIME_STAT_STATE = 3) :
    holdLimitReached s = (setTq { s with time := { s.time with holdAt := none } } (tqOf discHoldover true)).setFlt F.TIME_FLT_HOLD_EXCEEDED := by
  have hstate : discState s = 3 := hst
  simp [holdLimitReached, hhold, Nat.not_lt.mpr hdue, hstate, discHoldover]

end

theorem unsigned_lt (w : Nat) (v : Int) : unsigned w v < 2 ^ w := by
  have hpos : (0 : Int) < ((2 ^ w : Nat) : Int) := Int.natCast_pos.mpr (Nat.two_pow_pos w)
  have hlt := Int.emod_lt_of_pos v hpos
  have hnn := Int.emod_nonneg v (Int.ne_of_gt hpos)
  unfold unsigned
  omega

theorem fld_setDisc_state (s : State) (st : Nat) : (setDisc s st).fld F.TIME_STAT_STATE = st % 2 ^ F.TIME_STAT_STATE.width := by
  have h : ((s.setFld F.TIME_STAT_STATE st).setFld F.TIME_STAT_TQ (tqOf st false)).fld F.TIME_STAT_STATE = st % 2 ^ F.TIME_STAT_STATE.width := by
    rw [fld_setFld_apart _ _ _ _ (by decide), fld_setFld_same]
  exact (fld_of_regs rfl _ _).trans h

theorem fld_setDisc_tq (s : State) (st : Nat) : (setDisc s st).fld F.TIME_STAT_TQ = tqOf st false % 4 := by
  have h : ((s.setFld F.TIME_STAT_STATE st).setFld F.TIME_STAT_TQ (tqOf st false)).fld F.TIME_STAT_TQ = tqOf st false % 4 := fld_setFld_same ..
  exact (fld_of_regs rfl _ _).trans h

/-- HOLDOVER as it is entered from LOCKED: its state and quality, the frequency held, and the entry counted (R47, R53). -/
theorem lockedLost_enters_holdover (s : State) :
    (lockedLost s).fld F.TIME_STAT_STATE = 3 ∧ (lockedLost s).fld F.TIME_STAT_TQ = 1 ∧ (lockedLost s).flag F.TIME_FLT_SYNC_LOSS = true
      ∧ (lockedLost s).time.lossAt = s.time.lossAt ∧ (lockedLost s).fld F.TIME_FADJ_FADJ = unsigned 32 (holdoverFadj s)
      ∧ (lockedLost s).ctr C.TIME_HOLDOVER_ENTRIES = min ctrMax (s.ctr C.TIME_HOLDOVER_ENTRIES + 1) ∧ (lockedLost s).mem = s.mem := by
  have hfld {g : Fld} (hflt : g.apart F.TIME_FLT_SYNC_LOSS = true) (hovf : C.TIME_HOLDOVER_ENTRIES.apart g = true) (hb : g.blk = 2) :
      (lockedLost s).fld g = (setFadj (setDisc s discHoldover) (holdoverFadj s)).fld g := by
    rw [lockedLost, fld_setFlt_apart _ _ hflt (by rw [hb]; decide)]
    exact fld_count_apart _ _ _ hovf
  refine ⟨?state, ?quality, flag_setFlt_same _ rfl (by decide), ?loss, ?frequency, ?counted, (lockedLost_kept (.refl s) (Within.refl _)).mem (by decide)⟩
  case state =>
    rw [hfld (by decide) (by decide) rfl, setFadj, State.setSfld, fld_setFld_apart _ _ _ _ (by decide)]
    exact fld_setDisc_state s discHoldover
  case quality =>
    rw [hfld (by decide) (by decide) rfl, setFadj, State.setSfld, fld_setFld_apart _ _ _ _ (by decide)]
    exact fld_setDisc_tq s discHoldover
  case loss => rw [lockedLost, State.setFlt_time, enterHoldover, State.count_time]; rfl
  case frequency =>
    rw [hfld (by decide) (by decide) rfl, setFadj, State.setSfld, fld_setFld_same]
    exact Nat.mod_eq_of_lt (unsigned_lt ..)
  case counted =>
    rw [lockedLost, ctr_setFlt_apart _ _ _ (by decide), enterHoldover, ctr_count_same]
    rfl

/-- Settles O14. -/
theorem sourceLossAndHoldLimit : Obligations.SourceLossAndHoldLimit := by
  intro s hlive d hdue
  simp only [exec_syncLossTimer, execSyncLossTimer, exec_holdLimitReached, execHoldLimitReached, live_of_not_held hlive]
  refine ⟨fun hloss hst => ?_, fun hloss hst hnever => ?_, fun hhold hst => ?_⟩
  · rw [syncLossTimer_of_locked hdue hloss hst]
    exact ⟨_, rfl, lockedLost_enters_holdover _⟩
  · rw [syncLossTimer_of_acquire hdue hloss hst hnever]
    rfl
  · rw [holdLimitReached_of_holdover hdue hhold hst]
    rfl

end Sys2Proof.Machine
end

section
/-! PROOFS. Timed outputs and input captures (R74 to R82, log entry 17). -/

namespace Sys2Proof.Machine

/-! ## The instants of a train -/

/-- The next instant of a train is the first of its instants at or after a time. -/
theorem nextInstant_spec {anchor p t : Nat} (hp : 0 < p) :
    ∃ k, nextInstant anchor p t = anchor + k * p ∧ t ≤ anchor + k * p ∧ ∀ j, t ≤ anchor + j * p → k ≤ j := by
  unfold nextInstant
  split
  case isTrue h => exact ⟨0, by omega, by omega, fun _ _ => Nat.zero_le _⟩
  case isFalse h =>
    refine ⟨(t - anchor + p - 1) / p, rfl, ?_, fun j hj => ?_⟩
    · have hceil : t - anchor + p - 1 < ((t - anchor + p - 1) / p + 1) * p := Nat.lt_mul_of_div_lt (Nat.lt_succ_self _) hp
      rw [Nat.add_mul] at hceil
      omega
    · refine Nat.le_of_lt_succ ((Nat.div_lt_iff_lt_mul hp).mpr ?_)
      rw [Nat.succ_mul]
      omega

/-! ## Arming (R74, R75, R78) -/

section
variable {s : State} {n : Nat} (hn : n < 8)
include hn

theorem toutArm_of_accepted {st : Nat} (hstart : (s.tout n).start = some st) (hoff : s.flag F.TIME_TOUT_CTRL_ARM n = false)
    (hok : toutArmRefused s n = false) :
    toutArm s n true = (s.setTout n { s.tout n with
      anchor := st, per := max 1 (s.fld F.TIME_TOUT_PERIOD_VAL n)
      next := if s.fld F.TIME_TOUT_CTRL_MODE n = toutPeriodic then nextInstant st (max 1 (s.fld F.TIME_TOUT_PERIOD_VAL n)) s.devNs else st
      late := decide (st < s.devNs), fired := false }).setFlag F.TIME_TOUT_CTRL_ARM true n := by
  simp [toutArm, Nat.not_le.mpr hn, hoff, hok, hstart]

theorem toutArm_of_disarm (hon : s.flag F.TIME_TOUT_CTRL_ARM n = true) :
    toutArm s n false = (s.setTout n { s.tout n with start := none, late := false, fired := false }).setFlag F.TIME_TOUT_CTRL_ARM false n := by
  simp [toutArm, Nat.not_le.mpr hn, hon]

end

/-! ## Pulses (R76, R77, R79) -/

section
variable {s : State} {n : Nat}

theorem past_of_same_period {t : ToutSt} {period : Nat} (h : period = t.per) :
    t.past false false period = { t with next := t.next + t.per, late := false } := by
  simp [ToutSt.past, h]

theorem past_of_new_period {t : ToutSt} {period : Nat} (h : period ≠ t.per) :
    t.past false false period = { t with anchor := t.next, per := period, next := t.next + period, late := false } := by
  simp [ToutSt.past, h]

theorem past_of_once {t : ToutSt} (period : Nat) (h : t.late = false) : t.past true false period = { t with start := none, fired := true } := by
  simp [ToutSt.past, ← h]

/-- A pulse that is due and not suppressed starts; none that is late in ONCE mode is meant. -/
theorem toutPulseStart_of_due (hn : n < 8) (hon : s.flag F.TIME_TOUT_CTRL_ARM n = true) (hwait : (s.tout n).fired = false)
    (hdue : (s.tout n).next ≤ s.devNs) (htq : s.fld F.TIME_STAT_TQ ≤ s.fld F.TIME_TOUT_CTRL_MIN_TQ n) {once : Bool}
    (hmode : s.fld F.TIME_TOUT_CTRL_MODE n = if once then toutOnce else toutPeriodic) (hlate : (once && (s.tout n).late) = false) :
    toutPulseStart s n = (s.setTout n { (s.tout n).past once false (max 1 (s.fld F.TIME_TOUT_PERIOD_VAL n)) with
      active := true, pulseEnd := some (s.time.tbc + s.fld F.TIME_TOUT_WIDTH_VAL n) }).count C.TIME_TOUT_PULSES n := by
  have honce : decide (s.fld F.TIME_TOUT_CTRL_MODE n = toutOnce) = once := by
    rw [hmode]
    cases once <;> rfl
  have hready : toutDue s n = true := by
    have hrun : (decide (s.fld F.TIME_TOUT_CTRL_MODE n = toutOnce) || decide (s.fld F.TIME_TOUT_CTRL_MODE n = toutPeriodic)) = true := by
      rw [hmode]
      cases once <;> rfl
    simp only [toutDue, hrun, hon, hwait, hn, hdue, decide_true, Bool.not_false, Bool.and_self]
  have hsupp : decide (s.fld F.TIME_TOUT_CTRL_MIN_TQ n < s.fld F.TIME_STAT_TQ) = false := decide_eq_false (Nat.not_lt.mpr htq)
  simp only [toutPulseStart, hready, hsupp, honce, hlate, Bool.not_true, Bool.false_eq_true, if_false]

theorem toutPulseEnd_of_due {e : Nat} (hend : (s.tout n).pulseEnd = some e) (hdue : e ≤ s.time.tbc) :
    toutPulseEnd s n = (s.setTout n { s.tout n with active := false, fired := false, pulseEnd := none }).setFlag F.TIME_TOUT_CTRL_ARM
      (s.flag F.TIME_TOUT_CTRL_ARM n && !(s.tout n).fired) n := by
  simp only [toutPulseEnd, hend, if_pos hdue]

end

/-! ## Captures (R80 to R82) -/

theorem moved_of_nat (st : Stamp) (d : Nat) : st.moved d = { st with t := st.t + d, tbc := st.tbc + d } := by
  simp only [Stamp.moved, ← Int.natCast_add, Int.toNat_natCast]

/-- A selected edge, neither close to the last nor without room, is captured. -/
theorem tinCapture_of_room {s : State} {n : Nat} {rising : Bool} {sub : Nat} {st : Stamp} (hn : n < 8)
    (hsel : bitOf (s.fld F.TIME_TIN_CTRL_EDGE n) (if rising then 0 else 1) = true) (hst : st = s.stamp.moved (sub % 65536 : Nat))
    (happart : ∀ l, (s.tin n).last = some l → l + 50 * 65536 < st.tbc) (hroom : (s.tin n).fifo.length < 16) :
    tinCapture s n rising sub
      = (s.setTin n { fifo := (s.tin n).fifo ++ [⟨st, rising⟩], last := some st.tbc }).count C.TIME_TIN_CAPTURED n := by
  have hfar : (match (s.tin n).last with | some l => decide (st.tbc ≤ l + 50 * 65536) | none => false) = false := by
    rcases hlast : (s.tin n).last with _ | l
    · rfl
    · exact decide_eq_false (Nat.not_le.mpr (happart l hlast))
  have hgate : (8 ≤ n || !bitOf (s.fld F.TIME_TIN_CTRL_EDGE n) (if rising then 0 else 1)) = false := by simp [hsel, hn]
  have hfull : decide (16 ≤ (s.tin n).fifo.length) = false := decide_eq_false (Nat.not_le.mpr hroom)
  rw [tinCapture, if_neg (ne_true_of_eq_false hgate), ← hst]
  exact if_neg (ne_true_of_eq_false ((Bool.or_eq_false_iff).mpr ⟨hfar, hfull⟩))

/-- Settles O15. -/
theorem pulsesAndCaptures : Obligations.PulsesAndCaptures := by
  intro s n hlive hn
  simp only [exec_toutArm, execToutArm, exec_toutPulseStart, execToutPulseStart, exec_toutPulseEnd, execToutPulseEnd, exec_tinCapture,
    execTinCapture, live_of_not_held hlive]
  refine ⟨?once, ?periodic, ?disarm, ?start, ?pulseEnd, ?capture⟩
  case once =>
    intro st hstart hoff hok hmode
    rw [toutArm_of_accepted hn hstart hoff hok, hmode]
    rfl
  case periodic =>
    intro st hstart hoff hok hmode
    obtain ⟨k, hnext, hle, hleast⟩ := nextInstant_spec (anchor := st) (t := s.devNs) (Nat.lt_of_lt_of_le Nat.one_pos (Nat.le_max_left 1 (s.fld F.TIME_TOUT_PERIOD_VAL n)))
    rw [toutArm_of_accepted hn hstart hoff hok, if_pos (show _ = toutPeriodic from hmode), hnext]
    exact ⟨k, rfl, hle, hleast⟩
  case disarm =>
    intro hon
    rw [toutArm_of_disarm hn hon]
  case start =>
    intro hon hwait hdue htq
    refine ⟨fun hmode hsame hpos => ?_, fun hmode hnew hpos => ?_, fun hmode hlate => ?_⟩
    · rw [toutPulseStart_of_due hn hon hwait hdue htq (once := false) hmode rfl, Nat.max_eq_right (by omega), past_of_same_period hsame]
    · rw [toutPulseStart_of_due hn hon hwait hdue htq (once := false) hmode rfl, Nat.max_eq_right hpos, past_of_new_period hnew]
    · rw [toutPulseStart_of_due hn hon hwait hdue htq (once := true) hmode hlate, past_of_once _ hlate]
  case pulseEnd =>
    intro e hend hdue
    rw [toutPulseEnd_of_due hend hdue]
  case capture =>
    intro rising sub st hsel hsub hst happart hroom
    have hmoved : st = s.stamp.moved (sub % 65536 : Nat) := by
      rw [Nat.mod_eq_of_lt hsub, moved_of_nat]
      exact hst
    rw [tinCapture_of_room hn hsel hmoved happart hroom]

end Sys2Proof.Machine
end

section
/-! PROOFS. The notice of a step and the AON seconds counter (R46, R54, R84, R556). -/

namespace Sys2Proof.Machine

theorem endStepCmd_of_step {s : State} {r : MbxRun} (hrun : sparseFind 2 s.mbx = some r) (hcmd : r.cmd = 2 ∨ r.cmd = 3) :
    endStepCmd s = s.mbxEnd 2 := by
  unfold endStepCmd
  rw [show sparseFind blkTime s.mbx = some r from hrun]
  exact if_pos (by simpa using hcmd)

theorem endStepCmd_of_other {s : State} (hother : ∀ r, sparseFind 2 s.mbx = some r → r.cmd ≠ 2 ∧ r.cmd ≠ 3) : endStepCmd s = s := by
  unfold endStepCmd
  rcases hrun : sparseFind blkTime s.mbx with _ | r
  · rfl
  · exact if_neg (by simpa using hother r hrun)

theorem stepNotice_of_waiting {s : State} {a : Int} {ep edge : Nat} {rest : List (Int × Nat × Nat)} (hwait : s.time.notices = (a, ep, edge) :: rest)
    (hafter : edge < s.time.sys) {b c : State} (hc : c = endStepCmd { s with time := { s.time with notices := rest } })
    (hb : b = ((c.count C.TIME_STEPS).event 2 0x0201 0 (unsigned 64 a / 2 ^ 32) (unsigned 64 a % 2 ^ 32) ep).setFlt F.TIME_FLT_STEPPED) :
    stepNotice s = drecStep (gooseStep (gateStep (fdcStep (tideStep (sviStep b (a * 65536) ep) (a * 65536)) (a * 65536)) a) a ep) a (a * 65536) := by
  rw [hb, hc]
  simp only [stepNotice, hwait, if_neg (Nat.not_le.mpr hafter)]
  rfl

theorem secIncrement_of_locked {s : State} (hdue : s.time.secDue = true) (hlocked : s.fld F.TIME_STAT_STATE = 2) :
    secIncrement s = { s with time := { s.time with secDue := false }, aon := { s.aon with sec := s.time.sec, frac := 0 } } := by
  simp only [secIncrement, hdue, Bool.not_true, Bool.false_eq_true, if_false]
  exact if_pos hlocked

/-- Settles O18: a command of the mailbox other than SET_ABS and STEP_REL goes on. -/
theorem stepNoticeAndSecondsOfAon : Obligations.StepNoticeAndSecondsOfAon := by
  intro s hlive
  simp only [exec_stepNotice, execStepNotice, exec_secIncrement, execSecIncrement, live_of_not_held hlive]
  refine ⟨fun a ep edge rest b c hwait hafter hother hstep hb => ?_, fun hdue hlocked => by rw [secIncrement_of_locked hdue hlocked]⟩
  have hc : c = endStepCmd { s with time := { s.time with notices := rest } } := by
    by_cases hcmd : ∃ r, sparseFind 2 s.mbx = some r ∧ (r.cmd = 2 ∨ r.cmd = 3)
    · obtain ⟨r, hrun, hcmd⟩ := hcmd
      exact (hstep r hrun hcmd).trans (endStepCmd_of_step (s := { s with time := { s.time with notices := rest } }) hrun hcmd).symm
    · have hnone : ∀ r, sparseFind 2 s.mbx = some r → r.cmd ≠ 2 ∧ r.cmd ≠ 3 := fun r hrun =>
        not_or.mp fun h => hcmd ⟨r, hrun, h⟩
      exact (hother hnone).trans (endStepCmd_of_other (s := { s with time := { s.time with notices := rest } }) hnone).symm
  rw [stepNotice_of_waiting hwait hafter hc hb]

end Sys2Proof.Machine
end

section
/-! PROOFS. Peer delay and the transparent clock (R60 to R62, R64 to R69). -/

namespace Sys2Proof.Machine

/-! ## Time-stamps -/

theorem openRound_congr {s t : State} (h : t.freeCtr = s.freeCtr) (n : Int) (d : Nat) : (t.openRound n d).1 = (s.openRound n d).1 := by
  unfold State.openRound State.takeFree
  rw [h]
  split <;> rfl

theorem stamp_congr {s t : State} (hregs : t.regs = s.regs) (htime : t.time = s.time) : t.stamp = s.stamp := by
  simp only [State.stamp, State.devNs, State.fld, hregs, htime]

theorem egressStamp_stamp (s : State) (p : Nat) :
    (egressStamp s p).1
      = s.stamp.moved ((s.takeFree.1 % 65536 : Nat) + (s.takeFree.2.openRound (s.sfld F.TIME_P_TXTRIM_TRIM p * 65536) 1000).1) :=
  congrArg (Stamp.moved · _) (stamp_congr (State.openRound_regs ..) (State.openRound_time ..))

/-- An egress time-stamp is of the time base, the board trim and the free values alone. -/
theorem egressStamp_congr {s t : State} (hregs : t.regs = s.regs) (htime : t.time = s.time) (hfree : t.freeCtr = s.freeCtr) (p : Nat) :
    (egressStamp t p).1 = (egressStamp s p).1 := by
  have hnext : t.takeFree.2.freeCtr = s.takeFree.2.freeCtr := congrArg (· + 1) hfree
  have hsub : t.takeFree.1 = s.takeFree.1 := congrArg Config.freeValue hfree
  simp only [egressStamp_stamp, stamp_congr hregs htime, hsub, openRound_congr hnext, State.sfld, fld_of_regs hregs]

theorem egressStamp_regs (s : State) (p : Nat) : (egressStamp s p).2.regs = s.regs := by
  simp [egressStamp, psUnits]

theorem egressStamp_time (s : State) (p : Nat) : (egressStamp s p).2.time = s.time := by
  simp [egressStamp, psUnits]

theorem egressStamp_port (s : State) (p : Nat) : (egressStamp s p).2.port = s.port := by
  simp [egressStamp, psUnits]

theorem egressStamp_cnts (s : State) (p : Nat) : (egressStamp s p).2.cnts = s.cnts := by
  simp [egressStamp, psUnits]

/-! ## Launching a frame -/

theorem ctr_countBy_apart (s : State) {c d : Ctr} (n i j : Nat) (h : d.off_ne c = true) : (s.countBy c n i).ctr d j = s.ctr d j := by
  unfold State.ctr
  rw [cnts_countBy]
  exact sparseGet_set_other _ _ _ (Ctr.off_ne_key h j i) _

section
variable (s : State) (p : Nat) (f : Frame) (x : Option SwCopy)

theorem launch_port : (launch s p f x).port
    = (s.setPortCh p { s.portCh p with txing := x, txEnd := s.time.sys + lineTime s p f.len, sent := some f, under := none, broken := [] }).port := by
  rw [launch, State.countBy_port, State.count_port]

theorem launch_time : (launch s p f x).time = s.time := by
  rw [launch, State.countBy_time, State.count_time]
  rfl

theorem portCh_launch : (launch s p f x).portCh p
    = { s.portCh p with txing := x, txEnd := s.time.sys + lineTime s p f.len, sent := some f, under := none, broken := [] } := by
  rw [State.portCh, launch_port]
  exact portCh_setPortCh_same s p _

theorem ptpPort_launch (q : Nat) : (launch s p f x).ptpPort q = s.ptpPort q := by rw [State.ptpPort, launch_time]; rfl

theorem launch_mem : (launch s p f x).mem = s.mem := (launch_kept (.refl s) p f x (Within.refl _)).mem (by decide)

theorem ctr_launch_apart {c : Ctr} (j : Nat) (hframes : c.off_ne C.PORT_P_TX_FRAMES = true) (hoctets : c.off_ne C.PORT_P_TX_OCTETS = true) :
    (launch s p f x).ctr c j = s.ctr c j := by
  rw [launch, ctr_countBy_apart _ _ _ _ hoctets, ctr_count_apart _ _ _ hframes]
  rfl

end

/-! ## Frames beside the queues -/

/-- A port that has taken a message to send from before its queues. -/
def oobTaken (s : State) (p : Nat) (x : OobMsg) : State :=
  (s.setPortCh p { s.portCh p with oob := [x] }).setPortCh p { s.portCh p with oob := [] }

/-- On an idle line a message that nothing waits before is launched at once. -/
theorem sendOob_of_idle {s : State} {p : Nat} (x : OobMsg) (hready : oobReady s p = true) (hempty : (s.portCh p).oob = [])
    (hidle : (s.portCh p).txEnd ≤ s.time.sys) : sendOob s p x = launchOob (oobTaken s p x) p x := by
  have hch : (s.setPortCh p { s.portCh p with oob := [x] }).portCh p = { s.portCh p with oob := [x] } := portCh_setPortCh_same s p _
  have hready' : oobReady (s.setPortCh p { s.portCh p with oob := [x] }) p = true := hready
  simp only [sendOob, hempty, List.nil_append, oobNext, hch, hready', Bool.not_true, Bool.false_eq_true, if_false]
  exact if_neg (Nat.not_lt.mpr hidle)

section
variable {s a : State} (p : Nat)

theorem pdelayFrame_congr (h : a.regs = s.regs) (m : PtpMsg) : pdelayFrame a p m = pdelayFrame s p m := by
  simp only [pdelayFrame, portSa, flag_of_regs h, fld_of_regs h]

theorem portId_congr (h : a.regs = s.regs) : portId a p = portId s p := by
  simp only [portId, portSa, fld_of_regs h]

theorem launchOob_pdReq (m : PtpMsg) :
    launchOob s p (.pdReq m) = launch (((egressStamp s p).2.setPtpPort p { s.ptpPort p with outstanding := some (m.seq, (egressStamp s p).1) }).count
      C.TIME_P_PDREQ_TX p) p (pdelayFrame s p m) none := by
  have hport : (egressStamp s p).2.ptpPort p = s.ptpPort p := by rw [State.ptpPort, egressStamp_time]; rfl
  simp only [launchOob, hport, pdelayFrame_congr p (egressStamp_regs s p)]

theorem launchOob_pdResp_of_one_step (m : PtpMsg) (rx : Stamp) (hone : s.flag F.TIME_P_CTRL_RESP_TWO_STEP p = false) :
    launchOob s p (.pdResp m rx) = launch (egressStamp s p).2 p (pdelayFrame s p { m with
      msgType := 3, twoStep := false, corr := m.corr + (((egressStamp s p).1.tbc : Int) - (rx.tbc : Int)), srcId := portId s p, tsSec := 0, tsNs := 0
      reqId := m.srcId, rest := [] }) none := by
  have hregs := egressStamp_regs s p
  have htwo : (egressStamp s p).2.flag F.TIME_P_CTRL_RESP_TWO_STEP p = false := (flag_of_regs hregs _ _).trans hone
  simp only [launchOob, pdelayAnswer, htwo, Bool.false_eq_true, if_false, pdelayFrame_congr p hregs, portId_congr p hregs]
  rfl

/-- A request leaves as it is, is counted, and is remembered with the time-stamp of its launch (R61). -/
theorem launchOob_pdReq_spec (m : PtpMsg) :
    ((launchOob s p (.pdReq m)).portCh p).sent = some (pdelayFrame s p m)
      ∧ ((launchOob s p (.pdReq m)).ptpPort p).outstanding = some (m.seq, (egressStamp s p).1)
      ∧ (launchOob s p (.pdReq m)).ctr C.TIME_P_PDREQ_TX p = min ctrMax (s.ctr C.TIME_P_PDREQ_TX p + 1) := by
  rw [launchOob_pdReq]
  refine ⟨by rw [portCh_launch], ?_, ?_⟩
  · rw [ptpPort_launch, State.ptpPort, State.count_time]
    exact congrArg PtpPort.outstanding (ptpPort_setPtpPort_same _ p _)
  · rw [ctr_launch_apart _ _ _ _ _ (by decide) (by decide), ctr_count_same]
    simp only [State.ctr, State.setPtpPort, egressStamp_cnts]

end

/-! ## Requests and answers (R60, R61) -/

section
variable {s : State} {p : Nat} (hp : p < 8) (hon : s.flag F.TIME_P_CTRL_PDELAY_EN p = true)
include hp hon

theorem pdelayReqRx_of_ready (hready : oobReady s p = true) {m : PtpMsg} (rx : Stamp) (htype : m.msgType = 2) :
    pdelayReqRx s p m rx = sendOob (ingressStamp s p rx).2 p (.pdResp m (ingressStamp s p rx).1) := by
  simp [pdelayReqRx, portCount, Nat.not_le.mpr hp, hon, hready, htype, ptpPdelayReq]

/-- A request's own message. -/
theorem pdelayReqTx_of_first (hready : oobReady s p = true) (hnever : (s.ptpPort p).nextReq = none) (hinvalid : s.flag F.TIME_P_STAT_PD_VALID p = false) :
    pdelayReqTx s p = sendOob (s.setPtpPort p { s.ptpPort p with
      noMeas := min 3 ((s.ptpPort p).noMeas + 1), seq := ((s.ptpPort p).seq + 1) % 65536, outstanding := none
      nextReq := some (s.time.tbc + logSeconds 1 (s.sfld F.TIME_P_CTRL_LOG_PDELAY p)) }) p (.pdReq {
        msgType := 2, domain := s.fld F.TIME_CTRL_DOMAIN, twoStep := false, corr := 0, srcId := portId s p
        seq := ((s.ptpPort p).seq + 1) % 65536, tsSec := 0, tsNs := 0, reqId := 0, rest := [] }) := by
  simp only [pdelayReqTx, portCount, Nat.not_le.mpr hp, hon, hready, hnever, hinvalid, Option.any_none, decide_false, Bool.not_true, Bool.or_false,
    Bool.and_false, Bool.false_eq_true, if_false]
  rfl

/-! ## A measurement (R61, R62) -/

/-- A response in range to the request outstanding is the first measurement of a new mean. -/
theorem pdelayRespRx_of_first {m : PtpMsg} {rx t1 : Stamp} {d trim mean : Int} {c a b : State} (htype : m.msgType = 3) (hone : m.twoStep = false)
    (hout : (s.ptpPort p).outstanding = some (m.seq, t1)) (hreq : m.reqId = portId s p) (hc : c = s.count C.TIME_P_PDRESP_RX p)
    (hroom : s.ctr C.TIME_P_PDRESP_RX p < ctrMax) (htrim : c.openRound (s.sfld F.TIME_P_RXTRIM_TRIM p * 65536) 1000 = (trim, a))
    (hmean : a.openRound d 8192 = (mean, b)) (hd : d = ((rx.moved trim).t : Int) - (t1.t : Int) - m.corr) (hpos : 0 ≤ d)
    (hmax : d ≤ (s.fld F.TIME_P_CTRL_PDELAY_MAX p : Int) * 131072) (hep : rx.epoch = t1.epoch) (hinvalid : s.flag F.TIME_P_STAT_PD_VALID p = false) :
    pdelayRespRx s p m rx none = ((b.setPtpPort p { s.ptpPort p with meas := [d], noMeas := 0, outstanding := none }).setFld
      F.TIME_P_MLD_MLD mean.toNat p).setFlag F.TIME_P_STAT_PD_VALID true p := by
  have hregs : c.regs = s.regs := by rw [hc]; exact countBy_regs_of_le hroom
  have hport : c.ptpPort p = s.ptpPort p := by rw [hc, State.ptpPort, State.count_time]; rfl
  have hregsA : a.regs = s.regs := by
    have h := State.openRound_regs c (s.sfld F.TIME_P_RXTRIM_TRIM p * 65536) 1000
    rw [htrim] at h
    exact h.trans hregs
  have hstamp : ingressStamp c p rx = (rx.moved trim, a) := by
    rw [ingressStamp, psUnits, show c.sfld F.TIME_P_RXTRIM_TRIM p = s.sfld F.TIME_P_RXTRIM_TRIM p from congrArg (signed _) (fld_of_regs hregs _ _), htrim]
  have hmeasure : pdelayMeasure t1 (rx.moved trim) m none = some d := by rw [pdelayMeasure, hone, hd]; rfl
  have hgate : (decide (portCount ≤ p) || !s.flag F.TIME_P_CTRL_PDELAY_EN p || decide (m.msgType ≠ ptpPdelayResp)) = false := by
    simp [portCount, Nat.not_le.mpr hp, hon, htype, ptpPdelayResp]
  have hour : (decide (m.seq ≠ m.seq) || decide (m.reqId ≠ portId c p)) = false := by simp [portId_congr p hregs, hreq]
  have hrange : (decide (d < 0) || decide ((a.fld F.TIME_P_CTRL_PDELAY_MAX p : Int) * 131072 < d) || decide ((rx.moved trim).epoch ≠ t1.epoch))
      = false := by
    simp [fld_of_regs hregsA, hpos, hmax, Stamp.moved, hep]
  have hnew : a.flag F.TIME_P_STAT_PD_VALID p = false := (flag_of_regs hregsA _ _).trans hinvalid
  have hsum : intSum [d] = d := Int.zero_add d
  rw [pdelayRespRx, if_neg (ne_true_of_eq_false hgate), ← hc]
  simp only [hport, hout, hour, Bool.false_eq_true, if_false, hstamp, hmeasure, hrange, hnew, List.take_succ_cons, List.take_nil, hsum,
    List.length_singleton, Nat.one_mul, hmean]

end

/-- Settles O19. -/
theorem peerDelayMeasured : Obligations.PeerDelayMeasured := by
  intro s p hlive hp hon
  simp only [exec_pdelayReqRx, execPdelayReqRx, exec_pdelayReqTx, execPdelayReqTx, exec_pdelayRespRx, execPdelayRespRx, live_of_not_held hlive]
  refine ⟨fun hready m rx htype => by rw [pdelayReqRx_of_ready hp hon hready rx htype],
    fun hready hnever hinvalid => by rw [pdelayReqTx_of_first hp hon hready hnever hinvalid], ?response, ?launched⟩
  case response =>
    intro m rx t1 d c trim a mean b htype hone hout hreq hc hroom htrim hmean hd hpos hmax hep hinvalid
    rw [pdelayRespRx_of_first hp hon htype hone hout hreq hc hroom htrim hmean hd hpos hmax hep hinvalid]
  case launched =>
    intro hready hempty hidle tx htx
    refine ⟨fun hone m rx => ?_, fun m => ?_⟩
    · rw [sendOob_of_idle _ hready hempty hidle, launchOob_pdResp_of_one_step (s := oobTaken s p (.pdResp m rx)) p m rx hone, portCh_launch, htx,
        egressStamp_congr (s := s) (t := oobTaken s p (.pdResp m rx)) rfl rfl rfl]
      rfl
    · rw [sendOob_of_idle _ hready hempty hidle, htx, ← egressStamp_congr (s := s) (t := oobTaken s p (.pdReq m)) rfl rfl rfl]
      exact launchOob_pdReq_spec p m

/-! ## The transparent clock (R64 to R69) -/

theorem syncCorrection_time (s : State) (p i : Nat) (rx : Stamp) : (syncCorrection s p i rx).2.time = s.time :=
  (syncCorrection_kept (.refl s) p i rx (Within.refl _)).time (by decide)

theorem addCorr_fst (s : State) (p : Nat) (m : PtpMsg) (c : Int) : (addCorr s p m c).1 = { m with corr := min (2 ^ 63 - 1) (m.corr + c) } := by
  unfold addCorr corrMax
  split
  case isTrue h => rw [Int.min_eq_left (Int.le_of_lt h)]
  case isFalse h => rw [Int.min_eq_right (Int.not_lt.mp h)]

theorem addCorr_time (s : State) (p : Nat) (m : PtpMsg) (c : Int) : (addCorr s p m c).2.time = s.time := by
  unfold addCorr
  split
  · exact State.count_time _ _ _
  · rfl

theorem egressPtp_of_one_step (s : State) (p : Nat) (x : SwCopy) {m : PtpMsg} (htype : m.msgType = 0) (hone : m.twoStep = false) :
    (egressPtp s p x m).1 = { m with corr := min (2 ^ 63 - 1) (m.corr + (syncCorrection s p x.inPort x.stamp).1) } := by
  have hsync : (decide (m.msgType = ptpSync) && !m.twoStep) = true := by simp [htype, hone, ptpSync]
  rw [egressPtp, if_pos hsync]
  exact addCorr_fst _ _ _ _

/-- A two-step Sync leaves as it came; its record takes the place of an older one of its key (R68). -/
theorem egressPtp_of_two_step (s : State) (p : Nat) (x : SwCopy) {m : PtpMsg} (htype : m.msgType = 0) (htwo : m.twoStep = true)
    (hroom : (s.ptpPort p).recs.length < 32) {r : CorrRec}
    (hr : r = { ingress := x.inPort, domain := m.domain, srcId := m.srcId, seq := m.seq, corr := (syncCorrection s p x.inPort x.stamp).1
                syncTbc := x.stamp.tbc / 65536 }) :
    (egressPtp s p x m).1 = m ∧ ((egressPtp s p x m).2.ptpPort p).recs = (s.ptpPort p).recs.filter (fun e => !e.sameKey r) ++ [r] := by
  have hport : (syncCorrection s p x.inPort x.stamp).2.ptpPort p = s.ptpPort p := by rw [State.ptpPort, syncCorrection_time]; rfl
  have hcount : ((s.ptpPort p).recs.filter fun e => !e.sameKey r).length < 32 := Nat.lt_of_le_of_lt (List.length_filter_le _ _) hroom
  have hegress : egressPtp s p x m = (m, recordCorr (syncCorrection s p x.inPort x.stamp).2 p r) := by
    simp [egressPtp, htype, htwo, ptpSync, hr]
  rw [hegress]
  refine ⟨rfl, ?_⟩
  simp only [recordCorr, hport, if_pos hcount, ptpPort_setPtpPort_same]

/-- A Follow_Up takes the one correction recorded for it away (R69). -/
theorem egressPtp_of_follow_up (s : State) (p : Nat) (x : SwCopy) {m : PtpMsg} (htype : m.msgType = 8) {r : CorrRec} (hrecs : (s.ptpPort p).recs = [r])
    (hmatch : corrMatches x.inPort m r = true) (hin : x.stamp.tbc / 65536 ≤ r.syncTbc + fuLimit) :
    (egressPtp s p x m).1 = { m with corr := min (2 ^ 63 - 1) (m.corr + r.corr) } ∧ ((egressPtp s p x m).2.ptpPort p).recs = [] := by
  have hegress : egressPtp s p x m
      = ((addCorr (s.setPtpPort p { s.ptpPort p with recs := [] }) p m r.corr).1,
        (addCorr (s.setPtpPort p { s.ptpPort p with recs := [] }) p m r.corr).2.count C.TIME_P_FU_CORR p) := by
    simp [egressPtp, htype, ptpSync, ptpFollowUp, hrecs, hmatch, Nat.not_lt.mpr hin]
  rw [hegress]
  refine ⟨addCorr_fst _ _ _ _, ?_⟩
  rw [State.ptpPort, State.count_time, addCorr_time]
  exact congrArg PtpPort.recs (ptpPort_setPtpPort_same s p _)

section
variable {s : State} {p : Nat} {x : SwCopy} {m : PtpMsg} (hfifo : (s.portCh p).fifo = some x) (hptp : ptpOf x.frame = some m)
  (htc : s.flag F.TIME_P_CTRL_TC_EN p = true) (hin : x.inPort < 8) (hidle : (s.portCh p).txEnd ≤ s.time.sys)
include hfifo hptp htc hin hidle

/-- A port's FIFO once the frame in it has been taken. -/
def fifoTaken (s : State) (p : Nat) : State := s.setPortCh p { s.portCh p with fifo := none }

/-- A PTP message of the kind asked for leaves as the transparent clock makes it. -/
theorem startPtp_launches {kind : PtpMsg → Bool} (hkind : kind m = true) :
    startPtp s p kind
      = launch (egressPtp (fifoTaken s p) p x m).2 p { x.frame with payload := .ptp (egressPtp (fifoTaken s p) p x m).1 } (some x) := by
  have hlevel : startLevel s p x.frame.len ≤ x.frame.len := by
    unfold startLevel
    dsimp only
    split
    · exact Nat.le_refl _
    · exact Nat.min_le_left _ _
  have hgate : (decide (s.time.sys < (s.portCh p).txEnd) || decide (x.frame.len < startLevel s p x.frame.len)) = false := by
    simp [hidle, hlevel]
  have hegress : egressFrame (fifoTaken s p) p x
      = ({ x.frame with payload := .ptp (egressPtp (fifoTaken s p) p x m).1 }, (egressPtp (fifoTaken s p) p x m).2) := by
    have hacts : ((fifoTaken s p).flag F.TIME_P_CTRL_TC_EN p && decide (x.inPort < 8)) = true := by
      rw [show (fifoTaken s p).flag F.TIME_P_CTRL_TC_EN p = true from htc, decide_eq_true hin]
      rfl
    simp only [egressFrame, hptp, hacts, if_true]
  have hstart : startPtp s p kind = macTxStart s p x.frame.len := by simp only [startPtp, hfifo, hptp, hkind, htc, Bool.and_self, if_true]
  rw [hstart, macTxStart]
  simp only [hfifo, hgate, Bool.false_eq_true, if_false]
  rw [show s.setPortCh p { s.portCh p with fifo := none } = fifoTaken s p from rfl, hegress]

/-- What the port shows of it: the frame sent and an empty FIFO; memory is as it was. -/
theorem startPtp_spec {kind : PtpMsg → Bool} (hkind : kind m = true) :
    ((startPtp s p kind).portCh p).sent = some { x.frame with payload := .ptp (egressPtp (fifoTaken s p) p x m).1 }
      ∧ ((startPtp s p kind).ptpPort p).recs = ((egressPtp (fifoTaken s p) p x m).2.ptpPort p).recs
      ∧ ((startPtp s p kind).portCh p).fifo = none ∧ (startPtp s p kind).mem = s.mem := by
  have hkept := egressPtp_kept (.refl (fifoTaken s p)) p x m (Within.refl _)
  have hport : (egressPtp (fifoTaken s p) p x m).2.portCh p = { s.portCh p with fifo := none } := by
    rw [State.portCh, show (egressPtp (fifoTaken s p) p x m).2.port = (fifoTaken s p).port from hkept.same .port (by decide)]
    exact portCh_setPortCh_same s p _
  rw [startPtp_launches hfifo hptp htc hin hidle hkind, portCh_launch, hport, ptpPort_launch, launch_mem]
  exact ⟨rfl, rfl, rfl, hkept.mem (by decide)⟩

end

theorem frame_of_ptpOf {f : Frame} {m : PtpMsg} (h : ptpOf f = some m) : { f with payload := .ptp m } = f := by
  unfold ptpOf at h
  split at h
  case h_1 hpay =>
    split at h
    · obtain rfl := Option.some.inj h
      rw [← hpay]
    · exact absurd h (by simp)
  case h_2 => exact absurd h (by simp)

/-- Settles O20. -/
theorem transparentClock : Obligations.TransparentClock := by
  intro s p x m hlive hfifo hptp htc hin hidle
  simp only [exec_syncEgressCorrect, execSyncEgressCorrect, exec_twoStepSyncRecord, execTwoStepSyncRecord, exec_followUpEgress, execFollowUpEgress,
    live_of_not_held hlive]
  refine ⟨fun htype hone => ?_, fun htype htwo hroom => ?_, fun htype r hrecs hingress hdomain hsrc hseq hin100 => ?_⟩
  · obtain ⟨hsent, -, hempty, hmem⟩ := startPtp_spec hfifo hptp htc hin hidle (kind := fun m => decide (m.msgType = ptpSync) && !m.twoStep)
      (by simp [htype, hone, ptpSync])
    rw [egressPtp_of_one_step _ p x htype hone] at hsent
    exact ⟨_, _, rfl, rfl, hsent, hempty, hmem⟩
  · obtain ⟨hsent, hrecs, hempty, hmem⟩ := startPtp_spec hfifo hptp htc hin hidle (kind := fun m => decide (m.msgType = ptpSync) && m.twoStep)
      (by simp [htype, htwo, ptpSync])
    obtain ⟨hsame, hrecord⟩ := egressPtp_of_two_step (fifoTaken s p) p x htype htwo hroom rfl
    rw [hsame, frame_of_ptpOf hptp] at hsent
    exact ⟨_, _, _, rfl, rfl, hsent, rfl, hrecs.trans hrecord, hempty, hmem⟩
  · obtain ⟨hsent, hleft, hempty, hmem⟩ := startPtp_spec hfifo hptp htc hin hidle (kind := fun m => decide (m.msgType = ptpFollowUp))
      (by simp [htype, ptpFollowUp])
    obtain ⟨hcorr, hgone⟩ := egressPtp_of_follow_up (fifoTaken s p) p x htype hrecs (by simp [corrMatches, hingress, hdomain, hsrc, hseq]) hin100
    rw [hcorr] at hsent
    exact ⟨_, rfl, hsent, hleft.trans hgone, hempty, hmem⟩

end Sys2Proof.Machine
end

section
/-! PROOFS. The angle groups: windows on the extended angle, the enable and disable of a group, and the TIDE mailbox (R87, R88, R95, R96, R103, R109, R116). -/

namespace Sys2Proof.Machine

/-! ## Windows (R88) -/

theorem wpc_pos (s : State) (g : Nat) : 0 < wpc s g := Nat.mul_pos (by decide) (Nat.two_pow_pos _)

/-- A window's first angle is the least whose product with W reaches the window's place. -/
theorem winAngle_le_iff {w : Nat} (hw : 0 < w) (n x : Nat) : winAngle w n ≤ x ↔ n * 2 ^ 32 ≤ x * w := by
  rw [winAngle, Nat.div_le_iff_le_mul_add_pred hw, Nat.mul_comm w x]
  omega

theorem winOf_eq_iff {w : Nat} (hw : 0 < w) (x n : Nat) : winOf w x = n ↔ winAngle w n ≤ x ∧ x < winAngle w (n + 1) := by
  rw [winAngle_le_iff hw, ← Nat.not_le, winAngle_le_iff hw, winOf]
  omega

theorem winAngle_bounds {w : Nat} (hw : 0 < w) (n : Nat) : n * 2 ^ 32 ≤ winAngle w n * w ∧ winAngle w n * w < n * 2 ^ 32 + w := by
  refine ⟨(winAngle_le_iff hw n _).mp (Nat.le_refl _), ?_⟩
  have h : winAngle w n * w ≤ n * 2 ^ 32 + w - 1 := Nat.div_mul_le_self _ _
  omega

/-- Settles O22. -/
theorem windowNumberAndBoundary : Obligations.WindowNumberAndBoundary := by
  intro s g
  have hw := wpc_pos s g
  refine ⟨fun h => ?_, fun h => ?_, fun h => ?_, fun h => ?_, fun x n => ⟨winOf_eq_iff hw x n, winAngle_bounds hw n⟩⟩ <;> rw [wpc, h] <;> rfl

/-! ## One bit of a field -/

theorem and_two_pow_eq_ite (x k : Nat) : x &&& 2 ^ k = if x.testBit k then 2 ^ k else 0 := by
  refine Nat.eq_of_testBit_eq fun j => ?_
  rw [Nat.testBit_and, Nat.testBit_two_pow]
  by_cases hj : k = j
  · subst hj
    cases x.testBit k <;> simp
  · cases x.testBit k <;> simp [hj]

theorem fbit_setFbit_same (s : State) (f : Fld) {k : Nat} (b : Bool) (i : Nat) (hk : k < f.width) : (s.setFbit f k b i).fbit f k i = b := by
  rw [State.fbit, State.setFbit, fld_setFld_same, bitOf, Nat.testBit_mod_two_pow, decide_eq_true hk, Bool.true_and]
  cases b with
  | true => simp
  | false =>
    rcases hbit : (s.fld f i).testBit k with _ | _
    · have hzero : s.fld f i &&& 2 ^ k = 0 := by rw [and_two_pow_eq_ite, hbit, if_neg Bool.false_ne_true]
      simp [hzero, hbit]
    · have hone : s.fld f i &&& 2 ^ k = 2 ^ k * 1 := by rw [and_two_pow_eq_ite, hbit, if_pos rfl, Nat.mul_one]
      rw [Nat.testBit_eq_decide_div_mod_eq, decide_eq_true_eq] at hbit
      simp only [Bool.false_eq_true, if_false, hone, Nat.testBit_eq_decide_div_mod_eq, Nat.sub_mul_div, decide_eq_false_iff_not]
      omega

theorem fbit_of_fld {s t : State} {f : Fld} {i : Nat} (h : t.fld f i = s.fld f i) (k : Nat) : t.fbit f k i = s.fbit f k i := by
  rw [State.fbit, h]
  rfl

/-! ## The entry of a group into a state (R104) -/

section
variable (s : State) (g : Nat)

theorem grpEnter_of_same {new : Nat} (e : Bool) (h : grpState s g = new) : grpEnter s g new e = s := if_pos h

theorem grpEnter_freerun_of_enable (h : grpState s g ≠ gtFreerun) :
    grpEnter s g gtFreerun true
      = ((s.setFld F.TIDE_G_STAT_STATE gtFreerun g).event blkTide 0x0301 0 g (grpState s g) gtFreerun).count C.TIDE_G_FREERUNS g := by
  rw [grpEnter, if_neg h]
  rfl

theorem grpEnter_off_of_on (h : grpState s g ≠ gtOff) :
    grpEnter s g gtOff false = (s.setFld F.TIDE_G_STAT_STATE gtOff g).event blkTide 0x0301 0 g (grpState s g) gtOff := by
  rw [grpEnter, if_neg h]
  rfl

theorem grpState_setFld_event {new : Nat} (hnew : new < 8) (blk code part p0 p1 p2 : Nat) :
    grpState ((s.setFld F.TIDE_G_STAT_STATE new g).event blk code part p0 p1 p2) g = new := by
  rw [grpState, fld_event_apart _ _ _ _ _ _ _ _ (by decide), fld_setFld_same]
  exact Nat.mod_eq_of_lt hnew

theorem grpEn_setFld_event (new : Nat) (blk code part p0 p1 p2 : Nat) :
    grpEn ((s.setFld F.TIDE_G_STAT_STATE new g).event blk code part p0 p1 p2) g = grpEn s g :=
  fbit_of_fld (by rw [fld_event_apart _ _ _ _ _ _ _ _ (by decide), fld_setFld_apart _ _ _ _ (by decide)]) g

/-- The entry of an enabled group into FREERUN is counted (R103, R104). -/
theorem grpEnter_freerun_spec (h : grpState s g ≠ gtFreerun) :
    grpState (grpEnter s g gtFreerun true) g = gtFreerun ∧ grpEn (grpEnter s g gtFreerun true) g = grpEn s g
      ∧ (grpEnter s g gtFreerun true).ctr C.TIDE_G_FREERUNS g = min ctrMax (s.ctr C.TIDE_G_FREERUNS g + 1) := by
  rw [grpEnter_freerun_of_enable s g h]
  refine ⟨?_, ?_, ?_⟩
  · rw [grpState, fld_count_apart _ _ _ (by decide)]
    exact grpState_setFld_event s g (by decide) _ _ _ _ _ _
  · exact (fbit_of_fld (fld_count_apart _ _ _ (by decide)) g).trans (grpEn_setFld_event s g _ _ _ _ _ _ _)
  · rw [ctr_count_same, ctr_event_apart _ _ _ _ _ _ _ _ (by decide)]
    rfl

theorem grpEnter_off_spec : grpState (grpEnter s g gtOff false) g = gtOff ∧ grpEn (grpEnter s g gtOff false) g = grpEn s g := by
  by_cases h : grpState s g = gtOff
  · rw [grpEnter_of_same s g false h]
    exact ⟨h, rfl⟩
  · rw [grpEnter_off_of_on s g h]
    exact ⟨grpState_setFld_event s g (by decide) _ _ _ _ _ _, grpEn_setFld_event s g _ _ _ _ _ _ _⟩

end

/-! ## Enable (R87, R103, R109) -/

/-- The pairs that start the tables of a group change in their own status alone. -/
theorem fld_startTables_apart (s : State) (g : Nat) {f : Fld} (j : Nat) (htab : f.apart F.TIDE_P_STAT_TABLE = true)
    (hrun : f.apart F.TIDE_P_STAT_RUN = true) : (startTables s g).fld f j = s.fld f j := by
  unfold startTables
  induction groupTables s g generalizing s with
  | nil => rfl
  | cons n l ih =>
    rw [List.foldl_cons, ih]
    split
    · exact fld_setFld_apart _ _ _ _ hrun
    · split
      · rfl
      · exact (fld_setFld_apart _ _ _ _ hrun).trans (fld_setFld_apart _ _ _ _ htab)

/-- The next run of each partition of a group is a first one (R196). -/
def firstRuns (s : State) (g : Nat) : State :=
  (groupSlots s g).foldl (fun s (n, j) => s.setLpart (slotPart s n j) { s.lpart (slotPart s n j) with first := max 1 (s.lpart (slotPart s n j)).first }) s

/-- What an enabled group shows before its first evaluation. -/
def shownFresh (s : State) (g : Nat) : State :=
  (((((((s.setFld F.TIDE_G_STAT_LOSS_CAUSE 0 g).setFlag F.TIDE_G_STAT_FORCED false g).setFlag F.TIDE_G_STAT_ARMED false g).setFlag
    F.TIDE_G_STAT_REF_OK false g).setFlag F.TIDE_G_STAT_FCLAMP false g).setFld F.TIDE_G_PHERR_VAL notAvail g).setFld F.TIDE_G_ROCOF_VAL notAvail
      g).setFld F.TIDE_G_FAVG_VAL notAvail g

def shownFlds : List Fld :=
  [F.TIDE_G_STAT_LOSS_CAUSE, F.TIDE_G_STAT_FORCED, F.TIDE_G_STAT_ARMED, F.TIDE_G_STAT_REF_OK, F.TIDE_G_STAT_FCLAMP, F.TIDE_G_PHERR_VAL,
   F.TIDE_G_ROCOF_VAL, F.TIDE_G_FAVG_VAL]

theorem fld_shownFresh_apart (s : State) (g : Nat) {f : Fld} (j : Nat) (h : shownFlds.all f.apart = true) :
    (shownFresh s g).fld f j = s.fld f j := by
  simp only [shownFlds, List.all_cons, List.all_nil, Bool.and_true, Bool.and_eq_true] at h
  obtain ⟨hcause, hforced, harmed, hok, hclamp, hpherr, hrocof, hfavg⟩ := h
  simp only [shownFresh, fld_setFlag_apart _ _ _ _ hforced, fld_setFlag_apart _ _ _ _ harmed, fld_setFlag_apart _ _ _ _ hok,
    fld_setFlag_apart _ _ _ _ hclamp, fld_setFld_apart _ _ _ _ hcause, fld_setFld_apart _ _ _ _ hpherr, fld_setFld_apart _ _ _ _ hrocof,
    fld_setFld_apart _ _ _ _ hfavg]

/-- A group whose enable has been accepted, with its map at X = 0 now. -/
def groupOpened (s : State) (g : Nat) : State :=
  (s.setFbit F.TIDE_CTRL_GEN g true).setGrp g { TideGrp.reset with b := s.devT, cur := (s.grp g).cur, stopping := (s.grp g).cur.isSome }

/-- An enabled group as it enters FREERUN. -/
def groupBegun (s : State) (g : Nat) : State := shownFresh (fdcGroupOn (releasesRestart (startTables (firstRuns (groupOpened s g) g) g) g) g) g

section
variable {s : State} {g : Nat}

theorem groupEnable_of_accepted (hg : g < 8) (hoff : grpEn s g = false) (hrec : s.recovering = false) (hok : enableRefused s g = false) :
    groupEnable s g = joinSettle (grpEnter (groupBegun s g) g gtFreerun true) := by
  have hgate : (decide (8 ≤ g) || grpEn s g || s.recovering) = false := by simp [hg, hoff, hrec]
  rw [groupEnable, if_neg (ne_true_of_eq_false hgate), if_neg (ne_true_of_eq_false hok)]
  rfl

theorem groupEnable_of_refused (hg : g < 8) (hoff : grpEn s g = false) (hrec : s.recovering = false) (hbad : enableRefused s g = true) :
    groupEnable s g = enableRefuse s g := by
  have hgate : (decide (8 ≤ g) || grpEn s g || s.recovering) = false := by simp [hg, hoff, hrec]
  rw [groupEnable, if_neg (ne_true_of_eq_false hgate), if_pos hbad]

variable (s g)

theorem firstRuns_kept {μ : Nat} {s₀ : State} (hs : Kept μ s₀ s) (hm : Within 0x100 μ) : Kept μ s₀ (firstRuns s g) := by
  unfold firstRuns
  exact Kept.foldl hs (fun _ _ h => State_setLpart_kept h _ _ hm) _

/-- What opens with a group beside its map: lanes, streams, channels of the filter chain and its own registers. -/
theorem groupBegun_kept {μ : Nat} {s₀ : State} (hs : Kept μ s₀ (groupOpened s g)) (hm : Within 0x800001900 μ) : Kept μ s₀ (groupBegun s g) := by
  have hrun := fdcGroupOn_kept (releasesRestart_kept (startTables_kept (firstRuns_kept _ g hs (hm.sub rfl)) g (hm.sub rfl)) g (hm.sub rfl)) g (hm.sub rfl)
  have hfld {t : State} (h : Kept μ s₀ t) (v : Nat) {f : Fld} (hf : blkBits f.blk = blkBits 3) : Kept μ s₀ (t.setFld f v g) :=
    Kept.setFld h _ _ _ (by rw [hf]; exact hm.sub rfl)
  unfold groupBegun shownFresh
  exact hfld (hfld (hfld (hfld (hfld (hfld (hfld (hfld hrun _ rfl) _ rfl) _ rfl) _ rfl) _ rfl) _ rfl) _ rfl) _ rfl

theorem regs_firstRuns : (firstRuns s g).regs = s.regs := by
  unfold firstRuns
  induction groupSlots s g generalizing s with
  | nil => rfl
  | cons nj l ih =>
    rw [List.foldl_cons, ih]
    rfl

theorem fld_releasesRestart_apart {f : Fld} (j : Nat) (hblk : f.blk = 3) : (releasesRestart s g).fld f j = s.fld f j :=
  (releasesRestart_kept (.refl s) g (Within.refl _)).fld (by rw [hblk]; decide)

theorem fld_fdcGroupOn_apart {f : Fld} (j : Nat) (hblk : f.blk = 3) : (fdcGroupOn s g).fld f j = s.fld f j :=
  (fdcGroupOn_kept (.refl s) g (Within.refl _)).fld (by rw [hblk]; decide)

/-- Tide's registers but for those that the tables' pairs and the group show. -/
theorem fld_groupBegun_apart {f : Fld} (j : Nat) (hblk : f.blk = 3) (htab : f.apart F.TIDE_P_STAT_TABLE = true)
    (hrun : f.apart F.TIDE_P_STAT_RUN = true) (hshown : shownFlds.all f.apart = true) :
    (groupBegun s g).fld f j = (s.setFbit F.TIDE_CTRL_GEN g true).fld f j :=
  calc (groupBegun s g).fld f j
      = (fdcGroupOn (releasesRestart (startTables (firstRuns (groupOpened s g) g) g) g) g).fld f j := fld_shownFresh_apart _ g j hshown
    _ = (releasesRestart (startTables (firstRuns (groupOpened s g) g) g) g).fld f j := fld_fdcGroupOn_apart _ g j hblk
    _ = (startTables (firstRuns (groupOpened s g) g) g).fld f j := fld_releasesRestart_apart _ g j hblk
    _ = (firstRuns (groupOpened s g) g).fld f j := fld_startTables_apart _ g j htab hrun
    _ = (groupOpened s g).fld f j := fld_of_regs (regs_firstRuns _ g) f j
    _ = (s.setFbit F.TIDE_CTRL_GEN g true).fld f j := fld_of_regs (State.setGrp_regs _ g _) f j

theorem groupBegun_spec (hg : g < 8) : grpState (groupBegun s g) g = grpState s g ∧ grpEn (groupBegun s g) g = true
    ∧ (groupBegun s g).ctr C.TIDE_G_FREERUNS g = s.ctr C.TIDE_G_FREERUNS g := by
  refine ⟨?_, ?_, ((groupBegun_kept s g (.refl _) (Within.refl _)).ctr (by decide)).trans rfl⟩
  · rw [grpState, fld_groupBegun_apart s g g rfl (by decide) (by decide) (by decide), fld_setFbit_apart _ _ _ _ _ (by decide)]
    rfl
  · exact (fbit_of_fld (fld_groupBegun_apart s g 0 rfl (by decide) (by decide) (by decide)) g).trans (fbit_setFbit_same s _ true 0 hg)

/-- The map of a group whose enable has been accepted (R87): X is 0 at the present device time, which stands. -/
theorem groupEnable_map (hg : g < 8) (hoff : grpEn s g = false) (hrec : s.recovering = false) (hok : enableRefused s g = false) :
    (groupEnable s g).grp g = { TideGrp.reset with b := s.devT, cur := (s.grp g).cur, stopping := (s.grp g).cur.isSome }
      ∧ (groupEnable s g).devT = s.devT ∧ (groupEnable s g).mem = s.mem := by
  have hkept := joinSettle_kept (grpEnter_kept (groupBegun_kept s g (.refl _) ⟨rfl⟩) g gtFreerun true ⟨rfl⟩)
    (Within.mk rfl : Within _ 0x48490000484900001960)
  rw [groupEnable_of_accepted hg hoff hrec hok]
  refine ⟨?_, ?_, (hkept.mem (by decide)).trans rfl⟩
  · rw [State.grp, hkept.same .tide (by decide)]
    exact grp_setGrp_same _ g _
  · rw [State.devT, State.devNs, hkept.time (by decide)]
    rfl

/-- What a group shows once its enable has been accepted: GEN reads 1, and the entry into FREERUN is counted (R103). -/
theorem groupEnable_shown (hg : g < 8) (hoff : grpEn s g = false) (hrec : s.recovering = false) (hok : enableRefused s g = false)
    (hst : grpState s g = gtOff) :
    grpEn (groupEnable s g) g = true ∧ grpState (groupEnable s g) g = gtFreerun
      ∧ (groupEnable s g).ctr C.TIDE_G_FREERUNS g = min ctrMax (s.ctr C.TIDE_G_FREERUNS g + 1) := by
  obtain ⟨hstate, hen, hctr⟩ := groupBegun_spec s g hg
  have hne : grpState (groupBegun s g) g ≠ gtFreerun := by rw [hstate, hst]; decide
  obtain ⟨hstate', hen', hctr'⟩ := grpEnter_freerun_spec (groupBegun s g) g hne
  have hjoin := joinSettle_kept (.refl (grpEnter (groupBegun s g) g gtFreerun true)) (Within.refl _)
  rw [groupEnable_of_accepted hg hoff hrec hok]
  refine ⟨?_, ?_, ?_⟩
  · exact (fbit_of_fld (hjoin.fld (by decide)) g).trans (hen'.trans hen)
  · exact (hjoin.fld (by decide)).trans hstate'
  · rw [hjoin.ctr (by decide), hctr', hctr]

/-- A refused enable leaves the group off and sets CFG_ERR (R109). -/
theorem enableRefuse_spec :
    (enableRefuse s g).flag F.TIDE_FLT_CFG_ERR = true ∧ grpEn (enableRefuse s g) g = grpEn s g ∧ (enableRefuse s g).tide = s.tide
      ∧ (enableRefuse s g).mem = s.mem := by
  have hkept := enableRefuse_kept (.refl s) g (Within.refl _)
  have hset : (s.setFlt F.TIDE_FLT_CFG_ERR).flag F.TIDE_FLT_CFG_ERR = true := flag_setFlt_same s rfl (by decide)
  have hgen : (s.setFlt F.TIDE_FLT_CFG_ERR).fld F.TIDE_CTRL_GEN = s.fld F.TIDE_CTRL_GEN := fld_setFlt_apart _ _ (by decide) (by decide)
  have hother {f : Fld} (hf : F.TIDE_FLT_CFG_ERR.apart f = true) (hf' : F.TIDE_CTRL_GEN.apart f = true) {a : State}
      (ha : a.flag F.TIDE_FLT_CFG_ERR = true ∧ a.fld F.TIDE_CTRL_GEN = s.fld F.TIDE_CTRL_GEN) :
      (a.setFlt f).flag F.TIDE_FLT_CFG_ERR = true ∧ (a.setFlt f).fld F.TIDE_CTRL_GEN = s.fld F.TIDE_CTRL_GEN :=
    ⟨(flag_setFlt_apart _ _ hf (by decide)).trans ha.1, (fld_setFlt_apart _ _ hf' (by decide)).trans ha.2⟩
  have hflags : (enableRefuse s g).flag F.TIDE_FLT_CFG_ERR = true ∧ (enableRefuse s g).fld F.TIDE_CTRL_GEN = s.fld F.TIDE_CTRL_GEN := by
    have hregion : ∀ c : Bool, (if c then (s.setFlt F.TIDE_FLT_CFG_ERR).setFlt F.LANE_FLT_REGION_ERR else s.setFlt F.TIDE_FLT_CFG_ERR).flag
        F.TIDE_FLT_CFG_ERR = true ∧ (if c then (s.setFlt F.TIDE_FLT_CFG_ERR).setFlt F.LANE_FLT_REGION_ERR else s.setFlt F.TIDE_FLT_CFG_ERR).fld
        F.TIDE_CTRL_GEN = s.fld F.TIDE_CTRL_GEN
      | true => hother (by decide) (by decide) ⟨hset, hgen⟩
      | false => ⟨hset, hgen⟩
    unfold enableRefuse
    dsimp only
    cases unapproved s g
    · exact hregion _
    · exact hother (by decide) (by decide) (hregion _)
  exact ⟨hflags.1, fbit_of_fld hflags.2 g, hkept.same .tide (by decide), hkept.mem (by decide)⟩

end

/-- Settles O21: nothing of the enable behind the opening of the map touches it or the time. -/
theorem groupStartsAtAngleZero : Obligations.GroupStartsAtAngleZero := by
  intro s g hlive hrec hg hoff hok
  rw [exec_groupEnable, execGroupEnable, live_of_not_held hlive]
  obtain ⟨hmap, htime, -⟩ := groupEnable_map s g hg hoff hrec hok
  refine ⟨_, rfl, by rw [hmap]; rfl, by rw [hmap], htime, ?_⟩
  simp [angleAt, hmap, TideGrp.reset]

/-! ## Disable and commands (R103) -/

/-- The pairs that stop running the tables of a group change in their own status alone. -/
theorem fld_stopTables_apart (s : State) (g : Nat) {f : Fld} (j : Nat) (htab : f.apart F.TIDE_P_STAT_TABLE = true)
    (hrun : f.apart F.TIDE_P_STAT_RUN = true) : (stopTables s g).fld f j = s.fld f j := by
  unfold stopTables
  induction groupTables s g generalizing s with
  | nil => rfl
  | cons n l ih =>
    rw [List.foldl_cons, ih]
    split
    · exact (fld_setFld_apart _ _ _ _ hrun).trans (fld_setFld_apart _ _ _ _ htab)
    · rfl

/-- A disabled group that is OFF, with the map that its lane window in progress keeps. -/
def groupClosed (s : State) (g : Nat) : State :=
  (grpEnter (s.setFbit F.TIDE_CTRL_GEN g false) g gtOff false).setGrp g
    { TideGrp.reset with cur := (s.grp g).cur, stopping := (s.grp g).cur.isSome, wins := keptMap (s.grp g), desc := (s.grp g).desc }

/-- The channels, gates and recordings that follow a closed group. -/
def groupLeft (s : State) (g : Nat) : State := rallyUnalign (gateReconvert (fdcGroupOff (groupClosed s g) g) g) g

section
variable (s : State) (g : Nat)

theorem groupDisable_of_enabled (hg : g < 8) (hon : grpEn s g = true) :
    groupDisable s g = if (s.grp g).cur.isNone then groupDrained (groupLeft s g) g else groupLeft s g := by
  have hgate : (decide (8 ≤ g) || !grpEn s g) = false := by simp [hg, hon]
  rw [groupDisable, if_neg (ne_true_of_eq_false hgate)]
  rfl

theorem groupClosed_spec (hg : g < 8) : grpEn (groupClosed s g) g = false ∧ grpState (groupClosed s g) g = gtOff ∧ (groupClosed s g).mem = s.mem := by
  obtain ⟨hstate, hen⟩ := grpEnter_off_spec (s.setFbit F.TIDE_CTRL_GEN g false) g
  refine ⟨?_, ?_, ?_⟩
  · exact (fbit_of_fld (fld_of_regs (State.setGrp_regs _ g _) _ _) g).trans (hen.trans (fbit_setFbit_same s _ false 0 hg))
  · exact (fld_of_regs (State.setGrp_regs _ g _) _ _).trans hstate
  · exact (State.setGrp_mem _ g _).trans ((grpEnter_kept (.refl _) g gtOff false (Within.refl _)).mem (by decide))

theorem groupLeft_kept : Kept 0x490100004b2100005260 (groupClosed s g) (groupLeft s g) := by
  unfold groupLeft
  exact rallyUnalign_kept (gateReconvert_kept (fdcGroupOff_kept (.refl _) g ⟨rfl⟩) g ⟨rfl⟩) g ⟨rfl⟩

/-- What follows a closed group leaves Tide as the close has it. -/
theorem groupLeft_spec (hg : g < 8) :
    grpEn (groupLeft s g) g = false ∧ grpState (groupLeft s g) g = gtOff ∧ (groupLeft s g).grp g = (groupClosed s g).grp g ∧ (groupLeft s g).mem = s.mem := by
  obtain ⟨hen, hstate, hmem⟩ := groupClosed_spec s g hg
  have hkept := groupLeft_kept s g
  refine ⟨?_, ?_, ?_, (hkept.mem (by decide)).trans hmem⟩
  · exact (fbit_of_fld (hkept.fld (by decide)) g).trans hen
  · exact (hkept.fld (by decide)).trans hstate
  · rw [State.grp, hkept.same .tide (by decide)]
    rfl

/-- A drained group that is not enabled has no map (R103). -/
theorem groupDrained_of_off (hen : grpEn s g = false) (hstate : grpState s g = gtOff) :
    grpEn (groupDrained s g) g = false ∧ grpState (groupDrained s g) g = gtOff ∧ (groupDrained s g).grp g = TideGrp.reset
      ∧ (groupDrained s g).mem = s.mem := by
  have hjoin := joinSettle_kept (.refl (stopTables (s.setGrp g TideGrp.reset) g)) (Within.refl _)
  have hstop := stopTables_kept (.refl (s.setGrp g TideGrp.reset)) g (Within.refl _)
  have hfld (f : Fld) (i : Nat) (hblk : f.blk = 3) (htab : f.apart F.TIDE_P_STAT_TABLE = true) (hrun : f.apart F.TIDE_P_STAT_RUN = true) :
      (joinSettle (stopTables (s.setGrp g TideGrp.reset) g)).fld f i = s.fld f i :=
    (hjoin.fld (by rw [hblk]; decide)).trans ((fld_stopTables_apart _ g i htab hrun).trans (fld_of_regs (State.setGrp_regs _ g _) _ _))
  rw [groupDrained, if_neg (ne_true_of_eq_false hen)]
  refine ⟨?_, ?_, ?_, (hjoin.mem (by decide)).trans (hstop.mem (by decide))⟩
  · exact (fbit_of_fld (hfld F.TIDE_CTRL_GEN 0 rfl (by decide) (by decide)) g).trans hen
  · exact (hfld F.TIDE_G_STAT_STATE g rfl (by decide) (by decide)).trans hstate
  · rw [State.grp, hjoin.same .tide (by decide), hstop.same .tide (by decide)]
    exact grp_setGrp_same s g _

theorem groupClosed_grp : (groupClosed s g).grp g
    = { TideGrp.reset with cur := (s.grp g).cur, stopping := (s.grp g).cur.isSome, wins := keptMap (s.grp g), desc := (s.grp g).desc } :=
  grp_setGrp_same _ g _

/-- A disabled group is OFF and keeps of its map what its lane window in progress needs (R103). -/
theorem groupDisable_spec (hg : g < 8) (hon : grpEn s g = true) :
    grpEn (groupDisable s g) g = false ∧ grpState (groupDisable s g) g = gtOff ∧ (groupDisable s g).mem = s.mem
      ∧ ((groupDisable s g).grp g).cur = (s.grp g).cur ∧ ((groupDisable s g).grp g).wins = keptMap (s.grp g) := by
  obtain ⟨hen, hstate, hgrp, hmem⟩ := groupLeft_spec s g hg
  rw [groupDisable_of_enabled s g hg hon]
  cases hcur : (s.grp g).cur with
  | none =>
    obtain ⟨hen', hstate', hgrp', hmem'⟩ := groupDrained_of_off (groupLeft s g) g hen hstate
    refine ⟨hen', hstate', hmem'.trans hmem, ?_, ?_⟩ <;> simp only [Option.isNone_none, if_true, hgrp', keptMap, hcur] <;> rfl
  | some c =>
    have hgrp' := hgrp.trans (groupClosed_grp s g)
    rw [if_neg (by simp)]
    exact ⟨hen, hstate, hmem, by rw [hgrp', hcur], by rw [hgrp']⟩

theorem tideCommand_of_on (c : Nat) (hg : g < 8) (hon : grpState s g ≠ gtOff) :
    tideCommand s g c = s.setGrp g { s.grp g with cmds := (s.grp g).cmds ++ [(c, s.time.sys)] } := by
  have hgate : (decide (8 ≤ g) || decide (grpState s g = gtOff)) = false := by simp [hg, hon]
  rw [tideCommand, if_neg (ne_true_of_eq_false hgate)]

end

/-- Settles O23. -/
theorem groupEnableAndDisable : Obligations.GroupEnableAndDisable := by
  intro s g hlive hrec hg
  refine ⟨fun hoff hbad => ?_, fun hoff hok hst => ?_, fun hon => ?_, fun hst => ?_⟩
  · obtain ⟨hflag, hen, htide, hmem⟩ := enableRefuse_spec s g
    rw [exec_groupEnable, execGroupEnable, live_of_not_held hlive, groupEnable_of_refused hg hoff hrec hbad]
    exact ⟨_, rfl, hflag, hen.trans hoff, htide, hmem⟩
  · obtain ⟨hmap, -, hmem⟩ := groupEnable_map s g hg hoff hrec hok
    obtain ⟨hen, hstate, hctr⟩ := groupEnable_shown s g hg hoff hrec hok hst
    rw [exec_groupEnable, execGroupEnable, live_of_not_held hlive]
    exact ⟨_, rfl, hen, hstate, by rw [hmap]; rfl, by rw [hmap]; rfl, by rw [hmap], by rw [hmap]; rfl, hctr, hmem⟩
  · obtain ⟨hen, hstate, hmem, hcur, hwins⟩ := groupDisable_spec s g hg hon
    rw [exec_groupDisable, execGroupDisable, live_of_not_held hlive]
    refine ⟨_, rfl, hen, hstate, hcur, hmem, fun hnone => ?_, fun c hsome => ?_⟩
    · rw [hwins, keptMap, hnone]
    · rw [hwins, keptMap, hsome]
  · rw [exec_resync, execResync, exec_forceFreerun, execForceFreerun, live_of_not_held hlive, live_of_not_held hlive,
      tideCommand_of_on s g cmdResync hg hst, tideCommand_of_on s g cmdFreerun hg hst]
    exact ⟨rfl, rfl⟩

/-! ## The TIDE mailbox (R95, R96, R116) -/

section
variable {s : State} (cmd : Nat) (f : State → Nat → Option (Nat × Nat × Bool))

/-- Nothing of a TIDE mailbox command but its own result stands against it while the mailbox is free and a group is selected. -/
theorem tideMbx_gates (hfree : s.flag (mbxBusy 3) = false) (hkind : s.fld F.TIDE_SEL_KIND = 0) (hidx : s.fld F.TIDE_SEL_INDEX ≤ 7) :
    s.flag (mbxBusy blkTide) ≠ true ∧ (decide (s.fld F.TIDE_SEL_KIND ≠ 0) || decide (7 < s.fld F.TIDE_SEL_INDEX)) ≠ true :=
  ⟨ne_true_of_eq_false hfree, by simp [hkind, hidx]⟩

variable (hfree : s.flag (mbxBusy 3) = false) (hkind : s.fld F.TIDE_SEL_KIND = 0) (hidx : s.fld F.TIDE_SEL_INDEX ≤ 7)
include hfree hkind hidx

theorem tideMbx_of_some {x t : Nat} {p : Bool} (h : f s (s.fld F.TIDE_SEL_INDEX) = some (x, t, p)) :
    tideMbx s cmd f = s.mbxStart 3 (tideLayout cmd x t p) := by
  obtain ⟨hbusy, hsel⟩ := tideMbx_gates hfree hkind hidx
  rw [tideMbx, if_neg hbusy, if_neg hsel, h]
  rfl

theorem tideMbx_of_none (h : f s (s.fld F.TIDE_SEL_INDEX) = none) : tideMbx s cmd f = s.mbxRefuse 3 := by
  obtain ⟨hbusy, hsel⟩ := tideMbx_gates hfree hkind hidx
  rw [tideMbx, if_neg hbusy, if_neg hsel, h]
  rfl

end

/-- Settles O25. -/
theorem tideMailboxConverts : Obligations.TideMailboxConverts := by
  intro s g hlive hfree hkind hidx hg
  subst hidx
  refine ⟨fun x p h => ?_, fun h => ?_, fun ns x p hns h => ?_, fun now q x ns p hnow hx h => ?_⟩
  · rw [exec_readLive, execReadLive, live_of_not_held hlive, readLive, tideMbx_of_some _ _ hfree hkind hg (by rw [h]; rfl)]
  · rw [exec_readLive, execReadLive, live_of_not_held hlive, readLive, tideMbx_of_none _ _ hfree hkind hg (by rw [h]; rfl)]
  · subst hns
    rw [exec_timeToAng, execTimeToAng, live_of_not_held hlive, timeToAngCmd,
      tideMbx_of_some (x := x) (p := p) _ _ hfree hkind hg (by simp only [blkTide, h, Option.map_some]; rfl)]
  · subst hx
    rw [exec_angToTime, execAngToTime, live_of_not_held hlive, angToTimeCmd,
      tideMbx_of_some (t := ns) (p := p) _ _ hfree hkind hg (by simp only [blkTide, hnow, h, Option.map_some]; rfl)]

end Sys2Proof.Machine
end

section
/-! PROOFS. How a partition's window ends on its pair (R111, R202, R206). -/

namespace Sys2Proof.Machine

/-! ## What a write of a pair or of a partition's record leaves -/

theorem ctr_of_cnts {s t : State} (h : t.cnts = s.cnts) (c : Ctr) (i : Nat) : t.ctr c i = s.ctr c i := by rw [State.ctr, h]; rfl

theorem pair_of_lane {s t : State} (h : t.lane = s.lane) (n : Nat) : t.pair n = s.pair n := by rw [State.pair, h]; rfl

theorem lpart_of_lane {s t : State} (h : t.lane = s.lane) (p : Nat) : t.lpart p = s.lpart p := by rw [State.lpart, h]; rfl

theorem pair_setLpart (s : State) (p : Nat) (v : LanePart) (n : Nat) : (s.setLpart p v).pair n = s.pair n := rfl

theorem lpart_setPair (s : State) (n : Nat) (v : LanePair) (p : Nat) : (s.setPair n v).lpart p = s.lpart p := rfl

theorem flag_setLpart (s : State) (p : Nat) (v : LanePart) (f : Fld) (i : Nat) : (s.setLpart p v).flag f i = s.flag f i :=
  flag_of_regs (State.setLpart_regs s p v) f i

theorem ctr_setLpart (s : State) (p : Nat) (v : LanePart) (c : Ctr) (i : Nat) : (s.setLpart p v).ctr c i = s.ctr c i :=
  ctr_of_cnts (State.setLpart_cnts s p v) c i

theorem markOutcome_lpart (s : State) (p st : Nat) : (markOutcome s p st).lpart p = { s.lpart p with outcome := wsMerge (s.lpart p).outcome st } :=
  lpart_setLpart_same _ _ _

theorem markOutcome_pair (s : State) (p st n : Nat) : (markOutcome s p st).pair n = s.pair n := pair_setLpart _ _ _ _

/-- An event that may have been recorded before leaves the lanes and the counters of the other blocks. -/
theorem event_unless_keeps (s : State) (c : Bool) (blk code part p0 p1 p2 : Nat) {d : Ctr} (j : Nat) (h : logBlks.contains (d.blk % 32) = false) :
    (if c then s else s.event blk code part p0 p1 p2).lane = s.lane ∧ (if c then s else s.event blk code part p0 p1 p2).ctr d j = s.ctr d j := by
  cases c
  · exact ⟨State.event_lane _ _ _ _ _ _ _, ctr_event_apart _ _ _ _ _ _ _ _ h⟩
  · exact ⟨rfl, rfl⟩

/-! ## A partition stops (R196) -/

section
variable (s : State) (n : Nat)

theorem laneUsed_lpart (used : Nat) : (laneUsed s n used).lpart (s.pair n).part = { s.lpart (s.pair n).part with used := used } := by
  unfold laneUsed
  dsimp only
  split <;> exact lpart_setLpart_same _ _ _

theorem laneStop_lpart (used : Nat) : (laneStop s n used).lpart (s.pair n).part = { s.lpart (s.pair n).part with used := used } :=
  laneUsed_lpart s n used

theorem laneStop_run (used : Nat) : ((laneStop s n used).pair n).run = false := by rw [laneStop, pair_setPair_same]

/-- A pair's stop shows in its table's USED registers alone. -/
theorem fld_laneStop_apart (used : Nat) {f : Fld} (j : Nat) (hlast : ∀ k, f.apart (F.LANE_P_SLOT_USED_LAST_USED.el k) = true)
    (hmax : ∀ k, f.apart (F.LANE_P_SLOT_USED_MAX_USED_MAX.el k) = true) : (laneStop s n used).fld f j = s.fld f j := by
  change (laneUsed s n used).fld f j = s.fld f j
  unfold laneUsed
  dsimp only
  split
  · exact (fld_setFld_apart _ _ _ _ (hmax _)).trans (fld_setFld_apart _ _ _ _ (hlast _))
  · exact fld_setFld_apart _ _ _ _ (hlast _)

theorem fld_laneStop_of_kind (used : Nat) {f : Fld} (j : Nat) (h : f.kind % 8 ≠ 1) : (laneStop s n used).fld f j = s.fld f j :=
  fld_laneStop_apart s n used j (fun k => by simp [Fld.apart, Fld.el, F.LANE_P_SLOT_USED_LAST_USED, h])
    fun k => by simp [Fld.apart, Fld.el, F.LANE_P_SLOT_USED_MAX_USED_MAX, h]

theorem ctr_laneStop (used : Nat) (c : Ctr) (j : Nat) : (laneStop s n used).ctr c j = s.ctr c j := by
  change (laneUsed s n used).ctr c j = s.ctr c j
  unfold laneUsed
  dsimp only
  split <;> rfl

end

/-! ## PX.DONE (R202) -/

section
variable (c : LanePair) (op : RvOp) (i : Nat) (cost : Nat × Nat) (dests : List Nat) (pc : Nat)

theorem LanePair.retire_part : (c.retire op i cost dests pc).part = c.part := rfl

theorem LanePair.retire_staging : (c.retire op i cost dests pc).staging = c.staging := rfl

end

theorem pxValid_done (a : Nat) : pxValid 0x7F 7 0 a 0 = true := by simp [pxValid]

theorem laneExec_done (s : State) (n i iw a : Nat) :
    laneExec s n i 4 iw (.px 0x7F 7 0 a 0) =
      laneDone (s.setPair n ((s.pair n).retire (.px 0x7F 7 0 a 0) i (RvOp.px 0x7F 7 0 a 0).cost [] (((s.pair n).pc.toNat + 4) % 2 ^ 32))) n
        ((s.pair n).getX a) i := by
  simp only [laneExec, pxValid_done, Bool.not_true, Bool.false_eq_true, if_false, if_true]

theorem bitOf_zero_iff (v : Nat) : bitOf v 0 = true ↔ v % 2 = 1 := by simp [bitOf, Nat.testBit_zero]

/-- What PX.DONE leaves of the partition on a pair. -/
theorem laneDone_spec (s : State) (n v i : Nat) :
    ((laneDone s n v i).pair n).run = false
      ∧ (laneDone s n v i).lpart (s.pair n).part = { s.lpart (s.pair n).part with
          pendVec := if v % 2 = 1 then none else some (s.pair n).staging, pendState := !v.testBit 1, used := i
          outcome := wsMerge (s.lpart (s.pair n).part).outcome (if v % 2 = 1 then wsHeld else wsCommitted) }
      ∧ (laneDone s n v i).mem = s.mem := by
  refine ⟨laneStop_run _ n i, ?_, (laneDone_kept (.refl s) n v i (Within.refl _)).mem (by decide)⟩
  refine (laneStop_lpart _ n i).trans ?_
  simp only [markOutcome, bitOf_zero_iff]
  change { State.lpart _ (s.pair n).part with used := i } = _
  simp only [lpart_setLpart_same]
  rfl

/-! ## Late (R111) -/

/-- A lateness as Tide shows, records and counts it. -/
def lateShown (s : State) (g w p : Nat) : State :=
  (((if s.partBit F.TIDE_LATE_LATE p then s else s.event blkTide 0x0304 p w g).setPartBit F.TIDE_LATE_LATE p true).setFlt F.TIDE_FLT_LATE).count
    C.TIDE_T_LATE_BUDGET p

section
variable (s : State) (g w p : Nat) (debug : Bool)

theorem lateShown_spec :
    (lateShown s g w p).lane = s.lane ∧ (lateShown s g w p).flag F.TIDE_FLT_LATE = true
      ∧ (lateShown s g w p).ctr C.TIDE_T_LATE_BUDGET p = min ctrMax (s.ctr C.TIDE_T_LATE_BUDGET p + 1) := by
  obtain ⟨hlane, hctr⟩ := event_unless_keeps s (s.partBit F.TIDE_LATE_LATE p) blkTide 0x0304 p w g 0 (d := C.TIDE_T_LATE_BUDGET) p (by decide)
  refine ⟨?_, ?_, ?_⟩
  · rw [lateShown, State.count_lane, State.setFlt_lane, State.setPartBit_lane, hlane]
  · rw [lateShown, flag_count_apart _ _ _ (by decide), flag_setFlt_same _ rfl (by decide)]
  · rw [lateShown, ctr_count_same, ctr_setFlt_apart _ _ _ (by decide), ← hctr]
    rfl

/-- A late partition in its record, but for the flag of a pair that a debugger has halted. -/
def lateKept : State :=
  (markOutcome (lateShown s g w p) p wsLate).setLpart p { (markOutcome (lateShown s g w p) p wsLate).lpart p with debugLast := debug }

theorem partLate_eq : partLate s g w p debug = if debug then (lateKept s g w p debug).setFlt F.LANE_FLT_DBG_LATE else lateKept s g w p debug := rfl

theorem lateKept_lpart :
    (lateKept s g w p debug).lpart p = { s.lpart p with outcome := wsMerge (s.lpart p).outcome wsLate, debugLast := debug } := by
  rw [lateKept, lpart_setLpart_same, markOutcome_lpart, lpart_of_lane (lateShown_spec s g w p).1]

theorem lateKept_pair (n : Nat) : (lateKept s g w p debug).pair n = s.pair n := by
  rw [lateKept, pair_setLpart, markOutcome_pair, pair_of_lane (lateShown_spec s g w p).1]

theorem lateKept_shows : (lateKept s g w p debug).flag F.TIDE_FLT_LATE = true
    ∧ (lateKept s g w p debug).ctr C.TIDE_T_LATE_BUDGET p = min ctrMax (s.ctr C.TIDE_T_LATE_BUDGET p + 1) := by
  obtain ⟨-, hflag, hctr⟩ := lateShown_spec s g w p
  rw [lateKept, markOutcome, flag_setLpart, flag_setLpart, ctr_setLpart, ctr_setLpart]
  exact ⟨hflag, hctr⟩

/-- A partition that is late is flagged and counted, and its window has the status merged with what it has (R111). -/
theorem partLate_spec :
    (partLate s g w p debug).lane = (lateKept s g w p debug).lane ∧ (partLate s g w p debug).flag F.TIDE_FLT_LATE = true
      ∧ (partLate s g w p debug).ctr C.TIDE_T_LATE_BUDGET p = min ctrMax (s.ctr C.TIDE_T_LATE_BUDGET p + 1) := by
  obtain ⟨hflag, hctr⟩ := lateKept_shows s g w p debug
  rw [partLate_eq]
  cases debug with
  | true =>
    rw [if_pos rfl, State.setFlt_lane, flag_setFlt_apart _ _ (by decide) (by decide), ctr_setFlt_apart _ _ _ (by decide)]
    exact ⟨rfl, hflag, hctr⟩
  | false =>
    rw [if_neg Bool.false_ne_true]
    exact ⟨rfl, hflag, hctr⟩

theorem partLate_lpart :
    (partLate s g w p debug).lpart p = { s.lpart p with outcome := wsMerge (s.lpart p).outcome wsLate, debugLast := debug } := by
  rw [lpart_of_lane (partLate_spec s g w p debug).1, lateKept_lpart]

theorem partLate_pair (n : Nat) : (partLate s g w p debug).pair n = s.pair n := by
  rw [pair_of_lane (partLate_spec s g w p debug).1, lateKept_pair]

end

/-- The run on a pair that is late ends, its window merged with LATE (R111). -/
theorem laneLate_spec (s : State) (n : Nat) :
    ((laneLate s n).pair n).run = false
      ∧ ((laneLate s n).lpart (s.pair n).part).outcome = wsMerge (s.lpart (s.pair n).part).outcome wsLate
      ∧ (laneLate s n).ctr C.TIDE_T_LATE_BUDGET (s.pair n).part = min ctrMax (s.ctr C.TIDE_T_LATE_BUDGET (s.pair n).part + 1)
      ∧ (laneLate s n).flag F.TIDE_FLT_LATE = true ∧ (laneLate s n).mem = s.mem := by
  obtain ⟨-, hflag, hctr⟩ := partLate_spec s (pairGroup s n) (pairWindow s n) (s.pair n).part (s.pair n).halted
  have hpart := partLate_lpart s (pairGroup s n) (pairWindow s n) (s.pair n).part (s.pair n).halted
  have hpair := partLate_pair s (pairGroup s n) (pairWindow s n) (s.pair n).part (s.pair n).halted n
  refine ⟨laneStop_run _ n _, ?_, (ctr_laneStop _ n _ _ _).trans hctr, ?_, (laneLate_kept (.refl s) n (Within.refl _)).mem (by decide)⟩
  · have hstop := laneStop_lpart (partLate s (pairGroup s n) (pairWindow s n) (s.pair n).part (s.pair n).halted) n (s.pair n).cycle
    rw [hpair, hpart] at hstop
    exact congrArg LanePart.outcome hstop
  · rw [State.flag, laneLate, fld_laneStop_of_kind _ _ _ _ (by decide)]
    exact hflag

section
variable {s : State} {n : Nat}

theorem partitionLate_of_reached (hn : n < 24) (hrun : (s.pair n).run = true) (hlimit : (s.pair n).limit ≤ max (s.pair n).cycle (laneClock s n)) :
    partitionLate s n = laneLate (s.setPair n { s.pair n with cycle := (s.pair n).limit }) n := by
  have hn' : ¬lanePairs ≤ n := Nat.not_le.mpr hn
  have hgate : (decide (lanePairs ≤ n) || !(s.pair n).run) = false := by rw [decide_eq_false hn', hrun]; rfl
  rw [partitionLate, if_neg (ne_true_of_eq_false hgate), if_pos hlimit]

theorem partitionLate_of_below (hlimit : max (s.pair n).cycle (laneClock s n) < (s.pair n).limit) : partitionLate s n = s := by
  rw [partitionLate, if_neg (Nat.not_le.mpr hlimit), ite_self]

end

/-! ## Fault (R206) -/

/-- A fault of a pair as the lanes' registers show, record and count it. -/
def faultShown (s : State) (n cause tval : Nat) : State :=
  ((((((if s.partBit F.LANE_FAULT_FAULT (s.pair n).part then s else s.event 6 0x0601 (s.pair n).part cause (s.pair n).pc.toNat tval).setPartBit
    F.LANE_FAULT_FAULT (s.pair n).part true).setFlt F.LANE_FLT_FAULT).count C.LANE_T_FAULTS (s.pair n).part).setFld F.LANE_T_STAT_CAUSE_LAST cause
      (s.pair n).part).setFld F.LANE_T_FPC_VAL (s.pair n).pc.toNat (s.pair n).part).setFld F.LANE_T_FTVAL_VAL tval (s.pair n).part

section
variable (s : State) (n cause tval : Nat)

theorem faultShown_spec :
    (faultShown s n cause tval).lane = s.lane ∧ (faultShown s n cause tval).flag F.LANE_FLT_FAULT = true
      ∧ (faultShown s n cause tval).ctr C.LANE_T_FAULTS (s.pair n).part = min ctrMax (s.ctr C.LANE_T_FAULTS (s.pair n).part + 1)
      ∧ (faultShown s n cause tval).fld F.LANE_T_STAT_CAUSE_LAST (s.pair n).part = cause % 256 := by
  obtain ⟨hlane, hctr⟩ := event_unless_keeps s (s.partBit F.LANE_FAULT_FAULT (s.pair n).part) 6 0x0601 (s.pair n).part cause (s.pair n).pc.toNat tval
    (d := C.LANE_T_FAULTS) (s.pair n).part (by decide)
  refine ⟨?_, ?_, ?_, ?_⟩
  · rw [faultShown, State.setFld_lane, State.setFld_lane, State.setFld_lane, State.count_lane, State.setFlt_lane, State.setPartBit_lane, hlane]
  · rw [faultShown, flag_setFld_apart _ _ _ _ (by decide), flag_setFld_apart _ _ _ _ (by decide), flag_setFld_apart _ _ _ _ (by decide),
      flag_count_apart _ _ _ (by decide), flag_setFlt_same _ rfl (by decide)]
  · change (State.count _ C.LANE_T_FAULTS (s.pair n).part).ctr C.LANE_T_FAULTS (s.pair n).part = _
    rw [ctr_count_same, ctr_setFlt_apart _ _ _ (by decide), ← hctr]
    rfl
  · rw [faultShown, fld_setFld_apart _ _ _ _ (by decide), fld_setFld_apart _ _ _ _ (by decide), fld_setFld_same]
    rfl

/-- The partition whose run on a pair ends with a fault, with the place and value of the fault. -/
def faultKept : State :=
  (faultShown s n cause tval).setLpart (s.pair n).part
    { (faultShown s n cause tval).lpart (s.pair n).part with fpc := (s.pair n).pc.toNat, ftval := tval % 2 ^ 32 }

theorem laneFault_eq : laneFault s n cause tval = laneStop (markOutcome (faultKept s n cause tval) (s.pair n).part wsFault) n (s.pair n).cycle := rfl

theorem faultMarked_lpart :
    (markOutcome (faultKept s n cause tval) (s.pair n).part wsFault).lpart (s.pair n).part =
      { s.lpart (s.pair n).part with
        fpc := (s.pair n).pc.toNat, ftval := tval % 2 ^ 32, outcome := wsMerge (s.lpart (s.pair n).part).outcome wsFault } := by
  rw [markOutcome_lpart, faultKept, lpart_setLpart_same, lpart_of_lane (faultShown_spec s n cause tval).1]

theorem faultMarked_pair : (markOutcome (faultKept s n cause tval) (s.pair n).part wsFault).pair n = s.pair n := by
  rw [markOutcome_pair, faultKept, pair_setLpart, pair_of_lane (faultShown_spec s n cause tval).1]

/-- What the lanes' registers show of a fault stands until the run has ended. -/
theorem laneFault_shows {f : Fld} (j : Nat) (h : f.kind % 8 ≠ 1) : (laneFault s n cause tval).fld f j = (faultShown s n cause tval).fld f j := by
  rw [laneFault_eq, fld_laneStop_of_kind _ _ _ _ h]
  exact (fld_of_regs (State.setLpart_regs _ _ _) f j).trans (fld_of_regs (State.setLpart_regs _ _ _) f j)

theorem laneFault_counts (c : Ctr) (j : Nat) : (laneFault s n cause tval).ctr c j = (faultShown s n cause tval).ctr c j := by
  rw [laneFault_eq, ctr_laneStop, markOutcome, ctr_setLpart, faultKept, ctr_setLpart]

/-- A fault ends the run, its window merged with FAULT, with its cause, place and value recorded (R206). -/
theorem laneFault_spec :
    ((laneFault s n cause tval).pair n).run = false
      ∧ (laneFault s n cause tval).lpart (s.pair n).part = { s.lpart (s.pair n).part with
          fpc := (s.pair n).pc.toNat, ftval := tval % 2 ^ 32, outcome := wsMerge (s.lpart (s.pair n).part).outcome wsFault, used := (s.pair n).cycle }
      ∧ (laneFault s n cause tval).fld F.LANE_T_STAT_CAUSE_LAST (s.pair n).part = cause % 256
      ∧ (laneFault s n cause tval).flag F.LANE_FLT_FAULT = true
      ∧ (laneFault s n cause tval).ctr C.LANE_T_FAULTS (s.pair n).part = min ctrMax (s.ctr C.LANE_T_FAULTS (s.pair n).part + 1)
      ∧ (laneFault s n cause tval).mem = s.mem := by
  obtain ⟨hlane, hflag, hctr, hcause⟩ := faultShown_spec s n cause tval
  refine ⟨laneStop_run _ n _, ?_, (laneFault_shows s n cause tval _ (by decide)).trans hcause, ?_, (laneFault_counts s n cause tval _ _).trans hctr,
    (laneFault_kept (.refl s) n cause tval (Within.refl _)).mem (by decide)⟩
  · have hstop := laneStop_lpart (markOutcome (faultKept s n cause tval) (s.pair n).part wsFault) n (s.pair n).cycle
    rw [faultMarked_pair, faultMarked_lpart] at hstop
    exact hstop
  · rw [State.flag, laneFault_shows _ _ _ _ _ (by decide)]
    exact hflag

end

/-- Settles O35: PX.DONE, the limit and a fault each stop the pair and merge the status of the window. -/
theorem windowRunsEnd : Obligations.WindowRunsEnd := by
  intro s n p hlive hn hpart hp
  subst hpart
  refine ⟨fun a i v ha hruns hi hon hv => ?_, fun hrun hlimit => ?_, fun hlimit => ?_, fun cause v t ht => ?_⟩
  · subst hi hv
    rw [exec_pxDone, execPxDone, live_of_not_held hlive, laneP_of_runs hruns (by decide) ha (by decide), laneIssue_of_below _ _ hon, laneExec_done]
    obtain ⟨hstop, hlpart, hmem⟩ := laneDone_spec (s.setPair n ((s.pair n).retire (.px 0x7F 7 0 a 0) (issueAt (s.pair n) (.px 0x7F 7 0 a 0))
      (RvOp.px 0x7F 7 0 a 0).cost [] (((s.pair n).pc.toNat + 4) % 2 ^ 32))) n ((s.pair n).getX a) (issueAt (s.pair n) (.px 0x7F 7 0 a 0))
    rw [pair_setPair_same, LanePair.retire_part, LanePair.retire_staging, lpart_setPair] at hlpart
    exact ⟨_, rfl, hstop, by rw [hlpart], by rw [hlpart], by rw [hlpart], by rw [hlpart], hmem⟩
  · rw [exec_partitionLate, execPartitionLate, live_of_not_held hlive, partitionLate_of_reached hn hrun hlimit]
    obtain ⟨hstop, hout, hctr, hflag, hmem⟩ := laneLate_spec (s.setPair n { s.pair n with cycle := (s.pair n).limit }) n
    rw [pair_setPair_same] at hout hctr
    exact ⟨_, rfl, hstop, hout, hctr, hflag, hmem⟩
  · rw [exec_partitionLate, execPartitionLate, live_of_not_held hlive, partitionLate_of_below hlimit]
  · obtain ⟨hstop, hlpart, hcause, hflag, hctr, hmem⟩ := laneFault_spec s n cause v
    rw [ht]
    exact ⟨hstop, by rw [hlpart], by rw [hlpart], by rw [hlpart], hcause, hflag, hctr, hmem⟩

end Sys2Proof.Machine
end

section
/-! PROOFS. The failover of lane pairs (R112 to R115, R211, R212). -/

namespace Sys2Proof.Machine

/-! ## The idle spares -/

theorem mem_idleSpares_iff {s : State} {m : Nat} : m ∈ idleSpares s ↔ m < 24 ∧ pairRole s m = roleSpare ∧ s.fld F.TIDE_P_STAT_RUN m = 0 := by
  simp [idleSpares, lanePairs]

/-- The idle spares are told by the roles of the pairs and by which of them are idle. -/
theorem idleSpares_congr {s t : State} (hrole : ∀ j, t.fld F.TIDE_P_CFG_ROLE j = s.fld F.TIDE_P_CFG_ROLE j)
    (hidle : ∀ j, t.fld F.TIDE_P_STAT_RUN j = 0 ↔ s.fld F.TIDE_P_STAT_RUN j = 0) : idleSpares t = idleSpares s := by
  unfold idleSpares pairRole
  simp only [hrole, hidle]

/-! ## What a mismatch drops in the window in progress (R114, R210) -/

/-- A failed pair's run before its slot is dropped: in its preamble its writes are undone. -/
def runUndone (s : State) (n t : Nat) : State :=
  let c := s.pair n
  let b := bankPhys t c.regs false
  if !pairExecutes s n then
    let s := laneMemWrite s b c.undo
    let s : State := { s with lane := { s.lane with faulty := c.undoFaulty.map (· + b) ++ s.lane.faulty, single := c.undoSingle.map (· + b) ++ s.lane.single } }
    s.setLpart c.part { s.lpart c.part with first := c.undoFirst }
  else s

theorem runDrop_eq (s : State) (n t : Nat) : runDrop s n t = slotDrop (laneHaltRun (runUndone s n t) n) (s.pair n).part := rfl

theorem runUndone_kept {μ : Nat} {s₀ s : State} (hs : Kept μ s₀ s) (n t : Nat) (hm : Within 0x108 μ) : Kept μ s₀ (runUndone s n t) := by
  unfold runUndone
  exact Kept.ite (State_setLpart_kept (Kept.upd_100 (laneMemWrite_kept hs _ _ (hm.sub rfl)) (hm.sub rfl)) _ _ (hm.sub rfl)) hs

section
variable (s : State) {f : Fld} (j : Nat) (hblk : f.blk = 3) (hovf : C.TIDE_T_LATE_FAIL.apart f = true)
include hovf

theorem fld_slotDrop_apart (p : Nat) : (slotDrop s p).fld f j = s.fld f j := by
  unfold slotDrop
  split
  · rfl
  · exact fld_count_apart _ _ _ hovf

theorem fld_slotDrops_apart (l : List LaneSlot) : (l.foldl (fun s e => slotDrop s e.part) s).fld f j = s.fld f j := by
  induction l generalizing s with
  | nil => rfl
  | cons e l ih => rw [List.foldl_cons, ih, fld_slotDrop_apart s j hovf]

include hblk

theorem fld_runDrop_apart (n t : Nat) : (runDrop s n t).fld f j = s.fld f j := by
  rw [runDrop_eq, fld_slotDrop_apart _ _ hovf]
  exact (laneHaltRun_kept (runUndone_kept (.refl s) n t ⟨rfl⟩) n (Within.mk rfl : Within _ 0x4000000108)).fld (by rw [hblk]; decide)

theorem fld_tableDrop_apart (n t : Nat) (w : LaneWin) : (tableDrop s n t w).2.fld f j = s.fld f j := by
  unfold tableDrop
  dsimp only
  rw [fld_slotDrops_apart _ _ hovf]
  split
  · exact fld_runDrop_apart s j hblk hovf n t
  · rfl

end

/-! ## The pair that fails -/

/-- The state that a mismatch leaves behind the drops of the window in progress, and the partition of the failing slot. -/
def mismatchDropped (s : State) (n t : Nat) : Nat × State :=
  match windowOfTable s t with
  | some w => tableDrop s n t w
  | none => (0, s)

theorem mismatchOn_eq (s : State) (n t : Nat) :
    mismatchOn s n t = spareAssign (pairMismatch (mismatchDropped s n t).2 n t) n t (mismatchDropped s n t).1 := by
  unfold mismatchOn mismatchDropped
  cases windowOfTable s t <;> rfl

theorem mismatchDropped_spec (s : State) (n t : Nat) :
    (mismatchDropped s n t).2.tide = s.tide ∧ (mismatchDropped s n t).2.time = s.time
      ∧ ∀ (f : Fld) (j : Nat), f.blk = 3 → C.TIDE_T_LATE_FAIL.apart f = true → (mismatchDropped s n t).2.fld f j = s.fld f j := by
  unfold mismatchDropped
  cases windowOfTable s t with
  | none => exact ⟨rfl, rfl, fun _ _ _ _ => rfl⟩
  | some w =>
    have hkept := tableDrop_kept (.refl s) n t w (Within.refl _)
    exact ⟨hkept.same .tide (by decide), hkept.time (by decide), fun f j hblk hovf => fld_tableDrop_apart s j hblk hovf n t w⟩

theorem pairFail_fld (s : State) (n : Nat) :
    (pairFail s n).fld F.TIDE_P_STAT_RUN n = 2 ∧ (pairFail s n).fld F.TIDE_P_STAT_TABLE n = noTable
      ∧ (∀ j, j ≠ n → (pairFail s n).fld F.TIDE_P_STAT_RUN j = s.fld F.TIDE_P_STAT_RUN j)
      ∧ ∀ f j, f.apart F.TIDE_P_STAT_RUN = true → f.apart F.TIDE_P_STAT_TABLE = true → (pairFail s n).fld f j = s.fld f j := by
  refine ⟨?_, ?_, fun j hj => ?_, fun f j hrun htab => ?_⟩
  · rw [pairFail, fld_setFld_apart _ _ _ _ (by decide), fld_setFld_same]
    rfl
  · rw [pairFail, fld_setFld_same]
    rfl
  · rw [pairFail, fld_setFld_apart _ _ _ _ (by decide), fld_setFld_inst _ _ _ hj]
  · rw [pairFail, fld_setFld_apart _ _ _ _ htab, fld_setFld_apart _ _ _ _ hrun]

/-- The registers that a failing pair does not change. -/
theorem fld_pairMismatch_apart (s : State) (n t : Nat) {f : Fld} (j : Nat) (hlog : [0, 14].contains (f.blk % 32) = false)
    (hflag : f.apart F.TIDE_P_STAT_MISMATCH = true) (hflt : f.apart F.TIDE_FLT_MISMATCH = true) (hovf : C.TIDE_P_MISMATCHES.apart f = true) :
    (pairMismatch s n t).fld f j = (pairFail s n).fld f j := by
  change ((((pairFail s n).setFlag F.TIDE_P_STAT_MISMATCH true n).setFlt F.TIDE_FLT_MISMATCH).count C.TIDE_P_MISMATCHES n).fld f j = _
  rw [fld_count_apart _ _ _ hovf, fld_setFlt_apart _ _ hflt hlog, fld_setFlag_apart _ _ _ _ hflag]

/-- A pair that fails is FAILED and runs no table (R112, R211). -/
theorem pairMismatch_spec (s : State) (n t : Nat) :
    (pairMismatch s n t).fld F.TIDE_P_STAT_RUN n = 2 ∧ (pairMismatch s n t).fld F.TIDE_P_STAT_TABLE n = noTable
      ∧ (pairMismatch s n t).flag F.TIDE_P_STAT_MISMATCH n = true
      ∧ (∀ j, j ≠ n → (pairMismatch s n t).fld F.TIDE_P_STAT_RUN j = s.fld F.TIDE_P_STAT_RUN j)
      ∧ (∀ j, (pairMismatch s n t).fld F.TIDE_P_CFG_ROLE j = s.fld F.TIDE_P_CFG_ROLE j)
      ∧ (pairMismatch s n t).tide.failEdge = s.tide.failEdge ∧ (pairMismatch s n t).time = s.time := by
  obtain ⟨hrun, htab, hother, hfld⟩ := pairFail_fld s n
  refine ⟨?_, ?_, ?_, fun j hj => ?_, fun j => ?_, ?_, (pairMismatch_kept (.refl s) n t (Within.refl _)).time (by decide)⟩
  · rw [fld_pairMismatch_apart _ _ _ _ (by decide) (by decide) (by decide) (by decide), hrun]
  · rw [fld_pairMismatch_apart _ _ _ _ (by decide) (by decide) (by decide) (by decide), htab]
  · change ((((pairFail s n).setFlag F.TIDE_P_STAT_MISMATCH true n).setFlt F.TIDE_FLT_MISMATCH).count C.TIDE_P_MISMATCHES n).flag
      F.TIDE_P_STAT_MISMATCH n = true
    rw [flag_count_apart _ _ _ (by decide), flag_setFlt_apart _ _ (by decide) (by decide), flag_setFlag_same _ _ _ _ rfl]
  · rw [fld_pairMismatch_apart _ _ _ _ (by decide) (by decide) (by decide) (by decide), hother j hj]
  · rw [fld_pairMismatch_apart _ _ _ _ (by decide) (by decide) (by decide) (by decide), hfld _ _ (by decide) (by decide)]
  · have htide : ((((pairFail s n).setFlag F.TIDE_P_STAT_MISMATCH true n).setFlt F.TIDE_FLT_MISMATCH).count C.TIDE_P_MISMATCHES n).tide = s.tide := by
      rw [State.count_tide, State.setFlt_tide]
      rfl
    exact congrArg (·.failEdge) htide

/-! ## The spare (R112) -/

section
variable (s : State)

theorem fld_lastSpare {f : Fld} (j : Nat) (hblk : f.blk = 3 ∨ f.blk = 6) : (lastSpare s).fld f j = s.fld f j :=
  (lastSpare_kept (.refl s) (Within.refl _)).fld (by rcases hblk with h | h <;> rw [h] <;> decide)

/-- A spare that takes a table, before the flag. -/
def spareTaken (t m : Nat) : State :=
  ((s.setFld F.TIDE_P_STAT_TABLE t m).setFld F.TIDE_P_STAT_RUN 1 m).setPair m
    { (s.setFld F.TIDE_P_STAT_TABLE t m).setFld F.TIDE_P_STAT_RUN 1 m |>.pair m with attachAt := some (s.time.sys + 1000) }

theorem spareTake_eq (t m : Nat) : spareTake s t m = lastSpare ((spareTaken s t m).setFlt F.TIDE_FLT_FAILOVER) := rfl

theorem fld_spareTake {f : Fld} (t m j : Nat) (hblk : f.blk = 3) (hflt : f.apart F.TIDE_FLT_FAILOVER = true) :
    (spareTake s t m).fld f j = ((s.setFld F.TIDE_P_STAT_TABLE t m).setFld F.TIDE_P_STAT_RUN 1 m).fld f j := by
  rw [spareTake_eq, fld_lastSpare _ _ (.inl hblk), fld_setFlt_apart _ _ hflt (by rw [hblk]; decide)]
  exact fld_of_regs (State.setPair_regs _ _ _) f j

/-- The spare that takes a table runs it and begins to attach (R112). -/
theorem spareTake_spec (t m : Nat) :
    (spareTake s t m).fld F.TIDE_P_STAT_RUN m = 1 ∧ (spareTake s t m).fld F.TIDE_P_STAT_TABLE m = t % 32
      ∧ (spareTake s t m).flag F.TIDE_FLT_FAILOVER = true ∧ ((spareTake s t m).pair m).attachAt = some (s.time.sys + 1000) := by
  refine ⟨?_, ?_, ?_, ?_⟩
  · rw [fld_spareTake _ _ _ _ rfl (by decide), fld_setFld_same]
    rfl
  · rw [fld_spareTake _ _ _ _ rfl (by decide), fld_setFld_apart _ _ _ _ (by decide), fld_setFld_same]
    rfl
  · rw [State.flag, spareTake_eq, fld_lastSpare _ _ (.inl rfl)]
    exact flag_setFlt_same _ rfl (by decide)
  · have hlane : (spareTake s t m).lane = (spareTaken s t m).lane :=
      ((lastSpare_kept (.refl _) (Within.refl _)).same .lane (by decide)).trans (State.setFlt_lane _ _)
    have hpair : (spareTake s t m).pair m = (spareTaken s t m).pair m := by rw [State.pair, hlane]; rfl
    rw [hpair, spareTaken, pair_setPair_same]

/-- Another pair's state and table stand, and so does every pair's mark of a mismatch. -/
theorem spareTake_other {t m j : Nat} (hj : j ≠ m) :
    (spareTake s t m).fld F.TIDE_P_STAT_RUN j = s.fld F.TIDE_P_STAT_RUN j
      ∧ (spareTake s t m).fld F.TIDE_P_STAT_TABLE j = s.fld F.TIDE_P_STAT_TABLE j
      ∧ (spareTake s t m).flag F.TIDE_P_STAT_MISMATCH j = s.flag F.TIDE_P_STAT_MISMATCH j := by
  refine ⟨?_, ?_, ?_⟩
  · rw [fld_spareTake _ _ _ _ rfl (by decide), fld_setFld_inst _ _ _ hj, fld_setFld_apart _ _ _ _ (by decide)]
  · rw [fld_spareTake _ _ _ _ rfl (by decide), fld_setFld_apart _ _ _ _ (by decide), fld_setFld_inst _ _ _ hj]
  · rw [State.flag, fld_spareTake _ _ _ _ rfl (by decide), fld_setFld_apart _ _ _ _ (by decide), fld_setFld_apart _ _ _ _ (by decide)]
    rfl

/-- With no spare left NO_SPARE is set, and the pairs stand as they are. -/
theorem noSpare_spec :
    (noSpare s).flag F.TIDE_FLT_NO_SPARE = true ∧ ∀ j, (noSpare s).fld F.TIDE_P_STAT_RUN j = s.fld F.TIDE_P_STAT_RUN j := by
  have hset : (s.setFlt F.TIDE_FLT_NO_SPARE).flag F.TIDE_FLT_NO_SPARE = true := flag_setFlt_same _ rfl (by decide)
  have hrun (j : Nat) : (s.setFlt F.TIDE_FLT_NO_SPARE).fld F.TIDE_P_STAT_RUN j = s.fld F.TIDE_P_STAT_RUN j :=
    fld_setFlt_apart _ _ (by decide) (by decide)
  have hwake := wakeStart_kept (.refl (s.setFlt F.TIDE_FLT_NO_SPARE)) (Within.refl _)
  unfold noSpare
  dsimp only
  split
  · exact ⟨(hwake.flag (by decide)).trans hset, fun j => (hwake.fld (by decide)).trans (hrun j)⟩
  · exact ⟨hset, hrun⟩

end

/-- A failed pair that has no failure of the same edge above it gets its spare at once. -/
theorem spareAssign_of_first (s : State) (n t part : Nat) (hedge : s.tide.failEdge ≠ s.time.sys) :
    spareAssign s n t part = spareGive s { pair := n, tab := t, part := part, spare := none } failoverRecord := by
  have hnone : failsAbove s n = [] := if_pos hedge
  rw [spareAssign, hnone]
  rfl

theorem fld_failoverRecord (s : State) (f : PairFail) {g : Fld} (j : Nat) (h : logBlks.contains (g.blk % 32) = false) :
    (failoverRecord s f).fld g j = s.fld g j := by
  unfold failoverRecord
  cases f.spare <;> exact fld_event_apart _ _ _ _ _ _ _ _ h

theorem failoverRecord_lane (s : State) (f : PairFail) : (failoverRecord s f).lane = s.lane := by
  unfold failoverRecord
  cases f.spare <;> exact State.event_lane _ _ _ _ _ _ _

/-- The failure of a pair that is handed to the lowest idle spare, if any. -/
def givenTo (f : PairFail) (m : Option Nat) : PairFail := { f with spare := m }

section
variable (s : State) (f : PairFail)

theorem spareGive_of_spare {m : Nat} {rest : List Nat} (hidle : idleSpares s = m :: rest) :
    spareGive s f failoverRecord = failKeep (failoverRecord (spareTake s f.tab m) (givenTo f (some m))) (givenTo f (some m)) := by
  unfold spareGive
  rw [hidle]
  rfl

theorem spareGive_of_none (hidle : idleSpares s = []) :
    spareGive s f failoverRecord = failKeep (failoverRecord (noSpare s) (givenTo f none)) (givenTo f none) := by
  unfold spareGive
  rw [hidle]
  rfl

variable {g : Fld} (j : Nat) (h : logBlks.contains (g.blk % 32) = false)
include h

theorem fld_failKept (f' : PairFail) : (failKeep (failoverRecord s f) f').fld g j = s.fld g j := fld_failoverRecord s f j h

end

theorem failKept_pair (s : State) (f f' : PairFail) (m : Nat) : (failKeep (failoverRecord s f) f').pair m = s.pair m := by
  have hlane := failoverRecord_lane s f
  change sparseGet LanePair.reset (failoverRecord s f).lane.pairs m = _
  rw [hlane]
  rfl

/-! ## A mismatch (R112, R114, R211) -/

/-- A failed pair is no spare, so the idle spares are those of before (R112). -/
theorem idleSpares_of_mismatch {s : State} {n : Nat} (k : Nat) (hrun : s.fld F.TIDE_P_STAT_RUN n = 1) :
    idleSpares (pairMismatch (mismatchDropped s n k).2 n k) = idleSpares s := by
  obtain ⟨-, -, hfld⟩ := mismatchDropped_spec s n k
  obtain ⟨hrun', -, -, hother, hrole, -, -⟩ := pairMismatch_spec (mismatchDropped s n k).2 n k
  refine idleSpares_congr (fun j => (hrole j).trans (hfld _ _ rfl (by decide))) fun j => ?_
  by_cases hj : j = n
  · subst hj
    rw [hrun', hrun]
    decide
  · rw [hother j hj, hfld _ _ rfl (by decide)]

section
variable {s : State} {n k : Nat} (hedge : s.tide.failEdge ≠ s.time.sys)
include hedge

/-- A mismatch of a pair that runs a table, the first of its edge, marks the pair FAILED and asks for a spare. -/
theorem lockstepMismatch_of_first (hn : n < 24) (htab : s.fld F.TIDE_P_STAT_TABLE n = k) (hk : k ≠ noTable) (hrun : s.fld F.TIDE_P_STAT_RUN n = 1) :
    lockstepMismatch s n = spareGive (pairMismatch (mismatchDropped s n k).2 n k)
      { pair := n, tab := k, part := (mismatchDropped s n k).1, spare := none } failoverRecord := by
  obtain ⟨htide, htime, -⟩ := mismatchDropped_spec s n k
  obtain ⟨-, -, -, -, -, hedge', htime'⟩ := pairMismatch_spec (mismatchDropped s n k).2 n k
  have hn' : ¬lanePairs ≤ n := Nat.not_le.mpr hn
  have hgate : (decide (lanePairs ≤ n) || decide (s.fld F.TIDE_P_STAT_RUN n = 2)) = false := by rw [decide_eq_false hn', hrun]; rfl
  subst htab
  rw [lockstepMismatch, if_neg (ne_true_of_eq_false hgate)]
  dsimp only
  rw [if_neg hk, mismatchOn_eq, spareAssign_of_first _ _ _ _ (by rw [hedge', htime', htide, htime]; exact hedge)]

end

/-! ## The self-test of a spare (R212) -/

/-- An idle spare that has failed its self-test. -/
def selftestFailed (s : State) (n : Nat) : State :=
  ((((pairFail s n).setFlt F.LANE_FLT_SPARE_TEST).count C.LANE_SPARE_TEST_FAILS).setFlt F.TIDE_FLT_MISMATCH).event 6 0x0602 0 n

section
variable {s : State} {n : Nat} (hidle : n ∈ idleSpares s) (htest : s.flag F.LANE_CTRL_SPARE_TEST = true)
include hidle htest

theorem selftestFail_of_tested : selftestFail s n = lastSpare (selftestFailed s n) := by
  have hgate : (!(idleSpares s).contains n || !s.flag F.LANE_CTRL_SPARE_TEST) = false := by simp [hidle, htest]
  rw [selftestFail, if_neg (ne_true_of_eq_false hgate)]
  rfl

theorem selftestFail_spec :
    (selftestFail s n).fld F.TIDE_P_STAT_RUN n = 2 ∧ (selftestFail s n).flag F.LANE_FLT_SPARE_TEST = true
      ∧ (selftestFail s n).ctr C.LANE_SPARE_TEST_FAILS = min ctrMax (s.ctr C.LANE_SPARE_TEST_FAILS + 1) ∧ (selftestFail s n).mem = s.mem := by
  have hkept := lastSpare_kept (.refl (selftestFailed s n)) (Within.refl _)
  obtain ⟨hrun, -, -, -⟩ := pairFail_fld s n
  refine ⟨?_, ?_, ?_, (selftestFail_kept (.refl s) n (Within.refl _)).mem (by decide)⟩
  · rw [selftestFail_of_tested hidle htest, hkept.fld (by decide), selftestFailed, fld_event_apart _ _ _ _ _ _ _ _ (by decide),
      fld_setFlt_apart _ _ (by decide) (by decide), fld_count_apart _ _ _ (by decide), fld_setFlt_apart _ _ (by decide) (by decide), hrun]
  · rw [selftestFail_of_tested hidle htest, hkept.flag (by decide), selftestFailed, flag_event_apart _ _ _ _ _ _ _ _ (by decide),
      flag_setFlt_apart _ _ (by decide) (by decide), flag_count_apart _ _ _ (by decide), flag_setFlt_same _ rfl (by decide)]
  · rw [selftestFail_of_tested hidle htest, hkept.ctr (by decide), selftestFailed, ctr_event_apart _ _ _ _ _ _ _ _ (by decide),
      ctr_setFlt_apart _ _ _ (by decide), ctr_count_same, ctr_setFlt_apart _ _ _ (by decide)]
    rfl

end

theorem spareAttachDone_of_attaching {s : State} {n : Nat} (hn : n < 24) (hatt : (s.pair n).attachAt.isSome = true) :
    spareAttachDone s n = s.setPair n { LanePair.reset with
      halted := (s.pair n).halted, debugger := (s.pair n).debugger, resume := (s.pair n).resume, trigs := (s.pair n).trigs } := by
  have hn' : ¬lanePairs ≤ n := Nat.not_le.mpr hn
  have hgate : (decide (lanePairs ≤ n) || (s.pair n).attachAt.isNone) = false := by
    rw [decide_eq_false hn', Bool.false_or, ← Option.not_isSome, hatt]
    rfl
  rw [spareAttachDone]
  dsimp only
  rw [if_neg (ne_true_of_eq_false hgate)]

/-- Settles O28. -/
theorem lockstepFailover : Obligations.LockstepFailover := by
  intro s n hlive hn
  refine ⟨fun k m rest hedge htab hk hrun hidle => ?_, fun k hedge htab hk hrun hidle => ?_, fun hatt => ?_, fun hidle htest => ?_⟩
  · have hidle' := (idleSpares_of_mismatch k hrun).trans hidle
    have hne : n ≠ m := by
      rintro rfl
      have hmem : n ∈ idleSpares s := by rw [hidle]; exact List.mem_cons_self
      rw [(mem_idleSpares_iff.mp hmem).2.2] at hrun
      exact absurd hrun (by decide)
    obtain ⟨-, htime, -⟩ := mismatchDropped_spec s n k
    obtain ⟨hfailed, hnone, hmark, -, -, -, htime'⟩ := pairMismatch_spec (mismatchDropped s n k).2 n k
    obtain ⟨hrun', htab', hflt, hatt⟩ := spareTake_spec (pairMismatch (mismatchDropped s n k).2 n k) k m
    obtain ⟨hrunn, htabn, hmarkn⟩ := spareTake_other (pairMismatch (mismatchDropped s n k).2 n k) (t := k) hne
    rw [htime', htime] at hatt
    rw [exec_lockstepMismatch, execLockstepMismatch, live_of_not_held hlive, lockstepMismatch_of_first hedge hn htab hk hrun,
      spareGive_of_spare _ _ hidle']
    refine ⟨_, rfl, ?_, ?_, ?_, ?_, ?_, ?_, ?_⟩
    · rw [fld_failKept _ _ _ (by decide), hrunn, hfailed]
    · rw [fld_failKept _ _ _ (by decide), htabn, hnone]
    · rw [State.flag, fld_failKept _ _ _ (by decide)]
      exact hmarkn.trans hmark
    · rw [fld_failKept _ _ _ (by decide), hrun']
    · rw [fld_failKept _ _ _ (by decide), htab']
    · rw [failKept_pair, hatt]
    · rw [State.flag, fld_failKept _ _ _ (by decide)]
      exact hflt
  · have hidle' := (idleSpares_of_mismatch k hrun).trans hidle
    obtain ⟨hfailed, -⟩ := pairMismatch_spec (mismatchDropped s n k).2 n k
    obtain ⟨hflt, hstand⟩ := noSpare_spec (pairMismatch (mismatchDropped s n k).2 n k)
    rw [exec_lockstepMismatch, execLockstepMismatch, live_of_not_held hlive, lockstepMismatch_of_first hedge hn htab hk hrun,
      spareGive_of_none _ _ hidle']
    refine ⟨_, rfl, ?_, ?_⟩
    · rw [fld_failKept _ _ _ (by decide), hstand, hfailed]
    · rw [State.flag, fld_failKept _ _ _ (by decide)]
      exact hflt
  · rw [exec_spareAttachDone, execSpareAttachDone, live_of_not_held hlive, spareAttachDone_of_attaching hn hatt]
    exact ⟨_, rfl, by rw [pair_setPair_same]; rfl, by rw [pair_setPair_same]; rfl, by rw [pair_setPair_same]; rfl, rfl⟩
  · rw [exec_spareSelftestFail, execSpareSelftestFail, live_of_not_held hlive]
    exact ⟨_, rfl, selftestFail_spec hidle htest⟩

end Sys2Proof.Machine
end

section
/-! PROOFS. Lane windows: their start, their slots and their commits (R92, R93, R106, R108, R194, R196, R203). -/

namespace Sys2Proof.Machine

/-! ## The start of a window (R92) -/

section
variable (s : State)

theorem spareBegin_kept_apart (t g : Nat) :
    (spareBegin s t).regs = s.regs ∧ (spareBegin s t).cnts = s.cnts ∧ (spareBegin s t).grp g = s.grp g := by
  unfold spareBegin
  split
  · split <;> exact ⟨rfl, rfl, rfl⟩
  · exact ⟨rfl, rfl, rfl⟩

theorem spareBegins_kept_apart (g : Nat) (l : List Nat) :
    (l.foldl spareBegin s).regs = s.regs ∧ (l.foldl spareBegin s).cnts = s.cnts ∧ (l.foldl spareBegin s).grp g = s.grp g := by
  induction l generalizing s with
  | nil => exact ⟨rfl, rfl, rfl⟩
  | cons t l ih =>
    obtain ⟨hregs, hcnts, hgrp⟩ := spareBegin_kept_apart s t g
    obtain ⟨hregs', hcnts', hgrp'⟩ := ih (spareBegin s t)
    exact ⟨hregs'.trans hregs, hcnts'.trans hcnts, hgrp'.trans hgrp⟩

/-- A pair's count of windows is none of a group's: the two lie 8 apart modulo 16. -/
theorem groupWindows_key_ne (g m : Nat) : C.TIDE_G_WINDOWS.key g ≠ C.TIDE_P_WINDOWS_RUN.key m := by
  simp only [Ctr.key, blkKey, C.TIDE_G_WINDOWS, C.TIDE_P_WINDOWS_RUN, if_true]
  omega

/-- The pairs that begin a window with their tables are counted. -/
def windowsRunCounted (l : List Nat) : State :=
  l.foldl (fun s t => if tableDead s t then s else s.count C.TIDE_P_WINDOWS_RUN ((pairOfTable s t).getD 0)) s

theorem windowsRunCounted_spec (l : List Nat) :
    (windowsRunCounted s l).tide = s.tide
      ∧ (∀ f j, C.TIDE_P_WINDOWS_RUN.apart f = true → (windowsRunCounted s l).fld f j = s.fld f j)
      ∧ ∀ j, (windowsRunCounted s l).ctr C.TIDE_G_WINDOWS j = s.ctr C.TIDE_G_WINDOWS j := by
  unfold windowsRunCounted
  induction l generalizing s with
  | nil => exact ⟨rfl, fun _ _ _ => rfl, fun _ => rfl⟩
  | cons t l ih =>
    rw [List.foldl_cons]
    by_cases hdead : tableDead s t = true
    · rw [if_pos hdead]
      exact ih s
    · rw [if_neg hdead]
      obtain ⟨htide, hfld, hctr⟩ := ih (s.count C.TIDE_P_WINDOWS_RUN ((pairOfTable s t).getD 0))
      exact ⟨htide.trans (State.count_tide _ _ _), fun f j h => (hfld f j h).trans (fld_count_apart _ _ _ h),
        fun j => (hctr j).trans (ctr_count_other _ (groupWindows_key_ne _ _))⟩

variable (g : Nat) (w : TideWin)

/-- A group whose lane window `w` has begun, as its registers show it. -/
def windowShown : State :=
  ((s.setGrp g { s.grp g with
    cur := some (laneWinOf s g w), nextWin := (s.grp g).nextWin + 1, desc := pruneDesc w.n (s.grp g).desc }).setFld F.TIDE_G_INC_VAL w.inc g).setFld
      F.TIDE_G_WIN_VAL w.n g

/-- A group whose lane window has begun on the spares that were attached in time. -/
def windowBegun : State := (groupTables (windowShown s g w) g).foldl spareBegin (windowShown s g w)

theorem windowStart_eq : windowStart s g w = (windowsRunCounted (windowBegun s g w) (groupTables (windowBegun s g w) g)).count C.TIDE_G_WINDOWS g := rfl

theorem windowBegun_spec :
    ((windowBegun s g w).grp g).cur = some (laneWinOf s g w) ∧ (windowBegun s g w).fld F.TIDE_G_WIN_VAL g = w.n % 2 ^ 32
      ∧ (windowBegun s g w).fld F.TIDE_G_INC_VAL g = w.inc % 2 ^ 32 ∧ (windowBegun s g w).ctr C.TIDE_G_WINDOWS g = s.ctr C.TIDE_G_WINDOWS g := by
  obtain ⟨hregs, hcnts, hgrp⟩ := spareBegins_kept_apart (windowShown s g w) g (groupTables (windowShown s g w) g)
  refine ⟨?_, ?_, ?_, ?_⟩
  · have hcur : ((windowShown s g w).grp g).cur = some (laneWinOf s g w) := congrArg TideGrp.cur (grp_setGrp_same s g _)
    rw [windowBegun, hgrp, hcur]
  · rw [windowBegun, fld_of_regs hregs, windowShown, fld_setFld_same]
    rfl
  · rw [windowBegun, fld_of_regs hregs, windowShown, fld_setFld_apart _ _ _ _ (by decide), fld_setFld_same]
    rfl
  · rw [windowBegun, ctr_of_cnts hcnts]
    rfl

/-- A window that starts is the one in progress, and WIN and INC show it (R92). -/
theorem windowStart_spec :
    ((windowStart s g w).grp g).cur = some (laneWinOf s g w) ∧ (windowStart s g w).fld F.TIDE_G_WIN_VAL g = w.n % 2 ^ 32
      ∧ (windowStart s g w).fld F.TIDE_G_INC_VAL g = w.inc % 2 ^ 32
      ∧ (windowStart s g w).ctr C.TIDE_G_WINDOWS g = min ctrMax (s.ctr C.TIDE_G_WINDOWS g + 1) ∧ (windowStart s g w).mem = s.mem := by
  obtain ⟨hcur, hwin, hinc, hctr⟩ := windowBegun_spec s g w
  obtain ⟨htide, hfld, hcount⟩ := windowsRunCounted_spec (windowBegun s g w) (groupTables (windowBegun s g w) g)
  refine ⟨?_, ?_, ?_, ?_, (windowStart_kept (.refl s) g w (Within.refl _)).mem (by decide)⟩
  · rw [windowStart_eq, State.grp, State.count_tide, htide]
    exact hcur
  · rw [windowStart_eq, fld_count_apart _ _ _ (by decide), hfld _ _ (by decide), hwin]
  · rw [windowStart_eq, fld_count_apart _ _ _ (by decide), hfld _ _ (by decide), hinc]
  · rw [windowStart_eq, ctr_count_same, hcount, hctr]

end

section
variable {s : State} {g : Nat}

theorem commitDue_of_none (hcur : (s.grp g).cur = none) : commitDue s g = false := by rw [commitDue, hcur]

theorem windowCommitCmd_of_not_due (hdue : commitDue s g = false) : windowCommitCmd s g = s := by
  rw [windowCommitCmd, if_neg (ne_true_of_eq_false hdue)]

theorem laneWindowStart_of_due {w : TideWin} (hdue : windowDue s g = some w) (hcur : (s.grp g).cur = none) :
    laneWindowStart s g = windowStart s g w := by
  simp only [laneWindowStart, hdue, windowCommitCmd_of_not_due (commitDue_of_none hcur), hcur]
  rfl

end

/-! ## The commit (R93, R203) -/

section
variable {s : State} {g : Nat}

/-- A drained group has no window in progress. -/
theorem groupDrained_cur (s : State) (g : Nat) : ((groupDrained s g).grp g).cur = none := by
  unfold groupDrained
  split
  · rw [grp_setGrp_same]
  · have hjoin := joinSettle_kept (.refl (stopTables (s.setGrp g TideGrp.reset) g)) (Within.refl _)
    have hstop := stopTables_kept (.refl (s.setGrp g TideGrp.reset)) g (Within.refl _)
    rw [State.grp, hjoin.same .tide (by decide), hstop.same .tide (by decide)]
    exact congrArg TideGrp.cur (grp_setGrp_same s g TideGrp.reset)

theorem windowCommit_cur (s : State) (g : Nat) : ((windowCommit s g).grp g).cur = none := by
  unfold windowCommit
  split
  · assumption
  · dsimp only
    split
    · exact groupDrained_cur _ g
    · rw [grp_setGrp_same]

/-- With no window of a lower-numbered group at its end, the group's own is the only one that is committed. -/
theorem windowCommitCmd_of_due (hdue : commitDue s g = true) (hfirst : ∀ h, h < g → commitDue s h = false) (hg : g < 8) :
    windowCommitCmd s g = windowCommit s g := by
  have hbelow : ∀ l : List Nat, (∀ h ∈ l, h < g) → l.foldl (fun s h => if commitDue s h then windowCommit s h else s) s = s := by
    intro l hl
    induction l with
    | nil => rfl
    | cons h l ih =>
      rw [List.foldl_cons, if_neg (ne_true_of_eq_false (hfirst h (hl h List.mem_cons_self)))]
      exact ih fun h' hh' => hl h' (List.mem_cons_of_mem _ hh')
  rw [windowCommitCmd, if_pos hdue, commitUpTo, Nat.min_eq_right hg, List.range_succ, List.foldl_append, hbelow _ fun h hh => List.mem_range.mp hh]
  exact if_pos hdue

end

/-! ## A slot (R108, R194, R196) -/

theorem slotMark_grp (s : State) (g p : Nat) :
    (slotMark s g p).grp g = { s.grp g with cur := (s.grp g).cur.map fun w => { w with opened := p :: w.opened } } := grp_setGrp_same _ _ _

section
variable (s : State) (g p t : Nat)

theorem slotMark_regs : (slotMark s g p).regs = s.regs := State.setGrp_regs _ _ _

theorem slotMark_lane : (slotMark s g p).lane = s.lane := rfl

theorem pairOfTable_of_regs {s u : State} (h : u.regs = s.regs) : pairOfTable u t = pairOfTable s t := by
  unfold pairOfTable
  simp only [fld_of_regs h]

theorem pairOfTable_slotMark : pairOfTable (slotMark s g p) t = pairOfTable s t := pairOfTable_of_regs t (slotMark_regs s g p)

theorem tableDead_slotMark : tableDead (slotMark s g p) t = tableDead s t := by
  unfold tableDead
  rw [pairOfTable_slotMark]
  rfl

theorem partScheduled_of_regs {s u : State} (h : u.regs = s.regs) (q : Nat) : partScheduled u q = partScheduled s q := by
  simp only [partScheduled, slotsOf, pairRole, slotEn, slotPart, grpEn, State.fbit, flag_of_regs h, fld_of_regs h]
  rfl

theorem slotHeld_slotMark (q : Nat) : slotHeld (slotMark s g p) q = slotHeld s q := by
  have hregs := slotMark_regs s g p
  simp only [slotHeld, joinHeld, flag_of_regs hregs, partScheduled_of_regs hregs]
  rfl

end

/-- A slot of a living table that is not held, its pair not halted, may run. -/
theorem slotOpen_of_free {s : State} {g w t p m : Nat} (hdead : tableDead s t = false) (hheld : slotHeld s p = false) (hpair : pairOfTable s t = some m)
    (hhalt : (s.pair m).halted = false) : slotOpen s g w t p = (true, s) := by
  simp only [slotOpen, hdead, hheld, hpair, Option.getD_some, hhalt, Bool.false_and, Bool.false_eq_true, if_false]

section
variable {s : State} {g m : Nat} {w : LaneWin} {e : LaneSlot}

theorem slotBegin_of_free (hout : (s.lpart e.part).outcome = 0) (hdead : tableDead s e.tab = false) (hheld : slotHeld s e.part = false)
    (hpair : pairOfTable s e.tab = some m) (hrun : (s.pair m).run = false) (hhalt : (s.pair m).halted = false) :
    slotBegin s g w e = slotPreamble (slotMark s g e.part) w m e := by
  have hopen : slotOpen (slotMark s g e.part) g w.n e.tab e.part = (true, slotMark s g e.part) :=
    slotOpen_of_free (m := m) (by rw [tableDead_slotMark, hdead]) (by rw [slotHeld_slotMark, hheld]) (by rw [pairOfTable_slotMark, hpair]) hhalt
  have hrun' : ¬((slotMark s g e.part).pair m).run = true := ne_true_of_eq_false hrun
  simp only [slotBegin, hopen, hpair, hout, Option.getD_some, if_neg hrun', Bool.not_true, ne_eq, not_true_eq_false, decide_false, Bool.or_self,
    Bool.false_eq_true, if_false]

theorem slotStartCmd_of_due {n j : Nat} (hfind : (List.range 8).find? (fun g => ((s.grp g).cur.bind fun w => slotIn w n j).isSome) = some g)
    (hcur : (s.grp g).cur = some w) (hin : slotIn w n j = some e) (hruns : e.runs = true) (hnew : slotOpened w e.part = false)
    (hstart : e.start ≤ laneElapsed s w) (hstop : s.devT < w.stop) (hlife : s.keys.lifecycle ≠ lcDecommissioned) :
    slotStartCmd s n j = slotBegin s g w e := by
  have hgate : (!e.runs || slotOpened w e.part || decide (laneElapsed s w < e.start) || decide (w.stop ≤ s.devT)
      || decide (s.keys.lifecycle = lcDecommissioned)) = false := by
    rw [hruns, hnew, decide_eq_false (Nat.not_lt.mpr hstart), decide_eq_false (Nat.not_le.mpr hstop), decide_eq_false hlife]
    rfl
  simp only [slotStartCmd, hfind, hcur, hin]
  exact if_neg (ne_true_of_eq_false hgate)

end

/-! ### The preamble (R194) -/

theorem laneCeCount_lane (s : State) (t n : Nat) : (laneCeCount s t n).lane = s.lane := by
  unfold laneCeCount
  split
  · rfl
  · rw [State.setFlt_lane, State.countBy_lane, State.countBy_lane]

theorem laneUeCount_lane (s : State) (t n : Nat) : (laneUeCount s t n).lane = s.lane := by
  rw [laneUeCount, State.setFlt_lane, State.countBy_lane, State.countBy_lane]

/-- A bank's copy counts the words read with an error and then writes memory: the pairs stand. -/
theorem pair_bankCopy (s : State) (t : Nat) (r : SlotRegions) (toWorking : Bool) (m : Nat) : (bankCopy s t r toWorking).pair m = s.pair m := by
  unfold bankCopy
  dsimp only
  refine (pair_laneMemWrite _ _ _ m).trans (pair_of_lane ?_ m)
  split
  · exact laneCeCount_lane _ _ _
  · rw [laneUeCount_lane, laneCeCount_lane]

theorem pair_bankZero (s : State) (t : Nat) (r : SlotRegions) (m : Nat) : (bankZero s t r).pair m = s.pair m := pair_laneMemWrite _ _ _ _

section
variable (s : State) (w : LaneWin) (m : Nat) (e : LaneSlot)

/-- The banks of a slot whose preamble has set its pair: the working one copied, or both zeroed in a first run (R196). -/
def preambleBanks : State :=
  if (s.lpart e.part).first ≠ 0 then bankZero (s.setPair m (preamblePair s w m e)) e.tab (slotRegions s e.tab e.idx)
  else bankCopy (s.setPair m (preamblePair s w m e)) e.tab (slotRegions s e.tab e.idx) true

theorem slotPreamble_eq : slotPreamble s w m e =
    (((preambleBanks s w m e).setLpart e.part { s.lpart e.part with first := 0, regs := slotRegions s e.tab e.idx }).setFld F.LANE_P_STAT_SLOT e.idx
      m).count C.TIDE_T_RUN e.part := rfl

theorem preambleBanks_spec :
    (preambleBanks s w m e).pair m = preamblePair s w m e ∧ (preambleBanks s w m e).tide = s.tide
      ∧ ∀ j, (preambleBanks s w m e).ctr C.TIDE_T_RUN j = s.ctr C.TIDE_T_RUN j := by
  unfold preambleBanks
  split
  · have hkept := bankZero_kept (.refl (s.setPair m (preamblePair s w m e))) e.tab (slotRegions s e.tab e.idx) (Within.refl _)
    exact ⟨(pair_bankZero _ _ _ m).trans (pair_setPair_same _ _ _), hkept.same .tide (by decide), fun j => hkept.ctr (by decide)⟩
  · have hkept := bankCopy_kept (.refl (s.setPair m (preamblePair s w m e))) e.tab (slotRegions s e.tab e.idx) true (Within.refl _)
    exact ⟨(pair_bankCopy _ _ _ _ m).trans (pair_setPair_same _ _ _), hkept.same .tide (by decide), fun j => hkept.ctr (by decide)⟩

/-- The preamble leaves its pair ready to run, the partition's first run used up, and the run counted (R194, R196). -/
theorem slotPreamble_spec :
    (slotPreamble s w m e).pair m = preamblePair s w m e ∧ ((slotPreamble s w m e).lpart e.part).first = 0 ∧ (slotPreamble s w m e).tide = s.tide
      ∧ (slotPreamble s w m e).ctr C.TIDE_T_RUN e.part = min ctrMax (s.ctr C.TIDE_T_RUN e.part + 1) := by
  obtain ⟨hpair, htide, hctr⟩ := preambleBanks_spec s w m e
  have hlane : (slotPreamble s w m e).lane
      = ((preambleBanks s w m e).setLpart e.part { s.lpart e.part with first := 0, regs := slotRegions s e.tab e.idx }).lane := by
    rw [slotPreamble_eq, State.count_lane, State.setFld_lane]
  refine ⟨?_, ?_, ?_, ?_⟩
  · rw [pair_of_lane hlane, pair_setLpart, hpair]
  · rw [lpart_of_lane hlane, lpart_setLpart_same]
  · rw [slotPreamble_eq, State.count_tide, State.setFld_tide, ← htide]
    rfl
  · rw [slotPreamble_eq, ctr_count_same, ← hctr]
    rfl

end

/-- Settles O26. -/
theorem laneWindowsRun : Obligations.LaneWindowsRun := by
  intro s g hlive hg
  refine ⟨fun w hdue hcur => ?start, ?slot, fun hdue hfirst => ⟨?_, windowCommit_cur s g⟩, fun hdue => ?_⟩
  case start =>
    rw [exec_laneWindowStart, execLaneWindowStart, live_of_not_held hlive, laneWindowStart_of_due hdue hcur]
    obtain ⟨hcur', hwin, hinc, hctr, hmem⟩ := windowStart_spec s g w
    exact ⟨_, _, rfl, hcur', rfl, rfl, rfl, rfl, rfl, rfl, rfl, hwin, hinc, hctr, hmem⟩
  case slot =>
    intro n j w e m hfind hcur hin hruns hnew hstart hstop hlife hout hdead hheld hpair hrun hhalt
    rw [exec_slotStart, execSlotStart, live_of_not_held hlive, slotStartCmd_of_due hfind hcur hin hruns hnew hstart hstop hlife,
      slotBegin_of_free hout hdead hheld hpair hrun hhalt]
    obtain ⟨hpair', hfirst, htide, hctr⟩ := slotPreamble_spec (slotMark s g e.part) w m e
    have hgrp : (slotPreamble (slotMark s g e.part) w m e).grp g = (slotMark s g e.part).grp g := by rw [State.grp, htide]; rfl
    refine ⟨_, rfl, ?_, ?_, ?_, ?_, ?_, ?_, ?_, ?_, ?_, ?_, hfirst, ?grp, hctr⟩
    case grp => rw [hgrp, slotMark_grp, hcur]; rfl
    all_goals
      rw [hpair']
      rfl
  · rw [exec_windowCommit, execWindowCommit, live_of_not_held hlive, windowCommitCmd_of_due hdue hfirst hg]
  · rw [exec_windowCommit, execWindowCommit, live_of_not_held hlive, windowCommitCmd_of_not_due hdue]

end Sys2Proof.Machine
end

section
/-! PROOFS. Clocks, resets and the AON domain (R45, R46, R495, R496, R502 to R506, R525, R526, R539). -/

namespace Sys2Proof.Machine

/-! ## Device reset (R504, R505) -/

section
variable (s : State)

/-- Device reset keeps the fuses and the flash; where it was not asserted, memory is lost. -/
theorem assertReset_keeps (cause : Nat) :
    (assertReset s cause).keys.fuses = s.keys.fuses ∧ (assertReset s cause).boot.flash = s.boot.flash
      ∧ (s.clk.held = false → (assertReset s cause).mem = []) := by
  unfold assertReset
  dsimp only
  by_cases hheld : s.clk.held = true
  · rw [if_pos hheld]
    exact ⟨rfl, rfl, fun h => absurd (h.symm.trans hheld) (by decide)⟩
  · rw [if_neg hheld]
    exact ⟨rfl, rfl, fun _ => rfl⟩

/-- The clocks of a machine in device reset: no PLL counts as lost, and TBC is not stopped. -/
def heldClk (c : ClkSt) : ClkSt := { c with held := true, lost := [], tbcStop := false, snapMask := none }

theorem assertReset_clk (cause : Nat) :
    (assertReset s cause).clk = { heldClk s.clk with releaseAt := if causePersists s then none else some (s.clk.ns + releaseDelay) } := by
  unfold assertReset
  dsimp only
  by_cases hheld : s.clk.held = true
  · rw [if_pos hheld]
    rfl
  · rw [if_neg hheld]
    rfl

theorem assertReset_releaseAt (cause : Nat) :
    (assertReset s cause).clk.releaseAt = if causePersists s then none else some (s.clk.ns + releaseDelay) := by rw [assertReset_clk]

theorem causeEnds_of_held {s : State} (hheld : s.clk.held = true) : causeEnds s = armRelease s := if_pos hheld

end

/-! ## The causes -/

section
variable {s : State} {lv : Bool} {ns : Nat}

theorem resetPin_of_long (hhigh : s.clk.pinLow = false) (hlong : 1000 ≤ ns) (hpower : s.clk.lowPower = false) :
    resetPin s lv ns = assertReset { s with clk := { s.clk with pinLow := !lv } } causePin := by
  simp only [resetPin, hhigh, hpower, hlong, Bool.false_and, Bool.false_eq_true, if_false, if_true]

theorem resetPin_of_short (hhigh : s.clk.pinLow = false) (hshort : ns < 100) : resetPin s lv ns = s := by
  have hlong : ¬1000 ≤ ns := by omega
  simp only [resetPin, hhigh, hlong, hshort, Bool.false_eq_true, if_false, decide_true, Bool.true_or, if_true]

/-- Of a low between 100 ns and 1 µs a free value says whether it takes (log 11). -/
theorem resetPin_of_between {v : Nat} {a : State} (hhigh : s.clk.pinLow = false) (hmin : 100 ≤ ns) (hmax : ns < 1000) (hfree : s.takeFree = (v, a))
    (hv : v % 2 = 0) : resetPin s true ns = a := by
  have hlong : ¬1000 ≤ ns := Nat.not_le.mpr hmax
  have hshort : ¬ns < 100 := Nat.not_lt.mpr hmin
  have hodd : ¬v % 2 = 1 := by omega
  simp only [resetPin, hhigh, hlong, hshort, hfree, hodd, Bool.false_eq_true, if_false, decide_false, Bool.not_true, Bool.or_self]

theorem resetPin_high_of_low (hlow : s.clk.pinLow = true) (hheld : s.clk.held = true) :
    resetPin s true ns = armRelease { s with clk := { s.clk with pinLow := false } } := by
  simp only [resetPin, hlow, if_true]
  exact causeEnds_of_held hheld

theorem resetPin_low_of_low (hlow : s.clk.pinLow = true) : resetPin s false ns = s := by
  simp only [resetPin, hlow, Bool.false_eq_true, if_true, if_false]

theorem powerOnReset_low (hpower : s.clk.lowPower = false) :
    powerOnReset s true = assertReset { s with clk := { s.clk with por := true } } causePor := by
  simp only [powerOnReset, hpower, Bool.false_and, Bool.false_eq_true, if_true, if_false]

theorem powerOnReset_high (hpor : s.clk.por = true) (hheld : s.clk.held = true) :
    powerOnReset s false = armRelease { s with clk := { s.clk with por := false } } := by
  simp only [powerOnReset, hpor, Bool.false_eq_true, if_true, if_false]
  exact causeEnds_of_held hheld

theorem refReturn_of_lost (hlost : s.clk.refLost = true) (hheld : s.clk.held = true) :
    refReturn s = armRelease { s with clk := { s.clk with refLost := false } } := by
  rw [refReturn, if_pos hlost]
  exact causeEnds_of_held hheld

end

/-! ## Release (R45, R438, R505) -/

section
variable (s : State) (b o : Bool)

theorem takeOctets_keys (n : Nat) : (s.takeOctets n).2.keys = s.keys := (State_takeOctets_kept (.refl s) n (Within.refl _)).same .keys (by decide)

/-! The four steps of KEYS at the release (R438, R440, R470, R473), none but the first of which touches the keys. -/

def lifecycleRead : State := { s with keys := { s.keys with lifecycle := s.keys.fuses.lifecycle } }

def lossShown : State := if s.aon.saltOk && s.aon.confOk then s else s.setFlag F.KEYS_STAT_VBAT_LOST true

def saltRead : State :=
  if s.aon.saltOk then s else { (s.takeOctets 32).2 with aon := { (s.takeOctets 32).2.aon with salt := (s.takeOctets 32).1, saltOk := true } }

def saltErased : State := if s.keys.lifecycle = lcDecommissioned then { s with aon := { s.aon with salt := [] } } else s

theorem keysRelease_eq : keysRelease s = (saltErased (saltRead (lossShown (lifecycleRead s)))).setFld F.KEYS_COUNTER_VAL
    (if (saltErased (saltRead (lossShown (lifecycleRead s)))).aon.confOk
      then (saltErased (saltRead (lossShown (lifecycleRead s)))).aonFld F.KEYS_COUNTER_CONF_VAL
      else floorMax (saltErased (saltRead (lossShown (lifecycleRead s))))) := rfl

theorem lossShown_keys : (lossShown s).keys = s.keys := by
  unfold lossShown
  split <;> rfl

theorem saltRead_keys : (saltRead s).keys = s.keys := by
  unfold saltRead
  split
  · rfl
  · exact takeOctets_keys s 32

theorem saltErased_keys : (saltErased s).keys = s.keys := by
  unfold saltErased
  split <;> rfl

theorem keysRelease_lifecycle : (keysRelease s).keys.lifecycle = s.keys.fuses.lifecycle := by
  rw [keysRelease_eq, State.setFld_keys, saltErased_keys, saltRead_keys, lossShown_keys]
  rfl

/-- Out of device reset: the straps are sampled and SEC is loaded from the AON seconds counter, or starts at 0 (R45, R288). -/
def released : State :=
  { s with clk := { s.clk with held := false, releaseAt := none, released := s.clk.ns }
           twin := { s.twin with sideB := b, solo := o }
           time := { s.time with sec := if s.aonFlag F.AON_STAT_VALID then s.aon.sec else 0 } }

theorem resetRelease_of_due {t : Nat} (hat : s.clk.releaseAt = some t) (hheld : s.clk.held = true) (hdue : t ≤ s.clk.ns) :
    resetRelease s b o = keysRelease (if (released s b o).aonFlag F.AON_STAT_VALID then released s b o
      else (released s b o).setFlt F.AON_FLT_VBAT_LOST) := by
  have hgate : (!s.clk.held || decide (s.clk.ns < t)) = false := by rw [hheld, decide_eq_false (Nat.not_lt.mpr hdue)]; rfl
  simp only [resetRelease, hat]
  exact if_neg (ne_true_of_eq_false hgate)

theorem resetRelease_of_early {t : Nat} (hat : s.clk.releaseAt = some t) (hearly : s.clk.ns < t) : resetRelease s b o = s := by
  have hgate : (!s.clk.held || decide (s.clk.ns < t)) = true := by rw [decide_eq_true hearly, Bool.or_true]
  simp only [resetRelease, hat]
  exact if_pos hgate

theorem setFlt_unless_keeps (u : State) (c : Bool) (f : Fld) :
    (if c then u else u.setFlt f).clk = u.clk ∧ (if c then u else u.setFlt f).twin = u.twin ∧ (if c then u else u.setFlt f).time = u.time
      ∧ (if c then u else u.setFlt f).keys = u.keys := by
  cases c
  · exact ⟨State.setFlt_clk _ _, State.setFlt_twin _ _, State.setFlt_time _ _, State.setFlt_keys _ _⟩
  · exact ⟨rfl, rfl, rfl, rfl⟩

/-- What the release of device reset leaves (R45, R288, R438). -/
theorem resetRelease_spec {t : Nat} (hat : s.clk.releaseAt = some t) (hheld : s.clk.held = true) (hdue : t ≤ s.clk.ns) :
    (resetRelease s b o).clk = (released s b o).clk ∧ (resetRelease s b o).twin = (released s b o).twin
      ∧ (resetRelease s b o).time = (released s b o).time ∧ (resetRelease s b o).keys.lifecycle = s.keys.fuses.lifecycle := by
  obtain ⟨hclk, htwin, htime, hkeys⟩ := setFlt_unless_keeps (released s b o) ((released s b o).aonFlag F.AON_STAT_VALID) F.AON_FLT_VBAT_LOST
  rw [resetRelease_of_due s b o hat hheld hdue, keysRelease_lifecycle, hkeys]
  have hkept := keysRelease_kept (.refl (if (released s b o).aonFlag F.AON_STAT_VALID then released s b o
    else (released s b o).setFlt F.AON_FLT_VBAT_LOST)) (Within.refl _)
  exact ⟨(hkept.same .clk (by decide)).trans hclk, (hkept.same .twin (by decide)).trans htwin, (hkept.time (by decide)).trans htime, rfl⟩

end

/-! ## The AON domain (R495, R496, R525, R526) -/

/-- The AON domain at the edge at which a queued write leaves the queue. -/
def aonTaken (s : State) (l : List (Nat × Nat)) : State :=
  (({ s with aon := { s.aon with queue := l } } : State).setFlag F.AON_WPEND_WPEND (!l.isEmpty)).setSh F.AON_STAT_OSC_OK 1

section
variable (s : State) {v : Nat}

theorem aonApply_scratch {k : Nat} (hk : k < 4) (v : Nat) :
    aonApply s (0x40100050 + 4 * k) v = s.setSh (F.AON_SCRATCH_VALUE.el k) v := by
  have hin : (decide (0x40100050 ≤ 0x40100050 + 4 * k) && decide (0x40100050 + 4 * k < 0x40100060)) = true := by
    rw [decide_eq_true (by omega), decide_eq_true (by omega)]
    rfl
  have hplace : (0x40100050 + 4 * k - 0x40100050) / 4 = k := by omega
  rw [aonApply, if_neg (by omega), if_neg (by omega), if_pos hin, hplace]

theorem aonApply_cause (v : Nat) :
    aonApply s 0x40100018 v = s.setSh F.AON_RST_CAUSE_CAUSE (s.aonFld F.AON_RST_CAUSE_CAUSE - (s.aonFld F.AON_RST_CAUSE_CAUSE &&& v)) := by
  rw [aonApply, if_pos rfl]

theorem aonApply_power_of_other_key (hkey : v / 65536 ≠ 0x4C50) : aonApply s 0x40100020 v = s := by
  have hgate : ¬(decide (v / 65536 = 0x4C50) && decide (v % 2 = 1)) = true := by simp [hkey]
  rw [aonApply, if_neg (by decide), if_pos rfl, if_neg hgate]

theorem aonApply_power_of_key (hkey : v / 65536 = 0x4C50) (henter : v % 2 = 1) : aonApply s 0x40100020 v = lowPowerEnter s := by
  have hgate : (decide (v / 65536 = 0x4C50) && decide (v % 2 = 1)) = true := by rw [decide_eq_true hkey, decide_eq_true henter]; rfl
  rw [aonApply, if_neg (by decide), if_pos rfl, if_pos hgate]

end

/-- The oldest queued write acts on the AON domain that it leaves (R496). -/
theorem aonWriteApply_of_cons {s : State} {a v : Nat} {l : List (Nat × Nat)} (hqueue : s.aon.queue = (a, v) :: l) :
    aonWriteApply s = aonApply (aonTaken s l) a v := by
  simp only [aonWriteApply, hqueue]
  rfl

section
variable {s : State} {v : Nat} {l : List (Nat × Nat)} (hqueue : s.aon.queue = (0x40100020, v) :: l)
include hqueue

theorem lowPowerDue_of_other_key (hkey : v / 65536 ≠ 0x4C50) : lowPowerDue s = s := by
  have hgate : ¬(decide (v / 65536 = 0x4C50) && decide (v % 2 = 1)) = true := by simp [hkey]
  simp only [lowPowerDue, hqueue]
  exact if_neg hgate

theorem lowPowerDue_of_key (hkey : v / 65536 = 0x4C50) (henter : v % 2 = 1) : lowPowerDue s = lowPowerEnter (aonTaken s l) := by
  have hgate : (decide (v / 65536 = 0x4C50) && decide (v % 2 = 1)) = true := by rw [decide_eq_true hkey, decide_eq_true henter]; rfl
  rw [← aonApply_power_of_key _ hkey henter, ← aonWriteApply_of_cons hqueue]
  simp only [lowPowerDue, hqueue]
  exact if_pos hgate

end

theorem lowPowerEnter_spec (s : State) :
    (lowPowerEnter s).clk.lowPower = true ∧ (lowPowerEnter s).clk.held = true ∧ (lowPowerEnter s).mem = [] ∧ (lowPowerEnter s).aonRegs = s.aonRegs
      ∧ (lowPowerEnter s).port.wakeRate
        = if s.flag F.PORT_WAKE_CFG_WAKE_EN then (if s.fld F.PORT_WAKE_CFG_RATE = 3 then 1 else s.fld F.PORT_WAKE_CFG_RATE) + 1 else 0 :=
  ⟨rfl, rfl, rfl, rfl, rfl⟩

section
variable {s : State}

/-- What ends the low-power mode names the cause of the reset that follows (R526). -/
theorem lowPowerWake_of_wake {k : Nat} (hpower : s.clk.lowPower = true) (hk : s.clk.wakeBy = k) (hne : k ≠ 0) :
    lowPowerWake s = assertReset { s with clk := { s.clk with lowPower := false, wakeBy := 0 } }
      (if k = 1 then causeWake else if k = 2 then causePin else causePor) := by
  have hgate : (!s.clk.lowPower || decide (s.clk.wakeBy = 0)) = false := by rw [hpower, hk, decide_eq_false hne]; rfl
  subst hk
  exact if_neg (ne_true_of_eq_false hgate)

theorem lowPowerWake_of_none (h : s.clk.lowPower = false ∨ s.clk.wakeBy = 0) : lowPowerWake s = s := by
  have hgate : (!s.clk.lowPower || decide (s.clk.wakeBy = 0)) = true := by rcases h with h | h <;> simp [h]
  exact if_pos hgate

end

/-- A loss of VBAT resets the AON domain and leaves the keys and memory (R504). -/
theorem vbatLoss_keeps (s : State) : (vbatLoss s).keys = s.keys ∧ (vbatLoss s).mem = s.mem := by
  have hkept := vbatLoss_kept (.refl s) (Within.refl _)
  exact ⟨hkept.same .keys (by decide), hkept.mem (by decide)⟩

theorem vbatLoss_aon (s : State) :
    (vbatLoss s).aonRegs = [] ∧ (vbatLoss s).aon = { sec := 0, frac := 0, queue := [], salt := [], saltOk := false, confOk := false } := ⟨rfl, rfl⟩

/-! ## PLLs (R502, R503) -/

/-- A PLL whose loss of lock is shown and recorded. -/
def lockLost (s : State) (p u : Nat) : State :=
  ((({ s with clk := { s.clk with lost := (p, u) :: s.clk.lost } } : State).setFbit F.CLK_STAT_LOCKED p false).setFltBit F.CLK_FLT_LOST p).event 1
    0x0101 0 p

section
variable {s : State} {p u : Nat}

theorem pllLockLost_of_new (hp : p < 8) (hnew : s.clk.lost.contains (p, u) = false) :
    pllLockLost s p u =
      if p = pllCpu then lockLost s p u
      else if p = pllTbc then
        { lockLost s p u with
          clk := { (lockLost s p u).clk with tbcStop := true, stopNs := (lockLost s p u).clk.ns }, gate := { (lockLost s p u).gate with stopped := true } }
      else if p = pllPort || p = pllTwin then serdesDown (lockLost s p u) p u
      else assertReset (lockLost s p u) causeClkFail := by
  have hgate : (decide (8 ≤ p) || s.clk.lost.contains (p, u)) = false := by rw [decide_eq_false (Nat.not_le.mpr hp), hnew]; rfl
  exact if_neg (ne_true_of_eq_false hgate)

theorem lockLost_ns (s : State) (p u : Nat) : (lockLost s p u).clk.ns = s.clk.ns := by
  rw [lockLost, State.event_clk, State.setFltBit_clk]
  rfl

/-- A PLL that has relocked, no other being lost. -/
def relocked (s : State) (p : Nat) : State := ({ s with clk := { s.clk with lost := [] } } : State).setFbit F.CLK_STAT_LOCKED p true

/-- The relock of the one PLL that had lost lock, of TBC only with the counts of its stop. -/
theorem pllRelock_of_only {refs before : Nat} (hp : p < 6) (hlost : s.clk.lost = [(p, u)])
    (hcounts : p = pllTbc → (refs, before) = tbcStopped s.clk) :
    pllRelock s p u refs before =
      if p = pllCpu then (relocked s p).count C.CLK_RELOCKS_CPU
      else if p = pllTbc then
        stepTime (({ relocked s p with clk := { (relocked s p).clk with tbcStop := false } } : State).count C.CLK_RELOCKS_TBC)
          ((refs * 40 : Nat) - (before : Nat) : Int)
      else if p = pllPort || p = pllTwin then (relocked s p).count C.CLK_RELOCKS_SERDES
      else relocked s p := by
  have hwas : s.clk.lost.contains (p, u) = true := by simp [hlost]
  have hgate : (decide (8 ≤ p) || s.clk.lost.contains (p, u) && decide (p = pllTbc) && decide ((refs, before) ≠ tbcStopped s.clk)) = false := by
    rw [decide_eq_false (by omega), Bool.false_or, Bool.and_assoc, hwas, Bool.true_and]
    by_cases htbc : p = pllTbc
    · simp [hcounts htbc]
    · simp [htbc]
  have hfilter : s.clk.lost.filter (· ≠ (p, u)) = [] := by simp [hlost]
  have hgroup : pllGroupLocked { s with clk := { s.clk with lost := [] } } p = true := by simp [pllGroupLocked, pllPort, hp]
  unfold pllRelock
  dsimp only
  rw [if_neg (ne_true_of_eq_false hgate), hfilter, if_pos hgroup, hwas]
  rfl

theorem pllRelock_of_other_counts {refs before : Nat} (hlost : s.clk.lost = [(pllTbc, u)]) (hcounts : (refs, before) ≠ tbcStopped s.clk) :
    pllRelock s pllTbc u refs before = s := by
  have hgate : (decide (8 ≤ pllTbc) || s.clk.lost.contains (pllTbc, u) && decide (pllTbc = pllTbc) && decide ((refs, before) ≠ tbcStopped s.clk))
      = true := by
    simp [hlost, hcounts]
  exact if_pos hgate

end

/-! ## READ_SEC (R46) -/

theorem readSec_of_free {s : State} (hfree : s.flag (mbxBusy 16) = false) :
    readSec s = s.mbxStart 16 { cmd := 1, ok := true, d0 := s.aon.sec / 2 ^ 32 % 65536, d1 := s.aon.sec % 2 ^ 32, d2 := 0, d3 := 0 } :=
  if_neg (ne_true_of_eq_false hfree)

theorem readSec_of_busy {s : State} (hbusy : s.flag (mbxBusy 16) = true) : readSec s = s.mbxRefuseBusy 16 := if_pos hbusy

/-- Settles O56. -/
theorem clocksAndResets : Obligations.ClocksAndResets := by
  intro s
  refine ⟨fun c hc => ?cause, fun lv ns hhigh => ?pin, fun ns hlow hheld => ?pinEnd, fun hpower => ?por, fun hpor hheld => ?porEnd, ?refLost,
    fun hlost hheld => ?refReturn, fun t hat hheld => ?release, ?vbat, ?tap, fun a v l b hqueue hb => ?aon, fun hempty => ?aonEmpty,
    fun a hpower ha => ?wake, fun hnone => ?noWake, fun hlive => ⟨?software, ?lost, ?relock, fun hfree => ?read, fun hbusy => ?readBusy⟩⟩
  case cause =>
    obtain ⟨hheld, hbit⟩ := assertReset_sets_cause s hc
    obtain ⟨hfuses, hflash, hmem⟩ := assertReset_keeps s c
    refine ⟨hheld, hbit, hfuses, hflash, hmem, fun hpersists => ?_, fun hended => ?_⟩
    · rw [assertReset_releaseAt, if_pos hpersists]
    · rw [assertReset_releaseAt, if_neg (ne_true_of_eq_false hended)]
      rfl
  case pin =>
    simp only [exec_resetPin, execResetPin]
    refine ⟨fun hlong hpower => ?_, fun hshort => ?_, fun v a hmin hmax hfree hv => ?_⟩
    · rw [resetPin_of_long hhigh hlong hpower]
    · rw [resetPin_of_short hhigh hshort]
    · rw [resetPin_of_between hhigh hmin hmax hfree hv]
  case pinEnd =>
    rw [exec_resetPin, execResetPin, exec_resetPin, execResetPin, resetPin_high_of_low hlow hheld, resetPin_low_of_low hlow]
    exact ⟨rfl, rfl⟩
  case por => rw [exec_powerOnReset, execPowerOnReset, powerOnReset_low hpower]
  case porEnd => rw [exec_powerOnReset, execPowerOnReset, powerOnReset_high hpor hheld]
  case refLost => rfl
  case refReturn => rw [exec_refReturn, execRefReturn, refReturn_of_lost hlost hheld]
  case release =>
    simp only [exec_resetRelease, execResetRelease]
    refine ⟨fun b o hdue => ?_, fun b o hearly => ?_⟩
    · obtain ⟨hclk, htwin, htime, hlife⟩ := resetRelease_spec s b o hat hheld hdue
      refine ⟨_, rfl, by rw [hclk]; rfl, by rw [hclk]; rfl, by rw [htwin]; rfl, by rw [htwin]; rfl, hlife, fun hvalid => ?_, fun hinvalid => ?_⟩
      · rw [htime]
        exact if_pos hvalid
      · rw [htime]
        exact if_neg (ne_true_of_eq_false hinvalid)
    · rw [resetRelease_of_early s b o hat hearly]
  case vbat =>
    obtain ⟨hregs, haon⟩ := vbatLoss_aon s
    obtain ⟨hkeys, hmem⟩ := vbatLoss_keeps s
    exact ⟨_, rfl, hregs, by rw [haon], by rw [haon], by rw [haon], by rw [haon], hkeys, hmem⟩
  case tap => rfl
  case aon =>
    have hb' : b = aonTaken s l := hb
    rw [hb', exec_aonWriteApply, execAonWriteApply, exec_lowPowerEnter, execLowPowerEnter, aonWriteApply_of_cons hqueue]
    refine ⟨fun k hk ha => ?_, fun ha => ?_, fun ha hkey => ?_, fun ha hkey henter => ?_⟩ <;> subst ha
    · rw [aonApply_scratch _ hk]
    · rw [aonApply_cause]
    · rw [aonApply_power_of_other_key _ hkey, lowPowerDue_of_other_key hqueue hkey]
      exact ⟨rfl, rfl⟩
    · rw [lowPowerDue_of_key hqueue hkey henter]
      exact ⟨_, rfl, lowPowerEnter_spec _⟩
  case aonEmpty => simp only [exec_aonWriteApply, execAonWriteApply, aonWriteApply, hempty]
  case wake =>
    rw [ha, exec_lowPowerWake, execLowPowerWake]
    refine ⟨fun hk => ?_, fun hk => ?_, fun hk => ?_⟩ <;> rw [lowPowerWake_of_wake hpower hk (by decide)] <;> rfl
  case noWake => rw [exec_lowPowerWake, execLowPowerWake, lowPowerWake_of_none hnone]
  case software =>
    intro v
    rw [exec_softwareReset, execSoftwareReset, live_of_not_held hlive]
    exact ⟨fun hkey => by rw [softwareReset, if_pos hkey], fun hkey => by rw [softwareReset, if_neg hkey]⟩
  case lost =>
    intro p u a hp hnew ha
    have ha' : a = lockLost s p u := ha
    rw [exec_pllLockLost, execPllLockLost, live_of_not_held hlive, pllLockLost_of_new hp hnew, ← ha']
    refine ⟨fun hcpu => ?_, fun htbc => ?_, fun htwin => ?_, fun hmin hmax => ?_⟩
    · rw [if_pos (show p = pllCpu from hcpu)]
    · have hns : a.clk.ns = s.clk.ns := by rw [ha', lockLost_ns]
      rw [if_neg (by rw [htbc]; decide), if_pos (show p = pllTbc from htbc), hns]
    · subst htwin
      rw [if_neg (by decide), if_neg (by decide), if_pos (by decide)]
      rfl
    · have hbelow {k : Nat} (hk : 4 < k) : p ≠ k := Nat.ne_of_lt (Nat.lt_of_le_of_lt hmax hk)
      have hport : p ≠ pllPort := hbelow (by decide)
      have htwin : p ≠ pllTwin := hbelow (by decide)
      have hserdes : ¬(decide (p = pllPort) || decide (p = pllTwin)) = true := by simp [hport, htwin]
      rw [if_neg (show p ≠ pllCpu from Nat.ne_of_gt hmin), if_neg (show p ≠ pllTbc from hbelow (by decide)), if_neg hserdes]
  case relock =>
    intro p u refs before a hp hlost ha
    have ha' : a = relocked s p := ha
    rw [exec_pllRelock, execPllRelock, live_of_not_held hlive]
    refine ⟨fun hcpu => ?_, fun htbc hrefs hbefore => ?_, fun htbc hother => ?_⟩
    · subst hcpu
      rw [pllRelock_of_only (by decide) hlost (fun h => absurd h (by decide)), ha']
      rfl
    · subst htbc hrefs hbefore
      rw [pllRelock_of_only (by decide) hlost (fun _ => rfl), ha']
      rfl
    · subst htbc
      have hcounts : (refs, before) ≠ tbcStopped s.clk := by
        rw [tbcStopped, ne_eq, Prod.mk.injEq, Decidable.not_and_iff_not_or_not]
        exact hother
      exact congrArg _ (pllRelock_of_other_counts hlost hcounts)
  case read => rw [exec_readSec, execReadSec, live_of_not_held hlive, readSec_of_free hfree]
  case readBusy => rw [exec_readSec, execReadSec, live_of_not_held hlive, readSec_of_busy hbusy]

end Sys2Proof.Machine
end
